-- ==== Sys2Proof/Word.lean ====
section
/-! DEFINITION. The word types of the device and the plainest arithmetic on them: bytes, fields of a
register image, saturating counts.  Nothing here depends on a rule that a later reading could change. -/

namespace Sys2Proof

/-- One byte. -/
abbrev Byte := BitVec 8
/-- A 20-bit node address (R5: group [19:8], row [7:4], column [3:0]). -/
abbrev Node := BitVec 20
/-- A 10-bit station number (R27). -/
abbrev Station := BitVec 10
/-- The image of a dictionary value, register or object, zero-extended to the widest one
(a ROLE_KEY of 100 bytes).  A field is read with `fld`. -/
abbrev Image := BitVec 1024
/-- A 64-bit quantity: a counter, an address, a time in nanoseconds. -/
abbrev U64 := BitVec 64

/-- Bits `hi` down to `lo` of a word, as a number. -/
def fldN {w : Nat} (v : BitVec w) (hi lo : Nat) : Nat := (v.toNat >>> lo) % 2 ^ (hi + 1 - lo)

/-- Bits `hi` down to `lo` of a word. -/
def fld {w : Nat} (v : BitVec w) (hi lo : Nat) : BitVec (hi + 1 - lo) := v.extractLsb' lo (hi + 1 - lo)

/-- One bit of a word. -/
def bit {w : Nat} (v : BitVec w) (i : Nat) : Bool := v.getLsbD i

/-- The word with bits `hi` down to `lo` replaced by the low bits of `x`. -/
def setFld {w : Nat} (v : BitVec w) (hi lo x : Nat) : BitVec w :=
  let m : BitVec w := BitVec.ofNat w ((2 ^ (hi + 1 - lo) - 1) <<< lo)
  (v &&& ~~~ m) ||| (BitVec.ofNat w ((x % 2 ^ (hi + 1 - lo)) <<< lo))

/-- A field's number placed at bit `lo`: images of read-only registers are sums of these. -/
def at' (lo x : Nat) : Nat := x <<< lo

/-- A Bool as a number. -/
def b2n (b : Bool) : Nat := if b then 1 else 0

/-- `⌈a / b⌉`. -/
def ceilDiv (a b : Nat) : Nat := (a + b - 1) / b

/-- Addition that stops at `top`. -/
def satAdd (a b top : Nat) : Nat := min (a + b) top

/-- The `n` bytes of a word, byte 0 first (R6: little-endian). -/
def bytesOf {w : Nat} (v : BitVec w) : Nat → List Byte
  | n => (List.range n).map (fun i => BitVec.ofNat 8 (v.toNat >>> (8 * i)))

/-- The number that bytes spell, byte 0 least significant (R6). -/
def natOfBytes : List Byte → Nat
  | [] => 0
  | b :: bs => b.toNat + 256 * natOfBytes bs

/-- The `i`-th element, or a default. -/
def nthD {α : Type} (d : α) : List α → Nat → α
  | [], _ => d
  | x :: _, 0 => x
  | _ :: xs, n + 1 => nthD d xs n

/-- A list with its `i`-th element replaced (unchanged where there is none). -/
def setNth {α : Type} : List α → Nat → α → List α
  | [], _, _ => []
  | _ :: xs, 0, y => y :: xs
  | x :: xs, n + 1, y => x :: setNth xs n y

/-- Signed distance of two 12-bit sequence numbers: how far `a` lies ahead of `b`, modulo 2^12. -/
def seqAhead (w : Nat) (a b : BitVec w) : Nat := (a - b).toNat

end Sys2Proof
end

