-- ==== Sys2Proof/Packet.lean ====
section
/-! DEFINITION. The packet of the fabric: its 32-byte header field by field (R32, Table FAB-8), the
header's image and check (R39), and the payload. -/

namespace Sys2Proof

/-- The packet header (Table FAB-8). -/
structure Header where
  dstNode    : Node := 0
  dstStation : Station := 0
  srcNode    : Node := 0
  srcStation : Station := 0
  pkey       : BitVec 16 := 0
  cls        : BitVec 3 := 0
  routeMode  : BitVec 2 := 0
  viaGroup   : BitVec 12 := 0
  cmd        : BitVec 8 := 0
  length     : BitVec 13 := 0
  msgId      : BitVec 24 := 0
  offset     : BitVec 32 := 0
  ctx        : BitVec 16 := 0
  ext        : BitVec 32 := 0
  reserved   : BitVec 12 := 0
  colour     : BitVec 2 := 0
  phase      : BitVec 2 := 0
  hops       : BitVec 4 := 0
  cong       : BitVec 2 := 0
  hchk       : BitVec 16 := 0
  deriving DecidableEq, Repr

/-- A packet: header and payload bytes. -/
structure Packet where
  hdr     : Header := {}
  payload : List Byte := []
  deriving DecidableEq, Repr

/-- The header's 256 bits, bit 0 the lowest of byte 0 (R32, Table FAB-8). -/
def Header.toBits (h : Header) : BitVec 256 :=
  (h.hchk ++ h.cong ++ h.hops ++ h.phase ++ h.colour ++ h.reserved ++ h.ext ++ h.ctx ++ h.offset
    ++ h.msgId ++ h.length ++ h.cmd ++ h.viaGroup ++ h.routeMode ++ h.cls ++ h.pkey
    ++ h.srcStation ++ h.srcNode ++ h.dstStation ++ h.dstNode)

/-- The header that 256 bits spell (R32, Table FAB-8). -/
def Header.ofBits (b : BitVec 256) : Header :=
  { dstNode := b.extractLsb' 0 20, dstStation := b.extractLsb' 20 10
    srcNode := b.extractLsb' 30 20, srcStation := b.extractLsb' 50 10
    pkey := b.extractLsb' 60 16, cls := b.extractLsb' 76 3
    routeMode := b.extractLsb' 79 2, viaGroup := b.extractLsb' 81 12
    cmd := b.extractLsb' 93 8, length := b.extractLsb' 101 13
    msgId := b.extractLsb' 114 24, offset := b.extractLsb' 138 32
    ctx := b.extractLsb' 170 16, ext := b.extractLsb' 186 32
    reserved := b.extractLsb' 218 12, colour := b.extractLsb' 230 2
    phase := b.extractLsb' 232 2, hops := b.extractLsb' 234 4
    cong := b.extractLsb' 238 2, hchk := b.extractLsb' 240 16 }

/-- One bit through a CRC-16 of polynomial 0x8BB7 (R39). -/
def crc16Bit (crc : BitVec 16) (b : Bool) : BitVec 16 :=
  if (crc.msb != b) then (crc <<< 1) ^^^ 0x8BB7#16 else crc <<< 1

/-- One byte through the CRC-16, most significant bit first (R39). -/
def crc16Byte (crc : BitVec 16) (b : Byte) : BitVec 16 :=
  [7, 6, 5, 4, 3, 2, 1, 0].foldl (fun c i => crc16Bit c (b.getLsbD i)) crc

/-- HCHK of a header: the CRC-16 over its 32 bytes with bits [255:230] taken as zero (R39). -/
def Header.check (h : Header) : BitVec 16 :=
  let covered : BitVec 256 := h.toBits &&& BitVec.ofNat 256 (2 ^ 230 - 1)
  (bytesOf covered 32).foldl crc16Byte 0xFFFF#16

/-- The header with its check written by the source (R33, R39). -/
def Header.sealed (h : Header) : Header := { h with hchk := h.check }

/-- Cells of a packet with `len` payload bytes (R38). -/
def cellsOf (len : Nat) : Nat := if len ≤ 96 then 1 else 1 + ceilDiv (len - 96) 128

/-- The group, row and column of a node address (R5). -/
def Node.group (n : Node) : Nat := n.toNat / 256
/-- The row of a node address (R5). -/
def Node.row (n : Node) : Nat := n.toNat / 16 % 16
/-- The column of a node address (R5). -/
def Node.col (n : Node) : Nat := n.toNat % 16
/-- The node address of a group, row and column (R5). -/
def Node.mk' (g r c : Nat) : Node := BitVec.ofNat 20 (g * 256 + r * 16 + c)
/-- The twin of a node: the column differs in bit 0 only (R21). -/
def Node.twin (n : Node) : Node := n ^^^ 1#20

end Sys2Proof
end

