-- ==== Sys2Proof/Cell.lean ====
section
/-! DEFINITION. The link cell (R103, R104): header fields, body and link CRC, and the bodies of control,
calm and bypass cells. -/

namespace Sys2Proof

/-- CELL_TYPE (R104, Table LNK-2). -/
inductive CellType where
  | first | middle | last | only | bypass | idle | calm | control
  deriving DecidableEq, Repr

/-- CELL_TYPE's code (Table LNK-2). -/
def CellType.code : CellType → Nat
  | .first => 0 | .middle => 1 | .last => 2 | .only => 3
  | .bypass => 4 | .idle => 5 | .calm => 6 | .control => 7

/-- A link cell: the header of Table LNK-1, the 128-byte body and the CRC-32 it carries. -/
structure LinkCell where
  lseq        : BitVec 12 := 0
  ackSeq      : BitVec 12 := 0
  vc          : BitVec 6 := 0x3F
  type        : CellType := .idle
  creditVc    : BitVec 6 := 0x3F
  creditCount : BitVec 7 := 0
  pressure    : BitVec 8 := 0
  reserved    : BitVec 10 := 0
  body        : BitVec 1024 := 0
  crc         : BitVec 32 := 0
  deriving DecidableEq, Repr

/-- The cell's 136 bytes under the CRC as one number, byte 0 lowest (R103, Table LNK-1). -/
def LinkCell.image (c : LinkCell) : BitVec 1088 :=
  c.body ++ (c.reserved ++ c.pressure ++ c.creditCount ++ c.creditVc
    ++ BitVec.ofNat 3 c.type.code ++ c.vc ++ c.ackSeq ++ c.lseq : BitVec 64)

/-- One bit, least significant first, through the reflected CRC-32 of IEEE 802.3 (R103). -/
def crc32Bit (poly crc : BitVec 32) (b : Bool) : BitVec 32 :=
  if (crc.getLsbD 0 != b) then (crc >>> 1) ^^^ poly else crc >>> 1

/-- CRC-32 over the low `n` bytes of a number (R80, R103). -/
def crc32 (v n : Nat) (poly : BitVec 32 := 0xEDB88320#32) : BitVec 32 :=
  ~~~ ((List.range (8 * n)).foldl (fun c i => crc32Bit poly c (v.testBit i)) 0xFFFFFFFF#32)

/-- CRC-32C over the low `n` bytes of a number (R287). -/
def crc32c (v n : Nat) : BitVec 32 := crc32 v n 0x82F63B78#32

/-- The CRC-32 that belongs to a cell (R103). -/
def LinkCell.rightCrc (c : LinkCell) : BitVec 32 := crc32 c.image.toNat 136

/-- The cell's 140 bytes as one number, byte 0 lowest: the CRC little-endian in bytes 136–139 (R103). -/
def LinkCell.wire (c : LinkCell) : BitVec 1120 := c.crc ++ c.image

/-- The cell with its own CRC. -/
def LinkCell.sealed (c : LinkCell) : LinkCell := { c with crc := c.rightCrc }

/-- Types 0–3: a data cell. -/
def LinkCell.isData (c : LinkCell) : Bool :=
  match c.type with
  | .first | .middle | .last | .only => true
  | _ => false

/-- A control cell that is an abort: its VC names a data VC (R104). -/
def LinkCell.isAbort (c : LinkCell) : Bool := c.type == .control && decide (c.vc.toNat ≤ 47)

/-- Sequenced cells: data cells and abort cells (R104). -/
def LinkCell.sequenced (c : LinkCell) : Bool := c.isData || c.isAbort

/-- R106: what makes a received cell damaged. -/
def LinkCell.damaged (c : LinkCell) : Bool :=
  decide (c.crc ≠ c.rightCrc) || decide (c.reserved ≠ 0)
  || (c.isData && decide (47 < c.vc.toNat))
  || (!c.isData && !c.isAbort && decide (c.vc ≠ 0x3F))

/-- Byte `i` of a 128-byte body. -/
def bodyByte (b : BitVec 1024) (i : Nat) : Nat := fldN b (8 * i + 7) (8 * i)

/-- What a LINK_INIT tells (Table LNK-5). -/
structure InitInfo where
  addrValid : Bool := false
  rate      : Bool := false
  epoch     : BitVec 16 := 0
  peerEpoch : BitVec 16 := 0
  rxExpect  : BitVec 12 := 0
  node      : Node := 0
  port      : Nat := 0
  role      : Nat := 0
  deriving DecidableEq, Repr

/-- The six operations of a calm cell (Table LAN-11). -/
structure CalmInfo where
  op         : Nat := 0
  id         : BitVec 8 := 0
  startDelay : Nat := 0
  duration   : Nat := 0
  reason     : Nat := 0
  deriving DecidableEq, Repr

/-- An unsequenced control or calm cell waiting to be sent (Tables LNK-5, LAN-11). -/
inductive CtlMsg where
  | linkInit (i : InitInfo)
  | linkInitAck (fresh : Bool) (epoch : BitVec 16)
  | nak (expect : BitVec 12)
  | linkDown (cause : Nat)
  | wiringNotice (fault : Bool)
  | calm (c : CalmInfo)
  deriving DecidableEq, Repr

/-- The body of a control or calm cell (Tables LNK-5, LAN-11). -/
def CtlMsg.body : CtlMsg → BitVec 1024
  | .linkInit i => BitVec.ofNat 1024 (1 + at' 8 (b2n i.addrValid + 2 * b2n i.rate) + at' 16 i.epoch.toNat
      + at' 32 i.peerEpoch.toNat + at' 48 i.rxExpect.toNat + at' 64 i.node.toNat + at' 88 i.port
      + at' 96 i.role)
  | .linkInitAck fresh e => BitVec.ofNat 1024 (2 + at' 8 (b2n fresh) + at' 16 e.toNat)
  | .nak e => BitVec.ofNat 1024 (3 + at' 16 e.toNat)
  | .linkDown c => BitVec.ofNat 1024 (4 + at' 8 c)
  | .wiringNotice f => BitVec.ofNat 1024 (5 + at' 8 (b2n f))
  | .calm c => BitVec.ofNat 1024 (c.op + at' 8 c.id.toNat + at' 16 c.startDelay + at' 32 c.duration
      + at' 48 c.reason)

/-- The body of an abort cell (Table LNK-5): OP 6 and the reason. -/
def abortBody (reason : Nat) : BitVec 1024 := BitVec.ofNat 1024 (6 + at' 8 reason)

/-- A bypass message: one 16-byte slot (R109). -/
abbrev BypassMsg := BitVec 128

/-- TYPE of a bypass message (Table LNK-3). -/
def BypassMsg.type (m : BypassMsg) : Nat := fldN m 7 0

end Sys2Proof
end

