-- ==== Sys2Proof/Fdp.lean ====
section
/-! DEFINITION. The FDP status codes (R12) and completion codes (R10), and what a dictionary request carries
into the device: its path, session, sequence and the outcome of its tag's check. -/

namespace Sys2Proof

/-- FDP statuses (R12, Table SCO-7). -/
inductive Fdp where
  | ok | busy | operationConflict | accessDenied | noSuchObject | typeMismatch | outOfRange | tableFull
  | sequenceError | deferred | windowInverted | emptyWindow | lifecycleState | notAuthenticated | lateStart
  deriving DecidableEq, Repr

/-- Codes of Table SCO-7. -/
def Fdp.code : Fdp → Nat
  | .ok => 0 | .busy => 1 | .operationConflict => 2 | .accessDenied => 3 | .noSuchObject => 4
  | .typeMismatch => 5 | .outOfRange => 6 | .tableFull => 7 | .sequenceError => 8 | .deferred => 9
  | .windowInverted => 10 | .emptyWindow => 11 | .lifecycleState => 12 | .notAuthenticated => 13
  | .lateStart => 14

/-- The statuses that report an accepted request (R12, R13). -/
def Fdp.accepted : Fdp → Bool
  | .ok | .deferred | .emptyWindow | .lateStart => true
  | _ => false

/-- Rank in the fixed order of refusals (R14); accepted statuses come last. -/
def Fdp.rank : Fdp → Nat
  | .notAuthenticated => 0 | .sequenceError => 1 | .noSuchObject => 2 | .accessDenied => 3
  | .lifecycleState => 4 | .typeMismatch => 5 | .outOfRange => 6 | .windowInverted => 7
  | .operationConflict => 8 | .tableFull => 9 | .busy => 10
  | .ok | .deferred | .emptyWindow | .lateStart => 11

/-- Completion statuses (R10, Table SCO-6). -/
inductive Comp where
  | ok | okGuardOverflow | localTranslationFault | localProtection | localLength
  | remoteTranslationFault | remoteProtection | remoteNoReceive | partitionReject | unreachable
  | transportTimeout | collectiveAborted | flushed | sliceHalted | malformedEntry
  deriving DecidableEq, Repr

/-- Codes of Table SCO-6. -/
def Comp.code : Comp → Nat
  | .ok => 0x00 | .okGuardOverflow => 0x01 | .localTranslationFault => 0x10 | .localProtection => 0x11
  | .localLength => 0x12 | .remoteTranslationFault => 0x20 | .remoteProtection => 0x21
  | .remoteNoReceive => 0x22 | .partitionReject => 0x30 | .unreachable => 0x31
  | .transportTimeout => 0x32 | .collectiveAborted => 0x40 | .flushed => 0x50 | .sliceHalted => 0x60
  | .malformedEntry => 0x61

/-- Roles of a session (R587); `twin` is the pair session of slot 16 (R502). -/
inductive Role where
  | none | maker | installer | operator | twin
  deriving DecidableEq, Repr

/-- The path on which a request arrives (R563). -/
inductive Path where
  | can (busNode : Nat)
  | inBand (node : Node) (station : Station)
  | mailbox (hostPort link : Nat)
  | pair
  deriving DecidableEq, Repr

/-- A dictionary request: the session it names, its sequence, and whether its CMAC tag checks under the
session's key (R560, R565).  The keys and the CMAC are not computed in the model: the check's outcome comes
with the request (notes/assumptions/5.md). -/
structure Req where
  path    : Path := .can 0
  session : Nat := 0
  seq     : BitVec 8 := 0
  tagOk   : Bool := true
  /-- 32 requests wait at the server (R565) -/
  full    : Bool := false
  /-- a caddy write of the request passes its verify (R557) -/
  caddyOk : Bool := true
  /-- the caddy record of the request takes a further CONFIG segment (R601) -/
  segment : Bool := false
  /-- at the twin, a slice that the request moves is not STOPPED (R530) -/
  partnerBusy : Bool := false
  /-- SERVICE, ENTRY and COUNT of the request's header, which a response echoes (Table MGT-5) -/
  service : Nat := 0x11
  entry   : Nat := 0
  count   : Nat := 0
  /-- a mirrored change of the pair session, as MIRRORED_WRITE runs it (R593) -/
  mirror  : Bool := false
  /-- the reserved byte 7 of a request's header -/
  flags   : BitVec 8 := 0
  deriving DecidableEq, Repr

/-- A service that Table MGT-6 does not list, or a reserved byte that is set (R561). -/
def Req.odd (q : Req) : Bool :=
  q.flags != 0 || !([1, 2, 3, 4, 0x10, 0x11, 0x12].contains q.service)

/-- A request that names `n` entries of a TABLE from entry `e` on. -/
def Req.entries (q : Req) (e n : Nat) : Req := { q with entry := e, count := n }

/-- The request with a service of its own, unless it names one that is not listed. -/
def Req.of (q : Req) (service : Nat) : Req := if [1, 2, 3, 4, 0x10, 0x11, 0x12].contains q.service then { q with service := service } else q

end Sys2Proof
end

