-- ==== Sys2Proof/Operand.lean ====
section
/-! DEFINITION. The kinds of operand that commands carry: numbers of ports, stops, slices and queues (whose ranges
`WellFormed` checks), and what an event tells the device of the world outside. -/

namespace Sys2Proof

/-- A fabric port 0–47, or 48 for the twin port (R18, R21). -/
abbrev Port := Nat
/-- A fabric port 0–47. -/
abbrev FabricPort := Nat
/-- One of the four gate overrides of a port (R219). -/
abbrev Slot4 := Nat

/-- The partner's forwarded clock against the expected rate (R100). -/
inductive ClockRate where
  | expected | half | twice
  deriving DecidableEq, Repr

/-- How a received data cell comes through the receive-lane crossing (R253) and the input's control state (R149). -/
inductive CellFate where
  | carried
  /-- the crossing could not carry it -/
  | overrun
  /-- a corrected, an uncorrectable error is met in the input's control state -/
  | eccCorrected | eccBad
  deriving DecidableEq, Repr

/-- A ring stop 0–63, a ring 0–3, a KIND (R233, Table RNG-2). -/
abbrev Stop := Nat
abbrev RingNo := Nat
abbrev RingKind := Nat
/-- Free units of an ejection buffer, 0–40 (R239). -/
abbrev Units40 := Nat
/-- A BAR of a function, and an offset in it (Table HST-4). -/
abbrev BarNo := Nat
abbrev BarOffset := Nat
/-- A request tag of a stop, 0–1,023. -/
abbrev Tag10 := Nat
/-- A host port 0–3; a link of a host port; a function, 512 × host port + FUNC_MAP entry (R258, R264). -/
abbrev HostNo := Nat
abbrev LinkNo := Nat
abbrev FuncNo := Nat
/-- An MSI-X vector (R272). -/
abbrev VectorNo := Nat
/-- A slice 0–255, a WQ, a CQ, an EQ (R284). -/
abbrev SliceNo := Nat
abbrev WqNo := Nat
abbrev CqNo := Nat
abbrev EqNo := Nat
/-- A cluster 0–31, an engine 0–511 (R325). -/
abbrev ClusterNo := Nat
abbrev EngineNo := Nat
/-- An arbiter instance: 4 × host port + 2 × link + 1 for writes (R346). -/
abbrev ArbInst := Nat
/-- A lock 0–4,095, a group of locks, a master (R353, Table ENG-11). -/
abbrev LockNo := Nat
abbrev LockMaster := Nat

/-- A match unit 0–7; a reduction unit 0–3 (R397, R450). -/
abbrev MatchUnit := Nat
abbrev ReduceUnit := Nat
/-- A matching context, a collective context and a local member, a region, a pool, a memory link (R396, R450, R416, R489, R493). -/
abbrev MctxNo := Nat
abbrev CollNo := Nat
abbrev MemberNo := Nat
abbrev RegionNo := Nat
abbrev PoolNo := Nat
abbrev MemLinkNo := Nat
/-- A fault source 0–2,047 (R548). -/
abbrev FaultNo := Nat
/-- A message number of a peer (R388, R421). -/
abbrev MsgNo := Nat

/-- A local station, a remote node and station: what a peer context belongs to (R440). -/
structure Pair where
  station : Nat := 0
  node    : Nat := 0
  remote  : Nat := 0
  deriving DecidableEq, Repr

/-- For whom a block asks its stop to send a non-posted packet (R246). -/
inductive RingOwner where
  | device
  /-- a fetch of a WQ's entries -/
  | fetch (wq : Nat)
  /-- a write into a CQ's or EQ's ring -/
  | cqWrite (cq : Nat)
  | eqWrite (eq : Nat)
  /-- a table read of a walk -/
  | walk (id : Nat)
  /-- a request of a work entry -/
  | entry (wq pos : Nat)
  /-- a request that serves an inbound operation -/
  | inbound (id : Nat)
  /-- a request of the management controller for a dictionary request -/
  | mgmt (obj sub : Nat)
  deriving DecidableEq, Repr

/-- What a block asks its stop to send (R238, R681). -/
inductive RingAsk where
  /-- the next ring packet of the oldest fabric packet of a class -/
  | cells (cls : Nat)
  /-- a unit of another KIND; a RESPONSE echoes TAG and GEN and carries a STATUS -/
  | unit (dst kind units slice addr : Nat) (data : List Byte) (owner : RingOwner) (tag : Nat := 0) (gen : Nat := 0) (status : Nat := 0)
  deriving DecidableEq, Repr

/-- How a ring header passes its check (R236). -/
inductive RingHdr where
  | good | corrected | doubleError
  /-- an invalid KIND or UNITS, or a reserved bit -/
  | invalid
  /-- what a stop finds that the header passes on its way, or its source as it comes back -/
  | passCorrected (at_ : Nat) | passDouble (at_ : Nat)
  deriving DecidableEq, Repr

/-- A domain crossing, one of whose sides enters reset (Table RNG-8, R255). -/
inductive Crossing where
  | laneRx (port : Nat) | laneTx (port : Nat) | host (k : Nat) | caddy
  deriving DecidableEq, Repr

/-- What resets a link of a host port (R281). -/
inductive LinkReset where
  | hot | disable | surprise
  deriving DecidableEq, Repr

/-- What a host's write covers: `len` bytes from `off` of a BAR of a function; a request carries at most 512 bytes (Table HST-2). -/
structure BarSpan where
  func : FuncNo := 0
  bar  : BarNo := 0
  off  : BarOffset := 0
  len  : Nat := 0
  deriving DecidableEq, Repr
/-- Its numbers lie in their ranges. -/
def BarSpan.inRange (w : BarSpan) : Bool := decide (w.func ≤ 2047) && decide (w.bar ≤ 2) && decide (w.off ≤ 4194303) && decide (w.len ≤ 512)

/-- A host's configuration write (R273, R264, R272). -/
inductive CfgWrite where
  | memorySpace (on : Bool)
  | busMaster (on : Bool)
  /-- VF Enable with NumVFs, on a PF -/
  | vfEnable (on : Bool) (numVfs : Nat)
  /-- PMCSR to D3hot -/
  | d3hot
  /-- MSI-X Enable and Function Mask -/
  | msix (enable mask : Bool)
  /-- Enable Relaxed Ordering (Table HST-2) -/
  | relaxed (on : Bool)
  /-- on a PF: ASPM L1 in Link Control; L1 PM Substates Control [3:0] (R275) -/
  | linkControl (aspmL1 : Bool)
  | l1ss (v : BitVec 4)
  deriving DecidableEq, Repr

/-- A host's write of an MSI-X mask (R272): a vector's table entry, or the function mask cleared. -/
inductive MsixWrite where
  | entry (vector : Nat) (addr : BitVec 64) (data : BitVec 32) (mask : Bool)
  | function
  deriving DecidableEq, Repr

/-- The WQ, CQ or EQ slot of a doorbell page; a push slot (Table HST-5). -/
abbrev PageNo := Nat
abbrev SlotNo := Nat

/-! The twin pair (chapter 17) -/

/-- A dictionary value by its key. -/
abbrev Change := Nat × Image

/-- What a pair-session message carries (R593, Table TWN-1). -/
inductive PairMsg where
  /-- values of a write or of a bank swap: of the sender's device-scope objects, for the shadow, or of pair-scope objects -/
  | change (device : Bool) (c : List Change)
  /-- the partner has applied them -/
  | confirm (c : List Change)
  /-- a write received at the trailer, passed to the leader; the leader's refusal -/
  | pass (c : List Change)
  | refused (c : List Change) (f : Fdp)
  /-- a cold mismatch is corrected from the leader's copy: of a pair-scope object or of the trailer's own one; of the trailer's
  shadow (R517) -/
  | correct (shadow : Bool) (c : Change)
  /-- the partner's copy of the sender's state is behind (R512) -/
  | behind
  /-- a resync starts, RESTORE or not (R514) -/
  | resync (restore : Bool)
  /-- the roles are exchanged (R509) -/
  | leadSwap
  deriving DecidableEq, Repr

/-- An entry whose two copies differ, as a sweep meets it (R515): whose object it is, its key, the partner's copy, and whether the
partner finds it referenced (R516). -/
inductive DiffOwner where
  | pair | own | partner
  deriving DecidableEq, Repr
structure Diff where
  owner : DiffOwner := .pair
  key   : Nat := 0
  value : Image := 0
  ref   : Bool := false
  deriving DecidableEq, Repr

/-- A kind of device reset 1–6 (Table PWR-12). -/
abbrev ResetKind := Nat

/-- A counter window's slot 0–15 (R639). -/
abbrev Slot16 := Nat

/-- A timed window (R228): override `k` of a port's gate, a counter window, the sampling window. -/
inductive TimedWin where
  | override (p : FabricPort) (k : Slot4)
  | counter (k : Slot16)
  | sample
  deriving DecidableEq, Repr

/-- How the check of a staged image comes out, but for its version (R605). -/
inductive FwCheck where
  | passed | length | hash | signature | caddy
  deriving DecidableEq, Repr

/-- A reference clock of the device (Table PWR-8). -/
inductive RefClock where
  | lane (k : Nat) | host (k : Nat) | time
  deriving DecidableEq, Repr

/-- An error on the management bus, as ISO 11898-1 counts it: at the transmitter; at a receiver; at a receiver that sees a dominant bit
after its error flag. -/
inductive CanErr where
  | transmitter | receiver | receiverDominant
  deriving DecidableEq, Repr

/-- Instructions of the test access port (R669). -/
inductive TapInstr where
  | bypass | idcode | sample | preload | extest | extestPulse | extestTrain
  deriving DecidableEq, Repr

/-- An object's index and subindex; a session's number; a node of the management bus. -/
abbrev ObjNo := Nat
abbrev SubNo := Nat
abbrev SessionNo := Nat
abbrev BusNode := Nat

end Sys2Proof
end

