-- ==== Sys2Proof/Syntax.lean ====
section
/-! DEFINITION. The commands of the device: one constructor per row of the table of operations and events, with its
operands.  A dictionary write carries its request `q` and the written value; a received cell its 140 bytes. -/

namespace Sys2Proof

/-- The commands (opcode_table.json). -/
inductive Instr where
  /-- FDP_WRITE (R556). -/
  | fdpWrite (q : Req) (obj : ObjNo) (sub : SubNo) (entry count : Nat) (body : List Byte)
  /-- FDP_READ (R558). -/
  | fdpRead (q : Req) (obj : ObjNo) (sub : SubNo) (entry count : Nat)
  /-- FDP_IDENTIFY (R561). -/
  | fdpIdentify (q : Req)
  /-- FDP_OPEN (R592). -/
  | fdpOpen (q : Req) (role slot : Byte) (nonce : BitVec 384)
  /-- FDP_AUTH (R592). -/
  | fdpAuth (q : Req) (sigOk : Bool)
  /-- FDP_CLOSE (R564). -/
  | fdpClose (q : Req)
  /-- FDP_INFO (R559). -/
  | fdpInfo (q : Req) (obj : ObjNo) (sub : SubNo)
  /-- AUTH_TIMEOUT (R562). -/
  | authTimeout (n : SessionNo)
  /-- AUTH_LOCKOUT_EXPIRY (R592). -/
  | authLockoutExpiry (p : Path)
  /-- SESSION_IDLE_EXPIRY (R564). -/
  | sessionIdleExpiry (n : SessionNo)
  /-- CAN_FRAME_RECEIVE (R571). -/
  | canFrameReceive (fd : Bool) (id : BitVec 29) (data : List Byte)
  /-- CAN_REASSEMBLY_TIMEOUT (R572). -/
  | canReassemblyTimeout (src : BusNode)
  /-- CAN_FRAME_TRANSMIT (R572). -/
  | canFrameTransmit
  /-- CAN_BUS_ERROR (R579). -/
  | canBusError (e : CanErr)
  /-- BUS_OFF_RECOVERY (R580). -/
  | busOffRecovery
  /-- CAN_RECOVER (R580). -/
  | canRecover (q : Req) (v : Image)
  /-- MBX_SUBMIT (R271). -/
  | mbxSubmit (h : HostNo) (l : LinkNo) (v : BitVec 64) (msg : List Byte)
  /-- MBX_DONE_CLEAR (R271). -/
  | mbxDoneClear (h : HostNo) (l : LinkNo) (v : BitVec 64)
  /-- CONTROL_DELIVERY (R575). -/
  | controlDelivery (st : Stop)
  /-- DISCARD_NOTICE_RECEIVE (R188). -/
  | discardNoticeReceive
  /-- LANE_CAL (R94). -/
  | laneCal (q : Req) (v : Image)
  /-- LANE_CAL_TIMEOUT (R94). -/
  | laneCalTimeout (p : Port)
  /-- EQ_LOAD (R84). -/
  | eqLoad (q : Req) (v : Image)
  /-- EQ_LOAD_DEFERRED_START (R84). -/
  | eqLoadDeferredStart (p : Port)
  /-- TWIN_RESYNC (R514). -/
  | twinResync (q : Req) (v : Image)
  /-- RESYNC_COMPLETE (R514). -/
  | resyncComplete (pairs devs : List Change)
  /-- CADDY_COMPACT (R601). -/
  | caddyCompact (q : Req) (v : Image)
  /-- CADDY_COMPACT_DONE (R601). -/
  | caddyCompactDone (free : Nat)
  /-- CADDY_AUTO_COMPACT (R601). -/
  | caddyAutoCompact
  /-- FIRMWARE_STAGE (R605). -/
  | firmwareStage (q : Req) (hdr : List Byte)
  /-- FW_CHUNK (R605). -/
  | fwChunk (q : Req) (body : List Byte)
  /-- FIRMWARE_CHECK_DONE (R605). -/
  | firmwareCheckDone (c : FwCheck)
  /-- FIRMWARE_STAGE_TIMEOUT (R605). -/
  | firmwareStageTimeout
  /-- FW_SELECT (R606). -/
  | fwSelect (q : Req) (v : Image)
  /-- ROUTE_SWAP (R196). -/
  | routeSwap (q : Req) (v : Image)
  /-- KEY_TABLE_SWAP (R196). -/
  | keyTableSwap (q : Req) (v : Image)
  /-- SWAP_COPY_DONE (R197). -/
  | swapCopyDone (keys : Bool)
  /-- CONTROL_SCRUB (R585). -/
  | controlScrub (q : Req) (v : Image)
  /-- SCRUB_AUTO_START (R585). -/
  | scrubAutoStart
  /-- CONTROL_SCRUB_DONE (R585). -/
  | controlScrubDone (corrected : Nat) (bad : List FaultNo)
  /-- COUNTER_CLEAR_ALL (R645). -/
  | counterClearAll (q : Req) (v : Image)
  /-- LIFECYCLE_CHANGE (R597). -/
  | lifecycleChange (q : Req) (body : List Byte)
  /-- PORT_ROLE (R167). -/
  | portRole (q : Req) (p : FabricPort) (v : Image)
  /-- RETRAIN (R85). -/
  | retrain (q : Req) (p : Port) (v : Image)
  /-- WAKE (R97). -/
  | wake (q : Req) (p : Port) (v : Image)
  /-- TEST_PATTERN (R90). -/
  | testPattern (q : Req) (p : Port) (v : Image)
  /-- TEST_PATTERN_DEFERRED_START (R90). -/
  | testPatternDeferredStart (p : Port)
  /-- SYNTH_LOCKED (R100). -/
  | synthLocked (p : Port)
  /-- SYNTH_LOCK_TIMEOUT (R100). -/
  | synthLockTimeout (p : Port)
  /-- FORWARDED_CLOCK_PRESENT (R100). -/
  | forwardedClockPresent (p : Port) (rate : ClockRate)
  /-- CLOCK_ACQUIRE_TIMEOUT (R100). -/
  | clockAcquireTimeout (p : Port)
  /-- EYE_CENTRE_FOUND (R100). -/
  | eyeCentreFound (p : Port) (trims : List Nat)
  /-- PHASE_TRIM_TIMEOUT (R100). -/
  | phaseTrimTimeout (p : Port)
  /-- MARKERS_FOUND (R78). -/
  | markersFound (p : Port) (lanes arrivals : List Nat)
  /-- ALIGN_TIMEOUT (R100). -/
  | alignTimeout (p : Port)
  /-- FEC_LOCKED (R100). -/
  | fecLocked (p : Port)
  /-- FEC_LOCK_TIMEOUT (R100). -/
  | fecLockTimeout (p : Port)
  /-- SYNTH_LOCK_LOSS (R87). -/
  | synthLockLoss (p : Port)
  /-- FORWARDED_CLOCK_LOSS (R88). -/
  | forwardedClockLoss (p : Port)
  /-- TX_LOCK_LOST_TIMEOUT (R89). -/
  | txLockLostTimeout (p : Port)
  /-- RX_CLOCK_LOST_TIMEOUT (R89). -/
  | rxClockLostTimeout (p : Port)
  /-- RETRY_WAIT_EXPIRY (R100). -/
  | retryWaitExpiry (p : Port)
  /-- CALM_INTERVAL_EXPIRY (R93). -/
  | calmIntervalExpiry (p : Port)
  /-- CALM_REQUEST (R93). -/
  | calmRequest (p : Port) (c : LinkCell)
  /-- CALM_GRANT (R93). -/
  | calmGrant (p : Port) (c : LinkCell)
  /-- CALM_REFUSE (R93). -/
  | calmRefuse (p : Port) (c : LinkCell)
  /-- CALM_RETRY (R93). -/
  | calmRetry (p : Port)
  /-- CALM_WINDOW_START (R91). -/
  | calmWindowStart (p : Port)
  /-- CALM_WINDOW_END (R91). -/
  | calmWindowEnd (p : Port) (trims deskew : List Nat)
  /-- DOZE_IDLE_EXPIRY (R96). -/
  | dozeIdleExpiry (p : FabricPort)
  /-- DOZE_REQUEST (R96). -/
  | dozeRequest (p : Port) (c : LinkCell)
  /-- DOZE_GRANT (R96). -/
  | dozeGrant (p : Port) (c : LinkCell)
  /-- DOZE_REFUSE (R96). -/
  | dozeRefuse (p : Port) (c : LinkCell)
  /-- WAKE_CAUSE_PORT (R97). -/
  | wakeCausePort (p : Port)
  /-- WAKE_TONE (R98). -/
  | wakeTone (p : Port)
  /-- WAKE_LOCKED (R98). -/
  | wakeLocked (p : Port)
  /-- WAKE_TIMEOUT (R100). -/
  | wakeTimeout (p : Port)
  /-- LOCK_LOSS_EXPIRY (R130). -/
  | lockLossExpiry (p : Port)
  /-- LINK_CELL_TRANSMIT (R111). -/
  | linkCellTransmit (p : Port)
  /-- DATA_CELL_RECEIVE (R120). -/
  | dataCellReceive (p : Port) (c : LinkCell) (fate : CellFate)
  /-- IDLE_CELL_RECEIVE (R120). -/
  | idleCellReceive (p : Port) (c : LinkCell)
  /-- BYPASS_CELL_RECEIVE (R109). -/
  | bypassCellReceive (p : Port) (c : LinkCell)
  /-- LINK_INIT (R125). -/
  | linkInit (p : Port) (c : LinkCell)
  /-- LINK_INIT_ACK (R144). -/
  | linkInitAck (p : Port) (c : LinkCell)
  /-- LINK_INIT_RESEND (R125). -/
  | linkInitResend (p : Port)
  /-- INIT_TIMEOUT (R128). -/
  | initTimeout (p : Port)
  /-- NAK (R121). -/
  | nak (p : Port) (c : LinkCell)
  /-- REPLAY_TIMEOUT (R121). -/
  | replayTimeout (p : Port)
  /-- LINK_DOWN (R131). -/
  | linkDown (p : Port) (c : LinkCell)
  /-- WIRING_NOTICE (R139). -/
  | wiringNotice (p : Port) (c : LinkCell)
  /-- WIRING_NOTICE_REPEAT (R139). -/
  | wiringNoticeRepeat (p : Port)
  /-- ABORT (R136). -/
  | abort (p : Port) (c : LinkCell)
  /-- ERROR_RATE_WINDOW_END (R129). -/
  | errorRateWindowEnd (p : Port)
  /-- FLUSH (R138). -/
  | flush (q : Req) (p : Port) (v : Image)
  /-- FLUSH_DONE (R138). -/
  | flushDone (p : Port)
  /-- SCHEDULER_TOKEN (R155). -/
  | schedulerToken
  /-- RED_AVG_UPDATE (R159). -/
  | redAvgUpdate
  /-- PRESSURE_REPORT_SEND (R179). -/
  | pressureReportSend (p : FabricPort)
  /-- KEY_INSERT (R189). -/
  | keyInsert (q : Req) (v : Image)
  /-- GATE_LOAD (R220). -/
  | gateLoad (q : Req) (p : FabricPort) (bytes : List Byte)
  /-- GATE_SWITCH (R221). -/
  | gateSwitch (q : Req) (p : FabricPort) (v : Image)
  /-- GATE_LIST_SWITCH (R221). -/
  | gateListSwitch (p : FabricPort)
  /-- GATE_ENTRY_TRANSITION (R222). -/
  | gateEntryTransition (p : FabricPort)
  /-- GATE_OVERRIDE (R231). -/
  | gateOverride (q : Req) (p : FabricPort) (k : Slot4) (v : Image)
  /-- GATE_OVERRIDE_STOP (R230). -/
  | gateOverrideStop (q : Req) (p : FabricPort) (k : Slot4) (v : Image)
  /-- TIMED_WINDOW_START (R228). -/
  | timedWindowStart (w : TimedWin)
  /-- TIMED_WINDOW_STOP (R228). -/
  | timedWindowStop (w : TimedWin)
  /-- GATE_FIT_TEST (R226). -/
  | gateFitTest (p : FabricPort)
  /-- RING_SEND_REQUEST (R238). -/
  | ringSendRequest (st : Stop) (a : RingAsk)
  /-- RING_PACKET_ARRIVE (R239). -/
  | ringPacketArrive (src dst : Stop) (kind : RingKind) (hdr : RingHdr) (free : Units40)
  /-- RING_PACKET_RETURN (R241). -/
  | ringPacketReturn (src dst : Stop) (kind : RingKind)
  /-- RING_REINJECT (R241). -/
  | ringReinject (src dst : Stop) (kind : RingKind)
  /-- RING_STARVE_RESERVE (R243). -/
  | ringStarveReserve (st : Stop) (r : RingNo)
  /-- RING_TIMEOUT (R245). -/
  | ringTimeout (st : Stop) (tag : Tag10)
  /-- RING_STALL (R248). -/
  | ringStall (st : Stop) (r : RingNo)
  /-- RING_DISABLE (R250). -/
  | ringDisable (q : Req) (v : Image)
  /-- CROSSING_RESET (R255). -/
  | crossingReset (c : Crossing) (entries : Nat)
  /-- HOST_PERST_ASSERT (R282). -/
  | hostPerstAssert (h : HostNo)
  /-- HOST_PERST_DEASSERT (R282). -/
  | hostPerstDeassert (h : HostNo)
  /-- HOST_LINK_RESET (R281). -/
  | hostLinkReset (h : HostNo) (l : LinkNo) (k : LinkReset)
  /-- FUNCTION_LEVEL_RESET (R281). -/
  | functionLevelReset (f : FuncNo)
  /-- WQ_DOORBELL (R305). -/
  | wqDoorbell (f : FuncNo) (page : PageNo) (slot : SlotNo) (v : BitVec 64)
  /-- QUEUE_ARM (R313). -/
  | queueArm (f : FuncNo) (page : PageNo) (slot : SlotNo) (events : Bool) (v : BitVec 64)
  /-- PUSH_WRITE (R306). -/
  | pushWrite (f : FuncNo) (page : PageNo) (slot : SlotNo) (data : List Byte)
  /-- BAR_INVALID_WRITE (R269). -/
  | barInvalidWrite (w : BarSpan)
  /-- WAKE_CAUSE (R278). -/
  | wakeCause (f : FuncNo)
  /-- PM_PME_SEND (R279). -/
  | pmPmeSend (f : FuncNo)
  /-- PMCSR_D0_WRITE (R278). -/
  | pmcsrD0Write (f : FuncNo)
  /-- PME_EN_WRITE (R278). -/
  | pmeEnWrite (f : FuncNo) (en : Bool)
  /-- PME_STATUS_CLEAR (R278). -/
  | pmeStatusClear (f : FuncNo)
  /-- LTR_IDLE (R276). -/
  | ltrIdle (h : HostNo) (l : LinkNo)
  /-- L0P_MEASURE (R276). -/
  | l0pMeasure (h : HostNo) (l : LinkNo)
  /-- ASPM_L1_REQUEST (R276). -/
  | aspmL1Request (h : HostNo) (l : LinkNo)
  /-- HOST_READ_COMPLETION (R308). -/
  | hostReadCompletion (id : Nat) (data : List Byte)
  /-- WQ_FETCH (R308). -/
  | wqFetch (n : WqNo)
  /-- SLICE_START (R290). -/
  | sliceStart (q : Req) (sl : SliceNo)
  /-- SLICE_RUN (R290). -/
  | sliceRun (q : Req) (sl : SliceNo)
  /-- SLICE_RECOVER (R290). -/
  | sliceRecover (q : Req) (sl : SliceNo)
  /-- SLICE_TEST (R290). -/
  | sliceTest (q : Req) (sl : SliceNo)
  /-- SLICE_STOP (R290). -/
  | sliceStop (q : Req) (sl : SliceNo)
  /-- SLICE_RESET (R321). -/
  | sliceReset (q : Req) (sl : SliceNo)
  /-- SLICE_HALT (R319). -/
  | sliceHalt (q : Req) (sl : SliceNo)
  /-- SLICE_STATE_SETTLED (R289). -/
  | sliceStateSettled (sl : SliceNo)
  /-- WAKE_TEST (R295). -/
  | wakeTest (q : Req) (sl : SliceNo) (v : Image)
  /-- CREATE_WQ (R296). -/
  | createWq (q : Req) (sl : SliceNo) (v : Image)
  /-- CREATE_CQ (R296). -/
  | createCq (q : Req) (sl : SliceNo) (v : Image)
  /-- CREATE_EQ (R296). -/
  | createEq (q : Req) (sl : SliceNo) (v : Image)
  /-- DESTROY_WQ (R296). -/
  | destroyWq (q : Req) (sl : SliceNo) (v : Image)
  /-- DESTROY_CQ (R297). -/
  | destroyCq (q : Req) (sl : SliceNo) (v : Image)
  /-- DESTROY_EQ (R297). -/
  | destroyEq (q : Req) (sl : SliceNo) (v : Image)
  /-- RESET_WQ (R316). -/
  | resetWq (q : Req) (sl : SliceNo) (v : Image)
  /-- DISPATCH_ADMIT (R332). -/
  | dispatchAdmit (k : ClusterNo)
  /-- ENGINE_TAKE (R334). -/
  | engineTake (e : EngineNo)
  /-- ENGINE_STEAL (R338). -/
  | engineSteal (e : EngineNo)
  /-- ENGINE_REMOTE_STEAL (R339). -/
  | engineRemoteSteal (e : EngineNo)
  /-- ENTRY_NOP (R300). -/
  | entryNop (e : EngineNo)
  /-- ENTRY_SEND (R387). -/
  | entrySend (e : EngineNo)
  /-- ENTRY_RECV (R400). -/
  | entryRecv (e : EngineNo)
  /-- ENTRY_PUT (R420). -/
  | entryPut (e : EngineNo)
  /-- ENTRY_PUT_IMM (R438). -/
  | entryPutImm (e : EngineNo)
  /-- ENTRY_GET (R427). -/
  | entryGet (e : EngineNo)
  /-- ENTRY_ATOMIC (R428). -/
  | entryAtomic (e : EngineNo)
  /-- ENTRY_COLLECTIVE (R453). -/
  | entryCollective (e : EngineNo)
  /-- ENTRY_CONTROL_SEND (R300). -/
  | entryControlSend (e : EngineNo)
  /-- ENTRY_SEGMENT (R327). -/
  | entrySegment (e : EngineNo)
  /-- ITEM_UNPARK (R343). -/
  | itemUnpark (id : Nat)
  /-- ENGINE_ITEM_LIMIT (R344). -/
  | engineItemLimit (e : EngineNo)
  /-- ENGINE_MEMORY_ERROR (R344). -/
  | engineMemoryError (e : EngineNo)
  /-- ARBITER_REFILL (R347). -/
  | arbiterRefill
  /-- ARBITER_GRANT (R348). -/
  | arbiterGrant (a : ArbInst)
  /-- ARBITER_PREEMPT (R349). -/
  | arbiterPreempt (a : ArbInst) (sl : SliceNo)
  /-- BURST_HANDOVER (R349). -/
  | burstHandover (a : ArbInst)
  /-- LOCK_CLAIM (R355). -/
  | lockClaim (n : LockNo) (sl : SliceNo) (m : LockMaster) (w : BitVec 32)
  /-- LOCK_RELEASE (R356). -/
  | lockRelease (n : LockNo) (sl : SliceNo) (m : LockMaster) (w : BitVec 32)
  /-- LOCK_READ (R355). -/
  | lockRead (n : LockNo) (sl : SliceNo) (m : LockMaster)
  /-- LOCK_BREAK (R358). -/
  | lockBreak (q : Req) (v : Image)
  /-- TLB_LOAD (R382). -/
  | tlbLoad (q : Req) (v : Image)
  /-- TLB_INVAL (R384). -/
  | tlbInval (q : Req) (v : Image)
  /-- TLB_INVAL_DONE (R385). -/
  | tlbInvalDone
  /-- TRANS_RETRY (R375). -/
  | transRetry (q : Req) (v : Image)
  /-- TRANS_RETRY_FAULT (R375). -/
  | transRetryFault (q : Req) (v : Image)
  /-- WALK_READ_COMPLETE (R373). -/
  | walkReadComplete (id : Nat) (entry : BitVec 64) (ok : Bool)
  /-- MISS_TIMEOUT (R376). -/
  | missTimeout (id : Nat)
  /-- EAGER (R392). -/
  | eager (u : MatchUnit)
  /-- RTS (R407). -/
  | rts (u : MatchUnit)
  /-- CHANNEL_SYNC (R392). -/
  | channelSync (u : MatchUnit)
  /-- CTS (R407). -/
  | cts (u : MatchUnit)
  /-- DATA (R407). -/
  | data (u : MatchUnit)
  /-- DONE (R407). -/
  | done (u : MatchUnit)
  /-- MSG_ACK (R393). -/
  | msgAck (u : MatchUnit)
  /-- RDV_ABORT (R408). -/
  | rdvAbort (u : MatchUnit)
  /-- ACK_DELAY_EXPIRY (R392). -/
  | ackDelayExpiry (p : Pair) (tc3 : Bool)
  /-- ACK_TIMEOUT (R394). -/
  | ackTimeout (p : Pair) (tc3 : Bool)
  /-- RDV_TIMEOUT (R408). -/
  | rdvTimeout (p : Pair) (num : MsgNo) (sender : Bool)
  /-- OVERFLOW_WALK (R404). -/
  | overflowWalk (n : MctxNo)
  /-- RANK_LOAD (R412). -/
  | rankLoad (sl : SliceNo) (job rank : Nat)
  /-- RANK_INVAL (R412). -/
  | rankInval (q : Req) (sl : SliceNo) (v : Image)
  /-- PUT_DATA (R424). -/
  | putData (st : Stop)
  /-- PUT_NOTIFY (R439). -/
  | putNotify (st : Stop)
  /-- GET_REQ (R427). -/
  | getReq (st : Stop)
  /-- ATOMIC_REQ (R428). -/
  | atomicReq (st : Stop)
  /-- GET_RESP (R432). -/
  | getResp (st : Stop)
  /-- ATOMIC_RESP (R432). -/
  | atomicResp (st : Stop)
  /-- SACK (R432). -/
  | sack (st : Stop)
  /-- SACK_DELAY_EXPIRY (R431). -/
  | sackDelayExpiry (p : Pair) (num : MsgNo)
  /-- RETRANSMIT_TIMEOUT (R435). -/
  | retransmitTimeout (p : Pair) (num : MsgNo)
  /-- REGION_INVALIDATE (R419). -/
  | regionInvalidate (q : Req) (n : RegionNo) (v : Image)
  /-- COLL_UP (R461). -/
  | collUp (u : ReduceUnit)
  /-- COLL_DOWN (R463). -/
  | collDown (u : ReduceUnit)
  /-- COLL_SUMMARY (R463). -/
  | collSummary (u : ReduceUnit)
  /-- COLL_ABORT_RECEIVE (R477). -/
  | collAbortReceive (u : ReduceUnit)
  /-- COLL_SEGMENT_SEND (R462). -/
  | collSegmentSend (n : CollNo) (m : MemberNo) (exps : Bool)
  /-- COLL_TIMEOUT (R476). -/
  | collTimeout (n : CollNo)
  /-- COLL_ABORT (R481). -/
  | collAbort (q : Req) (v : Image)
  /-- COLL_EPOCH (R481). -/
  | collEpoch (q : Req) (v : Image)
  /-- COLL_STEEP (R482). -/
  | collSteep (q : Req) (n : CollNo) (v : Image)
  /-- COLL_STEEP_CLEAR (R483). -/
  | collSteepClear (q : Req) (v : Image)
  /-- POOL_ASSIGN (R494). -/
  | poolAssign (q : Req) (p : PoolNo) (v : Image)
  /-- POOL_RELEASE (R494). -/
  | poolRelease (q : Req) (p : PoolNo) (v : Image)
  /-- POOL_ZEROING_DONE (R495). -/
  | poolZeroingDone (p : PoolNo)
  /-- MEM_PERST_RELEASE (R488). -/
  | memPerstRelease
  /-- MEM_LINK_TRAINED (R488). -/
  | memLinkTrained (m : MemLinkNo) (type3 : Bool) (width speed : Nat)
  /-- MEMORY_ACTIVE (R491). -/
  | memoryActive (m : MemLinkNo) (capacity : BitVec 24)
  /-- MEM_ACTIVE_TIMEOUT (R488). -/
  | memActiveTimeout (m : MemLinkNo)
  /-- MEM_LINK_DOWN (R489). -/
  | memLinkDown (m : MemLinkNo)
  /-- CXL_MEM_ERROR (R492). -/
  | cxlMemError (m : MemLinkNo) (read : Option Nat)
  /-- TWIN_HEARTBEAT_SEND (R506). -/
  | twinHeartbeatSend
  /-- TWIN_HEARTBEAT (R507). -/
  | twinHeartbeat
  /-- HEARTBEAT_LOST (R507). -/
  | heartbeatLost
  /-- BEAT_SEND (R504). -/
  | beatSend
  /-- BEAT (R504). -/
  | beat (width : Nat)
  /-- DISTRESS (R506). -/
  | distress (width : Nat)
  /-- ADOPT_PULSE (R519). -/
  | adoptPulse (width : Nat)
  /-- ALERT_REPEAT (R505). -/
  | alertRepeat
  /-- PIN_STUCK (R504). -/
  | pinStuck
  /-- PIN_FAULT_CLEAR (R504). -/
  | pinFaultClear
  /-- JOINING_TIMEOUT (R507). -/
  | joiningTimeout
  /-- SILENT_PARTNER (R519). -/
  | silentPartner
  /-- FAIL_SILENT_RESET_DELAY (R519). -/
  | failSilentResetDelay
  /-- COMPARE_SWEEP (R515). -/
  | compareSweep (l : List Diff)
  /-- MIRRORED_WRITE (R512). -/
  | mirroredWrite (m : PairMsg)
  /-- MIRROR_CONFIRM_TIMEOUT (R512). -/
  | mirrorConfirmTimeout
  /-- DETACH (R524). -/
  | detach (q : Req) (v : Image)
  /-- HANDBACK (R529). -/
  | handback (q : Req) (v : Image)
  /-- LEAD_SWAP (R509). -/
  | leadSwap (q : Req) (v : Image)
  /-- ADOPT (R519). -/
  | adopt (q : Req) (v : Image)
  /-- PARTNER_RESET (R527). -/
  | partnerReset (q : Req) (v : Image)
  /-- FAULT_EVENT (R538). -/
  | faultEvent (srcs : List FaultNo)
  /-- SQUALL_WINDOW_EXPIRY (R539). -/
  | squallWindowExpiry (n : FaultNo)
  /-- WIRE_FAULT (R533). -/
  | wireFault (n : FaultNo)
  /-- GRACE_EXPIRY (R538). -/
  | graceExpiry (n : FaultNo)
  /-- LULL_EXPIRY (R542). -/
  | lullExpiry (n : FaultNo)
  /-- FAULT_ACK (R540). -/
  | faultAck (q : Req) (v : Image)
  /-- FAULT_CLEAR (R543). -/
  | faultClear (q : Req) (v : Image)
  /-- FORCE_EVENTS (R551). -/
  | forceEvents (q : Req) (v : Image)
  /-- FORCE_WIRE (R551). -/
  | forceWire (q : Req) (v : Image)
  /-- FORCE_DISAGREE (R552). -/
  | forceDisagree (q : Req) (v : Image)
  /-- DECISION_DISAGREE (R535). -/
  | decisionDisagree
  /-- DECISION_WORD_TIMEOUT (R535). -/
  | decisionWordTimeout (collectorB : Bool)
  /-- COLLECTOR_ECC_ERROR (R535). -/
  | collectorEccError (collectorB : Bool)
  /-- FAIL_SILENT_ADOPT_PULSE (R544). -/
  | failSilentAdoptPulse
  /-- MC_HEARTBEAT_WRITE (R545). -/
  | mcHeartbeatWrite
  /-- MC_HEARTBEAT_MISS (R545). -/
  | mcHeartbeatMiss
  /-- AVS_WINDOW (R611). -/
  | avsWindow (rate fails : Nat) (readback : BitVec 8)
  /-- AVS_RETRY (R612). -/
  | avsRetry (fails : Nat) (readback : BitVec 8)
  /-- BAROMETER_CROSSING (R615). -/
  | barometerCrossing (level2 : Bool)
  /-- PACE_RELEASE (R615). -/
  | paceRelease
  /-- THERMAL_SAMPLE (R617). -/
  | thermalSample (t : BitVec 8)
  /-- REFCLK_LOSS (R618). -/
  | refclkLoss (c : RefClock)
  /-- REFCLK_RETURN (R625). -/
  | refclkReturn
  /-- PPS_EDGE (R624). -/
  | ppsEdge
  /-- PPS_TIMEOUT (R618). -/
  | ppsTimeout
  /-- TIME_PROBE_SEND (R621). -/
  | timeProbeSend
  /-- TIME_PROBE (R621). -/
  | timeProbe
  /-- TIME_REPLY (R623). -/
  | timeReply
  /-- TIME_SET (R624). -/
  | timeSet (q : Req) (v : Image)
  /-- DEV_RESET (R627). -/
  | devReset (q : Req) (v : Image)
  /-- PIN_RESET (R627). -/
  | pinReset
  /-- POWER_ON_RESET (R627). -/
  | powerOnReset
  /-- SUPPLY_RESET (R627). -/
  | supplyReset
  /-- RESET_RELEASE (R629). -/
  | resetRelease (kind : ResetKind) (twinSide : Bool) (mgmtId : BitVec 7)
  /-- BOOT_FIRMWARE_CHECK (R606). -/
  | bootFirmwareCheck (aOk bOk : Bool)
  /-- START_UP_END (R629). -/
  | startUpEnd
  /-- SNAPSHOT (R638). -/
  | snapshot (q : Req) (v : Image)
  /-- SNAPSHOT_CAPTURE (R638). -/
  | snapshotCapture
  /-- COUNTER_WINDOW (R639). -/
  | counterWindow (q : Req) (k : Slot16) (v : Image)
  /-- WINDOW_STOP (R230). -/
  | windowStop (q : Req) (k : Slot16) (v : Image)
  /-- WINDOW_RECORD_WRITE (R640). -/
  | windowRecordWrite (k : Slot16)
  /-- SAMPLE_CTL (R642). -/
  | sampleCtl (q : Req) (v : Image)
  /-- SAMPLE_STOP (R230). -/
  | sampleStop (q : Req) (v : Image)
  /-- SAMPLE_RECORD (R643). -/
  | sampleRecord
  /-- SAMPLE_CONSUMER_READ (R644). -/
  | sampleConsumerRead
  /-- SLICE_COUNTER_RECORD (R641). -/
  | sliceCounterRecord (sl : SliceNo)
  /-- ROLE_KEY (R590). -/
  | roleKey (q : Req) (n : Nat) (v : Image)
  /-- FORWARDED_CLOCK_RETURN (R88). -/
  | forwardedClockReturn (p : Port)
  /-- SYMBOL_LOCK_LOSS (R99). -/
  | symbolLockLoss (p : Port)
  /-- SYMBOL_LOCK_REGAINED (R130). -/
  | symbolLockRegained (p : Port)
  /-- TIMEBASE_TICK (R211). -/
  | timebaseTick
  /-- HOST_LINK_STATE_CHANGE (R276). -/
  | hostLinkStateChange (h : HostNo) (l : LinkNo) (st width speed : Nat) (cxl : Bool)
  /-- FUNCTIONS_READY (R282). -/
  | functionsReady (h : HostNo) (l : LinkNo)
  /-- PCIE_CONFIG_WRITE (R273). -/
  | pcieConfigWrite (f : FuncNo) (w : CfgWrite)
  /-- MSIX_VECTOR_UNMASK (R272). -/
  | msixVectorUnmask (f : FuncNo) (w : MsixWrite)
  /-- TEST_ACCESS_PORT (R669). -/
  | testAccessPort (trstN tms tdi : Bool) (ti : TapInstr)
  deriving DecidableEq, Repr

end Sys2Proof
end

