-- ==== Sys2Proof/Machine/CollMath.lean ====
section
/-! DEFINITION. Arithmetic of collectives (R455, R456, R466–R469, R472): floating-point formats, sums with guard bits, the exact
grid, and the elements that travel up and down a tree.  An element is the number that its bytes spell. -/

namespace Sys2Proof.Machine

/-! Operations and types (Table WKQ-13): COP 0 SUM, 1 MIN, 2 MAX, 3 AND, 4 OR, 5 XOR; TYPE 0 INT32, 1 INT64, 2 UINT64, 3 BF16,
4 FP32, 5 FP64; MODE 0 FAST, 1 EXACT_GRID, 2 STEEPED -/

/-- Bytes of an element of a TYPE. -/
def typeBytes (ty : Nat) : Nat := match ty with | 0 | 4 => 4 | 3 => 2 | _ => 8
/-- The operation adds on the grid. -/
def onGrid (cop ty mode : Nat) : Bool := cop == 0 && decide (3 ≤ ty) && mode != 0
/-- The operation runs an exponent pass. -/
def hasExps (cop ty mode : Nat) : Bool := cop == 0 && decide (3 ≤ ty) && mode == 1

/-- Bytes of an up element and P (Table COL-1). -/
def upBytes (cop ty mode : Nat) : Nat :=
  if onGrid cop ty mode then 32
  else if cop ≠ 0 then typeBytes ty
  else match ty with | 0 => 8 | 1 | 2 => 16 | 3 | 4 => 4 | _ => 8
def segElems (cop ty mode : Nat) : Nat :=
  if onGrid cop ty mode then 128
  else if cop ≠ 0 then 4096 / typeBytes ty
  else match ty with | 0 => 512 | 1 | 2 => 256 | 3 | 4 => 1024 | _ => 512

/-! Binary floating point -/

/-- Exponent and fraction bits of a floating TYPE. -/
def fpFmt (ty : Nat) : Nat × Nat := match ty with | 3 => (8, 7) | 4 => (8, 23) | _ => (11, 52)

/-- What a floating-point number is: a finite one is ± mant × 2^exp. -/
inductive FpVal where
  | nan
  | inf (neg : Bool)
  | fin (neg : Bool) (mant : Nat) (exp : Int)
  deriving DecidableEq, Repr

/-- Bias of a format. -/
def fpBias (f : Nat × Nat) : Nat := 2 ^ (f.1 - 1) - 1

/-- The value of an image. -/
def fpVal (f : Nat × Nat) (x : Nat) : FpVal :=
  let neg := x / 2 ^ (f.1 + f.2) % 2 == 1
  let e := x / 2 ^ f.2 % 2 ^ f.1
  let m := x % 2 ^ f.2
  if e = 2 ^ f.1 - 1 then if m = 0 then .inf neg else .nan
  else if e = 0 then .fin neg m (1 - (fpBias f : Int) - f.2)
  else .fin neg (2 ^ f.2 + m) ((e : Int) - fpBias f - f.2)

/-- `n / 2^d` to the nearest integer, ties to even. -/
def roundShift (n d : Nat) : Nat :=
  let q := n / 2 ^ d
  let r := n % 2 ^ d
  if d = 0 then n else if 2 ^ (d - 1) < r ∨ (r = 2 ^ (d - 1) ∧ q % 2 = 1) then q + 1 else q

/-- `n × 2^k` to the nearest integer, ties to even. -/
def scaleRound (n : Nat) (k : Int) : Nat := if 0 ≤ k then n * 2 ^ k.toNat else roundShift n (-k).toNat

/-- Sign bit of a format. -/
def fpSign (f : Nat × Nat) (neg : Bool) : Nat := if neg then 2 ^ (f.1 + f.2) else 0
/-- Infinity, the largest finite magnitude, the canonical NaN (R468). -/
def fpInf (f : Nat × Nat) : Nat := (2 ^ f.1 - 1) * 2 ^ f.2
def fpMax (f : Nat × Nat) : Nat := fpInf f - 1
def fpNan (f : Nat × Nat) : Nat := fpInf f + 2 ^ (f.2 - 1)

/-- ± n × 2^k rounded to a format, ties to even: the image of its magnitude, at or beyond infinity on overflow. -/
def fpRound (f : Nat × Nat) (n : Nat) (k : Int) : Nat :=
  if n = 0 then 0
  else
    let emin : Int := 1 - (fpBias f : Int)
    let e := max ((Nat.log2 n : Int) + k) emin
    let m := scaleRound n (k - (e - f.2))
    if m < 2 ^ f.2 then m else (e - emin + 1).toNat * 2 ^ f.2 + (m - 2 ^ f.2)

/-- IEEE 754 addition, rounding to nearest, ties to even (R468). -/
def fpAdd (f : Nat × Nat) (x y : Nat) : Nat :=
  match fpVal f x, fpVal f y with
  | .nan, _ | _, .nan => fpNan f
  | .inf a, .inf b => if a == b then fpSign f a + fpInf f else fpNan f
  | .inf a, .fin .. => fpSign f a + fpInf f
  | .fin .., .inf b => fpSign f b + fpInf f
  | .fin a m i, .fin b n j =>
    let k := min i j
    let s : Int := (if a then -1 else 1) * (m * 2 ^ (i - k).toNat : Nat) + (if b then -1 else 1) * (n * 2 ^ (j - k).toNat : Nat)
    let neg := if s = 0 then a && b else decide (s < 0)
    fpSign f neg + min (fpInf f) (fpRound f s.natAbs k)

/-- Order of the numbers of a format; −0 lies below +0. -/
def fpKey (f : Nat × Nat) (x : Nat) : Int :=
  let m := x % 2 ^ (f.1 + f.2)
  if x / 2 ^ (f.1 + f.2) % 2 = 1 then -(m : Int) - 1 else m
/-- IEEE 754-2019 minimum and maximum (R468). -/
def fpMin (f : Nat × Nat) (x y : Nat) : Nat :=
  if fpVal f x = .nan ∨ fpVal f y = .nan then fpNan f else if fpKey f x ≤ fpKey f y then x else y
def fpMaxi (f : Nat × Nat) (x y : Nat) : Nat :=
  if fpVal f x = .nan ∨ fpVal f y = .nan then fpNan f else if fpKey f x ≤ fpKey f y then y else x

/-- Every NaN delivered is the canonical one (R468). -/
def fpCanon (f : Nat × Nat) (x : Nat) : Nat := if fpVal f x = .nan then fpNan f else x

/-! Integers with guard bits (R466) -/

/-- Two's complement. -/
def toSigned (w x : Nat) : Int := if x % 2 ^ w < 2 ^ (w - 1) then (x % 2 ^ w : Nat) else (x % 2 ^ w : Nat) - (2 ^ w : Nat)
def ofSigned (w : Nat) (v : Int) : Nat := (v % (2 ^ w : Nat)).toNat

/-- The number of bits of a TYPE; of its accumulator; of its up element (Table COL-1). -/
def intBits (ty : Nat) : Nat := if ty = 0 then 32 else 64
def accBits (ty : Nat) : Nat := if ty = 0 then 48 else 80
def upBits (ty : Nat) : Nat := if ty = 0 then 64 else 128
/-- Value of an image of `w` bits of a TYPE. -/
def intVal (ty w x : Nat) : Int := if ty = 2 then (x % 2 ^ w : Nat) else toSigned w x
/-- Least and greatest value of `w` bits of a TYPE. -/
def intLo (ty w : Nat) : Int := if ty = 2 then 0 else -(2 ^ (w - 1) : Nat)
def intHi (ty w : Nat) : Int := if ty = 2 then (2 ^ w : Nat) - 1 else (2 ^ (w - 1) : Nat) - 1

/-- An accumulator and OVF as an up element. -/
def accElem (ty : Nat) (v : Int) (ovf : Bool) : Nat :=
  ofSigned (upBits ty - 1) v + (if ovf then 2 ^ (upBits ty - 1) else 0)
def accVal (ty x : Nat) : Int := intVal ty (accBits ty) x
def accOvf (ty x : Nat) : Bool := x / 2 ^ (upBits ty - 1) % 2 == 1

/-- A combine of two accumulators (R466). -/
def accAdd (ty x y : Nat) : Nat :=
  let r := accVal ty x + accVal ty y
  let w := accBits ty
  let out := decide (r < intLo ty w ∨ intHi ty w < r)
  accElem ty (max (intLo ty w) (min r (intHi ty w))) (out || accOvf ty x || accOvf ty y)

/-- What the root delivers of an accumulator, and whether it is flagged (R466). -/
def accResult (ty x : Nat) : Nat × Bool :=
  let v := accVal ty x
  let w := intBits ty
  if accOvf ty x then (ofSigned w (if ty ≠ 2 ∧ v < 0 then intLo ty w else intHi ty w), true)
  else if v < intLo ty w then (ofSigned w (intLo ty w), true)
  else if intHi ty w < v then (ofSigned w (intHi ty w), true)
  else (ofSigned w v, false)

/-! The exact grid (R469, R472) -/

/-- Codes of a grid value. -/
def gridNan : Int := -(2 ^ 255 : Nat)
def gridSatN : Int := -(2 ^ 255 : Nat) + 1
def gridSatP : Int := (2 ^ 255 : Nat) - 1

/-- e(x) of a finite non-zero value. -/
def expOf (f : Nat × Nat) (x : Nat) : Option Int :=
  match fpVal f x with
  | .fin _ m k => if m = 0 then none else some ((Nat.log2 m : Int) + k)
  | _ => none

/-- The exponent word of a block: the greatest e(x), or EMPTY. -/
def expWord (f : Nat × Nat) (xs : List Nat) : Nat :=
  match xs.filterMap (expOf f) with
  | [] => 0x8000
  | e :: es => ofSigned 16 (es.foldl max e)

/-- A leaf's grid value for block exponent `e`; `steeped` sends SAT for what lies beyond the grid (R472). -/
def gridLeaf (f : Nat × Nat) (e : Int) (steeped : Bool) (x : Nat) : Nat :=
  let a : Int := match fpVal f x with
    | .nan | .inf _ => gridNan
    | .fin neg m k =>
      let n := scaleRound m (k + 215 - e)
      if steeped ∧ 2 ^ 216 ≤ n then if neg then gridSatN else gridSatP
      else if neg then -(n : Int) else n
  ofSigned 256 a

/-- A combine of two grid values. -/
def gridAdd (x y : Nat) : Nat :=
  let a := toSigned 256 x
  let b := toSigned 256 y
  let sat (v : Int) : Bool := v == gridSatN || v == gridSatP
  let r : Int :=
    if a = gridNan ∨ b = gridNan then gridNan
    else if sat a ∧ sat b then if a = b then a else gridNan
    else if sat a then a
    else if sat b then b
    else if a + b ≤ gridSatN then gridSatN
    else if gridSatP ≤ a + b then gridSatP
    else a + b
  ofSigned 256 r

/-- A grid value is a SAT code. -/
def gridSat (x : Nat) : Bool := toSigned 256 x == gridSatN || toSigned 256 x == gridSatP

/-- What the root delivers of a grid value, and whether it is flagged. -/
def gridResult (f : Nat × Nat) (e : Int) (x : Nat) : Nat × Bool :=
  let a := toSigned 256 x
  if a = gridNan then (fpNan f, false)
  else if a = gridSatN then (fpSign f true + fpMax f, true)
  else if a = gridSatP then (fpMax f, true)
  else
    let m := fpRound f a.natAbs (e - 215)
    let neg := decide (a < 0)
    if fpInf f ≤ m then (fpSign f neg + fpMax f, true) else (fpSign f neg + m, false)

/-! Elements (R455, R456, Table COL-2) -/

/-- The identity of an operation, as an element of TYPE. -/
def identElem (cop ty : Nat) : Nat :=
  let f := fpFmt ty
  match cop with
  | 1 => if 3 ≤ ty then fpInf f else ofSigned (intBits ty) (intHi ty (intBits ty))
  | 2 => if 3 ≤ ty then fpSign f true + fpInf f else ofSigned (intBits ty) (intLo ty (intBits ty))
  | 3 => 2 ^ (8 * typeBytes ty) - 1
  | _ => 0

/-- A local member's element of TYPE as an up element; `e` is the block exponent of a grid sum. -/
def toUp (cop ty mode : Nat) (e : Int) (x : Nat) : Nat :=
  if onGrid cop ty mode then gridLeaf (fpFmt ty) e (mode == 2) x
  else if cop ≠ 0 then x
  else if ty < 3 then accElem ty (intVal ty (intBits ty) x) false
  else if ty = 3 then x * 2 ^ 16
  else x

/-- Two up elements are combined. -/
def combine (cop ty mode x y : Nat) : Nat :=
  let f := fpFmt (if ty = 3 ∧ cop = 0 then 4 else ty)
  match cop with
  | 0 => if onGrid cop ty mode then gridAdd x y else if ty < 3 then accAdd ty x y else fpAdd f x y
  | 1 => if 3 ≤ ty then fpMin f x y else if intVal ty (intBits ty) x ≤ intVal ty (intBits ty) y then x else y
  | 2 => if 3 ≤ ty then fpMaxi f x y else if intVal ty (intBits ty) x ≤ intVal ty (intBits ty) y then y else x
  | 3 => x &&& y
  | 4 => x ||| y
  | _ => x ^^^ y

/-- An FP32 number rounded to BF16, ties to even (R468). -/
def toBf16 (x : Nat) : Nat :=
  match fpVal (8, 23) x with
  | .nan => fpNan (8, 7)
  | .inf neg => fpSign (8, 7) neg + fpInf (8, 7)
  | .fin neg m k => fpSign (8, 7) neg + min (fpInf (8, 7)) (fpRound (8, 7) m k)

/-- An up element at the root as a down element, and whether it is flagged. -/
def toDown (cop ty mode : Nat) (e : Int) (x : Nat) : Nat × Bool :=
  if onGrid cop ty mode then gridResult (fpFmt ty) e x
  else if ty < 3 then if cop = 0 then accResult ty x else (x, false)
  else if cop = 0 ∧ ty = 3 then (toBf16 x, false)
  else (fpCanon (fpFmt ty) x, false)

/-- The identity of an operation as a steeped slot (R471): grid value 0 for floating SUM. -/
def identSlot (cop ty : Nat) : Nat := if cop = 0 then 0 else identElem cop ty

/-- A contribution arrives at a slot: OVF, a SAT code or saturation flags it (R472). -/
def slotFlag (cop ty x : Nat) : Bool :=
  cop == 0 && (if 3 ≤ ty then gridSat x else accOvf ty x)

/-- Elements of `n` bytes each. -/
def elemsOf (n : Nat) : Nat → List Byte → List Nat
  | 0, _ => []
  | k + 1, bs => natOfBytes (bs.take n) :: elemsOf n k (bs.drop n)
/-- The bytes of elements. -/
def elemBytes (n : Nat) (xs : List Nat) : List Byte := xs.flatMap (fun x => bytesOf (BitVec.ofNat (8 * n) x) n)

/-- Elements cut into blocks of 16. -/
def blocks16 : Nat → List Nat → List (List Nat)
  | 0, _ => []
  | n + 1, xs => if xs.isEmpty then [] else xs.take 16 :: blocks16 n (xs.drop 16)

end Sys2Proof.Machine
end

