-- ==== Sys2Proof/Config.lean ====
section
/-! DEFINITION. The free values of the model: what the manual leaves open, as constants without a body.
Each is applied to a plain number that the state holds and advances (`State.draws`, a port's count of
epochs), so nothing can be proved of one draw's value.  DESIGN CHOICE, notes/assumptions/2.md. -/

namespace Sys2Proof.Config

/-- The 16-bit draw of a RED decision (R160): uniform over 0–65,535, its sequence not stated. -/
opaque redDraw : Nat → BitVec 16
/-- The 12-bit draw of the detour choice (R182), its sequence not stated. -/
opaque routeDraw : Nat → BitVec 12
/-- The raw 16 bits from which a port draws its LINK_EPOCH (R124), by port and number of the draw. -/
opaque epochDraw : Nat → Nat → BitVec 16
/-- The identifier, start delay and duration that a requester chooses for a calm window (R92, R93). -/
opaque calmChoice : Nat → BitVec 40
/-- The server challenge of an OPEN, 48 random bytes (R592). -/
opaque challenge : Nat → BitVec 384
/-- The clock of an island (host-port controllers 0–3, the caddy's 4) runs when an entry meets it (R254): by island and draw. -/
opaque islandRuns : Nat → Nat → Bool
/-- HECC, a SEC-DED check over the other bits of a ring header (Table RNG-2), its code not stated. -/
opaque ringHecc : BitVec 120 → BitVec 8
/-- The jittered reload of the sampling countdown (R642). -/
opaque jitterDraw : Nat → BitVec 32
/-- BUILD and VERSION of the service firmware that SERVICE_IDENT reports (R361). -/
opaque serviceIdent : Nat → BitVec 64
/-- Fixed delays between the link layer and the balls, by port, in 2⁻³² ns (R622): on transmission, on reception. -/
opaque txDelay : Nat → Nat
opaque rxDelay : Nat → Nat
/-- SHA-384, named and not laid out by the manual (R592, R602): left as a function without a body. -/
opaque sha384 : List Byte → BitVec 384
/-- A message's TAG, its AES-256 CMAC under a session's key (R560): by the draw that gave the session's challenge. -/
opaque fdpTag : Nat → List Byte → BitVec 64
/-- The maker's public key, X then Y each big-endian, in slot 0 of ROLE_KEY; the manual gives no value (R588, R590). -/
opaque makerKey : BitVec 768
/-- DEVICE_CERT, 200 bytes, by the number of device keys generated (R589). -/
opaque deviceCert : Nat → BitVec 1600
/-- A number the manual leaves open in any other place that a log entry names. -/
opaque openValue : Nat → BitVec 64
/-- Contents of a queue's context as the device writes them to the store, by context and draw (R286, R287); free, log 56. -/
opaque contextBody : Nat → Nat → BitVec 480
/-- What the device writes into a peer context's record of the store (R447): record, draw. -/
opaque peerRecord : Nat → Nat → BitVec 8192
/-- STEEP_EXP as a device that is not the root of a steeped context takes it, by context (R472): COLL_STEEP stands at the root alone
and nothing says how its leaves come to know it; free, log 62. -/
opaque leafExp : Nat → BitVec 12
/-- Parity symbol of a codeword's message (R72): the code's field and generator are not stated; free, log 57. -/
opaque rsParity : List Nat → Nat → BitVec 10
/-- Codewords that a port's FEC corrects, those it cannot, and pattern errors it counts within a tick (R90, Table CTR-1), by draw. -/
opaque fecEvents : Nat → Nat
/-- Engine tokens that an item spends (R633, SLICE event 10), by draw; free, log 59. -/
opaque tokensSpent : Nat → Nat
/-- A drawn epoch is never zero (R124). -/
def nonZero (v : BitVec 16) : BitVec 16 := if v = 0 then 1 else v

/-- The `n`-th LINK_EPOCH of a port: never zero and never the one before it (R124), otherwise open. -/
def linkEpoch (p : Nat) : Nat → BitVec 16
  | 0 => nonZero (epochDraw p 0)
  | n + 1 =>
    let v := nonZero (epochDraw p (n + 1))
    if v = linkEpoch p n then nonZero (v + 1) else v

end Sys2Proof.Config
end

