-- ==== Sys2Proof/Machine/Table.lean ====
section
/-! DEFINITION. Sparse tables and byte memories: sorted lists of pairs in one canonical form (keys strictly
rising, no entry equal to what an unlisted key reads as), so that equal tables are equal data. -/

namespace Sys2Proof.Machine

/-- A sparse table: the entries that differ from the default, keys strictly rising. -/
abbrev Table (α : Type) := List (Nat × α)

/-- The entry at a key, or the default. -/
def Table.get {α : Type} (d : α) : Table α → Nat → α
  | [], _ => d
  | (k', v) :: t, k => if k' = k then v else Table.get d t k

/-- Remove the entry at a key. -/
def Table.erase {α : Type} : Table α → Nat → Table α
  | [], _ => []
  | (k', v) :: t, k => if k' = k then t else (k', v) :: Table.erase t k

/-- Put an entry at a key, keeping the keys rising. -/
def Table.insert {α : Type} : Table α → Nat → α → Table α
  | [], k, v => [(k, v)]
  | (k', v') :: t, k, v =>
    if k < k' then (k, v) :: (k', v') :: t
    else if k = k' then (k, v) :: t
    else (k', v') :: Table.insert t k v

/-- Write a table: writing the default removes the entry. -/
def Table.set {α : Type} [DecidableEq α] (d : α) (t : Table α) (k : Nat) (v : α) : Table α :=
  if v = d then t.erase k else t.insert k v

/-- Update one entry. -/
def Table.upd {α : Type} [DecidableEq α] (d : α) (t : Table α) (k : Nat) (f : α → α) : Table α :=
  Table.set d t k (f (Table.get d t k))

/-- Keys strictly rising, all above `lo`. -/
def Table.risingFrom {α : Type} : Option Nat → Table α → Bool
  | _, [] => true
  | none, (k, _) :: t => Table.risingFrom (some k) t
  | some lo, (k, _) :: t => decide (lo < k) && Table.risingFrom (some k) t

/-- The canonical form. -/
def Table.wf {α : Type} [DecidableEq α] (d : α) (t : Table α) : Bool :=
  Table.risingFrom none t && t.all (fun e => decide (e.2 ≠ d))

/-- A byte memory: the bytes that differ from zero, addresses strictly rising. -/
abbrev Memory := List Host.Cell

/-- What an address that is not listed reads as (every memory of the device is zeroised at reset, R627). -/
def Memory.blank : Byte := 0

/-- One byte of a memory. -/
def Memory.read (m : Memory) (a : Nat) : Byte := Table.get Memory.blank m a
/-- Write one byte. -/
def Memory.write (m : Memory) (a : Nat) (b : Byte) : Memory := Table.set Memory.blank m a b
/-- Write bytes at rising addresses. -/
def Memory.writeAll : Memory → Nat → List Byte → Memory
  | m, _, [] => m
  | m, a, b :: bs => Memory.writeAll (m.write a b) (a + 1) bs
/-- Read `n` bytes. -/
def Memory.readAll (m : Memory) (a : Nat) : Nat → List Byte
  | 0 => []
  | n + 1 => m.read a :: Memory.readAll m (a + 1) n
/-- The canonical form of a memory. -/
def Memory.wf (m : Memory) : Bool := Table.wf Memory.blank m

end Sys2Proof.Machine
end

