-- ==== Sys2Proof/Machine/Registers.lean ====
section
/-! DEFINITION. The objects of the dictionary that hold stored values: index, subindexes, instances, width,
defaults, the fields each role may write, and their persistence and effect (R554–R559, R7, R8).  Read-only
objects that report live state are computed elsewhere; they have descriptors here too. -/

namespace Sys2Proof.Machine

/-- When a written value governs (Table MGT-3). -/
inductive Effect where
  | immediate | onCommit | onReset
  deriving DecidableEq, Repr

/-- An object, or a family of objects of one layout (Table MGT-4). -/
structure Reg where
  /-- index of instance 0 -/
  obj     : Nat
  /-- subindex, or the first of `subs` subindexes -/
  sub     : Nat
  /-- distance between the indexes of two instances -/
  step    : Nat := 0
  insts   : Nat := 1
  /-- index that serves instance 48, the twin port; 0 for none -/
  twin    : Nat := 0
  subs    : Nat := 1
  /-- entries of a TABLE; 0 for an object that is no TABLE -/
  entries : Nat := 0
  /-- type code of Table MGT-2 of the value, or of an entry -/
  ty      : Nat := 4
  /-- width in bits of the value, or of an entry -/
  bits    : Nat := 32
  dflt    : Nat := 0
  /-- defaults that differ: instance (or none for all), entry, value -/
  dfltX   : List (Option Nat × Nat × Nat) := []
  /-- bits that maker, installer and operator may write -/
  mw      : Nat := 0
  iw      : Nat := 0
  ow      : Nat := 0
  /-- bits that are RO and not reserved -/
  ro      : Nat := 0
  wo      : Nat := 0
  w1c     : Nat := 0
  rc      : Nat := 0
  caddy   : Bool := false
  eff     : Effect := .immediate
  audited : Bool := false
  /-- reported from live state, not stored -/
  live    : Bool := false
  /-- an object of a slice, its instance: the installer writes it for slice 0, the operator for the others (R288) -/
  sliced  : Bool := false
  deriving DecidableEq, Repr

/-- The mask of one field. -/
def fm (hi lo : Nat) : Nat := (2 ^ (hi + 1 - lo) - 1) * 2 ^ lo
/-- The mask of several fields. -/
def fms : List (Nat × Nat) → Nat
  | [] => 0
  | (h, l) :: t => fm h l ||| fms t

/-- The index of an instance. -/
def Reg.index (r : Reg) (i : Nat) : Nat := if i = 48 ∧ r.twin ≠ 0 then r.twin else r.obj + r.step * i

/-- The key of an instance's entry (subindex offset, or TABLE entry) in the dictionary store. -/
def Reg.key (r : Reg) (i e : Nat) : Nat :=
  if r.entries = 0 then (r.index i * 256 + r.sub + e) * 2 ^ 20 else (r.index i * 256 + r.sub) * 2 ^ 20 + e

/-- The default route from stop `e / 64` to stop `e % 64` (Table RNG-3). -/
def ringRouteDefault (e : Nat) : Nat :=
  let s := e / 64
  let d := e % 64
  let short := (d + 64 - s) % 64 ≤ 32
  (if d = s ∨ d = 55 ∨ d = 63 then 0 else 128) + (if short then 0 else 1) + 4 * (if short then 2 else 3)

/-- START, LIMIT and SQUALL rungs, SQUALL_N and SQUALL_WINDOW of a fault source; none for a reserved one (Table FLT-6). -/
def faultRow (n : Nat) : Option (Nat × Nat × Nat × Nat × Nat) :=
  let plain (start limit : Nat) := some (start, limit, start, 0, 1000)
  if n < 0x188 then
    match n % 8 with
    | 0 => some (0, 1, 1, 8, 1000)
    | 1 => some (0, 1, 1, 16, 1000)
    | 2 => plain 1 1
    | 3 => some (0, 1, 1, 64, 1)
    | 4 => plain 2 2
    | 5 => some (0, 1, 1, 8, 1)
    | _ => none
  else if n < 0x190 then none
  else if n < 0x210 then (if n % 2 = 0 then plain 1 1 else some (0, 1, 1, 16, 1))
  else if n < 0x510 then plain 1 1
  else if n < 0x520 then
    match n % 4 with
    | 0 => some (0, 1, 1, 8, 1000)
    | 1 => some (0, 1, 1, 8, 1)
    | _ => plain 1 1
  else if n = 0x522 then some (1, 1, 1, 16, 10000)
  else if n < 0x524 then plain 1 1
  else if n < 0x530 then none
  else if n = 0x530 ∨ n = 0x532 ∨ n = 0x533 then plain 3 3
  else if n = 0x531 then some (0, 1, 1, 64, 1)
  else if n < 0x537 then some (0, 1, 1, 8, 1)
  else if n = 0x539 then some (0, 1, 1, 100, 1000)
  else if n ≤ 0x53A then plain 1 1
  else if n < 0x540 then none
  else if n ≤ 0x551 then plain 1 3
  else none

/-- The default FAULT_REACTION entry of a source (R548, Table FLT-11). -/
def faultDefault (n : Nat) : Nat :=
  match faultRow n with
  | none => 0
  | some (start, limit, squall, count, window) =>
    start * 2 ^ 60 + limit * 2 ^ 57 + squall * 2 ^ 54 + count * 2 ^ 46 + window * 2 ^ 31 + 10000 * 2 ^ 16 + 1000 * 2
      + (if n = 0x53A then 1 else 0)

/-- The default of an instance's entry. -/
def Reg.default (r : Reg) (i e : Nat) : Image :=
  if r.obj = 0x53F0 then BitVec.ofNat 1024 (ringRouteDefault e)
  else if r.obj = 0x6001 then BitVec.ofNat 1024 (faultDefault e)
  else if r.obj = 0x1100 ∧ e = 0 then BitVec.ofNat 1024 (1 + at' 32 Config.makerKey.toNat) else
  BitVec.ofNat 1024
    (match r.dfltX.find? (fun x => (x.1 == none || x.1 == some i) && x.2.1 == e) with
     | some x => x.2.2
     | none => r.dflt)

/-- Every bit that some role may write. -/
def Reg.rw (r : Reg) : Nat := r.mw ||| r.iw ||| r.ow

namespace R

/-! Chapters 0 and 1 -/
/-- PART_IDENT (R3). -/
def partIdent : Reg := { obj := 0x1000, sub := 1, ro := fm 31 4, live := true }
/-- NODE_ADDR (R22). -/
def nodeAddr : Reg := { obj := 0x1002, sub := 1, iw := fms [(31, 31), (19, 0)], caddy := true, eff := .onReset }
/-- GROUP_SHAPE (R23). -/
def groupShape : Reg :=
  { obj := 0x1002, sub := 2, dflt := 1, iw := fm 7 0, caddy := true, eff := .onReset }

/-! Chapter 3 -/
/-- LANE_CTL (R85). -/
def laneCtl : Reg :=
  { obj := 0x2001, sub := 1, step := 0x40, insts := 48, twin := 0x2C01, dflt := 0x10000
    iw := fm 1 1, ow := fms [(23, 8), (2, 2), (0, 0)], wo := fms [(2, 2), (0, 0)], caddy := true }
/-- EQ_SELECT (R82). -/
def eqSelect : Reg :=
  { obj := 0x2001, sub := 2, step := 0x40, insts := 48, twin := 0x2C01, ty := 2, bits := 8, iw := fm 2 0
    caddy := true, eff := .onCommit }
/-- LANE_STATUS (R86). -/
def laneStatus : Reg :=
  { obj := 0x2001, sub := 3, step := 0x40, insts := 48, twin := 0x2C01
    ro := fms [(31, 26), (23, 0)], rc := fm 7 0, live := true }
/-- TEST_PATTERN (R90). -/
def testPattern : Reg :=
  { obj := 0x2001, sub := 4, step := 0x40, insts := 48, twin := 0x2C01, dflt := 0x1FF00
    iw := fms [(16, 8), (5, 0)], ow := fms [(16, 8), (5, 0)] }
/-- EQ_PROFILE[0]–[7] (R80). -/
def eqProfile : Reg :=
  { obj := 0x2002, sub := 1, step := 0x40, insts := 48, twin := 0x2C02, subs := 8, ty := 12, bits := 704
    iw := fm 703 0, caddy := true, eff := .onCommit }

/-! Chapter 4 -/
/-- LINK_CTL (R140). -/
def linkCtl : Reg :=
  { obj := 0x2004, sub := 1, step := 0x40, insts := 48, twin := 0x2C04, ow := 1, wo := 1 }
/-- LINK_STATUS (R143). -/
def linkStatus : Reg :=
  { obj := 0x2004, sub := 2, step := 0x40, insts := 48, twin := 0x2C04, ty := 5, bits := 64
    ro := fms [(63, 48), (35, 0)], live := true }
/-- LINK_DOWN_RULE (R141). -/
def linkDownRule : Reg :=
  { obj := 0x2004, sub := 3, step := 0x40, insts := 48, twin := 0x2C04
    dflt := 20 * 2 ^ 22 + 10 * 2 ^ 8 + 1, iw := fms [(31, 22), (15, 0)], caddy := true, eff := .onCommit }
/-- LINK_TIMERS (R141). -/
def linkTimers : Reg :=
  { obj := 0x2004, sub := 4, step := 0x40, insts := 48, twin := 0x2C04
    dflt := 10 * 2 ^ 16 + 20 * 2 ^ 8 + 40, iw := fm 23 0, caddy := true, eff := .onCommit }
/-- VC_CREDIT[0]–[7] (R112). -/
def vcCredit : Reg :=
  { obj := 0x2005, sub := 1, step := 0x40, insts := 48, twin := 0x2C05, subs := 8, dflt := 0x23A0021
    dfltX := (List.range 8).map (fun e => (some 48, e, 0x0BA0021))
    iw := fms [(27, 16), (7, 0)], caddy := true, eff := .onCommit }

/-! Chapter 5 -/
/-- CONG_MODE[0]–[7] (R163). -/
def congMode : Reg :=
  { obj := 0x3001, sub := 1, subs := 8, ty := 3, bits := 16, dflt := 0x45, dfltX := [(none, 0, 0x44)]
    ow := fms [(7, 4), (2, 0)], caddy := true }
/-- GREEN_PROFILE[0]–[7] (R164). -/
def greenProfile : Reg :=
  { obj := 0x3002, sub := 1, subs := 8, ty := 5, bits := 64, dflt := 0x1A00C00040, ow := fm 39 0
    caddy := true }
/-- YELLOW_PROFILE[0]–[7] (R164). -/
def yellowProfile : Reg := { greenProfile with obj := 0x3003, dflt := 0x4000800020 }
/-- RED_PROFILE[0]–[7] (R164). -/
def redProfile : Reg := { greenProfile with obj := 0x3004, dflt := 0x8000400010 }
/-- BACKLOG (R165). -/
def backlog : Reg := { obj := 0x3005, sub := 1, entries := 488, ro := fm 31 0, live := true }
/-- INPUT_FILL[0]–[60] (R165). -/
def inputFill : Reg := { obj := 0x3006, sub := 1, subs := 61, ro := fm 12 0, live := true }

/-! Chapter 6 -/
/-- PORT_ROLE[0]–[47] (R167). -/
def portRole : Reg :=
  { obj := 0x3400, sub := 1, subs := 48, dflt := 0xEFFF0000, iw := fms [(31, 29), (27, 12)], caddy := true }
/-- ROUTE_POLICY (R195). -/
def routePolicy : Reg := { obj := 0x3401, sub := 1, dflt := 0x20F041, ow := fm 23 0, caddy := true }
/-- PRESS_LEVELS (R195). -/
def pressLevels : Reg :=
  { obj := 0x3401, sub := 2, ty := 5, bits := 64, dflt := 0x0C0040010, ow := fm 35 0, caddy := true }
/-- GROUP_ROUTE, the active bank (R172). -/
def groupRoute : Reg :=
  { obj := 0x3410, sub := 1, entries := 4096, ty := 5, bits := 64, dflt := 0xFFFFFFFFFFFF, ro := fm 63 0
    caddy := true, eff := .onCommit }
/-- GROUP_ROUTE_STAGE (R172). -/
def groupRouteStage : Reg :=
  { obj := 0x3411, sub := 1, entries := 4096, ty := 5, bits := 64, dflt := 0xFFFFFFFFFFFF
    ow := fms [(63, 63), (55, 52), (47, 0)] }
/-- ROUTE_SWAP_CTL (R198). -/
def routeSwapCtl : Reg := { obj := 0x3412, sub := 1, ow := 1 }
/-- KEY_TABLE, the active bank (R189). -/
def keyTable : Reg :=
  { obj := 0x3420, sub := 1, entries := 4096, ro := fm 31 0, caddy := true, eff := .onCommit }
/-- KEY_TABLE_STAGE (R189). -/
def keyTableStage : Reg :=
  { obj := 0x3421, sub := 1, entries := 4096, ow := fms [(31, 31), (29, 22), (19, 0)] }
/-- KEY_INSERT (R189). -/
def keyInsert : Reg :=
  { obj := 0x3421, sub := 2, ow := fms [(31, 31), (29, 22), (19, 0)], wo := fm 31 0 }
/-- STRAINER_DEFAULT (R192). -/
def strainerDefault : Reg :=
  { obj := 0x3422, sub := 1, ty := 3, bits := 16, dflt := 0x555, ow := fm 11 0, caddy := true }

/-! Chapter 7 -/
/-- EGRESS_CLASS[0]–[7] (R205). -/
def egressClass : Reg :=
  { obj := 0x3100, sub := 1, step := 1, insts := 61, subs := 8, dflt := 0x2000
    dfltX := [(none, 0, 0x22000)], ow := fms [(17, 17), (15, 0)], caddy := true }
/-- EGRESS_OVERHEAD (R204). -/
def egressOverhead : Reg :=
  { obj := 0x3100, sub := 9, step := 1, insts := 61, dflt := 0x10015, ow := fm 16 0, caddy := true }
/-- EGRESS_DEFICIT (R209). -/
def egressDeficit : Reg :=
  { obj := 0x3100, sub := 10, step := 1, insts := 61, entries := 8, ty := 6, ro := fm 31 0, live := true }
/-- SHAPER[0]–[7] (R210). -/
def shaper : Reg :=
  { obj := 0x3140, sub := 1, step := 1, insts := 61, subs := 8, ty := 5, bits := 64, dflt := 0x4000 * 2 ^ 24
    ow := fms [(63, 63), (47, 0)], caddy := true }
/-- GATE_CTL (R219). -/
def gateCtl : Reg := { obj := 0x3180, sub := 1, step := 1, insts := 48, ow := 1 }
/-- GATE_LOAD (R219): a DOMAIN of at most 4 + 4 × 256 bytes; its command carries the value. -/
def gateLoad : Reg :=
  { obj := 0x3180, sub := 2, step := 1, insts := 48, ty := 12, bits := 8224, ow := fm 8223 0, wo := fm 8223 0 }
/-- GATE_SWITCH (R219). -/
def gateSwitch : Reg :=
  { obj := 0x3180, sub := 3, step := 1, insts := 48, ty := 5, bits := 64, ow := fm 63 0, wo := fm 63 0 }
/-- GATE_STATUS (R219). -/
def gateStatus : Reg :=
  { obj := 0x3180, sub := 4, step := 1, insts := 48, ty := 5, bits := 64
    ro := fms [(63, 53), (51, 40), (23, 0)], live := true }
/-- GATE_OVERRIDE[0]–[3] (R219, R231). -/
def gateOverride : Reg :=
  { obj := 0x3180, sub := 5, step := 1, insts := 48, subs := 4, ty := 10, bits := 192
    dflt := (2 ^ 64 - 1) * 2 ^ 64, ow := fm 143 0, eff := .onCommit }
/-- GATE_OVERRIDE_STOP[0]–[3] (R219). -/
def gateOverrideStop : Reg :=
  { obj := 0x3180, sub := 9, step := 1, insts := 48, subs := 4, ty := 5, bits := 64, ow := fm 63 0
    wo := fm 63 0 }
/-- INGRESS_POLICER[0]–[7] (R212). -/
def ingressPolicer : Reg :=
  { obj := 0x31C0, sub := 1, step := 1, insts := 48, subs := 8, ty := 10, bits := 128, dflt := 2 ^ 126
    ow := fms [(127, 126), (119, 16)], caddy := true }
/-- INJ_POLICER of a slice (R212). -/
def injPolicer : Reg :=
  { obj := 0x3200, sub := 1, step := 1, insts := 256, ty := 10, bits := 128
    dflt := 2 ^ 126 + 0xFC * 2 ^ 112, ow := fms [(127, 126), (119, 16)], caddy := true }
/-- INJ_SHAPER of a slice (R210). -/
def injShaper : Reg := { shaper with obj := 0x3200, sub := 2, insts := 256, subs := 1 }
/-- INJ_OVERHEAD (R204). -/
def injOverhead : Reg := { obj := 0x3300, sub := 1, dflt := 0x10015, ow := fm 16 0, caddy := true }

/-! Chapter 8 -/
/-- RING_ROUTE (R237). -/
def ringRoute : Reg :=
  { obj := 0x53F0, sub := 1, entries := 4096, ty := 2, bits := 8, iw := fms [(7, 7), (3, 0)], caddy := true
    eff := .onReset }
/-- RING_CTL (R250). -/
def ringCtl : Reg :=
  { obj := 0x53F1, sub := 1, dflt := 0x0144010F, iw := fms [(31, 8), (3, 0)], caddy := true }
/-- RING_STATUS (R251): IN_SERVICE is RING_CTL.RING_ENABLE. -/
def ringStatus : Reg :=
  { obj := 0x53F1, sub := 2, ow := fm 7 4, iw := fm 7 4, w1c := fm 7 4, ro := fm 3 0 }
/-- CROSSING_OVERRUN (R256). -/
def crossingOverrun : Reg :=
  { obj := 0x53F2, sub := 1, ty := 5, bits := 64, ow := fm 55 0, iw := fm 55 0, w1c := fm 55 0 }

/-! Chapter 9 -/
/-- HOST_CTL of a host port (R259). -/
def hostCtl : Reg :=
  { obj := 0x7800, sub := 1, step := 0x40, insts := 4, dflt := 0xFF00, iw := fms [(24, 8), (2, 0)], caddy := true
    eff := .onReset }
/-- HOST_STATUS (R274). -/
def hostStatus : Reg :=
  { obj := 0x7800, sub := 2, step := 0x40, insts := 4, ty := 5, bits := 64, ro := fm 63 36, live := true }
/-- HOST_PM (R275). -/
def hostPm : Reg :=
  { obj := 0x7800, sub := 3, step := 0x40, insts := 4, dflt := 0x0A142001, ow := fms [(31, 8), (0, 0)]
    caddy := true }
/-- FUNC_MAP of a host port (R264). -/
def funcMap : Reg :=
  { obj := 0x7801, sub := 1, step := 0x40, insts := 4, entries := 512, dfltX := [(none, 0, 0x80400000),
      (none, 256, 0x80400000)], iw := fms [(31, 31), (27, 16), (7, 0)], caddy := true }

/-! Chapter 10 -/
/-- SLICE_CTL (R289). -/
def sliceCtl : Reg :=
  { obj := 0x4000, sub := 1, step := 0x10, insts := 256, ow := 7, wo := 7, sliced := true }
/-- SLICE_STATUS (R291). -/
def sliceStatus : Reg :=
  { obj := 0x4000, sub := 2, step := 0x10, insts := 256, ty := 5, bits := 64, ro := fm 63 8, live := true }
/-- SLICE_LIMITS (R292). -/
def sliceLimits : Reg :=
  { obj := 0x4000, sub := 3, step := 0x10, insts := 256, ty := 5, bits := 64
    ow := fms [(48, 32), (30, 16), (12, 0)], caddy := true, sliced := true }
/-- SLICE_KEYS (R293). -/
def sliceKeys : Reg :=
  { obj := 0x4000, sub := 4, step := 0x10, insts := 256, entries := 16, ow := fms [(31, 31), (19, 0)]
    caddy := true, sliced := true }
/-- SLICE_STATIONS (R294). -/
def sliceStations : Reg :=
  { obj := 0x4000, sub := 5, step := 0x10, insts := 256, entries := 16, ow := fms [(31, 31), (20, 0)]
    caddy := true, sliced := true }
/-- QUEUE_CMD (R296). -/
def queueCmd : Reg :=
  { obj := 0x4000, sub := 6, step := 0x10, insts := 256, ty := 12, bits := 256, ow := fm 255 0, wo := fm 255 0
    sliced := true }
/-- WAKE_TEST (R295). -/
def wakeTest : Reg :=
  { obj := 0x4000, sub := 7, step := 0x10, insts := 256, ty := 1, bits := 8, ow := 1, wo := 1, sliced := true }
/-- CTX_STORE, of slice 0 only (R286). -/
def ctxStore : Reg :=
  { obj := 0x4000, sub := 8, ty := 5, bits := 64, iw := fms [(63, 63), (57, 55), (51, 12)], caddy := true
    eff := .onReset }

/-! Chapter 11 -/
/-- ENGINE_SHARE (R336). -/
def engineShare : Reg :=
  { obj := 0x4002, sub := 1, step := 0x10, insts := 256, ty := 5, bits := 64, dflt := 0xFFFFFFFF02000100
    ow := fms [(63, 32), (25, 0)], caddy := true, sliced := true }
/-- HOST_SHARE (R336). -/
def hostShare : Reg :=
  { obj := 0x4002, sub := 2, step := 0x10, insts := 256, dflt := 0x100, ow := fm 15 0, caddy := true
    sliced := true }
/-- HOST_FROST (R336). -/
def hostFrost : Reg :=
  { obj := 0x4002, sub := 3, step := 0x10, insts := 256, ow := 1, ro := fm 1 1, sliced := true }
/-- ENGINE_USAGE (R336). -/
def engineUsage : Reg :=
  { obj := 0x4002, sub := 4, step := 0x10, insts := 256, ty := 5, bits := 64, ro := fm 57 0, live := true }
/-- ENGINE_CTL (R341). -/
def engineCtl : Reg := { obj := 0x5000, sub := 1, dflt := 0xC0083220, iw := fms [(31, 30), (23, 0)], caddy := true }
/-- ENGINE_STATUS (R341). -/
def engineStatus : Reg := { obj := 0x5000, sub := 2, entries := 16, ro := fm 31 0, live := true }
/-- ARB_CTL of a host link (R352); instance 2 × port + link. -/
def arbCtl : Reg :=
  { obj := 0x5010, sub := 1, step := 1, insts := 8, dflt := 0x1031B580, ow := fms [(31, 20), (16, 0)]
    caddy := true, eff := .onCommit }
/-- ARB_FROST (R352). -/
def arbFrost : Reg := { obj := 0x5010, sub := 2, step := 1, insts := 8, ow := 1, ro := fm 1 1 }
/-- LOCK_GROUP[0]–[15], which the installer writes (R358). -/
def lockGroupLo : Reg :=
  { obj := 0x5020, sub := 1, subs := 16, ty := 3, bits := 16, dflt := 0x8100, iw := fms [(15, 15), (8, 0)]
    caddy := true }
/-- LOCK_GROUP[16]–[63], which the operator writes (R358). -/
def lockGroupHi : Reg :=
  { obj := 0x5020, sub := 17, subs := 48, ty := 3, bits := 16, ow := fms [(15, 15), (8, 0)], caddy := true }
/-- LOCK_STATE (R358). -/
def lockState : Reg := { obj := 0x5021, sub := 1, entries := 4096, ro := fms [(31, 30), (27, 20), (9, 0)], live := true }
/-- LOCK_BREAK (R358). -/
def lockBreak : Reg := { obj := 0x5021, sub := 2, ty := 3, bits := 16, iw := fm 15 0, wo := fm 15 0 }
/-- SERVICE_CTL[1]–[8] (R360). -/
def serviceCtl : Reg :=
  { obj := 0x5100, sub := 1, subs := 8, dflt := 0x80000000, dfltX := [(none, 0, 0xC0000000), (none, 5, 0xC0000000),
      (none, 6, 0), (none, 7, 0)], iw := fm 31 30, caddy := true, eff := .onReset }
/-- SERVICE_IDENT (R361). -/
def serviceIdent : Reg := { obj := 0x5101, sub := 1, ty := 5, bits := 64, ro := fms [(63, 16), (7, 0)], live := true }

/-! Chapter 12 -/
/-- TRANS_CTL (R380). -/
def transCtl : Reg :=
  { obj := 0x4001, sub := 1, step := 0x10, insts := 256, ty := 5, bits := 64, ow := fms [(61, 59), (57, 12)], caddy := true
    sliced := true }
/-- TRANS_STAGE_TWO (R380): the operator's right depends on TRANS_OWNER. -/
def transStageTwo : Reg :=
  { obj := 0x4001, sub := 2, step := 0x10, insts := 256, ty := 5, bits := 64, dfltX := [(some 0, 0, 2 ^ 63)]
    iw := fms [(63, 61), (51, 12)], ow := fms [(63, 61), (51, 12)], caddy := true }
/-- TRANS_FAULT (R380). -/
def transFault : Reg :=
  { obj := 0x4001, sub := 3, step := 0x10, insts := 256, ty := 5, bits := 64, ro := fm 63 0, rc := fm 63 0 }
/-- TLB_LOAD, TLB_INVAL, TRANS_RETRY (R381): whose right follows the slice and the stage. -/
def tlbLoad : Reg :=
  { obj := 0x5200, sub := 1, ty := 10, bits := 128, iw := fms [(127, 117), (99, 0)], ow := fms [(127, 117), (99, 0)]
    wo := fm 127 0 }
def tlbInval : Reg :=
  { obj := 0x5200, sub := 2, ty := 10, bits := 128, iw := fms [(127, 115), (99, 64), (35, 0)]
    ow := fms [(127, 115), (99, 64), (35, 0)], wo := fm 127 0 }
def transRetry : Reg :=
  { obj := 0x5200, sub := 3, iw := fms [(31, 30), (15, 0)], ow := fms [(31, 30), (15, 0)], wo := fm 31 0 }
/-- TRANS_OWNER and MISS_CTL (R381). -/
def transOwner : Reg := { obj := 0x5200, sub := 4, iw := 1, caddy := true }
def missCtl : Reg := { obj := 0x5200, sub := 5, dflt := 0x0A40, iw := fm 15 0, caddy := true }

/-! Chapter 13 -/
/-- MATCH_CTX (R396). -/
def matchCtx : Reg :=
  { obj := 0x5400, sub := 1, entries := 8192, ty := 5, bits := 64, ow := fms [(63, 63), (57, 0)], caddy := true }
/-- MSG_SLICE_CTL, OVERFLOW_AREA, UNEX_POOL, JOBS and RANK_INVAL of a slice (R413). -/
def msgSliceCtl : Reg :=
  { obj := 0x5500, sub := 1, step := 1, insts := 256, ty := 5, bits := 64, dflt := 0x0008102000000400
    ow := fms [(51, 32), (12, 0)], caddy := true, sliced := true }
def overflowArea : Reg :=
  { obj := 0x5500, sub := 2, step := 1, insts := 256, ty := 5, bits := 64, ow := fms [(63, 63), (51, 12)], caddy := true
    sliced := true }
def unexPool : Reg := { overflowArea with sub := 3 }
def jobs : Reg :=
  { obj := 0x5500, sub := 4, step := 1, insts := 256, entries := 64, ty := 10, bits := 128
    ow := fms [(127, 127), (119, 64), (47, 0)], caddy := true, sliced := true }
def rankInval : Reg :=
  { obj := 0x5500, sub := 5, step := 1, insts := 256, ty := 5, bits := 64, ow := fms [(63, 63), (55, 0)], wo := fm 63 0
    sliced := true }
/-- MSG_CTL (R414). -/
def msgCtl : Reg :=
  { obj := 0x5401, sub := 1, ty := 5, bits := 64, dflt := 0x0004100A00640064, ow := fm 55 0, caddy := true }

/-! Chapter 14 -/
/-- REGION (R416). -/
def region : Reg :=
  { obj := 0x5410, sub := 1, entries := 65536, ty := 10, bits := 128, ow := fms [(127, 122), (119, 112), (103, 90), (87, 0)]
    ro := fm 111 104 }
/-- RMA_CTL (R446). -/
def rmaCtl : Reg :=
  { obj := 0x5411, sub := 1, ty := 5, bits := 64, dflt := 0x070A04006406400A, ow := fm 63 0, caddy := true }
/-- PEER_STORE (R447). -/
def peerStore : Reg :=
  { obj := 0x5411, sub := 2, ty := 5, bits := 64, iw := fms [(63, 57), (51, 12)], caddy := true, eff := .onReset }
/-- RMA_SLICE_CTL of a slice (R448). -/
def rmaSliceCtl : Reg :=
  { obj := 0x5600, sub := 1, step := 1, insts := 256, dflt := 0x0400000F, ow := fms [(26, 16), (3, 0)], caddy := true
    sliced := true }

/-! Chapter 15 -/
/-- COLL_CTX (R480). -/
def collCtx : Reg :=
  { obj := 0x5440, sub := 1, entries := 4096, ty := 10, bits := 128, dflt := 63 * 2 ^ 90 + 5 * 2 ^ 73
    ow := fms [(127, 124), (119, 90), (87, 73), (48, 0)] }
/-- COLL_STATUS, COLL_EPOCH, COLL_ABORT (R481). -/
def collStatus : Reg :=
  { obj := 0x5441, sub := 1, entries := 4096, ty := 5, bits := 64, ro := fms [(63, 38), (23, 0)], live := true }
def collEpoch : Reg := { obj := 0x5441, sub := 2, ty := 5, bits := 64, ow := fms [(43, 32), (23, 0)], wo := fm 63 0 }
def collAbort : Reg := { obj := 0x5441, sub := 3, ty := 3, bits := 16, ow := fm 11 0, wo := fm 15 0 }
/-- COLL_STEEP and COLL_STEEP_CLEAR (R482, R483). -/
def collSteep : Reg :=
  { obj := 0x5442, sub := 1, entries := 4096, ty := 5, bits := 64, ow := fm 63 28, ro := fm 27 11 }
def collSteepClear : Reg := { obj := 0x5442, sub := 2, ow := fms [(31, 31), (11, 0)], wo := fm 31 0 }
/-- COLL_CTL (R484). -/
def collCtl : Reg := { obj := 0x5443, sub := 1, dflt := 0x0808, iw := fm 15 0, caddy := true, eff := .onReset }

/-! Chapter 16 -/
/-- SVC_CTL (R486). -/
def svcCtl : Reg := { obj := 0x5120, sub := 1, dflt := 0x0A00, iw := fms [(15, 8), (0, 0)], caddy := true, eff := .onReset }
/-- MEM_DECODER[0]–[7] (R490). -/
def memDecoder : Reg :=
  { obj := 0x5121, sub := 1, subs := 8, ty := 10, bits := 128, dflt := 4 * 2 ^ 122
    iw := fms [(127, 122), (119, 96), (87, 64), (51, 28)], caddy := true, eff := .onReset }
/-- MEM_STATUS (R489). -/
def memStatus : Reg :=
  { obj := 0x5122, sub := 1, entries := 8, ty := 5, bits := 64, ro := fms [(63, 56), (23, 0)], live := true }
/-- POOL (R493). -/
def pool : Reg :=
  { obj := 0x5123, sub := 1, entries := 1024, ty := 10, bits := 128, dflt := 2 ^ 125
    ow := fms [(124, 124), (119, 112), (94, 64), (51, 21)], ro := fms [(127, 125), (111, 104)], caddy := true }

/-! Chapter 17 -/
/-- TWIN_SLICES (Table TWN-16). -/
def twinSlices : Reg := { obj := 0x7101, sub := 1, entries := 8, iw := fm 31 0, caddy := true }

/-- TWIN_CTL (Table TWN-14). -/
def twinCtl : Reg := { obj := 0x7100, sub := 1, iw := fm 3 0, ow := fm 3 0, wo := fm 3 0, audited := true }
/-- TWIN_STATUS (Table TWN-12). -/
def twinStatus : Reg := { obj := 0x7100, sub := 2, ty := 5, bits := 64, ro := fm 63 0, live := true }
/-- TWIN_POLICY (Table TWN-13). -/
def twinPolicy : Reg :=
  { obj := 0x7100, sub := 3, ty := 5, bits := 64, dflt := 0x0A0AA58A0A, iw := fm 39 0, caddy := true }
/-- TWIN_MISMATCH (Table TWN-15). -/
def twinMismatch : Reg :=
  { obj := 0x7100, sub := 4, ty := 5, bits := 64, ro := fms [(63, 61), (55, 16)], rc := fms [(63, 61), (55, 16)] }
/-- RESYNC_MODE (Table TWN-16). -/
def resyncMode : Reg := { obj := 0x7100, sub := 5, ty := 2, bits := 8, iw := fm 1 0, ow := fm 1 0 }
/-- STAND_IN (Table TWN-9). -/
def standIn : Reg := { obj := 0x7102, sub := 1, entries := 16, ty := 3, bits := 16, ow := fm 15 0, caddy := true }

/-! Chapter 18 -/
/-- FAULT_CTL (Table FLT-8). -/
def faultCtl : Reg := { obj := 0x6000, sub := 1, dflt := 0x0A400000, iw := fm 31 20, caddy := true }
/-- NOTICE_DEST (Table FLT-9). -/
def noticeDest : Reg := { obj := 0x6000, sub := 2, ty := 5, bits := 64, iw := fms [(63, 63), (29, 0)], caddy := true }
/-- FAULT_SUMMARY (Table FLT-10). -/
def faultSummary : Reg :=
  { obj := 0x6000, sub := 3, ty := 5, bits := 64, ro := fms [(63, 58), (47, 0)], rc := fm 11 0, live := true }
/-- FAULT_ACK, FAULT_CLEAR (Table FLT-7), FAULT_FORCE (Table FLT-13). -/
def faultAck : Reg := { obj := 0x6000, sub := 4, ty := 3, bits := 16, iw := fm 10 0, ow := fm 10 0, wo := fm 10 0 }
def faultClear : Reg := { faultAck with sub := 5 }
def faultForce : Reg :=
  { obj := 0x6000, sub := 6, iw := fms [(31, 22), (10, 0)], ow := fms [(31, 22), (10, 0)], wo := fms [(31, 22), (10, 0)] }
/-- FAULT_REACTION (Table FLT-11). -/
def faultReaction : Reg := { obj := 0x6001, sub := 1, entries := 2048, ty := 5, bits := 64, iw := fm 63 0, caddy := true }
/-- FAULT_STATE (Table FLT-12). -/
def faultState : Reg :=
  { obj := 0x6002, sub := 1, entries := 2048, ty := 5, bits := 64, ro := fms [(63, 55), (47, 40), (31, 0)], live := true }
/-- FAULT_LOG, LOG_HEAD (Table FLT-7). -/
def faultLog : Reg := { obj := 0x6003, sub := 1, entries := 8192, ty := 10, bits := 256, ro := fm 255 0, live := true }
def logHead : Reg := { obj := 0x6003, sub := 2, ro := fm 31 0, live := true }

/-! Chapter 21 -/
/-- TOKEN_RATE (Table PWR-5). -/
def tokenRate : Reg :=
  { obj := 0x7000, sub := 1, ty := 5, bits := 64, ro := fm 63 0, rc := fms [(51, 40), (31, 0)], live := true }
/-- AVS_CTL, AVS_STATUS (Tables PWR-2, PWR-3). -/
def avsCtl : Reg := { obj := 0x7001, sub := 1, dflt := 0xFD002C18, iw := fms [(31, 20), (15, 0)], caddy := true }
def avsStatus : Reg := { obj := 0x7001, sub := 2, ro := fms [(31, 14), (11, 0)], rc := fm 11 0, live := true }
/-- PACE_CTL (Table PWR-6). -/
def paceCtl : Reg := { obj := 0x7002, sub := 1, dflt := 0x143219, iw := fm 23 0, caddy := true }
/-- THERMAL_CTL (Table PWR-7). -/
def thermalCtl : Reg := { obj := 0x7003, sub := 1, dflt := 0x7D6E05, iw := fm 23 0, caddy := true }
/-- TIME_CTL, TIME_STATUS, TIME_SET, TIME_ASYM (Table PWR-11). -/
def timeCtl : Reg :=
  { obj := 0x7010, sub := 1, ty := 5, bits := 64, dflt := 0x3F00007D03E80000, ow := fms [(63, 56), (47, 16)], caddy := true }
def timeStatus : Reg :=
  { obj := 0x7010, sub := 2, ty := 5, bits := 64, ro := fms [(63, 60), (47, 0)], live := true }
def timeSet : Reg := { obj := 0x7010, sub := 3, ty := 5, bits := 64, ow := fm 63 0, wo := fm 63 0 }
def timeAsym : Reg := { obj := 0x7010, sub := 4, entries := 49, ty := 6, iw := fm 31 0, caddy := true }
/-- DEV_RESET, RESET_CAUSE (Table PWR-14). -/
def devReset : Reg := { obj := 0x7020, sub := 1, ty := 1, bits := 8, iw := 1, ow := 1, wo := 1, audited := true }
def resetCause : Reg := { obj := 0x7020, sub := 2, ro := fms [(31, 28), (15, 0)], caddy := true, live := true }

/-! Chapter 22 -/
/-- COUNTERS (R632). -/
def counters : Reg := { obj := 0x6800, sub := 1, entries := 20352, ty := 5, bits := 64, ro := fm 63 0, live := true }
/-- DUMP_AREA (R636). -/
def dumpArea : Reg :=
  { obj := 0x6801, sub := 1, ty := 5, bits := 64, iw := fms [(63, 63), (59, 53), (51, 12)], caddy := true }
/-- SNAPSHOT (R638). -/
def snapshot : Reg := { obj := 0x6802, sub := 1, ty := 10, bits := 256, ow := fm 159 0, wo := fm 159 0 }
/-- COUNTER_WINDOW[0]–[15] (R639). -/
def counterWindow : Reg :=
  { obj := 0x6810, sub := 1, subs := 16, ty := 10, bits := 256, dflt := (2 ^ 64 - 1) * 2 ^ 64
    ow := fms [(223, 192), (172, 160), (159, 0)] }
/-- WINDOW_STOP[0]–[15] (R639). -/
def windowStop : Reg := { obj := 0x6810, sub := 17, subs := 16, ty := 5, bits := 64, ow := fm 63 0, wo := fm 63 0 }
/-- WINDOW_STATUS (R640). -/
def windowStatus : Reg := { obj := 0x6810, sub := 33, ty := 5, bits := 64, ro := fms [(62, 48), (31, 0)], live := true }
/-- SAMPLE_CTL (R642). -/
def sampleCtl : Reg :=
  { obj := 0x6820, sub := 1, ty := 10, bits := 256
    dflt := (2 ^ 64 - 1) * 2 ^ 64 + 0x3FF * 2 ^ 128 + 0x1FF * 2 ^ 144
    ow := fms [(223, 192), (171, 160), (154, 0)] }
/-- SAMPLE_STOP (R642). -/
def sampleStop : Reg := { obj := 0x6820, sub := 2, ty := 5, bits := 64, ow := fm 63 0, wo := fm 63 0 }
/-- SLICE_CTR of a slice (R641). -/
def sliceCtr : Reg :=
  { obj := 0x6900, sub := 1, step := 1, insts := 256, ty := 5, bits := 64, dflt := 0x0A * 2 ^ 48
    ow := fms [(63, 63), (55, 6)], caddy := true, sliced := true }

/-! Chapters 19 and 20 -/
/-- DEVICE_ID (R589). -/
def deviceId : Reg := { obj := 0x1000, sub := 2, ty := 5, bits := 64, ro := fm 63 0, live := true }
/-- DEVICE_CERT (R589): a STRUCT of 200 bytes. -/
def deviceCert : Reg := { obj := 0x1000, sub := 3, ty := 10, bits := 1600, ro := fm 1599 0, live := true }
/-- LIFECYCLE (R594). -/
def lifecycle : Reg := { obj := 0x1001, sub := 1, ty := 8, bits := 8, ro := fm 7 0, live := true }
/-- ROLE_KEY (R590). -/
def roleKey : Reg :=
  { obj := 0x1100, sub := 1, entries := 14, ty := 10, bits := 800, iw := fms [(799, 32), (0, 0)], caddy := true
    audited := true }
/-- AUDIT_LOG (R602). -/
def auditLog : Reg :=
  { obj := 0x1101, sub := 1, entries := 65536, ty := 10, bits := 512, ro := fm 511 0, live := true }
/-- AUDIT_STATUS (R604). -/
def auditStatus : Reg := { obj := 0x1101, sub := 2, ty := 5, bits := 64, ro := fm 63 0, live := true }
/-- AUDIT_CTL (R604). -/
def auditCtl : Reg := { obj := 0x1101, sub := 3, iw := 1, caddy := true, audited := true }
/-- AUDIT_ACK (R604). -/
def auditAck : Reg := { obj := 0x1101, sub := 4, iw := fm 31 0, ow := fm 31 0, wo := fm 31 0, audited := true }
/-- CADDY_STATUS (R601). -/
def caddyStatus : Reg := { obj := 0x1102, sub := 1, ty := 5, bits := 64, ro := fm 63 0, live := true }
/-- FDP_CTL (R586, Table MGT-19). -/
def fdpCtl : Reg :=
  { obj := 0x1120, sub := 1, dflt := 600 * 2 ^ 16 + 0xC0, iw := fms [(31, 16), (7, 6)], caddy := true
    audited := true }
/-- SESSION_STATUS (Table MGT-20). -/
def sessionStatus : Reg :=
  { obj := 0x1120, sub := 2, entries := 16, ty := 5, bits := 64, ro := fms [(63, 48), (29, 0)], live := true }
/-- CAN_CTL (Table MGT-21). -/
def canCtl : Reg :=
  { obj := 0x1121, sub := 1, dflt := 0x920, iw := fms [(11, 8), (5, 4)], caddy := true, eff := .onReset
    audited := true }
/-- CAN_STATUS (Table MGT-22). -/
def canStatus : Reg :=
  { obj := 0x1121, sub := 2, ty := 5, bits := 64, ro := fms [(63, 62), (55, 0)], live := true }
/-- CAN_RECOVER (R586). -/
def canRecover : Reg := { obj := 0x1121, sub := 3, ty := 1, bits := 8, ow := 1, wo := 1, audited := true }
/-- MAINT_STATUS (Table MGT-16). -/
def maintStatus : Reg := { obj := 0x1200, sub := 1, ro := fm 9 0, live := true }
/-- START of operations 1 and 2 (Table MGT-14). -/
def laneCalStart : Reg := { obj := 0x1201, sub := 1, ow := fm 7 0, wo := fm 7 0, audited := true }
def eqLoadStart : Reg := { obj := 0x1202, sub := 1, iw := fm 7 0, wo := fm 7 0, audited := true }
/-- START of the BOOL operations 3, 4, 6, 7, 8 and 9 (Table MGT-14); instance k is operation k. -/
def boolStart : Reg :=
  { obj := 0x1200, sub := 1, step := 1, insts := 10, ty := 1, bits := 8, ow := 1, wo := 1, audited := true }
/-- START of FIRMWARE_STAGE (R605). -/
def fwStageStart : Reg := { obj := 0x1205, sub := 1, ty := 12, bits := 1280, iw := fm 1279 0, wo := fm 1279 0 }
/-- FW_CHUNK (R605); its command carries the data. -/
def fwChunk : Reg := { obj := 0x1205, sub := 3, ty := 12, bits := 32544, iw := 1, wo := 1 }
/-- START of LIFECYCLE_CHANGE (R596). -/
def lifecycleStart : Reg :=
  { obj := 0x120A, sub := 1, ty := 12, bits := 896, mw := fm 895 0, iw := fm 895 0, wo := fm 895 0 }
/-- OP_STATE of operations 1 and 2 (R584); instance 1 is LANE_CAL, 2 EQ_LOAD. -/
def opStateTable : Reg :=
  { obj := 0x1200, sub := 2, step := 1, insts := 3, entries := 49, ty := 5, bits := 64
    ro := fms [(63, 52), (31, 0)], live := true }
/-- OP_STATE of the operations without a port (R584); instance k is operation k. -/
def opState : Reg :=
  { obj := 0x1200, sub := 2, step := 1, insts := 11, ty := 5, bits := 64, ro := fms [(63, 52), (31, 0)]
    live := true }
/-- CONTROL_RECV (Table MGT-24). -/
def controlRecv : Reg :=
  { obj := 0x1122, sub := 1, ty := 10, bits := 128, iw := fms [(127, 127), (123, 120), (113, 100), (47, 12)], caddy := true
    audited := true }
/-- FW_STATUS (Table SEC-11), FW_SELECT (R606). -/
def fwStatus : Reg := { obj := 0x1103, sub := 1, ty := 10, bits := 128, ro := fms [(127, 116), (95, 0)], live := true }
def fwSelect : Reg :=
  { obj := 0x1103, sub := 2, ty := 2, bits := 8, dflt := 0x0A, iw := fm 7 0, caddy := true, eff := .onReset, audited := true }
/-- SCRUB_CTL (Table MGT-18). -/
def scrubCtl : Reg := { obj := 0x1208, sub := 3, dflt := 60, iw := fm 15 0, caddy := true, audited := true }

/-- Every object of the dictionary that this manual gives, those of narrower families first. -/
def all : List Reg :=
  [maintStatus, laneCalStart, eqLoadStart, fwStageStart, lifecycleStart, opStateTable, partIdent, nodeAddr,
      groupShape, laneCtl, eqSelect, laneStatus, testPattern, eqProfile, linkCtl, linkStatus,
      linkDownRule, linkTimers, vcCredit, congMode, greenProfile, yellowProfile, redProfile, backlog]
    ++ [inputFill, portRole, routePolicy, pressLevels, groupRoute, groupRouteStage, routeSwapCtl, keyTable,
      keyTableStage, keyInsert, strainerDefault, egressClass, egressOverhead, egressDeficit, shaper, gateCtl,
      gateLoad, gateSwitch, gateStatus, gateOverride, gateOverrideStop, ingressPolicer, injPolicer, injShaper]
    ++ [injOverhead, ringRoute, ringCtl, ringStatus, crossingOverrun, hostCtl, hostStatus, hostPm,
      funcMap, sliceCtl, sliceStatus, sliceLimits, sliceKeys, sliceStations, queueCmd, wakeTest,
      ctxStore, engineShare, hostShare, hostFrost, engineUsage, engineCtl, engineStatus, arbCtl]
    ++ [arbFrost, lockGroupLo, lockGroupHi, lockState, lockBreak, serviceCtl, serviceIdent, transCtl,
      transStageTwo, transFault, tlbLoad, tlbInval, transRetry, transOwner, missCtl, matchCtx,
      msgSliceCtl, overflowArea, unexPool, jobs, rankInval, msgCtl, region, rmaCtl]
    ++ [peerStore, rmaSliceCtl, collCtx, collStatus, collEpoch, collAbort, collSteep, collSteepClear,
      collCtl, svcCtl, memDecoder, memStatus, pool, twinSlices, twinCtl, twinStatus,
      twinPolicy, twinMismatch, resyncMode, standIn, faultCtl, noticeDest, faultSummary, faultAck]
    ++ [faultClear, faultForce, faultReaction, faultState, faultLog, logHead, tokenRate, avsCtl,
      avsStatus, paceCtl, thermalCtl, timeCtl, timeStatus, timeSet, timeAsym, devReset,
      resetCause, counters, dumpArea, snapshot, counterWindow, windowStop, windowStatus, sampleCtl]
    ++ [sampleStop, sliceCtr, deviceId, deviceCert, lifecycle, roleKey, auditLog, auditStatus,
      auditCtl, auditAck, caddyStatus, fdpCtl, sessionStatus, canCtl, canStatus, canRecover,
      boolStart, fwChunk, opState, controlRecv, fwStatus, fwSelect, scrubCtl]

end R

/-- An operator's executed write is recorded in the audit log (R603). -/
def Reg.audits (r : Reg) : Bool :=
  r.audited || decide (0x1100 ≤ r.obj ∧ r.obj ≤ 0x12FF) || decide (0x3400 ≤ r.obj ∧ r.obj ≤ 0x37FF)
    || (r.obj == 0x4000 && (r.sub == 4 || r.sub == 5)) || r.obj == 0x7801

/-- The instance of an object that an index names. -/
def Reg.instOf (r : Reg) (index : Nat) : Option Nat :=
  if r.twin ≠ 0 ∧ index = r.twin then some 48
  else if r.step = 0 then (if index = r.obj then some 0 else none)
  else if r.obj ≤ index ∧ (index - r.obj) % r.step = 0 ∧ (index - r.obj) / r.step < r.insts then
    some ((index - r.obj) / r.step)
  else none

/-- Object, instance and entry of an index and subindex (R554). -/
def findObject (index sub : Nat) : Option (Reg × Nat × Nat) :=
  R.all.findSome? (fun r =>
    match r.instOf index with
    | none => none
    | some i =>
      if r.sub ≤ sub ∧ sub < r.sub + (if r.entries = 0 then r.subs else 1) ∧ !(r.obj = 0x1200 ∧ i = 0 ∧ sub = 2) then
        some (r, i, if r.entries = 0 then sub - r.sub else 0)
      else none)

/-- The highest subindex at an index (R554); 0 where nothing exists. -/
def highestSub (index : Nat) : Nat :=
  (R.all.filter (fun r => (r.instOf index).isSome && !(r.obj == 0x1200 && index == 0x1200 && r.sub == 2))).foldl
    (fun m r => max m (r.sub + (if r.entries = 0 then r.subs else 1) - 1)) 0

end Sys2Proof.Machine
end

