-- ==== Sys2Proof/Machine/TransTypes.lean ====
section
/-! DEFINITION. State of address translation (chapter 12): the look-aside buffer, walks and pending misses. -/

namespace Sys2Proof.Machine

/-- Kinds of access (Table TRN-6). -/
inductive AccKind where
  | read | write | atomic | descriptor
  deriving DecidableEq, Repr

/-- KIND's code. -/
def AccKind.code : AccKind → Nat | .read => 0 | .write => 1 | .atomic => 2 | .descriptor => 3

/-- One access to be translated (Table TRN-1). -/
structure Access where
  slice   : Nat := 0
  ia      : Nat := 0
  kind    : AccKind := .read
  /-- supervisor -/
  priv    : Bool := false
  /-- USER_GRANT of the work entry -/
  grant   : Bool := false
  /-- both stages; false for a queue's ring, which stage 2 alone translates -/
  both    : Bool := true
  inbound : Bool := false
  wq      : Nat := 0xFFFF
  /-- function that serves the access (R680) -/
  func    : Nat := 0
  deriving DecidableEq, Repr

/-- Spans of memory, in address order: bus address, length, and the access they were translated from. -/
abbrev Spans := List (Nat × Nat × Access)

/-- Who waits for a translation. -/
inductive Who where
  /-- a work entry -/
  | item (wq pos : Nat)
  /-- an arriving packet, or a service working for one -/
  | inbound
  /-- a burst in the arbiter -/
  | burst (id : Nat)
  /-- a stage-1 walk whose table address misses at stage 2 -/
  | walk (id : Nat)
  deriving DecidableEq, Repr

/-- One slot of the TLB (R368). -/
structure TSlot where
  slice  : Nat := 0
  stage  : Nat := 1
  contig : Nat := 0
  /-- input page number and output page number of the group's first page -/
  page   : Nat := 0
  oa     : Nat := 0
  r      : Bool := false
  w      : Bool := false
  u      : Bool := false
  pin    : Bool := false
  deriving DecidableEq, Repr

/-- What a walk waits for. -/
inductive WalkWait where
  /-- the read of a table entry -/
  | read
  /-- another walk, a pending miss -/
  | walk (id : Nat)
  | miss (id : Nat)
  /-- a pending miss to become free -/
  | free
  deriving DecidableEq, Repr

/-- A walk under way (R373, R374). -/
structure Walk where
  id      : Nat := 0
  /-- the access that began it -/
  acc     : Access := {}
  stage   : Nat := 1
  /-- input address of the walk -/
  ia      : Nat := 0
  lv      : Nat := 1
  /-- address of the table of level `lv` -/
  base    : Nat := 0
  on      : WalkWait := .read
  waiters : List (Who × Access) := []
  deriving DecidableEq, Repr

/-- A pending miss (R375, R376). -/
structure Miss where
  /-- MISS_ID: slot number and generation -/
  id      : Nat := 0
  slice   : Nat := 0
  stage   : Nat := 1
  ia      : Nat := 0
  waiters : List (Who × Access) := []
  deriving DecidableEq, Repr

/-- A translation fault: its DETAIL word (Table TRN-6) and the input address of the stage that faulted. -/
structure TFault where
  detail : Nat := 0
  addr   : Nat := 0
  deriving DecidableEq, Repr

/-- Address translation as a whole. -/
structure Trans where
  /-- sets by number, most recently used way first -/
  tlb      : Table (List TSlot) := []
  walks    : List Walk := []
  nextWalk : Nat := 0
  misses   : List Miss := []
  /-- generation of the next use of a miss slot -/
  gens     : Table Nat := []
  /-- accesses that a walk or a miss has ended, until their operation is taken up again -/
  ended    : List (Who × Access × TFault) := []
  deriving DecidableEq, Repr

end Sys2Proof.Machine
end

