-- ==== Sys2Proof/Machine/CollTypes.lean ====
section
/-! DEFINITION. State of collectives (chapter 15) and of service mode (chapter 16). -/

namespace Sys2Proof.Machine

/-- State of a valid collective context (Table COL-6). -/
inductive CollState where
  | idle | active | aborted
  deriving DecidableEq, Repr

/-- A segment's partial and who has been heard: child port p as p, local member m as 64 + m (R461). -/
structure CSeg where
  no    : Nat := 0
  elems : List Nat := []
  heard : List Nat := []
  deriving DecidableEq, Repr

/-- A local member that contributes to the active epoch (R453, R462). -/
structure CMember where
  num   : Nat := 0
  wq    : Nat := 0
  pos   : Nat := 0
  /-- next exponent-pass and data-pass segment to contribute -/
  nextX : Nat := 0
  nextD : Nat := 0
  /-- its entry has completed before the commit, with a fault of its own (R464) -/
  gone  : Bool := false
  deriving DecidableEq, Repr

/-- COP, TYPE, MODE and COUNT of an epoch (R475). -/
structure COp where
  cop   : Nat := 0
  type  : Nat := 0
  mode  : Nat := 0
  count : Nat := 1
  deriving DecidableEq, Repr

/-- A collective context's state at the device. -/
structure Coll where
  st      : CollState := .idle
  cause   : Nat := 0
  attempt : Nat := 0
  last    : Nat := 0xFFFFFF
  op      : COp := {}
  /-- segments being combined in the data pass and the exponent pass -/
  data    : List CSeg := []
  exps    : List CSeg := []
  /-- segments whose partial has gone up, or been turned down at the root -/
  upDone  : List Nat := []
  upDoneX : List Nat := []
  /-- segments whose result has passed this device -/
  downD   : List Nat := []
  /-- agreed exponent words by segment -/
  downX   : List (Nat × List Nat) := []
  /-- flagged elements, at the root -/
  flagged : List Nat := []
  members : List CMember := []
  /-- tick of the last admitted packet (R476) -/
  timer   : Nat := 0
  deriving DecidableEq, Repr

/-- Entries of a committed epoch whose last writes wait for a translation: queue, position, and what they complete with. -/
structure CollEnd where
  wq       : Nat := 0
  pos      : Nat := 0
  overflow : Bool := false
  count    : Nat := 0
  specific : Nat := 0
  deriving DecidableEq, Repr

/-- A packet that a reduction unit sends on a tree edge or to an inner port (R62, R146, R463): where to, the cells it has still to
emit. -/
structure UnitPkt where
  port  : Nat := 0
  /-- the inner port of a copy for local members -/
  inner : Option Nat := none
  cells : List (BitVec 1024) := []
  /-- its first cell has been emitted -/
  begun : Bool := false
  deriving DecidableEq, Repr

/-- A result segment on its way through an inner port to local members (R62, R463): its epoch and attempt, where it goes. -/
structure CollCopy where
  ctx     : Nat := 0
  epoch   : Nat := 0
  attempt : Nat := 0
  seg     : Nat := 0
  port    : Nat := 0
  /-- offset in the members' buffers -/
  off     : Nat := 0
  members : List CMember := []
  deriving DecidableEq, Repr

/-- Collectives as a whole. -/
structure Colls where
  ends  : List CollEnd := []
  ctx   : Table Coll := []
  /-- steeped store: slots, each as its difference from its identity, and sticky flags (R471) -/
  slots : Table Nat := []
  flags : List Nat := []
  /-- packets that each unit has still to emit, oldest first -/
  outq  : Table (List UnitPkt) := []
  /-- results that have not reached their inner port -/
  copies : List CollCopy := []
  deriving DecidableEq, Repr

/-- STATE of a memory link (Table SVC-4). -/
inductive MemLinkSt where
  | absent | held | training | active | notType3 | timeout | down
  deriving DecidableEq, Repr

/-- STATE's code. -/
def MemLinkSt.code : MemLinkSt → Nat
  | .absent => 0 | .held => 1 | .training => 2 | .active => 3 | .notType3 => 4 | .timeout => 5 | .down => 6

/-- A memory link (R489). -/
structure MemLink where
  st       : MemLinkSt := .absent
  capacity : Nat := 0
  deriving DecidableEq, Repr

/-- Service mode (chapter 16). -/
structure Service where
  links     : Table MemLink := []
  /-- committed decoders (R491) -/
  committed : List Nat := []
  /-- pools waiting to be zeroed, oldest first (R495) -/
  zeroing   : List Nat := []
  /-- valid decoders that did not commit (R491) -/
  failed    : List Nat := []
  /-- pools being released, with the request to answer (R494) -/
  releasing : List (Nat × Req) := []
  deriving DecidableEq, Repr

end Sys2Proof.Machine
end

