-- ==== Sys2Proof/Machine/FabricTypes.lean ====
section
/-! DEFINITION. State of the fabric side: lanes (chapter 3), links (chapter 4), the switch core (chapter 5),
routing (chapter 6) and the output schedulers, policers and gates (chapter 7). -/

namespace Sys2Proof.Machine

/-- Bring-up states of a port's lanes (Table LAN-9). -/
inductive LaneSt where
  | off | synthLock | clockAcquire | phaseTrim | align | fecLock | laneUp | calm | doze | wake | test
  | retryWait
  deriving DecidableEq, Repr

/-- STATE of LANE_STATUS (Table LAN-9). -/
def LaneSt.code : LaneSt → Nat
  | .off => 0 | .synthLock => 1 | .clockAcquire => 2 | .phaseTrim => 3 | .align => 4 | .fecLock => 5
  | .laneUp => 6 | .calm => 7 | .doze => 8 | .wake => 9 | .test => 10 | .retryWait => 11

/-- LAST_FAIL (Table LAN-9). -/
inductive LaneFail where
  | none | profileInvalid | synthLock | noClock | rateMismatch | trim | noComma | laneOrder | skewRange
  | fecLock | txLockLost | rxClockLost
  deriving DecidableEq, Repr

/-- LAST_FAIL's code (Table LAN-9). -/
def LaneFail.code : LaneFail → Nat
  | .none => 0 | .profileInvalid => 1 | .synthLock => 2 | .noClock => 3 | .rateMismatch => 4 | .trim => 5
  | .noComma => 6 | .laneOrder => 7 | .skewRange => 8 | .fecLock => 9 | .txLockLost => 10
  | .rxClockLost => 11

/-- Where a port's transmitter stands in its stream (R72, R76): alignment blocks sent, modulo 256; codewords sent before the present
stream, modulo 16; cells sent in it. -/
structure TxStream where
  ab    : Nat := 0
  cw    : Nat := 0
  cells : Nat := 0
  deriving DecidableEq, Repr

/-- An agreed calm window (R93): the tick of the own clock at which it may start, and its length in codewords. -/
structure CalmWin where
  startAt  : Nat := 0
  duration : Nat := 0
  deriving DecidableEq, Repr

/-- The lanes of one port (R66–R102). -/
structure Lane where
  st            : LaneSt := .off
  txReady       : Bool := false
  rxClock       : Bool := false
  lastFail      : LaneFail := .none
  profileActive : Nat := 0
  rateActive    : Bool := false
  skew          : Nat := 0
  retries       : Nat := 0
  /-- the profile loaded at the last bring-up (R83) -/
  loaded        : BitVec 704 := 0
  /-- sampling point of each data lane, 0–63 (R78) -/
  trims         : List Nat := []
  /-- deskew delay of each data lane, UI (R78) -/
  deskew        : List Nat := []
  /-- the synthesiser has lost lock and its 50 µs run (R89) -/
  lockLost      : Bool := false
  /-- loss of symbol lock is reported (R99) -/
  symLoss       : Bool := false
  /-- a test pattern waits for lock (R90) -/
  patternWaits  : Bool := false
  /-- the test pattern is being sent -/
  patternRuns   : Bool := false
  /-- own calm request awaiting its answer (R93) -/
  calmReq       : Option CalmInfo := none
  /-- a refused or unanswered request will be repeated (R93) -/
  calmRetry     : Bool := false
  /-- the window agreed and not yet ended -/
  calmWin       : Option CalmWin := none
  /-- own clock at the start of the last window on the link (R91) -/
  calmLast      : Option Nat := none
  /-- own doze request awaiting its answer (R96) -/
  dozeReq       : Option (BitVec 8) := none
  /-- the side leads the wake (R98) -/
  wakeLeads     : Bool := false
  /-- the wake tone has been sent (R98) -/
  wakeTone      : Bool := false
  deriving DecidableEq, Repr

/-- Link states (Table LNK-9). -/
inductive LinkSt where
  | down | init | up | wiringFault | peerFault | doze
  deriving DecidableEq, Repr

/-- STATE of LINK_STATUS (Table LNK-9). -/
def LinkSt.code : LinkSt → Nat
  | .down => 0 | .init => 1 | .up => 2 | .wiringFault => 3 | .peerFault => 4 | .doze => 5

/-- What the port recorded of its partner at the last link-up (R123, R124). -/
structure Partner where
  epoch     : BitVec 16 := 0
  addrValid : Bool := false
  node      : Node := 0
  port      : Nat := 0
  role      : Nat := 0
  deriving DecidableEq, Repr

/-- One slot of the replay buffer (R118, R119, R133): a sequenced cell, or the abort that a voided slot sends. -/
structure RCell where
  seq    : BitVec 12 := 0
  vc     : Nat := 0
  /-- packet of the port it belongs to -/
  pid    : Nat := 0
  first  : Bool := false
  last   : Bool := false
  /-- the body as queued: the per-hop header fields are rewritten at each sending -/
  body   : BitVec 1024 := 0
  mark   : Bool := false
  /-- an abort cell with this reason instead of data -/
  abort  : Option Nat := none
  /-- acknowledged and retained for its TC0 or TC1 packet (R119) -/
  acked  : Bool := false
  /-- cells of its packet, and the crossbar input and stamp it came from -/
  total  : Nat := 1
  inp    : Nat := 0
  stamp  : Nat := 0
  /-- its packet stands here as on another port's alternate (R134) -/
  moved  : Bool := false
  deriving DecidableEq, Repr

/-- What the receiver has open on an arrival VC (R105, R107, R150, R162). -/
inductive RxOpen where
  | none
  /-- the rest of the packet is discarded as it arrives -/
  | drop
  /-- the packet stands in the buffer of input `inp` under `stamp` -/
  | pkt (inp stamp : Nat)
  deriving DecidableEq, Repr

/-- One link (chapter 4). -/
structure Link where
  st          : LinkSt := .down
  lastDown    : Nat := 0
  resumed     : Bool := false
  partner     : Option Partner := none
  /-- how many epochs the port has drawn since power-on; the epoch itself is `Config.linkEpoch` of it (R124) -/
  epochNo     : Nat := 0
  /-- the partner's LINK_INIT of this INIT (R125) -/
  initRx      : Option InitInfo := none
  /-- FRESH of the LINK_INIT_ACK sent in this INIT -/
  sentFresh   : Bool := true
  peerWiring  : Bool := false
  nextSeq     : BitVec 12 := 0
  /-- the replay buffer, oldest first (R118) -/
  replay      : List RCell := []
  /-- cells of the replay buffer that a fresh link sends again, oldest first (R127) -/
  again       : List RCell := []
  /-- slots still to be resent: the sequence the replay stands at (R121) -/
  replayAt    : Option (BitVec 12) := none
  /-- sequence of the last replay, its start on the port's clock (R121) -/
  lastReplay  : Option (BitVec 12 × Nat) := none
  /-- consecutive replays from one sequence (R129) -/
  stallCount  : Nat := 0
  stallSeq    : BitVec 12 := 0
  /-- credits held, by credit code (R114, R116) -/
  credits     : Table Nat := []
  /-- last CREDIT_COUNT seen, by code -/
  lastCount   : Table Nat := []
  expect      : BitVec 12 := 0
  /-- port clock at the last NAK for EXPECT (R120) -/
  nakAt       : Option Nat := none
  /-- cumulative credits returned, modulo 128, by code (R116) -/
  total       : Table Nat := []
  /-- credits returned but not yet reported, by code -/
  unreported  : Table Nat := []
  /-- credits owed that wait for a report (R116) -/
  waiting     : Table Nat := []
  /-- the code after which the rotation goes on -/
  rotation    : Nat := 0
  rxOpen      : Table RxOpen := []
  /-- outgoing bypass messages, at most 64 (R110) -/
  bypassQ     : List BypassMsg := []
  /-- cells sent since the last bypass cell, saturating at 15 (R109) -/
  sinceBypass : Nat := 15
  /-- unsequenced control and calm cells waiting (R111) -/
  ctlQ        : List CtlMsg := []
  /-- cells sent and replays started in the window (R129) -/
  winCells    : Nat := 0
  winReplays  : Nat := 0
  /-- a flush is running (R138) -/
  flushing    : Bool := false
  /-- lanes reached LANE_UP during the flush (R138) -/
  initWaits   : Bool := false
  /-- last PRESSURE received (R103, R181) -/
  pressureRx  : Nat := 0
  /-- LEVEL field of the last pressure report received, own clock at its arrival (R181) -/
  report      : Option (BitVec 96 × Nat) := none
  /-- SEQ of the next pressure report (Table RTE-4) -/
  reportSeq   : BitVec 8 := 0
  /-- ticks for which the port's timers have been paused (R142) -/
  pausedFor   : Nat := 0
  /-- own clock at which the present pause began -/
  pauseAt     : Option Nat := none
  /-- own clock at the last data cell sent or accepted (R96) -/
  dataAt      : Nat := 0
  deriving DecidableEq, Repr

/-- A packet in a crossbar input's virtual output queues (R150). -/
structure VPkt where
  stamp   : Nat := 0
  out     : Nat := 0
  /-- VC it takes on a fabric or twin output; 63 on an inner-port or reduction-unit output -/
  vc      : Nat := 63
  /-- VC it arrived on; 63 for a locally built packet -/
  inVc    : Nat := 63
  hdr     : Header := {}
  /-- chosen and marked by RED (R161) -/
  mark    : Bool := false
  /-- cells of the packet (R38) -/
  total   : Nat := 1
  /-- cells written and not yet crossed, oldest first -/
  cells   : List (BitVec 1024) := []
  arrived : Nat := 0
  sent    : Nat := 0
  /-- work entry that a locally built packet belongs to -/
  own     : Option (Nat × Nat) := none
  /-- sent to `out` as to the alternate of the port it was bound for (R134) -/
  moved   : Bool := false
  deriving DecidableEq, Repr

/-- One crossbar input (R146, R150). -/
structure InBuf where
  /-- packets in the order their first cells were written -/
  pkts      : List VPkt := []
  nextStamp : Nat := 0
  /-- own clock at the last discard notice (R187) -/
  noticeAt  : Option Nat := none
  /-- accept pointer (R155) -/
  aptr      : Nat := 0
  /-- locally built packet being written from the ring, by class (R681) -/
  openCls   : Table RxOpen := []
  deriving DecidableEq, Repr

/-- A cell in an output's egress stage (R153). -/
structure EgCell where
  pid   : Nat := 0
  vc    : Nat := 63
  cls   : Nat := 0
  first : Bool := false
  last  : Bool := false
  body  : BitVec 1024 := 0
  mark  : Bool := false
  /-- cells of the packet, for the gate's fit (R226) -/
  total : Nat := 1
  /-- crossbar input and stamp it came from -/
  inp   : Nat := 0
  stamp : Nat := 0
  /-- an abort to be sent here instead of data (R136) -/
  abort : Option Nat := none
  own   : Option (Nat × Nat) := none
  /-- its packet stands here as on another port's alternate (R134) -/
  moved : Bool := false
  deriving DecidableEq, Repr

/-- One entry of a gate control list (Table SCH-10). -/
structure GateEntry where
  opens  : BitVec 8 := 0
  offset : Nat := 0
  deriving DecidableEq, Repr

/-- A gate control list (Table SCH-10). -/
structure GateList where
  cycle   : Nat := 2
  entries : List GateEntry := []
  deriving DecidableEq, Repr

/-- State of a timed window (R228). -/
inductive WinSt where
  | free | pending | running | writing
  deriving DecidableEq, Repr

/-- A timed window's ends in ticks; no stop is `none` (R228). -/
structure Window where
  st    : WinSt := .free
  start : Nat := 0
  stop  : Option Nat := none
  deriving DecidableEq, Repr

/-- A window runs in tick `t`, judged from its ends (R228). -/
def Window.covers (w : Window) (t : Nat) : Bool :=
  (w.st == .pending || w.st == .running) && decide (w.start ≤ t)
    && (match w.stop with | some e => decide (t < e) | none => true)

/-- A gate override (Table SCH-15). -/
structure Override where
  win        : Window := {}
  forceOpen  : BitVec 8 := 0
  forceClose : BitVec 8 := 0
  deriving DecidableEq, Repr

/-- The gate of a fabric output (R219–R227). -/
structure Gate where
  enable    : Bool := false
  staged    : Option GateList := none
  active    : Option (GateList × Nat) := none
  /-- tick at which the staged list switches -/
  switchAt  : Option Nat := none
  /-- tick from which a GATE_CTL write opens every class (Table SCH-16) -/
  offAt     : Option Nat := none
  overrides : List Override := [{}, {}, {}, {}]
  /-- classes open as last applied (R222, R223) -/
  opened    : BitVec 8 := 0xFF
  deriving DecidableEq, Repr

/-- One crossbar output and its scheduler (R153–R158, R206, R211, R219). -/
structure Output where
  egress  : List EgCell := []
  nextPid : Nat := 0
  /-- output VCs (classes on an inner or reduction output) with a packet open: its input and stamp, its pid -/
  opened  : Table (Nat × Nat × Nat) := []
  /-- grant pointers by class (R155) -/
  gptr    : Table Nat := []
  /-- DEFICIT by class (R206) -/
  deficit : Table Int := []
  /-- PTR: the DRR class served next; none is the lowest DRR class, where it stands at reset (R206) -/
  ptr     : Option Nat := none
  /-- shaper LEVEL by class, millibytes (R211) -/
  level   : Table Int := []
  /-- AVG by class in 1/256 cells (R159) -/
  avg     : Table Nat := []
  /-- B at the last update, by class -/
  bLast   : Table Nat := []
  gate    : Gate := {}
  /-- packet whose remaining cells go ahead of all others (R227) -/
  fitted  : Option Nat := none
  /-- at an inner port: packets refused at delivery whose later cells are dropped (R42) -/
  dropping : List Nat := []
  deriving DecidableEq, Repr

/-- Two token buckets of a policer, millibytes (R214). -/
structure Buckets where
  tc : Nat := 0
  tp : Nat := 0
  deriving DecidableEq, Repr

/-- One instance of a maintenance operation (Table MGT-17): STATE 0 IDLE … 4 FAILED. -/
structure OpSt where
  st   : Nat := 0
  fail : Nat := 0
  runs : Nat := 0
  deriving DecidableEq, Repr

/-- What an arrival was discarded for. -/
inductive RouteFault where
  | noRoute | stepLimit | hopLimit | wrongGroup | strainer
  deriving DecidableEq, Repr

/-- Reason codes of Table RTE-6. -/
def RouteFault.code : RouteFault → Nat
  | .noRoute => 1 | .stepLimit => 2 | .hopLimit => 3 | .wrongGroup => 4 | .strainer => 5

end Sys2Proof.Machine
end

