-- ==== Sys2Proof/Machine/CounterTypes.lean ====
section
/-! DEFINITION. State of counting (chapter 22): snapshots, counter windows and operation sampling. -/

namespace Sys2Proof.Machine

/-- A snapshot requested or captured (R638). -/
structure Snapshot where
  /-- tick at which it is taken -/
  at_      : Nat := 0
  offset   : Nat := 0
  first    : Nat := 0
  count    : Nat := 1
  late     : Bool := false
  /-- the values and the time in ns, once captured -/
  captured : Option (Nat × List (BitVec 64)) := none
  deriving DecidableEq, Repr

/-- A counter window (R639, R640). -/
structure CtrWindow where
  win    : Window := {}
  first  : Nat := 0
  count  : Nat := 0
  offset : Nat := 0
  late   : Bool := false
  empty  : Bool := false
  tStart : Nat := 0
  tEnd   : Nat := 0
  /-- what the events had added up to when the start took effect, and the accumulators once stopped -/
  base   : List (BitVec 64) := []
  value  : List (BitVec 64) := []
  deriving DecidableEq, Repr

/-- What a sampled entry under way has come through (Table CTR-9): times in ns. -/
structure Track where
  wq       : Nat := 0
  pos      : Nat := 0
  intake   : Option Nat := none
  admitted    : Option Nat := none
  start    : Option Nat := none
  first    : Option Nat := none
  last     : Option Nat := none
  engine   : Nat := 0
  port     : Nat := 0x3F
  packets  : Nat := 0
  stolen   : Bool := false
  remote   : Bool := false
  parked   : Bool := false
  rankMiss : Bool := false
  tlbMiss  : Bool := false
  detour   : Bool := false
  deriving DecidableEq, Repr

/-- A sampled entry that has finished (R643). -/
structure SampleDue where
  wq     : Nat := 0
  pos    : Nat := 0
  slice  : Nat := 0
  opcode : Nat := 0
  /-- 0xFF when no completion was written -/
  status : Nat := 0xFF
  pushed : Bool := false
  tIn    : Nat := 0
  tEnd   : Nat := 0
  bytes  : Nat := 0
  node   : Nat := 0
  track  : Track := {}
  deriving DecidableEq, Repr

/-- Operation sampling (R642–R644). -/
structure Sampling where
  win       : Window := {}
  countdown : Nat := 0
  due       : List SampleDue := []
  /-- sampled entries under way -/
  tracks    : List Track := []
  /-- SEQ of the next sample -/
  seq       : Nat := 0
  /-- records waiting to be written, oldest first; the first has SEQ `seq − length` -/
  buffer    : List (List Byte) := []
  consumer  : Nat := 0
  deriving DecidableEq, Repr

/-- Counting as a whole. -/
structure Counting where
  snaps    : List Snapshot := []
  windows  : List CtrWindow := List.replicate 16 {}
  sampling : Sampling := {}
  /-- SEQ of the next counter record (R637) -/
  recSeq   : Nat := 0
  deriving DecidableEq, Repr

end Sys2Proof.Machine
end

