-- ==== Sys2Proof/Machine/MgmtTypes.lean ====
section
/-! DEFINITION. State of the management side: sessions, the CAN FD controller and maintenance (chapter 19), life
cycle, audit log, caddy and firmware (chapter 20). -/

namespace Sys2Proof.Machine

/-- A response of the server (R560, Table MGT-5). -/
structure FdpResp where
  service : Nat := 0x11
  session : Nat := 0
  seq     : BitVec 8 := 0
  index   : Nat := 0
  sub     : Nat := 0
  entry   : Nat := 0
  count   : Nat := 0
  status  : Fdp := .ok
  body    : List Byte := []
  /-- the draw of the challenge that the session's key comes from; none for a TAG of zero (R560, R565) -/
  key     : Option Nat := none
  deriving DecidableEq, Repr

/-- Header and body of a response (Table MGT-5). -/
def FdpResp.head (r : FdpResp) : List Byte :=
  bytesOf (BitVec.ofNat 128 (0x11 + at' 8 r.service + at' 16 r.session + at' 24 r.seq.toNat + at' 32 (r.index % 65536)
    + at' 48 (r.sub % 256) + at' 56 r.status.code + at' 64 (r.entry % 2 ^ 32) + at' 96 (r.count % 65536)
    + at' 112 (r.body.length % 65536))) 16 ++ r.body

/-- The response message, with its TAG (R560). -/
def FdpResp.bytes (r : FdpResp) : List Byte :=
  r.head ++ bytesOf (match r.key with | some k => Config.fdpTag k r.head | none => 0) 8

/-- STATE of a session slot (Table MGT-20). -/
inductive SessSt where
  | free | opening | opened
  deriving DecidableEq, Repr

/-- STATE's code (Table MGT-20). -/
def SessSt.code : SessSt → Nat | .free => 0 | .opening => 1 | .opened => 2

/-- One session slot (R562, R565). -/
structure Session where
  st        : SessSt := .free
  role      : Role := .none
  keySlot   : Nat := 0
  path      : Path := .can 0
  last      : BitVec 8 := 0
  kept      : Option FdpResp := none
  /-- the request LAST is still executing -/
  executing : Bool := false
  /-- number of the draw that gave the server's challenge (R592) -/
  challenge : Nat := 0
  nonce     : BitVec 384 := 0
  deriving DecidableEq, Repr

/-- Error states of the CAN FD controller (Table MGT-12). -/
inductive CanSt where
  | errorActive | errorPassive | busOff | monitor
  deriving DecidableEq, Repr

/-- STATE's code (Table MGT-22). -/
def CanSt.code : CanSt → Nat | .errorActive => 0 | .errorPassive => 1 | .busOff => 2 | .monitor => 3

/-- Content of a distress notice (Table MGT-11). -/
structure Distress where
  node   : Node := 0
  reason : Nat := 1
  source : Nat := 0
  rung   : Nat := 0
  count  : Nat := 0
  logSeq : Nat := 0
  timeUs : Nat := 0
  deriving DecidableEq, Repr

/-- A message waiting on the bus: destination node, its bytes, frames already sent. -/
structure CanMsg where
  dest  : Nat := 0
  kind  : Nat := 1
  bytes : List Byte := []
  sent  : Nat := 0
  deriving DecidableEq, Repr

/-- A message being put together from one source node (R571, R572). -/
structure Reassembly where
  src   : Nat := 0
  next  : Nat := 0
  bytes : List Byte := []
  deriving DecidableEq, Repr

/-- The CAN FD controller (R568–R580). -/
structure Can where
  st           : CanSt := .errorActive
  rxErr        : Nat := 0
  txErr        : Nat := 0
  busOffs      : Nat := 0
  distressSent : Nat := 0
  /-- recessive occurrences are being counted (R580) -/
  recovering   : Bool := false
  distress     : Option Distress := none
  txq          : List CanMsg := []
  reasm        : List Reassembly := []
  deriving DecidableEq, Repr

/-- Life-cycle states (R594). -/
inductive LifeCycle where
  | maker | install | service | retired
  deriving DecidableEq, Repr

/-- LIFECYCLE's code (R594). -/
def LifeCycle.code : LifeCycle → Nat | .maker => 0 | .install => 1 | .service => 2 | .retired => 3

/-- One audit record (Table SEC-8). -/
structure AuditRec where
  index  : Nat := 0
  time   : Nat := 0
  kind   : Nat := 0
  role   : Nat := 0
  path   : Nat := 0
  hashed : Bool := false
  object : Nat := 0
  entry  : Nat := 0
  value  : BitVec 64 := 0
  chain  : BitVec 256 := 0
  deriving DecidableEq, Repr

/-- One firmware bank (R605, Table SEC-11). -/
structure Bank where
  valid   : Bool := true
  version : Nat := 0
  floor   : Nat := 0
  length  : Nat := 0
  image   : Memory := []
  deriving DecidableEq, Repr

/-- A staging under way (R605, Table SEC-10). -/
structure Staging where
  bankB   : Bool := false
  length  : Nat := 0
  version : Nat := 0
  floor   : Nat := 0
  hash    : BitVec 384 := 0
  /-- offsets written, as half-open spans -/
  written : List (Nat × Nat) := []
  deriving DecidableEq, Repr

/-- The management controller, the caddy and the firmware. -/
structure Mgmt where
  sessions   : Table Session := []
  /-- consecutive failed AUTHs by path (R592) -/
  authFails  : List (Path × Nat) := []
  /-- paths on which OPEN is refused for 10 s (R592) -/
  locked     : List Path := []
  can        : Can := {}
  /-- control deliveries written to the receive ring of slice 0 (R575) -/
  delivered  : Nat := 0
  /-- deliveries that may await consumption: places of their completions in the queue, counted from its creation -/
  deliveredAt : List Nat := []
  lifecycle  : LifeCycle := .install
  /-- PENDING of a committed life-cycle change (R597) -/
  lcPending  : Option (LifeCycle × BitVec 768) := none
  audit      : Table AuditRec := []
  auditNext  : Nat := 0
  auditAcked : Nat := 0
  /-- free CONFIG segments (R600, R601) -/
  segFree    : Nat := 33
  compactions : Nat := 0
  verifyFails : Nat := 0
  bankA      : Bank := {}
  bankB      : Bank := { valid := false }
  staging    : Option Staging := none
  /-- the running bank is B (R606) -/
  runningB   : Bool := false
  fallback   : Bool := false
  recovery   : Bool := false
  minVersion : Nat := 0
  /-- device keys generated (R589) -/
  keyGen     : Nat := 0
  /-- the controller has stopped serving (R545) -/
  stopped    : Bool := false
  /-- request messages put together from the bus that the server has not yet taken: bus node, bytes -/
  inbox      : List (Nat × List Byte) := []
  /-- requests answered later: path, slot, sequence, index, subindex (R565) -/
  owed       : List (Req × Nat × Nat) := []
  deriving DecidableEq, Repr

end Sys2Proof.Machine
end

