-- ==== Sys2Proof/Machine/RingTypes.lean ====
section
/-! DEFINITION. State of the ring network (chapter 8): packets on their way between two stops, blocked flows,
reservations, request tags, and fabric packets being put together at a block. -/

namespace Sys2Proof.Machine

/-- Where a ring packet stands. -/
inductive RingPlace where
  /-- queued at its source stop, not yet injected -/
  | queued
  /-- on the ring towards its destination -/
  | flying
  /-- refused, on its way back to the source -/
  | refused
  /-- back at its source, waiting for RETRY_DELAY -/
  | returned
  deriving DecidableEq, Repr

/-- A ring packet (Table RNG-2) and its journey. -/
structure RingPkt where
  src    : Nat := 0
  dst    : Nat := 0
  ring   : Nat := 0
  kind   : Nat := 0
  units  : Nat := 1
  seq    : Nat := 0
  tag    : Nat := 0
  gen    : Nat := 0
  age    : Nat := 0
  slice  : Nat := 0
  status : Nat := 0
  flags  : Nat := 0
  addr   : Nat := 0
  /-- cells of a CELL packet -/
  cells  : List (BitVec 1024) := []
  /-- data of any other kind -/
  data   : List Byte := []
  /-- work entry whose packet the cells belong to -/
  own    : Option (Nat × Nat) := none
  /-- a stolen item on its way, and its thief (R339) -/
  item   : Option (Nat × Nat) := none
  place  : RingPlace := .queued
  /-- token at which it was queued, injected or came back -/
  since  : Nat := 0
  deriving DecidableEq, Repr

/-- The block at a ring stop (R235, Table RNG-1). -/
inductive StopBlock where
  | cluster (n : Nat) | innerPort (j : Nat) | matchUnit (j : Nat) | hostPort (k : Nat) | translation (u : Nat)
  | controller | caddy | collectors | lockBank | timebase | twinPort | spare
  deriving DecidableEq, Repr

/-- Table RNG-1. -/
def stopBlock (s : Nat) : StopBlock :=
  let j := s / 8
  match s % 8 with
  | 0 => .cluster (4 * j)
  | 1 => .cluster (4 * j + 1)
  | 2 => .innerPort j
  | 3 => .cluster (4 * j + 2)
  | 4 => .cluster (4 * j + 3)
  | 5 => .matchUnit j
  | 6 => if j % 2 = 0 then .hostPort (j / 2) else .translation ((j - 1) / 2)
  | _ => match j with
    | 0 => .controller | 1 => .caddy | 2 => .collectors | 3 => .lockBank | 4 => .timebase | 5 => .twinPort | _ => .spare

/-- Rings A and C rotate clockwise, B and D anticlockwise (R233). -/
def clockwise (ring : Nat) : Bool := ring % 2 == 0

/-- Stops from one stop to another on a ring, a whole turn back to itself. -/
def ringHops (ring src dst : Nat) : Nat := if clockwise ring then (dst + 64 - src) % 64 else (src + 64 - dst) % 64

/-- A unit in a slot (R233): its slot's tag and the token in which it was injected.  One that its destination takes leaves
there; any other comes back to its source, 64 tokens after. -/
structure RingUnit where
  ring  : Nat := 0
  src   : Nat := 0
  dst   : Nat := 0
  head  : Bool := false
  /-- flow and SEQ of its packet -/
  flow  : Nat := 0
  seq   : Nat := 0
  at_   : Nat := 0
  taken : Bool := false
  deriving DecidableEq, Repr

/-- The stop at which its slot stands in token `n`: one stop on in every token. -/
def RingUnit.stop (u : RingUnit) (n : Nat) : Nat :=
  if clockwise u.ring then (u.src + (n - u.at_)) % 64 else (u.src + 64 - (n - u.at_) % 64) % 64

/-- It is still on the ring in token `n`. -/
def RingUnit.rides (u : RingUnit) (n : Nat) : Bool :=
  decide (n < u.at_ + (if u.taken then ringHops u.ring u.src u.dst else 64))

/-- The slot of a ring's train that stands at a stop in token `n` (R233). -/
def slotAt (ring stop n : Nat) : Nat := if clockwise ring then (stop + 64 - n % 64) % 64 else (stop + n) % 64

/-- A reservation mark on a slot (R243). -/
structure RingResv where
  stop : Nat := 0
  ring : Nat := 0
  slot : Nat := 0
  deriving DecidableEq, Repr

/-- A packet whose units a stop is injecting on a ring (R234): how many are left, of which packet. -/
structure RingFeed where
  dst   : Nat := 0
  flow  : Nat := 0
  seq   : Nat := 0
  left  : Nat := 0
  taken : Bool := false
  deriving DecidableEq, Repr

/-- Units that an accepted packet holds in an ejection buffer, until a token (R239). -/
structure Ejected where
  stop   : Nat := 0
  ring   : Nat := 0
  units  : Nat := 0
  until_ : Nat := 0
  deriving DecidableEq, Repr

/-- A blocked flow at a destination stop (R240). -/
structure RingBlock where
  dst   : Nat := 0
  src   : Nat := 0
  ring  : Nat := 0
  kind  : Nat := 0
  until_ : Nat := 0
  deriving DecidableEq, Repr

/-- A request tag of a stop (R245). -/
inductive TagSt where
  | free
  | busy (owner : RingOwner)
  /-- timed out at this tick of the model's clock -/
  | quarantined (at_ : Nat)
  deriving DecidableEq, Repr

/-- A tag and its generation. -/
structure RingTag where
  st  : TagSt := .free
  gen : Nat := 0
  deriving DecidableEq, Repr

/-- A fabric packet being put together at a block (R681). -/
structure RingAsm where
  dst   : Nat := 0
  src   : Nat := 0
  kind  : Nat := 0
  cells : List (BitVec 1024) := []
  deriving DecidableEq, Repr

/-- A packet built by a block, waiting for the ring: bytes that reads of host memory still owe are listed in `wait` as
(read, offset). -/
structure Built where
  stop    : Nat := 0
  hdr     : Header := {}
  payload : List Byte := []
  wait    : List (Nat × Nat) := []
  /-- cells already handed to the ring -/
  sent    : Nat := 0
  /-- slice and work entry the packet belongs to -/
  owner   : Option (Nat × Nat) := none
  slice   : Nat := 0
  deriving DecidableEq, Repr

/-- A fabric packet that has reached a block at a ring stop and waits to be acted on; `hold` is the translation it waits
for. -/
structure Arrived where
  stop : Nat := 0
  pkt  : Packet := {}
  hold : Option WalkWait := none
  deriving DecidableEq, Repr

/-- The ring network. -/
structure Rings where
  pkts   : List RingPkt := []
  /-- SEQ of the next packet by source, destination and KIND (R236) -/
  seq    : Table Nat := []
  /-- EXPECT by destination, source and KIND (R247) -/
  expect : Table Nat := []
  blocks : List RingBlock := []
  /-- the units on the rings (R233, R234) -/
  slots  : List RingUnit := []
  /-- reservations travelling (R243) -/
  resv   : List RingResv := []
  /-- packets being injected, by 4 × stop + ring -/
  feeds  : Table RingFeed := []
  /-- flows whose next packets wait for a packet injected again: until this token (R241) -/
  holds  : Table Nat := []
  ejected : List Ejected := []
  /-- entries that wait in a crossing for a stopped clock: host-port controllers 0–3, the caddy's 4 (R254) -/
  waits  : Table (List RingPkt) := []
  /-- tags, 1024 × stop + tag -/
  tags   : Table RingTag := []
  asm    : List RingAsm := []
  /-- packets under way from an inner port to a block: inner port and class, packet of its output, destination stop -/
  heading : List ((Nat × Nat) × Nat × Nat) := []
  deriving DecidableEq, Repr

end Sys2Proof.Machine
end

