-- ==== Sys2Proof/Machine/SystemTypes.lean ====
section
/-! DEFINITION. State of the device as a whole: the fault collectors (chapter 18), the twin pair (chapter 17), power, clocks, time
and reset (chapter 21), and the test access port (chapter 24). -/

namespace Sys2Proof.Machine

/-! Chapter 18 -/

/-- STATE of a fault source (Table FLT-12). -/
inductive FaultSt where
  | idle | active | held | latched
  deriving DecidableEq, Repr

/-- STATE's code. -/
def FaultSt.code : FaultSt → Nat | .idle => 0 | .active => 1 | .held => 2 | .latched => 3

/-- One fault source: its ladder, its open record and its squall window. -/
structure FaultSrc where
  st         : FaultSt := .idle
  rung       : Nat := 0
  squall     : Bool := false
  wire       : Bool := false
  /-- a forced event is in the record; the record began with one (Table FLT-12) -/
  forced     : Bool := false
  began      : Bool := false
  /-- FAULT_REACTION as it stood when the source opened (R549) -/
  reaction   : BitVec 64 := 0
  /-- events in the open squall window; none while no window is open -/
  window     : Option Nat := none
  recoveries : Nat := 0
  /-- events of the open record, merged events, the first merged source -/
  events     : Nat := 0
  secCount   : Nat := 0
  secondary  : Option Nat := none
  /-- the isolate action of the source is in force -/
  isolating  : Bool := false
  deriving DecidableEq, Repr

/-- One record of the fault log (Table FLT-5). -/
structure FaultRec where
  seq       : Nat := 0
  time      : Nat := 0
  source    : Nat := 0x7FF
  kind      : Nat := 0
  flags     : Nat := 0
  events    : Nat := 0
  secCount  : Nat := 0
  secondary : Nat := 0xFFFF
  detail    : Nat := 0
  deriving DecidableEq, Repr

/-- The two fault collectors; they hold the same state (R534). -/
structure Collectors where
  srcs        : Table FaultSrc := []
  log         : Table FaultRec := []
  /-- SEQ of the next record -/
  logSeq      : Nat := 0
  /-- records that wait for the caddy, oldest first (R547) -/
  waiting     : List FaultRec := []
  lost        : Nat := 0
  silent      : Bool := false
  silentCause : Nat := 0
  aOk         : Bool := true
  bOk         : Bool := true
  /-- COLLECTORS_AGREE (R536) -/
  agree       : Bool := true
  /-- collector B's next decision word is altered (R551) -/
  alter       : Bool := false
  /-- forced events and forced wire faults under way, oldest first (R551) -/
  forced      : List Nat := []
  forcedWires : List Nat := []
  /-- the controller's watch is armed; heartbeats missed in a row (R545) -/
  mcArmed     : Bool := false
  mcMissed    : Nat := 0
  /-- memory links that an isolate action holds down -/
  mems        : List Nat := []
  deriving DecidableEq, Repr

/-! Chapter 17 -/

/-- Twin states (Table TWN-12). -/
inductive TwinSt where
  | joining | solo | resync | lead | trail | adopting | surrendered
  deriving DecidableEq, Repr

/-- STATE's code. -/
def TwinSt.code : TwinSt → Nat
  | .joining => 0 | .solo => 1 | .resync => 2 | .lead => 3 | .trail => 4 | .adopting => 5 | .surrendered => 6

/-- A heartbeat (Table TWN-4). -/
structure Heartbeat where
  seq     : Nat := 0
  state   : Nat := 0
  alert   : Nat := 0
  mcAlive : Bool := false
  agree   : Bool := false
  shadow  : Bool := false
  side    : Bool := false
  cause   : Nat := 0
  node    : Node := 0
  adopted : Option Node := none
  gen     : Nat := 0
  deriving DecidableEq, Repr

/-- A low pulse on TWIN_ALERT_N (Table TWN-3). -/
inductive Pulse where
  | beat | distress | adopt
  deriving DecidableEq, Repr

/-- A write whose answer waits for the partner (R512). -/
structure Mirror where
  q       : Req := {}
  obj     : Nat := 0
  sub     : Nat := 0
  status  : Fdp := .ok
  changes : List Change := []
  /-- passed to the leader and not yet applied here -/
  passed  : Bool := false
  deriving DecidableEq, Repr

/-- The twin pair as one device holds it. -/
structure Twin where
  st          : TwinSt := .joining
  /-- the last heartbeat of the partner -/
  partner     : Option Heartbeat := none
  /-- the heartbeat is present; uptime at the last pulse decoded -/
  hb          : Bool := false
  beatAt      : Option Nat := none
  /-- this device leads the pair (R509) -/
  lead        : Bool := false
  pinFault    : Bool := false
  adoptCause  : Nat := 0
  /-- cause of the own surrender, carried in heartbeats -/
  askCause    : Nat := 0
  shadowValid : Bool := false
  gen         : Nat := 0
  hot         : Nat := 0
  cold        : Nat := 0
  hbSeq       : Nat := 0
  /-- copies of alert pulses still to be sent (R505) -/
  copies      : List Pulse := []
  /-- shadows of the partner's device-scope objects (R513) -/
  shadow      : Table Image := []
  /-- keys whose change the partner lacks (R512) -/
  behind      : List Nat := []
  mirrors     : List Mirror := []
  /-- pair-session messages that wait for the twin link, oldest first -/
  outbox      : List PairMsg := []
  /-- the pair session is open -/
  session     : Bool := false
  /-- the resync under way is a RESTORE -/
  restore     : Bool := false
  /-- a resync has completed since the partner last joined (R529) -/
  joined      : Bool := false
  /-- a partner reset is due after RESET_DELAY (Table TWN-8) -/
  resetDue    : Bool := false
  /-- uptime at the last partner reset (R527) -/
  resetAt     : Option Nat := none
  /-- entries of GROUP_ROUTE and KEY_TABLE that a lookup has read since the sweep last visited them (Table TWN-7) -/
  routeRefs   : List Nat := []
  keyRefs     : List Nat := []
  /-- pulses of no listed width (R504) -/
  oddPulses   : Nat := 0
  deriving DecidableEq, Repr

/-! Chapter 21 -/

/-- Where start-up stands (R627, R629). -/
inductive Boot where
  /-- held in reset -/
  | held
  /-- t0 has passed -/
  | released
  /-- the firmware is checked and the management controller runs -/
  | booted
  /-- the end of start-up -/
  | up
  deriving DecidableEq, Repr

/-- Time states (Table PWR-10). -/
inductive TimeSt where
  | free | acquiring | synced | holdover
  deriving DecidableEq, Repr

/-- STATE's code (Table PWR-11). -/
def TimeSt.code : TimeSt → Nat | .free => 0 | .acquiring => 1 | .synced => 2 | .holdover => 3

/-- The timebase's discipline (R619–R625).  Times are in 2⁻³² ns, rates in 2⁻³² ns for each tick of 8 ns. -/
structure TimeUnit where
  st         : TimeSt := .free
  refclkLost : Bool := false
  ppsSeen    : Bool := false
  /-- frequency and phase correction of a tick -/
  f          : Int := 0
  p          : Int := 0
  /-- what TIME still has to stand still for -/
  hold       : Nat := 0
  offset     : Int := 0
  delay      : Int := 0
  /-- consecutive corrections within ±10 ns -/
  good       : Nat := 0
  probeSeq   : Nat := 0
  /-- the probe under way: its SEQ, and T1 once it has left, in 2⁻³² ns -/
  probe      : Option (Nat × Option Nat) := none
  /-- TIME_SET of the next PPS edge -/
  ppsTime    : Option Nat := none
  deriving DecidableEq, Repr

/-- Power, voltage, token rate, temperature (R610–R617). -/
structure Power where
  request    : Nat := 0x1E
  readback   : Nat := 0
  avsFault   : Bool := false
  limit      : Bool := false
  errors     : Nat := 0
  /-- consecutive windows above TARGET + 4 % -/
  above      : Nat := 0
  /-- uptime at the last change of the request -/
  changedAt  : Option Nat := none
  now        : Nat := 0
  /-- lowest window since the last read; none before the first window -/
  low        : Option Nat := none
  tj         : BitVec 8 := 0
  intervals  : Nat := 0
  longest    : Nat := 0
  /-- the token rate in per cent: 100 outside an interval -/
  pace       : Nat := 100
  /-- uptime at the start of the interval -/
  paceAt     : Nat := 0
  /-- an interval has touched the present AVS window -/
  touched    : Bool := false
  /-- the next rise to TJ_ALARM raises THERMAL -/
  armed      : Bool := true
  deriving DecidableEq, Repr

/-! Chapter 24 -/

/-- States of the IEEE 1149.1 TAP controller. -/
inductive TapSt where
  | testLogicReset | runTestIdle
  | selectDr | captureDr | shiftDr | exit1Dr | pauseDr | exit2Dr | updateDr
  | selectIr | captureIr | shiftIr | exit1Ir | pauseIr | exit2Ir | updateIr
  deriving DecidableEq, Repr

/-- The test access port. -/
structure Tap where
  st    : TapSt := .testLogicReset
  instr : TapInstr := .idcode
  /-- bits of the selected data register still to be shifted out, next first -/
  dr    : List Bool := []
  /-- an EXTEST instruction drives the pins: the device is out of mission mode -/
  seized : Bool := false
  deriving DecidableEq, Repr

end Sys2Proof.Machine
end

