-- ==== Sys2Proof/Machine/OutTypes.lean ====
section
/-! DEFINITION. What leaves the block: the outbox in which the model writes down, newest first, everything the
device sends or drives.  The outbox is the model's own field (notes/assumptions/3.md). -/

namespace Sys2Proof.Machine

/-- One thing the device sent or drove. -/
inductive Out where
  /-- a link cell on a port (48 for the twin port) -/
  | cell (port : Nat) (c : LinkCell)
  /-- an alignment block with its AB_COUNT, on every data lane: at the start of a stream and after every 8,192 codewords (R76) -/
  | alignBlock (port count : Nat)
  /-- the transmitter's last codeword, with its control field: CALM_NEXT or DOZE_NEXT (R72, R93, R96) -/
  | codeword (port control : Nat)
  /-- PRBS31 in the second half of a calm window (R91) -/
  | prbs (port : Nat)
  /-- a wake tone on the clock lane (R98) -/
  | wakeTone (port : Nat)
  /-- a test pattern (R90) -/
  | pattern (port : Nat) (value : BitVec 32)
  /-- a response of the dictionary server on a path (R565) -/
  | fdp (path : Path) (r : FdpResp)
  /-- an MSI-X message of a function's vector, with its table entry -/
  | msix (func vector addr : Nat) (data : BitVec 32)
  /-- a memory write, with Relaxed Ordering or without, a memory read request (with its number) on link `inst / 2` of a function -/
  | hostWrite (inst func addr : Nat) (data : List Byte) (relaxed : Bool)
  | hostRead (inst func addr len id : Nat)
  /-- PM_PME of a function; LTR, an L0p width request, an L1 request and an exit from L1 of a link (port × 2 + link) -/
  | pme (func : Nat)
  | ltr (link : Nat) (value : Nat)
  | l0p (link width : Nat)
  | askL1 (link : Nat)
  | exitL1 (link : Nat)
  /-- a ring unit other than CELL handed to the block at its stop; a response made at its own stop -/
  | ringUnit (p : RingPkt)
  | ringAnswer (stop status : Nat)
  /-- the ZERO service has written zeros over a span of the memory address space (R495) -/
  | zeroed (base len : Nat)
  /-- a lock word read by a master (R355) -/
  | lockWord (slice master lock : Nat) (w : BitVec 32)
  /-- a low pulse on TWIN_ALERT_N (Table TWN-3); one on TWIN_RESET_OUT_N, in 100 µs (R527) -/
  | alert (p : Pulse)
  | resetOut (width : Nat)
  /-- a message of the pair session (R501, R502) -/
  | pair (m : PairMsg)
  /-- a CAN FD frame: identifier, data (R568–R571) -/
  | canFrame (id : Nat) (data : List Byte)
  /-- a Voltage write with commit, a Voltage read on the adaptive-voltage bus, in mV (R610) -/
  | avs (millivolts : Nat)
  /-- TDO of the test access port (R668) -/
  | tdo (b : Bool)
  deriving DecidableEq, Repr

end Sys2Proof.Machine
end

