-- ==== Sys2Proof/Machine/QueueTypes.lean ====
section
/-! DEFINITION. State of the host side: host links and functions (chapter 9), slices and queues (chapter 10), engines,
the host-bandwidth arbiter and the lock bank (chapter 11). -/

namespace Sys2Proof.Machine

/-! Chapter 9 -/

/-- One link of a host port (Table HST-9). -/
structure HLink where
  /-- STATE code of Table HST-9 -/
  st      : Nat := 15
  width   : Nat := 0
  speed   : Nat := 0
  cxl     : Bool := false
  /-- the functions answer configuration requests (R282) -/
  ready   : Bool := false
  /-- LTR last sent was LTR_ACTIVE (R276) -/
  ltrHigh : Bool := false
  /-- bytes moved since the last L0p measurement -/
  moved   : Nat := 0
  /-- the device has started an exit from L1 (R278) -/
  leaving : Bool := false
  /-- ASPM L1 enabled in the PF's Link Control, and its L1 PM Substates Control: [3] ASPM L1.1, [2] ASPM L1.2, [1] PCI-PM L1.1,
  [0] PCI-PM L1.2 (R275) -/
  aspmL1  : Bool := false
  l1ss    : BitVec 4 := 0
  deriving DecidableEq, Repr

/-- Mailbox of a PF (Table HST-8). -/
structure Mailbox where
  busy   : Bool := false
  done   : Bool := false
  irqEn  : Bool := false
  rspLen : Nat := 0
  reqLen : Nat := 0
  /-- the message that was submitted, and the response buffer -/
  req    : List Byte := []
  rsp    : List Byte := []
  deriving DecidableEq, Repr

/-- One host port. -/
structure HPort where
  /-- the links are held as under asserted PERST#: by the pin, or by an isolate action (Table FLT-6) -/
  perst : Bool := true
  /-- Hk_PERST_N is asserted -/
  pin   : Bool := true
  held  : Bool := false
  linkA : HLink := { st := 8 }
  linkB : HLink := {}
  mbxA  : Mailbox := {}
  mbxB  : Mailbox := {}
  deriving DecidableEq, Repr

/-- Power state of a function (Table HST-2). -/
inductive DState where
  | d0 | d3hot | d3cold
  deriving DecidableEq, Repr

/-- PME state of a function (Table HST-11). -/
inductive PmeSt where
  | clear | owed | sent | cancelled
  deriving DecidableEq, Repr

/-- An entry of an MSI-X table; every vector is masked at reset (R272). -/
structure MsixVec where
  addr   : BitVec 64 := 0
  data   : BitVec 32 := 0
  masked : Bool := true
  deriving DecidableEq, Repr

/-- One function: port × 512 + FUNC_MAP entry. -/
structure Func where
  /-- Memory Space Enable, Bus Master Enable, VF Enable and NumVFs -/
  mse     : Bool := false
  bme     : Bool := false
  vfe     : Bool := false
  numVfs  : Nat := 0
  power   : DState := .d0
  pme     : PmeSt := .clear
  pmeEn   : Bool := false
  pmeStat : Bool := false
  msixEn  : Bool := false
  /-- function mask of MSI-X -/
  fmask   : Bool := false
  /-- the function enables Relaxed Ordering (Table HST-2) -/
  relaxed : Bool := true
  /-- MSI-X table by vector -/
  vecs    : Table MsixVec := []
  /-- pending bits -/
  pend    : List Nat := []
  deriving DecidableEq, Repr

/-! Chapter 10 -/

/-- Slice states (Table WKQ-5). -/
inductive SliceSt where
  | stopped | starting | running | recovering | test | halted
  deriving DecidableEq, Repr

/-- STATE of SLICE_STATUS (Table WKQ-6). -/
def SliceSt.code : SliceSt → Nat
  | .stopped => 0 | .starting => 1 | .running => 2 | .recovering => 3 | .test => 4 | .halted => 5

/-- A state change that takes time (R289). -/
inductive Settle where
  | stop | reset
  /-- a halt with its cause code (Table WKQ-6) -/
  | halt (cause : Nat)
  deriving DecidableEq, Repr

/-- One slice. -/
structure Slice where
  st        : SliceSt := .stopped
  haltCause : Nat := 0
  check     : Nat := 0
  wq        : Nat := 0
  index     : Nat := 0
  malformed : Nat := 0
  /-- a change under way -/
  settle    : Option Settle := none
  /-- a RESET request waits for the halt to complete (Table WKQ-23) -/
  resetNext : Bool := false
  deriving DecidableEq, Repr

/-- READY or ERROR with its cause (R316, Table WKQ-19). -/
inductive QueueSt where
  | ready
  | error (cause : Nat)
  deriving DecidableEq, Repr

/-- How far an entry has come. -/
inductive EntrySt where
  /-- its read is under way -/
  | fetching
  | fetched
  /-- admitted into a deque: it has started (R333) -/
  | started
  | finished
  deriving DecidableEq, Repr

/-- An entry's fragment table (R303). -/
inductive Frags where
  | none
  | reading
  /-- fragments: address and length -/
  | table (l : List (Nat × Nat))
  deriving DecidableEq, Repr

/-- An entry between FETCH and HEAD. -/
structure WqEntry where
  pos    : Nat := 0
  /-- the entry and its continuation slots, 64 × (1 + INLINE_UNITS) bytes -/
  bytes  : List Byte := []
  st     : EntrySt := .fetching
  pushed : Bool := false
  /-- sampled for a record (R642), with the time in ns of its doorbell -/
  sample : Option Nat := none
  /-- the fragment table: not read, being read, read (R303) -/
  frags  : Frags := .none
  /-- a CONTROL_SEND whose packet has been built -/
  built  : Bool := false
  deriving DecidableEq, Repr

/-- A work queue. -/
structure Wq where
  slice    : Nat := 0
  /-- function: port × 512 + FUNC_MAP entry -/
  func     : Nat := 0
  page     : Nat := 0
  slot     : Nat := 0
  log      : Nat := 6
  base     : Nat := 0
  cq       : Nat := 0
  station  : Nat := 0
  push     : Bool := false
  jobValid : Bool := false
  job      : Nat := 0
  st       : QueueSt := .ready
  producer : Nat := 0
  fetch    : Nat := 0
  head     : Nat := 0
  home     : Nat := 0
  /-- supervisor: fixed when the queue is created (R364) -/
  priv     : Bool := false
  /-- cluster that left service and whose packets must first cross (R345) -/
  oldHome  : Option Nat := none
  entries  : List WqEntry := []
  /-- slots received and not yet part of an entry, from position `parse` on -/
  raw      : List (Nat × List Byte) := []
  parse    : Nat := 0
  /-- time in ns at which the last doorbell or push reached the pins -/
  rungAt   : Nat := 0
  /-- a DESTROY_WQ is under way (R296) -/
  closing  : Bool := false
  deriving DecidableEq, Repr

/-- What a completion entry says (Table WKQ-17). -/
structure Completion where
  status  : Comp := .ok
  opcode  : Nat := 0
  wq      : Nat := 0
  index   : Nat := 0
  head    : Nat := 0
  user    : Nat := 0
  count   : Nat := 0
  detail  : Nat := 0
  /-- SPECIFIC, bytes 24–59 -/
  specific : Nat := 0
  solicited : Bool := false
  deriving DecidableEq, Repr

/-- A completion queue. -/
structure Cq where
  slice    : Nat := 0
  func     : Nat := 0
  page     : Nat := 0
  slot     : Nat := 0
  log      : Nat := 6
  base     : Nat := 0
  eq       : Nat := 0
  st       : QueueSt := .ready
  wpos     : Nat := 0
  start    : Nat := 0
  /-- entries written since creation, for PHASE (R310) -/
  written  : Nat := 0
  consumer : Nat := 0
  armed    : Bool := false
  solOnly  : Bool := false
  /-- a written completion not yet consumed counts under SOLICITED_ONLY: its position -/
  notable  : List Nat := []
  /-- completions that wait for the consumer word of a notification ring (R499), or for its context to be loaded (R286), with the
  keys they follow -/
  held     : List (Completion × Nat) := []
  deriving DecidableEq, Repr

/-- An event queue. -/
structure Eq where
  slice    : Nat := 0
  func     : Nat := 0
  page     : Nat := 0
  slot     : Nat := 0
  log      : Nat := 6
  base     : Nat := 0
  vector   : Nat := 0
  slices   : Bool := false
  st       : QueueSt := .ready
  wpos     : Nat := 0
  written  : Nat := 0
  consumer : Nat := 0
  armed    : Bool := false
  lost     : Nat := 0
  /-- events that wait for its context to be loaded (R286): type, source, DETAIL, key -/
  held     : List (Nat × Nat × Nat × Nat) := []
  deriving DecidableEq, Repr

/-! Chapter 11 -/

/-- What an item was made from (Table ENG-1). -/
inductive ItemSrc where
  | entry (wq pos : Nat)
  /-- further packets of an operation -/
  | segment (wq pos : Nat)
  deriving DecidableEq, Repr

/-- Why an item is parked (Table ENG-7, R376). -/
inductive ParkCause where
  | shaper
  | function (f : Nat)
  | frost (f : Nat)
  | miss (id : Nat)
  /-- no pending miss is free -/
  | noMiss
  /-- a rank-cache miss: job and rank -/
  | rank (job rank : Nat)
  deriving DecidableEq, Repr

/-- Where an item is. -/
inductive ItemPlace where
  | intake
  | deque (engine : Nat)
  | running (engine : Nat)
  | parked (cause : ParkCause)
  /-- stolen, on the ring to its thief (R339) -/
  | ring (engine : Nat)
  deriving DecidableEq, Repr

/-- One item.  Items of a cluster's intake stand in arrival order in the list of items. -/
structure Item where
  id      : Nat := 0
  slice   : Nat := 0
  src     : ItemSrc := .entry 0 0
  key     : Option Nat := none
  cost    : Nat := 1
  /-- cluster whose intake and directory hold it -/
  cluster : Nat := 0
  place   : ItemPlace := .intake
  /-- place in its deque: lower is nearer the head -/
  rank    : Nat := 0
  stolen  : Bool := false
  remote  : Bool := false
  deriving DecidableEq, Repr

/-- The engine array. -/
structure Engines where
  items    : List Item := []
  nextItem : Nat := 0
  nextRank : Nat := 0
  /-- VT, 256 × cluster + slice (R332) -/
  vt       : Table Nat := []
  /-- engines out of service (R344) -/
  out      : List Nat := []
  /-- CLUSTER_MASK under which a slice's range of stations was bound, 16 × slice + entry of SLICE_STATIONS (R336) -/
  bound    : Table Nat := []
  deriving DecidableEq, Repr

/-- Who waits for bytes read from host memory. -/
inductive ReadOwner where
  | none
  /-- `n` positions of a WQ from a position -/
  | fetch (wq pos n : Nat)
  /-- payload of a built packet -/
  | payload
  /-- a queue context from the store: kind 0 WQ, 1 CQ, 2 EQ (R286) -/
  | context (kind n : Nat)
  /-- a table entry of a walk -/
  | walk (id : Nat)
  /-- bytes gathered for a block that acts once all of them are there -/
  | gather (id : Nat)
  /-- the sample ring's consumer word (R644) -/
  | sample
  /-- a CQ's consumer word in service mode (R499) -/
  | consumer (cq : Nat)
  /-- the last bytes placed through a link, before a completion through another (R680) -/
  | order (key link : Nat)
  deriving DecidableEq, Repr

/-- A request of the device to host memory, at most 512 bytes (R346). -/
structure Burst where
  id     : Nat := 0
  /-- 4 × host port + 2 × link + 1 for a write -/
  inst   : Nat := 0
  func   : Nat := 0
  slice  : Nat := 0
  addr   : Nat := 0
  len    : Nat := 0
  data   : List Byte := []
  owner  : ReadOwner := .none
  /-- operation whose payload it carries, or that it reports; 0 for none (R350) -/
  key    : Nat := 0
  /-- a completion, event or MSI-X write (R350) -/
  report : Bool := false
  /-- times taken away (R349) -/
  taken  : Nat := 0
  granted : Bool := false
  /-- an MSI-X message of this vector -/
  msix   : Option Nat := none
  /-- the access it was translated from, if it was, and whether the translation must be made, or made again (R385) -/
  acc    : Option Access := none
  stale  : Bool := false
  /-- the queue whose ring it serves: kind × 65536 + number, kind 0 WQ, 1 CQ, 2 EQ; 3 a slice's counter record -/
  ring   : Option Nat := none
  deriving DecidableEq, Repr

/-- A read at the host, waiting for its completion. -/
structure HostRead where
  id    : Nat := 0
  inst  : Nat := 0
  func  : Nat := 0
  slice : Nat := 0
  addr  : Nat := 0
  len   : Nat := 0
  owner : ReadOwner := .none
  key   : Nat := 0
  deriving DecidableEq, Repr

/-- What is done with gathered bytes. -/
inductive GatherFor where
  /-- the fragment table of an entry -/
  | frags (wq pos : Nat)
  /-- an unexpected message's bin, to be copied into a receive's buffer -/
  | bin (id : Nat)
  /-- the old value of an atomic -/
  | atomic (id : Nat)
  /-- a segment of a collective contribution -/
  | contribution (ctx member seg : Nat)
  /-- a block exponents' input -/
  | exponents (ctx member seg : Nat)
  /-- a rank-table entry: slice, job, rank -/
  | rank (slice job rank : Nat)
  deriving DecidableEq, Repr

/-- Bytes being gathered from host memory: reads still owed with their offsets, bytes so far. -/
structure Gather where
  id    : Nat := 0
  for_  : GatherFor := .frags 0 0
  wait  : List (Nat × Nat) := []
  bytes : List Byte := []
  deriving DecidableEq, Repr

/-- The last bytes of an operation's payload that went through a link (R680). -/
structure Placed where
  key   : Nat := 0
  link  : Nat := 0
  func  : Nat := 0
  slice : Nat := 0
  addr  : Nat := 0
  /-- the read of those bytes has been asked for -/
  asked : Bool := false
  deriving DecidableEq, Repr

/-- The host-bandwidth arbiter (R346–R352). -/
structure Arbiter where
  bursts : List Burst := []
  nextId : Nat := 1
  /-- CREDIT, 256 × instance + slice -/
  credit : Table Int := []
  /-- slices with a burst waiting or granted in the present window, 256 × instance + slice -/
  active : List Nat := []
  /-- payload whose report may go through another link -/
  placed : List Placed := []
  deriving DecidableEq, Repr

/-- The host side as a whole. -/
structure HostSide where
  ports   : Table HPort := []
  funcs   : Table Func := []
  slices  : Table Slice := []
  wqs     : List (Nat × Wq) := []
  cqs     : List (Nat × Cq) := []
  eqs     : List (Nat × Eq) := []
  /-- queue contexts on chip, most recently used first: kind × 65536 + number (R286) -/
  cached  : List Nat := []
  engines : Engines := {}
  arb     : Arbiter := {}
  /-- reads issued and not completed -/
  reads   : List HostRead := []
  gathers : List Gather := []
  nextGather : Nat := 0
  /-- lock words that differ from zero (R354) -/
  locks   : Table (BitVec 32) := []
  /-- a device halt is in force (R322) -/
  devHalt : Bool := false
  deriving DecidableEq, Repr

end Sys2Proof.Machine
end

