-- ==== Sys2Proof/Machine/RemoteTypes.lean ====
section
/-! DEFINITION. State of message matching (chapter 13) and of remote memory access (chapter 14): peer contexts, match lists,
rendezvous, the rank cache, operations and messages of the initiator, trackers and answers of the target. -/

namespace Sys2Proof.Machine

/-! Chapter 13 -/

/-- A message sent and not acknowledged (R393). -/
structure Unacked where
  num : Nat := 0
  wq  : Nat := 0
  pos : Nat := 0
  /-- it goes by rendezvous -/
  rdv : Bool := false
  /-- it has completed already, on a discard notice (R188), and is not acknowledged yet -/
  ended : Bool := false
  deriving DecidableEq, Repr

/-- The sending side of a channel (R388, R389, R395). -/
structure SendChan where
  /-- new, or SYNC_OWED -/
  sync    : Bool := true
  next    : Nat := 0
  unacked : List Unacked := []
  deriving DecidableEq, Repr

/-- The receiving side of a channel (R392). -/
structure RecvChan where
  known  : Bool := false
  expect : Nat := 0
  /-- broken, with its cause -/
  broken : Option Nat := none
  /-- an ordinary acknowledgement is owed for this number, with the header it answers -/
  owed   : Option (Nat × Header) := none
  deriving DecidableEq, Repr

/-- A rendezvous at its sender (R407, R408). -/
structure RdvSend where
  num      : Nat := 0
  cls      : Nat := 0
  wq       : Nat := 0
  pos      : Nat := 0
  pkey     : BitVec 16 := 0
  ctx      : Nat := 0
  /-- grants that no item has sent yet: first byte, bytes -/
  grants   : List (Nat × Nat) := []
  accepted : Bool := false
  deriving DecidableEq, Repr

/-- A chunk granted and not filled: first byte, length, bytes arrived. -/
structure Chunk where
  first : Nat := 0
  len   : Nat := 0
  got   : Nat := 0
  deriving DecidableEq, Repr

/-- A rendezvous at its receiver (R407). -/
structure RdvRecv where
  num    : Nat := 0
  cls    : Nat := 0
  /-- header of its RTS -/
  hdr    : Header := {}
  rank   : Nat := 0
  total  : Nat := 0
  solicit : Bool := false
  /-- the receive it was matched with -/
  wq     : Nat := 0
  pos    : Nat := 0
  /-- bytes to be taken, bytes granted so far, offsets of the DATA packets placed -/
  want    : Nat := 0
  granted : Nat := 0
  chunks  : List Chunk := []
  offsets : List Nat := []
  deriving DecidableEq, Repr

/-- A posted receive (R400). -/
structure Posted where
  wq     : Nat := 0
  pos    : Nat := 0
  tag    : BitVec 32 := 0
  mask   : BitVec 32 := 0
  source : Nat := 0
  /-- post order within the context -/
  stamp  : Nat := 0
  deriving DecidableEq, Repr

/-- An unexpected message (R406). -/
structure Unexpected where
  id      : Nat := 0
  hdr     : Header := {}
  rank    : Nat := 0
  total   : Nat := 0
  solicit : Bool := false
  /-- its bin; none for an RTS -/
  bin     : Option Nat := none
  /-- a receive has taken it and its data is being copied from the bin: where it goes, whether those translations must be made
  again (R385), and the fault that cut it short -/
  taken   : Option (Nat × Nat) := none
  spans   : Spans := []
  stale   : Bool := false
  err     : Option TFault := none
  /-- it waits behind a walk of the overflow list (R404) -/
  waiting : Bool := false
  deriving DecidableEq, Repr

/-- The lists of one matching context (R400, R403, R404). -/
structure MatchCtx where
  posted   : List Posted := []
  /-- overflow records: record index and receive -/
  overflow : List (Nat × Posted) := []
  unex     : List Unexpected := []
  /-- a message stored as unexpected for which the overflow list is being walked -/
  walking  : Option Nat := none
  stamp    : Nat := 0
  deriving DecidableEq, Repr

/-! Chapter 14 -/

/-- Kinds of remote-memory message. -/
inductive RKind where
  | put | notify | get | atomic
  deriving DecidableEq, Repr

/-- A message of the initiator that is not finished (R420, R421, R432, R435). -/
structure RMsg where
  num    : Nat := 0
  wq     : Nat := 0
  pos    : Nat := 0
  kind   : RKind := .put
  /-- first target address, bytes, first byte within the local buffer -/
  addr   : Nat := 0
  len    : Nat := 0
  off    : Nat := 0
  pkts   : Nat := 1
  /-- packets sent, packets acknowledged, packets sent more than once -/
  sent   : Nat := 0
  acked  : List Nat := []
  again  : List Nat := []
  /-- packets whose timer has expired and that are still to be sent again (R218, R435) -/
  due    : List Nat := []
  /-- tick of each packet's first sending -/
  times  : List Nat := []
  tries  : Nat := 0
  /-- tick at which the timer started -/
  timer  : Nat := 0
  /-- where a GET's or an atomic's answer goes: fixed when it is issued (R443) -/
  spans  : Spans := []
  /-- those translations must be made again (R385) -/
  stale  : Bool := false
  deriving DecidableEq, Repr

/-- An operation of the initiator (R433). -/
structure ROp where
  wq     : Nat := 0
  pos    : Nat := 0
  slice  : Nat := 0
  pair   : Pair := {}
  cls    : Nat := 0
  pkey   : BitVec 16 := 0
  /-- bytes given to messages so far, out of the whole; whether every message exists -/
  cut    : Nat := 0
  all    : Bool := false
  /-- the lowest-numbered failure: number, code, DETAIL -/
  failed : Option (Nat × Comp × Nat) := none
  /-- bytes of the messages acknowledged OK -/
  okLen  : Nat := 0
  /-- value an atomic fetched -/
  value  : Nat := 0
  deriving DecidableEq, Repr

/-- A message in progress at the target (R426). -/
structure Tracker where
  num   : Nat := 0
  pkts  : Nat := 1
  rcvd  : List Nat := []
  /-- header of its first packet, which its answers answer -/
  hdr   : Header := {}
  deriving DecidableEq, Repr

/-- A peer context (R440). -/
structure Peer where
  pair  : Pair := {}
  slice : Nat := 0
  /-- channels of TC2 and TC3 -/
  send2 : SendChan := {}
  send3 : SendChan := {}
  recv2 : RecvChan := {}
  recv3 : RecvChan := {}
  rdvS  : List RdvSend := []
  rdvR  : List RdvRecv := []
  /-- next remote-memory number, messages not finished -/
  next  : Nat := 0
  msgs  : List RMsg := []
  /-- RTO estimation in units of 2^-16 ns: SRTT and RTTVAR once there is a sample, RTO in 0.1 µs -/
  srtt  : Option (Nat × Nat) := none
  rto   : Option Nat := none
  /-- PWND with 8 fraction bits, once used, and the tick of its last cut by an echo -/
  pwnd  : Option Nat := none
  cutAt : Option Nat := none
  /-- HIGH, once a message has come (R429) -/
  high  : Option Nat := none
  /-- complete numbers of the window -/
  done  : List Nat := []
  /-- error ring and result ring, newest first, and the newest number evicted from the error ring (R430) -/
  errs  : List (Nat × Comp) := []
  evicted : Option Nat := none
  results : List (Nat × Nat × Nat) := []
  trackers : List Tracker := []
  /-- messages with a placement that no SACK has reported, and the greatest CONG of their packets (R431) -/
  owed  : List (Nat × Nat) := []
  deriving DecidableEq, Repr

/-- An atomic being executed (R428). -/
structure AtomicOp where
  id    : Nat := 0
  hdr   : Header := {}
  slice : Nat := 0
  func  : Nat := 0
  bus   : Nat := 0
  size  : Nat := 8
  aop   : Nat := 0
  a     : Nat := 0
  b     : Nat := 0
  /-- its translation must be made again (R385) -/
  stale : Bool := false
  deriving DecidableEq, Repr

/-- A placement or read of a request whose bursts have not all been handed over (R424): the packet's header and the local
slice. -/
structure Placing where
  key    : Nat := 0
  hdr    : Header := {}
  slice  : Nat := 0
  region : Nat := 0
  deriving DecidableEq, Repr

/-- Messaging and remote memory access as a whole. -/
structure Remote where
  /-- peer contexts on chip, most recently used first -/
  peers   : List Peer := []
  /-- peer contexts written to the store, by record (R441, R447) -/
  stored  : List (Nat × Peer) := []
  /-- matching contexts' lists -/
  mctx    : Table MatchCtx := []
  nextUnex : Nat := 0
  /-- rank cache, most recently used first: slice, job, rank, entry (R412) -/
  ranks   : List (Nat × Nat × Nat × Nat) := []
  ops     : List ROp := []
  atomics : List AtomicOp := []
  placing : List Placing := []
  nextKey : Nat := 0
  /-- region writes whose response waits for placements (R419): region and request -/
  invals  : List (Nat × Req) := []
  /-- the last PORT_STATE event of a port written to a slice: slice, port, tick, later changes not reported (R445) -/
  portEv  : List (Nat × Nat × Nat × Nat) := []
  deriving DecidableEq, Repr

end Sys2Proof.Machine
end

