-- ==== Sys2Proof/Machine/State.lean ====
section
/-! DEFINITION. The state of the device, the reasons a command can stop, and the state after reset. -/

namespace Sys2Proof.Machine

/-- Faults. No command of this block ends in one: taking a fault is an effect on the state (R538). -/
inductive Fault where
  /-- never raised: kept so that the type has a value; safe -/
  | none
  deriving DecidableEq, Repr

/-- Refusals. -/
inductive Refusal where
  /-- raised by a command whose meaning is not written yet; safe -/
  | notModelled (mnemonic : String)
  deriving DecidableEq, Repr

/-- Straps and order code (R1, R21, R668): fixed by the part and the board, sampled at reset. -/
structure Straps where
  /-- fabric ports enabled: 48, 32 or 24 (R1) -/
  ports    : Nat := 48
  twinSide : Bool := false
  mgmtId   : Nat := 0
  /-- DEVICE_ID, unique per part (R589) -/
  deviceId : BitVec 64 := 0
  deriving DecidableEq, Repr

/-- The state of the device. -/
structure State where
  /-- commands that wait, first in first out -/
  pending : List Instr := []
  /-- what the device has sent, newest first -/
  out     : List Out := []
  /-- free values drawn so far -/
  draws   : Nat := 0
  /-- ticks of the timebase since reset: the model's own clock for "less than X ago" -/
  uptime  : Nat := 0
  straps  : Straps := {}
  /-- stored objects of the dictionary -/
  dict    : Table Image := []
  /-- values in effect of the objects whose writes govern later -/
  active  : Table Image := []
  counters : Table (BitVec 64) := []
  /-- the same events, never cleared but by a device reset: what windows count (R640) -/
  totals  : Table (BitVec 64) := []
  /-- fault events on the wires to the collectors, oldest first (R532) -/
  wires   : List Nat := []
  lanes   : Table Lane := []
  /-- where each port's transmitter stands in its stream -/
  streams : Table TxStream := []
  links   : Table Link := []
  inputs  : Table InBuf := []
  outputs : Table Output := []
  /-- buckets of ingress policers, 8 × port + class -/
  inBuckets  : Table Buckets := []
  /-- buckets of injection policers, by slice -/
  injBuckets : Table Buckets := []
  /-- LEVEL of injection shapers, by slice -/
  injLevel   : Table Int := []
  /-- stored port roles have been applied (R167) -/
  rolesOn  : Bool := false
  /-- ports that an isolate action holds OFF -/
  isolated : List Nat := []
  mgmt     : Mgmt := {}
  /-- maintenance operations, 64 × code + port (R584) -/
  ops      : Table OpSt := []
  /-- TIME in units of 2^-32 ns (R619) -/
  timeQ    : Nat := 0
  /-- bypass messages received and not yet taken by their owner: port, message, TIME at arrival, in 2⁻³² ns -/
  bypassIn : List (Nat × BypassMsg × Nat) := []
  /-- packets built by a block (its ring stop) that wait for the ring, oldest first -/
  built    : List Built := []
  rings    : Rings := {}
  host     : HostSide := {}
  counting : Counting := {}
  trans    : Trans := {}
  remote   : Remote := {}
  colls    : Colls := {}
  service  : Service := {}
  /-- fabric packets handed to a block, oldest first -/
  arrived  : List Arrived := []
  /-- the device has stopped counting its own address as its own (R524) -/
  ownGone  : Bool := false
  /-- the address taken over from the partner (R521) -/
  adopted  : Option Node := none
  faults   : Collectors := {}
  twin     : Twin := {}
  time     : TimeUnit := {}
  power    : Power := {}
  boot     : Boot := .held
  /-- causes that hold the device in reset, by kind (Table PWR-12); RESET_CAUSE -/
  holds    : List Nat := [1]
  lastReset : Nat := 1
  resets   : Nat := 0
  tap      : Tap := {}
  deriving DecidableEq, Repr

/-- The device right after reset. -/
def State.reset : State := {}

end Sys2Proof.Machine
end

