-- ==== Sys2Proof/Machine/Ops.lean ====
section
/-! DEFINITION. Named operations over the state: dictionary values, counters, fault events, free draws, the
outbox and the clock. -/

namespace Sys2Proof.Machine

/-- What a command answers. -/
abbrev Result := Host.Outcome State Fault Refusal

/-- Put an element before the first of a list that does not come before it. -/
def insertBy {α : Type} (le : α → α → Bool) (x : α) : List α → List α
  | [] => [x]
  | y :: ys => if le x y then x :: y :: ys else y :: insertBy le x ys
/-- A list in order; equals keep theirs. -/
def sortBy {α : Type} (le : α → α → Bool) (l : List α) : List α := l.foldr (insertBy le) []
/-- Numbers, the lowest first. -/
def sortNat (l : List Nat) : List Nat := sortBy (fun a b => decide (a ≤ b)) l

/-- The stored value of an object's entry. -/
def State.reg (s : State) (r : Reg) (i : Nat := 0) (e : Nat := 0) : Image :=
  Table.get (r.default i e) s.dict (r.key i e)

/-- Store a value. -/
def State.setReg (s : State) (r : Reg) (i e : Nat) (v : Image) : State :=
  { s with dict := Table.set (r.default i e) s.dict (r.key i e) v }

/-- The value in effect of an object whose writes govern later (Table MGT-3). -/
def State.eff (s : State) (r : Reg) (i : Nat := 0) (e : Nat := 0) : Image :=
  Table.get (r.default i e) s.active (r.key i e)

/-- Let the stored value govern. -/
def State.commit (s : State) (r : Reg) (i e : Nat) : State :=
  { s with active := Table.set (r.default i e) s.active (r.key i e) (s.reg r i e) }

/-- Let the stored values of entries 0 … n − 1 govern. -/
def State.commitAll (s : State) (r : Reg) (i : Nat) : Nat → State
  | 0 => s
  | n + 1 => (s.commitAll r i n).commit r i n

/-- Add `k` to counter `n` (R631: modulo 2^64), and to what windows count of it (R640). -/
def State.count (s : State) (n : Nat) (k : Nat := 1) : State :=
  { s with counters := Table.upd 0 s.counters n (· + BitVec.ofNat 64 k)
           totals := Table.upd 0 s.totals n (· + BitVec.ofNat 64 k) }

/-- A PORT_LINK event (Table CTR-2). -/
def State.countPort (s : State) (p e : Nat) (k : Nat := 1) : State := s.count (p * 32 + e) k
/-- An INGRESS event of a crossbar input. -/
def State.countIn (s : State) (i e : Nat) (k : Nat := 1) : State := s.count (1568 + i * 16 + e) k
/-- An XBR_INPUT event of a crossbar input. -/
def State.countXbr (s : State) (i e : Nat) (k : Nat := 1) : State := s.count (2544 + i * 64 + e) k
/-- An OUTPUT event of a crossbar output. -/
def State.countOut (s : State) (o e : Nat) (k : Nat := 1) : State := s.count (6448 + o * 16 + e) k
/-- A RING event of a ring stop. -/
def State.countRing (s : State) (st e : Nat) (k : Nat := 1) : State := s.count (7424 + st * 8 + e) k
/-- A HOST event of a host port. -/
def State.countHost (s : State) (h e : Nat) (k : Nat := 1) : State := s.count (7936 + h * 16 + e) k
/-- A SLICE event. -/
def State.countSlice (s : State) (sl e : Nat) (k : Nat := 1) : State := s.count (8000 + sl * 32 + e) k
/-- A FAULT event of a source. -/
def State.countFault (s : State) (src e : Nat) (k : Nat := 1) : State := s.count (16192 + src * 2 + e) k
/-- A DEVICE event. -/
def State.countDev (s : State) (e : Nat) (k : Nat := 1) : State := s.count (20288 + e) k

/-- An event of a fault source goes onto its wires (R532); FAULT_EVENT is its decoding at the collectors. -/
def State.raise (s : State) (src : Nat) : State := { s with wires := s.wires ++ [src] }

/-- A crossing overruns (R253): its flag, bit `n` of CROSSING_OVERRUN, and its fault source. -/
def State.overrun (s : State) (n src : Nat) : State :=
  (s.setReg R.crossingOverrun 0 0 (s.reg R.crossingOverrun ||| BitVec.ofNat 1024 (2 ^ n))).raise src

/-- A sampled entry has come to a stage (Table CTR-9). -/
def State.trackEntry (s : State) (n pos : Nat) (f : Track → Track) : State :=
  { s with counting := { s.counting with sampling := { s.counting.sampling with
      tracks := s.counting.sampling.tracks.map (fun t => if t.wq = n ∧ t.pos = pos then f t else t) } } }

/-- Something leaves the device. -/
def State.emit (s : State) (o : Out) : State := { s with out := o :: s.out }

/-- A fresh free value has been drawn. -/
def State.drawn (s : State) : State := { s with draws := s.draws + 1 }

/-- The device's own node address in effect (R22). -/
def State.ownNode (s : State) : Node := (s.eff R.nodeAddr).extractLsb' 0 20
/-- NODE_ADDR.VALID in effect (R25). -/
def State.nodeValid (s : State) : Bool := bit (s.eff R.nodeAddr) 31

/-- Ring stop of the management controller (R235, Table RNG-1). -/
def mcStop : Nat := 7

/-- A packet built by the block at a ring stop, sealed with its header check (R39), waits for the ring (R59). -/
def State.build (s : State) (stop : Nat) (h : Header) (payload : List Byte) : State :=
  { s with built := s.built ++ [{ stop := stop, hdr := h.sealed, payload := payload }] }

/-- An FDP message that the server discards (R560): its length is not 24 + LENGTH, or it is no request of this version. -/
def fdpMalformed (b : List Byte) : Bool :=
  let n := natOfBytes ((b.drop 14).take 2)
  decide (b.length < 24) || b.length != 24 + n || (nthD 0 b 0 != 0x10 && nthD 0 b 0 != 0x11)

/-- The header of a control packet of the device (R573): TC0, key 0xFFFF, and the phase of R35. -/
def State.controlHeader (s : State) (node : Node) (station : Station) (cmd ext len : Nat) : Header :=
  { dstNode := node, dstStation := station, srcNode := s.ownNode, srcStation := 0, pkey := 0xFFFF, cmd := BitVec.ofNat 8 cmd
    length := BitVec.ofNat 13 len, ext := BitVec.ofNat 32 ext, phase := if node.group = s.ownNode.group then 2 else 0 }

def State.lane (s : State) (p : Nat) : Lane := Table.get {} s.lanes p
def State.setLane (s : State) (p : Nat) (l : Lane) : State := { s with lanes := Table.set {} s.lanes p l }
def State.updLane (s : State) (p : Nat) (f : Lane → Lane) : State := s.setLane p (f (s.lane p))
def State.link (s : State) (p : Nat) : Link := Table.get {} s.links p
def State.setLink (s : State) (p : Nat) (l : Link) : State := { s with links := Table.set {} s.links p l }
def State.updLink (s : State) (p : Nat) (f : Link → Link) : State := s.setLink p (f (s.link p))
def State.input (s : State) (i : Nat) : InBuf := Table.get {} s.inputs i
def State.setInput (s : State) (i : Nat) (b : InBuf) : State := { s with inputs := Table.set {} s.inputs i b }
def State.updInput (s : State) (i : Nat) (f : InBuf → InBuf) : State := s.setInput i (f (s.input i))
def State.output (s : State) (o : Nat) : Output := Table.get {} s.outputs o
def State.setOutput (s : State) (o : Nat) (x : Output) : State := { s with outputs := Table.set {} s.outputs o x }
def State.updOutput (s : State) (o : Nat) (f : Output → Output) : State := s.setOutput o (f (s.output o))

def State.hport (s : State) (k : Nat) : HPort := Table.get {} s.host.ports k
def State.setHport (s : State) (k : Nat) (h : HPort) : State :=
  { s with host := { s.host with ports := Table.set {} s.host.ports k h } }

/-- TIME in nanoseconds (R619). -/
def State.ns (s : State) : Nat := s.timeQ / 2 ^ 32
/-- The tick of fabric time (R228). -/
def State.tick (s : State) : Nat := s.ns / 8

/-- The state of operation `k` on port `p`; 0 for an operation without a port (R584). -/
def State.op (s : State) (k : Nat) (p : Nat := 0) : OpSt := Table.get {} s.ops (64 * k + p)
/-- RUNNING or DEFERRED: from acceptance to its end an operation counts as running (R582). -/
def State.opActive (s : State) (k : Nat) (p : Nat := 0) : Bool := (s.op k p).st == 1 || (s.op k p).st == 2
/-- Set an operation's STATE. -/
def State.opSet (s : State) (k p st : Nat) : State :=
  { s with ops := Table.upd {} s.ops (64 * k + p) (fun o => { o with st := st }) }
/-- An active operation ends DONE, or FAILED with a code (Table MGT-17); anything else is unchanged. -/
def State.opEnd (s : State) (k p : Nat) (fail : Nat := 0) : State :=
  if s.opActive k p then
    { s with ops := Table.upd {} s.ops (64 * k + p) (fun o =>
        { st := if fail = 0 then 3 else 4, fail := if fail = 0 then o.fail else fail
          runs := min (o.runs + 1) (2 ^ 32 - 1) }) }
  else s

end Sys2Proof.Machine
end

