-- ==== Sys2Proof/Machine/FuncOps.lean ====
section
/-! DEFINITION. Operations of the host functions (chapter 9): what exists and may issue requests, wake causes, a request's way to the
arbiter, MSI-X. -/

namespace Sys2Proof.Machine

def State.updHost (s : State) (f : HostSide → HostSide) : State := { s with host := f s.host }
def State.func (s : State) (f : Nat) : Func := Table.get {} s.host.funcs f
def State.setFunc (s : State) (f : Nat) (x : Func) : State :=
  s.updHost (fun h => { h with funcs := Table.set {} h.funcs f x })
def State.updFunc (s : State) (f : Nat) (g : Func → Func) : State := s.setFunc f (g (s.func f))
def State.slice (s : State) (n : Nat) : Slice := Table.get {} s.host.slices n
def State.setSlice (s : State) (n : Nat) (x : Slice) : State :=
  s.updHost (fun h => { h with slices := Table.set {} h.slices n x })
def State.updSlice (s : State) (n : Nat) (f : Slice → Slice) : State := s.setSlice n (f (s.slice n))

/-! Functions (R263–R266, R273, R680) -/

/-- Host port, FUNC_MAP entry and link of a function number (512 × port + entry). -/
def funcPort (f : Nat) : Nat := f / 512
def funcEntry (f : Nat) : Nat := f % 512
def funcLink (f : Nat) : Nat := f % 512 / 256
/-- The PF of a function's link. -/
def funcPf (f : Nat) : Nat := f - f % 256
/-- VF number; 0 for the PF. -/
def funcVf (f : Nat) : Nat := f % 256

/-- Role of a host port in effect (Table HST-1): 0 ENDPOINT, 1 ROOT, 2 OFF. -/
def State.hostRole (s : State) (k : Nat) : Nat := fldN (s.eff R.hostCtl k) 1 0
/-- Host readiness (R629): the end of start-up, or the firmware check that ends in recovery mode. -/
def State.hostsReady (s : State) : Bool := s.boot == .up || (s.boot == .booted && s.mgmt.recovery)
/-- The port is split in two links. -/
def State.bifurcated (s : State) (k : Nat) : Bool := bit (s.eff R.hostCtl k) 2

/-- The function exists (R263, R265): its port is an endpoint, its link exists, its VF number is within TotalVFs. -/
def State.funcExists (s : State) (f : Nat) : Bool :=
  let k := funcPort f
  let ctl := s.eff R.hostCtl k
  decide (k < 4) && s.hostRole k == 0 && (funcLink f == 0 || s.bifurcated k)
    && decide (funcVf f ≤ (if funcLink f = 0 then fldN ctl 15 8 else fldN ctl 23 16))

/-- A function is enabled: a PF by its Memory Space Enable, a VF by the VF Enable of its PF (R264). -/
def State.funcEnabled (s : State) (f : Nat) : Bool :=
  if funcVf f = 0 then (s.func f).mse else (s.func (funcPf f)).vfe

/-- The function is among those its link shows: the PF, and its VFs up to NumVFs while they are enabled (SR-IOV). -/
def State.funcShown (s : State) (f : Nat) : Bool :=
  funcVf f == 0 || ((s.func (funcPf f)).vfe && decide (funcVf f ≤ (s.func (funcPf f)).numVfs))

/-- The slice that a function serves (R264, R266). -/
def State.funcSlice (s : State) (f : Nat) : Option Nat :=
  let e := s.reg R.funcMap (funcPort f) (funcEntry f)
  if bit e 31 && s.funcExists f then some (fldN e 7 0) else none

/-- One link of a host port. -/
def HPort.link (h : HPort) (l : Nat) : HLink := if l = 0 then h.linkA else h.linkB
/-- The port with one link changed. -/
def HPort.withLink (h : HPort) (l : Nat) (x : HLink) : HPort := if l = 0 then { h with linkA := x } else { h with linkB := x }

/-- The device may issue requests for a function (R273). -/
def State.canIssue (s : State) (f : Nat) : Bool :=
  let x := s.func f
  !s.faults.silent && (s.funcSlice f).isSome && x.bme && x.power == .d0 && s.funcShown f

/-- A link of a host port. -/
def State.hlink (s : State) (k l : Nat) : HLink := (s.hport k).link l
def State.updHlink (s : State) (k l : Nat) (f : HLink → HLink) : State :=
  s.setHport k ((s.hport k).withLink l (f ((s.hport k).link l)))

/-! Wake causes (R277, R278) -/

/-- The device starts an exit from L1 on a link: one, whoever else starts one (R278, R283). -/
def State.exitL1 (s : State) (k l : Nat) : State :=
  let x := s.hlink k l
  if 4 ≤ x.st ∧ x.st ≤ 6 ∧ !x.leaving then (s.updHlink k l (fun x => { x with leaving := true })).emit (.exitL1 (2 * k + l)) else s

/-- A wake cause for a function (Table HST-11): none arises in D0. -/
def State.wake (s : State) (f : Nat) : State :=
  let x := s.func f
  if x.power = .d0 ∨ x.pme ≠ .clear then s
  else
    let s := s.setFunc f { x with pmeStat := true, pme := if x.pmeEn then .owed else .cancelled }
    if x.pmeEn then s.exitL1 (funcPort f) (funcLink f) else s

/-! Requests (R346) -/

/-- The arbiter instance of a function's link: 4 × port + 2 × link + 1 for writes. -/
def instOf (f : Nat) (write : Bool) : Nat := 4 * (funcPort f % 4) + 2 * funcLink f + b2n write

/-- A burst joins its instance's queue (R346); where its function is in D3, that is a wake cause (R277). -/
def State.request (s : State) (b : Burst) : State :=
  let a := s.host.arb
  let k := 256 * b.inst + b.slice
  (s.updHost (fun h => { h with arb := { a with
    bursts := a.bursts ++ [{ b with id := a.nextId }], nextId := a.nextId + 1
    active := if a.active.contains k then a.active else a.active ++ [k] } })).wake b.func

/-! MSI-X (R272) -/

/-- Entry of a vector in its function's MSI-X table. -/
def Func.vec (x : Func) (v : Nat) : MsixVec := Table.get {} x.vecs v

/-- A vector may be signalled: MSI-X is enabled, neither the function nor the vector is masked. -/
def Func.signals (x : Func) (v : Nat) : Bool := x.msixEn && !x.fmask && !(x.vec v).masked

/-- A vector of a function is signalled: pending while masked. -/
def State.msix (s : State) (f v sl key : Nat) : State :=
  let x := s.func f
  if !x.signals v then s.setFunc f { x with pend := if x.pend.contains v then x.pend else x.pend ++ [v] }
  else s.request { inst := instOf f true, func := f, slice := sl, addr := (x.vec v).addr.toNat, len := 4, report := true, key := key
                   msix := some v }

/-- Vectors of a function: MSIX_COUNT, or the one vector that an unbound function reports (R266, R272). -/
def State.msixCount (s : State) (f : Nat) : Nat :=
  if (s.funcSlice f).isSome then fldN (s.reg R.funcMap (funcPort f) (funcEntry f)) 27 16 else 1

end Sys2Proof.Machine
end

