-- ==== Sys2Proof/Machine/MirrorOps.lean ====
section
/-! DEFINITION. Mirrored state (R511, R512): the scope of an object, messages of the pair session, and what a change of a mirrored
value does. -/

namespace Sys2Proof.Machine

def State.updTwin (s : State) (f : Twin → Twin) : State := { s with twin := f s.twin }

/-- The object is mirrored, and whether its scope is the device (Table TWN-6). -/
def mirrorScope (r : Reg) (i : Nat) : Option Bool :=
  let n := r.index i
  if r.obj = 0x5410 then some false
  else if !r.caddy then none
  else if r.obj = 0x7101 ∨ (0x4010 ≤ n ∧ n ≤ 0x4FFF) ∨ n = 0x3420 ∨ (n = 0x3422) ∨ n = 0x5400
      ∨ (0x5501 ≤ n ∧ n ≤ 0x55FF) ∨ (0x5601 ≤ n ∧ n ≤ 0x56FF) then some false
  else if n = 0x1002 ∨ n = 0x7102 ∨ (0x4000 ≤ n ∧ n ≤ 0x400F) ∨ (0x2000 ≤ n ∧ n ≤ 0x37FF) ∨ (0x5000 ≤ n ∧ n ≤ 0x57FF)
      ∨ (0x6000 ≤ n ∧ n ≤ 0x67FF) ∨ (0x7000 ≤ n ∧ n ≤ 0x70FF) ∨ (0x7800 ≤ n ∧ n ≤ 0x78FF) then some true
  else none

/-- Index, subindex and entry that a key names. -/
def keyIndex (k : Nat) : Nat := k / 2 ^ 28
def keySub (k : Nat) : Nat := k / 2 ^ 20 % 256
def keyEntry (k : Nat) : Nat := k % 2 ^ 20

/-- The object, instance and entry of a key. -/
def objectOf (k : Nat) : Option (Reg × Nat × Nat) :=
  (findObject (keyIndex k) (keySub k)).map (fun o => (o.1, o.2.1, if o.1.entries = 0 then o.2.2 else keyEntry k))

/-- The scope of a key (Table TWN-6). -/
def keyScope (k : Nat) : Option Bool := (objectOf k).bind (fun o => mirrorScope o.1 o.2.1)

/-- The default of a key's value. -/
def keyDefault (k : Nat) : Image :=
  match objectOf k with
  | some (r, i, e) => r.default i e
  | none => 0

/-- The twin link carries pair-session messages (Table TWN-1). -/
def State.pairUp (s : State) : Bool := s.twin.session && (s.link 48).st == .up

/-- A message of the pair session leaves, or waits for the link. -/
def State.pairSend (s : State) (m : PairMsg) : State :=
  if s.pairUp then s.emit (.pair m) else s.updTwin (fun t => { t with outbox := t.outbox ++ [m] })

/-- Messages that wait leave once the link is UP. -/
def State.pairFlush (s : State) : State :=
  if s.pairUp then
    (s.twin.outbox.foldl (fun s m => s.emit (.pair m)) s).updTwin (fun t => { t with outbox := [] })
  else s

/-- Changes are mirrored: the pair session is open and a partner takes them. -/
def State.mirrors (s : State) : Bool :=
  s.twin.session && (s.twin.st == .resync || s.twin.st == .lead || s.twin.st == .trail || s.twin.st == .adopting)

/-- A write of pair-scope objects is passed to the leader (R512). -/
def State.passes (s : State) : Bool := s.mirrors && !s.twin.lead && s.twin.st != .adopting

/-- The partner's copy is behind from now on (R512). -/
def State.leftBehind (s : State) (keys : List Nat) : State :=
  let s := s.updTwin (fun t => { t with behind := t.behind ++ (keys.filter (fun k => !t.behind.contains k)).eraseDups })
  if s.twin.session ∧ !s.twin.outbox.contains .behind then s.pairSend .behind else s

/-- A change that no answer waits for: sent to the partner, or marked for the next resync. -/
def State.noteChange (s : State) (device : Bool) (c : List Change) : State :=
  if s.mirrors then s.pairSend (.change device c) else s.leftBehind (c.map (·.1))

/-- A value as its object stores it: reserved bits are zero (R8). -/
def keyValue (k : Nat) (v : Image) : Image :=
  match objectOf k with
  | some (r, _, _) => v &&& BitVec.ofNat 1024 (r.rw ||| r.ro)
  | none => v

/-- Set a value by its key. -/
def State.setKey (s : State) (k : Nat) (v : Image) : State := { s with dict := Table.set (keyDefault k) s.dict k (keyValue k v) }

/-- A POOL entry changes (R493, R511). -/
def State.setPool (s : State) (n : Nat) (v : Image) : State :=
  (s.setReg R.pool 0 n v).noteChange true [(R.pool.key 0 n, v)]

/-- A REGION entry changes by itself (R419, R511). -/
def State.setRegion (s : State) (n : Nat) (v : Image) : State :=
  (s.setReg R.region 0 n v).noteChange false [(R.region.key 0 n, v)]

end Sys2Proof.Machine
end

