-- ==== Sys2Proof/Machine/MgmtOps.lean ====
section
/-! DEFINITION. The dictionary server's shared steps (chapter 19): judging a request, access, the audit record and
the caddy write of an accepted write, the answer; and the conflicts of maintenance operations. -/

namespace Sys2Proof.Machine

def State.sess (s : State) (n : Nat) : Session := Table.get {} s.mgmt.sessions n
def State.setSess (s : State) (n : Nat) (x : Session) : State :=
  { s with mgmt := { s.mgmt with sessions := Table.set {} s.mgmt.sessions n x } }
def State.updMgmt (s : State) (f : Mgmt → Mgmt) : State := { s with mgmt := f s.mgmt }

/-- A path is open: under FDP_CTL (R576); in recovery mode CAN FD and the mailboxes only (R606), in RETIRED CAN FD only (R595). -/
def State.pathOpen (s : State) (p : Path) : Bool :=
  let m := s.mgmt
  match p with
  | .can _ => true
  | .inBand _ _ => bit (s.reg R.fdpCtl) 7 && !m.recovery && m.lifecycle != .retired
  | .mailbox _ _ => bit (s.reg R.fdpCtl) 6 && m.lifecycle != .retired
  | .pair => !m.recovery && m.lifecycle != .retired

/-- The server runs: the controller has started, has not stopped, and the device is not in fail silent (R544, R545, R629). -/
def State.serving (s : State) : Bool := (s.boot == .booted || s.boot == .up) && !s.mgmt.stopped && !s.faults.silent

/-- How a request fares at the server's door (R565). -/
inductive Admit where
  /-- no response: the controller does not run; the path is closed -/
  | silent | closed
  /-- the kept response again -/
  | replay (r : Option FdpResp)
  | refuse (f : Fdp)
  | go (role : Role)
  deriving DecidableEq, Repr

/-- Judging a request that needs a session (R565). -/
def State.admitted (s : State) (q : Req) : Admit :=
  let x := s.sess q.session
  if !s.serving then .silent
  else if !s.pathOpen q.path then .closed
  else if x.st ≠ .opened ∨ x.path ≠ q.path ∨ !q.tagOk then .refuse .notAuthenticated
  else if q.seq = x.last then .replay x.kept
  else if q.seq ≠ x.last + 1 then .refuse .sequenceError
  else if x.executing ∨ q.full then .refuse .busy
  else .go x.role

/-- A response leaves on its path (R563): as a message on the bus (R571), in an FDP_RESPONSE (R574), or in the mailbox, where it ends
the request (R271). -/
def State.sendFdp (s : State) (p : Path) (r : FdpResp) : State :=
  let s := s.emit (.fdp p r)
  match p with
  | .can n => s.updMgmt (fun m => { m with can := { m.can with txq := m.can.txq ++ [{ dest := n, kind := 1, bytes := r.bytes }] } })
  | .inBand n st => s.build mcStop (s.controlHeader n st 0x02 0 r.bytes.length) r.bytes
  | .mailbox k l =>
    let h := s.hport k
    let m := if l = 1 then h.mbxB else h.mbxA
    if m.busy then
      let m' := { m with busy := false, done := true, rspLen := r.bytes.length, rsp := r.bytes }
      let s := s.setHport k (if l = 1 then { h with mbxB := m' } else { h with mbxA := m' })
      if m.irqEn then s.msix (512 * k + 256 * l) 0 0 0 else s
    else s
  | .pair => s

/-- The response to a request (R560, R561): under the session's key, but for a message without a session and the three statuses that
carry a TAG of zero (R565). -/
def State.respOf (s : State) (q : Req) (obj sub : Nat) (f : Fdp) (body : List Byte) : FdpResp :=
  { service := q.service, session := q.session, seq := q.seq, index := obj, sub := sub, entry := q.entry, count := q.count
    status := f, body := body
    key := if q.session = 0 ∨ f = .busy ∨ f = .notAuthenticated ∨ f = .sequenceError then none
      else some (s.sess q.session).challenge }

/-- Send a response (R565). -/
def State.respond (s : State) (q : Req) (obj sub : Nat) (f : Fdp) (body : List Byte) : State :=
  s.sendFdp q.path (s.respOf q obj sub f body)

/-- Answer an admitted request: the response is kept and LAST moves, but for the three that are never kept (R565). -/
def State.answer (s : State) (q : Req) (obj sub : Nat) (f : Fdp) (body : List Byte := []) : State :=
  let r := s.respOf q obj sub f body
  let s := if f = .busy ∨ f = .notAuthenticated ∨ f = .sequenceError then s
    else s.setSess q.session { s.sess q.session with last := q.seq, kept := some r, executing := false }
  (s.countDev 9).sendFdp q.path r

/-- An admitted request whose answer comes later: LAST moves, the session is executing (R565). -/
def State.answerLater (s : State) (q : Req) (obj sub : Nat) : State :=
  (s.setSess q.session { s.sess q.session with last := q.seq, kept := none, executing := true }).updMgmt
    (fun m => { m with owed := m.owed ++ [(q, obj, sub)] })

/-- Answer the oldest owed request of an object, if there is one. -/
def State.answerOwed (s : State) (obj sub : Nat) (f : Fdp) : State :=
  match s.mgmt.owed.find? (fun o => o.2.1 = obj ∧ o.2.2 = sub) with
  | none => s
  | some o =>
    let s := s.updMgmt (fun m => { m with owed := m.owed.erase o })
    -- BUSY leaves LAST where it was (R565), so that the request may be repeated (R246)
    let s := if f = .busy then s.setSess o.1.session { s.sess o.1.session with last := o.1.seq - 1, executing := false } else s
    s.answer o.1 obj sub f

/-- Writes that are served in recovery mode (R606): FIRMWARE_STAGE, FW_CHUNK, FW_SELECT. -/
def recoveryServes (obj sub : Nat) : Bool := (obj == 0x1205 && (sub == 1 || sub == 3)) || (obj == 0x1103 && sub == 2)

/-- The server takes the oldest request message of a path that waits for it (R567); what it holds comes as the command's operands. -/
def State.takeRequest (s : State) (p : Path) : State :=
  match p with
  | .can n =>
    match s.mgmt.inbox.find? (fun m => m.1 = n) with
    | some m => s.updMgmt (fun x => { x with inbox := x.inbox.erase m })
    | none => s
  | .inBand n st =>
    match s.arrived.find? (fun a => a.stop = mcStop ∧ a.pkt.hdr.cmd = 1 ∧ a.pkt.hdr.srcNode = n ∧ a.pkt.hdr.srcStation = st) with
    | some a => { s with arrived := s.arrived.erase a }
    | none => s
  | _ => s

/-- The refusal with which a request has just been answered, other than BUSY, which R14 places last. -/
def State.refusedSince (t s : State) : Option Fdp :=
  match t.out with
  | .fdp _ r :: rest => if rest.length = s.out.length ∧ !r.status.accepted ∧ r.status ≠ .busy then some r.status else none
  | _ => none

/-- A request runs through the server's door to its handler (R565, R567).  `rec` tells whether recovery mode serves it (R606); the
pair session carries mirrored changes only (R593). -/
def State.serve (s : State) (q : Req) (obj sub : Nat) (run : Role → State → State) (rec : Bool := recoveryServes obj sub) : State :=
  let s := s.takeRequest q.path
  match s.admitted q with
  | .silent => s
  | .closed => s.countDev 10
  | .replay (some r) => s.sendFdp q.path r
  | .replay none => s
  | .refuse f => s.respond q obj sub f []
  | .go role =>
    let t := run role s
    if q.path = .pair ∧ !q.mirror then (if t.refusedSince s = some .noSuchObject then t else s.answer q obj sub .accessDenied)
    else if s.mgmt.recovery ∧ !rec then (if (t.refusedSince s).isSome then t else s.answer q obj sub .busy)
    else t

/-- Bits of an instance of an object that a role may write (R556, R288). -/
def Reg.writable (r : Reg) (i : Nat) (role : Role) : Nat :=
  match role with
  | .maker => r.mw
  | .installer => if r.sliced then (if i = 0 then r.ow else 0) else r.iw
  | .operator => if r.sliced ∧ i = 0 then 0 else r.ow
  | .twin => r.rw
  | .none => 0

/-- ACCESS_DENIED: the role writes no field, or the write would change a field it does not write (R556, R7). -/
def Reg.denies (r : Reg) (i : Nat) (role : Role) (old new : Image) : Bool :=
  let m := BitVec.ofNat 1024 (r.writable i role)
  let rw := BitVec.ofNat 1024 r.rw
  let wo := BitVec.ofNat 1024 (r.wo &&& r.rw)
  m == 0 || (((old ^^^ new) &&& rw &&& ~~~ m &&& ~~~ wo) != 0) || ((new &&& wo &&& ~~~ m) != 0)

/-- A reserved bit is set (R8): neither writable nor RO. -/
def Reg.reservedSet (r : Reg) (v : Image) : Bool :=
  v &&& ~~~ (BitVec.ofNat 1024 (r.rw ||| r.ro)) != 0

/-- The value stored by a write (R7): RO fields keep what they hold, WO fields store nothing, W1C bits clear. -/
def Reg.merge (r : Reg) (old new : Image) : Image :=
  let w1c := BitVec.ofNat 1024 r.w1c
  let rw := BitVec.ofNat 1024 r.rw &&& ~~~ BitVec.ofNat 1024 r.wo &&& ~~~ w1c
  ((old &&& ~~~ rw) ||| (new &&& rw)) &&& ~~~ (new &&& w1c)

/-- Maker sessions only read in SERVICE; RETIRED allows READ and INFO only (R595). -/
def State.lifeForbids (s : State) (role : Role) : Bool :=
  match s.mgmt.lifecycle with
  | .service => role == .maker
  | .retired => true
  | _ => false

/-- PATH of an audit record or a session (Tables SEC-8, MGT-20). -/
def pathCode : Path → Nat
  | .can _ => 0 | .inBand _ _ => 1 | .mailbox _ _ => 2 | .pair => 3
/-- ROLE of an audit record or a session (Tables SEC-8, MGT-20). -/
def roleCode : Role → Nat
  | .none => 0 | .maker => 1 | .installer => 2 | .operator => 3 | .twin => 2

/-- The 64 bytes of an audit record (Table SEC-8). -/
def AuditRec.bytes (a : AuditRec) : List Byte :=
  bytesOf (BitVec.ofNat 512 (a.index + at' 32 a.time + at' 96 a.kind + at' 104 a.role + at' 112 a.path
    + at' 120 (b2n a.hashed) + at' 128 a.object + at' 160 a.entry + at' 192 a.value.toNat
    + at' 256 a.chain.toNat)) 64

/-- Whether an audit record can be written: with HOLD it may not overwrite an unacknowledged one (R604). -/
def State.auditFull (s : State) : Bool :=
  bit (s.reg R.auditCtl) 0 && decide (65536 ≤ s.mgmt.auditNext)
    && decide (s.mgmt.auditAcked + 65536 < s.mgmt.auditNext + 1)

/-- Append an audit record (R602): INDEX saturates, the chain covers the record before. -/
def State.auditWrite (s : State) (kind role path obj entry : Nat) (value : BitVec 64) (hashed : Bool) : State :=
  let m := s.mgmt
  let i := m.auditNext
  let chain : BitVec 256 := if i = 0 then 0
    else ((Config.sha384 (Table.get {} m.audit ((i - 1) % 65536)).bytes).extractLsb' 0 256)
  let a : AuditRec := { index := min i (2 ^ 32 - 1), time := s.ns, kind := kind, role := role, path := path
                        hashed := hashed, object := obj, entry := entry, value := value, chain := chain }
  s.updMgmt (fun m => { m with audit := Table.set {} m.audit (i % 65536) a
                               auditNext := i + 1 })

/-- The audit record of an executed write (R603): every write of a maker or installer session, and an operator's
to an audited object. -/
def State.auditDue (role : Role) (audited : Bool) : Bool :=
  match role with
  | .maker | .installer => true
  | .operator => audited
  | .twin => true
  | .none => false

/-- The VALUE of a WRITE record: up to 8 bytes as written, else the start of their SHA-384 (Table SEC-8). -/
def auditValue (bits : Nat) (vals : List Image) : BitVec 64 × Bool :=
  let bytes := vals.flatMap (fun v => bytesOf v (bits / 8))
  if bytes.length ≤ 8 then (BitVec.ofNat 64 (natOfBytes bytes), false) else ((Config.sha384 bytes).extractLsb' 0 64, true)

/-- The object's records lie in CONFIG (R599). -/
def Reg.inConfig (r : Reg) : Bool := r.caddy && r.obj != 0x1100 && r.obj != 0x1101 && r.obj != 0x1103 && r.obj != 0x2002
  && !(r.obj == 0x2001 && r.sub == 2)

/-- A caddy write of a request (R557, R601): the refusal it draws, if any, and the state after it. -/
def State.caddyWrite (s : State) (q : Req) (config : Bool) : State × Bool :=
  if config ∧ s.mgmt.segFree = 0 then (s, false)
  else if !q.caddyOk then
    ((s.updMgmt (fun m => { m with verifyFails := min (m.verifyFails + 1) 65535 })).raise 0x537, false)
  else if config ∧ q.segment then (s.updMgmt (fun m => { m with segFree := m.segFree - 1 }), true)
  else (s, true)

/-- The audit and caddy part of an accepted write of `n` bits (R557, R601, R603, R604); `none` with the status that
refuses it. -/
def State.recordVal (s : State) (q : Req) (role : Role) (r : Reg) (i e : Nat) (val : BitVec 64) (hashed : Bool) :
    Except (State × Fdp) State :=
  let due := State.auditDue role r.audits
  if due ∧ s.auditFull then .error (s, .tableFull)
  else
    let (s1, ok) := if r.caddy ∨ due then s.caddyWrite q r.inConfig else (s, true)
    if !ok then .error (s1, .busy)
    else if due then
      .ok (s1.auditWrite 1 (roleCode role) (pathCode q.path + 4 * q.session) (r.index i + 65536 * (r.sub +
        (if r.entries = 0 then e else 0))) (if r.entries = 0 then 0 else e) val hashed)
    else .ok s1

/-- The same with the values as written. -/
def State.recordWrite (s : State) (q : Req) (role : Role) (r : Reg) (i e : Nat) (vals : List Image) : Except (State × Fdp) State :=
  let a := auditValue r.bits vals
  s.recordVal q role r i e a.1 a.2

/-- The audit ring refuses the record that a write would need (R604). -/
def State.auditRefuses (s : State) (role : Role) (r : Reg) : Bool := State.auditDue role r.audits && s.auditFull

/-! Mirrored writes (R512) -/

/-- The answer of a write waits until the partner confirms its changes. -/
def State.awaitMirror (s : State) (q : Req) (obj sub : Nat) (f : Fdp) (c : List Change) (passed : Bool) : State :=
  (s.answerLater q obj sub).updTwin (fun t => { t with
    mirrors := t.mirrors ++ [{ q := q, obj := obj, sub := sub, status := f, changes := c, passed := passed }] })

/-- A write whose answer waited is answered. -/
def State.mirrorAnswer (s : State) (m : Mirror) (f : Fdp) : State :=
  let s := s.updTwin (fun t => { t with mirrors := t.mirrors.erase m })
  if s.mgmt.owed.contains (m.q, m.obj, m.sub) then
    (s.updMgmt (fun x => { x with owed := x.owed.erase (m.q, m.obj, m.sub) })).answer m.q m.obj m.sub f
  else s

/-- The end of an executed write of entries `es`: the change is mirrored before the answer where a partner takes it, or the partner's
copy is left behind. -/
def State.mirrored (s : State) (q : Req) (r : Reg) (i : Nat) (es : List Nat) (obj sub : Nat) (f : Option Fdp) : State :=
  let c : List Change := es.map (fun e => (r.key i e, s.reg r i e))
  match mirrorScope r i, f with
  | none, some f => s.answer q obj sub f
  | none, none => s.answerLater q obj sub
  | some dev, some f =>
    if !f.accepted ∨ q.path = .pair then s.answer q obj sub f
    else if s.mirrors then (s.pairSend (.change dev c)).awaitMirror q obj sub f c false
    else (s.leftBehind (c.map (·.1))).answer q obj sub f
  | some dev, none => (s.noteChange dev c).answerLater q obj sub

/-- The rules of an object for one value: a right that depends on more than the role, a life-cycle state that the write needs, the
object's own refusal (the first in R14's order), and the effect with its answer, at once or later. -/
structure WriteRule where
  deny : Role → State → Bool := fun _ _ => false
  life : State → Bool := fun _ => false
  chk  : State → Option Fdp := fun _ => none
  eff  : State → State × Option Fdp := fun s => (s, some .ok)

/-- The first of several refusals (R14). -/
def firstRefusal : List Fdp → Option Fdp
  | [] => none
  | f :: fs =>
    match firstRefusal fs with
    | some g => if g.rank < f.rank then some g else some f
    | none => some f

/-- The answer to a write of several entries (R582, R565). -/
def allAnswers : List (Option Fdp) → Option Fdp
  | [] => some .ok
  | a :: t =>
    match a, allAnswers t with
    | some .ok, b => b
    | some f, some _ => some f
    | _, _ => none

/-- Entries are applied in order (R558): the state, the refusals of the entries, the answers of those that do not refuse. -/
def State.applyEntries (s : State) (r : Reg) (i : Nat) (rule : Nat → Image → Image → WriteRule) :
    List (Nat × Image) → State × List Fdp × List (Option Fdp)
  | [] => (s, [], [])
  | (e, v) :: t =>
    let w := rule e (s.reg r i e) v
    match w.chk s with
    | some f => let x := s.applyEntries r i rule t; (x.1, f :: x.2.1, x.2.2)
    | none =>
      let s := if r.wo = r.rw then s else s.setReg r i e (r.merge (s.reg r i e) v)
      let a := w.eff s
      let x := a.1.applyEntries r i rule t
      (x.1, x.2.1, a.2 :: x.2.2)

/-- What refuses a write before its object's own rules (R14, R554–R556, R561, R8, R595, R512). -/
def State.writeRefused (s : State) (q : Req) (role : Role) (r : Reg) (i : Nat) (rule : Nat → Image → Image → WriteRule)
    (es : List (Nat × Image)) : Option Fdp :=
  if !(i < r.insts ∨ (i = 48 ∧ r.twin ≠ 0)) ∨ es.any (fun x => r.subs ≤ x.1 ∧ r.entries = 0) then some .noSuchObject
  else if r.writable i role = 0 ∨ es.any (fun x => r.denies i role (s.reg r i x.1) x.2 ∨ (rule x.1 (s.reg r i x.1) x.2).deny role s) then
    some .accessDenied
  else if s.lifeForbids role ∨ es.any (fun x => (rule x.1 (s.reg r i x.1) x.2).life s)
      ∨ ((mirrorScope r i).isSome ∧ s.twin.st = .surrendered) then some .lifecycleState
  else if es.any (fun x => 2 ^ r.bits ≤ x.2.toNat) then some .typeMismatch
  else if q.odd ∨ (r.entries = 0 ∧ (q.entry ≠ 0 ∨ q.count ≠ 0)) ∨ es.isEmpty
      ∨ es.any (fun x => r.reservedSet x.2 ∨ (r.entries ≠ 0 ∧ r.entries ≤ x.1)) then some .outOfRange
  else none

/-- A dictionary write of the values of consecutive entries (R558), or of one value: door, access, life cycle, reserved bits, the
object's own rules, audit, caddy, the stored values, the effects with their answer, at once or later (R14, R556, R565).  Every entry is
checked before any is changed.  A trailer passes a pair-scope write to the leader; a SURRENDERED device refuses a mirrored one
(R512). -/
def State.writeRun (s : State) (q : Req) (r : Reg) (i e0 : Nat) (vals : List Image) (rule : Nat → Image → Image → WriteRule) : State :=
  let sub := r.sub + (if r.entries = 0 then e0 else 0)
  let obj := r.index i
  let es := (vals.zipIdx e0).map (fun x => (x.2, x.1))
  s.serve q obj sub (fun role s =>
    match s.writeRefused q role r i rule es with
    | some f => s.answer q obj sub f
    | none =>
    if mirrorScope r i = some false ∧ s.passes ∧ q.path ≠ .pair then
      let c : List Change := es.map (fun x => (r.key i x.1, x.2))
      (s.pairSend (.pass c)).awaitMirror q obj sub .ok c true
    else
    let full := if s.auditRefuses role r then [Fdp.tableFull] else []
    match firstRefusal ((s.applyEntries r i rule es).2.1 ++ full) with
    | some f => s.answer q obj sub f
    | none =>
      match s.recordWrite q role r i e0 vals with
      | .error (s, f) => s.answer q obj sub f
      | .ok s =>
        let a := s.applyEntries r i rule es
        a.1.mirrored q r i (es.map (·.1)) obj sub (allAnswers a.2.2))

/-- A dictionary write of one value that has a row of its own. -/
def State.dictRunR (s : State) (q : Req) (r : Reg) (i e : Nat) (v : Image) (deny : Role → State → Bool)
    (chk : State → Option Fdp) (eff : State → State × Option Fdp) (life : State → Bool := fun _ => false) : State :=
  s.writeRun q r i e [v] (fun _ _ _ => { deny := deny, life := life, chk := chk, eff := eff })

/-- A dictionary write whose right depends on the role alone. -/
def State.dictRun (s : State) (q : Req) (r : Reg) (i e : Nat) (v : Image)
    (chk : State → Option Fdp) (eff : State → State × Option Fdp) : State :=
  s.dictRunR q r i e v (fun _ _ => false) chk eff

/-- A dictionary write answered at once. -/
def State.dictWrite (s : State) (q : Req) (r : Reg) (i e : Nat) (v : Image)
    (chk : State → Option Fdp) (eff : State → State × Fdp) : State :=
  s.dictRun q r i e v chk (fun s => let (s, f) := eff s; (s, some f))

/-- Conflicts of maintenance operations (Table MGT-15): operation `a` on port `p` runs, `b` on port `p'` starts. -/
def opConflict (a p b p' : Nat) : Bool :=
  if a = 10 ∨ b = 10 then true
  else if (a = 1 ∨ a = 2) ∧ (b = 1 ∨ b = 2) then p == p'
  else if a = 1 ∨ b = 1 then false
  else if a = 2 ∧ b = 3 then p == 48
  else if a = 3 ∧ b = 2 then p' == 48
  else if a = 2 ∨ b = 2 then false
  else
    let x (u v : Nat) : Bool := (a == u && b == v) || (a == v && b == u)
    a == b || x 3 4 || x 3 6 || x 3 7 || x 3 8 || x 4 5 || x 4 6 || x 4 7 || x 6 8 || x 7 8

/-- The running or deferred operation of lowest code that conflicts with a start of `k` on port `p` (R582). -/
def State.opBlocked (s : State) (k p : Nat) : Option (Nat × Nat) :=
  let act := s.ops.filter (fun e => e.2.st = 1 ∨ e.2.st = 2)
  (act.map (fun e => (e.1 / 64, e.1 % 64))).find? (fun e => opConflict e.1 e.2 k p)

/-- The body of an OPERATION_CONFLICT response (R561): code and port, 0xFF without a port. -/
def conflictBody (k p : Nat) : List Byte :=
  [BitVec.ofNat 8 k, if k = 1 ∨ k = 2 then BitVec.ofNat 8 (if p = 48 then 60 else p) else 0xFF]

/-- A maintenance START (R581, R582): door, access, life cycle, the operation's own refusals, conflicts, BUSY,
audit, then the effect.  `range` and `busy` are the operation's own refusals; `moved` gives the mirrored values that the operation
installs (R512). -/
def State.opStart (s : State) (q : Req) (r : Reg) (i : Nat) (v : Image) (k p : Nat)
    (range : State → Bool) (busy : State → Bool) (eff : State → State × Fdp)
    (moved : State → Option (Bool × List Change) := fun _ => none) : State :=
  let obj := r.index i
  s.serve q obj r.sub (fun role s =>
    if r.denies i role 0 v then s.answer q obj r.sub .accessDenied
    else if s.lifeForbids role ∨ ((moved s).isSome ∧ s.twin.st = .surrendered) then s.answer q obj r.sub .lifecycleState
    else if 2 ^ r.bits ≤ v.toNat then s.answer q obj r.sub .typeMismatch
    else if q.odd ∨ q.entry ≠ 0 ∨ q.count ≠ 0 ∨ r.reservedSet v ∨ range s then s.answer q obj r.sub .outOfRange
    else match s.opBlocked k p with
    | some (k', p') => s.answer q obj r.sub .operationConflict (conflictBody k' p')
    | none =>
      if s.auditRefuses role r then s.answer q obj r.sub .tableFull
      else if busy s then s.answer q obj r.sub .busy
      else match s.recordWrite q role r i 0 [v] with
      | .error (s, f) => s.answer q obj r.sub f
      | .ok s =>
        let (s, f) := eff (s.opSet k p 2)
        match moved s with
        | none => s.answer q obj r.sub f
        | some (dev, c) =>
          if s.mirrors then (s.pairSend (.change dev c)).awaitMirror q obj r.sub f c false
          else (s.leftBehind (c.map (·.1))).answer q obj r.sub f)

end Sys2Proof.Machine
end

