-- ==== Sys2Proof/Machine/FabricOps.lean ====
section
/-! DEFINITION. Operations of the fabric side: roles and addresses, header checks (R42), strainer (R191), route
computation (R175–R184), pressure (R181), policers (R214), RED (R160), input buffers and credits (R115). -/

namespace Sys2Proof.Machine

/-- Crossbar index of a port (R55): the twin port, 48, is index 60. -/
def xIdx (p : Nat) : Nat := if p = 48 then 60 else p
/-- The port of a crossbar index, if it is a fabric or twin port. -/
def portOf (x : Nat) : Option Nat := if x < 48 then some x else if x = 60 then some 48 else none
/-- Class of a data VC (chapter 4: class × 6 + phase × 2 + step). -/
def vcClass (v : Nat) : Nat := v / 6

/-- The role that a port acts in: 0 ROW … 4 SPARE, 7 OFF, 8 the twin port (R18, R100, R167; an isolate action
makes it act as OFF, Table FLT-6). -/
def State.role (s : State) (p : Nat) : Nat :=
  if !s.rolesOn || s.isolated.contains p then 7
  else if p = 48 then 8
  else if s.straps.ports ≤ p then 7
  else fldN (s.reg R.portRole 0 p) 31 29

/-- The address is the device's own, or one it has adopted (R36, R175, R524). -/
def State.owns (s : State) (n : Node) : Bool :=
  (n == s.ownNode && !s.ownGone) || s.adopted == some n

/-- The recorded partner's address lies in another group (R35, R174). -/
def State.otherGroup (s : State) (p : Nat) : Bool :=
  match (s.link p).partner with
  | some q => q.node.group != s.ownNode.group
  | none => false

/-- A port is usable: enabled, its role not OFF, its link UP or DOZE (R174). -/
def State.usable (s : State) (p : Nat) : Bool :=
  s.role p != 7 && ((s.link p).st == .up || (s.link p).st == .doze)

/-- Cells of a class queued for an output at one input. -/
def InBuf.queued (b : InBuf) (o c : Nat) : Nat :=
  (b.pkts.map (fun k => if k.out = o ∧ k.hdr.cls.toNat = c then k.cells.length else 0)).sum

/-- B of an output and class (R159). -/
def State.backlog (s : State) (o c : Nat) : Nat :=
  (s.inputs.map (fun e => e.2.queued o c)).sum
    + ((s.output o).egress.filter (fun e => e.cls = c ∧ e.abort = none)).length

/-- B_tot: the backlog of an output over all classes (R180). -/
def State.backlogAll (s : State) (o : Nat) : Nat := ((List.range 8).map (s.backlog o)).sum

/-- Slots occupied at an input (R146, R165). -/
def InBuf.fill (b : InBuf) : Nat := (b.pkts.map (fun k => k.cells.length)).sum

/-- The PRESSURE field of every cell a port sends (R165). -/
def State.pressure (s : State) (p : Nat) : Nat :=
  ceilDiv (255 * (s.input (xIdx p)).fill) (if p = 48 then 3072 else 6144)

/-! Pressure and candidates -/

/-- Level of a port in a pressure report (R180). -/
def State.level (s : State) (x : Nat) : Nat :=
  let b := s.backlogAll (xIdx x)
  let l := s.reg R.pressLevels
  if !s.usable x then 3
  else if b < 16 * fldN l 11 0 then 0
  else if b < 16 * fldN l 23 12 then 1
  else if b < 16 * fldN l 35 24 then 2
  else 3

/-- A candidate of a route: its port, the partner's port whose pressure counts, and its index. -/
structure Cand where
  idx    : Nat := 0
  port   : Nat := 0
  remote : Nat := 0x3F
  deriving DecidableEq, Repr

/-- Q of a candidate (R181). -/
def State.pressQ (s : State) (c : Cand) : Nat :=
  let k := s.link c.port
  let own := min 255 (ceilDiv (255 * s.backlogAll (xIdx c.port)) 6144)
  let remote :=
    if c.remote = 0x3F then 0
    else match k.report with
      | none => 255
      | some (lv, t) =>
        if 125 * fldN (s.reg R.routePolicy) 7 4 ≤ s.uptime - t then 255
        else 85 * fldN lv (2 * c.remote + 1) (2 * c.remote)
  let q := max own (max k.pressureRx remote)
  if k.st == .doze then max q 128 else q

/-- The lowest-numbered port of a role whose PEER_INDEX is `x` (R175). -/
def State.peerPort (s : State) (role x : Nat) : Option Nat :=
  (List.range 48).find? (fun p => s.role p = role ∧ fldN (s.reg R.portRole 0 p) 15 12 = x)

/-- The position that stands in for a destination of the own group (R525). -/
def State.standIn (s : State) (d : Node) : Node :=
  if bit (s.reg R.standIn 0 d.row) d.col then d.twin else d

/-- Local candidates of a destination in the own group (R175): the ROW port first. -/
def State.localCands (s : State) (dst : Node) : List Cand :=
  let o := s.ownNode
  let d := s.standIn dst
  let row := if d.col = o.col then [] else (s.peerPort 0 d.col).toList
  let column := if d.row = o.row then [] else (s.peerPort 1 d.row).toList
  (row ++ column).map (fun p => { port := p })

/-- Candidate `i` of a group route entry, unless it is empty (R172). -/
def candOf (e : Image) (i : Nat) : Option Cand :=
  let c := fldN e (12 * i + 11) (12 * i)
  if c % 64 = 0x3F then none else some { idx := i, port := c % 64, remote := c / 64 }

/-- Candidates of a group route entry that R175 admits at `k` local hops. -/
def State.groupCands (s : State) (e : Image) (k : Nat) : List Cand :=
  ((List.range 4).filterMap (candOf e)).filter
    (fun c => s.role c.port = 2 ∨ (k ≤ 1 ∧ (s.role c.port = 0 ∨ s.role c.port = 1 ∨ s.role c.port = 3)))

/-- The member of a list with the least Q, ties to the earliest (R175). -/
def State.leastQ (s : State) : List Cand → Option Cand
  | [] => none
  | c :: cs => some (cs.foldl (fun a b => if s.pressQ b < s.pressQ a then b else a) c)

/-- H of an ordered channel (R183): the CRC of R39 over the 8 bytes of V. -/
def channelHash (h : Header) : BitVec 16 :=
  let v : BitVec 64 := 0#1 ++ h.cls ++ h.srcStation ++ h.srcNode ++ h.dstStation ++ h.dstNode
  (bytesOf v 8).foldl crc16Byte 0xFFFF#16

/-- The next phase across a global link (R35, R175). -/
def nextPhase (h : Header) : Nat := if h.routeMode = 1 ∧ h.phase = 0 then 1 else 2

/-- COLL_CTX of a collective packet's context and the unit it names, if the context is active here (R177). -/
def State.collUnit (s : State) (h : Header) : Option Nat :=
  let e := Table.get (0 : Image) s.dict ((0x5440 * 256 + 1) * 2 ^ 20 + h.ctx.toNat)
  if h.cls = 1 ∧ h.cmd.toNat / 16 = 4 ∧ bit e 127 then some (fldN e 125 124) else none

/-- The route computation (R174, R175, R177): output index and VC, or the fault.  `inX` is the arrival index,
`vcIn` the arrival VC (63 for none). -/
def State.route (s : State) (h : Header) (inX vcIn : Nat) : Except RouteFault (Nat × Nat) :=
  let k := match portOf inX with
    | none => 0
    | some p => if s.otherGroup p then 0 else vcIn % 2 + 1
  let cls := h.cls.toNat
  let exit (c : Cand) : Except RouteFault (Nat × Nat) :=
    if s.role c.port = 2 then .ok (c.port, cls * 6 + nextPhase h * 2)
    else .ok (c.port, cls * 6 + h.phase.toNat * 2 + k)
  let choose (cands : List Cand) : Except RouteFault (Nat × Nat) :=
    if h.routeMode = 2 then
      exit (nthD {} cands ((channelHash h ^^^ s.ownNode.extractLsb' 0 16).toNat % cands.length))
    else match s.leastQ (cands.filter (fun c => s.usable c.port)) with
      | some c => exit c
      | none => exit (nthD {} cands 0)
  if s.ownGone ∧ h.dstNode = s.ownNode ∧ s.adopted ≠ some h.dstNode then
    .ok (60, if vcIn < 48 then vcIn else cls * 6 + h.phase.toNat * 2)
  else match s.collUnit h with
  | some u => .ok (56 + u, 63)
  | none =>
  if s.owns h.dstNode then .ok (48 + h.dstStation.toNat % 8, 63)
  else
    let expected := if h.phase = 0 then h.srcNode.group
      else if h.phase = 1 then h.viaGroup.toNat else h.dstNode.group
    if s.ownNode.group ≠ expected then .error .wrongGroup
    else if h.hops = 8 then .error .hopLimit
    else if h.phase = 2 then
      let cands := s.localCands h.dstNode
      if cands.isEmpty then .error .noRoute
      else if k = 2 ∨ (k = 1 ∧ cands.length = 2) then .error .stepLimit
      else choose cands
    else
      let t := if h.phase = 0 ∧ h.routeMode = 1 then h.viaGroup.toNat else h.dstNode.group
      let e := s.reg R.groupRoute 0 t
      if !bit e 63 then .error .noRoute
      else
        let all := s.groupCands e k
        let cands := if h.routeMode = 2 then all.filter (fun c => bit e (52 + c.idx)) else all
        if cands.isEmpty then
          if k = 2 ∧ (((List.range 4).filterMap (candOf e)).any
              (fun c => s.role c.port = 0 ∨ s.role c.port = 1 ∨ s.role c.port = 3)) then .error .stepLimit
          else .error .noRoute
        else choose cands

/-- The route mode and intermediate group that the source gives a packet (R182); `draw` is the 12-bit draw. -/
def State.routeMode (s : State) (cls : Nat) (dst : Node) (draw : Nat) : Nat × Nat :=
  let pol := s.reg R.routePolicy
  let qOf (e : Image) : Nat :=
    match s.leastQ ((s.groupCands e 0).filter (fun c => s.usable c.port)) with
    | some c => s.pressQ c
    | none => 255
  if cls = 2 ∨ cls = 3 then (2, 0)
  else if !bit pol (8 + cls) ∨ dst.group = s.ownNode.group then (0, 0)
  else
    let order := (List.range 4096).map (fun i => (draw + i) % 4096)
    match order.find? (fun g => bit (s.reg R.groupRoute 0 g) 63 ∧ g ≠ s.ownNode.group ∧ g ≠ dst.group) with
    | none => (0, 0)
    | some v =>
      if 2 * qOf (s.reg R.groupRoute 0 v) + fldN pol 23 16 < qOf (s.reg R.groupRoute 0 dst.group)
      then (1, v) else (0, 0)

/-- Entries of a table have been read by a lookup (Table TWN-7). -/
def noteRefs (l new : List Nat) : List Nat := l ++ (new.filter (fun x => !l.contains x)).eraseDups

/-- The group route entry that the computation of `route` reads for a packet. -/
def State.routeReads (s : State) (h : Header) : List Nat :=
  let expected := if h.phase = 0 then h.srcNode.group else h.viaGroup.toNat
  if s.owns h.dstNode ∨ (s.ownGone ∧ h.dstNode = s.ownNode) ∨ (s.collUnit h).isSome ∨ 2 ≤ h.phase.toNat
      ∨ s.ownNode.group ≠ expected ∨ h.hops = 8 then []
  else [if h.phase = 0 ∧ h.routeMode = 1 then h.viaGroup.toNat else h.dstNode.group]

/-- A route computation's and a mode choice's reads are noted. -/
def State.noteRoute (s : State) (groups : List Nat) : State :=
  { s with twin := { s.twin with routeRefs := noteRefs s.twin.routeRefs groups } }

/-- The group route entries that the mode choice of `routeMode` reads (R182). -/
def State.modeReads (s : State) (cls : Nat) (dst : Node) (draw : Nat) : List Nat :=
  if cls = 2 ∨ cls = 3 ∨ !bit (s.reg R.routePolicy) (8 + cls) ∨ dst.group = s.ownNode.group then []
  else
    let order := (List.range 4096).map (fun i => (draw + i) % 4096)
    match order.find? (fun g => bit (s.reg R.groupRoute 0 g) 63 ∧ g ≠ s.ownNode.group ∧ g ≠ dst.group) with
    | none => []
    | some v => [v, dst.group]

/-! Alternates -/

/-- What becomes of TC0 and TC1 of a port that is not UP (R170, R134). -/
inductive AltRes where
  | none | misfit | alt (port : Nat)
  deriving DecidableEq, Repr

/-- The alternate of port `p`, tested for fit (R170); port 48 is the twin port. -/
def State.altOf (s : State) (p : Nat) : AltRes :=
  if p = 48 then .none else
  let a := fldN (s.reg R.portRole 0 p) 27 22
  if a = 0x3F then .none
  else
    let ap := if a = 60 then 48 else a
    match (s.link ap).partner, (s.link p).partner with
    | some qa, some q =>
      -- DESIGN CHOICE (log 53): a port without a role of its own fits as a ROW port does
      let fits :=
        if s.role p = 2 then (s.role ap = 2 ∨ s.role ap = 4) ∧ qa.node.group = q.node.group
        else qa.node = q.node ∨ (a = 60 ∧ q.node = s.ownNode.twin)
      if fits then .alt ap else .misfit
    | _, _ => .misfit

/-- The link is neither UP nor dozing: TC0 and TC1 leave it for the alternate (R133, R97). -/
def State.notUp (s : State) (p : Nat) : Bool := !((s.link p).st == .up || (s.link p).st == .doze)

/-- The output of a TC0 or TC1 packet whose chosen port is not UP (R176), and whether that is an alternate; counts
ALT_MISMATCH at input `inX`. -/
def State.applyAlt (s : State) (h : Header) (inX : Nat) (o : Nat) : State × Nat × Bool :=
  match portOf o with
  | none => (s, o, false)
  | some p =>
    if 2 ≤ h.cls.toNat ∨ !s.notUp p ∨ p = 48 then (s, o, false)
    else match s.altOf p with
      | .none => (s, o, false)
      | .misfit => (s.countIn inX 13, o, false)
      | .alt a => (s, xIdx a, true)

/-! Header checks, strainer, notices -/

/-- Checks 1–3 of Table FAB-11. -/
def checks123 (h : Header) : Option Nat :=
  if h.hchk ≠ h.check then some 1
  else if h.reserved ≠ 0 then some 2
  else if h.phase = 3 ∨ h.routeMode = 3 ∨ h.colour = 3 ∨ 4096 < h.length.toNat then some 3
  else none

/-- Checks 5 and 6 of Table FAB-11. -/
def checks56 (h : Header) : Option Nat :=
  if (h.cls = 2 ∨ h.cls = 3) ∧ h.routeMode ≠ 2 then some 5
  else if h.routeMode = 1 ∧ (h.viaGroup.toNat = h.srcNode.group ∨ h.viaGroup.toNat = h.dstNode.group) then
    some 5
  else if h.routeMode ≠ 1 ∧ h.viaGroup ≠ 0 then some 5
  else if (h.cls = 0 ∧ h.pkey ≠ 0xFFFF) ∨ (h.cls ≠ 0 ∧ h.pkey = 0xFFFF) then some 6
  else none

/-- Checks 1–7 of Table FAB-11 at a fabric or twin port. -/
def State.headerCheck (s : State) (h : Header) (p : Nat) : Option Nat :=
  match checks123 h with
  | some n => some n
  | none =>
    if 8 < h.hops.toNat ∨ (p ≠ 48 ∧ h.hops = 0) then some 4
    else match checks56 h with
      | some n => some n
      | none => if h.phase = 0 ∧ s.otherGroup p then some 7 else none

/-- Checks 1–6 at an inner port for a packet from the ring (R60): HOPS must be 0. -/
def innerCheck (h : Header) : Option Nat :=
  match checks123 h with
  | some n => some n
  | none => if h.hops ≠ 0 then some 4 else checks56 h

/-- Checks 1–4 that the destination repeats before delivery (R42): HOPS from 0 to 8. -/
def deliveryCheck (h : Header) : Option Nat :=
  match checks123 h with
  | some n => some n
  | none => if 8 < h.hops.toNat then some 4 else none

/-- What the strainer does with a key. -/
inductive Strain where
  | admitted | refuse | discard
  deriving DecidableEq, Repr

/-- ACTION codes (Table RTE-8). -/
def Strain.ofCode (n : Nat) : Strain := if n = 0 then .admitted else if n = 1 then .refuse else .discard

/-- Stored entries of a TABLE that differ from the default: entry number and value. -/
def State.entriesOf (s : State) (r : Reg) : List (Nat × Image) :=
  (s.dict.filter (fun e => e.1 / 2 ^ 20 = r.obj * 256 + r.sub)).map (fun e => (e.1 % 2 ^ 20, e.2))

/-- Role bit of a port in the key table: that of the twin port is 5 (R191). -/
def State.roleBit (s : State) (p : Nat) : Nat := if p = 48 then 5 else s.role p

/-- The key table entry that decides a key at a port: the matching one of the least span (R191). -/
def State.strainHit (s : State) (p : Nat) (key : BitVec 16) : Option (Nat × Image) :=
  if key = 0xFFFF ∨ key = 0 then none
  else
    let rb := s.roleBit p
    match (s.entriesOf R.keyTable).filter (fun e =>
      bit e.2 31 ∧ bit e.2 (22 + rb) ∧ key.toNat >>> fldN e.2 19 16 = fldN e.2 15 0 >>> fldN e.2 19 16) with
    | [] => none
    | x :: xs => some (xs.foldl (fun a b => if fldN b.2 19 16 < fldN a.2 19 16 then b else a) x)

/-- The strainer's decision for a key at a port (R29, R191); the twin port has role bit 5. -/
def State.strain (s : State) (p : Nat) (key : BitVec 16) : Strain :=
  let rb := s.roleBit p
  let dfl := Strain.ofCode (fldN (s.reg R.strainerDefault) (2 * rb + 1) (2 * rb))
  if key = 0xFFFF then .admitted
  else if key = 0 then (if dfl = .admitted then .refuse else dfl)
  else match s.strainHit p key with
  | none => dfl
  | some e => Strain.ofCode (fldN e.2 29 28)

/-- The strainer's match is noted (Table TWN-7). -/
def State.noteStrain (s : State) (p : Nat) (key : BitVec 16) : State :=
  match s.strainHit p key with
  | some e => { s with twin := { s.twin with keyRefs := noteRefs s.twin.keyRefs [e.1] } }
  | none => s

/-- The discard notice of Table RTE-7. -/
def State.noticeFor (s : State) (h : Header) (inX reason : Nat) : Header :=
  s.controlHeader h.srcNode 0 0x08 (reason + 256 * inX) 32

/-- A discard notice for a packet of TC1–TC7, at most one per microsecond and input (R187). -/
def State.notice (s : State) (h : Header) (inX reason : Nat) : State :=
  if h.cls = 0 then s
  else
    let b := s.input inX
    let recent := match b.noticeAt with
      | some t => decide (s.uptime - t < 125)
      | none => false
    if recent then s.countIn inX 12
    else (s.setInput inX { b with noticeAt := some s.uptime }).build mcStop (s.noticeFor h inX reason)
      (bytesOf h.toBits 32)

/-- A routing fault: counted, the routing fault source raised, a notice sent (R186, R187). -/
def State.routeFault (s : State) (h : Header) (inX : Nat) (f : RouteFault) : State :=
  let s := match f with
    | .noRoute => s.countIn inX 8
    | .stepLimit => s.countIn inX 9
    | .hopLimit => s.countIn inX 10
    | .wrongGroup => s.countIn inX 11
    | .strainer => s
  (s.raise 0x531).notice h inX f.code

/-! Charged length, policers, RED -/

/-- L of a packet under an overhead object (R203). -/
def chargedLen (ov : Image) (length : Nat) : Nat :=
  let n := cellsOf length
  (if bit ov 16 then 128 * n else length + 32) + n * fldN ov 7 0 + fldN ov 15 8

/-- A policer's decision (R214, Table SCH-7): colour out and buckets; `l` in millibytes. -/
def police (p : Image) (b : Buckets) (colour : BitVec 2) (l : Nat) : BitVec 2 × Buckets :=
  if !bit p 127 then (colour, b)
  else if bit p 126 ∧ colour = 2 then (2, b)
  else if b.tp < l then (2, b)
  else if (bit p 126 ∧ colour = 1) ∨ b.tc < l then (1, { b with tp := b.tp - l })
  else (0, { tc := b.tc - l, tp := b.tp - l })

/-- P16 of a packet (R160). -/
def State.redP16 (s : State) (o c : Nat) (colour : BitVec 2) : Nat :=
  let m := s.reg R.congMode 0 c
  let r := if !bit m 2 ∨ colour = 0 then R.greenProfile else if colour = 1 then R.yellowProfile
    else R.redProfile
  let f := s.reg r 0 c
  let a := Table.get 0 (s.output o).avg c / 256
  let lo := 16 * fldN f 15 0
  let hi := 16 * fldN f 31 16
  if a < lo then 0 else if hi ≤ a then 65536
  else fldN f 39 32 * 256 * (a - lo) / (hi - lo)

/-- The RED decision of a first cell (R160, R161, R162): the state with the draw taken and the event counted,
whether the packet is dropped, and whether it is marked. -/
def State.red (s : State) (inX o c : Nat) (colour : BitVec 2) : State × Bool × Bool :=
  let chosen := decide ((Config.redDraw s.draws).toNat < s.redP16 o c colour)
  let mode := fldN (s.reg R.congMode 0 c) 1 0
  let s := s.drawn
  if !chosen ∨ mode = 0 then (s, false, false)
  else if mode = 1 then (s.countXbr inX (6 * c + 2 * colour.toNat), false, true)
  else (s.countXbr inX (6 * c + 2 * colour.toNat + 1), true, false)

/-! Input buffers and credits -/

/-- A credit goes back under a code (R116): it waits while 63 are unreported. -/
def Link.owe (k : Link) (code : Nat) (n : Nat) : Link :=
  let u := Table.get 0 k.unreported code
  let now := min n (63 - u)
  { k with total := Table.set 0 k.total code ((Table.get 0 k.total code + now) % 128)
           unreported := Table.set 0 k.unreported code (u + now)
           waiting := Table.upd 0 k.waiting code (· + (n - now)) }

/-- Cells that arrived on a VC and are in the buffer. -/
def InBuf.held (b : InBuf) (vc : Nat) : Nat :=
  (b.pkts.map (fun k => if k.inVc = vc then k.cells.length else 0)).sum

/-- A data cell of VC `vc` has left the buffer of crossbar index `x`, which has `more` others of it still to leave: its
credit goes back (R115). -/
def State.creditBackOf (s : State) (x vc more : Nat) : State :=
  match portOf x with
  | none => s
  | some p =>
    if 48 ≤ vc then s
    else
      let c := vcClass vc
      let code := if (s.input x).held vc + more < fldN (s.eff R.vcCredit p c) 7 0 then vc else 48 + c
      s.updLink p (·.owe code 1)

/-- A data cell of VC `vc` has left the buffer of crossbar index `x`. -/
def State.creditBack (s : State) (x vc : Nat) : State := s.creditBackOf x vc 0

/-- `n` cells of it have left, one after another (R115). -/
def State.creditsBack (s : State) (x vc : Nat) : Nat → State
  | 0 => s
  | n + 1 => (s.creditBackOf x vc n).creditsBack x vc n

/-- The packet under a stamp. -/
def InBuf.find (b : InBuf) (stamp : Nat) : Option VPkt := b.pkts.find? (·.stamp == stamp)
/-- Replace the packet under its stamp. -/
def InBuf.put (b : InBuf) (k : VPkt) : InBuf :=
  { b with pkts := b.pkts.map (fun q => if q.stamp = k.stamp then k else q) }
/-- Remove the packet under a stamp. -/
def InBuf.drop (b : InBuf) (stamp : Nat) : InBuf :=
  { b with pkts := b.pkts.filter (fun q => q.stamp ≠ stamp) }

/-- Write the first cell of a packet into the queues of input `x` (R150); answers its stamp. -/
def State.enqueue (s : State) (x : Nat) (k : VPkt) : State × Nat :=
  let b := s.input x
  (s.setInput x { b with pkts := b.pkts ++ [{ k with stamp := b.nextStamp }], nextStamp := b.nextStamp + 1 },
   b.nextStamp)

/-- The class index under which an inner or reduction output keeps its open packet; a VC elsewhere (R154). -/
def openKey (o vc cls : Nat) : Nat := if (portOf o).isSome then vc else cls

/-- B of a class has fallen to 0: no positive deficit is kept (R206, R207). -/
def State.settleDeficit (s : State) (o c : Nat) : State :=
  if s.backlog o c = 0 ∧ 0 < Table.get (0 : Int) (s.output o).deficit c then
    s.updOutput o (fun x => { x with deficit := Table.set 0 x.deficit c 0 })
  else s

/-- The same for every class of an output. -/
def State.settleDeficits (s : State) (o : Nat) : State := (List.range 8).foldl (fun s c => s.settleDeficit o c) s

/-- Abort the packet `stamp` at input `x` (R136): its cells leave the buffer, their credits go back, and an abort
follows the cells already forwarded; at an inner-port or reduction output the partial packet is discarded. -/
def State.abortPkt (s : State) (x stamp reason : Nat) : State :=
  match (s.input x).find stamp with
  | none => s
  | some k =>
    let s := (s.updInput x (·.drop stamp)).creditsBack x k.inVc k.cells.length
    let s := if k.sent = 0 then s
      else
        let o := s.output k.out
        let key := openKey k.out k.vc k.hdr.cls.toNat
        match o.opened.find? (fun e => e.1 = key) with
        | none => s
        | some (_, (_, _, pid)) =>
          let o := { o with opened := o.opened.erase key }
          match portOf k.out with
          | some _ => s.setOutput k.out { o with egress := o.egress ++
              [{ pid := pid, vc := k.vc, cls := k.hdr.cls.toNat, inp := x, stamp := stamp, abort := some reason
                 moved := k.moved }] }
          | none => s.setOutput k.out { o with egress := o.egress.filter (fun e => e.pid ≠ pid) }
    s.settleDeficit k.out k.hdr.cls.toNat

/-- Abort what is open on an arrival VC of port `p` (R136): later cells of it meet no open packet. -/
def State.abortOpen (s : State) (p vc reason : Nat) : State :=
  match Table.get RxOpen.none (s.link p).rxOpen vc with
  | .none => s
  | .drop => s.updLink p (fun k => { k with rxOpen := Table.set .none k.rxOpen vc .none })
  | .pkt x st =>
    (s.updLink p (fun k => { k with rxOpen := Table.set .none k.rxOpen vc .none })).abortPkt x st reason

/-- Abort what is open on every arrival VC of a list. -/
def State.abortVcs (s : State) (p reason : Nat) (vcs : List Nat) : State :=
  vcs.foldl (fun s v => s.abortOpen p v reason) s

/-! The port's clock (R87, R88, R142) -/

/-- The port's own clock in ticks: it stands still while the timers pause. -/
def State.portClock (s : State) (p : Nat) : Nat :=
  let k := s.link p
  (match k.pauseAt with | some t => t | none => s.uptime) - k.pausedFor

/-- The port's timers run: the transmitter is ready, the clock is present and the port does not doze (R142). -/
def Lane.timed (l : Lane) : Bool := l.txReady && l.rxClock && l.st != .doze

/-- The port's timers pause, or run again, as its lanes now stand (R142). -/
def State.settlePause (s : State) (p : Nat) : State :=
  let run := (s.lane p).timed
  s.updLink p (fun k => match k.pauseAt with
    | some t => if run then { k with pauseAt := none, pausedFor := k.pausedFor + (s.uptime - t) } else k
    | none => if run then k else { k with pauseAt := some s.uptime })

end Sys2Proof.Machine
end

