-- ==== Sys2Proof/Machine/HostOps.lean ====
section
/-! DEFINITION. Operations of the host side (chapters 9 and 11): functions and the slices they serve, requests to host
memory and the bandwidth arbiter, MSI-X. -/

namespace Sys2Proof.Machine

/-- Functions bound to a slice, in the order of host port and FUNC_MAP entry (R680). -/
def State.funcsOf (s : State) (sl : Nat) : List Nat :=
  (List.range 4).flatMap (fun k =>
    let entries := 0 :: 256 :: (s.dict.filter (fun e =>
      e.1 / 2 ^ 20 = R.funcMap.index k * 256 + R.funcMap.sub)).map (fun e => e.1 % 2 ^ 20)
    ((sortNat entries).eraseDups.map (512 * k + ·)).filter (fun f => s.funcSlice f == some sl))

/-- A slice is bound by a VALID entry whose function exists (R265, Table WKQ-5). -/
def State.sliceBound (s : State) (sl : Nat) : Bool := !(s.funcsOf sl).isEmpty

/-- Service mode (R486). -/
def State.serviceMode (s : State) : Bool := bit (s.eff R.svcCtl) 0

/-- The function number that stands for the memory of a memory sled, where no function exists (R680). -/
def memFunc : Nat := 2048

/-- A memory address lies in an ASSIGNED pool of a slice (R496), one that is not being released (R494). -/
def State.inPool (s : State) (sl a : Nat) : Bool :=
  (s.entriesOf R.pool).any (fun e => !(s.service.releasing.any (fun r => r.1 == e.1)) && fldN e.2 127 126 == 1 && fldN e.2 119 112 == sl
    && decide (fldN e.2 51 21 * 2 ^ 21 ≤ a ∧ a < (fldN e.2 51 21 + fldN e.2 94 64) * 2 ^ 21))

/-- A backing store may lie at an address: in service mode only in pools of slice 0 (R496). -/
def State.storeAt (s : State) (a : Nat) : Bool := !s.serviceMode || s.inPool 0 a

/-- The function through which a backing store on a link is reached: the control slice's PF there (R286, R447). -/
def State.storeFunc (s : State) (port link : Nat) : Nat := if s.serviceMode then memFunc else 512 * port + 256 * link

/-- A request through function `f` can be issued; memory in service mode needs no function. -/
def State.mayIssue (s : State) (f : Nat) : Bool := (f == memFunc && !s.faults.silent) || s.canIssue f

/-- The inbound function of a slice (R680). -/
def State.inboundFunc (s : State) (sl : Nat) : Option Nat :=
  if s.serviceMode then some memFunc else (s.funcsOf sl).find? s.canIssue

/-! Requests to host memory and the arbiter (R346–R352) -/

/-- The committed decoder and the memory link of a memory address (R491). -/
def State.decodeMem (s : State) (a : Nat) : Option (Nat × Nat) :=
  s.service.committed.findSome? (fun d =>
    let e := s.eff R.memDecoder 0 d
    let base := fldN e 51 28 * 2 ^ 28
    let n := 2 ^ fldN e 126 125
    if base ≤ a ∧ a < base + fldN e 87 64 * 2 ^ 28 then
      let way := (a - base) / (256 * 2 ^ fldN e 124 122) % n
      some (d, fldN e (96 + 3 * way + 2) (96 + 3 * way))
    else none)

/-- The instance that serves a request: of the function's link, or of the memory link in service mode (Table SVC-2). -/
def State.instFor (s : State) (f addr : Nat) (write : Bool) : Nat :=
  if f = memFunc then 2 * ((s.decodeMem addr).map (·.2)).getD 0 + b2n write else instOf f write

/-- Most bytes of one request at an address: 512, and within one granule of 256 bytes in service mode (R346, R491). -/
def chunkOf (f addr : Nat) : Nat := if f = memFunc then 256 - addr % 256 else 512

/-- The slice's memory may be written: not when it is HALTED (R319). -/
def State.writable (s : State) (sl : Nat) : Bool := (s.slice sl).st != .halted

/-- The access `n` bytes further on. -/
def Access.shift (a : Access) (n : Nat) : Access := { a with ia := a.ia + n }

/-- Bytes are written in bursts of at most 512 bytes; `b` gives the rest of each burst. -/
def State.hostWriteN (s : State) (b : Burst) : Nat → List Byte → State
  | 0, _ => s
  | n + 1, data =>
    if data.isEmpty ∨ !s.writable b.slice then s
    else
      let c := chunkOf b.func b.addr
      (s.request { b with inst := s.instFor b.func b.addr true, len := (data.take c).length, data := data.take c }).hostWriteN
        { b with addr := b.addr + c, acc := b.acc.map (Access.shift · c) } n (data.drop c)

/-- Bytes are written to memory. -/
def State.hostWrite (s : State) (b : Burst) (data : List Byte) : State :=
  s.hostWriteN b (data.length / 256 + 2) data

/-- A part of a completion or event entry is written into a queue's ring (kind 1 CQ, 2 EQ): its address is translated by
stage 2 when the burst's turn comes (Table TRN-1), and it follows the payload of operation `key` (R350). -/
def State.ringWrite (s : State) (kind n f sl addr key : Nat) (data : List Byte) : State :=
  s.hostWrite { func := f, slice := sl, addr := addr, key := key, report := true, stale := true, ring := some (kind * 65536 + n)
                acc := some { slice := sl, ia := addr, kind := .write, both := false, func := f } } data

/-- Reads that cover a span, in pieces of at most 512 bytes: (read, offset) of each; `b` gives the rest of each burst. -/
def State.hostReadN (s : State) (b : Burst) : Nat → Nat → Nat → State × List (Nat × Nat)
  | 0, _, _ => (s, [])
  | n + 1, off, len =>
    if len = 0 then (s, [])
    else
      let id := s.host.arb.nextId
      let c := chunkOf b.func b.addr
      let s := s.request { b with inst := s.instFor b.func b.addr false, len := min len c }
      let (s, r) := s.hostReadN { b with addr := b.addr + c, acc := b.acc.map (Access.shift · c) } n (off + c) (len - c)
      (s, (id, off) :: r)

/-- The first `n` bytes of spans. -/
def takeSpans : Spans → Nat → Spans
  | [], _ => []
  | (a, l, x) :: t, n => if n = 0 then [] else if n ≤ l then [(a, n, x)] else (a, l, x) :: takeSpans t (n - l)
/-- Spans without their first `n` bytes. -/
def dropSpans : Spans → Nat → Spans
  | [], _ => []
  | (a, l, x) :: t, n => if l ≤ n then dropSpans t (n - l) else (a + n, l - n, x.shift n) :: t

/-- Write bytes over spans. -/
def State.writeSpans (s : State) (b : Burst) : Spans → List Byte → State
  | [], _ => s
  | (a, l, x) :: t, data =>
    if data.isEmpty then s
    else (s.hostWrite { b with addr := a, func := x.func, slice := x.slice, acc := some x } (data.take l)).writeSpans b t (data.drop l)

/-- Read spans; offsets count from `off`. -/
def State.readSpans (s : State) (b : Burst) : Spans → Nat → State × List (Nat × Nat)
  | [], _ => (s, [])
  | (a, l, x) :: t, off =>
    let (s, r) := s.hostReadN { b with addr := a, func := x.func, slice := x.slice, acc := some x } (l / 256 + 2) off l
    let (s, r') := s.readSpans b t (off + l)
    (s, r ++ r')

/-- CREDIT of a slice at an instance (R347). -/
def State.credit (s : State) (inst sl : Nat) : Int := Table.get 0 s.host.arb.credit (256 * inst + sl)
def State.setCredit (s : State) (inst sl : Nat) (c : Int) : State :=
  s.updHost (fun h => { h with arb := { h.arb with credit := Table.set 0 h.arb.credit (256 * inst + sl) c } })

/-- FROST of a slice, of a link (R351). -/
def State.sliceFrost (s : State) (sl : Nat) : Bool := bit (s.reg R.hostFrost sl) 0
def State.linkFrost (s : State) (inst : Nat) : Bool := bit (s.reg R.arbFrost (inst / 2)) 0

/-- Payload that a report waits for is still in some instance (R350). -/
def State.payloadLeft (s : State) (b : Burst) : Bool :=
  s.host.arb.bursts.any (fun x => !x.report && decide (x.inst % 2 = 1) && decide (x.key = b.key ∧ b.key ≠ 0))

/-- A report goes through another link than some of the payload it reports, whose last bytes have not been read back (R680). -/
def State.awaitsRead (s : State) (b : Burst) : Bool :=
  b.key != 0 && s.host.arb.placed.any (fun p => p.key == b.key && p.link != b.inst / 2)

/-- The reads that the reports waiting at an instance need (R680). -/
def State.askReads (s : State) (inst : Nat) : State :=
  let need := s.host.arb.placed.filter (fun p => !p.asked && decide (p.link ≠ inst / 2)
    && s.host.arb.bursts.any (fun b => b.report && b.inst == inst && b.key == p.key))
  need.foldl (fun s p =>
    (s.request { inst := 2 * p.link, func := p.func, slice := p.slice, addr := p.addr, len := 1, owner := .order p.key p.link }).updHost
      (fun h => { h with arb := { h.arb with placed := h.arb.placed.map (fun q => if q = p then { q with asked := true } else q) } })) s

/-- Bytes placed for an operation need not be read back any more: of one link, or of all. -/
def State.forgetPlaced (s : State) (key : Nat) (link : Option Nat) : State :=
  s.updHost (fun h => { h with arb := { h.arb with placed := h.arb.placed.filter (fun p =>
    !(p.key == key && (match link with | some l => p.link == l | none => true))) } })

/-- Key under which a slice's inbound placements are reported: by its notifications (R439, R680). -/
def inboundKey (sl : Nat) : Nat := 2 ^ 60 + sl

/-- Payload of an operation has been handed over to a link; that of inbound operations counts for the slice. -/
def State.notePlaced (s : State) (b : Burst) : State :=
  if b.key = 0 ∨ b.report then (if b.key = 0 then s else s.forgetPlaced b.key none)
  else
    let p : Placed := { key := if 2 ^ 40 ≤ b.key ∧ b.key < 2 ^ 41 then inboundKey b.slice else b.key, link := b.inst / 2, func := b.func, slice := b.slice, addr := b.addr + (b.len - 1) }
    (s.forgetPlaced p.key (some p.link)).updHost (fun h => { h with arb := { h.arb with placed := h.arb.placed ++ [p] } })

/-- A waiting burst may be granted (R273, R348, R350, R351); at most 768 reads are outstanding on a link (Table HST-2). -/
def State.grantable (s : State) (b : Burst) : Bool :=
  !b.granted && !b.stale && s.mayIssue b.func && !s.sliceFrost b.slice
    && !((b.report || b.inst % 2 == 0) && s.payloadLeft b) && !(b.report && s.awaitsRead b) && (!s.linkFrost b.inst || b.report)
    && (b.inst % 2 == 1 || decide ((s.host.reads.filter (fun r => r.inst = b.inst)).length < 768))

/-- The head of each slice's queue at an instance. -/
def headsOf : List Nat → List Burst → List Burst
  | _, [] => []
  | seen, b :: bs => if seen.contains b.slice then headsOf seen bs else b :: headsOf (b.slice :: seen) bs

/-- The bursts of an instance that are requested: the others wait for their translation (R370); of one queue's ring, each waits for
those before it. -/
def requested : List (Option Nat) → List Burst → List Burst
  | _, [] => []
  | held, b :: bs =>
    if b.stale then requested (b.ring :: held) bs
    else if b.ring.isSome && held.contains b.ring then requested held bs
    else b :: requested held bs

/-- The bursts of which an instance grants one: each slice's oldest (R348); where it must wait, the slice's table reads go on, since it
may wait for one of them. -/
def State.askers (s : State) (inst : Nat) : List Burst :=
  let mine := requested [] (s.host.arb.bursts.filter (fun b => b.inst = inst))
  let c := (headsOf [] mine).filter s.grantable
  let walks := mine.filter (fun b => match b.owner with | .walk _ => true | _ => false)
  c ++ (headsOf [] walks).filter (fun b => s.grantable b && c.all (fun x => x.slice != b.slice))

/-- The burst that an instance without an outstanding grant grants next (R348). -/
def State.nextGrant (s : State) (inst : Nat) : Option Burst :=
  if s.host.arb.bursts.any (fun b => b.inst == inst && b.granted) then none
  else
    match s.askers inst with
    | [] => none
    | b :: bs => some (bs.foldl (fun a x =>
        if s.credit inst a.slice < s.credit inst x.slice
          ∨ (s.credit inst a.slice = s.credit inst x.slice ∧ x.slice < a.slice) then x else a) b)

def State.dropBurst (s : State) (id : Nat) : State :=
  s.updHost (fun h => { h with arb := { h.arb with bursts := h.arb.bursts.filter (fun b => b.id ≠ id) } })
def State.updBurst (s : State) (id : Nat) (f : Burst → Burst) : State :=
  s.updHost (fun h => { h with arb := { h.arb with bursts := h.arb.bursts.map (fun b => if b.id = id then f b else b) } })

/-- Bytes move on a link: what the L0p measurement counts (R276). -/
def State.moved (s : State) (inst n : Nat) : State :=
  let h := Table.get {} s.host.ports (inst / 4)
  let l := inst / 2 % 2
  let h' := h.withLink l { h.link l with moved := (h.link l).moved + n }
  s.updHost (fun x => { x with ports := Table.set {} x.ports (inst / 4) h' })

/-- A read leaves at its grant; a write is gathered until it is handed over (R348, R349). -/
def State.grant (s : State) (inst : Nat) : State :=
  match s.nextGrant inst with
  | none => s
  | some b =>
    let s := (s.setCredit inst b.slice (s.credit inst b.slice - b.len)).countSlice b.slice 28 b.len
    if inst % 2 = 1 then s.updBurst b.id (fun b => { b with granted := true })
    else
      let s := (s.dropBurst b.id).updHost (fun h => { h with reads := h.reads ++
        [{ id := b.id, inst := inst, func := b.func, slice := b.slice, addr := b.addr, len := b.len, owner := b.owner, key := b.key }] })
      ((((s.countHost (inst / 4) 3).countHost (inst / 4) 1 b.len).moved inst b.len).emit
        (.hostRead inst b.func b.addr b.len b.id))

/-- A gathered write goes to the controller (R349); no payload goes into the memory of a HALTED slice (R319). -/
def State.handover (s : State) (inst : Nat) : State :=
  match s.host.arb.bursts.find? (fun b => b.inst = inst ∧ b.granted) with
  | none => s
  | some b =>
    if !b.report ∧ !s.writable b.slice then s.dropBurst b.id
    else
    let s := (s.dropBurst b.id).notePlaced b
    let s := ((s.countHost (inst / 4) 2).countHost (inst / 4) 0 b.len).moved inst b.len
    match b.msix with
    | some v => s.emit (.msix b.func v b.addr ((s.func b.func).vec v).data)
    | none => s.emit (.hostWrite inst b.func b.addr b.data (!b.report && (s.func b.func).relaxed))

end Sys2Proof.Machine
end

