-- ==== Sys2Proof/Machine/QueueOps.lean ====
section
/-! DEFINITION. Operations of queues (chapter 10): positions, entries, completions, events, queue errors; and the homes,
keys and items of the engine array (chapter 11) that an entry passes. -/

namespace Sys2Proof.Machine

/-- The entry of a numbered queue in a list. -/
def assoc {α : Type} (l : List (Nat × α)) (n : Nat) : Option α := (l.find? (fun e => e.1 = n)).map (·.2)
/-- Replace the entry of a number. -/
def assocPut {α : Type} (l : List (Nat × α)) (n : Nat) (x : α) : List (Nat × α) :=
  l.map (fun e => if e.1 = n then (n, x) else e)

def State.wq (s : State) (n : Nat) : Option Wq := assoc s.host.wqs n
def State.cq (s : State) (n : Nat) : Option Cq := assoc s.host.cqs n
def State.eq (s : State) (n : Nat) : Option Eq := assoc s.host.eqs n
def State.putWq (s : State) (n : Nat) (w : Wq) : State := s.updHost (fun h => { h with wqs := assocPut h.wqs n w })
def State.putCq (s : State) (n : Nat) (c : Cq) : State := s.updHost (fun h => { h with cqs := assocPut h.cqs n c })
def State.putEq (s : State) (n : Nat) (e : Eq) : State := s.updHost (fun h => { h with eqs := assocPut h.eqs n e })

/-- `(a − b) mod 65,536` (R285). -/
def posDiff (a b : Nat) : Nat := (a + 65536 - b % 65536) % 65536
/-- The position `n` after `p`. -/
def posAdd (p n : Nat) : Nat := (p + n) % 65536

/-! Fields of an entry (Table WKQ-11) -/

/-- A word of an entry's bytes. -/
def entryWord (b : List Byte) (i n : Nat) : Nat := natOfBytes ((b.drop i).take n)
/-- Bits `hi` down to `lo` of an entry. -/
def entryFld (b : List Byte) (hi lo : Nat) : Nat := (entryWord b (lo / 8) ((hi / 8) - lo / 8 + 1) >>> (lo % 8)) % 2 ^ (hi + 1 - lo)
/-- OPCODE, CLASS and INLINE_UNITS. -/
def entryOp (b : List Byte) : Nat := entryFld b 7 0
def entryClass (b : List Byte) : Nat := entryFld b 18 16
def entryUnits (b : List Byte) : Nat := entryFld b 20 19

/-! Queue contexts on chip and in their store (R286, R287) -/

/-- Number of a queue's context: kind 0 WQ, 1 CQ, 2 EQ. -/
def ctxNo (kind n : Nat) : Nat := kind * 65536 + n
/-- Key of the requests that move a context: a load follows its own write (R350). -/
def ctxKey (k : Nat) : Nat := 2 ^ 34 + k
/-- The key is that of a request that moves a context. -/
def contextKey (k : Nat) : Bool := decide (2 ^ 34 ≤ k ∧ k < 2 ^ 35)

/-- The context store is used. -/
def State.ctxStored (s : State) : Bool := bit (s.eff R.ctxStore) 63
/-- Where a context is kept in the store. -/
def State.ctxAddr (s : State) (k : Nat) : Nat :=
  fldN (s.eff R.ctxStore) 51 12 * 4096 + nthD 0 [0, 0x40_0000, 0x50_0000] (k / 65536) + 64 * (k % 65536)
/-- The function of the store's link. -/
def State.ctxFunc (s : State) : Nat := let e := s.eff R.ctxStore; s.storeFunc (fldN e 57 56) (fldN e 55 55)

/-- The bytes of a context in the store: its contents, and their CRC-32C.  DESIGN CHOICE (log 56): 60 bytes of contents, whose
layout the device keeps to itself, with the CRC in the last four. -/
def ctxImage (k draw : Nat) : List Byte :=
  let body := (Config.contextBody k draw).toNat
  bytesOf (BitVec.ofNat 512 (body + at' 480 (crc32c body 60).toNat)) 64
/-- A context read from the store passes its check. -/
def ctxRight (data : List Byte) : Bool := natOfBytes (data.drop 60) == (crc32c (natOfBytes (data.take 60)) 60).toNat

/-- A context is on chip. -/
def State.resident (s : State) (k : Nat) : Bool := !s.ctxStored || s.host.cached.contains k

/-- A context is used: it comes first, and where 8,192 stand on chip the least recently used is written to the store. -/
def State.useContext (s : State) (k : Nat) : State :=
  let rest := s.host.cached.filter (fun x => x ≠ k)
  let kept := if rest.length < 8192 then rest else rest.dropLast
  let s := s.updHost (fun h => { h with cached := k :: kept })
  match (if rest.length < 8192 then none else rest.getLast?) with
  | none => s
  | some old =>
    s.drawn.hostWrite { func := s.ctxFunc, addr := s.ctxAddr old, key := ctxKey old } (ctxImage old s.draws)

/-- A context is read from the store, once. -/
def State.loadContext (s : State) (k : Nat) : State :=
  let own : ReadOwner := .context (k / 65536) (k % 65536)
  if s.host.arb.bursts.any (fun b => b.owner = own) || s.host.reads.any (fun r => r.owner = own) then s
  else (s.hostReadN { func := s.ctxFunc, addr := s.ctxAddr k, owner := own, key := ctxKey k } 2 0 64).1

/-! Events (R313–R315) -/

/-- The bytes of an event entry (Table WKQ-19). -/
def eventBytes (type source time : Nat) (detail : Nat) (phase : Bool) : List Byte :=
  bytesOf (BitVec.ofNat 256 (type + at' 32 source + at' 64 time + at' 128 detail + at' 255 (b2n phase))) 32

/-- PHASE of the next entry written: 1 on the first pass (R310). -/
def phaseOf (written log : Nat) : Bool := (written >>> log) % 2 == 0

/-- One event entry is written at the write position, bytes 0–27 and then 28–31 (R314). -/
def State.writeEvent (s : State) (n type source detail key : Nat) : State :=
  match s.eq n with
  | none => s
  | some e =>
    let b := eventBytes type source s.ns detail (phaseOf e.written e.log)
    let a := e.base + (e.wpos % 2 ^ e.log) * 32
    let s := (s.ringWrite 2 n e.func e.slice a key (b.take 28)).ringWrite 2 n e.func e.slice (a + 28) key (b.drop 28)
    s.putEq n { e with wpos := posAdd e.wpos 1, written := e.written + 1 }

/-- Space in an event queue. -/
def Eq.room (e : Eq) : Bool := decide (posDiff e.wpos e.consumer < 2 ^ e.log)

/-- An armed event queue with an event beyond CONSUMER signals its vector once (R313). -/
def State.fireEq (s : State) (n key : Nat) : State :=
  match s.eq n with
  | none => s
  | some e =>
    if e.armed ∧ e.wpos ≠ e.consumer ∧ e.st = .ready then
      (s.putEq n { e with armed := false }).msix e.func e.vector e.slice key
    else s

/-- The one EQ_OVERRUN event for the events lost, once there is space (R315). -/
def State.overrunEvent (s : State) (n : Nat) : State :=
  match s.eq n with
  | none => s
  | some e =>
    if e.lost ≠ 0 ∧ e.room ∧ e.st = .ready then
      (s.putEq n { e with lost := 0 }).writeEvent n 3 n e.lost 0
    else s

/-- An event goes to an event queue (R314, R315): lost and counted when it is full.  It waits while the queue's context is
loaded (R286). -/
def State.event (s : State) (n type source detail : Nat) (key : Nat := 0) : State :=
  match s.eq n with
  | none => s
  | some e =>
    if e.st ≠ .ready ∨ !s.writable e.slice then s
    else if !e.held.isEmpty ∨ !s.resident (ctxNo 2 n) then
      (s.putEq n { e with held := e.held ++ [(type, source, detail, key)] }).loadContext (ctxNo 2 n)
    else
      let s := (s.useContext (ctxNo 2 n)).overrunEvent n
      match s.eq n with
      | none => s
      | some e =>
        if e.room then (s.writeEvent n type source detail key).fireEq n key
        else (s.putEq n { e with lost := e.lost + 1 }).countSlice e.slice 27

/-- The event queue of a slice created with SLICE_EVENTS (R314). -/
def State.sliceEq (s : State) (sl : Nat) : Option Nat :=
  (s.host.eqs.find? (fun e => e.2.slice = sl ∧ e.2.slices)).map (·.1)

/-- A slice event (R314). -/
def State.sliceEvent (s : State) (sl type source detail : Nat) : State :=
  match s.sliceEq sl with
  | some n => s.event n type source detail
  | none => s

/-- SLICE_STATUS (Table WKQ-6). -/
def Slice.status (x : Slice) : Nat :=
  at' 60 x.st.code + at' 56 x.haltCause + at' 52 x.check + at' 36 x.wq + at' 20 x.index + at' 8 x.malformed

/-- A change of a slice's state, with its SLICE_STATE event (R291). -/
def State.sliceTo (s : State) (sl : Nat) (st : SliceSt) : State :=
  let s := s.updSlice sl (fun x => { x with st := st })
  s.sliceEvent sl 4 sl (s.slice sl).status

/-! Sampling of entries (R642, R643) -/

/-- The OPCODE_MASK bit of an opcode (Table CTR-8). -/
def opcodeBit (op : Nat) : Nat :=
  if op = 0x10 then 1 else if op = 0x11 then 2 else if op = 0x20 then 3 else if op = 0x21 then 4
  else if op = 0x22 then 5 else if op = 0x23 then 6 else if op = 0x30 then 7 else if op = 0x70 then 8 else 0

/-- An entry fetched or taken from push data is a candidate while the sampling window runs; the one that brings the
countdown to zero is sampled (R642). -/
def State.candidate (s : State) (sl op : Nat) : State × Bool :=
  let c := s.reg R.sampleCtl
  let x := s.counting.sampling
  if x.win.covers s.tick ∧ bit c (144 + opcodeBit op) ∧ (bit c 154 ∨ fldN c 167 160 = sl) then
    let period := fldN c 143 128 + 1
    let (s, reload) := if bit c 153 then
        (s.drawn, max 1 (period / 2 + fldN (Config.jitterDraw s.draws) 31 0 % period))
      else (s, period)
    let hit := x.countdown ≤ 1
    ({ s with counting := { s.counting with sampling := { x with
        countdown := if hit then reload else x.countdown - 1 } } }, hit)
  else (s, false)

/-- A sampled entry has reached its cluster's intake. -/
def State.addTrack (s : State) (n pos : Nat) : State :=
  { s with counting := { s.counting with sampling := { s.counting.sampling with
      tracks := s.counting.sampling.tracks ++ [{ wq := n, pos := pos, intake := some s.ns }] } } }

/-- A sampled entry has finished: its record is due (R643). -/
def State.sampled (s : State) (n sl : Nat) (e : WqEntry) (status count : Nat) : State :=
  match e.sample with
  | none => s
  | some t =>
    let op := entryOp e.bytes
    let d : SampleDue := { wq := n, pos := e.pos, slice := sl, opcode := op, status := status, pushed := e.pushed
                           tIn := t, tEnd := s.ns, bytes := count
                           node := if op = 0x11 ∨ op = 0x30 then 0 else entryFld e.bytes 147 128
                           track := (s.counting.sampling.tracks.find? (fun x => x.wq = n ∧ x.pos = e.pos)).getD {} }
    { s with counting := { s.counting with sampling := { s.counting.sampling with
        due := s.counting.sampling.due ++ [d]
        tracks := s.counting.sampling.tracks.filter (fun x => !(x.wq = n ∧ x.pos = e.pos)) } } }

/-! Completions (R310–R313) -/

/-- The bytes of a completion entry (Table WKQ-17). -/
def Completion.bytes (c : Completion) (phase : Bool) : List Byte :=
  bytesOf (BitVec.ofNat 512 (c.status.code + at' 8 c.opcode + at' 16 c.wq + at' 32 c.index + at' 48 c.head + at' 64 c.user
    + at' 128 c.count + at' 160 c.detail + at' 192 (c.specific % 2 ^ 288) + at' 511 (b2n phase))) 64

/-- An armed completion queue with an entry that counts beyond CONSUMER writes one CQ_ENTRY event (R313). -/
def State.fireCq (s : State) (n : Nat) (key : Nat) : State :=
  match s.cq n with
  | none => s
  | some c =>
    let hit := if c.solOnly then !c.notable.isEmpty else c.wpos != c.consumer
    if c.armed ∧ hit ∧ c.st = .ready then (s.putCq n { c with armed := false }).event c.eq 1 n 0 key else s

/-- QUEUE_ERROR (R316): kind 0 WQ, 1 CQ, 2 EQ. -/
def State.queueErrorEvent (s : State) (sl kind n cause : Nat) : State :=
  s.sliceEvent sl 2 (at' 16 kind + n) cause

/-- Remove the items of a WQ. -/
def State.dropItems (s : State) (n : Nat) : State :=
  s.updHost (fun h => { h with engines := { h.engines with items := h.engines.items.filter (fun i =>
    match i.src with | .entry w _ => w ≠ n | .segment w _ => w ≠ n) } })

/-- A WQ whose CQ has gone: ERROR, its entries finished without a completion, which the CQ would discard (R312, R316). -/
def State.wqErrorSilent (s : State) (n cause : Nat) : State :=
  match s.wq n with
  | none => s
  | some w =>
    if w.st ≠ .ready then s
    else
      let s := s.dropItems n
      let done := w.entries.filter (fun e => e.st ≠ .finished)
      let s := done.foldl (fun s e => s.sampled n w.slice e 0xFF 0) (s.countSlice w.slice 4 done.length)
      (s.putWq n { w with st := .error cause, head := w.parse, entries := [] }).queueErrorEvent w.slice 0 n cause

/-- A CQ enters ERROR (R312, R316); with it, on an overrun, every WQ that uses it. -/
def State.cqError (s : State) (n cause : Nat) : State :=
  match s.cq n with
  | none => s
  | some c =>
    if c.st ≠ .ready then s
    else
      let s := (s.putCq n { c with st := .error cause }).queueErrorEvent c.slice 1 n cause
      if cause = 2 then
        (s.host.wqs.filter (fun w => w.2.cq = n)).foldl (fun s w => s.wqErrorSilent w.1 cause) s
      else s

/-- A completion is written to a CQ, or overruns it (R310, R312, R313).  A notification ring's consumer word is read once before an
overrun is declared (R499): what comes meanwhile waits for it. -/
def State.writeCompletion (s : State) (n : Nat) (c : Completion) (key : Nat) : State :=
  match s.cq n with
  | none => s
  | some q =>
    if q.st ≠ .ready ∨ !s.writable q.slice then s
    else if !q.held.isEmpty then s.putCq n { q with held := q.held ++ [(c, key)] }
    else if !s.resident (ctxNo 1 n) then (s.putCq n { q with held := [(c, key)] }).loadContext (ctxNo 1 n)
    else if 2 ^ q.log ≤ posDiff q.wpos q.consumer then
      if q.func = memFunc then
        let a := q.base + 64 * 2 ^ q.log
        ((s.putCq n { q with held := [(c, key)] }).hostReadN
          { func := q.func, slice := q.slice, addr := a, owner := .consumer n, stale := true, ring := some (65536 + n)
            acc := some { slice := q.slice, ia := a, kind := .read, both := false, func := q.func } } 1 0 8).1
      else s.cqError n 2
    else
      let s := s.useContext (ctxNo 1 n)
      let b := c.bytes (phaseOf q.written q.log)
      let a := q.base + (q.wpos % 2 ^ q.log) * 64
      let s := (s.ringWrite 1 n q.func q.slice a key (b.take 60)).ringWrite 1 n q.func q.slice (a + 60) key (b.drop 60)
      let bad := decide (16 ≤ c.status.code)
      let s := s.putCq n { q with wpos := posAdd q.wpos 1, written := q.written + 1
                                  notable := if c.solicited || bad then q.notable ++ [q.wpos] else q.notable }
      s.fireCq n key

/-- The consumer word of a notification ring has been read (R499): what waited is written, or overruns the ring. -/
def State.consumerRead (s : State) (n v : Nat) : State :=
  match s.cq n with
  | none => s
  | some q =>
    let s := s.putCq n { q with consumer := v % 65536, held := [] }
    q.held.foldl (fun s h =>
      match s.cq n with
      | none => s
      | some q => if q.st = .ready ∧ 2 ^ q.log ≤ posDiff q.wpos q.consumer then s.cqError n 2 else s.writeCompletion n h.1 h.2) s

/-- SLICE counters 2–5 and 22 for a completion's status (Table CTR-2). -/
def State.countComp (s : State) (sl : Nat) (c : Comp) : State :=
  let s := if c.code < 16 then s.countSlice sl 2
    else if c = .flushed then s.countSlice sl 4
    else if c = .malformedEntry then s.countSlice sl 5
    else s.countSlice sl 3
  if c = .transportTimeout then s.countSlice sl 22 else s

/-- HEAD advances over leading finished entries (R309). -/
def advanceHead : Nat → List WqEntry → Nat × List WqEntry
  | h, [] => (h, [])
  | h, e :: es =>
    if e.st = .finished then advanceHead (posAdd h (e.bytes.length / 64)) es else (h, e :: es)

/-- Remove an item's work from the engines: its entry has finished. -/
def State.dropItemOf (s : State) (n pos : Nat) : State :=
  s.updHost (fun h => { h with engines := { h.engines with items := h.engines.items.filter (fun i =>
    match i.src with | .entry w p => !(w = n ∧ p = pos) | .segment w p => !(w = n ∧ p = pos)) } })

/-- The operation number of an entry, under which its payload bursts and its completion are ordered (R350). -/
def opKey (n pos : Nat) : Nat := 1 + n * 65536 + pos

/-- SPECIFIC of a RECV's completion (Table WKQ-18). -/
def recvSpecific (w : Wq) (h : Header) (tag rank : Nat) (solicit : Bool) : Nat :=
  tag + at' 32 (if w.jobValid then rank else 0xFFFFFFFF) + at' 64 h.srcNode.toNat + at' 88 h.srcStation.toNat + at' 104 (b2n solicit)

/-- SPECIFIC of an entry that ends while it takes a message by rendezvous: what its message tells. -/
def State.matchedSpecific (s : State) (n pos : Nat) (w : Wq) : Nat :=
  match s.remote.peers.findSome? (fun p => p.rdvR.find? (fun r => r.wq = n ∧ r.pos = pos)) with
  | some r => recvSpecific w r.hdr r.hdr.ext.toNat r.rank r.solicit
  | none => 0

/-- An entry finishes (R309, R311): its completion is written where the rules ask for one.  DETAIL of a COLLECTIVE is its EPOCH
(Table WKQ-17).  An entry already finished, or flushed, is left alone. -/
def State.finish (s : State) (n pos : Nat) (st : Comp) (count : Nat) (detail : Nat := 0) (specific : Nat := 0)
    (solicited : Bool := false) : State :=
  match s.wq n with
  | none => s
  | some w =>
    match w.entries.find? (fun e => e.pos = pos ∧ e.st ≠ .finished) with
    | none => s
    | some e =>
      let es := w.entries.map (fun x => if x.pos = pos then { x with st := EntrySt.finished } else x)
      let (head, es) := advanceHead w.head es
      let s := (s.putWq n { w with head := head, entries := es }).dropItemOf n pos
      let write := decide (16 ≤ st.code) || entryOp e.bytes == 0x11 || entryFld e.bytes 8 8 == 1
      let s := s.sampled n w.slice e (if write then st.code else 0xFF) count
      let c : Completion :=
        { status := st, opcode := entryOp e.bytes, wq := n, index := pos, head := head
          user := entryWord e.bytes 8 8, count := count
          detail := if entryOp e.bytes = 0x30 then entryWord e.bytes 48 4 else detail
          specific := if specific = 0 then s.matchedSpecific n pos w else specific, solicited := solicited }
      if write then (s.countComp w.slice st).writeCompletion w.cq c (opKey n pos)
      else s.forgetPlaced (opKey n pos) none

/-- A WQ enters ERROR (R316): its fetched entries complete with FLUSHED in position order. -/
def State.wqError (s : State) (n cause : Nat) : State :=
  match s.wq n with
  | none => s
  | some w =>
    if w.st ≠ .ready then s
    else
      let s := (s.putWq n { w with st := .error cause }).dropItems n
      let s := (w.entries.filter (fun e => e.st ≠ .finished)).foldl (fun s e => s.finish n e.pos .flushed 0) s
      s.queueErrorEvent w.slice 0 n cause

/-- An EQ enters ERROR (R316). -/
def State.eqError (s : State) (n cause : Nat) : State :=
  match s.eq n with
  | none => s
  | some e =>
    if e.st ≠ .ready then s else (s.putEq n { e with st := .error cause }).queueErrorEvent e.slice 2 n cause

end Sys2Proof.Machine
end

