-- ==== Sys2Proof/Machine/EngineOps.lean ====
section
/-! DEFINITION. Operations of the engine array (chapter 11): homes, ordering keys, the intake, admission, stealing,
parking, engines leaving service; and an entry's way from its bytes to an item (R307, R308). -/

namespace Sys2Proof.Machine

def State.updEngines (s : State) (f : Engines → Engines) : State :=
  s.updHost (fun h => { h with engines := f h.engines })

/-- Ring stop of a cluster (Table RNG-1). -/
def clusterStop (k : Nat) : Nat := 8 * (k / 4) + nthD 0 [0, 1, 3, 4] (k % 4)

/-- The engine is in service (R341, R344). -/
def State.inService (s : State) (e : Nat) : Bool := !s.host.engines.out.contains e
/-- A cluster is in service while one of its engines is (R345). -/
def State.clusterUp (s : State) (k : Nat) : Bool := (List.range 16).any (fun l => s.inService (16 * k + l))

/-- The first cluster at or after `k`, circularly, in a CLUSTER_MASK and in service (R330, R345). -/
def State.homeFrom (s : State) (mask k : Nat) : Nat :=
  (((List.range 32).map (fun i => (k + i) % 32)).find? (fun c => mask.testBit c && s.clusterUp c)).getD (k % 32)

/-- CLUSTER_MASK of a slice (Table ENG-2). -/
def State.clusterMask (s : State) (sl : Nat) : Nat := fldN (s.reg R.engineShare sl) 63 32

/-- Home of a WQ (R330). -/
def State.wqHome (s : State) (sl n : Nat) : Nat := s.homeFrom (s.clusterMask sl) (n % 32)

/-- The slice that holds a station, and the entry of its SLICE_STATIONS (R28, R294).  (An adopter that has surrendered holds none:
see `unheld`.) -/
def State.stationRange (s : State) (x : Nat) : Option (Nat × Nat) :=
  (s.dict.filter (fun e => (e.1 / 2 ^ 20 % 256) = 5 ∧ 0x4000 ≤ e.1 / 2 ^ 28 ∧ e.1 / 2 ^ 28 < 0x5000
      ∧ e.1 / 2 ^ 28 % 16 = 0)).findSome? (fun e =>
    let f := fldN e.2 9 0
    if bit e.2 31 ∧ f ≤ x ∧ x < f + fldN e.2 20 10 then some ((e.1 / 2 ^ 28 - 0x4000) / 16, e.1 % 2 ^ 20) else none)
def State.stationSlice (s : State) (x : Nat) : Option Nat := (s.stationRange x).map (·.1)

/-- A range of stations is bound under the mask its slice has now (R336). -/
def State.bindStations (s : State) (sl e : Nat) : State :=
  s.updEngines (fun x => { x with bound := Table.set 0xFFFFFFFF x.bound (16 * sl + e) (s.clusterMask sl) })

/-- Home of a station (R330): by the mask under which it was bound (R336); one that no slice holds, by every cluster. -/
def State.stationHome (s : State) (x : Nat) : Nat :=
  s.homeFrom (match s.stationRange x with
    | some (sl, e) => Table.get 0xFFFFFFFF s.host.engines.bound (16 * sl + e)
    | none => 0xFFFFFFFF) (4 * (x % 8) + x / 8 % 4)

/-! Ordering keys (R328, Table ENG-16) -/

/-- The CRC of R39 over bytes. -/
def crc16 (bs : List Byte) : Nat := (bs.foldl crc16Byte 0xFFFF#16).toNat

/-- A key of a kind over bytes. -/
def orderKey (kind sl : Nat) (bs : List Byte) : Nat := crc16 bs + at' 16 sl + at' 24 kind

/-- `n` little-endian bytes of a number. -/
def leBytes (v n : Nat) : List Byte := bytesOf (BitVec.ofNat (8 * n) v) n

/-- The ordering key of an entry (Tables ENG-1, ENG-16). -/
def entryKey (sl wq : Nat) (b : List Byte) : Option Nat :=
  match entryOp b with
  | 0x10 => some (orderKey 0x10 sl (leBytes sl 1 ++ leBytes wq 2 ++ leBytes (entryFld b 13 13) 1
      ++ leBytes (entryWord b 16 4) 4 ++ leBytes (entryFld b 169 160) 2 ++ leBytes (entryClass b) 1))
  | 0x11 => some (orderKey 0x11 sl (leBytes sl 1 ++ leBytes wq 2 ++ [0x11]))
  | 0x30 => some (orderKey 0x30 sl (leBytes sl 1 ++ leBytes (entryFld b 191 176) 2 ++ [0x30]))
  | _ => none

/-- The arrival key of a packet of TC2 or TC3 (Table ENG-16). -/
def arrivalKey (sl : Nat) (h : Header) : Option Nat :=
  if h.cls = 2 ∨ h.cls = 3 then
    some (orderKey 0x20 sl (leBytes h.srcNode.toNat 3 ++ leBytes h.srcStation.toNat 2 ++ leBytes h.dstStation.toNat 2
      ++ leBytes h.cls.toNat 1))
  else none

/-! Items and the intake (R326, R331) -/

/-- The item stands in the intake: waiting there, or parked (R343). -/
def Item.inIntake (i : Item) : Bool :=
  match i.place with
  | .intake | .parked _ => true
  | _ => false
def Item.dequeOf (i : Item) : Option Nat := match i.place with | .deque e => some e | _ => none
def Item.runningOn (i : Item) : Option Nat := match i.place with | .running e => some e | _ => none

/-- A packet of this command becomes an item: INBOUND, or a step of the TRANSPORT service (Tables ENG-1, ENG-14).  DESIGN CHOICE
(log 59): rendezvous control, a notification, an acknowledgement; of an EAGER the match unit finds out whether it needs one. -/
def engineCmd (c : Nat) : Bool := [0x11, 0x12, 0x14, 0x15, 0x17, 0x21, 0x2A].contains c

/-- Slices of the items in a cluster's intake, an item each: those of work queues, and the packets that wait there. -/
def State.intake (s : State) (k : Nat) : List Nat :=
  (s.host.engines.items.filter (fun i => i.cluster = k ∧ i.inIntake)).map (·.slice)
  ++ s.arrived.filterMap (fun a =>
    let x := a.pkt.hdr.dstStation.toNat
    if engineCmd a.pkt.hdr.cmd.toNat && s.stationHome x == k then s.stationSlice x else none)

/-- A slice can take a further item in a cluster (R331). -/
def State.intakeRoom (s : State) (k sl : Nat) : Bool :=
  let l := s.intake k
  let n := l.count sl
  let shared := (l.eraseDups.map (fun t => l.count t - 16)).sum
  decide (n < 16) || (decide (n < 64 * fldN (s.reg R.engineCtl) 7 0) && decide (shared < 4096))

/-- An item joins the tail of the intake. -/
def State.addItem (s : State) (i : Item) : State :=
  s.updEngines (fun e => { e with items := e.items ++ [{ i with id := e.nextItem }], nextItem := e.nextItem + 1 })
/-- A further item of an operation goes ahead of its queue's later ones. -/
def State.addItemFront (s : State) (i : Item) : State :=
  s.updEngines (fun e => { e with items := { i with id := e.nextItem } :: e.items, nextItem := e.nextItem + 1 })
def State.updItem (s : State) (id : Nat) (f : Item → Item) : State :=
  s.updEngines (fun e => { e with items := e.items.map (fun i => if i.id = id then f i else i) })
def State.dropItem (s : State) (id : Nat) : State :=
  s.updEngines (fun e => { e with items := e.items.filter (fun i => i.id ≠ id) })

/-- Items waiting in an engine's deque, head first. -/
def State.deque (s : State) (e : Nat) : List Item :=
  sortBy (fun a b => decide (a.rank ≤ b.rank)) (s.host.engines.items.filter (fun i => i.dequeOf = some e))
/-- The item an engine executes. -/
def State.running (s : State) (e : Nat) : Option Item := s.host.engines.items.find? (fun i => i.runningOn = some e)
/-- Engines executing a slice's items (R336). -/
def State.busy (s : State) (sl : Nat) : Nat :=
  (s.host.engines.items.filter (fun i => i.slice = sl ∧ i.runningOn.isSome)).length
/-- The slice is at its ENGINE_CAP (R334). -/
def State.capped (s : State) (sl : Nat) : Bool := decide (fldN (s.reg R.engineShare sl) 25 16 ≤ s.busy sl)
/-- The slice is HALTED, or a halt or reset of it is under way: no engine starts its items (R319, R334). -/
def State.haltedNow (s : State) (sl : Nat) : Bool :=
  let x := s.slice sl
  x.st == .halted || (match x.settle with | some (.halt _) | some .reset => true | _ => false)

/-- The entry of an item has come to a stage. -/
def State.trackItem (s : State) (i : Item) (f : Track → Track) : State :=
  match i.src with
  | .entry n pos | .segment n pos => s.trackEntry n pos f

/-- An item goes to the tail of a deque. -/
def State.toDeque (s : State) (id e : Nat) : State :=
  (s.updItem id (fun i => { i with place := .deque e, rank := s.host.engines.nextRank })).updEngines
    (fun x => { x with nextRank := x.nextRank + 1 })

/-! Admission (R332, R333) -/

/-- The engine that cluster `k`'s key directory names for a key (R332). -/
def State.directory (s : State) (k key : Nat) : Option Nat :=
  s.host.engines.items.findSome? (fun i =>
    if i.key = some key then
      match i.place with
      | .deque e | .running e => if e / 16 = k then some e else none
      | _ => none
    else none)

/-- The work queue an item comes from, and its position. -/
def ItemSrc.entryOf : ItemSrc → Nat × Nat
  | .entry w p => (w, p)
  | .segment w p => (w, p)

/-- A FENCE entry waits for earlier entries of its queue (R309). -/
def State.fenced (s : State) (i : Item) : Bool :=
  match i.src with
  | .segment _ _ => false
  | .entry n pos =>
    match s.wq n with
    | none => false
    | some w =>
      match w.entries with
      | [] => false
      | e :: _ => e.pos != pos && (w.entries.any (fun x => x.pos = pos && entryFld x.bytes 9 9 == 1))

/-- Packets of the cluster that left service have not all crossed the crossbar (R345). -/
def State.rehoming (s : State) (i : Item) : Bool :=
  match s.wq i.src.entryOf.1 with
  | none => false
  | some w =>
    match w.oldHome with
    | none => false
    | some k => i.key.isSome && (s.built.any (fun b => b.stop = clusterStop k)
        || s.rings.pkts.any (fun p => p.src = clusterStop k ∧ p.kind ≤ 7)
        || !(s.input (48 + k / 4)).pkts.isEmpty)

/-- Heads of a cluster's FIFOs, parked items set aside (R331, R343). -/
def fifoHeads : List Nat → List Item → List Item
  | _, [] => []
  | seen, i :: is =>
    if i.place ≠ .intake ∨ seen.contains i.src.entryOf.1 then fifoHeads seen is
    else i :: fifoHeads (i.src.entryOf.1 :: seen) is

/-- A FIFO head is admissible (R332). -/
def State.admissible (s : State) (k : Nat) (i : Item) : Bool :=
  let items := s.host.engines.items
  let parkedKey := i.key.isSome && (items.takeWhile (fun j => j.id ≠ i.id)).any (fun j =>
    j.key == i.key && j.cluster == k && (match j.place with | .parked _ => true | _ => false))
  let full := match i.key with
    | some key => match s.directory k key with
      | some e => decide (32 ≤ (s.deque e).length)
      | none => false
    | none => false
  !s.haltedNow i.slice && !s.fenced i && !parkedKey && !full && !s.rehoming i

/-- Admissible heads of a cluster, in arrival order. -/
def State.admissibleHeads (s : State) (k : Nat) : List Item :=
  (fifoHeads [] (s.host.engines.items.filter (fun i => i.cluster = k))).filter (s.admissible k)

/-- VT of a slice in a cluster (R332). -/
def State.vt (s : State) (k sl : Nat) : Nat := Table.get 0 s.host.engines.vt (256 * k + sl)

/-- The in-service engine of a cluster with the fewest waiting items, ties to the lowest (R332, R344). -/
def State.leastEngine (s : State) (k : Nat) : Option Nat :=
  match (List.range 16).filter (fun l => s.inService (16 * k + l)) with
  | [] => none
  | l :: ls => some (16 * k + ls.foldl (fun a b =>
      if (s.deque (16 * k + b)).length < (s.deque (16 * k + a)).length then b else a) l)

/-- Mark an entry. -/
def State.markEntry (s : State) (n pos : Nat) (st : EntrySt) : State :=
  match s.wq n with
  | none => s
  | some w => s.putWq n { w with entries := w.entries.map (fun e => if e.pos = pos ∧ e.st ≠ .finished then { e with st := st } else e) }

/-- Admission of an item of a slice in a cluster charges its VT (R332). -/
def State.chargeVt (s : State) (k sl cost : Nat) : State :=
  let here := (s.host.engines.items.filter (fun i =>
    (i.cluster == k && i.inIntake) || (i.dequeOf.map (· / 16)) == some k)).map (·.slice)
  let vmin := here.foldl (fun a t => min a (s.vt k t)) (s.vt k sl)
  let w := fldN (s.reg R.engineShare sl) 15 0
  s.updEngines (fun en => { en with vt := Table.set 0 en.vt (256 * k + sl) (max (s.vt k sl) vmin + cost * 65536 / w) })

/-- Costs of the items that no work queue is the source of (Table ENG-1). -/
def costInbound : Nat := 1
def costService : Nat := 4
def costTimer : Nat := 1

/-- An engine spends tokens on a slice's item: as many as a free value says (R633, log 59). -/
def State.spendTokens (s : State) (sl : Nat) : State := s.drawn.countSlice sl 10 (Config.tokensSpent s.draws)

/-- An INBOUND, SERVICE or TIMER item of a slice in a cluster (R327, R330).  DESIGN CHOICE (log 59): the command that makes it also
admits, runs and finishes it, so what is left of it is its charge and its tokens. -/
def State.otherItem (s : State) (k sl cost : Nat) : State := (s.chargeVt k sl cost).spendTokens sl

/-- One on behalf of a station; work for no slice goes to slice 0. -/
def State.stationItem (s : State) (x cost : Nat) : State := s.otherItem (s.stationHome x) ((s.stationSlice x).getD 0) cost

/-- One admission (R332, R333). -/
def State.admit1 (s : State) (k : Nat) : State :=
  let low := (List.range 16).any (fun l => s.inService (16 * k + l) && decide ((s.deque (16 * k + l)).length < 8))
  match (if low then s.admissibleHeads k else []) with
  | [] => s
  | c :: cs =>
    let sl := cs.foldl (fun a i =>
      if s.vt k i.slice < s.vt k a ∨ (s.vt k i.slice = s.vt k a ∧ i.slice < a) then i.slice else a) c.slice
    match (c :: cs).find? (fun i => i.slice = sl), s.leastEngine k with
    | some x, some least =>
      let e := (match x.key with | some key => s.directory k key | none => none).getD least
      let s := (s.toDeque x.id e).trackItem x (fun t => { t with admitted := t.admitted.or (some s.ns) })
      let s := match x.src with | .entry n pos => s.markEntry n pos .started | .segment _ _ => s
      s.chargeVt k sl x.cost
    | _, _ => s

/-! Taking and stealing (R334, R337–R340) -/

/-- An idle engine takes the first eligible item of its deque (R334). -/
def State.take (s : State) (e : Nat) : State :=
  if !s.inService e ∨ (s.running e).isSome then s
  else match (s.deque e).find? (fun i => !s.haltedNow i.slice && !s.capped i.slice) with
    | some i => ((s.updItem i.id (fun i => { i with place := .running e })).trackItem i
        (fun t => if t.start.isSome then t else { t with start := some s.ns, engine := e })).spendTokens i.slice
    | none => s

/-- The engine owns a key: it executes an item of it (R329). -/
def State.owns' (s : State) (e : Nat) (key : Nat) : Bool :=
  match s.running e with
  | some i => i.key == some key
  | none => false

/-- The items a steal takes: from tail to head, `want` at most (R338); `kMask` is the thief's cluster of a remote steal. -/
def State.stealScan (s : State) (victim want : Nat) (remote : Option Nat) (all : List Item) :
    List Item → List Nat → List Nat → List Nat
  | [], take, _ => take
  | x :: xs, take, refused =>
    if want ≤ take.length then take
    else if s.haltedNow x.slice ∨ s.capped x.slice
        ∨ (remote.any (fun k => !bit (s.reg R.engineShare x.slice) (32 + k))) then
      s.stealScan victim want remote all xs take refused
    else match x.key with
      | none => s.stealScan victim want remote all xs (take ++ [x.id]) refused
      | some key =>
        if remote.isSome ∨ refused.contains key ∨ take.contains x.id then
          s.stealScan victim want remote all xs take refused
        else if s.owns' victim key then s.stealScan victim want remote all xs take (key :: refused)
        else
          let g := (all.filter (fun i => i.key = some key)).map (·.id)
          if take.length + g.length ≤ want then s.stealScan victim want remote all xs (take ++ g) refused
          else s.stealScan victim want remote all xs take (key :: refused)

/-- The items that a steal takes, in the victim's order (R338). -/
def State.spoils (s : State) (victim : Nat) (remote : Option Nat) : List Item :=
  let all := s.deque victim
  let take := s.stealScan victim (ceilDiv all.length 2) remote all all.reverse [] []
  all.filter (fun i => take.contains i.id)

/-- An item has been stolen. -/
def State.markStolen (s : State) (i : Item) (remote : Bool) : State :=
  ((s.updItem i.id (fun i => { i with stolen := true, remote := i.remote || remote })).trackItem i
    (fun t => { t with stolen := true, remote := t.remote || remote })).countSlice i.slice 11

/-- A local steal: the items move to the thief's deque (R338). -/
def State.steal (s : State) (thief victim : Nat) : State :=
  (s.spoils victim none).foldl (fun s i => (s.toDeque i.id thief).markStolen i false) s

/-- The engine is idle and nothing can be admitted for it (R337). -/
def State.maysteal (s : State) (e : Nat) : Bool :=
  s.inService e && (s.running e).isNone && (s.deque e).isEmpty && (s.admissibleHeads (e / 16)).isEmpty

/-- The victim of a local steal (R337). -/
def State.victim (s : State) (e : Nat) : Option Nat :=
  match ((List.range 16).map (16 * (e / 16) + ·)).filter (fun v => s.inService v && !(s.deque v).isEmpty) with
  | [] => none
  | v :: vs => some (vs.foldl (fun a b => if (s.deque a).length < (s.deque b).length then b else a) v)

/-- Unkeyed waiting items of an engine that a thief in cluster `k` may take (R339). -/
def State.stealable (s : State) (v k : Nat) : Nat :=
  ((s.deque v).filter (fun i => i.key.isNone && !s.haltedNow i.slice && !s.capped i.slice
    && bit (s.reg R.engineShare i.slice) (32 + k))).length

/-- The victim of a remote steal (R339). -/
def State.remoteVictim (s : State) (e : Nat) : Option Nat :=
  let k := e / 16
  let sum (c : Nat) : Nat := ((List.range 16).map (fun l => s.stealable (16 * c + l) k)).sum
  match (List.range 32).filter (fun c => c ≠ k) with
  | [] => none
  | c :: cs =>
    let best := cs.foldl (fun a b => if sum a < sum b then b else a) c
    if sum best < fldN (s.reg R.engineCtl) 23 16 ∨ sum best = 0 then none
    else some ((List.range 16).foldl (fun a l => if s.stealable a k < s.stealable (16 * best + l) k then 16 * best + l else a)
      (16 * best))

/-- A stolen item arrives at its thief's cluster (R339): one whose slice is HALTED is discarded (Table ENG-6); where the thief has
left service, it takes the way of the thief's items (R344, R345). -/
def State.stolenArrives (s : State) (id e : Nat) : State :=
  match s.host.engines.items.find? (fun i => i.id = id ∧ i.place = .ring e) with
  | none => s
  | some i =>
    if s.haltedNow i.slice then s.dropItem id
    else if s.inService e then s.toDeque id e
    else match s.leastEngine (e / 16) with
    | some t => s.toDeque id t
    | none => s.updItem id (fun i => { i with place := .intake })

/-! Parking (R343) -/

/-- The item running on an engine parks: with the waiting items of its key it goes to the head of its FIFO.  A function in D3 that
it needs has a cause to wake (R277). -/
def State.park (s : State) (e : Nat) (c : ParkCause) : State :=
  match s.running e with
  | none => s
  | some x =>
    let follow := (s.deque e).filter (fun i => x.key.isSome ∧ i.key = x.key)
    let front := { x with place := ItemPlace.parked c } :: follow.map (fun i => { i with place := ItemPlace.intake })
    let s := ((s.updEngines (fun en => { en with items := front ++ en.items.filter (fun i => !(front.any (fun f => f.id = i.id))) })).trackItem x
      (fun t => { t with parked := true })).countSlice x.slice 12
    match c with
    | .function f => s.wake f
    | _ => s

/-! Entries from their bytes (R300, R307, R308, R316) -/

/-- An entry has come whole into the device: in an ERROR queue it completes with FLUSHED, else an ENTRY item joins the
intake of the queue's home. -/
def State.entryIn (s : State) (n pos : Nat) (bytes : List Byte) (pushed : Bool) : State :=
  match s.wq n with
  | none => s
  | some w =>
    let (s, hit) := s.candidate w.slice (entryOp bytes)
    let e : WqEntry := { pos := pos, bytes := bytes, st := .fetched, pushed := pushed
                         sample := if hit then some w.rungAt else none }
    let s := s.putWq n { w with entries := w.entries ++ [e] }
    let s := if hit then s.addTrack n pos else s
    let s := s.countSlice w.slice (if pushed then 1 else 0)
    match w.st with
    | .error _ => s.finish n pos .flushed 0
    | .ready => s.addItem { slice := w.slice, src := .entry n pos, key := entryKey w.slice n bytes, cluster := w.home }

/-- Slots received from position `parse` on become entries while whole ones stand there. -/
def State.parseRaw (s : State) (n : Nat) (pushed : Bool) : Nat → State
  | 0 => s
  | fuel + 1 =>
    match s.wq n with
    | none => s
    | some w =>
      match assoc w.raw w.parse with
      | none => s
      | some first =>
        let units := entryUnits first
        let slots := (List.range (units + 1)).filterMap (fun i => assoc w.raw (posAdd w.parse i))
        if slots.length < units + 1 then s
        else
          let pos := w.parse
          let taken := (List.range (units + 1)).map (posAdd pos)
          let s := s.putWq n { w with parse := posAdd pos (units + 1), raw := w.raw.filter (fun r => !taken.contains r.1) }
          (s.entryIn n pos slots.flatten pushed).parseRaw n pushed fuel

/-- Cut bytes into slots of 64. -/
def slotsOf (pos : Nat) : Nat → List Byte → List (Nat × List Byte)
  | 0, _ => []
  | n + 1, bs => if bs.isEmpty then [] else (pos, bs.take 64) :: slotsOf (posAdd pos 1) n (bs.drop 64)

/-- Slots of a WQ arrive from a position on. -/
def State.gotSlots (s : State) (n pos : Nat) (data : List Byte) (pushed : Bool) : State :=
  match s.wq n with
  | none => s
  | some w =>
    let slots := slotsOf pos (data.length / 64) data
    (s.putWq n { w with raw := w.raw ++ slots }).parseRaw n pushed (slots.length + 4)

/-! Locks (R353–R358) -/

def State.lock (s : State) (n : Nat) : BitVec 32 := Table.get 0 s.host.locks n
def State.setLock (s : State) (n : Nat) (w : BitVec 32) : State :=
  s.updHost (fun h => { h with locks := Table.set 0 h.locks n w })

/-- LOCK_GROUP of a group (R358). -/
def State.lockGroup (s : State) (g : Nat) : Image :=
  if g < 16 then s.reg R.lockGroupLo 0 g else s.reg R.lockGroupHi 0 (g - 16)

/-- The group's rights let a master in (R354, R358). -/
def State.lockAllowed (s : State) (n sl master : Nat) : Bool :=
  let g := s.lockGroup (n / 64)
  bit g 15 && (if master = 0x3FF then bit g 8 else fldN g 7 0 == sl)

/-- A write at the lock bank (R354–R356): `sl` and `master` are the identity of R353, `w` the word written. -/
def State.lockWrite (s : State) (n sl master : Nat) (w : BitVec 32) : State :=
  let op := fldN w 31 30
  let cur := s.lock n
  let refuse := (s.countDev 11).emit (.ringAnswer 31 3)
  if fldN w 27 20 ≠ sl ∨ fldN w 9 0 ≠ master ∨ (op ≠ 1 ∧ op ≠ 2) ∨ !s.lockAllowed n sl master then refuse
  else if op = 1 then
    if bit cur 31 then s.emit (.ringAnswer 31 0)
    else (s.setLock n (BitVec.ofNat 32 (at' 31 1 + at' 30 (b2n (bit cur 30)) + at' 20 sl + master))).emit (.ringAnswer 31 0)
  else if bit cur 31 ∧ fldN cur 27 20 = sl ∧ fldN cur 9 0 = master then (s.setLock n 0).emit (.ringAnswer 31 0)
  else refuse

/-- Locks held by masters that a test names become free, ABANDONED (R357). -/
def State.abandonLocks (s : State) (held : Nat → Nat → Bool) : State :=
  s.host.locks.foldl (fun s e =>
    if bit e.2 31 ∧ held (fldN e.2 27 20) (fldN e.2 9 0) then s.setLock e.1 0x40000000 else s) s

/-! Engines leaving service (R344, R345) -/

/-- A cluster has left service: its queues are re-homed and its intake moves in order (R345). -/
def State.rehome (s : State) (k : Nat) : State :=
  let s := s.host.wqs.foldl (fun s w =>
    if w.2.home = k then s.putWq w.1 { w.2 with home := s.wqHome w.2.slice w.1, oldHome := some k } else s) s
  s.updEngines (fun en => { en with items := en.items.map (fun i =>
    if i.cluster = k then
      { i with cluster := (match s.wq i.src.entryOf.1 with | some w => w.home | none => i.cluster)
               place := (match i.place with | .deque e => if e / 16 = k then .intake else .deque e | p => p) }
    else i) })

/-- An engine leaves service (R344): the entry of its running item completes with FLUSHED, its waiting items move, its
locks are abandoned. -/
def State.engineOut (s : State) (e : Nat) : State :=
  if !s.inService e then s
  else
    let run := s.running e
    let s := (s.updEngines (fun en => { en with out := en.out ++ [e] })).raise (0x210 + e)
    let s := match run with
      | some i => let (n, pos) := i.src.entryOf; (s.dropItem i.id).finish n pos .flushed 0
      | none => s
    let s := s.abandonLocks (fun _ m => m == e)
    match s.leastEngine (e / 16) with
    | some t => (s.deque e).foldl (fun s i => s.toDeque i.id t) s
    | none => s.rehome (e / 16)

end Sys2Proof.Machine
end

