-- ==== Sys2Proof/Wire.lean ====
section
/-! DEFINITION. The lane stream of a port (chapter 3, R68–R76): link cells in transcoded blocks, codewords, their interleave over
the lanes, the scrambler, the run-length limit and the alignment blocks.  Bits stand in lists in the order in which they are sent.
DESIGN CHOICE (log 57): within a block, a control field and an FEC symbol the bit of lowest weight comes first in the stream. -/

namespace Sys2Proof.Wire

/-- Bits in the order sent. -/
abbrev Bits := List Bool

/-- The low `n` bits of a number, bit 0 first. -/
def bitsOf (w n : Nat) : Bits := (List.range n).map (fun i => w.testBit i)
/-- The number that bits spell, bit 0 first. -/
def numOf (b : Bits) : Nat := b.foldr (fun x a => 2 * a + x.toNat) 0
/-- `k` runs of `n` from a list. -/
def runs {α : Type} (n : Nat) : Nat → List α → List (List α)
  | 0, _ => []
  | k + 1, l => l.take n :: runs n k (l.drop n)

/-! Transcoded blocks (R71) -/

/-- Eight cells of 140 bytes as 35 blocks of 256 bits, each behind its flag: 1 on the first block of the group. -/
def groupBlocks (cells : List LinkCell) : List Bits :=
  match runs 256 35 (cells.flatMap (fun c => bitsOf c.wire.toNat 1120)) with
  | [] => []
  | b :: bs => (true :: b) :: bs.map (false :: ·)

/-- The blocks of a stream of cells, by whole groups of eight. -/
def blocksOf : Nat → List LinkCell → List Bits
  | 0, _ => []
  | k + 1, cs => groupBlocks (cs.take 8) ++ blocksOf k (cs.drop 8)

/-- The receiver's delineation: from the first block whose flag is 1 on, cells of 1,120 bits; blocks before it belong to a group whose
beginning was not seen. -/
def delineate (blocks : List Bits) : List Nat :=
  let seen := blocks.dropWhile (fun b => b.head? != some true)
  let bits := seen.flatMap (·.drop 1)
  (runs 1120 (bits.length / 1120) bits).map numOf

/-! Codewords (R72) -/

/-- STATE of the control field (Table LAN-2). -/
inductive CwState where
  | data | calmNext | dozeNext
  deriving DecidableEq, Repr

def CwState.code : CwState → Nat
  | .data => 0 | .calmNext => 1 | .dozeNext => 2

/-- The control field (Table LAN-2): CW_COUNT in [9:6], STATE in [5:4]. -/
def control (count : Nat) (st : CwState) : Nat := count % 16 * 64 + st.code * 16

/-- CW_COUNT of a control field, and its STATE; 3 is invalid, as are reserved bits that are not zero. -/
def controlCount (f : Nat) : Nat := f / 64 % 16
def controlState (f : Nat) : Option CwState :=
  if f % 16 ≠ 0 then none
  else match f / 16 % 4 with | 0 => some .data | 1 => some .calmNext | 2 => some .dozeNext | _ => none

/-- The 258 message symbols: the control field, then ten transcoded blocks. -/
def message (count : Nat) (st : CwState) (blocks : List Bits) : List Nat :=
  (runs 10 258 (bitsOf (control count st) 10 ++ blocks.flatten)).map numOf

/-- A codeword of the Reed–Solomon code: 258 message symbols and 14 of parity. -/
def codeword (m : List Nat) : List Nat := m ++ (List.range 14).map (fun i => (Config.rsParity m i).toNat)

/-- Symbols in which two words differ. -/
def distance (a b : List Nat) : Nat := ((a.zip b).filter (fun x => x.1 != x.2)).length

/-- What the decoder makes of a word received for a codeword: any 7 symbol errors are corrected. -/
def corrected (sent got : List Nat) : Option (List Nat) := if distance sent got ≤ 7 then some sent else none

/-! Interleave and lanes (R73) -/

/-- Position `s` of the interleaved stream carries codeword A. -/
def carriesA (s : Nat) : Bool := (s + s / 8) % 2 == 0

/-- The 544 symbols of a codeword pair. -/
def interleave (a b : List Nat) : List Nat := (List.range 544).map (fun s => ((if carriesA s then a else b)[s / 2]?).getD 0)

/-- The symbols of a pair that go to a data lane, of `lanes` lanes: 8, on the twin port 4 (Table LAN-1). -/
def toLane (lanes lane : Nat) (pair : List Nat) : List Nat :=
  ((List.range 544).filter (fun s => s % lanes = lane)).map (fun s => (pair[s]?).getD 0)

/-- The bits of a 10-bit symbol as sent: bits [9:8] first. -/
def symbolBits (x : Nat) : Bits := (bitsOf x 10).reverse

/-! Scrambler (R74) -/

/-- The seed of a lane. -/
def seed (lane : Nat) : Nat := 0x7FFFFF00 + lane

/-- `n` bits of PRBS31, x³¹ + x²⁸ + 1.  DESIGN CHOICE (log 57): the register's bit 30 goes out first, and what returns into bit 0 is
bit 30 added to bit 27. -/
def prbs31 : Nat → Nat → Bits
  | 0, _ => []
  | n + 1, r =>
    let o := r.testBit 30
    o :: prbs31 n ((2 * r + (o != r.testBit 27).toNat) % 2 ^ 31)

/-- A lane's bits under its scrambler, from a restart on. -/
def scramble (lane : Nat) (b : Bits) : Bits := List.zipWith (fun x y => x != y) b (prbs31 b.length (seed lane))

/-! PAM4 symbols and their run length (R68, R75) -/

/-- Level of two bits, Gray-coded. -/
def level : Bool → Bool → Nat
  | false, false => 0 | false, true => 1 | true, true => 2 | true, false => 3

/-- Levels of a lane's bits. -/
def levels : Bits → List Nat
  | x :: y :: t => level x y :: levels t
  | _ => []

/-- The bits that a level stands for. -/
def levelBits (l : Nat) : Bits := if l = 0 then [false, false] else if l = 1 then [false, true] else if l = 2 then [true, true] else [true, false]

/-- No more than 12 symbols in a row at one outer level: the next goes out at the adjacent inner level.  `last` is the level before,
`n` how many in a row stand at it. -/
def limit (last n : Nat) : List Nat → List Nat
  | [] => []
  | x :: xs =>
    if (x = 0 ∨ x = 3) ∧ x = last ∧ 12 ≤ n then
      let y := if x = 3 then 2 else 1
      y :: limit y 1 xs
    else x :: limit x (if x = last then n + 1 else 1) xs

/-! Alignment blocks (R76) -/

/-- The lane marker (Table LAN-3), most significant bit first. -/
def marker (lane count : Nat) : Bits := (bitsOf (lane * 65536 + count % 256 * 256 + (255 - count % 256)) 20).reverse

/-- The alignment block of a lane: the comma, then the marker. -/
def alignment (lane count : Nat) : List Nat := List.replicate 20 3 ++ (marker lane count).map (fun b => if b then 2 else 1)

/-- Codewords between alignment blocks. -/
def spanWords : Nat := 8192

/-- A lane's symbols from one alignment block to the next: the block, then what the pairs put on the lane, scrambled and limited. -/
def span (lanes lane count : Nat) (pairs : List (List Nat)) : List Nat :=
  alignment lane count ++ limit 1 0 (levels (scramble lane ((pairs.flatMap (toLane lanes lane)).flatMap symbolBits)))

/-! The whole stream -/

/-- Codeword pairs of blocks, with CW_COUNT counting on from `cw`. -/
def pairsOf (cw : Nat) : Nat → List Bits → List (List Nat)
  | 0, _ => []
  | k + 1, bs =>
    interleave (codeword (message cw .data (bs.take 10))) (codeword (message (cw + 1) .data ((bs.drop 10).take 10)))
      :: pairsOf (cw + 2) k (bs.drop 20)

/-- Spans of pairs, each behind its alignment block, AB_COUNT counting on from `ab`. -/
def spansOf (lanes lane ab : Nat) : Nat → List (List Nat) → List Nat
  | 0, _ => []
  | k + 1, ps => span lanes lane ab (ps.take (spanWords / 2)) ++ spansOf lanes lane (ab + 1) k (ps.drop (spanWords / 2))

/-- What a data lane sends for the cells of a stream, its first AB_COUNT and CW_COUNT given, as far as whole pairs reach. -/
def laneStream (lanes lane ab cw : Nat) (cells : List LinkCell) : List Nat :=
  let blocks := blocksOf (cells.length / 8) cells
  let pairs := pairsOf cw (blocks.length / 20) blocks
  spansOf lanes lane ab (pairs.length / (spanWords / 2) + 1) pairs

end Sys2Proof.Wire
end

