-- ==== Sys2Proof/Machine/LinkOps.lean ====
section
/-! DEFINITION. Operations of the link layer (chapter 4): sending a cell, acknowledgement, credits, replay, the
acceptance of data, a link's going down and coming up, and held and rerouted traffic. -/

namespace Sys2Proof.Machine

/-- Cells a replay buffer holds (R118). -/
def replayRoom (p : Nat) : Nat := if p = 48 then 936 else 1872

/-- The port's own epoch (R124). -/
def State.epoch (s : State) (p : Nat) : BitVec 16 := Config.linkEpoch p (s.link p).epochNo

/-- UP, WIRING_FAULT or PEER_FAULT: sequenced traffic runs. -/
def LinkSt.running : LinkSt → Bool
  | .up | .wiringFault | .peerFault => true
  | _ => false

/-- The oldest unacknowledged sequence (R120, R121). -/
def Link.oldest (k : Link) : BitVec 12 :=
  match k.replay.find? (fun c => !c.acked) with
  | some c => c.seq
  | none => k.nextSeq

/-- The next credit report (R111, R116): the code after `rotation` that has unreported credits, and the link after
the report, with waiting credits added. -/
def Link.takeReport (k : Link) : Link × BitVec 6 × BitVec 7 :=
  let codes := (List.range 56).map (fun i => (k.rotation + 1 + i) % 56)
  match codes.find? (fun c => Table.get 0 k.unreported c ≠ 0) with
  | none => (k, 0x3F, 0)
  | some c =>
    let t := Table.get 0 k.total c
    let w := Table.get 0 k.waiting c
    let n := min w 63
    ({ k with rotation := c
              unreported := Table.set 0 k.unreported c n
              total := Table.set 0 k.total c ((t + n) % 128)
              waiting := Table.set 0 k.waiting c (w - n) }, BitVec.ofNat 6 c, BitVec.ofNat 7 t)

/-- The report a cell carries as the link stands (R106, R131): none while it is DOWN; one made in INIT is ignored by the
partner, so its credits stay unreported. -/
def Link.nextReport (k : Link) : Link × BitVec 6 × BitVec 7 :=
  match k.st with
  | .down => (k, 0x3F, 0)
  | .init => ({ k with rotation := k.takeReport.1.rotation }, k.takeReport.2)
  | _ => k.takeReport

/-! The transmitter's stream (R71–R76) -/

/-- Where port `p` stands in its stream. -/
def State.stream (s : State) (p : Nat) : TxStream := Table.get {} s.streams p

/-- Codewords that `n` cells fill, by whole pairs: a pair carries 20 blocks of 256 bits, a cell 1,120 bits. -/
def codewordsOf (n : Nat) : Nat := 2 * ((7 * n + 31) / 32)

/-- The cell that fills a span of 8,192 codewords. -/
def spanEnds (n : Nat) : Bool := decide (7 * n / 131072 < 7 * (n + 1) / 131072)

/-- An alignment block goes out on every data lane of port `p`. -/
def State.alignBlock (s : State) (p : Nat) : State :=
  let t := s.stream p
  ({ s with streams := Table.set {} s.streams p { t with ab := (t.ab + 1) % 256 } }).emit (.alignBlock p t.ab)

/-- A stream starts: its alignment block comes first (R76), and CW_COUNT counts on. -/
def State.startStream (s : State) (p : Nat) : State :=
  let t := s.stream p
  ({ s with streams := Table.set {} s.streams p { t with cw := (t.cw + codewordsOf t.cells) % 16, cells := 0 } }).alignBlock p

/-- The last codeword before a silence, with its control field (R72). -/
def State.lastCodeword (s : State) (p : Nat) (st : Wire.CwState) : State :=
  let t := s.stream p
  s.emit (.codeword p (Wire.control (t.cw + codewordsOf t.cells + 15) st))

/-- What follows the next cell of port `p`: an alignment block where the cell fills a span. -/
def State.closing (s : State) (p : Nat) : List Out := if spanEnds (s.stream p).cells then [.alignBlock p (s.stream p).ab] else []

/-- A cell leaves port `p`. -/
def State.emitCell (s : State) (p : Nat) (c : LinkCell) : State :=
  let t := s.stream p
  { s with out := s.closing p ++ .cell p c :: s.out
           streams := Table.set {} s.streams p { t with cells := t.cells + 1, ab := (t.ab + (s.closing p).length) % 256 } }

/-- The cells of port `p`'s present stream, oldest first. -/
def State.streamCells (s : State) (p : Nat) : List LinkCell :=
  ((s.out.filterMap (fun o => match o with | .cell q c => if q = p then some c else none | _ => none)).take (s.stream p).cells).reverse

/-- The PAM4 symbols that data lane `l` of port `p` has sent since its stream started (R71–R76). -/
def State.laneSymbols (s : State) (p l : Nat) : List Nat :=
  let t := s.stream p
  let spans := 7 * t.cells / 131072 + 1
  Wire.laneStream (if p = 48 then 4 else 8) l ((t.ab + 256 - spans % 256) % 256) t.cw (s.streamCells p)

/-- Send one cell on port `p`: it carries the current ACK_SEQ, PRESSURE and one credit report (R111); it counts
in the error-rate window (R129), but for the time in which the forwarded clock is absent (R88). -/
def State.sendCell (s : State) (p : Nat) (lseq : BitVec 12) (ty : CellType) (vc : Nat) (body : BitVec 1024) :
    State :=
  let (k, cv, cc) := (s.link p).nextReport
  let cell : LinkCell :=
    { lseq := lseq, ackSeq := k.expect - 1, vc := BitVec.ofNat 6 vc, type := ty, creditVc := cv
      creditCount := cc, pressure := BitVec.ofNat 8 (s.pressure p), body := body }
  let k := { k with winCells := if k.pauseAt.isSome then k.winCells else k.winCells + 1
                    sinceBypass := if ty = .bypass then 0 else min 15 (k.sinceBypass + 1)
                    dataAt := if cell.isData then s.uptime else k.dataAt }
  (s.setLink p k).emitCell p cell.sealed

/-- Send a control or calm cell (R104, Table LNK-5). -/
def State.sendCtl (s : State) (p : Nat) (m : CtlMsg) : State :=
  let ty := match m with | .calm _ => CellType.calm | _ => CellType.control
  s.sendCell p (s.link p).nextSeq ty 0x3F m.body

/-- Queue a control or calm cell (R111). -/
def State.queueCtl (s : State) (p : Nat) (m : CtlMsg) : State :=
  s.updLink p (fun k => { k with ctlQ := k.ctlQ ++ [m] })

/-- Queue a bypass message (R110): discarded while the link is DOWN, discarded and counted when 64 wait.  While the
port dozes, pressure reports and time messages are discarded (R97). -/
def State.queueBypass (s : State) (p : Nat) (m : BypassMsg) : State :=
  let k := s.link p
  let ty := fldN m 7 0
  if k.st = .down then s
  else if k.st = .doze ∧ (ty = 1 ∨ ty = 2 ∨ ty = 3) then s
  else if 64 ≤ k.bypassQ.length then s.countPort p 12
  else s.setLink p { k with bypassQ := k.bypassQ ++ [m] }

/-- LINK_INIT of the port (R125, Table LNK-5). -/
def State.initInfo (s : State) (p : Nat) : InitInfo :=
  let k := s.link p
  { addrValid := s.nodeValid, rate := (s.lane p).rateActive, epoch := s.epoch p
    peerEpoch := (match k.partner with | some q => q.epoch | none => 0)
    rxExpect := k.expect, node := s.ownNode, port := if p = 48 then 0x3F else p
    role := if p = 48 then 0x3F else s.role p }

/-- Acknowledge every cell before `e` (R118–R121): freed, but for cells of a TC0 or TC1 packet whose last cell is not
acknowledged (R119).  DESIGN CHOICE (log 53): the abort of such a packet stands for its last cell. -/
def Link.ackTo (k : Link) (e : BitVec 12) : Link :=
  let n := (e - k.oldest).toNat
  let base := k.oldest
  let marked := k.replay.map (fun c => if c.acked ∨ (c.seq - base).toNat < n then { c with acked := true } else c)
  let done (pid : Nat) : Bool := marked.any (fun c => c.pid = pid ∧ (c.last ∨ c.abort.isSome) ∧ c.acked)
  let kept := marked.filter (fun c => !c.acked || (c.abort.isNone && vcClass c.vc < 2 && !done c.pid))
  { k with replay := kept
           stallCount := if (e - k.stallSeq).toNat - 1 < 2048 ∧ e ≠ k.stallSeq then 0 else k.stallCount
           replayAt := match k.replayAt with
             | some a => if (e - a).toNat < 2048 then (if e = k.nextSeq then none else some e) else some a
             | none => none }

/-- An ACK_SEQ arrives (R122): outside the window it is ignored and counted. -/
def State.ackSeq (s : State) (p : Nat) (a : BitVec 12) : State :=
  let k := s.link p
  if (a + 1 - k.oldest).toNat ≤ (k.nextSeq - k.oldest).toNat then
    if a + 1 = k.oldest then s else s.setLink p (k.ackTo (a + 1))
  else s.countPort p 9

/-- A credit report arrives (R116, R106). -/
def State.creditReport (s : State) (p : Nat) (code : BitVec 6) (count : BitVec 7) : State :=
  if code = 0x3F then s
  else if 56 ≤ code.toNat then s.countPort p 10
  else s.updLink p (fun k =>
    let c := code.toNat
    let d := (count.toNat + 128 - Table.get 0 k.lastCount c) % 128
    { k with credits := Table.upd 0 k.credits c (· + d), lastCount := Table.set 0 k.lastCount c count.toNat })

/-- What the header of an undamaged cell updates (R106). -/
def State.headerUpdate (s : State) (p : Nat) (c : LinkCell) : State :=
  match (s.link p).st with
  | .down => s
  | .init => s.updLink p (fun k => { k with pressureRx := c.pressure.toNat })
  | _ => ((s.ackSeq p c.ackSeq).creditReport p c.creditVc c.creditCount).updLink p
           (fun k => { k with pressureRx := c.pressure.toNat })

/-- NAK(EXPECT), unless one for EXPECT went less than NAK_RETRY ago (R120); NAK_RETRY counts 0.1 µs. -/
def State.sendNak (s : State) (p : Nat) : State :=
  let k := s.link p
  let recent := match k.nakAt with
    | some t => decide (2 * (s.portClock p - t) < 25 * fldN (s.eff R.linkTimers p) 15 8)
    | none => false
  if recent then s
  else ((s.setLink p { k with nakAt := some (s.portClock p) }).queueCtl p (.nak k.expect)).countPort p 5

/-- A cell arrives (R106): ignored while the link is DOWN; a damaged one is counted, discarded with every header
field and draws a NAK (R120); any other updates what its header updates and goes to its handler. -/
def State.received (s : State) (p : Nat) (c : LinkCell) (k : State → State) : State :=
  if (s.link p).st = .down then s
  else if c.damaged then
    let s := s.countPort p 7
    if (s.link p).st.running then s.sendNak p else s
  else k (s.headerUpdate p c)

/-- EXPECT moves on (R120). -/
def State.advanceExpect (s : State) (p : Nat) : State :=
  s.updLink p (fun k => { k with expect := k.expect + 1, nakAt := none })

/-- An abort counted under its reason: PORT_LINK events 13–16 (R136). -/
def State.countAbort (s : State) (p reason : Nat) : State := s.countPort p (12 + reason)

/-- An abort of a packet the receiver itself ends, counted under its reason if a packet is open (R136). -/
def State.abortCounted (s : State) (p v reason : Nat) : State :=
  if Table.get RxOpen.none (s.link p).rxOpen v = .none then s else (s.abortOpen p v reason).countAbort p reason

/-! Accepting data -/

/-- A first or only cell is discarded with its packet: later cells go as they come, the credit returns (R42, R162). -/
def State.discardFirst (s : State) (p : Nat) (c : LinkCell) : State :=
  let s := if c.type = .first then
      s.updLink p (fun k => { k with rxOpen := Table.set .none k.rxOpen c.vc.toNat .drop }) else s
  s.creditBack (xIdx p) c.vc.toNat

/-- A first or only cell that framing admits: header checks, strainer, route, policer, RED, queue (R42, R58, R150,
R191, R175, R214, R215, R160). -/
def State.acceptFirst (s : State) (p : Nat) (c : LinkCell) : State :=
  let x := xIdx p
  let vc := c.vc.toNat
  let h := Header.ofBits (c.body.extractLsb' 0 256)
  let cls := h.cls.toNat
  match s.headerCheck h p with
  | some n => ((s.countIn x (n - 1)).raise (3 + 8 * p)).discardFirst p c
  | none =>
  let s := s.noteStrain p h.pkey
  match s.strain p h.pkey with
  | .refuse => ((((s.countIn x 7).raise (3 + 8 * p)).raise 0x531).notice h x 5).discardFirst p c
  | .discard => ((s.countIn x 7).raise (3 + 8 * p)).discardFirst p c
  | .admitted =>
  -- DESIGN CHOICE (log 53): a device without an address has no route for it
  if !s.nodeValid then (s.routeFault h x .noRoute).discardFirst p c
  else
  let s := s.noteRoute (s.routeReads h)
  match s.route h x vc with
  | .error f => (s.routeFault h x f).discardFirst p c
  | .ok (o, v) =>
    let (s, o, moved) := s.applyAlt h x o
    let len := h.length.toNat
    let (col, s) :=
      if p = 48 then (h.colour, s)
      else
        let (col, b) := police (s.reg R.ingressPolicer p cls) (Table.get {} s.inBuckets (8 * p + cls)) h.colour
          (1000 * chargedLen (s.reg R.egressOverhead p) len)
        (col, { s with inBuckets := Table.set {} s.inBuckets (8 * p + cls) b })
    let h := { h with colour := col }
    let (s, dropped, mark) := s.red x o cls col
    if dropped then s.discardFirst p c
    else
      let (s, st) := s.enqueue x { out := o, vc := v, inVc := vc, hdr := h, mark := mark
                                   total := cellsOf len, cells := [c.body], arrived := 1, moved := moved }
      let s := s.countXbr x (48 + cls)
      if c.type = .first then
        s.updLink p (fun k => { k with rxOpen := Table.set .none k.rxOpen vc (.pkt x st) })
      else s

/-- A middle or last cell of the packet open on its VC (R58, R150, R162). -/
def State.acceptLater (s : State) (p : Nat) (c : LinkCell) : State :=
  let vc := c.vc.toNat
  let close (s : State) : State := if c.type = .last then
      s.updLink p (fun k => { k with rxOpen := Table.set .none k.rxOpen vc .none }) else s
  match Table.get RxOpen.none (s.link p).rxOpen vc with
  | .pkt x st =>
    match (s.input x).find st with
    | some k =>
      let s := (s.updInput x (·.put { k with cells := k.cells ++ [c.body], arrived := k.arrived + 1 })).countXbr x
        (48 + k.hdr.cls.toNat)
      -- a packet that stands at another input (R133) takes its cell along: it departs from this one (R115)
      close (if x = xIdx p then s else s.creditBack (xIdx p) vc)
    | none => close (s.creditBack (xIdx p) vc)
  | _ => close (s.creditBack (xIdx p) vc)

/-- An accepted data cell (R107, R120). One whose control state has failed its check is not queued, and its packet goes no further
(R149; DEDUCED, log 29: the packet is aborted, what follows of it is dropped). -/
def State.acceptData (s : State) (p : Nat) (c : LinkCell) (bad : Bool := false) : State :=
  let vc := c.vc.toNat
  let isOpen := decide (Table.get RxOpen.none (s.link p).rxOpen vc ≠ .none)
  let s := (s.updLink p (fun k => { k with dataAt := s.uptime })).countPort p 1
  match c.type with
  | .first | .only =>
    if isOpen then
      ((((s.countPort p 8).countAbort p 4).abortOpen p vc 4).raise (1 + 8 * p)).creditBack (xIdx p) vc
    else if bad then s.discardFirst p c
    else s.acceptFirst p c
  | _ =>
    if isOpen ∧ bad then
      ((s.abortOpen p vc 4).updLink p (fun k => { k with
        rxOpen := Table.set .none k.rxOpen vc (if c.type = .last then .none else .drop) })).creditBack (xIdx p) vc
    else if isOpen then s.acceptLater p c
    else (s.countPort p 8).creditBack (xIdx p) vc

/-! Rerouting of TC0 and TC1 (R133, R134, R139) -/

/-- A TC0 or TC1 packet for output `o` that R133 moves: none of it has crossed, and it does not stand there as on another
port's alternate (R134). -/
def VPkt.moves (k : VPkt) (o : Nat) : Bool := k.out == o && decide (k.hdr.cls.toNat < 2) && k.sent == 0 && !k.moved

/-- Move queued TC0 and TC1 packets for output `o` to output `a` at one input, their VC unchanged, in order. -/
def InBuf.moveQueued (b : InBuf) (o a : Nat) : InBuf :=
  { b with pkts := b.pkts.map (fun k => if k.moves o then { k with out := a, moved := true } else k) }

/-- Whether an input holds a packet that R133 moves. -/
def InBuf.holdsControl (b : InBuf) (o : Nat) : Bool := b.pkts.any (·.moves o)

/-- The cells of a packet begun on port `p`, with whether each is marked, and its VC: those of the replay buffer, those
to be sent again, those of the egress stage. -/
def State.begunCells (s : State) (p pid : Nat) : List (BitVec 1024 × Bool × Nat) :=
  let k := s.link p
  ((k.replay ++ k.again).filter (fun c => c.pid = pid ∧ c.abort = none)).map (fun c => (c.body, c.mark, c.vc))
    ++ ((s.output (xIdx p)).egress.filter (fun e => e.pid = pid ∧ e.abort = none)).map (fun e => (e.body, e.mark, e.vc))

/-- The packet's rest in a crossbar input: the input and the packet there. -/
def State.begunRest (s : State) (o pid : Nat) : Option (Nat × VPkt) :=
  match (s.output o).opened.find? (fun e => e.2.2.2 = pid) with
  | some (_, (x, st, _)) => ((s.input x).find st).map (fun q => (x, q))
  | none => none

/-- Port `p` forgets a packet begun on it: its slots in the replay buffer are void (R133), the rest is gone. -/
def State.voidBegun (s : State) (p pid : Nat) : State :=
  let s := s.updLink p (fun k => { k with
    replay := (k.replay.map (fun c => if c.pid = pid ∧ c.abort = none then { c with abort := some 1, body := 0 } else c)).filter
      (fun c => !(c.pid = pid ∧ c.acked))
    again := k.again.filter (fun c => c.pid ≠ pid) })
  s.updOutput (xIdx p) (fun x => { x with
    egress := x.egress.filter (fun e => e.pid ≠ pid)
    opened := x.opened.filter (fun e => e.2.2.2 ≠ pid)
    fitted := if x.fitted = some pid then none else x.fitted })

/-- What arrives later for the packet `st` of input `x` goes to `dst` instead. -/
def State.redirect (s : State) (x st : Nat) (dst : RxOpen) : State :=
  match portOf x with
  | some px => s.updLink px (fun k => { k with rxOpen := k.rxOpen.map (fun e => if e.2 = .pkt x st then (e.1, dst) else e) })
  | none => s.updInput x (fun b => { b with openCls := b.openCls.map (fun e => if e.2 = .pkt x st then (e.1, dst) else e) })

/-- One TC0 or TC1 packet, begun on port `p`, goes whole into the queue of output `a` at the port's own crossbar
input (R133): cells of the replay buffer, then of the egress stage, then those still queued; later arrivals follow.
DESIGN CHOICE (log 53): of a packet whose abort has been queued nothing is sent again, and its slots are void. -/
def State.rerouteBegun (s : State) (p a pid : Nat) : State :=
  let o := xIdx p
  let aborted := ((s.link p).replay ++ (s.link p).again).any (fun c => c.pid = pid ∧ c.abort.isSome)
    || (s.output o).egress.any (fun e => e.pid = pid ∧ e.abort.isSome)
  let rest := s.begunRest o pid
  let cells := s.begunCells p pid ++ (match rest with
    | some (_, q) => q.cells.map (fun b => (b, q.mark, q.vc))
    | none => [])
  let s := s.voidBegun p pid
  match cells with
  | [] => s
  | (b, _, vc) :: _ =>
    if aborted then s.settleDeficits o
    else
      let h := Header.ofBits (b.extractLsb' 0 256)
      let s := match rest with
        | some (x, q) => (s.updInput x (·.drop q.stamp)).creditsBack x q.inVc q.cells.length
        | none => s
      let (s, st) := s.enqueue o { out := a, vc := vc, inVc := 63, hdr := h, mark := cells.any (·.2.1)
                                   total := cellsOf h.length.toNat, cells := cells.map (·.1), arrived := cells.length
                                   moved := a != o }
      (match rest with
        | some (x, q) => s.redirect x q.stamp (.pkt o st)
        | none => s).settleDeficits o

/-- The TC0 and TC1 packets with a cell in the replay buffer, to be sent again, or in the egress stage of port `p`, oldest
first, with whether each stands there as on its alternate. -/
def State.begunControl (s : State) (p : Nat) : List (Nat × Bool) :=
  let k := s.link p
  (((k.replay ++ k.again).filter (fun c => c.abort = none ∧ vcClass c.vc < 2)).map (fun c => (c.pid, c.moved))
    ++ ((s.output (xIdx p)).egress.filter (fun e => e.abort = none ∧ e.cls < 2)).map (fun e => (e.pid, e.moved))).eraseDups

/-- Indices of the crossbar inputs that hold something. -/
def State.inputIdx (s : State) : List Nat := s.inputs.map (·.1)

/-- TC0 and TC1 leave port `p` for its alternate: queued packets at every input, and, when the link is down (`begun`),
packets already begun (R133, R139, R170).  Without a fitting alternate, and for a packet that stands there as on another
port's alternate, a begun packet waits whole in the queue for `p` itself (R134). -/
def State.rerouteControl (s : State) (p : Nat) (begun : Bool) : State :=
  let o := xIdx p
  let pids := if begun then s.begunControl p else []
  let toSelf (s : State) : State := pids.foldl (fun s i => s.rerouteBegun p o i.1) s
  match s.altOf p with
  | .none => toSelf s
  | .misfit =>
    let s := s.inputIdx.foldl (fun s x => if (s.input x).holdsControl o then s.countIn x 13 else s) s
    toSelf (if pids.any (!·.2) then s.countIn o 13 else s)
  | .alt ap =>
    let a := xIdx ap
    let s := pids.foldl (fun s i => s.rerouteBegun p (if i.2 then o else a) i.1) s
    (s.inputIdx.foldl (fun s x => s.updInput x (·.moveQueued o a)) s).settleDeficits o

/-! A link goes down (R131) -/

/-- Causes that raise the LANE source (Table FLT-6): ERROR_RATE, REPLAY_STALL, LOCK_LOSS, LANE, WAKE_FAIL. -/
def downSource (cause p : Nat) : Option Nat :=
  if cause = 1 ∨ cause = 2 ∨ cause = 3 ∨ cause = 4 ∨ cause = 9 then some (8 * p)
  else if cause = 5 then some (1 + 8 * p)
  else none

/-- VCs of TC0 and TC1. -/
def controlVcs : List Nat := List.range 12

/-- What a port forgets of calm windows and doze when its link goes (R131, R94). -/
def Lane.linkGone (l : Lane) : Lane :=
  { l with calmReq := none, calmRetry := false, dozeReq := none, calmWin := none }

def State.setPortEv (s : State) (l : List (Nat × Nat × Nat × Nat)) : State := { s with remote := { s.remote with portEv := l } }

/-- A fabric port, in state `was` before, has entered or left UP: a PORT_STATE event to every slice that asks for it, at most one in
100 µs for each port and slice; a later change is counted (R445). -/
def State.portState (s : State) (p : Nat) (was : LinkSt) : State :=
  let k := s.link p
  if p = 48 ∨ (was == .up) = (k.st == .up) then s
  else (s.host.eqs.filter (fun e => e.2.slices && bit (s.reg R.rmaSliceCtl e.2.slice) 1)).foldl (fun s e =>
    let sl := e.2.slice
    match s.remote.portEv.find? (fun x => x.1 = sl ∧ x.2.1 = p ∧ s.uptime < x.2.2.1 + 12500) with
    | some x => s.setPortEv (s.remote.portEv.map (fun y => if y = x then (sl, p, x.2.2.1, x.2.2.2 + 1) else y))
    | none => (s.setPortEv ((sl, p, s.uptime, 0) :: s.remote.portEv.filter (fun y => !(y.1 = sl ∧ y.2.1 = p)))).sliceEvent sl 0x11 p
        (k.st.code + at' 8 k.lastDown)) s

/-- The link of port `p` is declared down with `cause` (R131): LINK_DOWN three times unless the cause forbids it, the
lanes leave for `next`, held and rerouted traffic, bypass messages discarded, DOWN. -/
def State.declareDown (s : State) (p cause : Nat) (next : LaneSt) : State :=
  let l := s.lane p
  let was := (s.link p).st
  let s := s.opEnd 1 p 1
  let away (l : Lane) : Lane := { l.linkGone with
    st := next, txReady := if next = .test then l.txReady else false, lockLost := false, symLoss := false }
  if (s.link p).st = .down then (s.setLane p (away l)).settlePause p
  else
    let ready := l.txReady && decide (cause ≠ 8) && decide (cause ≠ 6)
    let m := CtlMsg.linkDown cause
    let s := if ready then ((s.sendCtl p m).sendCtl p m).sendCtl p m else s
    let s := (s.updLane p away).settlePause p
    let s := s.updLink p (fun k => { k with st := .down, lastDown := cause, bypassQ := [], ctlQ := []
                                            replayAt := none, initRx := none, nakAt := none
                                            stallCount := 0, winCells := 0, winReplays := 0 })
    let s := s.portState p was
    let s := if p = 48 then s else
      (controlVcs.foldl (fun s v => s.abortCounted p v 1) s).rerouteControl p true
    let s := s.countPort p 26
    match downSource cause p with
    | some src => s.raise src
    | none => s

/-! Replays (R121, R129) -/

/-- A replay from `e` starts (R121), is counted once, and an eighth in a row brings the link down (R129). -/
def State.startReplay (s : State) (p : Nat) (e : BitVec 12) : State :=
  let k := (s.link p).ackTo e
  let n := if k.stallCount ≠ 0 ∧ k.stallSeq = e then k.stallCount + 1 else 1
  let k := { k with replayAt := if e = k.nextSeq then none else some e
                    lastReplay := some (e, s.portClock p), winReplays := k.winReplays + 1
                    stallCount := n, stallSeq := e }
  let s := (s.setLink p k).countPort p 4
  if 8 ≤ n then s.declareDown p 2 .retryWait else s

/-! Link-up -/

/-- The wiring check (R19, Table FAB-3, R169); the twin port has no role and refuses only the own address. -/
def State.wiringOk (s : State) (p : Nat) : Bool :=
  match (s.link p).partner with
  | none => true
  | some q =>
    let o := s.ownNode
    let v := s.reg R.portRole 0 p
    let pi := fldN v 15 12
    let sameGroup := q.node.group == o.group
    if q.node = o then false
    else if p = 48 then true
    else match s.role p with
      | 0 => sameGroup && q.node.row == o.row && q.node.col != o.col && q.node.col == pi
      | 1 => sameGroup && q.node.col == o.col && q.node.row != o.row && q.node.row == pi
      | 2 => !sameGroup
      | 3 => match (s.link (fldN v 21 16)).partner with
        | some q' => q.node == q'.node
        | none => false
      | 4 => true
      | _ => true

/-- The port's state outside DOWN, INIT and DOZE follows from the result `ok` of its check and PEER_WIRING (R139): notices
and the wiring source on a change, TC0 and TC1 rerouted where no new packet may start. -/
def State.wiringState (s : State) (p : Nat) (ok wasFault : Bool) : State :=
  let k := s.link p
  if !ok then
    let s := s.updLink p (fun k => { k with st := .wiringFault })
    if wasFault then s
    else (((s.queueCtl p (.wiringNotice true)).raise (2 + 8 * p)).rerouteControl p false).opEnd 1 p 1
  else
    let s := if wasFault then s.queueCtl p (.wiringNotice false) else s
    if k.peerWiring then
      let s := s.updLink p (fun k => { k with st := .peerFault })
      if k.st = .peerFault then s else (s.rerouteControl p false).opEnd 1 p 1
    else s.updLink p (fun k => { k with st := .up })

/-- The same, with the PORT_STATE event of a port that enters or leaves UP by it (R445). -/
def State.applyWiring (s : State) (p : Nat) (ok wasFault : Bool) : State :=
  (s.wiringState p ok wasFault).portState p (s.link p).st

/-- The check is made: at a link-up and at a role change (R19, R139). -/
def State.settleWiring (s : State) (p : Nat) (wasFault : Bool) : State := s.applyWiring p (s.wiringOk p) wasFault

/-- The reserve and shared pool of a class in effect (R112). -/
def State.creditsOf (s : State) (p c : Nat) : Nat × Nat :=
  let v := s.eff R.vcCredit p c
  (fldN v 7 0, fldN v 27 16)

/-- The initial return of a fresh link-up (R117): every VC's reserve and every class's pool, less what the buffer holds. -/
def State.initialReturn (s : State) (p : Nat) : State :=
  let b := s.input (xIdx p)
  (List.range 8).foldl (fun s c =>
    let (rsv, shd) := s.creditsOf p c
    let vcs := (List.range 6).map (fun i => 6 * c + i)
    let excess := (vcs.map (fun v => b.held v - rsv)).sum
    let s := vcs.foldl (fun s v => s.updLink p (·.owe v (rsv - min rsv (b.held v)))) s
    s.updLink p (·.owe (48 + c) (shd - excess))) s

/-- A packet begun on the output is discarded under FRESH_LINK or by a flush: its cells to be sent again, in the egress
stage and in the queue of its input go, later cells are dropped as they arrive. -/
def State.discardBegun (s : State) (o pid : Nat) : State :=
  let rest := s.begunRest o pid
  let s := match portOf o with
    | some p => s.updLink p (fun k => { k with again := k.again.filter (fun c => c.pid ≠ pid) })
    | none => s
  let s := s.updOutput o (fun x => { x with
    egress := x.egress.filter (fun e => e.pid ≠ pid), opened := x.opened.filter (fun e => e.2.2.2 ≠ pid)
    fitted := if x.fitted = some pid then none else x.fitted })
  (match rest with
    | none => s
    | some (x, q) => ((s.updInput x (·.drop q.stamp)).creditsBack x q.inVc q.cells.length).redirect x q.stamp .drop).settleDeficits o

/-- The packets begun on port `p` and not yet sent whole or not yet acknowledged: pid and class. -/
def State.begunOn (s : State) (p : Nat) : List (Nat × Nat) :=
  let k := s.link p
  let out := s.output (xIdx p)
  (((k.replay ++ k.again).filter (fun c => c.abort = none)).map (fun c => (c.pid, vcClass c.vc))
    ++ (out.egress.filter (fun e => e.abort = none)).map (fun e => (e.pid, e.cls))
    ++ out.opened.map (fun e => (e.2.2.2, vcClass e.1))).eraseDups

/-- A fresh start of the link (R127): of each packet begun, the cells of the replay buffer are sent again where its first
cell is still held (an aborted packet's with its abort), and the packet is discarded where it is not. -/
def State.freshStart (s : State) (p : Nat) : State :=
  let o := xIdx p
  let s := ((s.link p).rxOpen.map (·.1)).foldl (fun s v => s.abortCounted p v 2) s
  let held := (s.link p).replay ++ (s.link p).again
  let whole (i : Nat) : Bool := held.any (fun c => c.abort.isNone && c.pid == i && c.first)
  let staged (i : Nat) : Bool := (s.output o).egress.any (fun e => e.abort.isNone && e.pid == i && e.first)
  let lost := (s.begunOn p).filter (fun i => !(whole i.1 || staged i.1))
  let s := lost.foldl (fun s i => (s.discardBegun o i.1).countPort p 17) s
  let s := s.commitAll R.vcCredit p 8
  let s := s.updLink p (fun k => { k with nextSeq := 0, expect := 0, nakAt := none, replay := []
                                          again := (held.filter (fun c => whole c.pid)).map (fun c => { c with acked := false })
                                          replayAt := none, lastReplay := none, stallCount := 0
                                          credits := [], lastCount := [], total := [], unreported := []
                                          waiting := [] })
  s.initialReturn p

/-- A resumed link (R126): cells before the partner's RX_EXPECT are freed and the rest is sent again; the replay
counts for nothing, but a NAK of its sequence soon after is ignored as R121 says. -/
def State.resumeLink (s : State) (p : Nat) (rx : BitVec 12) : State :=
  s.updLink p (fun k =>
    let k := k.ackTo rx
    { k with replayAt := if rx = k.nextSeq then none else some rx
             lastReplay := if rx = k.nextSeq then none else some (rx, s.portClock p) })

/-- The link comes up (R125–R127, R144). -/
def State.linkUp (s : State) (p : Nat) (i : InitInfo) (fresh : Bool) : State :=
  let s := s.updLink p (fun k => { k with
    partner := some { epoch := i.epoch, addrValid := i.addrValid, node := i.node, port := i.port, role := i.role }
    resumed := !fresh, initRx := none, winCells := 0, winReplays := 0 })
  let s := (s.commit R.linkDownRule p 0).commit R.linkTimers p 0
  let s := if fresh then s.freshStart p else s.resumeLink p i.rxExpect
  s.settleWiring p false

/-- The lanes reach LANE_UP (R125, R138, R144): INIT, unless a flush runs. -/
def State.enterInit (s : State) (p : Nat) : State :=
  let k := s.link p
  if k.flushing then s.setLink p { k with initWaits := true }
  else
    let s := s.setLink p { k with st := .init, peerWiring := false, initRx := none, sentFresh := true
                                  initWaits := false }
    s.queueCtl p (.linkInit (s.initInfo p))

/-- Everything a flush of port `p` discards (R138). -/
def State.flushPort (s : State) (p : Nat) : State :=
  let o := xIdx p
  -- packets already begun: replay buffer and egress stage
  let s := (s.begunOn p).foldl (fun s i => (s.discardBegun o i.1).countPort p (18 + i.2)) s
  let s := s.updOutput o (fun x => { x with egress := [], opened := [], fitted := none })
  -- packets queued at every input
  let s := s.inputIdx.foldl (fun s x =>
    ((s.input x).pkts.filter (fun k => k.out = o)).foldl (fun s k =>
      (((s.updInput x (·.drop k.stamp)).creditsBack x k.inVc k.cells.length).countPort p (18 + k.hdr.cls.toNat)).redirect x
        k.stamp .drop) s) s
  -- partial packets received on the port
  let s := ((s.link p).rxOpen.map (·.1)).foldl (fun s v => s.abortCounted p v 3) s
  (s.updLink p (fun k => { k with replay := [], again := [], replayAt := none, epochNo := k.epochNo + 1
                                  flushing := true })).settleDeficits o

/-! The transmitter (R111) -/

/-- The header of a packet as the output sends it (R33, R35, R161): HOPS and PHASE on a fabric port, CONG for a mark. -/
def State.txHeader (s : State) (o : Nat) (mark : Bool) (h : Header) : Header :=
  let h := if mark then { h with cong := if h.cong = 3 then 3 else h.cong + 1 } else h
  match portOf o with
  | some p =>
    if p = 48 then h
    else
      let h := { h with hops := h.hops + 1 }
      if s.role p = 2 ∨ s.otherGroup p then
        { h with phase := if h.routeMode = 1 ∧ h.phase = 0 then 1 else 2 }
      else h
  | none => h

/-- The body of a cell as sent: a first cell's header is rewritten. -/
def State.txBody (s : State) (o : Nat) (first mark : Bool) (b : BitVec 1024) : BitVec 1024 :=
  if first then
    b.extractLsb' 256 768 ++ (s.txHeader o mark (Header.ofBits (b.extractLsb' 0 256))).toBits
  else b

/-- The type of a data cell. -/
def dataType (first last : Bool) : CellType :=
  match first, last with
  | true, true => .only
  | true, false => .first
  | false, true => .last
  | false, false => .middle

/-- Send (again) the cell of a replay slot (R121, R126). -/
def State.sendSlot (s : State) (p : Nat) (c : RCell) : State :=
  match c.abort with
  | some r => s.sendCell p c.seq .control c.vc (abortBody r)
  | none => s.sendCell p c.seq (dataType c.first c.last) c.vc (s.txBody (xIdx p) c.first c.mark c.body)

/-- A credit for a cell of VC `v` is held (R114). -/
def Link.hasCredit (k : Link) (v : Nat) : Bool :=
  Table.get 0 k.credits v != 0 || Table.get 0 k.credits (48 + vcClass v) != 0

/-- Spend a credit of VC `v`, or of its class's pool (R114). -/
def Link.spend (k : Link) (v : Nat) : Link :=
  let code := if Table.get 0 k.credits v ≠ 0 then v else 48 + vcClass v
  { k with credits := Table.upd 0 k.credits code (· - 1) }

end Sys2Proof.Machine
end

