-- ==== Sys2Proof/Machine/SwitchOps.lean ====
section
/-! DEFINITION. Operations of the switch core and the output schedulers (chapters 5 and 7): gates, eligibility,
class order, the match of a token, and the egress stage's next cell. -/

namespace Sys2Proof.Machine

/-! Time gates (R222–R227) -/

/-- OPEN of the entry that governs a cycle position (R220, R222). -/
def GateList.openAt (g : GateList) (pos : Nat) : BitVec 8 :=
  g.entries.foldl (fun a e => if e.offset ≤ pos then e.opens else a) 0xFF

/-- Index of the entry that governs a cycle position. -/
def GateList.entryAt (g : GateList) (pos : Nat) : Nat :=
  (g.entries.filter (fun e => e.offset ≤ pos)).length - 1

/-- The open set in tick `t`, from the active list, a pending switch and every installed override (R222, R226). -/
def Gate.openAt (g : Gate) (t : Nat) : BitVec 8 :=
  if !g.enable then 0xFF
  else
    let list : Option (GateList × Nat) := match g.switchAt, g.staged with
      | some sw, some l => if sw ≤ t then some (l, sw) else g.active
      | _, _ => g.active
    let listOpen := match list with
      | some (l, sw) => if sw ≤ t then l.openAt ((t - sw) % l.cycle) else 0xFF
      | none => 0xFF
    let fo := g.overrides.foldl (fun a o => if o.win.covers t then a ||| o.forceOpen else a) 0
    let fc := g.overrides.foldl (fun a o => if o.win.covers t then a ||| o.forceClose else a) 0
    ((listOpen ||| fo) &&& ~~~ fc) ||| 1

/-- The port applies the open set of the present tick (R222, R223). -/
def State.applyGate (s : State) (p : Nat) : State :=
  s.updOutput p (fun x => { x with gate := { x.gate with opened := x.gate.openAt s.tick } })
/-- A gate that GATE_CTL turns off opens at the tick after the write (Table SCH-16). -/
def State.gateOff (s : State) (p : Nat) : State :=
  match (s.output p).gate.offAt with
  | some t => if t ≤ s.tick then
      (s.updOutput p (fun x => { x with gate := { x.gate with enable := false, offAt := none } })).applyGate p
    else s
  | none => s
/-- Change a port's gate. -/
def State.updGate (s : State) (p : Nat) (f : Gate → Gate) : State :=
  s.updOutput p (fun x => { x with gate := f x.gate })

/-! Timed windows (R228–R230) -/

/-- All ones: no stop (R228). -/
def noStop : Nat := 2 ^ 64 - 1

/-- A window submitted with both ends at tick `n` (Table SCH-13): its answer and the window installed; `none` where it is
refused. -/
def submitWindow (start stop n : Nat) : Option (Fdp × Window) :=
  let ts := start / 8
  if stop = noStop then
    if ts ≤ n then some (.lateStart, { st := .running, start := ts }) else some (.ok, { st := .pending, start := ts })
  else
    let te := stop / 8
    if te < ts then none
    else if te = ts ∨ te ≤ n then some (.emptyWindow, {})
    else if ts ≤ n then some (.lateStart, { st := .running, start := ts, stop := some te })
    else some (.ok, { st := .pending, start := ts, stop := some te })

/-- A stop sent on its own (Table SCH-14): its answer and the window after it.  A window that ends at once is `free`
here; what its end brings is its owner's. -/
def stopWindow (w : Window) (stop n : Nat) : Fdp × Window :=
  let te := stop / 8
  match w.st with
  | .pending => if te ≤ w.start then (.emptyWindow, {}) else (.ok, { w with stop := some te })
  | .running => if n < te then (.ok, { w with stop := some te }) else (.ok, {})
  | _ => (.ok, w)

/-- F of a packet of `n` cells in 0.1 ns (R226). -/
def fitTime (n : Nat) (zalden : Bool) : Nat := (n + ceilDiv n 16 + 1) * (if zalden then 14 else 7)

/-- A packet of class `c` and `n` cells fits the gate of port `p` now (R226): by the active list and the overrides the class
stays open for F, and no agreed calm window starts within F. -/
def State.fits (s : State) (p c n : Nat) : Bool :=
  let g := (s.output p).gate
  let f := fitTime n (s.lane p).rateActive
  let now := s.timeQ * 10 / 2 ^ 32
  let t0 := s.tick
  let ahead : Gate := { g with switchAt := none }
  let open_ := (List.range 9).all (fun j => now + f ≤ (t0 + j) * 80 || bit (ahead.openAt (t0 + j)) c)
  let calm := match (s.lane p).calmWin with
    | some w => decide (s.uptime * 80 + f ≤ w.startAt * 80)
    | none => true
  open_ && calm

/-- Every cell of the packet that an egress cell belongs to has arrived (R224). -/
def State.allArrived (s : State) (e : EgCell) : Bool :=
  match (s.input e.inp).find e.stamp with
  | some k => k.arrived == k.total
  | none => true

/-- A gate rules the class at the output (R219, R224).  DESIGN CHOICE (log 53): at a port without a running gate nothing is
tested for fit, a calm window's start included. -/
def State.gated (s : State) (o c : Nat) : Bool := decide (o < 48) && (s.output o).gate.enable && decide (c ≠ 0)

/-- The gate holds a packet's first cell in the egress stage (R224, R226). -/
def State.gateHolds (s : State) (o : Nat) (e : EgCell) : Bool :=
  e.first && e.abort.isNone && s.gated o e.cls && (!s.fits o e.cls e.total || !s.allArrived e)

/-! Eligibility (R152, Table XBR-2) -/

/-- Cells of a VC (of a class, at an inner or reduction output) in the egress stage. -/
def Output.stage (x : Output) (fabric : Bool) (key : Nat) : Nat :=
  (x.egress.filter (fun e => e.abort.isNone && (if fabric then e.vc == key else e.cls == key))).length

/-- The egress stage has room for a cell (R153). -/
def Output.room (x : Output) (fabric : Bool) (key : Nat) : Bool :=
  let keys := List.range (if fabric then 48 else 8)
  let own := if fabric then 1 else 6
  let shared := (keys.map (fun k => x.stage fabric k - own)).sum
  decide (x.stage fabric key < own) || decide (shared < 48)

/-- A credit of the VC or its class's pool is held and not committed (R114, R152): the cells in the egress stage
and those to be sent again (R127) beyond each VC's own credits draw on the pool. -/
def State.creditFree (s : State) (o v : Nat) : Bool :=
  match portOf o with
  | none => true
  | some p =>
    let k := s.link p
    let x := s.output o
    let c := vcClass v
    let need := ((List.range 6).map (fun i =>
      let w := 6 * c + i
      (x.stage true w + (k.again.filter (fun e => e.vc = w ∧ e.abort.isNone)).length + (if w = v then 1 else 0))
        - Table.get 0 k.credits w)).sum
    decide (need ≤ Table.get 0 k.credits (48 + c))

/-- The partner's heartbeat reports ADOPTING and names the own address (R524). -/
def State.twinTakes (s : State) : Bool :=
  s.twin.hb && (match s.twin.partner with
    | some b => b.state == 5 && b.adopted == some s.ownNode
    | none => false)

/-- The output is usable for a cell (Table XBR-2, R87, R139, R158, R508). -/
def State.outUsable (s : State) (o : Nat) (h : Header) (isFirst : Bool) : Bool :=
  match portOf o with
  | some p =>
    let l := s.lane p
    s.role p != 7 && l.txReady && l.st == .laneUp
      && ((s.link p).st == .up || ((s.link p).st.running && !isFirst))
      && (p != 48 || !s.ownGone || h.dstNode != s.ownNode || s.twinTakes)
  | none => !(decide (48 ≤ o ∧ o < 56) && s.twin.st == .joining && h.dstNode == s.ownNode)

/-- The head cell of packet `k` at input `i` may cross now (Table XBR-2). -/
def State.eligible (s : State) (i : Nat) (k : VPkt) : Bool :=
  let x := s.output k.out
  let fabric := (portOf k.out).isSome
  let key := openKey k.out k.vc k.hdr.cls.toNat
  let vcFree := match x.opened.find? (fun e => e.1 = key) with
    | none => k.sent == 0
    | some (_, (i', st, _)) => k.sent != 0 && i' == i && st == k.stamp
  let room := if 56 ≤ k.out then decide (x.egress.length < 256) else x.room fabric key
  !k.cells.isEmpty && s.outUsable k.out k.hdr (k.sent == 0) && vcFree && room
    && s.creditFree k.out k.vc

/-- Heads of the sublists of one input, in the order their first cells were written (R150, R151). -/
def heads : List VPkt → List VPkt → List VPkt
  | _, [] => []
  | seen, k :: ks =>
    if seen.any (fun q => q.out = k.out ∧ q.vc = k.vc ∧ q.hdr.cls = k.hdr.cls) then heads seen ks
    else k :: heads (k :: seen) ks

/-- An eligible request: input, output, class, and the stamp of the packet. -/
structure Request where
  inp   : Nat
  out   : Nat
  cls   : Nat
  stamp : Nat
  deriving DecidableEq, Repr

/-- Every eligible head of the token, inputs rising, packets in writing order (R155). -/
def State.requests (s : State) : List Request :=
  s.inputs.flatMap (fun e =>
    ((heads [] e.2.pkts).filter (fun k => s.eligible e.1 k)).map (fun k =>
      { inp := e.1, out := k.out, cls := k.hdr.cls.toNat, stamp := k.stamp }))

/-! Class order (R206) -/

/-- STRICT of a class at an output (R205). -/
def State.strict (s : State) (o c : Nat) : Bool := bit (s.reg R.egressClass o c) 17

/-- The shaper of an output and class holds it (R211). -/
def State.shaped (s : State) (o c : Nat) : Bool :=
  bit (s.reg R.shaper o c) 63 && decide (Table.get (0 : Int) (s.output o).level c < 0)

/-- The class's gate is open for new packets (R225). -/
def State.gateOpen (s : State) (o c : Nat) : Bool :=
  !(s.gated o c) || bit (s.output o).gate.opened c

/-- Classes with a packet whose later cells have not all been matched, other than one whose first cell the gate
holds (R206). -/
def State.contClasses (s : State) (o : Nat) : List Nat :=
  let x := s.output o
  (List.range 8).filter (fun c => x.opened.any (fun e =>
    let cls := if (portOf o).isSome then vcClass e.1 else e.1
    cls = c && !(x.egress.any (fun g => g.pid = e.2.2.2 && s.gateHolds o g))))

/-- The numbers 0 … 7 circularly from `a`. -/
def circ8 (a : Nat) : List Nat := (List.range 8).map (fun i => (a + i) % 8)

/-- PTR of an output (R206): the lowest DRR class at reset. -/
def State.ptr (s : State) (o : Nat) : Nat :=
  match (s.output o).ptr with
  | some c => c
  | none => ((List.range 8).find? (fun c => !s.strict o c)).getD 0

/-- grant_order of an output for the token, with the replenishment it makes (R206, R207). -/
def State.present (s : State) (o : Nat) (reqs : List Request) : State × List Nat :=
  let presentable (c : Nat) : Bool :=
    reqs.any (fun r => r.out = o && r.cls = c) && !s.shaped o c && s.gateOpen o c
  let cont := (s.contClasses o).filter (fun c => reqs.any (fun r => r.out = o && r.cls = c))
  let st := (List.range 8).filter (fun c => s.strict o c && presentable c)
  let drr := (List.range 8).filter (fun c => !s.strict o c && presentable c)
  let x := s.output o
  let x := if !drr.isEmpty && drr.all (fun c => decide (Table.get (0 : Int) x.deficit c ≤ 0)) then
      { x with deficit := (List.range 8).foldl (fun d c =>
          if s.strict o c || s.backlog o c = 0 then d
          else
            let q : Int := fldN (s.reg R.egressClass o c) 15 0
            Table.set 0 d c (min (Table.get 0 d c + q) (2 * q))) x.deficit }
    else x
  let d := (circ8 (s.ptr o)).filter (fun c => drr.contains c && decide (0 < Table.get (0 : Int) x.deficit c))
  (s.setOutput o x, (cont ++ st ++ d).eraseDups)

/-- The first number at or after `a`, circularly modulo 61, that satisfies `p` (R155). -/
def firstFrom (a : Nat) (p : Nat → Bool) : Option Nat := ((List.range 61).map (fun i => (a + i) % 61)).find? p

/-- A match (R155): input, output, class and iteration. -/
structure Match where
  inp : Nat
  out : Nat
  cls : Nat
  deriving DecidableEq, Repr

/-- One iteration of request, grant and accept (R155).  `orders` holds grant_order of each output with requests. -/
def State.iterate (s : State) (reqs : List Request) (orders : List (Nat × List Nat)) (move : Bool)
    (done : List Match) : State × List Match :=
  let freeIn (i : Nat) : Bool := !(done.any (fun m => m.inp = i))
  let freeOut (o : Nat) : Bool := !(done.any (fun m => m.out = o))
  let grants : List Match := orders.filterMap (fun (o, order) =>
    if !freeOut o then none
    else order.findSome? (fun c =>
      (firstFrom (Table.get 0 (s.output o).gptr c)
        (fun i => freeIn i && reqs.any (fun r => r.inp = i && r.out = o && r.cls = c))).map
        (fun i => { inp := i, out := o, cls := c })))
  let ins := sortNat (grants.map (·.inp)).eraseDups
  ins.foldl (fun (s, done) i =>
    match firstFrom (s.input i).aptr (fun j => grants.any (fun g => g.inp = i && g.out = j)) with
    | none => (s, done)
    | some j =>
      match grants.find? (fun g => g.inp = i && g.out = j) with
      | none => (s, done)
      | some m =>
        let s := if move then
            (s.updOutput j (fun x => { x with gptr := Table.set 0 x.gptr m.cls ((i + 1) % 61) })).updInput i
              (fun b => { b with aptr := (j + 1) % 61 })
          else s
        (s, done ++ [m])) (s, done)

/-- The match of a first cell of class `c`, charged `l` bytes (R203, R206, R211). -/
def State.charge (s : State) (o c l : Nat) : State :=
  let x := s.output o
  let x := if s.strict o c then x
    else
      let d := Table.get (0 : Int) x.deficit c - l
      let next := ((circ8 (c + 1)).find? (fun c' => !s.strict o c')).getD c
      { x with deficit := Table.set 0 x.deficit c d, ptr := if d ≤ 0 then some next else x.ptr }
  let x := if bit (s.reg R.shaper o c) 63 then
      { x with level := Table.set 0 x.level c (Table.get (0 : Int) x.level c - 1000 * l) }
    else x
  (s.setOutput o x).countOut o (8 + c) l

/-- The head cell of a matched packet crosses into the egress stage (R153, R154, R155). -/
def State.cross (s : State) (reqs : List Request) (m : Match) : State :=
  match reqs.find? (fun r => r.inp = m.inp && r.out = m.out && r.cls = m.cls) with
  | none => s
  | some r =>
    match (s.input r.inp).find r.stamp with
    | none => s
    | some k =>
      match k.cells with
      | [] => s
      | b :: rest =>
        let first := k.sent == 0
        let last := k.sent + 1 == k.total
        let key := openKey k.out k.vc m.cls
        let x := s.output m.out
        let pid := match x.opened.find? (fun e => e.1 = key) with
          | some (_, (_, _, pid)) => if first then x.nextPid else pid
          | none => x.nextPid
        let body := if first then b.extractLsb' 256 768 ++ k.hdr.toBits else b
        let x := { x with
          egress := x.egress ++ [{ pid := pid, vc := k.vc, cls := m.cls, first := first, last := last, body := body
                                   mark := k.mark, total := k.total, inp := r.inp, stamp := r.stamp, own := k.own, moved := k.moved }]
          nextPid := if first then x.nextPid + 1 else x.nextPid
          opened := if last then x.opened.erase key else x.opened.insert key (r.inp, r.stamp, pid) }
        let s := s.setOutput m.out x
        let s := if last then s.updInput r.inp (·.drop r.stamp)
          else s.updInput r.inp (·.put { k with cells := rest, sent := k.sent + 1 })
        let s := s.creditBack r.inp k.inVc
        if first then s.charge m.out m.cls (chargedLen (s.reg R.egressOverhead m.out) k.hdr.length.toNat) else s

/-- One token of the central scheduler (R155): grant orders, three iterations, the crossings. -/
def State.token (s : State) : State :=
  let reqs := s.requests
  let outs := sortNat (reqs.map (·.out)).eraseDups
  let (s, orders) := outs.foldl (fun (s, os) o =>
    let (s, ord) := s.present o reqs
    (s, os ++ [(o, ord)])) (s, ([] : List (Nat × List Nat)))
  let (s, ms) := s.iterate reqs orders true []
  let (s, ms) := s.iterate reqs orders false ms
  let (s, ms) := s.iterate reqs orders false ms
  (ms.foldl (fun s m => s.cross reqs m) s).countDev 0

/-! Reduction units (R62, R146) -/

/-- The packet a unit is emitting is written on: a later cell joins it wherever it stands by now (R133). -/
def State.emitLater (s : State) (x : Nat) (b : BitVec 1024) : State :=
  match Table.get RxOpen.none (s.input x).openCls 1 with
  | .pkt x' st => match (s.input x').find st with
    | some k => (s.updInput x' (·.put { k with cells := k.cells ++ [b], arrived := k.arrived + 1 })).countXbr x' 49
    | none => s
  | _ => s

/-- The first cell of a unit's packet: alternate, RED, queue (R160, R170, R176), or the queue of an inner port (R463); answers
whether the packet goes on.  A device without an address injects nothing (R25). -/
def State.emitFirst (s : State) (x : Nat) (q : UnitPkt) (b : BitVec 1024) : State × Bool :=
  let h := Header.ofBits (b.extractLsb' 0 256)
  if !s.nodeValid then (s, false)
  else
    let (s, o, moved) := match q.inner with
      | some j => (s, 48 + j, false)
      | none => s.applyAlt h x (xIdx q.port)
    let (s, dropped, mark) := s.red x o 1 h.colour
    if dropped then (s, false)
    else
      let (s, st) := s.enqueue x { out := o, vc := if q.inner.isSome then 63 else 10, hdr := h, mark := mark, total := q.cells.length, cells := [b], arrived := 1
                                   moved := moved }
      ((s.updInput x (fun i => { i with openCls := Table.set .none i.openCls 1 (.pkt x st) })).countXbr x 49, true)

/-- A reduction unit emits at most one cell in a token, and none while its input has no free slot (R62, R146). -/
def State.unitEmit (s : State) (u : Nat) : State :=
  let x := 56 + u
  let put (s : State) (l : List UnitPkt) : State := { s with colls := { s.colls with outq := Table.set [] s.colls.outq u l } }
  match Table.get [] s.colls.outq u with
  | [] => s
  | q :: qs =>
    if 512 ≤ (s.input x).fill then s
    else match q.cells with
      | [] => put s qs
      | b :: rest =>
        let next := if rest.isEmpty then qs else { q with cells := rest, begun := true } :: qs
        if q.begun then put (s.emitLater x b) next
        else match s.emitFirst x q b with
          | (s, true) => put s next
          | (s, false) => put s qs

/-- Every unit's emission of a token. -/
def State.unitsEmit (s : State) : State := (List.range 4).foldl (fun s u => s.unitEmit u) s

/-! The egress stage's next cell (R111, R114, R226, R227) -/

/-- The position of the next cell that may leave: VCs in order, a gate-held packet stops its class, a cell without
credit stops its VC; with a fitted packet under way its cells go first. -/
def State.pickFrom (s : State) (o p : Nat) (only : Option Nat) :
    List EgCell → List Nat → List Nat → Nat → Option Nat
  | [], _, _, _ => none
  | e :: es, vcs, clss, n =>
    let blocked := vcs.contains e.vc || (e.first && clss.contains e.cls)
    let wanted := match only with | some pid => e.pid == pid | none => true
    if blocked then s.pickFrom o p only es (e.vc :: vcs) clss (n + 1)
    else if s.gateHolds o e then s.pickFrom o p only es (e.vc :: vcs) (e.cls :: clss) (n + 1)
    else if !wanted then s.pickFrom o p only es (e.vc :: vcs) clss (n + 1)
    else if e.abort.isSome || (s.link p).hasCredit e.vc then some n
    else s.pickFrom o p only es (e.vc :: vcs) clss (n + 1)

/-- A slot of the replay buffer as a cell offered again. -/
def RCell.offer (c : RCell) : EgCell :=
  { pid := c.pid, vc := c.vc, cls := vcClass c.vc, first := c.first, last := c.last, body := c.body, mark := c.mark
    total := c.total, inp := c.inp, stamp := c.stamp, abort := c.abort, moved := c.moved }

/-- The cells that port `p` has to send as new sequenced cells, in order: those that a fresh link sends again, then those of
the egress stage (R127). -/
def State.offered (s : State) (p : Nat) : List EgCell :=
  (s.link p).again.map RCell.offer ++ (s.output (xIdx p)).egress

/-- The position of the offered cell that port `p` sends next, if any: while a fitted packet is under way only its cells (R227). -/
def State.pickCell (s : State) (p : Nat) : Option Nat :=
  s.pickFrom (xIdx p) p (s.output (xIdx p)).fitted (s.offered p) [] [] 0

/-- Cells that the replay buffer holds (R118, R127). -/
def Link.occupied (k : Link) : Nat := k.replay.length + k.again.length

/-- A cell of a sampled entry's packet leaves a port (Table CTR-9). -/
def State.trackWire (s : State) (p : Nat) (e : EgCell) : State :=
  match e.own with
  | none => s
  | some (n, pos) => s.trackEntry n pos (fun t => { t with
      first := t.first.or (some s.ns)
      port := if t.first.isSome then t.port else if p = 48 then 60 else p
      last := if e.last then some s.ns else t.last })

/-- Send the offered cell `n` as a new sequenced cell (R111, R114, R118, R127, R153, R227). -/
def State.sendEgress (s : State) (p n : Nat) : State :=
  let o := xIdx p
  match (s.offered p)[n]? with
  | none => s
  | some e =>
    let k := s.link p
    let old := k.again.length
    let c : RCell := { seq := k.nextSeq, vc := e.vc, pid := e.pid, first := e.first, last := e.last, body := e.body
                       mark := e.mark, abort := e.abort, total := e.total, inp := e.inp, stamp := e.stamp, moved := e.moved }
    let s := (s.sendSlot p c).trackWire p e
    let gated := s.gated o e.cls && e.abort.isNone
    let s := if gated && e.last && !(bit (s.output o).gate.opened e.cls) then s.countPort p 30 else s
    let s := s.updLink p (fun k => { (if e.abort.isNone then k.spend e.vc else k) with
      nextSeq := k.nextSeq + 1, replay := k.replay ++ [c], again := k.again.eraseIdx n })
    let s := s.updOutput o (fun x => { x with
      egress := if n < old then x.egress else x.egress.eraseIdx (n - old)
      fitted := if e.last || e.abort.isSome then (if x.fitted = some e.pid then none else x.fitted)
                else if e.first && gated then some e.pid else x.fitted })
    let s := if e.abort.isNone then (s.countPort p 0).countOut o e.cls else s
    s.settleDeficit o e.cls

/-- The link layer writes T1 into a time probe and TURN into a reply as it builds their bypass cell (R621, R622, Table PWR-9). -/
def State.stampBypass (s : State) (p : Nat) (m : BypassMsg) : State × BypassMsg :=
  let now := s.timeQ + Config.txDelay p
  match m.type with
  | 2 =>
    let m' := setFld (setFld m 31 16 (now / 2 ^ 16)) 95 32 (now / 2 ^ 32)
    (match s.time.probe with
      | some (n, none) => if n = fldN m 15 8 then { s with time := { s.time with probe := some (n, some now) } } else s
      | _ => s, m')
  | 3 =>
    let t2 := fldN m 95 32 * 2 ^ 16 + fldN m 31 16
    (s, setFld m 119 96 (min (2 ^ 24 - 1) ((now / 2 ^ 16 - t2) / 2 ^ 12)))
  | _ => (s, m)

/-- The next bypass cell's messages. -/
def State.stampAll (s : State) (p : Nat) : List BypassMsg → State × List BypassMsg
  | [] => (s, [])
  | m :: l =>
    let (s, m) := s.stampBypass p m
    let (s, l) := s.stampAll p l
    (s, m :: l)

/-- The transmitter's choice for one cell slot (R111).  Before LANE_UP only idle cells go (Table LAN-14); in transmit hold, in a
calm window, in doze and in TEST nothing does (R87, R91). -/
def State.transmit (s : State) (p : Nat) : State :=
  let l := s.lane p
  let k := s.link p
  if !l.txReady ∨ l.st = .calm ∨ l.st = .test ∨ l.st = .doze ∨ l.st = .off ∨ l.st = .retryWait
    ∨ l.st = .synthLock ∨ (l.st = .wake ∧ !l.wakeLeads) then s
  else if l.st ≠ .laneUp then s.sendCell p k.nextSeq .idle 0x3F 0
  else match k.ctlQ with
  | m :: ms => (s.setLink p { k with ctlQ := ms }).sendCtl p m
  | [] =>
    if !k.bypassQ.isEmpty ∧ 15 ≤ k.sinceBypass ∧ k.st ≠ .down ∧ k.st ≠ .doze then
      let (s, ms) := s.stampAll p (k.bypassQ.take 8)
      let body := ms.foldr (fun (m : BypassMsg) (a : Nat) => a * 2 ^ 128 + m.toNat) 0
      ((s.setLink p { k with bypassQ := k.bypassQ.drop 8 }).sendCell p k.nextSeq .bypass 0x3F
        (BitVec.ofNat 1024 body)).countPort p 3
    else if !k.st.running then (s.sendCell p k.nextSeq .idle 0x3F 0).countPort p 2
    else match k.replayAt with
    | some e =>
      match k.replay.find? (fun c => c.seq = e) with
      | some c =>
        (s.sendSlot p c).updLink p (fun k => { k with replayAt := if e + 1 = k.nextSeq then none else some (e + 1) })
      | none => (s.updLink p (fun k => { k with replayAt := none })).sendCell p k.nextSeq .idle 0x3F 0
    | none =>
      match s.pickCell p with
      | some n => if n < k.again.length ∨ k.occupied < replayRoom p then s.sendEgress p n
        else (s.sendCell p k.nextSeq .idle 0x3F 0).countPort p 2
      | none => (s.sendCell p k.nextSeq .idle 0x3F 0).countPort p 2

/-- The running averages of every output and class (R159): AVG in 1/256 cells, rounded towards zero. -/
def State.redUpdate (s : State) : State :=
  let outs := (List.range 61)
  outs.foldl (fun s o =>
    (List.range 8).foldl (fun s c =>
      let b := s.backlog o c
      let a := Table.get 0 (s.output o).avg c
      if b = 0 ∧ a = 0 ∧ Table.get 0 (s.output o).bLast c = 0 then s
      else
        let w := fldN (s.reg R.congMode 0 c) 7 4
        let v := (((a : Int) * 2 ^ w + ((b * 256 : Nat) : Int) - (a : Int)) / 2 ^ w).toNat
        s.updOutput o (fun x => { x with avg := Table.set 0 x.avg c v, bLast := Table.set 0 x.bLast c b })) s) s

end Sys2Proof.Machine
end

