-- ==== Sys2Proof/Machine/RingOps.lean ====
section
/-! DEFINITION. Operations of the ring network (chapter 8): routes, sending, acceptance, hand-over, and a ring's leaving
service; the ring side of the inner ports (R60, R61, R147, R681). -/

namespace Sys2Proof.Machine

def State.updRings (s : State) (f : Rings → Rings) : State := { s with rings := f s.rings }

/-- Tokens completed (DEVICE counter 0): the clock of the rings. -/
def State.tokens (s : State) : Nat := (Table.get (0 : BitVec 64) s.totals 20288).toNat

/-- KIND codes (Table RNG-2). -/
def kindRead : Nat := 8
def kindWrite : Nat := 9
def kindPost : Nat := 10
def kindResponse : Nat := 11

/-- A ring is in service (R250). -/
def State.ringUp (s : State) (r : Nat) : Bool := bit (s.reg R.ringCtl) r

/-- The rings that serve a route, in order (R249). -/
def ringOrder (r : Nat) : List Nat :=
  match r with
  | 0 => [0, 1, 2]
  | 1 => [1, 0, 3]
  | 2 => [2, 3, 0]
  | _ => [3, 2, 1]

/-- The ring from a stop to another for a KIND, if the route is valid and a ring serves it (R237, R238, R249). -/
def State.ringRoute (s : State) (src dst kind : Nat) : Option Nat :=
  let e := s.eff R.ringRoute 0 (64 * src + dst)
  if !bit e 7 then none
  else (ringOrder (if kind = kindResponse then fldN e 3 2 else fldN e 1 0)).find? s.ringUp

/-- Key of a flow: source, destination and KIND. -/
def flowKey (src dst kind : Nat) : Nat := (src * 64 + dst) * 16 + kind

/-- Packets of one flow. -/
def RingPkt.inFlow (p : RingPkt) (src dst kind : Nat) : Bool := p.src == src && p.dst == dst && p.kind == kind

/-- RES by AGE (Table RNG-4). -/
def ringRes (age : Nat) : Nat := if age ≤ 3 then 15 else if age ≤ 15 then 10 else if age ≤ 63 then 5 else 0
/-- Urgency by AGE (Table RNG-4). -/
def ringUrgency (age : Nat) : Nat := if age ≤ 3 then 0 else if age ≤ 15 then 1 else if age ≤ 63 then 2 else 3

/-- TIMEOUT in ticks (Table RNG-5). -/
def State.ringTimeout (s : State) : Nat := 125 * fldN (s.reg R.ringCtl) 31 20

/-- A tag that may be used: free, or quarantined for a further TIMEOUT (R245). -/
def State.freeTag (s : State) (stop : Nat) : Option Nat :=
  (List.range 1024).find? (fun t =>
    match (Table.get ({} : RingTag) s.rings.tags (1024 * stop + t)).st with
    | .free => true
    | .busy _ => false
    | .quarantined a => decide (a + s.ringTimeout ≤ s.uptime))

/-- The header unit (Table RNG-2). -/
def RingPkt.header (p : RingPkt) : BitVec 128 :=
  let b : BitVec 120 := BitVec.ofNat 120 (p.dst + at' 6 p.src + at' 12 p.ring + at' 14 p.kind + at' 18 p.units + at' 21 p.seq + at' 29 p.tag
    + at' 39 p.gen + at' 41 p.age + at' 49 p.slice + at' 57 p.status + at' 65 p.flags + at' 76 (p.addr % 2 ^ 40))
  Config.ringHecc b ++ b

/-! Slots and injection (R233, R234, R241, R243) -/

/-- The unit in the slot that stands at a stop of a ring in token `n`. -/
def State.slotUnit (s : State) (ring stop n : Nat) : Option RingUnit :=
  s.rings.slots.find? (fun u => u.ring = ring && u.rides n && u.stop n == stop)

/-- The stop may fill the slot that stands at it: it is empty and carries no reservation of another stop (R243). -/
def State.slotFree (s : State) (ring stop n : Nat) : Bool :=
  (s.slotUnit ring stop n).isNone && s.rings.resv.all (fun v => v.ring != ring || v.slot != slotAt ring stop n || v.stop == stop)

/-- The stop's own reservation on a ring. -/
def State.hasResv (s : State) (ring stop : Nat) : Bool := s.rings.resv.any (fun v => v.ring == ring && v.stop == stop)

/-- Mark the slot that stands at a stop with its reservation, unless the slot carries one or the stop holds one (R243). -/
def State.reserveSlot (s : State) (ring stop n : Nat) : State :=
  if s.hasResv ring stop || s.rings.resv.any (fun v => v.ring == ring && v.slot == slotAt ring stop n) then s
  else s.updRings (fun r => { r with resv := r.resv ++ [{ stop := stop, ring := ring, slot := slotAt ring stop n }] })

/-- Put one unit into the slot at a stop; the stop's reservation of that slot is over. -/
def State.fillSlot (s : State) (u : RingUnit) : State :=
  s.updRings (fun r => { r with slots := r.slots ++ [u], resv := r.resv.filter (fun v =>
    !(v.ring == u.ring && v.stop == u.src && v.slot == slotAt u.ring u.src u.at_)) })

/-- A queued packet that its stop may inject: the first of its flow that is not on the ring, the flow not held (R241). -/
def State.injectable (s : State) (p : RingPkt) (n : Nat) : Bool :=
  p.place == .queued && decide (Table.get 0 s.rings.holds (flowKey p.src p.dst p.kind) ≤ n)
    && s.rings.pkts.find? (fun q => q.inFlow p.src p.dst p.kind && (q.place == .queued || q.place == .returned)) == some p

/-- The packet that a stop injects next on a ring: the highest urgency, then the oldest (R243). -/
def State.nextInjection (s : State) (ring stop n : Nat) : Option RingPkt :=
  match s.rings.pkts.filter (fun p => p.src = stop && p.ring = ring && s.injectable p n) with
  | [] => none
  | p :: ps => some (ps.foldl (fun a b => if ringUrgency a.age < ringUrgency b.age then b else a) p)

/-- Replace one packet. -/
def State.ringPut (s : State) (p q : RingPkt) : State :=
  s.updRings (fun r => { r with pkts := r.pkts.map (fun x => if x = p then q else x) })

/-- A stop's injection on a ring in token `n` (R234, R243): the next unit of the packet under way, or the header of the next
packet, where the slot at the stop may be filled.  A packet under way may reserve without waiting. -/
def State.ringInject (s : State) (ring stop n : Nat) : State :=
  let k := 4 * stop + ring
  let f := Table.get ({} : RingFeed) s.rings.feeds k
  if f.left ≠ 0 then
    if s.slotFree ring stop n then
      (s.fillSlot { ring := ring, src := stop, dst := f.dst, flow := f.flow, seq := f.seq, at_ := n, taken := f.taken }).updRings
        (fun r => { r with feeds := Table.set {} r.feeds k (if f.left = 1 then {} else { f with left := f.left - 1 }) })
    else s.reserveSlot ring stop n
  else match s.nextInjection ring stop n with
    | none => s
    | some p =>
      if s.slotFree ring stop n then
        let fk := flowKey p.src p.dst p.kind
        ((s.fillSlot { ring := ring, src := stop, dst := p.dst, head := true, flow := fk, seq := p.seq, at_ := n }).ringPut p
          { p with place := .flying, since := n }).updRings (fun r => { r with
            feeds := Table.set {} r.feeds k { dst := p.dst, flow := fk, seq := p.seq, left := p.units }
            holds := if p.age = 0 then r.holds else Table.set 0 r.holds fk (n + 64) })
      else s

/-- The rings in a token (R233, R234): every slot moves on one stop, what has reached its end leaves, every stop with
something to send fills a slot of each ring. -/
def State.ringStep (s : State) : State :=
  let n := s.tokens + 1
  let s := s.updRings (fun r => { r with slots := r.slots.filter (·.rides n), ejected := r.ejected.filter (fun e => n < e.until_)
                                         holds := r.holds.filter (fun h => n < h.2) })
  let feeding : List Nat := s.rings.feeds.map (fun f => f.1)
  let queued : List Nat := (s.rings.pkts.filter (fun p => p.place = .queued)).map (fun p => 4 * p.src + p.ring)
  (feeding ++ queued).eraseDups.foldl (fun s k => s.ringInject (k % 4) (k / 4) n) s

/-- A packet joins its stop's queue for a ring, with its SEQ, and is injected at once if the slot at the stop allows (R236, R243). -/
def State.ringQueue (s : State) (p : RingPkt) : State :=
  let k := flowKey p.src p.dst p.kind
  let p := { p with seq := Table.get 0 s.rings.seq k, place := .queued, since := s.tokens }
  (s.updRings (fun r => { r with pkts := r.pkts ++ [p], seq := Table.set 0 r.seq k ((p.seq + 1) % 256) })).ringInject p.ring p.src s.tokens

/-- A block asks its stop to send (R238): without a route a non-posted packet is answered NO_TARGET, a posted one discarded.
DESIGN CHOICE (log 54): with no tag to be had a non-posted request is dropped, and a tag's first use has GEN 1. -/
def State.ringSend (s : State) (p : RingPkt) (owner : RingOwner) : State :=
  let nonPosted := p.kind = kindRead ∨ p.kind = kindWrite
  match s.ringRoute p.src p.dst p.kind with
  | none => if nonPosted then s.emit (.ringAnswer p.src 2) else s.countRing p.src 7
  | some r =>
    if nonPosted then
      match s.freeTag p.src with
      | none => s
      | some t =>
        let g := Table.get ({} : RingTag) s.rings.tags (1024 * p.src + t)
        let s := s.updRings (fun x => { x with tags := Table.set {} x.tags (1024 * p.src + t) { st := .busy owner, gen := (g.gen + 1) % 4 } })
        s.ringQueue { p with ring := r, tag := t, gen := (g.gen + 1) % 4 }
    else s.ringQueue { p with ring := r }

/-! Cells of fabric packets (R681, R61) -/

/-- The cell bodies of a packet: header and the first 96 bytes, then 128 bytes each (R38). -/
def packetCells (h : Header) (payload : List Byte) : List (BitVec 1024) :=
  let first : BitVec 1024 := BitVec.ofNat 1024 (natOfBytes (payload.take 96) * 2 ^ 256 + h.toBits.toNat)
  first :: (List.range (cellsOf payload.length - 1)).map (fun i =>
    BitVec.ofNat 1024 (natOfBytes ((payload.drop (96 + 128 * i)).take 128)))

/-- The packet that cell bodies spell. -/
def packetOf (cells : List (BitVec 1024)) : Packet :=
  match cells with
  | [] => {}
  | c :: cs =>
    let h := Header.ofBits (c.extractLsb' 0 256)
    let bytes := (bytesOf c 128).drop 32 ++ (cs.map (fun x => bytesOf x 128)).flatten
    { hdr := h, payload := bytes.take h.length.toNat }

/-- The inner-port stop that a block's packets enter the crossbar through (R59 for clusters; the nearest one for the
others). -/
def innerStop (stop : Nat) : Nat := 8 * (stop / 8) + 2

/-- The ring stop of the block that a packet is handed to (R61, R330): the management controller for station 0, the match
unit of the inner port for messaging, else the home cluster of the station.  Station 0 of an adopted address has no
controller here: its messages and requests go to the blocks that answer them (R28, R521). -/
def State.blockStop (s : State) (h : Header) : Nat :=
  let x := h.dstStation.toNat
  if x = 0 ∧ s.adopted ≠ some h.dstNode then mcStop
  else if h.cmd.toNat / 16 = 1 then 8 * (x % 8) + 5
  else clusterStop (s.stationHome x)

/-- A packet whose CMD is reserved, of a class its range does not allow, or a maker test code while maker debug access is
closed, which it is in SERVICE (R41, R595, Table FAB-10). -/
def State.cmdBad (s : State) (h : Header) : Bool :=
  let c := h.cmd.toNat
  let k := h.cls.toNat
  if c = 0 then true
  else if c < 16 then k != 0 || !(c == 1 || c == 2 || c == 8 || c == 0x0C || c == 0x0D)
  else if c < 32 then decide (0x18 ≤ c) || (k != 2 && k != 3)
  else if c < 64 then decide (0x2B ≤ c) || decide (0x24 ≤ c ∧ c ≤ 0x27) || decide (k < 4)
  else if c < 80 then decide (0x44 ≤ c) || k != 1
  else decide (c < 0xF0) || s.mgmt.lifecycle == .service

/-- Nobody here holds the packet's station (R28, R359, R360, R521, Table TWN-18). -/
def State.unheld (s : State) (h : Header) : Bool :=
  let x := h.dstStation.toNat
  let lent := s.adopted == some h.dstNode
  if lent ∧ (x = 0 ∨ s.twin.st = .surrendered) then true
  else if x = 0 then false
  else if x ≤ 8 then !bit (s.eff R.serviceCtl 0 (x - 1)) 31
  else decide (x < 64) || (s.stationSlice x).isNone

/-- The packet belongs to an operation that expects a response (R28): a message or a remote-memory request. -/
def wantsAnswer (h : Header) : Bool :=
  let c := h.cmd.toNat
  c == 0x10 || c == 0x11 || (0x20 ≤ c && c ≤ 0x23)

/-- The next CELL ring packet of a class from inner port `j` towards the ring (R61, R681): a packet is checked at its first
cell, and waits for its next cell where the ring packet carries two. -/
def State.deliverCells (s : State) (j cls : Nat) : State :=
  let o := 48 + j
  let x := s.output o
  let lost := s.rings.heading.find? (fun g => g.1 = (j, cls) && x.egress.all (fun e => e.pid != g.2.1)
    && x.opened.all (fun e => e.2.2.2 != g.2.1))
  match lost, x.egress.find? (fun e => e.cls = cls) with
  -- the rest of a packet under way has been aborted (R136): the block discards what it has
  | some g, _ => (s.updRings (fun r => { r with heading := r.heading.erase g })).ringSend
      { src := 8 * j + 2, dst := g.2.2, kind := cls, units := 2, flags := 4 } .device
  | none, none => s
  | none, some e =>
    let mine := x.egress.filter (fun g => g.pid = e.pid)
    let dropMine (s : State) : State :=
      let ended := mine.any (·.last)
      (s.updOutput o (fun x => { x with
        egress := x.egress.filter (fun g => g.pid ≠ e.pid)
        dropping := if ended then x.dropping.erase e.pid else if x.dropping.contains e.pid then x.dropping else x.dropping ++ [e.pid] })).settleDeficit
          o cls
    if x.dropping.contains e.pid then dropMine s
    else
      let h := Header.ofBits (e.body.extractLsb' 0 256)
      let bad := if e.first then deliveryCheck h else none
      match bad with
      | some n => dropMine (s.countIn o (n - 1))
      | none =>
        if e.first ∧ s.cmdBad h then dropMine (s.countIn o 14)
        -- a collective packet whose context is not active here reaches station 0x006 (R458)
        else if e.first ∧ h.cmd.toNat / 16 = 4 then dropMine (s.countDev 13)
        else if e.first ∧ s.unheld h ∧ !wantsAnswer h then dropMine (s.countIn o 15)
        else
          let s := if e.first ∧ s.unheld h then s.countIn o 15 else s
          let two := mine.take 2
          let fin := two.any (·.last)
          if two.length < 2 ∧ !fin then s
          else
            let src := 8 * j + 2
            -- the block of a packet under way is the one its first cells went to
            let known := (s.rings.heading.find? (fun g => g.1 = (j, cls) ∧ g.2.1 = e.pid)).map (·.2.2)
            let dst := known.getD (s.blockStop h)
            let rest := s.rings.heading.filter (fun g => !(g.1 = (j, cls) ∧ g.2.1 = e.pid))
            -- the stop's queue for the flow holds one packet: the cells wait in the egress stage (R64, R147)
            if s.rings.pkts.any (fun q => q.inFlow src dst cls && (q.place == .queued || q.place == .returned)) then s
            else
            let s := s.updOutput o (fun x => { x with egress := two.foldl (fun es g => es.erase g) x.egress })
            let s := s.updRings (fun r => { r with heading := if fin then rest else rest ++ [((j, cls), e.pid, dst)] })
            let s := (List.range two.length).foldl (fun s _ => s.countOut o cls) s
            let p : RingPkt :=
              { src := src, dst := dst, kind := cls, units := 2 * two.length, flags := b2n e.first + 2 * b2n fin
                cells := two.map (fun g => s.txBody o g.first g.mark g.body) }
            (s.ringSend p .device).settleDeficit o cls

/-- A packet of a sampled entry is sent. -/
def State.trackSent (s : State) (b : Built) : State :=
  match b.owner with
  | some (n, pos) => s.trackEntry n pos (fun t => { t with
      packets := min 255 (t.packets + 1)
      detour := if t.packets = 0 then b.hdr.routeMode == 1 else t.detour })
  | none => s

/-- The next CELL ring packet of a class that a block's stop sends to its inner port (R59, R681): the oldest packet of the
class goes first, once its payload stands in the inner port's buffer. -/
def State.injectCells (s : State) (stop cls : Nat) : State :=
  match s.built.find? (fun b => b.stop = stop ∧ b.hdr.cls.toNat = cls) with
  | none => s
  | some b =>
    if !b.wait.isEmpty ∨ s.host.devHalt then s
    else
      let cells := packetCells b.hdr b.payload
      let two := (cells.drop b.sent).take 2
      let n := b.sent + two.length
      let fin := cells.length ≤ n
      let s := { s with built := if fin then s.built.erase b else s.built.map (fun x => if x = b then { b with sent := n } else x) }
      let s := if b.sent = 0 then ((s.countSlice b.slice 6).countSlice b.slice 7 b.payload.length).trackSent b else s
      s.ringSend { src := stop, dst := innerStop stop, kind := cls, units := 2 * two.length, slice := b.slice
                   flags := b2n (b.sent == 0) + 2 * b2n fin, cells := two, own := b.owner } .device

/-! Acceptance and hand-over (R147, R239, R240, R247) -/

/-- The inner port of a stop, if it is one (Table RNG-1). -/
def innerOf (stop : Nat) : Option Nat := match stopBlock stop with | .innerPort j => some j | _ => none

/-- Cells of a class that an inner port's input holds. -/
def InBuf.ofClass (b : InBuf) (c : Nat) : Nat :=
  (b.pkts.map (fun k => if k.hdr.cls.toNat = c then k.cells.length else 0)).sum

/-- R147: an inner port has room for `n` more cells of a class. -/
def State.innerRoom (s : State) (j c n : Nat) : Bool :=
  let b := s.input (48 + j)
  let shared := ((List.range 8).map (fun d => b.ofClass d - 32)).sum
  let extra := (b.ofClass c + n - 32) - (b.ofClass c - 32)
  decide (shared + extra ≤ 1792)

/-- The host port of a stop, if it is one (Table RNG-1). -/
def hostOf (stop : Nat) : Option Nat := match stopBlock stop with | .hostPort k => some k | _ => none

/-- The clocked island whose crossing a stop feeds (Table RNG-8): host-port controllers 0–3, the caddy's 4. -/
def islandOf (stop : Nat) : Option Nat := match stopBlock stop with | .hostPort k => some k | .caddy => some 4 | _ => none

/-- Entries that a crossing holds (Table RNG-8). -/
def islandDepth (i : Nat) : Nat := if i = 4 then 16 else 64

/-- The receiving block takes the KIND now (R239): an inner port as R147 says, in a device halt no first cell (R322); a stop with a
crossing while that is not full (R252).  DESIGN CHOICE (log 54): any other block serves every KIND. -/
def State.takesKind (s : State) (p : RingPkt) : Bool :=
  match stopBlock p.dst with
  | .innerPort j => decide (p.kind ≤ 7) && (!s.host.devHalt || p.flags % 2 = 0) && s.innerRoom j p.kind p.cells.length
  | .spare => false
  | _ => match islandOf p.dst with
    | some i => decide ((Table.get [] s.rings.waits i).length < islandDepth i)
    | none => true

/-- The stop blocks the packet's flow (R240). -/
def State.ringBlocked (s : State) (p : RingPkt) : Bool :=
  s.rings.blocks.any (fun b => b.dst = p.dst ∧ b.src = p.src ∧ b.ring = p.ring ∧ b.kind = p.kind ∧ s.tokens < b.until_)

/-- Units free in the ejection buffer of a stop and ring, 40 in all (R239). -/
def State.ejectFree (s : State) (stop ring : Nat) : Nat :=
  40 - ((s.rings.ejected.filter (fun e => e.stop = stop && e.ring = ring && s.tokens < e.until_)).map (·.units)).sum

/-- Key under which an inner port's input keeps the packet open from a stop, by class. -/
def innerKey (src cls : Nat) : Nat := src * 8 + cls

/-- The fabric packet that a source has open towards an inner port or a block is aborted (R136, R247). -/
def State.ringAbort (s : State) (p : RingPkt) : State :=
  match innerOf p.dst with
  | some j =>
    let x := 48 + j
    let k := innerKey p.src p.kind
    match Table.get RxOpen.none (s.input x).openCls k with
    | .pkt x' st => (s.updInput x (fun b => { b with openCls := Table.set .none b.openCls k .drop })).abortPkt x' st 4
    | _ => s
  | none => s.updRings (fun r => { r with asm := r.asm.filter (fun a => !(a.dst = p.dst ∧ a.src = p.src ∧ a.kind = p.kind)) })

/-- The first cell of a packet at an inner port from the ring (R60, R175, R160): its checks, route, RED and queue.  A refused
packet's later cells are dropped. -/
def State.innerFirst (s : State) (j : Nat) (p : RingPkt) (b : BitVec 1024) : State × Bool :=
  let x := 48 + j
  let h := Header.ofBits (b.extractLsb' 0 256)
  let k := innerKey p.src p.kind
  let cls := h.cls.toNat
  let drop (s : State) : State := s.updInput x (fun q => { q with openCls := Table.set .none q.openCls k .drop })
  match innerCheck h with
  | some n => (drop (s.countIn x (n - 1)), true)
  | none =>
  -- DESIGN CHOICE (log 53): as for a packet from a link
  if !s.nodeValid then (drop (s.routeFault h x .noRoute), false)
  else
  let s := s.noteRoute (s.routeReads h)
  match s.route h x 63 with
  | .error f => (drop (s.routeFault h x f), false)
  | .ok (o, v) =>
    let (s, o, moved) := s.applyAlt h x o
    let (s, dropped, mark) := s.red x o cls h.colour
    if dropped then (drop s, false)
    else
      let (s, st) := s.enqueue x { out := o, vc := v, hdr := h, mark := mark, total := cellsOf h.length.toNat
                                   cells := [b], arrived := 1, own := p.own, moved := moved }
      ((s.countXbr x (48 + cls)).updInput x (fun q => { q with openCls := Table.set .none q.openCls k (.pkt x st) }), false)

/-- A later cell at an inner port from the ring. -/
def State.innerLater (s : State) (j : Nat) (p : RingPkt) (b : BitVec 1024) : State :=
  let x := 48 + j
  match Table.get RxOpen.none (s.input x).openCls (innerKey p.src p.kind) with
  | .pkt x' st =>
    match (s.input x').find st with
    | some k => (s.updInput x' (·.put { k with cells := k.cells ++ [b], arrived := k.arrived + 1 })).countXbr x' (48 + k.hdr.cls.toNat)
    | none => s
  | _ => s

/-- A CELL packet is handed to an inner port (R681); true where the port refuses a header (R60).  ABORT ends the packet that
the source has open (R136). -/
def State.innerCells (s : State) (j : Nat) (p : RingPkt) : State × Bool :=
  match p.cells with
  | [] => if p.flags / 4 % 2 = 1 then
      ((s.ringAbort p).updInput (48 + j) (fun q => { q with openCls := Table.set .none q.openCls (innerKey p.src p.kind) .none }), false)
    else (s, false)
  | b :: bs =>
    let (s, bad) := if p.flags % 2 = 1 then s.innerFirst j p b else (s.innerLater j p b, false)
    let s := bs.foldl (fun s c => s.innerLater j p c) s
    let s := if p.flags / 2 % 2 = 1 then
        s.updInput (48 + j) (fun q => { q with openCls := Table.set .none q.openCls (innerKey p.src p.kind) .none })
      else s
    (s, bad)

/-- A CELL packet is handed to a block, which has the fabric packet once its last cell is there (R681). -/
def State.blockCells (s : State) (p : RingPkt) : State :=
  let same (a : RingAsm) : Bool := a.dst == p.dst && a.src == p.src && a.kind == p.kind
  let before := if p.flags % 2 = 1 then [] else ((s.rings.asm.find? same).map (·.cells)).getD []
  let others := s.rings.asm.filter (fun a => !same a)
  if p.flags / 4 % 2 = 1 then s.updRings (fun r => { r with asm := others })
  else if p.flags % 2 = 0 ∧ before.isEmpty then s
  else
    let cells := before ++ p.cells
    if p.flags / 2 % 2 = 1 then
      let s := s.updRings (fun r => { r with asm := others })
      let k := packetOf cells
      -- a request message that R560 discards
      if p.dst = mcStop ∧ k.hdr.cmd = 1 ∧ fdpMalformed k.payload then s.countDev 8
      else { s with arrived := s.arrived ++ [{ stop := p.dst, pkt := k }] }
    else s.updRings (fun r => { r with asm := others ++ [{ dst := p.dst, src := p.src, kind := p.kind, cells := cells }] })

/-- A RESPONSE reaches its initiator (R245): one whose tag is free or quarantined, or whose GEN differs, is discarded. -/
def State.ringResponse (s : State) (p : RingPkt) : State :=
  let k := 1024 * p.dst + p.tag
  let t := Table.get ({} : RingTag) s.rings.tags k
  match t.st with
  | .busy _ =>
    if t.gen = p.gen then
      (s.updRings (fun r => { r with tags := Table.set {} r.tags k { t with st := .free } })).emit (.ringAnswer p.dst p.status)
    else s.countRing p.dst 4
  | _ => s.countRing p.dst 4

/-- An accepted packet is compared with EXPECT and handed over (R247); true where an inner port refuses its header. -/
def State.ringHandOver (s : State) (p : RingPkt) : State × Bool :=
  let k := flowKey p.src p.dst p.kind
  let d := (p.seq + 256 - Table.get 0 s.rings.expect k) % 256
  let s := if d ≠ 0 ∧ p.kind ≤ 7 then s.ringAbort p else s
  if 128 ≤ d then (s.countRing p.dst 6, false)
  else
    let s := if d = 0 then s else s.countRing p.dst 5 d
    let s := s.updRings (fun r => { r with expect := Table.set 0 r.expect k ((p.seq + 1) % 256) })
    if p.kind ≤ 7 then
      match innerOf p.dst with
      | some j => s.innerCells j p
      | none => (s.blockCells p, false)
    else if p.kind = kindResponse then (s.ringResponse p, false)
    else match p.item with
    | some (id, e) => (s.stolenArrives id e, false)
    | none => (s.emit (.ringUnit p), false)

/-- Take one packet off the rings. -/
def State.ringTake (s : State) (p : RingPkt) : State := s.updRings (fun r => { r with pkts := r.pkts.erase p })
/-- The packet of a flow whose header reaches the destination next: the first on the ring that has come so far (R233). -/
def State.ringNext (s : State) (src dst kind : Nat) : Option RingPkt :=
  s.rings.pkts.find? (fun p => p.inFlow src dst kind && p.place == .flying && decide (p.since + ringHops p.ring p.src p.dst ≤ s.tokens))

/-- A stop that is a host port in reset answers TARGET_RESET to what is non-posted and discards the rest (R255). -/
def State.resetAnswer (s : State) (k : Nat) (p : RingPkt) : State :=
  if p.kind = kindRead ∨ p.kind = kindWrite then
    (s.countHost k 13).ringSend { src := p.dst, dst := p.src, kind := kindResponse, units := 1, tag := p.tag, gen := p.gen
                                  slice := p.slice, status := 1 } .device
  else s.countRing p.dst 7

/-- The destination takes the packet's units off the ring as they arrive (R236, R239). -/
def State.ringMark (s : State) (p : RingPkt) : State :=
  let fk := flowKey p.src p.dst p.kind
  let k := 4 * p.src + p.ring
  s.updRings (fun r =>
    let f := Table.get ({} : RingFeed) r.feeds k
    { r with
      slots := r.slots.map (fun u => if u.flow = fk ∧ u.seq = p.seq ∧ p.since ≤ u.at_ then { u with taken := true } else u)
      feeds := if f.left ≠ 0 ∧ f.flow = fk ∧ f.seq = p.seq then Table.set {} r.feeds k { f with taken := true } else r.feeds })

/-- The accepted packet's units stand in the ejection buffer until the last is handed on (R239). -/
def State.ringAccept (s : State) (p : RingPkt) : State :=
  (s.ringMark p).updRings (fun r => { r with
    ejected := r.ejected ++ [{ stop := p.dst, ring := p.ring, units := p.units + 1, until_ := s.tokens + p.units }] })

/-- An accepted packet goes on to its block: through the crossing of a clocked island, where it waits behind what waits
there and for a stopped clock (R254). -/
def State.ringCross (s : State) (p : RingPkt) : State × Bool :=
  match islandOf p.dst with
  | none => s.ringHandOver p
  | some i =>
    let q := Table.get [] s.rings.waits i
    if q.isEmpty ∧ Config.islandRuns i s.draws then s.drawn.ringHandOver p
    else (s.drawn.updRings (fun r => { r with waits := Table.set [] r.waits i (q ++ [p]) }), false)

/-- The clock of an island may have come to run: the waiting entries go on, in order (R254). -/
def State.islandWake (s : State) (i : Nat) : State :=
  match Table.get [] s.rings.waits i with
  | [] => s
  | q => if Config.islandRuns i s.draws then
      q.foldl (fun s p => (s.ringHandOver p).1) (s.drawn.updRings (fun r => { r with waits := Table.set [] r.waits i [] }))
    else s.drawn

/-- A controller enters reset (R255, R257): what waits at a host port's stop is answered or discarded; the caddy's entries
are discarded, the wake request with them. -/
def State.islandReset (s : State) (i : Nat) : State :=
  let q := Table.get [] s.rings.waits i
  let s := s.updRings (fun r => { r with waits := Table.set [] r.waits i [] })
  if i = 4 then s else q.foldl (fun s p => s.resetAnswer i p) s

/-- A header reaches its destination (R236, R239, R240); true where an inner port refuses the packet's header. At most `free`
units stand free in the ejection buffer. -/
def State.ringArrive (s : State) (p : RingPkt) (free : Nat) : State × Bool :=
  let inReset : Bool := match hostOf p.dst with | some k => (s.hport k).perst && s.hostRole k != 2 | none => false
  if s.ringBlocked p ∨ !s.takesKind p ∨ min free (s.ejectFree p.dst p.ring) < p.units + 1 + ringRes p.age then
    ((s.ringPut p { p with place := .refused }).updRings (fun r => { r with
      blocks := { dst := p.dst, src := p.src, ring := p.ring, kind := p.kind, until_ := s.tokens + 64 }
        :: r.blocks.filter (fun b => s.tokens < b.until_) }), false)
  else
    let s := (s.ringTake p).ringAccept p
    match hostOf p.dst with
    | some k => if inReset then (s.resetAnswer k p, false) else s.ringCross p
    | none => s.ringCross p

/-- A packet waiting at its stop has lost its ring: it takes the substitute, or, where none is in service, goes as without a
route (R238, R249). -/
def State.ringRequeue (s : State) (p : RingPkt) : State :=
  match s.ringRoute p.src p.dst p.kind with
  | some r => s.ringPut p { p with ring := r }
  | none =>
    let s := s.ringTake p
    if p.kind = kindRead ∨ p.kind = kindWrite then
      (s.updRings (fun x => { x with tags := Table.upd {} x.tags (1024 * p.src + p.tag) (fun t => { t with st := .free }) })).emit
        (.ringAnswer p.src 2)
    else s.countRing p.src 7

/-- A ring leaves service (R248, R249): its RING_ENABLE bit clears, what is on it is lost, what waits takes the substitute
ring. -/
def State.ringOut (s : State) (r : Nat) : State :=
  let ctl := s.reg R.ringCtl
  let s := s.setReg R.ringCtl 0 0 (ctl &&& ~~~ (BitVec.ofNat 1024 (2 ^ r)))
  let s := s.updRings (fun x => { x with
    pkts := x.pkts.filter (fun p => !(p.ring = r ∧ (p.place = .flying ∨ p.place = .refused)))
    slots := x.slots.filter (fun u => u.ring ≠ r), feeds := x.feeds.filter (fun f => f.1 % 4 ≠ r)
    resv := x.resv.filter (fun v => v.ring ≠ r) })
  (s.rings.pkts.filter (fun p => p.ring = r)).foldl (fun s p => s.ringRequeue p) s

end Sys2Proof.Machine
end

