-- ==== Sys2Proof/Machine/TransOps.lean ====
section
/-! DEFINITION. Operations of address translation (chapter 12): the look-aside buffer, translating an access, walks,
pending misses and fault records. -/

namespace Sys2Proof.Machine

def State.updTrans (s : State) (f : Trans → Trans) : State := { s with trans := f s.trans }

/-! Fields of a page entry (Tables TRN-2, TRN-3) -/

/-- log2 of the pages that one slot covers (Table TRN-4). -/
def contigLog (c : Nat) : Nat := nthD 0 [0, 2, 4, 6, 9, 12, 15, 18] c
/-- OA of a page entry, as a page number. -/
def pteOa {w : Nat} (e : BitVec w) : Nat := fldN e 51 12
/-- CONTIG of a page entry. -/
def pteContig {w : Nat} (e : BitVec w) : Nat := fldN e 7 5
/-- A reserved bit of a page entry is set; at stage 2, U is reserved (Table TRN-3). -/
def pteReserved {w : Nat} (e : BitVec w) (stage : Nat) : Bool := fldN e 11 8 != 0 || bit e 3 || (stage == 2 && bit e 4)
/-- OA and the input page number disagree in their lowest log2 N bits (R366). -/
def pteMisaligned {w : Nat} (e : BitVec w) (page : Nat) : Bool :=
  let n := 2 ^ contigLog (pteContig e)
  pteOa e % n != page % n

/-- The slot that a page entry and an input page make. -/
def slotOf {w : Nat} (sl stage : Nat) (e : BitVec w) (page : Nat) (pin : Bool) : TSlot :=
  let n := 2 ^ contigLog (pteContig e)
  { slice := sl, stage := stage, contig := pteContig e, page := page / n * n, oa := pteOa e / n * n
    r := bit e 1, w := bit e 2, u := bit e 4, pin := pin }

/-! The look-aside buffer (R368, R369) -/

/-- The set of an input page at a size. -/
def tlbSet (sl stage c page : Nat) : Nat :=
  crc16 (leBytes sl 1 ++ leBytes stage 1 ++ leBytes c 1 ++ leBytes (page >>> contigLog c) 5) % 4096

/-- The ways of a set. -/
def State.tlbWays (s : State) (n : Nat) : List TSlot := Table.get [] s.trans.tlb n
def State.setWays (s : State) (n : Nat) (w : List TSlot) : State :=
  s.updTrans (fun t => { t with tlb := Table.set [] t.tlb n w })

/-- A slot covers an input page of a slice and stage. -/
def TSlot.covers (t : TSlot) (sl stage page : Nat) : Bool :=
  t.slice == sl && t.stage == stage && decide (t.page ≤ page ∧ page < t.page + 2 ^ contigLog t.contig)

/-- The serving slot of an input address: the hit of the smallest size (R368), with its set. -/
def State.tlbFind (s : State) (sl stage x : Nat) : Option (Nat × TSlot) :=
  (List.range 8).findSome? (fun c =>
    let n := tlbSet sl stage c (x / 4096)
    ((s.tlbWays n).find? (fun t => t.contig = c ∧ t.covers sl stage (x / 4096))).map (fun t => (n, t)))

/-- A lookup: the slot serves and becomes the most recently used of its set. -/
def State.tlbLookup (s : State) (sl stage x : Nat) : State × Option TSlot :=
  match s.tlbFind sl stage x with
  | none => (s.countSlice sl 14, none)
  | some (n, t) => (s.setWays n (t :: (s.tlbWays n).erase t), some t)

/-- Output address of an input address in a slot (R370). -/
def TSlot.out (t : TSlot) (x : Nat) : Nat := t.oa * 4096 + (x - t.page * 4096)

/-- Remove the last way that is not pinned. -/
def dropLeastUsed (w : List TSlot) : List TSlot :=
  match w.reverse.find? (fun t => !t.pin) with
  | some t => (w.reverse.erase t).reverse
  | none => w

/-- A load (R369); none where a pinned load finds its set holding 8 pinned slots. -/
def State.tlbPut (s : State) (t : TSlot) : Option State :=
  let n := tlbSet t.slice t.stage t.contig t.page
  let ways := s.tlbWays n
  let same (x : TSlot) : Bool := x.slice == t.slice && x.stage == t.stage && x.contig == t.contig && x.page == t.page
  let others := ways.filter (fun x => !same x)
  if t.pin ∧ 8 ≤ (others.filter (·.pin)).length then none
  else if others.length < 16 then some (s.setWays n (t :: others))
  else some (s.setWays n (t :: dropLeastUsed others))

/-- Remove slots. -/
def State.tlbRemove (s : State) (p : TSlot → Bool) : State :=
  (s.trans.tlb.map (·.1)).foldl (fun s n => s.setWays n ((s.tlbWays n).filter (fun t => !p t))) s

/-! Modes (R370, R380) -/

/-- STAGE1_MODE is TRANSLATE. -/
def State.stage1On (s : State) (sl : Nat) : Bool := bit (s.reg R.transCtl sl) 61
/-- STAGE2_MODE: 0 CLOSED, 1 TRANSLATE, 2 BYPASS. -/
def State.stage2Mode (s : State) (sl : Nat) : Nat := fldN (s.reg R.transStageTwo sl) 63 62
/-- The stage's misses go to software: DRIVER, OWNER. -/
def State.handled (s : State) (sl stage : Nat) : Bool :=
  if stage = 1 then bit (s.reg R.transCtl sl) 60 else bit (s.reg R.transStageTwo sl) 61
/-- Table of level 1 of a stage. -/
def State.root (s : State) (sl stage : Nat) : Nat :=
  if stage = 1 then fldN (s.reg R.transCtl sl) 47 12 * 4096 else fldN (s.reg R.transStageTwo sl) 51 12 * 4096
/-- A WQ on this doorbell page is supervisor (R364). -/
def State.supervisor (s : State) (sl page : Nat) : Bool := decide (page < fldN (s.reg R.transCtl sl) 57 48)

def State.memLink (s : State) (m : Nat) : MemLink := Table.get {} s.service.links m

/-- A memory address decodes to a link that is ACTIVE (R491, R492). -/
def State.memReady (s : State) (a : Nat) : Bool :=
  match s.decodeMem a with
  | some (_, m) => (s.memLink m).st == .active
  | none => false

/-- The fault source of a memory link (Table FLT-2), and that of the link of a memory address. -/
def memSource (m : Nat) : Nat := 0x512 + 4 * (m / 2) + m % 2
def State.memFault (s : State) (a : Nat) : State :=
  match s.decodeMem a with
  | some (_, m) => s.raise (memSource m)
  | none => s

/-! Guard, rights, fault records (R370, R372, R378, R379) -/

/-- The cause for which an access may not use a slot: at stage 1 the supervisor guard comes before the rights. -/
def denyCause (stage : Nat) (t : TSlot) (a : Access) : Option Nat :=
  let guard : Option Nat :=
    if stage ≠ 1 then none
    else if !a.priv then (if t.u then none else some 7)
    else if !t.u then none
    else if a.kind = .descriptor then some 9
    else if a.grant then none else some 8
  match guard with
  | some c => some c
  | none =>
    match a.kind with
    | .read | .descriptor => if t.r then none else some 5
    | .write => if t.w then none else some 6
    | .atomic => if !t.r then some 5 else if !t.w then some 6 else none

/-- The DETAIL word (Table TRN-6). -/
def detailWord (a : Access) (stage lv cause s1 : Nat) : Nat :=
  at' 15 (b2n a.priv) + at' 12 a.kind.code + at' 8 cause + at' 5 s1 + at' 2 lv + stage

/-- A translation fault is recorded (R379). -/
def State.tfault (s : State) (a : Access) (stage lv cause s1 x : Nat) : State × TFault :=
  let d := detailWord a stage lv cause s1
  let s := (s.countSlice a.slice 15).setReg R.transFault a.slice 0 (BitVec.ofNat 1024 (at' 48 d + x % 2 ^ 48))
  let s := if bit (s.reg R.transCtl a.slice) 59 then
      s.sliceEvent a.slice 0x21 (if a.inbound then 0xFFFF else a.wq) (d + at' 32 (x % 2 ^ 48))
    else s
  (s, { detail := d, addr := x })

/-- CAUSE of a DETAIL word. -/
def TFault.cause (f : TFault) : Nat := f.detail / 256 % 16
/-- The local and the remote completion code of a fault (R378). -/
def TFault.local (f : TFault) : Comp :=
  if 5 ≤ f.cause ∧ f.cause ≤ 9 then .localProtection else .localTranslationFault
def TFault.remote (f : TFault) : Comp :=
  if 5 ≤ f.cause ∧ f.cause ≤ 9 then .remoteProtection else .remoteTranslationFault

/-- How a translation comes out. -/
inductive XRes where
  /-- the bus address, or the memory address in service mode -/
  | hit (bus : Nat)
  | fault (f : TFault)
  /-- a walk is under way -/
  | wait (id : Nat)
  /-- trapped to software, or no pending miss is free -/
  | trap (id : Nat)
  | noMiss
  /-- the function that the walk needs cannot issue requests -/
  | noFunc
  deriving DecidableEq, Repr

/-! Misses and walks (R373–R377) -/

/-- A sampled entry has met a TLB miss. -/
def State.trackMiss (s : State) (who : Who) : State :=
  match who with
  | .item n pos => s.trackEntry n pos (fun t => { t with tlbMiss := true })
  | _ => s

/-- Two addresses lie in one 4 KiB page. -/
def samePage (a b : Nat) : Bool := a / 4096 == b / 4096

/-- A miss traps to software (R375, R376), or joins the pending miss of its page. -/
def State.trapMiss (s : State) (who : Who) (a : Access) (stage x s1 : Nat) : State × XRes :=
  match s.trans.misses.find? (fun m => m.slice = a.slice ∧ m.stage = stage ∧ samePage m.ia x) with
  | some m =>
    (s.updTrans (fun t => { t with misses := t.misses.map (fun n =>
      if n.id = m.id ∧ !n.waiters.contains (who, a) then { n with waiters := n.waiters ++ [(who, a)] } else n) }), .trap m.id)
  | none =>
    if 4096 ≤ s.trans.misses.length
        ∨ fldN (s.reg R.missCtl) 7 0 ≤ (s.trans.misses.filter (fun m => m.slice = a.slice)).length then (s, .noMiss)
    else
      let slot := ((List.range 4096).find? (fun i => s.trans.misses.all (fun m => m.id % 4096 ≠ i))).getD 0
      let id := slot + 4096 * Table.get 0 s.trans.gens slot
      let s := s.updTrans (fun t => { t with
        misses := t.misses ++ [{ id := id, slice := a.slice, stage := stage, ia := x, waiters := [(who, a)] }]
        gens := Table.set 0 t.gens slot ((Table.get 0 t.gens slot + 1) % 16) })
      (s.sliceEvent (if stage = 1 then a.slice else 0) 0x20 (id + at' 16 a.slice)
        (detailWord a stage 0 0 s1 + at' 32 (x % 2 ^ 48)), .trap id)

/-- Index of a level in an input address (R373). -/
def walkIndex (x lv : Nat) : Nat := x / 2 ^ (48 - 9 * lv) % 512

/-- A walk's read of a table entry is issued (R373): a stage-1 read through the access's function, a stage-2 read through the
physical function of the same link. -/
def State.walkRead (s : State) (w : Walk) (bus : Nat) : State :=
  let f := if w.stage = 1 ∨ w.acc.func = memFunc then w.acc.func else funcPf w.acc.func
  (s.hostReadN { func := f, slice := w.acc.slice, addr := bus, owner := .walk w.id } 1 0 8).1

def State.putWalk (s : State) (w : Walk) : State :=
  s.updTrans (fun t => { t with walks := t.walks.map (fun v => if v.id = w.id then w else v) })

/-- A stage-2 walk reads its next entry; in service mode its tables lie in pools of slice 0 (R496). -/
def State.step2 (s : State) (w : Walk) : State × Option Nat :=
  let a := w.base + 8 * walkIndex w.ia w.lv
  if s.serviceMode ∧ !s.inPool 0 a then (s, some 10) else (s.walkRead w a, none)

/-- Join the walk of a page, or start one at stage 2. -/
def State.miss2 (s : State) (who : Who) (a : Access) (x s1 : Nat) : State × XRes :=
  if s.handled a.slice 2 then
    if a.inbound then let (s, f) := s.tfault a 2 0 14 s1 x; (s, .fault f) else s.trapMiss who a 2 x s1
  else match s.trans.walks.find? (fun w => w.stage = 2 ∧ w.acc.slice = a.slice ∧ samePage w.ia x) with
  | some w =>
    (if w.waiters.contains (who, a) then s else s.putWalk { w with waiters := w.waiters ++ [(who, a)] }, .wait w.id)
  | none =>
    let f := if a.func = memFunc then a.func else funcPf a.func
    let own : Bool := match who with | .walk _ => false | _ => true
    if own ∧ !s.mayIssue f then (s, .noFunc)
    else
      let w : Walk := { id := s.trans.nextWalk, acc := a, stage := 2, ia := x, base := s.root a.slice 2
                        waiters := [(who, a)] }
      match s.step2 w with
      | (s, some c) => let (s, f) := s.tfault a 2 1 c s1 x; (s, .fault f)
      | (s, none) =>
        (s.updTrans (fun t => { t with walks := t.walks ++ [w], nextWalk := t.nextWalk + 1 }), .wait w.id)

/-- Stage 2 of an access at intermediate address `x` (R370, R496); `s1` is the level of the stage-1 table it addresses. -/
def State.xlate2 (s : State) (who : Who) (a : Access) (x s1 : Nat) : State × XRes :=
  let sl := a.slice
  let pools (s : State) (bus : Nat) : State × XRes :=
    if !s.serviceMode then (s, .hit bus)
    else if !s.inPool sl bus then let (s, f) := s.tfault a 2 4 1 s1 x; (s, .fault f)
    else if s.memReady bus then (s, .hit bus)
    else let (s, f) := s.tfault a 2 4 10 s1 x; (s.memFault bus, .fault f)
  if s.stage2Mode sl = 0 then let (s, f) := s.tfault a 2 0 11 s1 x; (s, .fault f)
  else if s.stage2Mode sl = 2 then pools s x
  else if 2 ^ 48 ≤ x then let (s, f) := s.tfault a 1 4 3 s1 a.ia; (s, .fault f)
  else match s.tlbLookup sl 2 x with
  | (s, none) => (s.trackMiss who).miss2 who a x s1
  | (s, some t) =>
    match denyCause 2 t (if s1 = 0 then a else { a with kind := .descriptor }) with
    | some c => let (s, f) := s.tfault a 2 4 c s1 x; (s, .fault f)
    | none => pools s (t.out x)

/-- A stage-1 walk addresses its next entry: through stage 2, unless that is bypassed (R373). -/
def State.step1 (s : State) (w : Walk) : State × XRes :=
  let a := w.base + 8 * walkIndex w.ia w.lv
  if s.stage2Mode w.acc.slice ≠ 2 ∧ 2 ^ 48 ≤ a then
    let (s, f) := s.tfault w.acc 1 w.lv 3 0 w.ia; (s, .fault f)
  else match s.xlate2 (.walk w.id) w.acc a w.lv with
  | (s, .hit bus) => (s.walkRead w bus, .hit bus)
  | r => r

/-- The walk waits for what its table address waits for. -/
def Walk.after (w : Walk) (r : XRes) : Walk :=
  match r with
  | .wait id => { w with on := .walk id }
  | .trap id => { w with on := .miss id }
  | .noMiss => { w with on := .free }
  | _ => { w with on := .read }

/-- Join the walk of a page, or start one at stage 1; or trap (R373, R375, R377). -/
def State.miss1 (s : State) (who : Who) (a : Access) : State × XRes :=
  let x := a.ia
  if s.handled a.slice 1 then
    if a.inbound then let (s, f) := s.tfault a 1 0 14 0 x; (s, .fault f) else s.trapMiss who a 1 x 0
  else match s.trans.walks.find? (fun w => w.stage = 1 ∧ w.acc.slice = a.slice ∧ samePage w.ia x) with
  | some w =>
    (if w.waiters.contains (who, a) then s else s.putWalk { w with waiters := w.waiters ++ [(who, a)] },
     match w.on with | .miss id => .trap id | _ => .wait w.id)
  | none =>
    if !s.mayIssue a.func then (s, .noFunc)
    else
      let w : Walk := { id := s.trans.nextWalk, acc := a, stage := 1, ia := x, base := s.root a.slice 1
                        waiters := [(who, a)] }
      let s := s.updTrans (fun t => { t with nextWalk := t.nextWalk + 1 })
      match s.step1 w with
      | (s, .fault f) => (s, .fault f)
      | (s, r) =>
        (s.updTrans (fun t => { t with walks := t.walks ++ [w.after r] }),
         match r with | .trap id => .trap id | _ => .wait w.id)

/-- Translate an access (R370). -/
def State.xlate (s : State) (who : Who) (a : Access) : State × XRes :=
  match s.trans.ended.find? (fun e => e.1 = who ∧ e.2.1.slice = a.slice ∧ samePage e.2.1.ia a.ia ∧ e.2.1.kind = a.kind) with
  | some e => (s.updTrans (fun t => { t with ended := t.ended.erase e }), .fault e.2.2)
  | none =>
    if a.both ∧ s.stage1On a.slice then
      match s.tlbLookup a.slice 1 a.ia with
      | (s, none) => (s.trackMiss who).miss1 who a
      | (s, some t) =>
        match denyCause 1 t a with
        | some c => let (s, f) := s.tfault a 1 4 c 0 a.ia; (s, .fault f)
        | none => s.xlate2 who a (t.out a.ia) 0
    else s.xlate2 who a a.ia 0

/-- Translate `len` bytes from an access on, page by page in address order (R371): the spans before the first page that
does not come out, and how that page came out. -/
def State.xlateSpan (s : State) (who : Who) (a : Access) : Nat → Nat → State × Spans × Option XRes
  | 0, _ => (s, [], none)
  | n + 1, len =>
    if len = 0 then (s, [], none)
    else
      let k := min len (4096 - a.ia % 4096)
      match s.xlate who a with
      | (s, .hit bus) =>
        let (s, t, r) := s.xlateSpan who (a.shift k) n (len - k)
        (s, (bus, k, a) :: t, r)
      | (s, r) => (s, [], some r)

/-- Accesses waiting on a walk or a miss end with a fault (R373, R375, R376): a stage-1 walk among them ends for its own
waiters with the stage-2 fault and its level. -/
def State.endWaiters (s : State) (ws : List (Who × Access)) (stage lv cause s1 x : Nat) : State :=
  ws.foldl (fun s w =>
    match w.1 with
    | .walk id =>
      match s.trans.walks.find? (fun v => v.id = id) with
      | none => s
      | some v =>
        let s := s.updTrans (fun t => { t with walks := t.walks.filter (fun u => u.id ≠ id) })
        v.waiters.foldl (fun s u =>
          let (s, f) := s.tfault u.2 stage lv cause v.lv x
          s.updTrans (fun t => { t with ended := t.ended ++ [(u.1, u.2, f)] })) s
    | _ =>
      let y := if stage = 1 then w.2.ia else x / 4096 * 4096 + w.2.ia % 4096
      let (s, f) := s.tfault w.2 stage lv cause s1 y
      s.updTrans (fun t => { t with ended := t.ended ++ [(w.1, w.2, f)] })) s

/-- Stage-1 walks that waited for a walk or a miss go on. -/
def State.resumeWalks (s : State) (ws : List (Who × Access)) : State :=
  ws.foldl (fun s w =>
    match w.1 with
    | .walk id =>
      match s.trans.walks.find? (fun v => v.id = id) with
      | none => s
      | some v =>
        match s.step1 v with
        | (s, .fault f) =>
          let s := s.updTrans (fun t => { t with walks := t.walks.filter (fun u => u.id ≠ id) })
          v.waiters.foldl (fun s u => s.updTrans (fun t => { t with ended := t.ended ++ [(u.1, u.2, f)] })) s
        | (s, r) => s.putWalk (v.after r)
    | _ => s) s

/-- A walk ends with a fault. -/
def State.walkFault (s : State) (w : Walk) (cause lv : Nat) : State :=
  (s.updTrans (fun t => { t with walks := t.walks.filter (fun v => v.id ≠ w.id) })).endWaiters w.waiters w.stage lv cause 0 w.ia

/-- A table entry has been read for a walk, or the read failed (R373). -/
def State.walkGot (s : State) (w : Walk) (e : BitVec 64) (ok : Bool) : State :=
  let sl := w.acc.slice
  let t := w.stage
  if !ok then s.walkFault w 10 w.lv
  else if !bit e 0 then s.walkFault w 1 w.lv
  else if w.lv < 4 then
    if fldN e 11 1 ≠ 0 then s.walkFault w 2 w.lv
    else
      let w := { w with lv := w.lv + 1, base := pteOa e * 4096 }
      if t = 1 then
        match s.step1 w with
        | (s, .fault f) =>
          let s := s.updTrans (fun t => { t with walks := t.walks.filter (fun u => u.id ≠ w.id) })
          w.waiters.foldl (fun s u => s.updTrans (fun t => { t with ended := t.ended ++ [(u.1, u.2, f)] })) s
        | (s, r) => s.putWalk (w.after r)
      else match s.step2 w with
      | (s, some c) => s.walkFault w c w.lv
      | (s, none) => s.putWalk w
  else if pteReserved e t then s.walkFault w 2 4
  else if pteMisaligned e (w.ia / 4096) then s.walkFault w 4 4
  else if t = 1 ∧ s.stage2Mode sl = 1 ∧ 2 ^ 48 ≤ pteOa e * 4096 then s.walkFault w 3 4
  else
    let s := (s.tlbPut (slotOf sl t e (w.ia / 4096) false)).getD s
    let s := s.updTrans (fun t => { t with walks := t.walks.filter (fun v => v.id ≠ w.id) })
    s.resumeWalks w.waiters

/-- A pending miss has become free: a stage-1 walk that waited for one goes on (R376). -/
def State.freedMiss (s : State) : State :=
  s.resumeWalks ((s.trans.walks.filter (fun w => w.on = .free)).map (fun w => (.walk w.id, w.acc)))

/-- A walk is still under way. -/
def State.walking (s : State) (id : Nat) : Bool := s.trans.walks.any (fun w => w.id = id)
/-- A miss is still pending. -/
def State.missing (s : State) (id : Nat) : Bool := s.trans.misses.any (fun m => m.id = id)

/-- A covered walk discards what it has and starts again (R385, R386): a read under way is no longer its own, and one not granted
yet is not made. -/
def State.restartWalk (s : State) (w : Walk) : State :=
  let id := s.trans.nextWalk
  let s := s.updHost (fun h => { h with arb := { h.arb with
    bursts := h.arb.bursts.filter (fun b => !(b.owner == .walk w.id && !b.granted)) } })
  let v := { w with id := id, lv := 1, base := s.root w.acc.slice w.stage, on := WalkWait.read }
  let s := s.updTrans (fun t => { t with nextWalk := id + 1, walks := t.walks.map (fun x =>
    if x.id = w.id then v else if x.on = .walk w.id then { x with on := .walk id } else x) })
  if w.stage = 1 then
    match s.step1 v with
    | (s, .fault f) =>
      let s := s.updTrans (fun t => { t with walks := t.walks.filter (fun u => u.id ≠ id) })
      w.waiters.foldl (fun s u => s.updTrans (fun t => { t with ended := t.ended ++ [(u.1, u.2, f)] })) s
    | (s, r) => s.putWalk (v.after r)
  else match s.step2 v with
  | (s, some c) => s.walkFault v c 1
  | (s, none) => s

/-- What a slice's halt or reset removes from translation (Table TRN-13): its walks and pending misses end without an
event. -/
def State.transDrop (s : State) (sl : Nat) : State :=
  s.updTrans (fun t => { t with
    walks := t.walks.filter (fun w => w.acc.slice ≠ sl), misses := t.misses.filter (fun m => m.slice ≠ sl)
    ended := t.ended.filter (fun e => e.2.1.slice ≠ sl) })

end Sys2Proof.Machine
end

