-- ==== Sys2Proof/Machine/SendOps.lean ====
section
/-! DEFINITION. Operations that messaging and remote memory access share (chapters 13 and 14): keys and stations of a
slice, packets it injects, peer contexts, a work entry's checks, destination and local buffer. -/

namespace Sys2Proof.Machine

def State.updRemote (s : State) (f : Remote → Remote) : State := { s with remote := f s.remote }

/-! Keys, shapers, packets (R30, R194, R216–R218) -/

/-- The slice holds a partition key (R293). -/
def State.holdsKey (s : State) (sl key : Nat) : Bool :=
  (List.range 16).any (fun i =>
    let e := s.reg R.sliceKeys sl i
    bit e 31 && decide (fldN e 15 0 ≤ key ∧ key < fldN e 15 0 + 2 ^ fldN e 19 16))

/-- The injection shaper lets no new packet of a class be built (R218). -/
def State.shaperHolds (s : State) (sl cls : Nat) : Bool :=
  decide (2 ≤ cls) && bit (s.reg R.injShaper sl) 63 && decide (Table.get 0 s.injLevel sl < 0)

/-- The slice is homed on this device (R510). -/
def State.homed (s : State) (sl : Nat) : Bool := sl == 0 || bit (s.reg R.twinSlices 0 (sl / 32)) (sl % 32) == s.straps.twinSide

/-- The node address under which a slice sends: an adopted slice keeps its home twin's (R36, R510, R521). -/
def State.nodeFor (s : State) (sl : Nat) : Node :=
  match s.adopted with
  | some n => if s.homed sl then s.ownNode else n
  | none => s.ownNode

/-- The slice's stations refuse what arrives: it is HALTED (R319), or belongs to an adopted address and is not STARTED (R522). -/
def State.refuses (s : State) (sl : Nat) : Bool :=
  (s.slice sl).st == .halted || (s.adopted.isSome && !s.homed sl && (s.slice sl).st == .stopped)

/-- The charged length of a packet and of the responses it draws, by their payloads (R217). -/
def State.injCharge (s : State) (len : Nat) (draws : List Nat) : Nat :=
  ((len :: draws).map (chargedLen (s.reg R.injOverhead))).sum

/-- The engine charges a packet to its slice's shaper and lets the policer colour it (R216, R217). -/
def State.colour (s : State) (sl cls l : Nat) : State × BitVec 2 :=
  let s := if 2 ≤ cls ∧ bit (s.reg R.injShaper sl) 63 then
      { s with injLevel := Table.set 0 s.injLevel sl (Table.get 0 s.injLevel sl - (1000 * l : Nat)) } else s
  let p := s.reg R.injPolicer sl
  if bit p (112 + cls) then
    let (c, b) := police p (Table.get {} s.injBuckets sl) 0 (1000 * l)
    let s := { s with injBuckets := Table.set {} s.injBuckets sl b }
    (if c = 1 then s.countSlice sl 29 else if c = 2 then s.countSlice sl 30 else s, c)
  else (s, 0)

/-- A packet is built at a block's stop (R33, R35, R37, R39, R182): its route mode is chosen, its check written. `answer` marks the
answers that a target or a receiver owes, which are neither shaped nor policed (R216, R431). -/
def State.inject (s : State) (sl stop : Nat) (h : Header) (payload : List Byte) (wait : List (Nat × Nat)) (owner : Option (Nat × Nat))
    (charge : Nat) (answer : Bool) : State :=
  let cls := h.cls.toNat
  let draw := (Config.routeDraw s.draws).toNat
  let (mode, via) := s.routeMode cls h.dstNode draw
  let s := (s.noteRoute (s.modeReads cls h.dstNode draw)).drawn
  let (s, c) := if answer then (s, 0) else s.colour sl cls charge
  let h := { h with routeMode := BitVec.ofNat 2 mode, viaGroup := BitVec.ofNat 12 via, colour := c
                    phase := if mode ≠ 1 ∧ h.dstNode.group = h.srcNode.group then 2 else 0, hops := 0, cong := 0, reserved := 0
                    length := BitVec.ofNat 13 payload.length }
  { s with built := s.built ++ [{ stop := stop, hdr := h.sealed, payload := payload, wait := wait, owner := owner, slice := sl }] }

/-! Peer contexts (R440–R442) -/

def State.peer (s : State) (p : Pair) : Option Peer := s.remote.peers.find? (fun x => x.pair = p)

/-- A context is idle (R441). -/
def Peer.idle (p : Peer) : Bool :=
  p.send2.unacked.isEmpty && p.send3.unacked.isEmpty && p.rdvS.isEmpty && p.rdvR.isEmpty && p.msgs.isEmpty
    && p.trackers.isEmpty

/-- Peer contexts of a slice. -/
def State.peersOf (s : State) (sl : Nat) : Nat := (s.remote.peers.filter (fun p => p.slice = sl)).length
/-- PEER_LIMIT of a slice, in contexts (R448). -/
def State.peerLimit (s : State) (sl : Nat) : Nat := 64 * fldN (s.reg R.rmaSliceCtl sl) 26 16

/-- The record of a pair in the store: the one it has, else the first that is free. -/
def State.peerRecordOf (s : State) (p : Pair) : Nat :=
  match s.remote.stored.find? (fun x => x.2.pair = p) with
  | some x => x.1
  | none => ((List.range (s.remote.stored.length + 1)).find? (fun i => s.remote.stored.all (fun x => x.1 ≠ i))).getD 0

/-- Address of a record, the function of the store's link, and the key under which its accesses keep their order. -/
def State.peerAddr (s : State) (n : Nat) : Nat := fldN (s.eff R.peerStore) 51 12 * 4096 + 1024 * n
def State.peerFunc (s : State) : Nat := let e := s.eff R.peerStore; s.storeFunc (fldN e 59 58) (fldN e 57 57)
def peerKey (n : Nat) : Nat := ctxKey (2 ^ 20 + n)

/-- The store takes the context: it is enabled, has a record for it, and that lies where it may (R441, R442, R496). -/
def State.storeTakes (s : State) (p : Pair) : Bool :=
  let e := s.eff R.peerStore
  let n := s.peerRecordOf p
  bit e 63 && decide (n < 2 ^ (fldN e 62 60 + 16)) && s.storeAt (s.peerAddr n)

/-- Evict a context: its record is written to the store (R441, R447). -/
def State.evict (s : State) (p : Peer) : State :=
  let n := s.peerRecordOf p.pair
  let s := s.updRemote (fun r => { r with peers := r.peers.filter (fun x => x.pair ≠ p.pair)
                                          stored := r.stored.filter (fun x => x.1 ≠ n) ++ [(n, p)] })
  s.drawn.hostWrite { func := s.peerFunc, addr := s.peerAddr n, key := peerKey n } (bytesOf (Config.peerRecord n s.draws) 1024)

/-- Read a context's record back (R441).  DESIGN CHOICE (log 61): the pair goes on with what the record was written with, without
waiting for the bytes. -/
def State.reload (s : State) (n : Nat) : State :=
  (s.hostReadN { func := s.peerFunc, addr := s.peerAddr n, key := peerKey n } 8 0 1024).1

/-- Put a context back that a command is using. -/
def State.setPeer (s : State) (p : Peer) : State :=
  s.updRemote (fun r => { r with peers := r.peers.map (fun x => if x.pair = p.pair then p else x) })

/-- Put a context back; an idle one of a slice above its limit is evicted (R448). -/
def State.putPeer (s : State) (p : Peer) : State :=
  let s := s.setPeer p
  if p.idle ∧ s.peerLimit p.slice < s.peersOf p.slice ∧ s.storeTakes p.pair then s.evict p else s

/-- The least recently used idle context that can be evicted, of a slice or of any. -/
def State.evictable (s : State) (sl : Option Nat) : Option Peer :=
  s.remote.peers.reverse.find? (fun p => p.idle && (match sl with | some n => p.slice == n | none => true) && s.storeTakes p.pair)

/-- Have the context of a pair on chip, opened, reloaded or found; none where it cannot be had (R441, R442). -/
def State.openPeer (s : State) (sl : Nat) (pr : Pair) : State × Option Peer :=
  match s.peer pr with
  | some p => (s.updRemote (fun r => { r with peers := p :: r.peers.filter (fun x => x.pair ≠ pr) }), some p)
  | none =>
    let room : Option State :=
      if s.peerLimit sl ≤ s.peersOf sl then (s.evictable (some sl)).map s.evict
      else if 65536 ≤ s.remote.peers.length then (s.evictable none).map s.evict
      else some s
    match room with
    | none => (s, none)
    | some s =>
      let (s, p) : State × Peer := match s.remote.stored.find? (fun x => x.2.pair = pr) with
        | some x => (s.reload x.1, x.2)
        | none => (s, { pair := pr, slice := sl })
      (s.updRemote (fun r => { r with peers := p :: r.peers }), some p)

/-- An event of chapter 14, if the slice's EVENT_MASK has its bit (R445). -/
def State.rmaEvent (s : State) (sl n source detail : Nat) : State :=
  if bit (s.reg R.rmaSliceCtl sl) n then s.sliceEvent sl (0x10 + n) source detail else s

/-- SOURCE of an event that names a peer. -/
def pairSource (p : Pair) : Nat := p.node + at' 20 p.remote

/-- An operation that would open a context where none can be had (R442). -/
def State.peerFull (s : State) (sl : Nat) (p : Pair) : State :=
  (s.countSlice sl 23).rmaEvent sl 3 (pairSource p) p.station

/-- The pair that a packet belongs to at its destination. -/
def pairOf (h : Header) : Pair := { station := h.dstStation.toNat, node := h.srcNode.toNat, remote := h.srcStation.toNat }

/-- Ring stop of the cluster that works for a slice station. -/
def State.stationStop (s : State) (x : Nat) : Nat := clusterStop (s.stationHome x)

/-! Packets that have arrived -/

/-- A translation that an arrived packet waits for is settled. -/
def State.released (s : State) (h : Option WalkWait) : Bool :=
  match h with
  | none => true
  | some (.walk id) => !s.walking id
  | some (.miss id) => !s.missing id
  | some _ => true

/-- The oldest packet of a command that has arrived at a stop and can be acted on: unordered packets pass one that waits. -/
def State.arrival (s : State) (stop cmd : Nat) : Option Arrived :=
  s.arrived.find? (fun a => a.stop = stop ∧ a.pkt.hdr.cmd.toNat = cmd ∧ s.released a.hold
    ∧ ((s.arrived.takeWhile (fun b => b ≠ a)).all (fun b =>
      b.stop ≠ stop ∨ a.pkt.hdr.cls.toNat < 2 ∨ 3 < a.pkt.hdr.cls.toNat ∨ b.pkt.hdr.cls ≠ a.pkt.hdr.cls ∨ pairOf b.pkt.hdr ≠ pairOf a.pkt.hdr)))

/-- Take an arrived packet off. -/
def State.takeArrival (s : State) (a : Arrived) : State := { s with arrived := s.arrived.erase a }
/-- Take off a packet that is an item of its station's cluster (R327, R330). -/
def State.takeItem (s : State) (a : Arrived) (cost : Nat) : State :=
  (s.takeArrival a).stationItem a.pkt.hdr.dstStation.toNat cost
/-- No engine may take a further item of the station's slice now (R334): the packet waits. -/
def State.itemWaits (s : State) (a : Arrived) : Bool :=
  match s.stationSlice a.pkt.hdr.dstStation.toNat with | some sl => s.capped sl | none => false

/-- An arrived packet waits for a translation. -/
def State.holdArrival (s : State) (a : Arrived) (r : XRes) : State :=
  let h := match r with
    | .wait id => some (WalkWait.walk id)
    | .trap id => some (WalkWait.miss id)
    | _ => none
  { s with arrived := s.arrived.map (fun b => if b = a then { b with hold := h } else b) }

/-! Work entries (R301–R303, R317) -/

/-- Fields of an entry. -/
def entryLen (b : List Byte) : Nat := entryWord b 32 4
def entryLaddr (b : List Byte) : Nat := entryWord b 24 8
def entryCtx (b : List Byte) : Nat := entryFld b 191 176
def entryPkey (b : List Byte) : Nat := entryFld b 63 48
def entryFrag (b : List Byte) : Bool := entryFld b 12 12 == 1
def entryGrant (b : List Byte) : Bool := entryFld b 11 11 == 1
/-- Inline data of an entry. -/
def entryInline (b : List Byte) : List Byte := (b.drop 64).take (entryLen b)

/-- Opcodes of Table WKQ-12. -/
def knownOp (op : Nat) : Bool := [0x00, 0x10, 0x11, 0x20, 0x21, 0x22, 0x23, 0x30, 0x70].contains op

/-- A span of an entry's bytes is zero. -/
def entryZero (b : List Byte) (i n : Nat) : Bool := entryWord b i n == 0

/-- Checks 1–10 of Table WKQ-20 on the entry at a position of a WQ of a slice: the code of the first that fails. -/
def malformation (sl : Nat) (w : Wq) (pos : Nat) (b : List Byte) : Option Nat :=
  let op := entryOp b
  let f (hi lo : Nat) : Nat := entryFld b hi lo
  let units := entryUnits b
  let direct := f 13 13 == 1
  let cls := entryClass b
  let len := entryLen b
  let laddr := entryLaddr b
  let sends := op == 0x10 || op == 0x20 || op == 0x21 || op == 0x22 || op == 0x23
  let rma := op == 0x20 || op == 0x21 || op == 0x22
  let size := f 271 264
  let aop := f 263 256
  let commonBad := f 15 14 != 0 || f 31 21 != 0 || f 175 170 != 0
    || (f 10 10 != 0 && !(op == 0x10 || op == 0x21))
    || (f 11 11 != 0 && op == 0x00)
    || (f 12 12 != 0 && (op == 0x00 || op == 0x23 || op == 0x30))
    || (f 63 48 != 0 && (op == 0x00 || op == 0x11 || op == 0x30))
    || (f 159 128 != 0 && (op == 0x00 || op == 0x11))
    || (f 191 176 != 0 && !(op == 0x10 || op == 0x11 || op == 0x30))
  -- bytes that Table WKQ-13 leaves blank
  let blankBad :=
    if op = 0x00 then !entryZero b 24 40
    else if op = 0x10 then !entryZero b 40 24
    else if op = 0x11 then !entryZero b 48 16
    else if op = 0x21 then !entryZero b 52 12
    else if op = 0x20 ∨ op = 0x22 then !entryZero b 48 16
    else if op = 0x23 then !entryZero b 34 2 || (size == 16 && (!entryZero b 48 16 || (units == 1 && !entryZero b 96 32)))
    else if op = 0x30 then !entryZero b 47 1 || !entryZero b 52 12
    else !entryZero b 37 3 || !entryZero b 44 20
  -- reserved bits of the local descriptor (R302)
  let descBad := (op == 0x10 || op == 0x11 || rma || op == 0x70) &&
    (if f 12 12 = 1 then laddr / 2 ^ 57 != 0 else laddr / 2 ^ 48 != 0)
  let clsBad :=
    if op = 0x10 then cls != 2 && cls != 3
    else if rma then cls != 4 && cls != 6 && cls != 7
    else if op = 0x23 then cls != 4
    else cls != 0
  let addrBad := (sends && !direct && !w.jobValid) || ((op == 0x00 || op == 0x11 || op == 0x30) && direct)
    || (op == 0x70 && !direct) || (direct && f 159 148 != 0) || (!direct && f 169 160 != 0)
  let inlineOk := op == 0x10 || op == 0x20 || op == 0x21 || op == 0x70
  let inlineBad :=
    if op = 0x23 then
      (if size = 8 then units != 0 else if size = 16 then units != 1 else decide (1 < units))
    else if !inlineOk then units != 0
    else units != 0 && (f 12 12 == 1 || laddr != 0 || decide (len ≤ 64 * (units - 1) ∨ 64 * units < len))
  let lenBad := (op == 0x70 && decide (4096 < len)) || (op == 0x30 && decide (len = 0 ∨ 65536 < len))
  let alignBad := (op == 0x23 && size != 0 && (entryWord b 36 8 % size != 0 || laddr % size != 0))
    || (f 12 12 == 1 && laddr % 2 ^ 48 % 16 != 0)
  let cop := f 359 352
  let ty := f 367 360
  let mode := f 375 368
  let opBad :=
    if op = 0x23 then decide (6 < aop) || (size != 8 && size != 16)
    else if op = 0x30 then decide (5 < cop) || decide (5 < ty) || decide (2 < mode) || (decide (3 ≤ cop) && decide (3 ≤ ty))
      || (mode == 1 && decide (ty < 3)) || decide (4095 < f 191 176)
    else if op = 0x70 then f 295 288 == 0 || decide (15 < f 295 288) || f 63 48 != 0xFFFF
    else false
  if !knownOp op then some 1
  else if op = 0x70 ∧ sl ≠ 0 then some 2
  else if commonBad ∨ blankBad ∨ descBad then some 3
  else if f 47 32 ≠ pos then some 4
  else if clsBad then some 5
  else if addrBad then some 6
  else if inlineBad then some 7
  else if lenBad then some 8
  else if alignBad then some 9
  else if opBad then some 10
  else none

/-- Fragments of a table's bytes (Table WKQ-14). -/
def fragList (b : List Byte) : Nat → List (Nat × Nat)
  | 0 => []
  | n + 1 => (entryWord b 0 6, entryWord b 8 4) :: fragList (b.drop 16) n

/-- Check 11 (Table WKQ-20): a reserved bit, a length of 0, or totals that differ from LENGTH. -/
def fragsBad (b : List Byte) (n len : Nat) : Bool :=
  (List.range n).any (fun i => let x := b.drop (16 * i); entryWord x 6 2 != 0 || entryWord x 12 4 != 0 || entryWord x 8 4 == 0)
    || ((fragList b n).map (·.2)).sum != len

/-- The local buffer of an entry as pieces of address space, in order; none while its fragment table has not been read. -/
def WqEntry.pieces (e : WqEntry) : Option (List (Nat × Nat)) :=
  if entryFrag e.bytes then match e.frags with | .table l => some l | _ => none
  else some [(entryLaddr e.bytes % 2 ^ 48, entryLen e.bytes)]

/-- `n` bytes of pieces from `off` on. -/
def subPieces : List (Nat × Nat) → Nat → Nat → List (Nat × Nat)
  | [], _, _ => []
  | (a, l) :: t, off, n =>
    if n = 0 then []
    else if l ≤ off then subPieces t (off - l) n
    else
      let k := min n (l - off)
      (a + off, k) :: subPieces t 0 (n - k)

/-- The access of an entry of a WQ to its own buffers (Table TRN-1). -/
def State.entryAccess (_s : State) (n : Nat) (w : Wq) (e : WqEntry) (k : AccKind) (ia : Nat) : Access :=
  { slice := w.slice, ia := ia, kind := k, priv := w.priv, grant := entryGrant e.bytes, wq := n, func := w.func }

/-- Translate pieces of an entry's buffer in address order. -/
def State.xlatePieces (s : State) (who : Who) (a : Access) : List (Nat × Nat) → State × Spans × Option XRes
  | [] => (s, [], none)
  | (x, l) :: t =>
    match s.xlateSpan who { a with ia := x } (l / 4096 + 2) l with
    | (s, sp, none) => let (s, r, e) := s.xlatePieces who a t; (s, sp ++ r, e)
    | (s, sp, some e) => (s, sp, some e)

/-- Bytes of spans. -/
def spansLen (sp : Spans) : Nat := (sp.map (fun x => x.2.1)).sum

/-! The fragment table (R303) and the destination (R411, R412) -/

def State.updEntry (s : State) (n pos : Nat) (f : WqEntry → WqEntry) : State :=
  match s.wq n with
  | none => s
  | some w => s.putWq n { w with entries := w.entries.map (fun e => if e.pos = pos ∧ e.st ≠ .finished then f e else e) }

/-- Start to gather spans from host memory. -/
def State.gather (s : State) (g : GatherFor) (sp : Spans) : State :=
  let id := s.host.nextGather
  let (s, wait) := s.readSpans { owner := .gather id } sp 0
  let x : Gather := { id := id, for_ := g, wait := wait, bytes := List.replicate (spansLen sp) 0 }
  s.updHost (fun h => { h with nextGather := id + 1, gathers := h.gathers ++ [x] })

/-- Look a rank up in the cache: the entry becomes the most recently used (R412). -/
def State.rankHit (s : State) (sl job rank : Nat) : State × Option Nat :=
  match s.remote.ranks.find? (fun r => r.1 = sl ∧ r.2.1 = job ∧ r.2.2.1 = rank) with
  | some r => (s.updRemote (fun x => { x with ranks := r :: x.ranks.erase r }), some r.2.2.2)
  | none => (s, none)

/-- Set of a rank-cache entry (R412). -/
def rankSet (sl job rank : Nat) : Nat := crc16 (leBytes sl 1 ++ leBytes job 3 ++ leBytes rank 4) % 8192

/-- Load the rank cache: within a set a slice holds at most RANK_WAYS ways, the set 8 (R412). -/
def State.rankLoad (s : State) (sl job rank v : Nat) : State :=
  let set := rankSet sl job rank
  let inSet (r : Nat × Nat × Nat × Nat) : Bool := rankSet r.1 r.2.1 r.2.2.1 == set
  let rest := s.remote.ranks.filter (fun r => !(r.1 = sl ∧ r.2.1 = job ∧ r.2.2.1 = rank))
  let own := rest.filter (fun r => inSet r ∧ r.1 = sl)
  let rest := if fldN (s.reg R.msgSliceCtl sl) 51 48 ≤ own.length then
      match own.reverse with | r :: _ => rest.erase r | [] => rest
    else if 8 ≤ (rest.filter inSet).length then
      match (rest.filter inSet).reverse with | r :: _ => rest.erase r | [] => rest
    else rest
  s.updRemote (fun x => { x with ranks := (sl, job, rank, v) :: rest })

/-- The JOBS entry of a job (R411). -/
def State.jobEntry (s : State) (sl job : Nat) : Option Image :=
  ((List.range 64).map (fun i => s.reg R.jobs sl i)).find? (fun e => bit e 127 ∧ fldN e 119 96 = job)

/-- Where an entry goes. -/
inductive Dest where
  | node (n station : Nat)
  | unreachable
  | miss (job rank : Nat)
  deriving DecidableEq, Repr

/-- The destination of an entry (R31, R411). -/
def State.dest (s : State) (w : Wq) (e : WqEntry) : State × Dest :=
  let b := e.bytes
  if entryFld b 13 13 = 1 then (s, .node (entryFld b 147 128) (entryFld b 169 160))
  else
    let rank := entryFld b 159 128
    match s.jobEntry w.slice w.job with
    | none => (s, .unreachable)
    | some j =>
      if fldN j 95 64 ≤ rank then (s, .unreachable)
      else match s.rankHit w.slice w.job rank with
      | (s, some v) => (s, .node (v % 2 ^ 20) (v / 2 ^ 20 % 1024))
      | (s, none) => (s.countSlice w.slice 13, .miss w.job rank)

end Sys2Proof.Machine
end

