-- ==== Sys2Proof/Machine/MsgOps.lean ====
section
/-! DEFINITION. Operations of message matching (chapter 13): channels and their breaks, matching, unexpected messages and
overflow lists, rendezvous. -/

namespace Sys2Proof.Machine

/-- The completion code of a number (Table SCO-6).  DESIGN CHOICE (log 53): a number that a peer sends and the table does not
list counts as TRANSPORT_TIMEOUT. -/
def compOf (n : Nat) : Comp :=
  match [Comp.ok, .okGuardOverflow, .localTranslationFault, .localProtection, .localLength, .remoteTranslationFault,
      .remoteProtection, .remoteNoReceive, .partitionReject, .unreachable, .transportTimeout, .collectiveAborted, .flushed,
      .sliceHalted, .malformedEntry].find? (fun c => c.code = n) with
  | some c => c
  | none => .transportTimeout

/-- The number before a 24-bit number. -/
def pred24 (n : Nat) : Nat := (n + 2 ^ 24 - 1) % 2 ^ 24
/-- `(a − b) mod 2^24`. -/
def diff24 (a b : Nat) : Nat := (a + 2 ^ 24 - b % 2 ^ 24) % 2 ^ 24

def Peer.send (p : Peer) (cls : Nat) : SendChan := if cls = 2 then p.send2 else p.send3
def Peer.withSend (p : Peer) (cls : Nat) (c : SendChan) : Peer := if cls = 2 then { p with send2 := c } else { p with send3 := c }
def Peer.recv (p : Peer) (cls : Nat) : RecvChan := if cls = 2 then p.recv2 else p.recv3
def Peer.withRecv (p : Peer) (cls : Nat) (c : RecvChan) : Peer := if cls = 2 then { p with recv2 := c } else { p with recv3 := c }

/-! Contexts (R396–R398) -/

def State.mctx (s : State) (n : Nat) : MatchCtx := Table.get {} s.remote.mctx n
def State.setMctx (s : State) (n : Nat) (c : MatchCtx) : State :=
  s.updRemote (fun r => { r with mctx := Table.set {} r.mctx n c })

/-- STATION and WIRE_CTX of a matching context. -/
def mctxStation (e : Image) : Nat := fldN e 57 48
def mctxWire (e : Image) : Nat := fldN e 47 32

/-- The valid context of a station and wire context (R397). -/
def State.findCtx (s : State) (station wire : Nat) : Option Nat :=
  ((s.entriesOf R.matchCtx).find? (fun e => bit e.2 63 && mctxStation e.2 == station && mctxWire e.2 == wire)).map (·.1)

/-- The context that an entry of a slice names, if it may (R398). -/
def State.entryCtxOk (s : State) (sl n : Nat) : Bool :=
  let e := s.reg R.matchCtx 0 n
  decide (n < 8192) && bit e 63 && s.stationSlice (mctxStation e) == some sl

/-- Match unit of a context (R397). -/
def State.mctxUnit (s : State) (n : Nat) : Nat := mctxStation (s.reg R.matchCtx 0 n) % 8

/-- Sum over the contexts of a unit, of all slices or of one. -/
def State.sumCtx (s : State) (unit : Nat) (sl : Option Nat) (f : MatchCtx → Nat) : Nat :=
  (s.remote.mctx.map (fun c =>
    if s.mctxUnit c.1 == unit && (sl.isNone || s.stationSlice (mctxStation (s.reg R.matchCtx 0 c.1)) == sl)
    then f c.2 else 0)).sum

/-- A context's unit has room on chip for a further receive of the slice (R403, Table MSG-9). -/
def State.postRoom (s : State) (n sl : Nat) : Bool :=
  let u := s.mctxUnit n
  decide (s.sumCtx u (some sl) (·.posted.length) < 64 * fldN (s.reg R.msgSliceCtl sl) 39 32
    ∧ s.sumCtx u none (·.posted.length) < 16384)

/-! Control packets of a channel (Table MSG-2) -/

/-- A packet back to the sender of a message: acknowledgement, CTS, DONE, abort. -/
def State.msgBack (s : State) (sl : Nat) (h : Header) (cmd num off ext : Nat) : State :=
  s.inject sl (s.stationStop h.dstStation.toNat)
    { dstNode := h.srcNode, dstStation := h.srcStation, srcNode := h.dstNode, srcStation := h.dstStation, pkey := h.pkey, cls := 2
      cmd := BitVec.ofNat 8 cmd, msgId := BitVec.ofNat 24 num, offset := BitVec.ofNat 32 off, ctx := h.ctx
      ext := BitVec.ofNat 32 ext } [] [] none 0 true

/-- MSG_ACK(a, c) of a channel. -/
def State.msgAck (s : State) (sl : Nat) (h : Header) (num cause : Nat) : State :=
  s.msgBack sl h 0x15 num 0 (cause + at' 8 h.cls.toNat)

/-- The stop of the cluster in which an entry of a WQ is worked on: that of the engine that runs its item, which may have stolen
it from another cluster (R339), else the queue's home. -/
def State.workStop (s : State) (n pos : Nat) (w : Wq) : Nat :=
  match s.host.engines.items.findSome? (fun i => if i.src.entryOf = (n, pos) then i.runningOn else none) with
  | some e => clusterStop (e / 16)
  | none => clusterStop w.home

/-- A packet forward on behalf of a SEND; RDV_ABORT is neither shaped nor policed (R216). -/
def State.msgForward (s : State) (sl n pos : Nat) (p : Pair) (pkey : BitVec 16) (cls cmd num off ctx : Nat) (ext : BitVec 32)
    (payload : List Byte) (wait : List (Nat × Nat)) : State :=
  s.inject sl (match s.wq n with | some w => s.workStop n pos w | none => s.stationStop p.station)
    { dstNode := BitVec.ofNat 20 p.node, dstStation := BitVec.ofNat 10 p.remote, srcNode := s.nodeFor sl
      srcStation := BitVec.ofNat 10 p.station, pkey := pkey, cls := BitVec.ofNat 3 cls, cmd := BitVec.ofNat 8 cmd, msgId := BitVec.ofNat 24 num
      offset := BitVec.ofNat 32 off, ctx := BitVec.ofNat 16 ctx, ext := ext } payload wait (some (n, pos))
    (s.injCharge payload.length []) (cmd == 0x17)

/-! The sending side (R393, R394) -/

/-- Unacknowledged messages up to number `a` are accepted: eager SENDs finish, rendezvous SENDs wait for DONE. -/
def State.acceptSent (s : State) (us : List Unacked) : State :=
  us.foldl (fun s u =>
    if u.rdv ∨ u.ended then s
    else s.finish u.wq u.pos .ok (match s.wq u.wq with
      | some w => ((w.entries.find? (fun e => e.pos = u.pos)).map (fun e => entryLen e.bytes)).getD 0
      | none => 0)) s

/-- A channel loses its unacknowledged messages with a code each, and owes a CHANNEL_SYNC. -/
def State.failSent (s : State) (p : Pair) (us : List (Unacked × Comp)) : State :=
  us.foldl (fun s u =>
    let s := match s.peer p with
      | some x => s.putPeer { x with rdvS := x.rdvS.filter (fun r => !(r.wq = u.1.wq ∧ r.pos = u.1.pos)) }
      | none => s
    if u.1.ended then s else s.finish u.1.wq u.1.pos u.2 0) s

/-- MSG_ACK(a, c) at the sender (R393). -/
def State.ackSent (s : State) (p : Pair) (cls a c : Nat) : State :=
  match s.peer p with
  | none => s
  | some x =>
    let ch := x.send cls
    let acked := ch.unacked.filter (fun u => diff24 a u.num < 2 ^ 23)
    let rest := ch.unacked.filter (fun u => !(diff24 a u.num < 2 ^ 23))
    let names := !acked.isEmpty || (c != 0 && ch.unacked.any (fun u => u.num = (a + 1) % 2 ^ 24))
    if !names then s
    else
      let hit (r : RdvSend) : Bool := r.cls == cls && acked.any (fun u => u.num == r.num)
      let x := { x with rdvS := x.rdvS.map (fun r => if hit r then { r with accepted := true } else r) }
      if c = 0 then
        (s.putPeer (x.withSend cls { ch with unacked := rest })).acceptSent acked
      else
        let s := (s.putPeer (x.withSend cls { ch with unacked := [], sync := true })).acceptSent acked
        s.failSent p (rest.map (fun u => (u, if u.num = (a + 1) % 2 ^ 24 then compOf c else .flushed)))

/-- Every unacknowledged message of a channel times out (R394). -/
def State.ackTimeout (s : State) (p : Pair) (cls : Nat) : State :=
  match s.peer p with
  | none => s
  | some x =>
    let ch := x.send cls
    if ch.unacked.isEmpty then s
    else (s.putPeer (x.withSend cls { ch with unacked := [], sync := true })).failSent p
      (ch.unacked.map (fun u => (u, .transportTimeout)))

/-! Placement into a receive (R402) -/

/-- The WQ and entry of a posted receive. -/
def State.recvEntry (s : State) (n pos : Nat) : Option (Wq × WqEntry) :=
  match s.wq n with
  | none => none
  | some w => (w.entries.find? (fun e => e.pos = pos ∧ e.st ≠ .finished)).map (fun e => (w, e))

/-- A RECV completes (R402): OK where the message fits. -/
def State.recvDone (s : State) (n pos : Nat) (h : Header) (rank total placed : Nat) (solicit : Bool) (err : Option TFault) : State :=
  match s.recvEntry n pos with
  | none => s
  | some (w, e) =>
    let st : Comp := match err with
      | some f => f.local
      | none => if total ≤ entryLen e.bytes then .ok else .localLength
    s.finish n pos st placed ((err.map (·.detail)).getD 0) (recvSpecific w h h.ext.toNat rank solicit) solicit

/-- Translate `n` bytes of a receive's buffer from `off` on. -/
def State.recvSpans (s : State) (who : Who) (inbound : Bool) (n pos off len : Nat) : State × Spans × Option XRes :=
  match s.recvEntry n pos with
  | none => (s, [], none)
  | some (w, e) =>
    s.xlatePieces who { s.entryAccess n w e .write 0 with inbound := inbound } (subPieces (e.pieces.getD []) off len)

/-- R399: a message of a rank and tag matches a receive. -/
def Posted.fits (r : Posted) (tag : BitVec 32) (rank : Nat) : Bool :=
  (r.source == 0xFFFFFFFF || r.source == rank) && ((tag ^^^ r.tag) &&& r.mask == 0)

/-! Rendezvous at the receiver (R407) -/

/-- RDV_CHUNK in bytes, RDV_WINDOW. -/
def State.rdvChunk (s : State) : Nat := 4096 * fldN (s.reg R.msgCtl) 47 40
def State.rdvWindow (s : State) : Nat := fldN (s.reg R.msgCtl) 55 48

/-- Grant chunks while fewer than RDV_WINDOW stand granted and unfilled: one CTS each. -/
def State.grantChunks (s : State) (sl : Nat) (r : RdvRecv) : Nat → State × RdvRecv
  | 0 => (s, r)
  | n + 1 =>
    if r.want ≤ r.granted ∨ s.rdvWindow ≤ r.chunks.length then (s, r)
    else
      let k := min s.rdvChunk (r.want - r.granted)
      let s := s.msgBack sl r.hdr 0x12 r.num r.granted k
      s.grantChunks sl { r with granted := r.granted + k, chunks := r.chunks ++ [{ first := r.granted, len := k }] } n

/-- The peer's list of inbound rendezvous changes. -/
def State.updRdvR (s : State) (p : Pair) (f : List RdvRecv → List RdvRecv) : State :=
  match s.peer p with
  | some x => s.putPeer { x with rdvR := f x.rdvR }
  | none => s
def State.updRdvS (s : State) (p : Pair) (f : List RdvSend → List RdvSend) : State :=
  match s.peer p with
  | some x => s.putPeer { x with rdvS := f x.rdvS }
  | none => s

/-- An RTS is matched with a receive (R407): grants, or DONE alone where nothing is to be taken. -/
def State.startRdv (s : State) (sl : Nat) (h : Header) (rank total : Nat) (solicit : Bool) (n pos : Nat) : State :=
  match s.recvEntry n pos with
  | none => s
  | some (_, e) =>
    let want := min total (entryLen e.bytes)
    if want = 0 then
      (s.msgBack sl h 0x14 h.msgId.toNat 0 0).recvDone n pos h rank total 0 solicit none
    else
      let r : RdvRecv := { num := h.msgId.toNat, cls := h.cls.toNat, hdr := h, rank := rank, total := total, solicit := solicit
                           wq := n, pos := pos, want := want }
      let (s, r) := s.grantChunks sl r s.rdvWindow
      s.updRdvR (pairOf h) (· ++ [r])

/-- The RECV of a failed rendezvous completes with a code, the bytes placed so far and what its message tells (Table WKQ-18). -/
def State.endRdvR (s : State) (r : RdvRecv) (c : Comp) (detail : Nat) : State :=
  let placed := (r.chunks.map (·.got)).sum + (r.granted - (r.chunks.map (·.len)).sum)
  match s.wq r.wq with
  | some w => s.finish r.wq r.pos c placed detail (recvSpecific w r.hdr r.hdr.ext.toNat r.rank r.solicit) r.solicit
  | none => s

/-- A receiver fails a rendezvous (Table MSG-6): its RECV completes, RDV_ABORT names the code for the peer. -/
def State.failRdvR (s : State) (sl : Nat) (p : Pair) (r : RdvRecv) (own : Comp) (detail : Nat) (peer : Comp) : State :=
  let s := s.updRdvR p (·.filter (fun x => !(x.num = r.num ∧ x.cls = r.cls)))
  (s.msgBack sl r.hdr 0x17 r.num 0 peer.code).endRdvR r own detail

/-- A sender fails a rendezvous (Table MSG-6); no RDV_ABORT is built under a key that the slice no longer holds (R194). -/
def State.failRdvS (s : State) (sl : Nat) (p : Pair) (r : RdvSend) (own : Comp) (detail : Nat) (peer : Comp) : State :=
  let s := s.updRdvS p (·.filter (fun x => !(x.wq = r.wq ∧ x.pos = r.pos)))
  let s := if !s.holdsKey sl r.pkey.toNat then s else s.msgForward sl r.wq r.pos p r.pkey 2 0x17 r.num 0 r.ctx (BitVec.ofNat 32 peer.code) [] []
  s.finish r.wq r.pos own 0 detail

/-- Rendezvous of a WQ that has entered ERROR (R316, Table MSG-6): its SENDs have completed with FLUSHED. -/
def State.rdvWqGone (s : State) (n : Nat) : State :=
  s.remote.peers.foldl (fun s p =>
    (p.rdvS.filter (fun r => r.wq = n)).foldl (fun s r => s.failRdvS p.slice p.pair r .flushed 0 .transportTimeout) s) s

/-- A WQ enters ERROR, with its rendezvous (R316). -/
def State.wqFail (s : State) (n cause : Nat) : State := (s.wqError n cause).rdvWqGone n

/-- The next DATA packets of a rendezvous' grants, at most `n` (R407); what stops it. -/
def State.sendData (s : State) (sl : Nat) (p : Pair) (r : RdvSend) : Nat → State × RdvSend × Option XRes
  | 0 => (s, r, none)
  | n + 1 =>
    match r.grants with
    | [] => (s, r, none)
    | (first, len) :: gs =>
      if s.shaperHolds sl 3 then (s, r, none)
      else match s.recvEntry r.wq r.pos with
      | none => (s, r, none)
      | some (w, e) =>
        let k := min 4096 len
        let r' := { r with grants := if len ≤ 4096 then gs else (first + 4096, len - 4096) :: gs }
        if entryUnits e.bytes ≠ 0 then
          (s.msgForward sl r.wq r.pos p r.pkey 3 0x13 r.num first r.ctx 0 (((entryInline e.bytes).drop first).take k) []).sendData sl p r' n
        else match s.xlatePieces (.item r.wq r.pos) (s.entryAccess r.wq w e .read 0) (subPieces (e.pieces.getD []) first k) with
        | (s, sp, none) =>
          let (s, wait) := s.readSpans { owner := .payload } sp 0
          (s.msgForward sl r.wq r.pos p r.pkey 3 0x13 r.num first r.ctx 0 (List.replicate k 0) wait).sendData sl p r' n
        | (s, _, some x) => (s, r, some x)

/-! Unexpected messages and bins (R406) -/

/-- Bins of a slice in use. -/
def State.binsUsed (s : State) (sl : Nat) : List Nat :=
  (s.remote.mctx.filter (fun c => s.stationSlice (mctxStation (s.reg R.matchCtx 0 c.1)) = some sl)).flatMap
    (fun c => c.2.unex.filterMap (·.bin))

/-- A free bin of a slice's pool (R406). -/
def State.freeBin (s : State) (sl : Nat) : Option Nat :=
  let e := s.reg R.unexPool sl
  let used := s.binsUsed sl
  if bit e 63 then (List.range (used.length + 1)).find? (fun i => decide (i < 2 ^ (fldN e 51 48 + 6)) && !used.contains i) else none

/-- A header slot is free for a slice in a unit (R406). -/
def State.slotRoom (s : State) (n sl : Nat) : Bool :=
  let u := s.mctxUnit n
  decide (s.sumCtx u none (·.unex.length) < 8192 ∧ s.sumCtx u (some sl) (·.unex.length) < 64 * fldN (s.reg R.msgSliceCtl sl) 47 40)

/-- First address of a bin. -/
def State.binAddr (s : State) (sl b : Nat) : Nat := fldN (s.reg R.unexPool sl) 47 12 * 4096 + 4096 * b

/-- Burst key of a bin's bytes. -/
def binKey (id : Nat) : Nat := 2 ^ 33 + id

/-- What becomes of an unexpected message (R406, Table MSG-3 order 4). -/
inductive Stored where
  | yes | refused | wait (r : XRes)
  deriving DecidableEq, Repr

/-- Store an unexpected message: an RTS in a slot, an EAGER in a slot and a bin. -/
def State.storeUnex (s : State) (n sl : Nat) (h : Header) (rank total : Nat) (solicit : Bool) (data : Option (List Byte))
    (waiting : Bool) : State × Stored :=
  let id := s.remote.nextUnex
  let put (s : State) (bin : Option Nat) : State :=
    let c := s.mctx n
    let u : Unexpected := { id := id, hdr := h, rank := rank, total := total, solicit := solicit, bin := bin, waiting := waiting }
    (s.setMctx n { c with unex := c.unex ++ [u] }).updRemote (fun r => { r with nextUnex := id + 1 })
  if !s.slotRoom n sl then (s, .refused)
  else match data with
  | none => ((put s none).countSlice sl 17, .yes)
  | some bytes =>
    match s.freeBin sl, s.inboundFunc sl with
    | some b, some f =>
      let a : Access := { slice := sl, ia := s.binAddr sl b, kind := .write, priv := true, inbound := true, func := f }
      match s.xlateSpan .inbound a 2 bytes.length with
      | (s, sp, none) => (((put s (some b)).writeSpans { key := binKey id } sp bytes).countSlice sl 17, .yes)
      | (s, _, some (.fault _)) | (s, _, some .noFunc) => (s, .refused)
      | (s, _, some r) => (s, .wait r)
    | _, _ => (s, .refused)

/-! Acceptance (R392, Table MSG-3) -/

/-- How a message fares at its channel. -/
inductive Accept where
  /-- it is in order and may be taken -/
  | take
  /-- it is settled: discarded, or a CHANNEL_SYNC -/
  | done
  deriving DecidableEq, Repr

/-- Break a channel: the break acknowledgement goes out once, at once. -/
def State.breakChan (s : State) (sl : Nat) (p : Peer) (h : Header) (ch : RecvChan) (cause : Nat) : State :=
  let s := s.putPeer (p.withRecv h.cls.toNat { ch with broken := some cause, owed := none })
  (s.msgAck sl h (pred24 ch.expect) cause).countSlice sl 19

/-- The channel's judgement of a packet, up to the refusals of Table MSG-3 (R392). -/
def State.channel (s : State) (sl : Nat) (p : Peer) (h : Header) : State × Accept :=
  let cls := h.cls.toNat
  let ch := p.recv cls
  let m := h.msgId.toNat
  if h.cmd = 0x16 then
    -- a refused synchronisation breaks the channel at the next message (R30)
    if !s.holdsKey sl h.pkey.toNat then (s.breakChan sl p h { ch with known := true, expect := m } 0x30, .done)
    else (s.putPeer (p.withRecv cls { ch with known := true, expect := m, broken := none }), .done)
  else if !ch.known then
    (s.breakChan sl p h { ch with known := true, expect := m } 0x22, .done)
  else
    let d := diff24 m ch.expect
    if 2 ^ 23 ≤ d then (s.countDev 24, .done)
    else if ch.broken.isSome then (s.countSlice sl 24, .done)
    else if d ≠ 0 then (s.breakChan sl p h ch 0x32, .done)
    else (s, .take)

/-- Table MSG-3, orders 1–3: the cause of a refusal, or the context. -/
def State.msgRefusal (s : State) (sl : Nat) (h : Header) : Except Nat Nat :=
  if s.refuses sl ∨ !s.intakeRoom (s.stationHome h.dstStation.toNat) sl then .error 0x22
  else if !s.holdsKey sl h.pkey.toNat then .error 0x30
  else match s.findCtx h.dstStation.toNat h.ctx.toNat with
  | some n => .ok n
  | none => .error 0x22

/-- A message has been taken: the channel expects the next, an acknowledgement is owed (R392). -/
def State.tookMsg (s : State) (h : Header) : State :=
  match s.peer (pairOf h) with
  | none => s
  | some p =>
    let ch := p.recv h.cls.toNat
    s.putPeer (p.withRecv h.cls.toNat { ch with expect := (ch.expect + 1) % 2 ^ 24, owed := some (h.msgId.toNat, h) })

/-- The prologue of a message (Table MSG-1): rank, total length, SOLICIT. -/
def prologueOf (b : List Byte) : Nat × Nat × Bool :=
  (natOfBytes (b.take 4), natOfBytes ((b.drop 4).take 4), (natOfBytes ((b.drop 8).take 1)) % 2 == 1)

/-- The bytes of a prologue. -/
def prologue (rank total : Nat) (solicit : Bool) : List Byte :=
  bytesOf (BitVec.ofNat 128 (rank + at' 32 total + at' 64 (b2n solicit))) 16

/-! Overflow records (R405, Table MSG-5) -/

/-- Address of an overflow record. -/
def State.recordAddr (s : State) (sl r : Nat) : Nat := fldN (s.reg R.overflowArea sl) 47 12 * 4096 + 64 * r

/-- A free record of a slice's area. -/
def State.freeRecord (s : State) (sl : Nat) : Option Nat :=
  let e := s.reg R.overflowArea sl
  let used := (s.remote.mctx.filter (fun c => s.stationSlice (mctxStation (s.reg R.matchCtx 0 c.1)) = some sl)).flatMap
    (fun c => c.2.overflow.map (·.1))
  if bit e 63 then (List.range (used.length + 1)).find? (fun i => decide (i < 2 ^ (fldN e 51 48 + 6)) && !used.contains i) else none

/-- NEXT of the record at the tail of a list. -/
def noRecord : Nat := 0xFFFFFFFF

/-- The bytes of a record that joins the tail of a list. -/
def recordBytes (p : Posted) (b : List Byte) : List Byte :=
  leBytes p.stamp 4 ++ leBytes p.wq 2 ++ leBytes p.pos 2 ++ leBytes p.tag.toNat 4 ++ leBytes p.mask.toNat 4 ++ leBytes p.source 4
    ++ leBytes (entryLen b) 4 ++ leBytes (entryLaddr b) 8 ++ leBytes (entryWord b 8 8) 8
    ++ leBytes (b2n (entryFrag b) + 2 * b2n (entryGrant b) + 4 * entryFld b 8 8) 1 ++ leBytes 1 1 ++ leBytes noRecord 4
    ++ List.replicate 18 0

/-- The OVERFLOW service translates a record (R405). -/
def State.recordSpan (s : State) (sl k : Nat) (kind : AccKind) : State × Spans × Option XRes :=
  match s.inboundFunc sl with
  | none => (s, [], some .noFunc)
  | some f => s.xlateSpan .inbound { slice := sl, ia := s.recordAddr sl k, kind := kind, priv := true, inbound := true, func := f } 1 64

/-- A record is read.  DESIGN CHOICE (log 60): it reads as it was written, and the step does not wait for the bytes. -/
def State.readRecord (s : State) (sl k : Nat) : State × Option XRes :=
  match s.recordSpan sl k .descriptor with
  | (s, _, some x) => (s, some x)
  | (s, sp, none) => ((s.readSpans {} sp 0).1, none)

/-- A record's STATE becomes free (Table MSG-5). -/
def State.freeRec (s : State) (sl k : Nat) : State × Option XRes :=
  match s.recordSpan sl k .write with
  | (s, _, some x) => (s, some x)
  | (s, sp, none) => (s.writeSpans {} (takeSpans (dropSpans sp 41) 1) [0], none)

/-- A step on a record must wait: for a walk, or for a function. -/
def XRes.waits : Option XRes → Bool
  | none | some (.fault _) => false
  | some _ => true

/-- On-chip room has freed: the OVERFLOW service moves records from the head of a context's overflow list on chip, a SERVICE item
each (R403); one that must wait for a translation moves with a later step.  DESIGN CHOICE (log 60): one whose translation faults
moves all the same, its STATE as it was. -/
def State.refill (s : State) (n sl : Nat) : Nat → State
  | 0 => s
  | fuel + 1 =>
    match (s.mctx n).overflow with
    | [] => s
    | (k, r) :: rest =>
      if !s.postRoom n sl then s
      else match s.readRecord sl k with
      | (s, x) =>
        if XRes.waits x then s
        else
          let s := (s.freeRec sl k).1
          ((s.setMctx n { s.mctx n with posted := (s.mctx n).posted ++ [r], overflow := rest }).stationItem
            (mctxStation (s.reg R.matchCtx 0 n)) costService).refill n sl fuel

/-- A walk has ended: the oldest message that waits behind it is the next to be looked for (R404). -/
def State.endWalk (s : State) (n : Nat) : State :=
  let c := s.mctx n
  match c.unex.find? (·.waiting) with
  | some u => s.setMctx n { c with walking := some u.id, unex := c.unex.map (fun v => if v.id = u.id then { v with waiting := false } else v) }
  | none => s.setMctx n { c with walking := none }

/-- An unexpected message leaves its list: its slot and bin are free. -/
def State.dropUnex (s : State) (n id : Nat) : State :=
  let c := s.mctx n
  s.setMctx n { c with unex := c.unex.filter (fun u => u.id ≠ id) }

/-- An unexpected message is given to a receive (R400, R406): an RTS starts its grants, an EAGER's bytes are read from the bin; what
stops it. -/
def State.giveUnex (s : State) (n sl : Nat) (u : Unexpected) (wq pos : Nat) : State × Option XRes :=
  match s.recvEntry wq pos with
  | none => (s, none)
  | some (w, e) =>
    match u.bin with
    | none => ((s.dropUnex n u.id).startRdv sl u.hdr u.rank u.total u.solicit wq pos, none)
    | some b =>
      let len := min u.total (entryLen e.bytes)
      let fail (s : State) (f : TFault) : State := (s.dropUnex n u.id).recvDone wq pos u.hdr u.rank u.total 0 u.solicit (some f)
      let copy (s : State) (sp : Spans) (err : Option TFault) : State × Option XRes :=
        let k := spansLen sp
        let a : Access := { slice := sl, ia := s.binAddr sl b, kind := .descriptor, priv := true
                            func := (s.inboundFunc sl).getD w.func }
        match s.xlateSpan (.item wq pos) a 2 k with
        | (s, _, some (.fault f)) => (fail s f, none)
        | (s, _, some r) => (s, some r)
        | (s, bin, none) =>
          let c := s.mctx n
          let s := s.setMctx n { c with unex := c.unex.map (fun v =>
            if v.id = u.id then { v with taken := some (wq, pos), spans := sp, err := err } else v) }
          let (s, wait) := s.readSpans { owner := .gather s.host.nextGather, key := binKey u.id } bin 0
          let g : Gather := { id := s.host.nextGather, for_ := .bin u.id, wait := wait, bytes := List.replicate k 0 }
          (s.updHost (fun h => { h with nextGather := g.id + 1, gathers := h.gathers ++ [g] }), none)
      if len = 0 then ((s.dropUnex n u.id).recvDone wq pos u.hdr u.rank u.total 0 u.solicit none, none)
      else match s.recvSpans (.item wq pos) false wq pos 0 len with
      | (s, sp, some (.fault f)) => if sp.isEmpty then (fail s f, none) else copy s sp (some f)
      | (s, _, some r) => (s, some r)
      | (s, sp, none) => copy s sp none

/-- The bytes of a bin have been read for a receive: they go into its buffer, and the bin is free (R406). -/
def State.binRead (s : State) (id : Nat) (data : List Byte) : State :=
  match s.remote.mctx.find? (fun c => c.2.unex.any (fun u => u.id = id)) with
  | none => s
  | some c =>
    match c.2.unex.find? (fun u => u.id = id) with
    | none => s
    | some u =>
      match u.taken with
      | none => s
      | some (wq, pos) =>
        let s := s.writeSpans { key := opKey wq pos, stale := u.stale } u.spans data
        (s.dropUnex c.1 id).recvDone wq pos u.hdr u.rank u.total (spansLen u.spans) u.solicit u.err

end Sys2Proof.Machine
end

