-- ==== Sys2Proof/Machine/RmaOps.lean ====
section
/-! DEFINITION. Operations of remote memory access (chapter 14): cutting operations into messages and packets, the initiator's
windows and timers, the target's judgement, window and answers. -/

namespace Sys2Proof.Machine

/-! RMA_CTL (R446) -/

def State.retryLimit (s : State) : Nat := fldN (s.reg R.rmaCtl) 63 56
/-- RTO_INIT, RTO_MAX and RTO_MIN in 0.1 µs. -/
def State.rtoInit (s : State) : Nat := 10 * fldN (s.reg R.rmaCtl) 35 24
def State.rtoMax (s : State) : Nat := 1000 * fldN (s.reg R.rmaCtl) 23 12
def State.rtoMin (s : State) : Nat := 10 * fldN (s.reg R.rmaCtl) 11 0
/-- PWND of a peer with 8 fraction bits (R437). -/
def State.pwndOf (s : State) (p : Peer) : Nat := p.pwnd.getD (256 * fldN (s.reg R.rmaCtl) 47 36)
/-- RTO of a peer in 0.1 µs (R434). -/
def State.rtoOf (s : State) (p : Peer) : Nat := p.rto.getD s.rtoInit

/-! The initiator: operations, messages and packets (R420, R421) -/

def State.rop (s : State) (n pos : Nat) : Option ROp := s.remote.ops.find? (fun o => o.wq = n ∧ o.pos = pos)
def State.putRop (s : State) (o : ROp) : State :=
  s.updRemote (fun r => { r with ops := r.ops.map (fun x => if x.wq = o.wq ∧ x.pos = o.pos then o else x) })
def State.dropRop (s : State) (n pos : Nat) : State :=
  s.updRemote (fun r => { r with ops := r.ops.filter (fun x => !(x.wq = n ∧ x.pos = pos)) })

/-- RADDR, RKEY, SIZE of an entry. -/
def entryRaddr (b : List Byte) : Nat := entryWord b 36 8 % 2 ^ 48
def entryRkey (b : List Byte) : Nat := entryWord b 44 4
def entrySize (b : List Byte) : Nat := entryFld b 271 264

/-- Bytes of the message that begins at a target address with `rest` bytes to go: at most 16 pieces, and within a frame of 2^32
(R420). -/
def messageLen (addr rest : Nat) : Nat := min rest (min (4096 - addr % 4096 + 15 * 4096) (2 ^ 32 - addr % 2 ^ 32))
/-- Packets of a message of `len` bytes at an address: pieces cut at every multiple of 4,096 (R420). -/
def piecesOf (addr len : Nat) : Nat := max 1 (ceilDiv (addr % 4096 + len) 4096)
/-- Offset in its message and length of piece `i`. -/
def pieceAt (addr len i : Nat) : Nat × Nat :=
  let start := if i = 0 then 0 else 4096 * i - addr % 4096
  (start, min (len - start) (if i = 0 then 4096 - addr % 4096 else 4096))

/-- Request packets that a message has outstanding: one for a GET or an atomic. -/
def RMsg.out (m : RMsg) : Nat :=
  match m.kind with
  | .put | .notify => m.sent - m.acked.length
  | .get | .atomic => m.sent
/-- Request packets of a message. -/
def RMsg.reqs (m : RMsg) : Nat :=
  match m.kind with
  | .put | .notify => m.pkts
  | .get | .atomic => 1
/-- Unacknowledged request packets of a peer (R437). -/
def Peer.outstanding (p : Peer) : Nat := (p.msgs.map RMsg.out).sum
/-- The window lets a new request packet be sent. -/
def State.windowOpen (s : State) (p : Peer) : Bool := decide (p.outstanding < s.pwndOf p / 256)
/-- R430: message `m` may be sent: nothing numbered m − 4,096 or lower is unacknowledged, and at most 8 atomics are out. -/
def Peer.maySend (p : Peer) (atomic : Bool) : Bool :=
  p.msgs.all (fun x => decide (diff24 p.next x.num < 4096))
    && (!atomic || decide ((p.msgs.filter (fun x => x.kind = .atomic)).length < 8))

/-- Fields of the header of a message's packet `i`. -/
def requestExt (rkey : Nat) (pkts i : Nat) : Nat := rkey % 2 ^ 24 + at' 24 (pkts - 1) + at' 28 i

/-- Send one request packet of a message: `again` for a retransmission. -/
def State.sendRequest (s : State) (o : ROp) (m : RMsg) (i : Nat) (e : WqEntry) (payload : List Byte) (wait : List (Nat × Nat)) : State :=
  let b := e.bytes
  let rkey := entryRkey b
  let (off, _) := pieceAt m.addr m.len i
  let a := m.addr + off
  let (cmd, addr, ext, draws) : Nat × Nat × Nat × List Nat := match m.kind with
    | .put => (0x20, a, requestExt rkey m.pkts i, [])
    | .notify => (0x21, 0, entryWord b 48 4, [])
    | .get => (0x22, m.addr, rkey % 2 ^ 24 + at' 24 (m.pkts - 1),
        (List.range (piecesOf m.addr m.len)).map (fun k => (pieceAt m.addr m.len k).2))
    | .atomic => (0x23, m.addr, rkey % 2 ^ 24 + at' 24 (entryFld b 263 256) + at' 27 (b2n (entrySize b == 16)), [])
  s.inject o.slice (match s.wq o.wq with | some w => s.workStop o.wq o.pos w | none => s.stationStop o.pair.station)
    { dstNode := BitVec.ofNat 20 o.pair.node, dstStation := BitVec.ofNat 10 o.pair.remote, srcNode := s.nodeFor o.slice
      srcStation := BitVec.ofNat 10 o.pair.station, pkey := o.pkey, cls := BitVec.ofNat 3 o.cls, cmd := BitVec.ofNat 8 cmd
      msgId := BitVec.ofNat 24 m.num, offset := BitVec.ofNat 32 (addr % 2 ^ 32), ctx := BitVec.ofNat 16 (addr / 2 ^ 32)
      ext := BitVec.ofNat 32 ext } payload wait (some (o.wq, o.pos))
    (s.injCharge payload.length draws) false

/-- Payload of a message's packet `i`, translated and read where it lies in a buffer (R302). -/
def State.requestData (s : State) (o : ROp) (m : RMsg) (i : Nat) (w : Wq) (e : WqEntry) :
    State × Except XRes (List Byte × List (Nat × Nat)) :=
  let b := e.bytes
  match m.kind with
  | .put =>
    let (off, len) := pieceAt m.addr m.len i
    if entryUnits b ≠ 0 then (s, .ok (((entryInline b).drop (m.off + off)).take len, []))
    else match s.xlatePieces (.item o.wq o.pos) (s.entryAccess o.wq w e .read 0) (subPieces (e.pieces.getD []) (m.off + off) len) with
    | (s, _, some r) => (s, .error r)
    | (s, sp, none) =>
      let (s, wait) := s.readSpans { owner := .payload } sp 0
      (s, .ok (List.replicate len 0, wait))
  | .notify => (s, .ok (leBytes (entryRkey b) 4 ++ leBytes (entryLen b) 4 ++ leBytes (entryFld b 10 10) 8, []))
  | .get => (s, .ok (leBytes m.len 8, []))
  | .atomic =>
    if entrySize b = 16 then (s, .ok ((b.drop 64).take 32, []))
    else (s, .ok (leBytes (entryWord b 48 8) 8 ++ leBytes (entryWord b 56 8) 8, []))

/-- What stops a run of packets. -/
inductive Stop1 where
  /-- every packet of the operation has been sent -/
  | all
  /-- the run is over -/
  | run
  /-- the congestion window, or R430 -/
  | window
  | shaper
  | xlate (r : XRes)
  deriving DecidableEq, Repr

/-- A message of the peer is put down. -/
def State.putMsg (s : State) (p : Pair) (m : RMsg) : State :=
  match s.peer p with
  | some x => s.putPeer { x with msgs := x.msgs.map (fun y => if y.num = m.num then m else y) }
  | none => s

/-- A new message of an operation takes the next number (R421). -/
def State.newMsg (s : State) (p : Peer) (m : RMsg) : State :=
  s.putPeer { p with next := (p.next + 1) % 2 ^ 24, msgs := p.msgs ++ [{ m with num := p.next }] }

/-- The next message of an operation, if there is one (R420, R438): what it holds, and whether it is the last. -/
def ROp.nextMsg (o : ROp) (b : List Byte) : RMsg × Bool × Nat :=
  let op := entryOp b
  if op = 0x23 then
    ({ wq := o.wq, pos := o.pos, kind := .atomic, addr := entryRaddr b, len := entrySize b, pkts := 1 }, true, entrySize b)
  else
    let len := entryLen b
    if op = 0x21 ∧ o.cut = len then
      ({ wq := o.wq, pos := o.pos, kind := .notify, len := 0, pkts := 1 }, true, o.cut)
    else
      let a := entryRaddr b + o.cut
      let k := messageLen a (len - o.cut)
      ({ wq := o.wq, pos := o.pos, kind := if op = 0x22 then .get else .put, addr := a, len := k, off := o.cut
         pkts := piecesOf a k }, op ≠ 0x21 ∧ o.cut + k = len, o.cut + k)

/-- The spans into which an answer goes are fixed when the request is issued (R443). -/
def State.answerSpans (s : State) (m : RMsg) (w : Wq) (e : WqEntry) : State × Except XRes Spans :=
  let b := e.bytes
  let acc := s.entryAccess m.wq w e .write 0
  match m.kind with
  | .get =>
    match s.xlatePieces (.item m.wq m.pos) acc (subPieces (e.pieces.getD []) m.off m.len) with
    | (s, _, some r) => (s, .error r)
    | (s, sp, none) => (s, .ok sp)
  | .atomic =>
    if entryLaddr b = 0 then (s, .ok [])
    else match s.xlateSpan (.item m.wq m.pos) { acc with ia := entryLaddr b % 2 ^ 48 } 2 (entrySize b) with
    | (s, _, some r) => (s, .error r)
    | (s, sp, none) => (s, .ok sp)
  | _ => (s, .ok [])

/-- What an operation would build next. -/
inductive PumpStep where
  | idle
  /-- packet `i` of a message again (R435) -/
  | again (m : RMsg) (i : Nat)
  /-- the next packet of a message under way -/
  | more (m : RMsg)
  /-- a new message -/
  | fresh
  deriving DecidableEq, Repr

/-- The next step of an operation; a notification waits until every data message has been acknowledged OK (R438). -/
def ROp.step (o : ROp) (p : Peer) (b : List Byte) : PumpStep :=
  let mine := p.msgs.filter (fun m => m.wq = o.wq ∧ m.pos = o.pos)
  match mine.findSome? (fun m => m.due.head?.map (fun i => (m, i))) with
  | some (m, i) => .again m i
  | none =>
    if o.failed.isSome then .idle
    else match mine.find? (fun m => m.sent < m.reqs) with
    | some m => .more m
    | none => if o.all ∨ (entryOp b = 0x21 ∧ o.cut = entryLen b ∧ !mine.isEmpty) then .idle else .fresh

/-- A packet of an operation remains to be sent and the window lets it: a SEGMENT item carries the operation on. -/
def State.wantsRun (s : State) (o : ROp) : Bool :=
  match s.peer o.pair, s.recvEntry o.wq o.pos with
  | some p, some (_, e) =>
    (match o.step p e.bytes with
      | .idle => false
      | .again _ _ => true
      | .more _ => s.windowOpen p
      | .fresh => s.windowOpen p && p.maySend (entryOp e.bytes = 0x23))
      && !(s.host.engines.items.any (fun i => i.src.entryOf = (o.wq, o.pos)))
  | _, _ => false

/-- A SEGMENT item for an operation joins its home cluster's intake, ahead of its queue's later ones. -/
def State.addSegment (s : State) (n pos : Nat) : State :=
  match s.recvEntry n pos with
  | none => s
  | some (w, e) =>
    s.addItemFront { slice := w.slice, src := .segment n pos, key := entryKey w.slice n e.bytes, cost := 2, cluster := w.home }

/-- Operations of a peer whose packets the window held back go on. -/
def State.resumeOps (s : State) (p : Pair) : State :=
  (s.remote.ops.filter (fun o => o.pair = p)).foldl (fun s o => if s.wantsRun o then s.addSegment o.wq o.pos else s) s

/-! How operations end (R433, R444) -/

/-- An operation ends once each of its messages is finished, and either all have been sent or one has failed. -/
def State.settleOp (s : State) (n pos : Nat) : State :=
  match s.rop n pos with
  | none => s
  | some o =>
    let open_ : Bool := match s.peer o.pair with
      | some p => p.msgs.any (fun m => m.wq = n ∧ m.pos = pos)
      | none => false
    if open_ ∨ (o.failed.isNone ∧ !o.all) then s
    else
      let s := s.dropRop n pos
      match o.failed with
      | none =>
        let count := match s.recvEntry n pos with
          | some (_, e) => if entryOp e.bytes = 0x21 then entryLen e.bytes else o.okLen
          | none => o.okLen
        s.finish n pos .ok count 0 o.value
      | some (_, c, d) =>
        let s := s.finish n pos c o.okLen d
        match (s.slice o.slice).st with
        | .starting | .test | .recovering => s.wqFail n 5
        | _ => s

/-- A failure of an operation: the lowest-numbered one stays (R433). -/
def State.failOp (s : State) (n pos num : Nat) (c : Comp) (detail : Nat) : State :=
  match s.rop n pos with
  | none => s
  | some o =>
    match o.failed with
    | none => s.putRop { o with failed := some (num, c, detail) }
    | some (k, _, _) => if 0 < diff24 k num ∧ diff24 k num < 2 ^ 23 then s.putRop { o with failed := some (num, c, detail) } else s

/-- A message is finished, OK or with a failure. -/
def State.endMsg (s : State) (pr : Pair) (m : RMsg) (c : Comp) (value : Nat := 0) : State :=
  match s.peer pr with
  | none => s
  | some p =>
    let s := s.putPeer { p with msgs := p.msgs.filter (fun x => x.num ≠ m.num) }
    let s := match s.rop m.wq m.pos with
      | none => s
      | some o =>
        if c = Comp.ok then s.putRop { o with okLen := o.okLen + m.len, value := if m.kind = RKind.atomic then value else o.value }
        else
          let s := s.failOp m.wq m.pos m.num c 0
          if c = Comp.transportTimeout then
            s.rmaEvent o.slice 0 (pairSource pr) (pr.station + at' 16 m.num + at' 40 o.cls)
          else s
    s.settleOp m.wq m.pos

/-! Packets of an operation, built by an engine -/

/-- The slice holds the operation's key no more: what is not built yet is not built, and the operation ends with PARTITION_REJECT
(R194). -/
def State.refuseKey (s : State) (o : ROp) (p : Peer) : State :=
  let cut := p.msgs.filter (fun m => m.wq = o.wq ∧ m.pos = o.pos ∧ (m.sent < m.reqs ∨ !m.due.isEmpty))
  let s := if o.all then s else s.failOp o.wq o.pos p.next .partitionReject 0
  (cut.foldl (fun s m => s.endMsg o.pair m .partitionReject) s).settleOp o.wq o.pos

/-- Packet `i` of a message is sent again (R435). -/
def State.sendAgain (s : State) (o : ROp) (m : RMsg) (i : Nat) (w : Wq) (e : WqEntry) : State × Option XRes :=
  match s.requestData o m i w e with
  | (s, .error r) => (s, some r)
  | (s, .ok (data, wait)) =>
    let s := s.putMsg o.pair { m with due := m.due.erase i, again := if m.again.contains i then m.again else m.again ++ [i] }
    ((s.sendRequest o m i e data wait).countSlice o.slice 20, none)

/-- A message's next packet is sent (R421). -/
def State.sendMore (s : State) (o : ROp) (m : RMsg) (w : Wq) (e : WqEntry) : State × Option XRes :=
  match s.requestData o m m.sent w e with
  | (s, .error r) => (s, some r)
  | (s, .ok (data, wait)) =>
    let s := s.putMsg o.pair { m with sent := m.sent + 1, times := m.times ++ [s.uptime]
                                      timer := if m.sent = 0 then s.uptime else m.timer }
    (s.sendRequest o m m.sent e data wait, none)

/-- An operation's next message begins with its first packet (R420, R421). -/
def State.sendFresh (s : State) (o : ROp) (p : Peer) (w : Wq) (e : WqEntry) : State × Option XRes :=
  let (m, last, cut) := o.nextMsg e.bytes
  match s.answerSpans m w e with
  | (s, .error r) => (s, some r)
  | (s, .ok sp) =>
    match s.requestData o { m with num := p.next } 0 w e with
    | (s, .error r) => (s, some r)
    | (s, .ok (data, wait)) =>
      let m := { m with num := p.next, spans := sp, sent := 1, times := [s.uptime], timer := s.uptime }
      let s := (s.newMsg ((s.peer o.pair).getD p) m).putRop { o with cut := cut, all := last }
      (s.sendRequest o m 0 e data wait, none)

/-- One packet of an operation, or what stops it (R194, R218, R430, R437). -/
def State.pump1 (s : State) (o : ROp) (p : Peer) (w : Wq) (e : WqEntry) : State × Option Stop1 :=
  let step := o.step p e.bytes
  if step = .idle then (s, some .all)
  else if !s.holdsKey o.slice o.pkey.toNat then (s.refuseKey o p, some .all)
  else if s.shaperHolds o.slice o.cls then (s, some .shaper)
  else
    let (s, r) : State × Option XRes := match step with
      | .idle => (s, none)
      | .again m i => s.sendAgain o m i w e
      | .more m => if s.windowOpen p then s.sendMore o m w e else (s, none)
      | .fresh => if p.maySend (entryOp e.bytes = 0x23) && s.windowOpen p then s.sendFresh o p w e else (s, none)
    let shut : Bool := match step with
      | .idle | .again _ _ => false
      | .more _ => !s.windowOpen p
      | .fresh => !(p.maySend (entryOp e.bytes = 0x23) && s.windowOpen p)
    (s, if shut then some .window else r.map .xlate)

/-- A run of at most `n` packets of an operation (R420, R421). -/
def State.pump (s : State) (n pos : Nat) : Nat → State × Stop1
  | 0 => (s, .run)
  | fuel + 1 =>
    match s.rop n pos, s.recvEntry n pos with
    | some o, some (w, e) =>
      match s.peer o.pair with
      | none => (s, .all)
      | some p =>
        match s.pump1 o p w e with
        | (s, some r) => (s, r)
        | (s, none) => s.pump n pos fuel
    | _, _ => (s, .all)

/-! RTO and PWND (R434, R435, R437) -/

/-- A sample of `t` ticks (R434); SRTT and RTTVAR are kept in units of 2^-16 ns. -/
def State.sample (s : State) (p : Peer) (t : Nat) : Peer :=
  let r := t * 8 * 65536
  let (srtt, var) := match p.srtt with
    | none => (r, r / 2)
    | some (a, v) => ((7 * a + r) / 8, (3 * v + (if a ≤ r then r - a else a - r)) / 4)
  let rto := ceilDiv (srtt + 4 * var) (100 * 65536)
  { p with srtt := some (srtt, var), rto := some (max s.rtoMin (min rto s.rtoMax)) }

/-- PWND after `k` packets acknowledged with an echo of 0 (R437). -/
def growWnd (w : Nat) : Nat → Nat
  | 0 => w
  | k + 1 => growWnd (min (4095 * 256) (w + 65536 / max 1 w)) k

/-- Packets have been acknowledged with CONG_ECHO `c` (R437). -/
def State.acked (s : State) (p : Peer) (k c : Nat) : Peer :=
  let w := s.pwndOf p
  if c = 0 then if k = 0 then p else { p with pwnd := some (growWnd w k) }
  else
    let since := match p.cutAt, p.srtt with
      | some t, some (a, _) => decide (a ≤ (s.uptime - t) * 8 * 65536)
      | some _, none => false
      | none, _ => true
    if since then { p with pwnd := some (max 256 (w * (8 - c) / 8)), cutAt := some s.uptime } else p

/-- Packets `ids` of a message are acknowledged: samples of those sent once, the mask, the timer (R432, R434, R435). -/
def State.ackPackets (s : State) (pr : Pair) (num : Nat) (ids : List Nat) (echo : Nat) : State :=
  match s.peer pr with
  | none => s
  | some p =>
    match p.msgs.find? (fun m => m.num = num) with
    | none => s
    | some m =>
      let new := ids.filter (fun i => !m.acked.contains i ∧ i < m.pkts)
      let p := new.foldl (fun p i =>
        if m.again.contains i then p
        else match m.times[i]? with | some t => s.sample p (s.uptime - t) | none => p) p
      let p := s.acked p new.length echo
      let m := { m with acked := m.acked ++ new, timer := if new.isEmpty then m.timer else s.uptime }
      s.putPeer { p with msgs := p.msgs.map (fun x => if x.num = num then m else x) }

/-- Piece `i` of a GET's answer has been placed.  DEDUCED (log 61): its one request packet is acknowledged, sampled and counted for
PWND once every piece is there (R432, R434, R437). -/
def State.gotPiece (s : State) (pr : Pair) (num i : Nat) : State :=
  match s.peer pr with
  | none => s
  | some p =>
    match p.msgs.find? (fun m => m.num = num) with
    | none => s
    | some m =>
      let m := { m with acked := m.acked ++ [i], timer := s.uptime }
      let p := if m.acked.length < m.pkts then p
        else s.acked (if m.again.isEmpty then (match m.times.head? with | some t => s.sample p (s.uptime - t) | none => p) else p) 1 0
      s.putPeer { p with msgs := p.msgs.map (fun x => if x.num = num then m else x) }

/-! The target (R424–R431) -/

/-- CTX and OFFSET of a request name its target address (R422). -/
def targetAddr (h : Header) : Nat := h.ctx.toNat * 2 ^ 32 + h.offset.toNat

/-- An answer to a request, in TC5, neither shaped nor policed (R422, R431). -/
def State.rmaAnswer (s : State) (sl : Nat) (h : Header) (cmd off ext : Nat) (payload : List Byte) (wait : List (Nat × Nat)) : State :=
  s.inject sl (s.stationStop h.dstStation.toNat)
    { dstNode := h.srcNode, dstStation := h.srcStation, srcNode := h.dstNode, srcStation := h.dstStation, pkey := h.pkey, cls := 5
      cmd := BitVec.ofNat 8 cmd, msgId := h.msgId, offset := BitVec.ofNat 32 off, ext := BitVec.ofNat 32 ext } payload wait none 0 true

/-- The newest number c such that every number from HIGH − 4,095 to c is complete (R431). -/
def Peer.cum (p : Peer) : Nat :=
  let high := p.high.getD 0
  let low := (high + 2 ^ 24 - 4095) % 2 ^ 24
  let n := ((List.range 4096).find? (fun i => !p.done.contains ((low + i) % 2 ^ 24))).getD 4096
  (low + n + 2 ^ 24 - 1) % 2 ^ 24

/-- A number's place in the window of a peer: complete there. -/
def Peer.complete (p : Peer) (m : Nat) : Bool := p.done.contains m

/-- A SACK of a message (R431). -/
def State.sack (s : State) (sl : Nat) (p : Peer) (h : Header) (status : Comp) : State :=
  let m := h.msgId.toNat
  let mask := if p.complete m then 0xFFFF
    else (match p.trackers.find? (fun t => t.num = m) with
      | some t => (t.rcvd.map (2 ^ ·)).sum
      | none => 0)
  let echo := max h.cong.toNat (((p.owed.find? (fun (o : Nat × Nat) => o.1 = m)).map Prod.snd).getD 0)
  let s := s.putPeer { p with owed := p.owed.filter (fun o => o.1 ≠ m) }
  s.rmaAnswer sl h 0x2A p.cum (mask + at' 16 status.code + at' 24 echo) [] []

/-- The answer to a request that step 1 or 2 of Table RMA-3 refuses, built from the request alone (R431). -/
def State.refuseRma (s : State) (sl : Nat) (h : Header) (status : Comp) : State :=
  if h.cmd = 0x22 then s.rmaAnswer sl h 0x28 0 (at' 16 status.code) [] []
  else if h.cmd = 0x23 then s.rmaAnswer sl h 0x29 0 (at' 16 status.code) [] []
  else s.rmaAnswer sl h 0x2A ((h.msgId.toNat + 2 ^ 24 - 4096) % 2 ^ 24)
    (0xFFFF + at' 16 status.code + at' 24 h.cong.toNat) [] []

/-- HIGH takes an arriving number: the window afterwards, or none where the message lies behind it (R429). -/
def Peer.arrive (p : Peer) (m : Nat) : Option Peer :=
  match p.high with
  | none => some { p with high := some m, done := [] }
  | some h =>
    let d := diff24 m h
    if 1 ≤ d ∧ d < 2 ^ 23 then
      some { p with high := some m, done := p.done.filter (fun x => diff24 m x < 4096) }
    else if 2 ^ 23 ≤ d ∧ 4096 ≤ diff24 h m then none
    else some p

/-- A failure is kept in the error ring of 16 entries; the newest number evicted is remembered (R430). -/
def Peer.keepErr (p : Peer) (m : Nat) (c : Comp) : Peer :=
  let l := (m, c) :: p.errs
  match l.drop 16 with
  | [] => { p with errs := l }
  | x :: _ => { p with errs := l.take 16
                       evicted := match p.evicted with
                         | some e => if diff24 x.1 e < 2 ^ 23 then some x.1 else some e
                         | none => some x.1 }

/-- A message is complete at the target: its outcome is recorded, its tracker frees (R426). -/
def Peer.finished (p : Peer) (m : Nat) (c : Comp) : Peer :=
  let p := { p with done := if p.done.contains m then p.done else p.done ++ [m], trackers := p.trackers.filter (fun t => t.num ≠ m) }
  if c = .ok then p else p.keepErr m c

/-- A message at or before another number, modulo 2^24. -/
def atOrBefore (a b : Nat) : Bool := decide (diff24 b a < 2 ^ 23)

/-- What a complete message's packet is answered with (R430). -/
def Peer.repeatStatus (p : Peer) (m : Nat) : Comp :=
  match p.errs.find? (fun e => e.1 = m) with
  | some e => e.2
  | none => match p.evicted with
    | some e => if atOrBefore m e then .transportTimeout else .ok
    | none => .ok

/-- GEN of a region (R417). -/
def regionGen (e : Image) : Nat := fldN e 111 104

/-- Steps 7–9 of Table RMA-3 for an access of `len` bytes at `addr` under an RKEY: the region refuses it. `right` is the bit
that must be set. -/
def State.regionRefuses (s : State) (sl rkey right addr len : Nat) : Bool :=
  let e := s.reg R.region 0 (rkey % 65536)
  !bit e 127 || regionGen e != rkey / 65536 % 256 || fldN e 119 112 != sl || !bit e right
    || decide (addr < fldN e 47 0 ∨ fldN e 47 0 + fldN e 87 48 < addr + len)

/-- The access of a request to a region (R425). -/
def State.regionAccess (s : State) (sl rkey : Nat) (k : AccKind) (addr f : Nat) : Access :=
  { slice := sl, ia := addr, kind := k, priv := bit (s.reg R.region 0 (rkey % 65536)) 123, inbound := true, func := f }

/-- REGION_FAULT (R445). -/
def State.regionFault (s : State) (sl : Nat) (h : Header) (rkey : Nat) (c : Comp) : State :=
  s.rmaEvent sl 2 (rkey % 65536) (c.code + at' 32 h.srcNode.toNat + at' 56 h.srcStation.toNat)

/-- Trackers in use. -/
def State.trackersUsed (s : State) : Nat := (s.remote.peers.map (·.trackers.length)).sum
/-- Answers waiting in the response table (R443). -/
def State.answersWaiting (s : State) : Nat := (s.built.filter (fun b => b.hdr.cls = 5)).length

/-- The peer of a request at the target. -/
def State.targetPeer (s : State) (h : Header) : Option Peer := s.peer (pairOf h)

/-- A request's message is complete with a code, and answered. -/
def State.endTarget (s : State) (sl : Nat) (h : Header) (c : Comp) : State :=
  match s.targetPeer h with
  | none => s
  | some p =>
    let p := p.finished h.msgId.toNat c
    let s := s.putPeer p
    if h.cmd = 0x22 then s.rmaAnswer sl h 0x28 0 (at' 16 c.code) [] []
    else if h.cmd = 0x23 then s.rmaAnswer sl h 0x29 0 (at' 16 c.code) [] []
    else s.sack sl p h c

/-- A message fails at steps 7–10: it is complete with the code, and answered (R426, R427, R431). -/
def State.failTarget (s : State) (sl : Nat) (h : Header) (rkey : Nat) (c : Comp) : State :=
  if (s.targetPeer h).isNone then s else (s.regionFault sl h rkey c).endTarget sl h c


/-- How a request fares before its access. -/
inductive Judged where
  /-- it is settled: answered or discarded -/
  | done
  | go (p : Peer)
  deriving DecidableEq, Repr

/-- A request finds no receive resource at its slice (step 1 of Table RMA-3). -/
def State.noReceive (s : State) (sl : Nat) (h : Header) : State := (s.countSlice sl 24).refuseRma sl h .remoteNoReceive

/-- Steps 1–6 of Table RMA-3. Step 5 answers again but for what its own row does. -/
def State.judge (s : State) (sl : Option Nat) (h : Header) (again : State → Nat → Peer → State × Judged) : State × Judged :=
  match sl with
  | none => (s.refuseRma 0 h .remoteNoReceive, .done)
  | some n =>
    if s.refuses n ∨ !s.intakeRoom (s.stationHome h.dstStation.toNat) n ∨ (s.inboundFunc n).isNone then
      (s.noReceive n h, .done)
    else if !s.holdsKey n h.pkey.toNat then ((s.countSlice n 24).refuseRma n h .partitionReject, .done)
    else match s.openPeer n (pairOf h) with
    | (s, none) => (s.countDev 21, .done)
    | (s, some p) =>
      let m := h.msgId.toNat
      match p.arrive m with
      | none => (s.countDev 22, .done)
      | some p =>
        let s := s.setPeer p
        if p.complete m then again (s.countSlice n 21) n p
        else if !(p.trackers.any (fun t => t.num = m)) ∧ 16384 ≤ s.trackersUsed then (s.countDev 23, .done)
        else (s, .go p)

/-- A tracker for a message that has none. -/
def State.track (s : State) (h : Header) (pkts : Nat) : State :=
  match s.targetPeer h with
  | none => s
  | some p =>
    if p.trackers.any (fun t => t.num = h.msgId.toNat) then s
    else s.putPeer { p with trackers := p.trackers ++ [{ num := h.msgId.toNat, pkts := pkts, hdr := h }] }

/-- A PUT_DATA packet has been placed (R426, R431): its bit is set, a complete message is acknowledged at once, another owes a
SACK. -/
def State.placed (s : State) (sl : Nat) (h : Header) : State :=
  match s.targetPeer h with
  | none => s
  | some p =>
    let m := h.msgId.toNat
    let i := h.ext.toNat / 2 ^ 28
    match p.trackers.find? (fun t => t.num = m) with
    | none => s
    | some t =>
      let new := !t.rcvd.contains i
      let t := { t with rcvd := if new then t.rcvd ++ [i] else t.rcvd }
      let p := { p with trackers := p.trackers.map (fun (x : Tracker) => if x.num = m then t else x) }
      if (List.range t.pkts).all (fun k => t.rcvd.contains k) then
        let p := p.finished m .ok
        (s.putPeer p).sack sl p h .ok
      else
        let c := max h.cong.toNat (((p.owed.find? (fun (o : Nat × Nat) => o.1 = m)).map Prod.snd).getD 0)
        s.putPeer { p with owed := (p.owed.filter (fun o => o.1 ≠ m)) ++ [(m, c)] }

/-- No burst or read of a placement is left in the arbiter or at the host. -/
def State.keyGone (s : State) (k : Nat) : Bool :=
  s.host.arb.bursts.all (fun b => b.key ≠ k) && s.host.reads.all (fun r => r.key ≠ k)

/-- Placements that have been handed over are placed (R424); an atomic whose write has been handed over frees its line; a region
write that waited for them is answered, or confirmed to the partner (R419, R512). -/
def State.settlePlacing (s : State) : State :=
  let (gone, left) := s.remote.placing.partition (fun x => s.keyGone x.key)
  let s := s.updRemote (fun r => { r with placing := left })
  let s := gone.foldl (fun s x =>
    if x.hdr.cmd = 0x20 then s.placed x.slice x.hdr
    else if x.hdr.cmd = 0x23 then s.updRemote (fun r => { r with atomics := r.atomics.filter (fun a => a.id ≠ x.key) })
    else s) s
  let (free, wait) := s.remote.invals.partition (fun v => left.all (fun x => x.region ≠ v.1))
  let s := s.updRemote (fun r => { r with invals := wait })
  free.foldl (fun s v =>
    if wait.any (fun w => w.2 = v.2) then s
    else if v.2.path = .pair then
      s.pairSend (.confirm ((List.range v.2.count).map (fun k => (R.region.key 0 (v.2.entry + k), s.reg R.region 0 (v.2.entry + k)))))
    else match s.mgmt.owed.find? (fun o => o.1 = v.2) with
    | some o => (s.updMgmt (fun m => { m with owed := m.owed.erase o })).answer o.1 o.2.1 o.2.2 .ok
    | none => s) s

/-- In service mode a placement, read or atomic is a SERVICE item of the MEMORY service, charged to the target slice (R498). -/
def State.memoryItem (s : State) (sl : Nat) : State :=
  if s.serviceMode then s.otherItem (s.stationHome 7) sl costService else s

/-- Start a placement of a request under a fresh key. -/
def State.newPlacing (s : State) (sl region : Nat) (h : Header) : State × Nat :=
  let k := 2 ^ 40 + s.remote.nextKey
  (s.updRemote (fun r => { r with nextKey := r.nextKey + 1
                                  placing := r.placing ++ [{ key := k, hdr := h, slice := sl, region := region }] }), k)

/-- The new value of an atomic (Table RMA-4). -/
def atomicNew (aop size old a b : Nat) : Nat :=
  let n := 2 ^ (8 * size)
  let sgn (x : Nat) : Int := if x < n / 2 then x else (x : Int) - n
  match aop with
  | 0 => if old = a then b else old
  | 1 => (old + a) % n
  | 2 => a
  | 3 => if sgn old ≤ sgn a then old else a
  | 4 => if sgn old ≤ sgn a then a else old
  | 5 => min old a
  | _ => max old a

/-- The old value of an atomic has been read (R428): the operation, the write where the value changes, the answer, the result
ring of 8 entries. -/
def State.atomicRead (s : State) (id : Nat) (data : List Byte) : State :=
  match s.remote.atomics.find? (fun a => a.id = id) with
  | none => s
  | some x =>
    let old := natOfBytes data
    let new := atomicNew x.aop x.size old x.a x.b
    let acc : Access := { slice := x.slice, ia := targetAddr x.hdr, kind := .atomic, inbound := true, func := x.func
                          priv := bit (s.reg R.region 0 (x.hdr.ext.toNat % 65536)) 123 }
    let s := if new ≠ old then
        s.hostWrite { func := x.func, slice := x.slice, addr := x.bus, key := id, acc := some acc, stale := x.stale } (leBytes new x.size) else s
    let s := match s.targetPeer x.hdr with
      | some p =>
        let p := p.finished x.hdr.msgId.toNat .ok
        (s.putPeer { p with results := ((x.hdr.msgId.toNat, x.size, old) :: p.results).take 8 }).rmaAnswer x.slice x.hdr 0x29 0 0
          (leBytes old x.size) []
      | none => s
    s.settlePlacing

end Sys2Proof.Machine
end

