-- ==== Sys2Proof/Machine/CollOps.lean ====
section
/-! DEFINITION. Operations of collectives (chapter 15): contexts and their trees, packets of a collective, contributions, partials,
results, commit and abort. -/

namespace Sys2Proof.Machine

def State.updColls (s : State) (f : Colls → Colls) : State := { s with colls := f s.colls }
def State.coll (s : State) (n : Nat) : Coll := Table.get {} s.colls.ctx n
def State.setColl (s : State) (n : Nat) (c : Coll) : State :=
  s.updColls (fun x => { x with ctx := Table.set {} x.ctx n c })
def State.updColl (s : State) (n : Nat) (f : Coll → Coll) : State := s.setColl n (f (s.coll n))

/-! Fields of COLL_CTX (Table COL-9) -/

def State.collEntry (s : State) (n : Nat) : Image := s.reg R.collCtx 0 n
def State.collValid (s : State) (n : Nat) : Bool := bit (s.collEntry n) 127
def State.collRoot (s : State) (n : Nat) : Bool := bit (s.collEntry n) 126
def State.collUnitOf (s : State) (n : Nat) : Nat := fldN (s.collEntry n) 125 124
def State.collSlice (s : State) (n : Nat) : Nat := fldN (s.collEntry n) 119 112
/-- Port to the parent, 48 for the twin port; none at the root. -/
def State.collParent (s : State) (n : Nat) : Option Nat :=
  let p := fldN (s.collEntry n) 95 90
  if p = 0x3F then none else some (if p = 60 then 48 else p)
/-- Ports to the children, 48 for the twin port. -/
def State.collChildren (s : State) (n : Nat) : List Nat := (List.range 49).filter (fun p => bit (s.collEntry n) p)
def State.collLocals (s : State) (n : Nat) : Nat := fldN (s.collEntry n) 87 81
/-- Contributors: child port p as p, local member m as 64 + m (R451). -/
def State.contributors (s : State) (n : Nat) : List Nat :=
  s.collChildren n ++ (List.range (s.collLocals n)).map (64 + ·)
/-- Tree edges. -/
def State.collEdges (s : State) (n : Nat) : List Nat := (s.collParent n).toList ++ s.collChildren n
/-- WINDOW and SLICE_EPOCHS (R484). -/
def State.collWindow (s : State) : Nat := fldN (s.eff R.collCtl) 7 0
def State.collEpochs (s : State) : Nat := fldN (s.eff R.collCtl) 15 8

/-- The node recorded at a tree port (R451). -/
def State.collNode (s : State) (p : Nat) : Option Node := (s.link p).partner.map (·.node)

/-! An epoch's operation -/

/-- Segments of the data pass, elements of segment `j`, bytes of an up element. -/
def COp.segs (o : COp) : Nat := ceilDiv o.count (segElems o.cop o.type o.mode)
def COp.elems (o : COp) (j : Nat) : Nat := let p := segElems o.cop o.type o.mode; min p (o.count - j * p)
def COp.upSize (o : COp) : Nat := upBytes o.cop o.type o.mode
def COp.exps (o : COp) : Bool := hasExps o.cop o.type o.mode
/-- EXT of a data packet (Table COL-4). -/
def COp.ext (o : COp) (attempt : Nat) : Nat :=
  o.cop + at' 3 o.type + at' 6 o.mode + at' 8 (o.count - 1) + at' 24 attempt
/-- The operation that EXT names. -/
def copOf (ext : Nat) : COp :=
  { cop := ext % 8, type := ext / 8 % 8, mode := ext / 64 % 4, count := ext / 256 % 65536 + 1 }

/-! Packets between devices (R458) -/

/-- The header of a collective packet to a node, of the current epoch (Table COL-4). -/
def State.collHeader (s : State) (n : Nat) (d : Node) (cmd off ext len : Nat) : Header :=
  ({ dstNode := d, dstStation := 6, srcNode := s.ownNode, srcStation := 6, pkey := BitVec.ofNat 16 (fldN (s.collEntry n) 111 96)
     cls := 1, cmd := BitVec.ofNat 8 cmd, length := BitVec.ofNat 13 len, msgId := BitVec.ofNat 24 (((s.coll n).last + 1) % 2 ^ 24)
     offset := BitVec.ofNat 32 off, ctx := BitVec.ofNat 16 n, ext := BitVec.ofNat 32 ext
     phase := if d.group = s.ownNode.group then 2 else 0 } : Header).sealed

/-- A packet joins what a unit has still to emit; its cells go out token by token (R62). -/
def State.unitQueue (s : State) (u : Nat) (q : UnitPkt) : State :=
  s.updColls (fun x => { x with outq := Table.upd [] x.outq u (· ++ [q]) })

/-- The reduction unit has a packet to send on a tree edge. -/
def State.collSend (s : State) (n p cmd off ext : Nat) (payload : List Byte) : State :=
  match s.collNode p with
  | none => s
  | some d => s.unitQueue (s.collUnitOf n) { port := p, cells := packetCells (s.collHeader n d cmd off ext payload.length) payload }

/-- SEG and PASS of OFFSET. -/
def segOff (j : Nat) (data : Bool) : Nat := j + (if data then 512 else 0)

/-! Abort (R477, R478) -/

/-- A member's entry completes with COLLECTIVE_ABORTED. -/
def State.collAbortEntries (s : State) (c : Coll) : State :=
  (c.members.filter (fun m => !m.gone)).foldl (fun s m =>
    match s.recvEntry m.wq m.pos with
    | some (_, e) => (s.dropItemOf m.wq m.pos).finish m.wq m.pos .collectiveAborted 0 (entryWord e.bytes 48 4)
    | none => s) s

/-- A COLLECTIVE_ABORT event (Table COL-7). -/
def State.collEvent (s : State) (n epoch attempt cause port : Nat) (own : Bool) : State :=
  s.sliceEvent (s.collSlice n) 0x30 n (epoch + at' 32 attempt + at' 40 cause + at' 48 port + at' 56 (b2n own))

/-- Flood COLL_ABORT of an attempt on every tree edge but one. -/
def State.collFlood (s : State) (n attempt cause : Nat) (but : Option Nat) : State :=
  ((s.collEdges n).filter (fun p => some p ≠ but)).foldl (fun s p => s.collSend n p 0x43 0 (cause + at' 24 attempt) []) s

/-- A packet that carries a segment of a context's current attempt. -/
def Coll.carries (c : Coll) (n : Nat) (h : Header) : Bool :=
  h.ctx.toNat == n && h.msgId.toNat == (c.last + 1) % 2 ^ 24 && h.ext.toNat / 2 ^ 24 == c.attempt
    && (h.cmd.toNat == 0x40 || h.cmd.toNat == 0x41)

/-- Segments of an attempt that stand whole in its unit's staging area, and those that the unit has not begun to emit, are freed
(R477). -/
def State.collUnstage (s : State) (n : Nat) (c : Coll) : State :=
  let u := s.collUnitOf n
  let eg := (s.output (56 + u)).egress
  let gone := (eg.filter (fun e => e.first && c.carries n (packetOf [e.body]).hdr && eg.any (fun g => g.pid = e.pid && g.last))).map
    (·.pid)
  let s := if gone.isEmpty then s else (s.updOutput (56 + u) (fun x => { x with egress := x.egress.filter (fun g =>
    !gone.contains g.pid) })).countOut (56 + u) gone.length (eg.filter (fun g => gone.contains g.pid)).length
  s.updColls (fun x => { x with outq := Table.upd [] x.outq u (·.filter (fun q =>
    q.begun || !c.carries n (packetOf (q.cells.take 1)).hdr)) })

/-- Abort the current attempt (R477). -/
def State.collAbort (s : State) (n cause port : Nat) (but : Option Nat) (own : Bool) : State :=
  let c := s.coll n
  let s := (s.collUnstage n c).setColl n { st := .aborted, cause := cause, attempt := (c.attempt + 1) % 256, last := c.last }
  let s := s.updHost (fun h => { h with gathers := h.gathers.filter (fun g =>
    match g.for_ with | .contribution k _ _ | .exponents k _ _ => k ≠ n | _ => true) })
  let s := ((s.collAbortEntries c).updColls (fun x => { x with copies := x.copies.filter (fun k =>
    k.ctx ≠ n ∨ k.epoch ≠ (c.last + 1) % 2 ^ 24) })).countSlice (s.collSlice n) 26
  let s := s.collFlood n c.attempt cause but
  s.collEvent n ((c.last + 1) % 2 ^ 24) c.attempt cause port own

/-- COLL_ABORT for attempt `a` at a context that is not active (Table COL-6): forwarded, and ATTEMPT moves past it. -/
def State.collSkip (s : State) (n a cause : Nat) (but : Option Nat) : State :=
  (s.collFlood n a cause but).updColl n (fun c => { c with st := .aborted, attempt := (a + 1) % 256 })

/-! An epoch becomes active (R460, R471, R474) -/

/-- Buffers that an epoch holds. -/
def State.collBuffers (s : State) (o : COp) : Nat := s.collWindow + (if o.exps then 2 else 0)
/-- Active epochs of a unit. -/
def State.activeIn (s : State) (u : Nat) : List (Nat × Coll) :=
  s.colls.ctx.filter (fun c => c.2.st = .active ∧ s.collUnitOf c.1 = u)

/-- The steeped allocation of a root fits the operation (R471). -/
def State.steepFits (s : State) (n : Nat) (o : COp) : Bool :=
  let e := s.reg R.collSteep 0 n
  bit e 63 && fldN e 62 60 == o.cop && fldN e 59 57 == o.type && fldN e 44 28 == o.count

/-- What keeps an epoch from becoming active: a cause of Table COL-8. -/
def State.collRefuses (s : State) (n : Nat) (o : COp) : Option Nat :=
  let act := s.activeIn (s.collUnitOf n)
  let used := (act.map (fun c => s.collBuffers c.2.op)).sum
  if 256 < used + s.collBuffers o ∨ s.collEpochs ≤ (act.filter (fun c => s.collSlice c.1 = s.collSlice n)).length then some 4
  else if s.collRoot n ∧ o.mode = 2 ∧ !s.steepFits n o then some 3
  else none

/-- The first packet or contribution of an attempt makes the epoch active. -/
def State.collStart (s : State) (n : Nat) (o : COp) : State :=
  s.updColl n (fun c => { c with st := .active, op := o, timer := s.uptime })

/-! Completion of local entries (R463, R464) -/

/-- A write of the entry waits for its translation. -/
def State.writesStale (s : State) (n pos : Nat) : Bool :=
  s.host.arb.bursts.any (fun b => b.stale && b.key == opKey n pos)

/-- A result for the entry has not reached its inner port. -/
def State.copyLeft (s : State) (n pos : Nat) : Bool :=
  s.colls.copies.any (fun c => c.members.any (fun m => m.wq == n && m.pos == pos))

/-- Entries of committed epochs whose results have all been written, with their writes translated, complete. -/
def State.collSettle (s : State) : State :=
  let (go, wait) := s.colls.ends.partition (fun e => !s.writesStale e.wq e.pos && !s.copyLeft e.wq e.pos)
  let s := s.updColls (fun x => { x with ends := wait })
  go.foldl (fun s e =>
    match s.recvEntry e.wq e.pos with
    | some (_, en) =>
      s.finish e.wq e.pos (if e.overflow then .okGuardOverflow else .ok) e.count (entryWord en.bytes 48 4) e.specific
    | none => s) s

/-- SPECIFIC of a COLLECTIVE's completion: OVERFLOW_COUNT and OVERFLOW_INDEX. -/
def overflowSpecific (flagged : List Nat) : Nat :=
  let idx := flagged.take 16
  flagged.length + ((List.range 16).map (fun i => at' (32 + 16 * i) (idx[i]?.getD 0xFFFF))).sum

/-- Commit an epoch (R463, R464): local entries complete, buffers free, LAST moves. -/
def State.collCommit (s : State) (n : Nat) (overflow : Bool) (specific : Nat) : State :=
  let c := s.coll n
  let ends : List CollEnd := (c.members.filter (fun m => !m.gone)).map (fun m =>
    let recv := match s.recvEntry m.wq m.pos with | some (_, e) => entryWord e.bytes 36 8 | none => 0
    { wq := m.wq, pos := m.pos, overflow := overflow, specific := specific
      count := if recv = 0 then 0 else c.op.count * typeBytes c.op.type })
  let s := s.setColl n { st := .idle, cause := c.cause, last := (c.last + 1) % 2 ^ 24 }
  ((s.updColls (fun x => { x with ends := x.ends ++ ends })).countSlice (s.collSlice n) 25).collSettle

/-! Results (R463) -/

/-- Cut bytes at the page boundaries of an address. -/
def pageCuts : Nat → Nat → List Byte → List (Nat × List Byte)
  | 0, _, _ => []
  | n + 1, a, bs =>
    if bs.isEmpty then [] else
      let k := 4096 - a % 4096
      (a, bs.take k) :: pageCuts n (a + k) (bs.drop k)

/-- One result segment is written into a member's RECV_ADDR; a fault completes its entry and leaves the epoch alone (R464). -/
def State.collPlace (s : State) (n : Nat) (m : CMember) (off : Nat) (data : List Byte) : State :=
  match s.recvEntry m.wq m.pos with
  | none => s
  | some (w, e) =>
    let recv := entryWord e.bytes 36 8 % 2 ^ 48
    if recv = 0 ∨ m.gone then s
    else (pageCuts (data.length / 4096 + 2) (recv + off) data).foldl (fun s p =>
      let a := s.entryAccess m.wq w e .write p.1
      match s.xlate (.item m.wq m.pos) a with
      | (s, .hit bus) => s.writeSpans { key := opKey m.wq m.pos } [(bus, p.2.length, a)] p.2
      | (s, .fault f) =>
        (s.finish m.wq m.pos f.local 0 f.detail).updColl n (fun c => { c with members := c.members.map (fun x =>
          if x.num = m.num then { x with gone := true } else x) })
      | (s, _) =>
        s.hostWrite { func := a.func, slice := a.slice, addr := p.1, key := opKey m.wq m.pos, acc := some a, stale := true } p.2) s

/-- One copy of a result segment goes to each inner port that serves the cluster of a member with a buffer (R463). -/
def State.collCopies (s : State) (n j off : Nat) (data : List Byte) : State :=
  let c := s.coll n
  let at_ (k : Nat) (m : CMember) : Bool := !m.gone && (match s.recvEntry m.wq m.pos with
    | some (w, e) => w.home / 4 == k && entryWord e.bytes 36 8 != 0
    | none => false)
  (List.range 8).foldl (fun s k =>
    match c.members.filter (at_ k) with
    | [] => s
    | ms =>
      let h := s.collHeader n s.ownNode 0x41 (segOff j true) (c.op.ext c.attempt) data.length
      (s.unitQueue (s.collUnitOf n) { inner := some k, cells := packetCells h data }).updColls (fun x => { x with
        copies := x.copies ++ [{ ctx := n, epoch := (c.last + 1) % 2 ^ 24, attempt := c.attempt, seg := j, port := k, off := off
                                 members := ms }] })) s

/-- The class's next packet at an inner port comes from a reduction unit. -/
def State.copyHead (s : State) (j : Nat) : Bool :=
  match (s.output (48 + j)).egress.find? (fun e => e.cls = 1) with
  | some e => decide (56 ≤ e.inp)
  | none => false

/-- A whole copy of a result at an inner port is written into the buffers of the members it serves (R463). -/
def State.collLand (s : State) (j : Nat) : State :=
  match (s.output (48 + j)).egress.find? (fun e => e.cls = 1) with
  | none => s
  | some e =>
    let mine := (s.output (48 + j)).egress.filter (fun g => g.pid = e.pid)
    if !mine.any (·.last) then s
    else
      let p := packetOf (mine.map (·.body))
      let s := ((s.updOutput (48 + j) (fun x => { x with egress := x.egress.filter (fun g => g.pid ≠ e.pid) })).countOut (48 + j) 1
        mine.length).settleDeficit (48 + j) 1
      match s.colls.copies.find? (fun c => c.ctx = p.hdr.ctx.toNat ∧ c.epoch = p.hdr.msgId.toNat ∧ c.attempt = p.hdr.ext.toNat / 2 ^ 24
          ∧ c.seg = p.hdr.offset.toNat % 512 ∧ c.port = j) with
      | none => s
      | some c =>
        (c.members.foldl (fun s m => s.collPlace c.ctx m c.off p.payload)
          (s.updColls (fun x => { x with copies := x.copies.erase c }))).collSettle

/-- A result segment is delivered to the local members and forwarded to the children. -/
def State.collDeliver (s : State) (n j : Nat) (data : List Byte) : State :=
  let c := s.coll n
  let s := (s.collChildren n).foldl (fun s p => s.collSend n p 0x41 (segOff j true) (c.op.ext c.attempt) data) s
  let s := s.updColl n (fun c => { c with downD := c.downD ++ [j], timer := s.uptime })
  s.collCopies n j (j * segElems c.op.cop c.op.type c.op.mode * typeBytes c.op.type) data

/-- Agreed exponents of a segment reach the device and its children. -/
def State.collExps (s : State) (n j : Nat) (words : List Nat) : State :=
  let c := s.coll n
  let s := (s.collChildren n).foldl (fun s p => s.collSend n p 0x41 (segOff j false) (c.op.ext c.attempt) (elemBytes 2 words)) s
  s.updColl n (fun c => { c with downX := c.downX ++ [(j, words)], timer := s.uptime })

/-- Block exponent of element `i` of segment `j`: agreed, or STEEP_EXP for a steeped sum (R472), which a device that is not the root
does not hold (log 62). -/
def State.collExp (s : State) (n : Nat) (c : Coll) (j i : Nat) : Int :=
  if c.op.mode = 2 then
    if s.collRoot n then toSigned 12 (fldN (s.reg R.collSteep 0 n) 56 45) else (Config.leafExp n).toInt
  else toSigned 16 (nthD 0x8000 (((c.downX.find? (fun x => x.1 = j)).map (·.2)).getD []) (i / 16))

/-! The steeped store (R471, R472) -/

/-- An element of an epoch's result goes into its slot: the slot's new value and the flag it raises. -/
def State.steepAdd (s : State) (n : Nat) (o : COp) (i x : Nat) : State × Nat × Bool :=
  let e := s.reg R.collSteep 0 n
  let k := fldN e 27 11 + i
  let id := identSlot o.cop o.type
  let old := Table.get 0 s.colls.slots k ^^^ id
  let new := combine o.cop o.type 2 old x
  let (d, excess) := toDown o.cop o.type 2 (toSigned 12 (fldN e 56 45)) new
  let hit := slotFlag o.cop o.type x || slotFlag o.cop o.type new || excess
  let s := s.updColls (fun c => { c with slots := Table.set 0 c.slots k (new ^^^ id)
                                         flags := if hit && !c.flags.contains k then c.flags ++ [k] else c.flags })
  (s, d, s.colls.flags.contains k)

/-! Partials (R461) -/

/-- The root turns a finished partial down: its elements, and the numbers of those flagged. -/
def State.collTurn (s : State) (n : Nat) (c : Coll) (j : Nat) : Nat → List Nat → State × List Nat × List Nat
  | _, [] => (s, [], [])
  | i, x :: xs =>
    let g := j * segElems c.op.cop c.op.type c.op.mode + i
    let (s, d, hit) : State × Nat × Bool :=
      if c.op.mode = 2 then s.steepAdd n c.op g x
      else let r := toDown c.op.cop c.op.type c.op.mode (s.collExp n c j i) x; (s, r.1, r.2)
    let (s, ds, fs) := s.collTurn n c j (i + 1) xs
    (s, d :: ds, if hit then g :: fs else fs)

/-- The root has sent the last down segment of the data pass: it commits (R463). -/
def State.collSummary (s : State) (n : Nat) : State :=
  let c := s.coll n
  if c.downD.length < c.op.segs then s
  else
    let flagged := sortNat c.flagged
    let spec := overflowSpecific flagged
    let s := (s.collChildren n).foldl (fun s p => s.collSend n p 0x42 0 (c.op.ext c.attempt) (leBytes spec 36)) s
    s.collCommit n (!flagged.isEmpty) spec

/-- Every contributor of a segment has been heard. -/
def State.collHeard (s : State) (n : Nat) (g : CSeg) : Bool := (s.contributors n).all (fun x => g.heard.contains x)

/-- A segment of a pass is finished: its buffer is free. -/
def State.collFree (s : State) (n j : Nat) (data : Bool) : State :=
  s.updColl n (fun c => if data then { c with data := c.data.filter (fun x => x.no ≠ j), upDone := c.upDone ++ [j] }
    else { c with exps := c.exps.filter (fun x => x.no ≠ j), upDoneX := c.upDoneX ++ [j] })

/-- The root turns a whole partial down, or gives the exponents it has agreed. -/
def State.collFinish (s : State) (n : Nat) (g : CSeg) (data : Bool) : State :=
  let c := s.coll n
  let s := s.collFree n g.no data
  if data then
    let (s, ds, fs) := s.collTurn n c g.no 0 g.elems
    let s := s.updColl n (fun c => { c with flagged := c.flagged ++ fs })
    (s.collDeliver n g.no (elemBytes (typeBytes c.op.type) ds)).collSummary n
  else s.collExps n g.no g.elems

/-- Data-pass segment `j` may be sent (R462): the window reaches it, and its exponents are agreed. -/
def State.segOpen (s : State) (c : Coll) (j : Nat) : Bool :=
  (decide (j < s.collWindow) || c.downD.contains (j - s.collWindow)) && (!c.op.exps || c.downX.any (fun x => x.1 = j))

/-- Whole partials of a pass go to the parent, in ascending order and as far as R462 lets them. -/
def State.collRise (n p : Nat) (data : Bool) : Nat → State → State
  | 0, s => s
  | fuel + 1, s =>
    let c := s.coll n
    let j := (if data then c.upDone else c.upDoneX).length
    if data && !s.segOpen c j then s
    else match (if data then c.data else c.exps).find? (fun g => g.no == j && s.collHeard n g) with
    | none => s
    | some g =>
      State.collRise n p data fuel ((s.collFree n j data).collSend n p 0x40 (segOff j data) (c.op.ext c.attempt)
        (elemBytes (if data then c.op.upSize else 2) g.elems))
/-- Every partial of a device that may go up does. -/
def State.collRises (s : State) (n : Nat) : State :=
  match s.collParent n with
  | some p => State.collRise n p true 512 (State.collRise n p false 512 s)
  | none => s

/-- Two lists of elements, element by element. -/
def zipElems (f : Nat → Nat → Nat) : List Nat → List Nat → List Nat
  | x :: xs, y :: ys => f x y :: zipElems f xs ys
  | xs, [] => xs
  | [], ys => ys

/-- A contributor's segment is combined into its partial (R461, R469). -/
def State.collCombine (s : State) (n who j : Nat) (data : Bool) (xs : List Nat) : State :=
  let c := s.coll n
  let l := if data then c.data else c.exps
  let f : Nat → Nat → Nat := if data then combine c.op.cop c.op.type c.op.mode
    else fun x y => if toSigned 16 x ≤ toSigned 16 y then y else x
  let g : CSeg := match l.find? (fun g => g.no = j) with
    | some g => { g with elems := zipElems f g.elems xs, heard := g.heard ++ [who] }
    | none => { no := j, elems := xs, heard := [who] }
  let l := l.filter (fun x => x.no ≠ j) ++ [g]
  let s := s.setColl n (if data then { c with data := l, timer := s.uptime } else { c with exps := l, timer := s.uptime })
  if !s.collHeard n g then s
  else if (s.collParent n).isSome then s.collRises n
  else s.collFinish n g data

/-- The elements of a COLL_UP packet as the unit combines them: a local member's are converted from TYPE (R456, R469). -/
def State.collElems (s : State) (n who j : Nat) (data : Bool) (bs : List Byte) : List Nat :=
  let c := s.coll n
  let k := c.op.elems j
  if 64 ≤ who then
    let xs := elemsOf (typeBytes c.op.type) k bs
    if data then (List.range k).map (fun i => toUp c.op.cop c.op.type c.op.mode (s.collExp n c j i) (nthD 0 xs i))
    else (blocks16 (k / 16 + 1) xs).map (expWord (fpFmt c.op.type))
  else if data then elemsOf c.op.upSize k bs
  else elemsOf 2 (ceilDiv k 16) bs

/-- The segment is finished, or the contributor has been heard in it (R475). -/
def Coll.upSeen (c : Coll) (who j : Nat) (data : Bool) : Bool :=
  (if data then c.upDone else c.upDoneX).contains j
    || (if data then c.data else c.exps).any (fun g => g.no = j ∧ g.heard.contains who)

/-! Arriving packets (R459, R475) -/

/-- The oldest whole packet of a command staged at a reduction unit. -/
def State.collArrival (s : State) (u cmd : Nat) : Option (Nat × Packet) :=
  let eg := (s.output (56 + u)).egress
  (eg.filter (·.first)).findSome? (fun e =>
    let mine := eg.filter (fun g => g.pid = e.pid)
    if mine.any (·.last) then
      let p := packetOf (mine.map (·.body))
      if p.hdr.cmd.toNat = cmd then some (e.pid, p) else none
    else none)

/-- A staged packet leaves the unit, its cells counted as sent by the output. -/
def State.collTake (s : State) (u pid : Nat) : State :=
  let k := ((s.output (56 + u)).egress.filter (fun g => g.pid = pid)).length
  (s.updOutput (56 + u) (fun x => { x with egress := x.egress.filter (fun g => g.pid ≠ pid) })).countOut (56 + u) 1 k

/-- Bring a context to the attempt of a packet that names a newer one (R475): each attempt before it is aborted. -/
def State.collCatchUp (s : State) (n a : Nat) (edge : Nat) : State :=
  (List.range ((a + 256 - (s.coll n).attempt) % 256)).foldl (fun s _ =>
    let c := s.coll n
    if c.st = .active then s.collAbort n 2 0x3F (some edge) true else s.collSkip n c.attempt 2 (some edge)) s

/-- The contributor that a packet of a context comes from (R451): a local member where an entry of this device built it, else the
one of `edges` whose port the sending node stands at. -/
def State.collFrom (s : State) (h : Header) (own : Option (Nat × Nat)) (edges : List Nat) : Option Nat :=
  match own with
  | some (wq, pos) =>
    some (64 + (((s.coll (h.ctx.toNat % 4096)).members.find? (fun m => m.wq = wq ∧ m.pos = pos)).map (·.num)).getD 0)
  | none => edges.find? (fun p => s.collNode p = some h.srcNode)

/-- The entry of this device that built a staged packet. -/
def State.collOwn (s : State) (u pid : Nat) : Option (Nat × Nat) :=
  ((s.output (56 + u)).egress.find? (fun g => g.pid = pid)).bind (·.own)

/-- A collective packet is judged (R451, R475): `edges` are the ports it may come from.  Answers the contributor where it is to be
acted on. -/
def State.collJudge (s : State) (h : Header) (own : Option (Nat × Nat)) (edges : Nat → List Nat) : State × Option Nat :=
  let n := h.ctx.toNat % 4096
  if !s.collValid n then (s.countDev 13, none)
  else if (s.slice (s.collSlice n)).st = .halted then (s.countDev 14, none)
  else match s.collFrom h own (edges n) with
  | none => (s.countDev 12, none)
  | some p =>
    let c := s.coll n
    let a := h.ext.toNat / 2 ^ 24
    if diff24 h.msgId.toNat c.last ≠ 1 then (s.countDev 14, none)
    else if 128 ≤ (a + 256 - c.attempt) % 256 then (s.countDev 14, none)
    else (s, some p)

/-- A packet that carries an operation: the context catches up with its attempt and, where it is not active, becomes so (Table
COL-6).  Answers whether the packet may be acted on. -/
def State.collAdmit (s : State) (h : Header) (edge : Nat) : State × Bool :=
  let n := h.ctx.toNat % 4096
  let s := s.collCatchUp n (h.ext.toNat / 2 ^ 24) edge
  let o := copOf h.ext.toNat
  if (s.coll n).st = .active then
    if (s.coll n).op = o then (s, true) else (s.collAbort n 3 0x3F none true, false)
  else match s.collRefuses n o with
  | some cause => (s.collAbort n cause 0x3F none true, false)
  | none => (s.collStart n o, true)

/-! Local contributions (R453, R462) -/

/-- A member may contribute its next exponent-pass segment, or its next data-pass one (R462). -/
def State.mayExp (_s : State) (c : Coll) (m : CMember) : Bool := c.op.exps && decide (m.nextX < c.op.segs)
def State.mayData (s : State) (c : Coll) (m : CMember) : Bool :=
  decide (m.nextD < c.op.segs) && s.segOpen c m.nextD

/-- A member's segment of elements of TYPE has been read: it goes as a COLL_UP packet, in either pass with its elements as TYPE,
through the member's inner port to the unit (R62, R456, R458). -/
def State.collContribute (s : State) (n num j : Nat) (data : Bool) (xs : List Nat) : State :=
  let c := s.coll n
  match c.members.find? (fun m => m.num = num) with
  | none => s
  | some m =>
    match s.wq m.wq with
    | none => s
    | some w =>
      let payload := elemBytes (typeBytes c.op.type) xs
      if c.st ≠ .active then s
      else { s with built := s.built ++ [{
        stop := s.workStop m.wq m.pos w
        hdr := s.collHeader n s.ownNode 0x40 (segOff j data) (c.op.ext c.attempt) payload.length
        payload := payload, owner := some (m.wq, m.pos), slice := w.slice }] }

/-- A member's SEND_ADDR has faulted: the epoch aborts with MEMBER, its own entry completes with its local code (R477, R478). -/
def State.collMemberFault (s : State) (n : Nat) (m : CMember) (c : Comp) (detail : Nat) : State :=
  let s := s.updColl n (fun k => { k with members := k.members.map (fun x => if x.num = m.num then { x with gone := true } else x) })
  ((s.dropItemOf m.wq m.pos).finish m.wq m.pos c 0 detail).collAbort n 5 0x3F none true

/-- A member sends a segment of one pass: it is read from SEND_ADDR and then reaches the unit. -/
def State.collSegment (s : State) (n : Nat) (m : CMember) (data : Bool) : State :=
  let c := s.coll n
  let j := if data then m.nextD else m.nextX
  let step (s : State) : State := s.updColl n (fun c => { c with members := c.members.map (fun x =>
    if x.num = m.num then (if data then { x with nextD := j + 1 } else { x with nextX := j + 1 }) else x) })
  match s.recvEntry m.wq m.pos with
  | none => s
  | some (w, e) =>
    let k := c.op.elems j
    let send := entryLaddr e.bytes
    if send = 0 then (step s).collContribute n m.num j data (List.replicate k (identElem c.op.cop c.op.type))
    else
      let t := typeBytes c.op.type
      let off := j * segElems c.op.cop c.op.type c.op.mode * t
      match s.xlateSpan (.item m.wq m.pos) (s.entryAccess m.wq w e .read (send % 2 ^ 48 + off)) (k * t / 4096 + 2) (k * t) with
      | (s, sp, none) => (step s).gather (if data then .contribution n m.num j else .exponents n m.num j) sp
      | (s, _, some (.fault f)) => s.collMemberFault n m f.local f.detail
      | (s, _, some _) => s

/-- A tree port is down and nothing fits in its place (R476). -/
def State.collPortDown (s : State) (p : Nat) : Bool :=
  s.notUp p && (match s.altOf p with | .alt a => s.notUp a | _ => true)

/-- Slots of a root's allocation go back to their identities, or only their flags (R473, R482, R483). -/
def State.steepClear (s : State) (n : Nat) (flagsOnly : Bool) : State :=
  let e := s.reg R.collSteep 0 n
  let b := fldN e 27 11
  let c := fldN e 44 28
  s.updColls (fun x => { x with flags := x.flags.filter (fun k => !(b ≤ k ∧ k < b + c))
                                slots := if flagsOnly then x.slots else x.slots.filter (fun k => !(b ≤ k.1 ∧ k.1 < b + c)) })

/-- The lowest free run of `c` slots (R482). -/
def State.steepRun (s : State) (c : Nat) : Option Nat :=
  let runs := ((s.entriesOf R.collSteep).filter (fun e => bit e.2 63)).map (fun e => (fldN e.2 27 11, fldN e.2 44 28))
  let ok (b : Nat) : Bool := decide (b + c ≤ 131072) && runs.all (fun r => decide (b + c ≤ r.1 ∨ r.1 + r.2 ≤ b))
  (0 :: sortNat (runs.map (fun r => r.1 + r.2))).find? ok

/-- A slice's halt aborts its active epochs (R319, R478); its own entries complete otherwise. -/
def State.collHalt (s : State) (sl : Nat) : State :=
  (s.colls.ctx.filter (fun c => c.2.st = .active ∧ s.collSlice c.1 = sl)).foldl (fun s c =>
    (s.updColl c.1 (fun x => { x with members := [] })).collAbort c.1 6 0x3F none true) s

/-- A slice reset zeroises its contexts' state and frees their steeped slots (R321, R479). -/
def State.collReset (s : State) (sl : Nat) : State :=
  let mine := ((s.entriesOf R.collCtx).filter (fun e => bit e.2 127 ∧ fldN e.2 119 112 = sl)).map (·.1)
  mine.foldl (fun s n =>
    let s := if bit (s.reg R.collSteep 0 n) 63 then (s.steepClear n false).setReg R.collSteep 0 n 0 else s
    (s.setColl n {}).updColls (fun x => { x with copies := x.copies.filter (fun k => k.ctx ≠ n) })) s

/-- A fault of a member's own access is delivered (R371, R464, R478). -/
def State.collFault (s : State) (wq pos : Nat) (c : Comp) (detail : Nat) (read : Bool) : State :=
  match s.colls.ctx.findSome? (fun c => (c.2.members.find? (fun m => m.wq = wq ∧ m.pos = pos)).map (fun m => (c.1, m))) with
  | none => s
  | some (n, m) =>
    if read then s.collMemberFault n m c detail
    else (s.finish wq pos c 0 detail).updColl n (fun c => { c with members := c.members.map (fun x =>
      if x.num = m.num then { x with gone := true } else x) })

/-- An entry fails before any of its packets is in flight: a remote-memory operation fails as Table RMA-5 says. -/
def State.failEntry (s : State) (n pos : Nat) (c : Comp) (detail : Nat := 0) : State :=
  match s.recvEntry n pos with
  | none => s
  | some (w, e) =>
    let s := s.finish n pos c 0 detail
    if 0x20 ≤ entryOp e.bytes ∧ entryOp e.bytes ≤ 0x23 then
      match (s.slice w.slice).st with
      | .starting | .test | .recovering => s.wqFail n 5
      | _ => s
    else s

/-- A local fault ends an entry's accesses (R371, R378): a remote-memory operation fails and ends once what it sent is settled; a
rendezvous is aborted, a collective contribution too; any other entry completes at once. -/
def State.entryFail (s : State) (n pos : Nat) (c peer : Comp) (detail : Nat) (read : Bool) : State :=
  match s.rop n pos with
  | some o =>
    let num := match s.peer o.pair with | some p => p.next | none => 0
    ((s.dropItemOf n pos).failOp n pos num c detail).settleOp n pos
  | none =>
    match s.remote.peers.findSome? (fun p => (p.rdvS.find? (fun r => r.wq = n ∧ r.pos = pos)).map (fun r => (p, r))) with
    | some (p, r) => (s.dropItemOf n pos).failRdvS p.slice p.pair r c detail peer
    | none =>
      if s.colls.ctx.any (fun c => c.2.members.any (fun m => m.wq = n ∧ m.pos = pos)) then s.collFault n pos c detail read
      else s.failEntry n pos c detail

/-- A translation fault ends an entry's accesses. -/
def State.entryFault (s : State) (n pos : Nat) (f : TFault) : State :=
  s.entryFail n pos f.local f.remote f.detail (f.detail / 2 ^ 12 % 4 == 0)

/-- Accesses of work entries that a walk or a miss has ended complete their entries (R375, R376). -/
def State.deliverEnded (s : State) : State :=
  s.trans.ended.foldl (fun s e =>
    match e.1 with
    | .item n pos => (s.updTrans (fun t => { t with ended := t.ended.erase e })).entryFault n pos e.2.2
    | _ => s) s

end Sys2Proof.Machine
end

