-- ==== Sys2Proof/Machine/SliceOps.lean ====
section
/-! DEFINITION. Operations on slices as a whole: halt, stop, slice reset, device halt (R289–R291, R319–R322), a function's reset
(R281), the destruction of queues, malformed entries; pools of service mode (R493–R497). -/

namespace Sys2Proof.Machine

/-! What a WQ leaves behind elsewhere -/

/-- Receives posted by a WQ, and records of them, leave their contexts' lists. -/
def State.unpost (s : State) (p : Posted → Bool) : State :=
  s.updRemote (fun r => { r with mctx := r.mctx.map (fun c => (c.1, { c.2 with
    posted := c.2.posted.filter (fun x => !p x), overflow := c.2.overflow.filter (fun x => !p x.2)
    unex := c.2.unex.map (fun u => match u.taken with
      | some (w, q) => if p { wq := w, pos := q } then { u with taken := none, spans := [], stale := false, err := none } else u
      | none => u) })) })

/-- Everything that messaging, remote memory access and collectives keep for a WQ's entries goes. -/
def State.forgetWq (s : State) (n : Nat) : State :=
  let s := s.unpost (fun x => x.wq == n)
  let s := s.updRemote (fun r => { r with
    ops := r.ops.filter (fun o => o.wq ≠ n)
    peers := r.peers.map (fun p => { p with
      send2 := { p.send2 with unacked := p.send2.unacked.filter (fun u => u.wq ≠ n) }
      send3 := { p.send3 with unacked := p.send3.unacked.filter (fun u => u.wq ≠ n) }
      rdvS := p.rdvS.filter (fun x => x.wq ≠ n), rdvR := p.rdvR.filter (fun x => x.wq ≠ n), msgs := p.msgs.filter (fun m => m.wq ≠ n) }) })
  s.updColls (fun c => { c with ends := c.ends.filter (fun e => e.wq ≠ n)
                                copies := c.copies.map (fun k => { k with members := k.members.filter (fun m => m.wq ≠ n) })
                                ctx := c.ctx.map (fun x => (x.1, { x.2 with members := x.2.members.filter (fun m => m.wq ≠ n) })) })

/-- A queue's context is gone: from the chip, and a load of it is of no use (R286). -/
def State.uncache (s : State) (k : Nat) : State :=
  let own : ReadOwner := .context (k / 65536) (k % 65536)
  s.updHost (fun h => { h with
    cached := h.cached.filter (fun x => x ≠ k)
    arb := { h.arb with bursts := h.arb.bursts.filter (fun b => b.owner ≠ own) }
    reads := h.reads.map (fun r => if r.owner = own then { r with owner := .none } else r) })

/-- The owed answer of a DESTROY_WQ. -/
def State.answerClose (s : State) (w : Wq) : State := if w.closing then s.answerOwed (R.queueCmd.index w.slice) 6 .ok else s

/-- A WQ, a CQ, an EQ is gone and its number free. -/
def State.removeWq (s : State) (n : Nat) : State :=
  let gone := (((s.dropItems n).forgetWq n).uncache (ctxNo 0 n)).updHost (fun h => { h with
    wqs := h.wqs.filter (fun w => w.1 ≠ n)
    arb := { h.arb with bursts := h.arb.bursts.filter (fun b => match b.owner with | .fetch w _ _ => w ≠ n | _ => true) }
    reads := h.reads.map (fun r => match r.owner with
      | .fetch w _ _ => if w = n then { r with owner := .none } else r
      | _ => r) })
  match s.wq n with
  | some w => gone.answerClose w
  | none => gone
def State.removeCq (s : State) (n : Nat) : State :=
  (s.uncache (ctxNo 1 n)).updHost (fun h => { h with cqs := h.cqs.filter (fun w => w.1 ≠ n) })
def State.removeEq (s : State) (n : Nat) : State :=
  (s.uncache (ctxNo 2 n)).updHost (fun h => { h with eqs := h.eqs.filter (fun w => w.1 ≠ n) })

/-! Pools (R493–R497) -/

/-- STATE codes of a pool. -/
def poolSt (e : Image) : Nat := fldN e 127 126
/-- A pool in another state. -/
def poolTo (e : Image) (st : Nat) : Image := setFld e 127 126 st

/-- A slice reset's effect on pools (R497). -/
def State.poolsReset (s : State) (sl : Nat) : State :=
  (s.entriesOf R.pool).foldl (fun s p =>
    let e := p.2
    if poolSt e = 1 ∧ fldN e 119 112 = sl then
      let s := s.setPool p.1 (setFld (poolTo e 2) 125 125 1)
      { s with service := { s.service with zeroing := s.service.zeroing ++ [p.1] } }
    else if poolSt e = 0 ∧ fldN e 111 104 = sl then s.setPool p.1 (setFld e 125 125 1)
    else s) s

/-! Halt (R319, R320, R322) -/

/-- The owed answers of a slice's SLICE_CTL, but for the `keep` newest. -/
def State.answerSlice (s : State) (sl keep : Nat) : State :=
  let n := (s.mgmt.owed.filter (fun o => o.2.1 = R.sliceCtl.index sl ∧ o.2.2 = 1)).length
  (List.range (n - keep)).foldl (fun s _ => s.answerOwed (R.sliceCtl.index sl) 1 .ok) s

/-- Built packets of a kind go; one whose first cells are on their way to an inner port is aborted there (R136, R319). -/
def State.abortBuilt (s : State) (test : Built → Bool) : State :=
  let part := s.built.filter (fun b => test b && b.sent != 0)
  let s := { s with built := s.built.filter (fun b => !test b) }
  part.foldl (fun s b => s.ringSend { src := b.stop, dst := innerStop b.stop, kind := b.hdr.cls.toNat, units := 2, slice := b.slice
                                      flags := 4 } .device) s

/-- Packets of a slice that are not wholly on their way to an inner port go, and what its operations wait for; with `all` its
completion and event writes too, granted or not. -/
def State.dropPackets (s : State) (sl : Nat) (all : Bool) : State :=
  let s := s.abortBuilt (fun b => b.slice == sl && (b.hdr.cls.toNat != 0 || b.owner.isSome))
  let s := s.updHost (fun h => { h with
    arb := { h.arb with bursts := h.arb.bursts.filter (fun b => !(b.slice = sl ∧ !contextKey b.key ∧ (all ∨ (!b.report ∧ !b.granted)))) }
    gathers := h.gathers.filter (fun g => match g.for_ with
      | .frags n _ => (match assoc h.wqs n with | some w => w.slice ≠ sl | none => false)
      | .rank t _ _ => t ≠ sl
      | .atomic id => !(s.remote.atomics.any (fun a => a.id = id ∧ a.slice = sl))
      | .contribution c _ _ | .exponents c _ _ => s.collSlice c ≠ sl
      | .bin _ => true) })
  s.updRemote (fun r => { r with atomics := r.atomics.filter (fun a => a.slice ≠ sl), placing := r.placing.filter (fun p => p.slice ≠ sl) })

/-- Every item of a slice is removed; in a halt one on the ring to its thief is, once it arrives (Table ENG-6). -/
def State.dropSliceItems (s : State) (sl : Nat) (halt : Bool) : State :=
  let rides (i : Item) : Bool := match i.place with | .ring _ => halt | _ => false
  s.updEngines (fun e => { e with items := e.items.filter (fun i => i.slice ≠ sl || rides i) })

/-- The rendezvous of a halted receiving slice are aborted (Table MSG-6). -/
def State.rdvHalt (s : State) (sl : Nat) : State :=
  s.remote.peers.foldl (fun s p =>
    if p.slice = sl then
      p.rdvR.foldl (fun s r => s.msgBack sl r.hdr 0x17 r.num 0 Comp.remoteNoReceive.code) s
    else s) s

/-- The running entries of a slice whose checks fail: those that engines are decoding now (R320). -/
def State.malformedNow (s : State) (sl : Nat) : List (Nat × Nat) :=
  (s.host.engines.items.filter (fun i => i.slice = sl ∧ i.runningOn.isSome)).filterMap (fun i =>
    match i.src with
    | .segment _ _ => none
    | .entry n pos => match s.recvEntry n pos with
      | some (w, e) => if (malformation sl w pos e.bytes).isSome then some (n, pos) else none
      | none => none)

/-- Steps 1–3 of a halt (R319): items go, packets go, fetched entries complete in position order. `bad` are the malformed ones. -/
def State.haltStart (s : State) (sl cause : Nat) (bad : List (Nat × Nat)) : State :=
  let x := s.slice sl
  match x.settle with
  | some .reset => s
  | some (.halt _) => s
  | _ =>
    if x.st = .halted then s
    else
      let s := s.updSlice sl (fun x => { x with settle := some (.halt cause) })
      let s := (s.dropSliceItems sl true).dropPackets sl false
      let s := (s.rdvHalt sl).collHalt sl
      let s := (s.host.wqs.filter (fun w => w.2.slice = sl)).foldl (fun s w =>
        let s := (w.2.entries.filter (fun e => e.st ≠ .finished)).foldl (fun s e =>
          s.finish w.1 e.pos (if bad.contains (w.1, e.pos) then .malformedEntry else .sliceHalted) 0) s
        s.forgetWq w.1) s
      -- rendezvous end; trackers of the slice free (Table RMA-12)
      let s := s.updRemote (fun r => { r with peers := r.peers.map (fun p =>
        if p.slice = sl then { p with rdvR := [], trackers := [], owed := [] } else p) })
      (s.transDrop sl).abandonLocks (fun t m => t == sl && m != 0x3FF)

/-- Step 4 of a halt: SLICE_STATUS, the SLICE_STATE event, the fault source; then nothing more is written. -/
def State.haltDone (s : State) (sl cause : Nat) : State :=
  let x := { s.slice sl with haltCause := cause, settle := none }
  let s := (s.setSlice sl x).sliceEvent sl 4 sl ({ x with st := .halted }).status
  ((s.updSlice sl (fun x => { x with st := .halted })).raise (0x410 + sl)).answerSlice sl (b2n x.resetNext)

/-- The device halts (R322): no inner port begins a further packet, what is partly there is aborted. -/
def State.deviceHalt (s : State) : State :=
  let s := ((s.updHost (fun h => { h with devHalt := true })).raise 0x530).abortBuilt (fun b => b.sent != 0)
  (List.range 256).foldl (fun s sl =>
    if sl = 0 then s else s.haltStart sl 3 []) s

/-- An entry is malformed (R317, R319, R320, R322): the first one is recorded, all are counted, its slice halts, and with slice 0
the device. -/
def State.malformed (s : State) (sl n pos code : Nat) : State :=
  match (s.slice sl).settle with
  | some .reset => s
  | _ =>
    let more := (s.malformedNow sl).filter (fun x => x ≠ (n, pos))
    let s := s.updSlice sl (fun x =>
      let x := if x.malformed = 0 then { x with check := code, wq := n, index := pos } else x
      { x with malformed := min 4095 (x.malformed + 1 + more.length) })
    let s := s.haltStart sl 1 ((n, pos) :: more)
    if sl = 0 then s.deviceHalt else s

/-! Slice reset (R321, R357, R419, R479, R497) -/

/-- The queues of a slice and their contexts go, unwritten. -/
def State.killQueues (s : State) (sl : Nat) : State :=
  s.updHost (fun h => { h with
    wqs := h.wqs.filter (fun w => w.2.slice ≠ sl), cqs := h.cqs.filter (fun w => w.2.slice ≠ sl)
    eqs := h.eqs.filter (fun w => w.2.slice ≠ sl)
    cached := h.cached.filter (fun k =>
      !((h.wqs.any (fun w => ctxNo 0 w.1 = k ∧ w.2.slice = sl)) || (h.cqs.any (fun w => ctxNo 1 w.1 = k ∧ w.2.slice = sl))
        || (h.eqs.any (fun w => ctxNo 2 w.1 = k ∧ w.2.slice = sl)))) })

/-- A slice reset zeroises what the slice has on chip and destroys its queues; nothing is written. -/
def State.resetStart (s : State) (sl : Nat) : State :=
  let s := s.updSlice sl (fun x => { x with settle := some .reset, resetNext := false })
  let s := (s.host.wqs.filter (fun w => w.2.slice = sl)).foldl (fun s w =>
    (w.2.entries.filter (fun e => e.st ≠ .finished)).foldl (fun s e => s.sampled w.1 sl e 0xFF 0) (s.answerClose w.2)) s
  let s := { s with counters := s.counters.filter (fun c => !(8000 + 32 * sl ≤ c.1 ∧ c.1 < 8032 + 32 * sl)) }
  let s := (s.dropSliceItems sl false).dropPackets sl true
  let s := (s.killQueues sl).updHost (fun h => { h with
    reads := h.reads.map (fun r => if r.slice = sl ∧ !contextKey r.key then { r with owner := ReadOwner.none } else r)
    engines := { h.engines with vt := h.engines.vt.filter (fun v => v.1 % 256 ≠ sl) } })
  let s := (s.transDrop sl).tlbRemove (fun t => t.slice == sl)
  let s := s.collHalt sl |>.collReset sl
  let s := s.updRemote (fun r => { r with
    mctx := r.mctx.filter (fun c => s.stationSlice (mctxStation (s.reg R.matchCtx 0 c.1)) ≠ some sl)
    peers := r.peers.filter (fun p => p.slice ≠ sl), stored := r.stored.filter (fun p => p.2.slice ≠ sl)
    ranks := r.ranks.filter (fun x => x.1 ≠ sl), ops := r.ops.filter (fun o => o.slice ≠ sl) })
  let s := (s.entriesOf R.region).foldl (fun s e =>
    if fldN e.2 119 112 = sl ∧ bit e.2 127 then
      s.setRegion e.1 (setFld (setFld e.2 127 127 0) 111 104 (fldN e.2 111 104 + 1))
    else s) s
  let s := (List.range 64).foldl (fun s g =>
    let v := s.lockGroup g
    if bit v 15 ∧ fldN v 7 0 = sl then
      s.updHost (fun h => { h with locks := h.locks.filter (fun l => l.1 / 64 ≠ g) })
    else s) s
  s.poolsReset sl

/-- A slice reset is complete: STOPPED, HALT_CAUSE none, without the queues created meanwhile (R321). -/
def State.resetDone (s : State) (sl : Nat) : State := ((s.killQueues sl).setSlice sl {}).answerSlice sl 0

/-- A STOP (Table WKQ-5): every WQ enters ERROR with SLICE_STOP. -/
def State.stopStart (s : State) (sl : Nat) : State :=
  let s := s.updSlice sl (fun x => { x with settle := some .stop })
  (s.host.wqs.filter (fun w => w.2.slice = sl)).foldl (fun s w => s.wqFail w.1 4) s

/-- A change under way is complete; a STOP only once no item of the slice is left (R290). -/
def State.sliceSettled (s : State) (sl : Nat) : State :=
  match (s.slice sl).settle with
  | none => s
  | some .stop =>
    if s.host.engines.items.any (fun i => i.slice = sl) then s
    else ((s.updSlice sl (fun x => { x with settle := none })).sliceTo sl .stopped).answerSlice sl 0
  | some (.halt c) =>
    let s := s.haltDone sl c
    if (s.slice sl).resetNext then s.resetStart sl else s
  | some .reset => s.resetDone sl

/-! Reset of functions (R281) -/

/-- Requests that were served at the target through functions just reset are answered as if no receive resource existed, and leave
nothing behind (R281 step 3). -/
def State.refuseLost (s : State) (keys : List Nat) : State :=
  let gone := s.remote.placing.filter (fun x => keys.contains x.key)
  let s := s.updRemote (fun r => { r with placing := r.placing.filter (fun x => !keys.contains x.key)
                                          atomics := r.atomics.filter (fun a => !keys.contains a.id) })
  gone.foldl (fun s x => s.endTarget x.slice x.hdr .remoteNoReceive) s

/-- Functions of a set are reset: their queues are destroyed, what depends on them enters ERROR, their tables return to their
reset state, and a slice all of whose functions are reset is reset. -/
def State.resetFuncs (s : State) (fs : List Nat) : State :=
  let slices := (fs.filterMap s.funcSlice).eraseDups
  let wqs := (s.host.wqs.filter (fun w => fs.contains w.2.func)).map (·.1)
  let cqs := (s.host.cqs.filter (fun w => fs.contains w.2.func)).map (·.1)
  let eqs := (s.host.eqs.filter (fun w => fs.contains w.2.func)).map (·.1)
  -- requests of the functions, and what waits for them
  let lost := (s.host.arb.bursts.filter (fun b => fs.contains b.func)).map (·.id) ++ (s.host.reads.filter (fun r => fs.contains r.func)).map (·.id)
  let keys := ((s.host.arb.bursts.filter (fun b => fs.contains b.func)).map (·.key) ++ (s.host.reads.filter (fun r => fs.contains r.func)).map (·.key)).filter (· ≠ 0)
  let s := s.updHost (fun h => { h with
    arb := { h.arb with bursts := h.arb.bursts.filter (fun b => !fs.contains b.func) }
    reads := h.reads.map (fun r => if fs.contains r.func then { r with owner := ReadOwner.none } else r)
    gathers := h.gathers.filter (fun g => !g.wait.any (fun w => lost.contains w.1)) })
  let s := { s with built := s.built.filter (fun b =>
    !(b.wait.any (fun w => lost.contains w.1)) && !(match b.owner with | some (n, _) => b.sent == 0 && wqs.contains n | none => false)) }
  let s := s.refuseLost keys
  let s := wqs.foldl (fun s n => s.removeWq n) s
  let s := cqs.foldl (fun s n => s.removeCq n) s
  let s := eqs.foldl (fun s n => s.removeEq n) s
  let s := (s.host.wqs.filter (fun w => cqs.contains w.2.cq)).foldl (fun s w => s.wqErrorSilent w.1 7) s
  let s := (s.host.cqs.filter (fun c => eqs.contains c.2.eq)).foldl (fun s c => s.cqError c.1 7) s
  let s := fs.foldl (fun s f =>
    let x := s.func f
    let s := s.setFunc f { power := .d0, pme := if x.pme = .owed then .cancelled else x.pme, pmeEn := x.pmeEn, pmeStat := x.pmeStat }
    if funcVf f = 0 then
      let l := funcLink f
      let h := Table.get {} s.host.ports (funcPort f)
      let h := if l = 0 then { h with mbxA := {} } else { h with mbxB := {} }
      (s.updHost (fun x => { x with ports := Table.set {} x.ports (funcPort f) h })).updMgmt (fun m => { m with
        sessions := m.sessions.filter (fun e => e.2.path ≠ .mailbox (funcPort f) l)
        owed := m.owed.filter (fun o => o.1.path ≠ .mailbox (funcPort f) l) })
    else s) s
  slices.foldl (fun s sl => if (s.funcsOf sl).all (fun f => fs.contains f) then s.resetStart sl else s) s

end Sys2Proof.Machine
end

