-- ==== Sys2Proof/Machine/Entries.lean ====
section
/-! DEFINITION. Work entries executed by an engine (chapters 10, 13, 14 and 15): one command for each opcode and one for a further
run of packets. -/

namespace Sys2Proof.Machine

/-! What every entry goes through -/

/-- The entry that engine `e` executes, with its queue and position. -/
def State.runningEntry (s : State) (e : Nat) : Option (Nat × Nat × Wq × WqEntry) :=
  match s.running e with
  | none => none
  | some i =>
    match i.src with
    | .segment _ _ => none
    | .entry n pos => (s.recvEntry n pos).map (fun x => (n, pos, x.1, x.2))

/-- The entry needs the host's memory through its queue's function. -/
def needsHost (b : List Byte) : Bool :=
  let op := entryOp b
  let inline := entryUnits b != 0
  if op = 0x10 ∨ op = 0x20 ∨ op = 0x21 ∨ op = 0x70 then !inline && entryLen b != 0
  else if op = 0x11 then entryFrag b
  else if op = 0x22 then entryLen b != 0
  else if op = 0x23 then entryLaddr b != 0
  else if op = 0x30 then entryLaddr b != 0 || entryWord b 36 8 != 0
  else false

/-- A cause of Table ENG-7 that lies in the host side. -/
def State.hostCause (s : State) (w : Wq) (b : List Byte) : Option ParkCause :=
  if !needsHost b then none
  else if !s.mayIssue w.func then some (.function w.func)
  else if s.sliceFrost w.slice ∨ s.linkFrost (instOf w.func false) then some (.frost w.func)
  else none

/-- The running entry cannot go on for a translation: it waits for a walk, parks, or ends with a fault (R371, R374–R376). -/
def State.stall (s : State) (e n pos : Nat) (w : Wq) (r : XRes) : State :=
  match r with
  | .hit _ | .wait _ => s
  | .trap id => s.park e (.miss id)
  | .noMiss => s.park e .noMiss
  | .noFunc => s.park e (.function (if s.mayIssue w.func then funcPf w.func else w.func))
  | .fault f => s.entryFault n pos f

/-- The fragment table of the entry is there; else its read is started, or what hinders it happens (R303). -/
def State.fragsReady (s : State) (e n pos : Nat) (w : Wq) (x : WqEntry) : State × Bool :=
  if !entryFrag x.bytes then (s, true)
  else match x.frags with
  | .table _ => (s, true)
  | .reading => (s, false)
  | .none =>
    let a := s.entryAccess n w x .descriptor (entryLaddr x.bytes % 2 ^ 48)
    match s.xlateSpan (.item n pos) a 4 (16 * (entryLaddr x.bytes / 2 ^ 48 % 512 + 1)) with
    | (s, sp, none) => ((s.gather (.frags n pos) sp).updEntry n pos (fun y => { y with frags := .reading }), false)
    | (s, _, some r) => (s.stall e n pos w r, false)

/-- An engine executes an entry of some opcodes: checks 1–10 first (R317, R318), then what makes it park (R343), then `act`. -/
def State.execEntry (s : State) (e : Nat) (ops : Nat → Bool) (act : State → Nat → Nat → Wq → WqEntry → State) : State :=
  match s.runningEntry e with
  | none => s
  | some (n, pos, w, x) =>
    if !ops (entryOp x.bytes) then s
    else match malformation w.slice w pos x.bytes with
    | some code => s.malformed w.slice n pos code
    | none =>
      match s.hostCause w x.bytes with
      | some c => s.park e c
      | none => act s n pos w x

/-- The destination of an entry: where it has none, the entry parks or ends (R411). -/
def State.withDest (s : State) (e n pos : Nat) (w : Wq) (x : WqEntry) (act : State → Nat → Nat → State) : State :=
  match s.dest w x with
  | (s, .node d st) => act s d st
  | (s, .unreachable) => s.failEntry n pos .unreachable
  | (s, .miss job rank) => (s.trackEntry n pos (fun t => { t with rankMiss := true })).park e (.rank job rank)

/-- The peer context of an entry (R442). -/
def State.withPeer (s : State) (n pos sl : Nat) (p : Pair) (act : State → Peer → State) : State :=
  match s.openPeer sl p with
  | (s, some x) => act s x
  | (s, none) => (s.peerFull sl p).finish n pos .unreachable 0

/-! NOP (R300) -/

/-- ENTRY_NOP: a NOP finishes at once; an opcode outside Table WKQ-12 fails check 1 (R317). -/
def execEntryNop (e : EngineNo) (s : State) : Result :=
  .next (s.execEntry e (fun op => op = 0x00 ∨ !knownOp op) (fun s n pos _ _ => s.finish n pos .ok 0))

/-! SEND (R387–R395, R411) -/

/-- EAGER_LIMIT of a slice. -/
def State.eagerLimit (s : State) (sl : Nat) : Nat := fldN (s.reg R.msgSliceCtl sl) 12 0

/-- A SEND on its channel: a CHANNEL_SYNC where one is owed, then the EAGER or the RTS (R387, R390, R391, R395). -/
def State.sendOn (s : State) (e n pos : Nat) (w : Wq) (x : WqEntry) (ctx : Image) (p : Peer) : State :=
  let b := x.bytes
  let cls := entryClass b
  let ch := p.send cls
  let len := entryLen b
  let pkey := BitVec.ofNat 16 (entryPkey b)
  let wire := mctxWire ctx
  let tag := BitVec.ofNat 32 (entryWord b 36 4)
  let head := prologue (fldN ctx 31 0) len (entryFld b 10 10 == 1)
  let sl := w.slice
  let eager := decide (len ≤ s.eagerLimit sl)
  let go (s : State) (body : List Byte) (wait : List (Nat × Nat)) : State :=
    let s := if ch.sync then s.msgForward sl n pos p.pair pkey cls 0x16 ch.next 0 wire 0 [] [] else s
    let s := s.msgForward sl n pos p.pair pkey cls (if eager then 0x10 else 0x11) ch.next 0 wire tag (head ++ body) wait
    let ch' : SendChan := { sync := false, next := (ch.next + 1) % 2 ^ 24
                            unacked := ch.unacked ++ [{ num := ch.next, wq := n, pos := pos, rdv := !eager }] }
    let rdv : RdvSend := { num := ch.next, cls := cls, wq := n, pos := pos, pkey := pkey, ctx := wire }
    let s := match s.peer p.pair with
      | some q => s.putPeer (let q := q.withSend cls ch'; if eager then q else { q with rdvS := q.rdvS ++ [rdv] })
      | none => s
    match s.running e with
    | some i => s.dropItem i.id
    | none => s
  if !eager ∨ len = 0 then go s [] []
  else if entryUnits b ≠ 0 then go s (entryInline b) []
  else match s.xlatePieces (.item n pos) (s.entryAccess n w x .read 0) (x.pieces.getD []) with
  | (s, _, some r) => s.stall e n pos w r
  | (s, sp, none) =>
    let (s, wait) := s.readSpans { owner := .payload } sp 16
    go s (List.replicate len 0) wait

/-- ENTRY_SEND (R387). -/
def execEntrySend (e : EngineNo) (s : State) : Result :=
  .next (s.execEntry e (· == 0x10) (fun s n pos w x =>
    let b := x.bytes
    let ctx := s.reg R.matchCtx 0 (entryCtx b)
    if !s.entryCtxOk w.slice (entryCtx b) then s.finish n pos .localProtection 0
    else if !s.holdsKey w.slice (entryPkey b) then s.finish n pos .partitionReject 0
    else if s.shaperHolds w.slice (entryClass b) then s.park e .shaper
    else match s.fragsReady e n pos w x with
    | (s, false) => s
    | (s, true) => s.withDest e n pos w x (fun s d st =>
      s.withPeer n pos w.slice { station := mctxStation ctx, node := d, remote := st } (fun s p =>
        let ch := p.send (entryClass b)
        if ch.unacked.any (fun u => u.wq ≠ n) then s.finish n pos .localProtection 0
        else
          let s := if 2 ^ 22 ≤ ch.unacked.length then s.ackTimeout p.pair (entryClass b) else s
          s.sendOn e n pos w x ctx ((s.peer p.pair).getD p)))))

/-! RECV (R400, R403, R405, R406) -/

/-- A RECV without a match joins the posted list, or the overflow list where that has no room on chip (R403, R405). -/
def State.postRecv (s : State) (e n pos : Nat) (w : Wq) (x : WqEntry) : State :=
  let b := x.bytes
  let k := entryCtx b
  let c := s.mctx k
  let r : Posted := { wq := n, pos := pos, tag := BitVec.ofNat 32 (entryWord b 36 4), mask := BitVec.ofNat 32 (entryWord b 40 4)
                      source := entryWord b 44 4, stamp := c.stamp }
  let leave (s : State) : State := match s.running e with | some i => s.dropItem i.id | none => s
  if c.overflow.isEmpty ∧ s.postRoom k w.slice then
    leave (s.setMctx k { c with posted := c.posted ++ [r], stamp := c.stamp + 1 })
  else match s.freeRecord w.slice with
  | none => s.finish n pos .flushed 0
  | some i =>
    let a : Access := { slice := w.slice, ia := s.recordAddr w.slice i, kind := .write, priv := true, wq := n, func := w.func }
    match s.xlateSpan (.item n pos) a 1 64 with
    | (s, _, some r) => s.stall e n pos w r
    | (s, sp, none) =>
      -- the record at the tail names the new one (Table MSG-5)
      let tail := (s.mctx k).overflow.getLast?
      match (match tail with
        | some (j, _) => s.xlateSpan (.item n pos) { a with ia := s.recordAddr w.slice j } 1 64
        | none => (s, [], none)) with
      | (s, _, some r) => s.stall e n pos w r
      | (s, tsp, none) =>
      let s := if tail.isSome then s.writeSpans {} (takeSpans (dropSpans tsp 42) 4) (leBytes i 4) else s
      let s := s.writeSpans {} sp (recordBytes r b)
      leave (s.setMctx k { s.mctx k with overflow := (s.mctx k).overflow ++ [(i, r)], stamp := c.stamp + 1 })

/-- ENTRY_RECV (R400): the oldest unexpected message it matches, or a place in the posted list; a post waits behind a walk of the
overflow list (R404). -/
def execEntryRecv (e : EngineNo) (s : State) : Result :=
  .next (s.execEntry e (· == 0x11) (fun s n pos w x =>
    let b := x.bytes
    let k := entryCtx b
    if !s.entryCtxOk w.slice k then s.finish n pos .localProtection 0
    else match s.fragsReady e n pos w x with
    | (s, false) => s
    | (s, true) =>
      let c := s.mctx k
      let r : Posted := { tag := BitVec.ofNat 32 (entryWord b 36 4), mask := BitVec.ofNat 32 (entryWord b 40 4), source := entryWord b 44 4 }
      if c.walking.isSome then s
      else match c.unex.find? (fun u => u.taken.isNone && r.fits u.hdr.ext u.rank) with
      | some u =>
        match s.giveUnex k w.slice u n pos with
        | (s, some r) => s.stall e n pos w r
        | (s, none) =>
          let s := s.countSlice w.slice 16
          match s.running e with | some i => s.dropItem i.id | none => s
      | none => s.postRecv e n pos w x))

/-! PUT, PUT_IMM, GET, ATOMIC (R420, R427, R428, R438) -/

/-- A run of packets of an operation, and what follows it (R327, R343, R437). -/
def State.runOp (s : State) (e n pos : Nat) (w : Wq) : State :=
  let leave (s : State) : State := match s.running e with | some i => s.dropItem i.id | none => s
  match s.pump n pos 8 with
  | (s, .all) => (leave s).settleOp n pos
  | (s, .run) => (leave s).addSegment n pos
  | (s, .window) => leave s
  | (s, .shaper) => s.park e .shaper
  | (s, .xlate r) => s.stall e n pos w r

/-- An entry of a remote-memory opcode starts (R194, R411, R417, R442). -/
def State.startOp (s : State) (e n pos : Nat) (w : Wq) (x : WqEntry) : State :=
  let b := x.bytes
  if (s.rop n pos).isSome then s.runOp e n pos w
  else if entryRkey b / 2 ^ 24 ≠ 0 then s.finish n pos .remoteProtection 0
  else if !s.holdsKey w.slice (entryPkey b) then s.finish n pos .partitionReject 0
  else if s.shaperHolds w.slice (entryClass b) then s.park e .shaper
  else match s.fragsReady e n pos w x with
  | (s, false) => s
  | (s, true) => s.withDest e n pos w x (fun s d st =>
    let pr : Pair := { station := w.station, node := d, remote := st }
    s.withPeer n pos w.slice pr (fun s _ =>
      let o : ROp := { wq := n, pos := pos, slice := w.slice, pair := pr, cls := entryClass b, pkey := BitVec.ofNat 16 (entryPkey b) }
      (s.updRemote (fun r => { r with ops := r.ops ++ [o] })).runOp e n pos w))

/-- ENTRY_PUT (R420). -/
def execEntryPut (e : EngineNo) (s : State) : Result := .next (s.execEntry e (· == 0x20) (fun s n pos w x => s.startOp e n pos w x))
/-- ENTRY_PUT_IMM (R438). -/
def execEntryPutImm (e : EngineNo) (s : State) : Result := .next (s.execEntry e (· == 0x21) (fun s n pos w x => s.startOp e n pos w x))
/-- ENTRY_GET (R427). -/
def execEntryGet (e : EngineNo) (s : State) : Result := .next (s.execEntry e (· == 0x22) (fun s n pos w x => s.startOp e n pos w x))
/-- ENTRY_ATOMIC (R428). -/
def execEntryAtomic (e : EngineNo) (s : State) : Result := .next (s.execEntry e (· == 0x23) (fun s n pos w x => s.startOp e n pos w x))

/-! COLLECTIVE (R453, R454, R474) -/

/-- ENTRY_COLLECTIVE: a member joins its context's current epoch. -/
def execEntryCollective (e : EngineNo) (s : State) : Result :=
  .next (s.execEntry e (· == 0x30) (fun s n pos w x =>
    let b := x.bytes
    let k := entryCtx b
    let num := entryFld b 159 128
    let epoch := entryWord b 48 4
    if !s.collValid k ∨ s.collSlice k ≠ w.slice ∨ s.collLocals k ≤ num ∨ !s.holdsKey w.slice (fldN (s.collEntry k) 111 96) then
      s.finish n pos .localProtection 0
    else
      let c := s.coll k
      if diff24 (epoch % 2 ^ 24) c.last ≠ 1 ∨ (c.st = .active ∧ c.members.any (fun m => m.num = num)) then
        (s.finish n pos .collectiveAborted 0 epoch).collEvent k (epoch % 2 ^ 24) c.attempt 8 0x3F true
      else
        let o : COp := { cop := entryFld b 359 352, type := entryFld b 367 360, mode := entryFld b 375 368, count := entryLen b }
        let leave (s : State) : State := match s.running e with | some i => s.dropItem i.id | none => s
        let join (s : State) : State :=
          leave (s.updColl k (fun c => { c with members := c.members ++ [{ num := num, wq := n, pos := pos }] }))
        if c.st = .active then
          if c.op = o then join s else (join s).collAbort k 3 0x3F none true
        else match s.collRefuses k o with
        | some cause => (join s).collAbort k cause 0x3F none true
        | none => join (s.collStart k o)))

/-! CONTROL_SEND (R300, Table WKQ-13) -/

/-- ENTRY_CONTROL_SEND: one packet of TC0 under the management key; the entry finishes once the packet's payload has been read. -/
def execEntryControlSend (e : EngineNo) (s : State) : Result :=
  .next (s.execEntry e (· == 0x70) (fun s n pos w x =>
    let b := x.bytes
    let len := entryLen b
    let close (s : State) : State :=
      if s.built.any (fun q => q.owner = some (n, pos) ∧ !q.wait.isEmpty) then s else s.finish n pos .ok len
    if x.built then close s
    else match s.fragsReady e n pos w x with
    | (s, false) => s
    | (s, true) =>
      let h : Header :=
        { dstNode := BitVec.ofNat 20 (entryFld b 147 128), dstStation := BitVec.ofNat 10 (entryFld b 169 160)
          srcNode := s.nodeFor w.slice, srcStation := BitVec.ofNat 10 w.station, pkey := BitVec.ofNat 16 (entryPkey b), cls := 0
          cmd := BitVec.ofNat 8 (entryFld b 295 288), ext := BitVec.ofNat 32 (entryWord b 40 4) }
      let send (s : State) (data : List Byte) (wait : List (Nat × Nat)) : State :=
        close ((s.inject w.slice (s.workStop n pos w) h data wait (some (n, pos)) (s.injCharge data.length []) false).updEntry n pos (fun y => { y with built := true }))
      if len = 0 then send s [] []
      else if entryUnits b ≠ 0 then send s (entryInline b) []
      else match s.xlatePieces (.item n pos) (s.entryAccess n w x .read 0) (x.pieces.getD []) with
      | (s, _, some r) => s.stall e n pos w r
      | (s, sp, none) =>
        let (s, wait) := s.readSpans { owner := .payload } sp 0
        send s (List.replicate len 0) wait))

/-! SEGMENT (R327) -/

/-- ENTRY_SEGMENT: the next run of up to 8 packets of a remote-memory operation or of a rendezvous. -/
def execEntrySegment (e : EngineNo) (s : State) : Result :=
  .next (match s.running e with
    | none => s
    | some i =>
      match i.src with
      | .entry _ _ => s
      | .segment n pos =>
        match s.recvEntry n pos with
        | none => s.dropItem i.id
        | some (w, x) =>
          match s.hostCause w x.bytes with
          | some c => s.park e c
          | none =>
            if (s.rop n pos).isSome then s.runOp e n pos w
            else match s.remote.peers.findSome? (fun p => (p.rdvS.find? (fun r => r.wq = n ∧ r.pos = pos)).map (fun r => (p, r))) with
            | none => s.dropItem i.id
            | some (p, r) =>
              if !s.holdsKey p.slice r.pkey.toNat then
                (s.dropItem i.id).failRdvS p.slice p.pair r .partitionReject 0 .partitionReject
              else if s.shaperHolds p.slice 3 then s.park e .shaper
              else match s.sendData p.slice p.pair r 8 with
              | (s, r, some x) =>
                (s.updRdvS p.pair (fun l => l.map (fun y => if y.wq = n ∧ y.pos = pos then r else y))).stall e n pos w x
              | (s, r, none) =>
                let s := s.updRdvS p.pair (fun l => l.map (fun y => if y.wq = n ∧ y.pos = pos then r else y))
                let s := s.dropItem i.id
                if r.grants.isEmpty then s else s.addSegment n pos)

end Sys2Proof.Machine
end

