-- ==== Sys2Proof/Machine/CountOps.lean ====
section
/-! DEFINITION. Counting (chapter 22): the dump area, counter records, windows and sample records. -/

namespace Sys2Proof.Machine

def State.updCounting (s : State) (f : Counting → Counting) : State := { s with counting := f s.counting }
def State.updSampling (s : State) (f : Sampling → Sampling) : State :=
  s.updCounting (fun c => { c with sampling := f c.sampling })

/-- The value of counter `n` (R632). -/
def State.counter (s : State) (n : Nat) : BitVec 64 := Table.get 0 s.counters n
/-- What its events have added up to since the device reset. -/
def State.totalOf (s : State) (n : Nat) : BitVec 64 := Table.get 0 s.totals n

/-! The dump area (R636) -/

/-- Size and base of the dump area. -/
def State.dumpSize (s : State) : Nat := 2 ^ (fldN (s.reg R.dumpArea) 59 56 + 12)
def State.dumpBase (s : State) : Nat := fldN (s.reg R.dumpArea) 51 12 * 4096
/-- The physical function through which it is reached; the memory of the sled in service mode. -/
def State.dumpFunc (s : State) : Nat :=
  if s.serviceMode then memFunc else 512 * fldN (s.reg R.dumpArea) 55 54 + 256 * fldN (s.reg R.dumpArea) 53 53

/-- `len` bytes at an offset lie within the area. -/
def State.dumpFits (s : State) (off len : Nat) : Bool := decide (off + len ≤ s.dumpSize)
/-- They can be written or read now. -/
def State.dumpReady (s : State) (off len : Nat) : Bool :=
  let a := s.dumpBase + off
  bit (s.reg R.dumpArea) 63 && s.dumpFits off len && s.mayIssue s.dumpFunc && s.writable 0
    && (!s.serviceMode || (s.inPool 0 a && s.inPool 0 (a + len - 1)))

/-- A submitted place in the area is refused (R638, R639, R642). -/
def State.dumpRefuses (s : State) (off len : Nat) : Bool :=
  !bit (s.reg R.dumpArea) 63 || off % 64 != 0 || !s.dumpFits off len

/-- Bytes are written at an offset, charged to slice 0. -/
def State.dumpWrite (s : State) (off : Nat) (data : List Byte) : State :=
  s.hostWrite { func := s.dumpFunc, slice := 0, addr := s.dumpBase + off } data

/-! Counter records (R637, Table CTR-5) -/

/-- Bytes 0–39. -/
def recordHead (seq kind flags source t0 t1 first count : Nat) : List Byte :=
  bytesOf (BitVec.ofNat 320 (seq + at' 32 kind + at' 40 flags + at' 48 source + at' 64 (t0 % 2 ^ 64) + at' 128 (t1 % 2 ^ 64)
    + at' 192 first + at' 224 count)) 40
/-- The values. -/
def recordValues (v : List (BitVec 64)) : List Byte := v.flatMap (fun x => bytesOf x 8)
/-- The trailer. -/
def recordTail (seq : Nat) : List Byte := bytesOf (BitVec.ofNat 64 seq) 8

/-- The number of the next record is taken. -/
def State.nextRecord (s : State) : State :=
  (s.updCounting (fun c => { c with recSeq := (c.recSeq + 1) % 2 ^ 32 })).countDev 30

/-- A record is written into the dump area in its three parts. -/
def State.dumpRecord (s : State) (off kind flags source t0 t1 first : Nat) (v : List (BitVec 64)) : State :=
  let n := s.counting.recSeq
  (((s.dumpWrite off (recordHead n kind flags source t0 t1 first v.length)).dumpWrite (off + 40) (recordValues v)).dumpWrite
    (off + 40 + 8 * v.length) (recordTail n)).nextRecord

/-- Bytes of a record of `n` values. -/
def recordLen (n : Nat) : Nat := 48 + 8 * n

/-! Snapshots (R638) -/

/-- A SNAPSHOT request is refused. -/
def State.snapshotBad (s : State) (v : Image) : Bool :=
  let n := fldN v 159 128
  n == 0 || decide (20352 < fldN v 127 96 + n) || s.dumpRefuses (fldN v 95 64) (recordLen n)

/-- Capture in the present token. -/
def State.capture (s : State) (x : Snapshot) : Snapshot :=
  { x with captured := some (s.ns, (List.range x.count).map (fun i => s.counter (x.first + i))) }

/-- Every pending snapshot whose time has come is captured. -/
def State.captureDue (s : State) : State :=
  s.updCounting (fun c => { c with snaps := c.snaps.map (fun x =>
    if x.captured.isNone ∧ x.at_ ≤ s.tick then s.capture x else x) })

/-- A captured snapshot's record is written, discarded where the area has become too small, or waits. -/
def State.writeSnapshot (s : State) (x : Snapshot) : State :=
  match x.captured with
  | none => s
  | some (t, v) =>
    let gone (s : State) : State := s.updCounting (fun c => { c with snaps := c.snaps.erase x })
    if !s.dumpFits x.offset (recordLen v.length) then (gone s).countDev 30
    else if !s.dumpReady x.offset (recordLen v.length) then s
    else (gone s).dumpRecord x.offset 1 (b2n x.late) 0 t t x.first v

/-! Counter windows (R639, R640) -/

def State.ctrWindow (s : State) (k : Nat) : CtrWindow := nthD {} s.counting.windows k
def State.setCtrWindow (s : State) (k : Nat) (w : CtrWindow) : State :=
  s.updCounting (fun c => { c with windows := setNth c.windows k w })

/-- Free words of the window store. -/
def State.storeFree (s : State) : Nat :=
  16384 - (s.counting.windows.map (fun w => if w.win.st = .free then 0 else w.count)).sum

/-- A COUNTER_WINDOW write is refused with OUT_OF_RANGE. -/
def State.windowBad (s : State) (v : Image) : Bool :=
  let n := fldN v 172 160
  n == 0 || decide (4096 < n) || decide (20352 < fldN v 159 128 + n) || s.dumpRefuses (fldN v 223 192) (recordLen n)

/-- The window's start takes effect: its accumulators are zero. -/
def State.windowRuns (s : State) (w : CtrWindow) : CtrWindow :=
  { w with tStart := s.ns, base := (List.range w.count).map (fun i => s.totalOf (w.first + i)) }

/-- The window's stop takes effect: its record is due. -/
def State.windowEnds (s : State) (w : CtrWindow) : CtrWindow :=
  { w with win := { w.win with st := .writing }, tEnd := s.ns, base := []
           value := (List.range w.count).map (fun i => s.totalOf (w.first + i) - nthD 0 w.base i) }

/-- The window is empty: a record of zeros is due. -/
def State.windowEmpty (s : State) (w : CtrWindow) : CtrWindow :=
  { w with win := { w.win with st := .writing }, empty := true, tStart := s.ns, tEnd := s.ns, base := []
           value := List.replicate w.count 0 }

/-- An ended window's record is written, discarded where it no longer fits (Table CTR-11), or waits. -/
def State.writeWindow (s : State) (k : Nat) : State :=
  let w := s.ctrWindow k
  if w.win.st ≠ .writing then s
  else if !s.dumpFits w.offset (recordLen w.count) then (s.setCtrWindow k {}).countDev 30
  else if !s.dumpReady w.offset (recordLen w.count) then s
  else (s.setCtrWindow k {}).dumpRecord w.offset 2 (b2n w.late + 2 * b2n w.empty) k w.tStart w.tEnd w.first w.value

/-! Sampling (R642–R644) -/

/-- Records of the sample ring, and its offset in the dump area. -/
def sampleSlots (c : Image) : Nat := 2 ^ (fldN c 171 168 + 6)
def sampleOffset (c : Image) : Nat := fldN c 223 192

/-- A SAMPLE_CTL write is refused with OUT_OF_RANGE. -/
def State.sampleBad (s : State) (v : Image) : Bool :=
  decide (10 < fldN v 171 168) || fldN v 152 144 == 0 || s.dumpRefuses (sampleOffset v) (64 * sampleSlots v + 8)

/-- A time in whole ticks of 8 ns. -/
def wholeTicks (t : Nat) : Nat := t / 8 * 8
/-- Time from T_IN to a stage; all ones where the stage did not occur. -/
def stageDelay (tIn : Nat) (t : Option Nat) : Nat :=
  match t with
  | some t => (wholeTicks t - wholeTicks tIn) % 2 ^ 32
  | none => 2 ^ 32 - 1

/-- The 64 bytes of a sample record (Table CTR-9).  TOKENS, and ENGINE of an entry that no engine started, are free. -/
def SampleDue.record (d : SampleDue) (seq : Nat) (free : BitVec 64) : List Byte :=
  let t := d.track
  let flags := b2n d.pushed + at' 1 (b2n t.stolen) + at' 2 (b2n t.remote) + at' 3 (b2n t.parked) + at' 4 (b2n t.rankMiss)
    + at' 5 (b2n t.tlbMiss) + at' 6 (b2n t.detour)
  let engine := if t.start.isSome then t.engine else fldN free 47 32
  bytesOf (BitVec.ofNat 512 (seq + at' 32 d.opcode + at' 40 d.slice + at' 48 d.wq + at' 64 d.pos + at' 80 d.status + at' 88 flags
    + at' 96 engine + at' 112 t.port + at' 120 t.packets + at' 128 (wholeTicks d.tIn % 2 ^ 64)
    + at' 192 (stageDelay d.tIn t.intake) + at' 224 (stageDelay d.tIn t.admitted) + at' 256 (stageDelay d.tIn t.start)
    + at' 288 (stageDelay d.tIn t.first) + at' 320 (stageDelay d.tIn t.last) + at' 352 (stageDelay d.tIn (some d.tEnd))
    + at' 384 (d.bytes % 2 ^ 32) + at' 416 (fldN free 31 0) + at' 448 d.node)) 64

/-- SEQ of the oldest record in the buffer. -/
def Sampling.firstSeq (x : Sampling) : Nat := (x.seq + 2 ^ 32 - x.buffer.length) % 2 ^ 32

/-- The ring has room for the oldest record, as far as the last copy of CONSUMER tells (R644). -/
def State.sampleRoom (s : State) : Bool :=
  let x := s.counting.sampling
  decide ((x.firstSeq + 2 ^ 32 - x.consumer) % 2 ^ 32 < sampleSlots (s.reg R.sampleCtl))

/-- Records are written to the ring in SEQ order while they may be. -/
def State.drainSamples (s : State) : Nat → State
  | 0 => s
  | n + 1 =>
    match s.counting.sampling.buffer with
    | [] => s
    | r :: rest =>
      let c := s.reg R.sampleCtl
      let off := sampleOffset c + 64 * (s.counting.sampling.firstSeq % sampleSlots c)
      if s.sampleRoom ∧ s.dumpReady off 64 then
        ((s.updSampling (fun x => { x with buffer := rest })).dumpWrite off r).drainSamples n
      else s

/-- The oldest sampled entry that has finished is recorded: buffered, or lost (R643, R644). -/
def State.recordSample (s : State) : State :=
  match s.counting.sampling.due with
  | [] => s
  | d :: rest =>
    let s := (s.updSampling (fun x => { x with due := rest })).countDev 28
    if 1024 ≤ s.counting.sampling.buffer.length then s.countDev 29
    else
      let r := d.record s.counting.sampling.seq (Config.openValue s.draws)
      (s.drawn.updSampling (fun x => { x with buffer := x.buffer ++ [r], seq := (x.seq + 1) % 2 ^ 32 })).drainSamples 1024

/-- The consumer word is read again where the last copy forbids a write (R644). -/
def State.readConsumer (s : State) : State :=
  let c := s.reg R.sampleCtl
  let off := sampleOffset c + 64 * sampleSlots c
  let asked := s.host.reads.any (fun r => r.owner == .sample) || s.host.arb.bursts.any (fun b => b.owner == .sample)
  if s.counting.sampling.buffer.isEmpty ∨ s.sampleRoom ∨ asked ∨ !s.dumpReady off 8 then s
  else (s.hostReadN { func := s.dumpFunc, slice := 0, addr := s.dumpBase + off, owner := .sample } 1 0 8).1

/-- The consumer word has come (R644). -/
def State.gotConsumer (s : State) (v : Nat) : State :=
  (s.updSampling (fun x => { x with consumer := v % 2 ^ 32 })).drainSamples 1024

/-! A slice's own counters (R641) -/

/-- Bytes are written through translation, split at page boundaries. -/
def State.pagedWrite (s : State) (b : Burst) : Nat → List Byte → State
  | 0, _ => s
  | n + 1, data =>
    if data.isEmpty then s
    else
      let k := 4096 - b.addr % 4096
      (s.hostWrite b (data.take k)).pagedWrite { b with addr := b.addr + k, acc := b.acc.map (Access.shift · k) } n (data.drop k)

/-- A SLICE record of a slice. -/
def State.sliceRecord (s : State) (sl f : Nat) : State :=
  let a := fldN (s.reg R.sliceCtr sl) 47 6 * 64
  let n := s.counting.recSeq
  let v := (List.range 32).map (fun i => s.counter (8000 + 32 * sl + i))
  let put (s : State) (off : Nat) (data : List Byte) : State :=
    s.pagedWrite { func := f, slice := sl, addr := a + off, stale := true, ring := some (3 * 65536 + sl)
                   acc := some { slice := sl, ia := a + off, kind := .write, priv := true, func := f } } 3 data
  (put (put (put s 0 (recordHead n 3 0 sl s.ns s.ns (8000 + 32 * sl) 32)) 40 (recordValues v)) 296 (recordTail n)).nextRecord

/-- A write of it could not be translated: ENABLE is clear, what is left of the record is not written. -/
def State.sliceRecordFault (s : State) (sl : Nat) : State :=
  (s.setReg R.sliceCtr sl 0 (setFld (s.reg R.sliceCtr sl) 63 63 0)).updHost (fun h => { h with arb := { h.arb with
    bursts := h.arb.bursts.filter (fun b => b.ring ≠ some (3 * 65536 + sl)) } })

end Sys2Proof.Machine
end

