-- ==== Sys2Proof/Machine/RingEnds.lean ====
section
/-! DEFINITION. Commands of the ring network and of the crossings (chapter 8) whose effects reach queues and entries: arrivals,
time-outs, resets of crossings; and how host requests of the arbiter fail. -/

namespace Sys2Proof.Machine

/-- RING_PACKET_ARRIVE (R236, R239, R240, R247, R60): the header of a flow's next packet reaches its destination stop, with `free`
units free in its ejection buffer at most; or a stop on its way finds an error in the header. -/
def execRingPacketArrive (src dst : Stop) (kind : RingKind) (hdr : RingHdr) (free : Units40) (s : State) : Result :=
  .next (match hdr with
  | .passCorrected at_ => s.countRing at_ 0
  | .passDouble at_ =>
    match s.rings.pkts.find? (fun p => p.inFlow src dst kind && (p.place == .flying || p.place == .refused)) with
    | some p => ((s.ringTake p).countRing at_ 1).raise (0x190 + 2 * at_)
    | none => s
  | hdr => match s.ringNext src dst kind with
    | none => s
    | some p =>
      match hdr with
      | .doubleError => (((s.ringTake p).ringMark p).countRing dst 1).raise (0x190 + 2 * dst)
      | .invalid => ((s.ringTake p).ringMark p).countRing dst 7
      | h =>
        let s := if h = .corrected then s.countRing dst 0 else s
        match s.ringArrive p free with
        | (s, false) => s
        | (s, true) =>
          match p.own with
          | some (n, pos) => match s.wq n with | some w => s.malformed w.slice n pos 12 | none => s
          | none => s)

/-- An operation served at the target fails on its way to memory. -/
def State.failPlacing (s : State) (key : Nat) (c : Comp) : State :=
  match s.remote.placing.find? (fun x => x.key = key) with
  | none => s
  | some x =>
    let s := s.updRemote (fun r => { r with placing := r.placing.filter (fun y => y.key ≠ key)
                                            atomics := r.atomics.filter (fun a => a.id ≠ key) })
    let s := s.updHost (fun h => { h with gathers := h.gathers.filter (fun g => g.for_ ≠ .atomic key) })
    s.failTarget x.slice x.hdr (x.hdr.ext.toNat % 2 ^ 24) c

/-- A non-posted request of stop `st` ends with RING_TIMEOUT: a block of the device gets the synthesised response (R245); what
becomes of the work it served else (R246). -/
def State.ringTimedOut (s : State) (st : Nat) (o : RingOwner) : State :=
  match o with
  | .device => s.emit (.ringAnswer st 0x80)
  | .fetch n => s.wqFail n 1
  | .cqWrite n => s.cqError n 1
  | .eqWrite n => s.eqError n 1
  | .walk id =>
    match s.trans.walks.find? (fun w => w.id = id) with
    | some w => (s.walkFault w 10 w.lv).deliverEnded
    | none => s
  | .entry n pos => s.entryFail n pos .transportTimeout .transportTimeout 0 true
  | .inbound id => s.failPlacing id .transportTimeout
  | .mgmt obj sub => s.answerOwed obj sub .busy

/-- RING_TIMEOUT (R245, R246): the tag is quarantined, the fault source of the stop raised. -/
def execRingTimeout (st : Stop) (tag : Tag10) (s : State) : Result :=
  let k := 1024 * st + tag
  let t := Table.get ({} : RingTag) s.rings.tags k
  .next (match t.st with
    | .busy o =>
      let s := s.updRings (fun r => { r with tags := Table.set {} r.tags k { t with st := .quarantined s.uptime } })
      ((s.countRing st 3).raise (0x191 + 2 * st)).ringTimedOut st o
    | _ => s)

/-- Write bursts gathered towards a host port's controller are discarded, their charge refunded (R255, Table ENG-10). -/
def State.flushHost (s : State) (k : Nat) : State :=
  (s.host.arb.bursts.filter (fun b => b.granted ∧ b.inst / 4 = k)).foldl (fun s b =>
    (s.setCredit b.inst b.slice (s.credit b.inst b.slice + b.len)).dropBurst b.id) s

/-- CROSSING_RESET (R255): the other side discards what the crossing held, `entries` of them beside what the model holds, and
counts them.  A lane's cells lost follow the link-down rules: the model's lane crossings hold nothing between commands. -/
def execCrossingReset (c : Crossing) (entries : Nat) (s : State) : Result :=
  .next (match c with
    | .host k => ((s.countHost k 12 (entries + (Table.get [] s.rings.waits k).length)).islandReset k).flushHost k
    | .caddy => s.islandReset 4
    | .laneRx _ | .laneTx _ => s)

/-! Requests of the arbiter whose translation fails -/

/-- A request to host memory cannot be translated: the queue, the entry or the operation it serves ends (R316, R371, R378). -/
def State.burstFault (s : State) (b : Burst) (f : TFault) : State :=
  let s := s.dropBurst b.id
  match b.ring with
  | some k =>
    if k / 65536 = 0 then s.wqFail k 1
    else if k / 65536 = 1 then s.cqError (k % 65536) 1
    else if k / 65536 = 2 then s.eqError (k % 65536) 1
    else s.sliceRecordFault (k % 65536)
  | none =>
    match b.owner with
    | .payload =>
      match s.built.find? (fun q => q.wait.any (fun w => w.1 = b.id)) with
      | some q =>
        let s := { s with built := s.built.erase q }
        match q.owner with
        | some (n, pos) => s.entryFault n pos f
        | none => s
      | none => s
    | .gather id =>
      match s.host.gathers.find? (fun g => g.id = id) with
      | none => s
      | some g =>
        let s := s.updHost (fun h => { h with gathers := h.gathers.filter (fun x => x.id ≠ id) })
        match g.for_ with
        | .frags n pos => s.entryFault n pos f
        | .atomic key => s.failPlacing key f.remote
        | .contribution n num _ | .exponents n num _ =>
          match (s.coll n).members.find? (fun m => m.num = num) with
          | some m => s.collMemberFault n m f.local f.detail
          | none => s
        | .rank sl job rank =>
          (s.host.engines.items.filter (fun i => i.slice = sl ∧ i.place = .parked (.rank job rank))).foldl (fun s i =>
            s.finish i.src.entryOf.1 i.src.entryOf.2 f.local 0 f.detail) s
        | .bin id =>
          match s.remote.mctx.findSome? (fun c => (c.2.unex.find? (fun u => u.id = id)).map (fun u => (c.1, u))) with
          | some (n, u) =>
            match u.taken with
            | some (wq, pos) => (s.dropUnex n id).recvDone wq pos u.hdr u.rank u.total 0 u.solicit (some f)
            | none => s
          | none => s
    | _ =>
      if b.key = 0 then s
      else if b.key < 2 ^ 33 then s.entryFault ((b.key - 1) / 65536) ((b.key - 1) % 65536) f
      else s.failPlacing b.key f.remote

end Sys2Proof.Machine
end

