-- ==== Sys2Proof/Machine/HostPorts.lean ====
section
/-! DEFINITION. Commands of the host ports (chapter 9): mailbox, resets, BAR writes to no queue, wake causes, link power management,
configuration writes, MSI-X. -/

namespace Sys2Proof.Machine

/-- The function decodes its BARs: it exists, is enabled and in D0 (R263, R264). -/
def State.barOpen (s : State) (f : Nat) : Bool :=
  s.funcExists f && s.funcEnabled f && s.funcShown f && (s.func f).power == .d0 && !(s.hport (funcPort f)).perst

/-- A configuration request of a function is answered, and not with Request Retry Status (R282). -/
def State.cfgOpen (s : State) (f : Nat) : Bool :=
  s.funcExists f && s.funcShown f && (s.hlink (funcPort f) (funcLink f)).ready

/-- The link exists and is in the endpoint role. -/
def State.endpointLink (s : State) (k l : Nat) : Bool := s.hostRole k == 0 && (l == 0 || s.bifurcated k)

/-! Mailbox (R271) -/

/-- A write of a PF's MBX_CTL; `msg` is what the request buffer holds.  A message that R560 discards, or one on a closed path, draws no
response, and BUSY stays. -/
def State.mbxWrite (s : State) (k l : Nat) (v : BitVec 64) (msg : List Byte) : State :=
  let f := 512 * k + 256 * l
  if !s.barOpen f then s
  else if (s.funcSlice f).isNone then s.countHost k 6
  else
    let h := s.hport k
    let m := if l = 1 then h.mbxB else h.mbxA
    let n := fldN v 12 0
    let bad := m.busy ∨ n = 0 ∨ 4096 < n
    let go : Bool := bit v 60 && !decide bad
    let msg := msg.take n ++ List.replicate (n - msg.length) 0
    let m := { m with done := m.done && !bit v 62, irqEn := bit v 61, reqLen := n, busy := m.busy || go
                      req := if go then msg else m.req }
    let s := s.setHport k (if l = 1 then { h with mbxB := m } else { h with mbxA := m })
    if bit v 60 ∧ bad then s.countHost k 9
    else if go ∧ fdpMalformed msg then s.countDev 8
    else s

/-- MBX_SUBMIT (R271). -/
def execMbxSubmit (h : HostNo) (l : LinkNo) (v : BitVec 64) (msg : List Byte) (s : State) : Result :=
  .next (s.mbxWrite h l (setFld v 60 60 1) msg)
/-- MBX_DONE_CLEAR (R271). -/
def execMbxDoneClear (h : HostNo) (l : LinkNo) (v : BitVec 64) (s : State) : Result :=
  .next (s.mbxWrite h l (setFld (setFld v 62 62 1) 60 60 0) [])

/-! BARs (R266–R269) -/

/-- A slot of a doorbell page, with the offset in it (Table HST-5). -/
inductive BellSlot where
  | wq (slot off : Nat) | cqArm (slot off : Nat) | eqArm (slot off : Nat) | reserved
  deriving DecidableEq, Repr

/-- What an offset of a doorbell page addresses (Table HST-5). -/
def bellSlot (off : Nat) : BellSlot :=
  if off < 0x400 then .wq (off / 64) (off % 64)
  else if off < 0x800 then .cqArm ((off - 0x400) / 64) (off % 64)
  else if off < 0xA00 then .eqArm ((off - 0x800) / 64) (off % 64)
  else .reserved

/-- A region of a function's BARs (Table HST-4). -/
inductive BarRegion where
  | control (off : Nat) | request (off : Nat) | response (off : Nat)
  | msixTable (vector off : Nat) | msixPending (off : Nat)
  | doorbell (page : Nat) (at_ : BellSlot) | push (page slot off : Nat)
  | reserved
  deriving DecidableEq, Repr

/-- What an offset of a BAR addresses (Table HST-4); the pages of a PF are 960, of a VF 192. -/
def barRegion (vf : Bool) (bar off : Nat) : BarRegion :=
  let pages := if vf then 192 else 960
  if bar = 2 then (if off / 0x1000 < pages then .push (off / 0x1000) (off % 0x1000 / 256) (off % 256) else .reserved)
  else if bar ≠ 0 then .reserved
  else if off < 0x1000 then .control off
  else if off < 0x2000 then (if vf then .reserved else .request (off - 0x1000))
  else if off < 0x3000 then (if vf then .reserved else .response (off - 0x2000))
  else if 0x10000 ≤ off ∧ off < 0x18000 then .msixTable ((off - 0x10000) / 16) (off % 16)
  else if 0x18000 ≤ off ∧ off < 0x18100 then .msixPending (off - 0x18000)
  else if 0x40000 ≤ off ∧ (off - 0x40000) / 0x1000 < pages then .doorbell ((off - 0x40000) / 0x1000) (bellSlot (off % 0x1000))
  else .reserved

/-- The WQ that a slot of a function serves (R268). -/
def State.slotWq (s : State) (f page slot : Nat) : Option (Nat × Wq) :=
  s.host.wqs.find? (fun w => w.2.func = f ∧ w.2.page = page ∧ w.2.slot = slot)
/-- The CQ whose arm slot it is. -/
def State.slotCq (s : State) (f page slot : Nat) : Option (Nat × Cq) :=
  s.host.cqs.find? (fun c => c.2.func = f ∧ c.2.page = page ∧ c.2.slot = slot)
/-- The EQ whose arm slot it is. -/
def State.slotEq (s : State) (f page slot : Nat) : Option (Nat × Eq) :=
  s.host.eqs.find? (fun e => e.2.func = f ∧ e.2.page = page ∧ e.2.slot = slot)

/-- A read or write of a control-page field is taken: of 4 or 8 bytes, naturally aligned (R269). -/
def fieldAccess (off len : Nat) : Bool := (len == 4 || len == 8) && off % len == 0

/-- A write to a BAR has a meaning of its own: it is not one of those that R266 and R269 discard and count. -/
def State.barTakes (s : State) (f bar off len : Nat) : Bool :=
  (s.funcSlice f).isSome &&
    match barRegion (funcVf f != 0) bar off with
    | .control o => fieldAccess o len && o / 8 == 0x100 / 8
    | .request _ => true
    | .msixTable v _ => decide (v < s.msixCount f)
    | .doorbell page (.wq slot _) => (s.slotWq f page slot).isSome
    | .doorbell page (.cqArm slot _) => (s.slotCq f page slot).isSome
    | .doorbell page (.eqArm slot _) => (s.slotEq f page slot).isSome
    | .push page slot _ => (s.slotWq f page slot).isSome
    | _ => false

/-- BAR_INVALID_WRITE (R266, R269): discarded and counted.  A write that has a meaning is another command's. -/
def execBarInvalidWrite (w : BarSpan) (s : State) : Result :=
  .next (if s.barOpen w.func ∧ !s.barTakes w.func w.bar w.off w.len then s.countHost (funcPort w.func) 6 else s)

/-! Resets (R281, R282) -/

/-- Functions of a link. -/
def linkFuncs (k l : Nat) : List Nat := (List.range 256).map (512 * k + 256 * l + ·)

/-- A link after a reset. -/
def HLink.reset (st : Nat) : HLink := { st := st }

/-- The links are held as under asserted PERST# (R280–R282): both links and their functions are reset, the crossings flushed; a function in D3hot stays in D3
until the pin is released. -/
def State.hostHold (s : State) (h : Nat) : State :=
  if (s.hport h).perst then s
    else
      let fs := linkFuncs h 0 ++ (if s.bifurcated h then linkFuncs h 1 else [])
      let was := fs.filterMap (fun f => if (s.func f).power = .d3hot then some (f, (s.func f).pme, s.hlink h (funcLink f)) else none)
      let s := ((s.islandReset h).flushHost h).resetFuncs fs
      let s := was.foldl (fun s w => s.updFunc w.1 (fun x =>
        { x with power := if w.2.2.st = 7 then .d3cold else .d3hot, pme := w.2.1 })) s
      let p := s.hport h
      s.setHport h { p with perst := true, linkA := .reset 8, linkB := .reset (if s.bifurcated h then 8 else 15) }

/-- HOST_PERST_ASSERT (R280–R282). -/
def execHostPerstAssert (h : HostNo) (s : State) : Result :=
  .next (if s.hostRole h ≠ 0 ∨ (s.hport h).pin then s
    else
      let s := s.hostHold h
      s.setHport h { s.hport h with pin := true })

/-- The links are no longer held: every function is in D0, a cause still owed is cancelled; the links train. -/
def State.hostRelease (s : State) (h : Nat) : State :=
  if !(s.hport h).perst then s
    else
      let fs := linkFuncs h 0 ++ (if s.bifurcated h then linkFuncs h 1 else [])
      let s := fs.foldl (fun s f => s.updFunc f (fun x =>
        { x with power := .d0, pme := if x.pme = .owed then .cancelled else x.pme })) s
      let p := s.hport h
      s.setHport h { p with perst := false, linkA := .reset 1, linkB := .reset (if s.bifurcated h then 1 else 15) }

/-- HOST_PERST_DEASSERT (R280, R282): an isolate action goes on holding the links. -/
def execHostPerstDeassert (h : HostNo) (s : State) : Result :=
  .next (if s.hostRole h ≠ 0 ∨ !(s.hport h).pin then s
    else
      let s := s.setHport h { s.hport h with pin := false }
      if (s.hport h).held ∨ !s.hostsReady then s else s.hostRelease h)

/-- HOST_LINK_RESET (R281): as PERST# for the link's functions; after a hot reset, which resets the controller too, the link trains
again. A surprise link down is an event of the port's fault source (Table FLT-6). -/
def execHostLinkReset (h : HostNo) (l : LinkNo) (k : LinkReset) (s : State) : Result :=
  .next (if !s.endpointLink h l ∨ (s.hport h).perst then s
    else
      let s := if k = .hot then (s.islandReset h).flushHost h else s
      let s := if k = .surprise then s.raise (0x510 + 4 * h) else s
      (s.resetFuncs (linkFuncs h l)).updHlink h l (fun _ => .reset (if k = .hot then 1 else 0)))

/-- FUNCTION_LEVEL_RESET (R281): of a PF, also of every VF of its link. -/
def execFunctionLevelReset (f : FuncNo) (s : State) : Result :=
  .next (if !s.cfgOpen f then s
    else s.resetFuncs (if funcVf f = 0 then linkFuncs (funcPort f) (funcLink f) else [f]))

/-! Wake (R277–R280) -/

/-- The device has something to issue through a function: a request waits for it, or an entry, or work not yet fetched (R277). -/
def State.needs (s : State) (f : Nat) : Bool :=
  s.host.arb.bursts.any (fun b => b.func == f && !b.granted)
    || s.host.engines.items.any (fun i => i.place == .parked (.function f))
    || s.host.wqs.any (fun w => w.2.func == f && w.2.st == .ready && w.2.fetch != w.2.producer)

/-- WAKE_CAUSE (R277, R278): what waits for a function in D3 is a wake cause, again after its PME_Status was cleared. -/
def execWakeCause (f : FuncNo) (s : State) : Result := .next (if s.funcExists f ∧ s.needs f then s.wake f else s)

/-- PM_PME_SEND (R279): one message, if the link is in L0 or L0p and the function still in D3hot. -/
def execPmPmeSend (f : FuncNo) (s : State) : Result :=
  let x := s.func f
  let l := s.hlink (funcPort f) (funcLink f)
  .next (if x.pme = .owed ∧ x.power = .d3hot ∧ (l.st = 2 ∨ l.st = 3) then
      ((s.setFunc f { x with pme := .sent }).emit (.pme f)).countHost (funcPort f) 10
    else s)

/-- PMCSR_D0_WRITE (R278, R279). -/
def execPmcsrD0Write (f : FuncNo) (s : State) : Result :=
  .next (if s.cfgOpen f ∧ (s.func f).power = .d3hot then
      s.updFunc f (fun x => { x with power := .d0, pme := if x.pme = .owed then .cancelled else x.pme })
    else s)

/-- PME_EN_WRITE (R278). -/
def execPmeEnWrite (f : FuncNo) (en : Bool) (s : State) : Result :=
  .next (if s.cfgOpen f then
      s.updFunc f (fun x => { x with pmeEn := en, pme := if x.pme = .owed ∧ !en then .cancelled else x.pme })
    else s)

/-- PME_STATUS_CLEAR (R278). -/
def execPmeStatusClear (f : FuncNo) (s : State) : Result :=
  .next (if s.cfgOpen f then s.updFunc f (fun x => { x with pmeStat := false, pme := .clear }) else s)

/-- The device drives Hk_WAKE_N (R280): a link of the port is in L2/L3 Ready, or Hk_PERST_N is asserted. -/
def State.wakePin (s : State) (k : Nat) : Bool :=
  let h := s.hport k
  s.hostRole k == 0 && (h.pin || h.linkA.st == 7 || (s.bifurcated k && h.linkB.st == 7))
    && s.host.funcs.any (fun f => f.1 / 512 == k && f.2.pme == .owed)

/-- The device drives Hk_CLKREQ_N (R258, R260): not while every link of the port rests in L1.1 or L1.2 and no exit has been started.
DESIGN CHOICE (notes/assumptions/58.md): the spec names the exit alone. -/
def State.clkreqPin (s : State) (k : Nat) : Bool :=
  let rests (x : HLink) : Bool := (x.st == 5 || x.st == 6) && !x.leaving
  let h := s.hport k
  s.hostRole k == 0 && !(rests h.linkA && (!s.bifurcated k || rests h.linkB))

/-! Link power (R276) -/

/-- A link is idle: none of its functions has a request outstanding or a queue with unfetched work. -/
def State.linkIdle (s : State) (k l : Nat) : Bool :=
  let mine (f : Nat) : Bool := funcPort f == k && funcLink f == l
  !(s.host.reads.any (fun r => r.inst / 2 == 2 * k + l)) && !(s.host.arb.bursts.any (fun b => b.inst / 2 == 2 * k + l && b.granted))
    && !(s.host.wqs.any (fun w => mine w.2.func && w.2.fetch != w.2.producer))

/-- LTR of a link in ns: idle in 10 µs, active in 0.1 µs (Table HST-10). -/
def State.ltrValue (s : State) (k : Nat) (active : Bool) : Nat :=
  if active then 100 * fldN (s.reg R.hostPm k) 23 16 else 10000 * fldN (s.reg R.hostPm k) 31 24

/-- A link becomes active: LTR with LTR_ACTIVE. -/
def State.linkActive (s : State) (k l : Nat) : State :=
  if (s.hlink k l).ltrHigh ∨ !s.endpointLink k l then s
  else (s.updHlink k l (fun x => { x with ltrHigh := true })).emit (.ltr (2 * k + l) (s.ltrValue k true))

/-- LTR_IDLE: the link has been idle for 1 ms. -/
def execLtrIdle (h : HostNo) (l : LinkNo) (s : State) : Result :=
  .next (if s.endpointLink h l ∧ s.linkIdle h l ∧ (s.hlink h l).ltrHigh then
      (s.updHlink h l (fun x => { x with ltrHigh := false })).emit (.ltr (2 * h + l) (s.ltrValue h false))
    else s)

/-- Rate of a link in 0.1 GT/s by its speed code (Table HST-9). -/
def rate10 (speed : Nat) : Nat := nthD 0 [0, 25, 50, 80, 160, 320, 640] speed

/-- Bytes that `w` lanes carry in 10 µs. -/
def laneBytes (speed w : Nat) : Nat := 125 * rate10 speed * w

/-- L0P_MEASURE (R276): every 10 µs; the narrowest width that carries the traffic with 25 % to spare, wider as soon as 75 % of the
present width is exceeded. -/
def execL0pMeasure (h : HostNo) (l : LinkNo) (s : State) : Result :=
  let x := s.hlink h l
  let top := if l = 1 ∨ s.bifurcated h then 8 else 16
  let want := (([2, 4, 8, 16].filter (· ≤ top)).find? (fun w => 4 * x.moved ≤ 3 * laneBytes x.speed w)).getD top
  let s' := s.updHlink h l (fun x => { x with moved := 0 })
  .next (if bit (s.reg R.hostPm h) 0 ∧ (x.st = 2 ∨ x.st = 3) ∧ want ≠ x.width then s'.emit (.l0p (2 * h + l) want) else s')

/-- ASPM_L1_REQUEST (R275, R276): where Link Control enables it, and never while a wake cause is owed. -/
def execAspmL1Request (h : HostNo) (l : LinkNo) (s : State) : Result :=
  let x := s.hlink h l
  let owed := s.host.funcs.any (fun f => f.1 / 256 == 2 * h + l && f.2.pme == .owed)
  .next (if fldN (s.reg R.hostPm h) 15 8 ≠ 0 ∧ x.aspmL1 ∧ s.linkIdle h l ∧ !owed ∧ (x.st = 2 ∨ x.st = 3) then s.emit (.askL1 (2 * h + l))
    else s)

/-- Every link of a port allows L1.1 (`st` 5), or L1.2 (6): Table HST-2. -/
def State.l1ssAllowed (s : State) (k st : Nat) : Bool :=
  let m : BitVec 4 := if st = 5 then 10 else 5
  (s.hport k).linkA.l1ss &&& m != 0 && (!s.bifurcated k || (s.hport k).linkB.l1ss &&& m != 0)

/-- A state that a host link cannot take: a code that is none, more lanes than it has, a substate of L1 that is not allowed. -/
def State.hostLinkBad (s : State) (k l st width speed : Nat) : Bool :=
  st == 0 || decide (7 < st) || decide ((if l = 1 ∨ s.bifurcated k then 8 else 16) < width) || decide (6 < speed)
    || ((st == 5 || st == 6) && !s.l1ssAllowed k st)

/-- HOST_LINK_STATE_CHANGE (Table HST-9): the link trains, reaches L0, L0p, L1 and its substates or L2/L3 Ready. An exit from L1,
whoever started it, ends with it; CXL is negotiated only where HOST_CTL offers it (Table HST-1). -/
def execHostLinkStateChange (h : HostNo) (l : LinkNo) (st width speed : Nat) (cxl : Bool) (s : State) : Result :=
  let x := s.hlink h l
  .next (if !s.endpointLink h l ∨ (s.hport h).perst ∨ s.hostLinkBad h l st width speed then s
    else
      let s := if (x.st = 2 ∨ x.st = 3) ∧ (st = 2 ∨ st = 3) ∧ x.width ≠ width then s.countHost h 11 else s
      s.updHlink h l (fun x => { x with
        st := st, width := width, speed := speed, cxl := cxl && bit (s.eff R.hostCtl h) 24
        leaving := x.leaving && decide (4 ≤ st ∧ st ≤ 6) }))

/-- FUNCTIONS_READY (R282): the link is up and its functions stop answering with Request Retry Status. -/
def execFunctionsReady (h : HostNo) (l : LinkNo) (s : State) : Result :=
  .next (if s.endpointLink h l ∧ !(s.hport h).perst ∧ 2 ≤ (s.hlink h l).st ∧ (s.hlink h l).st ≤ 6 then
      s.updHlink h l (fun x => { x with ready := true })
    else s)

/-! Configuration writes and MSI-X (R264, R272, R273) -/

/-- Signal what is pending and no longer masked. -/
def State.firePending (s : State) (f : Nat) : State :=
  let x := s.func f
  let go := x.pend.filter x.signals
  go.foldl (fun s v => s.msix f v ((s.funcSlice f).getD 0) 0) (s.setFunc f { x with pend := x.pend.filter (fun v => !x.signals v) })

/-- PCIE_CONFIG_WRITE: answered by a function of a link that is ready (R282). -/
def execPcieConfigWrite (f : FuncNo) (w : CfgWrite) (s : State) : Result :=
  .next (if !s.cfgOpen f then s
    else match w with
    | .memorySpace on => s.updFunc f (fun x => { x with mse := on })
    | .busMaster on => s.updFunc f (fun x => { x with bme := on })
    | .vfEnable on n =>
      if funcVf f ≠ 0 then s
      else
        let vfs := (linkFuncs (funcPort f) (funcLink f)).drop 1
        let s := if (s.func f).vfe ∧ !on then s.resetFuncs vfs else s
        let ctl := s.eff R.hostCtl (funcPort f)
        s.updFunc f (fun x => { x with vfe := on, numVfs := min n (if funcLink f = 0 then fldN ctl 15 8 else fldN ctl 23 16) })
    | .d3hot =>
      let s := s.updFunc f (fun x => { x with power := if x.power = .d0 then .d3hot else x.power })
      if s.needs f then s.wake f else s
    | .msix en mask => (s.updFunc f (fun x => { x with msixEn := en, fmask := mask })).firePending f
    | .relaxed on => s.updFunc f (fun x => { x with relaxed := on })
    | .linkControl on => if funcVf f ≠ 0 then s else s.updHlink (funcPort f) (funcLink f) (fun x => { x with aspmL1 := on })
    | .l1ss v => if funcVf f ≠ 0 then s else s.updHlink (funcPort f) (funcLink f) (fun x => { x with l1ss := v }))

/-- MSIX_VECTOR_UNMASK (R272): a vector's table entry is written, or the function mask cleared; what is pending and no longer masked
is signalled.  A write to the table of an unbound function is discarded and counted (R266). -/
def execMsixVectorUnmask (f : FuncNo) (w : MsixWrite) (s : State) : Result :=
  .next (match w with
    | .entry v addr data mask =>
      if !s.barOpen f then s
      else if (s.funcSlice f).isNone ∨ s.msixCount f ≤ v then s.countHost (funcPort f) 6
      else
        (s.updFunc f (fun x => { x with vecs := Table.set {} x.vecs v { addr := addr, data := data, masked := mask } })).firePending f
    | .function => if !s.cfgOpen f then s else (s.updFunc f (fun x => { x with fmask := false })).firePending f)

end Sys2Proof.Machine
end

