-- ==== Sys2Proof/Machine/Translate.lean ====
section
/-! DEFINITION. Commands of address translation (chapter 12): loads, invalidations, retries, table reads, the timeout of a miss. -/

namespace Sys2Proof.Machine

/-- A role may act on a stage of a slice (R380, R381). -/
def State.mayStage (s : State) (role : Role) (sl stage : Nat) : Bool :=
  if role = .twin then true
  else if stage = 1 then (if sl = 0 then role == .installer else role == .operator)
  else role == .installer || (role == .operator && bit (s.reg R.transOwner) 0)

/-- The stages that a STAGE field names: 1, 2 or 3 for both. -/
def stagesOf (n : Nat) : List Nat := (if n % 2 = 1 then [1] else []) ++ (if n / 2 % 2 = 1 then [2] else [])

/-- What refuses a TLB_LOAD (R382). -/
def State.tlbLoadBad (s : State) (v : Image) : Bool :=
  let sl := fldN v 127 120
  let st := fldN v 119 118
  let e : BitVec 64 := v.extractLsb' 0 64
  let page := fldN v 99 64
  let on := if st = 1 then s.stage1On sl else s.stage2Mode sl == 1
  st == 0 || st == 3 || !on || !bit e 0 || pteReserved e st || pteMisaligned e page
    || (st == 1 && s.stage2Mode sl == 1 && decide (2 ^ 48 ≤ pteOa e * 4096))

/-- TLB_LOAD (R369, R381, R382). -/
def execTlbLoad (q : Req) (v : Image) (s : State) : Result :=
  let sl := fldN v 127 120
  let st := fldN v 119 118
  let slot := slotOf sl st (v.extractLsb' 0 64 : BitVec 64) (fldN v 99 64) (bit v 117)
  .next (s.dictRunR q R.tlbLoad 0 0 v (fun role s => (st == 1 || st == 2) && !s.mayStage role sl st)
    (fun s => if s.tlbLoadBad v then some .outOfRange else if (s.tlbPut slot).isNone then some .tableFull else none)
    (fun s => ((s.tlbPut slot).getD s, some .ok)))

/-- The scope of a TLB_INVAL (R384). -/
structure InvalScope where
  /-- every slice -/
  device : Bool
  slice  : Nat
  stages : List Nat
  pinned : Bool
  /-- pages, for RANGE -/
  range  : Option (Nat × Nat)
  deriving DecidableEq, Repr

def invalScope (v : Image) : InvalScope :=
  { device := fldN v 116 115 == 2, slice := fldN v 127 120, stages := stagesOf (fldN v 119 118), pinned := bit v 117
    range := if fldN v 116 115 = 1 then some (fldN v 99 64, fldN v 35 0) else none }

/-- A slice, a stage and a group of pages lie in the scope. -/
def InvalScope.has (x : InvalScope) (sl stage page n : Nat) : Bool :=
  (x.device || x.slice == sl) && x.stages.contains stage
    && (match x.range with | none => true | some (a, k) => decide (page < a + k ∧ a < page + n))

/-- Spans hold a translation of a slice in the scope. -/
def InvalScope.spans (x : InvalScope) (sp : Spans) : Bool := sp.any (fun s => x.device || s.2.2.slice == x.slice)

/-- A walk may come to load a slot in the scope, whatever the size of its page's group (R366), or reads its tables through slots in
the scope. -/
def InvalScope.walk (x : InvalScope) (w : Walk) : Bool :=
  x.has w.acc.slice w.stage (w.ia / 4096 / 2 ^ 18 * 2 ^ 18) (2 ^ 18)
    || (w.stage == 1 && x.stages.contains 2 && (x.device || x.slice == w.acc.slice))

/-- Invalidate (R384–R386): covered slots go, covered walks start again, translations already made are made again. -/
def State.invalidate (s : State) (x : InvalScope) : State :=
  let s := s.tlbRemove (fun t => x.has t.slice t.stage t.page (2 ^ contigLog t.contig) && (x.pinned || !t.pin))
  let s := (s.trans.walks.filter x.walk).foldl (fun s w => s.restartWalk w) s
  let s := s.updHost (fun h => { h with arb := { h.arb with bursts := h.arb.bursts.map (fun b =>
    match b.acc with
    | some a => if x.device ∨ a.slice = x.slice then { b with stale := true } else b
    | none => b) } })
  s.updRemote (fun r => { r with
    atomics := r.atomics.map (fun a => if x.device ∨ a.slice = x.slice then { a with stale := true } else a)
    peers := r.peers.map (fun p => { p with msgs := p.msgs.map (fun m => if x.spans m.spans then { m with stale := true } else m) })
    mctx := r.mctx.map (fun c => (c.1, { c.2 with unex := c.2.unex.map (fun u => if x.spans u.spans then { u with stale := true } else u) })) })

/-- TLB_INVAL (R384): its response follows with TLB_INVAL_DONE. -/
def execTlbInval (q : Req) (v : Image) (s : State) : Result :=
  let st := fldN v 119 118
  .next (s.dictRunR q R.tlbInval 0 0 v
    (fun role s => if fldN v 116 115 = 2 then role != .installer && role != .twin
      else (stagesOf st).any (fun n => !s.mayStage role (fldN v 127 120) n))
    (fun _ => if st = 0 ∨ fldN v 116 115 = 3 ∨ (fldN v 116 115 = 1 ∧ fldN v 35 0 = 0) then some .outOfRange else none)
    (fun s => ((s.invalidate (invalScope v)).deliverEnded, none)))

/-- TLB_INVAL_DONE (R385): once no burst in gathering was translated before. -/
def execTlbInvalDone (s : State) : Result :=
  .next (if s.host.arb.bursts.any (fun b => b.granted && b.stale) then s else s.answerOwed (R.tlbInval.index 0) 2 .ok)

/-- A pending miss ends with its waiting accesses (R375, R376). -/
def State.endMiss (s : State) (m : Miss) (cause : Nat) : State :=
  let s := s.updTrans (fun t => { t with misses := t.misses.filter (fun x => x.id ≠ m.id) })
  ((s.endWaiters m.waiters m.stage 0 cause 0 m.ia).deliverEnded).freedMiss

/-- A pending miss is retried: its items may be admitted again, walks that waited for it go on. -/
def State.retryMiss (s : State) (m : Miss) : State :=
  let s := s.updTrans (fun t => { t with misses := t.misses.filter (fun x => x.id ≠ m.id) })
  ((s.resumeWalks m.waiters).freedMiss).deliverEnded

/-- A TRANS_RETRY write in the dictionary (R375, R383). -/
def State.retryWrite (s : State) (q : Req) (v : Image) : State :=
  let miss (s : State) : Option Miss := s.trans.misses.find? (fun m => m.id = fldN v 15 0)
  s.dictRunR q R.transRetry 0 0 v
    (fun role s => match miss s with | some m => !s.mayStage role m.slice m.stage | none => false)
    (fun s => if (miss s).isNone ∨ (fldN v 31 30 ≠ 1 ∧ fldN v 31 30 ≠ 2) then some .outOfRange else none)
    (fun s => match miss s with
      | some m => (if fldN v 31 30 = 1 then s.retryMiss m else s.endMiss m 12, some .ok)
      | none => (s, some .ok))

/-- TRANS_RETRY (R375, R383). -/
def execTransRetry (q : Req) (v : Image) (s : State) : Result := .next (s.retryWrite q v)
/-- TRANS_RETRY_FAULT (R375): OUTCOME FAULT ends the waiting accesses with REFUSED. -/
def execTransRetryFault (q : Req) (v : Image) (s : State) : Result := .next (s.retryWrite q (setFld v 31 30 2))

/-- A table read of a walk comes back (R373). -/
def State.walkRead' (s : State) (id : Nat) (entry : BitVec 64) (ok : Bool) : State :=
  match s.host.reads.find? (fun r => r.owner = .walk id) with
  | none => s
  | some r =>
    let s := s.updHost (fun h => { h with reads := h.reads.erase r })
    match s.trans.walks.find? (fun w => w.id = id ∧ w.on = .read) with
    | none => s
    | some w => ((s.otherItem (s.homeFrom (s.clusterMask w.acc.slice) 20) w.acc.slice costService).walkGot w entry ok).deliverEnded

/-- WALK_READ_COMPLETE (R373). -/
def execWalkReadComplete (id : Nat) (entry : BitVec 64) (ok : Bool) (s : State) : Result := .next (s.walkRead' id entry ok)

/-- MISS_TIMEOUT (R376). -/
def execMissTimeout (id : Nat) (s : State) : Result :=
  .next (match s.trans.misses.find? (fun m => m.id = id) with
    | some m => s.endMiss m 13
    | none => s)

end Sys2Proof.Machine
end

