-- ==== Sys2Proof/Machine/Queues.lean ====
section
/-! DEFINITION. Commands of work queues (chapter 10): doorbells, arms, pushes, fetching, what comes back from host memory, slices and
their states, creation and destruction of queues. -/

namespace Sys2Proof.Machine

/-! Doorbells, pushes, arms (R304–R307, R313) -/

/-- A write of a function's BAR that a slice's queue may take: it is decoded, the function bound. -/
def State.barWrite (s : State) (f : Nat) (act : State → Nat → State) : State :=
  if !s.barOpen f then s
  else match s.funcSlice f with
  | none => s.countHost (funcPort f) 6
  | some sl => act s sl

/-- R305: a doorbell value lies in the window of a WQ. -/
def Wq.inWindow (w : Wq) (p : Nat) : Bool :=
  let d := 2 ^ w.log
  decide (posDiff p w.head ≤ d ∧ 1 ≤ posDiff p w.producer ∧ posDiff p w.producer ≤ d)

/-- A doorbell value for a WQ (R305). -/
def State.ring (s : State) (n : Nat) (w : Wq) (p : Nat) : State :=
  if p = w.producer then s
  else if w.inWindow p then (s.putWq n { w with producer := p, rungAt := s.ns }).linkActive (funcPort w.func) (funcLink w.func)
  else s.countHost (funcPort w.func) 5

/-- WQ_DOORBELL (R304, R305, R319). -/
def execWqDoorbell (f : FuncNo) (page : PageNo) (slot : SlotNo) (v : BitVec 64) (s : State) : Result :=
  .next (s.barWrite f (fun s _ =>
    match s.slotWq f page slot with
    | none => s.countHost (funcPort f) 6
    | some (n, w) =>
      if (s.slice w.slice).st = .halted then s.countSlice w.slice 31
      else if fldN v 63 16 ≠ 0 then s.countHost (funcPort f) 6
      else s.ring n w (fldN v 15 0)))

/-- Software's CONSUMER of a CQ: completions before it count no more. -/
def Cq.consume (c : Cq) (p : Nat) : Cq :=
  { c with consumer := p, notable := c.notable.filter (fun x => posDiff c.wpos x ≤ posDiff c.wpos p) }

/-- QUEUE_ARM (R304, R312, R313). -/
def execQueueArm (f : FuncNo) (page : PageNo) (slot : SlotNo) (events : Bool) (v : BitVec 64) (s : State) : Result :=
  .next (s.barWrite f (fun s _ =>
    let odd := s.countHost (funcPort f) 6
    if events then
      match s.slotEq f page slot with
      | none => odd
      | some (n, e) =>
        if (s.slice e.slice).st = .halted then s.countSlice e.slice 31
        else if fldN v 63 17 ≠ 0 then odd
        else (s.putEq n { e with consumer := fldN v 15 0, armed := e.armed || bit v 16 }).fireEq n 0
    else
      match s.slotCq f page slot with
      | none => odd
      | some (n, c) =>
        if (s.slice c.slice).st = .halted then s.countSlice c.slice 31
        else if fldN v 63 18 ≠ 0 then odd
        else
          let c := c.consume (fldN v 15 0)
          (s.putCq n (if bit v 16 then { c with armed := true, solOnly := bit v 17 } else c)).fireCq n 0))

/-- The device fetches, or takes push data, for a WQ (R308, R331). -/
def State.fetches (s : State) (w : Wq) : Bool :=
  let x := s.slice w.slice
  let on := x.st == .starting || x.st == .running || x.st == .recovering || x.st == .test
  (match w.st with
    | .ready => on && x.settle.isNone
    | .error _ => x.st != .halted && !s.haltedNow w.slice)
    && s.intakeRoom w.home w.slice

/-- Positions of the entries that lie whole within pushed units. -/
def wholeUnits : Nat → List Byte → Nat
  | 0, _ => 0
  | fuel + 1, bs =>
    if bs.isEmpty then 0
    else
      let k := entryUnits bs + 1
      if bs.length < 64 * k then 0 else k + wholeUnits fuel (bs.drop (64 * k))

/-- PUSH_WRITE (R306, R307). -/
def execPushWrite (f : FuncNo) (page : PageNo) (slot : SlotNo) (data : List Byte) (s : State) : Result :=
  .next (s.barWrite f (fun s _ =>
    let odd := s.countHost (funcPort f) 6
    match s.slotWq f page slot with
    | none => odd
    | some (n, w) =>
      let m := data.length / 64
      if (s.slice w.slice).st = .halted then s.countSlice w.slice 31
      else if !w.push ∨ data.length % 64 ≠ 0 ∨ m = 0 ∨ 4 < m then odd
      else
        let p := entryFld data 47 32
        let q := posAdd p m
        let s := s.ring n w q
        match s.wq n with
        | none => s
        | some w =>
            let k := wholeUnits m data
            if p = w.fetch ∧ k ≠ 0 ∧ k ≤ posDiff w.producer w.fetch ∧ s.fetches w then
              ((s.putWq n { w with fetch := posAdd p k }).gotSlots n p (data.take (64 * k)) true).countHost (funcPort f) 7
            else s.countHost (funcPort f) 8))

/-! Fetching (R308) -/

/-- A WQ that a DESTROY_WQ closes is gone once nothing of it is left to flush (R296, R316). -/
def State.closeDone (s : State) (n : Nat) : State :=
  match s.wq n with
  | none => s
  | some w =>
    let busy := w.fetch ≠ w.producer ∨ w.parse ≠ w.fetch ∨ !w.entries.isEmpty
    if w.closing ∧ (!busy ∨ (s.slice w.slice).st = .halted ∨ !s.mayIssue w.func) then s.removeWq n else s

/-- WQ_FETCH: a read of up to 512 bytes of positions from FETCH, within PRODUCER, the ring and a page, once the queue's context
is on chip (R286). -/
def execWqFetch (n : WqNo) (s : State) : Result :=
  .next (match s.wq n with
    | none => s
    | some w =>
      let d := 2 ^ w.log
      let x := w.fetch % d
      let k := min (min 8 (posDiff w.producer w.fetch)) (min (d - x) (64 - x % 64))
      if k = 0 ∨ !s.fetches w ∨ !s.mayIssue w.func then s.closeDone n
      else if !s.resident (ctxNo 0 n) then s.loadContext (ctxNo 0 n)
      else
        let s := ((s.useContext (ctxNo 0 n)).putWq n { w with fetch := posAdd w.fetch k }).linkActive (funcPort w.func) (funcLink w.func)
        let a := w.base + 64 * x
        (s.hostReadN { func := w.func, slice := w.slice, addr := a, owner := .fetch n w.fetch k, stale := true, ring := some n
                       acc := some { slice := w.slice, ia := a, kind := .descriptor, both := false, wq := n, func := w.func } }
          4 0 (64 * k)).1)

/-! What comes back from host memory -/

/-- Put bytes into a list at an offset. -/
def patch (l : List Byte) (off : Nat) (data : List Byte) : List Byte := l.take off ++ data.take (l.length - off) ++ l.drop (off + data.length)

/-- Gathered bytes are complete: what they were read for goes on. -/
def State.gathered (s : State) (g : Gather) : State :=
  match g.for_ with
  | .frags n pos =>
    match s.recvEntry n pos with
    | none => s
    | some (w, e) =>
      let k := g.bytes.length / 16
      if fragsBad g.bytes k (entryLen e.bytes) then s.malformed w.slice n pos 11
      else s.updEntry n pos (fun e => { e with frags := .table (fragList g.bytes k) })
  | .bin id => s.binRead id g.bytes
  | .atomic id => s.atomicRead id g.bytes
  | .contribution n num j =>
    let c := s.coll n
    s.collContribute n num j true (elemsOf (typeBytes c.op.type) (c.op.elems j) g.bytes)
  | .exponents n num j =>
    let c := s.coll n
    s.collContribute n num j false (elemsOf (typeBytes c.op.type) (c.op.elems j) g.bytes)
  | .rank sl job rank =>
    let v := natOfBytes (g.bytes.take 4)
    if v / 2 ^ 31 % 2 = 1 then s.rankLoad sl job rank v
    else (s.host.engines.items.filter (fun i => i.slice = sl ∧ i.place = .parked (.rank job rank))).foldl (fun s i =>
      s.failEntry i.src.entryOf.1 i.src.entryOf.2 .unreachable) s

/-- A context has been read from the store (R287): one that passes its check is on chip, and what waited for it goes on; else
its queue enters ERROR. -/
def State.contextRead (s : State) (kind n : Nat) (data : List Byte) : State :=
  let s := s.forgetPlaced (ctxKey (ctxNo kind n)) none
  let there : Bool := if kind = 0 then (s.wq n).isSome else if kind = 1 then (s.cq n).isSome else (s.eq n).isSome
  if !there then s
  else if ctxRight data then
    let s := s.useContext (ctxNo kind n)
    match kind with
    | 1 => match s.cq n with
      | some q => q.held.foldl (fun s h => s.writeCompletion n h.1 h.2) (s.putCq n { q with held := [] })
      | none => s
    | 2 => match s.eq n with
      | some e => e.held.foldl (fun s h => s.event n h.1 h.2.1 h.2.2.1 h.2.2.2) (s.putEq n { e with held := [] })
      | none => s
    | _ => s
  else match kind with
    | 0 => s.wqFail n 3
    | 1 => (match s.cq n with | some q => s.putCq n { q with held := [] } | none => s).cqError n 3
    | _ => (match s.eq n with | some e => s.putEq n { e with held := [] } | none => s).eqError n 3

/-- A read's bytes reach its owner. -/
def State.readDone (s : State) (r : HostRead) (data : List Byte) : State :=
  match r.owner with
  | .none => s
  | .fetch n pos _ => (s.gotSlots n pos data false).closeDone n
  | .payload =>
    { s with built := s.built.map (fun b =>
        match b.wait.find? (fun w => w.1 = r.id) with
        | some (_, off) => { b with payload := patch b.payload off data, wait := b.wait.filter (fun w => w.1 ≠ r.id) }
        | none => b) }
  | .context kind n => s.contextRead kind n data
  | .sample => s.gotConsumer (natOfBytes (data.take 4))
  | .walk _ => s
  | .gather id =>
    match s.host.gathers.find? (fun g => g.id = id) with
    | none => s
    | some g =>
      let off := match g.wait.find? (fun w => w.1 = r.id) with | some (_, o) => o | none => 0
      let g := { g with bytes := patch g.bytes off data, wait := g.wait.filter (fun w => w.1 ≠ r.id) }
      let others := s.host.gathers.filter (fun x => x.id ≠ id)
      if g.wait.isEmpty then (s.updHost (fun h => { h with gathers := others })).gathered g
      else s.updHost (fun h => { h with gathers := others ++ [g] })
  | .consumer n => s.consumerRead n (natOfBytes (data.take 8))
  | .order key link => s.forgetPlaced key (some link)

/-- HOST_READ_COMPLETION (R308): the bytes of one read of the device. -/
def execHostReadCompletion (id : Nat) (data : List Byte) (s : State) : Result :=
  .next (match s.host.reads.find? (fun r => r.id = id) with
    | none => s
    | some r =>
      let data := data.take r.len ++ List.replicate (r.len - data.length) 0
      match r.owner with
      | .walk w => s.walkRead' w (BitVec.ofNat 64 (natOfBytes (data.take 8))) true
      | _ =>
        let s := s.updHost (fun h => { h with reads := h.reads.erase r })
        (s.readDone r data).settlePlacing)

/-! Slices (R289–R291, R319–R322, R510) -/

/-- A tenant slice may be started or tested here: bound, or with a pool in service mode, homed or adopted, and no device halt. -/
def State.mayStart (s : State) (sl : Nat) : Bool :=
  let pools := s.entriesOf R.pool
  let mine (st : Nat) : Bool := pools.any (fun p => poolSt p.2 == st && fldN p.2 119 112 == sl)
  !s.host.devHalt && (if s.serviceMode then mine 1 && !mine 2 else s.sliceBound sl) && (s.homed sl || s.adopted.isSome)

/-- A SLICE_CTL write (Tables WKQ-4, WKQ-5, SEC-3). -/
def State.sliceCtlWrite (s : State) (q : Req) (sl : Nat) (v : Image) : State :=
  let r := fldN v 2 0
  s.dictRun q R.sliceCtl sl 0 v
    (fun s =>
      let x := s.slice sl
      let resetting : Bool := match x.settle with | some .reset => true | _ => false
      let life := s.mgmt.lifecycle
      if sl ≠ 0 ∧ ((life = .maker ∧ (r = 1 ∨ r = 4)) ∨ (life = .install ∧ r = 1)) then some .lifecycleState
      else if resetting ∨ x.resetNext then some .busy
      else
        let ok :=
          if r = 1 ∨ r = 4 then x.st == .stopped && x.settle.isNone && s.mayStart sl
          else if r = 2 then x.st == .starting || x.st == .recovering
          else if r = 3 then x.st == .running
          else if r = 5 then x.st == .starting || x.st == .running || x.st == .recovering || x.st == .test
          else if r = 6 then true
          else if r = 7 then x.st != .halted
          else false
        if !ok then some .outOfRange else if (r = 2 ∨ r = 3 ∨ r = 5) ∧ x.settle.isSome then some .busy else none)
    (fun s =>
      if r = 1 then (s.sliceTo sl .starting, some .ok)
      else if r = 2 then (s.sliceTo sl .running, some .ok)
      else if r = 3 then (s.sliceTo sl .recovering, some .ok)
      else if r = 4 then (s.sliceTo sl .test, some .ok)
      else if r = 5 then (s.stopStart sl, none)
      else if r = 6 then
        (match (s.slice sl).settle with
        | some (.halt _) => s.updSlice sl (fun x => { x with resetNext := true })
        | _ => s.resetStart sl, none)
      else (s.haltStart sl 2 [], none))

/-- SLICE_START, SLICE_RUN, SLICE_RECOVER, SLICE_TEST, SLICE_STOP, SLICE_RESET, SLICE_HALT: writes of SLICE_CTL. -/
def execSliceStart (q : Req) (sl : SliceNo) (s : State) : Result := .next (s.sliceCtlWrite q sl 1)
/-- SLICE_RUN. -/
def execSliceRun (q : Req) (sl : SliceNo) (s : State) : Result := .next (s.sliceCtlWrite q sl 2)
/-- SLICE_RECOVER. -/
def execSliceRecover (q : Req) (sl : SliceNo) (s : State) : Result := .next (s.sliceCtlWrite q sl 3)
/-- SLICE_TEST. -/
def execSliceTest (q : Req) (sl : SliceNo) (s : State) : Result := .next (s.sliceCtlWrite q sl 4)
/-- SLICE_STOP. -/
def execSliceStop (q : Req) (sl : SliceNo) (s : State) : Result := .next (s.sliceCtlWrite q sl 5)
/-- SLICE_RESET (R321). -/
def execSliceReset (q : Req) (sl : SliceNo) (s : State) : Result := .next (s.sliceCtlWrite q sl 6)
/-- SLICE_HALT (R319). -/
def execSliceHalt (q : Req) (sl : SliceNo) (s : State) : Result := .next (s.sliceCtlWrite q sl 7)

/-- SLICE_STATE_SETTLED (R289). -/
def execSliceStateSettled (sl : SliceNo) (s : State) : Result := .next (s.sliceSettled sl)

/-- A WAKE_TEST write (R295). -/
def State.wakeTestWrite (s : State) (q : Req) (sl : Nat) (v : Image) : State :=
  s.dictWrite q R.wakeTest sl 0 v
    (fun s => if v ≠ 1 ∨ (s.sliceEq sl).isNone ∨ (s.slice sl).st = .halted then some .outOfRange else none)
    (fun s =>
      let s' := s.sliceEvent sl 5 sl 0
      (match (s.sliceEq sl).bind s.eq with
      | some e => s'.wake e.func
      | none => s', .ok))
/-- WAKE_TEST. -/
def execWakeTest (q : Req) (sl : SliceNo) (v : Image) (s : State) : Result := .next (s.wakeTestWrite q sl v)

/-! Queues (R296, R297, Table WKQ-10) -/

/-- A queue of each kind that a slice holds. -/
def State.holdsWq (s : State) (sl n : Nat) : Bool := (s.wq n).any (fun w => w.slice == sl)
def State.holdsCq (s : State) (sl n : Nat) : Bool := (s.cq n).any (fun c => c.slice == sl)
def State.holdsEq (s : State) (sl n : Nat) : Bool := (s.eq n).any (fun e => e.slice == sl)

/-- A field of a queue command: bytes `i` on, `n` of them. -/
def cmdWord (v : Image) (i n : Nat) : Nat := fldN v (8 * (i + n) - 1) (8 * i)

/-- Function number of a queue command. -/
def cmdFunc (v : Image) : Nat := 512 * (cmdWord v 6 2 / 512 % 4) + cmdWord v 6 2 % 512

/-- Queue contexts and caps leave no room for a further queue (R286, R292). -/
def State.queuesFull (s : State) (sl op n : Nat) : Bool :=
  let h := s.host
  let all := h.wqs.length + h.cqs.length + h.eqs.length
  let lim := s.reg R.sliceLimits sl
  ((!s.ctxStored || !s.storeAt (s.ctxAddr (ctxNo (op - 1) n))) && decide (8192 ≤ all))
    || (op == 1 && decide (fldN lim 48 32 ≤ (h.wqs.filter (fun w => w.2.slice = sl)).length))
    || (op == 2 && decide (fldN lim 30 16 ≤ (h.cqs.filter (fun w => w.2.slice = sl)).length))
    || (op == 3 && decide (fldN lim 12 0 ≤ (h.eqs.filter (fun w => w.2.slice = sl)).length))

/-- What R297 and Table SVC-2 refuse with OUT_OF_RANGE. -/
def State.queueCmdBad (s : State) (sl : Nat) (v : Image) : Bool :=
  let op := cmdWord v 0 1
  let log := cmdWord v 1 1
  let n := cmdWord v 2 2
  let target := cmdWord v 4 2
  let page := cmdWord v 8 2
  let slot := cmdWord v 10 1
  let flags := cmdWord v 11 1
  let job := cmdWord v 12 4
  let base := cmdWord v 16 8
  let station := cmdWord v 26 2
  let create := op == 1 || op == 2 || op == 3
  let f := cmdFunc v
  let e := s.reg R.funcMap (funcPort f) (funcEntry f)
  let svc := s.serviceMode
  op == 0 || decide (7 < op) || (create && decide (log < 6 ∨ 15 < log)) || decide (cmdWord v 6 2 / 2 ^ 11 ≠ 0)
    || decide (1024 ≤ page) || decide (16 ≤ slot) || decide (2 ^ 24 ≤ job) || decide (base % 4096 ≠ 0) || cmdWord v 28 4 != 0
    || (flags &&& (if op = 1 then 0xFA else if op = 3 then 0xFD else 0xFF)) != 0
    || decide (1024 ≤ station) || (op != 1 && station != 0)
    || (create && (s.slice sl).st == .halted)
    || (svc && !(op == 2 || op == 5 || op == 7))
    || (op == 1 && ((s.wq n).isSome || !s.holdsCq sl target || s.stationSlice station != some sl
        || (s.slotWq f page slot).isSome))
    || (op == 2 && (decide (16384 ≤ n) || (s.cq n).isSome || (if svc then
          target != 0 || cmdWord v 6 2 != 0 || page != 0 || slot != 0
        else !s.holdsEq sl target || s.host.cqs.any (fun c => c.2.func == f && c.2.page == page && c.2.slot == slot))))
    || (op == 3 && (decide (4096 ≤ n ∨ 8 ≤ slot) || (s.eq n).isSome || decide (fldN e 27 16 ≤ target)
        || (target == 0 && funcVf f == 0) || (flags &&& 2 != 0 && (s.sliceEq sl).isSome)
        || s.host.eqs.any (fun c => c.2.func == f && c.2.page == page && c.2.slot == slot)))
    || (create && !svc && (s.funcSlice f != some sl || decide ((if funcVf f = 0 then 960 else 192) ≤ page)))
    || ((op == 4 || op == 7) && !s.holdsWq sl n) || (op == 5 && !s.holdsCq sl n) || (op == 6 && !s.holdsEq sl n)
    || (op == 7 && ((s.wq n).any (fun w => w.st == .ready)))

/-- A DESTROY_WQ starts: the WQ enters ERROR; its number is freed once its entries have completed (R296). -/
def State.destroyWq (s : State) (n : Nat) : State :=
  let s := s.wqFail n 6
  match s.wq n with
  | none => s
  | some w => (s.putWq n { w with closing := true }).closeDone n

/-- A QUEUE_CMD write (R296, R297). -/
def State.queueCmdWrite (s : State) (q : Req) (sl : Nat) (v : Image) : State :=
  let op := cmdWord v 0 1
  let n := cmdWord v 2 2
  let target := cmdWord v 4 2
  let start := cmdWord v 24 2
  let flags := cmdWord v 11 1
  let f := cmdFunc v
  s.dictRun q R.queueCmd sl 0 v
    (fun s =>
      if s.queueCmdBad sl v then some .outOfRange
      else if op ≤ 3 ∧ s.queuesFull sl op n then some .tableFull
      else if op = 5 ∧ s.host.wqs.any (fun w => w.2.cq = n) then some .busy
      else if op = 7 ∧ (s.wq n).any (·.closing) then some .busy
      else if op = 6 ∧ s.host.cqs.any (fun c => c.2.eq = n ∧ c.2.func ≠ memFunc) then some .busy
      else none)
    (fun s =>
      if op = 1 then
        let w : Wq := { slice := sl, func := f, page := cmdWord v 8 2, slot := cmdWord v 10 1, log := cmdWord v 1 1
                        base := cmdWord v 16 8, cq := target, station := cmdWord v 26 2, push := flags % 2 == 1
                        jobValid := flags / 4 % 2 == 1, job := cmdWord v 12 3, producer := start, fetch := start, head := start
                        parse := start, home := s.wqHome sl n, priv := s.supervisor sl (cmdWord v 8 2) }
        ((s.updHost (fun h => { h with wqs := h.wqs ++ [(n, w)] })).useContext (ctxNo 0 n), some .ok)
      else if op = 2 then
        let c : Cq := { slice := sl, func := if s.serviceMode then memFunc else f, page := cmdWord v 8 2, slot := cmdWord v 10 1
                        log := cmdWord v 1 1, base := cmdWord v 16 8, eq := target, wpos := start, start := start
                        consumer := start }
        ((s.updHost (fun h => { h with cqs := h.cqs ++ [(n, c)] })).useContext (ctxNo 1 n), some .ok)
      else if op = 3 then
        let e : Eq := { slice := sl, func := f, page := cmdWord v 8 2, slot := cmdWord v 10 1, log := cmdWord v 1 1
                        base := cmdWord v 16 8, vector := target, slices := flags / 2 % 2 == 1, wpos := start, consumer := start }
        ((s.updHost (fun h => { h with eqs := h.eqs ++ [(n, e)] })).useContext (ctxNo 2 n), some .ok)
      else if op = 4 then
        let s := s.destroyWq n
        (s, if (s.wq n).isSome then none else some .ok)
      else if op = 5 then (s.removeCq n, some .ok)
      else if op = 6 then (s.removeEq n, some .ok)
      else
        match s.wq n with
        | none => (s, some .ok)
        | some w =>
          let s := (s.removeWq n).updHost (fun h => { h with wqs := h.wqs ++ [(n, { w with
            st := .ready, producer := start, fetch := start, head := start, parse := start, raw := [], entries := [], closing := false })] })
          (s.useContext (ctxNo 0 n), some .ok))

/-- CREATE_WQ (R296). -/
def execCreateWq (q : Req) (sl : SliceNo) (v : Image) (s : State) : Result := .next (s.queueCmdWrite q sl (setFld v 7 0 1))
/-- CREATE_CQ (R296). -/
def execCreateCq (q : Req) (sl : SliceNo) (v : Image) (s : State) : Result := .next (s.queueCmdWrite q sl (setFld v 7 0 2))
/-- CREATE_EQ (R296). -/
def execCreateEq (q : Req) (sl : SliceNo) (v : Image) (s : State) : Result := .next (s.queueCmdWrite q sl (setFld v 7 0 3))
/-- DESTROY_WQ (R296). -/
def execDestroyWq (q : Req) (sl : SliceNo) (v : Image) (s : State) : Result := .next (s.queueCmdWrite q sl (setFld v 7 0 4))
/-- DESTROY_CQ (R297). -/
def execDestroyCq (q : Req) (sl : SliceNo) (v : Image) (s : State) : Result := .next (s.queueCmdWrite q sl (setFld v 7 0 5))
/-- DESTROY_EQ (R297). -/
def execDestroyEq (q : Req) (sl : SliceNo) (v : Image) (s : State) : Result := .next (s.queueCmdWrite q sl (setFld v 7 0 6))
/-- RESET_WQ (R316). -/
def execResetWq (q : Req) (sl : SliceNo) (v : Image) (s : State) : Result := .next (s.queueCmdWrite q sl (setFld v 7 0 7))

end Sys2Proof.Machine
end

