-- ==== Sys2Proof/Machine/ServiceMode.lean ====
section
/-! DEFINITION. Commands of service mode (chapter 16): memory links and their decoders, pools. -/

namespace Sys2Proof.Machine

def State.updService (s : State) (f : Service → Service) : State := { s with service := f s.service }
def State.setMemLink (s : State) (m : Nat) (x : MemLink) : State :=
  s.updService (fun v => { v with links := Table.set {} v.links m x })

/-- Links of a decoder (R490). -/
def State.decoderLinks (s : State) (d : Nat) : List Nat :=
  let e := s.eff R.memDecoder 0 d
  (List.range (2 ^ fldN e 126 125)).map (fun i => fldN e (96 + 3 * i + 2) (96 + 3 * i))

/-- Base and length of a pool in bytes. -/
def poolSpan (e : Image) : Nat × Nat := (fldN e 51 21 * 2 ^ 21, fldN e 94 64 * 2 ^ 21)
/-- Base and length of a decoder in bytes. -/
def decoderSpan (e : Image) : Nat × Nat := (fldN e 51 28 * 2 ^ 28, fldN e 87 64 * 2 ^ 28)
/-- A span lies within another. -/
def spanIn (a b : Nat × Nat) : Bool := decide (b.1 ≤ a.1 ∧ a.1 + a.2 ≤ b.1 + b.2)
/-- Two spans overlap. -/
def spansMeet (a b : Nat × Nat) : Bool := decide (a.1 < b.1 + b.2 ∧ b.1 < a.1 + a.2)

/-- A valid decoder is judged once its links have settled (one that no ROOT port has is ABSENT for good): it commits, or its links' fault sources are raised and its pools fail
(R491). -/
def State.judgeDecoder (s : State) (d : Nat) : State :=
  let e := s.eff R.memDecoder 0 d
  let ls := s.decoderLinks d
  let comes (m : Nat) : Bool := s.hostRole (m / 2) == 1 && (m % 2 == 0 || s.bifurcated (m / 2))
  if !s.serviceMode ∨ !bit e 127 ∨ s.service.committed.contains d ∨ s.service.failed.contains d then s
  else if ls.any (fun m => let t := (s.memLink m).st; t == .training || (comes m && (t == .absent || t == .held))) then s
  else if ls.all (fun m => (s.memLink m).st == .active && decide (fldN e 87 64 / 2 ^ fldN e 126 125 ≤ (s.memLink m).capacity)) then
    s.updService (fun v => { v with committed := v.committed ++ [d] })
  else
    let s := ls.foldl (fun s m => s.raise (memSource m)) (s.updService (fun v => { v with failed := v.failed ++ [d] }))
    (s.entriesOf R.pool).foldl (fun s p =>
      if fldN p.2 94 64 ≠ 0 ∧ spanIn (poolSpan p.2) (decoderSpan e) then s.setPool p.1 (poolTo p.2 3) else s) s

/-- Every decoder is judged. -/
def State.judgeDecoders (s : State) : State := (List.range 8).foldl State.judgeDecoder s

/-- The links of a ROOT port train. -/
def State.memRelease (s : State) (k : Nat) : State :=
  let h := s.hport k
  let s := s.setHport k { h with perst := false, linkA := .reset 1, linkB := .reset (if s.bifurcated k then 1 else 15) }
  let s := s.setMemLink (2 * k) { st := .training }
  if s.bifurcated k then s.setMemLink (2 * k + 1) { st := .training } else s

/-- MEM_PERST_RELEASE (R488): on every ROOT port; the links train. -/
def execMemPerstRelease (s : State) : Result :=
  .next (((List.range 4).filter (fun k => s.hostsReady && s.hostRole k == 1 && (s.hport k).perst)).foldl (fun s k =>
    let s := s.setHport k { s.hport k with pin := false }
    if (s.hport k).held then s else s.memRelease k) s).judgeDecoders

/-- MEM_LINK_TRAINED (R488, R489): in L0, with what its CXL DVSEC says of the partner. -/
def execMemLinkTrained (m : MemLinkNo) (type3 : Bool) (width speed : Nat) (s : State) : Result :=
  let x := s.memLink m
  .next (if (x.st ≠ .training ∧ x.st ≠ .down) ∨ s.faults.mems.contains m then s
    else
      let s := s.updHlink (m / 2) (m % 2) (fun l => { l with st := 2, width := width, speed := speed, cxl := true })
      if type3 then s
      else ((s.setMemLink m { x with st := .notType3 }).raise (memSource m)).judgeDecoders)

/-- MEMORY_ACTIVE (R488, R491): the capacity is read, decoders whose links are all active are committed. -/
def execMemoryActive (m : MemLinkNo) (capacity : BitVec 24) (s : State) : Result :=
  .next (if !s.faults.mems.contains m ∧ (s.hlink (m / 2) (m % 2)).st = 2 ∧ ((s.memLink m).st = .training ∨ (s.memLink m).st = .down) then
      (s.setMemLink m { st := .active, capacity := capacity.toNat }).judgeDecoders
    else s)

/-- MEM_ACTIVE_TIMEOUT (R488), of a link retrained after it went down too (R489). -/
def execMemActiveTimeout (m : MemLinkNo) (s : State) : Result :=
  .next (if (s.memLink m).st = .training ∨ ((s.memLink m).st = .down ∧ (s.hlink (m / 2) (m % 2)).st = 2) then
      ((s.setMemLink m { s.memLink m with st := .timeout }).raise (memSource m)).judgeDecoders
    else s)

/-! Requests that end without success (R492) -/

/-- The cause of a failed read of memory, recorded as a stage-2 fault with TABLE_READ. -/
def State.memReadFault (s : State) (r : HostRead) : State × TFault :=
  s.tfault { slice := r.slice, ia := r.addr, kind := .read, both := false, inbound := true, func := r.func } 2 4 10 0 r.addr

/-- A read of memory has failed: the operation it served ends. -/
def State.memReadFail (s : State) (r : HostRead) : State :=
  let s := s.updHost (fun h => { h with reads := h.reads.erase r })
  match r.owner with
  | .walk id =>
    match s.trans.walks.find? (fun w => w.id = id ∧ w.on = .read) with
    | some w => (s.walkGot w 0 false).deliverEnded
    | none => s
  | .payload =>
    let (s, f) := s.memReadFault r
    -- poisoned bytes never leave: every packet of the answer that still waits goes
    let reads := ((s.host.reads.filter (fun x => x.key = r.key)).map (·.id)) ++ ((s.host.arb.bursts.filter (fun b => b.key = r.key)).map (·.id))
    let s := { s with built := s.built.filter (fun b => !(b.wait.any (fun w => w.1 = r.id ∨ (r.key ≠ 0 ∧ reads.contains w.1)))) }
    s.failPlacing r.key f.remote
  | .gather id =>
    match s.host.gathers.find? (fun g => g.id = id) with
    | none => s
    | some g =>
      let s := s.updHost (fun h => { h with gathers := h.gathers.filter (fun x => x.id ≠ id) })
      match g.for_ with
      | .atomic key => let (s, f) := s.memReadFault r; s.failPlacing key f.remote
      | _ => s
  | .consumer n => s.cqError n 1
  | .context kind n => s.contextRead kind n []
  | _ => s

/-- CXL_MEM_ERROR (R492): a request of a memory link ends without success; `read` is the read, none for a write. -/
def execCxlMemError (m : MemLinkNo) (read : Option Nat) (s : State) : Result :=
  let s' := s.raise (memSource m)
  .next (match read.bind (fun id => s.host.reads.find? (fun r => r.id = id)) with
    | some r => s'.memReadFail r
    | none => s')

/-- A memory link is down, its host link in state `st`; its reads end without success (R492). -/
def State.memDown (s : State) (m st : Nat) : State :=
  let s := (s.setMemLink m { s.memLink m with st := .down }).updHlink (m / 2) (m % 2) (fun _ => .reset st)
  (s.host.reads.filter (fun r => r.inst / 2 = m ∧ r.func = memFunc)).foldl (fun s r => s.memReadFail r) s

/-- MEM_LINK_DOWN (R489, R492): the link is retrained; its reads end without success. -/
def execMemLinkDown (m : MemLinkNo) (s : State) : Result :=
  .next (if (s.memLink m).st ≠ .active then s else (s.memDown m 1).raise (memSource m))

/-! Pools (R493–R497) -/

/-- A request that reaches a pool is still on its way to its link. -/
def State.poolBusy (s : State) (e : Image) : Bool :=
  let p := poolSpan e
  s.host.arb.bursts.any (fun b => b.func == memFunc && !b.stale && spansMeet (b.addr, b.len) p)

/-- Pools whose release waited for accesses on their way are FREE, and their writes answered (R494). -/
def State.settleReleases (s : State) : State :=
  let (go, wait) := s.service.releasing.partition (fun r => !s.poolBusy (s.reg R.pool 0 r.1))
  let s := s.updService (fun v => { v with releasing := wait })
  go.foldl (fun s r =>
    let s := s.setPool r.1 (poolTo (s.reg R.pool 0 r.1) 0)
    if wait.any (fun w => w.2 = r.2) then s else
    match s.mgmt.owed.find? (fun o => o.1 = r.2) with
    | some o => (s.updMgmt (fun m => { m with owed := m.owed.erase o })).answer o.1 o.2.1 o.2.2 .ok
    | none => s) s

/-- The rules of a POOL entry (R493, R494).  A write of ASSIGN 1 to an ASSIGNED pool keeps its slice. -/
def poolRule (q : Req) (p : Nat) (was v : Image) : WriteRule :=
  let st := poolSt was
  let len := fldN v 94 64
  let moved := fldN v 51 21 ≠ fldN was 51 21 ∨ len ≠ fldN was 94 64
  let assign := bit v 124
  let sl := fldN v 119 112
  { chk := fun s =>
      if !s.serviceMode ∨ (assign ∧ len = 0) ∨ (assign ∧ st = 3)
          ∨ (len ≠ 0 ∧ (!(s.service.committed.any (fun d => spanIn (poolSpan v) (decoderSpan (s.eff R.memDecoder 0 d))))
            ∨ (s.entriesOf R.pool).any (fun e => e.1 != p && fldN e.2 94 64 != 0 && spansMeet (poolSpan v) (poolSpan e.2)))) then
        some .outOfRange
      else if st = 2 ∨ (moved ∧ st ≠ 0) ∨ s.service.releasing.any (fun r => r.1 = p) then some .busy else none
    eff := fun s =>
      let now := s.reg R.pool 0 p
      let now := if moved then setFld now 125 125 1 else now
      let s := s.setReg R.pool 0 p now
      if st = 0 ∧ assign then
        if !bit now 125 ∧ fldN now 111 104 = sl then (s.setReg R.pool 0 p (poolTo now 1), some .ok)
        else ((s.setReg R.pool 0 p (poolTo now 2)).updService (fun x => { x with zeroing := x.zeroing ++ [p] }), some .deferred)
      else if st = 1 ∧ !assign then
        let s := s.setReg R.pool 0 p (setFld now 119 112 (fldN was 119 112))
        if s.poolBusy now then (s.updService (fun x => { x with releasing := x.releasing ++ [(p, q)] }), none)
        else (s.setReg R.pool 0 p (poolTo now 0), some .ok)
      else if st = 1 then (s.setReg R.pool 0 p (setFld now 119 112 (fldN was 119 112)), some .ok)
      else (s, some .ok) }

/-- A POOL write. -/
def State.poolWrite (s : State) (q : Req) (p : Nat) (v : Image) : State :=
  let q := q.entries p 1
  s.writeRun q R.pool 0 p [v] (poolRule q)

/-- POOL_ASSIGN (R494). -/
def execPoolAssign (q : Req) (p : PoolNo) (v : Image) (s : State) : Result := .next (s.poolWrite q p (setFld v 124 124 1))
/-- POOL_RELEASE (R494). -/
def execPoolRelease (q : Req) (p : PoolNo) (v : Image) (s : State) : Result := .next (s.poolWrite q p (setFld v 124 124 0))

/-- Every link of a pool is ACTIVE. -/
def State.poolLinksUp (s : State) (e : Image) : Bool :=
  match s.service.committed.find? (fun d => spanIn (poolSpan e) (decoderSpan (s.eff R.memDecoder 0 d))) with
  | some d => (s.decoderLinks d).all (fun m => (s.memLink m).st == .active)
  | none => false

/-- POOL_ZEROING_DONE (R494, R495): the pool at the head of the order is zeroed and ASSIGNED. -/
def execPoolZeroingDone (p : PoolNo) (s : State) : Result :=
  .next (match s.service.zeroing with
    | [] => s
    | k :: ks =>
      let e := s.reg R.pool 0 p
      if k ≠ p ∨ !s.poolLinksUp e then s
      else
        let e' := setFld (setFld (poolTo e 1) 125 125 0) 111 104 (fldN e 119 112)
        ((s.updService (fun v => { v with zeroing := ks })).setPool p e').emit (.zeroed (poolSpan e).1 (poolSpan e).2))

end Sys2Proof.Machine
end

