-- ==== Sys2Proof/Machine/Engines.lean ====
section
/-! DEFINITION. Commands of the engine array, the host-bandwidth arbiter and the lock bank (chapter 11). -/

namespace Sys2Proof.Machine

/-! Dispatch, taking and stealing (R332–R334, R337–R339) -/

/-- DISPATCH_ADMIT (R332, R333). -/
def execDispatchAdmit (k : ClusterNo) (s : State) : Result := .next (s.admit1 k)

/-- ENGINE_TAKE (R334). -/
def execEngineTake (e : EngineNo) (s : State) : Result := .next (s.take e)

/-- ENGINE_STEAL (R337, R338). -/
def execEngineSteal (e : EngineNo) (s : State) : Result :=
  .next (if s.maysteal e ∧ bit (s.reg R.engineCtl) 31 then
      match s.victim e with
      | some v => s.steal e v
      | none => s
    else s)

/-- A local steal would move an item. -/
def State.localYields (s : State) (e : Nat) : Bool :=
  bit (s.reg R.engineCtl) 31 && (match s.victim e with
    | some v =>
      !(s.spoils v none).isEmpty
    | none => false)

/-- A remote steal: the items travel to the thief's cluster as POST packets, one an item (R339). -/
def State.stealRemote (s : State) (thief victim : Nat) : State :=
  (s.spoils victim (some (thief / 16))).foldl (fun s i =>
    ((s.updItem i.id (fun i => { i with place := .ring thief })).markStolen i true).ringSend
      { src := clusterStop (victim / 16), dst := clusterStop (thief / 16), kind := kindPost, units := 1, slice := i.slice
        item := some (i.id, thief) } .device) s

/-- ENGINE_REMOTE_STEAL (R337, R339): only where a local steal yields nothing. -/
def execEngineRemoteSteal (e : EngineNo) (s : State) : Result :=
  .next (if s.maysteal e ∧ bit (s.reg R.engineCtl) 30 ∧ !s.localYields e then
      match s.remoteVictim e with
      | some v => s.stealRemote e v
      | none => s
    else s)

/-! Parking and engine faults (R343–R345, R376) -/

/-- Classes of the packets that an item builds. -/
def State.itemClass (s : State) (i : Item) : Nat :=
  match i.src with
  | .entry n pos => match s.recvEntry n pos with | some (_, x) => entryClass x.bytes | none => 2
  | .segment n pos =>
    match s.recvEntry n pos with
    | some (_, x) => if (s.rop n pos).isSome then entryClass x.bytes else 3
    | none => 2

/-- The cause for which an item is parked is over (Table ENG-7). -/
def State.causeOver (s : State) (i : Item) (c : ParkCause) : Bool :=
  match c with
  | .shaper => !s.shaperHolds i.slice (s.itemClass i)
  | .function f => s.mayIssue f
  | .frost f => !s.sliceFrost i.slice && !s.linkFrost (instOf f false)
  | .miss id => !s.missing id
  | .noMiss => decide (s.trans.misses.length < 4096
      ∧ (s.trans.misses.filter (fun m => m.slice = i.slice)).length < fldN (s.reg R.missCtl) 7 0)
  | .rank job rank => (s.jobEntry i.slice job).isNone
      || s.remote.ranks.any (fun r => r.1 == i.slice && r.2.1 == job && r.2.2.1 == rank)

/-- ITEM_UNPARK (R343). -/
def execItemUnpark (id : Nat) (s : State) : Result :=
  .next (match s.host.engines.items.find? (fun i => i.id = id) with
    | none => s
    | some i =>
      match i.place with
      | .parked c => if s.causeOver i c then s.updItem id (fun i => { i with place := .intake }) else s
      | _ => s)

/-- ENGINE_ITEM_LIMIT (R344): an item has run longer than ITEM_LIMIT. -/
def execEngineItemLimit (e : EngineNo) (s : State) : Result :=
  .next (if (s.running e).isSome then s.engineOut e else s)

/-- ENGINE_MEMORY_ERROR (R344): an uncorrectable error in the engine's local memory. -/
def execEngineMemoryError (e : EngineNo) (s : State) : Result :=
  .next (if s.inService e then (s.countDev 16).engineOut e else s)

/-! The host-bandwidth arbiter (R346–R352) -/

/-- The bytes that an instance shares out in a window (R347). -/
def State.arbBudget (s : State) (inst : Nat) : Nat :=
  let x := s.hlink (inst / 4) (inst / 2 % 2)
  fldN (s.eff R.arbCtl (inst / 2)) 16 0 * x.width * rate10 x.speed / (16 * 640)

/-- Refill of one instance (R347, R352). -/
def State.arbRefill (s : State) (inst : Nat) : State :=
  let a := s.host.arb
  let s := s.commit R.arbCtl (inst / 2) 0
  let act := (a.active.filter (fun k => k / 256 = inst)).map (· % 256)
  let sum := (act.map (fun t => fldN (s.reg R.hostShare t) 15 0)).sum
  let known := (a.credit.filter (fun e => e.1 / 256 = inst)).map (·.1 % 256)
  let s := (known.filter (fun t => !act.contains t)).foldl (fun s t => s.setCredit inst t (min (s.credit inst t) 0)) s
  let b := s.arbBudget inst
  let s := act.foldl (fun s t =>
    let r : Int := (b * fldN (s.reg R.hostShare t) 15 0 / sum : Nat)
    s.setCredit inst t (min (s.credit inst t + r) (2 * r))) s
  let wait := ((a.bursts.filter (fun x => x.inst = inst)).map (·.slice)).eraseDups
  s.updHost (fun h => { h with arb := { h.arb with
    active := h.arb.active.filter (fun k => k / 256 ≠ inst) ++ wait.map (256 * inst + ·) } })

/-- ARBITER_REFILL (R347): a window of 1 µs begins at every instance. -/
def execArbiterRefill (s : State) : Result := .next ((List.range 16).foldl State.arbRefill s)

/-- The bursts of an instance that wait for a translation; of one queue's ring, the first. -/
def staleHeads (l : List Burst) : List Burst :=
  (l.filter (·.stale)).foldl (fun a b => if b.ring.isSome ∧ a.any (fun x => x.ring == b.ring) then a else a ++ [b]) []

/-- The addresses of an instance's bursts are translated where they must be, or must be again (R370, R385). -/
def State.placeHeads (s : State) (inst : Nat) : State :=
  (staleHeads (s.host.arb.bursts.filter (fun b => b.inst = inst))).foldl (fun s b =>
    match b.acc with
    | none => s.updBurst b.id (fun b => { b with stale := false })
    | some a =>
      match s.xlate (.burst b.id) a with
      | (s, .hit bus) => s.updBurst b.id (fun b =>
          { b with addr := bus, stale := false, inst := s.instFor b.func bus (inst % 2 == 1) })
      | (s, .fault f) => s.burstFault b f
      | (s, _) => s) s

/-- ARBITER_GRANT (R346, R348, R350, R351). -/
def execArbiterGrant (i : ArbInst) (s : State) : Result :=
  let s := ((s.placeHeads i).collSettle.deliverEnded).askReads i
  let s' := (s.grant i).settlePlacing.settleReleases
  .next (if (s.nextGrant i).isSome then s'.linkActive (i / 4) (i / 2 % 2) else s')

/-- ARBITER_PREEMPT (R349): a waiting burst of slice `sl` takes the grant away from one that is still being gathered. -/
def execArbiterPreempt (i : ArbInst) (sl : SliceNo) (s : State) : Result :=
  let ctl := s.eff R.arbCtl (i / 2)
  .next (match s.host.arb.bursts.find? (fun b => b.inst = i ∧ b.granted) with
    | none => s
    | some b =>
      let asks := (s.askers i).any (fun x => x.slice == sl)
      if i % 2 = 1 ∧ sl ≠ b.slice ∧ asks ∧ s.credit i b.slice + 64 * fldN ctl 31 24 < s.credit i sl
          ∧ b.taken < fldN ctl 23 20 then
        ((s.setCredit i b.slice (s.credit i b.slice + b.len)).updBurst b.id (fun x =>
          { x with granted := false, taken := x.taken + 1 })).countHost (i / 4) 4
      else s)

/-- BURST_HANDOVER (R349, R350): all units of the granted write are there. -/
def execBurstHandover (i : ArbInst) (s : State) : Result :=
  .next ((s.handover i).settlePlacing.settleReleases)

/-! The lock bank (R353–R358) -/

/-- LOCK_CLAIM (R354, R355): the word's OP is CLAIM unless it is 0 or 3. -/
def execLockClaim (n : LockNo) (sl : SliceNo) (m : LockMaster) (w : BitVec 32) (s : State) : Result :=
  .next (s.lockWrite n sl m (if fldN w 31 30 = 2 then w ^^^ 0xC0000000 else w))

/-- LOCK_RELEASE (R354, R356). -/
def execLockRelease (n : LockNo) (sl : SliceNo) (m : LockMaster) (w : BitVec 32) (s : State) : Result :=
  .next (s.lockWrite n sl m (if fldN w 31 30 = 1 then w ^^^ 0xC0000000 else w))

/-- LOCK_READ (R355). -/
def execLockRead (n : LockNo) (sl : SliceNo) (m : LockMaster) (s : State) : Result :=
  .next (s.emit (.lockWord sl m n (s.lock n)))

/-- A LOCK_BREAK write (R358). -/
def State.lockBreakWrite (s : State) (q : Req) (v : Image) : State :=
  let n := fldN v 15 0
  s.dictWrite q R.lockBreak 0 0 v (fun _ => if 4096 ≤ n then some .outOfRange else none)
    (fun s => (if bit (s.lock n) 31 then s.setLock n 0x40000000 else s, .ok))
/-- LOCK_BREAK. -/
def execLockBreak (q : Req) (v : Image) (s : State) : Result := .next (s.lockBreakWrite q v)

end Sys2Proof.Machine
end

