-- ==== Sys2Proof/Machine/Lanes.lean ====
section
/-! DEFINITION. Meanings of the lane commands (chapter 3): bring-up (R100), transmit hold (R87–R89), test patterns (R90),
calm windows (R91–R95), doze and wake (R96–R98), EQ_LOAD (R84) and LANE_CAL (R94). -/

namespace Sys2Proof.Machine

/-! Bring-up (R83, R100) -/

/-- A bring-up failure (Table LAN-14): LAST_FAIL, RETRY_WAIT, the lane fault source, a running EQ_LOAD ends (R84). -/
def State.bringUpFail (s : State) (p : Nat) (f : LaneFail) : State :=
  (((s.updLane p (fun l => { l with st := .retryWait, lastFail := f, txReady := false
                                    lockLost := false })).settlePause p).raise (8 * p)).opEnd 2 p f.code

/-- Bring-up starts as from OFF (R83, R100): a port whose role is OFF stays in OFF; the selected profile is loaded if it
is valid and of the port's rate. -/
def State.startBringUp (s : State) (p : Nat) : State :=
  if s.role p = 7 then (s.updLane p (fun l => { l with st := .off, txReady := false, rxClock := false })).settlePause p
  else
    let sel := fldN (s.reg R.eqSelect p) 2 0
    let prof := s.reg R.eqProfile p sel
    let rate := bit (s.reg R.laneCtl p) 1
    if bit prof 0 && (bit prof 1 == rate) then
      ((s.commit R.eqProfile p sel |>.commit R.eqSelect p 0).updLane p (fun l => { l with
        st := .synthLock, txReady := false, lockLost := false, symLoss := false
        profileActive := sel, rateActive := rate, loaded := prof.extractLsb' 0 704, trims := []
        deskew := (List.range (if p = 48 then 4 else 8)).map (fun i => fldN prof (64 * i + 124) (64 * i + 117)) })).settlePause p
    else s.bringUpFail p .profileInvalid

/-- A port in state `st` of its bring-up fails with `f` (the timeouts of Table LAN-14). -/
def State.failIn (s : State) (p : Nat) (st : LaneSt) (f : LaneFail) : State :=
  if (s.lane p).st = st then s.bringUpFail p f else s

/-- Bring-up restarts on command (R84, R85): the link goes down as if declared down, with cause ADMIN, and the wait ends at
once (Table LAN-16).  TEST leaves only with NONE, and OFF only for a role (Table LAN-14). -/
def State.restartBringUp (s : State) (p : Nat) : State :=
  if (s.lane p).st = .test then s
  else (s.declareDown p 7 .retryWait).startBringUp p

/-- The synthesiser locks. -/
def State.synthLocked (s : State) (p : Nat) : State :=
  let l := s.lane p
  (match l.st with
  | .synthLock => (s.setLane p { l with st := .clockAcquire, txReady := true, lockLost := false }).startStream p
  | .clockAcquire | .phaseTrim | .align | .fecLock | .laneUp =>
    if l.lockLost then (s.setLane p { l with txReady := true, lockLost := false }).startStream p else s
  | .calm => if l.lockLost then (s.setLane p { l with lockLost := false }).emit (.prbs p) else s
  | .wake =>
    if l.txReady then s
    else
      let s := s.setLane p { l with txReady := true, lockLost := false }
      if l.wakeLeads then s.startStream p else s
  | .test => s.setLane p { l with txReady := true, lockLost := false }
  | .off | .doze | .retryWait => s).settlePause p

/-- SYNTH_LOCKED (R100, R87). -/
def execSynthLocked (p : Port) (s : State) : Result := .next (s.synthLocked p)

/-- SYNTH_LOCK_TIMEOUT (R100). -/
def execSynthLockTimeout (p : Port) (s : State) : Result := .next (s.failIn p .synthLock .synthLock)

/-- The receiver is powered: its clock is seen (Table LAN-9). -/
def LaneSt.listens : LaneSt → Bool
  | .off | .doze => false
  | _ => true

/-- FORWARDED_CLOCK_PRESENT (R86, R100, R99): RX_CLOCK tells of a clock at the expected rate. -/
def execForwardedClockPresent (p : Port) (rate : ClockRate) (s : State) : Result :=
  let l := s.lane p
  .next (match l.st, rate with
    | .clockAcquire, .expected => (s.setLane p { l with st := .phaseTrim, rxClock := true }).settlePause p
    | .clockAcquire, _ => (s.setLane p { l with rxClock := false }).bringUpFail p .rateMismatch
    | st, rate => if st.listens then (s.setLane p { l with rxClock := decide (rate = .expected) }).settlePause p else s)

/-- CLOCK_ACQUIRE_TIMEOUT (R100). -/
def execClockAcquireTimeout (p : Port) (s : State) : Result := .next (s.failIn p .clockAcquire .noClock)

/-- EYE_CENTRE_FOUND (R78, R100): the trims found are set; after wake they are found from their seeds (R98). -/
def execEyeCentreFound (p : Port) (trims : List Nat) (s : State) : Result :=
  let l := s.lane p
  .next (match l.st with
    | .phaseTrim => s.setLane p { l with st := .align, trims := trims }
    | .wake => s.setLane p { l with trims := trims }
    | _ => s)

/-- PHASE_TRIM_TIMEOUT (R100). -/
def execPhaseTrimTimeout (p : Port) (s : State) : Result := .next (s.failIn p .phaseTrim .trim)

/-- The least and the greatest of a list of arrival times. -/
def spread (xs : List Nat) : Nat × Nat :=
  match xs with
  | [] => (0, 0)
  | x :: t => (t.foldl min x, t.foldl max x)

/-- MARKERS_FOUND (R67, R78, R100): `lanes` are the lane numbers in the markers of inputs 0, 1, …; `arrivals` their
arrival times in UI. -/
def execMarkersFound (p : Port) (lanes arrivals : List Nat) (s : State) : Result :=
  let l := s.lane p
  let n := if p = 48 then 4 else 8
  let (lo, hi) := spread arrivals
  let found := { l with deskew := arrivals.map (hi - ·), skew := hi - lo }
  .next (match l.st with
    | .align =>
      if lanes ≠ List.range n then s.bringUpFail p .laneOrder
      else if 255 < hi - lo then s.bringUpFail p .skewRange
      else s.setLane p { found with st := .fecLock }
    | .wake => if lanes = List.range n ∧ hi - lo ≤ 255 then s.setLane p found else s
    | _ => s)

/-- ALIGN_TIMEOUT (R100). -/
def execAlignTimeout (p : Port) (s : State) : Result := .next (s.failIn p .align .noComma)

/-- FEC_LOCKED (R100, R125): LANE_UP; an EQ_LOAD ends DONE (R84), the link enters INIT. -/
def execFecLocked (p : Port) (s : State) : Result :=
  .next (if (s.lane p).st = .fecLock then
      ((s.updLane p (fun l => { l with st := .laneUp })).opEnd 2 p).enterInit p
    else s)

/-- FEC_LOCK_TIMEOUT (R100). -/
def execFecLockTimeout (p : Port) (s : State) : Result := .next (s.failIn p .fecLock .fecLock)

/-- RETRY_WAIT_EXPIRY (R100, R86). -/
def execRetryWaitExpiry (p : Port) (s : State) : Result :=
  .next (if (s.lane p).st = .retryWait then
      (s.updLane p (fun l => { l with retries := min 255 (l.retries + 1) })).startBringUp p
    else s)

/-! Lock and clock (R87–R89, R99, R130) -/

/-- A synthesiser loses lock (R87, R142): NOT_READY; the link timers pause. -/
def State.synthLoss (s : State) (p : Nat) : State :=
  let l := s.lane p
  match l.st with
    | .clockAcquire | .phaseTrim | .align | .fecLock | .laneUp =>
      (s.setLane p { l with txReady := false, lockLost := true }).settlePause p
    | .calm => s.setLane p { l with lockLost := true }
    | .wake => (s.setLane p { l with txReady := false, lockLost := true }).settlePause p
    | .test => (s.setLane p { l with txReady := false, patternWaits := l.patternWaits || l.patternRuns
                                     patternRuns := false }).settlePause p
    | .off | .synthLock | .doze | .retryWait => s
/-- SYNTH_LOCK_LOSS. -/
def execSynthLockLoss (p : Port) (s : State) : Result := .next (s.synthLoss p)

/-- FORWARDED_CLOCK_LOSS (R88, R142). -/
def execForwardedClockLoss (p : Port) (s : State) : Result :=
  .next ((s.updLane p (fun l => { l with rxClock := false })).settlePause p)

/-- FORWARDED_CLOCK_RETURN (R86, R88, R130): the paused timers resume. -/
def execForwardedClockReturn (p : Port) (s : State) : Result :=
  let l := s.lane p
  .next (if l.st.listens then (s.setLane p { l with rxClock := true }).settlePause p else s)

/-- A lane condition of R89 brings the link down: LAST_FAIL, cause LANE. -/
def State.laneLoss (s : State) (p : Nat) (f : LaneFail) : State :=
  let s := s.updLane p (fun l => { l with lastFail := f })
  if (s.link p).st = .down then (s.declareDown p 4 .retryWait).raise (8 * p)
  else s.declareDown p 4 .retryWait

/-- TX_LOCK_LOST_TIMEOUT (R89): outside a calm window and doze. -/
def execTxLockLostTimeout (p : Port) (s : State) : Result :=
  .next (if (s.lane p).st = .laneUp ∧ (s.lane p).lockLost then s.laneLoss p .txLockLost else s)

/-- RX_CLOCK_LOST_TIMEOUT (R89). -/
def execRxClockLostTimeout (p : Port) (s : State) : Result :=
  .next (if (s.lane p).st = .laneUp ∧ !(s.lane p).rxClock then s.laneLoss p .rxClockLost else s)

/-- SYMBOL_LOCK_LOSS (R99). -/
def execSymbolLockLoss (p : Port) (s : State) : Result :=
  .next (if (s.lane p).rateActive then s.updLane p (fun l => { l with symLoss := true }) else s)

/-- SYMBOL_LOCK_REGAINED (R130). -/
def execSymbolLockRegained (p : Port) (s : State) : Result :=
  .next (s.updLane p (fun l => { l with symLoss := false }))

/-- LOCK_LOSS_EXPIRY (R130). -/
def execLockLossExpiry (p : Port) (s : State) : Result :=
  let l := s.lane p
  .next (if l.rateActive ∧ l.symLoss ∧ (s.link p).pauseAt.isNone ∧ (s.link p).st ≠ .down then s.declareDown p 3 .retryWait
    else s)

/-! Test patterns (R90) -/

/-- The port's synthesiser is locked. -/
def Lane.locked (l : Lane) : Bool := l.txReady || (l.st == .calm && !l.lockLost)

/-- The test pattern starts: an EQ_LOAD running on the port is abandoned (R84). -/
def State.patternStarts (s : State) (p : Nat) (v : Image) : State :=
  ((s.updLane p (fun l => { l with patternWaits := false, patternRuns := true })).emit (.pattern p (v.extractLsb' 0 32))).opEnd
    2 p 12

/-- A pattern other than NONE takes the port to TEST (R90); a port whose role is OFF keeps it for its next lock. -/
def State.startTest (s : State) (p : Nat) (v : Image) : State × Fdp :=
  if s.role p = 7 then (s.updLane p (fun l => { l with patternWaits := true, patternRuns := false }), .deferred)
  else
    let locked := (s.lane p).locked
    let s := s.declareDown p 7 .test
    let s := (s.updLane p (fun l => { l with st := .test, txReady := locked, patternRuns := false
                                             patternWaits := true })).settlePause p
    if locked then (s.patternStarts p v, .ok) else (s, .deferred)

/-- TEST_PATTERN (R90). -/
def execTestPattern (q : Req) (p : Port) (v : Image) (s : State) : Result :=
  .next (s.dictWrite q R.testPattern p 0 v
    (fun _ => if 4 < fldN v 2 0 then some .outOfRange else none)
    (fun s =>
      if fldN v 2 0 ≠ 0 then s.startTest p v
      else
        let was := (s.lane p).st
        let s := s.updLane p (fun l => { l with patternWaits := false, patternRuns := false })
        if was = .test then (s.startBringUp p, .ok) else (s, .ok)))

/-- TEST_PATTERN_DEFERRED_START (R90). -/
def execTestPatternDeferredStart (p : Port) (s : State) : Result :=
  let l := s.lane p
  .next (if l.st = .test ∧ l.patternWaits ∧ l.txReady then s.patternStarts p (s.reg R.testPattern p) else s)

/-! Calm windows (R91–R95) -/

/-- The body of a calm cell (Table LAN-11). -/
def calmOf (c : LinkCell) : CalmInfo :=
  { op := bodyByte c.body 0, id := c.body.extractLsb' 8 8, startDelay := fldN c.body 31 16
    duration := fldN c.body 47 32, reason := bodyByte c.body 6 }

/-- The partner's address is valid, as learnt at link-up (R93). -/
def State.partnerValid (s : State) (p : Nat) : Bool :=
  match (s.link p).partner with
  | some q => q.addrValid
  | none => false

/-- The port may ask for or grant pauses: native rate, lanes and link up (R91, R93, R99). -/
def State.calmable (s : State) (p : Nat) : Bool :=
  let l := s.lane p
  l.st == .laneUp && !l.rateActive && (s.link p).st.running

/-- The requester's choice of identifier, delay and duration, within the bounds of Table LAN-11. -/
def calmDraw (n : Nat) : CalmInfo :=
  let v := Config.calmChoice n
  { op := 1, id := v.extractLsb' 0 8, startDelay := 64 + fldN v 23 8 % 8128, duration := 2 * (1 + fldN v 39 24 % 625) }

/-- The port sends a CALM_REQUEST (R93). -/
def State.calmAsk (s : State) (p : Nat) : State :=
  if s.calmable p && s.nodeValid && s.partnerValid p then
    let i := calmDraw s.draws
    (s.drawn.updLane p (fun l => { l with calmReq := some i, calmRetry := false })).queueCtl p (.calm i)
  else s

/-- CALM_INTERVAL_EXPIRY (R93, R102): no request while dozing or waking; the window is then asked for at LANE_UP. -/
def execCalmIntervalExpiry (p : Port) (s : State) : Result :=
  let l := s.lane p
  .next (if fldN (s.reg R.laneCtl p) 23 16 = 0 ∨ l.rateActive then s
    else if l.st = .doze ∨ l.st = .wake then s.setLane p { l with calmRetry := true }
    else if l.calmReq.isSome ∨ l.calmWin.isSome then s
    else s.calmAsk p)

/-- The 100 ms spacing holds (R91). -/
def State.calmSpaced (s : State) (p : Nat) : Bool :=
  match (s.lane p).calmLast with
  | some t => decide (t + 12500000 ≤ s.uptime)
  | none => true

/-- Codewords of 1.6 ns in ticks of 8 ns, rounded up (R77). -/
def cwTicks (n : Nat) : Nat := ceilDiv n 5

/-- CALM_REQUEST (R93, R95, R102). -/
def execCalmRequest (p : Port) (c : LinkCell) (s : State) : Result :=
  .next (s.received p c (fun s =>
    let i := calmOf c
    let l := s.lane p
    let answer (s : State) (op reason : Nat) : State :=
      s.queueCtl p (.calm { op := op, id := i.id, reason := reason
                            startDelay := if op = 2 then i.startDelay else 0
                            duration := if op = 2 then i.duration else 0 })
    if c.type ≠ .calm ∨ i.op ≠ 1 ∨ l.rateActive then s
    else
      let lower : Bool := match (s.link p).partner with
        | some q => decide (s.ownNode.toNat < q.node.toNat)
        | none => false
      if l.calmReq.isSome ∧ lower then answer s 3 2
      else
        let crossed := l.calmReq.isSome
        let s := s.setLane p { l with calmReq := none }
        let again (s : State) : State :=
          if crossed then s.updLane p (fun l => { l with calmRetry := true }) else s
        if !s.calmSpaced p then again (answer s 3 1)
        else if l.patternWaits ∨ l.st = .test ∨ s.opActive 2 p then again (answer s 3 4)
        else (answer s 2 0).updLane p (fun l => { l with
          dozeReq := none, calmRetry := false
          calmWin := some { startAt := s.uptime + cwTicks i.startDelay, duration := i.duration } })))

/-- CALM_GRANT (R93). -/
def execCalmGrant (p : Port) (c : LinkCell) (s : State) : Result :=
  .next (s.received p c (fun s =>
    let i := calmOf c
    match (s.lane p).calmReq with
    | some r =>
      if c.type = .calm ∧ i.op = 2 ∧ i.id = r.id then
        s.updLane p (fun l => { l with
          calmReq := none, calmRetry := false
          calmWin := some { startAt := s.uptime + cwTicks i.startDelay, duration := i.duration } })
      else s
    | none => s))

/-- CALM_REFUSE (R93, R95): a refusal of a request that was abandoned is ignored. -/
def execCalmRefuse (p : Port) (c : LinkCell) (s : State) : Result :=
  .next (s.received p c (fun s =>
    let i := calmOf c
    match (s.lane p).calmReq with
    | some r =>
      if c.type = .calm ∧ i.op = 3 ∧ i.id = r.id then
        s.updLane p (fun l => { l with calmReq := none, calmRetry := true })
      else s
    | none => s))

/-- CALM_RETRY (R93): after a refusal or silence the request is sent again. -/
def execCalmRetry (p : Port) (s : State) : Result :=
  let l := s.lane p
  .next (if (l.calmRetry ∨ l.calmReq.isSome) ∧ l.calmWin.isNone then s.calmAsk p else s)

/-- CALM_WINDOW_START (R91, R93): after the CALM_NEXT codeword the transmitter is silent and recalibrates. -/
def execCalmWindowStart (p : Port) (s : State) : Result :=
  let l := s.lane p
  .next (match l.st, l.calmWin with
    | .laneUp, some _ =>
      ((s.lastCodeword p .calmNext).setLane p
        { l with st := .calm, txReady := false, lockLost := true, calmLast := some s.uptime }).settlePause p
    | _, _ => s)

/-- CALM_WINDOW_END (R79, R91, R94, R100): the closing alignment block if the synthesiser is locked, else the hold
continues.  `trims` and `deskew` are what the receiver found in the second half; SKEW is their spread (R86). -/
def execCalmWindowEnd (p : Port) (trims deskew : List Nat) (s : State) : Result :=
  let l := s.lane p
  .next (if l.st = .calm then
      let l := { l with st := .laneUp, calmWin := none, trims := trims, deskew := deskew
                        skew := (spread deskew).2 - (spread deskew).1 }
      let s := if l.lockLost then s.setLane p l else (s.setLane p { l with txReady := true }).startStream p
      (s.settlePause p).opEnd 1 p
    else s)

/-! LANE_CAL and EQ_LOAD (R84, R94) -/

/-- The port that a START value names (Table MGT-14): 0–47, or 60 for the twin port. -/
def startPort (v : Image) : Option Nat :=
  let n := fldN v 31 0
  if n < 48 then some n else if n = 60 then some 48 else none

/-- LANE_CAL (R94). -/
def execLaneCal (q : Req) (v : Image) (s : State) : Result :=
  let p := (startPort v).getD 0
  .next (s.opStart q R.laneCalStart 0 v 1 p
    (fun s => (startPort v).isNone || s.role p == 7 || bit (s.reg R.laneCtl p) 1)
    (fun s => decide ((s.link p).st ≠ .up))
    (fun s => (if (s.lane p).calmReq.isSome ∨ (s.lane p).calmWin.isSome then s else s.calmAsk p, .ok)))

/-- LANE_CAL_TIMEOUT (R94). -/
def execLaneCalTimeout (p : Port) (s : State) : Result := .next (s.opEnd 1 p 2)

/-- EQ_LOAD (R84): deferred behind a running calm window.  DESIGN CHOICE (log 53): the twin port is refused while an isolate
action holds it, as any port that acts as OFF. -/
def execEqLoad (q : Req) (v : Image) (s : State) : Result :=
  let p := (startPort v).getD 0
  .next (s.opStart q R.eqLoadStart 0 v 2 p
    (fun s => (startPort v).isNone || s.role p == 7)
    (fun _ => false)
    (fun s =>
      if (s.lane p).st = .calm then (s.opSet 2 p 1, .deferred)
      else (s.restartBringUp p, .ok)))

/-- EQ_LOAD_DEFERRED_START (R84). -/
def execEqLoadDeferredStart (p : Port) (s : State) : Result :=
  .next (if (s.op 2 p).st = 1 ∧ (s.lane p).st ≠ .calm then (s.opSet 2 p 2).restartBringUp p else s)

/-! Doze and wake (R96–R98) -/

/-- Own DOZE_IDLE, in 10 µs (R85). -/
def State.dozeIdle (s : State) (p : Nat) : Nat := fldN (s.reg R.laneCtl p) 15 8

/-- The idle condition of R96: no data cell on output or input for DOZE_IDLE. -/
def State.dozeDue (s : State) (p : Nat) : Bool :=
  decide ((s.link p).dataAt + 1250 * s.dozeIdle p ≤ s.uptime)

/-- What else doze needs (R96): both addresses valid, the link UP, no calm window or maintenance pending. -/
def State.dozeAble (s : State) (p : Nat) : Bool :=
  let l := s.lane p
  s.calmable p && l.txReady && (s.link p).st == .up && s.nodeValid && s.partnerValid p && l.calmReq.isNone
    && l.calmWin.isNone && !s.opActive 1 p && !s.opActive 2 p && !l.patternWaits

/-- The lanes and the link doze (R96, R97): the DOZE_NEXT codeword, the synthesiser powered down, timers paused, pressure
reports and time messages discarded. -/
def State.enterDoze (s : State) (p : Nat) : State :=
  let s := s.lastCodeword p .dozeNext
  let s := (s.updLane p (fun l => { l with st := .doze, txReady := false, rxClock := false, dozeReq := none })).settlePause p
  (s.updLink p (fun k => { k with
    st := .doze
    bypassQ := k.bypassQ.filter (fun m => !(fldN m 7 0 == 1 || fldN m 7 0 == 2 || fldN m 7 0 == 3)) })).portState p (s.link p).st

/-- DOZE_IDLE_EXPIRY (R96).  DESIGN CHOICE (log 53): a request that is never answered stays pending, and no second one is
sent before a link-down. -/
def execDozeIdleExpiry (p : FabricPort) (s : State) : Result :=
  .next (if s.dozeIdle p ≠ 0 ∧ s.dozeDue p ∧ s.dozeAble p ∧ (s.lane p).dozeReq.isNone then
      let id := (Config.calmChoice s.draws).extractLsb' 0 8
      (s.drawn.updLane p (fun l => { l with dozeReq := some id })).queueCtl p (.calm { op := 4, id := id })
    else s)

/-- DOZE_REQUEST (R96, R102). -/
def execDozeRequest (p : Port) (c : LinkCell) (s : State) : Result :=
  .next (s.received p c (fun s =>
    let i := calmOf c
    if c.type ≠ .calm ∨ i.op ≠ 4 ∨ (s.lane p).rateActive then s
    else if (s.lane p).calmReq.isSome then s.queueCtl p (.calm { op := 6, id := i.id, reason := 2 })
    else if p = 48 ∨ s.dozeIdle p = 0 then s.queueCtl p (.calm { op := 6, id := i.id, reason := 3 })
    else if s.dozeDue p && s.dozeAble p then (s.sendCtl p (.calm { op := 5, id := i.id })).enterDoze p
    else s.queueCtl p (.calm { op := 6, id := i.id, reason := 2 })))

/-- DOZE_GRANT (R96): the port dozes unless a calm window or maintenance has come to be pending on it meanwhile; the
request is then over (DESIGN CHOICE, log 53). -/
def execDozeGrant (p : Port) (c : LinkCell) (s : State) : Result :=
  .next (s.received p c (fun s =>
    let i := calmOf c
    if c.type = .calm ∧ i.op = 5 ∧ (s.lane p).dozeReq = some i.id ∧ (s.link p).st = .up then
      if s.dozeAble p then s.enterDoze p else s.updLane p (fun l => { l with dozeReq := none })
    else s))

/-- DOZE_REFUSE (R96). -/
def execDozeRefuse (p : Port) (c : LinkCell) (s : State) : Result :=
  .next (s.received p c (fun s =>
    let i := calmOf c
    if c.type = .calm ∧ i.op = 6 ∧ (s.lane p).dozeReq = some i.id then
      s.updLane p (fun l => { l with dozeReq := none })
    else s))

/-- A dozing port wakes and leads (R97, R98). -/
def State.wakeUp (s : State) (p : Nat) : State :=
  if (s.lane p).st = .doze then
    (s.updLane p (fun l => { l with st := .wake, wakeLeads := true, wakeTone := true })).emit (.wakeTone p)
  else s

/-- WAKE_CAUSE_PORT (R97): a data cell or bypass message is queued for the dozing port. -/
def execWakeCausePort (p : Port) (s : State) : Result :=
  .next (if s.backlogAll (xIdx p) ≠ 0 ∨ !(s.link p).bypassQ.isEmpty then s.wakeUp p else s)

/-- WAKE_TONE (R97, R98): the port follows; of two tones the lower node address leads. -/
def execWakeTone (p : Port) (s : State) : Result :=
  let l := s.lane p
  .next (match l.st with
    | .doze => s.setLane p { l with st := .wake, wakeLeads := false, wakeTone := false }
    | .wake =>
      if l.wakeTone ∧ !l.txReady then
        s.setLane p { l with wakeLeads := match (s.link p).partner with
          | some q => decide (s.ownNode.toNat < q.node.toNat)
          | none => true }
      else s
    | _ => s)

/-- WAKE_LOCKED (R98, R100, R144): LANE_UP, the link from DOZE to UP; a calm window held over is asked for. -/
def execWakeLocked (p : Port) (s : State) : Result :=
  let l := s.lane p
  .next (if l.st = .wake ∧ l.txReady then
      let s := s.setLane p { l with st := .laneUp, rxClock := true, wakeLeads := false, wakeTone := false }
      let s := if l.wakeLeads then s else s.startStream p
      let s := ((s.updLink p (fun k => { k with st := .up })).settlePause p).portState p .doze
      if l.calmRetry then s.calmAsk p else s
    else s)

/-- WAKE_TIMEOUT (R100): TX_LOCK_LOST, and the link down with WAKE_FAIL. -/
def execWakeTimeout (p : Port) (s : State) : Result :=
  .next (if (s.lane p).st = .wake then
      (s.updLane p (fun l => { l with lastFail := .txLockLost })).declareDown p 9 .retryWait
    else s)

/-! LANE_CTL (R85) -/

/-- A LANE_CTL write (R85): RETRAIN restarts bring-up, WAKE wakes a dozing port. -/
def State.laneCtlWrite (s : State) (q : Req) (p : Nat) (v : Image) : State :=
  s.dictWrite q R.laneCtl p 0 v
    (fun _ => if p = 48 ∧ (fldN v 15 8 ≠ 0 ∨ bit v 2) then some .outOfRange else none)
    (fun s =>
      let s := if bit v 0 then s.restartBringUp p else s
      (if bit v 2 then s.wakeUp p else s, .ok))

/-- RETRAIN (R85): a LANE_CTL write with RETRAIN set. -/
def execRetrain (q : Req) (p : Port) (v : Image) (s : State) : Result := .next (s.laneCtlWrite q p (v ||| 1))

/-- WAKE (R85, R97): a LANE_CTL write with WAKE set. -/
def execWake (q : Req) (p : Port) (v : Image) (s : State) : Result := .next (s.laneCtlWrite q p (v ||| 4))

end Sys2Proof.Machine
end

