-- ==== Sys2Proof/Machine/Switch.lean ====
section
/-! DEFINITION. Meanings of the switch core's, the routing tables' and the gates' commands (chapters 5, 6 and 7): the
scheduler token, the RED averages, port roles, table swaps, key insertion, gate lists and overrides. -/

namespace Sys2Proof.Machine

/-- What moves with every token beside the crossbar: the rings' slots (R233) and the reduction units' cells (R62). -/
def State.tokenStart (s : State) : State := s.ringStep.unitsEmit

/-- SCHEDULER_TOKEN (R155): then the match and its crossings. -/
def execSchedulerToken (s : State) : Result := .next s.tokenStart.token

/-- RED_AVG_UPDATE (R159). -/
def execRedAvgUpdate (s : State) : Result := .next s.redUpdate

/-! Port roles (R167–R169) -/

/-- What refuses a PORT_ROLE value (R2, R168). -/
def State.portRoleBad (s : State) (p : Nat) (v : Image) : Bool :=
  let role := fldN v 31 29
  let alt := fldN v 27 22
  let par := fldN v 21 16
  let peer := fldN v 15 12
  let shape := s.eff R.groupShape
  decide (role = 5 ∨ role = 6)
  || decide (alt = p ∨ (48 ≤ alt ∧ alt ≤ 59) ∨ alt = 61 ∨ alt = 62)
  || decide (role = 3 ∧ (par = 0x3F ∨ par = p))
  || decide (role ≠ 3 ∧ par ≠ 0x3F)
  || decide (role = 0 ∧ (fldN shape 3 0 < peer ∨ peer = s.ownNode.col))
  || decide (role = 1 ∧ (fldN shape 7 4 < peer ∨ peer = s.ownNode.row))
  || decide (role ≠ 0 ∧ role ≠ 1 ∧ peer ≠ 0)
  || decide (s.straps.ports ≤ p ∧ role ≠ 7)

/-- The lanes follow a change of role (R100, R131): OFF takes the link down and powers the lanes down; a port leaving OFF
starts bring-up, or waits in TEST where a pattern waits; otherwise the wiring check is repeated (R19, R139). -/
def State.roleChanged (s : State) (p old : Nat) : State :=
  let now := s.role p
  if now = 7 then
    if old = 7 then s
    else (((s.declareDown p 7 .off).opEnd 2 p 12).updLane p (fun l => { l with txReady := false, rxClock := false })).settlePause p
  else if old = 7 then
    if (s.lane p).patternWaits then s.updLane p (fun l => { l with st := .test }) else s.startBringUp p
  else if (s.link p).st.running then s.settleWiring p ((s.link p).st == .wiringFault)
  else s

/-- PORT_ROLE (R167, R168). -/
def execPortRole (q : Req) (p : FabricPort) (v : Image) (s : State) : Result :=
  let old := s.role p
  .next (s.dictWrite q R.portRole 0 p v
    (fun s => if s.portRoleBad p v then some .outOfRange else none)
    (fun s => (s.roleChanged p old, .ok)))

/-! Table swaps (R196–R198) -/

/-- Exchange the stored entries of two tables of one layout. -/
def State.swapTables (s : State) (a b : Reg) : State :=
  let ea := s.entriesOf a
  let eb := s.entriesOf b
  let s := ea.foldl (fun s e => s.setReg a 0 e.1 (a.default 0 e.1)) s
  let s := eb.foldl (fun s e => s.setReg b 0 e.1 (b.default 0 e.1)) s
  let s := eb.foldl (fun s e => s.setReg a 0 e.1 e.2) s
  ea.foldl (fun s e => s.setReg b 0 e.1 e.2) s

/-- Copy table `a` into table `b`. -/
def State.copyTable (s : State) (a b : Reg) : State :=
  let s := (s.entriesOf b).foldl (fun s e => s.setReg b 0 e.1 (b.default 0 e.1)) s
  (s.entriesOf a).foldl (fun s e => s.setReg b 0 e.1 e.2) s

/-- Ports of the ORDERED candidates of a group route entry, in index order (R198). -/
def orderedPorts (e : Image) : List Nat :=
  (((List.range 4).filterMap (candOf e)).filter (fun c => bit e (52 + c.idx))).map (·.port)

/-- A swap would change the ordered ports of an entry valid in both banks (R198). -/
def State.orderedChange (s : State) : Bool :=
  (s.entriesOf R.groupRoute).any (fun e =>
    let st := s.reg R.groupRouteStage 0 e.1
    bit e.2 63 && bit st 63 && orderedPorts e.2 != orderedPorts st)

/-- A BOOL START that is not 1 is refused (R581). -/
def startBad (v : Image) : Bool := v != 1

/-- The entries that a swap of banks `a` and `b` has installed in `a`, by their keys. -/
def State.bankOf (s : State) (a b : Reg) : List Change :=
  (((s.entriesOf a).map (·.1)) ++ ((s.entriesOf b).map (·.1))).eraseDups.map (fun e => (a.key 0 e, s.reg a 0 e))

/-- ROUTE_SWAP (R196, R198). -/
def execRouteSwap (q : Req) (v : Image) (s : State) : Result :=
  .next (s.opStart q R.boolStart 6 v 6 0
    (fun s => startBad v || (s.orderedChange && !bit (s.reg R.routeSwapCtl) 0))
    (fun _ => false)
    (fun s => (s.swapTables R.groupRoute R.groupRouteStage, .ok))
    (fun s => some (true, s.bankOf R.groupRoute R.groupRouteStage)))

/-- KEY_TABLE_SWAP (R196). -/
def execKeyTableSwap (q : Req) (v : Image) (s : State) : Result :=
  .next (s.opStart q R.boolStart 7 v 7 0 (fun _ => startBad v) (fun _ => false)
    (fun s => (s.swapTables R.keyTable R.keyTableStage, .ok))
    (fun s => some (false, s.bankOf R.keyTable R.keyTableStage)))

/-- SWAP_COPY_DONE (R197, R198): the staging bank is a copy of the active one and the operation ends. -/
def execSwapCopyDone (keys : Bool) (s : State) : Result :=
  .next (if keys then
      if s.opActive 7 then (s.copyTable R.keyTable R.keyTableStage).opEnd 7 0 else s
    else if s.opActive 6 then
      ((s.copyTable R.groupRoute R.groupRouteStage).setReg R.routeSwapCtl 0 0 0).opEnd 6 0
    else s)

/-- What refuses a key table entry at staging slot `slot` (R190). -/
def State.keyEntryBad (s : State) (slot : Option Nat) (v : Image) : Bool :=
  let span := fldN v 19 16
  fldN v 29 28 == 3 || decide (fldN v 15 0 % 2 ^ span ≠ 0)
  || (bit v 31 && (s.entriesOf R.keyTableStage).any (fun e =>
        some e.1 != slot && bit e.2 31 && fldN e.2 15 0 == fldN v 15 0 && fldN e.2 19 16 == span
        && decide (fldN e.2 27 22 &&& fldN v 27 22 ≠ 0)))

/-- The lowest staging slot whose VALID is 0 (R189). -/
def State.keySlot (s : State) : Option Nat :=
  (List.range 4096).find? (fun i => !bit (s.reg R.keyTableStage 0 i) 31)

/-- KEY_INSERT (R189, R190, R197). -/
def execKeyInsert (q : Req) (v : Image) (s : State) : Result :=
  .next (s.dictWrite q R.keyInsert 0 0 v
    (fun s =>
      if s.keyEntryBad none v then some .outOfRange
      else if s.keySlot.isNone then some .tableFull
      else if s.opActive 7 then some .busy
      else none)
    (fun s => match s.keySlot with
      | some i => (s.setReg R.keyTableStage 0 i v, .ok)
      | none => (s, .tableFull)))

/-! Gates (R219–R232) -/

/-- The list that a GATE_LOAD value spells (Table SCH-10); `none` with the refusal it draws (R220). -/
def gateListOf (bytes : List Byte) : Except Fdp GateList :=
  let n := bytes.length
  if n % 4 ≠ 0 ∨ n < 8 ∨ 1028 < n then .error .typeMismatch
  else
    let word (i : Nat) : Nat := natOfBytes ((bytes.drop (4 * i)).take 4)
    let hdr := word 0
    let es := (List.range (n / 4 - 1)).map (fun i => word (i + 1))
    let entries : List GateEntry := es.map (fun w => { opens := BitVec.ofNat 8 (w / 2 ^ 24), offset := w % 2 ^ 24 })
    let cycle := hdr % 2 ^ 24
    let offs := entries.map (·.offset)
    if 2 ^ 24 ≤ hdr ∨ cycle < 2 ∨ offs.head? ≠ some 0
        ∨ !((offs.zip offs.tail).all (fun (a, b) => decide (a < b))) ∨ offs.any (fun o => decide (cycle ≤ o)) then
      .error .outOfRange
    else .ok { cycle := cycle, entries := entries }

/-- GATE_LOAD (R220). -/
def execGateLoad (q : Req) (p : FabricPort) (bytes : List Byte) (s : State) : Result :=
  .next (s.dictWrite q R.gateLoad p 0 0
    (fun s => match gateListOf bytes with
      | .error f => some f
      | .ok _ => if (s.output p).gate.switchAt.isSome then some .busy else none)
    (fun s => match gateListOf bytes with
      | .error f => (s, f)
      | .ok l => (s.updGate p (fun g => { g with staged := some l }), .ok)))

/-- The staged list becomes active at tick `t` (R221). -/
def State.switchList (s : State) (p t : Nat) : State :=
  (s.updGate p (fun g => match g.staged with
    | some l => { g with active := some (l, t), staged := none, switchAt := none }
    | none => { g with switchAt := none })).applyGate p

/-- GATE_SWITCH (R221). -/
def execGateSwitch (q : Req) (p : FabricPort) (v : Image) (s : State) : Result :=
  .next (s.dictWrite q R.gateSwitch p 0 v
    (fun s => if (s.output p).gate.staged.isNone then some .outOfRange else none)
    (fun s =>
      let t := fldN v 63 0 / 8
      if t ≤ s.tick then (s.switchList p s.tick, .lateStart)
      else (s.updGate p (fun g => { g with switchAt := some t }), .ok)))

/-- GATE_LIST_SWITCH (R221). -/
def execGateListSwitch (p : FabricPort) (s : State) : Result :=
  .next (match (s.output p).gate.switchAt with
    | some t => if t ≤ s.tick then s.switchList p t else s
    | none => s)

/-- GATE_ENTRY_TRANSITION (R222, R223). -/
def execGateEntryTransition (p : FabricPort) (s : State) : Result := .next (s.applyGate p)

/-- What refuses a GATE_OVERRIDE value (R231). -/
def overrideBad (v : Image) : Bool :=
  let fc := fldN v 143 136
  let fo := fldN v 135 128
  decide (fc &&& fo ≠ 0) || decide (fc = 0 ∧ fo = 0) || bit v 136

/-- GATE_OVERRIDE (R229, R231). -/
def execGateOverride (q : Req) (p : FabricPort) (k : Slot4) (v : Image) (s : State) : Result :=
  let start := fldN v 63 0
  let stop := fldN v 127 64
  .next (s.dictWrite q R.gateOverride p k v
    (fun s =>
      let w := (nthD {} (s.output p).gate.overrides k).win
      if overrideBad v then some .outOfRange
      else if (submitWindow start stop s.tick).isNone then some .windowInverted
      else if w.st = .pending ∨ w.st = .running then some .busy
      else none)
    (fun s => match submitWindow start stop s.tick with
      | some (f, w) =>
        let o : Override := { win := w, forceOpen := v.extractLsb' 128 8, forceClose := v.extractLsb' 136 8 }
        ((s.updGate p (fun g => { g with overrides := setNth g.overrides k o })).applyGate p, f)
      | none => (s, .windowInverted)))

/-- GATE_OVERRIDE_STOP (R230). -/
def execGateOverrideStop (q : Req) (p : FabricPort) (k : Slot4) (v : Image) (s : State) : Result :=
  .next (s.dictWrite q R.gateOverrideStop p k v (fun _ => none)
    (fun s =>
      let o := nthD {} (s.output p).gate.overrides k
      let (f, w) := stopWindow o.win (fldN v 63 0) s.tick
      ((s.updGate p (fun g => { g with overrides := setNth g.overrides k { o with win := w } })).applyGate p, f)))

/-- GATE_FIT_TEST (R226): the packet's first cell leaves if the class is open for long enough and the transmitter has
nothing that goes before it. -/
def execGateFitTest (p : FabricPort) (s : State) : Result :=
  let k := s.link p
  .next (match s.pickCell p with
    | some n =>
      match (s.offered p)[n]? with
      | some e =>
        if e.first ∧ s.gated p e.cls ∧ k.ctlQ.isEmpty ∧ k.replayAt.isNone
            ∧ !(15 ≤ k.sinceBypass ∧ !k.bypassQ.isEmpty) then s.transmit p
        else s
      | none => s
    | none => s)

end Sys2Proof.Machine
end

