-- ==== Sys2Proof/Machine/FaultOps.lean ====
section
/-! DEFINITION. Fault collection and reaction (chapter 18): the log, notices, distress, the five rungs, surrender (R524) and fail
silent (R544), and the ladder of a source (Table FLT-3). -/

namespace Sys2Proof.Machine

def State.updFaults (s : State) (f : Collectors → Collectors) : State := { s with faults := f s.faults }
def State.src (s : State) (n : Nat) : FaultSrc := Table.get {} s.faults.srcs n
def State.setSrc (s : State) (n : Nat) (x : FaultSrc) : State :=
  s.updFaults (fun f => { f with srcs := Table.set {} f.srcs n x })
def State.updSrc (s : State) (n : Nat) (f : FaultSrc → FaultSrc) : State := s.setSrc n (f (s.src n))

/-- The source exists (R548). -/
def faultValid (n : Nat) : Bool := (faultRow n).isSome

/-- The instance of a source (R538). -/
def faultInst (n : Nat) : Nat :=
  if n < 0x190 then n / 8
  else if n < 0x210 then 0x100 + (n - 0x190) / 2
  else if n < 0x410 then 0x200 + (n - 0x210)
  else if n < 0x510 then 0x400 + (n - 0x410)
  else if n < 0x520 then 0x600 + (n - 0x510) / 4
  else if n < 0x530 then 0x700
  else 0x701

/-- The sources 0x530, 0x532 and 0x533 are protected (R538). -/
def protectedSrc (n : Nat) : Bool := n == 0x530 || n == 0x532 || n == 0x533

/-- Fields of a FAULT_REACTION entry (Table FLT-11). -/
def rxMask (r : BitVec 64) : Bool := bit r 63
def rxStart (r : BitVec 64) : Nat := fldN r 62 60
def rxLimit (r : BitVec 64) : Nat := fldN r 59 57
def rxSquall (r : BitVec 64) : Nat := fldN r 56 54
def rxSquallN (r : BitVec 64) : Nat := fldN r 53 46
def rxDistress (r : BitVec 64) : Bool := bit r 0

/-- The reaction that governs a source: the object's, or the one it opened with (R549). -/
def State.reactionOf (s : State) (n : Nat) : BitVec 64 :=
  if (s.src n).st = .idle then (s.reg R.faultReaction 0 n).extractLsb' 0 64 else (s.src n).reaction

/-! The log and notices (R546, R547) -/

/-- A record's 32 bytes (Table FLT-5). -/
def FaultRec.word (r : FaultRec) : BitVec 256 :=
  BitVec.ofNat 256 (r.seq + at' 32 r.time + at' 96 r.source + at' 112 r.kind + at' 120 r.flags + at' 128 r.events
    + at' 160 r.secCount + at' 176 r.secondary + at' 192 r.detail)
def FaultRec.bytes (r : FaultRec) : List Byte := bytesOf r.word 32

/-- The caddy takes no write of the collectors (R547). -/
def State.caddyAway (s : State) : Bool := s.opActive 4

/-- A record is written, or waits for the caddy with up to 63 others, or is lost (R547). -/
def State.logRecord (s : State) (r : FaultRec) : State × FaultRec :=
  let r := { r with seq := s.faults.logSeq, time := s.ns % 2 ^ 64 }
  let s := s.updFaults (fun f => { f with logSeq := (f.logSeq + 1) % 2 ^ 32 })
  let s := if !s.caddyAway then s.updFaults (fun f => { f with log := Table.set {} f.log (r.seq % 8192) r })
    else if s.faults.waiting.length < 64 then s.updFaults (fun f => { f with waiting := f.waiting ++ [r] })
    else s.updFaults (fun f => { f with lost := min 4095 (f.lost + 1) })
  (s, r)

/-- The waiting records go into the log (R547). -/
def State.logDrain (s : State) : State :=
  s.updFaults (fun f => { f with
    log := f.waiting.foldl (fun t r => Table.set {} t (r.seq % 8192) r) f.log
    waiting := [] })

/-- The management controller runs: started, not stopped, not in fail silent. -/
def State.mcRuns (s : State) : Bool := !s.mgmt.stopped && !s.faults.silent && (s.boot == .booted || s.boot == .up)

/-- A TC0 packet of the controller to NOTICE_DEST. -/
def State.noticePacket (s : State) (cmd ext : Nat) (payload : List Byte) : State :=
  let d := s.reg R.noticeDest
  s.build mcStop (s.controlHeader (d.extractLsb' 0 20) (d.extractLsb' 20 10) cmd ext payload.length) payload

/-- A fault notice of a kind for a record (R546). -/
def State.faultNotice (s : State) (kind : Nat) (r : FaultRec) : State :=
  if !s.mcRuns then s
  else if !bit (s.reg R.noticeDest) 63 then s.countDev 3
  else s.noticePacket 0x0C kind r.bytes

/-! Distress (R577, R578, Table MGT-11) -/

/-- The 16 bytes of a distress notice. -/
def Distress.bytes (d : Distress) : List Byte :=
  bytesOf (BitVec.ofNat 128 (d.node.toNat + at' 24 d.reason + at' 32 d.source + at' 48 d.rung + at' 56 d.count
    + at' 64 d.logSeq + at' 96 d.timeUs)) 16

/-- The distress buffer is loaded; content that waits is replaced and counted (R578). -/
def State.loadDistress (s : State) (d : Distress) : State × Distress :=
  let d := match s.mgmt.can.distress with
    | some w => { d with count := min 255 (w.count + 1) }
    | none => d
  (s.updMgmt (fun m => { m with can := { m.can with distress := some d } }), d)

/-- An alert pulse is sent now and twice again by ALERT_REPEAT (R505). -/
def State.alertThrice (s : State) (p : Pulse) : State :=
  (s.emit (.alert p)).updTwin (fun t => { t with copies := t.copies ++ [p, p] })

/-- A distress notice of a source (R577). -/
def State.distress (s : State) (n rung seq : Nat) : State :=
  let (s, d) := s.loadDistress { node := s.ownNode, reason := 1, source := n, rung := rung, logSeq := seq
                                 timeUs := s.ns / 1000 % 2 ^ 32 }
  let s := s.alertThrice .distress
  if s.mcRuns ∧ bit (s.reg R.noticeDest) 63 then s.noticePacket 0x0D 0 d.bytes else s

/-! Isolate actions (Table FLT-6) -/

/-- What an isolate action of a source acts on. -/
inductive IsoUnit where
  | port (p : Nat) | host (k : Nat) | mem (m : Nat)
  deriving DecidableEq, Repr

/-- The isolate action of a source, if it has one. -/
def isoUnit (n : Nat) : Option IsoUnit :=
  if n < 0x188 then (if n % 8 ≤ 4 then some (.port (n / 8)) else none)
  else if 0x510 ≤ n ∧ n < 0x520 then
    match n % 4 with
    | 0 => some (.host ((n - 0x510) / 4))
    | 1 => none
    | r => some (.mem (2 * ((n - 0x510) / 4) + (r - 2)))
  else none

/-- The unit is isolated. -/
def State.isolate (s : State) (u : IsoUnit) : State :=
  match u with
  | .port p =>
    let old := s.role p
    let s := { s with isolated := if s.isolated.contains p then s.isolated else s.isolated ++ [p] }
    let s := s.roleChanged p old
    if p = 48 then s.raise 0x521 else s
  | .host k =>
    let s := if s.hostRole k = 0 then s.hostHold k
      else if s.hostRole k = 1 then
        let s := s.memDown (2 * k) 8
        let s := if s.bifurcated k then s.memDown (2 * k + 1) 8 else s
        s.setHport k { s.hport k with perst := true }
      else s
    s.setHport k { s.hport k with held := true }
  | .mem m =>
    (s.memDown m 0).updFaults (fun f => { f with mems := if f.mems.contains m then f.mems else f.mems ++ [m] })

/-- The unit resumes (R537). -/
def State.resume (s : State) (u : IsoUnit) : State :=
  match u with
  | .port p =>
    let old := s.role p
    { s with isolated := s.isolated.filter (· ≠ p) }.roleChanged p old
  | .host k =>
    let s := s.setHport k { s.hport k with held := false }
    if (s.hport k).pin then s
    else if s.hostRole k = 0 then s.hostRelease k
    else if s.hostRole k = 1 then s.memRelease k
    else s
  | .mem m =>
    (s.updHlink (m / 2) (m % 2) (fun _ => .reset 1)).updFaults (fun f => { f with mems := f.mems.filter (· ≠ m) })

/-- The isolate action of a source ends, unless another source holds the unit too (R537). -/
def State.endIsolate (s : State) (n : Nat) : State :=
  if !(s.src n).isolating then s
  else
    let s := s.updSrc n (fun x => { x with isolating := false })
    match isoUnit n with
    | some u => if s.faults.srcs.any (fun e => e.2.isolating && isoUnit e.1 == some u) then s else s.resume u
    | none => s

/-! Surrender (R524) and fail silent (R544) -/

/-- Every tenant slice is halted with cause DEVICE_HALT. -/
def State.haltTenants (s : State) : State :=
  (List.range 256).foldl (fun s sl => if sl = 0 then s else s.haltStart sl 3 []) s

/-- Packets for the own address move to the queues for the twin port (R508). -/
def State.ownToTwin (s : State) : State :=
  s.inputIdx.foldl (fun s i => s.updInput i (fun b => { b with pkts := b.pkts.map (fun k =>
    if 48 ≤ k.out ∧ k.out < 56 ∧ k.hdr.dstNode = s.ownNode ∧ k.sent = 0 then
      { k with out := 60, vc := if k.inVc < 48 then k.inVc else k.hdr.cls.toNat * 6 + k.hdr.phase.toNat * 2 }
    else k) })) s

/-- A node address and a cause as the DETAIL of a record (Table FLT-5). -/
def nodeDetail (n : Node) (cause : Nat) : Nat := n.toNat + at' 24 cause

/-- The device surrenders (R524, R507); one that has surrendered does not again, and an address that it had adopted has no holder any
more (Table TWN-18). -/
def State.surrender (s : State) (cause : Nat) : State :=
  if s.twin.st = .surrendered then s
  else
    let s := if s.twin.st = .joining then s.ownToTwin else s
    let s := s.haltTenants.alertThrice .adopt
    let s := { s with ownGone := true, adopted := none }.updTwin (fun t => { t with st := .surrendered, askCause := cause })
    (s.logRecord { kind := 11, detail := nodeDetail s.ownNode cause }).1

/-- A port falls silent: LAST_DOWN FAIL_SILENT, no LINK_DOWN, lanes off. -/
def State.silence (s : State) (p : Nat) : State :=
  ((s.declareDown p 8 .off).updLink p (fun k => { k with lastDown := 8 })).updLane p
    (fun l => { l with txReady := false, rxClock := false })

/-- Every port is silent, and no role is acted on until the device resets (R544 step 1). -/
def State.silenceAll (s : State) : State :=
  let s := (List.range 49).foldl State.silence s
  { s with rolesOn := false }

/-- ADOPT pulses of fail silent, and the surrender where the device had not surrendered yet (R524, R544 steps 2 and 3). -/
def State.silentAsk (s : State) : State :=
  let s := s.updTwin (fun t => { t with copies := [] })
  if s.twin.st = .surrendered then (s.haltTenants.alertThrice .adopt).updTwin (fun t => { t with askCause := 3 })
  else s.surrender 3

/-- Its record and its distress frame (R544 steps 4 and 5). -/
def State.silentRecord (s : State) (cause : Nat) : State :=
  let (s, r) := s.logRecord { kind := 8, flags := 4, detail := cause }
  let d : Distress := { node := s.ownNode, reason := 2, source := 0x7FF, rung := 4, logSeq := r.seq
                        timeUs := s.ns / 1000 % 2 ^ 32 }
  (s.loadDistress d).1

/-- The device enters fail silent (R544). -/
def State.failSilent (s : State) (cause : Nat) : State :=
  if s.faults.silent then s
  else
    let s := s.updFaults (fun f => { f with silent := true, silentCause := cause })
    (s.silenceAll.silentAsk).silentRecord cause

/-! Rungs (R537) -/

/-- LAST_DOWN and LAST_FAIL as the DETAIL of a port source's record (Table FLT-5). -/
def State.portDetail (s : State) (n : Nat) : Nat :=
  if n < 0x188 then (s.link (n / 8)).lastDown + at' 8 (s.lane (n / 8)).lastFail.code else 0

/-- A record of a source as it stands (R547). -/
def State.srcRecord (s : State) (n kind : Nat) : State × FaultRec :=
  let x := s.src n
  s.logRecord { source := n, kind := kind
                flags := x.rung + at' 3 (b2n x.squall) + at' 4 (b2n x.wire) + at' 5 (b2n x.forced)
                events := x.events, secCount := x.secCount, secondary := x.secondary.getD 0xFFFF
                detail := if n = 0x523 ∧ kind = 12 then nodeDetail s.ownNode.twin 0 else s.portDetail n }

/-- Cause of a surrender at rung SURRENDER (Table FLT-2). -/
def surrenderCause (n : Nat) : Nat := if n = 0x532 ∨ n = 0x533 then 1 else if n = 0x530 then 2 else 5

/-- The actions of the rungs above `old` up to `new`; `old` is none at the opening. -/
def State.act (s : State) (n : Nat) (old : Option Nat) (new seq : Nat) : State :=
  let reached (r : Nat) : Bool := decide (r ≤ new) && (match old with | some o => decide (o < r) | none => true)
  let s := if reached 1 ∧ rxDistress (s.src n).reaction then s.distress n new seq else s
  let s := match isoUnit n with
    | some u => if reached 2 then (s.updSrc n (fun x => { x with isolating := true })).isolate u else s
    | none => s
  if reached 4 then s.failSilent 4
  else if reached 3 then s.surrender (surrenderCause n)
  else s

/-- A source has reached its rung: its record, the rung's actions, the notice, and LATCHED from SURRENDER on (R537, R538, R546). -/
def State.reach (s : State) (n : Nat) (old : Option Nat) (kind : Nat) : State :=
  let (s, r) := s.srcRecord n kind
  let rung := (s.src n).rung
  let s := s.act n old rung r.seq
  let s := if kind = 12 then s.faultNotice 3 r else if 1 ≤ rung then s.faultNotice 1 r else s
  if 3 ≤ rung ∧ (s.src n).st ≠ .latched then
    ((s.updSrc n (fun x => { x with st := .latched })).srcRecord n 7).1
  else s

/-- The state of an open source with time to climb, or none (Table FLT-3). -/
def climbing (rung : Nat) (r : BitVec 64) : FaultSt := if rung < rxLimit r then .active else .held

/-- A source opens its record (Table FLT-3). -/
def State.openSrc (s : State) (n : Nat) (forced wire : Bool) : State :=
  let r := s.reactionOf n
  let s := s.updSrc n (fun x => { x with st := climbing (rxStart r) r, rung := rxStart r, squall := false, wire := wire
                                         forced := forced, began := forced, reaction := r, events := 1, secCount := 0
                                         secondary := none, isolating := false })
  s.reach n none (if n = 0x523 then 12 else 1)

/-- The squall rule for an open source (R539, Table FLT-3). -/
def State.squallCheck (s : State) (n : Nat) : State :=
  let x := s.src n
  let r := x.reaction
  if (x.st = .active ∨ x.st = .held) ∧ !x.squall ∧ rxSquallN r ≠ 0 ∧ rxSquallN r ≤ x.window.getD 0 then
    if rxSquall r ≤ x.rung then
      let (s, q) := (s.updSrc n (fun x => { x with squall := true })).srcRecord n 3
      if 1 ≤ x.rung then s.faultNotice 1 q else s
    else
      let s := s.updSrc n (fun x => { x with squall := true, rung := rxSquall r, st := climbing (rxSquall r) r })
      s.reach n (some x.rung) 3
  else s

/-- An event of `n` merges into the record of `y` (R541). -/
def State.mergeInto (s : State) (y n : Nat) (forced : Bool) : State :=
  let r := s.reactionOf n
  let x := s.src y
  let sq := rxSquallN r != 0 && decide (rxSquallN r ≤ (s.src n).window.getD 0)
  let new := max (max x.rung (rxStart r)) (if sq then rxSquall r else 0)
  let s := s.setSrc y { x with secCount := min 65535 (x.secCount + 1), forced := x.forced || forced
                               secondary := if x.secondary.isNone then some n else x.secondary, rung := new }
  if x.rung < new then s.reach y (some x.rung) 2 else s

/-- The source into whose record an event of `n` merges (Table FLT-3, R541): an ACTIVE one of its instance, or one that has
opened in the same decision. -/
def State.mergeTarget (s : State) (n : Nat) (opened : List Nat) : Option Nat :=
  if protectedSrc n then none
  else (s.faults.srcs.find? (fun e => e.1 != n && faultInst e.1 == faultInst n && !protectedSrc e.1
    && (e.2.st == .active || (opened.contains e.1 && e.2.st != .idle)))).map (·.1)

/-- How an event moves its source, or the record it joins (Table FLT-3). -/
def State.eventMoves (s : State) (n : Nat) (forced wire : Bool) (opened : List Nat) : State :=
  let x := s.src n
  if x.st = .idle then
    match s.mergeTarget n opened with
    | some y => s.mergeInto y n forced
    | none => (s.openSrc n forced wire).squallCheck n
  else
    let s := s.setSrc n { x with events := min (2 ^ 32 - 1) (x.events + 1), forced := x.forced || forced
                                 wire := x.wire || wire }
    s.squallCheck n

/-- Where the sources stand: what a decision word tells (R535). -/
def State.stands (s : State) : List (Nat × FaultSt × Nat) := s.faults.srcs.map (fun e => (e.1, e.2.st, e.2.rung))

/-- A decision of the collectors: a change that collector B's altered word contradicts is not acted on, and the device enters fail
silent (R535, R551, R552).  Without the words of a collector there is no decision. -/
def State.decision (s : State) (f : State → State) : State :=
  let t := f s
  if !s.faults.aOk ∨ !s.faults.bOk then s
  else if s.faults.alter ∧ t.stands ≠ s.stands then
    (s.updFaults (fun c => { c with alter := false, agree := false })).failSilent 5
  else t

/-- One event of a source (R538, R539); answers the sources that have opened in this decision. -/
def State.faultEvent (s : State) (n : Nat) (forced wire : Bool) (opened : List Nat) : State × List Nat :=
  let s := s.countFault n 0
  let s := if forced then s.countFault n 1 else s
  if (s.src n).st = .idle ∧ rxMask (s.reactionOf n) then (s, opened)
  else
    let s := s.updSrc n (fun x => { x with window := some (x.window.getD 0 + 1) })
    let idle := (s.src n).st == .idle
    let s := s.decision (fun s => s.eventMoves n forced wire opened)
    (s, if idle ∧ (s.src n).st ≠ .idle then opened ++ [n] else opened)

/-- An event that the collectors decode: one that waits on the source's wires, a forced one, or one of the world outside. -/
def State.takeEvent (s : State) (n : Nat) : State × Bool :=
  if s.wires.contains n then ({ s with wires := s.wires.erase n }, false)
  else if s.faults.forced.contains n then (s.updFaults (fun f => { f with forced := f.forced.erase n }), true)
  else (s, false)

/-- Events that fall in one decision, the lower-numbered source first (R541). -/
def State.faultEvents (s : State) (l : List Nat) : State :=
  (sortNat (l.filter faultValid)).foldl (fun a n =>
    let (s, forced) := a.1.takeEvent n
    s.faultEvent n forced false a.2) (s, []) |>.1

/-! Timers, acknowledgement, closing (R540, R542, R543) -/

/-- The grace timer of an ACTIVE source expires (Table FLT-3). -/
def State.graceEnds (s : State) (n : Nat) : State :=
  let x := s.src n
  if x.st ≠ .active then s
  else if x.rung < rxLimit x.reaction then
    (s.setSrc n { x with rung := x.rung + 1, st := climbing (x.rung + 1) x.reaction }).reach n (some x.rung) 2
  else s.setSrc n { x with st := .held }

/-- A record closes (R542, R543): by lull, kind 5, or by FAULT_CLEAR, kind 6. -/
def State.closeSrc (s : State) (n kind : Nat) : State :=
  let x := s.src n
  let (s, r) := s.srcRecord n kind
  let s := if 1 ≤ x.rung then s.faultNotice 1 r else s
  (s.endIsolate n).setSrc n { window := x.window
                              recoveries := if kind = 5 then min (2 ^ 32 - 1) (x.recoveries + 1) else x.recoveries }

/-- Sources with DISTRESS 1 at NOTIFY or higher: while there is one, heartbeats carry DISTRESS (R505). -/
def State.inDistress (s : State) : Bool :=
  s.faults.srcs.any (fun e => e.2.st != .idle && rxDistress e.2.reaction && decide (1 ≤ e.2.rung))

end Sys2Proof.Machine
end

