-- ==== Sys2Proof/Machine/TwinOps.lean ====
section
/-! DEFINITION. Twin pairs (chapter 17): heartbeats, adoption (R519–R521), the pair session, resync and comparison. -/

namespace Sys2Proof.Machine

/-! Heartbeats (R506, Table TWN-4) -/

/-- TWIN_POLICY fields (Table TWN-13). -/
def State.partnerReset (s : State) : Nat := fldN (s.reg R.twinPolicy) 23 22
def State.autoAdopt (s : State) : Bool := bit (s.reg R.twinPolicy) 21

/-- The bypass message of a heartbeat. -/
def Heartbeat.toMsg (h : Heartbeat) : BypassMsg :=
  BitVec.ofNat 128 (4 + at' 8 (h.seq % 256) + at' 16 h.state + at' 20 h.alert + at' 24 (b2n h.mcAlive) + at' 25 (b2n h.agree)
    + at' 26 (b2n h.shadow) + at' 27 (b2n h.side) + at' 28 h.cause + at' 32 h.node.toNat
    + (match h.adopted with | some n => at' 64 n.toNat + at' 87 1 | none => 0) + at' 96 (h.gen % 65536))

/-- The heartbeat that a bypass message carries. -/
def heartbeatOf (m : BypassMsg) : Heartbeat :=
  { seq := fldN m 15 8, state := fldN m 19 16, alert := fldN m 23 20, mcAlive := bit m 24, agree := bit m 25, shadow := bit m 26
    side := bit m 27, cause := fldN m 31 28, node := m.extractLsb' 32 20
    adopted := if bit m 87 then some (m.extractLsb' 64 20) else none, gen := fldN m 111 96 }

/-- The alert that a heartbeat carries (R505): ADOPT while the device asks and is not adopted, else DISTRESS. -/
def State.alertNow (s : State) : Nat :=
  if s.twin.st = .surrendered ∧ !s.twinTakes then 2 else if s.inDistress then 1 else 0

/-- The heartbeat of the device as it stands. -/
def State.heartbeat (s : State) : Heartbeat :=
  { seq := s.twin.hbSeq, state := s.twin.st.code, alert := s.alertNow, mcAlive := s.faults.mcMissed == 0 && !s.mgmt.stopped
    agree := s.faults.agree, shadow := s.twin.shadowValid, side := s.straps.twinSide
    cause := if s.twin.st = .surrendered then s.twin.askCause else s.twin.adoptCause
    node := s.ownNode, adopted := s.adopted, gen := s.twin.gen }

/-- The partner's beats are present: a pulse was decoded within ADOPT_WAIT (R504). -/
def State.beats (s : State) : Bool :=
  match s.twin.beatAt with
  | some t => decide (s.uptime - t ≤ 125000 * fldN (s.reg R.twinPolicy) 20 16)
  | none => false

/-! The pair session (R502, R593) -/

/-- The TWIN slot holds a key (R590). -/
def State.enrolled (s : State) : Bool := bit (s.reg R.roleKey 0 13) 0

/-- The pair session opens into slot 16. -/
def State.openPair (s : State) : State :=
  if s.twin.session ∨ !s.enrolled ∨ s.mgmt.stopped then s
  else (s.updTwin (fun t => { t with session := true })).setSess 16
    { st := .opened, role := .twin, keySlot := 13, path := .pair }

/-- It ends. -/
def State.closePair (s : State) : State := (s.updTwin (fun t => { t with session := false })).setSess 16 {}

/-- A resync starts (R514); where one runs already it goes on. -/
def State.startResync (s : State) (restore : Bool) : State :=
  if s.opActive 3 then s
  else (s.opSet 3 0 2).updTwin (fun t => { t with restore := restore, joined := false })

/-! Partner reset and adoption (R519–R521, R527) -/

/-- A reset pulse was sent less than 1 s ago. -/
def State.pulsedLately (s : State) : Bool :=
  match s.twin.resetAt with
  | some t => decide (s.uptime - t < 125000000)
  | none => false

/-- TWIN_RESET_OUT_N is driven low for RESET_PULSE, but never in fail silent (R527, R544). -/
def State.resetPartner (s : State) : State :=
  if s.pulsedLately ∨ s.faults.silent then s
  else (s.emit (.resetOut (fldN (s.reg R.twinPolicy) 39 32))).updTwin (fun t => { t with resetAt := some s.uptime })

/-- The device may adopt (R520, Table TWN-5). -/
def State.mayAdopt (s : State) : Bool :=
  s.twin.shadowValid && (s.twin.st == .solo || s.twin.st == .resync || s.twin.st == .lead || s.twin.st == .trail)
    && !s.faults.silent && !(s.twin.hb && (s.twin.partner.map (·.state)) == some 5)

/-- The GEN of every valid REGION of the partner's slices increments; an entry that comes to 0xFF is spent and no longer valid (R419,
R521, R529, R653). -/
def State.bumpRegions (s : State) : State :=
  (s.entriesOf R.region).foldl (fun s e =>
    if bit e.2 127 ∧ !s.homed (fldN e.2 119 112) then
      let g := regionGen e.2 + 1
      let v := setFld e.2 111 104 g
      s.setRegion e.1 (if g = 255 then setFld v 127 127 0 else v)
    else s) s

/-- Adoption of the partner (R521). -/
def State.adopt (s : State) (cause : Nat) : State :=
  let s := s.opEnd 3 0 1
  let s := (List.range 256).foldl (fun s sl => if s.homed sl then s else s.setSlice sl {}) s
  let s := { s.bumpRegions with adopted := some s.ownNode.twin }.updTwin
    (fun t => { t with st := .adopting, adoptCause := cause, lead := true })
  let (s, r) := s.logRecord { kind := 10, detail := nodeDetail s.ownNode.twin cause }
  s.faultNotice 2 r

/-! States (R507) -/

/-- The partner comes to a device that is JOINING or SOLO (Table TWN-5). -/
def State.meetPartner (s : State) (b : Heartbeat) : State :=
  if b.adopted = some s.ownNode ∨ (!s.nodeValid ∧ b.state = 5) then
    (s.surrender b.cause).openPair.startResync false
  else if !s.enrolled then s.updTwin (fun t => { t with st := .solo })
  else
    let fresh := s.twin.st == .joining || b.state == 0
    let s := s.updTwin (fun t => { t with
      st := .resync, lead := if b.state = 5 then false else if fresh then !s.straps.twinSide else t.lead })
    s.openPair.startResync false

/-- A heartbeat of the partner has come (R506, R507, R519). -/
def State.onHeartbeat (s : State) (b : Heartbeat) : State :=
  let before := s.twin.partner
  let wasThere := s.twin.hb
  let s := s.updTwin (fun t => { t with partner := some b, hb := true })
  let s := if b.alert = 1 ∧ (!wasThere ∨ before.map (·.alert) ≠ some 1) then s.raise 0x523 else s
  let asks := b.alert == 2 && (b.cause == 1 || b.cause == 2 || b.cause == 4 || b.cause == 5)
  if asks ∧ s.mayAdopt then s.adopt b.cause
  else match s.twin.st with
  | .joining | .solo => s.meetPartner b
  | .surrendered =>
    if (before.bind (·.adopted)) = some s.ownNode ∧ b.adopted ≠ some s.ownNode then
      { s with ownGone := false }.updTwin (fun t => { t with st := .trail, lead := false, askCause := 0 })
    else s
  | .adopting => if b.state = 6 ∧ (!wasThere ∨ before.map (·.state) ≠ some 6) then s.openPair.startResync false else s
  | _ => s

/-- The heartbeat is lost (Tables TWN-5, TWN-8). -/
def State.heartbeatLost (s : State) : State :=
  if !s.twin.hb then s
  else
    let s := s.updTwin (fun t => { t with hb := false })
    if s.beats then
      if s.twin.st = .lead ∨ s.twin.st = .trail then ((s.raise 0x521).closePair).updTwin (fun t => { t with st := .solo }) else s
    else if s.twin.pinFault then s.raise 0x521
    else s

/-! Resync (R514) -/

/-- Values by key put into a table of dictionary values. -/
def putKeys (t : Table Image) (l : List Change) : Table Image :=
  l.foldl (fun t c => Table.set (keyDefault c.1) t c.1 (keyValue c.1 c.2)) t

/-- The objects of one scope are replaced. -/
def State.replaceScope (s : State) (device : Bool) (l : List Change) : State :=
  { s with dict := putKeys (s.dict.filter (fun e => keyScope e.1 ≠ some device)) (l.filter (fun c => keyScope c.1 = some device)) }

/-- A resync completes with what the partner has sent: pair-scope objects of the leader, and the partner's device-scope objects for
the shadow, or in a RESTORE the leader's shadow of this device for its own objects. -/
def State.resyncDone (s : State) (pairs devs : List Change) : State :=
  if !s.opActive 3 then s
  else
    let restore := s.twin.restore
    let s := if s.twin.lead then s else s.replaceScope false pairs
    let s := if restore then (if s.twin.lead then s else s.replaceScope true devs)
      else s.updTwin (fun t => { t with shadow := putKeys [] (devs.filter (fun c => keyScope c.1 = some true)) })
    let s := s.updTwin (fun t => { t with
      gen := (t.gen + 1) % 65536, behind := [], joined := true, restore := false
      shadowValid := if restore then t.shadowValid else true
      st := if t.st = .resync then (if t.lead then .lead else .trail) else t.st })
    s.opEnd 3 0

/-! Comparison (R515–R518) -/

/-- The VALID bit of an object's entries. -/
def validBit (r : Reg) : Option Nat :=
  if r.obj = 0x3410 then some 63 else if r.obj = 0x3420 then some 31
  else if r.obj = 0x5410 ∨ r.obj = 0x5121 then some 127 else if r.obj = 0x5400 then some 63
  else if r.obj = 0x1002 ∧ r.sub = 1 then some 31
  else if r.obj = 0x4000 ∧ (r.sub = 4 ∨ r.sub = 5) then some 31
  else if r.obj = 0x4000 ∧ r.sub = 8 then some 63
  else if r.obj = 0x5500 ∧ (r.sub = 2 ∨ r.sub = 3) then some 63
  else if r.obj = 0x5500 ∧ r.sub = 4 then some 127
  else if r.obj = 0x5411 ∧ r.sub = 2 then some 63
  else if r.obj = 0x7801 then some 31 else if r.obj = 0x5020 then some 15
  else if r.obj = 0x6000 ∧ r.sub = 2 then some 63
  else none

/-- Two copies of an entry count as equal (R515). -/
def sameEntry (r : Reg) (a b : Image) : Bool :=
  a == b || (match validBit r with | some n => !bit a n && !bit b n | none => false)

/-- The fabric port whose object this is. -/
def portObject (r : Reg) (i e : Nat) : Option Nat :=
  if 0x2000 ≤ r.obj ∧ r.obj ≤ 0x2BFF ∧ i < 48 then some i
  else if r.obj = 0x3400 then some e
  else if 0x3100 ≤ r.obj ∧ r.obj < 0x3200 ∧ i < 48 then some i
  else none

/-- The slice whose pair-scope entry this is. -/
def State.sliceObject (s : State) (r : Reg) (i : Nat) (v : Image) : Option Nat :=
  if r.obj = 0x5410 then some (fldN v 119 112)
  else if r.obj = 0x5400 then s.stationSlice (mctxStation v)
  else if r.obj = 0x4000 ∨ r.obj = 0x4001 ∨ r.obj = 0x4002 ∨ r.obj = 0x5500 ∨ r.obj = 0x5600 ∨ r.obj = 0x6900 then
    (if i = 0 then none else some i)
  else none

/-- An own entry is referenced (Table TWN-7). -/
def State.referenced (s : State) (r : Reg) (i e : Nat) (v : Image) : Bool :=
  if r.obj = 0x3410 then s.twin.routeRefs.contains e
  else if r.obj = 0x3420 then s.twin.keyRefs.contains e
  else if r.obj = 0x2002 ∧ r.sub = 1 then fldN (s.reg R.eqSelect i) 2 0 == e
  else if r.obj = 0x7801 then s.funcEnabled (512 * i + e)
  else if r.obj = 0x5123 then poolSt v == 1 || poolSt v == 2
  else match s.sliceObject r i v with
  | some sl => (s.slice sl).st != .stopped
  | none =>
    match portObject r i e with
    | some p => s.role p != 7
    | none => true

/-- TWIN_MISMATCH and the record of a mismatch (R517, Tables TWN-15 and FLT-5). -/
def State.mismatch (s : State) (r : Reg) (i e : Nat) (hot device : Bool) : State :=
  let kind := if hot then 2 else 1
  let sub := r.sub + (if r.entries = 0 then e else 0)
  let entry := if r.entries = 0 then 0 else e
  let s := s.setReg R.twinMismatch 0 0 (BitVec.ofNat 1024 (at' 62 kind + at' 61 (b2n device) + at' 40 (r.index i) + at' 32 sub
    + at' 16 entry))
  let s := (s.logRecord { kind := 9, detail := r.index i + at' 16 sub + at' 24 (kind + 4 * b2n device) + at' 32 entry }).1
  let s := s.countDev (if hot then 20 else 19)
  if hot then (s.updTwin (fun t => { t with hot := min 65535 (t.hot + 1) })).raise 0x522
  else s.updTwin (fun t => { t with cold := min 65535 (t.cold + 1) })

/-- The value of the leader's or the trailer's own copy that a sweep compares: the live object, or the shadow of the partner's. -/
def State.copyOf (s : State) (d : Diff) : Image :=
  match d.owner with
  | .partner => Table.get (keyDefault d.key) s.twin.shadow d.key
  | _ => Table.get (keyDefault d.key) s.dict d.key

/-- A cold entry is corrected from the leader's copy (R517): the leader sends its copy, the trailer takes it. -/
def State.correctEntry (s : State) (d : Diff) : State :=
  if s.twin.st = .lead then s.pairSend (.correct (d.owner == .own) (d.key, s.copyOf d))
  else if d.owner = .partner then
    s.updTwin (fun t => { t with shadow := Table.set (keyDefault d.key) t.shadow d.key d.value })
  else s.setKey d.key d.value

/-- One entry whose digests differ (R515–R518). -/
def State.compareEntry (s : State) (d : Diff) : State :=
  match objectOf d.key with
  | none => s
  | some (r, i, e) =>
    let device := d.owner != .pair
    if mirrorScope r i ≠ some device ∨ s.twin.mirrors.any (fun m => m.changes.any (fun c => c.1 == d.key))
        ∨ sameEntry r (s.copyOf d) d.value then s
    else
      let hot := match d.owner with
        | .partner => d.ref
        | .own => s.referenced r i e (s.copyOf d)
        | .pair => d.ref || s.referenced r i e (s.copyOf d) || s.referenced r i e d.value
      let s := s.mismatch r i e hot device
      if hot then s else s.correctEntry d

/-- A comparison sweep over the entries that differ (R515); what lookups have read counts from here anew. -/
def State.sweep (s : State) (l : List Diff) : State :=
  if s.twin.st = .lead ∨ s.twin.st = .trail then
    (l.foldl State.compareEntry s).updTwin (fun t => { t with routeRefs := [], keyRefs := [] })
  else s

end Sys2Proof.Machine
end

