-- ==== Sys2Proof/Machine/ResetOps.lean ====
section
/-! DEFINITION. Device reset (R627, R628), the wipe of a life-cycle change (R597), firmware check at start-up (R606) and the end of
start-up (R629). -/

namespace Sys2Proof.Machine

/-- The value of a key is kept in the caddy. -/
def inCaddy (k : Nat) : Bool :=
  match objectOf k with
  | some (r, _, _) => r.caddy
  | none => false

/-- The object of a key does not govern at once (Table MGT-3). -/
def governsLater (k : Nat) : Bool :=
  match objectOf k with
  | some (r, _, _) => r.eff != .immediate
  | none => false

/-- What the management side keeps over a reset: the audit ring, the life cycle, the caddy's log and the firmware banks. -/
def Mgmt.kept (m : Mgmt) : Mgmt :=
  { authFails := m.authFails, lifecycle := m.lifecycle, lcPending := m.lcPending, audit := m.audit, auditNext := m.auditNext, auditAcked := m.auditAcked
    segFree := m.segFree, bankA := m.bankA, bankB := m.bankB, minVersion := m.minVersion, keyGen := m.keyGen }

/-- Every port gets a new LINK_EPOCH (R144, R628). -/
def State.freshLinks (s : State) : Table Link :=
  (List.range 49).foldl (fun t p => Table.set {} t p { epochNo := (s.link p).epochNo + 1 }) []

/-- Host ports after a reset: held as under PERST#, whatever the pin is; that of a ROOT port is driven low again (R260). -/
def State.freshHosts (s : State) : HostSide :=
  let root (k : Nat) : Bool := s.hostRole k == 1 || fldN (s.reg R.hostCtl k) 1 0 == 1
  { ports := (List.range 4).foldl (fun t k => Table.set {} t k { pin := (s.hport k).pin || root k }) [] }

/-- Every ring is in service after a device reset (R249). -/
def State.ringsBack (s : State) : State := s.setReg R.ringCtl 0 0 (s.reg R.ringCtl ||| 0xF)

/-- A device reset of a kind (R627, R628): everything volatile returns to its default; the caddy's contents, what waits outside and
the straps stay, a pool's zeroing starts again (R495) and one whose release waited is FREE.  The device is held until the causes of all resets under way have gone. -/
def State.deviceReset (s : State) (kind : Nat) : State :=
  let s := s.service.releasing.foldl (fun s r => s.setReg R.pool 0 r.1 (poolTo (s.reg R.pool 0 r.1) 0)) s
  State.ringsBack { State.reset with
    pending := s.pending, out := s.out, draws := s.draws, straps := s.straps, tap := s.tap
    dict := s.dict.filter (fun e => inCaddy e.1)
    links := s.freshLinks, host := s.freshHosts
    mgmt := s.mgmt.kept
    service := { zeroing := s.service.zeroing }
    faults := { log := s.faults.log, logSeq := s.faults.logSeq }
    twin := { shadow := s.twin.shadow }
    power := { tj := s.power.tj }
    boot := .held
    holds := if s.boot = .held then (if s.holds.contains kind then s.holds else s.holds ++ [kind]) else [kind]
    lastReset := kind
    resets := if kind = 1 then 0 else min 65535 (s.resets + 1) }

/-- A cause of the reset has gone; the device is released once none is left (R627, Table PWR-15). -/
def State.release (s : State) (kinds : List Nat) : State :=
  if s.boot ≠ .held then s
  else
    let h := s.holds.filter (fun k => !kinds.contains k)
    { s with holds := h, boot := if h.isEmpty then .released else .held }

/-! Start-up -/

/-- A pending life-cycle change is completed: SECURITY, BOARD, FAULT_LOG and CONFIG are zeroed, the next installer's key is placed,
LIFECYCLE takes the target (R597 steps 5 and 6, R599). -/
def State.finishChange (s : State) : State :=
  match s.mgmt.lcPending with
  | none => s
  | some (target, key) =>
    let keeps (k : Nat) : Bool := k == R.fwSelect.key 0 0 || k == R.auditCtl.key 0 0 || k == R.roleKey.key 0 0
    let s := { s with dict := s.dict.filter (fun e => keeps e.1), service := { s.service with zeroing := [] } }
    let s := (s.updFaults (fun f => { f with log := [], logSeq := 0, waiting := [] })).updTwin (fun t => { t with shadow := [] })
    let s := s.updMgmt (fun m => { m with authFails := [], lifecycle := target, lcPending := none, segFree := 33 })
    if key = 0 then s
    else s.setReg R.roleKey 0 1 (BitVec.ofNat 1024 (1 + at' 32 key.toNat))

/-- A bank passes the boot ROM's check: it holds an image, its hash and signature are right, its version is allowed (R605, R606). -/
def State.bankPasses (s : State) (b : Bank) (ok : Bool) : Bool := b.valid && ok && decide (s.mgmt.minVersion ≤ b.version)

/-- The boot ROM has chosen a bank: B or A, as a fallback or not (R606). -/
def State.bootBank (s : State) (b fallback : Bool) : State :=
  let k := if b then s.mgmt.bankB else s.mgmt.bankA
  let s := s.updMgmt (fun m => { m with runningB := b, fallback := fallback, recovery := false, minVersion := max m.minVersion k.floor })
  let s := s.auditWrite 4 0 0 0 0 (BitVec.ofNat 64 (k.version + at' 32 (if b then 0x0B else 0x0A) + at' 40 (b2n fallback))) false
  { s with boot := .booted }.updFaults (fun f => { f with mcArmed := true })

/-- Neither bank passes: recovery mode (R606). -/
def State.enterRecovery (s : State) : State :=
  let s := s.updMgmt (fun m => { m with recovery := true, fallback := false })
  let s := s.auditWrite 4 0 0 0 0 0 false
  let s := s.updEngines (fun e => { e with out := List.range 512 })
  let s := { s with boot := .booted }.surrender 5
  (List.range 4).foldl (fun s k => if s.hostRole k = 0 ∧ !(s.hport k).pin then s.hostRelease k else s) s

/-- The check of the firmware at start-up; `aOk`, `bOk` say whether hash and signature of a bank are right. -/
def State.bootCheck (s : State) (aOk bOk : Bool) : State :=
  let s := s.finishChange
  let a := s.bankPasses s.mgmt.bankA aOk
  let b := s.bankPasses s.mgmt.bankB bOk
  if fldN (s.reg R.fwSelect) 7 0 = 0x0B then
    (if b then s.bootBank true false else if a then s.bootBank false true else s.enterRecovery)
  else (if a then s.bootBank false false else if b then s.bootBank true true else s.enterRecovery)

/-- Values of a family of objects, one index an instance, that have a bit set: instance, subindex offset, value. -/
def State.regsWith (s : State) (r : Reg) (n : Nat) : List (Nat × Nat × Image) :=
  s.dict.filterMap (fun e =>
    let i := keyIndex e.1
    let sub := keySub e.1
    if r.obj ≤ i ∧ i < r.obj + r.insts ∧ r.sub ≤ sub ∧ sub < r.sub + r.subs ∧ bit e.2 n then some (i - r.obj, sub - r.sub, e.2)
    else none)

/-- Shapers start with their level at BURST, policers with their buckets full (R210, R212). -/
def State.fillBuckets (s : State) : State :=
  let s := (s.regsWith R.shaper 63).foldl (fun s x => s.updOutput x.1 (fun o =>
    { o with level := Table.set 0 o.level x.2.1 ((1000 * fldN x.2.2 47 24 : Nat) : Int) })) s
  let s := (s.regsWith R.injShaper 63).foldl (fun s x =>
    { s with injLevel := Table.set 0 s.injLevel x.1 ((1000 * fldN x.2.2 47 24 : Nat) : Int) }) s
  let full (v : Image) : Buckets := { tc := 1000 * fldN v 87 64, tp := 1000 * fldN v 39 16 }
  let s := (s.regsWith R.ingressPolicer 127).foldl (fun s x =>
    { s with inBuckets := Table.set {} s.inBuckets (8 * x.1 + x.2.1) (full x.2.2) }) s
  (s.regsWith R.injPolicer 127).foldl (fun s x => { s with injBuckets := Table.set {} s.injBuckets x.1 (full x.2.2) }) s

/-- Persistent objects are applied: those that take effect at reset or later govern, the staging banks are copies of the active ones
(R172, R189), stations are bound, the time source is taken up. -/
def State.applyCaddy (s : State) : State :=
  let s := (s.dict.filter (fun e => keySub e.1 = 5 ∧ 0x4000 ≤ keyIndex e.1 ∧ keyIndex e.1 < 0x5000 ∧ keyIndex e.1 % 16 = 0)).foldl
    (fun s e => s.bindStations ((keyIndex e.1 - 0x4000) / 16) (keyEntry e.1)) s
  let s := { s with active := putKeys [] (s.dict.filter (fun e => governsLater e.1)) }
  let s := ((s.copyTable R.groupRoute R.groupRouteStage).copyTable R.keyTable R.keyTableStage).fillBuckets
  if fldN (s.reg R.timeCtl) 63 62 = 0 then s else { s with time := { s.time with st := .acquiring } }

/-- Ports take their roles and start bring-up, the twin port leaves OFF, host ports whose PERST# is released train (R100, R167,
R282). -/
def State.openPorts (s : State) : State :=
  let s := (List.range 48).foldl (fun s p => s.roleChanged p 7) { s with rolesOn := true }
  let s := s.startBringUp 48
  (List.range 4).foldl (fun s k => if s.hostRole k = 0 ∧ !(s.hport k).pin then s.hostRelease k else s) s

/-- The end of start-up (R629); a retired device opens nothing, and its tenant slices are HALTED (Table SEC-3). -/
def State.startUpEnd (s : State) : State :=
  let s := { s.applyCaddy with boot := .up }
  if s.mgmt.lifecycle = .retired then
    (List.range 256).foldl (fun s sl => if sl = 0 then s else s.updSlice sl (fun x => { x with st := .halted, haltCause := 3 })) s
  else s.openPorts

end Sys2Proof.Machine
end

