-- ==== Sys2Proof/Machine/PowerOps.lean ====
section
/-! DEFINITION. Voltage control, the pace governor, temperature (R610–R617), the timebase and its discipline (R619–R625). -/

namespace Sys2Proof.Machine

def State.updPower (s : State) (f : Power → Power) : State := { s with power := f s.power }
def State.updTime (s : State) (f : TimeUnit → TimeUnit) : State := { s with time := f s.time }

/-! AVSBus (R610–R612) -/

/-- One transaction: the request in mV; `fails` tries fail, of at most four (R612). -/
def State.avsWrite (s : State) (fails : Nat) (readback : BitVec 8) : State :=
  let s := (List.range (min 4 (fails + 1))).foldl (fun s _ => s.emit (.avs (600 + 5 * s.power.request))) s
  if fails < 4 then s.updPower (fun p => { p with avsFault := false, readback := readback.toNat })
  else (s.updPower (fun p => { p with avsFault := true, errors := min 4095 (p.errors + 1) })).countDev 26

/-- The end of a 100 µs window with its mean rate in M tokens/s (R611). -/
def State.avsWindow (s : State) (rate fails : Nat) (readback : BitVec 8) : State :=
  let c := s.reg R.avsCtl
  let target := fldN c 30 20
  let vmax := fldN c 15 8
  let vmin := fldN c 7 0
  let ignored := s.power.touched || decide (s.power.pace < 100)
  let s := s.updPower (fun p => { p with
    now := rate, low := some (match p.low with | some l => min l rate | none => rate)
    touched := decide (p.pace < 100) })
  if !bit c 31 ∨ ignored then s
  else
    let s := s.updPower (fun p => { p with
      above := if 104 * target < 100 * rate then min 10 (p.above + 1) else 0
      limit := p.request == vmax && decide (rate < target) })
    let p := s.power
    let may := !p.avsFault && (match p.changedAt with | some t => decide (125000 ≤ s.uptime - t) | none => true)
    let go (r : Nat) : State :=
      (s.updPower (fun p => { p with request := max vmin (min vmax r), above := 0, changedAt := some s.uptime })).avsWrite fails readback
    if !may then s
    else if p.request < vmin ∨ vmax < p.request then go p.request
    else if 100 * rate < 101 * target ∧ p.request < vmax then go (p.request + 1)
    else if p.above = 10 ∧ vmin < p.request then go (p.request - 1)
    else s

/-! The pace governor (R615, R616) -/

/-- A barometer crosses LEVEL1 or LEVEL2: the rate drops, and an interval starts where none runs. -/
def State.sag (s : State) (level2 : Bool) : State :=
  let start := s.power.pace == 100
  let s := s.updPower (fun p => { p with
    pace := if level2 then 70 else min p.pace 85
    touched := true
    paceAt := if start then s.uptime else p.paceAt
    intervals := if start then min 65535 (p.intervals + 1) else p.intervals })
  if start then (s.countDev 1).raise 0x539 else s

/-- RELEASE of quiet: one step back; the return to 100 % ends the interval. -/
def State.recoverPace (s : State) : State :=
  if s.power.pace = 70 then s.updPower (fun p => { p with pace := 85 })
  else if s.power.pace = 85 then
    let n := 8 * (s.uptime - s.power.paceAt)
    (s.updPower (fun p => { p with pace := 100, longest := max p.longest (min 65535 n) })).countDev 2 n
  else s

/-! Temperature (R617) -/

/-- The hottest sensor reads `t` °C. -/
def State.thermal (s : State) (t : BitVec 8) : State :=
  let c := s.reg R.thermalCtl
  let alarm : Int := fldN c 15 8
  let trip : Int := fldN c 23 16
  let s := s.updPower (fun p => { p with tj := t })
  if s.boot = .held then (if s.holds.contains 5 ∧ t.toInt ≤ trip - 20 then s.release [5] else s)
  else if trip ≤ t.toInt then s.deviceReset 5
  else if alarm ≤ t.toInt ∧ s.power.armed then (s.updPower (fun p => { p with armed := false })).raise 0x53A
  else if t.toInt < alarm - fldN c 7 0 then s.updPower (fun p => { p with armed := true })
  else s

/-! The timebase (R619) -/

/-- SOURCE and PARENT (Table PWR-11); the parent as a link number. -/
def State.timeSource (s : State) : Nat := fldN (s.reg R.timeCtl) 63 62
def State.timeParent (s : State) : Nat := let p := fldN (s.reg R.timeCtl) 61 56; if p = 60 then 48 else p
/-- SYNC_PERIOD in ns. -/
def State.syncNs (s : State) : Nat := 1000 * fldN (s.reg R.timeCtl) 47 32
/-- STEP_LIMIT in 2⁻³² ns. -/
def State.stepLimit (s : State) : Int := (fldN (s.reg R.timeCtl) 31 16 * 2 ^ 32 : Nat)

/-- A value within ± a limit. -/
def clampTo (m x : Int) : Int := max (-m) (min m x)

/-- What ends SYNCED and ACQUIRING, and while it lasts keeps HOLDOVER (Table PWR-10). -/
def State.timeCut (s : State) : Bool :=
  s.time.refclkLost || (s.timeSource == 2 && (s.link s.timeParent).st != .up) || (s.timeSource == 1 && !s.time.ppsSeen)

/-- HOLDOVER begins with its cause and ends with it (Table PWR-10). -/
def State.timeCauses (s : State) : State :=
  if (s.time.st = .synced ∨ s.time.st = .acquiring) ∧ s.timeCut then
    s.updTime (fun t => { t with st := .holdover, p := 0, good := 0 })
  else if s.time.st = .holdover ∧ !s.timeCut then s.updTime (fun t => { t with st := .acquiring, good := 0 })
  else s

/-- A correction moves the time state (R625); `ok`: the reply showed SYNCED, or the device follows PPS_IN. -/
def State.timeJudge (s : State) (offset : Int) (ok : Bool) : State :=
  let ns : Int := (2 ^ 32 : Nat)
  let a := offset.natAbs
  s.updTime (fun t =>
    let good := if ok ∧ (a : Int) ≤ 10 * ns then t.good + 1 else 0
    if t.st = .acquiring then (if 16 ≤ good then { t with st := .synced, good := 0 } else { t with good := good })
    else if t.st = .synced ∧ (!ok ∨ 50 * ns < (a : Int)) then { t with st := .acquiring, good := 0 }
    else { t with good := good })

/-- A correction by an offset in 2⁻³² ns (R623). -/
def State.correct (s : State) (offset delay : Int) (ok : Bool) : State :=
  let lim := s.stepLimit
  let s := s.updTime (fun t => { t with offset := offset, delay := delay })
  let s :=
    if lim < offset then { s with timeQ := s.timeQ + offset.toNat }
    else if offset < -lim then s.updTime (fun t => { t with hold := offset.natAbs })
    else s.updTime (fun t => { t with
      p := clampTo 17179869 (8 * offset / (s.syncNs : Int))
      f := clampTo 6871947 (t.f + offset / (s.syncNs : Int)) })
  s.timeJudge offset ok

/-- One tick of 8 ns: TIME advances by 8 ns × (1 + f + p), or stands still under a hold (R619, R623). -/
def State.advanceTime (s : State) : State :=
  let step := (((8 * 2 ^ 32 : Nat) : Int) + s.time.f + s.time.p).toNat
  let used := min step s.time.hold
  { s with timeQ := s.timeQ + (step - used), uptime := s.uptime + 1 }.updTime (fun t => { t with hold := t.hold - used })

/-- Every enabled shaper and policer is refilled (R211, R214). -/
def State.refillAll (s : State) : State :=
  let up (v : Image) (l : Int) : Int := min ((1000 * fldN v 47 24 : Nat) : Int) (l + (fldN v 23 0 : Nat))
  let s := (s.regsWith R.shaper 63).foldl (fun s x => s.updOutput x.1 (fun o =>
    { o with level := Table.upd 0 o.level x.2.1 (up x.2.2) })) s
  let s := (s.regsWith R.injShaper 63).foldl (fun s x => { s with injLevel := Table.upd 0 s.injLevel x.1 (up x.2.2) }) s
  let pour (v : Image) (b : Buckets) : Buckets :=
    { tc := min (1000 * fldN v 87 64) (b.tc + fldN v 111 88), tp := min (1000 * fldN v 39 16) (b.tp + fldN v 63 40) }
  let s := (s.regsWith R.ingressPolicer 127).foldl (fun s x =>
    { s with inBuckets := Table.upd {} s.inBuckets (8 * x.1 + x.2.1) (pour x.2.2) }) s
  (s.regsWith R.injPolicer 127).foldl (fun s x => { s with injBuckets := Table.upd {} s.injBuckets x.1 (pour x.2.2) }) s

/-- What the receiver of a port counts within a tick (R90, Table CTR-1): codewords that its FEC corrected and that it could not, or
the errors of a test pattern that it checks; none before it has the forwarded clock.  The numbers are free (log 48). -/
def State.countFec (s : State) (p : Nat) : State :=
  let l := s.lane p
  let n := Config.fecEvents s.draws
  if !l.rxClock then s
  else if l.st = .test then
    if bit (s.reg R.testPattern p) 3 ∧ !l.patternWaits then s.drawn.countPort p 29 n else s
  else if l.st = .laneUp ∨ l.st = .fecLock then (s.drawn.countPort p 27 n).drawn.countPort p 28 (Config.fecEvents (s.draws + 1))
  else s

/-- A tick of the timebase. -/
def State.timeTick (s : State) : State :=
  if s.boot = .held then s
  else
    let s := (s.lanes.map (·.1)).foldl (fun s p => s.countFec p) s
    let s := (s.outputs.map (·.1)).foldl (fun s p => s.gateOff p) s.advanceTime
    ((List.range 5).foldl (fun s i => s.islandWake i) s).refillAll.timeCauses

/-! Probes and PPS (R621–R624) -/

/-- A follower's probe; one that is still unanswered is dropped (R621, R623). -/
def State.sendProbe (s : State) : State :=
  if s.timeSource ≠ 2 ∨ (s.link s.timeParent).st ≠ .up then s
  else
    let s := if s.time.probe.isSome then s.countDev 27 else s
    let n := (s.time.probeSeq + 1) % 256
    (s.updTime (fun t => { t with probeSeq := n, probe := some (n, none) })).queueBypass s.timeParent (BitVec.ofNat 128 (2 + at' 8 n))

/-- The oldest bypass message of a type that waits for its owner. -/
def State.oldestBypass (s : State) (ty : Nat) : Option (Nat × BypassMsg × Nat) := s.bypassIn.find? (fun b => b.2.1.type = ty)

/-- A received probe is answered on its link (R621): T2 is the arrival less the fixed delay of reception. -/
def State.answerProbe (s : State) : State :=
  match s.oldestBypass 2 with
  | none => s
  | some b =>
    let t2 : Nat := b.2.2 - Config.rxDelay b.1
    let m : BypassMsg := BitVec.ofNat 128 (3 + at' 8 (fldN b.2.1 15 8) + at' 16 (t2 / 2 ^ 16 % 2 ^ 16) + at' 32 (t2 / 2 ^ 32 % 2 ^ 64)
      + at' 120 s.time.st.code)
    { s with bypassIn := s.bypassIn.erase b }.queueBypass b.1 m

/-- TIME_ASYM of a port in 2⁻³² ns. -/
def State.asym (s : State) (p : Nat) : Int :=
  ((s.reg R.timeAsym 0 p).extractLsb' 0 32).toInt * ((2 ^ 32 : Nat) : Int) / 10

/-- A received reply: one that matches the last probe corrects the timebase (R623). -/
def State.takeReply (s : State) : State :=
  match s.oldestBypass 3 with
  | none => s
  | some b =>
    let s := { s with bypassIn := s.bypassIn.erase b }
    match s.time.probe with
    | some (n, some t1) =>
      if s.timeSource ≠ 2 ∨ b.1 ≠ s.timeParent ∨ fldN b.2.1 15 8 ≠ n then s
      else
        let t2 : Nat := fldN b.2.1 95 32 * 2 ^ 32 + fldN b.2.1 31 16 * 2 ^ 16
        let t3 : Nat := t2 + fldN b.2.1 119 96 * 2 ^ 28
        let there : Int := (t2 : Int) - (t1 : Int)
        let back : Int := (((b.2.2 - Config.rxDelay b.1 : Nat)) : Int) - (t3 : Int)
        (s.updTime (fun t => { t with probe := none })).correct ((there - back) / 2 - s.asym b.1) ((there + back) / 2)
          (fldN b.2.1 127 120 == 2)
    | _ => s

/-- TIME takes a value in ns; it never decreases (R619). -/
def State.setTime (s : State) (ns : Nat) : State :=
  if s.timeQ ≤ ns * 2 ^ 32 then { s with timeQ := ns * 2 ^ 32 } else s

/-- A rising edge of PPS_IN (R624). -/
def State.ppsEdge (s : State) : State :=
  let s := (s.updTime (fun t => { t with ppsSeen := true })).timeCauses
  if s.timeSource ≠ 1 then s
  else match s.time.ppsTime with
  | some t => (s.updTime (fun x => { x with ppsTime := none })).setTime t
  | none =>
    let sec := 10 ^ 9 * 2 ^ 32
    let nearest := (s.timeQ + sec / 2) / sec * sec
    s.correct ((nearest : Int) - (s.timeQ : Int)) s.time.delay true

/-- A TIME_SET write (R624, R626). -/
def State.timeSetWrite (s : State) (q : Req) (v : Image) : State :=
  let n := fldN v 63 0
  s.dictWrite q R.timeSet 0 0 v
    (fun s => if s.timeSource = 2 ∨ n * 2 ^ 32 + (2 ^ 32 - 1) < s.timeQ then some .outOfRange else none)
    (fun s => (if s.timeSource = 1 then s.updTime (fun t => { t with ppsTime := some n }) else s.setTime n, .ok))

/-- TIME_CTL refuses (R626). -/
def timeCtlBad (v : Image) : Bool :=
  let src := fldN v 63 62
  let par := fldN v 61 56
  src == 3 || (src == 2 && (par == 63 || (decide (48 ≤ par) && decide (par ≤ 59)))) || decide (fldN v 47 32 < 16)
    || fldN v 31 16 == 0

/-- A TIME_CTL write moves the time state (Table PWR-10). -/
def State.timeCtlDone (s : State) (was : Nat) : State :=
  let now := s.timeSource
  if now = 0 then s.updTime (fun t => { t with st := .free, f := 0, p := 0, good := 0, probe := none })
  else if was = 0 ∨ s.time.st = .free then s.updTime (fun t => { t with st := .acquiring, good := 0 })
  else s.updTime (fun t => { t with good := 0 })

end Sys2Proof.Machine
end

