-- ==== Sys2Proof/Machine/Power.lean ====
section
/-! DEFINITION. Commands of power, clocks, time and reset (chapter 21). -/

namespace Sys2Proof.Machine

/-- AVS_WINDOW (R611, R612): the window's mean rate, the tries that fail, the voltage read back. -/
def execAvsWindow (rate fails : Nat) (readback : BitVec 8) (s : State) : Result :=
  .next (if s.boot = .held then s else s.avsWindow rate fails readback)

/-- AVS_RETRY (R612): the held request again. -/
def execAvsRetry (fails : Nat) (readback : BitVec 8) (s : State) : Result :=
  .next (if s.power.avsFault ∧ bit (s.reg R.avsCtl) 31 then s.avsWrite fails readback else s)

/-- BAROMETER_CROSSING (R615, R616). -/
def execBarometerCrossing (level2 : Bool) (s : State) : Result := .next (if s.boot = .held then s else s.sag level2)

/-- PACE_RELEASE (R615). -/
def execPaceRelease (s : State) : Result := .next s.recoverPace

/-- THERMAL_SAMPLE (R617): the hottest sensor, in °C. -/
def execThermalSample (t : BitVec 8) (s : State) : Result := .next (s.thermal t)

/-- REFCLK_LOSS (R618, Table PWR-8). -/
def execRefclkLoss (c : RefClock) (s : State) : Result :=
  .next (match c with
    | .lane k => ((List.range 12).map (12 * k + ·) ++ (if k = 0 then [48] else [])).foldl State.synthLoss s
    | .host k =>
      if (s.hport k).perst then s
      else if s.hostRole k = 1 then
        let down (s : State) (l : Nat) : State :=
          if (s.memLink (2 * k + l)).st = .active then (s.memDown (2 * k + l) 0).raise (memSource (2 * k + l))
          else s.updHlink k l (fun _ => .reset 0)
        if s.bifurcated k then down (down s 0) 1 else down s 0
      else if s.hostRole k ≠ 0 then s
      else
        let down (s : State) (l : Nat) : State := (s.resetFuncs (linkFuncs k l)).updHlink k l (fun _ => .reset 0)
        if s.bifurcated k then down (down s 0) 1 else down s 0
    | .time => (s.updTime (fun t => { t with refclkLost := true })).timeCauses)

/-- REFCLK_RETURN (R618, R625): TIME_REFCLK is back. -/
def execRefclkReturn (s : State) : Result := .next ((s.updTime (fun t => { t with refclkLost := false })).timeCauses)

/-- PPS_EDGE (R624). -/
def execPpsEdge (s : State) : Result := .next (if s.boot = .held then s else s.ppsEdge)
/-- PPS_TIMEOUT (R618). -/
def execPpsTimeout (s : State) : Result := .next ((s.updTime (fun t => { t with ppsSeen := false })).timeCauses)

/-- TIME_PROBE_SEND (R621). -/
def execTimeProbeSend (s : State) : Result := .next s.sendProbe
/-- TIME_PROBE (R621). -/
def execTimeProbe (s : State) : Result := .next s.answerProbe
/-- TIME_REPLY (R623). -/
def execTimeReply (s : State) : Result := .next s.takeReply
/-- TIME_SET (R624). -/
def execTimeSet (q : Req) (v : Image) (s : State) : Result := .next (s.timeSetWrite q v)

/-- TIMEBASE_TICK (R211, R619). -/
def execTimebaseTick (s : State) : Result := .next s.timeTick

/-! Reset (R627–R629) -/

/-- A DEV_RESET write (R627): the response leaves, then the device resets. -/
def State.devResetWrite (s : State) (q : Req) (v : Image) : State :=
  let t := s.dictWrite q R.devReset 0 0 v (fun _ => if v = 0 ∨ v.toNat ≠ 1 then some .outOfRange else none)
    (fun s => ({ s with holds := s.holds ++ [4] }, .ok))
  if t.holds.length ≠ s.holds.length then t.deviceReset 4 else t
/-- DEV_RESET. -/
def execDevReset (q : Req) (v : Image) (s : State) : Result := .next (s.devResetWrite q v)

/-- PIN_RESET (R627): RESET_N low for at least 10 µs while powered. -/
def execPinReset (s : State) : Result := .next (s.deviceReset 2)
/-- POWER_ON_RESET (R627). -/
def execPowerOnReset (s : State) : Result := .next (s.deviceReset 1)
/-- SUPPLY_RESET (R627). -/
def execSupplyReset (s : State) : Result := .next (s.deviceReset 3)

/-- RESET_RELEASE (R627, R629): RESET_N rises, with the straps sampled while it was low, or the device releases itself from a reset
of kind 3, 4 or 6; a THERMAL reset ends by THERMAL_SAMPLE. -/
def execResetRelease (kind : Nat) (twinSide : Bool) (mgmtId : BitVec 7) (s : State) : Result :=
  .next (if kind = 1 ∨ kind = 2 then
      if s.boot = .held then
        { s with straps := { s.straps with twinSide := twinSide, mgmtId := mgmtId.toNat } }.release [1, 2]
      else s
    else if kind = 5 then s
    else s.release [kind])

/-- BOOT_FIRMWARE_CHECK (R606): whether hash and signature of bank A and of bank B are right. -/
def execBootFirmwareCheck (aOk bOk : Bool) (s : State) : Result :=
  .next (if s.boot = .released then s.bootCheck aOk bOk else s)

/-- START_UP_END (R629). -/
def execStartUpEnd (s : State) : Result := .next (if s.boot = .booted ∧ !s.mgmt.recovery then s.startUpEnd else s)

end Sys2Proof.Machine
end

