-- ==== Sys2Proof/Machine/Caddy.lean ====
section
/-! DEFINITION. Commands of roles, life cycle and the caddy (chapter 20), with CONTROL_SCRUB (R585) and COUNTER_CLEAR_ALL (R645). -/

namespace Sys2Proof.Machine

/-! Compaction (R601) -/

/-- CADDY_COMPACT. -/
def execCaddyCompact (q : Req) (v : Image) (s : State) : Result :=
  .next (s.opStart q R.boolStart 4 v 4 0 (fun _ => startBad v) (fun _ => false) (fun s => (s, .ok)))

/-- CADDY_COMPACT_DONE: `free` segments are free, at least 12; the records of the fault log that waited are written (R547). -/
def execCaddyCompactDone (free : Nat) (s : State) : Result :=
  .next (if s.opActive 4 then
      ((s.opEnd 4 0).updMgmt (fun m => { m with
        segFree := min 33 (max (max m.segFree 12) free)
        compactions := min 65535 (m.compactions + 1) })).logDrain
    else s)

/-- CADDY_AUTO_COMPACT: fewer than 4 segments are free; a start that conflicts is tried again. -/
def execCaddyAutoCompact (s : State) : Result :=
  .next (if s.mgmt.segFree < 4 ∧ s.serving ∧ s.opBlocked 4 0 = none then s.opSet 4 0 2 else s)

/-! Control scrub (R585) -/

/-- CONTROL_SCRUB. -/
def execControlScrub (q : Req) (v : Image) (s : State) : Result :=
  .next (s.opStart q R.boolStart 8 v 8 0 (fun _ => startBad v) (fun _ => false) (fun s => (s, .ok)))

/-- SCRUB_AUTO_START: PERIOD has passed, or 1 s since a start that conflicted. -/
def execScrubAutoStart (s : State) : Result :=
  .next (if fldN (s.reg R.scrubCtl) 15 0 ≠ 0 ∧ s.serving ∧ s.opBlocked 8 0 = none then s.opSet 8 0 2 else s)

/-- CONTROL_SCRUB_DONE: the corrected errors met, and the sources that cover the uncorrectable ones. -/
def execControlScrubDone (corrected : Nat) (bad : List FaultNo) (s : State) : Result :=
  .next (if s.opActive 8 then
      (bad.foldl State.raise ((s.countDev 17 corrected).countDev 18 bad.length)).opEnd 8 0
    else s)

/-- Every counter is zero; what windows count goes on (R645). -/
def State.clearCounters (s : State) : State := { s with counters := [] }

/-- COUNTER_CLEAR_ALL. -/
def execCounterClearAll (q : Req) (v : Image) (s : State) : Result :=
  .next (s.opStart q R.boolStart 9 v 9 0 (fun _ => startBad v) (fun _ => false) (fun s => (s.clearCounters.opEnd 9 0, .ok)))

/-! Firmware (R605, R606) -/

/-- The staged bank, and a change of it. -/
def Mgmt.bank (m : Mgmt) (b : Bool) : Bank := if b then m.bankB else m.bankA
def Mgmt.withBank (m : Mgmt) (b : Bool) (k : Bank) : Mgmt := if b then { m with bankB := k } else { m with bankA := k }

/-- Spans of offsets, rising and apart, with one more (half-open). -/
def addSpan : List (Nat × Nat) → Nat × Nat → List (Nat × Nat)
  | [], x => [x]
  | y :: ys, x =>
    if x.2 < y.1 then x :: y :: ys
    else if y.2 < x.1 then y :: addSpan ys x
    else addSpan ys (min x.1 y.1, max x.2 y.2)

/-- Every byte up to LENGTH has been written. -/
def Staging.complete (g : Staging) : Bool := g.written == [(0, g.length)]

/-- A write whose value is a DOMAIN (R555, R565): door, access, life cycle, length, the object's own checks, conflicts, audit, then
the effect.  The audit record holds the hash of the written bytes. -/
def State.domainWrite (s : State) (q : Req) (r : Reg) (body : List Byte) (range : State → Option Fdp)
    (op : Option Nat) (eff : State → State × Fdp) : State :=
  s.serve q r.obj r.sub (fun role s =>
    if r.writable 0 role = 0 then s.answer q r.obj r.sub .accessDenied
    else if s.lifeForbids role then s.answer q r.obj r.sub .lifecycleState
    else if r.bits < 8 * body.length then s.answer q r.obj r.sub .typeMismatch
    else match (if q.odd ∨ q.entry ≠ 0 ∨ q.count ≠ 0 then some Fdp.outOfRange else range s) with
    | some f => s.answer q r.obj r.sub f
    | none =>
      match op.bind (s.opBlocked · 0) with
      | some (k, p) => s.answer q r.obj r.sub .operationConflict (conflictBody k p)
      | none =>
        match s.recordVal q role r 0 0 ((Config.sha384 body).extractLsb' 0 64) true with
        | .error (s, f) => s.answer q r.obj r.sub f
        | .ok s => let (s, f) := eff s; s.answer q r.obj r.sub f)

/-- FIRMWARE_STAGE (R605): the header of the image that the bank not running is to hold. -/
def State.fwStage (s : State) (q : Req) (hdr : List Byte) : State :=
  let n (i k : Nat) : Nat := natOfBytes ((hdr.drop i).take k)
  s.domainWrite q R.fwStageStart hdr
    (fun _ => if hdr.length < 160 ∨ n 12 4 ≠ 0 ∨ n 0 4 = 0 ∨ 4190208 < n 0 4 then some .outOfRange else none)
    (some 5)
    (fun s => ((s.opSet 5 0 2).updMgmt (fun m =>
      let b := !m.runningB
      { m.withBank b { m.bank b with valid := false } with
        staging := some { bankB := b, length := n 0 4, version := n 4 4, floor := n 8 4, hash := BitVec.ofNat 384 (n 16 48) } }), .ok))
/-- FIRMWARE_STAGE. -/
def execFirmwareStage (q : Req) (hdr : List Byte) (s : State) : Result := .next (s.fwStage q hdr)

/-- FW_CHUNK (R605): OFFSET in bytes 0–3, then image data. -/
def State.fwChunkWrite (s : State) (q : Req) (body : List Byte) : State :=
  let off := natOfBytes (body.take 4)
  let data := body.drop 4
  s.domainWrite q R.fwChunk body
    (fun s => match s.mgmt.staging with
      | none => some .outOfRange
      | some g => if body.length < 5 ∨ g.length < off + data.length then some .outOfRange else none)
    none
    (fun s => (s.updMgmt (fun m =>
      match m.staging with
      | none => m
      | some g =>
        let k := m.bank g.bankB
        { m.withBank g.bankB { k with image := k.image.writeAll off data } with
          staging := some { g with written := addSpan g.written (off, off + data.length) } }), .ok))
/-- FW_CHUNK. -/
def execFwChunk (q : Req) (body : List Byte) (s : State) : Result := .next (s.fwChunkWrite q body)

/-- A staging ends: the bank is VALID, or the operation has failed with a code. -/
def State.endStaging (s : State) (fail : Nat) : State :=
  match s.mgmt.staging with
  | none => s
  | some g =>
    let s := if fail ≠ 0 then s else s.updMgmt (fun m =>
      m.withBank g.bankB { m.bank g.bankB with valid := true, version := g.version, floor := g.floor, length := g.length })
    (s.updMgmt (fun m => { m with staging := none })).opEnd 5 0 fail

/-- FIRMWARE_CHECK_DONE (R605): how hash and signature came out; the version is compared here. -/
def execFirmwareCheckDone (c : FwCheck) (s : State) : Result :=
  .next (match s.mgmt.staging with
    | none => s
    | some g =>
      if !g.complete then s
      else s.endStaging (match c with
        | .length => 1 | .hash => 2 | .signature => 3 | .caddy => 6
        | .passed => if g.version < s.mgmt.minVersion then 4 else 0))

/-- FIRMWARE_STAGE_TIMEOUT (R605): 10 s without a chunk. -/
def execFirmwareStageTimeout (s : State) : Result :=
  .next (match s.mgmt.staging with
    | none => s
    | some g => if g.complete then s else s.endStaging 5)

/-- A FW_SELECT write (R606). -/
def State.fwSelectWrite (s : State) (q : Req) (v : Image) : State :=
  let b := v == 0x0B
  s.dictWrite q R.fwSelect 0 0 v
    (fun s =>
      if v ≠ 0x0A ∧ v ≠ 0x0B then some .outOfRange
      else match s.mgmt.staging with
      | some g => if g.bankB = b then some .busy else if (s.mgmt.bank b).valid then none else some .outOfRange
      | none => if (s.mgmt.bank b).valid then none else some .outOfRange)
    (fun s => (s, .ok))
/-- FW_SELECT. -/
def execFwSelect (q : Req) (v : Image) (s : State) : Result := .next (s.fwSelectWrite q v)

/-! Keys (R590, R591) -/

/-- The prime and the coefficient b of P-384 (PRESUMED: the curve is named, its parameters are not stated). -/
def p384 : Nat := 2 ^ 384 - 2 ^ 128 - 2 ^ 96 + 2 ^ 32 - 1
def p384b : Nat := 0xb3312fa7e23ee7e4988e056be3f82d19181d9c6efe8141120314088f5013875ac656398d8a2ed19d2a85c8edd3ec2aef

/-- A point of P-384: x, y below the prime with y² = x³ − 3x + b. -/
def onCurve (x y : Nat) : Bool :=
  decide (x < p384) && decide (y < p384) && (y * y % p384 == (x * x * x + (p384 - 3) * x + p384b) % p384)

/-- The key in 96 bytes, X then Y, each big-endian, is a point. -/
def keyOk (key : BitVec 768) : Bool :=
  let b := bytesOf key 96
  onCurve (natOfBytes (b.take 48).reverse) (natOfBytes (b.drop 48).reverse)

/-- The installer slots that would be valid with a value in slot `n`. -/
def State.installersWith (s : State) (n : Nat) (v : Image) : Bool :=
  [1, 2, 3, 4].any (fun k => if k = n then bit v 0 else bit (s.reg R.roleKey 0 k) 0)

/-- What refuses a ROLE_KEY entry (R590). -/
def State.keyRefuses (s : State) (n : Nat) (v : Image) : Option Fdp :=
  if (bit v 0 ∧ !keyOk (v.extractLsb' 32 768)) ∨ !s.installersWith n v then some .outOfRange
  else if bit v 0 ∧ bit (s.reg R.roleKey 0 n) 0 then some .busy
  else none

/-- A session ends (R564): its slot is free, what it still waited for is not answered. -/
def State.endSession (s : State) (n : Nat) : State :=
  let s := (s.setSess n {}).updMgmt (fun m => { m with owed := m.owed.filter (fun o => o.1.session ≠ n) })
  if n = 16 then s.updTwin (fun t => { t with session := false }) else s

/-- Every open session of a key slot ends. -/
def State.endKey (s : State) (n : Nat) : State :=
  (s.mgmt.sessions.filter (fun e => e.2.st = .opened ∧ e.2.keySlot = n)).foldl (fun s e => s.endSession e.1) s

/-- A claim can be made (R591): no session, CAN FD or a mailbox, no installer slot valid. -/
def State.mayClaim (s : State) (q : Req) (n : Nat) : Bool :=
  q.session == 0 && decide (1 ≤ n ∧ n ≤ 4) && !s.installersWith 16 0
    && (match q.path with | .can _ | .mailbox _ _ => true | _ => false)

/-- A write of one installer slot without a session (R591). -/
def State.claim (s : State) (q : Req) (n : Nat) (v : Image) : State :=
  let r := R.roleKey
  let no (s : State) (f : Fdp) : State := s.respond q r.obj r.sub f []
  let s := s.takeRequest q.path
  if !s.serving then s
  else if !s.pathOpen q.path then s.countDev 10
  else if q.full ∨ s.mgmt.recovery then no s .busy
  else if s.mgmt.lifecycle = .retired then no s .lifecycleState
  else if 2 ^ r.bits ≤ v.toNat then no s .typeMismatch
  else if q.odd ∨ r.reservedSet v then no s .outOfRange
  else match s.keyRefuses n v with
  | some f => no s f
  | none =>
    if s.auditFull then no s .tableFull
    else match s.caddyWrite q false with
    | (s, false) => no s .busy
    | (s, true) =>
      let a := auditValue r.bits [v]
      let s := s.auditWrite 3 0 (pathCode q.path) (r.obj + 65536 * r.sub) n a.1 a.2
      no ((s.setReg r 0 n v).countDev 9) .ok

/-- The rules of a ROLE_KEY entry (R590): entry 0 is read-only. -/
def roleKeyRule (n : Nat) (_ v : Image) : WriteRule := { deny := fun _ _ => n == 0, chk := fun s => s.keyRefuses n v }

/-- A ROLE_KEY write (R590): a slot whose VALID is cleared loses its sessions after the response. -/
def State.roleKeyWrite (s : State) (q : Req) (n : Nat) (vals : List Image) : State :=
  match vals with
  | [v] => if s.mayClaim q n then s.claim q n v else run
  | _ => run
where
  run : State :=
    let t := s.writeRun q R.roleKey 0 n vals roleKeyRule
    (List.range vals.length).foldl (fun t k =>
      if bit (s.reg R.roleKey 0 (n + k)) 0 ∧ !bit (t.reg R.roleKey 0 (n + k)) 0 then t.endKey (n + k) else t) t

/-- ROLE_KEY. -/
def execRoleKey (q : Req) (n : Nat) (v : Image) (s : State) : Result := .next (s.roleKeyWrite (q.entries n 1) n [v])

/-! Life cycle (R596, R597) -/

/-- The state that TARGET names, where Table SEC-5 lists it for the present state, and whether the role may make the change. -/
def lifeMove (now : LifeCycle) (target : Nat) (role : Role) : Option (LifeCycle × Bool) :=
  match now, target with
  | .maker, 1 => some (.install, role == .maker)
  | .install, 2 => some (.service, role == .installer)
  | .service, 1 => some (.install, role == .installer)
  | .maker, 3 | .install, 3 | .service, 3 => some (.retired, role == .maker || role == .installer)
  | _, _ => none

/-- Every tenant slice is STOPPED. -/
def State.tenantsStopped (s : State) : Bool := s.host.slices.all (fun e => e.1 == 0 || (e.2.st == .stopped && e.2.settle == none))

/-- What follows the OK response of an accepted change (R597 steps 3 and 4): the point of commitment, then a device reset of kind
LIFECYCLE. -/
def State.commitChange (s : State) (t : LifeCycle) (key : BitVec 768) : State :=
  (s.updMgmt (fun m => { m with
    lcPending := some (t, key)
    keyGen := if m.lifecycle = .maker ∧ t = .install then m.keyGen + 1 else m.keyGen })).deviceReset 6

/-- A LIFECYCLE_CHANGE write (R596, R597). -/
def State.lifecycleWrite (s : State) (q : Req) (body : List Byte) : State :=
  let r := R.lifecycleStart
  let n (i k : Nat) : Nat := natOfBytes ((body.drop i).take k)
  let key : BitVec 768 := BitVec.ofNat 768 (n 16 96)
  s.serve q r.obj r.sub (fun role s =>
    let now := s.mgmt.lifecycle
    let no (f : Fdp) : State := s.answer q r.obj r.sub f
    let move := lifeMove now (n 0 1) role
    if r.writable 0 role = 0 ∨ (move.map (·.2)) = some false then no .accessDenied
    else if s.lifeForbids role then no .lifecycleState
    else if r.bits < 8 * body.length then no .typeMismatch
    else if q.odd ∨ q.entry ≠ 0 ∨ q.count ≠ 0 ∨ body.length < 112 ∨ n 8 8 ≠ s.straps.deviceId.toNat ∨ n 1 7 ≠ 0 ∨ (key ≠ 0 ∧ !keyOk key) then no .outOfRange
    else match move with
    | none => no .outOfRange
    | some (t, _) =>
      match s.opBlocked 10 0 with
      | some (k, p) => s.answer q r.obj r.sub .operationConflict (conflictBody k p)
      | none =>
        if t ≠ .retired ∧ now ≠ .maker ∧ (!s.tenantsStopped ∨ s.twin.st = .adopting) then no .busy
        else match s.caddyWrite q false with
        | (s, false) => s.answer q r.obj r.sub .busy
        | (s, true) =>
          let s := s.auditWrite 2 (roleCode role) (pathCode q.path + 4 * q.session) (r.obj + 65536 * r.sub) 0
            (BitVec.ofNat 64 (now.code + at' 8 t.code)) false
          let s := if t = .retired then (s.haltTenants).haltStart 0 3 [] else s
          (s.answer q r.obj r.sub .ok).commitChange t key)
/-- LIFECYCLE_CHANGE. -/
def execLifecycleChange (q : Req) (body : List Byte) (s : State) : Result := .next (s.lifecycleWrite q body)

end Sys2Proof.Machine
end

