-- ==== Sys2Proof/Machine/Collectives.lean ====
section
/-! DEFINITION. Commands of collectives (chapter 15): arriving packets, members' segments, the timer, the operator's objects. -/

namespace Sys2Proof.Machine

/-- The oldest packet of a command staged at a unit is taken and judged (R451, R459, R475); `f` acts on it at its context and edge. -/
def State.collIn (s : State) (u cmd : Nat) (edges : State → Nat → List Nat) (f : State → Nat → Nat → Packet → State) : State :=
  match s.collArrival u cmd with
  | none => s
  | some (pid, p) =>
    match (s.collTake u pid).collJudge p.hdr (s.collOwn u pid) (edges s) with
    | (s, none) => s
    | (s, some edge) => f s (p.hdr.ctx.toNat % 4096) edge p

/-- A packet that carries an operation is admitted, for an existing segment (Table COL-6, R475). -/
def State.collInOp (s : State) (n edge : Nat) (p : Packet) (f : State → Nat → Bool → State) : State :=
  match s.collAdmit p.hdr edge with
  | (s, false) => s
  | (s, true) =>
    let j := p.hdr.offset.toNat % 512
    if (s.coll n).op.segs ≤ j then s.countDev 14 else f s j (p.hdr.offset.toNat / 512 % 2 == 1)

/-- COLL_UP (R461, R469): combined once per contributor and segment. -/
def execCollUp (u : ReduceUnit) (s : State) : Result :=
  .next (s.collIn u 0x40 State.collChildren (fun s n edge p => s.collInOp n edge p (fun s j data =>
    let c := s.coll n
    if c.upSeen edge j data then s.countDev 14
    else s.collCombine n edge j data (s.collElems n edge j data p.payload))))

/-- Edges towards the parent. -/
def State.collUpEdge (s : State) (n : Nat) : List Nat := (s.collParent n).toList

/-- COLL_DOWN (R463): forwarded to the children and written to the members' buffers; in pass 0 the agreed exponents. -/
def execCollDown (u : ReduceUnit) (s : State) : Result :=
  .next (s.collIn u 0x41 State.collUpEdge (fun s n edge p => s.collInOp n edge p (fun s j data =>
    let c := s.coll n
    if data then (if c.downD.contains j then s.countDev 14 else (s.collDeliver n j p.payload).collRises n)
    else if c.downX.any (fun x => x.1 = j) then s.countDev 14
    else (s.collExps n j (elemsOf 2 (ceilDiv (c.op.elems j) 16) p.payload)).collRises n)))

/-- COLL_SUMMARY (R463): forwarded, and the epoch commits. -/
def execCollSummary (u : ReduceUnit) (s : State) : Result :=
  .next (s.collIn u 0x42 State.collUpEdge (fun s n edge p =>
    match s.collAdmit p.hdr edge with
    | (s, false) => s
    | (s, true) =>
      let c := s.coll n
      let s := (s.collChildren n).foldl (fun s q => s.collSend n q 0x42 0 (c.op.ext c.attempt) p.payload) s
      let spec := natOfBytes (p.payload.take 36)
      s.collCommit n (spec % 2 ^ 32 != 0) spec))

/-- COLL_ABORT_RECEIVE (R474, R475, R477). -/
def execCollAbortReceive (u : ReduceUnit) (s : State) : Result :=
  .next (s.collIn u 0x43 State.collEdges (fun s n edge p =>
    let a := p.hdr.ext.toNat / 2 ^ 24
    let cause := p.hdr.ext.toNat % 16
    let c := s.coll n
    if c.st ≠ .active then s.collSkip n a cause (some edge)
    else if a = c.attempt then s.collAbort n cause 0x3F (some edge) false
    else (s.collAbort n 2 0x3F (some edge) true).collSkip n a cause (some edge)))

/-- The engine at the member's home that reads its buffer is free for the context's slice (Table ENG-1, R334); charged. -/
def State.segmentItem (s : State) (m : CMember) (f : State → State) : State :=
  match s.wq m.wq with
  | some w => if s.capped w.slice then s else f (s.otherItem w.home w.slice costService)
  | none => s

/-- COLL_SEGMENT_SEND (R462): a local member's next segment of a pass, once it may send it. -/
def execCollSegmentSend (n : CollNo) (m : MemberNo) (exps : Bool) (s : State) : Result :=
  .next (let c := s.coll n
    match c.members.find? (fun x => x.num = m ∧ !x.gone) with
    | none => s
    | some x =>
      if c.st ≠ .active then s
      else if exps then (if s.mayExp c x then s.segmentItem x (fun s => s.collSegment n x false) else s)
      else if s.mayData c x then s.segmentItem x (fun s => s.collSegment n x true) else s)

/-- COLL_TIMEOUT (R476). -/
def execCollTimeout (n : CollNo) (s : State) : Result :=
  .next (if (s.coll n).st ≠ .active then s
    else let s := s.otherItem (s.stationHome 6) (s.collSlice n) costTimer
    match (s.collEdges n).find? s.collPortDown with
    | some p => s.collAbort n 1 (if p = 48 then 0x3C else p) none true
    | none => s.collAbort n 2 0x3F none true)

/-- A COLL_ABORT write (R481). -/
def State.collAbortWrite (s : State) (q : Req) (v : Image) : State :=
  let n := fldN v 11 0
  s.dictWrite q R.collAbort 0 0 v (fun s => if s.collValid n then none else some .outOfRange)
    (fun s => (if (s.coll n).st = .active then s.collAbort n 7 0x3F none true else s, .ok))
/-- COLL_ABORT. -/
def execCollAbort (q : Req) (v : Image) (s : State) : Result := .next (s.collAbortWrite q v)

/-- A COLL_EPOCH write (R481). -/
def State.collEpochWrite (s : State) (q : Req) (v : Image) : State :=
  let n := fldN v 43 32
  s.dictWrite q R.collEpoch 0 0 v
    (fun s => if !s.collValid n then some .outOfRange else if (s.coll n).st = .active then some .busy else none)
    (fun s => (s.setColl n { st := .idle, cause := (s.coll n).cause, last := fldN v 23 0 }, .ok))
/-- COLL_EPOCH. -/
def execCollEpoch (q : Req) (v : Image) (s : State) : Result := .next (s.collEpochWrite q v)

/-- The rules of a COLL_STEEP entry (R482). -/
def collSteepRule (n : Nat) (was v : Image) : WriteRule :=
  let k := fldN v 44 28
  let cop := fldN v 62 60
  let ty := fldN v 59 57
  { chk := fun s =>
      if !s.collValid n ∨ !s.collRoot n ∨ k = 0 ∨ 65536 < k ∨ (3 ≤ cop ∧ 3 ≤ ty) then some .outOfRange
      else if bit v 63 then
        (if bit was 63 then some .busy else if (s.steepRun k).isNone then some .tableFull else none)
      else if (s.coll n).st = .active then some .busy else none
    eff := fun s =>
      if bit v 63 then
        let w := (s.setReg R.collSteep 0 n was).steepRun k
        ((s.setReg R.collSteep 0 n (setFld (s.reg R.collSteep 0 n) 27 11 (w.getD 0))).steepClear n false, some .ok)
      else (((s.setReg R.collSteep 0 n was).steepClear n false).setReg R.collSteep 0 n (s.reg R.collSteep 0 n), some .ok) }

/-- A COLL_STEEP write. -/
def State.collSteepWrite (s : State) (q : Req) (n : Nat) (v : Image) : State :=
  s.writeRun (q.entries n 1) R.collSteep 0 n [v] collSteepRule
/-- COLL_STEEP. -/
def execCollSteep (q : Req) (n : CollNo) (v : Image) (s : State) : Result := .next (s.collSteepWrite q n v)

/-- A COLL_STEEP_CLEAR write (R483). -/
def State.collSteepClearWrite (s : State) (q : Req) (v : Image) : State :=
  let n := fldN v 11 0
  s.dictWrite q R.collSteepClear 0 0 v
    (fun s => if !bit (s.reg R.collSteep 0 n) 63 then some .outOfRange else if (s.coll n).st = .active then some .busy else none)
    (fun s => (s.steepClear n (bit v 31), .ok))
/-- COLL_STEEP_CLEAR. -/
def execCollSteepClear (q : Req) (v : Image) (s : State) : Result := .next (s.collSteepClearWrite q v)

/-- The rules of a COLL_CTX entry (R474, R480). -/
def collCtxRule (n : Nat) (was v : Image) : WriteRule :=
  let parent := fldN v 95 90
  let pport := if parent = 60 then 48 else parent
  let key := fldN v 111 96
  { chk := fun s =>
      if (48 ≤ parent ∧ parent ≤ 59) ∨ parent = 61 ∨ parent = 62 ∨ (parent ≠ 0x3F ∧ bit v pport)
          ∨ (bit v 126 != (parent == 0x3F)) ∨ 64 < fldN v 87 81 ∨ fldN v 80 73 = 0
          ∨ (s.serviceMode ∧ fldN v 87 81 ≠ 0) ∨ (bit v 127 ∧ fldN v 87 81 = 0 ∧ fldN v 48 0 = 0)
          ∨ key = 0 ∨ key = 0xFFFF ∨ !s.holdsKey (fldN v 119 112) key then some .outOfRange
      else if (s.coll n).st = .active then some .busy else none
    eff := fun s => (if bit was 127 && bit v 127 then s else s.setColl n {}, some .ok) }

end Sys2Proof.Machine
end

