-- ==== Sys2Proof/Machine/Counting.lean ====
section
/-! DEFINITION. Commands of counting and sampling (chapter 22), and the starts and stops of timed windows (R228). -/

namespace Sys2Proof.Machine

/-! Snapshots (R638) -/

/-- A SNAPSHOT write: captured at once where its time has come. -/
def State.snapshotWrite (s : State) (q : Req) (v : Image) : State :=
  let at_ := fldN v 63 0 / 8
  let late (s : State) : Bool := decide (at_ ≤ s.tick)
  s.dictWrite q R.snapshot 0 0 v
    (fun s => if s.snapshotBad v then some .outOfRange else if 2 ≤ s.counting.snaps.length then some .busy else none)
    (fun s =>
      let x : Snapshot := { at_ := at_, offset := fldN v 95 64, first := fldN v 127 96, count := fldN v 159 128, late := late s }
      (s.updCounting (fun c => { c with snaps := c.snaps ++ [if late s then s.capture x else x] }),
        if late s then .lateStart else .ok))
/-- SNAPSHOT. -/
def execSnapshot (q : Req) (v : Image) (s : State) : Result := .next (s.snapshotWrite q v)

/-- SNAPSHOT_CAPTURE: snapshots whose time has come are captured, and records written as far as they can be. -/
def execSnapshotCapture (s : State) : Result :=
  let s := s.captureDue
  .next (s.counting.snaps.foldl State.writeSnapshot s)

/-! Counter windows (R639, R640) -/

/-- A COUNTER_WINDOW write. -/
def State.ctrWindowWrite (s : State) (q : Req) (k : Nat) (v : Image) : State :=
  let start := fldN v 63 0
  let stop := fldN v 127 64
  s.dictWrite q R.counterWindow 0 k v
    (fun s =>
      if s.windowBad v then some .outOfRange
      else if (submitWindow start stop s.tick).isNone then some .windowInverted
      else if s.storeFree < fldN v 172 160 then some .tableFull
      else if (s.ctrWindow k).win.st ≠ .free then some .busy
      else none)
    (fun s =>
      match submitWindow start stop s.tick with
      | none => (s, .windowInverted)
      | some (f, w) =>
        let x : CtrWindow := { win := w, first := fldN v 159 128, count := fldN v 172 160, offset := fldN v 223 192
                               late := f == .lateStart }
        (s.setCtrWindow k (match f with
          | .emptyWindow => s.windowEmpty x
          | .lateStart => s.windowRuns x
          | _ => x), f))
/-- COUNTER_WINDOW. -/
def execCounterWindow (q : Req) (k : Slot16) (v : Image) (s : State) : Result := .next (s.ctrWindowWrite q k v)

/-- A WINDOW_STOP write (R230): a pending window becomes empty, a running one may end at once. -/
def State.ctrWindowStop (s : State) (q : Req) (k : Nat) (v : Image) : State :=
  s.dictWrite q R.windowStop 0 k v (fun _ => none)
    (fun s =>
      let x := s.ctrWindow k
      let (f, w) := stopWindow x.win (fldN v 63 0) s.tick
      (if x.win.st = .writing ∨ w.st ≠ .free then s.setCtrWindow k { x with win := w }
        else if x.win.st = .pending then s.setCtrWindow k (s.windowEmpty x)
        else if x.win.st = .running then s.setCtrWindow k (s.windowEnds x)
        else s, f))
/-- WINDOW_STOP. -/
def execWindowStop (q : Req) (k : Slot16) (v : Image) (s : State) : Result := .next (s.ctrWindowStop q k v)

/-- WINDOW_RECORD_WRITE. -/
def execWindowRecordWrite (k : Slot16) (s : State) : Result := .next (s.writeWindow k)

/-! Starts and stops of timed windows (R228) -/

/-- A pending window whose start tick has come. -/
def Window.due (w : Window) (n : Nat) : Bool := w.st == .pending && decide (w.start ≤ n)
/-- A running window whose stop tick has come. -/
def Window.ended (w : Window) (n : Nat) : Bool := w.st == .running && (match w.stop with | some e => decide (e ≤ n) | none => false)

/-- TIMED_WINDOW_START. -/
def execTimedWindowStart (w : TimedWin) (s : State) : Result :=
  .next (match w with
    | .override p k =>
      let o := nthD {} (s.output p).gate.overrides k
      if o.win.due s.tick then
        (s.updGate p (fun g => { g with overrides := setNth g.overrides k { o with win := { o.win with st := .running } } })).applyGate p
      else s
    | .counter k =>
      let x := s.ctrWindow k
      if x.win.due s.tick then s.setCtrWindow k (s.windowRuns { x with win := { x.win with st := .running } }) else s
    | .sample =>
      if s.counting.sampling.win.due s.tick then s.updSampling (fun x => { x with win := { x.win with st := .running } }) else s)

/-- TIMED_WINDOW_STOP. -/
def execTimedWindowStop (w : TimedWin) (s : State) : Result :=
  .next (match w with
    | .override p k =>
      let o := nthD {} (s.output p).gate.overrides k
      if o.win.ended s.tick then
        (s.updGate p (fun g => { g with overrides := setNth g.overrides k { o with win := {} } })).applyGate p
      else s
    | .counter k =>
      let x := s.ctrWindow k
      if x.win.ended s.tick then s.setCtrWindow k (s.windowEnds x) else s
    | .sample => if s.counting.sampling.win.ended s.tick then s.updSampling (fun x => { x with win := {} }) else s)

/-! Sampling (R642–R644) -/

/-- A SAMPLE_CTL write. -/
def State.sampleWrite (s : State) (q : Req) (v : Image) : State :=
  let start := fldN v 63 0
  let stop := fldN v 127 64
  s.dictWrite q R.sampleCtl 0 0 v
    (fun s =>
      if s.sampleBad v then some .outOfRange
      else if (submitWindow start stop s.tick).isNone then some .windowInverted
      else if s.counting.sampling.win.st ≠ .free then some .busy
      else none)
    (fun s =>
      match submitWindow start stop s.tick with
      | none => (s, .windowInverted)
      | some (f, w) => (s.updSampling (fun x => { x with win := w, countdown := fldN v 143 128 + 1 }), f))
/-- SAMPLE_CTL. -/
def execSampleCtl (q : Req) (v : Image) (s : State) : Result := .next (s.sampleWrite q v)

/-- A SAMPLE_STOP write (R230). -/
def State.sampleStopWrite (s : State) (q : Req) (v : Image) : State :=
  s.dictWrite q R.sampleStop 0 0 v (fun _ => none)
    (fun s =>
      let (f, w) := stopWindow s.counting.sampling.win (fldN v 63 0) s.tick
      (s.updSampling (fun x => { x with win := w }), f))
/-- SAMPLE_STOP. -/
def execSampleStop (q : Req) (v : Image) (s : State) : Result := .next (s.sampleStopWrite q v)

/-- SAMPLE_RECORD. -/
def execSampleRecord (s : State) : Result := .next s.recordSample

/-- SAMPLE_CONSUMER_READ. -/
def execSampleConsumerRead (s : State) : Result := .next ((s.drainSamples 1024).readConsumer)

/-! A slice's own counters (R641) -/

/-- SLICE_COUNTER_RECORD: PERIOD has passed. -/
def execSliceCounterRecord (sl : SliceNo) (s : State) : Result :=
  let st := (s.slice sl).st
  let on := bit (s.reg R.sliceCtr sl) 63 && (st == .starting || st == .running || st == .recovering || st == .test)
  .next (match s.inboundFunc sl with
    | some f => if on then s.sliceRecord sl f else s
    | none => s)

end Sys2Proof.Machine
end

