-- ==== Sys2Proof/Machine/Faults.lean ====
section
/-! DEFINITION. Commands of fault collection (chapter 18), and the receipt of a discard notice (R188). -/

namespace Sys2Proof.Machine

/-- FAULT_EVENT (R538–R541). -/
def execFaultEvent (srcs : List FaultNo) (s : State) : Result := .next (s.faultEvents srcs)

/-- SQUALL_WINDOW_EXPIRY (R539). -/
def execSquallWindowExpiry (n : FaultNo) (s : State) : Result := .next (s.updSrc n (fun x => { x with window := none }))

/-- WIRE_FAULT (R533): an event of the source with WIRE, and one of source WIRE; of a forced wire both are forced (R551). -/
def execWireFault (n : FaultNo) (s : State) : Result :=
  let forced := s.faults.forcedWires.contains n
  let s' := s.updFaults (fun f => { f with forcedWires := f.forcedWires.erase n })
  let s' := (s'.faultEvent n forced true []).1
  .next (if !faultValid n then s
    else if forced then s'.updFaults (fun f => { f with forced := f.forced ++ [0x538] })
    else s'.raise 0x538)

/-- GRACE_EXPIRY (R538). -/
def execGraceExpiry (n : FaultNo) (s : State) : Result := .next (s.decision (fun s => s.graceEnds n))

/-- LULL_EXPIRY (R542). -/
def execLullExpiry (n : FaultNo) (s : State) : Result :=
  .next (if (s.src n).st = .held then s.decision (fun s => s.closeSrc n 5) else s)

/-! Dictionary writes (R540, R543, R551, R552) -/

/-- A FAULT_ACK write: an ACTIVE source's grace timer stops (R540). -/
def State.faultAckWrite (s : State) (q : Req) (v : Image) : State :=
  let n := fldN v 10 0
  s.dictWrite q R.faultAck 0 0 v (fun _ => if faultValid n then none else some .outOfRange)
    (fun s => (if (s.src n).st = .active then
        s.decision (fun s => ((s.updSrc n (fun x => { x with st := .held })).srcRecord n 4).1)
      else s, .ok))
/-- FAULT_ACK. -/
def execFaultAck (q : Req) (v : Image) (s : State) : Result := .next (s.faultAckWrite q v)

/-- A FAULT_CLEAR write (R543). -/
def State.faultClearWrite (s : State) (q : Req) (v : Image) : State :=
  let n := fldN v 10 0
  s.dictWrite q R.faultClear 0 0 v
    (fun s => if !faultValid n then some .outOfRange
      else if (s.src n).st = .active ∨ (s.src n).st = .latched then some .busy else none)
    (fun s => (if (s.src n).st = .held then s.decision (fun s => s.closeSrc n 6) else s, .ok))
/-- FAULT_CLEAR. -/
def execFaultClear (q : Req) (v : Image) (s : State) : Result := .next (s.faultClearWrite q v)

/-- A FAULT_FORCE write (R551, R552, Table FLT-13). -/
def State.faultForceWrite (s : State) (q : Req) (v : Image) : State :=
  let n := fldN v 10 0
  let mode := fldN v 31 30
  let count := fldN v 29 22
  s.dictRunR q R.faultForce 0 0 v
    (fun role s =>
      let r := (s.reg R.faultReaction 0 n).extractLsb' 0 64
      role != .installer && (mode == 3 || decide (3 ≤ rxStart r ∨ 3 ≤ rxLimit r ∨ 3 ≤ rxSquall r)))
    (fun _ => if mode = 0 ∨ (mode = 1 ∧ count = 0) ∨ !faultValid n then some .outOfRange else none)
    (fun s => (s.updFaults (fun f =>
      if mode = 1 then { f with forced := f.forced ++ List.replicate count n }
      else if mode = 2 then { f with forcedWires := f.forcedWires ++ [n] }
      else { f with alter := true }), some .ok))
    (fun s => mode == 3 && s.mgmt.lifecycle != .install)
/-- FORCE_EVENTS (MODE 1). -/
def execForceEvents (q : Req) (v : Image) (s : State) : Result := .next (s.faultForceWrite q (setFld v 31 30 1))
/-- FORCE_WIRE (MODE 2). -/
def execForceWire (q : Req) (v : Image) (s : State) : Result := .next (s.faultForceWrite q (setFld v 31 30 2))
/-- FORCE_DISAGREE (MODE 3). -/
def execForceDisagree (q : Req) (v : Image) (s : State) : Result := .next (s.faultForceWrite q (setFld v 31 30 3))

/-! Disagreement (R535, R536, R544) -/

/-- DECISION_DISAGREE: the words of a decision differ. -/
def execDecisionDisagree (s : State) : Result :=
  .next ((s.updFaults (fun f => { f with agree := false, alter := false })).failSilent (if s.faults.alter then 5 else 1))

/-- A collector has withheld a word: A, or B. -/
def State.withheld (s : State) (b : Bool) : State :=
  (s.updFaults (fun f => if b then { f with agree := false, bOk := false } else { f with agree := false, aOk := false })).failSilent
    (if b then 3 else 2)

/-- DECISION_WORD_TIMEOUT: the word of one collector has not arrived. -/
def execDecisionWordTimeout (b : Bool) (s : State) : Result := .next (s.withheld b)
/-- COLLECTOR_ECC_ERROR: a collector's own state is corrupt. -/
def execCollectorEccError (b : Bool) (s : State) : Result := .next (s.withheld b)

/-- FAIL_SILENT_ADOPT_PULSE (R544). -/
def execFailSilentAdoptPulse (s : State) : Result := .next (if s.faults.silent then s.emit (.alert .adopt) else s)

/-! The controller's watch (R545) -/

/-- MC_HEARTBEAT_WRITE. -/
def execMcHeartbeatWrite (s : State) : Result :=
  .next ((s.updFaults (fun f => { f with mcMissed := 0 })).updMgmt (fun m => { m with stopped := false }))

/-- MC_HEARTBEAT_MISS: the controller counts as stopped; MC_HEARTBEAT is raised at the MC_HB_MISS-th in a row. -/
def execMcHeartbeatMiss (s : State) : Result :=
  .next (if !s.faults.mcArmed then s
    else
      let n := s.faults.mcMissed + 1
      let s := (s.updFaults (fun f => { f with mcMissed := n })).updMgmt (fun m => { m with stopped := true })
      if n = fldN (s.reg R.faultCtl) 23 20 then s.raise 0x532 else s)

/-! Discard notices (R188) -/

/-- The COLLECTIVE entries of the members of an epoch whose packet was discarded complete with a code (R188, R454); the epoch goes
on without them. -/
def State.collDiscarded (s : State) (h : Header) (c : Comp) : State :=
  let n := h.ctx.toNat % 4096
  let k := s.coll n
  if k.st = .active ∧ h.msgId.toNat = (k.last + 1) % 2 ^ 24 ∧ h.ext.toNat / 2 ^ 24 = k.attempt then
    ((k.members.filter (fun m => !m.gone)).foldl (fun s m =>
      match s.recvEntry m.wq m.pos with
      | some (_, e) => (s.dropItemOf m.wq m.pos).finish m.wq m.pos c 0 (entryWord e.bytes 48 4)
      | none => s) s).updColl n (fun k => { k with members := k.members.map (fun m => { m with gone := true }) })
  else s

/-- An operation whose packet was discarded completes with a code, if it is still incomplete: the message, remote-memory request
or collective that the header names. -/
def State.discarded (s : State) (h : Header) (c : Comp) : State :=
  if h.cmd.toNat / 16 = 4 then s.collDiscarded h c
  else
  let pr : Pair := { station := h.srcStation.toNat, node := h.dstNode.toNat, remote := h.dstStation.toNat }
  let num := h.msgId.toNat
  let cls := h.cls.toNat
  match s.peer pr with
  | none => s
  | some p =>
    match h.cmd.toNat with
    | 0x10 | 0x11 =>
      let ch := p.send cls
      match ch.unacked.find? (fun u => u.num = num ∧ !u.ended) with
      -- it stays to be acknowledged, so that a break at its number is known as such (R393)
      | some u => (s.putPeer (p.withSend cls { ch with unacked := ch.unacked.map (fun x =>
          if x.num = num then { x with ended := true } else x) })).failSent pr [(u, c)]
      | none => s
    | 0x12 =>
      match p.rdvR.find? (fun r => r.num = num) with
      | some r => s.failRdvR p.slice pr r c 0 c
      | none => s
    | 0x13 =>
      match p.rdvS.find? (fun r => r.num = num) with
      | some r => s.failRdvS p.slice pr r c 0 c
      | none => s
    | 0x20 | 0x21 | 0x22 | 0x23 =>
      match p.msgs.find? (fun m => m.num = num) with
      | some m => (s.endMsg pr m c).resumeOps pr
      | none => s
    | _ => s

/-- DISCARD_NOTICE_RECEIVE (R188). -/
def execDiscardNoticeReceive (s : State) : Result :=
  .next (if !s.mcRuns then s
    else match s.arrival mcStop 0x08 with
    | none => s
    | some a =>
      let s := s.takeArrival a
      let h := Header.ofBits (BitVec.ofNat 256 (natOfBytes (a.pkt.payload.take 32)))
      let reason := fldN a.pkt.hdr.ext 7 0
      if 1 ≤ reason ∧ reason ≤ 4 then s.discarded h .unreachable
      else if reason = 5 then s.discarded h .partitionReject
      else s)

end Sys2Proof.Machine
end

