-- ==== Sys2Proof/Machine/Messages.lean ====
section
/-! DEFINITION. Commands of message matching (chapter 13): arriving packets, timers, the OVERFLOW and RANK services. -/

namespace Sys2Proof.Machine

/-- Ring stop of a match unit (R397). -/
def matchStop (u : Nat) : Nat := 8 * u + 5

/-- The oldest packet of a command at a match unit is taken up; without one nothing happens. -/
def State.msgArrived (s : State) (u cmd : Nat) (f : State → Arrived → Header → State) : State :=
  match s.arrival (matchStop u) cmd with
  | none => s
  | some a => if engineCmd cmd && s.itemWaits a then s else f s a a.pkt.hdr

/-- A matched EAGER or RTS has room on chip to give back (R403). -/
def State.unpostOne (s : State) (n sl : Nat) (r : Posted) : State :=
  let c := s.mctx n
  (s.setMctx n { c with posted := c.posted.erase r }).refill n sl 64

/-- A message that its channel accepts is taken into the oldest receive it matches, or stored as unexpected (R392, R400, R404,
R406).  `body` is the data of an EAGER. -/
def State.takeMsg (s : State) (a : Arrived) (h : Header) (sl n : Nat) (body : Option (List Byte)) : State :=
  let (rank, total, solicit) := prologueOf a.pkt.payload
  let c := s.mctx n
  -- behind a walk of the context's overflow list it waits in a slot, with a bin (R404)
  match (if c.walking.isSome then none else c.posted.find? (fun r => r.fits h.ext rank)) with
  | some r =>
    match body, s.recvEntry r.wq r.pos with
    | some bytes, some (_, e) =>
      let len := min total (entryLen e.bytes)
      match s.recvSpans .inbound true r.wq r.pos 0 len with
      | (s, sp, err) =>
        let go (f : Option TFault) : State :=
          let s := ((s.takeArrival a).tookMsg h).unpostOne n sl r
          let s := s.writeSpans { key := opKey r.wq r.pos } sp bytes
          let s := ((s.countSlice sl 8).countSlice sl 9 (spansLen sp)).countSlice sl 16
          s.recvDone r.wq r.pos h rank total (spansLen sp) solicit f
        match err with
        | none => go none
        | some (.fault f) => go (some f)
        | some x => s.holdArrival a x
    | _, _ =>
      ((((s.takeItem a costInbound).tookMsg h).unpostOne n sl r).countSlice sl 16).startRdv sl h rank total solicit r.wq r.pos
  | none =>
    if s.itemWaits a then s
    else match s.storeUnex n sl h rank total solicit body c.walking.isSome with
    | (s, .wait x) => s.holdArrival a x
    | (s, .refused) =>
      match s.peer (pairOf h) with
      | some p => ((s.takeItem a costInbound).countSlice sl 24).breakChan sl p h (p.recv h.cls.toNat) 0x22
      | none => s.takeArrival a
    | (s, .yes) =>
      let s := (s.takeItem a costInbound).tookMsg h
      if c.overflow.isEmpty ∨ c.walking.isSome then s else s.setMctx n { s.mctx n with walking := some (s.remote.nextUnex - 1) }

/-- An EAGER, RTS or CHANNEL_SYNC arrives (R392, Table MSG-3). -/
def State.messageIn (s : State) (u cmd : Nat) : State :=
  s.msgArrived u cmd (fun s a h =>
    match s.stationSlice h.dstStation.toNat with
    | none =>
      let s := s.takeArrival a
      if cmd = 0x16 then s else s.msgAck 0 h (pred24 h.msgId.toNat) 0x22
    | some sl =>
      match s.openPeer sl (pairOf h) with
      | (s, none) => (s.takeArrival a).countDev 21
      | (s, some p) =>
        match s.channel sl p h with
        | (s', .done) => s'.takeArrival a
        | (_, .take) =>
          match (s.takeArrival a).msgRefusal sl h with
          | .error c => ((s.takeArrival a).countSlice sl 24).breakChan sl p h (p.recv h.cls.toNat) c
          | .ok n => s.takeMsg a h sl n (if cmd = 0x10 then some (a.pkt.payload.drop 16) else none))

/-- EAGER (R392). -/
def execEager (u : MatchUnit) (s : State) : Result := .next (s.messageIn u 0x10)
/-- RTS (R392). -/
def execRts (u : MatchUnit) (s : State) : Result := .next (s.messageIn u 0x11)
/-- CHANNEL_SYNC (R392). -/
def execChannelSync (u : MatchUnit) (s : State) : Result := .next (s.messageIn u 0x16)

/-- More packets of a rendezvous' grants follow in a SEGMENT item. -/
def State.moreData (s : State) (p : Pair) (r : RdvSend) : State :=
  let s := s.updRdvS p (fun l => l.map (fun x => if x.wq = r.wq ∧ x.pos = r.pos then r else x))
  if r.grants.isEmpty then s else s.addSegment r.wq r.pos

/-- CTS (R407, R408): the sender reads and sends what is granted. Under a key that the slice does not hold it is refused (R30,
R194; DEDUCED, log 55: the rendezvous fails). -/
def execCts (u : MatchUnit) (s : State) : Result :=
  .next (s.msgArrived u 0x12 (fun s a h =>
    let s := s.takeItem a costInbound
    match (s.peer (pairOf h)).bind (fun p => (p.rdvS.find? (fun r => r.num = h.msgId.toNat)).map (fun r => (p, r))) with
    | none => s.countDev 25
    | some (p, r) =>
      if !s.holdsKey p.slice h.pkey.toNat then s.failRdvS p.slice p.pair r .partitionReject 0 .partitionReject
      else match s.sendData p.slice p.pair { r with grants := r.grants ++ [(h.offset.toNat, h.ext.toNat)] } 8 with
      | (s, r, some (.fault f)) => s.failRdvS p.slice p.pair r f.local f.detail f.remote
      | (s, r, _) => s.moreData p.pair r))

/-- DATA (R407, R408): placed at its offset in a granted chunk; a filled chunk draws the next CTS, the last one DONE. Under a
key that the slice does not hold it is refused (R30; DEDUCED, log 55: the rendezvous fails). -/
def execData (u : MatchUnit) (s : State) : Result :=
  .next (s.msgArrived u 0x13 (fun s a h =>
    let off := h.offset.toNat
    let len := a.pkt.payload.length
    let hit := (s.peer (pairOf h)).bind (fun p => (p.rdvR.find? (fun r => r.num = h.msgId.toNat)).bind (fun r =>
      (r.chunks.find? (fun k => decide (k.first ≤ off ∧ off + len ≤ k.first + k.len) && !r.offsets.contains off)).map (fun k => (p, r, k))))
    match hit with
    | none => (s.takeArrival a).countDev 25
    | some (p, r, k) =>
      if !s.holdsKey p.slice h.pkey.toNat then
        (s.takeArrival a).failRdvR p.slice p.pair r .partitionReject 0 .partitionReject
      else match s.recvSpans .inbound true r.wq r.pos off len with
      | (s, _, some (.fault f)) => (s.takeArrival a).failRdvR p.slice p.pair r f.local f.detail f.remote
      | (s, _, some x) => s.holdArrival a x
      | (s, sp, none) =>
        let s := (s.takeArrival a).writeSpans { key := opKey r.wq r.pos } sp a.pkt.payload
        let s := (s.countSlice p.slice 8).countSlice p.slice 9 len
        let full := k.got + len = k.len
        let chunks := if full then r.chunks.filter (fun c => c.first ≠ k.first)
          else r.chunks.map (fun c => if c.first = k.first then { c with got := c.got + len } else c)
        let r' := { r with chunks := chunks, offsets := r.offsets ++ [off] }
        if chunks.isEmpty ∧ r.want ≤ r.granted then
          let s := s.updRdvR p.pair (·.erase r)
          (s.msgBack p.slice r.hdr 0x14 r.num 0 r.want).recvDone r.wq r.pos r.hdr r.rank r.total r.want r.solicit none
        else
          let (s, r') := if full then s.grantChunks p.slice r' s.rdvWindow else (s, r')
          s.updRdvR p.pair (fun l => l.map (fun x => if x = r then r' else x))))

/-- DONE (R407, R408); refused under a key that the slice does not hold (R30). -/
def execDone (u : MatchUnit) (s : State) : Result :=
  .next (s.msgArrived u 0x14 (fun s a h =>
    let s := s.takeItem a costInbound
    match (s.peer (pairOf h)).bind (fun p => (p.rdvS.find? (fun r => r.num = h.msgId.toNat)).map (fun r => (p, r))) with
    | none => s.countDev 25
    | some (p, r) =>
      let s := (s.updRdvS p.pair (·.erase r)).dropItemOf r.wq r.pos
      if s.holdsKey p.slice h.pkey.toNat then s.finish r.wq r.pos .ok h.ext.toNat
      else s.finish r.wq r.pos .partitionReject 0))

/-- MSG_ACK (R393). Under a key that the slice does not hold it is refused (R30; DEDUCED, log 55: the message it names last
completes with PARTITION_REJECT). -/
def execMsgAck (u : MatchUnit) (s : State) : Result :=
  .next (s.msgArrived u 0x15 (fun s a h =>
    let cls := h.ext.toNat / 256 % 8
    let s := s.takeItem a costService
    let cause := h.ext.toNat % 256
    let held : Bool := match s.peer (pairOf h) with
      | some p => s.holdsKey p.slice h.pkey.toNat
      | none => true
    if cls ≠ 2 ∧ cls ≠ 3 then s
    else if held then s.ackSent (pairOf h) cls h.msgId.toNat cause
    else s.ackSent (pairOf h) cls (if cause = 0 then pred24 h.msgId.toNat else h.msgId.toNat) 0x30))

/-- RDV_ABORT (R408): the own entry completes with the code it carries, or with PARTITION_REJECT where it comes under a key that
the slice does not hold (R30). -/
def execRdvAbort (u : MatchUnit) (s : State) : Result :=
  .next (s.msgArrived u 0x17 (fun s a h =>
    let s := s.takeItem a costInbound
    match s.peer (pairOf h) with
    | none => s.countDev 25
    | some p =>
      let c := if s.holdsKey p.slice h.pkey.toNat then compOf (h.ext.toNat % 256) else .partitionReject
      match p.rdvS.find? (fun r => r.num = h.msgId.toNat), p.rdvR.find? (fun r => r.num = h.msgId.toNat) with
      | some r, _ => ((s.updRdvS p.pair (·.erase r)).dropItemOf r.wq r.pos).finish r.wq r.pos c 0
      | none, some r => (s.updRdvR p.pair (·.erase r)).endRdvR r c 0
      | none, none => s.countDev 25))

/-- TC2 or TC3. -/
def chanClass (tc3 : Bool) : Nat := if tc3 then 3 else 2

/-- ACK_DELAY_EXPIRY (R392): the owed acknowledgement goes out, the newest number for all. -/
def execAckDelayExpiry (p : Pair) (tc3 : Bool) (s : State) : Result :=
  .next (match s.peer p with
    | none => s
    | some x =>
      let ch := x.recv (chanClass tc3)
      match ch.owed with
      | none => s
      | some (num, h) =>
        ((s.putPeer (x.withRecv (chanClass tc3) { ch with owed := none })).stationItem p.station costTimer).msgAck x.slice h num 0)

/-- ACK_TIMEOUT (R394). -/
def execAckTimeout (p : Pair) (tc3 : Bool) (s : State) : Result :=
  .next (match s.peer p with
    | none => s
    | some x =>
      if (x.send (chanClass tc3)).unacked.isEmpty then s
      else (s.stationItem p.station costTimer).ackTimeout p (chanClass tc3))

/-- RDV_TIMEOUT (Table MSG-6): no DONE after acceptance at the sender, a chunk unfilled at the receiver. -/
def execRdvTimeout (p : Pair) (num : MsgNo) (sender : Bool) (s : State) : Result :=
  .next (match s.peer p with
    | none => s
    | some x =>
      if sender then
        match x.rdvS.find? (fun r => r.num = num ∧ r.accepted) with
        | some r => (s.stationItem p.station costTimer).failRdvS x.slice p r .transportTimeout 0 .transportTimeout
        | none => s
      else match x.rdvR.find? (fun r => r.num = num ∧ !r.chunks.isEmpty) with
        | some r => (s.stationItem p.station costTimer).failRdvR x.slice p r .transportTimeout 0 .transportTimeout
        | none => s)

/-- A stored message is refused after all: its channel breaks at its number, and what of the channel waits behind it is gone (R405,
R392). -/
def State.refuseStored (s : State) (n sl : Nat) (u : Unexpected) : State :=
  let same (v : Unexpected) : Bool := v.waiting && pairOf v.hdr == pairOf u.hdr && v.hdr.cls == u.hdr.cls
  let s := s.dropUnex n u.id
  let s := (s.setMctx n { s.mctx n with unex := (s.mctx n).unex.filter (fun v => !same v) }).endWalk n
  match s.peer (pairOf u.hdr) with
  | some p => (s.countSlice sl 24).breakChan sl p u.hdr { p.recv u.hdr.cls.toNat with expect := u.hdr.msgId.toNat } 0x22
  | none => s

/-- Walk the records of an overflow list for an unexpected message (R404, R405). -/
def State.walkRecords (s : State) (n sl : Nat) (u : Unexpected) : List (Nat × Posted) → State
  | [] => s.endWalk n
  | (k, r) :: rest =>
    match s.readRecord sl k with
    | (s, none) =>
      if r.fits u.hdr.ext u.rank then
        match s.giveUnex n sl u r.wq r.pos with
        | (s, some _) => s
        | (s, none) =>
          let s := (s.freeRec sl k).1
          let c := s.mctx n
          (((s.setMctx n { c with overflow := c.overflow.filter (fun x => x ≠ (k, r)) }).endWalk n).refill n sl 64).countSlice sl 16
      else s.walkRecords n sl u rest
    | (s, some (.fault _)) | (s, some .noFunc) => s.refuseStored n sl u
    | (s, _) => s

/-- The message for which the OVERFLOW service walks: a receive on chip comes first, for one that waited behind another walk. -/
def State.walkFor (s : State) (n sl : Nat) (u : Unexpected) : State :=
  let c := s.mctx n
  match c.posted.find? (fun r => r.fits u.hdr.ext u.rank) with
  | some r =>
    match s.giveUnex n sl u r.wq r.pos with
    | (s, some _) => s
    | (s, none) => ((s.endWalk n).unpostOne n sl r).countSlice sl 16
  | none => (s.walkRecords n sl u c.overflow).countSlice sl 18

/-- OVERFLOW_WALK (R403, R404): a step of the OVERFLOW service. -/
def execOverflowWalk (n : MctxNo) (s : State) : Result :=
  .next (let c := s.mctx n
    let x := mctxStation (s.reg R.matchCtx 0 n)
    match c.walking, s.stationSlice x with
    | some id, some sl =>
      match c.unex.find? (fun u => u.id = id) with
      | none => s.endWalk n
      | some u => if u.taken.isSome then s.endWalk n else (s.stationItem x costService).walkFor n sl u
    | none, some sl => s.refill n sl 64
    | _, none => s)

/-- Entries parked on a rank's entry. -/
def State.rankWaiters (s : State) (sl job rank : Nat) : List (Nat × Nat) :=
  (s.host.engines.items.filter (fun i => i.slice = sl ∧ i.place = .parked (.rank job rank))).map (fun i => i.src.entryOf)

/-- RANK_LOAD (R411, R412): the RANK service reads a rank-table entry for the items that miss it. -/
def execRankLoad (sl : SliceNo) (job rank : Nat) (s : State) : Result :=
  .next (match s.rankWaiters sl job rank, s.jobEntry sl job with
    | (n, _) :: _, some j =>
      if s.host.gathers.any (fun g => g.for_ = .rank sl job rank) then s
      else match s.wq n with
      | none => s
      | some w =>
        let s := s.otherItem w.home sl costService
        let a : Access := { slice := sl, ia := fldN j 47 0 + 4 * rank, kind := .descriptor, priv := true, wq := n, func := w.func }
        match s.xlateSpan .inbound a 2 4 with
        | (s, sp, none) => s.gather (.rank sl job rank) sp
        | (s, _, some (.fault f)) =>
          (s.rankWaiters sl job rank).foldl (fun s e => s.finish e.1 e.2 f.local 0 f.detail) s
        | (s, _, some _) => s
    | _, _ => s)

/-- A RANK_INVAL write in the dictionary (R412, Table MSG-10): covered entries go, and what is being loaded of them is to be read
again. -/
def State.rankInvalWrite (s : State) (q : Req) (sl : Nat) (v : Image) : State :=
  s.dictWrite q R.rankInval sl 0 v (fun _ => none) (fun s =>
    let hit (job rank : Nat) : Bool := job == fldN v 55 32 && (!bit v 63 || rank == fldN v 31 0)
    let loads (g : Gather) : Bool := match g.for_ with | .rank t job rank => t == sl && hit job rank | _ => false
    ((s.updRemote (fun r => { r with ranks := r.ranks.filter (fun x => !(x.1 == sl && hit x.2.1 x.2.2.1)) })).updHost (fun h =>
      { h with gathers := h.gathers.filter (fun g => !loads g) }), .ok))

/-- RANK_INVAL (R412). -/
def execRankInval (q : Req) (sl : SliceNo) (v : Image) (s : State) : Result := .next (s.rankInvalWrite q sl v)

end Sys2Proof.Machine
end

