-- ==== Sys2Proof/Machine/Ring.lean ====
section
/-! DEFINITION. Meanings of the ring network's and the crossings' commands (chapter 8) that touch no queue: requests, returns,
re-injection, reservations, stalls. -/

namespace Sys2Proof.Machine

/-- RING_SEND_REQUEST (R238, R243, R681): an inner-port stop sends towards the blocks, any other stop towards its inner port
or, a unit of another KIND, to the stop it names. -/
def execRingSendRequest (st : Stop) (a : RingAsk) (s : State) : Result :=
  .next (match a with
    | .cells cls => match innerOf st with
      | some j => if cls = 1 && s.copyHead j then s.collLand j else s.deliverCells j cls
      | none => s.injectCells st cls
    | .unit dst kind units slice addr data owner tag gen status =>
      s.ringSend { src := st, dst := dst, kind := kind, units := units, slice := slice, addr := addr, data := data
                   tag := if kind = kindResponse then tag else 0, gen := if kind = kindResponse then gen else 0
                   status := if kind = kindResponse then status else 0 } owner)

/-- RING_PACKET_RETURN (R241): the oldest refused packet of the flow is back, 64 tokens after its injection, its AGE
incremented. -/
def execRingPacketReturn (src dst : Stop) (kind : RingKind) (s : State) : Result :=
  .next (match s.rings.pkts.find? (fun p => p.inFlow src dst kind && p.place == .refused) with
    | some p =>
      if p.since + 64 ≤ s.tokens then
        (s.ringPut p { p with place := .returned, age := min 255 (p.age + 1), since := s.tokens }).countRing src 2
      else s
    | none => s)

/-- RING_REINJECT (R241, R257): the flow's first packet that is not on the ring, once RETRY_DELAY has passed since its return and
a packet injected again before it has not come back, goes out on the ring that now serves its route. -/
def execRingReinject (src dst : Stop) (kind : RingKind) (s : State) : Result :=
  .next (match s.rings.pkts.find? (fun p => p.inFlow src dst kind && (p.place == .queued || p.place == .returned)) with
    | some p =>
      if p.place = .returned ∧ p.since + 64 * fldN (s.reg R.ringCtl) 11 8 ≤ s.tokens
          ∧ Table.get 0 s.rings.holds (flowKey src dst kind) ≤ s.tokens then
        match s.ringRoute src dst kind with
        | some r => (s.ringPut p { p with place := .queued, ring := r, since := s.tokens }).ringInject r src s.tokens
        | none => s
      else s
    | none => s)

/-- RING_STARVE_RESERVE (R243): the head packet of a ring's queues has waited STARVE_LIMIT tokens; the slot now passing is
marked, if it carries no reservation; one reservation a ring. -/
def execRingStarveReserve (st : Stop) (r : RingNo) (s : State) : Result :=
  .next (match s.nextInjection r st s.tokens with
    | some p => if p.since + fldN (s.reg R.ringCtl) 19 12 ≤ s.tokens then s.reserveSlot r st s.tokens else s
    | none => s)

/-- RING_STALL (R248). -/
def execRingStall (st : Stop) (r : RingNo) (s : State) : Result :=
  let s' := s.setReg R.ringStatus 0 0 (s.reg R.ringStatus ||| BitVec.ofNat 1024 (2 ^ (4 + r)))
  .next (if s.ringUp r then (s'.raise (0x190 + 2 * st)).ringOut r else s')

/-- What refuses a RING_CTL value (R250). -/
def State.ringCtlBad (s : State) (v : Image) : Bool :=
  decide (fldN v 31 20 < 16 ∨ fldN v 19 12 = 0 ∨ fldN v 11 8 = 0)
  || (List.range 4).any (fun r => bit v r && !s.ringUp r)

/-- RING_CTL in the dictionary (R250): a ring whose bit the write clears leaves service. -/
def State.ringCtlWrite (s : State) (q : Req) (v : Image) : State :=
  let was := (List.range 4).filter s.ringUp
  s.dictWrite q R.ringCtl 0 0 v
    (fun s => if s.ringCtlBad v then some .outOfRange else none)
    (fun s => ((was.filter (fun r => !bit v r)).foldl (fun s r => s.ringOut r) s, .ok))

/-- RING_DISABLE (R250). -/
def execRingDisable (q : Req) (v : Image) (s : State) : Result := .next (s.ringCtlWrite q v)

end Sys2Proof.Machine
end

