-- ==== Sys2Proof/Machine/Rma.lean ====
section
/-! DEFINITION. Commands of remote memory access (chapter 14): requests at the target, answers at the initiator, timers, the
invalidation of a region. -/

namespace Sys2Proof.Machine

/-- The oldest packet of a command at a block's stop is taken up; without one nothing happens. -/
def State.rmaArrived (s : State) (st cmd : Nat) (f : State → Arrived → Header → State) : State :=
  match s.arrival st cmd with
  | none => s
  | some a => if engineCmd cmd && s.itemWaits a then s else f s a a.pkt.hdr

/-- RKEY of a request. -/
def reqKey (h : Header) : Nat := h.ext.toNat % 2 ^ 24

/-- A complete PUT_DATA or PUT_NOTIFY message is answered again (R430, R431). -/
def sackAgain (h : Header) (s : State) (sl : Nat) (p : Peer) : State × Judged := (s.sack sl p h (p.repeatStatus h.msgId.toNat), .done)

/-- PUT_DATA (R424–R426, R431). -/
def execPutData (st : Stop) (s : State) : Result :=
  .next (s.rmaArrived st 0x20 (fun s a h =>
    let slice := s.stationSlice h.dstStation.toNat
    match s.judge slice h (sackAgain h) with
    | (s, .done) => s.takeArrival a
    | (s, .go _) =>
      let sl := slice.getD 0
      let len := a.pkt.payload.length
      let pkts := h.ext.toNat / 2 ^ 24 % 16 + 1
      if s.regionRefuses sl (reqKey h) 125 (targetAddr h) len then
        ((s.takeArrival a).track h pkts).failTarget sl h (reqKey h) .remoteProtection
      else match s.xlateSpan .inbound (s.regionAccess sl (reqKey h) .write (targetAddr h) ((s.inboundFunc sl).getD 0)) 3 len with
      | (s, _, some (.fault f)) => ((s.takeArrival a).track h pkts).failTarget sl h (reqKey h) f.remote
      | (s, _, some .noFunc) => (s.takeArrival a).noReceive sl h
      | (s, _, some r) => s.holdArrival a r
      | (s, sp, none) =>
        let s := ((s.takeArrival a).memoryItem sl).track h pkts
        let (s, k) := s.newPlacing sl (reqKey h % 65536) h
        (((s.writeSpans { key := k } sp a.pkt.payload).countSlice sl 8).countSlice sl 9 len).settlePlacing))

/-- The completion entry of an inbound notification (R439). -/
def notification (h : Header) (payload : List Byte) : Completion :=
  let sol := natOfBytes ((payload.drop 8).take 1) % 2 == 1
  { status := .ok, opcode := 0x81, wq := 0xFFFF, count := natOfBytes ((payload.drop 4).take 4)
    specific := at' 32 0xFFFFFFFF + at' 64 h.srcNode.toNat + at' 88 h.srcStation.toNat + at' 104 (b2n sol) + at' 128 h.ext.toNat
    solicited := sol }

/-- PUT_NOTIFY (R425, R439): the RKEY stands in its payload. -/
def execPutNotify (st : Stop) (s : State) : Result :=
  .next (s.rmaArrived st 0x21 (fun s a h =>
    let slice := s.stationSlice h.dstStation.toNat
    match s.judge slice h (sackAgain h) with
    | (s, .done) => s.takeArrival a
    | (s, .go _) =>
      let sl := slice.getD 0
      let s := (s.takeItem a costInbound).track h 1
      let rkey := natOfBytes (a.pkt.payload.take 4)
      let e := s.reg R.region 0 (rkey % 65536)
      if s.regionRefuses sl rkey 122 (fldN e 47 0) 0 then s.failTarget sl h rkey .remoteProtection
      else
        let n := fldN e 103 90
        let up : Bool := match s.cq n with | some q => q.slice == sl && q.st == .ready | none => false
        match s.targetPeer h with
        | none => s
        | some p =>
          let c : Comp := if up then .ok else .remoteNoReceive
          let p := p.finished h.msgId.toNat c
          let s := if up then ((s.putPeer p).countComp sl .ok).writeCompletion n (notification h a.pkt.payload) (inboundKey sl) else s.putPeer p
          (s.countSlice sl 8).sack sl p h c))

/-- Pieces of a span of the target: offset from its start and length (R420, R427). -/
def getPieces (addr len : Nat) : List (Nat × Nat) :=
  if len = 0 then [(0, 0)] else (List.range (piecesOf addr len)).map (pieceAt addr len)

/-- Build the responses of a GET (R427). -/
def State.getAnswer (s : State) (sl key : Nat) (h : Header) (sp : Spans) (ps : List (Nat × Nat)) (n i : Nat) : State :=
  match ps with
  | [] => s
  | (off, k) :: rest =>
    let (s, wait) := s.readSpans { owner := .payload, key := key } (takeSpans (dropSpans sp off) k) 0
    (s.rmaAnswer sl h 0x28 off (at' 24 (n - 1) + at' 28 i) (List.replicate k 0) wait).getAnswer sl key h sp rest n (i + 1)

/-- A GET is read and answered, first or again (R427). -/
def State.readGet (s : State) (a : Arrived) (sl : Nat) (h : Header) : State :=
  let len := natOfBytes (a.pkt.payload.take 4)
  if 65536 < len ∨ s.regionRefuses sl (reqKey h) 126 (targetAddr h) len then
    (s.takeArrival a).failTarget sl h (reqKey h) .remoteProtection
  else match s.xlateSpan .inbound (s.regionAccess sl (reqKey h) .read (targetAddr h) ((s.inboundFunc sl).getD 0)) 18 len with
  | (s, _, some (.fault f)) => (s.takeArrival a).failTarget sl h (reqKey h) f.remote
  | (s, _, some .noFunc) => (s.takeArrival a).noReceive sl h
  | (s, _, some r) => s.holdArrival a r
  | (s, sp, none) =>
    let ps := getPieces (targetAddr h) len
    let s := (s.takeArrival a).memoryItem sl
    let (s, k) := s.newPlacing sl (reqKey h % 65536) h
    let s := (s.getAnswer sl k h sp ps ps.length 0).countSlice sl 8
    (match s.targetPeer h with
      | some p => s.putPeer (p.finished h.msgId.toNat .ok)
      | none => s).settlePlacing

/-- GET_REQ (R427, R443). -/
def execGetReq (st : Stop) (s : State) : Result :=
  .next (s.rmaArrived st 0x22 (fun s a h =>
    let slice := s.stationSlice h.dstStation.toNat
    if 8192 ≤ s.answersWaiting then (s.takeArrival a).countDev 32
    else
      let again (s : State) (sl : Nat) (p : Peer) : State × Judged :=
        match p.repeatStatus h.msgId.toNat with
        | .ok => (s, .go p)
        | c => (s.rmaAnswer sl h 0x28 0 (at' 16 c.code) [] [], .done)
      match s.judge slice h again with
      | (s, .done) => s.takeArrival a
      | (s, .go _) => s.readGet a (slice.getD 0) h))

/-- ATOMIC_REQ (R428): one at a time for each 64-byte line; another waits. -/
def execAtomicReq (st : Stop) (s : State) : Result :=
  .next (s.rmaArrived st 0x23 (fun s a h =>
    let slice := s.stationSlice h.dstStation.toNat
    let addr := targetAddr h
    let busy := s.remote.atomics.any (fun x => targetAddr x.hdr / 64 = addr / 64 ∧ some x.slice = slice)
    if busy then s
    else if 8192 ≤ s.answersWaiting then (s.takeArrival a).countDev 32
    else
      let m := h.msgId.toNat
      let again (s : State) (sl : Nat) (p : Peer) : State × Judged :=
        (match p.results.find? (fun r => r.1 = m) with
        | some (_, size, v) => s.rmaAnswer sl h 0x29 0 0 (leBytes v size) []
        | none => match p.errs.find? (fun e => e.1 = m) with
          | some e => s.rmaAnswer sl h 0x29 0 (at' 16 e.2.code) [] []
          | none => s.rmaAnswer sl h 0x29 0 (at' 16 Comp.transportTimeout.code) [] [], .done)
      match s.judge slice h again with
      | (s, .done) => s.takeArrival a
      | (s, .go _) =>
        let sl := slice.getD 0
        let size := if bit h.ext 27 then 16 else 8
        let aop := h.ext.toNat / 2 ^ 24 % 8
        if s.regionRefuses sl (reqKey h) 124 addr size ∨ addr % size ≠ 0 ∨ 6 < aop ∨ a.pkt.payload.length ≠ 2 * size then
          ((s.takeArrival a).track h 1).failTarget sl h (reqKey h) .remoteProtection
        else
          let f := (s.inboundFunc sl).getD 0
          match s.xlateSpan .inbound (s.regionAccess sl (reqKey h) .atomic addr f) 2 size with
          | (s, _, some (.fault x)) => ((s.takeArrival a).track h 1).failTarget sl h (reqKey h) x.remote
          | (s, _, some .noFunc) => (s.takeArrival a).noReceive sl h
          | (s, _, some r) => s.holdArrival a r
          | (s, sp, none) =>
            let s := (((s.takeArrival a).memoryItem sl).track h 1).countSlice sl 8
            let (s, k) := s.newPlacing sl (reqKey h % 65536) h
            let bus := match sp with | (b, _, _) :: _ => b | [] => 0
            let op : AtomicOp := { id := k, hdr := h, slice := sl, func := f, bus := bus, size := size, aop := aop
                                   a := natOfBytes (a.pkt.payload.take size), b := natOfBytes (a.pkt.payload.drop size) }
            let s := s.updRemote (fun r => { r with atomics := r.atomics ++ [op] })
            let id := s.host.nextGather
            let (s, wait) := s.readSpans { owner := .gather id, key := k } sp 0
            s.updHost (fun x => { x with nextGather := id + 1, gathers := x.gathers ++
              [{ id := id, for_ := .atomic k, wait := wait, bytes := List.replicate size 0 }] })))

/-- The initiator's message that an answer names, of a kind. -/
def State.answered (s : State) (h : Header) (k : RKind → Bool) : Option (Peer × RMsg) :=
  (s.peer (pairOf h)).bind (fun p => (p.msgs.find? (fun m => m.num = h.msgId.toNat ∧ k m.kind)).map (fun m => (p, m)))

/-- STATUS of an answer, or PARTITION_REJECT where its key is not held (R30). -/
def State.answerCode (s : State) (p : Peer) (h : Header) : Comp :=
  if s.holdsKey p.slice h.pkey.toNat then compOf (h.ext.toNat / 2 ^ 16 % 256) else .partitionReject

/-- GET_RESP (R427, R432, R443): placed where the GET fixed it. Like the other answers it is refused under a key that the slice
does not hold, and its message ends with PARTITION_REJECT (R30). -/
def execGetResp (st : Stop) (s : State) : Result :=
  .next (s.rmaArrived st 0x28 (fun s a h =>
    let s := s.takeArrival a
    match s.answered h (· == .get) with
    | none => s
    | some (p, m) =>
      let idx := h.ext.toNat / 2 ^ 28
      if s.answerCode p h ≠ Comp.ok then (s.endMsg p.pair m (s.answerCode p h)).resumeOps p.pair
      else if m.acked.contains idx then s
      else
        let sp := takeSpans (dropSpans m.spans h.offset.toNat) a.pkt.payload.length
        let s := s.writeSpans { key := opKey m.wq m.pos, stale := m.stale } sp a.pkt.payload
        let s := s.gotPiece p.pair m.num idx
        match s.answered h (· == .get) with
        | some (_, m) => if m.pkts ≤ m.acked.length then (s.endMsg p.pair m .ok).resumeOps p.pair else s.resumeOps p.pair
        | none => s))

/-- ATOMIC_RESP (R432). -/
def execAtomicResp (st : Stop) (s : State) : Result :=
  .next (s.rmaArrived st 0x29 (fun s a h =>
    let s := s.takeArrival a
    match s.answered h (· == .atomic) with
    | none => s
    | some (p, m) =>
      if s.answerCode p h ≠ Comp.ok then (s.endMsg p.pair m (s.answerCode p h)).resumeOps p.pair
      else
        let s := s.ackPackets p.pair m.num [0] 0
        let s := s.writeSpans { key := opKey m.wq m.pos, stale := m.stale } m.spans a.pkt.payload
        (s.endMsg p.pair m .ok (natOfBytes a.pkt.payload)).resumeOps p.pair))

/-- A kind that SACK acknowledges. -/
def sacked : RKind → Bool | .put | .notify => true | _ => false

/-- Packets of a message that a mask names. -/
def maskIds (mask pkts : Nat) : List Nat := (List.range pkts).filter (fun i => mask / 2 ^ i % 2 = 1)

/-- SACK (R431, R432). -/
def execSack (st : Stop) (s : State) : Result :=
  .next (s.rmaArrived st 0x2A (fun s a h =>
    let s := s.takeItem a costService
    match s.peer (pairOf h) with
    | none => s
    | some p =>
      if !s.holdsKey p.slice h.pkey.toNat then
        match s.answered h sacked with
        | some (_, m) => (s.endMsg p.pair m .partitionReject).resumeOps p.pair
        | none => s
      else
      let echo := h.ext.toNat / 2 ^ 24 % 4
      let cum := h.offset.toNat % 2 ^ 24
      -- what CUM covers, oldest first, and then the message named
      let covered := p.msgs.filter (fun m => sacked m.kind ∧ atOrBefore m.num cum ∧ m.num ≠ h.msgId.toNat)
      let s := covered.foldl (fun s m => (s.ackPackets p.pair m.num (List.range m.pkts) echo).endMsg p.pair m .ok) s
      let s := match s.answered h sacked with
        | none => s
        | some (_, m) =>
          if s.answerCode p h ≠ Comp.ok then s.endMsg p.pair m (s.answerCode p h)
          else
            let ids := maskIds (h.ext.toNat % 65536) m.pkts
            let s := s.ackPackets p.pair m.num ids echo
            match s.answered h sacked with
            | some (_, m) => if m.pkts ≤ m.acked.length ∨ atOrBefore m.num cum then s.endMsg p.pair m .ok else s
            | none => s
      s.resumeOps p.pair))

/-- SACK_DELAY_EXPIRY (R431): a partial SACK. -/
def execSackDelayExpiry (p : Pair) (num : MsgNo) (s : State) : Result :=
  .next (match s.peer p with
    | none => s
    | some x =>
      match x.trackers.find? (fun t => t.num = num) with
      | some t => if x.owed.any (fun o => o.1 = num) then (s.stationItem p.station costTimer).sack x.slice x t.hdr .ok else s
      | none => s)

/-- The packets of a message that are due go out again, until something holds them (R218, R435). -/
def State.resend (s : State) (o : ROp) (w : Wq) (e : WqEntry) (num : Nat) : Nat → State × Option XRes
  | 0 => (s, none)
  | k + 1 =>
    match (s.peer o.pair).bind (fun p => p.msgs.find? (fun m => m.num = num)) with
    | none => (s, none)
    | some m =>
      match m.due with
      | [] => (s, none)
      | i :: _ =>
        if s.shaperHolds o.slice o.cls then (s, none)
        else match s.sendAgain o m i w e with
        | (s, none) => s.resend o w e num k
        | (s, some r) => (s, some r)

/-- RETRANSMIT_TIMEOUT (R435, R437): what the shaper or a translation holds back follows in a SEGMENT item (R218). -/
def execRetransmitTimeout (p : Pair) (num : MsgNo) (s : State) : Result :=
  .next (match s.peer p with
    | none => s
    | some x =>
      match x.msgs.find? (fun m => m.num = num) with
      | none => s
      | some m =>
        if m.sent = 0 then s
        else
        let s := s.stationItem p.station costTimer
        if s.retryLimit ≤ m.tries then (s.endMsg p m .transportTimeout).resumeOps p
        else match s.rop m.wq m.pos, s.recvEntry m.wq m.pos with
        | some o, some (w, e) =>
          let ids := (List.range m.sent).filter (fun i => !sacked m.kind || !m.acked.contains i)
          if !s.holdsKey o.slice o.pkey.toNat then (s.endMsg p m .partitionReject).resumeOps p
          else
            let s := (s.stationItem p.station costService).putPeer { x with
              rto := some (min (2 * s.rtoOf x) s.rtoMax), pwnd := some (max 256 (s.pwndOf x / 2))
              msgs := x.msgs.map (fun y => if y.num = num then { y with tries := y.tries + 1, timer := s.uptime, due := ids } else y) }
            match s.resend o w e num ids.length with
            | (s, some (.fault f)) => s.entryFault m.wq m.pos f
            | (s, _) => if s.wantsRun o then s.addSegment m.wq m.pos else s
        | _, _ => s)

/-- What refuses a REGION write (R418). -/
def State.regionBad (s : State) (v : Image) : Bool :=
  bit v 127 && (decide (fldN v 87 48 = 0 ∨ 2 ^ 48 < fldN v 47 0 + fldN v 87 48) || fldN v 126 124 == 0
    || (bit v 122 && !((s.cq (fldN v 103 90)).any (fun c => c.slice == fldN v 119 112))))

/-- The rules of a REGION entry (R416, R418, R419, R653). -/
def regionRule (q : Req) (n : Nat) (was v : Image) : WriteRule :=
  { chk := fun s =>
      if s.regionBad v then some .outOfRange
      else if bit v 127 ∧ regionGen was = 255 then some .tableFull
      else if bit v 127 ∧ bit was 127 then some .busy
      else none
    eff := fun s =>
      if bit was 127 ∧ !bit v 127 then
        let s := s.setReg R.region 0 n (setFld (s.reg R.region 0 n) 111 104 (regionGen was + 1))
        if s.remote.placing.any (fun x => x.region = n ∧ x.slice = fldN was 119 112) then
          (s.updRemote (fun r => { r with invals := r.invals ++ [(n, q)] }), none)
        else (s, some .ok)
      else (s, some .ok) }

/-- A REGION write in the dictionary. -/
def State.regionWrite (s : State) (q : Req) (n : Nat) (v : Image) : State :=
  let q := q.entries n 1
  s.writeRun q R.region 0 n [v] (regionRule q)

/-- REGION_INVALIDATE (R419): a REGION write that clears VALID. -/
def execRegionInvalidate (q : Req) (n : RegionNo) (v : Image) (s : State) : Result := .next (s.regionWrite q n (setFld v 127 127 0))

end Sys2Proof.Machine
end

