-- ==== Sys2Proof/Machine/Sessions.lean ====
section
/-! DEFINITION. Sessions of the dictionary server: IDENTIFY, OPEN, AUTH, CLOSE and what ends a session (R561–R565, R592). -/

namespace Sys2Proof.Machine

/-- A request that needs no open session comes to the server: nothing while it does not run, a count on a closed path (R576). -/
def State.openDoor (s : State) (q : Req) (run : State → State) : State :=
  let s := s.takeRequest q.path
  if !s.serving then s else if !s.pathOpen q.path then s.countDev 10 else run s

/-- PART_IDENT (R3): the enabled ports, the order code, the version. -/
def State.partIdent (s : State) : Nat := at' 24 0x46 + at' 16 s.straps.ports + at' 8 0xB0 + at' 4 2

/-- The body of an IDENTIFY response (Table MGT-6). -/
def State.identity (s : State) : List Byte :=
  bytesOf (BitVec.ofNat 128 (s.partIdent + at' 32 (s.reg R.nodeAddr).toNat + at' 64 s.mgmt.lifecycle.code
    + at' 72 (s.straps.mgmtId % 128))) 16

/-- FDP_IDENTIFY (R561): without a session; the pair session carries nothing of the kind (R593). -/
def execFdpIdentify (q : Req) (s : State) : Result :=
  let q := q.of 1
  .next (s.openDoor q (fun s =>
    if q.path = .pair then s.respond q 0 0 .accessDenied []
    else if q.odd then s.respond q 0 0 .outOfRange []
    else if q.full then s.respond q 0 0 .busy []
    else (s.countDev 9).respond q 0 0 .ok s.identity))

/-- The role that a key slot serves (R590). -/
def slotRole (n : Nat) : Role :=
  if n = 0 then .maker else if n ≤ 4 then .installer else if n ≤ 12 then .operator else if n = 13 then .twin else .none

/-- The role that OPEN names (Table MGT-6). -/
def roleOf (c : Byte) : Role :=
  if c = 1 then .maker else if c = 2 then .installer else if c = 3 then .operator else .none

/-- The slot holds a key of the role. -/
def State.slotHolds (s : State) (role : Role) (slot : Nat) : Bool :=
  role != .none && slotRole slot == role && bit (s.reg R.roleKey 0 slot) 0

/-- Table SEC-3 lets the role open a session. -/
def State.mayOpen (s : State) (role : Role) : Bool :=
  match s.mgmt.lifecycle with
  | .maker | .retired => role == .maker
  | _ => true

/-- The lowest free slot of 1–15 (R562). -/
def State.freeSession (s : State) : Option Nat :=
  ((List.range 15).map (· + 1)).find? (fun n => (s.sess n).st == .free)

/-- FDP_OPEN (R562, R592): the refusals in R14's order, else a slot and a challenge. -/
def execFdpOpen (q : Req) (role slot : Byte) (nonce : BitVec 384) (s : State) : Result :=
  let q := q.of 2
  .next (s.openDoor q (fun s =>
    let no (f : Fdp) : State := s.respond q 0 0 f []
    let r := roleOf role
    if !s.slotHolds r slot.toNat then no .notAuthenticated
    else if q.path = .pair then no .accessDenied
    else if !s.mayOpen r then no .lifecycleState
    else if q.odd then no .outOfRange
    else match s.freeSession with
    | none => no .tableFull
    | some n =>
      if q.full ∨ s.mgmt.locked.contains q.path then no .busy
      else
        let d := s.draws
        let s := (s.setSess n { st := .opening, role := r, keySlot := slot.toNat, path := q.path, challenge := d, nonce := nonce }).drawn
        (s.countDev 9).sendFdp q.path { s.respOf { q with session := n } 0 0 .ok (bytesOf (Config.challenge d) 48) with key := none }))

/-- The consecutive failed AUTHs of a path. -/
def State.fails (s : State) (p : Path) : Nat := ((s.mgmt.authFails.find? (fun e => e.1 = p)).map Prod.snd).getD 0

/-- An AUTH fails: its slot is free; after 16 in a row OPEN is refused on the path (R592). -/
def State.authFail (s : State) (q : Req) : State :=
  let n := s.fails q.path + 1
  let s := (s.setSess q.session {}).updMgmt (fun m => { m with
    authFails := m.authFails.filter (fun e => e.1 ≠ q.path) ++ [(q.path, n)]
    locked := if 16 ≤ n ∧ !m.locked.contains q.path then m.locked ++ [q.path] else m.locked })
  s.respond q 0 0 .notAuthenticated []

/-- FDP_AUTH (R592, R565): `sigOk` tells whether the signature verifies.  An AUTH of an open session is a repeat or out of place. -/
def execFdpAuth (q : Req) (sigOk : Bool) (s : State) : Result :=
  let q := q.of 3
  let x := s.sess q.session
  .next (if x.st = .opening ∧ x.path = q.path then
      s.openDoor q (fun s =>
        if !sigOk ∨ q.seq ≠ 0 ∨ !s.slotHolds x.role x.keySlot ∨ !s.mayOpen x.role then s.authFail q
        else if q.odd then s.respond q 0 0 .outOfRange []
        else if q.full then s.respond q 0 0 .busy []
        else
          let s := s.updMgmt (fun m => { m with authFails := m.authFails.filter (fun e => e.1 ≠ q.path) })
          let r := s.respOf q 0 0 .ok []
          ((s.setSess q.session { x with st := .opened, last := 0, kept := some r }).countDev 9).sendFdp q.path r)
    else s.serve q 0 0 (fun _ s => s.answer q 0 0 .outOfRange) true)

/-- FDP_CLOSE (R564). -/
def execFdpClose (q : Req) (s : State) : Result :=
  let q := q.of 4
  .next (s.serve q 0 0 (fun _ s =>
    if q.odd then s.answer q 0 0 .outOfRange else (s.answer q 0 0 .ok).endSession q.session) true)

/-- AUTH_TIMEOUT (R562): 1 s has passed since the OPEN of slot `n`. -/
def execAuthTimeout (n : Nat) (s : State) : Result :=
  .next (if (s.sess n).st = .opening then s.setSess n {} else s)

/-- AUTH_LOCKOUT_EXPIRY (R592): 10 s have passed. -/
def execAuthLockoutExpiry (p : Path) (s : State) : Result :=
  .next (s.updMgmt (fun m => { m with locked := m.locked.filter (· ≠ p) }))

/-- SESSION_IDLE_EXPIRY (R564): SESSION_IDLE has passed without a request of session `n`. -/
def execSessionIdleExpiry (n : Nat) (s : State) : Result :=
  let x := s.sess n
  .next (if x.st = .opened ∧ !x.executing then s.endSession n else s)

end Sys2Proof.Machine
end

