-- ==== Sys2Proof/Machine/Twins.lean ====
section
/-! DEFINITION. Commands of twin pairs (chapter 17). -/

namespace Sys2Proof.Machine

/-! Heartbeats (R506, R507) -/

/-- TWIN_HEARTBEAT_SEND (R506): while the twin link is UP. -/
def execTwinHeartbeatSend (s : State) : Result :=
  .next (if (s.link 48).st = .up ∧ !s.faults.silent then
      (s.queueBypass 48 s.heartbeat.toMsg).updTwin (fun t => { t with hbSeq := (t.hbSeq + 1) % 256 })
    else s)

/-- TWIN_HEARTBEAT (R507): the oldest heartbeat received on the twin port. -/
def execTwinHeartbeat (s : State) : Result :=
  .next (match s.bypassIn.find? (fun b => b.1 = 48 ∧ b.2.1.type = 4) with
    | none => s
    | some b => ({ s with bypassIn := s.bypassIn.erase b }.onHeartbeat (heartbeatOf b.2.1)).pairFlush)

/-- HEARTBEAT_LOST (R507). -/
def execHeartbeatLost (s : State) : Result := .next s.heartbeatLost

/-- JOINING_TIMEOUT (R507, R509). -/
def execJoiningTimeout (s : State) : Result :=
  .next (if s.twin.st = .joining ∧ !s.twin.hb then s.updTwin (fun t => { t with st := .solo, lead := !s.straps.twinSide }) else s)

/-! The alert pin (R504–R506, R519, R527) -/

/-- BEAT_SEND (R504, R544). -/
def execBeatSend (s : State) : Result := .next (if s.faults.silent then s else s.emit (.alert .beat))

/-- A pulse of the partner of a width in ns: decoded within its own bounds, else counted (R504). -/
def State.pulse (s : State) (width lo hi : Nat) (k : State → State) : State :=
  if lo ≤ width ∧ width ≤ hi then k (s.updTwin (fun t => { t with beatAt := some s.uptime }))
  else s.updTwin (fun t => { t with oddPulses := t.oddPulses + 1 })

/-- BEAT (R504). -/
def execBeat (width : Nat) (s : State) : Result := .next (s.pulse width 500 2000 id)

/-- DISTRESS (R506). -/
def execDistress (width : Nat) (s : State) : Result := .next (s.pulse width 3000 6000 (fun s => s.raise 0x523))

/-- ADOPT_PULSE (R519): acted on while no heartbeat is present. -/
def execAdoptPulse (width : Nat) (s : State) : Result :=
  .next (s.pulse width 15000 30000 (fun s =>
    if !s.twin.hb ∧ s.mayAdopt then
      (s.adopt 3).updTwin (fun t => { t with resetDue := s.partnerReset == 2 })
    else s))

/-- ALERT_REPEAT (R505): the next copy of an alert pulse. -/
def execAlertRepeat (s : State) : Result :=
  .next (match s.twin.copies with
    | p :: l => (s.emit (.alert p)).updTwin (fun t => { t with copies := l })
    | [] => s)

/-- PIN_STUCK (R504). -/
def execPinStuck (s : State) : Result := .next ((s.updTwin (fun t => { t with pinFault := true })).raise 0x520)
/-- PIN_FAULT_CLEAR (R504). -/
def execPinFaultClear (s : State) : Result := .next (s.updTwin (fun t => { t with pinFault := false }))

/-- SILENT_PARTNER (R519): no heartbeat and no beats for ADOPT_WAIT; the partner is reset before it is adopted. -/
def execSilentPartner (s : State) : Result :=
  let s := if s.twin.hb then s else s.updTwin (fun t => { t with beatAt := none })
  .next (if !s.twin.hb ∧ !s.twin.pinFault ∧ s.autoAdopt ∧ (s.partnerReset = 1 ∨ s.partnerReset = 2) ∧ s.mayAdopt then
      s.resetPartner.adopt 6
    else s)

/-- FAIL_SILENT_RESET_DELAY (R519). -/
def execFailSilentResetDelay (s : State) : Result :=
  .next (if s.twin.resetDue then s.resetPartner.updTwin (fun t => { t with resetDue := false }) else s)

/-! Resync and comparison (R514–R518) -/

/-- TWIN_RESYNC (R514, R582): started at the leader, in the mode that RESYNC_MODE holds. -/
def execTwinResync (q : Req) (v : Image) (s : State) : Result :=
  .next (s.opStart q R.boolStart 3 v 3 0 (fun _ => startBad v)
    (fun s => !(s.twin.st == .lead || s.twin.st == .adopting) || !s.twin.session
      || (fldN (s.reg R.resyncMode) 1 0 == 1 && (s.twin.partner.map (·.state)) != some 6))
    (fun s =>
      let restore := fldN (s.reg R.resyncMode) 1 0 == 1
      ((s.updTwin (fun t => { t with restore := restore, joined := false })).pairSend (.resync restore), .ok)))

/-- RESYNC_COMPLETE (R514): with the partner's pair-scope values and device-scope values. -/
def execResyncComplete (pairs devs : List Change) (s : State) : Result := .next (s.resyncDone pairs devs)

/-- COMPARE_SWEEP (R515–R518). -/
def execCompareSweep (l : List Diff) (s : State) : Result := .next (s.sweep l)

/-- MIRROR_CONFIRM_TIMEOUT (R512): the oldest write that waits is applied here, answered, and marked for the next resync. -/
def execMirrorConfirmTimeout (s : State) : Result :=
  .next (match s.twin.mirrors with
    | [] => s
    | m :: _ =>
      let s := if m.passed then m.changes.foldl (fun s c => s.setKey c.1 c.2) s else s
      (s.leftBehind (m.changes.map (·.1))).mirrorAnswer m m.status)

/-! TWIN_CTL (Table TWN-14) -/

/-- Every slice homed here, or every adopted one, is STOPPED. -/
def State.homeStopped (s : State) (home : Bool) : Bool :=
  (List.range 256).all (fun sl => sl == 0 || s.homed sl != home || (s.slice sl).st == .stopped)

/-- What refuses a twin command with BUSY. -/
def State.twinBusy (s : State) (c : Nat) : Bool :=
  match c with
  | 1 => !((s.twin.st == .lead || s.twin.st == .trail) && (s.twin.partner.map (·.shadow)) == some true && s.homeStopped true)
  | 2 => !(s.twin.st == .adopting && s.twin.hb && (s.twin.partner.map (·.state)) == some 6 && s.twin.joined && s.homeStopped false)
  | 3 => !((s.twin.st == .lead || s.twin.st == .trail) && s.twin.session)
  | 4 => !s.mayAdopt
  | _ => s.pulsedLately

/-- The roles are exchanged (R509). -/
def State.swapLead (s : State) : State :=
  s.updTwin (fun t => { t with lead := !t.lead
                               st := if t.st = .lead then .trail else if t.st = .trail then .lead else t.st })

/-- A twin command's effect. -/
def State.twinDo (s : State) (c : Nat) : State :=
  match c with
  | 1 => s.surrender 4
  | 2 => { s.bumpRegions with adopted := none }.updTwin (fun t => { t with st := .lead, lead := true, adoptCause := 0 })
  | 3 => (s.pairSend .leadSwap).swapLead
  | 4 =>
    let s := if (s.partnerReset = 1 ∨ s.partnerReset = 2) ∧ !s.twin.hb then s.resetPartner else s
    s.adopt 7
  | _ => s.resetPartner

/-- A TWIN_CTL write (R530, Table TWN-14). -/
def State.twinCtlWrite (s : State) (q : Req) (v : Image) : State :=
  let c := fldN v 3 0
  s.dictRunR q R.twinCtl 0 0 v
    (fun role _ => (c == 4 || c == 5) && role != .installer)
    (fun s => if c = 0 ∨ 5 < c then some .outOfRange else if s.twinBusy c then some .busy else none)
    (fun s => (s.twinDo c, some .ok))

/-- DETACH (R524). -/
def execDetach (q : Req) (v : Image) (s : State) : Result := .next (s.twinCtlWrite q (setFld v 3 0 1))
/-- HANDBACK (R529). -/
def execHandback (q : Req) (v : Image) (s : State) : Result := .next (s.twinCtlWrite q (setFld v 3 0 2))
/-- LEAD_SWAP (R509). -/
def execLeadSwap (q : Req) (v : Image) (s : State) : Result := .next (s.twinCtlWrite q (setFld v 3 0 3))
/-- ADOPT (R519). -/
def execAdopt (q : Req) (v : Image) (s : State) : Result := .next (s.twinCtlWrite q (setFld v 3 0 4))
/-- PARTNER_RESET (R527). -/
def execPartnerReset (q : Req) (v : Image) (s : State) : Result := .next (s.twinCtlWrite q (setFld v 3 0 5))

end Sys2Proof.Machine
end

