-- ==== Sys2Proof/Machine/DictRules.lean ====
section
/-! DEFINITION. What the objects without a row of their own refuse, and what an accepted write of theirs does at once: the rules of
FDP_WRITE, chapter by chapter. -/

namespace Sys2Proof.Machine

/-- OUT_OF_RANGE where a condition holds. -/
def oor (b : Bool) : Option Fdp := if b then some .outOfRange else none
/-- OUT_OF_RANGE, else BUSY (R14). -/
def oorBusy (b busy : Bool) : Option Fdp := if b then some .outOfRange else if busy then some .busy else none

/-- The slice is STOPPED. -/
def State.stopped (s : State) (sl : Nat) : Bool := (s.slice sl).st == .stopped && (s.slice sl).settle.isNone

/-- The port is not enabled on this part (R1, R2). -/
def State.disabled (s : State) (p : Nat) : Bool := decide (p < 48 ∧ s.straps.ports ≤ p)

/-! Chapters 1 to 5 -/

/-- An address and a shape that do not go together (R24).  DESIGN CHOICE (log 53): under an address with VALID 0 a shape whose
LAST_COLUMN is even is taken, as every shape is; "must be odd" (R23) is held against it when an address with VALID 1 is written. -/
def State.addrBad (s : State) (addr shape : Image) : Bool :=
  let row := fldN addr 7 4
  let col := fldN addr 3 0
  bit addr 31 && (decide (fldN shape 7 4 < row ∨ fldN shape 3 0 < col ∨ fldN shape 3 0 % 2 = 0) || (col % 2 == 1) != s.straps.twinSide)

/-- |x| of a two's-complement field of `n` bits. -/
def absField (x n : Nat) : Nat := if x < 2 ^ (n - 1) then x else 2 ^ n - x

/-- What refuses a profile (R81). -/
def State.profileBad (s : State) (p : Nat) (v : Image) : Bool :=
  let lane (i : Nat) : Nat := (v.toNat >>> (64 * (i + 1))) % 2 ^ 64
  let f (x hi lo : Nat) : Nat := (x >>> lo) % 2 ^ (hi + 1 - lo)
  let taps (x : Nat) : Nat :=
    absField (f x 5 0) 6 + absField (f x 11 6) 6 + f x 18 12 + absField (f x 24 19) 6 + absField (f x 30 25) 6
  let hdr := v.toNat % 2 ^ 64
  decide ((crc32 v.toNat 80).toNat ≠ f v.toNat 671 640)
  || f v.toNat 703 672 != 0 || f hdr 31 28 != 0 || f hdr 63 48 != 0 || f hdr 3 2 == 3
  || (List.range 9).any (fun i => f (lane i) 31 31 != 0 || f (lane i) 63 61 != 0 || decide (127 < taps (lane i)))
  || f (lane 8) 60 37 != 0
  || (p == 48 && ((List.range 4).any (fun i => lane (i + 4) != 0) || f hdr 19 16 != 0 || f hdr 27 24 != 0))
  || (bit v 0 && s.disabled p)

/-- EQ_PROFILE (R81): an accepted VALID 0 clears it. -/
def eqProfileRule (p e : Nat) (v : Image) : WriteRule :=
  { chk := fun s => oor (s.profileBad p v)
    eff := fun s => (if bit v 0 then s else s.setReg R.eqProfile p e 0, some .ok) }

/-- A VC_CREDIT write that the port's buffer cannot hold (R113). -/
def State.creditBad (s : State) (p e : Nat) (v : Image) : Bool :=
  let cost (x : Image) : Nat := 6 * fldN x 7 0 + fldN x 27 16
  let sum := ((List.range 8).map (fun k => cost (if k = e then v else s.reg R.vcCredit p k))).sum
  fldN v 7 0 == 0 || decide ((if p = 48 then 3072 else 6144) < sum)

/-- A field of LINK_DOWN_RULE or LINK_TIMERS that is zero, or a LOCK_LOSS above 1,000 (R141). -/
def linkRuleBad (v : Image) : Bool :=
  decide (fldN v 31 22 = 0 ∨ 1000 < fldN v 31 22 ∨ fldN v 15 8 = 0 ∨ fldN v 7 0 = 0)
def linkTimersBad (v : Image) : Bool := decide (fldN v 23 16 = 0 ∨ fldN v 15 8 = 0 ∨ fldN v 7 0 = 0)

/-- CONG_MODE of class `c` (R163). -/
def congBad (c : Nat) (v : Image) : Bool := fldN v 1 0 == 3 || (decide (c ≤ 5) && fldN v 1 0 == 2)

/-! Chapters 6 and 7 -/

/-- ROUTE_POLICY, PRESS_LEVELS (R195). -/
def policyBad (v : Image) : Bool := bit v 10 || bit v 11 || fldN v 3 0 == 0 || fldN v 7 4 == 0
def levelsBad (v : Image) : Bool := decide (fldN v 23 12 ≤ fldN v 11 0 ∨ fldN v 35 24 ≤ fldN v 23 12)

/-- GROUP_ROUTE_STAGE entry `g` (R173). -/
def State.groupBad (s : State) (g : Nat) (v : Image) : Bool :=
  let mid (n : Nat) : Bool := decide (48 ≤ n ∧ n ≤ 62)
  let port (i : Nat) : Nat := fldN v (12 * i + 5) (12 * i)
  let remote (i : Nat) : Nat := fldN v (12 * i + 11) (12 * i + 6)
  (List.range 4).any (fun i => mid (port i) || mid (remote i) || (bit v (52 + i) && port i == 63))
  || (bit v 63 && ((List.range 4).all (fun i => port i == 63) || fldN v 55 52 == 0 || (s.nodeValid && g == s.ownNode.group)))

/-- STRAINER_DEFAULT (R192). -/
def strainerBad (v : Image) : Bool := (List.range 6).any (fun i => fldN v (2 * i + 1) (2 * i) == 3)

/-- EGRESS_CLASS (R205): a class that leaves strict service starts with DEFICIT 0. -/
def egressClassRule (o c : Nat) (was v : Image) : WriteRule :=
  { chk := fun _ => oor (fldN v 15 0 == 0)
    eff := fun s => (if bit was 17 && !bit v 17 then s.updOutput o (fun x => { x with deficit := Table.set 0 x.deficit c 0 }) else s,
      some .ok) }

/-- SHAPER and INJ_SHAPER (R210): `fill` sets the level. -/
def shaperRule (was v : Image) (fill : State → Int → State) : WriteRule :=
  { chk := fun _ => oor (bit v 63 && (fldN v 23 0 == 0 || fldN v 47 24 == 0))
    eff := fun s =>
      (if (bit v 63 && !bit was 63) || fldN v 47 24 != fldN was 47 24 then fill s ((1000 * fldN v 47 24 : Nat) : Int) else s, some .ok) }

/-- INGRESS_POLICER and INJ_POLICER (R212, R213): `fill` fills both buckets. -/
def policerRule (inj : Bool) (was v : Image) (fill : State → Buckets → State) : WriteRule :=
  let mask := fldN v 119 112
  { chk := fun _ => oor ((bit v 127 && fldN v 87 64 == 0) || decide (fldN v 63 40 < fldN v 111 88 ∨ fldN v 39 16 < fldN v 87 64)
      || (if inj then decide (mask % 4 ≠ 0) else mask != 0))
    eff := fun s =>
      (if bit v 127 && (!bit was 127 || fldN v 87 64 != fldN was 87 64 || fldN v 39 16 != fldN was 39 16) then
        fill s { tc := 1000 * fldN v 87 64, tp := 1000 * fldN v 39 16 } else s, some .ok) }

/-! Chapters 8 and 9 -/

/-- RING_ROUTE (R237). -/
def ringRouteBad (e : Nat) (v : Image) : Bool :=
  bit v 7 && (e / 64 == e % 64 || e % 64 == 55 || e % 64 == 63)

/-- HOST_CTL (R259, R486). -/
def State.hostCtlBad (s : State) (v : Image) : Bool :=
  let role := fldN v 1 0
  let service := bit (s.reg R.svcCtl) 0
  role == 3 || (!bit v 2 && fldN v 23 16 != 0) || decide (255 < fldN v 15 8 + fldN v 23 16)
    || (role == 1 && !service) || (role == 0 && service)

/-- FUNC_MAP (R264, R265). -/
def State.funcMapChk (s : State) (k e : Nat) (v : Image) : Option Fdp :=
  let valid := bit v 31
  let sl := fldN v 7 0
  let count := fldN v 27 16
  let vectors (put : Bool) : Nat := ((List.range 4).map (fun p => ((List.range 512).map (fun n =>
    let x := if put ∧ p = k ∧ n = e then v else s.reg R.funcMap p n
    if bit x 31 then fldN x 27 16 else 0)).sum)).sum
  if valid ∧ ((e % 256 = 0 ∧ sl ≠ 0) ∨ (e % 256 ≠ 0 ∧ sl = 0) ∨ count = 0 ∨ 2048 < count
      ∨ (sl ≠ 0 ∧ (List.range 512).any (fun n => n != e && bit (s.reg R.funcMap k n) 31 && fldN (s.reg R.funcMap k n) 7 0 == sl))) then
    some .outOfRange
  else if 16384 < vectors true ∧ vectors false < vectors true then some .tableFull
  else if s.funcEnabled (512 * k + e) then some .busy
  else none

/-! Chapters 10 and 11 -/

/-- SLICE_LIMITS (R292). -/
def limitsBad (v : Image) : Bool := decide (65536 < fldN v 48 32 ∨ 16384 < fldN v 30 16 ∨ 4096 < fldN v 12 0)

/-- SLICE_KEYS (R293). -/
def sliceKeyBad (v : Image) : Bool :=
  let n := 2 ^ fldN v 19 16
  let k := fldN v 15 0
  bit v 31 && decide (k % n ≠ 0 ∨ k = 0 ∨ 0xFFFF < k + n)

/-- Ranges of stations, with the slice and entry that bind them. -/
def State.stationRanges (s : State) : List (Nat × Nat × Nat × Nat) :=
  (s.dict.filter (fun e => keySub e.1 = 5 ∧ 0x4000 ≤ keyIndex e.1 ∧ keyIndex e.1 < 0x5000 ∧ keyIndex e.1 % 16 = 0)).filterMap
    (fun e => if bit e.2 31 then some ((keyIndex e.1 - 0x4000) / 16, keyEntry e.1, fldN e.2 9 0, fldN e.2 20 10) else none)

/-- SLICE_STATIONS (R294, R28). -/
def State.stationsChk (s : State) (sl e : Nat) (was v : Image) : Option Fdp :=
  let f := fldN v 9 0
  let n := fldN v 20 10
  let inNew (x : Nat) : Bool := bit v 31 && decide (f ≤ x ∧ x < f + n)
  let inOld (x : Nat) : Bool := bit was 31 && decide (fldN was 9 0 ≤ x ∧ x < fldN was 9 0 + fldN was 20 10)
  oorBusy (bit v 31 && (decide (n = 0 ∨ f < 0x40 ∨ 0x400 < f + n)
      || s.stationRanges.any (fun r => !(r.1 == sl && r.2.1 == e) && decide (f < r.2.2.1 + r.2.2.2 ∧ r.2.2.1 < f + n))))
    (!s.stopped sl || s.host.wqs.any (fun w => w.2.slice == sl && inOld w.2.station && !inNew w.2.station))

/-- ENGINE_SHARE (R336), ENGINE_CTL (R341). -/
def engineShareBad (v : Image) : Bool := decide (fldN v 15 0 = 0 ∨ fldN v 25 16 = 0 ∨ 512 < fldN v 25 16 ∨ fldN v 63 32 = 0)
def engineCtlBad (v : Image) : Bool := decide (fldN v 23 16 = 0 ∨ fldN v 15 8 = 0 ∨ fldN v 7 0 = 0 ∨ 64 < fldN v 7 0)

/-- LOCK_GROUP `g` (R358). -/
def State.lockGroupBusy (s : State) (g : Nat) (was v : Image) : Bool :=
  (fldN was 7 0 != fldN v 7 0 || (bit was 15 && !bit v 15)) && (List.range 64).any (fun k => bit (s.lock (64 * g + k)) 31)

/-! Chapters 12 to 14 -/

/-- TRANS_CTL (R380, Table SVC-2). -/
def State.transCtlChk (s : State) (sl : Nat) (was v : Image) : Option Fdp :=
  oorBusy (decide (960 < fldN v 57 48) || (s.serviceMode && bit v 61))
    (setFld (was ^^^ v) 59 59 0 != 0 && !s.stopped sl)

/-- TRANS_STAGE_TWO (R380). -/
def stageTwoRule (sl : Nat) (was v : Image) : WriteRule :=
  let mode := fldN v 63 62
  { deny := fun role s => role == .operator && !bit (s.reg R.transOwner) 0
    chk := fun s => oorBusy (mode == 3 || (mode == 2 && sl != 0)) (was != v && !s.stopped sl) }

/-- The context whose entry a WQ's entry names. -/
def State.entryCtxOf (s : State) (wq pos : Nat) : Option Nat :=
  ((s.wq wq).bind (fun w => w.entries.find? (fun e => e.pos = pos))).map (fun e => entryCtx e.bytes)

/-- A matching context holds receives, messages or a rendezvous (R397). -/
def State.mctxBusy (s : State) (n : Nat) : Bool :=
  let c := s.mctx n
  !c.posted.isEmpty || !c.overflow.isEmpty || !c.unex.isEmpty
    || s.remote.peers.any (fun p => p.rdvR.any (fun r => s.entryCtxOf r.wq r.pos == some n)
        || p.rdvS.any (fun r => s.entryCtxOf r.wq r.pos == some n))

/-- MATCH_CTX (R397, Table SVC-2). -/
def State.matchCtxChk (s : State) (n : Nat) (was v : Image) : Option Fdp :=
  let x := mctxStation v
  oorBusy (decide (x < 0x40) || (s.stationSlice x).isNone || (bit v 63 && (s.serviceMode
      || (s.entriesOf R.matchCtx).any (fun e => e.1 != n && bit e.2 63 && mctxStation e.2 == x && mctxWire e.2 == mctxWire v))))
    (bit was 63 && s.mctxBusy n)

/-- MSG_SLICE_CTL (R413). -/
def msgSliceBad (v : Image) : Bool := decide (fldN v 51 48 = 0 ∨ 8 < fldN v 51 48 ∨ 128 < fldN v 47 40 ∨ 4080 < fldN v 12 0)

/-- JOBS (R413, R414). -/
def State.jobsBad (s : State) (sl e : Nat) (v : Image) : Bool :=
  fldN v 1 0 != 0 || (bit v 127 && (List.range 64).any (fun k => k != e && bit (s.reg R.jobs sl k) 127
    && fldN (s.reg R.jobs sl k) 119 96 == fldN v 119 96))

/-- MSG_CTL (R414), RMA_CTL (R446). -/
def msgCtlBad (v : Image) : Bool :=
  decide (fldN v 55 48 = 0 ∨ fldN v 47 40 = 0 ∨ fldN v 39 32 = 0 ∨ fldN v 31 16 = 0 ∨ fldN v 15 0 = 0)
def rmaCtlBad (v : Image) : Bool :=
  let init := fldN v 35 24
  decide (fldN v 63 56 = 0 ∨ fldN v 55 48 = 0 ∨ fldN v 47 36 = 0 ∨ init = 0 ∨ fldN v 23 12 = 0 ∨ fldN v 11 0 = 0
    ∨ init < fldN v 11 0 ∨ 100 * fldN v 23 12 < init)

/-- RMA_SLICE_CTL (R448): idle contexts above a lowered limit are evicted. -/
def rmaSliceRule (sl : Nat) (v : Image) : WriteRule :=
  { chk := fun _ => oor (decide (1024 < fldN v 26 16))
    eff := fun s => ((s.remote.peers.reverse.filter (fun p => p.slice == sl && p.idle)).foldl (fun s p =>
      if s.peerLimit sl < s.peersOf sl ∧ s.storeTakes p.pair then s.evict p else s) s, some .ok) }

/-! Chapters 15 to 17 -/

/-- COLL_CTL (R484). -/
def collCtlBad (v : Image) : Bool := decide (fldN v 15 8 = 0 ∨ 64 < fldN v 15 8 ∨ fldN v 7 0 = 0 ∨ 64 < fldN v 7 0)

/-- SVC_CTL (R486). -/
def State.svcCtlBad (s : State) (v : Image) : Bool :=
  let hosts (r : Nat) : Bool := (List.range 4).any (fun k => fldN (s.reg R.hostCtl k) 1 0 == r)
  fldN v 15 8 == 0 || (bit v 0 && (hosts 0 || !bit (s.reg R.serviceCtl 0 6) 31 || !bit (s.reg R.serviceCtl 0 7) 31))
    || (!bit v 0 && hosts 1)

/-- The links of a decoder's value: its first 2^WAYS TARGET entries. -/
def decoderTargets (v : Image) : List Nat := (List.range (2 ^ fldN v 126 125)).map (fun i => fldN v (98 + 3 * i) (96 + 3 * i))

/-- MEM_DECODER `d` (R490). -/
def State.decoderBad (s : State) (d : Nat) (v : Image) : Bool :=
  let size := fldN v 87 64
  let t := decoderTargets v
  decide (4 < fldN v 124 122) || decide (2 ^ 52 < fldN v 51 28 * 2 ^ 28 + size * 2 ^ 28)
    || decide (t.eraseDups.length ≠ t.length)
    || (bit v 127 && (decide (size = 0 ∨ size % 2 ^ fldN v 126 125 ≠ 0)
      || (List.range 8).any (fun k => k != d && bit (s.reg R.memDecoder 0 k) 127
          && (spansMeet (decoderSpan v) (decoderSpan (s.reg R.memDecoder 0 k))
            || (decoderTargets (s.reg R.memDecoder 0 k)).any (fun m => t.contains m)))))

/-- TWIN_POLICY (R530). -/
def twinPolicyBad (v : Image) : Bool :=
  decide (fldN v 39 32 = 0 ∨ fldN v 31 24 = 0 ∨ fldN v 20 16 = 0 ∨ fldN v 11 8 = 0 ∨ fldN v 7 0 = 0 ∨ fldN v 15 12 < 2
    ∨ fldN v 23 22 = 3)

/-- TWIN_SLICES entry `j` (R530). -/
def State.twinSlicesChk (s : State) (q : Req) (j : Nat) (was v : Image) : Option Fdp :=
  let moved := (List.range 32).filter (fun b => bit was b != bit v b)
  oorBusy (j == 0 && bit v 0) (moved.any (fun b => !s.stopped (32 * j + b)) || (!moved.isEmpty && q.partnerBusy))

/-- RESYNC_MODE (R530). -/
def resyncModeRule (v : Image) : WriteRule :=
  { deny := fun role _ => v == 1 && role != .installer
    chk := fun _ => oor (decide (1 < v.toNat)) }

/-- STAND_IN of row `r` (R525). -/
def State.standInBad (s : State) (r : Nat) (v : Image) : Bool :=
  let shape := s.eff R.groupShape
  (s.nodeValid && r == s.ownNode.row && bit v s.ownNode.col)
    || (List.range 8).any (fun k => bit v (2 * k) && bit v (2 * k + 1))
    || (decide (fldN shape 7 4 < r) && v != 0) || (List.range 16).any (fun c => bit v c && decide (fldN shape 3 0 < c))

/-! Chapters 18 to 22 -/

/-- FAULT_CTL (R549). -/
def faultCtlBad (v : Image) : Bool := decide (fldN v 31 24 = 0 ∨ fldN v 23 20 < 2)

/-- FAULT_REACTION of source `n` (R548, R550). -/
def reactionRule (n : Nat) (v : Image) : WriteRule :=
  let r : BitVec 64 := v.extractLsb' 0 64
  { life := fun s => (rxStart r == 4 || rxLimit r == 4 || rxSquall r == 4) && s.mgmt.lifecycle != .install
    chk := fun _ => oor (!faultValid n || decide (4 < rxStart r ∨ 4 < rxLimit r ∨ 4 < rxSquall r ∨ rxLimit r < rxStart r
      ∨ rxSquall r < rxStart r ∨ fldN r 45 31 = 0 ∨ fldN r 30 16 = 0 ∨ fldN r 15 1 = 0)
      || (protectedSrc n && (rxMask r || decide (rxStart r < 3)))) }

/-- AVS_CTL (R612), PACE_CTL (R616), THERMAL_CTL (R617). -/
def avsCtlBad (v : Image) : Bool :=
  decide (fldN v 30 20 < 1650 ∨ fldN v 7 0 < 0x10 ∨ 0x2C < fldN v 15 8 ∨ fldN v 15 8 < fldN v 7 0)
def paceCtlBad (v : Image) : Bool := decide (fldN v 7 0 = 0 ∨ fldN v 23 16 = 0 ∨ fldN v 15 8 ≤ fldN v 7 0)
def thermalCtlBad (v : Image) : Bool :=
  let trip := fldN v 23 16
  let alarm := fldN v 15 8
  let hyst := fldN v 7 0
  decide (trip < 100 ∨ 125 < trip ∨ alarm < 60 ∨ 115 < alarm ∨ hyst < 1 ∨ 20 < hyst ∨ trip ≤ alarm)

/-- AUDIT_ACK (R604). -/
def auditAckRule (v : Image) : WriteRule :=
  { chk := fun s => oor (decide (min s.mgmt.auditNext (2 ^ 32 - 1) ≤ v.toNat ∨ v.toNat < s.mgmt.auditAcked))
    eff := fun s => (s.updMgmt (fun m => { m with auditAcked := v.toNat }), some .ok) }

/-- FDP_CTL (R576, R586): a write may not close the path on which it arrives. -/
def fdpCtlBad (q : Req) (v : Image) : Bool :=
  fldN v 31 16 == 0 || (match q.path with
    | .inBand _ _ => !bit v 7
    | .mailbox _ _ => !bit v 6
    | _ => false)

/-- CONTROL_RECV (R575). -/
def State.controlRecvBad (s : State) (v : Image) : Bool :=
  decide (11 < fldN v 123 120) || (bit v 127 && !((s.cq (fldN v 113 100)).any (fun c => c.slice == 0)))

/-- A rule that only checks. -/
def chkOnly (f : State → Option Fdp) : WriteRule := { chk := f }

/-- Rules of the objects of chapters 0 to 9. -/
def objectRuleLo (r : Reg) (i : Nat) (e : Nat) (was v : Image) : WriteRule :=
  match r.obj, r.sub with
  | 0x1002, 1 => chkOnly (fun s => oor (s.addrBad v (s.reg R.groupShape)))
  | 0x1002, 2 => chkOnly (fun s => oor (s.addrBad (s.reg R.nodeAddr) v))
  | 0x2001, 2 => chkOnly (fun s => oor (!bit (s.reg R.eqProfile i v.toNat) 0 || s.disabled i))
  | 0x2002, 1 => eqProfileRule i e v
  | 0x2004, 3 => chkOnly (fun _ => oor (linkRuleBad v))
  | 0x2004, 4 => chkOnly (fun _ => oor (linkTimersBad v))
  | 0x2005, 1 => chkOnly (fun s => oor (s.creditBad i e v))
  | 0x3001, 1 => chkOnly (fun _ => oor (congBad e v))
  | 0x3002, 1 => chkOnly (fun _ => oor (decide (fldN v 31 16 ≤ fldN v 15 0)))
  | 0x3003, 1 => chkOnly (fun _ => oor (decide (fldN v 31 16 ≤ fldN v 15 0)))
  | 0x3004, 1 => chkOnly (fun _ => oor (decide (fldN v 31 16 ≤ fldN v 15 0)))
  | 0x3401, 1 => chkOnly (fun _ => oor (policyBad v))
  | 0x3401, 2 => chkOnly (fun _ => oor (levelsBad v))
  | 0x3411, 1 => chkOnly (fun s => oorBusy (s.groupBad e v) (s.opActive 6))
  | 0x3421, 1 => chkOnly (fun s => oorBusy (s.keyEntryBad (some e) v) (s.opActive 7))
  | 0x3422, 1 => chkOnly (fun _ => oor (strainerBad v))
  | 0x3100, 1 => egressClassRule i e was v
  | 0x3140, 1 => shaperRule was v (fun s l => s.updOutput i (fun x => { x with level := Table.set 0 x.level e l }))
  | 0x3200, 2 => shaperRule was v (fun s l => { s with injLevel := Table.set 0 s.injLevel i l })
  | 0x3180, 1 => { eff := fun s => (if bit v 0 then (s.updGate i (fun g => { g with enable := true, offAt := none })).applyGate i
      else s.updGate i (fun g => if g.enable then { g with offAt := some (s.tick + 1) } else g), some .ok) }
  | 0x31C0, 1 => policerRule false was v (fun s b => { s with inBuckets := Table.set {} s.inBuckets (8 * i + e) b })
  | 0x3200, 1 => policerRule true was v (fun s b => { s with injBuckets := Table.set {} s.injBuckets i b })
  | 0x53F0, 1 => chkOnly (fun _ => oor (ringRouteBad e v))
  | 0x7800, 1 => chkOnly (fun s => oor (s.hostCtlBad v))
  | 0x7801, 1 => chkOnly (fun s => s.funcMapChk i e v)
  | _, _ => {}

/-- Rules of the objects of chapters 10 to 16. -/
def objectRuleMid (r : Reg) (q : Req) (i : Nat) (e : Nat) (was v : Image) : WriteRule :=
  match r.obj, r.sub with
  | 0x4000, 3 => chkOnly (fun _ => oor (limitsBad v))
  | 0x4000, 4 => chkOnly (fun _ => oor (sliceKeyBad v))
  | 0x4000, 5 => { chk := fun s => s.stationsChk i e was v, eff := fun s => (s.bindStations i e, some .ok) }
  | 0x4002, 1 => chkOnly (fun _ => oor (engineShareBad v))
  | 0x4002, 2 => chkOnly (fun _ => oor (fldN v 15 0 == 0))
  | 0x5000, 1 => chkOnly (fun _ => oor (engineCtlBad v))
  | 0x5010, 1 => chkOnly (fun _ => oor (fldN v 16 0 == 0))
  | 0x5020, 1 => chkOnly (fun s => oorBusy false (s.lockGroupBusy e was v))
  | 0x5020, 17 => chkOnly (fun s => oorBusy false (s.lockGroupBusy (16 + e) was v))
  | 0x4001, 1 => chkOnly (fun s => s.transCtlChk i was v)
  | 0x4001, 2 => stageTwoRule i was v
  | 0x5200, 5 => chkOnly (fun _ => oor (fldN v 15 8 == 0 || fldN v 7 0 == 0))
  | 0x5400, 1 => chkOnly (fun s => s.matchCtxChk e was v)
  | 0x5500, 1 => chkOnly (fun _ => oor (msgSliceBad v))
  | 0x5500, 2 => chkOnly (fun s => oorBusy false (!s.stopped i))
  | 0x5500, 3 => chkOnly (fun s => oorBusy false (!s.stopped i))
  | 0x5500, 4 => chkOnly (fun s => oorBusy (s.jobsBad i e v) (!s.stopped i))
  | 0x5401, 1 => chkOnly (fun _ => oor (msgCtlBad v))
  | 0x5410, 1 => regionRule q e was v
  | 0x5411, 1 => chkOnly (fun _ => oor (rmaCtlBad v))
  | 0x5411, 2 => chkOnly (fun _ => oor (decide (4 < fldN v 62 60)))
  | 0x5600, 1 => rmaSliceRule i v
  | 0x5440, 1 => collCtxRule e was v
  | 0x5442, 1 => collSteepRule e was v
  | 0x5443, 1 => chkOnly (fun _ => oor (collCtlBad v))
  | 0x5120, 1 => chkOnly (fun s => oor (s.svcCtlBad v))
  | 0x5121, 1 => chkOnly (fun s => oor (s.decoderBad e v))
  | 0x5123, 1 => poolRule q e was v
  | _, _ => {}

/-- Rules of the objects of chapters 17 to 22, and of the management chapters. -/
def objectRuleHi (r : Reg) (q : Req) (i : Nat) (e : Nat) (was v : Image) : WriteRule :=
  match r.obj, r.sub with
  | 0x7100, 3 => chkOnly (fun _ => oor (twinPolicyBad v))
  | 0x7100, 5 => resyncModeRule v
  | 0x7101, 1 => chkOnly (fun s => s.twinSlicesChk q e was v)
  | 0x7102, 1 => chkOnly (fun s => oor (s.standInBad e v))
  | 0x6000, 1 => chkOnly (fun _ => oor (faultCtlBad v))
  | 0x6001, 1 => reactionRule e v
  | 0x7001, 1 => chkOnly (fun _ => oor (avsCtlBad v))
  | 0x7002, 1 => chkOnly (fun _ => oor (paceCtlBad v))
  | 0x7003, 1 => chkOnly (fun _ => oor (thermalCtlBad v))
  | 0x7010, 1 => { chk := fun _ => oor (timeCtlBad v), eff := fun s => (s.timeCtlDone (fldN was 63 62), some .ok) }
  | 0x6900, 1 => chkOnly (fun _ => oor (fldN v 55 48 == 0))
  | 0x1101, 4 => auditAckRule v
  | 0x1120, 1 => chkOnly (fun _ => oor (fdpCtlBad q v))
  | 0x1121, 1 => chkOnly (fun _ => oor (decide (4 < fldN v 10 8)))
  | 0x1122, 1 => chkOnly (fun s => oor (s.controlRecvBad v))
  | _, _ => objectRuleMid r q i e was v

/-- The rules of an object for one value. -/
def objectRule (r : Reg) (q : Req) (i : Nat) (e : Nat) (was v : Image) : WriteRule :=
  if r.obj < 0x4000 ∧ (r.obj < 0x1100 ∨ 0x1300 ≤ r.obj) ∨ r.obj = 0x53F0 ∨ 0x7800 ≤ r.obj then objectRuleLo r i e was v
  else objectRuleHi r q i e was v

end Sys2Proof.Machine
end

