-- ==== Sys2Proof/Machine/Links.lean ====
section
/-! DEFINITION. Meanings of the link commands (chapter 4): cells sent and received, replay, link-up, wiring notices, aborts,
flush; and the pressure report of chapter 6 that the bypass channel carries. -/

namespace Sys2Proof.Machine

/-- LINK_CELL_TRANSMIT (R111). -/
def execLinkCellTransmit (p : Port) (s : State) : Result := .next (s.transmit p)

/-- The sequence rule of a sequenced cell (R120); nothing is accepted outside UP, WIRING_FAULT and PEER_FAULT. -/
def State.sequenced (s : State) (p : Nat) (c : LinkCell) (accept : State → State) : State :=
  if !(s.link p).st.running then s
  else
    let d := seqAhead 12 c.lseq (s.link p).expect
    if d = 0 then accept (s.advanceExpect p)
    else if d < 2048 then s.sendNak p
    else s.countPort p 6

/-- DATA_CELL_RECEIVE (R106, R120, R149, R253). -/
def execDataCellReceive (p : Port) (c : LinkCell) (fate : CellFate) (s : State) : Result :=
  let go (s : State) (bad : Bool) : State :=
    s.received p c (fun s => if c.isData then s.sequenced p c (fun s => s.acceptData p c bad) else s)
  .next (match fate with
    | .overrun => (s.countPort p 31).overrun p (5 + 8 * p)
    | .carried => go s false
    | .eccCorrected => go (s.countDev 15) false
    | .eccBad => go ((s.countDev 16).raise (4 + 8 * p)) true)

/-- The LSEQ of a cell that takes no sequence shows a lost tail: a NAK (R120). -/
def State.tailCheck (s : State) (p : Nat) (c : LinkCell) : State :=
  let d := seqAhead 12 c.lseq (s.link p).expect
  if (s.link p).st.running ∧ 0 < d ∧ d < 2048 then s.sendNak p else s

/-- IDLE_CELL_RECEIVE (R106, R120). -/
def execIdleCellReceive (p : Port) (c : LinkCell) (s : State) : Result :=
  .next (s.received p c (fun s => if c.type = .idle then s.tailCheck p c else s))

/-- One bypass message reaches its owner (R109, R181): a pressure report is recorded, time messages and heartbeats wait
for their own commands, a reserved TYPE is counted. -/
def State.bypassMsg (s : State) (p : Nat) (m : BypassMsg) : State :=
  let ty := fldN m 7 0
  if ty = 0 then s
  else if ty = 1 then
    if p = 48 then s
    else s.updLink p (fun k => { k with report := some (m.extractLsb' 16 96, s.uptime) })
  else if ty = 2 ∨ ty = 3 ∨ ty = 4 then
    if ty = 4 ∧ p ≠ 48 then s
    else { s with bypassIn := s.bypassIn ++ [(p, m, s.timeQ)] }
  else if ty < 0xF0 then s.countPort p 11
  else s

/-- BYPASS_CELL_RECEIVE (R109, R120). -/
def execBypassCellReceive (p : Port) (c : LinkCell) (s : State) : Result :=
  .next (s.received p c (fun s =>
    if c.type ≠ .bypass then s
    else (List.range 8).foldl (fun s i => s.bypassMsg p (c.body.extractLsb' (128 * i) 128)) (s.tailCheck p c)))

/-- A control cell that is not an abort, of operation `op` (Table LNK-5). -/
def LinkCellIs (c : LinkCell) (op : Nat) : Bool :=
  c.type == .control && !c.isAbort && bodyByte c.body 0 == op

/-- The body of a LINK_INIT (Table LNK-5). -/
def initOf (c : LinkCell) : InitInfo :=
  { addrValid := bit c.body 8, rate := bit c.body 9, epoch := c.body.extractLsb' 16 16
    peerEpoch := c.body.extractLsb' 32 16, rxExpect := c.body.extractLsb' 48 12
    node := c.body.extractLsb' 64 20, port := bodyByte c.body 11, role := bodyByte c.body 12 }

/-- FRESH of the answer to a LINK_INIT (R125): 0 only if everything the port recorded still holds. -/
def State.freshFor (s : State) (p : Nat) (i : InitInfo) : Bool :=
  let k := s.link p
  match k.partner with
  | none => true
  | some q => !(i.epoch == q.epoch && i.node == q.node && i.port == q.port && i.peerEpoch == s.epoch p
      && decide ((i.rxExpect - k.oldest).toNat ≤ (k.nextSeq - k.oldest).toNat))

/-- LINK_INIT (R125).  A port already up repeats the FRESH it sent in its INIT while the partner's epoch is the
recorded one. -/
def execLinkInit (p : Port) (c : LinkCell) (s : State) : Result :=
  .next (s.received p c (fun s =>
    let i := initOf c
    let k := s.link p
    if !LinkCellIs c 1 then s
    else if k.st = .init then
      let fresh := s.freshFor p i
      (s.setLink p { k with initRx := some i, sentFresh := fresh }).queueCtl p (.linkInitAck fresh i.epoch)
    else if k.st.running ∧ (k.partner.map (·.epoch)) = some i.epoch then
      s.queueCtl p (.linkInitAck k.sentFresh i.epoch)
    else s))

/-- LINK_INIT_ACK (R125–R127, R144): an acknowledgement that echoes another epoch is not one of this INIT. -/
def execLinkInitAck (p : Port) (c : LinkCell) (s : State) : Result :=
  .next (s.received p c (fun s =>
    let k := s.link p
    if LinkCellIs c 2 ∧ k.st = .init ∧ c.body.extractLsb' 16 16 = s.epoch p then
      match k.initRx with
      | some i => s.linkUp p i (k.sentFresh || bit c.body 8)
      | none => s
    else s))

/-- LINK_INIT_RESEND (R125). -/
def execLinkInitResend (p : Port) (s : State) : Result :=
  .next (if (s.link p).st = .init then s.queueCtl p (.linkInit (s.initInfo p)) else s)

/-- INIT_TIMEOUT (R128): it cannot expire while the port's timers pause (R142). -/
def execInitTimeout (p : Port) (s : State) : Result :=
  .next (if (s.link p).st = .init ∧ (s.link p).pauseAt.isNone then s.declareDown p 5 .retryWait else s)

/-- A replay from `e` started less than REPLAY_TIMEOUT ago (R121). -/
def State.replayRecent (s : State) (p : Nat) (e : BitVec 12) : Bool :=
  match (s.link p).lastReplay with
  | some (e', t) => e' == e && decide (2 * (s.portClock p - t) < 25 * fldN (s.eff R.linkTimers p) 7 0)
  | none => false

/-- NAK (R121, R145).  DESIGN CHOICE (log 53): a NAK of the next sequence lies between the two and starts a replay, of
which no cell is resent. -/
def execNak (p : Port) (c : LinkCell) (s : State) : Result :=
  .next (s.received p c (fun s =>
    let k := s.link p
    let e := c.body.extractLsb' 16 12
    if !LinkCellIs c 3 ∨ !k.st.running ∨ (k.nextSeq - k.oldest).toNat < (e - k.oldest).toNat then s
    else if s.replayRecent p e then s
    else if k.replayAt.isSome ∧ (k.lastReplay.map (·.1)) ≠ some e then s.setLink p (k.ackTo e)
    else s.startReplay p e))

/-- REPLAY_TIMEOUT (R121): it cannot expire while the port's timers pause (R142). -/
def execReplayTimeout (p : Port) (s : State) : Result :=
  let k := s.link p
  .next (if k.st.running ∧ k.pauseAt.isNone ∧ k.oldest ≠ k.nextSeq then s.startReplay p k.oldest else s)

/-- LINK_DOWN (R131). -/
def execLinkDown (p : Port) (c : LinkCell) (s : State) : Result :=
  .next (s.received p c (fun s => if LinkCellIs c 4 then s.declareDown p 6 .retryWait else s))

/-- WIRING_NOTICE (R139, R144): the port's own check stands as it was last made. -/
def execWiringNotice (p : Port) (c : LinkCell) (s : State) : Result :=
  .next (s.received p c (fun s =>
    let k := s.link p
    if !LinkCellIs c 5 then s
    else
      let f := bit c.body 8
      if k.st = .init then s.setLink p { k with peerWiring := f }
      else if k.st.running then
        (s.setLink p { k with peerWiring := f }).applyWiring p (k.st != .wiringFault) (k.st == .wiringFault)
      else s))

/-- WIRING_NOTICE_REPEAT (R139). -/
def execWiringNoticeRepeat (p : Port) (s : State) : Result :=
  .next (if (s.link p).st = .wiringFault then s.queueCtl p (.wiringNotice true) else s)

/-- ABORT (R136). -/
def execAbort (p : Port) (c : LinkCell) (s : State) : Result :=
  let reason := bodyByte c.body 1
  .next (s.received p c (fun s =>
    if c.isAbort then
      s.sequenced p c (fun s =>
        let s := s.abortOpen p c.vc.toNat reason
        if 1 ≤ reason ∧ reason ≤ 4 then s.countAbort p reason else s)
    else s))

/-- ERROR_RATE_WINDOW_END (R129, R130): in Zalden mode the counts never bring the link down.  The window
does not end while the port's timers pause (R142). -/
def execErrorRateWindowEnd (p : Port) (s : State) : Result :=
  let k := s.link p
  .next (if !k.st.running ∨ k.pauseAt.isSome then s
    else if !(s.lane p).rateActive ∧ fldN (s.eff R.linkDownRule p) 7 0 * k.winCells < k.winReplays * 1000000 then
      s.declareDown p 1 .retryWait
    else s.setLink p { k with winCells := 0, winReplays := 0 })

/-- FLUSH (R138, R140): answered OK when the flush is done. -/
def execFlush (q : Req) (p : Port) (v : Image) (s : State) : Result :=
  .next (s.dictRun q R.linkCtl p 0 v
    (fun s => if bit v 0 ∧ (s.link p).st ≠ .down then some .busy else none)
    (fun s => if bit v 0 then (s.flushPort p, none) else (s, some .ok)))

/-- FLUSH_DONE (R138). -/
def execFlushDone (p : Port) (s : State) : Result :=
  let k := s.link p
  .next (if k.flushing then
      let s := (s.setLink p { k with flushing := false }).answerOwed (R.linkCtl.index p) 1 .ok
      if k.initWaits ∧ (s.lane p).st = .laneUp then s.enterInit p else s
    else s)

/-- PRESSURE_REPORT_SEND (R179, R180, Table RTE-4). -/
def execPressureReportSend (p : FabricPort) (s : State) : Result :=
  .next (if (s.link p).st.running then
      let levels := ((List.range 48).map (fun x => at' (2 * x) (s.level x))).sum
      let m : BypassMsg := BitVec.ofNat 128 (1 + at' 8 (s.link p).reportSeq.toNat + at' 16 levels)
      (s.updLink p (fun k => { k with reportSeq := k.reportSeq + 1 })).queueBypass p m
    else s)

end Sys2Proof.Machine
end

