-- ==== Sys2Proof/Machine/LiveValues.lean ====
section
/-! DEFINITION. What the read-only objects report of the state, and what a read clears (R7, R558). -/

namespace Sys2Proof.Machine

/-- A signed number in `n` bits, two's complement, saturating. -/
def signedIn (n : Nat) (x : Int) : Nat :=
  let top : Int := (2 ^ (n - 1) : Nat)
  (BitVec.ofInt n (max (-top) (min (top - 1) x))).toNat

/-- 2⁻³² ns in 0.1 ns (Table PWR-11). -/
def tenthNs (x : Int) : Int := x * 10 / (2 ^ 32 : Nat)

/-! Chapters 3 to 9 -/

/-- LANE_STATUS (Table LAN-9). -/
def Lane.status (l : Lane) : Nat :=
  at' 28 l.st.code + at' 27 (b2n l.txReady) + at' 26 (b2n l.rxClock) + at' 20 l.lastFail.code + at' 17 l.profileActive
    + at' 16 (b2n l.rateActive) + at' 8 (min l.skew 255) + min l.retries 255

/-- LINK_STATUS (Table LNK-9). -/
def State.linkStatus (s : State) (p : Nat) : Nat :=
  let k := s.link p
  let q := k.partner.getD {}
  at' 60 k.st.code + at' 56 k.lastDown + at' 55 (b2n k.resumed) + at' 54 (b2n q.addrValid) + at' 48 (q.port % 64)
    + at' 16 q.node.toNat + (s.epoch p).toNat

/-- BACKLOG entry (Table XBR-6). -/
def State.backlogEntry (s : State) (e : Nat) : Nat :=
  let o := s.output (e / 8)
  at' 20 (min (Table.get 0 o.avg (e % 8) / 4096) 0xFFF) + Table.get 0 o.bLast (e % 8) % 2 ^ 20

/-- GATE_STATUS (Table SCH-11). -/
def State.gateStatus (s : State) (p : Nat) : Nat :=
  let g := (s.output p).gate
  let pos (l : GateList × Nat) : Nat := (s.tick - l.2) % l.1.cycle
  at' 56 (g.openAt s.tick).toNat + at' 55 (b2n g.active.isSome) + at' 54 (b2n g.staged.isSome) + at' 53 (b2n g.switchAt.isSome)
    + (match g.active with | some l => at' 44 (l.1.entryAt (pos l) % 256) + pos l % 2 ^ 24 | none => 0)
    + at' 40 (((List.range 4).map (fun k => if (nthD {} g.overrides k).win.covers s.tick then 2 ^ k else 0)).sum)

/-- STATE of a host link by the port's role (Table HST-9). -/
def State.hostLinkSt (s : State) (k l : Nat) : Nat :=
  let x := (s.hport k).link l
  if s.hostRole k = 2 then 15
  else if l = 1 ∧ !s.bifurcated k then 15
  else if s.hostRole k = 1 ∧ (s.hport k).perst then 9
  else if (s.hport k).perst then 8
  else x.st

/-- HOST_STATUS (Table HST-9). -/
def State.hostStatus (s : State) (k : Nat) : Nat :=
  let h := s.hport k
  at' 60 (s.hostLinkSt k 0) + at' 56 (s.hostLinkSt k 1) + at' 51 h.linkA.width + at' 46 h.linkB.width + at' 43 h.linkA.speed
    + at' 40 h.linkB.speed + at' 39 (b2n h.linkA.cxl) + at' 38 (b2n h.linkB.cxl) + at' 37 (b2n h.pin) + at' 36 (b2n (s.wakePin k))

/-- Objects of chapters 0 to 9. -/
def State.liveLo (s : State) (r : Reg) (i e : Nat) : Nat :=
  match r.obj, r.sub with
  | 0x1000, 1 => s.partIdent
  | 0x1000, 2 => s.straps.deviceId.toNat
  | 0x1000, 3 => s.straps.deviceId.toNat + (Config.deviceCert s.mgmt.keyGen).toNat / 2 ^ 64 * 2 ^ 64
  | 0x2001, 3 => (s.lane i).status
  | 0x2004, 2 => s.linkStatus i
  | 0x3005, 1 => s.backlogEntry e
  | 0x3006, 1 => (s.input e).fill
  | 0x3100, 10 => if s.strict i e then 0 else signedIn 32 (Table.get 0 (s.output i).deficit e)
  | 0x3180, 4 => s.gateStatus i
  | 0x7800, 2 => s.hostStatus i
  | _, _ => 0

/-! Chapters 10 to 16 -/

/-- A slice's items in intakes and deques, and parked. -/
def State.itemsWaiting (s : State) (sl : Nat) : Nat :=
  (s.host.engines.items.filter (fun x => x.slice == sl && (match x.place with | .intake | .deque _ => true | _ => false))).length
def State.itemsParked (s : State) (sl : Nat) : Nat :=
  (s.host.engines.items.filter (fun x => x.slice == sl && (match x.place with | .parked _ => true | _ => false))).length

/-- COLL_STATUS (Table COL-10). -/
def State.collStatus (s : State) (n : Nat) : Nat :=
  let c := s.coll n
  let st := if !s.collValid n then 0 else match c.st with | .idle => 1 | .active => 2 | .aborted => 3
  at' 60 st + at' 56 c.cause + at' 48 (c.attempt % 256) + at' 38 (min c.downD.length 512) + c.last

/-- MEM_STATUS (Table SVC-4): a link of a ROOT port under PERST# is HELD. -/
def State.memStatus (s : State) (m : Nat) : Nat :=
  let x := s.memLink m
  let held := s.hostRole (m / 2) == 1 && (s.hport (m / 2)).perst && (m % 2 == 0 || s.bifurcated (m / 2))
  let d := s.service.committed.find? (fun d => (s.decoderLinks d).contains m)
  at' 60 (if held then 1 else x.st.code) + (match d with | some d => at' 59 1 + at' 56 d | none => 0) + x.capacity % 2 ^ 24

/-- SERVICE_IDENT (R361). -/
def State.serviceIdent (s : State) : Nat :=
  if s.mgmt.recovery then 0
  else
    let v := if s.mgmt.runningB then s.mgmt.bankB.version else s.mgmt.bankA.version
    (Config.serviceIdent (2 * v + b2n s.mgmt.runningB)).toNat / 2 ^ 16 * 2 ^ 16 + (if s.mgmt.runningB then 0x0B else 0x0A)

/-- Objects of chapters 10 to 16. -/
def State.liveMid (s : State) (r : Reg) (i e : Nat) : Nat :=
  match r.obj, r.sub with
  | 0x4000, 2 => (s.slice i).status
  | 0x4002, 4 => at' 48 (s.busy i) + at' 24 (s.itemsWaiting i) + s.itemsParked i
  | 0x5000, 2 => ((List.range 32).map (fun b => if s.inService (32 * e + b) then 2 ^ b else 0)).sum
  | 0x5021, 1 => (s.lock e).toNat
  | 0x5101, 1 => s.serviceIdent
  | 0x5441, 1 => s.collStatus e
  | 0x5122, 1 => s.memStatus e
  | _, _ => 0

/-- Stored objects with bits that report live state: DRAINED (R336, R352), IN_SERVICE (R251). -/
def State.liveBits (s : State) (r : Reg) (i : Nat) : Nat :=
  match r.obj, r.sub with
  | 0x4002, 3 => if s.sliceFrost i && !s.host.arb.bursts.any (fun b => b.granted && b.slice == i) then 2 else 0
  | 0x5010, 2 => if s.linkFrost (2 * i) && !s.host.arb.bursts.any (fun b => b.granted && b.inst / 2 == i) then 2 else 0
  | 0x53F1, 2 => fldN (s.reg R.ringCtl) 3 0
  | _, _ => 0

/-! Chapters 17 to 22, and management -/

/-- TWIN_STATUS (Table TWN-12). -/
def State.twinStatus (s : State) : Nat :=
  let t := s.twin
  at' 60 t.st.code + at' 56 (match t.partner with | some b => b.state % 16 | none => 15) + at' 52 t.adoptCause + at' 51 (b2n t.hb)
    + at' 50 (b2n s.beats) + at' 49 (b2n t.pinFault) + at' 48 (b2n t.shadowValid) + at' 32 t.gen + at' 16 (min t.hot 65535)
    + min t.cold 65535

/-- FAULT_SUMMARY (Table FLT-10). -/
def State.faultSummary (s : State) : Nat :=
  let f := s.faults
  let n (st : FaultSt) : Nat := (f.srcs.filter (fun e => e.2.st == st)).length
  at' 63 (b2n f.silent) + at' 60 f.silentCause + at' 59 (b2n f.aOk) + at' 58 (b2n f.bOk) + at' 36 (n .active) + at' 24 (n .held)
    + at' 12 (n .latched) + min f.lost 4095

/-- FAULT_STATE (Table FLT-12). -/
def FaultSrc.status (x : FaultSrc) : Nat :=
  at' 61 x.st.code + at' 58 x.rung + at' 57 (b2n x.squall) + at' 56 (b2n x.wire) + at' 55 (b2n x.began)
    + at' 40 (min (x.window.getD 0) 255) + min x.recoveries (2 ^ 32 - 1)

/-- TOKEN_RATE (Table PWR-5), AVS_STATUS (Table PWR-3), TIME_STATUS (Table PWR-11). -/
def State.tokenRate (s : State) : Nat :=
  let p := s.power
  at' 52 (min p.now 4095) + at' 40 (min (p.low.getD 0) 4095) + at' 32 p.tj.toNat + at' 16 (min p.intervals 65535) + min p.longest 65535
def State.avsStatus (s : State) : Nat :=
  let p := s.power
  at' 24 (p.request % 256) + at' 16 (p.readback % 256) + at' 15 (b2n p.avsFault) + at' 14 (b2n p.limit) + min p.errors 4095
def State.timeStatus (s : State) : Nat :=
  let t := s.time
  at' 62 t.st.code + at' 61 (b2n t.refclkLost) + at' 60 (b2n t.ppsSeen) + at' 32 (signedIn 16 (tenthNs t.offset))
    + at' 16 ((max 0 (min 65535 (tenthNs t.delay))).toNat) + signedIn 16 (t.f * (10 ^ 8 : Nat) / (2 ^ 35 : Nat))

/-- WINDOW_STATUS (R640). -/
def WinSt.code : WinSt → Nat | .free => 0 | .pending => 1 | .running => 2 | .writing => 3
def State.windowStatus (s : State) : Nat :=
  at' 48 s.storeFree + ((List.range 16).map (fun k => at' (2 * k) (s.ctrWindow k).win.st.code)).sum

/-- SESSION_STATUS entry (Table MGT-20). -/
def State.sessionStatus (s : State) (e : Nat) : Nat :=
  let x := s.sess (e + 1)
  if x.st = .free then 0
  else at' 60 x.st.code + at' 58 (roleCode x.role) + at' 56 (pathCode x.path) + at' 48 x.last.toNat
    + (match x.path with
      | .can n => n % 128
      | .inBand n st => n.toNat + at' 20 st.toNat
      | .mailbox k l => k + at' 2 l
      | .pair => ((s.twin.partner.map (·.node)).getD s.ownNode.twin).toNat)

/-- The error state: MONITOR with bus node 0, or in fail silent once its distress frame is out (Table MGT-12). -/
def State.canSt (s : State) : CanSt :=
  if s.straps.mgmtId % 128 = 0 ∨ (s.faults.silent ∧ s.mgmt.can.distress.isNone) then .monitor else s.mgmt.can.st

/-- CAN_STATUS (Table MGT-22). -/
def State.canStatus (s : State) : Nat :=
  let c := s.mgmt.can
  at' 62 s.canSt.code + at' 48 (min c.rxErr 255) + at' 39 (min c.txErr 511) + at' 32 (s.straps.mgmtId % 128) + at' 16 (min c.busOffs 65535)
    + min c.distressSent 65535

/-- MAINT_STATUS and OP_STATE (Tables MGT-16, MGT-17). -/
def State.maintStatus (s : State) : Nat :=
  ((List.range 10).map (fun k =>
    if s.ops.any (fun e => e.1 / 64 == k + 1 && (e.2.st == 1 || e.2.st == 2)) then 2 ^ k else 0)).sum
def OpSt.status (o : OpSt) : Nat := at' 60 o.st + at' 52 o.fail + o.runs

/-- FW_STATUS (Table SEC-11). -/
def State.fwStatus (s : State) : Nat :=
  let m := s.mgmt
  at' 120 (if m.recovery then 0 else if m.runningB then 0x0B else 0x0A) + at' 119 (b2n m.fallback) + at' 118 (b2n m.recovery)
    + at' 117 (b2n m.bankA.valid) + at' 116 (b2n m.bankB.valid) + at' 64 m.bankA.version + at' 32 m.bankB.version + m.minVersion

/-- CADDY_STATUS (R601): LIVE, the KiB of live records, is a free value. -/
def State.caddyStatus (s : State) : Nat :=
  let m := s.mgmt
  at' 56 m.segFree + at' 32 ((Config.openValue s.draws).toNat % 2 ^ 24) + at' 16 (min m.compactions 65535) + min m.verifyFails 65535

/-- Objects of chapters 17 to 22. -/
def State.liveHi (s : State) (r : Reg) (e : Nat) : Nat :=
  match r.obj, r.sub with
  | 0x7100, 2 => s.twinStatus
  | 0x6000, 3 => s.faultSummary
  | 0x6002, 1 => (s.src e).status
  | 0x6003, 1 => match s.faults.log.find? (fun x => x.1 = e) with | some x => x.2.word.toNat | none => 0
  | 0x6003, 2 => s.faults.logSeq
  | 0x7000, 1 => s.tokenRate
  | 0x7001, 2 => s.avsStatus
  | 0x7010, 2 => s.timeStatus
  | 0x7020, 2 => at' 28 s.lastReset + min s.resets 65535
  | 0x6800, 1 => (s.counter e).toNat
  | 0x6810, 33 => s.windowStatus
  | _, _ => 0

/-- Objects of the management chapters. -/
def State.liveMgmt (s : State) (r : Reg) (i e : Nat) : Nat :=
  match r.obj, r.sub with
  | 0x1001, 1 => s.mgmt.lifecycle.code
  | 0x1101, 1 => match s.mgmt.audit.find? (fun x => x.1 = e) with | some x => natOfBytes x.2.bytes | none => 0
  | 0x1101, 2 => at' 32 (min s.mgmt.auditNext (2 ^ 32 - 1)) + s.mgmt.auditAcked
  | 0x1102, 1 => s.caddyStatus
  | 0x1103, 1 => s.fwStatus
  | 0x1120, 2 => s.sessionStatus e
  | 0x1121, 2 => s.canStatus
  | 0x1200, 1 => s.maintStatus
  | 0x1200, 2 => (s.op i (if r.entries = 0 then 0 else e)).status
  | _, _ => 0

/-- The value that an object reports, as a number. -/
def State.liveNat (s : State) (r : Reg) (i e : Nat) : Nat :=
  if 0x1001 ≤ r.obj ∧ r.obj < 0x1300 then s.liveMgmt r i e
  else if r.obj < 0x4000 ∨ 0x7800 ≤ r.obj then s.liveLo r i e
  else if r.obj < 0x6000 then s.liveMid r i e
  else s.liveHi r e

/-- What a read of an entry returns (R7): WO fields read zero. -/
def State.readNat (s : State) (r : Reg) (i e : Nat) : Nat :=
  if r.live then s.liveNat r i e
  else ((s.reg r i e) &&& ~~~ BitVec.ofNat 1024 r.wo).toNat ||| s.liveBits r i

/-- RC fields clear as they are read (R7); TOKEN_RATE.LOW reloads with NOW. -/
def State.afterRead (s : State) (r : Reg) (i e : Nat) : State :=
  if r.rc = 0 then (if r.obj = 0x1102 then s.drawn else s)
  else if !r.live then s.setReg r i e (s.reg r i e &&& ~~~ BitVec.ofNat 1024 r.rc)
  else match r.obj with
  | 0x2001 => s.updLane i (fun l => { l with retries := 0 })
  | 0x6000 => s.updFaults (fun f => { f with lost := 0 })
  | 0x7000 => s.updPower (fun p => { p with low := some p.now, intervals := 0, longest := 0 })
  | 0x7001 => s.updPower (fun p => { p with errors := 0 })
  | _ => s

end Sys2Proof.Machine
end

