-- ==== Sys2Proof/Machine/Dictionary.lean ====
section
/-! DEFINITION. READ, WRITE and INFO of the dictionary (R554–R561): any object, any entries. -/

namespace Sys2Proof.Machine

/-- The state that a command's answer leaves. -/
def Result.stateOr (r : Result) (s : State) : State :=
  match r with
  | .next t => t
  | _ => s

/-- A request for an index or subindex that does not exist (R554, R556, R595). -/
def State.noObject (s : State) (q : Req) (obj sub : Nat) (role : Role) : State :=
  if 0xF000 ≤ obj then
    s.answer q obj sub (if role ≠ .maker then .accessDenied else if s.mgmt.lifecycle = .service then .lifecycleState else .noSuchObject)
  else s.answer q obj sub .noSuchObject

/-! READ (R558) -/

/-- The bytes of entries `e` to `e + n − 1`. -/
def State.readBytes (s : State) (r : Reg) (i e n : Nat) : List Byte :=
  (List.range n).flatMap (fun k => bytesOf (BitVec.ofNat r.bits (s.readNat r i (e + k))) (r.bits / 8))

/-- A DOMAIN that is written only holds no value to be read (R7). -/
def Reg.emptyRead (r : Reg) : Bool := r.ty == 12 && r.wo != 0

/-- FDP_READ. -/
def execFdpRead (q : Req) (obj sub entry count : Nat) (s : State) : Result :=
  let q := (q.of 0x10).entries entry count
  .next (s.serve q obj sub (fun role s =>
    if sub = 0 ∧ highestSub obj ≠ 0 then
      (if q.odd ∨ entry ≠ 0 ∨ count ≠ 0 then s.answer q obj sub .outOfRange
      else s.answer q obj sub .ok [BitVec.ofNat 8 (highestSub obj)])
    else match findObject obj sub with
    | none => s.noObject q obj sub role
    | some (r, i, e) =>
      if q.odd ∨ (if r.entries = 0 then entry ≠ 0 ∨ count ≠ 0
          else count = 0 ∨ r.entries < entry + count ∨ 4072 < count * (r.bits / 8)) then s.answer q obj sub .outOfRange
      else if r.emptyRead then s.answer q obj sub .ok []
      else
        let e0 := if r.entries = 0 then e else entry
        let n := if r.entries = 0 then 1 else count
        let body := s.readBytes r i e0 n
        ((List.range n).foldl (fun s k => s.afterRead r i (e0 + k)) s).answer q obj sub .ok body)
    (decide (0x1000 ≤ obj ∧ obj ≤ 0x11FF)))

/-! WRITE (R556, R558) -/

/-- A write whose length is not that of the object's type (R555), after the checks that come before (R14). -/
def State.writeLength (s : State) (q : Req) (r : Reg) (i e : Nat) (obj sub : Nat) : State :=
  s.serve q obj sub (fun role s =>
    if r.writable i role = 0 ∨ (objectRule r q i e 0 0).deny role s then s.answer q obj sub .accessDenied
    else if s.lifeForbids role ∨ ((mirrorScope r i).isSome ∧ s.twin.st = .surrendered) then s.answer q obj sub .lifecycleState
    else s.answer q obj sub .typeMismatch)

/-- Writes of DOMAIN objects that are written only. -/
def State.domainOf (s : State) (q : Req) (r : Reg) (i : Nat) (body : List Byte) : Option State :=
  match r.obj, r.sub with
  | 0x3180, 2 => some ((execGateLoad q i body s).stateOr s)
  | 0x1205, 1 => some (s.fwStage q body)
  | 0x1205, 3 => some (s.fwChunkWrite q body)
  | 0x120A, 1 => some (s.lifecycleWrite q body)
  | _, _ => none

/-- Writes of the fabric's objects that have a row of their own. -/
def State.ownLo (s : State) (q : Req) (r : Reg) (i e : Nat) (v : Image) : Option State :=
  match r.obj, r.sub with
  | 0x2001, 1 => some (s.laneCtlWrite q i v)
  | 0x2001, 4 => some ((execTestPattern q i v s).stateOr s)
  | 0x2004, 1 => some ((execFlush q i v s).stateOr s)
  | 0x3400, 1 => some ((execPortRole q e v s).stateOr s)
  | 0x3421, 2 => some ((execKeyInsert q v s).stateOr s)
  | 0x3180, 3 => some ((execGateSwitch q i v s).stateOr s)
  | 0x3180, 5 => some ((execGateOverride q i e v s).stateOr s)
  | 0x3180, 9 => some ((execGateOverrideStop q i e v s).stateOr s)
  | 0x53F1, 1 => some (s.ringCtlWrite q v)
  | _, _ => none

/-- Writes of slices, translation, messaging and collectives that have a row of their own. -/
def State.ownMid (s : State) (q : Req) (r : Reg) (i : Nat) (v : Image) : Option State :=
  match r.obj, r.sub with
  | 0x4000, 1 => some (s.sliceCtlWrite q i v)
  | 0x4000, 6 => some (s.queueCmdWrite q i v)
  | 0x4000, 7 => some (s.wakeTestWrite q i v)
  | 0x5021, 2 => some (s.lockBreakWrite q v)
  | 0x5200, 1 => some ((execTlbLoad q v s).stateOr s)
  | 0x5200, 2 => some ((execTlbInval q v s).stateOr s)
  | 0x5200, 3 => some (s.retryWrite q v)
  | 0x5500, 5 => some (s.rankInvalWrite q i v)
  | 0x5441, 2 => some (s.collEpochWrite q v)
  | 0x5441, 3 => some (s.collAbortWrite q v)
  | 0x5442, 2 => some (s.collSteepClearWrite q v)
  | _, _ => none

/-- CAN_RECOVER (R580, R586): acts only in BUS_OFF with AUTO_RECOVER 0. -/
def State.canRecoverWrite (s : State) (q : Req) (v : Image) : State :=
  s.dictWrite q R.canRecover 0 0 v (fun _ => none)
    (fun s => (if v = 1 ∧ s.mgmt.can.st = .busOff ∧ !bit (s.eff R.canCtl) 11 then
        s.updMgmt (fun m => { m with can := { m.can with recovering := true } })
      else s, .ok))

/-- Writes of the device's own objects that have a row of their own. -/
def State.ownHi (s : State) (q : Req) (r : Reg) (i e : Nat) (v : Image) : Option State :=
  match r.obj, r.sub with
  | 0x7100, 1 => some (s.twinCtlWrite q v)
  | 0x6000, 4 => some (s.faultAckWrite q v)
  | 0x6000, 5 => some (s.faultClearWrite q v)
  | 0x6000, 6 => some (s.faultForceWrite q v)
  | 0x7010, 3 => some (s.timeSetWrite q v)
  | 0x7020, 1 => some (s.devResetWrite q v)
  | 0x6802, 1 => some (s.snapshotWrite q v)
  | 0x6810, 1 => some (s.ctrWindowWrite q e v)
  | 0x6810, 17 => some (s.ctrWindowStop q e v)
  | 0x6820, 1 => some (s.sampleWrite q v)
  | 0x6820, 2 => some (s.sampleStopWrite q v)
  | 0x1103, 2 => some (s.fwSelectWrite q v)
  | 0x1121, 3 => some (s.canRecoverWrite q v)
  | 0x1201, 1 => some ((execLaneCal q v s).stateOr s)
  | 0x1202, 1 => some ((execEqLoad q v s).stateOr s)
  | 0x1200, 1 =>
    match i with
    | 3 => some ((execTwinResync q v s).stateOr s)
    | 4 => some ((execCaddyCompact q v s).stateOr s)
    | 6 => some ((execRouteSwap q v s).stateOr s)
    | 7 => some ((execKeyTableSwap q v s).stateOr s)
    | 8 => some ((execControlScrub q v s).stateOr s)
    | 9 => some ((execCounterClearAll q v s).stateOr s)
    | _ => none
  | _, _ => none

/-- The values that a body spells, each of `n` bytes. -/
def valuesOf (n : Nat) : Nat → List Byte → List Image
  | 0, _ => []
  | k + 1, b => BitVec.ofNat 1024 (natOfBytes (b.take n)) :: valuesOf n k (b.drop n)

/-- A WRITE of any object or entries. -/
def State.fdpWrite (s : State) (q : Req) (obj sub : Nat) (body : List Byte) : State :=
  match findObject obj sub with
  | none =>
    s.serve q obj sub (fun role s =>
      if sub = 0 ∧ highestSub obj ≠ 0 then s.answer q obj sub .accessDenied else s.noObject q obj sub role)
  | some (r, i, e) =>
    match s.domainOf q r i body with
    | some t => t
    | none =>
      let n := r.bits / 8
      let k := if r.entries = 0 then 1 else q.count
      if body.length ≠ n * k then s.writeLength q r i (if r.entries = 0 then e else q.entry) obj sub
      else
        let vals := valuesOf n k body
        let v := vals.headD 0
        if r.obj = 0x1100 then s.roleKeyWrite q q.entry vals
        else match (s.ownLo q r i e v).orElse (fun _ => (s.ownMid q r i v).orElse (fun _ => s.ownHi q r i e v)) with
        | some t => t
        | none => s.writeRun q r i (if r.entries = 0 then e else q.entry) vals (objectRule r q i)

/-- FDP_WRITE. -/
def execFdpWrite (q : Req) (obj sub entry count : Nat) (body : List Byte) (s : State) : Result :=
  .next (s.fdpWrite ((q.of 0x11).entries entry count) obj sub body)

/-- CAN_RECOVER. -/
def execCanRecover (q : Req) (v : Image) (s : State) : Result := .next (s.canRecoverWrite q v)

/-! INFO (R559) -/

/-- An object that its chapter calls WO: all but those whose fields alone are WO, which a role reads and writes (R556). -/
def Reg.woObject (r : Reg) : Bool :=
  r.wo != 0 && r.rw &&& r.wo == r.rw && !(r.obj == 0x2004 || r.obj == 0x7100 || r.obj == 0x7020 || (r.obj == 0x1101 && r.sub == 4)
    || (0x1200 ≤ r.obj && r.obj ≤ 0x120A && r.sub == 1))

/-- ACCESS of a role to an object (Table MGT-4): every role reads (R556). -/
def Reg.access (r : Reg) (i : Nat) (role : Role) : Nat :=
  if r.writable i role = 0 then 1 else if r.woObject then 3 else 2

/-- DEFAULT of a descriptor (Table MGT-4). -/
def State.infoDefault (s : State) (r : Reg) (i e : Nat) : Nat :=
  if 64 < r.bits then 0
  else if r.live then ({ State.reset with straps := s.straps }).liveNat r i e
  else (r.default i e).toNat

/-- The 24 bytes of an object's descriptor (Table MGT-4). -/
def State.descriptor (s : State) (r : Reg) (i e : Nat) : List Byte :=
  let eff := match r.eff with | .immediate => 0 | .onCommit => 1 | .onReset => 2
  bytesOf (BitVec.ofNat 192 ((if r.entries = 0 then r.ty else 11)
    + at' 8 (r.access i .maker + 4 * r.access i .installer + 16 * r.access i .operator)
    + at' 16 (b2n r.caddy + 2 * eff + 8 * b2n r.audits) + at' 32 (r.bits / 8) + at' 64 r.entries + at' 128 (s.infoDefault r i e))) 24

/-- FDP_INFO: subindex 0 is a read-only U8 (R554). -/
def execFdpInfo (q : Req) (obj sub : Nat) (s : State) : Result :=
  let q := q.of 0x12
  .next (s.serve q obj sub (fun role s =>
    if sub = 0 ∧ highestSub obj ≠ 0 then
      (if q.odd then s.answer q obj sub .outOfRange
      else s.answer q obj sub .ok (bytesOf (BitVec.ofNat 192 (2 + at' 8 0x15 + at' 32 1 + at' 128 (highestSub obj))) 24))
    else match findObject obj sub with
    | none => s.noObject q obj sub role
    | some (r, i, e) =>
      if q.odd then s.answer q obj sub .outOfRange else s.answer q obj sub .ok (s.descriptor r i e)))

end Sys2Proof.Machine
end

