-- ==== Sys2Proof/Machine/CanBus.lean ====
section
/-! DEFINITION. The CAN FD management bus (R568–R572, R578–R580). -/

namespace Sys2Proof.Machine

def State.updCan (s : State) (f : Can → Can) : State := s.updMgmt (fun m => { m with can := f m.can })

/-- The error state that counts make (Table MGT-12). -/
def errState (tec rec_ : Nat) : CanSt :=
  if 255 < tec then .busOff else if 127 < tec ∨ 127 < rec_ then .errorPassive else .errorActive

/-- New error counts; on entry into BUS_OFF a message partly sent starts again (R579). -/
def State.canCounts (s : State) (tec rec_ : Nat) : State :=
  s.updCan (fun c =>
    let st := errState tec rec_
    let c := { c with txErr := tec, rxErr := rec_, st := st }
    if st = .busOff then
      { c with busOffs := min 65535 (c.busOffs + 1), recovering := false, txq := c.txq.map (fun m => { m with sent := 0 }) }
    else c)

/-! Receiving (R570–R572) -/

/-- A partial message is discarded and counted (R572). -/
def State.dropPartial (s : State) (src : Nat) : State :=
  (s.updCan (fun c => { c with reasm := c.reasm.filter (fun r => r.src ≠ src) })).countDev 7

/-- A message is complete: judged by R560, padding after its TAG ignored (R572). -/
def State.canMessage (s : State) (src : Nat) (before : Nat) (bytes : List Byte) : State :=
  let n := 24 + natOfBytes ((bytes.drop 14).take 2)
  let msg := bytes.take n
  let s := s.updCan (fun c => { c with reasm := c.reasm.filter (fun r => r.src ≠ src) })
  if n ≤ before ∨ 4096 < n ∨ fdpMalformed msg then s.countDev 8
  else if nthD 0 msg 0 = 0x10 then s.updMgmt (fun m => { m with inbox := m.inbox ++ [(src, msg)] })
  else s

/-- A segment of a message (R571, R572). -/
def State.canSegment (s : State) (src : Nat) (data : List Byte) : State :=
  let h := nthD 0 data 0
  let seg := (nthD 0 data 1).toNat
  let body := data.drop 2
  let old := s.mgmt.can.reasm.find? (fun r => r.src = src)
  let take (s : State) (r : Reassembly) : State :=
    if bit h 6 then s.canMessage src r.bytes.length (r.bytes ++ body)
    else s.updCan (fun c => { c with reasm := c.reasm.filter (fun x => x.src ≠ src)
                                ++ [{ src := src, next := seg + 1, bytes := r.bytes ++ body }] })
  if bit h 7 then
    let s := if old.isSome then s.dropPartial src else s
    if seg ≠ 0 ∨ 8 ≤ s.mgmt.can.reasm.length then s.countDev 7 else take s { src := src }
  else match old with
  | none => s
  | some r => if seg ≠ r.next ∨ 66 < seg then s.dropPartial src else take s r

/-- The frame's identifier is ignored (R570). -/
def State.canIgnores (s : State) (id : BitVec 29) : Bool :=
  let kind := fldN id 28 25
  let dest := fldN id 24 18
  (kind != 1 && kind != 2) || fldN id 10 0 != 0 || dest == 0 || dest != s.straps.mgmtId % 128

/-- A good frame lowers the receive error count (ISO 11898-1); from above 127 it comes to 119–127. -/
def State.canRxOk (s : State) : State :=
  let r := s.mgmt.can.rxErr
  if r = 0 then s
  else if r ≤ 127 then s.canCounts s.mgmt.can.txErr (r - 1)
  else (s.canCounts s.mgmt.can.txErr (119 + (Config.openValue s.draws).toNat % 9)).drawn

/-- CAN_FRAME_RECEIVE (R570, R571): an FD frame with an extended identifier, or another frame. -/
def execCanFrameReceive (fd : Bool) (id : BitVec 29) (data : List Byte) (s : State) : Result :=
  .next (if s.boot = .held ∨ s.canSt = .busOff then s
    else
      let s := if s.canSt = .monitor then s else s.canRxOk
      if !fd then s
      else if s.canIgnores id then s.countDev 6
      else (s.countDev 5).canSegment (fldN id 17 11) data)

/-- CAN_REASSEMBLY_TIMEOUT (R572). -/
def execCanReassemblyTimeout (src : Nat) (s : State) : Result :=
  .next (if s.mgmt.can.reasm.any (fun r => r.src == src) then s.dropPartial src else s)

/-! Sending (R570–R572, R578, R579) -/

/-- The least CAN FD data length that holds `n` bytes. -/
def canLength (n : Nat) : Nat := ([0, 1, 2, 3, 4, 5, 6, 7, 8, 12, 16, 20, 24, 32, 48, 64].find? (fun l => n ≤ l)).getD 64

/-- The identifier of a frame of the device (Table MGT-9). -/
def State.canId (s : State) (kind dest : Nat) : Nat := at' 25 kind + at' 18 dest + at' 11 (s.straps.mgmtId % 128)

/-- The data field of a message's next frame (R571). -/
def CanMsg.frame (m : CanMsg) : List Byte :=
  let n := ceilDiv m.bytes.length 62
  let part := (m.bytes.drop (62 * m.sent)).take 62
  let hdr : Byte := BitVec.ofNat 8 (128 * b2n (m.sent == 0) + 64 * b2n (m.sent + 1 == n))
  let d := hdr :: BitVec.ofNat 8 m.sent :: part
  d ++ List.replicate (canLength d.length - d.length) 0

/-- A frame has gone out: the transmit error count falls (ISO 11898-1). -/
def State.canSent (s : State) (id : Nat) (data : List Byte) : State :=
  let s := (s.emit (.canFrame id data)).countDev 4
  s.canCounts (s.mgmt.can.txErr - 1) s.mgmt.can.rxErr

/-- CAN_FRAME_TRANSMIT: the waiting distress frame first (R578). -/
def execCanFrameTransmit (s : State) : Result :=
  .next (if s.boot = .held ∨ s.canSt = .busOff ∨ s.canSt = .monitor then s
    else match s.mgmt.can.distress with
    | some d =>
      (s.updCan (fun c => { c with distress := none, distressSent := min 65535 (c.distressSent + 1) })).canSent (s.canId 0 0) d.bytes
    | none =>
      match s.mgmt.can.txq with
      | [] => s
      | m :: l =>
        let s' := s.updCan (fun c => { c with txq := if 62 * (m.sent + 1) < m.bytes.length then { m with sent := m.sent + 1 } :: l else l })
        s'.canSent (s.canId m.kind m.dest) m.frame)

/-! Errors (R579, R580) -/

/-- CAN_BUS_ERROR (R579). -/
def execCanBusError (e : CanErr) (s : State) : Result :=
  let c := s.mgmt.can
  .next (if s.boot = .held ∨ s.canSt = .busOff ∨ s.canSt = .monitor then s
    else match e with
    | .transmitter => s.canCounts (min 511 (c.txErr + 8)) c.rxErr
    | .receiver => s.canCounts c.txErr (min 255 (c.rxErr + 1))
    | .receiverDominant => s.canCounts c.txErr (min 255 (c.rxErr + 8)))

/-- BUS_OFF_RECOVERY (R580): 128 occurrences of 11 recessive bits have been counted. -/
def execBusOffRecovery (s : State) : Result :=
  let c := s.mgmt.can
  .next (if c.st = .busOff ∧ (bit (s.eff R.canCtl) 11 ∨ c.recovering) then
      s.updCan (fun c => { c with st := .errorActive, txErr := 0, rxErr := 0, recovering := false })
    else s)

end Sys2Proof.Machine
end

