-- ==== Sys2Proof/Machine/Delivery.lean ====
section
/-! DEFINITION. Control deliveries (R575). -/

namespace Sys2Proof.Machine

/-- A command of a control delivery: FDP_RESPONSE, FAULT_NOTICE, DISTRESS_NOTICE. -/
def deliveryCmd (c : Nat) : Bool := c == 0x02 || c == 0x0C || c == 0x0D

/-- Slots of the control receive ring (Table MGT-24). -/
def State.ctlSlots (s : State) : Nat := 2 ^ (fldN (s.reg R.controlRecv) 123 120 + 4)

/-- Deliveries whose completions a queue's CONSUMER has not passed. -/
def State.ctlAwaiting (s : State) (q : Cq) : List Nat :=
  let consumed := q.written - posDiff q.wpos q.consumer
  s.mgmt.deliveredAt.filter (fun i => decide (consumed ≤ i ∧ i < q.written))

/-- The queue that takes a delivery, if one is to be written (R575). -/
def State.ctlQueue (s : State) (h : Header) : Option (Nat × Cq) :=
  let r := s.reg R.controlRecv
  let n := fldN r 113 100
  match s.cq n with
  | none => none
  | some q =>
    if bit r 127 ∧ q.st = .ready ∧ s.stationSlice h.dstStation.toNat = some 0
        ∧ (s.ctlAwaiting q).length < s.ctlSlots ∧ (s.ctlAwaiting q).length < 2 ^ q.log then some (n, q) else none

/-- The 32 bytes of a slot's trailer. -/
def ctlTrailer (time len cmd : Nat) (phase : Bool) : List Byte :=
  bytesOf (BitVec.ofNat 256 (time % 2 ^ 64 + at' 64 len + at' 80 cmd + at' 255 (b2n phase))) 32

/-- The completion of delivery `n` in slot `slot` (Table WKQ-18). -/
def ctlCompletion (h : Header) (n slot len : Nat) : Completion :=
  { opcode := 0x82, wq := 0xFFFF, index := n % 65536, count := len
    specific := h.cmd.toNat + at' 32 slot + at' 64 h.srcNode.toNat + at' 88 h.srcStation.toNat }

/-- A write of the ring could not be translated: CONTROL_RECV is disabled. -/
def State.ctlFault (s : State) : State := s.setReg R.controlRecv 0 0 (setFld (s.reg R.controlRecv) 127 127 0)

/-- A delivery is written: header and payload, the trailer, then the completion. -/
def State.deliver (s : State) (a : Arrived) (n : Nat) (q : Cq) (f : Nat) : State :=
  let d := s.mgmt.delivered
  let slots := s.ctlSlots
  let slot := d % slots
  let base := fldN (s.reg R.controlRecv) 47 12 * 4096 + 4160 * slot
  let len := a.pkt.payload.length
  let acc (x : Nat) : Access := { slice := 0, ia := x, kind := .write, priv := true, inbound := true, func := f }
  match s.xlateSpan .inbound (acc base) 3 (32 + len) with
  | (s, _, some (.fault _)) => (s.takeArrival a).ctlFault
  | (s, _, some .noFunc) => (s.takeArrival a).countDev 31
  | (s, _, some r) => s.holdArrival a r
  | (s, sp, none) =>
    match s.xlateSpan .inbound (acc (base + 4128)) 2 32 with
    | (s, _, some (.fault _)) => (s.takeArrival a).ctlFault
    | (s, _, some .noFunc) => (s.takeArrival a).countDev 31
    | (s, _, some r) => s.holdArrival a r
    | (s, tp, none) =>
      let s := s.takeArrival a
      let key := 2 ^ 41 + d
      let s := s.writeSpans { key := key } sp (bytesOf a.pkt.hdr.toBits 32 ++ a.pkt.payload)
      let s := s.writeSpans { key := key } tp (ctlTrailer s.ns len a.pkt.hdr.cmd.toNat (phaseOf d (fldN (s.reg R.controlRecv) 123 120 + 4)))
      let s := s.updMgmt (fun m => { m with delivered := d + 1, deliveredAt := s.ctlAwaiting q ++ [q.written] })
      s.writeCompletion n (ctlCompletion a.pkt.hdr d slot len) key

/-- CONTROL_DELIVERY: the oldest control delivery that has come to a block's stop. -/
def execControlDelivery (st : Stop) (s : State) : Result :=
  .next (match s.arrived.find? (fun a => a.stop = st ∧ deliveryCmd a.pkt.hdr.cmd.toNat ∧ s.released a.hold) with
    | none => s
    | some a =>
      match s.ctlQueue a.pkt.hdr, s.inboundFunc 0 with
      | some (n, q), some f => s.deliver a n q f
      | _, _ => (s.takeArrival a).countDev 31)

end Sys2Proof.Machine
end

