-- ==== Sys2Proof/Machine/Mirror.lean ====
section
/-! DEFINITION. MIRRORED_WRITE (R511, R512, R593): what a message of the pair session does to the device that receives it. -/

namespace Sys2Proof.Machine

/-- The request under which a mirrored change runs (R593). -/
def pairReq (e n : Nat) : Req := { path := .pair, session := 16, mirror := true, entry := e, count := n }

/-- The request of a list of changes: the entries it names. -/
def changeReq (r : Reg) (c : List Change) : Req :=
  if r.entries = 0 then pairReq 0 0 else pairReq (keyEntry (c.headD (0, 0)).1) c.length

/-- Changes of pair-scope values are applied as the partner applied them: the effects of the object's rules, then the values. -/
def State.applyCopies (s : State) (q : Req) (c : List Change) : State × List (Option Fdp) :=
  let c := c.filter (fun x => keyScope x.1 = some false)
  match c with
  | [] => (s, [])
  | x :: _ =>
    match objectOf x.1 with
    | none => (s, [])
    | some (r, i, _) =>
      let es := c.filterMap (fun y => (objectOf y.1).bind (fun o => if o.1 = r ∧ o.2.1 = i then some (o.2.2, y.2) else none))
      let a := s.applyEntries r i (fun e was v => { eff := (objectRule r q i e was v).eff }) es
      (c.foldl (fun s y => s.setKey y.1 y.2) a.1, a.2.2)

/-- The leader checks and applies a write that the trailer has passed on (R512): the values that hold after it, or its refusal. -/
def State.leaderApply (s : State) (c : List Change) : State × Except Fdp (List Change) :=
  match objectOf (c.headD (0, 0)).1 with
  | none => (s, .error .noSuchObject)
  | some (r, i, _) =>
    let q := changeReq r c
    let es := c.filterMap (fun y => (objectOf y.1).map (fun o => (o.2.2, y.2)))
    let full := if s.auditRefuses .twin r then [Fdp.tableFull] else []
    match s.writeRefused q .twin r i (objectRule r q i) es with
    | some f => (s, .error f)
    | none =>
    match firstRefusal ((s.applyEntries r i (objectRule r q i) es).2.1 ++ full) with
    | some f => (s, .error f)
    | none =>
      match s.recordWrite q .twin r i (es.headD (0, 0)).1 (es.map (·.2)) with
      | .error (s, f) => (s, .error f)
      | .ok s =>
        let s := (s.applyEntries r i (objectRule r q i) es).1
        (s, .ok (es.map (fun x => (r.key i x.1, s.reg r i x.1))))

/-- Changes of the partner's device-scope objects go to its shadow; those of pair-scope objects are applied, and answer the write that
was passed on for them or are confirmed once every access already checked has finished (R419, R512, R513). -/
def State.pairChange (s : State) (device : Bool) (c : List Change) : State :=
  if device then
    (s.updTwin (fun t => { t with shadow := putKeys t.shadow (c.filter (fun x => keyScope x.1 = some true)) })).pairSend (.confirm c)
  else
    match s.twin.mirrors.find? (fun m => m.passed ∧ m.changes.map (·.1) = c.map (·.1)) with
    | some m =>
      let a := s.applyCopies m.q c
      match allAnswers a.2 with
      | some _ => a.1.mirrorAnswer m m.status
      | none => a.1.updTwin (fun t => { t with mirrors := t.mirrors.erase m })
    | none =>
      let q := match objectOf (c.headD (0, 0)).1 with
        | some (r, _, _) => changeReq r c
        | none => pairReq 0 0
      let a := s.applyCopies q c
      match allAnswers a.2 with
      | some _ => a.1.pairSend (.confirm c)
      | none => a.1

/-- A mirrored write that waits and fits is answered with `f`, or with the status it waits with. -/
def State.pairAnswer (s : State) (passed : Bool) (c : List Change) (f : Option Fdp) : State :=
  match s.twin.mirrors.find? (fun m => m.passed = passed ∧ m.changes = c) with
  | some m => s.mirrorAnswer m (f.getD m.status)
  | none => s

/-- What a message of the pair session does. -/
def State.pairMessage (s : State) (m : PairMsg) : State :=
  match m with
  | .change device c => s.pairChange device c
  | .confirm c => s.pairAnswer false c none
  | .pass c =>
    match s.leaderApply c with
    | (s, .ok c) => s.pairSend (.change false c)
    | (s, .error f) => s.pairSend (.refused c f)
  | .refused c f => s.pairAnswer true c (some f)
  | .correct shadow c =>
    if shadow then s.updTwin (fun t => { t with shadow := putKeys t.shadow [c] }) else s.setKey c.1 c.2
  | .behind => s.updTwin (fun t => { t with shadowValid := false })
  | .resync restore => s.startResync restore
  | .leadSwap => s.swapLead

/-- MIRRORED_WRITE: a message of the pair session arrives; with no open session, or a controller that does not serve, nothing
happens. -/
def execMirroredWrite (m : PairMsg) (s : State) : Result :=
  .next (if s.twin.session ∧ s.serving then s.pairMessage m else s)

end Sys2Proof.Machine
end

