-- ==== Sys2Proof/Machine/Tap.lean ====
section
/-! DEFINITION. The test access port (R669, R679): the TAP controller of IEEE 1149.1.  The manual gives no instruction codes, no length
of the instruction register and no boundary register: the instruction comes as an operand, and those bits are free values. -/

namespace Sys2Proof.Machine

/-- The next state of the TAP controller at a rising edge of TCK. -/
def TapSt.next (t : TapSt) (tms : Bool) : TapSt :=
  match t with
  | .testLogicReset => if tms then .testLogicReset else .runTestIdle
  | .runTestIdle => if tms then .selectDr else .runTestIdle
  | .selectDr => if tms then .selectIr else .captureDr
  | .captureDr => if tms then .exit1Dr else .shiftDr
  | .shiftDr => if tms then .exit1Dr else .shiftDr
  | .exit1Dr => if tms then .updateDr else .pauseDr
  | .pauseDr => if tms then .exit2Dr else .pauseDr
  | .exit2Dr => if tms then .updateDr else .shiftDr
  | .updateDr => if tms then .selectDr else .runTestIdle
  | .selectIr => if tms then .testLogicReset else .captureIr
  | .captureIr => if tms then .exit1Ir else .shiftIr
  | .shiftIr => if tms then .exit1Ir else .shiftIr
  | .exit1Ir => if tms then .updateIr else .pauseIr
  | .pauseIr => if tms then .exit2Ir else .pauseIr
  | .exit2Ir => if tms then .updateIr else .shiftIr
  | .updateIr => if tms then .selectDr else .runTestIdle

/-- The IDCODE (R669). -/
def tapIdcode : BitVec 32 := 0xB4E316B5

/-- What Capture-DR puts into the selected register, bit 0 first; the boundary register's bits are not laid out. -/
def tapCapture (i : TapInstr) : List Bool :=
  match i with
  | .bypass => [false]
  | .idcode => (List.range 32).map tapIdcode.getLsbD
  | _ => []

/-- The instruction takes pins out of mission mode. -/
def tapDrives (i : TapInstr) : Bool :=
  match i with
  | .extest | .extestPulse | .extestTrain => true
  | _ => false

/-- A bit of the boundary register or of the instruction register comes out. -/
def State.tapFree (s : State) : State := (s.emit (.tdo ((Config.openValue s.draws).getLsbD 0))).drawn

/-- What a rising edge of TCK does in the state it finds. -/
def State.tapEdge (s : State) (tdi : Bool) : State :=
  match s.tap.st with
  | .captureDr => { s with tap := { s.tap with dr := tapCapture s.tap.instr } }
  | .shiftDr =>
    match s.tap.dr with
    | b :: l => { s.emit (.tdo b) with tap := { s.tap with dr := l ++ [tdi] } }
    | [] => s.tapFree
  | .shiftIr => s.tapFree
  | _ => s

/-- TEST_ACCESS_PORT: one edge of TCK with TRST_N, TMS and TDI; `i` is the instruction that the shifted code selects, should the edge
lead to Update-IR. -/
def execTestAccessPort (trstN tms tdi : Bool) (i : TapInstr) (s : State) : Result :=
  .next (if !trstN then { s with tap := {} }
    else
      let s := s.tapEdge tdi
      let t := s.tap.st.next tms
      { s with tap :=
        if t = .testLogicReset then {}
        else if t = .updateIr then { s.tap with st := t, instr := i, seized := tapDrives i }
        else { s.tap with st := t } })

end Sys2Proof.Machine
end

