-- ==== Sys2Proof/Machine/Dispatch.lean ====
section
/-! DEFINITION. The meaning of every command, one arm per constructor. -/

namespace Sys2Proof.Machine

def exec (i : Instr) (s : State) : Host.Outcome State Fault Refusal :=
  match i with
  | .fdpWrite q obj sub entry count body => Sys2Proof.Machine.execFdpWrite q obj sub entry count body s
  | .fdpRead q obj sub entry count => Sys2Proof.Machine.execFdpRead q obj sub entry count s
  | .fdpIdentify q => Sys2Proof.Machine.execFdpIdentify q s
  | .fdpOpen q role slot nonce => Sys2Proof.Machine.execFdpOpen q role slot nonce s
  | .fdpAuth q sigOk => Sys2Proof.Machine.execFdpAuth q sigOk s
  | .fdpClose q => Sys2Proof.Machine.execFdpClose q s
  | .fdpInfo q obj sub => Sys2Proof.Machine.execFdpInfo q obj sub s
  | .authTimeout n => Sys2Proof.Machine.execAuthTimeout n s
  | .authLockoutExpiry p => Sys2Proof.Machine.execAuthLockoutExpiry p s
  | .sessionIdleExpiry n => Sys2Proof.Machine.execSessionIdleExpiry n s
  | .canFrameReceive fd id data => Sys2Proof.Machine.execCanFrameReceive fd id data s
  | .canReassemblyTimeout src => Sys2Proof.Machine.execCanReassemblyTimeout src s
  | .canFrameTransmit => Sys2Proof.Machine.execCanFrameTransmit s
  | .canBusError e => Sys2Proof.Machine.execCanBusError e s
  | .busOffRecovery => Sys2Proof.Machine.execBusOffRecovery s
  | .canRecover q v => Sys2Proof.Machine.execCanRecover q v s
  | .mbxSubmit h l v msg => Sys2Proof.Machine.execMbxSubmit h l v msg s
  | .mbxDoneClear h l v => Sys2Proof.Machine.execMbxDoneClear h l v s
  | .controlDelivery st => Sys2Proof.Machine.execControlDelivery st s
  | .discardNoticeReceive => Sys2Proof.Machine.execDiscardNoticeReceive s
  | .laneCal q v => Sys2Proof.Machine.execLaneCal q v s
  | .laneCalTimeout p => Sys2Proof.Machine.execLaneCalTimeout p s
  | .eqLoad q v => Sys2Proof.Machine.execEqLoad q v s
  | .eqLoadDeferredStart p => Sys2Proof.Machine.execEqLoadDeferredStart p s
  | .twinResync q v => Sys2Proof.Machine.execTwinResync q v s
  | .resyncComplete pairs devs => Sys2Proof.Machine.execResyncComplete pairs devs s
  | .caddyCompact q v => Sys2Proof.Machine.execCaddyCompact q v s
  | .caddyCompactDone free => Sys2Proof.Machine.execCaddyCompactDone free s
  | .caddyAutoCompact => Sys2Proof.Machine.execCaddyAutoCompact s
  | .firmwareStage q hdr => Sys2Proof.Machine.execFirmwareStage q hdr s
  | .fwChunk q body => Sys2Proof.Machine.execFwChunk q body s
  | .firmwareCheckDone c => Sys2Proof.Machine.execFirmwareCheckDone c s
  | .firmwareStageTimeout => Sys2Proof.Machine.execFirmwareStageTimeout s
  | .fwSelect q v => Sys2Proof.Machine.execFwSelect q v s
  | .routeSwap q v => Sys2Proof.Machine.execRouteSwap q v s
  | .keyTableSwap q v => Sys2Proof.Machine.execKeyTableSwap q v s
  | .swapCopyDone keys => Sys2Proof.Machine.execSwapCopyDone keys s
  | .controlScrub q v => Sys2Proof.Machine.execControlScrub q v s
  | .scrubAutoStart => Sys2Proof.Machine.execScrubAutoStart s
  | .controlScrubDone corrected bad => Sys2Proof.Machine.execControlScrubDone corrected bad s
  | .counterClearAll q v => Sys2Proof.Machine.execCounterClearAll q v s
  | .lifecycleChange q body => Sys2Proof.Machine.execLifecycleChange q body s
  | .portRole q p v => Sys2Proof.Machine.execPortRole q p v s
  | .retrain q p v => Sys2Proof.Machine.execRetrain q p v s
  | .wake q p v => Sys2Proof.Machine.execWake q p v s
  | .testPattern q p v => Sys2Proof.Machine.execTestPattern q p v s
  | .testPatternDeferredStart p => Sys2Proof.Machine.execTestPatternDeferredStart p s
  | .synthLocked p => Sys2Proof.Machine.execSynthLocked p s
  | .synthLockTimeout p => Sys2Proof.Machine.execSynthLockTimeout p s
  | .forwardedClockPresent p rate => Sys2Proof.Machine.execForwardedClockPresent p rate s
  | .clockAcquireTimeout p => Sys2Proof.Machine.execClockAcquireTimeout p s
  | .eyeCentreFound p trims => Sys2Proof.Machine.execEyeCentreFound p trims s
  | .phaseTrimTimeout p => Sys2Proof.Machine.execPhaseTrimTimeout p s
  | .markersFound p lanes arrivals => Sys2Proof.Machine.execMarkersFound p lanes arrivals s
  | .alignTimeout p => Sys2Proof.Machine.execAlignTimeout p s
  | .fecLocked p => Sys2Proof.Machine.execFecLocked p s
  | .fecLockTimeout p => Sys2Proof.Machine.execFecLockTimeout p s
  | .synthLockLoss p => Sys2Proof.Machine.execSynthLockLoss p s
  | .forwardedClockLoss p => Sys2Proof.Machine.execForwardedClockLoss p s
  | .txLockLostTimeout p => Sys2Proof.Machine.execTxLockLostTimeout p s
  | .rxClockLostTimeout p => Sys2Proof.Machine.execRxClockLostTimeout p s
  | .retryWaitExpiry p => Sys2Proof.Machine.execRetryWaitExpiry p s
  | .calmIntervalExpiry p => Sys2Proof.Machine.execCalmIntervalExpiry p s
  | .calmRequest p c => Sys2Proof.Machine.execCalmRequest p c s
  | .calmGrant p c => Sys2Proof.Machine.execCalmGrant p c s
  | .calmRefuse p c => Sys2Proof.Machine.execCalmRefuse p c s
  | .calmRetry p => Sys2Proof.Machine.execCalmRetry p s
  | .calmWindowStart p => Sys2Proof.Machine.execCalmWindowStart p s
  | .calmWindowEnd p trims deskew => Sys2Proof.Machine.execCalmWindowEnd p trims deskew s
  | .dozeIdleExpiry p => Sys2Proof.Machine.execDozeIdleExpiry p s
  | .dozeRequest p c => Sys2Proof.Machine.execDozeRequest p c s
  | .dozeGrant p c => Sys2Proof.Machine.execDozeGrant p c s
  | .dozeRefuse p c => Sys2Proof.Machine.execDozeRefuse p c s
  | .wakeCausePort p => Sys2Proof.Machine.execWakeCausePort p s
  | .wakeTone p => Sys2Proof.Machine.execWakeTone p s
  | .wakeLocked p => Sys2Proof.Machine.execWakeLocked p s
  | .wakeTimeout p => Sys2Proof.Machine.execWakeTimeout p s
  | .lockLossExpiry p => Sys2Proof.Machine.execLockLossExpiry p s
  | .linkCellTransmit p => Sys2Proof.Machine.execLinkCellTransmit p s
  | .dataCellReceive p c fate => Sys2Proof.Machine.execDataCellReceive p c fate s
  | .idleCellReceive p c => Sys2Proof.Machine.execIdleCellReceive p c s
  | .bypassCellReceive p c => Sys2Proof.Machine.execBypassCellReceive p c s
  | .linkInit p c => Sys2Proof.Machine.execLinkInit p c s
  | .linkInitAck p c => Sys2Proof.Machine.execLinkInitAck p c s
  | .linkInitResend p => Sys2Proof.Machine.execLinkInitResend p s
  | .initTimeout p => Sys2Proof.Machine.execInitTimeout p s
  | .nak p c => Sys2Proof.Machine.execNak p c s
  | .replayTimeout p => Sys2Proof.Machine.execReplayTimeout p s
  | .linkDown p c => Sys2Proof.Machine.execLinkDown p c s
  | .wiringNotice p c => Sys2Proof.Machine.execWiringNotice p c s
  | .wiringNoticeRepeat p => Sys2Proof.Machine.execWiringNoticeRepeat p s
  | .abort p c => Sys2Proof.Machine.execAbort p c s
  | .errorRateWindowEnd p => Sys2Proof.Machine.execErrorRateWindowEnd p s
  | .flush q p v => Sys2Proof.Machine.execFlush q p v s
  | .flushDone p => Sys2Proof.Machine.execFlushDone p s
  | .schedulerToken => Sys2Proof.Machine.execSchedulerToken s
  | .redAvgUpdate => Sys2Proof.Machine.execRedAvgUpdate s
  | .pressureReportSend p => Sys2Proof.Machine.execPressureReportSend p s
  | .keyInsert q v => Sys2Proof.Machine.execKeyInsert q v s
  | .gateLoad q p bytes => Sys2Proof.Machine.execGateLoad q p bytes s
  | .gateSwitch q p v => Sys2Proof.Machine.execGateSwitch q p v s
  | .gateListSwitch p => Sys2Proof.Machine.execGateListSwitch p s
  | .gateEntryTransition p => Sys2Proof.Machine.execGateEntryTransition p s
  | .gateOverride q p k v => Sys2Proof.Machine.execGateOverride q p k v s
  | .gateOverrideStop q p k v => Sys2Proof.Machine.execGateOverrideStop q p k v s
  | .timedWindowStart w => Sys2Proof.Machine.execTimedWindowStart w s
  | .timedWindowStop w => Sys2Proof.Machine.execTimedWindowStop w s
  | .gateFitTest p => Sys2Proof.Machine.execGateFitTest p s
  | .ringSendRequest st a => Sys2Proof.Machine.execRingSendRequest st a s
  | .ringPacketArrive src dst kind hdr free => Sys2Proof.Machine.execRingPacketArrive src dst kind hdr free s
  | .ringPacketReturn src dst kind => Sys2Proof.Machine.execRingPacketReturn src dst kind s
  | .ringReinject src dst kind => Sys2Proof.Machine.execRingReinject src dst kind s
  | .ringStarveReserve st r => Sys2Proof.Machine.execRingStarveReserve st r s
  | .ringTimeout st tag => Sys2Proof.Machine.execRingTimeout st tag s
  | .ringStall st r => Sys2Proof.Machine.execRingStall st r s
  | .ringDisable q v => Sys2Proof.Machine.execRingDisable q v s
  | .crossingReset c entries => Sys2Proof.Machine.execCrossingReset c entries s
  | .hostPerstAssert h => Sys2Proof.Machine.execHostPerstAssert h s
  | .hostPerstDeassert h => Sys2Proof.Machine.execHostPerstDeassert h s
  | .hostLinkReset h l k => Sys2Proof.Machine.execHostLinkReset h l k s
  | .functionLevelReset f => Sys2Proof.Machine.execFunctionLevelReset f s
  | .wqDoorbell f page slot v => Sys2Proof.Machine.execWqDoorbell f page slot v s
  | .queueArm f page slot events v => Sys2Proof.Machine.execQueueArm f page slot events v s
  | .pushWrite f page slot data => Sys2Proof.Machine.execPushWrite f page slot data s
  | .barInvalidWrite w => Sys2Proof.Machine.execBarInvalidWrite w s
  | .wakeCause f => Sys2Proof.Machine.execWakeCause f s
  | .pmPmeSend f => Sys2Proof.Machine.execPmPmeSend f s
  | .pmcsrD0Write f => Sys2Proof.Machine.execPmcsrD0Write f s
  | .pmeEnWrite f en => Sys2Proof.Machine.execPmeEnWrite f en s
  | .pmeStatusClear f => Sys2Proof.Machine.execPmeStatusClear f s
  | .ltrIdle h l => Sys2Proof.Machine.execLtrIdle h l s
  | .l0pMeasure h l => Sys2Proof.Machine.execL0pMeasure h l s
  | .aspmL1Request h l => Sys2Proof.Machine.execAspmL1Request h l s
  | .hostReadCompletion id data => Sys2Proof.Machine.execHostReadCompletion id data s
  | .wqFetch n => Sys2Proof.Machine.execWqFetch n s
  | .sliceStart q sl => Sys2Proof.Machine.execSliceStart q sl s
  | .sliceRun q sl => Sys2Proof.Machine.execSliceRun q sl s
  | .sliceRecover q sl => Sys2Proof.Machine.execSliceRecover q sl s
  | .sliceTest q sl => Sys2Proof.Machine.execSliceTest q sl s
  | .sliceStop q sl => Sys2Proof.Machine.execSliceStop q sl s
  | .sliceReset q sl => Sys2Proof.Machine.execSliceReset q sl s
  | .sliceHalt q sl => Sys2Proof.Machine.execSliceHalt q sl s
  | .sliceStateSettled sl => Sys2Proof.Machine.execSliceStateSettled sl s
  | .wakeTest q sl v => Sys2Proof.Machine.execWakeTest q sl v s
  | .createWq q sl v => Sys2Proof.Machine.execCreateWq q sl v s
  | .createCq q sl v => Sys2Proof.Machine.execCreateCq q sl v s
  | .createEq q sl v => Sys2Proof.Machine.execCreateEq q sl v s
  | .destroyWq q sl v => Sys2Proof.Machine.execDestroyWq q sl v s
  | .destroyCq q sl v => Sys2Proof.Machine.execDestroyCq q sl v s
  | .destroyEq q sl v => Sys2Proof.Machine.execDestroyEq q sl v s
  | .resetWq q sl v => Sys2Proof.Machine.execResetWq q sl v s
  | .dispatchAdmit k => Sys2Proof.Machine.execDispatchAdmit k s
  | .engineTake e => Sys2Proof.Machine.execEngineTake e s
  | .engineSteal e => Sys2Proof.Machine.execEngineSteal e s
  | .engineRemoteSteal e => Sys2Proof.Machine.execEngineRemoteSteal e s
  | .entryNop e => Sys2Proof.Machine.execEntryNop e s
  | .entrySend e => Sys2Proof.Machine.execEntrySend e s
  | .entryRecv e => Sys2Proof.Machine.execEntryRecv e s
  | .entryPut e => Sys2Proof.Machine.execEntryPut e s
  | .entryPutImm e => Sys2Proof.Machine.execEntryPutImm e s
  | .entryGet e => Sys2Proof.Machine.execEntryGet e s
  | .entryAtomic e => Sys2Proof.Machine.execEntryAtomic e s
  | .entryCollective e => Sys2Proof.Machine.execEntryCollective e s
  | .entryControlSend e => Sys2Proof.Machine.execEntryControlSend e s
  | .entrySegment e => Sys2Proof.Machine.execEntrySegment e s
  | .itemUnpark id => Sys2Proof.Machine.execItemUnpark id s
  | .engineItemLimit e => Sys2Proof.Machine.execEngineItemLimit e s
  | .engineMemoryError e => Sys2Proof.Machine.execEngineMemoryError e s
  | .arbiterRefill => Sys2Proof.Machine.execArbiterRefill s
  | .arbiterGrant a => Sys2Proof.Machine.execArbiterGrant a s
  | .arbiterPreempt a sl => Sys2Proof.Machine.execArbiterPreempt a sl s
  | .burstHandover a => Sys2Proof.Machine.execBurstHandover a s
  | .lockClaim n sl m w => Sys2Proof.Machine.execLockClaim n sl m w s
  | .lockRelease n sl m w => Sys2Proof.Machine.execLockRelease n sl m w s
  | .lockRead n sl m => Sys2Proof.Machine.execLockRead n sl m s
  | .lockBreak q v => Sys2Proof.Machine.execLockBreak q v s
  | .tlbLoad q v => Sys2Proof.Machine.execTlbLoad q v s
  | .tlbInval q v => Sys2Proof.Machine.execTlbInval q v s
  | .tlbInvalDone => Sys2Proof.Machine.execTlbInvalDone s
  | .transRetry q v => Sys2Proof.Machine.execTransRetry q v s
  | .transRetryFault q v => Sys2Proof.Machine.execTransRetryFault q v s
  | .walkReadComplete id entry ok => Sys2Proof.Machine.execWalkReadComplete id entry ok s
  | .missTimeout id => Sys2Proof.Machine.execMissTimeout id s
  | .eager u => Sys2Proof.Machine.execEager u s
  | .rts u => Sys2Proof.Machine.execRts u s
  | .channelSync u => Sys2Proof.Machine.execChannelSync u s
  | .cts u => Sys2Proof.Machine.execCts u s
  | .data u => Sys2Proof.Machine.execData u s
  | .done u => Sys2Proof.Machine.execDone u s
  | .msgAck u => Sys2Proof.Machine.execMsgAck u s
  | .rdvAbort u => Sys2Proof.Machine.execRdvAbort u s
  | .ackDelayExpiry p tc3 => Sys2Proof.Machine.execAckDelayExpiry p tc3 s
  | .ackTimeout p tc3 => Sys2Proof.Machine.execAckTimeout p tc3 s
  | .rdvTimeout p num sender => Sys2Proof.Machine.execRdvTimeout p num sender s
  | .overflowWalk n => Sys2Proof.Machine.execOverflowWalk n s
  | .rankLoad sl job rank => Sys2Proof.Machine.execRankLoad sl job rank s
  | .rankInval q sl v => Sys2Proof.Machine.execRankInval q sl v s
  | .putData st => Sys2Proof.Machine.execPutData st s
  | .putNotify st => Sys2Proof.Machine.execPutNotify st s
  | .getReq st => Sys2Proof.Machine.execGetReq st s
  | .atomicReq st => Sys2Proof.Machine.execAtomicReq st s
  | .getResp st => Sys2Proof.Machine.execGetResp st s
  | .atomicResp st => Sys2Proof.Machine.execAtomicResp st s
  | .sack st => Sys2Proof.Machine.execSack st s
  | .sackDelayExpiry p num => Sys2Proof.Machine.execSackDelayExpiry p num s
  | .retransmitTimeout p num => Sys2Proof.Machine.execRetransmitTimeout p num s
  | .regionInvalidate q n v => Sys2Proof.Machine.execRegionInvalidate q n v s
  | .collUp u => Sys2Proof.Machine.execCollUp u s
  | .collDown u => Sys2Proof.Machine.execCollDown u s
  | .collSummary u => Sys2Proof.Machine.execCollSummary u s
  | .collAbortReceive u => Sys2Proof.Machine.execCollAbortReceive u s
  | .collSegmentSend n m exps => Sys2Proof.Machine.execCollSegmentSend n m exps s
  | .collTimeout n => Sys2Proof.Machine.execCollTimeout n s
  | .collAbort q v => Sys2Proof.Machine.execCollAbort q v s
  | .collEpoch q v => Sys2Proof.Machine.execCollEpoch q v s
  | .collSteep q n v => Sys2Proof.Machine.execCollSteep q n v s
  | .collSteepClear q v => Sys2Proof.Machine.execCollSteepClear q v s
  | .poolAssign q p v => Sys2Proof.Machine.execPoolAssign q p v s
  | .poolRelease q p v => Sys2Proof.Machine.execPoolRelease q p v s
  | .poolZeroingDone p => Sys2Proof.Machine.execPoolZeroingDone p s
  | .memPerstRelease => Sys2Proof.Machine.execMemPerstRelease s
  | .memLinkTrained m type3 width speed => Sys2Proof.Machine.execMemLinkTrained m type3 width speed s
  | .memoryActive m capacity => Sys2Proof.Machine.execMemoryActive m capacity s
  | .memActiveTimeout m => Sys2Proof.Machine.execMemActiveTimeout m s
  | .memLinkDown m => Sys2Proof.Machine.execMemLinkDown m s
  | .cxlMemError m read => Sys2Proof.Machine.execCxlMemError m read s
  | .twinHeartbeatSend => Sys2Proof.Machine.execTwinHeartbeatSend s
  | .twinHeartbeat => Sys2Proof.Machine.execTwinHeartbeat s
  | .heartbeatLost => Sys2Proof.Machine.execHeartbeatLost s
  | .beatSend => Sys2Proof.Machine.execBeatSend s
  | .beat width => Sys2Proof.Machine.execBeat width s
  | .distress width => Sys2Proof.Machine.execDistress width s
  | .adoptPulse width => Sys2Proof.Machine.execAdoptPulse width s
  | .alertRepeat => Sys2Proof.Machine.execAlertRepeat s
  | .pinStuck => Sys2Proof.Machine.execPinStuck s
  | .pinFaultClear => Sys2Proof.Machine.execPinFaultClear s
  | .joiningTimeout => Sys2Proof.Machine.execJoiningTimeout s
  | .silentPartner => Sys2Proof.Machine.execSilentPartner s
  | .failSilentResetDelay => Sys2Proof.Machine.execFailSilentResetDelay s
  | .compareSweep l => Sys2Proof.Machine.execCompareSweep l s
  | .mirroredWrite m => Sys2Proof.Machine.execMirroredWrite m s
  | .mirrorConfirmTimeout => Sys2Proof.Machine.execMirrorConfirmTimeout s
  | .detach q v => Sys2Proof.Machine.execDetach q v s
  | .handback q v => Sys2Proof.Machine.execHandback q v s
  | .leadSwap q v => Sys2Proof.Machine.execLeadSwap q v s
  | .adopt q v => Sys2Proof.Machine.execAdopt q v s
  | .partnerReset q v => Sys2Proof.Machine.execPartnerReset q v s
  | .faultEvent srcs => Sys2Proof.Machine.execFaultEvent srcs s
  | .squallWindowExpiry n => Sys2Proof.Machine.execSquallWindowExpiry n s
  | .wireFault n => Sys2Proof.Machine.execWireFault n s
  | .graceExpiry n => Sys2Proof.Machine.execGraceExpiry n s
  | .lullExpiry n => Sys2Proof.Machine.execLullExpiry n s
  | .faultAck q v => Sys2Proof.Machine.execFaultAck q v s
  | .faultClear q v => Sys2Proof.Machine.execFaultClear q v s
  | .forceEvents q v => Sys2Proof.Machine.execForceEvents q v s
  | .forceWire q v => Sys2Proof.Machine.execForceWire q v s
  | .forceDisagree q v => Sys2Proof.Machine.execForceDisagree q v s
  | .decisionDisagree => Sys2Proof.Machine.execDecisionDisagree s
  | .decisionWordTimeout collectorB => Sys2Proof.Machine.execDecisionWordTimeout collectorB s
  | .collectorEccError collectorB => Sys2Proof.Machine.execCollectorEccError collectorB s
  | .failSilentAdoptPulse => Sys2Proof.Machine.execFailSilentAdoptPulse s
  | .mcHeartbeatWrite => Sys2Proof.Machine.execMcHeartbeatWrite s
  | .mcHeartbeatMiss => Sys2Proof.Machine.execMcHeartbeatMiss s
  | .avsWindow rate fails readback => Sys2Proof.Machine.execAvsWindow rate fails readback s
  | .avsRetry fails readback => Sys2Proof.Machine.execAvsRetry fails readback s
  | .barometerCrossing level2 => Sys2Proof.Machine.execBarometerCrossing level2 s
  | .paceRelease => Sys2Proof.Machine.execPaceRelease s
  | .thermalSample t => Sys2Proof.Machine.execThermalSample t s
  | .refclkLoss c => Sys2Proof.Machine.execRefclkLoss c s
  | .refclkReturn => Sys2Proof.Machine.execRefclkReturn s
  | .ppsEdge => Sys2Proof.Machine.execPpsEdge s
  | .ppsTimeout => Sys2Proof.Machine.execPpsTimeout s
  | .timeProbeSend => Sys2Proof.Machine.execTimeProbeSend s
  | .timeProbe => Sys2Proof.Machine.execTimeProbe s
  | .timeReply => Sys2Proof.Machine.execTimeReply s
  | .timeSet q v => Sys2Proof.Machine.execTimeSet q v s
  | .devReset q v => Sys2Proof.Machine.execDevReset q v s
  | .pinReset => Sys2Proof.Machine.execPinReset s
  | .powerOnReset => Sys2Proof.Machine.execPowerOnReset s
  | .supplyReset => Sys2Proof.Machine.execSupplyReset s
  | .resetRelease kind twinSide mgmtId => Sys2Proof.Machine.execResetRelease kind twinSide mgmtId s
  | .bootFirmwareCheck aOk bOk => Sys2Proof.Machine.execBootFirmwareCheck aOk bOk s
  | .startUpEnd => Sys2Proof.Machine.execStartUpEnd s
  | .snapshot q v => Sys2Proof.Machine.execSnapshot q v s
  | .snapshotCapture => Sys2Proof.Machine.execSnapshotCapture s
  | .counterWindow q k v => Sys2Proof.Machine.execCounterWindow q k v s
  | .windowStop q k v => Sys2Proof.Machine.execWindowStop q k v s
  | .windowRecordWrite k => Sys2Proof.Machine.execWindowRecordWrite k s
  | .sampleCtl q v => Sys2Proof.Machine.execSampleCtl q v s
  | .sampleStop q v => Sys2Proof.Machine.execSampleStop q v s
  | .sampleRecord => Sys2Proof.Machine.execSampleRecord s
  | .sampleConsumerRead => Sys2Proof.Machine.execSampleConsumerRead s
  | .sliceCounterRecord sl => Sys2Proof.Machine.execSliceCounterRecord sl s
  | .roleKey q n v => Sys2Proof.Machine.execRoleKey q n v s
  | .forwardedClockReturn p => Sys2Proof.Machine.execForwardedClockReturn p s
  | .symbolLockLoss p => Sys2Proof.Machine.execSymbolLockLoss p s
  | .symbolLockRegained p => Sys2Proof.Machine.execSymbolLockRegained p s
  | .timebaseTick => Sys2Proof.Machine.execTimebaseTick s
  | .hostLinkStateChange h l st width speed cxl => Sys2Proof.Machine.execHostLinkStateChange h l st width speed cxl s
  | .functionsReady h l => Sys2Proof.Machine.execFunctionsReady h l s
  | .pcieConfigWrite f w => Sys2Proof.Machine.execPcieConfigWrite f w s
  | .msixVectorUnmask f w => Sys2Proof.Machine.execMsixVectorUnmask f w s
  | .testAccessPort trstN tms tdi ti => Sys2Proof.Machine.execTestAccessPort trstN tms tdi ti s

end Sys2Proof.Machine
end

