-- ==== Sys2Proof/Safety.lean ====
section
/-! DEFINITION. What claims are stated in: the moves of the life cycle that are legal, requests that the management server accepts, and
what counts as an unchanged part of the device. -/

namespace Sys2Proof.Machine

/-! Life cycle (Table SEC-5) -/

/-- The moves of Table SEC-5. -/
def LifeCycle.leads : LifeCycle → LifeCycle → Bool
  | .maker, .install | .install, .service | .service, .install => true
  | .maker, .retired | .install, .retired | .service, .retired => true
  | _, _ => false

/-- A change that is committed and not yet complete is a legal move from the present state (R596, R597). -/
def State.lifeLegal (s : State) : Prop :=
  ∀ x key, s.mgmt.lcPending = some (x, key) → s.mgmt.lifecycle.leads x = true

/-- Between two states the life cycle stands, or a legal change is committed, or the committed change is completed (R597). -/
def State.lifeStep (s t : State) : Prop :=
  (t.mgmt.lifecycle = s.mgmt.lifecycle ∧ (t.mgmt.lcPending = s.mgmt.lcPending
    ∨ ∃ x key, t.mgmt.lcPending = some (x, key) ∧ s.mgmt.lifecycle.leads x = true))
  ∨ (t.mgmt.lcPending = none ∧ ∃ key, s.mgmt.lcPending = some (t.mgmt.lifecycle, key))

/-! Requests that the server accepts (R556, R565, R606) -/

/-- The server's door admits the request: the server runs, the path is open, the session is open on it for the role, the tag and the
sequence number are right, nothing of the session is under way, and the device is not in recovery mode. -/
def State.atDoor (s : State) (q : Req) (role : Role) : Bool :=
  let x := s.sess q.session
  s.serving && s.pathOpen q.path && q.path != .pair && !s.mgmt.recovery && x.st == .opened && x.path == q.path && q.tagOk
    && x.role == role && q.seq == x.last + 1 && !x.executing && !q.full

/-- The audit record and the caddy record that the write needs can be written (R557, R601, R604). -/
def State.roomFor (s : State) (q : Req) (role : Role) (r : Reg) : Bool :=
  let due := State.auditDue role r.audits
  !(due && s.auditFull) && (!(r.caddy || due) || (q.caddyOk && !(r.inConfig && s.mgmt.segFree == 0)))

/-- The role may write the value: no access is denied, no life-cycle state forbids it, it fits the object (R556, R8, R555, R595). -/
def State.mayStore (s : State) (q : Req) (role : Role) (r : Reg) (i e : Nat) (v : Image) : Bool :=
  (decide (i < r.insts) || (i == 48 && r.twin != 0)) && !r.denies i role (s.reg r i e) v && !s.lifeForbids role
    && decide (v.toNat < 2 ^ r.bits) && !r.reservedSet v && !q.odd
    && (if r.entries = 0 then q.entry == 0 && q.count == 0 && decide (e < r.subs) else decide (e < r.entries))

/-- A dictionary write of one value that the server accepts, but for the object's own rules: the trailer of a pair does not pass it on,
and a surrendered device may change the object (R512). -/
def State.mayWrite (s : State) (q : Req) (role : Role) (r : Reg) (i e : Nat) (v : Image) : Bool :=
  s.atDoor q role && s.mayStore q role r i e v && s.roomFor q role r
    && (mirrorScope r i != some false || !s.passes) && ((mirrorScope r i).isNone || s.twin.st != .surrendered)

/-- A START of a maintenance operation that the server accepts, but for the operation's own refusals (R581, R582). -/
def State.mayOperate (s : State) (q : Req) (role : Role) (r : Reg) (v : Image) (k p : Nat) : Bool :=
  s.atDoor q role && !r.denies 0 role 0 v && !s.lifeForbids role && decide (v.toNat < 2 ^ r.bits) && !r.reservedSet v && !q.odd
    && q.entry == 0 && q.count == 0 && (s.opBlocked k p).isNone && s.roomFor q role r && s.twin.st != .surrendered

/-- Decisions are taken: both collectors' words come, and collector B's next word is not altered (R535, R551). -/
def State.decides (s : State) : Bool := s.faults.aOk && s.faults.bOk && !s.faults.alter

/-! The arbiter by itself (R346–R350) -/

/-- No address of a burst has to be translated, no placement or release waits for bursts, and nothing of an ended access or epoch is
left to report: a move of the arbiter touches the arbiter alone. -/
def State.still (s : State) : Bool :=
  s.host.arb.bursts.all (fun b => !b.stale) && s.trans.ended.isEmpty && s.colls.ends.isEmpty && s.host.arb.placed.isEmpty
    && s.remote.placing.isEmpty && s.remote.invals.isEmpty && s.service.releasing.isEmpty

/-! Translation, messages and requests that arrive (R370, R392, R406, R426, Tables MSG-3, RMA-3) -/

/-- Accesses of a slice go to memory with their own addresses: stage 1 is off, stage 2 bypassed, and no access is left that ended with
a fault. -/
def State.bypass (s : State) (sl : Nat) : Bool :=
  s.trans.ended.isEmpty && !s.stage1On sl && s.stage2Mode sl == 2 && !s.serviceMode

/-- A message's station belongs to the slice, its channel expects its number and is whole, nothing of Table MSG-3 refuses it, and no
walk of its context's overflow list comes first. -/
def State.inStep (s : State) (h : Header) (sl n : Nat) : Bool :=
  s.stationSlice h.dstStation.toNat == some sl
    && (match s.msgRefusal sl h with | .ok k => k == n | .error _ => false)
    && (match s.peer (pairOf h) with
      | some p => (p.recv h.cls.toNat).known && (p.recv h.cls.toNat).broken.isNone && (p.recv h.cls.toNat).expect == h.msgId.toNat
      | none => false)
    && (s.mctx n).walking.isNone

/-- A request's station belongs to the slice, which takes requests under its key, and its message is new in the window of a peer
context on chip, with a tracker to be had. -/
def State.admits (s : State) (h : Header) (sl : Nat) : Bool :=
  s.stationSlice h.dstStation.toNat == some sl && !s.refuses sl && s.intakeRoom (s.stationHome h.dstStation.toNat) sl
    && (s.inboundFunc sl).isSome && s.holdsKey sl h.pkey.toNat
    && (match (s.peer (pairOf h)).bind (fun p => p.arrive h.msgId.toNat) with
      | some p => !p.complete h.msgId.toNat && p.trackers.all (fun t => t.num != h.msgId.toNat) && decide (s.trackersUsed < 16384)
      | none => false)

/-! Packets of a collective (R451, R475) -/

/-- A packet of the current epoch and attempt of a valid context whose slice is not halted, from the node at a tree port among
`edges`. -/
def State.collTakes (s : State) (h : Header) (n : Nat) (edges : List Nat) (edge : Nat) : Bool :=
  n == h.ctx.toNat % 4096 && s.collValid n && (s.slice (s.collSlice n)).st != .halted
    && edges.find? (fun p => s.collNode p = some h.srcNode) == some edge && diff24 h.msgId.toNat (s.coll n).last == 1
    && h.ext.toNat / 2 ^ 24 == (s.coll n).attempt

end Sys2Proof.Machine
end

