-- ==== Sys2Proof/Certificates/Slice0/Obligations.lean ====
section
/-! DEFINITION. What is to be proved of the device, statement by statement. -/

open Sys2Proof Sys2Proof.Machine

/-- For every command c and state s, the step of s with c at the front of its queue is exec of c on s with the rest of the queue (the queue is the model's, notes/assumptions/1.md). -/
def Obligations.FrontCommandRuns : Prop :=
  ∀ (c : Instr) (rest : List Instr) (s : State), step { s with pending := c :: rest } = exec c { s with pending := rest }

/-- With an empty queue a step answers the same state; time passes only by TIMEBASE_TICK. -/
def Obligations.EmptyQueueIdles : Prop :=
  ∀ s : State, s.pending = [] → step s = .next s

/-- After reset every dictionary object reads its default, every link is DOWN, every lane OFF, no session is open, no maintenance operation runs, every fault source is IDLE, every slice is STOPPED with no queues, TIME is 0 in FREE, every gate is disabled, the life cycle is INSTALL with no change pending, and no command waits. -/
def Obligations.ResetLeaves : Prop :=
  (∀ (r : Reg) (i e : Nat), State.reset.reg r i e = r.default i e ∧ State.reset.eff r i e = r.default i e)
  ∧ (∀ p : Nat, (State.reset.link p).st = .down ∧ (State.reset.lane p).st = .off ∧ (State.reset.output p).gate.enable = false)
  ∧ (∀ n : Nat, (State.reset.sess n).st = .free ∧ (State.reset.slice n).st = .stopped ∧ (State.reset.src n).st = .idle)
  ∧ (∀ k p : Nat, (State.reset.op k p).st = 0)
  ∧ State.reset.host.wqs = [] ∧ State.reset.host.cqs = [] ∧ State.reset.host.eqs = []
  ∧ State.reset.timeQ = 0 ∧ State.reset.time.st = .free
  ∧ State.reset.mgmt.lifecycle = .install ∧ State.reset.mgmt.lcPending = none ∧ State.reset.pending = []

/-- For every command c, that is each of the 303 constructors of Instr, and every state, exec of c on the state with rest waiting answers a next state, the step with c in front of rest answers the same one, in it rest waits, and DEVICE_ID and the enabled ports are what they were. -/
def Obligations.EveryCommandAnswers : Prop :=
  ∀ (c : Instr) (rest : List Instr) (s : State), ∃ t, exec c { s with pending := rest } = .next t
    ∧ step { s with pending := c :: rest } = .next t ∧ t.pending = rest ∧ t.straps.deviceId = s.straps.deviceId ∧ t.straps.ports = s.straps.ports

/-- Take any state in which a change that is committed and not complete is a legal move. Whatever its next step does, the same holds after it, and between the two states the life cycle either stands (and at most a legal change is committed) or moves to the state that was committed, which completes the change. -/
def Obligations.LifeCycleMovesLegally : Prop :=
  ∀ s t : State, s.lifeLegal → step s = .next t → s.lifeStep t ∧ t.lifeLegal

/-- The state after reset meets the invariant of LifeCycleMovesLegally. -/
def Obligations.LifeLegalAtReset : Prop :=
  State.reset.lifeLegal

/-- From a state that meets the invariant, a step leaves a RETIRED device RETIRED, and a device that is in MAKER after a step was in MAKER before it. -/
def Obligations.RetiredStaysRetired : Prop :=
  ∀ s t : State, s.lifeLegal → step s = .next t →
    (s.mgmt.lifecycle = .retired → t.mgmt.lifecycle = .retired) ∧ (t.mgmt.lifecycle = .maker → s.mgmt.lifecycle = .maker)

/-- Whatever a step does, MIN_VERSION after it is at least MIN_VERSION before it. -/
def Obligations.LeastVersionNeverFalls : Prop :=
  ∀ s t : State, step s = .next t → s.mgmt.minVersion ≤ t.mgmt.minVersion

/-- Reading the header that a header's bits spell gives that header, with every field at every value, and spelling the header that 256 bits read as gives those bits: no bit of Table FAB-8 is dropped or read twice. -/
def Obligations.HeaderRoundTrip : Prop :=
  (∀ h : Header, Header.ofBits h.toBits = h) ∧ ∀ b : BitVec 256, (Header.ofBits b).toBits = b

/-- The check of a header is the same whatever COLOUR, PHASE, HOPS, CONG and HCHK hold (header bits 255 to 230), so a packet's check stays right over every hop. -/
def Obligations.HeaderCheckSkipsHopFields : Prop :=
  ∀ (h : Header) (co ph cg : BitVec 2) (ho : BitVec 4) (k : BitVec 16),
    ({ h with colour := co, phase := ph, hops := ho, cong := cg, hchk := k } : Header).check = h.check

/-- In a state whose stored objects stand in the order of their keys, storing a value in an entry of an object makes that entry read it, leaves every other key as it was, and keeps the form of the memory that holds a firmware image when bytes are written to it. -/
def Obligations.DictionaryHoldsWhatIsWritten : Prop :=
  (∀ (s : State) (r : Reg) (i e : Nat) (v : Image), Table.risingFrom none s.dict = true →
      (s.setReg r i e v).reg r i e = v)
  ∧ (∀ (s : State) (r r' : Reg) (i e i' e' : Nat) (v : Image), r'.key i' e' ≠ r.key i e → (s.setReg r i e v).reg r' i' e' = s.reg r' i' e')
  ∧ ∀ (m : Memory) (a : Nat) (bs : List Byte), m.wf = true → (m.writeAll a bs).wf = true
      ∧ ∀ j, j < a ∨ a + bs.length ≤ j → (m.writeAll a bs).read j = m.read j

/-- SYNTH_LOCKED, FORWARDED_CLOCK_PRESENT, EYE_CENTRE_FOUND, MARKERS_FOUND and FEC_LOCKED, each in the stage of bring-up that waits for it, take a port to CLOCK_ACQUIRE, PHASE_TRIM, ALIGN, FEC_LOCK and LANE_UP. The first starts the stream with an alignment block that carries the port's AB_COUNT, the third sets the trims, the second lets the port's timers run where its transmitter is ready, the fourth sets SKEW to the spread of the arrivals and each lane's deskew to its distance from the latest, the last ends an EQ_LOAD and queues the first LINK_INIT. Every other port's lanes stay as they are. It concludes exec c s = next t, on conditions on the state and the operands alone, for c = synthLocked, forwardedClockPresent, eyeCentreFound, markersFound, fecLocked. -/
def Obligations.LaneBringUpAdvances : Prop :=
  (∀ (s : State) (p : Nat),
      (s.lane p).st = .synthLock →
      ∃ t, exec (.synthLocked p) s = .next t ∧ t.lane p = { s.lane p with st := .clockAcquire, txReady := true, lockLost := false }
        ∧ t.out = .alignBlock p (s.stream p).ab :: s.out ∧ t.dict = s.dict ∧ ∀ q, q ≠ p → t.lane q = s.lane q)
  ∧ (∀ (s : State) (p : Nat),
      (s.lane p).st = .clockAcquire →
      ∃ t, exec (.forwardedClockPresent p .expected) s = .next t ∧ t.lane p = { s.lane p with st := .phaseTrim, rxClock := true }
        ∧ (t.link p).pauseAt.isSome = !(s.lane p).txReady ∧ t.dict = s.dict ∧ t.out = s.out ∧ ∀ q, q ≠ p → t.lane q = s.lane q)
  ∧ (∀ (s : State) (p : Nat) (trims : List Nat),
      (s.lane p).st = .phaseTrim →
      exec (.eyeCentreFound p trims) s = .next (s.setLane p { s.lane p with st := .align, trims := trims }))
  ∧ (∀ (s : State) (p : Nat) (arrivals : List Nat) (lo hi : Nat),
      (s.lane p).st = .align → lo ∈ arrivals → hi ∈ arrivals → (∀ a ∈ arrivals, lo ≤ a ∧ a ≤ hi) → hi ≤ lo + 255 →
      exec (.markersFound p (List.range (if p = 48 then 4 else 8)) arrivals) s
          = .next (s.setLane p { s.lane p with st := .fecLock, skew := hi - lo, deskew := arrivals.map (hi - ·) }))
  ∧ (∀ (s : State) (p : Nat),
      (s.lane p).st = .fecLock → (s.link p).flushing = false →
      ∃ t, exec (.fecLocked p) s = .next t ∧ t.lane p = { s.lane p with st := .laneUp } ∧ (t.link p).st = .init ∧ t.opActive 2 p = false
        ∧ (∃ i, (t.link p).ctlQ = (s.link p).ctlQ ++ [.linkInit i] ∧ i.epoch = s.epoch p ∧ i.node = s.ownNode)
        ∧ ∀ q, q ≠ p → t.lane q = s.lane q ∧ t.link q = s.link q)

/-- Each timeout of bring-up, in the stage it watches, takes the port to RETRY_WAIT with its own LAST_FAIL, the transmitter not ready, pauses the port's timers, raises the lane fault source of the port, ends a running EQ_LOAD FAILED with the same code, and leaves every other port's lanes and link alone. RETRY_WAIT_EXPIRY counts the retry (at most 255) and starts bring-up with the selected profile when that is valid and of the port's rate. It concludes exec c s = next t, on conditions on the state and the operands alone, for c = synthLockTimeout, clockAcquireTimeout, phaseTrimTimeout, alignTimeout, fecLockTimeout, retryWaitExpiry. -/
def Obligations.BringUpTimeoutsFail : Prop :=
  (∀ (s : State) (p : Nat) (st : LaneSt) (c : Instr) (f : LaneFail),
      
      (st, c, f) ∈ [(LaneSt.synthLock, Instr.synthLockTimeout p, LaneFail.synthLock), (.clockAcquire, .clockAcquireTimeout p, .noClock), (.phaseTrim, .phaseTrimTimeout p, .trim), (.align, .alignTimeout p, .noComma), (.fecLock, .fecLockTimeout p, .fecLock)] →
      (s.lane p).st = st →
      ∃ t, exec c s = .next t
        ∧ t.lane p = { s.lane p with st := .retryWait, lastFail := f, txReady := false, lockLost := false }
        ∧ t.wires = s.wires ++ [8 * p] ∧ (t.link p).pauseAt.isSome = true ∧ t.dict = s.dict
        ∧ (s.opActive 2 p = true → (t.op 2 p).st = 4 ∧ (t.op 2 p).fail = f.code) ∧ t.opActive 2 p = false
        ∧ ∀ q, q ≠ p → t.lane q = s.lane q ∧ t.link q = s.link q)
  ∧ (∀ (s : State) (p sel : Nat),
      (s.lane p).st = .retryWait → s.role p ≠ 7 → fldN (s.reg R.eqSelect p) 2 0 = sel →
      bit (s.reg R.eqProfile p sel) 0 = true → bit (s.reg R.eqProfile p sel) 1 = bit (s.reg R.laneCtl p) 1 →
      ∃ t, exec (.retryWaitExpiry p) s = .next t ∧ (t.lane p).st = .synthLock
        ∧ (t.lane p).retries = min 255 ((s.lane p).retries + 1) ∧ (t.lane p).profileActive = sel
        ∧ (t.lane p).rateActive = bit (s.reg R.laneCtl p) 1 ∧ t.dict = s.dict ∧ ∀ q, q ≠ p → t.lane q = s.lane q ∧ t.link q = s.link q)

/-- At LANE_UP, losing synthesiser lock takes readiness away and pauses the port's timers; losing the forwarded clock clears CLOCK and pauses them, its return sets CLOCK and lets them run once the transmitter is ready; in Zalden mode losing symbol lock is noted until it is regained. When lock or clock has been lost too long, a link that is not DOWN goes DOWN with cause LANE and the lanes to RETRY_WAIT with LAST_FAIL TX_LOCK_LOST or RX_CLOCK_LOST; when symbol lock stays lost in Zalden mode with the port's timers running, it goes DOWN with cause LOCK_LOSS. No other port's lanes move. It concludes exec c s = next t, on conditions on the state and the operands alone, for c = synthLockLoss, forwardedClockLoss, forwardedClockReturn, symbolLockLoss, symbolLockRegained, txLockLostTimeout, rxClockLostTimeout, lockLossExpiry. -/
def Obligations.LostLockAndClock : Prop :=
  (∀ (s : State) (p : Nat),
      (s.lane p).st = .laneUp →
      ∃ t, exec (.synthLockLoss p) s = .next t ∧ t.lane p = { s.lane p with txReady := false, lockLost := true }
        ∧ (t.link p).pauseAt.isSome = true ∧ t.dict = s.dict ∧ t.out = s.out ∧ ∀ q, q ≠ p → t.lane q = s.lane q ∧ t.link q = s.link q)
  ∧ (∀ (s : State) (p : Nat),
      ∃ t, exec (.forwardedClockLoss p) s = .next t ∧ t.lane p = { s.lane p with rxClock := false }
        ∧ (t.link p).pauseAt.isSome = true ∧ t.dict = s.dict ∧ t.out = s.out ∧ ∀ q, q ≠ p → t.lane q = s.lane q ∧ t.link q = s.link q)
  ∧ (∀ (s : State) (p : Nat),
      (s.lane p).st = .laneUp →
      ∃ t, exec (.forwardedClockReturn p) s = .next t ∧ t.lane p = { s.lane p with rxClock := true }
        ∧ (t.link p).pauseAt.isSome = !(s.lane p).txReady ∧ t.dict = s.dict ∧ t.out = s.out ∧ ∀ q, q ≠ p → t.lane q = s.lane q ∧ t.link q = s.link q)
  ∧ (∀ (s : State) (p : Nat),
      (s.lane p).rateActive = true →
      exec (.symbolLockLoss p) s = .next (s.setLane p { s.lane p with symLoss := true }))
  ∧ (∀ (s : State) (p : Nat),
      exec (.symbolLockRegained p) s = .next (s.setLane p { s.lane p with symLoss := false }))
  ∧ (∀ (s : State) (p : Nat),
      (s.lane p).st = .laneUp → (s.lane p).lockLost = true → (s.link p).st ≠ .down →
      ∃ t, exec (.txLockLostTimeout p) s = .next t ∧ (t.lane p).st = .retryWait ∧ (t.lane p).lastFail = .txLockLost
        ∧ (t.link p).st = .down ∧ (t.link p).lastDown = 4 ∧ 8 * p ∈ t.wires ∧ ∀ q, q ≠ p → t.lane q = s.lane q)
  ∧ (∀ (s : State) (p : Nat),
      (s.lane p).st = .laneUp → (s.lane p).rxClock = false → (s.link p).st ≠ .down →
      ∃ t, exec (.rxClockLostTimeout p) s = .next t ∧ (t.lane p).st = .retryWait ∧ (t.lane p).lastFail = .rxClockLost
        ∧ (t.link p).st = .down ∧ (t.link p).lastDown = 4 ∧ 8 * p ∈ t.wires ∧ ∀ q, q ≠ p → t.lane q = s.lane q)
  ∧ (∀ (s : State) (p : Nat),
      (s.lane p).rateActive = true → (s.lane p).symLoss = true → (s.link p).pauseAt = none →
      (s.link p).st ≠ .down →
      ∃ t, exec (.lockLossExpiry p) s = .next t ∧ (t.lane p).st = .retryWait ∧ (t.link p).st = .down ∧ (t.link p).lastDown = 3
        ∧ 8 * p ∈ t.wires ∧ ∀ q, q ≠ p → t.lane q = s.lane q)

/-- With a link up at native rate, both addresses valid, an interval set and nothing asked, CALM_INTERVAL_EXPIRY and, after a refusal, CALM_RETRY record a request and queue its CALM_REQUEST (OP 1). An undamaged CALM_REQUEST of a spaced, idle port is granted with its own numbers and fixes the window; a CALM_GRANT that names the port's request fixes it at the partner's numbers; a CALM_REFUSE that names it asks for a retry. CALM_WINDOW_START at LANE_UP announces CALM_NEXT, takes readiness, notes the start and pauses the timers; CALM_WINDOW_END sets the trims and deskew found, with SKEW their spread, and returns to LANE_UP, and LANE_CAL ends. When the numbers asked for are drawn they are free within their bounds (notes/assumptions/2.md). It concludes exec c s = next t, on conditions on the state and the operands alone, for c = calmIntervalExpiry, calmRetry, calmRequest, calmGrant, calmRefuse, calmWindowStart, calmWindowEnd. -/
def Obligations.CalmWindowsRunTheirCourse : Prop :=
  (∀ (s : State) (p : Nat),
      s.calmable p = true → s.nodeValid = true → s.partnerValid p = true → fldN (s.reg R.laneCtl p) 23 16 ≠ 0 →
      (s.lane p).calmReq = none → (s.lane p).calmWin = none →
      ∃ t, exec (.calmIntervalExpiry p) s = .next t ∧ (∀ q, q ≠ p → t.lane q = s.lane q ∧ t.link q = s.link q)
        ∧ ∃ i, (t.lane p).calmReq = some i ∧ i.op = 1 ∧ 64 ≤ i.startDelay ∧ i.startDelay < 8192 ∧ 2 ≤ i.duration ∧ i.duration ≤ 1250
        ∧ (t.link p).ctlQ = (s.link p).ctlQ ++ [.calm i])
  ∧ (∀ (s : State) (p : Nat),
      s.calmable p = true → s.nodeValid = true → s.partnerValid p = true → (s.lane p).calmRetry = true →
      (s.lane p).calmWin = none →
      ∃ t, exec (.calmRetry p) s = .next t ∧ (t.lane p).calmRetry = false
        ∧ ∃ i, (t.lane p).calmReq = some i ∧ i.op = 1 ∧ (t.link p).ctlQ = (s.link p).ctlQ ++ [.calm i])
  ∧ (∀ (s : State) (p : Nat) (c : LinkCell) (i : CalmInfo),
      (s.link p).st ≠ .down → c.damaged = false → c.type = .calm → calmOf c = i → i.op = 1 →
      (s.lane p).rateActive = false → (s.lane p).calmReq = none → s.calmSpaced p = true →
      (s.lane p).patternWaits = false → (s.lane p).st = .laneUp → s.opActive 2 p = false →
      ∃ t, exec (.calmRequest p c) s = .next t
        ∧ (t.lane p).calmWin = some { startAt := s.uptime + cwTicks i.startDelay, duration := i.duration }
        ∧ .calm { op := 2, id := i.id, startDelay := i.startDelay, duration := i.duration } ∈ (t.link p).ctlQ)
  ∧ (∀ (s : State) (p : Nat) (c : LinkCell) (i r : CalmInfo),
      (s.link p).st ≠ .down → c.damaged = false → c.type = .calm → calmOf c = i → i.op = 2 →
      (s.lane p).calmReq = some r → i.id = r.id →
      ∃ t, exec (.calmGrant p c) s = .next t ∧ (t.lane p).calmReq = none
        ∧ (t.lane p).calmWin = some { startAt := s.uptime + cwTicks i.startDelay, duration := i.duration })
  ∧ (∀ (s : State) (p : Nat) (c : LinkCell) (i r : CalmInfo),
      (s.link p).st ≠ .down → c.damaged = false → c.type = .calm → calmOf c = i → i.op = 3 →
      (s.lane p).calmReq = some r → i.id = r.id →
      ∃ t, exec (.calmRefuse p c) s = .next t ∧ (t.lane p).calmReq = none ∧ (t.lane p).calmRetry = true)
  ∧ (∀ (s : State) (p : Nat) (w : CalmWin),
      (s.lane p).st = .laneUp → (s.lane p).calmWin = some w →
      ∃ t, exec (.calmWindowStart p) s = .next t
        ∧ t.lane p = { s.lane p with st := .calm, txReady := false, lockLost := true, calmLast := some s.uptime }
        ∧ (∃ n, t.out = .codeword p (Wire.control n .calmNext) :: s.out) ∧ (t.link p).pauseAt.isSome = true
        ∧ t.dict = s.dict ∧ ∀ q, q ≠ p → t.lane q = s.lane q ∧ t.link q = s.link q)
  ∧ (∀ (s : State) (p : Nat) (trims deskew : List Nat),
      (s.lane p).st = .calm →
      ∃ t, exec (.calmWindowEnd p trims deskew) s = .next t
        ∧ t.lane p = { s.lane p with st := .laneUp, calmWin := none, trims := trims, deskew := deskew,
                                     skew := (spread deskew).2 - (spread deskew).1,
                                     txReady := (s.lane p).txReady || !(s.lane p).lockLost }
        ∧ t.opActive 1 p = false ∧ ∀ q, q ≠ p → t.lane q = s.lane q)

/-- With DOZE_IDLE set and the idle condition met, a port that may doze and has asked nothing records a request under a free identifier and queues its DOZE_REQUEST; one that may doze answers a request with a grant and dozes; a grant of the request of a port that may doze makes it doze, a refusal forgets the request. Dozing: the lanes in DOZE without transmitter and clock, the link in DOZE, no pressure report or time message waiting. A cause to wake sends a tone and makes the port lead; a tone makes a dozing port follow. WAKE_LOCKED returns lanes and link to LANE_UP and out of DOZE; WAKE_TIMEOUT takes the link DOWN with WAKE_FAIL and the lanes to RETRY_WAIT with TX_LOCK_LOST. It concludes exec c s = next t, on conditions on the state and the operands alone, for c = dozeIdleExpiry, dozeRequest, dozeGrant, dozeRefuse, wakeCausePort, wakeTone, wakeLocked, wakeTimeout. -/
def Obligations.DozeAndWake : Prop :=
  (∀ (s : State) (p : Nat),
      s.dozeIdle p ≠ 0 → s.dozeDue p = true → s.dozeAble p = true → (s.lane p).dozeReq = none →
      ∃ t, exec (.dozeIdleExpiry p) s = .next t ∧ ∃ id, t.lane p = { s.lane p with dozeReq := some id }
        ∧ (t.link p).ctlQ = (s.link p).ctlQ ++ [.calm { op := 4, id := id }])
  ∧ (∀ (s : State) (p : Nat) (c : LinkCell),
      (s.link p).st = .up → c.damaged = false → c.type = .calm → (calmOf c).op = 4 → p ≠ 48 → s.dozeIdle p ≠ 0 →
      s.dozeDue p = true → s.dozeAble p = true →
      ∃ t, exec (.dozeRequest p c) s = .next t ∧ (t.lane p).st = .doze ∧ (t.lane p).txReady = false ∧ (t.lane p).rxClock = false
        ∧ (t.link p).st = .doze ∧ (∀ m ∈ (t.link p).bypassQ, ¬(1 ≤ fldN m 7 0 ∧ fldN m 7 0 ≤ 3))
        ∧ ∀ q, q ≠ p → t.lane q = s.lane q ∧ t.link q = s.link q)
  ∧ (∀ (s : State) (p : Nat) (c : LinkCell) (id : BitVec 8),
      (s.link p).st = .up → c.damaged = false → c.type = .calm → (calmOf c).op = 5 → (s.lane p).dozeReq = some id →
      (calmOf c).id = id → s.dozeAble p = true →
      ∃ t, exec (.dozeGrant p c) s = .next t ∧ (t.lane p).st = .doze ∧ (t.lane p).txReady = false ∧ (t.lane p).dozeReq = none
        ∧ (t.link p).st = .doze ∧ (∀ m ∈ (t.link p).bypassQ, ¬(1 ≤ fldN m 7 0 ∧ fldN m 7 0 ≤ 3)))
  ∧ (∀ (s : State) (p : Nat) (c : LinkCell) (id : BitVec 8),
      (s.link p).st ≠ .down → c.damaged = false → c.type = .calm → (calmOf c).op = 6 →
      (s.lane p).dozeReq = some id → (calmOf c).id = id → (s.lane p).st = .laneUp →
      ∃ t, exec (.dozeRefuse p c) s = .next t ∧ t.lane p = { s.lane p with dozeReq := none })
  ∧ (∀ (s : State) (p : Nat),
      (s.lane p).st = .doze → (s.link p).bypassQ ≠ [] →
      ∃ t, exec (.wakeCausePort p) s = .next t ∧ t.lane p = { s.lane p with st := .wake, wakeLeads := true, wakeTone := true }
        ∧ t.out = .wakeTone p :: s.out ∧ t.links = s.links)
  ∧ (∀ (s : State) (p : Nat),
      (s.lane p).st = .doze →
      exec (.wakeTone p) s = .next (s.setLane p { s.lane p with st := .wake, wakeLeads := false, wakeTone := false }))
  ∧ (∀ (s : State) (p : Nat),
      (s.lane p).st = .wake → (s.lane p).txReady = true → (s.lane p).calmRetry = false →
      ∃ t, exec (.wakeLocked p) s = .next t
        ∧ t.lane p = { s.lane p with st := .laneUp, rxClock := true, wakeLeads := false, wakeTone := false }
        ∧ (t.link p).st.running = true)
  ∧ (∀ (s : State) (p : Nat),
      (s.lane p).st = .wake → (s.link p).st = .doze →
      ∃ t, exec (.wakeTimeout p) s = .next t ∧ (t.lane p).st = .retryWait ∧ (t.lane p).lastFail = .txLockLost
        ∧ (t.link p).st = .down ∧ (t.link p).lastDown = 9)

/-- For a request that the server accepts and a port whose role is not OFF: RETRAIN outside TEST takes a link that is not DOWN down with cause ADMIN and, with a selected profile that is valid and of the port's rate, starts bring-up; WAKE makes a dozing port lead a wake; a TEST_PATTERN other than NONE (at most 4) takes the port to TEST and its link DOWN, runs at once where the synthesiser is locked and waits else, and TEST_PATTERN_DEFERRED_START lets it run once the transmitter is ready and ends an EQ_LOAD; LANE_CAL on an UP link at native rate runs and asks for a window, and ends FAILED with 2 when the window does not come; EQ_LOAD restarts bring-up, behind a running calm window DEFERRED until EQ_LOAD_DEFERRED_START. It concludes exec c s = next t, on conditions on the state and the operands alone, for c = retrain, wake, testPattern, testPatternDeferredStart, laneCal, laneCalTimeout, eqLoad, eqLoadDeferredStart. -/
def Obligations.LaneCommandsOfTheDictionary : Prop :=
  (∀ (s : State) (q : Req) (role : Role) (p : Nat) (v prof : Image),
      s.role p ≠ 7 → s.mayWrite q role R.laneCtl p 0 (v ||| 1) = true → p ≠ 48 → bit v 2 = false →
      (s.lane p).st ≠ .test → (s.link p).st ≠ .down → s.reg R.eqProfile p (fldN (s.reg R.eqSelect p) 2 0) = prof →
      bit prof 0 = true → bit prof 1 = bit (R.laneCtl.merge (s.reg R.laneCtl p) (v ||| 1)) 1 →
      Table.risingFrom none s.dict = true →
      ∃ t, exec (.retrain q p v) s = .next t ∧ (t.lane p).st = .synthLock ∧ (t.link p).st = .down ∧ (t.link p).lastDown = 7)
  ∧ (∀ (s : State) (q : Req) (role : Role) (p : Nat) (v : Image),
      s.mayWrite q role R.laneCtl p 0 (v ||| 4) = true → p ≠ 48 → bit v 0 = false → (s.lane p).st = .doze →
      ∃ t, exec (.wake q p v) s = .next t ∧ t.lane p = { s.lane p with st := .wake, wakeLeads := true, wakeTone := true }
        ∧ t.links = s.links ∧ ∀ o, o ≠ p → t.lane o = s.lane o)
  ∧ (∀ (s : State) (q : Req) (role : Role) (p : Nat) (v : Image),
      s.role p ≠ 7 → s.mayWrite q role R.testPattern p 0 v = true → fldN v 2 0 ≠ 0 → fldN v 2 0 ≤ 4 →
      ∃ t, exec (.testPattern q p v) s = .next t ∧ (t.lane p).st = .test ∧ (t.link p).st = .down
        ∧ (t.lane p).patternRuns = (s.lane p).locked ∧ (t.lane p).patternWaits = !(s.lane p).locked)
  ∧ (∀ (s : State) (p : Nat),
      (s.lane p).st = .test → (s.lane p).patternWaits = true → (s.lane p).txReady = true →
      ∃ t, exec (.testPatternDeferredStart p) s = .next t ∧ t.lane p = { s.lane p with patternWaits := false, patternRuns := true }
        ∧ t.out = .pattern p ((s.reg R.testPattern p).extractLsb' 0 32) :: s.out ∧ t.opActive 2 p = false ∧ t.links = s.links)
  ∧ (∀ (s : State) (q : Req) (role : Role) (p : Nat) (v : Image),
      s.role p ≠ 7 → startPort v = some p → s.mayOperate q role R.laneCalStart v 1 p = true →
      bit (s.reg R.laneCtl p) 1 = false → (s.link p).st = .up → s.calmable p = true → s.nodeValid = true →
      s.partnerValid p = true → (s.lane p).calmReq = none → (s.lane p).calmWin = none →
      ∃ t, exec (.laneCal q v) s = .next t ∧ (t.op 1 p).st = 2
        ∧ ∃ i, (t.lane p).calmReq = some i ∧ (t.link p).ctlQ = (s.link p).ctlQ ++ [.calm i])
  ∧ (∀ (s : State) (p : Nat),
      s.opActive 1 p = true →
      ∃ t, exec (.laneCalTimeout p) s = .next t ∧ (t.op 1 p).st = 4 ∧ (t.op 1 p).fail = 2 ∧ t.lanes = s.lanes)
  ∧ (∀ (s : State) (q : Req) (role : Role) (p : Nat) (v : Image),
      s.role p ≠ 7 → startPort v = some p → s.mayOperate q role R.eqLoadStart v 2 p = true →
      (s.lane p).st = .calm →
      ∃ t, exec (.eqLoad q v) s = .next t ∧ (t.op 2 p).st = 1 ∧ t.lanes = s.lanes ∧ t.links = s.links)
  ∧ (∀ (s : State) (q : Req) (role : Role) (p : Nat) (v prof : Image),
      s.role p ≠ 7 → startPort v = some p → s.mayOperate q role R.eqLoadStart v 2 p = true →
      (s.lane p).st ≠ .calm → (s.lane p).st ≠ .test → (s.link p).st ≠ .down →
      s.reg R.eqProfile p (fldN (s.reg R.eqSelect p) 2 0) = prof → bit prof 0 = true →
      bit prof 1 = bit (s.reg R.laneCtl p) 1 →
      ∃ t, exec (.eqLoad q v) s = .next t ∧ (t.op 2 p).st = 2 ∧ (t.lane p).st = .synthLock ∧ (t.link p).st = .down)
  ∧ (∀ (s : State) (p : Nat) (prof : Image),
      s.role p ≠ 7 → (s.op 2 p).st = 1 → (s.lane p).st ≠ .calm → (s.lane p).st ≠ .test → (s.link p).st ≠ .down →
      s.reg R.eqProfile p (fldN (s.reg R.eqSelect p) 2 0) = prof → bit prof 0 = true →
      bit prof 1 = bit (s.reg R.laneCtl p) 1 →
      ∃ t, exec (.eqLoadDeferredStart p) s = .next t ∧ (t.op 2 p).st = 2 ∧ (t.lane p).st = .synthLock ∧ (t.link p).st = .down)

/-- At LANE_UP with the transmitter ready, LINK_CELL_TRANSMIT sends exactly one cell under the current ACK_SEQ (and an alignment block after it where it fills a span of 8,192 codewords): a waiting control cell before all else, with the LSEQ of the next sequenced cell; with nothing waiting an idle cell; else the cell that the egress stage offers, which takes the next sequence number, stays in the replay buffer and leaves the egress stage one shorter. PRESSURE_REPORT_SEND on a running link with room queues one pressure report with the level of each of the 48 ports. It concludes exec c s = next t, on conditions on the state and the operands alone, for c = linkCellTransmit, pressureReportSend. -/
def Obligations.LinkTransmits : Prop :=
  (∀ (s : State) (p : Nat) (m : CtlMsg) (ms : List CtlMsg),
      (s.lane p).txReady = true → (s.lane p).st = .laneUp → (s.link p).st ≠ .down → (s.link p).ctlQ = m :: ms →
      spanEnds (s.stream p).cells = false →
      ∃ t, exec (.linkCellTransmit p) s = .next t ∧ t.lanes = s.lanes ∧ t.inputs = s.inputs ∧ t.outputs = s.outputs
        ∧ ∃ c, t.out = .cell p c :: s.out ∧ c.body = m.body ∧ c.lseq = (s.link p).nextSeq ∧ c.ackSeq = (s.link p).expect - 1 ∧ c.vc = 0x3F)
  ∧ (∀ (s : State) (p : Nat),
      (s.lane p).txReady = true → (s.lane p).st = .laneUp → (s.link p).ctlQ = [] → (s.link p).bypassQ = [] →
      (s.link p).st.running = true → (s.link p).replayAt = none → s.pickCell p = none →
      spanEnds (s.stream p).cells = false →
      ∃ t, exec (.linkCellTransmit p) s = .next t ∧ t.lanes = s.lanes ∧ t.inputs = s.inputs ∧ t.outputs = s.outputs
        ∧ (t.link p).nextSeq = (s.link p).nextSeq
        ∧ ∃ c, t.out = .cell p c :: s.out ∧ c.type = .idle ∧ c.lseq = (s.link p).nextSeq ∧ c.ackSeq = (s.link p).expect - 1 ∧ c.vc = 0x3F)
  ∧ (∀ (s : State) (p n : Nat) (e : EgCell),
      (s.lane p).txReady = true → (s.lane p).st = .laneUp → (s.link p).ctlQ = [] → (s.link p).bypassQ = [] →
      (s.link p).st.running = true → (s.link p).replayAt = none → (s.link p).occupied < replayRoom p →
      s.pickCell p = some n → (s.offered p)[n]? = some e → e.abort = none → (s.link p).again = [] →
      ∃ t, exec (.linkCellTransmit p) s = .next t ∧ (t.link p).nextSeq = (s.link p).nextSeq + 1
        ∧ (t.link p).replay = (s.link p).replay ++ [{ seq := (s.link p).nextSeq, vc := e.vc, pid := e.pid, first := e.first, last := e.last, body := e.body, mark := e.mark, total := e.total, inp := e.inp, stamp := e.stamp, moved := e.moved }]
        ∧ (t.output (xIdx p)).egress = (s.output (xIdx p)).egress.eraseIdx n
        ∧ t.inputs = s.inputs ∧ ∃ c, t.out = s.closing p ++ .cell p c :: s.out ∧ c.lseq = (s.link p).nextSeq ∧ c.vc = BitVec.ofNat 6 e.vc ∧ c.isData = true)
  ∧ (∀ (s : State) (p : Nat),
      (s.link p).st.running = true → (s.link p).bypassQ.length < 64 →
      ∃ t, exec (.pressureReportSend p) s = .next t ∧ (t.link p).reportSeq = (s.link p).reportSeq + 1
        ∧ ∃ m, (t.link p).bypassQ = (s.link p).bypassQ ++ [m] ∧ fldN m 7 0 = 1 ∧ fldN m 15 8 = (s.link p).reportSeq.toNat
        ∧ ∀ x, x < 48 → fldN m (2 * x + 17) (2 * x + 16) = s.level x)

/-- On a running link an undamaged data cell or abort whose LSEQ is EXPECT moves EXPECT on by one, whatever becomes of it, and one that shows a gap leaves EXPECT and queues a NAK for it, unless one went a moment ago; an abort removes the packet open on its VC from its input; an idle cell in sequence only updates what its header updates, among it PRESSURE; a pressure report is recorded with its time, a time message waits for its owner; a data cell that the receive crossing cannot carry is counted, sets its overrun flag and raises its source, and does nothing else. It concludes exec c s = next t, on conditions on the state and the operands alone, for c = dataCellReceive, abort, idleCellReceive, bypassCellReceive. -/
def Obligations.LinkReceivesInSequence : Prop :=
  (∀ (s : State) (p : Nat) (c : LinkCell),
      (s.link p).st.running = true → c.damaged = false → c.isData = true → c.lseq = (s.link p).expect →
      ∃ t, exec (.dataCellReceive p c .carried) s = .next t ∧ (t.link p).expect = (s.link p).expect + 1 ∧ t.lanes = s.lanes)
  ∧ (∀ (s : State) (p : Nat) (c : LinkCell),
      (s.link p).st.running = true → c.damaged = false → c.isData = true →
      0 < seqAhead 12 c.lseq (s.link p).expect → seqAhead 12 c.lseq (s.link p).expect < 2048 →
      (s.link p).nakAt = none →
      ∃ t, exec (.dataCellReceive p c .carried) s = .next t ∧ (t.link p).expect = (s.link p).expect ∧ t.inputs = s.inputs
        ∧ .nak (s.link p).expect ∈ (t.link p).ctlQ)
  ∧ (∀ (s : State) (p : Nat) (c : LinkCell),
      exec (.dataCellReceive p c .overrun) s = .next ((s.countPort p 31).overrun p (5 + 8 * p)))
  ∧ (∀ (s : State) (p : Nat) (c : LinkCell) (x stamp : Nat),
      (s.link p).st.running = true → c.damaged = false → c.isAbort = true → c.lseq = (s.link p).expect →
      (s.input x).nextStamp ≠ 0 → Table.get RxOpen.none (s.link p).rxOpen c.vc.toNat = .pkt x stamp →
      ∃ t, exec (.abort p c) s = .next t ∧ (t.link p).expect = (s.link p).expect + 1 ∧ (t.input x).find stamp = none)
  ∧ (∀ (s : State) (p : Nat) (c : LinkCell),
      (s.link p).st.running = true → c.damaged = false → c.type = .idle → c.lseq = (s.link p).expect →
      exec (.idleCellReceive p c) s = .next (s.headerUpdate p c) ∧ ((s.headerUpdate p c).link p).pressureRx = c.pressure.toNat
        ∧ ((s.headerUpdate p c).link p).expect = (s.link p).expect ∧ (s.headerUpdate p c).out = s.out)
  ∧ (∀ (s : State) (p : Nat) (c : LinkCell),
      (s.link p).st.running = true → c.damaged = false → c.type = .bypass → c.lseq = (s.link p).expect → p ≠ 48 →
      fldN c.body 7 0 = 1 → (∀ i ∈ [1, 2, 3, 4, 5, 6, 7], fldN (c.body.extractLsb' (128 * i) 128) 7 0 = 0) →
      ∃ t, exec (.bypassCellReceive p c) s = .next t ∧ (t.link p).report = some (c.body.extractLsb' 16 96, s.uptime)
        ∧ t.bypassIn = s.bypassIn)
  ∧ (∀ (s : State) (p : Nat) (c : LinkCell),
      (s.link p).st.running = true → c.damaged = false → c.type = .bypass → c.lseq = (s.link p).expect →
      fldN c.body 7 0 = 2 → (∀ i ∈ [1, 2, 3, 4, 5, 6, 7], fldN (c.body.extractLsb' (128 * i) 128) 7 0 = 0) →
      ∃ t, exec (.bypassCellReceive p c) s = .next t ∧ t.bypassIn = s.bypassIn ++ [(p, c.body.extractLsb' 0 128, s.timeQ)])

/-- In INIT, a LINK_INIT is recorded and answered with the FRESH that the record allows and the partner's epoch; the acknowledgement that echoes the own epoch makes the link run with the partner recorded, resumed only if neither side says FRESH; LINK_INIT_RESEND queues the LINK_INIT again. With the port's timers running INIT_TIMEOUT, a LINK_DOWN of the partner, and an error-rate window over the limit at native rate take the link DOWN with causes 5, 6 and 1 and the lanes to RETRY_WAIT; a window within the limit starts the counts again. A WIRING_NOTICE of a fault on a link outside WIRING_FAULT puts it in PEER_FAULT; a link in WIRING_FAULT repeats its notice. It concludes exec c s = next t, on conditions on the state and the operands alone, for c = linkInit, linkInitAck, linkInitResend, initTimeout, linkDown, errorRateWindowEnd, wiringNotice, wiringNoticeRepeat. -/
def Obligations.LinkComesUpAndGoesDown : Prop :=
  (∀ (s : State) (p : Nat) (c : LinkCell),
      (s.link p).st = .init → c.damaged = false → LinkCellIs c 1 = true →
      ∃ t, exec (.linkInit p c) s = .next t ∧ (t.link p).initRx = some (initOf c) ∧ (t.link p).sentFresh = s.freshFor p (initOf c)
        ∧ (t.link p).ctlQ = (s.link p).ctlQ ++ [.linkInitAck (s.freshFor p (initOf c)) (initOf c).epoch] ∧ (t.link p).st = .init)
  ∧ (∀ (s : State) (p : Nat) (c : LinkCell) (i : InitInfo),
      (s.link p).st = .init → c.damaged = false → LinkCellIs c 2 = true → c.body.extractLsb' 16 16 = s.epoch p →
      (s.link p).initRx = some i →
      ∃ t, exec (.linkInitAck p c) s = .next t ∧ (t.link p).st.running = true
        ∧ (t.link p).partner = some { epoch := i.epoch, addrValid := i.addrValid, node := i.node, port := i.port, role := i.role }
        ∧ (t.link p).resumed = !((s.link p).sentFresh || bit c.body 8))
  ∧ (∀ (s : State) (p : Nat),
      (s.link p).st = .init →
      exec (.linkInitResend p) s = .next (s.queueCtl p (.linkInit (s.initInfo p))))
  ∧ (∀ (s : State) (p : Nat),
      (s.link p).st = .init → (s.link p).pauseAt = none →
      ∃ t, exec (.initTimeout p) s = .next t ∧ (t.link p).st = .down ∧ (t.link p).lastDown = 5 ∧ (t.lane p).st = .retryWait ∧ 1 + 8 * p ∈ t.wires)
  ∧ (∀ (s : State) (p : Nat) (c : LinkCell),
      (s.link p).st ≠ .down → c.damaged = false → LinkCellIs c 4 = true →
      ∃ t, exec (.linkDown p c) s = .next t ∧ (t.link p).st = .down ∧ (t.link p).lastDown = 6 ∧ (t.lane p).st = .retryWait ∧ t.wires = s.wires)
  ∧ (∀ (s : State) (p : Nat),
      (s.link p).st.running = true → (s.lane p).rateActive = false → (s.link p).pauseAt = none →
      fldN (s.eff R.linkDownRule p) 7 0 * (s.link p).winCells < (s.link p).winReplays * 1000000 →
      ∃ t, exec (.errorRateWindowEnd p) s = .next t ∧ (t.link p).st = .down ∧ (t.link p).lastDown = 1 ∧ (t.lane p).st = .retryWait ∧ 8 * p ∈ t.wires)
  ∧ (∀ (s : State) (p : Nat),
      (s.link p).st.running = true → (s.link p).pauseAt = none →
      (s.link p).winReplays * 1000000 ≤ fldN (s.eff R.linkDownRule p) 7 0 * (s.link p).winCells →
      exec (.errorRateWindowEnd p) s = .next (s.setLink p { s.link p with winCells := 0, winReplays := 0 }))
  ∧ (∀ (s : State) (p : Nat) (c : LinkCell),
      (s.link p).st.running = true → c.damaged = false → LinkCellIs c 5 = true → bit c.body 8 = true →
      (s.link p).st ≠ .wiringFault →
      ∃ t, exec (.wiringNotice p c) s = .next t ∧ (t.link p).st = .peerFault ∧ (t.link p).peerWiring = true)
  ∧ (∀ (s : State) (p : Nat),
      (s.link p).st = .wiringFault →
      exec (.wiringNoticeRepeat p) s = .next (s.queueCtl p (.wiringNotice true)))

/-- A NAK within what is unacknowledged, with no recent replay from there and none running, starts a replay from the sequence that it names; the replay timer, while the port's timers run, starts one from the oldest unacknowledged cell. A replay resends from there, is noted with the port's clock and counted, as long as it is not the eighth in a row. A FLUSH that the server accepts on a DOWN link empties the replay buffer and draws a new epoch; it is answered when FLUSH_DONE comes, and lanes that reached LANE_UP meanwhile then enter INIT. It concludes exec c s = next t, on conditions on the state and the operands alone, for c = nak, replayTimeout, flush, flushDone. -/
def Obligations.ReplayAndFlush : Prop :=
  (∀ (s u : State) (p : Nat) (c : LinkCell) (e : BitVec 12),
      (s.link p).st.running = true → c.damaged = false → LinkCellIs c 3 = true → s.headerUpdate p c = u →
      c.body.extractLsb' 16 12 = e →
      (e - (u.link p).oldest).toNat < ((u.link p).nextSeq - (u.link p).oldest).toNat → u.replayRecent p e = false →
      (u.link p).replayAt = none → (u.link p).stallCount < 7 →
      ∃ t, exec (.nak p c) s = .next t ∧ (t.link p).replayAt = some e ∧ (t.link p).lastReplay = some (e, u.portClock p)
        ∧ (t.link p).winReplays = (u.link p).winReplays + 1 ∧ (t.link p).st = (s.link p).st ∧ t.out = s.out)
  ∧ (∀ (s : State) (p : Nat),
      (s.link p).st.running = true → (s.link p).pauseAt = none → (s.link p).oldest ≠ (s.link p).nextSeq →
      (s.link p).stallCount < 7 →
      ∃ t, exec (.replayTimeout p) s = .next t ∧ (t.link p).replayAt = some (s.link p).oldest
        ∧ (t.link p).lastReplay = some ((s.link p).oldest, s.portClock p) ∧ (t.link p).winReplays = (s.link p).winReplays + 1 ∧ t.out = s.out)
  ∧ (∀ (s : State) (q : Req) (role : Role) (p : Nat) (v : Image),
      s.mayWrite q role R.linkCtl p 0 v = true → bit v 0 = true → (s.link p).st = .down →
      ∃ t, exec (.flush q p v) s = .next t ∧ (t.link p).flushing = true ∧ (t.link p).replay = [] ∧ (t.link p).epochNo = (s.link p).epochNo + 1
        ∧ (t.link p).st = .down ∧ t.lanes = s.lanes)
  ∧ (∀ (s : State) (p : Nat),
      (s.link p).flushing = true → (s.link p).initWaits = false → (s.link p).epochNo ≠ 0 →
      ∃ t, exec (.flushDone p) s = .next t ∧ t.link p = { s.link p with flushing := false } ∧ t.lanes = s.lanes)
  ∧ (∀ (s : State) (p : Nat),
      (s.link p).flushing = true → (s.link p).initWaits = true → (s.lane p).st = .laneUp →
      ∃ t, exec (.flushDone p) s = .next t ∧ (t.link p).flushing = false ∧ (t.link p).st = .init)

/-- Once the reduction units have emitted (`tokenStart`), a SCHEDULER_TOKEN with no eligible request changes nothing but its count. With exactly one eligible request, of a strict class that no shaper and no gate holds, the head cell of its packet goes to the end of the egress stage of its output under the packet's VC and class, first and last as the packet's progress says, and a packet whose last cell has crossed leaves its input. Premise: the tables of inputs and outputs stand in the order of their keys. It concludes exec c s = next t, on conditions on the state and the operands alone, for c = schedulerToken. -/
def Obligations.TokenMovesOnePacketHead : Prop :=
  (∀ (s u : State),
      s.tokenStart = u → u.requests = [] →
      exec .schedulerToken s = .next (u.countDev 0))
  ∧ (∀ (s u : State) (r : Request) (k : VPkt) (b : BitVec 1024) (rest : List (BitVec 1024)),
      s.tokenStart = u → u.requests = [r] → r.inp < 61 → r.out < 61 → r.cls < 8 →
      (u.input r.inp).find r.stamp = some k → k.cells = b :: rest → k.out = r.out → u.strict r.out r.cls = true →
      u.shaped r.out r.cls = false → u.gateOpen r.out r.cls = true → Table.risingFrom none u.inputs = true →
      Table.risingFrom none u.outputs = true →
      ∃ t, exec .schedulerToken s = .next t ∧ t.lanes = u.lanes ∧ t.dict = u.dict
        ∧ (k.sent + 1 = k.total → (t.input r.inp).find r.stamp = none)
        ∧ ∃ e, (t.output r.out).egress = (u.output r.out).egress ++ [e] ∧ e.vc = k.vc ∧ e.cls = r.cls ∧ e.first = (k.sent == 0)
        ∧ e.last = (k.sent + 1 == k.total) ∧ e.total = k.total ∧ e.abort = none)

/-- RED_AVG_UPDATE sets every AVG to AVG + (256·B − AVG) / 2^WEIGHT, rounded down, in 1/256 cells, where B is the backlog of the output and class, and leaves every packet and cell where it is. Premise: the tables of outputs and of averages stand in the order of their keys. It concludes exec c s = next t, on conditions on the state and the operands alone, for c = redAvgUpdate. -/
def Obligations.RunningAveragesFollowBacklogs : Prop :=
  ∀ (s : State) (o c a b w : Nat),
      o < 61 → c < 8 → Table.risingFrom none s.outputs = true → Table.risingFrom none (s.output o).avg = true →
      Table.risingFrom none (s.output o).bLast = true → Table.get 0 (s.output o).avg c = a → s.backlog o c = b →
      fldN (s.reg R.congMode 0 c) 7 4 = w →
      ∃ t, exec .redAvgUpdate s = .next t ∧ t.inputs = s.inputs ∧ (t.output o).egress = (s.output o).egress
        ∧ Table.get 0 (t.output o).avg c = (a * 2 ^ w + 256 * b - a) / 2 ^ w

/-- An accepted ROUTE_SWAP or KEY_TABLE_SWAP exchanges the entries of the two banks at once and runs; SWAP_COPY_DONE makes the staging bank a copy and ends the swap. An accepted KEY_INSERT writes its value into the lowest free staging slot. An accepted PORT_ROLE of OFF at a port in use powers its lanes down and leaves its link DOWN; one that takes a port out of OFF starts bring-up with a selected profile that is valid and of the port's rate. Premise: the stored objects, and the lanes, stand in the order of their keys. It concludes exec c s = next t, on conditions on the state and the operands alone, for c = routeSwap, keyTableSwap, swapCopyDone, keyInsert, portRole. -/
def Obligations.BanksSwapAndPortsTakeRoles : Prop :=
  (∀ (s : State) (q : Req) (role : Role) (e : Nat),
      s.mayOperate q role R.boolStart 1 6 0 = true → s.orderedChange = false →
      Table.risingFrom none s.dict = true → e < 4096 →
      ∃ t, exec (.routeSwap q 1) s = .next t ∧ (t.op 6 0).st = 2 ∧ t.reg R.groupRoute 0 e = s.reg R.groupRouteStage 0 e
        ∧ t.reg R.groupRouteStage 0 e = s.reg R.groupRoute 0 e)
  ∧ (∀ (s : State) (q : Req) (role : Role) (e : Nat),
      s.mayOperate q role R.boolStart 1 7 0 = true → Table.risingFrom none s.dict = true → e < 4096 →
      ∃ t, exec (.keyTableSwap q 1) s = .next t ∧ (t.op 7 0).st = 2 ∧ t.reg R.keyTable 0 e = s.reg R.keyTableStage 0 e
        ∧ t.reg R.keyTableStage 0 e = s.reg R.keyTable 0 e)
  ∧ (∀ (s : State) (e : Nat),
      s.opActive 6 = true → Table.risingFrom none s.dict = true → e < 4096 →
      ∃ t, exec (.swapCopyDone false) s = .next t ∧ (t.op 6 0).st = 3 ∧ t.reg R.groupRouteStage 0 e = s.reg R.groupRoute 0 e
        ∧ t.reg R.groupRoute 0 e = s.reg R.groupRoute 0 e)
  ∧ (∀ (s : State) (e : Nat),
      s.opActive 7 = true → Table.risingFrom none s.dict = true → e < 4096 →
      ∃ t, exec (.swapCopyDone true) s = .next t ∧ (t.op 7 0).st = 3 ∧ t.reg R.keyTableStage 0 e = s.reg R.keyTable 0 e
        ∧ t.reg R.keyTable 0 e = s.reg R.keyTable 0 e)
  ∧ (∀ (s : State) (q : Req) (role : Role) (v : Image) (i : Nat),
      s.mayWrite q role R.keyInsert 0 0 v = true → s.keyEntryBad none v = false → s.keySlot = some i →
      s.opActive 7 = false → Table.risingFrom none s.dict = true →
      ∃ t, exec (.keyInsert q v) s = .next t ∧ t.reg R.keyTableStage 0 i = v)
  ∧ (∀ (s : State) (q : Req) (role : Role) (p : Nat) (v : Image),
      s.mayWrite q role R.portRole 0 p v = true → s.portRoleBad p v = false → fldN v 31 29 = 7 → s.role p ≠ 7 →
      p < 48 → Table.risingFrom none s.dict = true → Table.risingFrom none s.lanes = true →
      ∃ t, exec (.portRole q p v) s = .next t ∧ t.role p = 7 ∧ (t.lane p).st = .off ∧ (t.lane p).txReady = false ∧ (t.lane p).rxClock = false
        ∧ (t.link p).st = .down)
  ∧ (∀ (s : State) (q : Req) (role : Role) (p : Nat) (v prof : Image),
      s.mayWrite q role R.portRole 0 p v = true → s.portRoleBad p v = false → fldN v 31 29 ≠ 7 → s.role p = 7 →
      p < s.straps.ports → p < 48 → s.rolesOn = true → s.isolated.contains p = false →
      (s.lane p).patternWaits = false → Table.risingFrom none s.dict = true →
      s.reg R.eqProfile p (fldN (s.reg R.eqSelect p) 2 0) = prof → bit prof 0 = true →
      bit prof 1 = bit (s.reg R.laneCtl p) 1 →
      ∃ t, exec (.portRole q p v) s = .next t ∧ t.role p = fldN v 31 29 ∧ (t.lane p).st = .synthLock ∧ (t.link p).st = (s.link p).st)

/-- An accepted GATE_LOAD of a list that Table SCH-10 allows stages it; an accepted GATE_SWITCH of a staged list at a later tick waits for that tick, at a past one makes the list active at once; GATE_LIST_SWITCH at its tick makes the staged list active from that tick; GATE_ENTRY_TRANSITION applies the open set of the present tick; an accepted GATE_OVERRIDE installs its window and masks in its slot, a GATE_OVERRIDE_STOP the window that the stop leaves; GATE_FIT_TEST sends the first cell of a gated packet that fits when nothing goes before it. It concludes exec c s = next t, on conditions on the state and the operands alone, for c = gateLoad, gateSwitch, gateListSwitch, gateEntryTransition, gateOverride, gateOverrideStop, gateFitTest. -/
def Obligations.GatesOpenAndClose : Prop :=
  (∀ (s : State) (q : Req) (role : Role) (p : Nat) (bytes : List Byte) (l : GateList),
      s.mayWrite q role R.gateLoad p 0 0 = true → gateListOf bytes = .ok l → (s.output p).gate.switchAt = none →
      ∃ t, exec (.gateLoad q p bytes) s = .next t ∧ (t.output p).gate.staged = some l ∧ (t.output p).gate.active = (s.output p).gate.active
        ∧ (t.output p).egress = (s.output p).egress)
  ∧ (∀ (s : State) (q : Req) (role : Role) (p : Nat) (v : Image) (l : GateList),
      s.mayWrite q role R.gateSwitch p 0 v = true → (s.output p).gate.staged = some l → s.tick < fldN v 63 0 / 8 →
      ∃ t, exec (.gateSwitch q p v) s = .next t ∧ (t.output p).gate.switchAt = some (fldN v 63 0 / 8) ∧ (t.output p).gate.staged = some l)
  ∧ (∀ (s : State) (q : Req) (role : Role) (p : Nat) (v : Image) (l : GateList),
      s.mayWrite q role R.gateSwitch p 0 v = true → (s.output p).gate.staged = some l → fldN v 63 0 / 8 ≤ s.tick →
      ∃ t, exec (.gateSwitch q p v) s = .next t ∧ (t.output p).gate.active = some (l, s.tick) ∧ (t.output p).gate.staged = none
        ∧ (t.output p).gate.switchAt = none)
  ∧ (∀ (s : State) (p n : Nat) (l : GateList),
      (s.output p).gate.switchAt = some n → n ≤ s.tick → (s.output p).gate.staged = some l →
      ∃ t, exec (.gateListSwitch p) s = .next t ∧ (t.output p).gate.active = some (l, n) ∧ (t.output p).gate.staged = none
        ∧ (t.output p).gate.switchAt = none ∧ (t.output p).egress = (s.output p).egress)
  ∧ (∀ (s : State) (p : Nat),
      exec (.gateEntryTransition p) s
          = .next (s.updOutput p (fun x => { x with gate := { x.gate with opened := x.gate.openAt s.tick } })))
  ∧ (∀ (s : State) (q : Req) (role : Role) (p k : Nat) (v : Image) (f : Fdp) (w : Window),
      s.mayWrite q role R.gateOverride p k v = true → overrideBad v = false →
      k < (s.output p).gate.overrides.length → submitWindow (fldN v 63 0) (fldN v 127 64) s.tick = some (f, w) →
      (nthD {} (s.output p).gate.overrides k).win.st = .free →
      ∃ t, exec (.gateOverride q p k v) s = .next t
        ∧ nthD {} (t.output p).gate.overrides k = { win := w, forceOpen := v.extractLsb' 128 8, forceClose := v.extractLsb' 136 8 })
  ∧ (∀ (s : State) (q : Req) (role : Role) (p k : Nat) (v : Image),
      s.mayWrite q role R.gateOverrideStop p k v = true → k < (s.output p).gate.overrides.length →
      Table.risingFrom none s.outputs = true →
      ∃ t, exec (.gateOverrideStop q p k v) s = .next t
        ∧ nthD {} (t.output p).gate.overrides k = { nthD {} (s.output p).gate.overrides k with
            win := (stopWindow (nthD {} (s.output p).gate.overrides k).win (fldN v 63 0) s.tick).2 })
  ∧ (∀ (s : State) (p n : Nat) (e : EgCell),
      s.pickCell p = some n → (s.offered p)[n]? = some e → e.first = true → s.gated p e.cls = true →
      (s.link p).ctlQ = [] → (s.link p).replayAt = none → (s.link p).bypassQ = [] →
      exec (.gateFitTest p) s = .next (s.transmit p))

/-- A non-posted unit with a route and a free tag joins its stop's packets on the ring that serves the route with the flow's next SEQ, and its tag is busy for its owner; a posted unit takes no tag. A header that has come to its destination, whose flow is not blocked and whose kind and size the destination takes, is taken off the ring, and a posted unit in sequence for a block without a crossing is handed to it; one that finds no room for its units, one more and the reservation of its AGE is sent back. A refused packet is back 64 tokens after its injection, with its AGE raised by one (at most 255), and is counted; once RETRY_DELAY has passed, and its flow is not held, the first packet of its flow that is not on the ring is injected again on the ring that serves its route. The packet next to be injected on a ring that has waited STARVE_LIMIT tokens reserves the slot that passes, if neither stop nor slot has a reservation. A request of a block that is not answered quarantines its tag, is counted, raises the stop's fault source and is answered by the stop with status 0x80. It concludes exec c s = next t, on conditions on the state and the operands alone, for c = ringSendRequest, ringPacketArrive, ringPacketReturn, ringReinject, ringStarveReserve, ringTimeout. -/
def Obligations.RingPacketsTravel : Prop :=
  (∀ (s : State) (st dst kind units slice addr r n : Nat) (data : List Byte) (owner : RingOwner),
      (kind = kindRead ∨ kind = kindWrite) → s.ringRoute st dst kind = some r → s.freeTag st = some n →
      ∃ t, exec (.ringSendRequest st (.unit dst kind units slice addr data owner 0 0 0)) s = .next t
        ∧ (Table.get ({} : RingTag) t.rings.tags (1024 * st + n)).st = .busy owner ∧ t.rings.pkts.length = s.rings.pkts.length + 1
        ∧ ∃ p ∈ t.rings.pkts, p.src = st ∧ p.dst = dst ∧ p.kind = kind ∧ p.ring = r ∧ p.tag = n
        ∧ p.seq = Table.get 0 s.rings.seq (flowKey st dst kind) ∧ p.data = data ∧ p.addr = addr)
  ∧ (∀ (s : State) (st dst units slice addr r : Nat) (data : List Byte) (owner : RingOwner),
      s.ringRoute st dst kindPost = some r →
      ∃ t, exec (.ringSendRequest st (.unit dst kindPost units slice addr data owner 0 0 0)) s = .next t ∧ t.rings.tags = s.rings.tags
        ∧ t.rings.pkts.length = s.rings.pkts.length + 1
        ∧ ∃ p ∈ t.rings.pkts, p.src = st ∧ p.dst = dst ∧ p.kind = kindPost ∧ p.ring = r ∧ p.data = data
        ∧ p.seq = Table.get 0 s.rings.seq (flowKey st dst kindPost))
  ∧ (∀ (s : State) (src dst free : Nat) (p : RingPkt),
      s.ringNext src dst kindPost = some p → s.ringBlocked p = false → s.takesKind p = true →
      p.units + 1 + ringRes p.age ≤ min free (s.ejectFree p.dst p.ring) → islandOf p.dst = none →
      p.kind = kindPost → p.item = none → p.seq = Table.get 0 s.rings.expect (flowKey p.src p.dst p.kind) →
      ∃ t, exec (.ringPacketArrive src dst kindPost .good free) s = .next t ∧ t.rings.pkts = s.rings.pkts.erase p ∧ t.out = .ringUnit p :: s.out)
  ∧ (∀ (s : State) (src dst kind free : Nat) (p : RingPkt),
      s.ringNext src dst kind = some p → min free (s.ejectFree p.dst p.ring) < p.units + 1 + ringRes p.age →
      ∃ t, exec (.ringPacketArrive src dst kind .good free) s = .next t ∧ { p with place := .refused } ∈ t.rings.pkts
        ∧ t.rings.expect = s.rings.expect ∧ t.out = s.out)
  ∧ (∀ (s : State) (src dst kind : Nat) (p : RingPkt),
      s.rings.pkts.find? (fun p => p.inFlow src dst kind && p.place == .refused) = some p →
      p.since + 64 ≤ s.tokens →
      exec (.ringPacketReturn src dst kind) s
          = .next ((s.ringPut p { p with place := .returned, age := min 255 (p.age + 1), since := s.tokens }).countRing src 2))
  ∧ (∀ (s : State) (src dst kind r : Nat) (p : RingPkt),
      
      s.rings.pkts.find? (fun p => p.inFlow src dst kind && (p.place == .queued || p.place == .returned)) = some p →
      p.place = .returned → s.ringRoute src dst kind = some r →
      p.since + 64 * fldN (s.reg R.ringCtl) 11 8 ≤ s.tokens →
      Table.get 0 s.rings.holds (flowKey src dst kind) ≤ s.tokens →
      ∃ t, exec (.ringReinject src dst kind) s = .next t ∧ t.rings.pkts.length = s.rings.pkts.length
        ∧ ∃ x, (x = .queued ∨ x = .flying) ∧ { p with place := x, ring := r, since := s.tokens } ∈ t.rings.pkts)
  ∧ (∀ (s : State) (st r : Nat) (p : RingPkt),
      s.nextInjection r st s.tokens = some p → s.hasResv r st = false →
      (∀ v ∈ s.rings.resv, ¬(v.ring = r ∧ v.slot = slotAt r st s.tokens)) →
      p.since + fldN (s.reg R.ringCtl) 19 12 ≤ s.tokens →
      exec (.ringStarveReserve st r) s
          = .next (s.updRings (fun x => { x with resv := x.resv ++ [{ stop := st, ring := r, slot := slotAt r st s.tokens }] })))
  ∧ (∀ (s : State) (st tag : Nat) (g : RingTag),
      Table.get ({} : RingTag) s.rings.tags (1024 * st + tag) = g → g.st = .busy .device →
      exec (.ringTimeout st tag) s = .next ((((s.updRings (fun r => { r with
          tags := Table.set {} r.tags (1024 * st + tag) { g with st := .quarantined s.uptime } })).countRing st 3).raise (0x191 + 2 * st)).emit
          (.ringAnswer st 0x80)))

/-- RING_STALL of a ring in service clears its bit of RING_CTL, sets its flag of RING_STATUS, raises the stop's source, and nothing stands on it or waits for it any more; an accepted RING_DISABLE leaves exactly the rings in service whose bits it writes. When a host port's or the caddy's crossing is reset nothing waits in it any more, and no granted burst of a host port's controller is left. Premise: the stored objects stand in the order of their keys. It concludes exec c s = next t, on conditions on the state and the operands alone, for c = ringStall, ringDisable, crossingReset. -/
def Obligations.RingsLeaveService : Prop :=
  (∀ (s : State) (st r : Nat),
      s.ringUp r = true → r < 4 → Table.risingFrom none s.dict = true →
      ∃ t, exec (.ringStall st r) s = .next t ∧ t.ringUp r = false ∧ bit (t.reg R.ringStatus) (4 + r) = true ∧ t.wires = s.wires ++ [0x190 + 2 * st]
        ∧ (∀ v ∈ t.rings.resv, v.ring ≠ r) ∧ (∀ p ∈ t.rings.pkts, p.ring ≠ r) ∧ ∀ u ∈ t.rings.slots, u.ring ≠ r)
  ∧ (∀ (s : State) (q : Req) (role : Role) (v : Image) (r : Nat),
      s.mayWrite q role R.ringCtl 0 0 v = true → s.ringCtlBad v = false → r < 4 →
      Table.risingFrom none s.dict = true →
      ∃ t, exec (.ringDisable q v) s = .next t ∧ t.ringUp r = bit v r)
  ∧ (∀ (s : State) (k n : Nat),
      Table.risingFrom none s.rings.waits = true →
      ∃ t, exec (.crossingReset (.host k) n) s = .next t ∧ t.lanes = s.lanes ∧ t.links = s.links ∧ Table.get [] t.rings.waits k = []
        ∧ ∀ b ∈ t.host.arb.bursts, ¬(b.granted = true ∧ b.inst / 4 = k))
  ∧ (∀ (s : State) (n : Nat),
      Table.risingFrom none s.rings.waits = true →
      ∃ t, exec (.crossingReset .caddy n) s = .next t ∧ Table.get [] t.rings.waits 4 = [] ∧ t.host = s.host ∧ t.lanes = s.lanes ∧ t.links = s.links)

/-- On an open BAR of a function that serves a slice, with an idle mailbox, MBX_SUBMIT of a well-formed request of 1 to 4,096 bytes makes the mailbox BUSY with the length and the message, padded or cut to it; MBX_DONE_CLEAR clears DONE and submits nothing. A write to an open BAR that no register, buffer, table or slot takes is counted and nothing else; none takes one in the control page that is not of 4 or 8 bytes and aligned. It concludes exec c s = next t, on conditions on the state and the operands alone, for c = mbxSubmit, mbxDoneClear, barInvalidWrite. -/
def Obligations.HostMailboxAndBars : Prop :=
  (∀ (s : State) (h l n : Nat) (v : BitVec 64) (msg : List Byte),
      l < 2 → s.barOpen (512 * h + 256 * l) = true → (s.funcSlice (512 * h + 256 * l)).isSome = true →
      fldN v 12 0 = n → 1 ≤ n → n ≤ 4096 → (if l = 1 then (s.hport h).mbxB else (s.hport h).mbxA).busy = false →
      fdpMalformed (msg.take n ++ List.replicate (n - msg.length) 0) = false →
      ∃ t, exec (.mbxSubmit h l v msg) s = .next t ∧ (if l = 1 then (t.hport h).mbxB else (t.hport h).mbxA).busy = true
        ∧ (if l = 1 then (t.hport h).mbxB else (t.hport h).mbxA).req = msg.take n ++ List.replicate (n - msg.length) 0
        ∧ (if l = 1 then (t.hport h).mbxB else (t.hport h).mbxA).reqLen = n)
  ∧ (∀ (s : State) (h l : Nat) (v : BitVec 64),
      l < 2 → s.barOpen (512 * h + 256 * l) = true → (s.funcSlice (512 * h + 256 * l)).isSome = true →
      ∃ t, exec (.mbxDoneClear h l v) s = .next t ∧ (if l = 1 then (t.hport h).mbxB else (t.hport h).mbxA).done = false
        ∧ (if l = 1 then (t.hport h).mbxB else (t.hport h).mbxA).busy = (if l = 1 then (s.hport h).mbxB else (s.hport h).mbxA).busy
        ∧ (if l = 1 then (t.hport h).mbxB else (t.hport h).mbxA).rsp = (if l = 1 then (s.hport h).mbxB else (s.hport h).mbxA).rsp)
  ∧ (∀ (s : State) (w : BarSpan),
      s.barOpen w.func = true → s.barTakes w.func w.bar w.off w.len = false →
      exec (.barInvalidWrite w) s = .next (s.countHost (funcPort w.func) 6))
  ∧ (∀ (s : State) (f off len : Nat),
      off < 0x1000 → fieldAccess off len = false →
      s.barTakes f 0 off len = false)

/-- Asserting PERST# of an endpoint port whose links run holds the port and its links (STATE 8); releasing it, when nothing else holds the port and the device is ready for hosts, lets the links train (STATE 1) with every function in D0. A reset of a link that is not held makes it train after a hot reset and stand down else, with its other fields cleared. On a link whose functions answer configuration requests a function-level reset resets the function, and with a PF every function of its link. A request that waits for a function outside D0 with nothing pending is a wake cause: it sets PME status, and owes a message and starts an exit of the link from L1 if PME is enabled; the message is sent once on a link in L0 or L0p; a write of D0, of PME enable or of PME status changes what the function owes. Premise of the first two: host ports and functions stand in the order of their keys. It concludes exec c s = next t, on conditions on the state and the operands alone, for c = hostPerstAssert, hostPerstDeassert, hostLinkReset, functionLevelReset, wakeCause, pmPmeSend, pmcsrD0Write, pmeEnWrite, pmeStatusClear. -/
def Obligations.HostPortsResetAndWake : Prop :=
  (∀ (s : State) (h : Nat),
      s.hostRole h = 0 → (s.hport h).pin = false → (s.hport h).perst = false →
      Table.risingFrom none s.host.ports = true →
      ∃ t, exec (.hostPerstAssert h) s = .next t ∧ (t.hport h).pin = true ∧ (t.hport h).perst = true ∧ (t.hport h).linkA = { st := 8 })
  ∧ (∀ (s : State) (h : Nat),
      s.hostRole h = 0 → (s.hport h).pin = true → (s.hport h).perst = true → (s.hport h).held = false →
      s.hostsReady = true → Table.risingFrom none s.host.funcs = true →
      ∃ t, exec (.hostPerstDeassert h) s = .next t ∧ (t.hport h).pin = false ∧ (t.hport h).perst = false ∧ (t.hport h).linkA = { st := 1 }
        ∧ ∀ f ∈ linkFuncs h 0, (t.func f).power = .d0)
  ∧ (∀ (s : State) (h l : Nat) (k : LinkReset),
      s.endpointLink h l = true → (s.hport h).perst = false →
      ∃ t, exec (.hostLinkReset h l k) s = .next t ∧ t.hlink h l = { st := if k = .hot then 1 else 0 } ∧ (t.hport h).perst = false)
  ∧ (∀ (s : State) (f : Nat),
      s.cfgOpen f = true →
      exec (.functionLevelReset f) s = .next (s.resetFuncs (if funcVf f = 0 then linkFuncs (funcPort f) (funcLink f) else [f])))
  ∧ (∀ (s : State) (f : Nat),
      s.funcExists f = true → s.needs f = true → (s.func f).power ≠ .d0 → (s.func f).pme = .clear →
      ∃ t, exec (.wakeCause f) s = .next t
        ∧ t.func f = { s.func f with pmeStat := true, pme := if (s.func f).pmeEn then .owed else .cancelled }
        ∧ t.out = (if (s.func f).pmeEn = true ∧ 4 ≤ (s.hlink (funcPort f) (funcLink f)).st ∧ (s.hlink (funcPort f) (funcLink f)).st ≤ 6
            ∧ (s.hlink (funcPort f) (funcLink f)).leaving = false
          then .exitL1 (2 * funcPort f + funcLink f) :: s.out else s.out))
  ∧ (∀ (s : State) (f : Nat),
      (s.func f).pme = .owed → (s.func f).power = .d3hot → (s.hlink (funcPort f) (funcLink f)).st = 2 →
      exec (.pmPmeSend f) s = .next (((s.setFunc f { s.func f with pme := .sent }).emit (.pme f)).countHost (funcPort f) 10))
  ∧ (∀ (s : State) (f : Nat),
      s.cfgOpen f = true → (s.func f).power = .d3hot →
      exec (.pmcsrD0Write f) s
          = .next (s.setFunc f { s.func f with power := .d0, pme := if (s.func f).pme = .owed then .cancelled else (s.func f).pme }))
  ∧ (∀ (s : State) (f : Nat) (en : Bool),
      s.cfgOpen f = true →
      exec (.pmeEnWrite f en) s = .next (s.setFunc f { s.func f with
          pmeEn := en, pme := if (s.func f).pme = .owed ∧ en = false then .cancelled else (s.func f).pme }))
  ∧ (∀ (s : State) (f : Nat),
      s.cfgOpen f = true →
      exec (.pmeStatusClear f) s = .next (s.setFunc f { s.func f with pmeStat := false, pme := .clear }))

/-- An idle link that last reported LTR_ACTIVE reports its idle value; an L0p measurement starts the next count and, where the power-management register allows it in L0 or L0p, asks for a width that differs from the present one; an idle link with no wake owed asks for L1 where the timer is set and Link Control enables it. A link that is not held takes the state, width, speed and protocol (CXL only where HOST_CTL offers it) of a legal change, and counts a change of width between L0 and L0p; FUNCTIONS_READY makes a link that is up ready. A ready link's function takes memory space, bus master and D3hot from its configuration writes; writing the table entry of a vector with its mask clear keeps the entry and, in an enabled, unmasked function, requests the write that was pending for it; clearing the function mask does the same for vectors whose own mask is clear. It concludes exec c s = next t, on conditions on the state and the operands alone, for c = ltrIdle, l0pMeasure, aspmL1Request, hostLinkStateChange, functionsReady, pcieConfigWrite, msixVectorUnmask. -/
def Obligations.HostLinksAndConfiguration : Prop :=
  (∀ (s : State) (h l : Nat),
      s.endpointLink h l = true → s.linkIdle h l = true → (s.hlink h l).ltrHigh = true →
      exec (.ltrIdle h l) s = .next ((s.updHlink h l (fun x => { x with ltrHigh := false })).emit
          (.ltr (2 * h + l) (10000 * fldN (s.reg R.hostPm h) 31 24))))
  ∧ (∀ (s : State) (h l : Nat),
      bit (s.reg R.hostPm h) 0 = false →
      exec (.l0pMeasure h l) s = .next (s.updHlink h l (fun x => { x with moved := 0 })))
  ∧ (∀ (s : State) (h : Nat),
      bit (s.reg R.hostPm h) 0 = true → (s.hlink h 0).st = 2 → (s.hlink h 0).width = 16 → (s.hlink h 0).moved = 0 →
      s.bifurcated h = false →
      exec (.l0pMeasure h 0) s = .next ((s.updHlink h 0 (fun x => { x with moved := 0 })).emit (.l0p (2 * h) 2)))
  ∧ (∀ (s : State) (h l : Nat),
      fldN (s.reg R.hostPm h) 15 8 ≠ 0 → (s.hlink h l).aspmL1 = true → s.linkIdle h l = true →
      (s.hlink h l).st = 2 → s.host.funcs.all (fun f => !(f.1 / 256 == 2 * h + l && f.2.pme == .owed)) = true →
      exec (.aspmL1Request h l) s = .next (s.emit (.askL1 (2 * h + l))))
  ∧ (∀ (s : State) (h l st width speed : Nat) (cxl : Bool),
      s.endpointLink h l = true → (s.hport h).perst = false → s.hostLinkBad h l st width speed = false →
      ∃ t, exec (.hostLinkStateChange h l st width speed cxl) s = .next t
        ∧ t.hlink h l = { s.hlink h l with st := st, width := width, speed := speed, cxl := (cxl && bit (s.eff R.hostCtl h) 24), leaving := ((s.hlink h l).leaving && decide (4 ≤ st ∧ st ≤ 6)) }
        ∧ t.counters = (if ((s.hlink h l).st = 2 ∨ (s.hlink h l).st = 3) ∧ (st = 2 ∨ st = 3) ∧ (s.hlink h l).width ≠ width
            then (s.countHost h 11).counters else s.counters))
  ∧ (∀ (s : State) (h l : Nat),
      s.endpointLink h l = true → (s.hport h).perst = false → 2 ≤ (s.hlink h l).st → (s.hlink h l).st ≤ 6 →
      exec (.functionsReady h l) s = .next (s.updHlink h l (fun x => { x with ready := true })))
  ∧ (∀ (s : State) (f : Nat) (on : Bool),
      s.cfgOpen f = true →
      exec (.pcieConfigWrite f (.memorySpace on)) s = .next (s.setFunc f { s.func f with mse := on }))
  ∧ (∀ (s : State) (f : Nat) (on : Bool),
      s.cfgOpen f = true →
      exec (.pcieConfigWrite f (.busMaster on)) s = .next (s.setFunc f { s.func f with bme := on }))
  ∧ (∀ (s : State) (f : Nat),
      s.cfgOpen f = true → s.needs f = false →
      exec (.pcieConfigWrite f .d3hot) s
          = .next (s.setFunc f { s.func f with power := if (s.func f).power = .d0 then .d3hot else (s.func f).power }))
  ∧ (∀ (s : State) (f v : Nat) (a : BitVec 64) (d : BitVec 32),
      s.barOpen f = true → (s.funcSlice f).isSome = true → v < s.msixCount f → (s.func f).msixEn = true →
      (s.func f).fmask = false → (s.func f).pend = [v] →
      ∃ t, exec (.msixVectorUnmask f (.entry v a d false)) s = .next t ∧ (t.func f).vec v = { addr := a, data := d, masked := false }
        ∧ (t.func f).pend = []
        ∧ ∃ b, t.host.arb.bursts = s.host.arb.bursts ++ [b] ∧ b.msix = some v ∧ b.func = f ∧ b.addr = a.toNat ∧ b.len = 4 ∧ b.report = true)
  ∧ (∀ (s : State) (f v : Nat),
      s.cfgOpen f = true → (s.func f).power = .d0 → (s.func f).msixEn = true → (s.func f).pend = [v] →
      ((s.func f).vec v).masked = false →
      ∃ t, exec (.msixVectorUnmask f .function) s = .next t ∧ (t.func f).fmask = false ∧ (t.func f).pend = []
        ∧ ∃ b, t.host.arb.bursts = s.host.arb.bursts ++ [b] ∧ b.msix = some v ∧ b.func = f ∧ b.addr = ((s.func f).vec v).addr.toNat)

/-- A doorbell of a WQ whose value lies in the window moves PRODUCER there, and nothing else of any queue; one outside it is counted and moves nothing. An arm of an EQ with nothing beyond the written CONSUMER arms it; one that finds an event fires its vector and leaves it disarmed. An arm of a CQ with no entry beyond CONSUMER arms it with SOLICITED_ONLY as written. A push of 1 to 4 units that continues at FETCH moves PRODUCER and FETCH over its whole entries, which enter the device, and is counted; where the WQ is not fetched only PRODUCER moves, and the data is discarded and counted. With the queue's context on chip a fetch asks for at most eight positions, within PRODUCER, the ring and a page, moves FETCH over them, and asks for 64 bytes each at the ring's place. The bytes of a read for a packet's payload take their place in it. It concludes exec c s = next t, on conditions on the state and the operands alone, for c = wqDoorbell, queueArm, pushWrite, wqFetch, hostReadCompletion. -/
def Obligations.DoorbellsArmsAndFetches : Prop :=
  (∀ (s : State) (f page slot sl n : Nat) (v : BitVec 64) (w : Wq),
      s.barOpen f = true → s.funcSlice f = some sl → s.slotWq f page slot = some (n, w) →
      (s.slice w.slice).st ≠ .halted → fldN v 63 16 = 0 → fldN v 15 0 ≠ w.producer →
      w.inWindow (fldN v 15 0) = true →
      ∃ t, exec (.wqDoorbell f page slot v) s = .next t ∧ t.host.wqs = assocPut s.host.wqs n { w with producer := fldN v 15 0, rungAt := s.ns }
        ∧ t.host.cqs = s.host.cqs ∧ t.host.eqs = s.host.eqs ∧ t.host.slices = s.host.slices ∧ t.counters = s.counters)
  ∧ (∀ (s : State) (f page slot sl n : Nat) (v : BitVec 64) (w : Wq),
      s.barOpen f = true → s.funcSlice f = some sl → s.slotWq f page slot = some (n, w) →
      (s.slice w.slice).st ≠ .halted → fldN v 63 16 = 0 → fldN v 15 0 ≠ w.producer →
      w.inWindow (fldN v 15 0) = false →
      exec (.wqDoorbell f page slot v) s = .next (s.countHost (funcPort w.func) 5))
  ∧ (∀ (s : State) (f page slot sl n : Nat) (v : BitVec 64) (e : Eq),
      s.barOpen f = true → s.funcSlice f = some sl →
      (s.host.eqs.find? (fun e => e.2.func = f ∧ e.2.page = page ∧ e.2.slot = slot) = some (n, e)) →
      (s.slice e.slice).st ≠ .halted → fldN v 63 17 = 0 → bit v 16 = true → e.wpos = fldN v 15 0 →
      exec (.queueArm f page slot true v) s = .next (s.putEq n { e with consumer := fldN v 15 0, armed := true }))
  ∧ (∀ (s : State) (f page slot sl n : Nat) (v : BitVec 64) (e : Eq),
      s.barOpen f = true → s.funcSlice f = some sl →
      (s.host.eqs.find? (fun e => e.2.func = f ∧ e.2.page = page ∧ e.2.slot = slot) = some (n, e)) →
      (s.slice e.slice).st ≠ .halted → fldN v 63 17 = 0 → bit v 16 = true → e.wpos ≠ fldN v 15 0 → e.st = .ready →
      exec (.queueArm f page slot true v) s
          = .next ((s.putEq n { e with consumer := fldN v 15 0, armed := false }).msix e.func e.vector e.slice 0))
  ∧ (∀ (s : State) (f page slot sl n : Nat) (v : BitVec 64) (c : Cq),
      s.barOpen f = true → s.funcSlice f = some sl →
      (s.host.cqs.find? (fun c => c.2.func = f ∧ c.2.page = page ∧ c.2.slot = slot) = some (n, c)) →
      (s.slice c.slice).st ≠ .halted → fldN v 63 18 = 0 → bit v 16 = true → c.wpos = fldN v 15 0 → c.notable = [] →
      exec (.queueArm f page slot false v) s = .next (s.putCq n { c with consumer := fldN v 15 0, armed := true, solOnly := bit v 17 }))
  ∧ (∀ (s : State) (f page slot sl n m k : Nat) (data : List Byte) (w : Wq),
      s.barOpen f = true → s.funcSlice f = some sl → s.slotWq f page slot = some (n, w) →
      (s.slice w.slice).st ≠ .halted → w.push = true → data.length = 64 * m → 1 ≤ m → m ≤ 4 →
      entryFld data 47 32 = w.fetch → w.inWindow (posAdd w.fetch m) = true → posAdd w.fetch m ≠ w.producer →
      wholeUnits m data = k → k ≠ 0 → s.fetches w = true →
      exec (.pushWrite f page slot data) s = .next (((((s.putWq n { w with producer := posAdd w.fetch m, rungAt := s.ns }).linkActive
          (funcPort w.func) (funcLink w.func)).putWq n { w with producer := posAdd w.fetch m, rungAt := s.ns, fetch := posAdd w.fetch k }).gotSlots
          n w.fetch (data.take (64 * k)) true).countHost (funcPort f) 7))
  ∧ (∀ (s : State) (f page slot sl n m : Nat) (data : List Byte) (w : Wq),
      s.barOpen f = true → s.funcSlice f = some sl → s.slotWq f page slot = some (n, w) →
      (s.slice w.slice).st ≠ .halted → w.push = true → data.length = 64 * m → 1 ≤ m → m ≤ 4 →
      posAdd (entryFld data 47 32) m ≠ w.producer → w.inWindow (posAdd (entryFld data 47 32) m) = true →
      s.fetches w = false →
      exec (.pushWrite f page slot data) s = .next (((s.putWq n { w with producer := posAdd (entryFld data 47 32) m, rungAt := s.ns }).linkActive
          (funcPort w.func) (funcLink w.func)).countHost (funcPort f) 8))
  ∧ (∀ (s : State) (n k : Nat) (w : Wq),
      s.wq n = some w → s.fetches w = true → s.mayIssue w.func = true → w.func ≠ memFunc →
      s.resident (ctxNo 0 n) = true →
      k = min (min 8 (posDiff w.producer w.fetch)) (min (2 ^ w.log - w.fetch % 2 ^ w.log) (64 - w.fetch % 2 ^ w.log % 64)) →
      k ≠ 0 →
      ∃ t, exec (.wqFetch n) s = .next t ∧ t.host.wqs = assocPut s.host.wqs n { w with fetch := posAdd w.fetch k }
        ∧ ∃ b ∈ t.host.arb.bursts, b.func = w.func ∧ b.slice = w.slice ∧ b.len = 64 * k ∧ b.owner = .fetch n w.fetch k
        ∧ b.addr = w.base + 64 * (w.fetch % 2 ^ w.log))
  ∧ (∀ (s : State) (id : Nat) (r : HostRead) (data : List Byte),
      s.host.reads.find? (fun r => r.id = id) = some r → r.owner = .payload → s.remote.placing = [] →
      s.remote.invals = [] →
      ∃ t, exec (.hostReadCompletion id data) s = .next t ∧ t.host.reads = s.host.reads.erase r ∧ t.built = s.built.map (fun b =>
          match b.wait.find? (fun w => w.1 = r.id) with
          | some (_, off) => { b with payload := patch b.payload off (data.take r.len ++ List.replicate (r.len - data.length) 0), wait := b.wait.filter (fun w => w.1 ≠ r.id) }
          | none => b))

/-- START and TEST of a STOPPED slice that may be started make it STARTING and TEST, RUN of one STARTING or RECOVERING makes it RUNNING, RECOVER of one RUNNING makes it RECOVERING. STOP starts a change with every WQ of the slice in ERROR; once no item of the slice is left it is STOPPED. HALT and RESET start theirs: a halt that completes leaves the slice HALTED with its cause and its fault source raised, a reset destroys the slice's queues and leaves it as after power-on. WAKE_TEST writes an event to the slice's event queue, and gives PME status to its function outside D0. Premise of the completions: slices stand in the order of their keys. It concludes exec c s = next t, on conditions on the state and the operands alone, for c = sliceStart, sliceTest, sliceRun, sliceRecover, sliceStop, sliceReset, sliceHalt, sliceStateSettled, wakeTest. -/
def Obligations.SlicesStartStopHaltAndReset : Prop :=
  (∀ (s : State) (q : Req) (role : Role) (sl : Nat),
      s.mayWrite q role R.sliceCtl sl 0 1 = true → (sl = 0 ∨ s.mgmt.lifecycle = .service) →
      (s.slice sl).st = .stopped → (s.slice sl).settle = none → (s.slice sl).resetNext = false →
      s.mayStart sl = true →
      ∃ t, exec (.sliceStart q sl) s = .next t ∧ (t.slice sl).st = .starting)
  ∧ (∀ (s : State) (q : Req) (role : Role) (sl : Nat),
      s.mayWrite q role R.sliceCtl sl 0 4 = true → (sl = 0 ∨ s.mgmt.lifecycle ≠ .maker) →
      (s.slice sl).st = .stopped → (s.slice sl).settle = none → (s.slice sl).resetNext = false →
      s.mayStart sl = true →
      ∃ t, exec (.sliceTest q sl) s = .next t ∧ (t.slice sl).st = .test)
  ∧ (∀ (s : State) (q : Req) (role : Role) (sl : Nat),
      s.mayWrite q role R.sliceCtl sl 0 2 = true → ((s.slice sl).st = .starting ∨ (s.slice sl).st = .recovering) →
      (s.slice sl).settle = none → (s.slice sl).resetNext = false →
      ∃ t, exec (.sliceRun q sl) s = .next t ∧ (t.slice sl).st = .running)
  ∧ (∀ (s : State) (q : Req) (role : Role) (sl : Nat),
      s.mayWrite q role R.sliceCtl sl 0 3 = true → (s.slice sl).st = .running → (s.slice sl).settle = none →
      (s.slice sl).resetNext = false →
      ∃ t, exec (.sliceRecover q sl) s = .next t ∧ (t.slice sl).st = .recovering)
  ∧ (∀ (s : State) (q : Req) (role : Role) (sl : Nat),
      s.mayWrite q role R.sliceCtl sl 0 5 = true → (s.slice sl).settle = none → (s.slice sl).resetNext = false →
      (s.slice sl).st ≠ .stopped → (s.slice sl).st ≠ .halted →
      ∃ t, exec (.sliceStop q sl) s = .next t ∧ t.slice sl = { s.slice sl with settle := some .stop }
        ∧ ∀ n w, t.wq n = some w → w.slice = sl → w.st ≠ .ready)
  ∧ (∀ (s : State) (q : Req) (role : Role) (sl : Nat),
      s.mayWrite q role R.sliceCtl sl 0 6 = true → (s.slice sl).settle = none → (s.slice sl).resetNext = false →
      ∃ t, exec (.sliceReset q sl) s = .next t ∧ (t.slice sl).settle = some .reset ∧ (t.slice sl).st = (s.slice sl).st
        ∧ (∀ w ∈ t.host.wqs, w.2.slice ≠ sl) ∧ (∀ c ∈ t.host.cqs, c.2.slice ≠ sl) ∧ (∀ e ∈ t.host.eqs, e.2.slice ≠ sl))
  ∧ (∀ (s : State) (q : Req) (role : Role) (sl : Nat),
      s.mayWrite q role R.sliceCtl sl 0 7 = true → (s.slice sl).settle = none → (s.slice sl).resetNext = false →
      (s.slice sl).st ≠ .halted →
      ∃ t, exec (.sliceHalt q sl) s = .next t ∧ t.slice sl = { s.slice sl with settle := some (.halt 2) })
  ∧ (∀ (s : State) (sl : Nat),
      (s.slice sl).settle = some .stop → s.host.engines.items.all (fun i => i.slice != sl) = true →
      Table.risingFrom none s.host.slices = true →
      ∃ t, exec (.sliceStateSettled sl) s = .next t ∧ t.slice sl = { s.slice sl with settle := none, st := .stopped })
  ∧ (∀ (s : State) (sl c : Nat),
      (s.slice sl).settle = some (.halt c) → (s.slice sl).resetNext = false →
      ∃ t, exec (.sliceStateSettled sl) s = .next t ∧ t.slice sl = { s.slice sl with settle := none, st := .halted, haltCause := c }
        ∧ 0x410 + sl ∈ t.wires)
  ∧ (∀ (s : State) (sl : Nat),
      (s.slice sl).settle = some .reset → Table.risingFrom none s.host.slices = true →
      ∃ t, exec (.sliceStateSettled sl) s = .next t ∧ t.slice sl = {})
  ∧ (∀ (s : State) (q : Req) (role : Role) (sl n : Nat) (e : Eq),
      s.mayWrite q role R.wakeTest sl 0 1 = true → s.sliceEq sl = some n → s.eq n = some e → e.slice = sl →
      (s.slice sl).st ≠ .halted → e.st = .ready → e.room = true → e.lost = 0 →
      ∃ t, exec (.wakeTest q sl 1) s = .next t ∧ ∃ e', t.eq n = some e' ∧ e'.wpos = posAdd e.wpos 1 ∧ e'.written = e.written + 1)
  ∧ (∀ (s : State) (q : Req) (role : Role) (sl n : Nat) (e : Eq),
      s.mayWrite q role R.wakeTest sl 0 1 = true → s.sliceEq sl = some n → s.eq n = some e →
      (s.slice sl).st ≠ .halted → (s.func e.func).power ≠ .d0 → (s.func e.func).pme = .clear →
      ∃ t, exec (.wakeTest q sl 1) s = .next t ∧ (t.func e.func).pmeStat = true
        ∧ (t.func e.func).pme = (if (s.func e.func).pmeEn then PmeSt.owed else PmeSt.cancelled))

/-- A create command that R297 does not refuse, with room for a queue, adds the queue it describes: a WQ READY with its four positions at START, a CQ and an EQ with their write position and CONSUMER there, and changes no other queue of the kind. DESTROY_WQ leaves the WQ gone or in ERROR until what it flushes is over; DESTROY_CQ and DESTROY_EQ of a queue nothing uses free its number; RESET_WQ makes a WQ in ERROR READY and empty with its positions at START. It concludes exec c s = next t, on conditions on the state and the operands alone, for c = createWq, createCq, createEq, destroyWq, destroyCq, destroyEq, resetWq. -/
def Obligations.QueuesAreCreatedAndDestroyed : Prop :=
  (∀ (s : State) (q : Req) (role : Role) (sl n : Nat) (v x : Image),
      x = setFld v 7 0 1 → s.mayWrite q role R.queueCmd sl 0 x = true → s.queueCmdBad sl x = false →
      s.queuesFull sl 1 (cmdWord x 2 2) = false → n = cmdWord x 2 2 →
      ∃ t, exec (.createWq q sl v) s = .next t ∧ t.host.wqs = s.host.wqs ++ [(n, {
          slice := sl, func := cmdFunc x, page := cmdWord x 8 2, slot := cmdWord x 10 1, log := cmdWord x 1 1, base := cmdWord x 16 8,
          cq := cmdWord x 4 2, station := cmdWord x 26 2, push := bit x 88, jobValid := bit x 90, job := cmdWord x 12 3,
          producer := cmdWord x 24 2, fetch := cmdWord x 24 2, head := cmdWord x 24 2, parse := cmdWord x 24 2, home := s.wqHome sl n,
          priv := s.supervisor sl (cmdWord x 8 2) })])
  ∧ (∀ (s : State) (q : Req) (role : Role) (sl n : Nat) (v x : Image),
      x = setFld v 7 0 2 → s.mayWrite q role R.queueCmd sl 0 x = true → s.queueCmdBad sl x = false →
      s.queuesFull sl 2 (cmdWord x 2 2) = false → n = cmdWord x 2 2 → s.serviceMode = false →
      ∃ t, exec (.createCq q sl v) s = .next t ∧ t.host.cqs = s.host.cqs ++ [(n, {
          slice := sl, func := cmdFunc x, page := cmdWord x 8 2, slot := cmdWord x 10 1, log := cmdWord x 1 1, base := cmdWord x 16 8,
          eq := cmdWord x 4 2, wpos := cmdWord x 24 2, start := cmdWord x 24 2, consumer := cmdWord x 24 2 })])
  ∧ (∀ (s : State) (q : Req) (role : Role) (sl n : Nat) (v x : Image),
      x = setFld v 7 0 3 → s.mayWrite q role R.queueCmd sl 0 x = true → s.queueCmdBad sl x = false →
      s.queuesFull sl 3 (cmdWord x 2 2) = false → n = cmdWord x 2 2 →
      ∃ t, exec (.createEq q sl v) s = .next t ∧ t.host.eqs = s.host.eqs ++ [(n, {
          slice := sl, func := cmdFunc x, page := cmdWord x 8 2, slot := cmdWord x 10 1, log := cmdWord x 1 1, base := cmdWord x 16 8,
          vector := cmdWord x 4 2, slices := bit x 89, wpos := cmdWord x 24 2, consumer := cmdWord x 24 2 })])
  ∧ (∀ (s : State) (q : Req) (role : Role) (sl n : Nat) (v x : Image),
      x = setFld v 7 0 4 → s.mayWrite q role R.queueCmd sl 0 x = true → s.queueCmdBad sl x = false →
      n = cmdWord x 2 2 →
      ∃ t, exec (.destroyWq q sl v) s = .next t ∧ ∀ w, t.wq n = some w → w.closing = true ∧ w.st ≠ .ready)
  ∧ (∀ (s : State) (q : Req) (role : Role) (sl n : Nat) (v x : Image),
      x = setFld v 7 0 5 → s.mayWrite q role R.queueCmd sl 0 x = true → s.queueCmdBad sl x = false →
      n = cmdWord x 2 2 → s.host.wqs.all (fun w => w.2.cq != n) = true →
      ∃ t, exec (.destroyCq q sl v) s = .next t ∧ t.cq n = none ∧ ∀ m, m ≠ n → t.cq m = s.cq m)
  ∧ (∀ (s : State) (q : Req) (role : Role) (sl n : Nat) (v x : Image),
      x = setFld v 7 0 6 → s.mayWrite q role R.queueCmd sl 0 x = true → s.queueCmdBad sl x = false →
      n = cmdWord x 2 2 → s.host.cqs.all (fun c => c.2.eq != n) = true →
      ∃ t, exec (.destroyEq q sl v) s = .next t ∧ t.eq n = none ∧ ∀ m, m ≠ n → t.eq m = s.eq m)
  ∧ (∀ (s : State) (q : Req) (role : Role) (sl n : Nat) (v x : Image) (w : Wq),
      x = setFld v 7 0 7 → s.mayWrite q role R.queueCmd sl 0 x = true → s.queueCmdBad sl x = false →
      n = cmdWord x 2 2 → s.wq n = some w → w.closing = false →
      ∃ t, exec (.resetWq q sl v) s = .next t ∧ t.wq n = some { w with
          st := .ready, producer := cmdWord x 24 2, fetch := cmdWord x 24 2,
          head := cmdWord x 24 2, parse := cmdWord x 24 2, raw := [], entries := [] })

/-- An admission of a cluster's one admissible head puts its item into the deque its key's directory names, or of the engine with the fewest waiting items, and never lowers its slice's virtual time. An idle engine takes the first item of its deque whose slice is neither halted nor capped. A local steal of a victim with one unkeyed item moves it to the thief's deque, marked as stolen; a remote one sends it, marked, to the thief's cluster as a POST packet. A parked item whose cause is over waits in its intake again. An engine whose item runs too long, or whose memory fails, is out of service, with its fault source raised. It concludes exec c s = next t, on conditions on the state and the operands alone, for c = dispatchAdmit, engineTake, engineSteal, engineRemoteSteal, itemUnpark, engineItemLimit, engineMemoryError. -/
def Obligations.EnginesTakeStealAndLeave : Prop :=
  (∀ (s : State) (k least : Nat) (x : Item),
      
      (List.range 16).any (fun l => s.inService (16 * k + l) && decide ((s.deque (16 * k + l)).length < 8)) = true →
      s.admissibleHeads k = [x] → s.leastEngine k = some least → Table.risingFrom none s.host.engines.vt = true →
      ∃ t, exec (.dispatchAdmit k) s = .next t ∧ s.vt k x.slice ≤ t.vt k x.slice
        ∧ t.host.engines.items = s.host.engines.items.map (fun j => if j.id = x.id then { j with
          place := .deque ((match x.key with | some key => s.directory k key | none => none).getD least), rank := s.host.engines.nextRank } else j))
  ∧ (∀ (s : State) (e : Nat) (i : Item),
      s.inService e = true → s.running e = none →
      (s.deque e).find? (fun i => !s.haltedNow i.slice && !s.capped i.slice) = some i →
      ∃ t, exec (.engineTake e) s = .next t
        ∧ t.host.engines.items = s.host.engines.items.map (fun j => if j.id = i.id then { j with place := .running e } else j))
  ∧ (∀ (s : State) (e v : Nat) (i : Item),
      s.maysteal e = true → bit (s.reg R.engineCtl) 31 = true → s.victim e = some v → s.deque v = [i] →
      i.key = none → s.haltedNow i.slice = false → s.capped i.slice = false →
      ∃ t, exec (.engineSteal e) s = .next t ∧ t.host.engines.items = s.host.engines.items.map (fun j => if j.id = i.id then { j with
          place := .deque e, rank := s.host.engines.nextRank, stolen := true } else j))
  ∧ (∀ (s : State) (e v : Nat) (i : Item),
      s.maysteal e = true → bit (s.reg R.engineCtl) 30 = true → s.localYields e = false →
      s.remoteVictim e = some v → s.deque v = [i] → i.key = none → s.haltedNow i.slice = false →
      s.capped i.slice = false → bit (s.reg R.engineShare i.slice) (32 + e / 16) = true →
      (s.ringRoute (clusterStop (v / 16)) (clusterStop (e / 16)) kindPost).isSome = true →
      ∃ t, exec (.engineRemoteSteal e) s = .next t ∧ t.host.engines.items = s.host.engines.items.map (fun j => if j.id = i.id then { j with
          place := .ring e, stolen := true, remote := true } else j)
        ∧ ∃ p ∈ t.rings.pkts, p.item = some (i.id, e) ∧ p.src = clusterStop (v / 16) ∧ p.dst = clusterStop (e / 16) ∧ p.kind = kindPost)
  ∧ (∀ (s : State) (id : Nat) (i : Item) (c : ParkCause),
      s.host.engines.items.find? (fun i => i.id = id) = some i → i.place = .parked c → s.causeOver i c = true →
      exec (.itemUnpark id) s = .next (s.updItem id (fun i => { i with place := .intake })))
  ∧ (∀ (s : State) (e : Nat),
      (s.running e).isSome = true → s.inService e = true →
      ∃ t, exec (.engineItemLimit e) s = .next t ∧ t.inService e = false ∧ 0x210 + e ∈ t.wires)
  ∧ (∀ (s : State) (e : Nat),
      s.inService e = true →
      ∃ t, exec (.engineMemoryError e) s = .next t ∧ t.inService e = false ∧ 0x210 + e ∈ t.wires)

/-- A refill leaves active at each instance exactly the slices with a burst there, and gives a slice that was not active no more credit than it had, and none. Where no address has to be translated, a grant of the next burst of a write instance marks it granted and charges its slice; one of a read instance issues the read. A preemption returns the charge and the grant. A handover takes the granted burst, if it is a report or its slice's memory may be written, to the host as a write, or as an MSI-X message. A claim of a free lock by a permitted master gives it the lock, a claim of a held one changes nothing, a release by its holder frees it, a read returns the word. An accepted LOCK_BREAK of a held lock makes it free and abandoned. Premises of the refill: credits stand in the order of their keys, and bursts name slices. It concludes exec c s = next t, on conditions on the state and the operands alone, for c = arbiterRefill, arbiterGrant, arbiterPreempt, burstHandover, lockClaim, lockRelease, lockRead, lockBreak. -/
def Obligations.ArbiterAndLockBank : Prop :=
  (∀ (s : State),
      Table.risingFrom none s.host.arb.credit = true →
      s.host.arb.bursts.all (fun b => decide (b.slice < 256)) = true →
      ∃ t, exec (.arbiterRefill) s = .next t ∧ (∀ k < 4096, k ∈ t.host.arb.active ↔ ∃ b ∈ s.host.arb.bursts, b.inst = k / 256 ∧ b.slice = k % 256)
        ∧ (∀ i < 16, ∀ sl < 256, 256 * i + sl ∉ s.host.arb.active → t.credit i sl = min (s.credit i sl) 0))
  ∧ (∀ (s : State) (i : Nat) (b : Burst),
      s.nextGrant i = some b → i % 2 = 1 → s.still = true →
      ∃ t, exec (.arbiterGrant i) s = .next t ∧ t.host.arb.bursts = s.host.arb.bursts.map (fun x => if x.id = b.id then { x with granted := true } else x)
        ∧ t.host.arb.credit = Table.set 0 s.host.arb.credit (256 * i + b.slice) (s.credit i b.slice - b.len) ∧ t.host.reads = s.host.reads)
  ∧ (∀ (s : State) (i : Nat) (b : Burst),
      s.nextGrant i = some b → i % 2 = 0 → s.still = true →
      ∃ t, exec (.arbiterGrant i) s = .next t ∧ t.host.arb.bursts = s.host.arb.bursts.filter (fun x => x.id ≠ b.id)
        ∧ t.host.reads = s.host.reads ++ [{ id := b.id, inst := i, func := b.func, slice := b.slice, addr := b.addr, len := b.len, owner := b.owner, key := b.key }]
        ∧ .hostRead i b.func b.addr b.len b.id ∈ t.out)
  ∧ (∀ (s : State) (i sl : Nat) (b : Burst),
      (s.host.arb.bursts.find? (fun b => b.inst = i ∧ b.granted) = some b) → i % 2 = 1 → sl ≠ b.slice →
      (s.askers i).any (fun x => x.slice == sl) = true →
      s.credit i b.slice + 64 * fldN (s.eff R.arbCtl (i / 2)) 31 24 < s.credit i sl →
      b.taken < fldN (s.eff R.arbCtl (i / 2)) 23 20 →
      exec (.arbiterPreempt i sl) s = .next (((s.setCredit i b.slice (s.credit i b.slice + b.len)).updBurst b.id (fun x =>
          { x with granted := false, taken := x.taken + 1 })).countHost (i / 4) 4))
  ∧ (∀ (s : State) (i : Nat) (b : Burst),
      (s.host.arb.bursts.find? (fun b => b.inst = i ∧ b.granted) = some b) → s.still = true →
      (b.report = true ∨ s.writable b.slice = true) →
      ∃ t, exec (.burstHandover i) s = .next t ∧ t.host.arb.bursts = s.host.arb.bursts.filter (fun x => x.id ≠ b.id)
        ∧ t.out = (match b.msix with
          | some v => .msix b.func v b.addr ((s.func b.func).vec v).data
          | none => .hostWrite i b.func b.addr b.data (!b.report && (s.func b.func).relaxed)) :: s.out)
  ∧ (∀ (s : State) (n sl m : Nat) (w : BitVec 32),
      fldN w 31 30 = 1 → fldN w 27 20 = sl → fldN w 9 0 = m → s.lockAllowed n sl m = true →
      bit (s.lock n) 31 = false →
      exec (.lockClaim n sl m w) s = .next ((s.setLock n (BitVec.ofNat 32 (2 ^ 31 + 2 ^ 30 * b2n (bit (s.lock n) 30) + 2 ^ 20 * sl + m))).emit (.ringAnswer 31 0)))
  ∧ (∀ (s : State) (n sl m : Nat) (w : BitVec 32),
      fldN w 31 30 = 1 → fldN w 27 20 = sl → fldN w 9 0 = m → s.lockAllowed n sl m = true →
      bit (s.lock n) 31 = true →
      exec (.lockClaim n sl m w) s = .next (s.emit (.ringAnswer 31 0)))
  ∧ (∀ (s : State) (n sl m : Nat) (w : BitVec 32),
      fldN w 31 30 = 2 → fldN w 27 20 = sl → fldN w 9 0 = m → s.lockAllowed n sl m = true →
      bit (s.lock n) 31 = true → fldN (s.lock n) 27 20 = sl → fldN (s.lock n) 9 0 = m →
      exec (.lockRelease n sl m w) s = .next ((s.setLock n 0).emit (.ringAnswer 31 0)))
  ∧ (∀ (s : State) (n sl m : Nat),
      exec (.lockRead n sl m) s = .next (s.emit (.lockWord sl m n (s.lock n))))
  ∧ (∀ (s : State) (q : Req) (role : Role) (v : Image),
      s.mayWrite q role R.lockBreak 0 0 v = true → fldN v 15 0 < 4096 → bit (s.lock (fldN v 15 0)) 31 = true →
      ∃ t, exec (.lockBreak q v) s = .next t ∧ t.lock (fldN v 15 0) = 0x40000000 ∧ ∀ m, m ≠ fldN v 15 0 → t.lock m = s.lock m)

/-- A well-formed NOP finishes. A SEND with inline data within the slice's EAGER_LIMIT, on a channel in step, sends one EAGER packet with its prologue and data under the channel's next number, and is unacknowledged under it; a RECV that no message matches is posted at its context. A PUT and a PUT_IMM with inline data, a GET through a function with no translation and an ATOMIC without a local buffer, of one message of one packet, to a peer with nothing outstanding, send that request under the peer's next number and keep it as outstanding. A COLLECTIVE joins its context's next epoch as a member; a CONTROL_SEND with inline data builds one packet of class 0; a SEGMENT of a rendezvous sends the next DATA packet. It concludes exec c s = next t, on conditions on the state and the operands alone, for c = entryNop, entrySend, entryRecv, entryPut, entryPutImm, entryGet, entryAtomic, entryCollective, entryControlSend, entrySegment. -/
def Obligations.EntriesAreExecuted : Prop :=
  (∀ (s : State) (e n pos : Nat) (w : Wq) (x : WqEntry),
      s.runningEntry e = some (n, pos, w, x) → entryOp x.bytes = 0x00 → malformation w.slice w pos x.bytes = none →
      exec (.entryNop e) s = .next (s.finish n pos .ok 0))
  ∧ (∀ (s : State) (e n pos : Nat) (w : Wq) (x : WqEntry) (pr : Pair) (p : Peer),
      s.runningEntry e = some (n, pos, w, x) → entryOp x.bytes = 0x10 → malformation w.slice w pos x.bytes = none →
      entryUnits x.bytes ≠ 0 → entryFld x.bytes 13 13 = 1 → s.entryCtxOk w.slice (entryCtx x.bytes) = true →
      s.holdsKey w.slice (entryPkey x.bytes) = true → s.shaperHolds w.slice (entryClass x.bytes) = false →
      pr = { station := mctxStation (s.reg R.matchCtx 0 (entryCtx x.bytes)), node := entryFld x.bytes 147 128, remote := entryFld x.bytes 169 160 } →
      s.peer pr = some p → (p.send (entryClass x.bytes)).unacked = [] →
      (p.send (entryClass x.bytes)).sync = false → entryLen x.bytes ≤ s.eagerLimit w.slice →
      ∃ t, exec (.entrySend e) s = .next t ∧ (∃ b, t.built = s.built ++ [b] ∧ b.hdr.cmd = 0x10 ∧ b.hdr.cls = BitVec.ofNat 3 (entryClass x.bytes)
          ∧ b.hdr.dstNode = BitVec.ofNat 20 pr.node ∧ b.hdr.dstStation = BitVec.ofNat 10 pr.remote ∧ b.hdr.pkey = BitVec.ofNat 16 (entryPkey x.bytes)
          ∧ b.hdr.msgId = BitVec.ofNat 24 (p.send (entryClass x.bytes)).next ∧ b.hdr.ext = BitVec.ofNat 32 (entryWord x.bytes 36 4)
          ∧ b.payload = prologue (fldN (s.reg R.matchCtx 0 (entryCtx x.bytes)) 31 0) (entryLen x.bytes) (entryFld x.bytes 10 10 == 1) ++ entryInline x.bytes)
        ∧ t.peer pr = some (p.withSend (entryClass x.bytes) { sync := false, next := ((p.send (entryClass x.bytes)).next + 1) % 2 ^ 24, unacked := [{ num := (p.send (entryClass x.bytes)).next, wq := n, pos := pos, rdv := false }] }))
  ∧ (∀ (s : State) (e n pos : Nat) (w : Wq) (x : WqEntry),
      s.runningEntry e = some (n, pos, w, x) → entryOp x.bytes = 0x11 → malformation w.slice w pos x.bytes = none →
      entryFrag x.bytes = false → s.entryCtxOk w.slice (entryCtx x.bytes) = true →
      (s.mctx (entryCtx x.bytes)).walking = none → (s.mctx (entryCtx x.bytes)).unex = [] →
      (s.mctx (entryCtx x.bytes)).overflow = [] → s.postRoom (entryCtx x.bytes) w.slice = true →
      ∃ t, exec (.entryRecv e) s = .next t ∧ t.mctx (entryCtx x.bytes) = { s.mctx (entryCtx x.bytes) with
          posted := (s.mctx (entryCtx x.bytes)).posted ++ [{ wq := n, pos := pos, tag := BitVec.ofNat 32 (entryWord x.bytes 36 4), mask := BitVec.ofNat 32 (entryWord x.bytes 40 4), source := entryWord x.bytes 44 4, stamp := (s.mctx (entryCtx x.bytes)).stamp }], stamp := (s.mctx (entryCtx x.bytes)).stamp + 1 })
  ∧ (∀ (s : State) (e n pos : Nat) (w : Wq) (x : WqEntry) (pr : Pair) (p : Peer),
      s.runningEntry e = some (n, pos, w, x) → entryOp x.bytes = 0x20 → malformation w.slice w pos x.bytes = none →
      entryUnits x.bytes ≠ 0 → s.rop n pos = none → entryRkey x.bytes < 2 ^ 24 →
      s.holdsKey w.slice (entryPkey x.bytes) = true → s.shaperHolds w.slice (entryClass x.bytes) = false →
      entryFld x.bytes 13 13 = 1 →
      pr = { station := w.station, node := entryFld x.bytes 147 128, remote := entryFld x.bytes 169 160 } →
      s.peer pr = some p → p.msgs = [] → s.windowOpen p = true →
      messageLen (entryRaddr x.bytes) (entryLen x.bytes) = entryLen x.bytes →
      piecesOf (entryRaddr x.bytes) (entryLen x.bytes) = 1 →
      ∃ t, exec (.entryPut e) s = .next t ∧ (∃ b, t.built = s.built ++ [b] ∧ b.hdr.cmd = 0x20 ∧ b.hdr.dstNode = BitVec.ofNat 20 pr.node
          ∧ b.hdr.msgId = BitVec.ofNat 24 p.next ∧ b.hdr.offset = BitVec.ofNat 32 (entryRaddr x.bytes % 2 ^ 32)
          ∧ b.hdr.ctx = BitVec.ofNat 16 (entryRaddr x.bytes / 2 ^ 32) ∧ b.payload = entryInline x.bytes)
        ∧ ∃ m, t.peer pr = some { p with next := (p.next + 1) % 2 ^ 24, msgs := [m] } ∧ m.num = p.next ∧ m.kind = .put ∧ m.len = entryLen x.bytes)
  ∧ (∀ (s : State) (e n pos : Nat) (w : Wq) (x : WqEntry) (pr : Pair) (p : Peer),
      s.runningEntry e = some (n, pos, w, x) → entryOp x.bytes = 0x21 → malformation w.slice w pos x.bytes = none →
      entryUnits x.bytes ≠ 0 → s.rop n pos = none → entryRkey x.bytes < 2 ^ 24 →
      s.holdsKey w.slice (entryPkey x.bytes) = true → s.shaperHolds w.slice (entryClass x.bytes) = false →
      entryFld x.bytes 13 13 = 1 →
      pr = { station := w.station, node := entryFld x.bytes 147 128, remote := entryFld x.bytes 169 160 } →
      s.peer pr = some p → p.msgs = [] → s.windowOpen p = true →
      messageLen (entryRaddr x.bytes) (entryLen x.bytes) = entryLen x.bytes →
      piecesOf (entryRaddr x.bytes) (entryLen x.bytes) = 1 →
      ∃ t, exec (.entryPutImm e) s = .next t ∧ (∃ b, t.built = s.built ++ [b] ∧ b.hdr.cmd = 0x20 ∧ b.hdr.dstNode = BitVec.ofNat 20 pr.node
          ∧ b.hdr.msgId = BitVec.ofNat 24 p.next ∧ b.payload = entryInline x.bytes)
        ∧ ∃ m, t.peer pr = some { p with next := (p.next + 1) % 2 ^ 24, msgs := [m] } ∧ m.num = p.next ∧ m.kind = .put ∧ m.len = entryLen x.bytes)
  ∧ (∀ (s : State) (e n pos : Nat) (w : Wq) (x : WqEntry) (pr : Pair) (p : Peer),
      s.runningEntry e = some (n, pos, w, x) → entryOp x.bytes = 0x22 → malformation w.slice w pos x.bytes = none →
      entryFrag x.bytes = false → s.mayIssue w.func = true → s.sliceFrost w.slice = false →
      s.linkFrost (instOf w.func false) = false → s.trans.ended = [] → s.stage1On w.slice = false →
      s.stage2Mode w.slice = 2 → s.serviceMode = false → s.rop n pos = none → entryRkey x.bytes < 2 ^ 24 →
      s.holdsKey w.slice (entryPkey x.bytes) = true → s.shaperHolds w.slice (entryClass x.bytes) = false →
      entryFld x.bytes 13 13 = 1 →
      pr = { station := w.station, node := entryFld x.bytes 147 128, remote := entryFld x.bytes 169 160 } →
      s.peer pr = some p → p.msgs = [] → s.windowOpen p = true →
      messageLen (entryRaddr x.bytes) (entryLen x.bytes) = entryLen x.bytes →
      ∃ t, exec (.entryGet e) s = .next t ∧ (∃ b, t.built = s.built ++ [b] ∧ b.hdr.cmd = 0x22 ∧ b.hdr.dstNode = BitVec.ofNat 20 pr.node
          ∧ b.hdr.msgId = BitVec.ofNat 24 p.next ∧ b.payload = leBytes (entryLen x.bytes) 8)
        ∧ ∃ m, t.peer pr = some { p with next := (p.next + 1) % 2 ^ 24, msgs := [m] } ∧ m.num = p.next ∧ m.kind = .get ∧ m.len = entryLen x.bytes)
  ∧ (∀ (s : State) (e n pos : Nat) (w : Wq) (x : WqEntry) (pr : Pair) (p : Peer),
      s.runningEntry e = some (n, pos, w, x) → entryOp x.bytes = 0x23 → malformation w.slice w pos x.bytes = none →
      entryLaddr x.bytes = 0 → s.rop n pos = none → entryRkey x.bytes < 2 ^ 24 →
      s.holdsKey w.slice (entryPkey x.bytes) = true → s.shaperHolds w.slice (entryClass x.bytes) = false →
      entryFld x.bytes 13 13 = 1 →
      pr = { station := w.station, node := entryFld x.bytes 147 128, remote := entryFld x.bytes 169 160 } →
      s.peer pr = some p → p.msgs = [] → s.windowOpen p = true →
      ∃ t, exec (.entryAtomic e) s = .next t ∧ (∃ b, t.built = s.built ++ [b] ∧ b.hdr.cmd = 0x23 ∧ b.hdr.dstNode = BitVec.ofNat 20 pr.node
          ∧ b.hdr.msgId = BitVec.ofNat 24 p.next ∧ b.payload = (if entrySize x.bytes = 16 then (x.bytes.drop 64).take 32 else leBytes (entryWord x.bytes 48 8) 8 ++ leBytes (entryWord x.bytes 56 8) 8))
        ∧ ∃ m, t.peer pr = some { p with next := (p.next + 1) % 2 ^ 24, msgs := [m] } ∧ m.num = p.next ∧ m.kind = .atomic ∧ m.len = entrySize x.bytes)
  ∧ (∀ (s : State) (e n pos k : Nat) (w : Wq) (x : WqEntry) (o : COp),
      s.runningEntry e = some (n, pos, w, x) → entryOp x.bytes = 0x30 → malformation w.slice w pos x.bytes = none →
      s.hostCause w x.bytes = none → k = entryCtx x.bytes → s.collValid k = true → s.collSlice k = w.slice →
      entryFld x.bytes 159 128 < s.collLocals k → s.holdsKey w.slice (fldN (s.collEntry k) 111 96) = true →
      diff24 (entryWord x.bytes 48 4 % 2 ^ 24) (s.coll k).last = 1 → (s.coll k).st ≠ .active →
      o = { cop := entryFld x.bytes 359 352, type := entryFld x.bytes 367 360, mode := entryFld x.bytes 375 368, count := entryLen x.bytes } →
      s.collRefuses k o = none →
      ∃ t, exec (.entryCollective e) s = .next t ∧ t.coll k = { s.coll k with st := .active, op := o, timer := s.uptime, members := (s.coll k).members ++ [{ num := entryFld x.bytes 159 128, wq := n, pos := pos }] })
  ∧ (∀ (s : State) (e n pos : Nat) (w : Wq) (x : WqEntry),
      s.runningEntry e = some (n, pos, w, x) → entryOp x.bytes = 0x70 → malformation w.slice w pos x.bytes = none →
      entryUnits x.bytes ≠ 0 → x.built = false →
      ∃ t, exec (.entryControlSend e) s = .next t ∧ ∃ b, t.built = s.built ++ [b] ∧ b.hdr.cls = 0 ∧ b.hdr.dstNode = BitVec.ofNat 20 (entryFld x.bytes 147 128)
          ∧ b.hdr.cmd = BitVec.ofNat 8 (entryFld x.bytes 295 288) ∧ b.payload = entryInline x.bytes)
  ∧ (∀ (s : State) (e n pos first len : Nat) (i : Item) (w : Wq) (x : WqEntry) (p : Peer) (r : RdvSend),
      s.running e = some i → i.src = .segment n pos → s.recvEntry n pos = some (w, x) → entryUnits x.bytes ≠ 0 →
      s.hostCause w x.bytes = none → s.rop n pos = none →
      (s.remote.peers.findSome? (fun p => (p.rdvS.find? (fun r => r.wq = n ∧ r.pos = pos)).map (fun r => (p, r))) = some (p, r)) →
      s.holdsKey p.slice r.pkey.toNat = true → s.shaperHolds p.slice 3 = false → r.grants = [(first, len)] →
      len ≤ 4096 →
      ∃ t, exec (.entrySegment e) s = .next t ∧ ∃ b, t.built = s.built ++ [b] ∧ b.hdr.cmd = 0x13 ∧ b.hdr.dstNode = BitVec.ofNat 20 p.pair.node
          ∧ b.hdr.msgId = BitVec.ofNat 24 r.num ∧ b.hdr.offset = BitVec.ofNat 32 first ∧ b.payload = ((entryInline x.bytes).drop first).take len)

/-- An accepted TLB_LOAD makes its slot the most recently used of its set. TLB_INVAL leaves no unpinned slot in its scope (and no pinned one where it says so); its answer goes out once no granted burst is stale. A TRANS_RETRY ends the pending miss: RETRY without a trace, FAULT and the timeout with the entry that waited. A valid entry of a level below 4 takes a stage-2 walk to the next level at the table it names; a valid one of level 4 loads its translation and ends the walk. Premises where they are needed: the look-aside buffer's sets stand in the order of their keys, no access is left that ended with a fault, and no walk waits for a free miss. It concludes exec c s = next t, on conditions on the state and the operands alone, for c = tlbLoad, tlbInval, tlbInvalDone, transRetry, transRetryFault, missTimeout, walkReadComplete. -/
def Obligations.TranslationsLoadInvalidateAndEnd : Prop :=
  (∀ (s : State) (q : Req) (role : Role) (v : Image) (sl st : Nat),
      sl = fldN v 127 120 → st = fldN v 119 118 → s.mayWrite q role R.tlbLoad 0 0 v = true →
      s.mayStage role sl st = true → s.tlbLoadBad v = false →
      (s.tlbPut (slotOf sl st (v.extractLsb' 0 64 : BitVec 64) (fldN v 99 64) (bit v 117))).isSome = true →
      ∃ t, exec (.tlbLoad q v) s = .next t
        ∧ (t.tlbWays (tlbSet sl st (pteContig (v.extractLsb' 0 64 : BitVec 64)) (slotOf sl st (v.extractLsb' 0 64 : BitVec 64) (fldN v 99 64) (bit v 117)).page)).head?
          = some (slotOf sl st (v.extractLsb' 0 64 : BitVec 64) (fldN v 99 64) (bit v 117)))
  ∧ (∀ (s : State) (q : Req) (role : Role) (v : Image),
      s.mayWrite q role R.tlbInval 0 0 v = true → fldN v 119 118 ≠ 0 → fldN v 116 115 < 2 →
      (fldN v 116 115 = 1 → fldN v 35 0 ≠ 0) →
      (stagesOf (fldN v 119 118)).all (fun n => s.mayStage role (fldN v 127 120) n) = true →
      Table.risingFrom none s.trans.tlb = true →
      ∃ t, exec (.tlbInval q v) s = .next t ∧ ∀ n, ∀ x ∈ t.tlbWays n,
          (invalScope v).has x.slice x.stage x.page (2 ^ contigLog x.contig) = true → x.pin = true ∧ (invalScope v).pinned = false)
  ∧ (∀ (s : State),
      s.host.arb.bursts.all (fun b => !(b.granted && b.stale)) = true →
      exec (.tlbInvalDone) s = .next (s.answerOwed (R.tlbInval.index 0) 2 .ok))
  ∧ (∀ (s : State) (q : Req) (role : Role) (v : Image) (m : Miss),
      s.mayWrite q role R.transRetry 0 0 v = true → s.trans.misses.find? (fun m => m.id = fldN v 15 0) = some m →
      s.mayStage role m.slice m.stage = true → fldN v 31 30 = 1 → m.waiters = [] → s.trans.ended = [] →
      s.trans.walks.all (fun w => decide (w.on ≠ .free)) = true →
      ∃ t, exec (.transRetry q v) s = .next t ∧ t.trans.misses = s.trans.misses.filter (fun x => x.id ≠ m.id) ∧ t.trans.walks = s.trans.walks
        ∧ t.host.engines = s.host.engines)
  ∧ (∀ (s : State) (q : Req) (role : Role) (v x : Image) (m : Miss) (n pos : Nat) (a : Access),
      x = setFld v 31 30 2 → s.mayWrite q role R.transRetry 0 0 x = true →
      s.trans.misses.find? (fun m => m.id = fldN x 15 0) = some m → s.mayStage role m.slice m.stage = true →
      m.waiters = [(.item n pos, a)] → s.trans.ended = [] →
      s.trans.walks.all (fun w => decide (w.on ≠ .free)) = true → s.rop n pos = none →
      s.remote.peers.all (fun p => p.rdvS.all (fun r => !(r.wq == n && r.pos == pos))) = true →
      s.colls.ctx.all (fun c => c.2.members.all (fun m => !(m.wq == n && m.pos == pos))) = true →
      ∃ t, exec (.transRetryFault q v) s = .next t ∧ t.trans.misses = s.trans.misses.filter (fun x => x.id ≠ m.id) ∧ t.recvEntry n pos = none)
  ∧ (∀ (s : State) (id n pos : Nat) (m : Miss) (a : Access),
      s.trans.misses.find? (fun m => m.id = id) = some m → m.waiters = [(.item n pos, a)] → s.trans.ended = [] →
      s.trans.walks.all (fun w => decide (w.on ≠ .free)) = true → s.rop n pos = none →
      s.remote.peers.all (fun p => p.rdvS.all (fun r => !(r.wq == n && r.pos == pos))) = true →
      s.colls.ctx.all (fun c => c.2.members.all (fun m => !(m.wq == n && m.pos == pos))) = true →
      ∃ t, exec (.missTimeout id) s = .next t ∧ t.trans.misses = s.trans.misses.filter (fun x => x.id ≠ m.id) ∧ t.recvEntry n pos = none)
  ∧ (∀ (s : State) (id : Nat) (e : BitVec 64) (r : HostRead) (w : Walk),
      s.host.reads.find? (fun r => r.owner = .walk id) = some r →
      (s.trans.walks.find? (fun w => w.id = id ∧ w.on = .read) = some w) → w.stage = 2 → w.lv < 4 →
      bit e 0 = true → fldN e 11 1 = 0 → s.serviceMode = false → s.trans.ended = [] →
      ∃ t, exec (.walkReadComplete id e true) s = .next t ∧ t.host.reads = s.host.reads.erase r
        ∧ t.trans.walks = s.trans.walks.map (fun v => if v.id = w.id then { w with lv := w.lv + 1, base := 4096 * fldN e 51 12 } else v))
  ∧ (∀ (s : State) (id : Nat) (e : BitVec 64) (r : HostRead) (w : Walk),
      s.host.reads.find? (fun r => r.owner = .walk id) = some r →
      (s.trans.walks.find? (fun w => w.id = id ∧ w.on = .read) = some w) → w.stage = 2 → w.lv = 4 →
      bit e 0 = true → pteReserved e 2 = false → pteMisaligned e (w.ia / 4096) = false → w.waiters = [] →
      s.trans.ended = [] →
      ∃ t, exec (.walkReadComplete id e true) s = .next t ∧ t.host.reads = s.host.reads.erase r
        ∧ t.trans.walks = s.trans.walks.filter (fun v => v.id ≠ w.id)
        ∧ (t.tlbWays (tlbSet w.acc.slice 2 (pteContig e) (slotOf w.acc.slice 2 e (w.ia / 4096) false).page)).head? = some (slotOf w.acc.slice 2 e (w.ia / 4096) false))

/-- Where accesses need no translation, an EAGER in step that matches the oldest receive of its context is placed at the receive's buffer and completes it; an RTS that does draws the first CTS. A CHANNEL_SYNC sets the channel's next number and mends it. A CTS for an inline SEND draws the granted DATA; the DATA that fills the last chunk draws DONE and completes the receive; DONE, an accepting MSG_ACK, RDV_ABORT, an acknowledgement timeout and a rendezvous timeout end the SENDs they name. An owed acknowledgement goes out when its delay ends. A walk of an overflow list gives the message to the first record it matches. A rank miss reads the rank table; RANK_INVAL removes the ranks it names and no others. Premises where they are needed: contexts stand in the order of their keys, and the slice's peer contexts are within its limit. It concludes exec c s = next t, on conditions on the state and the operands alone, for c = eager, rts, channelSync, cts, data, done, msgAck, rdvAbort, ackDelayExpiry, ackTimeout, rdvTimeout, overflowWalk, rankLoad, rankInval. -/
def Obligations.MessagesAreMatchedAndAnswered : Prop :=
  (∀ (s : State) (u sl n : Nat) (a : Arrived) (r : Posted) (rest : List Posted) (w : Wq) (e : WqEntry),
      s.arrival (matchStop u) 0x10 = some a → (s.takeArrival a).inStep a.pkt.hdr sl n = true →
      (s.mctx n).posted = r :: rest → (s.mctx n).overflow = [] →
      r.fits a.pkt.hdr.ext (prologueOf a.pkt.payload).1 = true → s.recvEntry r.wq r.pos = some (w, e) →
      entryFrag e.bytes = false → s.bypass w.slice = true →
      a.pkt.payload.length = 16 + (prologueOf a.pkt.payload).2.1 → 0 < (prologueOf a.pkt.payload).2.1 →
      (prologueOf a.pkt.payload).2.1 ≤ min 512 (entryLen e.bytes) →
      entryLaddr e.bytes % 4096 + (prologueOf a.pkt.payload).2.1 ≤ 4096 → w.func ≠ memFunc →
      s.writable w.slice = true → Table.risingFrom none s.remote.mctx = true →
      ∃ t, exec (.eager u) s = .next t ∧ t.arrived = s.arrived.erase a ∧ (t.mctx n).posted = rest ∧ t.recvEntry r.wq r.pos = none
        ∧ ∃ b ∈ t.host.arb.bursts, b.func = w.func ∧ b.addr = entryLaddr e.bytes % 2 ^ 48 ∧ b.data = a.pkt.payload.drop 16 ∧ b.key = opKey r.wq r.pos)
  ∧ (∀ (s : State) (u sl n : Nat) (a : Arrived) (r : Posted) (rest : List Posted) (w : Wq) (e : WqEntry),
      s.arrival (matchStop u) 0x11 = some a → s.itemWaits a = false →
      (s.takeArrival a).inStep a.pkt.hdr sl n = true → (s.mctx n).posted = r :: rest → (s.mctx n).overflow = [] →
      r.fits a.pkt.hdr.ext (prologueOf a.pkt.payload).1 = true → s.recvEntry r.wq r.pos = some (w, e) →
      0 < min (prologueOf a.pkt.payload).2.1 (entryLen e.bytes) → 0 < s.rdvWindow →
      Table.risingFrom none s.remote.mctx = true →
      ∃ t, exec (.rts u) s = .next t ∧ t.arrived = s.arrived.erase a ∧ (t.mctx n).posted = rest
        ∧ ∃ b more, t.built = s.built ++ b :: more ∧ b.hdr.cmd = 0x12 ∧ b.hdr.msgId = a.pkt.hdr.msgId ∧ b.hdr.dstNode = a.pkt.hdr.srcNode
          ∧ b.hdr.offset = 0 ∧ b.hdr.ext = BitVec.ofNat 32 (min s.rdvChunk (min (prologueOf a.pkt.payload).2.1 (entryLen e.bytes))))
  ∧ (∀ (s : State) (u sl : Nat) (a : Arrived) (p : Peer),
      s.arrival (matchStop u) 0x16 = some a → s.stationSlice a.pkt.hdr.dstStation.toNat = some sl →
      s.peer (pairOf a.pkt.hdr) = some p → s.holdsKey sl a.pkt.hdr.pkey.toNat = true →
      s.peersOf p.slice ≤ s.peerLimit p.slice →
      ∃ t, exec (.channelSync u) s = .next t ∧ t.arrived = s.arrived.erase a ∧ t.built = s.built
        ∧ t.peer (pairOf a.pkt.hdr) = some (p.withRecv a.pkt.hdr.cls.toNat { p.recv a.pkt.hdr.cls.toNat with known := true, expect := a.pkt.hdr.msgId.toNat, broken := none }))
  ∧ (∀ (s : State) (u : Nat) (a : Arrived) (p : Peer) (r : RdvSend) (w : Wq) (e : WqEntry),
      s.arrival (matchStop u) 0x12 = some a → s.itemWaits a = false → s.peer (pairOf a.pkt.hdr) = some p →
      p.rdvS.find? (fun r => r.num = a.pkt.hdr.msgId.toNat) = some r →
      s.holdsKey p.slice a.pkt.hdr.pkey.toNat = true → r.grants = [] → s.recvEntry r.wq r.pos = some (w, e) →
      entryUnits e.bytes ≠ 0 → s.shaperHolds p.slice 3 = false → a.pkt.hdr.ext.toNat ≤ 4096 →
      ∃ t, exec (.cts u) s = .next t ∧ t.arrived = s.arrived.erase a ∧ ∃ b, t.built = s.built ++ [b] ∧ b.hdr.cmd = 0x13 ∧ b.hdr.msgId = BitVec.ofNat 24 r.num
          ∧ b.hdr.offset = a.pkt.hdr.offset ∧ b.hdr.dstNode = BitVec.ofNat 20 p.pair.node ∧ b.payload = ((entryInline e.bytes).drop a.pkt.hdr.offset.toNat).take a.pkt.hdr.ext.toNat)
  ∧ (∀ (s : State) (u : Nat) (a : Arrived) (p : Peer) (r : RdvRecv) (k : Chunk) (w : Wq) (e : WqEntry),
      s.arrival (matchStop u) 0x13 = some a → s.peer (pairOf a.pkt.hdr) = some p →
      p.rdvR.find? (fun r => r.num = a.pkt.hdr.msgId.toNat) = some r →
      s.holdsKey p.slice a.pkt.hdr.pkey.toNat = true → r.chunks = [k] → k.first ≤ a.pkt.hdr.offset.toNat →
      a.pkt.hdr.offset.toNat + a.pkt.payload.length ≤ k.first + k.len →
      r.offsets.contains a.pkt.hdr.offset.toNat = false → k.got + a.pkt.payload.length = k.len →
      r.want ≤ r.granted → s.recvEntry r.wq r.pos = some (w, e) → entryFrag e.bytes = false →
      s.bypass w.slice = true →
      ∃ t, exec (.data u) s = .next t ∧ t.arrived = s.arrived.erase a ∧ t.recvEntry r.wq r.pos = none
        ∧ ∃ b, t.built = s.built ++ [b] ∧ b.hdr.cmd = 0x14 ∧ b.hdr.msgId = BitVec.ofNat 24 r.num ∧ b.hdr.ext = BitVec.ofNat 32 r.want)
  ∧ (∀ (s : State) (u : Nat) (a : Arrived) (p : Peer) (r : RdvSend),
      s.arrival (matchStop u) 0x14 = some a → s.itemWaits a = false → s.peer (pairOf a.pkt.hdr) = some p →
      p.rdvS.find? (fun r => r.num = a.pkt.hdr.msgId.toNat) = some r →
      ∃ t, exec (.done u) s = .next t ∧ t.arrived = s.arrived.erase a ∧ t.built = s.built ∧ t.recvEntry r.wq r.pos = none)
  ∧ (∀ (s : State) (u cls : Nat) (a : Arrived) (p : Peer),
      s.arrival (matchStop u) 0x15 = some a → s.itemWaits a = false → cls = a.pkt.hdr.ext.toNat / 256 % 8 →
      (cls = 2 ∨ cls = 3) → a.pkt.hdr.ext.toNat % 256 = 0 → s.peer (pairOf a.pkt.hdr) = some p →
      s.holdsKey p.slice a.pkt.hdr.pkey.toNat = true → s.peersOf p.slice ≤ s.peerLimit p.slice →
      (p.send cls).unacked.any (fun x => decide (diff24 a.pkt.hdr.msgId.toNat x.num < 2 ^ 23)) = true →
      ∃ t, exec (.msgAck u) s = .next t ∧ t.arrived = s.arrived.erase a
        ∧ (∀ x ∈ (p.send cls).unacked, diff24 a.pkt.hdr.msgId.toNat x.num < 2 ^ 23 → x.rdv = false → t.recvEntry x.wq x.pos = none)
        ∧ ∃ p', t.peer (pairOf a.pkt.hdr) = some p' ∧ p'.send cls = { p.send cls with unacked := (p.send cls).unacked.filter (fun x => !(diff24 a.pkt.hdr.msgId.toNat x.num < 2 ^ 23)) })
  ∧ (∀ (s : State) (u : Nat) (a : Arrived) (p : Peer) (r : RdvSend),
      s.arrival (matchStop u) 0x17 = some a → s.itemWaits a = false → s.peer (pairOf a.pkt.hdr) = some p →
      p.rdvS.find? (fun r => r.num = a.pkt.hdr.msgId.toNat) = some r →
      ∃ t, exec (.rdvAbort u) s = .next t ∧ t.arrived = s.arrived.erase a ∧ t.built = s.built ∧ t.recvEntry r.wq r.pos = none)
  ∧ (∀ (s : State) (pr : Pair) (tc3 : Bool) (p : Peer) (num : Nat) (h : Header),
      s.peer pr = some p → (p.recv (chanClass tc3)).owed = some (num, h) →
      ∃ t, exec (.ackDelayExpiry pr tc3) s = .next t ∧ ∃ b, t.built = s.built ++ [b] ∧ b.hdr.cmd = 0x15 ∧ b.hdr.msgId = BitVec.ofNat 24 num
          ∧ b.hdr.dstNode = h.srcNode ∧ b.hdr.ext = BitVec.ofNat 32 (256 * h.cls.toNat))
  ∧ (∀ (s : State) (pr : Pair) (tc3 : Bool) (p : Peer),
      s.peer pr = some p → (p.send (chanClass tc3)).unacked ≠ [] → s.peersOf p.slice ≤ s.peerLimit p.slice →
      ∃ t, exec (.ackTimeout pr tc3) s = .next t ∧ (∀ x ∈ (p.send (chanClass tc3)).unacked, t.recvEntry x.wq x.pos = none)
        ∧ ∃ p', t.peer pr = some p' ∧ p'.send (chanClass tc3) = { p.send (chanClass tc3) with unacked := [], sync := true })
  ∧ (∀ (s : State) (pr : Pair) (num : Nat) (p : Peer) (r : RdvSend),
      s.peer pr = some p → (p.rdvS.find? (fun r => r.num = num ∧ r.accepted) = some r) →
      s.holdsKey p.slice r.pkey.toNat = true →
      ∃ t, exec (.rdvTimeout pr num true) s = .next t ∧ t.recvEntry r.wq r.pos = none ∧ ∃ b, t.built = s.built ++ [b] ∧ b.hdr.cmd = 0x17
          ∧ b.hdr.msgId = BitVec.ofNat 24 r.num ∧ b.hdr.dstNode = BitVec.ofNat 20 pr.node)
  ∧ (∀ (s : State) (n sl id k : Nat) (u : Unexpected) (r : Posted) (w : Wq) (e : WqEntry),
      (s.mctx n).walking = some id → s.stationSlice (mctxStation (s.reg R.matchCtx 0 n)) = some sl →
      (s.mctx n).unex.find? (fun u => u.id = id) = some u → u.taken = none → u.bin = none →
      (s.mctx n).posted.find? (fun r => r.fits u.hdr.ext u.rank) = none →
      (s.mctx n).unex.all (fun v => !v.waiting || v.id == id) = true → (s.inboundFunc sl).isSome = true →
      (s.mctx n).overflow = [(k, r)] → s.bypass sl = true → r.fits u.hdr.ext u.rank = true →
      s.recvEntry r.wq r.pos = some (w, e) → Table.risingFrom none s.remote.mctx = true →
      ∃ t, exec (.overflowWalk n) s = .next t ∧ (t.mctx n).walking = none ∧ (t.mctx n).overflow = []
        ∧ (t.mctx n).unex = (s.mctx n).unex.filter (fun x => x.id ≠ u.id) ∧ (t.mctx n).posted = (s.mctx n).posted)
  ∧ (∀ (s : State) (sl job rank : Nat) (x : Nat × Nat) (xs : List (Nat × Nat)) (j : Image) (w : Wq),
      s.rankWaiters sl job rank = x :: xs → s.jobEntry sl job = some j →
      s.host.gathers.all (fun g => decide (g.for_ ≠ .rank sl job rank)) = true → s.wq x.1 = some w →
      s.bypass sl = true →
      ∃ t, exec (.rankLoad sl job rank) s = .next t ∧ ∃ g, t.host.gathers = s.host.gathers ++ [g] ∧ g.for_ = .rank sl job rank ∧ g.bytes.length = 4)
  ∧ (∀ (s : State) (q : Req) (role : Role) (sl : Nat) (v : Image),
      s.mayWrite q role R.rankInval sl 0 v = true →
      ∃ t, exec (.rankInval q sl v) s = .next t
        ∧ t.remote.ranks = s.remote.ranks.filter (fun x => !(x.1 = sl ∧ x.2.1 = fldN v 55 32 ∧ (!bit v 63 ∨ x.2.2.1 = fldN v 31 0))))

/-- Where a request is admitted, its region lets it in and accesses need no translation: PUT_DATA of one burst writes its bytes at the target address under a placement of its own; PUT_NOTIFY writes its notification into the region's completion queue and is acknowledged; GET_REQ of one piece draws one GET_RESP of its length; ATOMIC_REQ becomes an operation that reads its word. An answer that finishes the last message of a whole operation ends its entry: GET_RESP, ATOMIC_RESP, and a SACK that names every packet. A SACK delay that ends sends what is owed; a retransmission sends the unacknowledged packet again and doubles the timeout up to RTO_MAX. REGION_INVALIDATE clears VALID and takes the next generation. Premises where they are needed: no placement, region write or release waits, and stored objects stand in the order of their keys. It concludes exec c s = next t, on conditions on the state and the operands alone, for c = putData, putNotify, getReq, atomicReq, getResp, atomicResp, sack, sackDelayExpiry, retransmitTimeout, regionInvalidate. -/
def Obligations.RemoteRequestsAndAnswers : Prop :=
  (∀ (s : State) (st sl f : Nat) (a : Arrived),
      s.arrival st 0x20 = some a → s.admits a.pkt.hdr sl = true →
      s.regionRefuses sl (reqKey a.pkt.hdr) 125 (targetAddr a.pkt.hdr) a.pkt.payload.length = false →
      s.inboundFunc sl = some f → f ≠ memFunc → s.bypass sl = true → 0 < a.pkt.payload.length →
      a.pkt.payload.length ≤ 512 → targetAddr a.pkt.hdr % 4096 + a.pkt.payload.length ≤ 4096 →
      s.writable sl = true → s.remote.placing = [] → s.remote.invals = [] →
      ∃ t, exec (.putData st) s = .next t ∧ t.arrived = s.arrived.erase a ∧ (∃ x, t.remote.placing = [x] ∧ x.hdr = a.pkt.hdr
          ∧ ∃ b, t.host.arb.bursts = s.host.arb.bursts ++ [b] ∧ b.key = x.key ∧ b.func = f ∧ b.addr = targetAddr a.pkt.hdr ∧ b.data = a.pkt.payload))
  ∧ (∀ (s : State) (st sl rkey n : Nat) (a : Arrived) (c : Cq),
      s.arrival st 0x21 = some a → s.itemWaits a = false → s.admits a.pkt.hdr sl = true →
      rkey = natOfBytes (a.pkt.payload.take 4) →
      s.regionRefuses sl rkey 122 (fldN (s.reg R.region 0 (rkey % 65536)) 47 0) 0 = false →
      n = fldN (s.reg R.region 0 (rkey % 65536)) 103 90 → s.cq n = some c → c.slice = sl → c.st = .ready →
      s.writable sl = true → s.resident (ctxNo 1 n) = true → c.held = [] → posDiff c.wpos c.consumer < 2 ^ c.log →
      ∃ t, exec (.putNotify st) s = .next t ∧ t.arrived = s.arrived.erase a
        ∧ (∃ c', t.cq n = some c' ∧ c'.wpos = posAdd c.wpos 1 ∧ c'.written = c.written + 1)
        ∧ ∃ b, t.built = s.built ++ [b] ∧ b.hdr.cmd = 0x2A ∧ b.hdr.msgId = a.pkt.hdr.msgId ∧ b.hdr.dstNode = a.pkt.hdr.srcNode ∧ fldN b.hdr.ext 23 16 = 0)
  ∧ (∀ (s : State) (st sl len : Nat) (a : Arrived),
      s.arrival st 0x22 = some a → s.admits a.pkt.hdr sl = true → len = natOfBytes (a.pkt.payload.take 4) →
      len ≤ 65536 → s.answersWaiting < 8192 →
      s.regionRefuses sl (reqKey a.pkt.hdr) 126 (targetAddr a.pkt.hdr) len = false → s.bypass sl = true → 0 < len →
      targetAddr a.pkt.hdr % 4096 + len ≤ 4096 → s.remote.placing = [] → s.remote.invals = [] →
      ∃ t, exec (.getReq st) s = .next t ∧ t.arrived = s.arrived.erase a ∧ ∃ b, t.built = s.built ++ [b] ∧ b.hdr.cmd = 0x28 ∧ b.hdr.cls = 5
          ∧ b.hdr.msgId = a.pkt.hdr.msgId ∧ b.hdr.dstNode = a.pkt.hdr.srcNode ∧ b.payload.length = len)
  ∧ (∀ (s : State) (st sl size : Nat) (a : Arrived),
      s.arrival st 0x23 = some a → s.admits a.pkt.hdr sl = true → size = (if bit a.pkt.hdr.ext 27 then 16 else 8) →
      s.answersWaiting < 8192 →
      s.remote.atomics.all (fun x => !(targetAddr x.hdr / 64 == targetAddr a.pkt.hdr / 64 && x.slice == sl)) = true →
      s.regionRefuses sl (reqKey a.pkt.hdr) 124 (targetAddr a.pkt.hdr) size = false →
      targetAddr a.pkt.hdr % size = 0 → a.pkt.hdr.ext.toNat / 2 ^ 24 % 8 ≤ 6 → a.pkt.payload.length = 2 * size →
      s.bypass sl = true →
      ∃ t, exec (.atomicReq st) s = .next t ∧ t.arrived = s.arrived.erase a
        ∧ (∃ o, t.remote.atomics = s.remote.atomics ++ [o] ∧ o.hdr = a.pkt.hdr ∧ o.size = size ∧ o.bus = targetAddr a.pkt.hdr
          ∧ o.aop = a.pkt.hdr.ext.toNat / 2 ^ 24 % 8 ∧ o.a = natOfBytes (a.pkt.payload.take size) ∧ o.b = natOfBytes (a.pkt.payload.drop size)
          ∧ ∃ g, t.host.gathers = s.host.gathers ++ [g] ∧ g.for_ = .atomic o.id))
  ∧ (∀ (s : State) (st : Nat) (a : Arrived) (p : Peer) (m : RMsg) (o : ROp),
      s.arrival st 0x28 = some a → s.answered a.pkt.hdr (· == .get) = some (p, m) →
      a.pkt.hdr.ext.toNat / 2 ^ 28 = 0 → m.acked = [] → m.pkts = 1 → p.msgs = [m] → s.rop m.wq m.pos = some o →
      o.pair = p.pair → o.all = true → o.failed = none →
      ∃ t, exec (.getResp st) s = .next t ∧ t.arrived = s.arrived.erase a ∧ t.recvEntry m.wq m.pos = none ∧ t.rop m.wq m.pos = none)
  ∧ (∀ (s : State) (st : Nat) (a : Arrived) (p : Peer) (m : RMsg) (o : ROp),
      s.arrival st 0x29 = some a → s.answered a.pkt.hdr (· == .atomic) = some (p, m) → m.acked = [] → m.pkts = 1 →
      p.msgs = [m] → s.rop m.wq m.pos = some o → o.pair = p.pair → o.all = true → o.failed = none →
      ∃ t, exec (.atomicResp st) s = .next t ∧ t.arrived = s.arrived.erase a ∧ t.recvEntry m.wq m.pos = none ∧ t.rop m.wq m.pos = none)
  ∧ (∀ (s : State) (st : Nat) (a : Arrived) (p : Peer) (m : RMsg) (o : ROp),
      s.arrival st 0x2A = some a → s.itemWaits a = false → s.answered a.pkt.hdr sacked = some (p, m) →
      (maskIds (a.pkt.hdr.ext.toNat % 65536) m.pkts).length = m.pkts → m.acked = [] → p.msgs = [m] →
      s.rop m.wq m.pos = some o → o.pair = p.pair → o.all = true → o.failed = none →
      ∃ t, exec (.sack st) s = .next t ∧ t.arrived = s.arrived.erase a ∧ t.recvEntry m.wq m.pos = none ∧ t.rop m.wq m.pos = none)
  ∧ (∀ (s : State) (pr : Pair) (num : Nat) (p : Peer) (x : Tracker),
      s.peer pr = some p → p.trackers.find? (fun t => t.num = num) = some x →
      p.owed.any (fun o => o.1 = num) = true →
      ∃ t, exec (.sackDelayExpiry pr num) s = .next t ∧ ∃ b, t.built = s.built ++ [b] ∧ b.hdr.cmd = 0x2A ∧ b.hdr.dstNode = x.hdr.srcNode ∧ b.hdr.msgId = x.hdr.msgId)
  ∧ (∀ (s : State) (pr : Pair) (num : Nat) (p : Peer) (m : RMsg) (o : ROp) (w : Wq) (e : WqEntry),
      s.peer pr = some p → p.msgs = [m] → m.num = num → m.sent = 1 → m.acked = [] → m.kind = .put →
      m.tries < s.retryLimit → s.rop m.wq m.pos = some o → o.pair = pr → s.holdsKey o.slice o.pkey.toNat = true →
      s.shaperHolds o.slice o.cls = false → s.recvEntry m.wq m.pos = some (w, e) → entryUnits e.bytes ≠ 0 →
      ∃ t, exec (.retransmitTimeout pr num) s = .next t
        ∧ (∃ b, t.built = s.built ++ [b] ∧ b.hdr.cmd = 0x20 ∧ b.hdr.msgId = BitVec.ofNat 24 num ∧ b.hdr.dstNode = BitVec.ofNat 20 pr.node)
        ∧ ∃ p', t.peer pr = some p' ∧ p'.rto = some (min (2 * s.rtoOf p) s.rtoMax) ∧ p'.pwnd = some (max 256 (s.pwndOf p / 2))
          ∧ p'.msgs.map (·.tries) = [m.tries + 1])
  ∧ (∀ (s : State) (q : Req) (role : Role) (n : Nat) (v x : Image),
      x = setFld v 127 127 0 → s.mayWrite q role R.region 0 n x = true → bit (s.reg R.region 0 n) 127 = true →
      Table.risingFrom none s.dict = true → s.remote.placing.all (fun x => x.region != n) = true →
      ∃ t, exec (.regionInvalidate q n v) s = .next t ∧ bit (t.reg R.region 0 n) 127 = false
        ∧ regionGen (t.reg R.region 0 n) = (regionGen (s.reg R.region 0 n) + 1) % 256)

/-- In the current epoch and attempt, a COLL_UP of a segment not yet heard from its port becomes, or completes, the segment's partial: with contributors outstanding it is kept, and a whole one below the root leaves. A COLL_DOWN of a segment whose result has not passed is passed on; COLL_SUMMARY commits the epoch and moves LAST; COLL_ABORT of the attempt aborts it, as the timer of an active context whose tree ports are up does with cause 2, and an accepted COLL_ABORT object with cause 7. A member that may send reads its next data segment. COLL_EPOCH sets LAST of a context that is not active; COLL_STEEP allocates the lowest free run; COLL_STEEP_CLEAR clears its flags. Premises where needed: contexts and stored objects stand in the order of their keys. It concludes exec c s = next t, on conditions on the state and the operands alone, for c = collUp, collDown, collSummary, collAbortReceive, collSegmentSend, collTimeout, collAbort, collEpoch, collSteep, collSteepClear. -/
def Obligations.CollectivesCombineCommitAndAbort : Prop :=
  (∀ (s : State) (u n edge pid j : Nat) (pk : Packet),
      s.collArrival u 0x40 = some (pid, pk) → s.collOwn u pid = none →
      s.collTakes pk.hdr n (s.collChildren n) edge = true → (s.coll n).st = .active →
      (s.coll n).op = copOf pk.hdr.ext.toNat → j = pk.hdr.offset.toNat % 512 → j < (s.coll n).op.segs →
      pk.hdr.offset.toNat / 512 % 2 = 1 → (s.coll n).upSeen edge j true = false → (s.coll n).data = [] →
      (s.contributors n).all (fun x => x == edge) = false →
      ∃ t, exec (.collUp u) s = .next t ∧ t.coll n = { s.coll n with timer := s.uptime, data := [{ no := j, elems := elemsOf (s.coll n).op.upSize ((s.coll n).op.elems j) pk.payload, heard := [edge] }] })
  ∧ (∀ (s : State) (u n edge pid j up : Nat) (pk : Packet),
      s.collArrival u 0x40 = some (pid, pk) → s.collOwn u pid = none →
      s.collTakes pk.hdr n (s.collChildren n) edge = true → (s.coll n).st = .active →
      (s.coll n).op = copOf pk.hdr.ext.toNat → j = pk.hdr.offset.toNat % 512 → j < (s.coll n).op.segs →
      pk.hdr.offset.toNat / 512 % 2 = 1 → (s.coll n).upSeen edge j true = false → (s.coll n).data = [] →
      (s.contributors n).all (fun x => x == edge) = true → s.collParent n = some up → (s.coll n).exps = [] →
      j = (s.coll n).upDone.length → s.segOpen (s.coll n) j = true →
      ∃ t, exec (.collUp u) s = .next t ∧ t.coll n = { s.coll n with timer := s.uptime, upDone := (s.coll n).upDone ++ [j] })
  ∧ (∀ (s : State) (u n edge pid j : Nat) (pk : Packet),
      s.collArrival u 0x41 = some (pid, pk) → s.collOwn u pid = none →
      s.collTakes pk.hdr n (s.collParent n).toList edge = true → (s.coll n).st = .active →
      (s.coll n).op = copOf pk.hdr.ext.toNat → j = pk.hdr.offset.toNat % 512 → j < (s.coll n).op.segs →
      pk.hdr.offset.toNat / 512 % 2 = 1 → (s.coll n).downD.contains j = false → (s.coll n).members = [] →
      (s.coll n).data = [] → (s.coll n).exps = [] →
      ∃ t, exec (.collDown u) s = .next t ∧ t.coll n = { s.coll n with timer := s.uptime, downD := (s.coll n).downD ++ [j] })
  ∧ (∀ (s : State) (u n edge pid : Nat) (pk : Packet),
      s.collArrival u 0x42 = some (pid, pk) → s.collOwn u pid = none →
      s.collTakes pk.hdr n (s.collParent n).toList edge = true → (s.coll n).st = .active →
      (s.coll n).op = copOf pk.hdr.ext.toNat → Table.risingFrom none s.colls.ctx = true →
      ∃ t, exec (.collSummary u) s = .next t ∧ t.coll n = { st := .idle, cause := (s.coll n).cause, last := ((s.coll n).last + 1) % 2 ^ 24 })
  ∧ (∀ (s : State) (u n edge pid : Nat) (pk : Packet),
      s.collArrival u 0x43 = some (pid, pk) → s.collOwn u pid = none →
      s.collTakes pk.hdr n (s.collEdges n) edge = true → (s.coll n).st = .active →
      ∃ t, exec (.collAbortReceive u) s = .next t
        ∧ t.coll n = { st := .aborted, cause := pk.hdr.ext.toNat % 16, attempt := ((s.coll n).attempt + 1) % 256, last := (s.coll n).last })
  ∧ (∀ (s : State) (n num : Nat) (m : CMember) (w : Wq) (e : WqEntry),
      ((s.coll n).members.find? (fun x => x.num = num ∧ !x.gone) = some m) → (s.coll n).st = .active →
      s.mayData (s.coll n) m = true → s.recvEntry m.wq m.pos = some (w, e) → s.capped w.slice = false →
      entryLaddr e.bytes ≠ 0 → s.bypass w.slice = true →
      ∃ t, exec (.collSegmentSend n num false) s = .next t ∧ (∃ g, t.host.gathers = s.host.gathers ++ [g] ∧ g.for_ = .contribution n m.num m.nextD)
        ∧ t.coll n = { s.coll n with members := (s.coll n).members.map (fun x => if x.num = m.num then { x with nextD := m.nextD + 1 } else x) })
  ∧ (∀ (s : State) (n : Nat),
      (s.coll n).st = .active → (s.collEdges n).find? s.collPortDown = none →
      ∃ t, exec (.collTimeout n) s = .next t ∧ t.coll n = { st := .aborted, cause := 2, attempt := ((s.coll n).attempt + 1) % 256, last := (s.coll n).last })
  ∧ (∀ (s : State) (q : Req) (role : Role) (v : Image) (n : Nat),
      s.mayWrite q role R.collAbort 0 0 v = true → n = fldN v 11 0 → s.collValid n = true →
      (s.coll n).st = .active →
      ∃ t, exec (.collAbort q v) s = .next t ∧ t.coll n = { st := .aborted, cause := 7, attempt := ((s.coll n).attempt + 1) % 256, last := (s.coll n).last })
  ∧ (∀ (s : State) (q : Req) (role : Role) (v : Image) (n : Nat),
      s.mayWrite q role R.collEpoch 0 0 v = true → n = fldN v 43 32 → s.collValid n = true →
      (s.coll n).st ≠ .active → Table.risingFrom none s.colls.ctx = true →
      ∃ t, exec (.collEpoch q v) s = .next t ∧ t.coll n = { st := .idle, cause := (s.coll n).cause, last := fldN v 23 0 })
  ∧ (∀ (s : State) (q : Req) (role : Role) (v : Image) (n b : Nat),
      s.mayWrite q role R.collSteep 0 n v = true → s.collValid n = true → s.collRoot n = true → 0 < fldN v 44 28 →
      fldN v 44 28 ≤ 65536 → (3 ≤ fldN v 62 60 → fldN v 59 57 < 3) → bit v 63 = true →
      bit (s.reg R.collSteep 0 n) 63 = false → s.steepRun (fldN v 44 28) = some b →
      Table.risingFrom none s.dict = true →
      ∃ t, exec (.collSteep q n v) s = .next t ∧ bit (t.reg R.collSteep 0 n) 63 = true ∧ fldN (t.reg R.collSteep 0 n) 27 11 = b
        ∧ fldN (t.reg R.collSteep 0 n) 44 28 = fldN v 44 28)
  ∧ (∀ (s : State) (q : Req) (role : Role) (v : Image) (n : Nat),
      s.mayWrite q role R.collSteepClear 0 0 v = true → n = fldN v 11 0 → bit (s.reg R.collSteep 0 n) 63 = true →
      (s.coll n).st ≠ .active →
      ∃ t, exec (.collSteepClear q v) s = .next t ∧ t.colls.flags = s.colls.flags.filter (fun k =>
          !(fldN (s.reg R.collSteep 0 n) 27 11 ≤ k ∧ k < fldN (s.reg R.collSteep 0 n) 27 11 + fldN (s.reg R.collSteep 0 n) 44 28))
        ∧ (bit v 31 = true → t.colls.slots = s.colls.slots))

/-- Once the hosts' ports are ready, the release of PERST# on ROOT ports frees each that no isolate action holds and lets its memory link train. A link trained to a type 3 device is in L0 with its width and speed. A device whose memory is active makes its link ACTIVE with its capacity, and every valid decoder that has not failed and whose links are all ACTIVE with room for their share is then committed. A link not active in time stands at TIMEOUT, one that goes down at DOWN, each with its fault source raised; an error of a request raises it too, and packets that would have carried the bytes of a failed read do not leave. A write of ASSIGN 1 that R493 does not refuse to a FREE pool that is clean and was last its slice's makes it ASSIGNED, any other makes it ZEROING at the end of the order; a write of ASSIGN 0 to an ASSIGNED pool that nothing on its way reaches frees it and keeps its last owner. The zeroed pool at the head of the order is ASSIGNED and clean. Premise of the release of a pool: values stand in the order of their keys. It concludes exec c s = next t, on conditions on the state and the operands alone, for c = memPerstRelease, memLinkTrained, memoryActive, memActiveTimeout, memLinkDown, cxlMemError, poolAssign, poolRelease, poolZeroingDone. -/
def Obligations.MemoryLinksAndPools : Prop :=
  (∀ (s : State),
      s.hostsReady = true → (∀ k < 4, s.hostRole k = 1 ∧ (s.hport k).perst = true ∧ (s.hport k).held = false) →
      ∃ t, exec .memPerstRelease s = .next t
        ∧ ∀ k < 4, (t.hport k).perst = false ∧ (t.hport k).linkA = { st := 1 } ∧ (t.memLink (2 * k)).st = .training)
  ∧ (∀ (s : State) (m w sp : Nat),
      ((s.memLink m).st = .training ∨ (s.memLink m).st = .down) → s.faults.mems.contains m = false →
      exec (.memLinkTrained m true w sp) s = .next (s.updHlink (m / 2) (m % 2) (fun l => { l with st := 2, width := w, speed := sp, cxl := true })))
  ∧ (∀ (s : State) (m : Nat) (c : BitVec 24),
      ((s.memLink m).st = .training ∨ (s.memLink m).st = .down) → s.faults.mems.contains m = false →
      (s.hlink (m / 2) (m % 2)).st = 2 → s.serviceMode = true →
      ∃ t, exec (.memoryActive m c) s = .next t ∧ t.memLink m = { st := .active, capacity := c.toNat }
        ∧ ∀ d < 8, bit (s.eff R.memDecoder 0 d) 127 = true → d ∉ s.service.failed →
          (∀ k ∈ s.decoderLinks d, (t.memLink k).st = .active ∧ fldN (s.eff R.memDecoder 0 d) 87 64 / 2 ^ fldN (s.eff R.memDecoder 0 d) 126 125 ≤ (t.memLink k).capacity)
          → d ∈ t.service.committed)
  ∧ (∀ (s : State) (m : Nat),
      (s.memLink m).st = .training →
      ∃ t, exec (.memActiveTimeout m) s = .next t ∧ t.memLink m = { s.memLink m with st := .timeout } ∧ memSource m ∈ t.wires)
  ∧ (∀ (s : State) (m : Nat),
      (s.memLink m).st = .active →
      ∃ t, exec (.memLinkDown m) s = .next t ∧ t.memLink m = { s.memLink m with st := .down } ∧ memSource m ∈ t.wires)
  ∧ (∀ (s : State) (m : Nat),
      exec (.cxlMemError m none) s = .next (s.raise (memSource m)))
  ∧ (∀ (s : State) (m id : Nat) (r : HostRead),
      s.host.reads.find? (fun r => r.id = id) = some r → r.owner = .payload →
      ∃ t, exec (.cxlMemError m (some id)) s = .next t ∧ memSource m ∈ t.wires ∧ ∀ b ∈ t.built, ∀ w ∈ b.wait, w.1 ≠ id)
  ∧ (∀ (s : State) (q : Req) (role : Role) (p : Nat) (v x : Image),
      x = setFld v 124 124 1 → s.mayWrite q role R.pool 0 p x = true →
      (poolRule q p (s.reg R.pool 0 p) x).chk s = none → poolSt (s.reg R.pool 0 p) = 0 →
      bit (s.reg R.pool 0 p) 125 = false → poolSpan x = poolSpan (s.reg R.pool 0 p) →
      fldN x 119 112 = fldN (s.reg R.pool 0 p) 111 104 →
      ∃ t, exec (.poolAssign q p v) s = .next t ∧ poolSt (t.reg R.pool 0 p) = 1 ∧ fldN (t.reg R.pool 0 p) 119 112 = fldN x 119 112
        ∧ t.service = s.service)
  ∧ (∀ (s : State) (q : Req) (role : Role) (p : Nat) (v x : Image),
      x = setFld v 124 124 1 → s.mayWrite q role R.pool 0 p x = true →
      (poolRule q p (s.reg R.pool 0 p) x).chk s = none → poolSt (s.reg R.pool 0 p) = 0 →
      (bit (s.reg R.pool 0 p) 125 = true ∨ poolSpan x ≠ poolSpan (s.reg R.pool 0 p) ∨ fldN x 119 112 ≠ fldN (s.reg R.pool 0 p) 111 104) →
      ∃ t, exec (.poolAssign q p v) s = .next t ∧ poolSt (t.reg R.pool 0 p) = 2 ∧ t.service = { s.service with zeroing := s.service.zeroing ++ [p] })
  ∧ (∀ (s : State) (q : Req) (role : Role) (p : Nat) (v x : Image),
      x = setFld v 124 124 0 → s.mayWrite q role R.pool 0 p x = true →
      (poolRule q p (s.reg R.pool 0 p) x).chk s = none → poolSt (s.reg R.pool 0 p) = 1 →
      s.poolBusy (s.reg R.pool 0 p) = false → Table.risingFrom none s.dict = true →
      ∃ t, exec (.poolRelease q p v) s = .next t ∧ poolSt (t.reg R.pool 0 p) = 0
        ∧ fldN (t.reg R.pool 0 p) 111 104 = fldN (s.reg R.pool 0 p) 111 104 ∧ poolSpan (t.reg R.pool 0 p) = poolSpan (s.reg R.pool 0 p))
  ∧ (∀ (s : State) (p : Nat) (ks : List Nat),
      s.service.zeroing = p :: ks → s.poolLinksUp (s.reg R.pool 0 p) = true →
      ∃ t, exec (.poolZeroingDone p) s = .next t ∧ t.service.zeroing = ks ∧ poolSt (t.reg R.pool 0 p) = 1 ∧ bit (t.reg R.pool 0 p) 125 = false
        ∧ fldN (t.reg R.pool 0 p) 111 104 = fldN (s.reg R.pool 0 p) 119 112 ∧ poolSpan (t.reg R.pool 0 p) = poolSpan (s.reg R.pool 0 p))

/-- A heartbeat is sent while the twin link is UP outside fail silent, and counts SEQ on. A received one is the partner's latest and makes its heartbeat present; one that asks for adoption makes a device that may adopt do so, for the cause it carries; without such an alert, an enrolled JOINING device whose address the partner has not adopted begins a resync and leads where the partner does not adopt and its side is 0. A LEAD or TRAIL device whose partner's heartbeat is lost while its beats are present becomes SOLO with the twin-link fault raised; where neither beats nor a pin fault tell more, only the heartbeat is absent. JOINING ends in SOLO without a partner. Beats are sent outside fail silent; a pulse is decoded within its own bounds, else counted; DISTRESS raises the partner's fault source; an ADOPT pulse is acted on while no heartbeat is present; copies of an alert leave in order; a silent partner is reset and adopted where the policy says so, and a reset that is due is sent. It concludes exec c s = next t, on conditions on the state and the operands alone, for c = twinHeartbeatSend, twinHeartbeat, heartbeatLost, joiningTimeout, beatSend, beat, distress, adoptPulse, alertRepeat, pinStuck, pinFaultClear, silentPartner, failSilentResetDelay. -/
def Obligations.TwinsHearEachOther : Prop :=
  (∀ (s : State),
      (s.link 48).st = .up → s.faults.silent = false → (s.link 48).bypassQ.length < 64 →
      ∃ t, exec .twinHeartbeatSend s = .next t ∧ (t.link 48).bypassQ = (s.link 48).bypassQ ++ [s.heartbeat.toMsg]
        ∧ t.twin = { s.twin with hbSeq := (s.twin.hbSeq + 1) % 256 })
  ∧ (∀ (s : State) (m : BypassMsg) (tm : Nat),
      (s.bypassIn.find? (fun b => b.1 = 48 ∧ b.2.1.type = 4) = some (48, m, tm)) →
      ∃ t, exec .twinHeartbeat s = .next t ∧ t.twin.partner = some (heartbeatOf m) ∧ t.twin.hb = true ∧ t.bypassIn = s.bypassIn.erase (48, m, tm))
  ∧ (∀ (s : State) (m : BypassMsg) (tm : Nat) (b : Heartbeat),
      (s.bypassIn.find? (fun b => b.1 = 48 ∧ b.2.1.type = 4) = some (48, m, tm)) → b = heartbeatOf m →
      b.alert = 2 → b.cause ∈ [1, 2, 4, 5] → s.twin.shadowValid = true →
      s.twin.st ∈ [TwinSt.solo, .resync, .lead, .trail] → s.faults.silent = false → b.state ≠ 5 →
      ∃ t, exec .twinHeartbeat s = .next t ∧ t.twin.st = .adopting ∧ t.twin.lead = true ∧ t.twin.adoptCause = b.cause ∧ t.adopted = some s.ownNode.twin)
  ∧ (∀ (s : State) (m : BypassMsg) (tm : Nat) (b : Heartbeat),
      (s.bypassIn.find? (fun b => b.1 = 48 ∧ b.2.1.type = 4) = some (48, m, tm)) → b = heartbeatOf m →
      b.alert ≠ 2 → s.twin.st = .joining → s.enrolled = true → b.adopted ≠ some s.ownNode →
      (s.nodeValid = true ∨ b.state ≠ 5) →
      ∃ t, exec .twinHeartbeat s = .next t ∧ t.twin.st = .resync ∧ t.twin.lead = (b.state != 5 && !s.straps.twinSide) ∧ t.opActive 3 = true)
  ∧ (∀ (s : State),
      s.twin.hb = true → s.beats = true → (s.twin.st = .lead ∨ s.twin.st = .trail) →
      ∃ t, exec .heartbeatLost s = .next t ∧ t.twin = { s.twin with hb := false, session := false, st := .solo } ∧ t.wires = s.wires ++ [0x521])
  ∧ (∀ (s : State),
      s.twin.hb = true → s.beats = false → s.twin.pinFault = false →
      exec .heartbeatLost s = .next (s.updTwin (fun t => { t with hb := false })))
  ∧ (∀ (s : State),
      s.twin.st = .joining → s.twin.hb = false →
      exec .joiningTimeout s = .next (s.updTwin (fun t => { t with st := .solo, lead := !s.straps.twinSide })))
  ∧ (∀ (s : State),
      s.faults.silent = false →
      exec .beatSend s = .next (s.emit (.alert .beat)))
  ∧ (∀ (s : State) (w : Nat),
      500 ≤ w → w ≤ 2000 →
      exec (.beat w) s = .next (s.updTwin (fun t => { t with beatAt := some s.uptime })))
  ∧ (∀ (s : State) (w : Nat),
      (w < 500 ∨ 2000 < w) →
      exec (.beat w) s = .next (s.updTwin (fun t => { t with oddPulses := t.oddPulses + 1 })))
  ∧ (∀ (s : State) (w : Nat),
      3000 ≤ w → w ≤ 6000 →
      exec (.distress w) s = .next ((s.updTwin (fun t => { t with beatAt := some s.uptime })).raise 0x523))
  ∧ (∀ (s : State) (w : Nat),
      15000 ≤ w → w ≤ 30000 → s.twin.hb = false → s.mayAdopt = true →
      ∃ t, exec (.adoptPulse w) s = .next t ∧ t.twin.st = .adopting ∧ t.twin.adoptCause = 3 ∧ t.adopted = some s.ownNode.twin
        ∧ t.twin.resetDue = (s.partnerReset == 2))
  ∧ (∀ (s : State) (p : Pulse) (l : List Pulse),
      s.twin.copies = p :: l →
      exec .alertRepeat s = .next ((s.emit (.alert p)).updTwin (fun t => { t with copies := l })))
  ∧ (∀ (s : State),
      exec .pinStuck s = .next ((s.updTwin (fun t => { t with pinFault := true })).raise 0x520))
  ∧ (∀ (s : State),
      exec .pinFaultClear s = .next (s.updTwin (fun t => { t with pinFault := false })))
  ∧ (∀ (s : State),
      s.twin.hb = false → s.twin.pinFault = false → s.autoAdopt = true →
      (s.partnerReset = 1 ∨ s.partnerReset = 2) → s.mayAdopt = true → s.pulsedLately = false →
      ∃ t, exec .silentPartner s = .next t ∧ Out.resetOut (fldN (s.reg R.twinPolicy) 39 32) ∈ t.out ∧ t.twin.st = .adopting
        ∧ t.twin.adoptCause = 6 ∧ t.adopted = some s.ownNode.twin)
  ∧ (∀ (s : State),
      s.twin.resetDue = true → s.pulsedLately = false → s.faults.silent = false →
      exec .failSilentResetDelay s = .next ((s.emit (.resetOut (fldN (s.reg R.twinPolicy) 39 32))).updTwin (fun t => { t with resetAt := some s.uptime, resetDue := false })))

/-- An accepted START of TWIN_RESYNC at a leader with an open pair session makes the operation RUNNING in the mode of RESYNC_MODE. When it completes, the leader holds the partner's device-scope values as its shadow, or after a RESTORE keeps its own, SHADOW_VALID is set outside a RESTORE, and a device in RESYNC becomes LEAD; a trailer takes the leader's pair-scope values and becomes TRAIL. A sweep over one pair-scope entry whose copies differ counts a hot mismatch, with its fault source raised, where the partner finds it referenced, and corrects a cold one at the trailer, with no source raised. A mirrored write that is not confirmed in time is waited for no longer, and its keys are left behind. Each twin command that R512's rules and Table TWN-14 do not refuse has its effect: DETACH surrenders, HANDBACK gives the adopted address back and leads, LEAD_SWAP exchanges the roles, ADOPT adopts, PARTNER_RESET drives the reset pin. Messages of the pair session are acted on while it is open. Premise of the correction: values stand in the order of their keys. It concludes exec c s = next t, on conditions on the state and the operands alone, for c = twinResync, resyncComplete, compareSweep, mirrorConfirmTimeout, detach, handback, leadSwap, adopt, partnerReset, mirroredWrite. -/
def Obligations.TwinsStayAlike : Prop :=
  (∀ (s : State) (q : Req) (role : Role),
      s.mayOperate q role R.boolStart 1 3 0 = true → (s.twin.st = .lead ∨ s.twin.st = .adopting) →
      s.twin.session = true → (fldN (s.reg R.resyncMode) 1 0 = 1 → s.twin.partner.map (·.state) = some 6) →
      ∃ t, exec (.twinResync q 1) s = .next t ∧ (t.op 3).st = 2 ∧ t.twin.restore = (fldN (s.reg R.resyncMode) 1 0 == 1) ∧ t.twin.joined = false)
  ∧ (∀ (s : State) (ps ds : List Change),
      s.opActive 3 = true → s.twin.lead = true →
      ∃ t, exec (.resyncComplete ps ds) s = .next t ∧ t.dict = s.dict ∧ (t.op 3).st = 3
        ∧ t.twin = { s.twin with
          gen := (s.twin.gen + 1) % 65536, behind := [], joined := true, restore := false, shadowValid := s.twin.restore.not || s.twin.shadowValid,
          st := if s.twin.st = .resync then .lead else s.twin.st,
          shadow := if s.twin.restore then s.twin.shadow else putKeys [] (ds.filter (fun c => keyScope c.1 = some true)) })
  ∧ (∀ (s : State) (ps ds : List Change),
      s.opActive 3 = true → s.twin.lead = false → s.twin.st = .resync → s.twin.restore = false →
      ∃ t, exec (.resyncComplete ps ds) s = .next t ∧ t.dict = (s.replaceScope false ps).dict ∧ t.twin.st = .trail ∧ t.twin.shadowValid = true ∧ (t.op 3).st = 3)
  ∧ (∀ (s : State) (d : Diff) (r : Reg) (i e : Nat),
      (s.twin.st = .lead ∨ s.twin.st = .trail) → objectOf d.key = some (r, i, e) → d.owner = .pair → d.ref = true →
      mirrorScope r i = some false → s.twin.mirrors = [] →
      sameEntry r (Table.get (keyDefault d.key) s.dict d.key) d.value = false →
      ∃ t, exec (.compareSweep [d]) s = .next t ∧ t.wires = s.wires ++ [0x522]
        ∧ t.twin = { s.twin with hot := min 65535 (s.twin.hot + 1), routeRefs := [], keyRefs := [] })
  ∧ (∀ (s : State) (d : Diff) (r : Reg) (i e : Nat),
      s.twin.st = .trail → objectOf d.key = some (r, i, e) → d.owner = .pair → d.ref = false →
      mirrorScope r i = some false → s.twin.mirrors = [] →
      sameEntry r (Table.get (keyDefault d.key) s.dict d.key) d.value = false →
      s.referenced r i e (Table.get (keyDefault d.key) s.dict d.key) = false → s.referenced r i e d.value = false →
      keyValue d.key d.value = d.value → Table.risingFrom none s.dict = true →
      ∃ t, exec (.compareSweep [d]) s = .next t ∧ t.wires = s.wires ∧ Table.get (keyDefault d.key) t.dict d.key = d.value
        ∧ t.twin = { s.twin with cold := min 65535 (s.twin.cold + 1), routeRefs := [], keyRefs := [] })
  ∧ (∀ (s : State) (m : Mirror) (l : List Mirror),
      s.twin.mirrors = m :: l →
      ∃ t, exec .mirrorConfirmTimeout s = .next t ∧ t.twin.mirrors = l ∧ ∀ c ∈ m.changes, c.1 ∈ t.twin.behind)
  ∧ (∀ (s : State) (q : Req) (role : Role) (v x : Image),
      x = setFld v 3 0 1 → s.mayWrite q role R.twinCtl 0 0 x = true → s.twinBusy 1 = false →
      ∃ t, exec (.detach q v) s = .next t ∧ t.twin.st = .surrendered ∧ t.twin.askCause = 4 ∧ t.ownGone = true)
  ∧ (∀ (s : State) (q : Req) (role : Role) (v x : Image),
      x = setFld v 3 0 2 → s.mayWrite q role R.twinCtl 0 0 x = true → s.twinBusy 2 = false →
      ∃ t, exec (.handback q v) s = .next t ∧ t.adopted = none ∧ t.twin.st = .lead ∧ t.twin.lead = true ∧ t.twin.adoptCause = 0)
  ∧ (∀ (s : State) (q : Req) (role : Role) (v x : Image),
      x = setFld v 3 0 3 → s.mayWrite q role R.twinCtl 0 0 x = true → s.twinBusy 3 = false →
      ∃ t, exec (.leadSwap q v) s = .next t ∧ t.twin.lead = !s.twin.lead ∧ t.twin.st = (if s.twin.st = .lead then TwinSt.trail else .lead))
  ∧ (∀ (s : State) (q : Req) (v x : Image),
      x = setFld v 3 0 4 → s.mayWrite q .installer R.twinCtl 0 0 x = true → s.twinBusy 4 = false →
      ∃ t, exec (.adopt q v) s = .next t ∧ t.twin.st = .adopting ∧ t.twin.lead = true ∧ t.twin.adoptCause = 7 ∧ t.adopted = some s.ownNode.twin)
  ∧ (∀ (s : State) (q : Req) (v x : Image),
      x = setFld v 3 0 5 → s.mayWrite q .installer R.twinCtl 0 0 x = true → s.twinBusy 5 = false →
      s.faults.silent = false →
      ∃ t, exec (.partnerReset q v) s = .next t ∧ Out.resetOut (fldN (s.reg R.twinPolicy) 39 32) ∈ t.out ∧ t.twin = { s.twin with resetAt := some s.uptime })
  ∧ (∀ (s : State) (c : List Change),
      s.twin.session = true → s.serving = true →
      exec (.mirroredWrite (.change true c)) s
          = .next ((s.updTwin (fun t => { t with shadow := putKeys t.shadow (c.filter (fun x => keyScope x.1 = some true)) })).pairSend (.confirm c)))
  ∧ (∀ (s : State),
      s.twin.session = true → s.serving = true →
      exec (.mirroredWrite .behind) s = .next (s.updTwin (fun t => { t with shadowValid := false })))
  ∧ (∀ (s : State),
      s.twin.session = true → s.serving = true →
      exec (.mirroredWrite .leadSwap) s = .next s.swapLead)
  ∧ (∀ (s : State) (c : List Change) (m : Mirror),
      s.twin.session = true → s.serving = true →
      (s.twin.mirrors.find? (fun m => m.passed = false ∧ m.changes = c) = some m) →
      ∃ t, exec (.mirroredWrite (.confirm c)) s = .next t ∧ t.twin.mirrors = s.twin.mirrors.erase m ∧ t.dict = s.dict)
  ∧ (∀ (s : State) (m : PairMsg),
      (s.twin.session = false ∨ s.serving = false) →
      exec (.mirroredWrite m) s = .next s)

/-- An event of an IDLE source that is masked is only counted. One of an unmasked source that merges into no record and fills no squall opens its record at its START rung with one event, a log record beside it, ACTIVE where it may climb on, LATCHED with a surrender where it starts at SURRENDER. An event of an open source that fills no squall adds to its count and moves nothing else; a wire fault does the same with WIRE set, and raises source WIRE. The end of the grace of an ACTIVE source below its limit climbs one rung. A lull closes a HELD record and counts a recovery. A FAULT_ACK holds an ACTIVE source and logs it; of any other it changes nothing of the collectors. A FAULT_CLEAR closes a HELD record without counting a recovery, and changes nothing of an IDLE one. Decisions are taken while both collectors' words come and no disagreement is forced. Premise of the closing by FAULT_CLEAR: sources stand in the order of their numbers. It concludes exec c s = next t, on conditions on the state and the operands alone, for c = faultEvent, squallWindowExpiry, wireFault, graceExpiry, lullExpiry, faultAck, faultClear. -/
def Obligations.FaultsClimbTheLadder : Prop :=
  (∀ (s : State) (n : Nat),
      faultValid n = true → s.wires.contains n = true → (s.src n).st = .idle → rxMask (s.reactionOf n) = true →
      exec (.faultEvent [n]) s = .next ({ s with wires := s.wires.erase n }.countFault n 0))
  ∧ (∀ (s : State) (n : Nat) (r : BitVec 64),
      faultValid n = true → s.wires.contains n = true → r = s.reactionOf n → (s.src n).st = .idle →
      rxMask r = false → s.mergeTarget n [] = none →
      (rxSquallN r = 0 ∨ (s.src n).window.getD 0 + 1 < rxSquallN r) → rxStart r ≤ 2 → s.decides = true →
      ∃ t, exec (.faultEvent [n]) s = .next t ∧ (t.src n).st = climbing (rxStart r) r ∧ (t.src n).rung = rxStart r ∧ (t.src n).events = 1
        ∧ (t.src n).window = some ((s.src n).window.getD 0 + 1) ∧ t.faults.logSeq = (s.faults.logSeq + 1) % 2 ^ 32)
  ∧ (∀ (s : State) (n : Nat) (r : BitVec 64),
      faultValid n = true → s.wires.contains n = true → r = s.reactionOf n → (s.src n).st = .idle →
      rxMask r = false → s.mergeTarget n [] = none → rxStart r = 3 → s.decides = true →
      ∃ t, exec (.faultEvent [n]) s = .next t ∧ (t.src n).st = .latched ∧ (t.src n).rung = 3 ∧ t.twin.st = .surrendered)
  ∧ (∀ (s : State) (n : Nat),
      faultValid n = true → s.wires.contains n = true → (s.src n).st ≠ .idle → s.decides = true →
      (rxSquallN (s.src n).reaction = 0 ∨ (s.src n).window.getD 0 + 1 < rxSquallN (s.src n).reaction) →
      ∃ t, exec (.faultEvent [n]) s = .next t ∧ t.faults.logSeq = s.faults.logSeq
        ∧ t.src n = { s.src n with window := some ((s.src n).window.getD 0 + 1), events := min (2 ^ 32 - 1) ((s.src n).events + 1) })
  ∧ (∀ (s : State) (n : Nat),
      (s.src n).st ≠ .idle →
      ∃ t, exec (.squallWindowExpiry n) s = .next t ∧ t.src n = { s.src n with window := none })
  ∧ (∀ (s : State) (n : Nat),
      faultValid n = true → s.faults.forcedWires.contains n = false → (s.src n).st ≠ .idle → s.decides = true →
      (rxSquallN (s.src n).reaction = 0 ∨ (s.src n).window.getD 0 + 1 < rxSquallN (s.src n).reaction) →
      ∃ t, exec (.wireFault n) s = .next t ∧ t.wires = s.wires ++ [0x538]
        ∧ t.src n = { s.src n with window := some ((s.src n).window.getD 0 + 1), events := min (2 ^ 32 - 1) ((s.src n).events + 1), wire := true })
  ∧ (∀ (s : State) (n : Nat),
      (s.src n).st = .active → (s.src n).rung < rxLimit (s.src n).reaction → (s.src n).rung < 2 →
      s.decides = true →
      ∃ t, exec (.graceExpiry n) s = .next t ∧ (t.src n).rung = (s.src n).rung + 1 ∧ (t.src n).st = climbing ((s.src n).rung + 1) (s.src n).reaction
        ∧ t.faults.logSeq = (s.faults.logSeq + 1) % 2 ^ 32)
  ∧ (∀ (s : State) (n : Nat),
      (s.src n).st = .held → s.decides = true →
      ∃ t, exec (.lullExpiry n) s = .next t ∧ t.src n = { window := (s.src n).window, recoveries := min (2 ^ 32 - 1) ((s.src n).recoveries + 1) })
  ∧ (∀ (s : State) (q : Req) (role : Role) (v : Image) (n : Nat),
      s.mayWrite q role R.faultAck 0 0 v = true → n = fldN v 10 0 → faultValid n = true → (s.src n).st = .active →
      s.decides = true →
      ∃ t, exec (.faultAck q v) s = .next t ∧ t.src n = { s.src n with st := .held } ∧ t.faults.logSeq = (s.faults.logSeq + 1) % 2 ^ 32)
  ∧ (∀ (s : State) (q : Req) (role : Role) (v : Image) (n : Nat),
      s.mayWrite q role R.faultAck 0 0 v = true → n = fldN v 10 0 → faultValid n = true → (s.src n).st ≠ .active →
      ∃ t, exec (.faultAck q v) s = .next t ∧ t.faults = s.faults)
  ∧ (∀ (s : State) (q : Req) (role : Role) (v : Image) (n : Nat),
      s.mayWrite q role R.faultClear 0 0 v = true → n = fldN v 10 0 → faultValid n = true → (s.src n).st = .held →
      s.decides = true → Table.risingFrom none s.faults.srcs = true →
      ∃ t, exec (.faultClear q v) s = .next t ∧ t.src n = { window := (s.src n).window, recoveries := (s.src n).recoveries }
        ∧ t.faults.logSeq = (s.faults.logSeq + 1) % 2 ^ 32)
  ∧ (∀ (s : State) (q : Req) (role : Role) (v : Image) (n : Nat),
      s.mayWrite q role R.faultClear 0 0 v = true → n = fldN v 10 0 → faultValid n = true → (s.src n).st = .idle →
      ∃ t, exec (.faultClear q v) s = .next t ∧ t.faults = s.faults)

/-- An accepted FORCE_EVENTS puts its COUNT of events of a source among those forced, FORCE_WIRE one wire fault, FORCE_DISAGREE has collector B's next word altered, and nothing else of the collectors changes. Where the words of a decision differ, or a collector withholds one, a device that was not silent falls silent for that cause, having surrendered, with its ports' roles no longer acted on and COLLECTORS_AGREE 0; in fail silent ADOPT pulses go on. A write of the controller's heartbeat begins its count anew; a miss counts one more, and the one that reaches MC_HB_MISS raises its source. A discard notice ends the operation whose message its header names. It concludes exec c s = next t, on conditions on the state and the operands alone, for c = forceEvents, forceWire, forceDisagree, decisionDisagree, decisionWordTimeout, collectorEccError, failSilentAdoptPulse, mcHeartbeatWrite, mcHeartbeatMiss, discardNoticeReceive. -/
def Obligations.FailSilentForcesAndTheWatch : Prop :=
  (∀ (s : State) (q : Req) (role : Role) (v x : Image) (n : Nat) (r : BitVec 64),
      x = setFld v 31 30 1 → s.mayWrite q role R.faultForce 0 0 x = true → n = fldN x 10 0 → faultValid n = true →
      fldN x 29 22 ≠ 0 → r = (s.reg R.faultReaction 0 n).extractLsb' 0 64 →
      (role = .installer ∨ (rxStart r < 3 ∧ rxLimit r < 3 ∧ rxSquall r < 3)) →
      ∃ t, exec (.forceEvents q v) s = .next t ∧ t.faults = { s.faults with forced := s.faults.forced ++ List.replicate (fldN x 29 22) n })
  ∧ (∀ (s : State) (q : Req) (role : Role) (v x : Image) (n : Nat) (r : BitVec 64),
      x = setFld v 31 30 2 → s.mayWrite q role R.faultForce 0 0 x = true → n = fldN x 10 0 → faultValid n = true →
      r = (s.reg R.faultReaction 0 n).extractLsb' 0 64 →
      (role = .installer ∨ (rxStart r < 3 ∧ rxLimit r < 3 ∧ rxSquall r < 3)) →
      ∃ t, exec (.forceWire q v) s = .next t ∧ t.faults = { s.faults with forcedWires := s.faults.forcedWires ++ [n] })
  ∧ (∀ (s : State) (q : Req) (v x : Image),
      x = setFld v 31 30 3 → s.mayWrite q .installer R.faultForce 0 0 x = true → faultValid (fldN x 10 0) = true →
      s.mgmt.lifecycle = .install →
      ∃ t, exec (.forceDisagree q v) s = .next t ∧ t.faults = { s.faults with alter := true })
  ∧ (∀ (s : State),
      s.faults.silent = false →
      ∃ t, exec .decisionDisagree s = .next t ∧ t.faults.silent = true ∧ t.faults.silentCause = (if s.faults.alter then 5 else 1)
        ∧ t.faults.agree = false ∧ t.faults.alter = false ∧ t.twin.st = .surrendered ∧ t.rolesOn = false)
  ∧ (∀ (s : State) (b : Bool),
      s.faults.silent = false →
      ∃ t, exec (.decisionWordTimeout b) s = .next t ∧ t.faults.silent = true ∧ t.faults.silentCause = (if b then 3 else 2)
        ∧ t.faults.agree = false ∧ (if b then t.faults.bOk else t.faults.aOk) = false ∧ t.twin.st = .surrendered ∧ t.rolesOn = false)
  ∧ (∀ (s : State) (b : Bool),
      s.faults.silent = false →
      ∃ t, exec (.collectorEccError b) s = .next t ∧ t.faults.silent = true ∧ t.faults.silentCause = (if b then 3 else 2)
        ∧ t.faults.agree = false ∧ (if b then t.faults.bOk else t.faults.aOk) = false ∧ t.twin.st = .surrendered ∧ t.rolesOn = false)
  ∧ (∀ (s : State),
      s.faults.silent = true →
      exec .failSilentAdoptPulse s = .next (s.emit (.alert .adopt)))
  ∧ (∀ (s : State),
      exec .mcHeartbeatWrite s = .next ((s.updFaults (fun f => { f with mcMissed := 0 })).updMgmt (fun m => { m with stopped := false })))
  ∧ (∀ (s : State) (n : Nat),
      s.faults.mcArmed = true → n = s.faults.mcMissed + 1 →
      ∃ t, exec .mcHeartbeatMiss s = .next t ∧ t.faults = { s.faults with mcMissed := n } ∧ t.mgmt = { s.mgmt with stopped := true }
        ∧ t.wires = (if n = fldN (s.reg R.faultCtl) 23 20 then s.wires ++ [0x532] else s.wires))
  ∧ (∀ (s : State) (a : Arrived) (h : Header) (p : Peer) (u : Unacked),
      s.mcRuns = true → s.arrival mcStop 0x08 = some a →
      h = Header.ofBits (BitVec.ofNat 256 (natOfBytes (a.pkt.payload.take 32))) →
      fldN a.pkt.hdr.ext 7 0 ∈ [1, 2, 3, 4, 5] → (h.cmd = 0x10 ∨ h.cmd = 0x11) →
      s.peer { station := h.srcStation.toNat, node := h.dstNode.toNat, remote := h.dstStation.toNat } = some p →
      (p.send h.cls.toNat).unacked.find? (fun u => u.num = h.msgId.toNat) = some u → u.ended = false →
      ∃ t, exec .discardNoticeReceive s = .next t ∧ t.arrived = s.arrived.erase a ∧ t.recvEntry u.wq u.pos = none)

/-- The end of an AVS window reports its rate; while control is off or a pace interval has touched the window it does no more. A rate below 1.01 times TARGET raises the request by one step within VMIN and VMAX when the last change is at least 1 ms old and no transaction has failed; the tenth window in a row above 1.04 times TARGET lowers it. A retry that succeeds within four tries ends the AVS fault; four failures keep it and count an error. A barometer crossing outside an interval starts one at 85 or 70 per cent and raises PACE; each release of quiet goes one step back, the last one ends the interval. A sample at TJ_ALARM raises THERMAL once; one at TJ_TRIP resets the device, and a sample 20 degrees below releases it. Lost lane clocks take the lock of every lane they drive; a lost host clock takes the host's link down; a lost timebase clock leads to HOLDOVER and its return to ACQUIRING. It concludes exec c s = next t, on conditions on the state and the operands alone, for c = avsWindow, avsRetry, barometerCrossing, paceRelease, thermalSample, refclkLoss, refclkReturn. -/
def Obligations.VoltagePaceAndTemperature : Prop :=
  (∀ (s : State) (rate fails : Nat) (rb : BitVec 8),
      s.boot ≠ .held → (bit (s.reg R.avsCtl) 31 = false ∨ s.power.touched = true ∨ s.power.pace < 100) →
      exec (.avsWindow rate fails rb) s = .next (s.updPower (fun p => { p with
          now := rate, low := some (match p.low with | some l => min l rate | none => rate), touched := decide (p.pace < 100) })))
  ∧ (∀ (s : State) (rate fails : Nat) (rb : BitVec 8) (c : Image),
      s.boot ≠ .held → c = s.reg R.avsCtl → bit c 31 = true → s.power.touched = false → 100 ≤ s.power.pace →
      s.power.avsFault = false → (∀ t ∈ s.power.changedAt, 125000 ≤ s.uptime - t) →
      100 * rate < 101 * fldN c 30 20 → s.power.request < fldN c 15 8 → fails < 4 →
      ∃ t, exec (.avsWindow rate fails rb) s = .next t ∧ t.power.request = max (fldN c 7 0) (min (fldN c 15 8) (s.power.request + 1))
        ∧ t.power.readback = rb.toNat ∧ t.power.avsFault = false ∧ t.power.changedAt = some s.uptime
        ∧ Out.avs (600 + 5 * max (fldN c 7 0) (min (fldN c 15 8) (s.power.request + 1))) ∈ t.out)
  ∧ (∀ (s : State) (rate fails : Nat) (rb : BitVec 8) (c : Image),
      s.boot ≠ .held → c = s.reg R.avsCtl → bit c 31 = true → s.power.touched = false → 100 ≤ s.power.pace →
      s.power.avsFault = false → (∀ t ∈ s.power.changedAt, 125000 ≤ s.uptime - t) →
      104 * fldN c 30 20 < 100 * rate → s.power.above = 9 → fldN c 7 0 < s.power.request → fails < 4 →
      ∃ t, exec (.avsWindow rate fails rb) s = .next t ∧ t.power.request = max (fldN c 7 0) (min (fldN c 15 8) (s.power.request - 1)) ∧ t.power.above = 0)
  ∧ (∀ (s : State) (fails : Nat) (rb : BitVec 8),
      s.power.avsFault = true → bit (s.reg R.avsCtl) 31 = true →
      ∃ t, exec (.avsRetry fails rb) s = .next t ∧ t.power = (if fails < 4 then { s.power with avsFault := false, readback := rb.toNat }
          else { s.power with errors := min 4095 (s.power.errors + 1) }))
  ∧ (∀ (s : State) (deep : Bool),
      s.boot ≠ .held → s.power.pace = 100 →
      ∃ t, exec (.barometerCrossing deep) s = .next t ∧ t.wires = s.wires ++ [0x539] ∧ t.power = { s.power with
          pace := if deep then 70 else 85, touched := true, paceAt := s.uptime, intervals := min 65535 (s.power.intervals + 1) })
  ∧ (∀ (s : State),
      s.power.pace = 70 →
      exec .paceRelease s = .next (s.updPower (fun p => { p with pace := 85 })))
  ∧ (∀ (s : State),
      s.power.pace = 85 →
      exec .paceRelease s = .next ((s.updPower (fun p => { p with
          pace := 100, longest := max p.longest (min 65535 (8 * (s.uptime - p.paceAt))) })).countDev 2 (8 * (s.uptime - s.power.paceAt))))
  ∧ (∀ (s : State) (c : BitVec 8),
      s.boot ≠ .held → c.toInt < fldN (s.reg R.thermalCtl) 23 16 →
      (fldN (s.reg R.thermalCtl) 15 8 : Int) ≤ c.toInt → s.power.armed = true →
      exec (.thermalSample c) s = .next ((s.updPower (fun p => { p with tj := c, armed := false })).raise 0x53A))
  ∧ (∀ (s : State) (c : BitVec 8),
      s.boot ≠ .held → (fldN (s.reg R.thermalCtl) 23 16 : Int) ≤ c.toInt →
      ∃ t, exec (.thermalSample c) s = .next t ∧ t.boot = .held ∧ t.holds = [5] ∧ t.lastReset = 5 ∧ t.power.tj = c)
  ∧ (∀ (s : State) (c : BitVec 8),
      s.boot = .held → s.holds = [5] → c.toInt ≤ fldN (s.reg R.thermalCtl) 23 16 - 20 →
      ∃ t, exec (.thermalSample c) s = .next t ∧ t.boot = .released ∧ t.holds = [])
  ∧ (∀ (s : State) (k : Nat),
      (∀ i < 12, (s.lane (12 * k + i)).st = .laneUp) →
      ∃ t, exec (.refclkLoss (.lane k)) s = .next t
        ∧ ∀ i < 12, t.lane (12 * k + i) = { s.lane (12 * k + i) with txReady := false, lockLost := true })
  ∧ (∀ (s : State) (k : Nat),
      s.hostRole k = 0 → (s.hport k).perst = false → s.bifurcated k = false →
      ∃ t, exec (.refclkLoss (.host k)) s = .next t ∧ (t.hport k).linkA = { st := 0 } ∧ (t.hport k).perst = false)
  ∧ (∀ (s : State),
      ∃ t, exec (.refclkLoss .time) s = .next t ∧ t.time.refclkLost = true
        ∧ t.time.st = (if s.time.st = .synced ∨ s.time.st = .acquiring then TimeSt.holdover else s.time.st))
  ∧ (∀ (s : State),
      s.time.st = .holdover → (s.timeSource = 2 → (s.link s.timeParent).st = .up) →
      (s.timeSource = 1 → s.time.ppsSeen = true) →
      ∃ t, exec .refclkReturn s = .next t ∧ t.time = { s.time with refclkLost := false, st := .acquiring, good := 0 })

/-- A tick of a device out of reset advances the model's clock by one, and TIME, where it has not to stand still, by 8 ns times 1 + f + p. A follower whose parent's link is UP sends a probe with the next SEQ. A received probe is answered on its link with its SEQ. A reply that matches the last probe ends it and yields OFFSET and DELAY as R623 computes them, with the arrival less the fixed delay of reception. The first PPS edge after TIME_SET steps TIME to its value; loss of PPS leaves SYNCED and ACQUIRING for HOLDOVER at a PPS device. TIME_SET of a FREE device sets TIME at once, where it does not go back; at a PPS device it waits for the edge. The delay of reception is a free value of Config (notes/assumptions/2.md). It concludes exec c s = next t, on conditions on the state and the operands alone, for c = timebaseTick, timeProbeSend, timeProbe, timeReply, ppsEdge, ppsTimeout, timeSet. -/
def Obligations.TimeIsKeptAndSet : Prop :=
  (∀ (s : State),
      s.boot ≠ .held → s.time.hold = 0 →
      ∃ t, exec .timebaseTick s = .next t ∧ t.uptime = s.uptime + 1 ∧ t.timeQ = s.timeQ + (8 * 2 ^ 32 + s.time.f + s.time.p).toNat)
  ∧ (∀ (s : State) (p n : Nat),
      s.timeSource = 2 → p = s.timeParent → (s.link p).st = .up → (s.link p).bypassQ.length < 64 →
      n = (s.time.probeSeq + 1) % 256 →
      ∃ t, exec .timeProbeSend s = .next t ∧ t.time.probe = some (n, none) ∧ (t.link p).bypassQ = (s.link p).bypassQ ++ [BitVec.ofNat 128 (2 + at' 8 n)])
  ∧ (∀ (s : State) (p at_ : Nat) (m : BypassMsg),
      s.oldestBypass 2 = some (p, m, at_) → (s.link p).st = .up → (s.link p).bypassQ.length < 64 →
      ∃ t, exec .timeProbe s = .next t ∧ t.bypassIn = s.bypassIn.erase (p, m, at_)
        ∧ ∃ a : BypassMsg, (t.link p).bypassQ = (s.link p).bypassQ ++ [a] ∧ a.type = 3 ∧ fldN a 15 8 = fldN m 15 8)
  ∧ (∀ (s : State) (n t1 t2 t3 p at_ : Nat) (m : BypassMsg) (a b : Int),
      s.oldestBypass 3 = some (p, m, at_) → s.time.probe = some (n, some t1) → s.timeSource = 2 →
      p = s.timeParent → fldN m 15 8 = n → t2 = fldN m 95 32 * 2 ^ 32 + fldN m 31 16 * 2 ^ 16 →
      t3 = t2 + fldN m 119 96 * 2 ^ 28 → a = t2 - t1 → b = ((at_ - Config.rxDelay p : Nat) : Int) - t3 →
      ∃ t, exec .timeReply s = .next t ∧ t.bypassIn = s.bypassIn.erase (p, m, at_) ∧ t.time.probe = none
        ∧ t.time.offset = (a - b) / 2 - s.asym p ∧ t.time.delay = (a + b) / 2)
  ∧ (∀ (s : State) (v : Nat),
      s.boot ≠ .held → s.timeSource = 1 → s.time.ppsTime = some v → s.timeQ ≤ v * 2 ^ 32 →
      ∃ t, exec .ppsEdge s = .next t ∧ t.timeQ = v * 2 ^ 32 ∧ t.time.ppsTime = none ∧ t.time.ppsSeen = true)
  ∧ (∀ (s : State),
      s.timeSource = 1 → (s.time.st = .synced ∨ s.time.st = .acquiring) →
      exec .ppsTimeout s = .next (s.updTime (fun t => { t with ppsSeen := false, st := .holdover, p := 0, good := 0 })))
  ∧ (∀ (s : State) (q : Req) (role : Role) (v : Image) (n : Nat),
      s.mayWrite q role R.timeSet 0 0 v = true → n = fldN v 63 0 → s.timeSource = 0 → s.timeQ ≤ n * 2 ^ 32 →
      ∃ t, exec (.timeSet q v) s = .next t ∧ t.timeQ = n * 2 ^ 32 ∧ t.time = s.time)
  ∧ (∀ (s : State) (q : Req) (role : Role) (v : Image) (n : Nat),
      s.mayWrite q role R.timeSet 0 0 v = true → n = fldN v 63 0 → s.timeSource = 1 → s.timeQ ≤ n * 2 ^ 32 →
      ∃ t, exec (.timeSet q v) s = .next t ∧ t.timeQ = s.timeQ ∧ t.time = { s.time with ppsTime := some n })

/-- A reset of any kind holds a device that runs, for that cause alone, records the kind, keeps of the dictionary exactly what the caddy keeps, but for RING_CTL, whose rings all come back (R249), and counts itself, a POWER_ON anew from 0; DEV_RESET answers before. No pool waits for its release there, since a reset frees one that does. The release of the last cause releases the device, with the straps of a pin release as sampled. A bank A that passes, where FW_SELECT does not prefer B, runs with the controller's watch armed; where neither bank passes, the device enters recovery mode and surrenders. The end of start-up applies the stored values, takes up the port roles and leaves the device up. Premises of the last: values stand in the order of their keys, and NODE_ADDR's reserved bits are clear. It concludes exec c s = next t, on conditions on the state and the operands alone, for c = devReset, pinReset, powerOnReset, supplyReset, resetRelease, bootFirmwareCheck, startUpEnd. -/
def Obligations.ResetsAndStartUp : Prop :=
  (∀ (s : State) (q : Req) (role : Role),
      s.mayWrite q role R.devReset 0 0 1 = true → s.service.releasing = [] →
      ∃ t, exec (.devReset q 1) s = .next t ∧ t.boot = .held ∧ t.holds = [4] ∧ t.lastReset = 4 ∧ t.resets = min 65535 (s.resets + 1)
        ∧ t.dict.filter (fun e => e.1 != R.ringCtl.key 0 0) = s.dict.filter (fun e => inCaddy e.1 && e.1 != R.ringCtl.key 0 0) ∧ t.active = [] ∧ t.timeQ = 0 ∧ t.mgmt.sessions = [])
  ∧ (∀ (s : State),
      s.boot ≠ .held → s.service.releasing = [] →
      ∃ t, exec .pinReset s = .next t ∧ t.boot = .held ∧ t.holds = [2] ∧ t.lastReset = 2 ∧ t.resets = min 65535 (s.resets + 1)
        ∧ t.dict.filter (fun e => e.1 != R.ringCtl.key 0 0) = s.dict.filter (fun e => inCaddy e.1 && e.1 != R.ringCtl.key 0 0) ∧ t.active = [] ∧ t.timeQ = 0 ∧ t.mgmt.sessions = [] ∧ t.straps = s.straps)
  ∧ (∀ (s : State),
      s.boot ≠ .held → s.service.releasing = [] →
      ∃ t, exec .powerOnReset s = .next t ∧ t.boot = .held ∧ t.holds = [1] ∧ t.lastReset = 1 ∧ t.resets = 0
        ∧ t.dict.filter (fun e => e.1 != R.ringCtl.key 0 0) = s.dict.filter (fun e => inCaddy e.1 && e.1 != R.ringCtl.key 0 0) ∧ t.active = [] ∧ t.timeQ = 0 ∧ t.mgmt.sessions = [])
  ∧ (∀ (s : State),
      s.boot ≠ .held → s.service.releasing = [] →
      ∃ t, exec .supplyReset s = .next t ∧ t.boot = .held ∧ t.holds = [3] ∧ t.lastReset = 3 ∧ t.resets = min 65535 (s.resets + 1)
        ∧ t.dict.filter (fun e => e.1 != R.ringCtl.key 0 0) = s.dict.filter (fun e => inCaddy e.1 && e.1 != R.ringCtl.key 0 0) ∧ t.active = [] ∧ t.timeQ = 0 ∧ t.mgmt.sessions = [])
  ∧ (∀ (s : State) (k : Nat) (side : Bool) (id : BitVec 7),
      s.boot = .held → (k = 1 ∨ k = 2) → s.holds = [k] →
      ∃ t, exec (.resetRelease k side id) s = .next t ∧ t.boot = .released ∧ t.holds = [] ∧ t.straps = { s.straps with twinSide := side, mgmtId := id.toNat })
  ∧ (∀ (s : State) (k : Nat) (side : Bool) (id : BitVec 7),
      s.boot = .held → (k = 3 ∨ k = 4 ∨ k = 6) → s.holds = [k] →
      ∃ t, exec (.resetRelease k side id) s = .next t ∧ t.boot = .released ∧ t.holds = [] ∧ t.straps = s.straps)
  ∧ (∀ (s : State) (bOk : Bool),
      s.boot = .released → s.mgmt.lcPending = none → fldN (s.reg R.fwSelect) 7 0 ≠ 0x0B →
      s.bankPasses s.mgmt.bankA true = true →
      ∃ t, exec (.bootFirmwareCheck true bOk) s = .next t ∧ t.boot = .booted ∧ t.mgmt.runningB = false ∧ t.mgmt.recovery = false
        ∧ t.mgmt.minVersion = max s.mgmt.minVersion s.mgmt.bankA.floor ∧ t.faults.mcArmed = true)
  ∧ (∀ (s : State),
      s.boot = .released →
      ∃ t, exec (.bootFirmwareCheck false false) s = .next t ∧ t.boot = .booted ∧ t.mgmt.recovery = true ∧ t.twin.st = .surrendered)
  ∧ (∀ (s : State),
      s.boot = .booted → s.mgmt.recovery = false → s.mgmt.lifecycle ≠ .retired →
      Table.risingFrom none s.dict = true → keyValue (R.nodeAddr.key 0 0) (s.reg R.nodeAddr) = s.reg R.nodeAddr →
      ∃ t, exec .startUpEnd s = .next t ∧ t.boot = .up ∧ t.rolesOn = true ∧ t.eff R.nodeAddr = s.reg R.nodeAddr ∧ t.reg R.nodeAddr = s.reg R.nodeAddr)

/-- A SNAPSHOT that R638 does not refuse is captured with its answer where its time has come and waits else. When it is taken and the dump area can be written, its record goes there, header, values and trailer, under the next record number, and the snapshot is gone. A COUNTER_WINDOW with a free slot takes its window; an empty one is due at once with values of zero. A stop written on its own ends a window that runs, where its tick has come, with what its events have added up since the start took effect. A pending window whose start tick has come runs, one that runs and whose stop tick has come ends, whether of a counter, a gate override or sampling. The record of an ended window is written as a snapshot's is, and frees the slot. It concludes exec c s = next t, on conditions on the state and the operands alone, for c = snapshot, snapshotCapture, counterWindow, windowStop, timedWindowStart, timedWindowStop, windowRecordWrite. -/
def Obligations.SnapshotsAndCounterWindows : Prop :=
  (∀ (s : State) (q : Req) (role : Role) (v : Image),
      s.mayWrite q role R.snapshot 0 0 v = true → s.snapshotBad v = false → s.counting.snaps.length < 2 →
      fldN v 63 0 / 8 ≤ s.tick →
      ∃ t, exec (.snapshot q v) s = .next t ∧ t.counting = { s.counting with snaps := s.counting.snaps ++
          [{ at_ := fldN v 63 0 / 8, offset := fldN v 95 64, first := fldN v 127 96, count := fldN v 159 128, late := true, captured := some (s.ns, (List.range (fldN v 159 128)).map (fun i => s.counter (fldN v 127 96 + i))) }] })
  ∧ (∀ (s : State) (q : Req) (role : Role) (v : Image),
      s.mayWrite q role R.snapshot 0 0 v = true → s.snapshotBad v = false → s.counting.snaps.length < 2 →
      s.tick < fldN v 63 0 / 8 →
      ∃ t, exec (.snapshot q v) s = .next t ∧ t.counting = { s.counting with snaps := s.counting.snaps ++
          [{ at_ := fldN v 63 0 / 8, offset := fldN v 95 64, first := fldN v 127 96, count := fldN v 159 128 }] })
  ∧ (∀ (s : State) (x : Snapshot) (vs : List (BitVec 64)),
      s.counting.snaps = [x] → x.captured = none → x.at_ ≤ s.tick →
      s.dumpReady x.offset (recordLen x.count) = true →
      vs = (List.range x.count).map (fun i => s.counter (x.first + i)) →
      ∃ t, exec .snapshotCapture s = .next t ∧ t.counting.snaps = [] ∧ t.counting.recSeq = (s.counting.recSeq + 1) % 2 ^ 32
        ∧ ∃ bs, t.host.arb.bursts = s.host.arb.bursts ++ bs ∧ bs.flatMap (fun b => b.data)
          = recordHead s.counting.recSeq 1 (b2n x.late) 0 s.ns s.ns x.first x.count ++ recordValues vs ++ recordTail s.counting.recSeq)
  ∧ (∀ (s : State) (q : Req) (role : Role) (k : Nat) (v : Image) (f : Fdp) (w : Window),
      s.mayWrite q role R.counterWindow 0 k v = true → s.windowBad v = false →
      submitWindow (fldN v 63 0) (fldN v 127 64) s.tick = some (f, w) → f = .ok → fldN v 172 160 ≤ s.storeFree →
      (s.ctrWindow k).win.st = .free → k < s.counting.windows.length →
      ∃ t, exec (.counterWindow q k v) s = .next t
        ∧ t.ctrWindow k = { win := w, first := fldN v 159 128, count := fldN v 172 160, offset := fldN v 223 192 })
  ∧ (∀ (s : State) (q : Req) (role : Role) (k : Nat) (v : Image) (w : Window),
      s.mayWrite q role R.counterWindow 0 k v = true → s.windowBad v = false →
      submitWindow (fldN v 63 0) (fldN v 127 64) s.tick = some (.emptyWindow, w) → fldN v 172 160 ≤ s.storeFree →
      (s.ctrWindow k).win.st = .free → k < s.counting.windows.length →
      ∃ t, exec (.counterWindow q k v) s = .next t ∧ (t.ctrWindow k).win.st = .writing ∧ (t.ctrWindow k).empty = true
        ∧ (t.ctrWindow k).value = List.replicate (fldN v 172 160) 0 ∧ (t.ctrWindow k).tStart = s.ns ∧ (t.ctrWindow k).tEnd = s.ns)
  ∧ (∀ (s : State) (q : Req) (role : Role) (k : Nat) (v : Image) (x : CtrWindow),
      s.mayWrite q role R.windowStop 0 k v = true → x = s.ctrWindow k → x.win.st = .running →
      fldN v 63 0 / 8 ≤ s.tick → k < s.counting.windows.length →
      ∃ t, exec (.windowStop q k v) s = .next t ∧ t.ctrWindow k = { x with
          win := { x.win with st := .writing }, tEnd := s.ns, base := [], value := (List.range x.count).map (fun i => s.totalOf (x.first + i) - nthD 0 x.base i) })
  ∧ (∀ (s : State) (k : Nat) (x : CtrWindow),
      x = s.ctrWindow k → x.win.st = .pending → x.win.start ≤ s.tick → k < s.counting.windows.length →
      ∃ t, exec (.timedWindowStart (.counter k)) s = .next t ∧ t.ctrWindow k = { x with
          win := { x.win with st := .running }, tStart := s.ns, base := (List.range x.count).map (fun i => s.totalOf (x.first + i)) })
  ∧ (∀ (s : State) (p k : Nat),
      k < (s.output p).gate.overrides.length → (nthD {} (s.output p).gate.overrides k).win.st = .pending →
      (nthD {} (s.output p).gate.overrides k).win.start ≤ s.tick →
      ∃ t, exec (.timedWindowStart (.override p k)) s = .next t ∧ (nthD {} (t.output p).gate.overrides k).win.st = .running
        ∧ (t.output p).gate.opened = (t.output p).gate.openAt s.tick)
  ∧ (∀ (s : State),
      s.counting.sampling.win.st = .pending → s.counting.sampling.win.start ≤ s.tick →
      exec (.timedWindowStart .sample) s = .next (s.updSampling (fun x => { x with win := { x.win with st := .running } })))
  ∧ (∀ (s : State) (k : Nat) (x : CtrWindow),
      x = s.ctrWindow k → x.win.ended s.tick = true → k < s.counting.windows.length →
      ∃ t, exec (.timedWindowStop (.counter k)) s = .next t ∧ t.ctrWindow k = { x with
          win := { x.win with st := .writing }, tEnd := s.ns, base := [], value := (List.range x.count).map (fun i => s.totalOf (x.first + i) - nthD 0 x.base i) })
  ∧ (∀ (s : State) (p k : Nat),
      k < (s.output p).gate.overrides.length → (nthD {} (s.output p).gate.overrides k).win.ended s.tick = true →
      Table.risingFrom none s.outputs = true →
      ∃ t, exec (.timedWindowStop (.override p k)) s = .next t ∧ (nthD {} (t.output p).gate.overrides k).win = {})
  ∧ (∀ (s : State) (k : Nat) (x : CtrWindow),
      x = s.ctrWindow k → x.win.st = .writing → s.dumpReady x.offset (recordLen x.count) = true →
      k < s.counting.windows.length →
      ∃ t, exec (.windowRecordWrite k) s = .next t ∧ t.ctrWindow k = {} ∧ t.counting.recSeq = (s.counting.recSeq + 1) % 2 ^ 32
        ∧ ∃ bs, t.host.arb.bursts = s.host.arb.bursts ++ bs ∧ bs.flatMap (fun b => b.data) = recordHead s.counting.recSeq 2
          (b2n x.late + 2 * b2n x.empty) k x.tStart x.tEnd x.first x.value.length ++ recordValues x.value ++ recordTail s.counting.recSeq)

/-- A SAMPLE_CTL write that R642 does not refuse takes its window and its countdown; SAMPLE_STOP ends or shortens it. The oldest finished sampled entry takes the next SEQ where the buffer has room, and is lost, with no SEQ and counted, where it is full. Where a waiting record finds no room as far as CONSUMER tells, the consumer word is asked for once, by one read of 8 bytes. A slice whose records are enabled, that runs and that a host function serves, has a record within one page written under the next record number, addressed as its object says; one that does not run, none. TOKENS, and ENGINE of an entry no engine started, are free values (notes/assumptions/2.md). It concludes exec c s = next t, on conditions on the state and the operands alone, for c = sampleCtl, sampleStop, timedWindowStop, sampleRecord, sampleConsumerRead, sliceCounterRecord. -/
def Obligations.SamplesAndSliceRecords : Prop :=
  (∀ (s : State) (q : Req) (role : Role) (v : Image) (f : Fdp) (w : Window),
      s.mayWrite q role R.sampleCtl 0 0 v = true → s.sampleBad v = false →
      submitWindow (fldN v 63 0) (fldN v 127 64) s.tick = some (f, w) → s.counting.sampling.win.st = .free →
      ∃ t, exec (.sampleCtl q v) s = .next t ∧ t.counting = { s.counting with sampling := { s.counting.sampling with win := w, countdown := fldN v 143 128 + 1 } })
  ∧ (∀ (s : State) (q : Req) (role : Role) (v : Image),
      s.mayWrite q role R.sampleStop 0 0 v = true →
      ∃ t, exec (.sampleStop q v) s = .next t
        ∧ t.counting = { s.counting with sampling := { s.counting.sampling with win := (stopWindow s.counting.sampling.win (fldN v 63 0) s.tick).2 } })
  ∧ (∀ (s : State) (x : Window),
      x = s.counting.sampling.win → x.ended s.tick = true →
      exec (.timedWindowStop .sample) s = .next (s.updSampling (fun x => { x with win := {} })))
  ∧ (∀ (s : State) (d : SampleDue) (ds : List SampleDue),
      s.counting.sampling.due = d :: ds → s.counting.sampling.buffer.length < 1024 →
      ∃ t, exec .sampleRecord s = .next t ∧ t.counting.sampling.due = ds ∧ t.counting.sampling.seq = (s.counting.sampling.seq + 1) % 2 ^ 32
        ∧ t.draws = s.draws + 1 ∧ t.counters = (s.countDev 28).counters)
  ∧ (∀ (s : State) (d : SampleDue) (ds : List SampleDue),
      s.counting.sampling.due = d :: ds → 1024 ≤ s.counting.sampling.buffer.length →
      exec .sampleRecord s = .next (((s.updSampling (fun x => { x with due := ds })).countDev 28).countDev 29))
  ∧ (∀ (s : State),
      s.counting.sampling.buffer ≠ [] → s.sampleRoom = false →
      s.host.reads.all (fun r => r.owner != .sample) = true →
      s.host.arb.bursts.all (fun b => b.owner != .sample) = true →
      s.dumpReady (sampleOffset (s.reg R.sampleCtl) + 64 * sampleSlots (s.reg R.sampleCtl)) 8 = true →
      (s.dumpBase + sampleOffset (s.reg R.sampleCtl)) % 64 = 0 →
      ∃ t, exec .sampleConsumerRead s = .next t ∧ t.counting = s.counting ∧ ∃ b, t.host.arb.bursts = s.host.arb.bursts ++ [b] ∧ b.owner = .sample
        ∧ b.len = 8 ∧ b.data = [] ∧ b.func = s.dumpFunc ∧ b.addr = s.dumpBase + sampleOffset (s.reg R.sampleCtl) + 64 * sampleSlots (s.reg R.sampleCtl))
  ∧ (∀ (s : State) (sl f : Nat),
      bit (s.reg R.sliceCtr sl) 63 = true → (s.slice sl).st ∈ [SliceSt.starting, .running, .recovering, .test] →
      s.inboundFunc sl = some f → f ≠ memFunc → fldN (s.reg R.sliceCtr sl) 11 6 ≤ 59 →
      ∃ t, exec (.sliceCounterRecord sl) s = .next t ∧ t.counting.recSeq = (s.counting.recSeq + 1) % 2 ^ 32
        ∧ ∃ bs, t.host.arb.bursts = s.host.arb.bursts ++ bs ∧ bs.map (fun b => b.addr) = [0, 40, 296].map (64 * fldN (s.reg R.sliceCtr sl) 47 6 + ·)
        ∧ bs.flatMap (fun b => b.data) = recordHead s.counting.recSeq 3 0 sl s.ns s.ns (8000 + 32 * sl) 32
          ++ recordValues ((List.range 32).map (fun i => s.counter (8000 + 32 * sl + i))) ++ recordTail s.counting.recSeq)
  ∧ (∀ (s : State) (sl : Nat),
      (bit (s.reg R.sliceCtr sl) 63 = false ∨ (s.slice sl).st = .stopped ∨ (s.slice sl).st = .halted) →
      exec (.sliceCounterRecord sl) s = .next s)

/-- An accepted START of compaction, scrub or counter clear makes the operation RUNNING; a compaction that is due starts by itself, and when done leaves at least 12 segments free and the records that waited in the log; a scrub counts what it met and raises the sources; a counter clear zeroes every counter, the answer's own event counting after it, and leaves what windows count. FIRMWARE_STAGE names the bank that does not run and makes it invalid; chunks go into its image at their offset; a complete staging that passes makes the bank VALID, one that fails or times out ends FAILED with its code; FW_SELECT selects a valid bank that is not being staged. A ROLE_KEY write clears a slot, and a claim without a session places the first installer's key. An accepted LIFECYCLE_CHANGE is committed and resets the device. Premise of three clauses: values stand in the order of their keys. It concludes exec c s = next t, on conditions on the state and the operands alone, for c = caddyCompact, caddyAutoCompact, caddyCompactDone, controlScrub, scrubAutoStart, controlScrubDone, counterClearAll, firmwareStage, fwChunk, firmwareCheckDone, firmwareStageTimeout, fwSelect, roleKey, lifecycleChange. -/
def Obligations.CaddyFirmwareKeysAndLifeCycle : Prop :=
  (∀ (s : State) (q : Req) (role : Role),
      s.mayOperate q role R.boolStart 1 4 0 = true →
      ∃ t, exec (.caddyCompact q 1) s = .next t ∧ (t.op 4).st = 2 ∧ t.mgmt.segFree = s.mgmt.segFree)
  ∧ (∀ (s : State),
      s.mgmt.segFree < 4 → s.serving = true → s.opBlocked 4 0 = none →
      exec .caddyAutoCompact s = .next (s.opSet 4 0 2))
  ∧ (∀ (s : State) (free : Nat),
      s.opActive 4 = true →
      ∃ t, exec (.caddyCompactDone free) s = .next t ∧ (t.op 4).st = 3 ∧ t.mgmt.segFree = min 33 (max (max s.mgmt.segFree 12) free) ∧ t.faults.waiting = []
        ∧ t.faults.log = s.faults.waiting.foldl (fun l r => Table.set {} l (r.seq % 8192) r) s.faults.log)
  ∧ (∀ (s : State) (q : Req) (role : Role),
      s.mayOperate q role R.boolStart 1 8 0 = true →
      ∃ t, exec (.controlScrub q 1) s = .next t ∧ (t.op 8).st = 2)
  ∧ (∀ (s : State),
      fldN (s.reg R.scrubCtl) 15 0 ≠ 0 → s.serving = true → s.opBlocked 8 0 = none →
      exec .scrubAutoStart s = .next (s.opSet 8 0 2))
  ∧ (∀ (s : State) (n : Nat) (bad : List Nat),
      s.opActive 8 = true →
      ∃ t, exec (.controlScrubDone n bad) s = .next t ∧ (t.op 8).st = 3 ∧ t.wires = s.wires ++ bad ∧ t.counters = ((s.countDev 17 n).countDev 18 bad.length).counters)
  ∧ (∀ (s : State) (q : Req) (role : Role),
      s.mayOperate q role R.boolStart 1 9 0 = true →
      ∃ t, exec (.counterClearAll q 1) s = .next t ∧ (t.op 9).st = 3 ∧ t.counters = ({ s with counters := [] }.countDev 9).counters
        ∧ t.totals = (s.countDev 9).totals ∧ t.counting = s.counting)
  ∧ (∀ (s : State) (q : Req) (role : Role) (hdr : List Byte) (b : Bool),
      s.mayWrite q role R.fwStageStart 0 0 0 = true → s.opBlocked 5 0 = none → hdr.length = 160 →
      natOfBytes ((hdr.drop 12).take 4) = 0 → 0 < natOfBytes (hdr.take 4) → natOfBytes (hdr.take 4) ≤ 4190208 →
      b = !s.mgmt.runningB →
      ∃ t, exec (.firmwareStage q hdr) s = .next t ∧ (t.op 5).st = 2 ∧ (t.mgmt.bank b).valid = false ∧ t.mgmt.bank (!b) = s.mgmt.bank (!b)
        ∧ t.mgmt.staging = some { bankB := b, length := natOfBytes (hdr.take 4), version := natOfBytes ((hdr.drop 4).take 4), floor := natOfBytes ((hdr.drop 8).take 4), hash := BitVec.ofNat 384 (natOfBytes ((hdr.drop 16).take 48)) })
  ∧ (∀ (s : State) (q : Req) (role : Role) (body : List Byte) (g : Staging) (off : Nat),
      s.mayWrite q role R.fwChunk 0 0 0 = true → s.mgmt.staging = some g → off = natOfBytes (body.take 4) →
      5 ≤ body.length → body.length ≤ 4068 → off + (body.length - 4) ≤ g.length →
      ∃ t, exec (.fwChunk q body) s = .next t ∧ t.mgmt.staging = some { g with written := addSpan g.written (off, off + (body.drop 4).length) }
        ∧ t.mgmt.bank g.bankB = { s.mgmt.bank g.bankB with image := (s.mgmt.bank g.bankB).image.writeAll off (body.drop 4) } ∧ t.mgmt.bank (!g.bankB) = s.mgmt.bank (!g.bankB))
  ∧ (∀ (s : State) (g : Staging),
      s.mgmt.staging = some g → g.complete = true → s.mgmt.minVersion ≤ g.version → s.opActive 5 = true →
      ∃ t, exec (.firmwareCheckDone .passed) s = .next t ∧ t.mgmt.staging = none ∧ (t.op 5).st = 3
        ∧ t.mgmt.bank g.bankB = { s.mgmt.bank g.bankB with valid := true, version := g.version, floor := g.floor, length := g.length })
  ∧ (∀ (s : State) (g : Staging) (c : FwCheck) (k : Nat),
      s.mgmt.staging = some g → g.complete = true →
      (c, k) ∈ [(FwCheck.length, 1), (.hash, 2), (.signature, 3), (.caddy, 6)] → s.opActive 5 = true →
      ∃ t, exec (.firmwareCheckDone c) s = .next t ∧ t.mgmt.staging = none ∧ (t.op 5).st = 4 ∧ (t.op 5).fail = k ∧ t.mgmt.bank g.bankB = s.mgmt.bank g.bankB)
  ∧ (∀ (s : State) (g : Staging),
      s.mgmt.staging = some g → g.complete = false → s.opActive 5 = true →
      ∃ t, exec .firmwareStageTimeout s = .next t ∧ t.mgmt.staging = none ∧ (t.op 5).st = 4 ∧ (t.op 5).fail = 5)
  ∧ (∀ (s : State) (q : Req) (role : Role) (v : Image),
      s.mayWrite q role R.fwSelect 0 0 v = true → (v = 0x0A ∨ v = 0x0B) → (s.mgmt.bank (v == 0x0B)).valid = true →
      (∀ g ∈ s.mgmt.staging, g.bankB ≠ (v == 0x0B)) → Table.risingFrom none s.dict = true →
      ∃ t, exec (.fwSelect q v) s = .next t ∧ fldN (t.reg R.fwSelect) 7 0 = v.toNat)
  ∧ (∀ (s : State) (q : Req) (n : Nat),
      s.mayWrite q .installer R.roleKey 0 n 0 = true → s.mayClaim q n = false → n ≠ 0 →
      s.installersWith n 0 = true → Table.risingFrom none s.dict = true →
      ∃ t, exec (.roleKey q n 0) s = .next t ∧ bit (t.reg R.roleKey 0 n) 0 = false)
  ∧ (∀ (s : State) (q : Req) (n : Nat) (v : Image),
      s.mayClaim q n = true → s.serving = true → s.pathOpen q.path = true → q.full = false →
      s.mgmt.recovery = false → s.mgmt.lifecycle ≠ .retired → v.toNat < 2 ^ 800 → q.odd = false →
      R.roleKey.reservedSet v = false → bit v 0 = true → keyOk (v.extractLsb' 32 768) = true →
      s.auditFull = false → q.caddyOk = true →
      ∃ t, exec (.roleKey q n v) s = .next t ∧ t.reg R.roleKey 0 n = v)
  ∧ (∀ (s : State) (q : Req) (role : Role) (body : List Byte) (x : LifeCycle) (key : BitVec 768),
      s.atDoor q role = true → R.lifecycleStart.writable 0 role ≠ 0 → s.lifeForbids role = false →
      body.length = 112 → q.odd = false → q.entry = 0 → q.count = 0 →
      lifeMove s.mgmt.lifecycle (natOfBytes (body.take 1)) role = some (x, true) →
      natOfBytes ((body.drop 1).take 7) = 0 → natOfBytes ((body.drop 8).take 8) = s.straps.deviceId.toNat →
      key = BitVec.ofNat 768 (natOfBytes ((body.drop 16).take 96)) → (key = 0 ∨ keyOk key = true) →
      s.opBlocked 10 0 = none →
      (x = .retired ∨ s.mgmt.lifecycle = .maker ∨ (s.tenantsStopped = true ∧ s.twin.st ≠ .adopting)) →
      q.caddyOk = true →
      ∃ t, exec (.lifecycleChange q body) s = .next t ∧ t.mgmt.lcPending = some (x, key) ∧ t.mgmt.lifecycle = s.mgmt.lifecycle
        ∧ t.boot = .held ∧ t.holds = [6] ∧ t.lastReset = 6 ∧ t.mgmt.sessions = [])

/-- IDENTIFY is answered OK with the part's identity. An OPEN that names a key slot of its role takes the lowest free session slot and is answered with a challenge that only the count of draws names; an AUTH whose signature verifies opens the session with LAST 0, one whose does not frees the slot and counts against its path; CLOSE, the AUTH timeout and the idle expiry free the slot, a lockout ends. A READ of one value is answered OK with the bytes of the value, INFO with the object's descriptor. A WRITE of NODE_ADDR stores its value, which governs from the next reset. CAN_RECOVER starts recovery in BUS_OFF without AUTO_RECOVER. The challenge itself is a free value of Config (notes/assumptions/2.md). Premise of four clauses: sessions, or values, stand in the order of their keys. It concludes exec c s = next t, on conditions on the state and the operands alone, for c = fdpIdentify, fdpOpen, fdpAuth, fdpClose, authTimeout, authLockoutExpiry, sessionIdleExpiry, fdpRead, fdpInfo, fdpWrite, canRecover. -/
def Obligations.SessionsAndServices : Prop :=
  (∀ (s : State) (q : Req),
      s.serving = true → s.pathOpen q.path = true → q.path ≠ .pair → q.odd = false → q.full = false →
      ∃ t, exec (.fdpIdentify q) s = .next t ∧ t.mgmt.sessions = s.mgmt.sessions
        ∧ ∃ r, Out.fdp q.path r ∈ t.out ∧ r.status = .ok ∧ r.body = s.identity ∧ r.seq = q.seq)
  ∧ (∀ (s : State) (q : Req) (role slot : Byte) (nonce : BitVec 384) (n : Nat),
      s.serving = true → s.pathOpen q.path = true → q.path ≠ .pair → q.odd = false → q.full = false →
      s.slotHolds (roleOf role) slot.toNat = true → s.mayOpen (roleOf role) = true → s.freeSession = some n →
      s.mgmt.locked.contains q.path = false →
      ∃ t, exec (.fdpOpen q role slot nonce) s = .next t ∧ t.draws = s.draws + 1
        ∧ t.sess n = { st := .opening, role := roleOf role, keySlot := slot.toNat, path := q.path, challenge := s.draws, nonce := nonce }
        ∧ ∃ r, Out.fdp q.path r ∈ t.out ∧ r.status = .ok ∧ r.session = n ∧ r.body = bytesOf (Config.challenge s.draws) 48)
  ∧ (∀ (s : State) (q : Req) (x : Session),
      x = s.sess q.session → x.st = .opening → x.path = q.path → s.serving = true → s.pathOpen q.path = true →
      q.seq = 0 → s.slotHolds x.role x.keySlot = true → s.mayOpen x.role = true → q.odd = false → q.full = false →
      ∃ t, exec (.fdpAuth q true) s = .next t ∧ (t.sess q.session).st = .opened ∧ (t.sess q.session).role = x.role ∧ (t.sess q.session).last = 0)
  ∧ (∀ (s : State) (q : Req) (x : Session),
      x = s.sess q.session → x.st = .opening → x.path = q.path → s.serving = true → s.pathOpen q.path = true →
      Table.risingFrom none s.mgmt.sessions = true →
      ∃ t, exec (.fdpAuth q false) s = .next t ∧ t.sess q.session = {} ∧ t.fails q.path = s.fails q.path + 1
        ∧ (16 ≤ s.fails q.path + 1 → q.path ∈ t.mgmt.locked))
  ∧ (∀ (s : State) (q : Req) (role : Role),
      s.atDoor q role = true → q.odd = false → Table.risingFrom none s.mgmt.sessions = true →
      ∃ t, exec (.fdpClose q) s = .next t ∧ t.sess q.session = {})
  ∧ (∀ (s : State) (n : Nat),
      (s.sess n).st = .opening →
      exec (.authTimeout n) s = .next (s.setSess n {}))
  ∧ (∀ (s : State) (p : Path),
      exec (.authLockoutExpiry p) s = .next (s.updMgmt (fun m => { m with locked := m.locked.filter (· ≠ p) })))
  ∧ (∀ (s : State) (n : Nat),
      (s.sess n).st = .opened → (s.sess n).executing = false → Table.risingFrom none s.mgmt.sessions = true →
      ∃ t, exec (.sessionIdleExpiry n) s = .next t ∧ t.sess n = {} ∧ t.dict = s.dict ∧ t.out = s.out)
  ∧ (∀ (s : State) (q : Req) (role : Role) (obj sub i e : Nat) (r : Reg),
      s.atDoor q role = true → q.odd = false → sub ≠ 0 → findObject obj sub = some (r, i, e) → r.entries = 0 →
      r.emptyRead = false →
      ∃ t, exec (.fdpRead q obj sub 0 0) s = .next t
        ∧ ∃ a, Out.fdp q.path a ∈ t.out ∧ a.status = .ok ∧ a.index = obj ∧ a.sub = sub ∧ a.body = s.readBytes r i e 1)
  ∧ (∀ (s : State) (q : Req) (role : Role) (obj sub i e : Nat) (r : Reg),
      s.atDoor q role = true → q.odd = false → sub ≠ 0 → findObject obj sub = some (r, i, e) →
      ∃ t, exec (.fdpInfo q obj sub) s = .next t
        ∧ ∃ a, Out.fdp q.path a ∈ t.out ∧ a.status = .ok ∧ a.index = obj ∧ a.sub = sub ∧ a.body = s.descriptor r i e)
  ∧ (∀ (s : State) (q : Req) (role : Role) (body : List Byte) (v : Image),
      body.length = 4 → v = BitVec.ofNat 1024 (natOfBytes body) → s.mayWrite q role R.nodeAddr 0 0 v = true →
      (objectRule R.nodeAddr q 0 0 (s.reg R.nodeAddr) v).chk s = none → Table.risingFrom none s.dict = true →
      ∃ t, exec (.fdpWrite q 0x1002 1 0 0 body) s = .next t ∧ t.reg R.nodeAddr = R.nodeAddr.merge (s.reg R.nodeAddr) v ∧ t.active = s.active)
  ∧ (∀ (s : State) (q : Req) (role : Role),
      s.mayWrite q role R.canRecover 0 0 1 = true → s.mgmt.can.st = .busOff → bit (s.eff R.canCtl) 11 = false →
      ∃ t, exec (.canRecover q 1) s = .next t ∧ t.mgmt.can.recovering = true ∧ t.mgmt.can.st = .busOff)

/-- A frame that the device does not take is counted where it is an FD frame and ignored else, but for the count of errors that a good frame lowers; a request in one segment goes to the server, the first of several begins a partial message, the next goes on with it, and a timeout discards it and counts. A waiting distress frame goes out before any message; a message goes out by segments in order. Errors add to the counts of ISO 11898-1 and set the state; recovery from BUS_OFF clears them. A control delivery that no queue takes is discarded and counted; one that a queue takes, where the ring is reached with its own addresses, is written, counted as delivered and completed. An edge of the test port moves its controller as IEEE 1149.1 says, shifts its data register, and takes an instruction at Update-IR; TRST_N resets it. The error counts are the model's reading of ISO 11898-1 (PRESUMED, notes/assumptions/52.md). It concludes exec c s = next t, on conditions on the state and the operands alone, for c = canFrameReceive, canReassemblyTimeout, canFrameTransmit, canBusError, busOffRecovery, controlDelivery, testAccessPort. -/
def Obligations.TheManagementBusDeliveriesAndTheTestPort : Prop :=
  (∀ (s u : State) (id : BitVec 29) (data : List Byte),
      s.boot ≠ .held → s.canSt ≠ .busOff → u = (if s.canSt = .monitor then s else s.canRxOk) →
      s.canIgnores id = true →
      exec (.canFrameReceive true id data) s = .next (u.countDev 6))
  ∧ (∀ (s u : State) (id : BitVec 29) (data : List Byte),
      s.boot ≠ .held → s.canSt ≠ .busOff → u = (if s.canSt = .monitor then s else s.canRxOk) →
      exec (.canFrameReceive false id data) s = .next u)
  ∧ (∀ (s : State) (id : BitVec 29) (data msg : List Byte) (n src : Nat),
      s.boot ≠ .held → s.canSt ≠ .busOff → s.canIgnores id = false → nthD 0 data 0 = 0xC0 → nthD 0 data 1 = 0 →
      src = fldN id 17 11 → s.mgmt.can.reasm.length < 8 → n = 24 + natOfBytes (((data.drop 2).drop 14).take 2) →
      n ≤ 4096 → msg = (data.drop 2).take n → fdpMalformed msg = false → nthD 0 msg 0 = 0x10 →
      ∃ t, exec (.canFrameReceive true id data) s = .next t ∧ t.mgmt.inbox = s.mgmt.inbox ++ [(src, msg)]
        ∧ t.mgmt.can.reasm = s.mgmt.can.reasm.filter (fun r => r.src ≠ src))
  ∧ (∀ (s : State) (id : BitVec 29) (data : List Byte) (src : Nat),
      s.boot ≠ .held → s.canSt ≠ .busOff → s.canIgnores id = false → nthD 0 data 0 = 0x80 → nthD 0 data 1 = 0 →
      src = fldN id 17 11 → s.mgmt.can.reasm.length < 8 →
      ∃ t, exec (.canFrameReceive true id data) s = .next t ∧ t.mgmt.inbox = s.mgmt.inbox
        ∧ t.mgmt.can.reasm = s.mgmt.can.reasm.filter (fun r => r.src ≠ src) ++ [{ src := src, next := 1, bytes := data.drop 2 }])
  ∧ (∀ (s : State) (id : BitVec 29) (data : List Byte) (src : Nat) (r : Reassembly),
      s.boot ≠ .held → s.canSt ≠ .busOff → s.canIgnores id = false → nthD 0 data 0 = 0 → src = fldN id 17 11 →
      s.mgmt.can.reasm.find? (fun r => r.src = src) = some r → (nthD 0 data 1).toNat = r.next → r.next ≤ 66 →
      ∃ t, exec (.canFrameReceive true id data) s = .next t ∧ t.mgmt.inbox = s.mgmt.inbox
        ∧ t.mgmt.can.reasm = s.mgmt.can.reasm.filter (fun r => r.src ≠ src) ++ [{ src := src, next := r.next + 1, bytes := r.bytes ++ data.drop 2 }])
  ∧ (∀ (s : State) (src : Nat),
      s.mgmt.can.reasm.any (fun r => r.src == src) = true →
      exec (.canReassemblyTimeout src) s = .next ((s.updCan (fun c => { c with reasm := c.reasm.filter (fun r => r.src ≠ src) })).countDev 7))
  ∧ (∀ (s : State) (d : Distress),
      s.boot ≠ .held → s.canSt ≠ .busOff → s.canSt ≠ .monitor → s.mgmt.can.distress = some d →
      ∃ t, exec .canFrameTransmit s = .next t ∧ t.out = .canFrame (s.canId 0 0) d.bytes :: s.out ∧ t.mgmt.can.distress = none
        ∧ t.mgmt.can.txq.map (fun m => m.bytes) = s.mgmt.can.txq.map (fun m => m.bytes) ∧ t.mgmt.can.distressSent = min 65535 (s.mgmt.can.distressSent + 1))
  ∧ (∀ (s : State) (m : CanMsg) (l : List CanMsg),
      s.boot ≠ .held → s.canSt ≠ .busOff → s.canSt ≠ .monitor → s.mgmt.can.distress = none →
      s.mgmt.can.txq = m :: l → s.mgmt.can.txErr ≤ 256 →
      ∃ t, exec .canFrameTransmit s = .next t ∧ t.out = .canFrame (s.canId m.kind m.dest) m.frame :: s.out
        ∧ t.mgmt.can.txq = (if 62 * (m.sent + 1) < m.bytes.length then { m with sent := m.sent + 1 } :: l else l))
  ∧ (∀ (s : State) (e : CanErr) (a b : Nat),
      s.boot ≠ .held → s.canSt ≠ .busOff → s.canSt ≠ .monitor →
      (e, a, b) ∈ [(CanErr.transmitter, min 511 (s.mgmt.can.txErr + 8), s.mgmt.can.rxErr), (.receiver, s.mgmt.can.txErr, min 255 (s.mgmt.can.rxErr + 1)), (.receiverDominant, s.mgmt.can.txErr, min 255 (s.mgmt.can.rxErr + 8))] →
      ∃ t, exec (.canBusError e) s = .next t ∧ t.mgmt.can.txErr = a ∧ t.mgmt.can.rxErr = b
        ∧ t.mgmt.can.st = (if 255 < a then CanSt.busOff else if 127 < a ∨ 127 < b then .errorPassive else .errorActive))
  ∧ (∀ (s : State),
      s.mgmt.can.st = .busOff → (bit (s.eff R.canCtl) 11 = true ∨ s.mgmt.can.recovering = true) →
      exec .busOffRecovery s = .next (s.updCan (fun c => { c with st := .errorActive, txErr := 0, rxErr := 0, recovering := false })))
  ∧ (∀ (s : State) (st : Nat) (a : Arrived),
      (s.arrived.find? (fun a => a.stop = st ∧ deliveryCmd a.pkt.hdr.cmd.toNat ∧ s.released a.hold) = some a) →
      s.ctlQueue a.pkt.hdr = none →
      exec (.controlDelivery st) s = .next ((s.takeArrival a).countDev 31))
  ∧ (∀ (s : State) (st n f : Nat) (a : Arrived) (q : Cq),
      (s.arrived.find? (fun a => a.stop = st ∧ deliveryCmd a.pkt.hdr.cmd.toNat ∧ s.released a.hold) = some a) →
      s.ctlQueue a.pkt.hdr = some (n, q) → s.inboundFunc 0 = some f → s.bypass 0 = true →
      a.pkt.payload.length ≤ 4096 → q.held = [] → posDiff q.wpos q.consumer < 2 ^ q.log →
      s.writable q.slice = true →
      ∃ t, exec (.controlDelivery st) s = .next t ∧ t.arrived = s.arrived.erase a ∧ t.mgmt.delivered = s.mgmt.delivered + 1
        ∧ t.mgmt.deliveredAt = s.ctlAwaiting q ++ [q.written] ∧ ∃ q', t.cq n = some q' ∧ q'.written = q.written + 1 ∧ q'.wpos = posAdd q.wpos 1)
  ∧ (∀ (s : State) (tms tdi : Bool) (i : TapInstr),
      exec (.testAccessPort false tms tdi i) s = .next { s with tap := {} })
  ∧ (∀ (s : State) (tdi b : Bool) (l : List Bool) (i : TapInstr),
      s.tap.st = .shiftDr → s.tap.dr = b :: l →
      exec (.testAccessPort true false tdi i) s = .next { s with out := .tdo b :: s.out, tap := { s.tap with dr := l ++ [tdi] } })
  ∧ (∀ (s : State) (tdi : Bool) (i : TapInstr),
      s.tap.st = .exit1Ir →
      exec (.testAccessPort true true tdi i) s = .next { s with tap := { s.tap with st := .updateIr, instr := i, seized := tapDrives i } })
  ∧ (∀ (s : State) (tms tdi : Bool) (i : TapInstr),
      s.tap.st = .captureDr →
      exec (.testAccessPort true tms tdi i) s = .next { s with tap := { s.tap with st := s.tap.st.next tms, dr := tapCapture s.tap.instr } })

/-- A RELEASE by a lock's holder, whose word names it and to whom the group is open, is answered OK and the lock's word reads zero, ABANDONED included; every other lock is as it was. A RELEASE by any other master is refused with TARGET_ERROR (STATUS 3) and no lock changes. Premise of the first: locks stand in the order of their numbers. It concludes exec c s = next t, on conditions on the state and the operands alone, for c = lockRelease. -/
def Obligations.OnlyTheHolderReleasesALock : Prop :=
  (∀ (s : State) (n sl m : Nat) (w : BitVec 32),
      fldN w 31 30 = 2 → fldN w 27 20 = sl → fldN w 9 0 = m → s.lockAllowed n sl m = true →
      Table.risingFrom none s.host.locks = true → bit (s.lock n) 31 = true → fldN (s.lock n) 27 20 = sl →
      fldN (s.lock n) 9 0 = m →
      ∃ t, exec (.lockRelease n sl m w) s = .next t ∧ t.lock n = 0 ∧ (∀ k, k ≠ n → t.lock k = s.lock k) ∧ t.out = .ringAnswer 31 0 :: s.out)
  ∧ (∀ (s : State) (n sl m : Nat) (w : BitVec 32),
      (¬(bit (s.lock n) 31 = true ∧ fldN (s.lock n) 27 20 = sl ∧ fldN (s.lock n) 9 0 = m)) →
      ∃ t, exec (.lockRelease n sl m w) s = .next t ∧ t.host = s.host ∧ t.out = .ringAnswer 31 3 :: s.out)

/-- A FAULT_CLEAR write that the server accepts closes the record of a HELD source at once: the source is IDLE, and the answer is OK. For an ACTIVE or LATCHED source it is refused with BUSY and nothing of the collectors changes; for an IDLE one it is answered OK and nothing of them changes. Premises of the first: the collectors' decisions are taken (both words come, no forced disagreement is pending), and sources stand in the order of their numbers. It concludes exec c s = next t, on conditions on the state and the operands alone, for c = faultClear. -/
def Obligations.FaultClearFollowsTheState : Prop :=
  (∀ (s : State) (q : Req) (role : Role) (v : Image) (n : Nat),
      s.mayWrite q role R.faultClear 0 0 v = true → n = fldN v 10 0 → faultValid n = true → (s.src n).st = .held →
      s.decides = true → Table.risingFrom none s.faults.srcs = true →
      ∃ t, exec (.faultClear q v) s = .next t ∧ (t.src n).st = .idle ∧ (t.src n).events = 0
        ∧ ∃ r, Out.fdp q.path r ∈ t.out ∧ r.status = .ok)
  ∧ (∀ (s : State) (q : Req) (role : Role) (v : Image) (n : Nat),
      s.mayWrite q role R.faultClear 0 0 v = true → n = fldN v 10 0 → faultValid n = true →
      ((s.src n).st = .active ∨ (s.src n).st = .latched) →
      ∃ t, exec (.faultClear q v) s = .next t ∧ t.faults = s.faults ∧ t.dict = s.dict ∧ ∃ r, Out.fdp q.path r ∈ t.out ∧ r.status = .busy)
  ∧ (∀ (s : State) (q : Req) (role : Role) (v : Image) (n : Nat),
      s.mayWrite q role R.faultClear 0 0 v = true → n = fldN v 10 0 → faultValid n = true → (s.src n).st = .idle →
      ∃ t, exec (.faultClear q v) s = .next t ∧ t.faults = s.faults ∧ t.dict = s.dict ∧ ∃ r, Out.fdp q.path r ∈ t.out ∧ r.status = .ok)

/-- When INIT_TIMEOUT has passed at a port whose link is in INIT, the link is DOWN with LAST_DOWN 5 (INIT_TIMEOUT); the time does not pass while the port's link timers are paused (R142); at a port whose link is not in INIT, or is paused, nothing happens, and no other port's link changes its state in either case. It concludes exec c s = next t, on conditions on the state and the operands alone, for c = initTimeout. -/
def Obligations.InitTimeoutTakesTheLinkDown : Prop :=
  (∀ (s : State) (p : Nat),
      (s.link p).st = .init → (s.link p).pauseAt = none →
      ∃ t, exec (.initTimeout p) s = .next t ∧ (t.link p).st = .down ∧ (t.link p).lastDown = 5 ∧ ∀ k, k ≠ p → (t.link k).st = (s.link k).st)
  ∧ (∀ (s : State) (p : Nat),
      ((s.link p).st ≠ .init ∨ (s.link p).pauseAt ≠ none) →
      exec (.initTimeout p) s = .next s)

/-- On an open BAR page of a function that serves a slice, a doorbell P of a WQ of a slice that is not HALTED sets PRODUCER to P, of no other queue, exactly where (P − HEAD) mod 65,536 ≤ DEPTH and 1 ≤ (P − PRODUCER) mod 65,536 ≤ DEPTH; P equal to PRODUCER changes nothing; any other P is discarded and counted as a stale doorbell. Of two values that could both be accepted, the one farther from PRODUCER prevails in whichever order they arrive, for a DEPTH of at most 32,768. It concludes exec c s = next t, on conditions on the state and the operands alone, for c = wqDoorbell. -/
def Obligations.DoorbellsMoveProducerInTheWindow : Prop :=
  (∀ (s : State) (f page slot sl n p : Nat) (v : BitVec 64) (w : Wq),
      s.barOpen f = true → s.funcSlice f = some sl → s.slotWq f page slot = some (n, w) →
      (s.slice w.slice).st ≠ .halted → fldN v 63 16 = 0 → p = fldN v 15 0 →
      ((p : Int) - w.head) % 65536 ≤ 2 ^ w.log → 1 ≤ ((p : Int) - w.producer) % 65536 →
      ((p : Int) - w.producer) % 65536 ≤ 2 ^ w.log → p ≠ w.producer →
      ∃ t, exec (.wqDoorbell f page slot v) s = .next t ∧ t.host.wqs = assocPut s.host.wqs n { w with producer := p, rungAt := s.ns } ∧ t.counters = s.counters)
  ∧ (∀ (s : State) (f page slot sl n : Nat) (v : BitVec 64) (w : Wq),
      s.barOpen f = true → s.funcSlice f = some sl → s.slotWq f page slot = some (n, w) →
      (s.slice w.slice).st ≠ .halted → fldN v 63 16 = 0 → fldN v 15 0 = w.producer →
      exec (.wqDoorbell f page slot v) s = .next s)
  ∧ (∀ (s : State) (f page slot sl n p : Nat) (v : BitVec 64) (w : Wq),
      s.barOpen f = true → s.funcSlice f = some sl → s.slotWq f page slot = some (n, w) →
      (s.slice w.slice).st ≠ .halted → fldN v 63 16 = 0 → p = fldN v 15 0 → p ≠ w.producer →
      (¬(((p : Int) - w.head) % 65536 ≤ 2 ^ w.log ∧ 1 ≤ ((p : Int) - w.producer) % 65536 ∧ ((p : Int) - w.producer) % 65536 ≤ 2 ^ w.log)) →
      exec (.wqDoorbell f page slot v) s = .next (s.countHost (funcPort w.func) 5))
  ∧ (∀ (s : State) (f page slot sl n a b : Nat) (v u : BitVec 64) (w : Wq),
      s.barOpen f = true → s.funcSlice f = some sl → s.slotWq f page slot = some (n, w) →
      (s.slice w.slice).st ≠ .halted → fldN v 63 16 = 0 → fldN u 63 16 = 0 → a = fldN v 15 0 → b = fldN u 15 0 →
      w.inWindow a = true → w.inWindow b = true → posDiff a w.producer < posDiff b w.producer → w.log ≤ 15 →
      w.producer < 65536 →
      ∃ t₁ t₂ t₃ t₄, exec (.wqDoorbell f page slot v) s = .next t₁ ∧ exec (.wqDoorbell f page slot u) t₁ = .next t₂
        ∧ exec (.wqDoorbell f page slot u) s = .next t₃ ∧ exec (.wqDoorbell f page slot v) t₃ = .next t₄
        ∧ (t₂.wq n).map (fun w => w.producer) = some b ∧ (t₄.wq n).map (fun w => w.producer) = some b)
end

