-- ==== Sys2Proof/Laws/Kept.lean ====
section
/-! SUPPORT. What almost every command leaves alone: the queue, the straps, the life cycle and the least firmware version.  One
lemma for each operation and command, each by the operations it calls. -/

namespace Sys2Proof.Machine

/-- What only the queue, a reset's straps and a life-cycle change may move. -/
structure Kept where
  pending   : List Instr
  straps    : Straps
  lifecycle : LifeCycle
  lcPending : Option (LifeCycle × BitVec 768)
  minVersion : Nat

def State.kept (s : State) : Kept := ⟨s.pending, s.straps, s.mgmt.lifecycle, s.mgmt.lcPending, s.mgmt.minVersion⟩

@[simp] theorem State.kept_fold (s : State) : Kept.mk s.pending s.straps s.mgmt.lifecycle s.mgmt.lcPending s.mgmt.minVersion = s.kept := rfl

theorem eq_pair_iff {α β : Type} {p : α × β} {a : α} {b : β} : p = (a, b) ↔ a = p.1 ∧ b = p.2 :=
  ⟨fun h => by subst h; exact ⟨rfl, rfl⟩, fun h => by rw [h.1, h.2]⟩

@[simp] theorem foldl_kept {β : Type} {f : State → β → State} (h : ∀ s b, (f s b).kept = s.kept) (l : List β) (s : State) :
    (l.foldl f s).kept = s.kept := by
  induction l generalizing s with
  | nil => rfl
  | cons b l ih => rw [List.foldl_cons, ih, h]

@[simp] theorem foldr_kept {β : Type} {f : β → State → State} (h : ∀ b s, (f b s).kept = s.kept) (l : List β) (s : State) :
    (l.foldr f s).kept = s.kept := by
  induction l with
  | nil => rfl
  | cons b l ih => rw [List.foldr_cons, h, ih]

@[simp] theorem foldl_fst_kept {β γ : Type} {f : State × γ → β → State × γ} (h : ∀ s b, (f s b).1.kept = s.1.kept) (l : List β) (s : State × γ) :
    (l.foldl f s).1.kept = s.1.kept := by
  induction l generalizing s with
  | nil => rfl
  | cons b l ih => rw [List.foldl_cons, ih, h]


@[simp] theorem State.kept_mk
    pending out draws uptime straps dict active counters totals wires lanes streams links inputs outputs inBuckets
    injBuckets injLevel rolesOn isolated mgmt ops timeQ bypassIn built rings hosts counting trans remote colls service
    arrived ownGone adopted faults twin clock power boot holds lastReset resets tap :
    (State.mk
      pending out draws uptime straps dict active counters totals wires lanes streams links inputs outputs inBuckets
      injBuckets injLevel rolesOn isolated mgmt ops timeQ bypassIn built rings hosts counting trans remote colls service
      arrived ownGone adopted faults twin clock power boot holds lastReset resets tap).kept
      = ⟨pending, straps, mgmt.lifecycle, mgmt.lcPending, mgmt.minVersion⟩ := rfl

@[simp] theorem State.kept_ite (c : Prop) [Decidable c] (a b : State) : (if c then a else b).kept = if c then a.kept else b.kept := by
  split <;> rfl

@[simp] theorem State.kept_fst_ite {γ : Type} (c : Prop) [Decidable c] (a b : State × γ) :
    (if c then a else b).1.kept = if c then a.1.kept else b.1.kept := by
  split <;> rfl

@[simp] theorem State.updMgmt_kept (s : State) (f : Mgmt → Mgmt) (hf : (f s.mgmt).lifecycle = s.mgmt.lifecycle
    ∧ (f s.mgmt).lcPending = s.mgmt.lcPending ∧ (f s.mgmt).minVersion = s.mgmt.minVersion) : (s.updMgmt f).kept = s.kept := by
  unfold State.updMgmt State.kept
  rw [hf.1, hf.2.1, hf.2.2]

/-- The command answers a next state that keeps it. -/
def Keeps (r : Result) (s : State) : Prop := ∃ t, r = .next t ∧ t.kept = s.kept

end Sys2Proof.Machine
end

