-- ==== Sys2Proof/Laws/KeptFabric.lean ====
section
/-! SUPPORT. The frame of `Kept` over the fabric side. -/

namespace Sys2Proof.Machine

@[simp] theorem State.setReg_kept (s : State) (r : Reg) (i : Nat) (e : Nat) (v : Image) : (State.setReg s r i e v).kept = s.kept := by
  simp [State.setReg]

@[simp] theorem State.commit_kept (s : State) (r : Reg) (i : Nat) (e : Nat) : (State.commit s r i e).kept = s.kept := by
  simp [State.commit]

@[simp] theorem State.commitAll_kept (s : State) (r : Reg) (i : Nat) (y3 : Nat) : (State.commitAll s r i y3).kept = s.kept := by
  induction y3 with
  | zero => rfl
  | succ n ih => rw [State.commitAll, State.commit_kept, ih]

@[simp] theorem State.count_kept (s : State) (n : Nat) (k : Nat) : (State.count s n k).kept = s.kept := by
  simp [State.count]

@[simp] theorem State.countPort_kept (s : State) (p : Nat) (e : Nat) (k : Nat) : (State.countPort s p e k).kept = s.kept := by
  simp [State.countPort]

@[simp] theorem State.countIn_kept (s : State) (i : Nat) (e : Nat) (k : Nat) : (State.countIn s i e k).kept = s.kept := by
  simp [State.countIn]

@[simp] theorem State.countXbr_kept (s : State) (i : Nat) (e : Nat) (k : Nat) : (State.countXbr s i e k).kept = s.kept := by
  simp [State.countXbr]

@[simp] theorem State.countOut_kept (s : State) (o : Nat) (e : Nat) (k : Nat) : (State.countOut s o e k).kept = s.kept := by
  simp [State.countOut]

@[simp] theorem State.countRing_kept (s : State) (st : Nat) (e : Nat) (k : Nat) : (State.countRing s st e k).kept = s.kept := by
  simp [State.countRing]

@[simp] theorem State.countHost_kept (s : State) (h : Nat) (e : Nat) (k : Nat) : (State.countHost s h e k).kept = s.kept := by
  simp [State.countHost]

@[simp] theorem State.countSlice_kept (s : State) (sl : Nat) (e : Nat) (k : Nat) : (State.countSlice s sl e k).kept = s.kept := by
  simp [State.countSlice]

@[simp] theorem State.countFault_kept (s : State) (src : Nat) (e : Nat) (k : Nat) : (State.countFault s src e k).kept = s.kept := by
  simp [State.countFault]

@[simp] theorem State.countDev_kept (s : State) (e : Nat) (k : Nat) : (State.countDev s e k).kept = s.kept := by
  simp [State.countDev]

@[simp] theorem State.raise_kept (s : State) (src : Nat) : (State.raise s src).kept = s.kept := by
  simp [State.raise]

@[simp] theorem State.overrun_kept (s : State) (n : Nat) (src : Nat) : (State.overrun s n src).kept = s.kept := by
  simp [State.overrun]

@[simp] theorem State.trackEntry_kept (s : State) (n : Nat) (pos : Nat) (f : Track → Track) : (State.trackEntry s n pos f).kept = s.kept := by
  simp [State.trackEntry]

@[simp] theorem State.emit_kept (s : State) (o : Out) : (State.emit s o).kept = s.kept := by
  simp [State.emit]

@[simp] theorem State.drawn_kept (s : State) : (State.drawn s).kept = s.kept := by
  simp [State.drawn]

@[simp] theorem State.build_kept (s : State) (stop : Nat) (h : Header) (payload : List Byte) :
    (State.build s stop h payload).kept = s.kept := by
  simp [State.build]

@[simp] theorem State.setLane_kept (s : State) (p : Nat) (l : Lane) : (State.setLane s p l).kept = s.kept := by
  simp [State.setLane]

@[simp] theorem State.updLane_kept (s : State) (p : Nat) (f : Lane → Lane) : (State.updLane s p f).kept = s.kept := by
  simp [State.updLane]

@[simp] theorem State.setLink_kept (s : State) (p : Nat) (l : Link) : (State.setLink s p l).kept = s.kept := by
  simp [State.setLink]

@[simp] theorem State.updLink_kept (s : State) (p : Nat) (f : Link → Link) : (State.updLink s p f).kept = s.kept := by
  simp [State.updLink]

@[simp] theorem State.setInput_kept (s : State) (i : Nat) (b : InBuf) : (State.setInput s i b).kept = s.kept := by
  simp [State.setInput]

@[simp] theorem State.updInput_kept (s : State) (i : Nat) (f : InBuf → InBuf) : (State.updInput s i f).kept = s.kept := by
  simp [State.updInput]

@[simp] theorem State.setOutput_kept (s : State) (o : Nat) (x : Output) : (State.setOutput s o x).kept = s.kept := by
  simp [State.setOutput]

@[simp] theorem State.updOutput_kept (s : State) (o : Nat) (f : Output → Output) : (State.updOutput s o f).kept = s.kept := by
  simp [State.updOutput]

@[simp] theorem State.setHport_kept (s : State) (k : Nat) (h : HPort) : (State.setHport s k h).kept = s.kept := by
  simp [State.setHport]

@[simp] theorem State.opSet_kept (s : State) (k : Nat) (p : Nat) (st : Nat) : (State.opSet s k p st).kept = s.kept := by
  simp [State.opSet]

@[simp] theorem State.opEnd_kept (s : State) (k : Nat) (p : Nat) (fail : Nat) : (State.opEnd s k p fail).kept = s.kept := by
  unfold State.opEnd; split <;> simp

@[simp] theorem State.updHost_kept (s : State) (f : HostSide → HostSide) : (State.updHost s f).kept = s.kept := by
  simp [State.updHost]

@[simp] theorem State.setFunc_kept (s : State) (f : Nat) (x : Func) : (State.setFunc s f x).kept = s.kept := by
  simp [State.setFunc]

@[simp] theorem State.updFunc_kept (s : State) (f : Nat) (g : Func → Func) : (State.updFunc s f g).kept = s.kept := by
  simp [State.updFunc]

@[simp] theorem State.setSlice_kept (s : State) (n : Nat) (x : Slice) : (State.setSlice s n x).kept = s.kept := by
  simp [State.setSlice]

@[simp] theorem State.updSlice_kept (s : State) (n : Nat) (f : Slice → Slice) : (State.updSlice s n f).kept = s.kept := by
  simp [State.updSlice]

@[simp] theorem State.updHlink_kept (s : State) (k : Nat) (l : Nat) (f : HLink → HLink) : (State.updHlink s k l f).kept = s.kept := by
  simp [State.updHlink]

@[simp] theorem State.exitL1_kept (s : State) (k : Nat) (l : Nat) : (State.exitL1 s k l).kept = s.kept := by
  simp [State.exitL1]

@[simp] theorem State.wake_kept (s : State) (f : Nat) : (State.wake s f).kept = s.kept := by
  unfold State.wake; simp; repeat (split <;> simp)

@[simp] theorem State.request_kept (s : State) (b : Burst) : (State.request s b).kept = s.kept := by
  simp [State.request]

@[simp] theorem State.msix_kept (s : State) (f : Nat) (v : Nat) (sl : Nat) (key : Nat) : (State.msix s f v sl key).kept = s.kept := by
  unfold State.msix; simp; repeat (split <;> simp)

@[simp] theorem State.updTwin_kept (s : State) (f : Twin → Twin) : (State.updTwin s f).kept = s.kept := by
  simp [State.updTwin]

@[simp] theorem State.pairSend_kept (s : State) (m : PairMsg) : (State.pairSend s m).kept = s.kept := by
  unfold State.pairSend; split <;> simp

@[simp] theorem State.pairFlush_kept (s : State) : (State.pairFlush s).kept = s.kept := by
  unfold State.pairFlush; split <;> simp

@[simp] theorem State.leftBehind_kept (s : State) (keys : List Nat) : (State.leftBehind s keys).kept = s.kept := by
  unfold State.leftBehind; simp; repeat (split <;> simp)

@[simp] theorem State.noteChange_kept (s : State) (device : Bool) (c : List Change) : (State.noteChange s device c).kept = s.kept := by
  unfold State.noteChange; split <;> simp

@[simp] theorem State.setKey_kept (s : State) (k : Nat) (v : Image) : (State.setKey s k v).kept = s.kept := by
  simp [State.setKey]

@[simp] theorem State.setPool_kept (s : State) (n : Nat) (v : Image) : (State.setPool s n v).kept = s.kept := by
  simp [State.setPool]

@[simp] theorem State.setRegion_kept (s : State) (n : Nat) (v : Image) : (State.setRegion s n v).kept = s.kept := by
  simp [State.setRegion]

@[simp] theorem State.setSess_kept (s : State) (n : Nat) (x : Session) : (State.setSess s n x).kept = s.kept := by
  simp [State.setSess]

@[simp] theorem State.sendFdp_kept (s : State) (p : Path) (r : FdpResp) : (State.sendFdp s p r).kept = s.kept := by
  unfold State.sendFdp; (repeat' split) <;> simp

@[simp] theorem State.respond_kept (s : State) (q : Req) (obj : Nat) (sub : Nat) (f : Fdp) (body : List Byte) :
    (State.respond s q obj sub f body).kept = s.kept := by
  simp [State.respond]

@[simp] theorem State.answer_kept (s : State) (q : Req) (obj : Nat) (sub : Nat) (f : Fdp) (body : List Byte) :
    (State.answer s q obj sub f body).kept = s.kept := by
  unfold State.answer; split <;> simp

@[simp] theorem State.answerLater_kept (s : State) (q : Req) (obj : Nat) (sub : Nat) : (State.answerLater s q obj sub).kept = s.kept := by
  simp [State.answerLater]

@[simp] theorem State.answerOwed_kept (s : State) (obj : Nat) (sub : Nat) (f : Fdp) : (State.answerOwed s obj sub f).kept = s.kept := by
  unfold State.answerOwed; split <;> simp

@[simp] theorem State.takeRequest_kept (s : State) (p : Path) : (State.takeRequest s p).kept = s.kept := by
  unfold State.takeRequest; repeat' split
  all_goals simp [*]

@[simp] theorem State.serve_kept (s : State) (q : Req) (obj : Nat) (sub : Nat) (run : Role → State → State) (rec : Bool) (hrun : ∀ v0 v1, (run v0 v1).kept = v1.kept) :
    (State.serve s q obj sub run rec).kept = s.kept := by
  unfold State.serve; dsimp only; (repeat' split) <;> simp_all [eq_pair_iff]

@[simp] theorem State.auditWrite_kept (s : State) (kind : Nat) (role : Nat) (path : Nat) (obj : Nat) (entry : Nat) (value : BitVec 64) (hashed : Bool) :
    (State.auditWrite s kind role path obj entry value hashed).kept = s.kept := by
  simp [State.auditWrite]

@[simp] theorem State.caddyWrite_kept (s : State) (q : Req) (config : Bool) : (State.caddyWrite s q config).1.kept = s.kept := by
  unfold State.caddyWrite; repeat' split
  all_goals simp [*]

theorem State.recordVal_kept (s : State) (q : Req) (role : Role) (r : Reg) (i e : Nat) (val : BitVec 64) (hashed : Bool) :
    (∀ t, State.recordVal s q role r i e val hashed = .ok t → t.kept = s.kept)
      ∧ ∀ t f, State.recordVal s q role r i e val hashed = .error (t, f) → t.kept = s.kept := by
  unfold State.recordVal; dsimp only
  constructor <;> intros <;> rename_i h <;> (repeat' (split at h)) <;> simp_all [eq_pair_iff] <;> subst_vars <;> simp_all
  all_goals (split <;> simp)

theorem State.recordWrite_kept (s : State) (q : Req) (role : Role) (r : Reg) (i e : Nat) (vals : List Image) :
    (∀ t, State.recordWrite s q role r i e vals = .ok t → t.kept = s.kept)
      ∧ ∀ t f, State.recordWrite s q role r i e vals = .error (t, f) → t.kept = s.kept :=
  State.recordVal_kept s q role r i e _ _

@[simp] theorem State.awaitMirror_kept (s : State) (q : Req) (obj : Nat) (sub : Nat) (f : Fdp) (c : List Change) (passed : Bool) :
    (State.awaitMirror s q obj sub f c passed).kept = s.kept := by
  simp [State.awaitMirror]

@[simp] theorem State.mirrorAnswer_kept (s : State) (m : Mirror) (f : Fdp) : (State.mirrorAnswer s m f).kept = s.kept := by
  unfold State.mirrorAnswer; simp; repeat (split <;> simp)

@[simp] theorem State.mirrored_kept (s : State) (q : Req) (r : Reg) (i : Nat) (es : List Nat) (obj : Nat) (sub : Nat) (f : Option Fdp) :
    (State.mirrored s q r i es obj sub f).kept = s.kept := by
  unfold State.mirrored; repeat' split
  all_goals simp [*]

theorem State.applyEntries_kept (s : State) (r : Reg) (i : Nat) (rule : Nat → Image → Image → WriteRule)
    (hr : ∀ e o v t, ((rule e o v).eff t).1.kept = t.kept) (l : List (Nat × Image)) : (State.applyEntries s r i rule l).1.kept = s.kept := by
  induction l generalizing s with
  | nil => rfl
  | cons x l ih =>
    unfold State.applyEntries; dsimp only
    split
    · exact ih s
    · rw [ih, hr]; split <;> simp

theorem State.writeRun_kept (s : State) (q : Req) (r : Reg) (i e0 : Nat) (vals : List Image) (rule : Nat → Image → Image → WriteRule)
    (hr : ∀ e o v t, ((rule e o v).eff t).1.kept = t.kept) : (State.writeRun s q r i e0 vals rule).kept = s.kept := by
  unfold State.writeRun; dsimp only
  refine State.serve_kept _ _ _ _ _ _ (fun role s => ?_)
  split
  · simp
  · split
    · simp
    · split
      · simp
      · split
        · rename_i h; simp [(State.recordWrite_kept _ _ _ _ _ _ _).2 _ _ h]
        · rename_i h; simp [(State.recordWrite_kept _ _ _ _ _ _ _).1 _ h, State.applyEntries_kept _ _ _ _ hr]

@[simp] theorem State.dictRunR_kept (s : State) (q : Req) (r : Reg) (i e : Nat) (v : Image) (deny : Role → State → Bool) (chk : State → Option Fdp)
    (eff : State → State × Option Fdp) (life : State → Bool) (he : ∀ t, (eff t).1.kept = t.kept) :
    (State.dictRunR s q r i e v deny chk eff life).kept = s.kept :=
  State.writeRun_kept _ _ _ _ _ _ _ (fun _ _ _ t => he t)

@[simp] theorem State.dictRun_kept (s : State) (q : Req) (r : Reg) (i e : Nat) (v : Image) (chk : State → Option Fdp)
    (eff : State → State × Option Fdp) (he : ∀ t, (eff t).1.kept = t.kept) : (State.dictRun s q r i e v chk eff).kept = s.kept :=
  State.dictRunR_kept _ _ _ _ _ _ _ _ _ _ he

@[simp] theorem State.dictWrite_kept (s : State) (q : Req) (r : Reg) (i e : Nat) (v : Image) (chk : State → Option Fdp)
    (eff : State → State × Fdp) (he : ∀ t, (eff t).1.kept = t.kept) : (State.dictWrite s q r i e v chk eff).kept = s.kept :=
  State.dictRunR_kept _ _ _ _ _ _ _ _ _ _ he

@[simp] theorem State.opStart_kept (s : State) (q : Req) (r : Reg) (i : Nat) (v : Image) (k : Nat) (p : Nat) (range : State → Bool) (busy : State → Bool) (eff : State → State × Fdp) (moved : State → Option (Bool × List Change)) (heff : ∀ v0, (eff v0).1.kept = v0.kept) :
    (State.opStart s q r i v k p range busy eff moved).kept = s.kept := by
  unfold State.opStart; dsimp only
  refine State.serve_kept _ _ _ _ _ _ (fun role s => ?_)
  split
  · simp
  split
  · simp
  split
  · simp
  split
  · simp
  split
  · simp
  split
  · simp
  split
  · simp
  split
  · rename_i h; simpa using (State.recordWrite_kept _ _ _ _ _ _ _).2 _ _ h
  · rename_i h; have h' := (State.recordWrite_kept _ _ _ _ _ _ _).1 _ h
    have e := fun x => (heff (State.opSet x k p 2)).trans (State.opSet_kept x k p 2)
    split
    · simp [e, h']
    · split <;> simp [e, h']

@[simp] theorem State.noteRoute_kept (s : State) (groups : List Nat) : (State.noteRoute s groups).kept = s.kept := by
  simp [State.noteRoute]

@[simp] theorem State.applyAlt_kept (s : State) (h : Header) (inX : Nat) (o : Nat) : (State.applyAlt s h inX o).1.kept = s.kept := by
  unfold State.applyAlt; repeat' split
  all_goals simp [*]

@[simp] theorem State.noteStrain_kept (s : State) (p : Nat) (key : BitVec 16) : (State.noteStrain s p key).kept = s.kept := by
  unfold State.noteStrain; split <;> simp

@[simp] theorem State.notice_kept (s : State) (h : Header) (inX : Nat) (reason : Nat) : (State.notice s h inX reason).kept = s.kept := by
  unfold State.notice; repeat (split <;> simp)

@[simp] theorem State.routeFault_kept (s : State) (h : Header) (inX : Nat) (f : RouteFault) : (State.routeFault s h inX f).kept = s.kept := by
  unfold State.routeFault; split <;> simp

@[simp] theorem State.red_kept (s : State) (inX : Nat) (o : Nat) (c : Nat) (colour : BitVec 2) :
    (State.red s inX o c colour).1.kept = s.kept := by
  simp [State.red]

@[simp] theorem State.creditBackOf_kept (s : State) (x : Nat) (vc : Nat) (more : Nat) : (State.creditBackOf s x vc more).kept = s.kept := by
  unfold State.creditBackOf; split <;> simp

@[simp] theorem State.creditBack_kept (s : State) (x : Nat) (vc : Nat) : (State.creditBack s x vc).kept = s.kept := by
  simp [State.creditBack]

@[simp] theorem State.creditsBack_kept (s : State) (x : Nat) (vc : Nat) (y3 : Nat) : (State.creditsBack s x vc y3).kept = s.kept := by
  fun_induction State.creditsBack s x vc y3 <;> simp_all [eq_pair_iff, -State.creditsBack_kept]

@[simp] theorem State.enqueue_kept (s : State) (x : Nat) (k : VPkt) : (State.enqueue s x k).1.kept = s.kept := by
  simp [State.enqueue]

@[simp] theorem State.settleDeficit_kept (s : State) (o : Nat) (c : Nat) : (State.settleDeficit s o c).kept = s.kept := by
  unfold State.settleDeficit; split <;> simp

@[simp] theorem State.settleDeficits_kept (s : State) (o : Nat) : (State.settleDeficits s o).kept = s.kept := by
  simp [State.settleDeficits]

@[simp] theorem State.abortPkt_kept (s : State) (x : Nat) (stamp : Nat) (reason : Nat) : (State.abortPkt s x stamp reason).kept = s.kept := by
  unfold State.abortPkt; simp; intros; (repeat' split) <;> simp

@[simp] theorem State.abortOpen_kept (s : State) (p : Nat) (vc : Nat) (reason : Nat) : (State.abortOpen s p vc reason).kept = s.kept := by
  unfold State.abortOpen; split <;> simp

@[simp] theorem State.abortVcs_kept (s : State) (p : Nat) (reason : Nat) (vcs : List Nat) : (State.abortVcs s p reason vcs).kept = s.kept := by
  simp [State.abortVcs]

@[simp] theorem State.settlePause_kept (s : State) (p : Nat) : (State.settlePause s p).kept = s.kept := by
  simp [State.settlePause]

@[simp] theorem State.hostWriteN_kept (s : State) (b : Burst) (y2 : Nat) (y3 : List Byte) : (State.hostWriteN s b y2 y3).kept = s.kept := by
  fun_induction State.hostWriteN s b y2 y3 <;> simp_all [eq_pair_iff]

@[simp] theorem State.hostWrite_kept (s : State) (b : Burst) (data : List Byte) : (State.hostWrite s b data).kept = s.kept := by
  simp [State.hostWrite]

@[simp] theorem State.ringWrite_kept (s : State) (kind : Nat) (n : Nat) (f : Nat) (sl : Nat) (addr : Nat) (key : Nat) (data : List Byte) :
    (State.ringWrite s kind n f sl addr key data).kept = s.kept := by
  simp [State.ringWrite]

@[simp] theorem State.hostReadN_kept (s : State) (b : Burst) (y2 : Nat) (y3 : Nat) (y4 : Nat) :
    (State.hostReadN s b y2 y3 y4).1.kept = s.kept := by
  induction y2 generalizing s b y3 y4 with
  | zero => rfl
  | succ n ih => unfold State.hostReadN; split <;> simp [ih]

@[simp] theorem State.writeSpans_kept (s : State) (b : Burst) (y2 : Spans) (y3 : List Byte) : (State.writeSpans s b y2 y3).kept = s.kept := by
  fun_induction State.writeSpans s b y2 y3 <;> simp_all [eq_pair_iff]

@[simp] theorem State.readSpans_kept (s : State) (b : Burst) (y2 : Spans) (y3 : Nat) : (State.readSpans s b y2 y3).1.kept = s.kept := by
  fun_induction State.readSpans s b y2 y3 <;> simp_all [eq_pair_iff]

@[simp] theorem State.setCredit_kept (s : State) (inst : Nat) (sl : Nat) (c : Int) : (State.setCredit s inst sl c).kept = s.kept := by
  simp [State.setCredit]

@[simp] theorem State.askReads_kept (s : State) (inst : Nat) : (State.askReads s inst).kept = s.kept := by
  simp [State.askReads]

@[simp] theorem State.forgetPlaced_kept (s : State) (key : Nat) (link : Option Nat) : (State.forgetPlaced s key link).kept = s.kept := by
  simp [State.forgetPlaced]

@[simp] theorem State.notePlaced_kept (s : State) (b : Burst) : (State.notePlaced s b).kept = s.kept := by
  unfold State.notePlaced; repeat' split
  all_goals simp [*]

@[simp] theorem State.dropBurst_kept (s : State) (id : Nat) : (State.dropBurst s id).kept = s.kept := by
  simp [State.dropBurst]

@[simp] theorem State.updBurst_kept (s : State) (id : Nat) (f : Burst → Burst) : (State.updBurst s id f).kept = s.kept := by
  simp [State.updBurst]

@[simp] theorem State.moved_kept (s : State) (inst : Nat) (n : Nat) : (State.moved s inst n).kept = s.kept := by
  simp [State.moved]

@[simp] theorem State.grant_kept (s : State) (inst : Nat) : (State.grant s inst).kept = s.kept := by
  unfold State.grant; repeat (split <;> simp)

@[simp] theorem State.handover_kept (s : State) (inst : Nat) : (State.handover s inst).kept = s.kept := by
  unfold State.handover; repeat (split <;> simp)

@[simp] theorem State.putWq_kept (s : State) (n : Nat) (w : Wq) : (State.putWq s n w).kept = s.kept := by
  simp [State.putWq]

@[simp] theorem State.putCq_kept (s : State) (n : Nat) (c : Cq) : (State.putCq s n c).kept = s.kept := by
  simp [State.putCq]

@[simp] theorem State.putEq_kept (s : State) (n : Nat) (e : Eq) : (State.putEq s n e).kept = s.kept := by
  simp [State.putEq]

@[simp] theorem State.useContext_kept (s : State) (k : Nat) : (State.useContext s k).kept = s.kept := by
  unfold State.useContext; dsimp only; (repeat' split) <;> simp

@[simp] theorem State.loadContext_kept (s : State) (k : Nat) : (State.loadContext s k).kept = s.kept := by
  simp [State.loadContext]

@[simp] theorem State.writeEvent_kept (s : State) (n : Nat) (type : Nat) (source : Nat) (detail : Nat) (key : Nat) :
    (State.writeEvent s n type source detail key).kept = s.kept := by
  unfold State.writeEvent; split <;> simp

@[simp] theorem State.fireEq_kept (s : State) (n : Nat) (key : Nat) : (State.fireEq s n key).kept = s.kept := by
  unfold State.fireEq; repeat (split <;> simp)

@[simp] theorem State.overrunEvent_kept (s : State) (n : Nat) : (State.overrunEvent s n).kept = s.kept := by
  unfold State.overrunEvent; repeat (split <;> simp)

@[simp] theorem State.event_kept (s : State) (n : Nat) (type : Nat) (source : Nat) (detail : Nat) (key : Nat) :
    (State.event s n type source detail key).kept = s.kept := by
  unfold State.event; simp; intros; (repeat' split) <;> simp

@[simp] theorem State.sliceEvent_kept (s : State) (sl : Nat) (type : Nat) (source : Nat) (detail : Nat) :
    (State.sliceEvent s sl type source detail).kept = s.kept := by
  unfold State.sliceEvent; split <;> simp

@[simp] theorem State.sliceTo_kept (s : State) (sl : Nat) (st : SliceSt) : (State.sliceTo s sl st).kept = s.kept := by
  simp [State.sliceTo]

@[simp] theorem State.candidate_kept (s : State) (sl : Nat) (op : Nat) : (State.candidate s sl op).1.kept = s.kept := by
  unfold State.candidate; simp; repeat (split <;> simp)

@[simp] theorem State.addTrack_kept (s : State) (n : Nat) (pos : Nat) : (State.addTrack s n pos).kept = s.kept := by
  simp [State.addTrack]

@[simp] theorem State.sampled_kept (s : State) (n : Nat) (sl : Nat) (e : WqEntry) (status : Nat) (count : Nat) :
    (State.sampled s n sl e status count).kept = s.kept := by
  unfold State.sampled; split <;> simp

@[simp] theorem State.fireCq_kept (s : State) (n : Nat) (key : Nat) : (State.fireCq s n key).kept = s.kept := by
  unfold State.fireCq; (repeat' split) <;> simp

@[simp] theorem State.queueErrorEvent_kept (s : State) (sl : Nat) (kind : Nat) (n : Nat) (cause : Nat) :
    (State.queueErrorEvent s sl kind n cause).kept = s.kept := by
  simp [State.queueErrorEvent]

@[simp] theorem State.dropItems_kept (s : State) (n : Nat) : (State.dropItems s n).kept = s.kept := by
  simp [State.dropItems]

@[simp] theorem State.wqErrorSilent_kept (s : State) (n : Nat) (cause : Nat) : (State.wqErrorSilent s n cause).kept = s.kept := by
  unfold State.wqErrorSilent; repeat (split <;> simp)

@[simp] theorem State.cqError_kept (s : State) (n : Nat) (cause : Nat) : (State.cqError s n cause).kept = s.kept := by
  unfold State.cqError; repeat' split
  all_goals simp [*]

@[simp] theorem State.writeCompletion_kept (s : State) (n : Nat) (c : Completion) (key : Nat) :
    (State.writeCompletion s n c key).kept = s.kept := by
  unfold State.writeCompletion; repeat' split
  all_goals simp [*]

@[simp] theorem State.consumerRead_kept (s : State) (n : Nat) (v : Nat) : (State.consumerRead s n v).kept = s.kept := by
  unfold State.consumerRead; (repeat' split) <;> (try simp) <;> (repeat' (first | split | rw [foldl_kept] | (intro _ _))) <;> simp

@[simp] theorem State.countComp_kept (s : State) (sl : Nat) (c : Comp) : (State.countComp s sl c).kept = s.kept := by
  unfold State.countComp; repeat' split
  all_goals simp [*]

@[simp] theorem State.dropItemOf_kept (s : State) (n : Nat) (pos : Nat) : (State.dropItemOf s n pos).kept = s.kept := by
  simp [State.dropItemOf]

@[simp] theorem State.finish_kept (s : State) (n : Nat) (pos : Nat) (st : Comp) (count : Nat) (detail : Nat) (specific : Nat) (solicited : Bool) :
    (State.finish s n pos st count detail specific solicited).kept = s.kept := by
  unfold State.finish; (repeat' split) <;> simp

@[simp] theorem State.wqError_kept (s : State) (n : Nat) (cause : Nat) : (State.wqError s n cause).kept = s.kept := by
  unfold State.wqError; repeat (split <;> simp)

@[simp] theorem State.eqError_kept (s : State) (n : Nat) (cause : Nat) : (State.eqError s n cause).kept = s.kept := by
  unfold State.eqError; repeat (split <;> simp)

@[simp] theorem State.alignBlock_kept (s : State) (p : Nat) : (State.alignBlock s p).kept = s.kept := by
  simp [State.alignBlock]

@[simp] theorem State.startStream_kept (s : State) (p : Nat) : (State.startStream s p).kept = s.kept := by
  simp [State.startStream]

@[simp] theorem State.lastCodeword_kept (s : State) (p : Nat) (st : Wire.CwState) : (State.lastCodeword s p st).kept = s.kept := by
  simp [State.lastCodeword]

@[simp] theorem State.emitCell_kept (s : State) (p : Nat) (c : LinkCell) : (State.emitCell s p c).kept = s.kept := by
  simp [State.emitCell]

@[simp] theorem State.sendCell_kept (s : State) (p : Nat) (lseq : BitVec 12) (ty : CellType) (vc : Nat) (body : BitVec 1024) :
    (State.sendCell s p lseq ty vc body).kept = s.kept := by
  simp [State.sendCell]

@[simp] theorem State.sendCtl_kept (s : State) (p : Nat) (m : CtlMsg) : (State.sendCtl s p m).kept = s.kept := by
  simp [State.sendCtl]

@[simp] theorem State.queueCtl_kept (s : State) (p : Nat) (m : CtlMsg) : (State.queueCtl s p m).kept = s.kept := by
  simp [State.queueCtl]

@[simp] theorem State.queueBypass_kept (s : State) (p : Nat) (m : BypassMsg) : (State.queueBypass s p m).kept = s.kept := by
  simp [State.queueBypass]

@[simp] theorem State.ackSeq_kept (s : State) (p : Nat) (a : BitVec 12) : (State.ackSeq s p a).kept = s.kept := by
  simp [State.ackSeq]

@[simp] theorem State.creditReport_kept (s : State) (p : Nat) (code : BitVec 6) (count : BitVec 7) :
    (State.creditReport s p code count).kept = s.kept := by
  unfold State.creditReport; repeat (split <;> simp)

@[simp] theorem State.headerUpdate_kept (s : State) (p : Nat) (c : LinkCell) : (State.headerUpdate s p c).kept = s.kept := by
  unfold State.headerUpdate; split <;> simp

@[simp] theorem State.sendNak_kept (s : State) (p : Nat) : (State.sendNak s p).kept = s.kept := by
  unfold State.sendNak; simp; repeat (split <;> simp)

@[simp] theorem State.received_kept (s : State) (p : Nat) (c : LinkCell) (k : State → State) (hk : ∀ v0, (k v0).kept = v0.kept) :
    (State.received s p c k).kept = s.kept := by
  unfold State.received; dsimp only; (repeat' split) <;> simp_all [eq_pair_iff]

@[simp] theorem State.advanceExpect_kept (s : State) (p : Nat) : (State.advanceExpect s p).kept = s.kept := by
  simp [State.advanceExpect]

@[simp] theorem State.countAbort_kept (s : State) (p : Nat) (reason : Nat) : (State.countAbort s p reason).kept = s.kept := by
  simp [State.countAbort]

@[simp] theorem State.abortCounted_kept (s : State) (p : Nat) (v : Nat) (reason : Nat) : (State.abortCounted s p v reason).kept = s.kept := by
  unfold State.abortCounted; split <;> simp

@[simp] theorem State.discardFirst_kept (s : State) (p : Nat) (c : LinkCell) : (State.discardFirst s p c).kept = s.kept := by
  unfold State.discardFirst; split <;> simp

@[simp] theorem State.acceptFirst_kept (s : State) (p : Nat) (c : LinkCell) : (State.acceptFirst s p c).kept = s.kept := by
  unfold State.acceptFirst; simp; intros; (repeat' split) <;> simp

@[simp] theorem State.acceptLater_kept (s : State) (p : Nat) (c : LinkCell) : (State.acceptLater s p c).kept = s.kept := by
  unfold State.acceptLater; simp; intros; (repeat' split) <;> simp

@[simp] theorem State.acceptData_kept (s : State) (p : Nat) (c : LinkCell) (bad : Bool) : (State.acceptData s p c bad).kept = s.kept := by
  unfold State.acceptData; repeat (split <;> simp)

@[simp] theorem State.voidBegun_kept (s : State) (p : Nat) (pid : Nat) : (State.voidBegun s p pid).kept = s.kept := by
  simp [State.voidBegun]

@[simp] theorem State.redirect_kept (s : State) (x : Nat) (st : Nat) (dst : RxOpen) : (State.redirect s x st dst).kept = s.kept := by
  unfold State.redirect; split <;> simp

@[simp] theorem State.rerouteBegun_kept (s : State) (p : Nat) (a : Nat) (pid : Nat) : (State.rerouteBegun s p a pid).kept = s.kept := by
  simp [State.rerouteBegun]; repeat (split <;> simp [*])

@[simp] theorem State.rerouteControl_kept (s : State) (p : Nat) (begun : Bool) : (State.rerouteControl s p begun).kept = s.kept := by
  unfold State.rerouteControl; (repeat' split) <;> simp

@[simp] theorem State.setPortEv_kept (s : State) (l : List (Nat × Nat × Nat × Nat)) : (State.setPortEv s l).kept = s.kept := by
  simp [State.setPortEv]

@[simp] theorem State.portState_kept (s : State) (p : Nat) (was : LinkSt) : (State.portState s p was).kept = s.kept := by
  unfold State.portState; dsimp only; (repeat' split) <;> (try rw [foldl_kept]) <;> intros <;> (repeat' split) <;> simp_all [eq_pair_iff]

@[simp] theorem State.declareDown_kept (s : State) (p : Nat) (cause : Nat) (next : LaneSt) :
    (State.declareDown s p cause next).kept = s.kept := by
  unfold State.declareDown; (repeat' split) <;> simp

@[simp] theorem State.startReplay_kept (s : State) (p : Nat) (e : BitVec 12) : (State.startReplay s p e).kept = s.kept := by
  unfold State.startReplay; simp; repeat (split <;> simp)

@[simp] theorem State.wiringState_kept (s : State) (p : Nat) (ok : Bool) (wasFault : Bool) :
    (State.wiringState s p ok wasFault).kept = s.kept := by
  simp [State.wiringState]

@[simp] theorem State.applyWiring_kept (s : State) (p : Nat) (ok : Bool) (wasFault : Bool) :
    (State.applyWiring s p ok wasFault).kept = s.kept := by
  simp [State.applyWiring]

@[simp] theorem State.settleWiring_kept (s : State) (p : Nat) (wasFault : Bool) : (State.settleWiring s p wasFault).kept = s.kept := by
  simp [State.settleWiring]

@[simp] theorem State.initialReturn_kept (s : State) (p : Nat) : (State.initialReturn s p).kept = s.kept := by
  simp [State.initialReturn]

@[simp] theorem State.discardBegun_kept (s : State) (o : Nat) (pid : Nat) : (State.discardBegun s o pid).kept = s.kept := by
  unfold State.discardBegun; simp; intros; (repeat' split) <;> simp

@[simp] theorem State.freshStart_kept (s : State) (p : Nat) : (State.freshStart s p).kept = s.kept := by
  simp [State.freshStart]

@[simp] theorem State.resumeLink_kept (s : State) (p : Nat) (rx : BitVec 12) : (State.resumeLink s p rx).kept = s.kept := by
  simp [State.resumeLink]

@[simp] theorem State.linkUp_kept (s : State) (p : Nat) (i : InitInfo) (fresh : Bool) : (State.linkUp s p i fresh).kept = s.kept := by
  unfold State.linkUp; split <;> simp

@[simp] theorem State.enterInit_kept (s : State) (p : Nat) : (State.enterInit s p).kept = s.kept := by
  unfold State.enterInit; simp; repeat (split <;> simp)

@[simp] theorem State.flushPort_kept (s : State) (p : Nat) : (State.flushPort s p).kept = s.kept := by
  unfold State.flushPort; (repeat' split) <;> (try simp) <;> (repeat' (first | split | rw [foldl_kept] | (intro _ _))) <;> simp

@[simp] theorem State.sendSlot_kept (s : State) (p : Nat) (c : RCell) : (State.sendSlot s p c).kept = s.kept := by
  unfold State.sendSlot; split <;> simp

@[simp] theorem State.applyGate_kept (s : State) (p : Nat) : (State.applyGate s p).kept = s.kept := by
  simp [State.applyGate]

@[simp] theorem State.gateOff_kept (s : State) (p : Nat) : (State.gateOff s p).kept = s.kept := by
  unfold State.gateOff; split <;> simp

@[simp] theorem State.updGate_kept (s : State) (p : Nat) (f : Gate → Gate) : (State.updGate s p f).kept = s.kept := by
  simp [State.updGate]

@[simp] theorem State.present_kept (s : State) (o : Nat) (reqs : List Request) : (State.present s o reqs).1.kept = s.kept := by
  simp [State.present]

@[simp] theorem State.iterate_kept (s : State) (reqs : List Request) (orders : List (Nat × List Nat)) (move : Bool) (done : List Match) :
    (State.iterate s reqs orders move done).1.kept = s.kept := by
  unfold State.iterate; dsimp only
  rw [foldl_fst_kept]
  intro s b; (repeat' split) <;> simp

@[simp] theorem State.charge_kept (s : State) (o : Nat) (c : Nat) (l : Nat) : (State.charge s o c l).kept = s.kept := by
  simp [State.charge]

@[simp] theorem State.cross_kept (s : State) (reqs : List Request) (m : Match) : (State.cross s reqs m).kept = s.kept := by
  unfold State.cross; (repeat' split) <;> simp

@[simp] theorem State.token_kept (s : State) : (State.token s).kept = s.kept := by
  simp [State.token]

@[simp] theorem State.emitLater_kept (s : State) (x : Nat) (b : BitVec 1024) : (State.emitLater s x b).kept = s.kept := by
  unfold State.emitLater; (repeat' split) <;> simp

@[simp] theorem State.emitFirst_kept (s : State) (x : Nat) (q : UnitPkt) (b : BitVec 1024) : (State.emitFirst s x q b).1.kept = s.kept := by
  unfold State.emitFirst; dsimp only; (repeat' split) <;> simp

@[simp] theorem State.unitEmit_kept (s : State) (u : Nat) : (State.unitEmit s u).kept = s.kept := by
  unfold State.unitEmit; dsimp only; (repeat' split) <;> simp_all [eq_pair_iff]

@[simp] theorem State.unitsEmit_kept (s : State) : (State.unitsEmit s).kept = s.kept := by
  simp [State.unitsEmit]

@[simp] theorem State.trackWire_kept (s : State) (p : Nat) (e : EgCell) : (State.trackWire s p e).kept = s.kept := by
  unfold State.trackWire; split <;> simp

@[simp] theorem State.sendEgress_kept (s : State) (p : Nat) (n : Nat) : (State.sendEgress s p n).kept = s.kept := by
  unfold State.sendEgress; simp; repeat (split <;> simp)

@[simp] theorem State.stampBypass_kept (s : State) (p : Nat) (m : BypassMsg) : (State.stampBypass s p m).1.kept = s.kept := by
  unfold State.stampBypass; repeat' split
  all_goals simp [*]

@[simp] theorem State.stampAll_kept (s : State) (p : Nat) (y2 : List BypassMsg) : (State.stampAll s p y2).1.kept = s.kept := by
  fun_induction State.stampAll s p y2 <;> simp_all [eq_pair_iff]

@[simp] theorem State.transmit_kept (s : State) (p : Nat) : (State.transmit s p).kept = s.kept := by
  unfold State.transmit; simp; intros; (repeat' split) <;> simp

@[simp] theorem State.redUpdate_kept (s : State) : (State.redUpdate s).kept = s.kept := by
  simp [State.redUpdate]

end Sys2Proof.Machine
end

