-- ==== Sys2Proof/Laws/KeptHost.lean ====
section
/-! SUPPORT. The frame of `Kept` over engines, translation, counting and the rings. -/

namespace Sys2Proof.Machine

@[simp] theorem State.updEngines_kept (s : State) (f : Engines → Engines) : (State.updEngines s f).kept = s.kept := by
  simp [State.updEngines]

@[simp] theorem State.bindStations_kept (s : State) (sl : Nat) (e : Nat) : (State.bindStations s sl e).kept = s.kept := by
  simp [State.bindStations]

@[simp] theorem State.addItem_kept (s : State) (i : Item) : (State.addItem s i).kept = s.kept := by
  simp [State.addItem]

@[simp] theorem State.addItemFront_kept (s : State) (i : Item) : (State.addItemFront s i).kept = s.kept := by
  simp [State.addItemFront]

@[simp] theorem State.updItem_kept (s : State) (id : Nat) (f : Item → Item) : (State.updItem s id f).kept = s.kept := by
  simp [State.updItem]

@[simp] theorem State.dropItem_kept (s : State) (id : Nat) : (State.dropItem s id).kept = s.kept := by
  simp [State.dropItem]

@[simp] theorem State.trackItem_kept (s : State) (i : Item) (f : Track → Track) : (State.trackItem s i f).kept = s.kept := by
  unfold State.trackItem; split <;> simp

@[simp] theorem State.toDeque_kept (s : State) (id : Nat) (e : Nat) : (State.toDeque s id e).kept = s.kept := by
  simp [State.toDeque]

@[simp] theorem State.markEntry_kept (s : State) (n : Nat) (pos : Nat) (st : EntrySt) : (State.markEntry s n pos st).kept = s.kept := by
  unfold State.markEntry; split <;> simp

@[simp] theorem State.chargeVt_kept (s : State) (k : Nat) (sl : Nat) (cost : Nat) : (State.chargeVt s k sl cost).kept = s.kept := by
  simp [State.chargeVt]

@[simp] theorem State.spendTokens_kept (s : State) (sl : Nat) : (State.spendTokens s sl).kept = s.kept := by
  simp [State.spendTokens]

@[simp] theorem State.otherItem_kept (s : State) (k : Nat) (sl : Nat) (cost : Nat) : (State.otherItem s k sl cost).kept = s.kept := by
  simp [State.otherItem]

@[simp] theorem State.stationItem_kept (s : State) (x : Nat) (cost : Nat) : (State.stationItem s x cost).kept = s.kept := by
  simp [State.stationItem]

@[simp] theorem State.admit1_kept (s : State) (k : Nat) : (State.admit1 s k).kept = s.kept := by
  unfold State.admit1; simp; intros; (repeat' split) <;> simp

@[simp] theorem State.take_kept (s : State) (e : Nat) : (State.take s e).kept = s.kept := by
  unfold State.take; repeat' split
  all_goals simp [*]

@[simp] theorem State.markStolen_kept (s : State) (i : Item) (remote : Bool) : (State.markStolen s i remote).kept = s.kept := by
  simp [State.markStolen]

@[simp] theorem State.steal_kept (s : State) (thief : Nat) (victim : Nat) : (State.steal s thief victim).kept = s.kept := by
  simp [State.steal]

@[simp] theorem State.stolenArrives_kept (s : State) (id : Nat) (e : Nat) : (State.stolenArrives s id e).kept = s.kept := by
  unfold State.stolenArrives; (repeat' split) <;> simp

@[simp] theorem State.park_kept (s : State) (e : Nat) (c : ParkCause) : (State.park s e c).kept = s.kept := by
  unfold State.park; (repeat' split) <;> simp

@[simp] theorem State.entryIn_kept (s : State) (n : Nat) (pos : Nat) (bytes : List Byte) (pushed : Bool) :
    (State.entryIn s n pos bytes pushed).kept = s.kept := by
  unfold State.entryIn; repeat (split <;> simp)

@[simp] theorem State.parseRaw_kept (s : State) (n : Nat) (pushed : Bool) (y3 : Nat) : (State.parseRaw s n pushed y3).kept = s.kept := by
  induction y3 generalizing s with
  | zero => rfl
  | succ n ih => unfold State.parseRaw; (repeat' split) <;> simp [ih]

@[simp] theorem State.gotSlots_kept (s : State) (n : Nat) (pos : Nat) (data : List Byte) (pushed : Bool) :
    (State.gotSlots s n pos data pushed).kept = s.kept := by
  unfold State.gotSlots; split <;> simp

@[simp] theorem State.setLock_kept (s : State) (n : Nat) (w : BitVec 32) : (State.setLock s n w).kept = s.kept := by
  simp [State.setLock]

@[simp] theorem State.lockWrite_kept (s : State) (n : Nat) (sl : Nat) (master : Nat) (w : BitVec 32) :
    (State.lockWrite s n sl master w).kept = s.kept := by
  simp [State.lockWrite]

@[simp] theorem State.abandonLocks_kept (s : State) (held : Nat → Nat → Bool) : (State.abandonLocks s held).kept = s.kept := by
  simp [State.abandonLocks]

@[simp] theorem State.rehome_kept (s : State) (k : Nat) : (State.rehome s k).kept = s.kept := by
  simp [State.rehome]

@[simp] theorem State.engineOut_kept (s : State) (e : Nat) : (State.engineOut s e).kept = s.kept := by
  unfold State.engineOut; repeat (split <;> simp)

@[simp] theorem State.updTrans_kept (s : State) (f : Trans → Trans) : (State.updTrans s f).kept = s.kept := by
  simp [State.updTrans]

@[simp] theorem State.setWays_kept (s : State) (n : Nat) (w : List TSlot) : (State.setWays s n w).kept = s.kept := by
  simp [State.setWays]

@[simp] theorem State.tlbLookup_kept (s : State) (sl : Nat) (stage : Nat) (x : Nat) : (State.tlbLookup s sl stage x).1.kept = s.kept := by
  unfold State.tlbLookup; split <;> simp

@[simp] theorem State.tlbRemove_kept (s : State) (p : TSlot → Bool) : (State.tlbRemove s p).kept = s.kept := by
  simp [State.tlbRemove]

@[simp] theorem State.memFault_kept (s : State) (a : Nat) : (State.memFault s a).kept = s.kept := by
  unfold State.memFault; split <;> simp

@[simp] theorem State.tfault_kept (s : State) (a : Access) (stage : Nat) (lv : Nat) (cause : Nat) (s1 : Nat) (x : Nat) :
    (State.tfault s a stage lv cause s1 x).1.kept = s.kept := by
  unfold State.tfault; repeat (split <;> simp)

@[simp] theorem State.trackMiss_kept (s : State) (who : Who) : (State.trackMiss s who).kept = s.kept := by
  unfold State.trackMiss; split <;> simp

@[simp] theorem State.trapMiss_kept (s : State) (who : Who) (a : Access) (stage : Nat) (x : Nat) (s1 : Nat) :
    (State.trapMiss s who a stage x s1).1.kept = s.kept := by
  unfold State.trapMiss; repeat (split <;> simp)

@[simp] theorem State.walkRead_kept (s : State) (w : Walk) (bus : Nat) : (State.walkRead s w bus).kept = s.kept := by
  simp [State.walkRead]

@[simp] theorem State.putWalk_kept (s : State) (w : Walk) : (State.putWalk s w).kept = s.kept := by
  simp [State.putWalk]

@[simp] theorem State.step2_kept (s : State) (w : Walk) : (State.step2 s w).1.kept = s.kept := by
  unfold State.step2; simp; repeat (split <;> simp)

@[simp] theorem State.miss2_kept (s : State) (who : Who) (a : Access) (x : Nat) (s1 : Nat) : (State.miss2 s who a x s1).1.kept = s.kept := by
  unfold State.miss2; dsimp only; (repeat' split) <;> simp_all [eq_pair_iff]

@[simp] theorem State.xlate2_kept (s : State) (who : Who) (a : Access) (x : Nat) (s1 : Nat) : (State.xlate2 s who a x s1).1.kept = s.kept := by
  unfold State.xlate2; dsimp only; (repeat' split) <;> simp_all [eq_pair_iff]

@[simp] theorem State.step1_kept (s : State) (w : Walk) : (State.step1 s w).1.kept = s.kept := by
  unfold State.step1; dsimp only; (repeat' split) <;> simp_all [eq_pair_iff]

@[simp] theorem State.miss1_kept (s : State) (who : Who) (a : Access) : (State.miss1 s who a).1.kept = s.kept := by
  unfold State.miss1; dsimp only; (repeat' split) <;> simp_all [eq_pair_iff]

@[simp] theorem State.xlate_kept (s : State) (who : Who) (a : Access) : (State.xlate s who a).1.kept = s.kept := by
  unfold State.xlate; dsimp only; (repeat' split) <;> simp_all [eq_pair_iff]

@[simp] theorem State.xlateSpan_kept (s : State) (who : Who) (a : Access) (y3 : Nat) (y4 : Nat) :
    (State.xlateSpan s who a y3 y4).1.kept = s.kept := by
  fun_induction State.xlateSpan s who a y3 y4 <;> simp_all [eq_pair_iff]

@[simp] theorem State.endWaiters_kept (s : State) (ws : List (Who × Access)) (stage : Nat) (lv : Nat) (cause : Nat) (s1 : Nat) (x : Nat) :
    (State.endWaiters s ws stage lv cause s1 x).kept = s.kept := by
  unfold State.endWaiters; (repeat' split) <;> (try simp) <;> (repeat' (first | split | rw [foldl_kept] | (intro _ _))) <;> simp

@[simp] theorem State.resumeWalks_kept (s : State) (ws : List (Who × Access)) : (State.resumeWalks s ws).kept = s.kept := by
  unfold State.resumeWalks; dsimp only; refine foldl_kept (fun s b => ?_) _ _; (repeat' split) <;> simp_all [eq_pair_iff]

@[simp] theorem State.walkFault_kept (s : State) (w : Walk) (cause : Nat) (lv : Nat) : (State.walkFault s w cause lv).kept = s.kept := by
  simp [State.walkFault]

@[simp] theorem State.walkGot_kept (s : State) (w : Walk) (e : BitVec 64) (ok : Bool) : (State.walkGot s w e ok).kept = s.kept := by
  unfold State.walkGot; dsimp only
  have hp : ∀ (t : State) (x : TSlot), ((t.tlbPut x).getD t).kept = t.kept := by
    intro t x; unfold State.tlbPut; dsimp only; split
    · rfl
    · split <;> simp
  (repeat' split) <;> simp_all [eq_pair_iff]

@[simp] theorem State.freedMiss_kept (s : State) : (State.freedMiss s).kept = s.kept := by
  simp [State.freedMiss]

@[simp] theorem State.restartWalk_kept (s : State) (w : Walk) : (State.restartWalk s w).kept = s.kept := by
  unfold State.restartWalk; dsimp only; (repeat' split) <;> simp_all [eq_pair_iff]

@[simp] theorem State.transDrop_kept (s : State) (sl : Nat) : (State.transDrop s sl).kept = s.kept := by
  simp [State.transDrop]

@[simp] theorem State.updCounting_kept (s : State) (f : Counting → Counting) : (State.updCounting s f).kept = s.kept := by
  simp [State.updCounting]

@[simp] theorem State.updSampling_kept (s : State) (f : Sampling → Sampling) : (State.updSampling s f).kept = s.kept := by
  simp [State.updSampling]

@[simp] theorem State.dumpWrite_kept (s : State) (off : Nat) (data : List Byte) : (State.dumpWrite s off data).kept = s.kept := by
  simp [State.dumpWrite]

@[simp] theorem State.nextRecord_kept (s : State) : (State.nextRecord s).kept = s.kept := by
  simp [State.nextRecord]

@[simp] theorem State.dumpRecord_kept (s : State) (off : Nat) (kind : Nat) (flags : Nat) (source : Nat) (t0 : Nat) (t1 : Nat) (first : Nat) (v : List (BitVec 64)) :
    (State.dumpRecord s off kind flags source t0 t1 first v).kept = s.kept := by
  simp [State.dumpRecord]

@[simp] theorem State.captureDue_kept (s : State) : (State.captureDue s).kept = s.kept := by
  simp [State.captureDue]

@[simp] theorem State.writeSnapshot_kept (s : State) (x : Snapshot) : (State.writeSnapshot s x).kept = s.kept := by
  unfold State.writeSnapshot; repeat' split
  all_goals simp [*]

@[simp] theorem State.setCtrWindow_kept (s : State) (k : Nat) (w : CtrWindow) : (State.setCtrWindow s k w).kept = s.kept := by
  simp [State.setCtrWindow]

@[simp] theorem State.writeWindow_kept (s : State) (k : Nat) : (State.writeWindow s k).kept = s.kept := by
  simp [State.writeWindow]

@[simp] theorem State.drainSamples_kept (s : State) (y1 : Nat) : (State.drainSamples s y1).kept = s.kept := by
  fun_induction State.drainSamples s y1 <;> simp_all [eq_pair_iff]

@[simp] theorem State.recordSample_kept (s : State) : (State.recordSample s).kept = s.kept := by
  unfold State.recordSample; repeat (split <;> simp)

@[simp] theorem State.readConsumer_kept (s : State) : (State.readConsumer s).kept = s.kept := by
  unfold State.readConsumer; simp; repeat (split <;> simp)

@[simp] theorem State.gotConsumer_kept (s : State) (v : Nat) : (State.gotConsumer s v).kept = s.kept := by
  simp [State.gotConsumer]

@[simp] theorem State.pagedWrite_kept (s : State) (b : Burst) (y2 : Nat) (y3 : List Byte) : (State.pagedWrite s b y2 y3).kept = s.kept := by
  fun_induction State.pagedWrite s b y2 y3 <;> simp_all [eq_pair_iff]

@[simp] theorem State.sliceRecord_kept (s : State) (sl : Nat) (f : Nat) : (State.sliceRecord s sl f).kept = s.kept := by
  simp [State.sliceRecord]

@[simp] theorem State.sliceRecordFault_kept (s : State) (sl : Nat) : (State.sliceRecordFault s sl).kept = s.kept := by
  simp [State.sliceRecordFault]

@[simp] theorem State.updRings_kept (s : State) (f : Rings → Rings) : (State.updRings s f).kept = s.kept := by
  simp [State.updRings]

@[simp] theorem State.reserveSlot_kept (s : State) (ring : Nat) (stop : Nat) (n : Nat) : (State.reserveSlot s ring stop n).kept = s.kept := by
  simp [State.reserveSlot]

@[simp] theorem State.fillSlot_kept (s : State) (u : RingUnit) : (State.fillSlot s u).kept = s.kept := by
  simp [State.fillSlot]

@[simp] theorem State.ringPut_kept (s : State) (p : RingPkt) (q : RingPkt) : (State.ringPut s p q).kept = s.kept := by
  simp [State.ringPut]

@[simp] theorem State.ringInject_kept (s : State) (ring : Nat) (stop : Nat) (n : Nat) : (State.ringInject s ring stop n).kept = s.kept := by
  unfold State.ringInject; (repeat' split) <;> simp

@[simp] theorem State.ringStep_kept (s : State) : (State.ringStep s).kept = s.kept := by
  simp [State.ringStep]

@[simp] theorem State.ringQueue_kept (s : State) (p : RingPkt) : (State.ringQueue s p).kept = s.kept := by
  simp [State.ringQueue]

@[simp] theorem State.ringSend_kept (s : State) (p : RingPkt) (owner : RingOwner) : (State.ringSend s p owner).kept = s.kept := by
  unfold State.ringSend; dsimp only; (repeat' split) <;> simp_all [eq_pair_iff]

@[simp] theorem State.deliverCells_kept (s : State) (j : Nat) (cls : Nat) : (State.deliverCells s j cls).kept = s.kept := by
  unfold State.deliverCells; simp; repeat (split <;> simp)

@[simp] theorem State.trackSent_kept (s : State) (b : Built) : (State.trackSent s b).kept = s.kept := by
  unfold State.trackSent; split <;> simp

@[simp] theorem State.injectCells_kept (s : State) (stop : Nat) (cls : Nat) : (State.injectCells s stop cls).kept = s.kept := by
  unfold State.injectCells; repeat (split <;> simp)

@[simp] theorem State.ringAbort_kept (s : State) (p : RingPkt) : (State.ringAbort s p).kept = s.kept := by
  unfold State.ringAbort; repeat (split <;> simp)

@[simp] theorem State.innerFirst_kept (s : State) (j : Nat) (p : RingPkt) (b : BitVec 1024) : (State.innerFirst s j p b).1.kept = s.kept := by
  unfold State.innerFirst; simp; intros; (repeat' split) <;> simp

@[simp] theorem State.innerLater_kept (s : State) (j : Nat) (p : RingPkt) (b : BitVec 1024) : (State.innerLater s j p b).kept = s.kept := by
  unfold State.innerLater; simp; intros; (repeat' split) <;> simp

@[simp] theorem State.innerCells_kept (s : State) (j : Nat) (p : RingPkt) : (State.innerCells s j p).1.kept = s.kept := by
  unfold State.innerCells; repeat (split <;> simp)

@[simp] theorem State.blockCells_kept (s : State) (p : RingPkt) : (State.blockCells s p).kept = s.kept := by
  simp [State.blockCells]

@[simp] theorem State.ringResponse_kept (s : State) (p : RingPkt) : (State.ringResponse s p).kept = s.kept := by
  unfold State.ringResponse; simp; intros; (repeat' split) <;> simp

@[simp] theorem State.ringHandOver_kept (s : State) (p : RingPkt) : (State.ringHandOver s p).1.kept = s.kept := by
  unfold State.ringHandOver; (repeat' split) <;> simp

@[simp] theorem State.ringTake_kept (s : State) (p : RingPkt) : (State.ringTake s p).kept = s.kept := by
  simp [State.ringTake]

@[simp] theorem State.resetAnswer_kept (s : State) (k : Nat) (p : RingPkt) : (State.resetAnswer s k p).kept = s.kept := by
  unfold State.resetAnswer; split <;> simp

@[simp] theorem State.ringMark_kept (s : State) (p : RingPkt) : (State.ringMark s p).kept = s.kept := by
  simp [State.ringMark]

@[simp] theorem State.ringAccept_kept (s : State) (p : RingPkt) : (State.ringAccept s p).kept = s.kept := by
  simp [State.ringAccept]

@[simp] theorem State.ringCross_kept (s : State) (p : RingPkt) : (State.ringCross s p).1.kept = s.kept := by
  unfold State.ringCross; split <;> simp

@[simp] theorem State.islandWake_kept (s : State) (i : Nat) : (State.islandWake s i).kept = s.kept := by
  unfold State.islandWake; split <;> simp

@[simp] theorem State.islandReset_kept (s : State) (i : Nat) : (State.islandReset s i).kept = s.kept := by
  simp [State.islandReset]

@[simp] theorem State.ringArrive_kept (s : State) (p : RingPkt) (free : Nat) : (State.ringArrive s p free).1.kept = s.kept := by
  unfold State.ringArrive; (repeat' split) <;> simp

@[simp] theorem State.ringRequeue_kept (s : State) (p : RingPkt) : (State.ringRequeue s p).kept = s.kept := by
  unfold State.ringRequeue; split <;> simp

@[simp] theorem State.ringOut_kept (s : State) (r : Nat) : (State.ringOut s r).kept = s.kept := by
  simp [State.ringOut]

end Sys2Proof.Machine
end

