-- ==== Sys2Proof/Laws/KeptTransport.lean ====
section
/-! SUPPORT. The frame of `Kept` over messages, remote memory, collectives and slices. -/

namespace Sys2Proof.Machine

@[simp] theorem State.updRemote_kept (s : State) (f : Remote → Remote) : (State.updRemote s f).kept = s.kept := by
  simp [State.updRemote]

@[simp] theorem State.colour_kept (s : State) (sl : Nat) (cls : Nat) (l : Nat) : (State.colour s sl cls l).1.kept = s.kept := by
  simp [State.colour]

@[simp] theorem State.inject_kept (s : State) (sl : Nat) (stop : Nat) (h : Header) (payload : List Byte) (wait : List (Nat × Nat)) (owner : Option (Nat × Nat)) (charge : Nat) (answer : Bool) :
    (State.inject s sl stop h payload wait owner charge answer).kept = s.kept := by
  unfold State.inject; split <;> simp

@[simp] theorem State.evict_kept (s : State) (p : Peer) : (State.evict s p).kept = s.kept := by
  simp [State.evict]

@[simp] theorem State.reload_kept (s : State) (n : Nat) : (State.reload s n).kept = s.kept := by
  simp [State.reload]

@[simp] theorem State.setPeer_kept (s : State) (p : Peer) : (State.setPeer s p).kept = s.kept := by
  simp [State.setPeer]

@[simp] theorem State.putPeer_kept (s : State) (p : Peer) : (State.putPeer s p).kept = s.kept := by
  unfold State.putPeer; simp; repeat (split <;> simp)

@[simp] theorem State.openPeer_kept (s : State) (sl : Nat) (pr : Pair) : (State.openPeer s sl pr).1.kept = s.kept := by
  unfold State.openPeer; split
  · simp
  · dsimp only; split
    · rfl
    · rename_i s2 h
      have hs : s2.kept = s.kept := by
        revert h; (repeat' split) <;> intro h
        · obtain ⟨x, -, rfl⟩ := Option.map_eq_some_iff.1 h; simp
        · obtain ⟨x, -, rfl⟩ := Option.map_eq_some_iff.1 h; simp
        · cases h; rfl
      split <;> simp [hs]

@[simp] theorem State.rmaEvent_kept (s : State) (sl : Nat) (n : Nat) (source : Nat) (detail : Nat) :
    (State.rmaEvent s sl n source detail).kept = s.kept := by
  unfold State.rmaEvent; split <;> simp

@[simp] theorem State.peerFull_kept (s : State) (sl : Nat) (p : Pair) : (State.peerFull s sl p).kept = s.kept := by
  simp [State.peerFull]

@[simp] theorem State.takeArrival_kept (s : State) (a : Arrived) : (State.takeArrival s a).kept = s.kept := by
  simp [State.takeArrival]

@[simp] theorem State.takeItem_kept (s : State) (a : Arrived) (cost : Nat) : (State.takeItem s a cost).kept = s.kept := by
  simp [State.takeItem]

@[simp] theorem State.holdArrival_kept (s : State) (a : Arrived) (r : XRes) : (State.holdArrival s a r).kept = s.kept := by
  simp [State.holdArrival]

@[simp] theorem State.xlatePieces_kept (s : State) (who : Who) (a : Access) (y3 : List (Nat × Nat)) :
    (State.xlatePieces s who a y3).1.kept = s.kept := by
  fun_induction State.xlatePieces s who a y3 <;> simp_all [eq_pair_iff]

@[simp] theorem State.updEntry_kept (s : State) (n : Nat) (pos : Nat) (f : WqEntry → WqEntry) : (State.updEntry s n pos f).kept = s.kept := by
  unfold State.updEntry; split <;> simp

@[simp] theorem State.gather_kept (s : State) (g : GatherFor) (sp : Spans) : (State.gather s g sp).kept = s.kept := by
  simp [State.gather]

@[simp] theorem State.rankHit_kept (s : State) (sl : Nat) (job : Nat) (rank : Nat) : (State.rankHit s sl job rank).1.kept = s.kept := by
  unfold State.rankHit; split <;> simp

@[simp] theorem State.rankLoad_kept (s : State) (sl : Nat) (job : Nat) (rank : Nat) (v : Nat) :
    (State.rankLoad s sl job rank v).kept = s.kept := by
  simp [State.rankLoad]

@[simp] theorem State.dest_kept (s : State) (w : Wq) (e : WqEntry) : (State.dest s w e).1.kept = s.kept := by
  unfold State.dest; dsimp only; (repeat' split) <;> simp_all [eq_pair_iff]

@[simp] theorem State.setMctx_kept (s : State) (n : Nat) (c : MatchCtx) : (State.setMctx s n c).kept = s.kept := by
  simp [State.setMctx]

@[simp] theorem State.msgBack_kept (s : State) (sl : Nat) (h : Header) (cmd : Nat) (num : Nat) (off : Nat) (ext : Nat) :
    (State.msgBack s sl h cmd num off ext).kept = s.kept := by
  simp [State.msgBack]

@[simp] theorem State.msgAck_kept (s : State) (sl : Nat) (h : Header) (num : Nat) (cause : Nat) :
    (State.msgAck s sl h num cause).kept = s.kept := by
  simp [State.msgAck]

@[simp] theorem State.msgForward_kept (s : State) (sl : Nat) (n : Nat) (pos : Nat) (p : Pair) (pkey : BitVec 16) (cls : Nat) (cmd : Nat) (num : Nat) (off : Nat) (ctx : Nat) (ext : BitVec 32) (payload : List Byte) (wait : List (Nat × Nat)) :
    (State.msgForward s sl n pos p pkey cls cmd num off ctx ext payload wait).kept = s.kept := by
  simp [State.msgForward]

@[simp] theorem State.acceptSent_kept (s : State) (us : List Unacked) : (State.acceptSent s us).kept = s.kept := by
  simp [State.acceptSent]

@[simp] theorem State.failSent_kept (s : State) (p : Pair) (us : List (Unacked × Comp)) : (State.failSent s p us).kept = s.kept := by
  unfold State.failSent; (repeat' split) <;> (try simp) <;> (repeat' (first | split | rw [foldl_kept] | (intro _ _))) <;> simp

@[simp] theorem State.ackSent_kept (s : State) (p : Pair) (cls : Nat) (a : Nat) (c : Nat) : (State.ackSent s p cls a c).kept = s.kept := by
  unfold State.ackSent; (repeat' split) <;> simp

@[simp] theorem State.ackTimeout_kept (s : State) (p : Pair) (cls : Nat) : (State.ackTimeout s p cls).kept = s.kept := by
  unfold State.ackTimeout; repeat (split <;> simp)

@[simp] theorem State.recvDone_kept (s : State) (n : Nat) (pos : Nat) (h : Header) (rank : Nat) (total : Nat) (placed : Nat) (solicit : Bool) (err : Option TFault) :
    (State.recvDone s n pos h rank total placed solicit err).kept = s.kept := by
  unfold State.recvDone; split <;> simp

@[simp] theorem State.recvSpans_kept (s : State) (who : Who) (inbound : Bool) (n : Nat) (pos : Nat) (off : Nat) (len : Nat) :
    (State.recvSpans s who inbound n pos off len).1.kept = s.kept := by
  unfold State.recvSpans; split <;> simp

@[simp] theorem State.grantChunks_kept (s : State) (sl : Nat) (r : RdvRecv) (y3 : Nat) : (State.grantChunks s sl r y3).1.kept = s.kept := by
  induction y3 generalizing s r with
  | zero => rfl
  | succ n ih => unfold State.grantChunks; (repeat' split) <;> simp [ih]

@[simp] theorem State.updRdvR_kept (s : State) (p : Pair) (f : List RdvRecv → List RdvRecv) : (State.updRdvR s p f).kept = s.kept := by
  unfold State.updRdvR; split <;> simp

@[simp] theorem State.updRdvS_kept (s : State) (p : Pair) (f : List RdvSend → List RdvSend) : (State.updRdvS s p f).kept = s.kept := by
  unfold State.updRdvS; split <;> simp

@[simp] theorem State.startRdv_kept (s : State) (sl : Nat) (h : Header) (rank : Nat) (total : Nat) (solicit : Bool) (n : Nat) (pos : Nat) :
    (State.startRdv s sl h rank total solicit n pos).kept = s.kept := by
  unfold State.startRdv; repeat (split <;> simp)

@[simp] theorem State.endRdvR_kept (s : State) (r : RdvRecv) (c : Comp) (detail : Nat) : (State.endRdvR s r c detail).kept = s.kept := by
  unfold State.endRdvR; split <;> simp

@[simp] theorem State.failRdvR_kept (s : State) (sl : Nat) (p : Pair) (r : RdvRecv) (own : Comp) (detail : Nat) (peer : Comp) :
    (State.failRdvR s sl p r own detail peer).kept = s.kept := by
  simp [State.failRdvR]

@[simp] theorem State.failRdvS_kept (s : State) (sl : Nat) (p : Pair) (r : RdvSend) (own : Comp) (detail : Nat) (peer : Comp) :
    (State.failRdvS s sl p r own detail peer).kept = s.kept := by
  simp [State.failRdvS]

@[simp] theorem State.rdvWqGone_kept (s : State) (n : Nat) : (State.rdvWqGone s n).kept = s.kept := by
  simp [State.rdvWqGone]

@[simp] theorem State.wqFail_kept (s : State) (n : Nat) (cause : Nat) : (State.wqFail s n cause).kept = s.kept := by
  simp [State.wqFail]

@[simp] theorem State.sendData_kept (s : State) (sl : Nat) (p : Pair) (r : RdvSend) (y4 : Nat) :
    (State.sendData s sl p r y4).1.kept = s.kept := by
  fun_induction State.sendData s sl p r y4 <;> simp_all [eq_pair_iff]

@[simp] theorem State.storeUnex_kept (s : State) (n : Nat) (sl : Nat) (h : Header) (rank : Nat) (total : Nat) (solicit : Bool) (data : Option (List Byte)) (waiting : Bool) :
    (State.storeUnex s n sl h rank total solicit data waiting).1.kept = s.kept := by
  unfold State.storeUnex; dsimp only; (repeat' split) <;> simp_all [eq_pair_iff]

@[simp] theorem State.breakChan_kept (s : State) (sl : Nat) (p : Peer) (h : Header) (ch : RecvChan) (cause : Nat) :
    (State.breakChan s sl p h ch cause).kept = s.kept := by
  simp [State.breakChan]

@[simp] theorem State.channel_kept (s : State) (sl : Nat) (p : Peer) (h : Header) : (State.channel s sl p h).1.kept = s.kept := by
  simp [State.channel]

@[simp] theorem State.tookMsg_kept (s : State) (h : Header) : (State.tookMsg s h).kept = s.kept := by
  unfold State.tookMsg; split <;> simp

@[simp] theorem State.recordSpan_kept (s : State) (sl : Nat) (k : Nat) (kind : AccKind) : (State.recordSpan s sl k kind).1.kept = s.kept := by
  unfold State.recordSpan; split <;> simp

@[simp] theorem State.readRecord_kept (s : State) (sl : Nat) (k : Nat) : (State.readRecord s sl k).1.kept = s.kept := by
  unfold State.readRecord; (repeat' split) <;> simp_all [eq_pair_iff]

@[simp] theorem State.freeRec_kept (s : State) (sl : Nat) (k : Nat) : (State.freeRec s sl k).1.kept = s.kept := by
  unfold State.freeRec; (repeat' split) <;> simp_all [eq_pair_iff]

@[simp] theorem State.refill_kept (s : State) (n : Nat) (sl : Nat) (fuel : Nat) : (State.refill s n sl fuel).kept = s.kept := by
  induction fuel generalizing s with
  | zero => rfl
  | succ k ih =>
    unfold State.refill
    split
    · rfl
    · split
      · rfl
      · split
        rename_i h
        have h1 := congrArg State.kept (eq_pair_iff.1 h).1
        rw [State.readRecord_kept] at h1
        split
        · exact h1
        · rw [ih]; simp [h1]

@[simp] theorem State.endWalk_kept (s : State) (n : Nat) : (State.endWalk s n).kept = s.kept := by
  unfold State.endWalk; dsimp only; (repeat' split) <;> simp

@[simp] theorem State.dropUnex_kept (s : State) (n : Nat) (id : Nat) : (State.dropUnex s n id).kept = s.kept := by
  simp [State.dropUnex]

@[simp] theorem State.giveUnex_kept (s : State) (n : Nat) (sl : Nat) (u : Unexpected) (wq : Nat) (pos : Nat) :
    (State.giveUnex s n sl u wq pos).1.kept = s.kept := by
  unfold State.giveUnex; dsimp only; (repeat' split) <;> simp_all [eq_pair_iff]

@[simp] theorem State.binRead_kept (s : State) (id : Nat) (data : List Byte) : (State.binRead s id data).kept = s.kept := by
  unfold State.binRead; repeat' split
  all_goals simp [*]

@[simp] theorem State.putRop_kept (s : State) (o : ROp) : (State.putRop s o).kept = s.kept := by
  simp [State.putRop]

@[simp] theorem State.dropRop_kept (s : State) (n : Nat) (pos : Nat) : (State.dropRop s n pos).kept = s.kept := by
  simp [State.dropRop]

@[simp] theorem State.sendRequest_kept (s : State) (o : ROp) (m : RMsg) (i : Nat) (e : WqEntry) (payload : List Byte) (wait : List (Nat × Nat)) :
    (State.sendRequest s o m i e payload wait).kept = s.kept := by
  simp [State.sendRequest]

@[simp] theorem State.requestData_kept (s : State) (o : ROp) (m : RMsg) (i : Nat) (w : Wq) (e : WqEntry) :
    (State.requestData s o m i w e).1.kept = s.kept := by
  unfold State.requestData; dsimp only; (repeat' split) <;> simp_all [eq_pair_iff]

@[simp] theorem State.putMsg_kept (s : State) (p : Pair) (m : RMsg) : (State.putMsg s p m).kept = s.kept := by
  unfold State.putMsg; split <;> simp

@[simp] theorem State.newMsg_kept (s : State) (p : Peer) (m : RMsg) : (State.newMsg s p m).kept = s.kept := by
  simp [State.newMsg]

@[simp] theorem State.answerSpans_kept (s : State) (m : RMsg) (w : Wq) (e : WqEntry) : (State.answerSpans s m w e).1.kept = s.kept := by
  unfold State.answerSpans; dsimp only; (repeat' split) <;> simp_all [eq_pair_iff]

@[simp] theorem State.addSegment_kept (s : State) (n : Nat) (pos : Nat) : (State.addSegment s n pos).kept = s.kept := by
  unfold State.addSegment; split <;> simp

@[simp] theorem State.resumeOps_kept (s : State) (p : Pair) : (State.resumeOps s p).kept = s.kept := by
  simp [State.resumeOps]

@[simp] theorem State.settleOp_kept (s : State) (n : Nat) (pos : Nat) : (State.settleOp s n pos).kept = s.kept := by
  unfold State.settleOp; simp; intros; (repeat' split) <;> simp

@[simp] theorem State.failOp_kept (s : State) (n : Nat) (pos : Nat) (num : Nat) (c : Comp) (detail : Nat) :
    (State.failOp s n pos num c detail).kept = s.kept := by
  unfold State.failOp; repeat' split
  all_goals simp [*]

@[simp] theorem State.endMsg_kept (s : State) (pr : Pair) (m : RMsg) (c : Comp) (value : Nat) :
    (State.endMsg s pr m c value).kept = s.kept := by
  unfold State.endMsg; simp; intros; (repeat' split) <;> simp

@[simp] theorem State.refuseKey_kept (s : State) (o : ROp) (p : Peer) : (State.refuseKey s o p).kept = s.kept := by
  simp [State.refuseKey]

@[simp] theorem State.sendAgain_kept (s : State) (o : ROp) (m : RMsg) (i : Nat) (w : Wq) (e : WqEntry) :
    (State.sendAgain s o m i w e).1.kept = s.kept := by
  unfold State.sendAgain; dsimp only; (repeat' split) <;> simp_all [eq_pair_iff]

@[simp] theorem State.sendMore_kept (s : State) (o : ROp) (m : RMsg) (w : Wq) (e : WqEntry) : (State.sendMore s o m w e).1.kept = s.kept := by
  unfold State.sendMore; dsimp only; (repeat' split) <;> simp_all [eq_pair_iff]

@[simp] theorem State.sendFresh_kept (s : State) (o : ROp) (p : Peer) (w : Wq) (e : WqEntry) :
    (State.sendFresh s o p w e).1.kept = s.kept := by
  unfold State.sendFresh; dsimp only; (repeat' split) <;> simp_all [eq_pair_iff]

@[simp] theorem State.pump1_kept (s : State) (o : ROp) (p : Peer) (w : Wq) (e : WqEntry) : (State.pump1 s o p w e).1.kept = s.kept := by
  unfold State.pump1; dsimp only; (repeat' split) <;> simp

@[simp] theorem State.pump_kept (s : State) (n : Nat) (pos : Nat) (y3 : Nat) : (State.pump s n pos y3).1.kept = s.kept := by
  induction y3 generalizing s with
  | zero => rfl
  | succ n ih => unfold State.pump; (repeat' split) <;> simp_all [eq_pair_iff]

@[simp] theorem State.ackPackets_kept (s : State) (pr : Pair) (num : Nat) (ids : List Nat) (echo : Nat) :
    (State.ackPackets s pr num ids echo).kept = s.kept := by
  unfold State.ackPackets; repeat (split <;> simp)

@[simp] theorem State.gotPiece_kept (s : State) (pr : Pair) (num : Nat) (i : Nat) : (State.gotPiece s pr num i).kept = s.kept := by
  unfold State.gotPiece; (repeat' split) <;> simp

@[simp] theorem State.rmaAnswer_kept (s : State) (sl : Nat) (h : Header) (cmd : Nat) (off : Nat) (ext : Nat) (payload : List Byte) (wait : List (Nat × Nat)) :
    (State.rmaAnswer s sl h cmd off ext payload wait).kept = s.kept := by
  simp [State.rmaAnswer]

@[simp] theorem State.sack_kept (s : State) (sl : Nat) (p : Peer) (h : Header) (status : Comp) :
    (State.sack s sl p h status).kept = s.kept := by
  simp [State.sack]

@[simp] theorem State.refuseRma_kept (s : State) (sl : Nat) (h : Header) (status : Comp) : (State.refuseRma s sl h status).kept = s.kept := by
  unfold State.refuseRma; repeat (split <;> simp)

@[simp] theorem State.regionFault_kept (s : State) (sl : Nat) (h : Header) (rkey : Nat) (c : Comp) :
    (State.regionFault s sl h rkey c).kept = s.kept := by
  simp [State.regionFault]

@[simp] theorem State.endTarget_kept (s : State) (sl : Nat) (h : Header) (c : Comp) : (State.endTarget s sl h c).kept = s.kept := by
  unfold State.endTarget; split <;> simp

@[simp] theorem State.failTarget_kept (s : State) (sl : Nat) (h : Header) (rkey : Nat) (c : Comp) :
    (State.failTarget s sl h rkey c).kept = s.kept := by
  unfold State.failTarget; repeat' split
  all_goals simp [*]

@[simp] theorem State.noReceive_kept (s : State) (sl : Nat) (h : Header) : (State.noReceive s sl h).kept = s.kept := by
  simp [State.noReceive]

@[simp] theorem State.judge_kept (s : State) (sl : Option Nat) (h : Header) (again : State → Nat → Peer → State × Judged) (hagain : ∀ v0 v1 v2, (again v0 v1 v2).1.kept = v0.kept) :
    (State.judge s sl h again).1.kept = s.kept := by
  unfold State.judge; dsimp only; (repeat' split) <;> simp_all [eq_pair_iff]

@[simp] theorem State.track_kept (s : State) (h : Header) (pkts : Nat) : (State.track s h pkts).kept = s.kept := by
  unfold State.track; repeat (split <;> simp)

@[simp] theorem State.placed_kept (s : State) (sl : Nat) (h : Header) : (State.placed s sl h).kept = s.kept := by
  unfold State.placed; simp; intros; (repeat' split) <;> simp

@[simp] theorem State.settlePlacing_kept (s : State) : (State.settlePlacing s).kept = s.kept := by
  unfold State.settlePlacing; (repeat' split) <;> (try simp) <;> (repeat' (first | split | rw [foldl_kept] | (intro _ _))) <;> simp

@[simp] theorem State.memoryItem_kept (s : State) (sl : Nat) : (State.memoryItem s sl).kept = s.kept := by
  simp [State.memoryItem]

@[simp] theorem State.newPlacing_kept (s : State) (sl : Nat) (region : Nat) (h : Header) :
    (State.newPlacing s sl region h).1.kept = s.kept := by
  simp [State.newPlacing]

@[simp] theorem State.atomicRead_kept (s : State) (id : Nat) (data : List Byte) : (State.atomicRead s id data).kept = s.kept := by
  unfold State.atomicRead; simp; intros; (repeat' split) <;> simp

@[simp] theorem State.updColls_kept (s : State) (f : Colls → Colls) : (State.updColls s f).kept = s.kept := by
  simp [State.updColls]

@[simp] theorem State.setColl_kept (s : State) (n : Nat) (c : Coll) : (State.setColl s n c).kept = s.kept := by
  simp [State.setColl]

@[simp] theorem State.updColl_kept (s : State) (n : Nat) (f : Coll → Coll) : (State.updColl s n f).kept = s.kept := by
  simp [State.updColl]

@[simp] theorem State.unitQueue_kept (s : State) (u : Nat) (q : UnitPkt) : (State.unitQueue s u q).kept = s.kept := by
  simp [State.unitQueue]

@[simp] theorem State.collSend_kept (s : State) (n : Nat) (p : Nat) (cmd : Nat) (off : Nat) (ext : Nat) (payload : List Byte) :
    (State.collSend s n p cmd off ext payload).kept = s.kept := by
  unfold State.collSend; (repeat' split) <;> simp

@[simp] theorem State.collAbortEntries_kept (s : State) (c : Coll) : (State.collAbortEntries s c).kept = s.kept := by
  unfold State.collAbortEntries; (repeat' split) <;> (try simp) <;> (repeat' (first | split | rw [foldl_kept] | (intro _ _))) <;> simp

@[simp] theorem State.collEvent_kept (s : State) (n : Nat) (epoch : Nat) (attempt : Nat) (cause : Nat) (port : Nat) (own : Bool) :
    (State.collEvent s n epoch attempt cause port own).kept = s.kept := by
  simp [State.collEvent]

@[simp] theorem State.collFlood_kept (s : State) (n : Nat) (attempt : Nat) (cause : Nat) (but : Option Nat) :
    (State.collFlood s n attempt cause but).kept = s.kept := by
  simp [State.collFlood]

@[simp] theorem State.collUnstage_kept (s : State) (n : Nat) (c : Coll) : (State.collUnstage s n c).kept = s.kept := by
  simp [State.collUnstage]

@[simp] theorem State.collAbort_kept (s : State) (n : Nat) (cause : Nat) (port : Nat) (but : Option Nat) (own : Bool) :
    (State.collAbort s n cause port but own).kept = s.kept := by
  simp [State.collAbort]

@[simp] theorem State.collSkip_kept (s : State) (n : Nat) (a : Nat) (cause : Nat) (but : Option Nat) :
    (State.collSkip s n a cause but).kept = s.kept := by
  simp [State.collSkip]

@[simp] theorem State.collStart_kept (s : State) (n : Nat) (o : COp) : (State.collStart s n o).kept = s.kept := by
  simp [State.collStart]

@[simp] theorem State.collSettle_kept (s : State) : (State.collSettle s).kept = s.kept := by
  unfold State.collSettle; (repeat' split) <;> (try simp) <;> (repeat' (first | split | rw [foldl_kept] | (intro _ _))) <;> simp

@[simp] theorem State.collCommit_kept (s : State) (n : Nat) (overflow : Bool) (specific : Nat) :
    (State.collCommit s n overflow specific).kept = s.kept := by
  simp [State.collCommit]

@[simp] theorem State.collPlace_kept (s : State) (n : Nat) (m : CMember) (off : Nat) (data : List Byte) :
    (State.collPlace s n m off data).kept = s.kept := by
  unfold State.collPlace; dsimp only; (repeat' split) <;> (try rw [foldl_kept]) <;> intros <;> (repeat' split) <;> simp_all [eq_pair_iff]

@[simp] theorem State.collCopies_kept (s : State) (n : Nat) (j : Nat) (off : Nat) (data : List Byte) :
    (State.collCopies s n j off data).kept = s.kept := by
  unfold State.collCopies; dsimp only; refine foldl_kept (fun s b => ?_) _ _; (repeat' split) <;> simp_all [eq_pair_iff]

@[simp] theorem State.collLand_kept (s : State) (j : Nat) : (State.collLand s j).kept = s.kept := by
  unfold State.collLand; dsimp only; (repeat' split) <;> simp

@[simp] theorem State.collDeliver_kept (s : State) (n : Nat) (j : Nat) (data : List Byte) : (State.collDeliver s n j data).kept = s.kept := by
  simp [State.collDeliver]

@[simp] theorem State.collExps_kept (s : State) (n : Nat) (j : Nat) (words : List Nat) : (State.collExps s n j words).kept = s.kept := by
  simp [State.collExps]

@[simp] theorem State.steepAdd_kept (s : State) (n : Nat) (o : COp) (i : Nat) (x : Nat) : (State.steepAdd s n o i x).1.kept = s.kept := by
  simp [State.steepAdd]

@[simp] theorem State.collTurn_kept (s : State) (n : Nat) (c : Coll) (j : Nat) (y4 : Nat) (y5 : List Nat) :
    (State.collTurn s n c j y4 y5).1.kept = s.kept := by
  fun_induction State.collTurn s n c j y4 y5 <;> simp_all [eq_pair_iff]

@[simp] theorem State.collSummary_kept (s : State) (n : Nat) : (State.collSummary s n).kept = s.kept := by
  unfold State.collSummary; simp; repeat (split <;> simp)

@[simp] theorem State.collFree_kept (s : State) (n : Nat) (j : Nat) (data : Bool) : (State.collFree s n j data).kept = s.kept := by
  simp [State.collFree]

@[simp] theorem State.collFinish_kept (s : State) (n : Nat) (g : CSeg) (data : Bool) : (State.collFinish s n g data).kept = s.kept := by
  unfold State.collFinish; simp; repeat (split <;> simp)

@[simp] theorem State.collRise_kept (n : Nat) (p : Nat) (data : Bool) (y3 : Nat) (y4 : State) :
    (State.collRise n p data y3 y4).kept = y4.kept := by
  fun_induction State.collRise n p data y3 y4 <;> simp_all [eq_pair_iff, -State.collRise_kept]

@[simp] theorem State.collRises_kept (s : State) (n : Nat) : (State.collRises s n).kept = s.kept := by
  unfold State.collRises; split <;> simp

@[simp] theorem State.collCombine_kept (s : State) (n : Nat) (who : Nat) (j : Nat) (data : Bool) (xs : List Nat) :
    (State.collCombine s n who j data xs).kept = s.kept := by
  simp [State.collCombine]

@[simp] theorem State.collTake_kept (s : State) (u : Nat) (pid : Nat) : (State.collTake s u pid).kept = s.kept := by
  simp [State.collTake]

@[simp] theorem State.collCatchUp_kept (s : State) (n : Nat) (a : Nat) (edge : Nat) : (State.collCatchUp s n a edge).kept = s.kept := by
  simp [State.collCatchUp]

@[simp] theorem State.collJudge_kept (s : State) (h : Header) (own : Option (Nat × Nat)) (edges : Nat → List Nat) :
    (State.collJudge s h own edges).1.kept = s.kept := by
  unfold State.collJudge; simp; intros; (repeat' split) <;> simp

@[simp] theorem State.collAdmit_kept (s : State) (h : Header) (edge : Nat) : (State.collAdmit s h edge).1.kept = s.kept := by
  unfold State.collAdmit; simp; intros; (repeat' split) <;> simp

@[simp] theorem State.collContribute_kept (s : State) (n : Nat) (num : Nat) (j : Nat) (data : Bool) (xs : List Nat) :
    (State.collContribute s n num j data xs).kept = s.kept := by
  unfold State.collContribute; dsimp only; (repeat' split) <;> simp

@[simp] theorem State.collMemberFault_kept (s : State) (n : Nat) (m : CMember) (c : Comp) (detail : Nat) :
    (State.collMemberFault s n m c detail).kept = s.kept := by
  simp [State.collMemberFault]

@[simp] theorem State.collSegment_kept (s : State) (n : Nat) (m : CMember) (data : Bool) : (State.collSegment s n m data).kept = s.kept := by
  unfold State.collSegment; dsimp only; (repeat' split) <;> simp_all [eq_pair_iff]

@[simp] theorem State.steepClear_kept (s : State) (n : Nat) (flagsOnly : Bool) : (State.steepClear s n flagsOnly).kept = s.kept := by
  simp [State.steepClear]

@[simp] theorem State.collHalt_kept (s : State) (sl : Nat) : (State.collHalt s sl).kept = s.kept := by
  simp [State.collHalt]

@[simp] theorem State.collReset_kept (s : State) (sl : Nat) : (State.collReset s sl).kept = s.kept := by
  simp [State.collReset]

@[simp] theorem State.collFault_kept (s : State) (wq : Nat) (pos : Nat) (c : Comp) (detail : Nat) (read : Bool) :
    (State.collFault s wq pos c detail read).kept = s.kept := by
  unfold State.collFault; repeat' split
  all_goals simp [*]

@[simp] theorem State.failEntry_kept (s : State) (n : Nat) (pos : Nat) (c : Comp) (detail : Nat) :
    (State.failEntry s n pos c detail).kept = s.kept := by
  unfold State.failEntry; simp; intros; (repeat' split) <;> simp

@[simp] theorem State.entryFail_kept (s : State) (n : Nat) (pos : Nat) (c : Comp) (peer : Comp) (detail : Nat) (read : Bool) :
    (State.entryFail s n pos c peer detail read).kept = s.kept := by
  unfold State.entryFail; repeat' split
  all_goals simp [*]

@[simp] theorem State.entryFault_kept (s : State) (n : Nat) (pos : Nat) (f : TFault) : (State.entryFault s n pos f).kept = s.kept := by
  simp [State.entryFault]

@[simp] theorem State.deliverEnded_kept (s : State) : (State.deliverEnded s).kept = s.kept := by
  unfold State.deliverEnded; (repeat' split) <;> (try simp) <;> (repeat' (first | split | rw [foldl_kept] | (intro _ _))) <;> simp

@[simp] theorem State.unpost_kept (s : State) (p : Posted → Bool) : (State.unpost s p).kept = s.kept := by
  simp [State.unpost]

@[simp] theorem State.forgetWq_kept (s : State) (n : Nat) : (State.forgetWq s n).kept = s.kept := by
  simp [State.forgetWq]

@[simp] theorem State.uncache_kept (s : State) (k : Nat) : (State.uncache s k).kept = s.kept := by
  simp [State.uncache]

@[simp] theorem State.answerClose_kept (s : State) (w : Wq) : (State.answerClose s w).kept = s.kept := by
  unfold State.answerClose; split <;> simp

@[simp] theorem State.removeWq_kept (s : State) (n : Nat) : (State.removeWq s n).kept = s.kept := by
  unfold State.removeWq; split <;> simp

@[simp] theorem State.removeCq_kept (s : State) (n : Nat) : (State.removeCq s n).kept = s.kept := by
  simp [State.removeCq]

@[simp] theorem State.removeEq_kept (s : State) (n : Nat) : (State.removeEq s n).kept = s.kept := by
  simp [State.removeEq]

@[simp] theorem State.poolsReset_kept (s : State) (sl : Nat) : (State.poolsReset s sl).kept = s.kept := by
  simp [State.poolsReset]

@[simp] theorem State.answerSlice_kept (s : State) (sl : Nat) (keep : Nat) : (State.answerSlice s sl keep).kept = s.kept := by
  simp [State.answerSlice]

@[simp] theorem State.abortBuilt_kept (s : State) (test : Built → Bool) : (State.abortBuilt s test).kept = s.kept := by
  simp [State.abortBuilt]

@[simp] theorem State.dropPackets_kept (s : State) (sl : Nat) (all : Bool) : (State.dropPackets s sl all).kept = s.kept := by
  simp [State.dropPackets]

@[simp] theorem State.dropSliceItems_kept (s : State) (sl : Nat) (halt : Bool) : (State.dropSliceItems s sl halt).kept = s.kept := by
  simp [State.dropSliceItems]

@[simp] theorem State.rdvHalt_kept (s : State) (sl : Nat) : (State.rdvHalt s sl).kept = s.kept := by
  simp [State.rdvHalt]

@[simp] theorem State.haltStart_kept (s : State) (sl : Nat) (cause : Nat) (bad : List (Nat × Nat)) :
    (State.haltStart s sl cause bad).kept = s.kept := by
  unfold State.haltStart; simp; intros; (repeat' split) <;> simp

@[simp] theorem State.haltDone_kept (s : State) (sl : Nat) (cause : Nat) : (State.haltDone s sl cause).kept = s.kept := by
  simp [State.haltDone]

@[simp] theorem State.deviceHalt_kept (s : State) : (State.deviceHalt s).kept = s.kept := by
  simp [State.deviceHalt]

@[simp] theorem State.malformed_kept (s : State) (sl : Nat) (n : Nat) (pos : Nat) (code : Nat) :
    (State.malformed s sl n pos code).kept = s.kept := by
  unfold State.malformed; repeat (split <;> simp)

@[simp] theorem State.killQueues_kept (s : State) (sl : Nat) : (State.killQueues s sl).kept = s.kept := by
  simp [State.killQueues]

@[simp] theorem State.resetStart_kept (s : State) (sl : Nat) : (State.resetStart s sl).kept = s.kept := by
  simp [State.resetStart]

@[simp] theorem State.resetDone_kept (s : State) (sl : Nat) : (State.resetDone s sl).kept = s.kept := by
  simp [State.resetDone]

@[simp] theorem State.stopStart_kept (s : State) (sl : Nat) : (State.stopStart s sl).kept = s.kept := by
  simp [State.stopStart]

@[simp] theorem State.sliceSettled_kept (s : State) (sl : Nat) : (State.sliceSettled s sl).kept = s.kept := by
  unfold State.sliceSettled; repeat (split <;> simp)

@[simp] theorem State.refuseLost_kept (s : State) (keys : List Nat) : (State.refuseLost s keys).kept = s.kept := by
  simp [State.refuseLost]

@[simp] theorem State.resetFuncs_kept (s : State) (fs : List Nat) : (State.resetFuncs s fs).kept = s.kept := by
  simp [State.resetFuncs]

end Sys2Proof.Machine
end

