-- ==== Sys2Proof/Laws/KeptCommands.lean ====
section
/-! SUPPORT. The frame of `Kept` over the commands of links, rings, transports, host ports and engines. -/

namespace Sys2Proof.Machine

@[simp] theorem State.bringUpFail_kept (s : State) (p : Nat) (f : LaneFail) : (State.bringUpFail s p f).kept = s.kept := by
  simp [State.bringUpFail]

@[simp] theorem State.startBringUp_kept (s : State) (p : Nat) : (State.startBringUp s p).kept = s.kept := by
  unfold State.startBringUp; repeat (split <;> simp)

@[simp] theorem State.failIn_kept (s : State) (p : Nat) (st : LaneSt) (f : LaneFail) : (State.failIn s p st f).kept = s.kept := by
  unfold State.failIn; split <;> simp

@[simp] theorem State.restartBringUp_kept (s : State) (p : Nat) : (State.restartBringUp s p).kept = s.kept := by
  unfold State.restartBringUp; split <;> simp

@[simp] theorem State.synthLocked_kept (s : State) (p : Nat) : (State.synthLocked s p).kept = s.kept := by
  unfold State.synthLocked; simp; intros; (repeat' split) <;> simp

theorem execSynthLocked_keeps (p : Port) (s : State) : Keeps (execSynthLocked p s) s := by
  unfold execSynthLocked; (repeat' split) <;> exact ⟨_, rfl, by simp⟩

theorem execSynthLockTimeout_keeps (p : Port) (s : State) : Keeps (execSynthLockTimeout p s) s := by
  unfold execSynthLockTimeout; (repeat' split) <;> exact ⟨_, rfl, by simp⟩

theorem execForwardedClockPresent_keeps (p : Port) (rate : ClockRate) (s : State) : Keeps (execForwardedClockPresent p rate s) s := by
  unfold execForwardedClockPresent; refine ⟨_, rfl, ?_⟩; (repeat' split) <;> simp_all [eq_pair_iff]

theorem execClockAcquireTimeout_keeps (p : Port) (s : State) : Keeps (execClockAcquireTimeout p s) s := by
  unfold execClockAcquireTimeout; (repeat' split) <;> exact ⟨_, rfl, by simp⟩

theorem execEyeCentreFound_keeps (p : Port) (trims : List Nat) (s : State) : Keeps (execEyeCentreFound p trims s) s := by
  unfold execEyeCentreFound; refine ⟨_, rfl, ?_⟩; (repeat' split) <;> simp_all [eq_pair_iff]

theorem execPhaseTrimTimeout_keeps (p : Port) (s : State) : Keeps (execPhaseTrimTimeout p s) s := by
  unfold execPhaseTrimTimeout; (repeat' split) <;> exact ⟨_, rfl, by simp⟩

theorem execMarkersFound_keeps (p : Port) (lanes : List Nat) (arrivals : List Nat) (s : State) :
    Keeps (execMarkersFound p lanes arrivals s) s := by
  unfold execMarkersFound; refine ⟨_, rfl, ?_⟩; (repeat' split) <;> simp_all [eq_pair_iff]

theorem execAlignTimeout_keeps (p : Port) (s : State) : Keeps (execAlignTimeout p s) s := by
  unfold execAlignTimeout; (repeat' split) <;> exact ⟨_, rfl, by simp⟩

theorem execFecLocked_keeps (p : Port) (s : State) : Keeps (execFecLocked p s) s := by
  unfold execFecLocked; (repeat' split) <;> exact ⟨_, rfl, by simp⟩

theorem execFecLockTimeout_keeps (p : Port) (s : State) : Keeps (execFecLockTimeout p s) s := by
  unfold execFecLockTimeout; (repeat' split) <;> exact ⟨_, rfl, by simp⟩

theorem execRetryWaitExpiry_keeps (p : Port) (s : State) : Keeps (execRetryWaitExpiry p s) s := by
  unfold execRetryWaitExpiry; (repeat' split) <;> exact ⟨_, rfl, by simp⟩

@[simp] theorem State.synthLoss_kept (s : State) (p : Nat) : (State.synthLoss s p).kept = s.kept := by
  unfold State.synthLoss; simp; repeat (split <;> simp)

theorem execSynthLockLoss_keeps (p : Port) (s : State) : Keeps (execSynthLockLoss p s) s := by
  unfold execSynthLockLoss; (repeat' split) <;> exact ⟨_, rfl, by simp⟩

theorem execForwardedClockLoss_keeps (p : Port) (s : State) : Keeps (execForwardedClockLoss p s) s := by
  unfold execForwardedClockLoss; (repeat' split) <;> exact ⟨_, rfl, by simp⟩

theorem execForwardedClockReturn_keeps (p : Port) (s : State) : Keeps (execForwardedClockReturn p s) s := by
  unfold execForwardedClockReturn; refine ⟨_, rfl, ?_⟩; (repeat' split) <;> simp_all [eq_pair_iff]

@[simp] theorem State.laneLoss_kept (s : State) (p : Nat) (f : LaneFail) : (State.laneLoss s p f).kept = s.kept := by
  unfold State.laneLoss; simp; repeat (split <;> simp)

theorem execTxLockLostTimeout_keeps (p : Port) (s : State) : Keeps (execTxLockLostTimeout p s) s := by
  unfold execTxLockLostTimeout; (repeat' split) <;> exact ⟨_, rfl, by simp⟩

theorem execRxClockLostTimeout_keeps (p : Port) (s : State) : Keeps (execRxClockLostTimeout p s) s := by
  unfold execRxClockLostTimeout; (repeat' split) <;> exact ⟨_, rfl, by simp⟩

theorem execSymbolLockLoss_keeps (p : Port) (s : State) : Keeps (execSymbolLockLoss p s) s := by
  unfold execSymbolLockLoss; (repeat' split) <;> exact ⟨_, rfl, by simp⟩

theorem execSymbolLockRegained_keeps (p : Port) (s : State) : Keeps (execSymbolLockRegained p s) s := by
  unfold execSymbolLockRegained; (repeat' split) <;> exact ⟨_, rfl, by simp⟩

theorem execLockLossExpiry_keeps (p : Port) (s : State) : Keeps (execLockLossExpiry p s) s := by
  unfold execLockLossExpiry; (repeat' split) <;> exact ⟨_, rfl, by simp⟩

@[simp] theorem State.patternStarts_kept (s : State) (p : Nat) (v : Image) : (State.patternStarts s p v).kept = s.kept := by
  simp [State.patternStarts]

@[simp] theorem State.startTest_kept (s : State) (p : Nat) (v : Image) : (State.startTest s p v).1.kept = s.kept := by
  unfold State.startTest; repeat (split <;> simp)

theorem execTestPattern_keeps (q : Req) (p : Port) (v : Image) (s : State) : Keeps (execTestPattern q p v s) s := by
  unfold execTestPattern; (repeat' split) <;> exact ⟨_, rfl, by simp⟩

theorem execTestPatternDeferredStart_keeps (p : Port) (s : State) : Keeps (execTestPatternDeferredStart p s) s := by
  unfold execTestPatternDeferredStart; (repeat' split) <;> exact ⟨_, rfl, by simp⟩

@[simp] theorem State.calmAsk_kept (s : State) (p : Nat) : (State.calmAsk s p).kept = s.kept := by
  unfold State.calmAsk; split <;> simp

theorem execCalmIntervalExpiry_keeps (p : Port) (s : State) : Keeps (execCalmIntervalExpiry p s) s := by
  unfold execCalmIntervalExpiry; (repeat' split) <;> exact ⟨_, rfl, by simp⟩

theorem execCalmRequest_keeps (p : Port) (c : LinkCell) (s : State) : Keeps (execCalmRequest p c s) s := by
  unfold execCalmRequest; (repeat' split) <;> exact ⟨_, rfl, by simp⟩

theorem execCalmGrant_keeps (p : Port) (c : LinkCell) (s : State) : Keeps (execCalmGrant p c s) s := by
  unfold execCalmGrant; refine ⟨_, rfl, ?_⟩; refine State.received_kept _ _ _ _ (fun s => ?_); (repeat' split) <;> simp_all [eq_pair_iff]

theorem execCalmRefuse_keeps (p : Port) (c : LinkCell) (s : State) : Keeps (execCalmRefuse p c s) s := by
  unfold execCalmRefuse; refine ⟨_, rfl, ?_⟩; refine State.received_kept _ _ _ _ (fun s => ?_); (repeat' split) <;> simp_all [eq_pair_iff]

theorem execCalmRetry_keeps (p : Port) (s : State) : Keeps (execCalmRetry p s) s := by
  unfold execCalmRetry; (repeat' split) <;> exact ⟨_, rfl, by simp⟩

theorem execCalmWindowStart_keeps (p : Port) (s : State) : Keeps (execCalmWindowStart p s) s := by
  unfold execCalmWindowStart; refine ⟨_, rfl, ?_⟩; (repeat' split) <;> simp_all [eq_pair_iff]

theorem execCalmWindowEnd_keeps (p : Port) (trims : List Nat) (deskew : List Nat) (s : State) :
    Keeps (execCalmWindowEnd p trims deskew s) s := by
  unfold execCalmWindowEnd; (repeat' split) <;> exact ⟨_, rfl, by simp⟩

theorem execLaneCal_keeps (q : Req) (v : Image) (s : State) : Keeps (execLaneCal q v s) s := by
  unfold execLaneCal; (repeat' split) <;> exact ⟨_, rfl, by simp⟩

theorem execLaneCalTimeout_keeps (p : Port) (s : State) : Keeps (execLaneCalTimeout p s) s := by
  unfold execLaneCalTimeout; (repeat' split) <;> exact ⟨_, rfl, by simp⟩

theorem execEqLoad_keeps (q : Req) (v : Image) (s : State) : Keeps (execEqLoad q v s) s := by
  unfold execEqLoad; (repeat' split) <;> exact ⟨_, rfl, by simp⟩

theorem execEqLoadDeferredStart_keeps (p : Port) (s : State) : Keeps (execEqLoadDeferredStart p s) s := by
  unfold execEqLoadDeferredStart; (repeat' split) <;> exact ⟨_, rfl, by simp⟩

@[simp] theorem State.enterDoze_kept (s : State) (p : Nat) : (State.enterDoze s p).kept = s.kept := by
  simp [State.enterDoze]

theorem execDozeIdleExpiry_keeps (p : FabricPort) (s : State) : Keeps (execDozeIdleExpiry p s) s := by
  unfold execDozeIdleExpiry; (repeat' split) <;> exact ⟨_, rfl, by simp⟩

theorem execDozeRequest_keeps (p : Port) (c : LinkCell) (s : State) : Keeps (execDozeRequest p c s) s := by
  unfold execDozeRequest; (repeat' split) <;> exact ⟨_, rfl, by simp⟩

theorem execDozeGrant_keeps (p : Port) (c : LinkCell) (s : State) : Keeps (execDozeGrant p c s) s := by
  unfold execDozeGrant; (repeat' split) <;> exact ⟨_, rfl, by simp⟩

theorem execDozeRefuse_keeps (p : Port) (c : LinkCell) (s : State) : Keeps (execDozeRefuse p c s) s := by
  unfold execDozeRefuse; (repeat' split) <;> exact ⟨_, rfl, by simp⟩

@[simp] theorem State.wakeUp_kept (s : State) (p : Nat) : (State.wakeUp s p).kept = s.kept := by
  unfold State.wakeUp; split <;> simp

theorem execWakeCausePort_keeps (p : Port) (s : State) : Keeps (execWakeCausePort p s) s := by
  unfold execWakeCausePort; (repeat' split) <;> exact ⟨_, rfl, by simp⟩

theorem execWakeTone_keeps (p : Port) (s : State) : Keeps (execWakeTone p s) s := by
  unfold execWakeTone; refine ⟨_, rfl, ?_⟩; (repeat' split) <;> simp_all [eq_pair_iff]

theorem execWakeLocked_keeps (p : Port) (s : State) : Keeps (execWakeLocked p s) s := by
  unfold execWakeLocked; (repeat' split) <;> exact ⟨_, rfl, by simp⟩

theorem execWakeTimeout_keeps (p : Port) (s : State) : Keeps (execWakeTimeout p s) s := by
  unfold execWakeTimeout; (repeat' split) <;> exact ⟨_, rfl, by simp⟩

@[simp] theorem State.laneCtlWrite_kept (s : State) (q : Req) (p : Nat) (v : Image) : (State.laneCtlWrite s q p v).kept = s.kept := by
  unfold State.laneCtlWrite; repeat' split
  all_goals simp [*]

theorem execRetrain_keeps (q : Req) (p : Port) (v : Image) (s : State) : Keeps (execRetrain q p v s) s := by
  unfold execRetrain; (repeat' split) <;> exact ⟨_, rfl, by simp⟩

theorem execWake_keeps (q : Req) (p : Port) (v : Image) (s : State) : Keeps (execWake q p v s) s := by
  unfold execWake; (repeat' split) <;> exact ⟨_, rfl, by simp⟩

theorem execLinkCellTransmit_keeps (p : Port) (s : State) : Keeps (execLinkCellTransmit p s) s := by
  unfold execLinkCellTransmit; (repeat' split) <;> exact ⟨_, rfl, by simp⟩

@[simp] theorem State.sequenced_kept (s : State) (p : Nat) (c : LinkCell) (accept : State → State) (haccept : ∀ v0, (accept v0).kept = v0.kept) :
    (State.sequenced s p c accept).kept = s.kept := by
  unfold State.sequenced; dsimp only; (repeat' split) <;> simp_all [eq_pair_iff]

theorem execDataCellReceive_keeps (p : Port) (c : LinkCell) (fate : CellFate) (s : State) :
    Keeps (execDataCellReceive p c fate s) s := by
  have key : ∀ (s : State) (bad : Bool),
      (s.received p c (fun s => if c.isData then s.sequenced p c (fun s => s.acceptData p c bad) else s)).kept = s.kept :=
    fun s bad => State.received_kept _ _ _ _ (fun s => by
      split
      · exact State.sequenced_kept _ _ _ _ (fun s => State.acceptData_kept _ _ _ _)
      · rfl)
  unfold execDataCellReceive; refine ⟨_, rfl, ?_⟩
  split <;> first
    | exact key _ _
    | (refine (key _ _).trans ?_; simp; done)
    | simp

@[simp] theorem State.tailCheck_kept (s : State) (p : Nat) (c : LinkCell) : (State.tailCheck s p c).kept = s.kept := by
  unfold State.tailCheck; simp; repeat (split <;> simp)

theorem execIdleCellReceive_keeps (p : Port) (c : LinkCell) (s : State) : Keeps (execIdleCellReceive p c s) s := by
  unfold execIdleCellReceive; (repeat' split) <;> exact ⟨_, rfl, by simp⟩

@[simp] theorem State.bypassMsg_kept (s : State) (p : Nat) (m : BypassMsg) : (State.bypassMsg s p m).kept = s.kept := by
  simp [State.bypassMsg]

theorem execBypassCellReceive_keeps (p : Port) (c : LinkCell) (s : State) : Keeps (execBypassCellReceive p c s) s := by
  unfold execBypassCellReceive; (repeat' split) <;> exact ⟨_, rfl, by simp⟩

theorem execLinkInit_keeps (p : Port) (c : LinkCell) (s : State) : Keeps (execLinkInit p c s) s := by
  unfold execLinkInit; (repeat' split) <;> exact ⟨_, rfl, by simp⟩

theorem execLinkInitAck_keeps (p : Port) (c : LinkCell) (s : State) : Keeps (execLinkInitAck p c s) s := by
  unfold execLinkInitAck; refine ⟨_, rfl, ?_⟩; refine State.received_kept _ _ _ _ (fun s => ?_); dsimp only; (repeat' split) <;> simp_all [eq_pair_iff]

theorem execLinkInitResend_keeps (p : Port) (s : State) : Keeps (execLinkInitResend p s) s := by
  unfold execLinkInitResend; (repeat' split) <;> exact ⟨_, rfl, by simp⟩

theorem execInitTimeout_keeps (p : Port) (s : State) : Keeps (execInitTimeout p s) s := by
  unfold execInitTimeout; (repeat' split) <;> exact ⟨_, rfl, by simp⟩

theorem execNak_keeps (p : Port) (c : LinkCell) (s : State) : Keeps (execNak p c s) s := by
  unfold execNak; (repeat' split) <;> exact ⟨_, rfl, by simp⟩

theorem execReplayTimeout_keeps (p : Port) (s : State) : Keeps (execReplayTimeout p s) s := by
  unfold execReplayTimeout; (repeat' split) <;> exact ⟨_, rfl, by simp⟩

theorem execLinkDown_keeps (p : Port) (c : LinkCell) (s : State) : Keeps (execLinkDown p c s) s := by
  unfold execLinkDown; (repeat' split) <;> exact ⟨_, rfl, by simp⟩

theorem execWiringNotice_keeps (p : Port) (c : LinkCell) (s : State) : Keeps (execWiringNotice p c s) s := by
  unfold execWiringNotice; (repeat' split) <;> exact ⟨_, rfl, by simp⟩

theorem execWiringNoticeRepeat_keeps (p : Port) (s : State) : Keeps (execWiringNoticeRepeat p s) s := by
  unfold execWiringNoticeRepeat; (repeat' split) <;> exact ⟨_, rfl, by simp⟩

theorem execAbort_keeps (p : Port) (c : LinkCell) (s : State) : Keeps (execAbort p c s) s := by
  unfold execAbort; (repeat' split) <;> exact ⟨_, rfl, by simp⟩

theorem execErrorRateWindowEnd_keeps (p : Port) (s : State) : Keeps (execErrorRateWindowEnd p s) s := by
  unfold execErrorRateWindowEnd; (repeat' split) <;> exact ⟨_, rfl, by simp⟩

theorem execFlush_keeps (q : Req) (p : Port) (v : Image) (s : State) : Keeps (execFlush q p v s) s := by
  unfold execFlush; (repeat' split) <;> exact ⟨_, rfl, by simp⟩

theorem execFlushDone_keeps (p : Port) (s : State) : Keeps (execFlushDone p s) s := by
  unfold execFlushDone; (repeat' split) <;> exact ⟨_, rfl, by simp⟩

theorem execPressureReportSend_keeps (p : FabricPort) (s : State) : Keeps (execPressureReportSend p s) s := by
  unfold execPressureReportSend; (repeat' split) <;> exact ⟨_, rfl, by simp⟩

@[simp] theorem State.tokenStart_kept (s : State) : (State.tokenStart s).kept = s.kept := by
  simp [State.tokenStart]

theorem execSchedulerToken_keeps (s : State) : Keeps (execSchedulerToken s) s := by
  unfold execSchedulerToken; (repeat' split) <;> exact ⟨_, rfl, by simp⟩

theorem execRedAvgUpdate_keeps (s : State) : Keeps (execRedAvgUpdate s) s := by
  unfold execRedAvgUpdate; (repeat' split) <;> exact ⟨_, rfl, by simp⟩

@[simp] theorem State.roleChanged_kept (s : State) (p : Nat) (old : Nat) : (State.roleChanged s p old).kept = s.kept := by
  simp [State.roleChanged]

theorem execPortRole_keeps (q : Req) (p : FabricPort) (v : Image) (s : State) : Keeps (execPortRole q p v s) s := by
  unfold execPortRole; (repeat' split) <;> exact ⟨_, rfl, by simp⟩

@[simp] theorem State.swapTables_kept (s : State) (a : Reg) (b : Reg) : (State.swapTables s a b).kept = s.kept := by
  simp [State.swapTables]

@[simp] theorem State.copyTable_kept (s : State) (a : Reg) (b : Reg) : (State.copyTable s a b).kept = s.kept := by
  simp [State.copyTable]

theorem execRouteSwap_keeps (q : Req) (v : Image) (s : State) : Keeps (execRouteSwap q v s) s := by
  unfold execRouteSwap; (repeat' split) <;> exact ⟨_, rfl, by simp⟩

theorem execKeyTableSwap_keeps (q : Req) (v : Image) (s : State) : Keeps (execKeyTableSwap q v s) s := by
  unfold execKeyTableSwap; (repeat' split) <;> exact ⟨_, rfl, by simp⟩

theorem execSwapCopyDone_keeps (keys : Bool) (s : State) : Keeps (execSwapCopyDone keys s) s := by
  unfold execSwapCopyDone; (repeat' split) <;> exact ⟨_, rfl, by simp⟩

theorem execKeyInsert_keeps (q : Req) (v : Image) (s : State) : Keeps (execKeyInsert q v s) s := by
  unfold execKeyInsert; refine ⟨_, rfl, ?_⟩; refine State.dictWrite_kept _ _ _ _ _ _ _ _ (fun t => ?_); (repeat' split) <;> simp_all [eq_pair_iff]

theorem execGateLoad_keeps (q : Req) (p : FabricPort) (bytes : List Byte) (s : State) : Keeps (execGateLoad q p bytes s) s := by
  unfold execGateLoad; (repeat' split) <;> exact ⟨_, rfl, by simp⟩

@[simp] theorem State.switchList_kept (s : State) (p : Nat) (t : Nat) : (State.switchList s p t).kept = s.kept := by
  simp [State.switchList]

theorem execGateSwitch_keeps (q : Req) (p : FabricPort) (v : Image) (s : State) : Keeps (execGateSwitch q p v s) s := by
  unfold execGateSwitch; (repeat' split) <;> exact ⟨_, rfl, by simp⟩

theorem execGateListSwitch_keeps (p : FabricPort) (s : State) : Keeps (execGateListSwitch p s) s := by
  unfold execGateListSwitch; (repeat' split) <;> exact ⟨_, rfl, by simp⟩

theorem execGateEntryTransition_keeps (p : FabricPort) (s : State) : Keeps (execGateEntryTransition p s) s := by
  unfold execGateEntryTransition; (repeat' split) <;> exact ⟨_, rfl, by simp⟩

theorem execGateOverride_keeps (q : Req) (p : FabricPort) (k : Slot4) (v : Image) (s : State) :
    Keeps (execGateOverride q p k v s) s := by
  unfold execGateOverride; refine ⟨_, rfl, ?_⟩; refine State.dictWrite_kept _ _ _ _ _ _ _ _ (fun t => ?_); (repeat' split) <;> simp_all [eq_pair_iff]

theorem execGateOverrideStop_keeps (q : Req) (p : FabricPort) (k : Slot4) (v : Image) (s : State) :
    Keeps (execGateOverrideStop q p k v s) s := by
  unfold execGateOverrideStop; (repeat' split) <;> exact ⟨_, rfl, by simp⟩

theorem execGateFitTest_keeps (p : FabricPort) (s : State) : Keeps (execGateFitTest p s) s := by
  unfold execGateFitTest; (repeat' split) <;> exact ⟨_, rfl, by simp⟩

theorem execRingSendRequest_keeps (st : Stop) (a : RingAsk) (s : State) : Keeps (execRingSendRequest st a s) s := by
  unfold execRingSendRequest; (repeat' split) <;> exact ⟨_, rfl, by simp⟩

theorem execRingPacketReturn_keeps (src : Stop) (dst : Stop) (kind : RingKind) (s : State) :
    Keeps (execRingPacketReturn src dst kind s) s := by
  unfold execRingPacketReturn; (repeat' split) <;> exact ⟨_, rfl, by simp⟩

theorem execRingReinject_keeps (src : Stop) (dst : Stop) (kind : RingKind) (s : State) :
    Keeps (execRingReinject src dst kind s) s := by
  unfold execRingReinject; (repeat' split) <;> exact ⟨_, rfl, by simp⟩

theorem execRingStarveReserve_keeps (st : Stop) (r : RingNo) (s : State) : Keeps (execRingStarveReserve st r s) s := by
  unfold execRingStarveReserve; (repeat' split) <;> exact ⟨_, rfl, by simp⟩

theorem execRingStall_keeps (st : Stop) (r : RingNo) (s : State) : Keeps (execRingStall st r s) s := by
  unfold execRingStall; (repeat' split) <;> exact ⟨_, rfl, by simp⟩

@[simp] theorem State.ringCtlWrite_kept (s : State) (q : Req) (v : Image) : (State.ringCtlWrite s q v).kept = s.kept := by
  simp [State.ringCtlWrite]

theorem execRingDisable_keeps (q : Req) (v : Image) (s : State) : Keeps (execRingDisable q v s) s := by
  unfold execRingDisable; (repeat' split) <;> exact ⟨_, rfl, by simp⟩

@[simp] theorem State.msgArrived_kept (s : State) (u : Nat) (cmd : Nat) (f : State → Arrived → Header → State) (hf : ∀ v0 v1 v2, (f v0 v1 v2).kept = v0.kept) :
    (State.msgArrived s u cmd f).kept = s.kept := by
  unfold State.msgArrived; repeat' split
  all_goals simp [*]

@[simp] theorem State.unpostOne_kept (s : State) (n : Nat) (sl : Nat) (r : Posted) : (State.unpostOne s n sl r).kept = s.kept := by
  simp [State.unpostOne]

@[simp] theorem State.takeMsg_kept (s : State) (a : Arrived) (h : Header) (sl : Nat) (n : Nat) (body : Option (List Byte)) :
    (State.takeMsg s a h sl n body).kept = s.kept := by
  unfold State.takeMsg; dsimp only; (repeat' split) <;> simp_all [eq_pair_iff]

@[simp] theorem State.messageIn_kept (s : State) (u : Nat) (cmd : Nat) : (State.messageIn s u cmd).kept = s.kept := by
  unfold State.messageIn
  refine State.msgArrived_kept _ _ _ _ (fun s a h => ?_)
  (repeat' split) <;> simp_all [eq_pair_iff]

theorem execEager_keeps (u : MatchUnit) (s : State) : Keeps (execEager u s) s := by
  unfold execEager; (repeat' split) <;> exact ⟨_, rfl, by simp⟩

theorem execRts_keeps (u : MatchUnit) (s : State) : Keeps (execRts u s) s := by
  unfold execRts; (repeat' split) <;> exact ⟨_, rfl, by simp⟩

theorem execChannelSync_keeps (u : MatchUnit) (s : State) : Keeps (execChannelSync u s) s := by
  unfold execChannelSync; (repeat' split) <;> exact ⟨_, rfl, by simp⟩

@[simp] theorem State.moreData_kept (s : State) (p : Pair) (r : RdvSend) : (State.moreData s p r).kept = s.kept := by
  unfold State.moreData; split <;> simp

theorem execCts_keeps (u : MatchUnit) (s : State) : Keeps (execCts u s) s := by
  unfold execCts; refine ⟨_, rfl, ?_⟩; refine State.msgArrived_kept _ _ _ _ (fun s a h => ?_); dsimp only; (repeat' split) <;> simp_all [eq_pair_iff]

theorem execData_keeps (u : MatchUnit) (s : State) : Keeps (execData u s) s := by
  unfold execData; refine ⟨_, rfl, ?_⟩; refine State.msgArrived_kept _ _ _ _ (fun s a h => ?_); dsimp only; (repeat' split) <;> simp_all [eq_pair_iff]

theorem execDone_keeps (u : MatchUnit) (s : State) : Keeps (execDone u s) s := by
  unfold execDone; refine ⟨_, rfl, ?_⟩; refine State.msgArrived_kept _ _ _ _ (fun s a h => ?_); dsimp only; (repeat' split) <;> simp_all [eq_pair_iff]

theorem execMsgAck_keeps (u : MatchUnit) (s : State) : Keeps (execMsgAck u s) s := by
  unfold execMsgAck; (repeat' split) <;> exact ⟨_, rfl, by simp⟩

theorem execRdvAbort_keeps (u : MatchUnit) (s : State) : Keeps (execRdvAbort u s) s := by
  unfold execRdvAbort; refine ⟨_, rfl, ?_⟩; refine State.msgArrived_kept _ _ _ _ (fun s a h => ?_); dsimp only; (repeat' split) <;> simp_all [eq_pair_iff]

theorem execAckDelayExpiry_keeps (p : Pair) (tc3 : Bool) (s : State) : Keeps (execAckDelayExpiry p tc3 s) s := by
  unfold execAckDelayExpiry; refine ⟨_, rfl, ?_⟩; dsimp only; (repeat' split) <;> simp_all [eq_pair_iff]

theorem execAckTimeout_keeps (p : Pair) (tc3 : Bool) (s : State) : Keeps (execAckTimeout p tc3 s) s := by
  unfold execAckTimeout; (repeat' split) <;> exact ⟨_, rfl, by simp⟩

theorem execRdvTimeout_keeps (p : Pair) (num : MsgNo) (sender : Bool) (s : State) : Keeps (execRdvTimeout p num sender s) s := by
  unfold execRdvTimeout; (repeat' split) <;> exact ⟨_, rfl, by simp⟩

@[simp] theorem State.refuseStored_kept (s : State) (n : Nat) (sl : Nat) (u : Unexpected) : (State.refuseStored s n sl u).kept = s.kept := by
  unfold State.refuseStored; dsimp only; (repeat' split) <;> simp

@[simp] theorem State.walkRecords_kept (s : State) (n : Nat) (sl : Nat) (u : Unexpected) (l : List (Nat × Posted)) :
    (State.walkRecords s n sl u l).kept = s.kept := by
  induction l generalizing s with
  | nil => simp [State.walkRecords]
  | cons x l ih =>
    unfold State.walkRecords
    split <;> rename_i h <;> have h1 := congrArg State.kept (eq_pair_iff.1 h).1 <;> rw [State.readRecord_kept] at h1
    · split
      · split <;> rename_i hg <;> have h2 := congrArg State.kept (eq_pair_iff.1 hg).1 <;> rw [State.giveUnex_kept] at h2
        · exact h2.trans h1
        · simp [h2, h1]
      · rw [ih, h1]
    · simp [h1]
    · simp [h1]
    · exact h1

@[simp] theorem State.walkFor_kept (s : State) (n : Nat) (sl : Nat) (u : Unexpected) : (State.walkFor s n sl u).kept = s.kept := by
  unfold State.walkFor; dsimp only; (repeat' split) <;> simp_all [eq_pair_iff]

theorem execOverflowWalk_keeps (n : MctxNo) (s : State) : Keeps (execOverflowWalk n s) s := by
  unfold execOverflowWalk; refine ⟨_, rfl, ?_⟩; dsimp only; (repeat' split) <;> simp_all [eq_pair_iff]

theorem execRankLoad_keeps (sl : SliceNo) (job : Nat) (rank : Nat) (s : State) : Keeps (execRankLoad sl job rank s) s := by
  unfold execRankLoad; refine ⟨_, rfl, ?_⟩; dsimp only; (repeat' split) <;> simp_all [eq_pair_iff]

@[simp] theorem State.rankInvalWrite_kept (s : State) (q : Req) (sl : Nat) (v : Image) : (State.rankInvalWrite s q sl v).kept = s.kept := by
  simp [State.rankInvalWrite]

theorem execRankInval_keeps (q : Req) (sl : SliceNo) (v : Image) (s : State) : Keeps (execRankInval q sl v s) s := by
  unfold execRankInval; (repeat' split) <;> exact ⟨_, rfl, by simp⟩

@[simp] theorem State.rmaArrived_kept (s : State) (st : Nat) (cmd : Nat) (f : State → Arrived → Header → State) (hf : ∀ v0 v1 v2, (f v0 v1 v2).kept = v0.kept) :
    (State.rmaArrived s st cmd f).kept = s.kept := by
  unfold State.rmaArrived; repeat' split
  all_goals simp [*]

@[simp] theorem sackAgain_kept (h : Header) (s : State) (sl : Nat) (p : Peer) : (sackAgain h s sl p).1.kept = s.kept := by
  simp [sackAgain]

theorem execPutData_keeps (st : Stop) (s : State) : Keeps (execPutData st s) s := by
  unfold execPutData; refine ⟨_, rfl, ?_⟩; refine State.rmaArrived_kept _ _ _ _ (fun s a h => ?_); dsimp only; (repeat' split) <;> simp_all [eq_pair_iff]

theorem execPutNotify_keeps (st : Stop) (s : State) : Keeps (execPutNotify st s) s := by
  unfold execPutNotify; refine ⟨_, rfl, ?_⟩; refine State.rmaArrived_kept _ _ _ _ (fun s a h => ?_); dsimp only; (repeat' split) <;> simp_all [eq_pair_iff]

@[simp] theorem State.getAnswer_kept (s : State) (sl : Nat) (key : Nat) (h : Header) (sp : Spans) (ps : List (Nat × Nat)) (n : Nat) (i : Nat) :
    (State.getAnswer s sl key h sp ps n i).kept = s.kept := by
  fun_induction State.getAnswer s sl key h sp ps n i <;> simp_all [eq_pair_iff]

@[simp] theorem State.readGet_kept (s : State) (a : Arrived) (sl : Nat) (h : Header) : (State.readGet s a sl h).kept = s.kept := by
  unfold State.readGet; dsimp only; (repeat' split) <;> simp_all [eq_pair_iff]

theorem execGetReq_keeps (st : Stop) (s : State) : Keeps (execGetReq st s) s := by
  unfold execGetReq; refine ⟨_, rfl, ?_⟩
  refine State.rmaArrived_kept _ _ _ _ (fun s a h => ?_)
  dsimp only
  split
  · simp
  · split <;> rename_i hj <;>
      (have h1 := congrArg State.kept (eq_pair_iff.1 hj).1
       rw [State.judge_kept _ _ _ _ (fun t n p => by split <;> simp)] at h1
       simp [h1])

theorem execAtomicReq_keeps (st : Stop) (s : State) : Keeps (execAtomicReq st s) s := by
  unfold execAtomicReq; refine ⟨_, rfl, ?_⟩
  refine State.rmaArrived_kept _ _ _ _ (fun s a h => ?_)
  dsimp only
  generalize (if bit h.ext 27 = true then 16 else 8) = size
  split
  · rfl
  split
  · simp
  split <;> rename_i hj <;>
    (have h1 := congrArg State.kept (eq_pair_iff.1 hj).1
     rw [State.judge_kept _ _ _ _ (fun t n p => by (repeat' split) <;> simp)] at h1)
  · simp [h1]
  · split
    · simp [h1]
    · split <;> rename_i hx <;> have h2 := congrArg State.kept (eq_pair_iff.1 hx).1 <;> simp [h1] at h2 <;> simp [h1, h2]

theorem execGetResp_keeps (st : Stop) (s : State) : Keeps (execGetResp st s) s := by
  unfold execGetResp; refine ⟨_, rfl, ?_⟩; refine State.rmaArrived_kept _ _ _ _ (fun s a h => ?_); dsimp only; (repeat' split) <;> simp_all [eq_pair_iff]

theorem execAtomicResp_keeps (st : Stop) (s : State) : Keeps (execAtomicResp st s) s := by
  unfold execAtomicResp; refine ⟨_, rfl, ?_⟩; refine State.rmaArrived_kept _ _ _ _ (fun s a h => ?_); dsimp only; (repeat' split) <;> simp_all [eq_pair_iff]

theorem execSack_keeps (st : Stop) (s : State) : Keeps (execSack st s) s := by
  unfold execSack; refine ⟨_, rfl, ?_⟩; refine State.rmaArrived_kept _ _ _ _ (fun s a h => ?_); dsimp only; (repeat' split) <;> simp_all [eq_pair_iff]

theorem execSackDelayExpiry_keeps (p : Pair) (num : MsgNo) (s : State) : Keeps (execSackDelayExpiry p num s) s := by
  unfold execSackDelayExpiry; (repeat' split) <;> exact ⟨_, rfl, by simp⟩

@[simp] theorem State.resend_kept (s : State) (o : ROp) (w : Wq) (e : WqEntry) (num : Nat) (y5 : Nat) :
    (State.resend s o w e num y5).1.kept = s.kept := by
  fun_induction State.resend s o w e num y5 <;> simp_all [eq_pair_iff, -State.resend_kept]

theorem execRetransmitTimeout_keeps (p : Pair) (num : MsgNo) (s : State) : Keeps (execRetransmitTimeout p num s) s := by
  unfold execRetransmitTimeout; refine ⟨_, rfl, ?_⟩; dsimp only; (repeat' split) <;> simp_all [eq_pair_iff]

@[simp] theorem State.regionWrite_kept (s : State) (q : Req) (n : Nat) (v : Image) : (State.regionWrite s q n v).kept = s.kept := by
  unfold State.regionWrite
  refine State.writeRun_kept _ _ _ _ _ _ _ (fun e o v t => ?_)
  unfold regionRule; dsimp only; (repeat' split) <;> simp

theorem execRegionInvalidate_keeps (q : Req) (n : RegionNo) (v : Image) (s : State) : Keeps (execRegionInvalidate q n v s) s := by
  unfold execRegionInvalidate; (repeat' split) <;> exact ⟨_, rfl, by simp⟩

theorem execTlbLoad_keeps (q : Req) (v : Image) (s : State) : Keeps (execTlbLoad q v s) s := by
  unfold execTlbLoad; refine ⟨_, rfl, ?_⟩
  refine State.dictRunR_kept _ _ _ _ _ _ _ _ _ _ (fun t => ?_)
  unfold State.tlbPut; dsimp only; split
  · rfl
  · split <;> simp

@[simp] theorem State.invalidate_kept (s : State) (x : InvalScope) : (State.invalidate s x).kept = s.kept := by
  simp [State.invalidate]

theorem execTlbInval_keeps (q : Req) (v : Image) (s : State) : Keeps (execTlbInval q v s) s := by
  unfold execTlbInval; (repeat' split) <;> exact ⟨_, rfl, by simp⟩

theorem execTlbInvalDone_keeps (s : State) : Keeps (execTlbInvalDone s) s := by
  unfold execTlbInvalDone; (repeat' split) <;> exact ⟨_, rfl, by simp⟩

@[simp] theorem State.endMiss_kept (s : State) (m : Miss) (cause : Nat) : (State.endMiss s m cause).kept = s.kept := by
  simp [State.endMiss]

@[simp] theorem State.retryMiss_kept (s : State) (m : Miss) : (State.retryMiss s m).kept = s.kept := by
  simp [State.retryMiss]

@[simp] theorem State.retryWrite_kept (s : State) (q : Req) (v : Image) : (State.retryWrite s q v).kept = s.kept := by
  unfold State.retryWrite; dsimp only
  refine State.dictRunR_kept _ _ _ _ _ _ _ _ _ _ (fun t => ?_)
  (repeat' split) <;> simp

theorem execTransRetry_keeps (q : Req) (v : Image) (s : State) : Keeps (execTransRetry q v s) s := by
  unfold execTransRetry; (repeat' split) <;> exact ⟨_, rfl, by simp⟩

theorem execTransRetryFault_keeps (q : Req) (v : Image) (s : State) : Keeps (execTransRetryFault q v s) s := by
  unfold execTransRetryFault; (repeat' split) <;> exact ⟨_, rfl, by simp⟩

@[simp] theorem State.walkRead'_kept (s : State) (id : Nat) (entry : BitVec 64) (ok : Bool) :
    (State.walkRead' s id entry ok).kept = s.kept := by
  unfold State.walkRead'; repeat (split <;> simp)

theorem execWalkReadComplete_keeps (id : Nat) (entry : BitVec 64) (ok : Bool) (s : State) :
    Keeps (execWalkReadComplete id entry ok s) s := by
  unfold execWalkReadComplete; (repeat' split) <;> exact ⟨_, rfl, by simp⟩

theorem execMissTimeout_keeps (id : Nat) (s : State) : Keeps (execMissTimeout id s) s := by
  unfold execMissTimeout; (repeat' split) <;> exact ⟨_, rfl, by simp⟩

@[simp] theorem State.stall_kept (s : State) (e : Nat) (n : Nat) (pos : Nat) (w : Wq) (r : XRes) :
    (State.stall s e n pos w r).kept = s.kept := by
  unfold State.stall; split <;> simp

@[simp] theorem State.fragsReady_kept (s : State) (e : Nat) (n : Nat) (pos : Nat) (w : Wq) (x : WqEntry) :
    (State.fragsReady s e n pos w x).1.kept = s.kept := by
  unfold State.fragsReady; dsimp only; (repeat' split) <;> simp_all [eq_pair_iff]

@[simp] theorem State.execEntry_kept (s : State) (e : Nat) (ops : Nat → Bool) (act : State → Nat → Nat → Wq → WqEntry → State) (hact : ∀ v0 v1 v2 v3 v4, (act v0 v1 v2 v3 v4).kept = v0.kept) :
    (State.execEntry s e ops act).kept = s.kept := by
  unfold State.execEntry; repeat' split
  all_goals simp [*]

@[simp] theorem State.withDest_kept (s : State) (e : Nat) (n : Nat) (pos : Nat) (w : Wq) (x : WqEntry) (act : State → Nat → Nat → State) (hact : ∀ v0 v1 v2, (act v0 v1 v2).kept = v0.kept) :
    (State.withDest s e n pos w x act).kept = s.kept := by
  unfold State.withDest; (repeat' split) <;> simp_all [eq_pair_iff]

@[simp] theorem State.withPeer_kept (s : State) (n : Nat) (pos : Nat) (sl : Nat) (p : Pair) (act : State → Peer → State) (hact : ∀ v0 v1, (act v0 v1).kept = v0.kept) :
    (State.withPeer s n pos sl p act).kept = s.kept := by
  unfold State.withPeer; (repeat' split) <;> simp_all [eq_pair_iff]

theorem execEntryNop_keeps (e : EngineNo) (s : State) : Keeps (execEntryNop e s) s := by
  unfold execEntryNop; (repeat' split) <;> exact ⟨_, rfl, by simp⟩

@[simp] theorem State.sendOn_kept (s : State) (e : Nat) (n : Nat) (pos : Nat) (w : Wq) (x : WqEntry) (ctx : Image) (p : Peer) :
    (State.sendOn s e n pos w x ctx p).kept = s.kept := by
  unfold State.sendOn; dsimp only; (repeat' split) <;> simp_all [eq_pair_iff]

theorem execEntrySend_keeps (e : EngineNo) (s : State) : Keeps (execEntrySend e s) s := by
  unfold execEntrySend; refine ⟨_, rfl, ?_⟩; refine State.execEntry_kept _ _ _ _ (fun s n p w x => ?_); (repeat' split) <;> simp_all [eq_pair_iff]

@[simp] theorem State.postRecv_kept (s : State) (e : Nat) (n : Nat) (pos : Nat) (w : Wq) (x : WqEntry) :
    (State.postRecv s e n pos w x).kept = s.kept := by
  have lv : ∀ t : State, (match t.running e with | some i => t.dropItem i.id | none => t).kept = t.kept := fun t => by split <;> simp
  unfold State.postRecv; dsimp only
  split
  · exact (lv _).trans (by simp)
  · split
    · simp
    · split <;> rename_i h <;> have h1 := congrArg State.kept (eq_pair_iff.1 h).1 <;> rw [State.xlateSpan_kept] at h1
      · simp [h1]
      · rename_i s1 sp
        split
        · rename_i s2 _ _ hs
          have h2 : s2.kept = s1.kept := (congrArg State.kept (eq_pair_iff.1 hs).1).trans (by split <;> simp)
          exact (State.stall_kept _ _ _ _ _ _).trans (h2.trans h1)
        · rename_i s2 _ hs
          have h2 : s2.kept = s1.kept := (congrArg State.kept (eq_pair_iff.1 hs).1).trans (by split <;> simp)
          refine (lv _).trans ?_
          simp [h2, h1]

theorem execEntryRecv_keeps (e : EngineNo) (s : State) : Keeps (execEntryRecv e s) s := by
  unfold execEntryRecv; refine ⟨_, rfl, ?_⟩; refine State.execEntry_kept _ _ _ _ (fun s n p w x => ?_); dsimp only; (repeat' split) <;> simp_all [eq_pair_iff]

@[simp] theorem State.runOp_kept (s : State) (e : Nat) (n : Nat) (pos : Nat) (w : Wq) : (State.runOp s e n pos w).kept = s.kept := by
  unfold State.runOp; dsimp only; (repeat' split) <;> simp_all [eq_pair_iff]

@[simp] theorem State.startOp_kept (s : State) (e : Nat) (n : Nat) (pos : Nat) (w : Wq) (x : WqEntry) :
    (State.startOp s e n pos w x).kept = s.kept := by
  unfold State.startOp; dsimp only; (repeat' split) <;> simp_all [eq_pair_iff]

theorem execEntryPut_keeps (e : EngineNo) (s : State) : Keeps (execEntryPut e s) s := by
  unfold execEntryPut; (repeat' split) <;> exact ⟨_, rfl, by simp⟩

theorem execEntryPutImm_keeps (e : EngineNo) (s : State) : Keeps (execEntryPutImm e s) s := by
  unfold execEntryPutImm; (repeat' split) <;> exact ⟨_, rfl, by simp⟩

theorem execEntryGet_keeps (e : EngineNo) (s : State) : Keeps (execEntryGet e s) s := by
  unfold execEntryGet; (repeat' split) <;> exact ⟨_, rfl, by simp⟩

theorem execEntryAtomic_keeps (e : EngineNo) (s : State) : Keeps (execEntryAtomic e s) s := by
  unfold execEntryAtomic; (repeat' split) <;> exact ⟨_, rfl, by simp⟩

theorem execEntryCollective_keeps (e : EngineNo) (s : State) : Keeps (execEntryCollective e s) s := by
  unfold execEntryCollective; refine ⟨_, rfl, ?_⟩; refine State.execEntry_kept _ _ _ _ (fun s n p w x => ?_); dsimp only; (repeat' split) <;> simp_all [eq_pair_iff]

theorem execEntryControlSend_keeps (e : EngineNo) (s : State) : Keeps (execEntryControlSend e s) s := by
  unfold execEntryControlSend; refine ⟨_, rfl, ?_⟩; refine State.execEntry_kept _ _ _ _ (fun s n p w x => ?_); (repeat' split) <;> simp_all [eq_pair_iff]

theorem execEntrySegment_keeps (e : EngineNo) (s : State) : Keeps (execEntrySegment e s) s := by
  unfold execEntrySegment; refine ⟨_, rfl, ?_⟩; (repeat' split) <;> simp_all [eq_pair_iff]

@[simp] theorem State.collIn_kept (s : State) (u : Nat) (cmd : Nat) (edges : State → Nat → List Nat) (f : State → Nat → Nat → Packet → State) (hf : ∀ v0 v1 v2 v3, (f v0 v1 v2 v3).kept = v0.kept) :
    (State.collIn s u cmd edges f).kept = s.kept := by
  unfold State.collIn; (repeat' split) <;> simp_all [eq_pair_iff]

@[simp] theorem State.collInOp_kept (s : State) (n : Nat) (edge : Nat) (p : Packet) (f : State → Nat → Bool → State) (hf : ∀ v0 v1 v2, (f v0 v1 v2).kept = v0.kept) :
    (State.collInOp s n edge p f).kept = s.kept := by
  unfold State.collInOp; dsimp only; split
  · simp_all [eq_pair_iff]
  · rename_i h; split <;> simp [hf, (eq_pair_iff.1 h).1]

theorem execCollUp_keeps (u : ReduceUnit) (s : State) : Keeps (execCollUp u s) s := by
  unfold execCollUp; (repeat' split) <;> exact ⟨_, rfl, by simp⟩

theorem execCollDown_keeps (u : ReduceUnit) (s : State) : Keeps (execCollDown u s) s := by
  unfold execCollDown; (repeat' split) <;> exact ⟨_, rfl, by simp⟩

theorem execCollSummary_keeps (u : ReduceUnit) (s : State) : Keeps (execCollSummary u s) s := by
  unfold execCollSummary; refine ⟨_, rfl, ?_⟩; refine State.collIn_kept _ _ _ _ _ (fun s n e p => ?_); (repeat' split) <;> simp_all [eq_pair_iff]

theorem execCollAbortReceive_keeps (u : ReduceUnit) (s : State) : Keeps (execCollAbortReceive u s) s := by
  unfold execCollAbortReceive; (repeat' split) <;> exact ⟨_, rfl, by simp⟩

@[simp] theorem State.segmentItem_kept (s : State) (m : CMember) (f : State → State) (hf : ∀ v0, (f v0).kept = v0.kept) :
    (State.segmentItem s m f).kept = s.kept := by
  unfold State.segmentItem; (repeat' split) <;> simp_all [eq_pair_iff]

theorem execCollSegmentSend_keeps (n : CollNo) (m : MemberNo) (exps : Bool) (s : State) :
    Keeps (execCollSegmentSend n m exps s) s := by
  unfold execCollSegmentSend; refine ⟨_, rfl, ?_⟩; dsimp only; (repeat' split) <;> simp_all [eq_pair_iff]

theorem execCollTimeout_keeps (n : CollNo) (s : State) : Keeps (execCollTimeout n s) s := by
  unfold execCollTimeout; refine ⟨_, rfl, ?_⟩
  split
  · rfl
  · dsimp only; split <;> simp

@[simp] theorem State.collAbortWrite_kept (s : State) (q : Req) (v : Image) : (State.collAbortWrite s q v).kept = s.kept := by
  simp [State.collAbortWrite]

theorem execCollAbort_keeps (q : Req) (v : Image) (s : State) : Keeps (execCollAbort q v s) s := by
  unfold execCollAbort; (repeat' split) <;> exact ⟨_, rfl, by simp⟩

@[simp] theorem State.collEpochWrite_kept (s : State) (q : Req) (v : Image) : (State.collEpochWrite s q v).kept = s.kept := by
  simp [State.collEpochWrite]

theorem execCollEpoch_keeps (q : Req) (v : Image) (s : State) : Keeps (execCollEpoch q v s) s := by
  unfold execCollEpoch; (repeat' split) <;> exact ⟨_, rfl, by simp⟩

@[simp] theorem State.collSteepWrite_kept (s : State) (q : Req) (n : Nat) (v : Image) : (State.collSteepWrite s q n v).kept = s.kept := by
  unfold State.collSteepWrite
  refine State.writeRun_kept _ _ _ _ _ _ _ (fun e o v t => ?_)
  unfold collSteepRule; dsimp only; split <;> simp

theorem execCollSteep_keeps (q : Req) (n : CollNo) (v : Image) (s : State) : Keeps (execCollSteep q n v s) s := by
  unfold execCollSteep; (repeat' split) <;> exact ⟨_, rfl, by simp⟩

@[simp] theorem State.collSteepClearWrite_kept (s : State) (q : Req) (v : Image) : (State.collSteepClearWrite s q v).kept = s.kept := by
  simp [State.collSteepClearWrite]

theorem execCollSteepClear_keeps (q : Req) (v : Image) (s : State) : Keeps (execCollSteepClear q v s) s := by
  unfold execCollSteepClear; (repeat' split) <;> exact ⟨_, rfl, by simp⟩

theorem execRingPacketArrive_keeps (src : Stop) (dst : Stop) (kind : RingKind) (hdr : RingHdr) (free : Units40) (s : State) :
    Keeps (execRingPacketArrive src dst kind hdr free s) s := by
  unfold execRingPacketArrive; refine ⟨_, rfl, ?_⟩; dsimp only; (repeat' split) <;> simp_all [eq_pair_iff]

@[simp] theorem State.failPlacing_kept (s : State) (key : Nat) (c : Comp) : (State.failPlacing s key c).kept = s.kept := by
  unfold State.failPlacing; split <;> simp

@[simp] theorem State.ringTimedOut_kept (s : State) (st : Nat) (o : RingOwner) : (State.ringTimedOut s st o).kept = s.kept := by
  unfold State.ringTimedOut; repeat' split
  all_goals simp [*]

theorem execRingTimeout_keeps (st : Stop) (tag : Tag10) (s : State) : Keeps (execRingTimeout st tag s) s := by
  unfold execRingTimeout; refine ⟨_, rfl, ?_⟩; (repeat' split) <;> simp_all [eq_pair_iff]

@[simp] theorem State.flushHost_kept (s : State) (k : Nat) : (State.flushHost s k).kept = s.kept := by
  simp [State.flushHost]

theorem execCrossingReset_keeps (c : Crossing) (entries : Nat) (s : State) : Keeps (execCrossingReset c entries s) s := by
  unfold execCrossingReset; (repeat' split) <;> exact ⟨_, rfl, by simp⟩

@[simp] theorem State.burstFault_kept (s : State) (b : Burst) (f : TFault) : (State.burstFault s b f).kept = s.kept := by
  unfold State.burstFault; simp; intros; (repeat' split) <;> simp

@[simp] theorem State.mbxWrite_kept (s : State) (k : Nat) (l : Nat) (v : BitVec 64) (msg : List Byte) :
    (State.mbxWrite s k l v msg).kept = s.kept := by
  simp [State.mbxWrite]

theorem execMbxSubmit_keeps (h : HostNo) (l : LinkNo) (v : BitVec 64) (msg : List Byte) (s : State) :
    Keeps (execMbxSubmit h l v msg s) s := by
  unfold execMbxSubmit; (repeat' split) <;> exact ⟨_, rfl, by simp⟩

theorem execMbxDoneClear_keeps (h : HostNo) (l : LinkNo) (v : BitVec 64) (s : State) : Keeps (execMbxDoneClear h l v s) s := by
  unfold execMbxDoneClear; (repeat' split) <;> exact ⟨_, rfl, by simp⟩

theorem execBarInvalidWrite_keeps (w : BarSpan) (s : State) :
    Keeps (execBarInvalidWrite w s) s := by
  unfold execBarInvalidWrite; (repeat' split) <;> exact ⟨_, rfl, by simp⟩

@[simp] theorem State.hostHold_kept (s : State) (h : Nat) : (State.hostHold s h).kept = s.kept := by
  unfold State.hostHold; split <;> simp

theorem execHostPerstAssert_keeps (h : HostNo) (s : State) : Keeps (execHostPerstAssert h s) s := by
  unfold execHostPerstAssert; (repeat' split) <;> exact ⟨_, rfl, by simp⟩

@[simp] theorem State.hostRelease_kept (s : State) (h : Nat) : (State.hostRelease s h).kept = s.kept := by
  unfold State.hostRelease; split <;> simp

theorem execHostPerstDeassert_keeps (h : HostNo) (s : State) : Keeps (execHostPerstDeassert h s) s := by
  unfold execHostPerstDeassert; (repeat' split) <;> exact ⟨_, rfl, by simp⟩

theorem execHostLinkReset_keeps (h : HostNo) (l : LinkNo) (k : LinkReset) (s : State) : Keeps (execHostLinkReset h l k s) s := by
  unfold execHostLinkReset; (repeat' split) <;> exact ⟨_, rfl, by simp⟩

theorem execFunctionLevelReset_keeps (f : FuncNo) (s : State) : Keeps (execFunctionLevelReset f s) s := by
  unfold execFunctionLevelReset; (repeat' split) <;> exact ⟨_, rfl, by simp⟩

theorem execWakeCause_keeps (f : FuncNo) (s : State) : Keeps (execWakeCause f s) s := by
  unfold execWakeCause; (repeat' split) <;> exact ⟨_, rfl, by simp⟩

theorem execPmPmeSend_keeps (f : FuncNo) (s : State) : Keeps (execPmPmeSend f s) s := by
  unfold execPmPmeSend; (repeat' split) <;> exact ⟨_, rfl, by simp⟩

theorem execPmcsrD0Write_keeps (f : FuncNo) (s : State) : Keeps (execPmcsrD0Write f s) s := by
  unfold execPmcsrD0Write; (repeat' split) <;> exact ⟨_, rfl, by simp⟩

theorem execPmeEnWrite_keeps (f : FuncNo) (en : Bool) (s : State) : Keeps (execPmeEnWrite f en s) s := by
  unfold execPmeEnWrite; (repeat' split) <;> exact ⟨_, rfl, by simp⟩

theorem execPmeStatusClear_keeps (f : FuncNo) (s : State) : Keeps (execPmeStatusClear f s) s := by
  unfold execPmeStatusClear; (repeat' split) <;> exact ⟨_, rfl, by simp⟩

@[simp] theorem State.linkActive_kept (s : State) (k : Nat) (l : Nat) : (State.linkActive s k l).kept = s.kept := by
  unfold State.linkActive; split <;> simp

theorem execLtrIdle_keeps (h : HostNo) (l : LinkNo) (s : State) : Keeps (execLtrIdle h l s) s := by
  unfold execLtrIdle; (repeat' split) <;> exact ⟨_, rfl, by simp⟩

theorem execL0pMeasure_keeps (h : HostNo) (l : LinkNo) (s : State) : Keeps (execL0pMeasure h l s) s := by
  unfold execL0pMeasure; (repeat' split) <;> exact ⟨_, rfl, by simp⟩

theorem execAspmL1Request_keeps (h : HostNo) (l : LinkNo) (s : State) : Keeps (execAspmL1Request h l s) s := by
  unfold execAspmL1Request; (repeat' split) <;> exact ⟨_, rfl, by simp⟩

theorem execHostLinkStateChange_keeps (h : HostNo) (l : LinkNo) (st : Nat) (width : Nat) (speed : Nat) (cxl : Bool) (s : State) :
    Keeps (execHostLinkStateChange h l st width speed cxl s) s := by
  unfold execHostLinkStateChange; (repeat' split) <;> exact ⟨_, rfl, by simp⟩

theorem execFunctionsReady_keeps (h : HostNo) (l : LinkNo) (s : State) : Keeps (execFunctionsReady h l s) s := by
  unfold execFunctionsReady; (repeat' split) <;> exact ⟨_, rfl, by simp⟩

@[simp] theorem State.firePending_kept (s : State) (f : Nat) : (State.firePending s f).kept = s.kept := by
  unfold State.firePending; simp; repeat (split <;> simp)

theorem execPcieConfigWrite_keeps (f : FuncNo) (w : CfgWrite) (s : State) : Keeps (execPcieConfigWrite f w s) s := by
  unfold execPcieConfigWrite; (repeat' split) <;> exact ⟨_, rfl, by simp⟩

theorem execMsixVectorUnmask_keeps (f : FuncNo) (w : MsixWrite) (s : State) : Keeps (execMsixVectorUnmask f w s) s := by
  unfold execMsixVectorUnmask; (repeat' split) <;> exact ⟨_, rfl, by simp⟩

@[simp] theorem State.barWrite_kept (s : State) (f : Nat) (act : State → Nat → State) (hact : ∀ v0 v1, (act v0 v1).kept = v0.kept) :
    (State.barWrite s f act).kept = s.kept := by
  unfold State.barWrite; repeat' split
  all_goals simp [*]

@[simp] theorem State.ring_kept (s : State) (n : Nat) (w : Wq) (p : Nat) : (State.ring s n w p).kept = s.kept := by
  unfold State.ring; repeat' split
  all_goals simp [*]

theorem execWqDoorbell_keeps (f : FuncNo) (page : PageNo) (slot : SlotNo) (v : BitVec 64) (s : State) :
    Keeps (execWqDoorbell f page slot v s) s := by
  unfold execWqDoorbell; refine ⟨_, rfl, ?_⟩; refine State.barWrite_kept _ _ _ (fun s n => ?_); (repeat' split) <;> simp_all [eq_pair_iff]

theorem execQueueArm_keeps (f : FuncNo) (page : PageNo) (slot : SlotNo) (events : Bool) (v : BitVec 64) (s : State) :
    Keeps (execQueueArm f page slot events v s) s := by
  unfold execQueueArm; refine ⟨_, rfl, ?_⟩; refine State.barWrite_kept _ _ _ (fun s n => ?_); (repeat' split) <;> simp_all [eq_pair_iff]

theorem execPushWrite_keeps (f : FuncNo) (page : PageNo) (slot : SlotNo) (data : List Byte) (s : State) :
    Keeps (execPushWrite f page slot data s) s := by
  unfold execPushWrite; refine ⟨_, rfl, ?_⟩; refine State.barWrite_kept _ _ _ (fun s n => ?_); dsimp only; (repeat' split) <;> simp_all [eq_pair_iff]

@[simp] theorem State.closeDone_kept (s : State) (n : Nat) : (State.closeDone s n).kept = s.kept := by
  unfold State.closeDone; repeat (split <;> simp)

theorem execWqFetch_keeps (n : WqNo) (s : State) : Keeps (execWqFetch n s) s := by
  unfold execWqFetch; (repeat' split) <;> exact ⟨_, rfl, by simp⟩

@[simp] theorem State.gathered_kept (s : State) (g : Gather) : (State.gathered s g).kept = s.kept := by
  unfold State.gathered; (repeat' split) <;> simp

@[simp] theorem State.contextRead_kept (s : State) (kind : Nat) (n : Nat) (data : List Byte) :
    (State.contextRead s kind n data).kept = s.kept := by
  unfold State.contextRead; dsimp only; (repeat' split) <;> simp

@[simp] theorem State.readDone_kept (s : State) (r : HostRead) (data : List Byte) : (State.readDone s r data).kept = s.kept := by
  unfold State.readDone; (repeat' split) <;> simp

theorem execHostReadCompletion_keeps (id : Nat) (data : List Byte) (s : State) : Keeps (execHostReadCompletion id data s) s := by
  unfold execHostReadCompletion; (repeat' split) <;> exact ⟨_, rfl, by simp⟩

@[simp] theorem State.sliceCtlWrite_kept (s : State) (q : Req) (sl : Nat) (v : Image) : (State.sliceCtlWrite s q sl v).kept = s.kept := by
  unfold State.sliceCtlWrite
  refine State.dictRun_kept _ _ _ _ _ _ _ _ (fun t => ?_)
  (repeat' split) <;> simp_all [eq_pair_iff]

theorem execSliceStart_keeps (q : Req) (sl : SliceNo) (s : State) : Keeps (execSliceStart q sl s) s := by
  unfold execSliceStart; (repeat' split) <;> exact ⟨_, rfl, by simp⟩

theorem execSliceRun_keeps (q : Req) (sl : SliceNo) (s : State) : Keeps (execSliceRun q sl s) s := by
  unfold execSliceRun; (repeat' split) <;> exact ⟨_, rfl, by simp⟩

theorem execSliceRecover_keeps (q : Req) (sl : SliceNo) (s : State) : Keeps (execSliceRecover q sl s) s := by
  unfold execSliceRecover; (repeat' split) <;> exact ⟨_, rfl, by simp⟩

theorem execSliceTest_keeps (q : Req) (sl : SliceNo) (s : State) : Keeps (execSliceTest q sl s) s := by
  unfold execSliceTest; (repeat' split) <;> exact ⟨_, rfl, by simp⟩

theorem execSliceStop_keeps (q : Req) (sl : SliceNo) (s : State) : Keeps (execSliceStop q sl s) s := by
  unfold execSliceStop; (repeat' split) <;> exact ⟨_, rfl, by simp⟩

theorem execSliceReset_keeps (q : Req) (sl : SliceNo) (s : State) : Keeps (execSliceReset q sl s) s := by
  unfold execSliceReset; (repeat' split) <;> exact ⟨_, rfl, by simp⟩

theorem execSliceHalt_keeps (q : Req) (sl : SliceNo) (s : State) : Keeps (execSliceHalt q sl s) s := by
  unfold execSliceHalt; (repeat' split) <;> exact ⟨_, rfl, by simp⟩

theorem execSliceStateSettled_keeps (sl : SliceNo) (s : State) : Keeps (execSliceStateSettled sl s) s := by
  unfold execSliceStateSettled; (repeat' split) <;> exact ⟨_, rfl, by simp⟩

@[simp] theorem State.wakeTestWrite_kept (s : State) (q : Req) (sl : Nat) (v : Image) : (State.wakeTestWrite s q sl v).kept = s.kept := by
  unfold State.wakeTestWrite
  refine State.dictWrite_kept _ _ _ _ _ _ _ _ (fun t => ?_)
  dsimp only; split <;> simp

theorem execWakeTest_keeps (q : Req) (sl : SliceNo) (v : Image) (s : State) : Keeps (execWakeTest q sl v s) s := by
  unfold execWakeTest; (repeat' split) <;> exact ⟨_, rfl, by simp⟩

@[simp] theorem State.destroyWq_kept (s : State) (n : Nat) : (State.destroyWq s n).kept = s.kept := by
  unfold State.destroyWq; simp; repeat (split <;> simp)

@[simp] theorem State.queueCmdWrite_kept (s : State) (q : Req) (sl : Nat) (v : Image) : (State.queueCmdWrite s q sl v).kept = s.kept := by
  unfold State.queueCmdWrite
  refine State.dictRun_kept _ _ _ _ _ _ _ _ (fun t => ?_)
  (repeat' split) <;> simp_all [eq_pair_iff]

theorem execCreateWq_keeps (q : Req) (sl : SliceNo) (v : Image) (s : State) : Keeps (execCreateWq q sl v s) s := by
  unfold execCreateWq; (repeat' split) <;> exact ⟨_, rfl, by simp⟩

theorem execCreateCq_keeps (q : Req) (sl : SliceNo) (v : Image) (s : State) : Keeps (execCreateCq q sl v s) s := by
  unfold execCreateCq; (repeat' split) <;> exact ⟨_, rfl, by simp⟩

theorem execCreateEq_keeps (q : Req) (sl : SliceNo) (v : Image) (s : State) : Keeps (execCreateEq q sl v s) s := by
  unfold execCreateEq; (repeat' split) <;> exact ⟨_, rfl, by simp⟩

theorem execDestroyWq_keeps (q : Req) (sl : SliceNo) (v : Image) (s : State) : Keeps (execDestroyWq q sl v s) s := by
  unfold execDestroyWq; (repeat' split) <;> exact ⟨_, rfl, by simp⟩

theorem execDestroyCq_keeps (q : Req) (sl : SliceNo) (v : Image) (s : State) : Keeps (execDestroyCq q sl v s) s := by
  unfold execDestroyCq; (repeat' split) <;> exact ⟨_, rfl, by simp⟩

theorem execDestroyEq_keeps (q : Req) (sl : SliceNo) (v : Image) (s : State) : Keeps (execDestroyEq q sl v s) s := by
  unfold execDestroyEq; (repeat' split) <;> exact ⟨_, rfl, by simp⟩

theorem execResetWq_keeps (q : Req) (sl : SliceNo) (v : Image) (s : State) : Keeps (execResetWq q sl v s) s := by
  unfold execResetWq; (repeat' split) <;> exact ⟨_, rfl, by simp⟩

@[simp] theorem State.updService_kept (s : State) (f : Service → Service) : (State.updService s f).kept = s.kept := by
  simp [State.updService]

@[simp] theorem State.setMemLink_kept (s : State) (m : Nat) (x : MemLink) : (State.setMemLink s m x).kept = s.kept := by
  simp [State.setMemLink]

@[simp] theorem State.judgeDecoder_kept (s : State) (d : Nat) : (State.judgeDecoder s d).kept = s.kept := by
  simp [State.judgeDecoder]

@[simp] theorem State.judgeDecoders_kept (s : State) : (State.judgeDecoders s).kept = s.kept := by
  simp [State.judgeDecoders]

@[simp] theorem State.memRelease_kept (s : State) (k : Nat) : (State.memRelease s k).kept = s.kept := by
  unfold State.memRelease; repeat (split <;> simp)

theorem execMemPerstRelease_keeps (s : State) : Keeps (execMemPerstRelease s) s := by
  unfold execMemPerstRelease; (repeat' split) <;> exact ⟨_, rfl, by simp⟩

theorem execMemLinkTrained_keeps (m : MemLinkNo) (type3 : Bool) (width : Nat) (speed : Nat) (s : State) :
    Keeps (execMemLinkTrained m type3 width speed s) s := by
  unfold execMemLinkTrained; (repeat' split) <;> exact ⟨_, rfl, by simp⟩

theorem execMemoryActive_keeps (m : MemLinkNo) (capacity : BitVec 24) (s : State) : Keeps (execMemoryActive m capacity s) s := by
  unfold execMemoryActive; (repeat' split) <;> exact ⟨_, rfl, by simp⟩

theorem execMemActiveTimeout_keeps (m : MemLinkNo) (s : State) : Keeps (execMemActiveTimeout m s) s := by
  unfold execMemActiveTimeout; (repeat' split) <;> exact ⟨_, rfl, by simp⟩

@[simp] theorem State.memReadFault_kept (s : State) (r : HostRead) : (State.memReadFault s r).1.kept = s.kept := by
  simp [State.memReadFault]

@[simp] theorem State.memReadFail_kept (s : State) (r : HostRead) : (State.memReadFail s r).kept = s.kept := by
  unfold State.memReadFail; simp; intros; (repeat' split) <;> simp

theorem execCxlMemError_keeps (m : MemLinkNo) (read : Option Nat) (s : State) : Keeps (execCxlMemError m read s) s := by
  unfold execCxlMemError; (repeat' split) <;> exact ⟨_, rfl, by simp⟩

@[simp] theorem State.memDown_kept (s : State) (m : Nat) (st : Nat) : (State.memDown s m st).kept = s.kept := by
  simp [State.memDown]

theorem execMemLinkDown_keeps (m : MemLinkNo) (s : State) : Keeps (execMemLinkDown m s) s := by
  unfold execMemLinkDown; (repeat' split) <;> exact ⟨_, rfl, by simp⟩

@[simp] theorem State.settleReleases_kept (s : State) : (State.settleReleases s).kept = s.kept := by
  unfold State.settleReleases; (repeat' split) <;> (try simp) <;> (repeat' (first | split | rw [foldl_kept] | (intro _ _))) <;> simp

@[simp] theorem State.poolWrite_kept (s : State) (q : Req) (p : Nat) (v : Image) : (State.poolWrite s q p v).kept = s.kept := by
  unfold State.poolWrite
  refine State.writeRun_kept _ _ _ _ _ _ _ (fun e o v t => ?_)
  unfold poolRule; dsimp only; (repeat' split) <;> simp

theorem execPoolAssign_keeps (q : Req) (p : PoolNo) (v : Image) (s : State) : Keeps (execPoolAssign q p v s) s := by
  unfold execPoolAssign; (repeat' split) <;> exact ⟨_, rfl, by simp⟩

theorem execPoolRelease_keeps (q : Req) (p : PoolNo) (v : Image) (s : State) : Keeps (execPoolRelease q p v s) s := by
  unfold execPoolRelease; (repeat' split) <;> exact ⟨_, rfl, by simp⟩

theorem execPoolZeroingDone_keeps (p : PoolNo) (s : State) : Keeps (execPoolZeroingDone p s) s := by
  unfold execPoolZeroingDone; (repeat' split) <;> exact ⟨_, rfl, by simp⟩

theorem execDispatchAdmit_keeps (k : ClusterNo) (s : State) : Keeps (execDispatchAdmit k s) s := by
  unfold execDispatchAdmit; (repeat' split) <;> exact ⟨_, rfl, by simp⟩

theorem execEngineTake_keeps (e : EngineNo) (s : State) : Keeps (execEngineTake e s) s := by
  unfold execEngineTake; (repeat' split) <;> exact ⟨_, rfl, by simp⟩

theorem execEngineSteal_keeps (e : EngineNo) (s : State) : Keeps (execEngineSteal e s) s := by
  unfold execEngineSteal; (repeat' split) <;> exact ⟨_, rfl, by simp⟩

@[simp] theorem State.stealRemote_kept (s : State) (thief : Nat) (victim : Nat) : (State.stealRemote s thief victim).kept = s.kept := by
  simp [State.stealRemote]

theorem execEngineRemoteSteal_keeps (e : EngineNo) (s : State) : Keeps (execEngineRemoteSteal e s) s := by
  unfold execEngineRemoteSteal; (repeat' split) <;> exact ⟨_, rfl, by simp⟩

theorem execItemUnpark_keeps (id : Nat) (s : State) : Keeps (execItemUnpark id s) s := by
  unfold execItemUnpark; (repeat' split) <;> exact ⟨_, rfl, by simp⟩

theorem execEngineItemLimit_keeps (e : EngineNo) (s : State) : Keeps (execEngineItemLimit e s) s := by
  unfold execEngineItemLimit; (repeat' split) <;> exact ⟨_, rfl, by simp⟩

theorem execEngineMemoryError_keeps (e : EngineNo) (s : State) : Keeps (execEngineMemoryError e s) s := by
  unfold execEngineMemoryError; (repeat' split) <;> exact ⟨_, rfl, by simp⟩

@[simp] theorem State.arbRefill_kept (s : State) (inst : Nat) : (State.arbRefill s inst).kept = s.kept := by
  simp [State.arbRefill]

theorem execArbiterRefill_keeps (s : State) : Keeps (execArbiterRefill s) s := by
  unfold execArbiterRefill; (repeat' split) <;> exact ⟨_, rfl, by simp⟩

@[simp] theorem State.placeHeads_kept (s : State) (inst : Nat) : (State.placeHeads s inst).kept = s.kept := by
  unfold State.placeHeads
  refine foldl_kept (fun s b => ?_) _ _
  (repeat' split) <;> simp_all [eq_pair_iff]

theorem execArbiterGrant_keeps (i : ArbInst) (s : State) : Keeps (execArbiterGrant i s) s := by
  unfold execArbiterGrant; (repeat' split) <;> exact ⟨_, rfl, by simp⟩

theorem execArbiterPreempt_keeps (i : ArbInst) (sl : SliceNo) (s : State) : Keeps (execArbiterPreempt i sl s) s := by
  unfold execArbiterPreempt; (repeat' split) <;> exact ⟨_, rfl, by simp⟩

theorem execBurstHandover_keeps (i : ArbInst) (s : State) : Keeps (execBurstHandover i s) s := by
  unfold execBurstHandover; (repeat' split) <;> exact ⟨_, rfl, by simp⟩

theorem execLockClaim_keeps (n : LockNo) (sl : SliceNo) (m : LockMaster) (w : BitVec 32) (s : State) :
    Keeps (execLockClaim n sl m w s) s := by
  unfold execLockClaim; (repeat' split) <;> exact ⟨_, rfl, by simp⟩

theorem execLockRelease_keeps (n : LockNo) (sl : SliceNo) (m : LockMaster) (w : BitVec 32) (s : State) :
    Keeps (execLockRelease n sl m w s) s := by
  unfold execLockRelease; (repeat' split) <;> exact ⟨_, rfl, by simp⟩

theorem execLockRead_keeps (n : LockNo) (sl : SliceNo) (m : LockMaster) (s : State) : Keeps (execLockRead n sl m s) s := by
  unfold execLockRead; (repeat' split) <;> exact ⟨_, rfl, by simp⟩

@[simp] theorem State.lockBreakWrite_kept (s : State) (q : Req) (v : Image) : (State.lockBreakWrite s q v).kept = s.kept := by
  simp [State.lockBreakWrite]

theorem execLockBreak_keeps (q : Req) (v : Image) (s : State) : Keeps (execLockBreak q v s) s := by
  unfold execLockBreak; (repeat' split) <;> exact ⟨_, rfl, by simp⟩

end Sys2Proof.Machine
end

