-- ==== Sys2Proof/Laws/KeptDevice.lean ====
section
/-! SUPPORT. The frame of `Kept` over faults, the twin pair, reset, power, the dictionary and management. -/

namespace Sys2Proof.Machine

@[simp] theorem State.updFaults_kept (s : State) (f : Collectors → Collectors) : (State.updFaults s f).kept = s.kept := by
  simp [State.updFaults]

@[simp] theorem State.setSrc_kept (s : State) (n : Nat) (x : FaultSrc) : (State.setSrc s n x).kept = s.kept := by
  simp [State.setSrc]

@[simp] theorem State.updSrc_kept (s : State) (n : Nat) (f : FaultSrc → FaultSrc) : (State.updSrc s n f).kept = s.kept := by
  simp [State.updSrc]

@[simp] theorem State.logRecord_kept (s : State) (r : FaultRec) : (State.logRecord s r).1.kept = s.kept := by
  simp [State.logRecord]

@[simp] theorem State.logDrain_kept (s : State) : (State.logDrain s).kept = s.kept := by
  simp [State.logDrain]

@[simp] theorem State.noticePacket_kept (s : State) (cmd : Nat) (ext : Nat) (payload : List Byte) :
    (State.noticePacket s cmd ext payload).kept = s.kept := by
  simp [State.noticePacket]

@[simp] theorem State.faultNotice_kept (s : State) (kind : Nat) (r : FaultRec) : (State.faultNotice s kind r).kept = s.kept := by
  unfold State.faultNotice; repeat (split <;> simp)

@[simp] theorem State.loadDistress_kept (s : State) (d : Distress) : (State.loadDistress s d).1.kept = s.kept := by
  simp [State.loadDistress]

@[simp] theorem State.alertThrice_kept (s : State) (p : Pulse) : (State.alertThrice s p).kept = s.kept := by
  simp [State.alertThrice]

@[simp] theorem State.distress_kept (s : State) (n : Nat) (rung : Nat) (seq : Nat) : (State.distress s n rung seq).kept = s.kept := by
  unfold State.distress; simp; repeat (split <;> simp)

@[simp] theorem State.isolate_kept (s : State) (u : IsoUnit) : (State.isolate s u).kept = s.kept := by
  unfold State.isolate; (repeat' split) <;> simp

@[simp] theorem State.resume_kept (s : State) (u : IsoUnit) : (State.resume s u).kept = s.kept := by
  unfold State.resume; (repeat' split) <;> simp

@[simp] theorem State.endIsolate_kept (s : State) (n : Nat) : (State.endIsolate s n).kept = s.kept := by
  unfold State.endIsolate; (repeat' split) <;> simp

@[simp] theorem State.haltTenants_kept (s : State) : (State.haltTenants s).kept = s.kept := by
  simp [State.haltTenants]

@[simp] theorem State.ownToTwin_kept (s : State) : (State.ownToTwin s).kept = s.kept := by
  simp [State.ownToTwin]

@[simp] theorem State.surrender_kept (s : State) (cause : Nat) : (State.surrender s cause).kept = s.kept := by
  unfold State.surrender; repeat (split <;> simp)

@[simp] theorem State.silence_kept (s : State) (p : Nat) : (State.silence s p).kept = s.kept := by
  simp [State.silence]

@[simp] theorem State.silenceAll_kept (s : State) : (State.silenceAll s).kept = s.kept := by
  simp [State.silenceAll]

@[simp] theorem State.silentAsk_kept (s : State) : (State.silentAsk s).kept = s.kept := by
  unfold State.silentAsk; simp; repeat (split <;> simp)

@[simp] theorem State.silentRecord_kept (s : State) (cause : Nat) : (State.silentRecord s cause).kept = s.kept := by
  simp [State.silentRecord]

@[simp] theorem State.failSilent_kept (s : State) (cause : Nat) : (State.failSilent s cause).kept = s.kept := by
  unfold State.failSilent; split <;> simp

@[simp] theorem State.srcRecord_kept (s : State) (n : Nat) (kind : Nat) : (State.srcRecord s n kind).1.kept = s.kept := by
  simp [State.srcRecord]

@[simp] theorem State.act_kept (s : State) (n : Nat) (old : Option Nat) (new : Nat) (seq : Nat) :
    (State.act s n old new seq).kept = s.kept := by
  unfold State.act; (repeat' split) <;> simp

@[simp] theorem State.reach_kept (s : State) (n : Nat) (old : Option Nat) (kind : Nat) : (State.reach s n old kind).kept = s.kept := by
  simp [State.reach]

@[simp] theorem State.openSrc_kept (s : State) (n : Nat) (forced : Bool) (wire : Bool) : (State.openSrc s n forced wire).kept = s.kept := by
  simp [State.openSrc]

@[simp] theorem State.squallCheck_kept (s : State) (n : Nat) : (State.squallCheck s n).kept = s.kept := by
  simp [State.squallCheck]

@[simp] theorem State.mergeInto_kept (s : State) (y : Nat) (n : Nat) (forced : Bool) : (State.mergeInto s y n forced).kept = s.kept := by
  simp [State.mergeInto]

@[simp] theorem State.eventMoves_kept (s : State) (n : Nat) (forced : Bool) (wire : Bool) (opened : List Nat) :
    (State.eventMoves s n forced wire opened).kept = s.kept := by
  unfold State.eventMoves; repeat (split <;> simp)

@[simp] theorem State.decision_kept (s : State) (f : State → State) (hf : ∀ v0, (f v0).kept = v0.kept) :
    (State.decision s f).kept = s.kept := by
  unfold State.decision; dsimp only; (repeat' split) <;> simp_all [eq_pair_iff]

@[simp] theorem State.faultEvent_kept (s : State) (n : Nat) (forced : Bool) (wire : Bool) (opened : List Nat) :
    (State.faultEvent s n forced wire opened).1.kept = s.kept := by
  unfold State.faultEvent; repeat (split <;> simp)

@[simp] theorem State.takeEvent_kept (s : State) (n : Nat) : (State.takeEvent s n).1.kept = s.kept := by
  unfold State.takeEvent; repeat (split <;> simp)

@[simp] theorem State.faultEvents_kept (s : State) (l : List Nat) : (State.faultEvents s l).kept = s.kept := by
  simp [State.faultEvents]

@[simp] theorem State.graceEnds_kept (s : State) (n : Nat) : (State.graceEnds s n).kept = s.kept := by
  simp [State.graceEnds]

@[simp] theorem State.closeSrc_kept (s : State) (n : Nat) (kind : Nat) : (State.closeSrc s n kind).kept = s.kept := by
  unfold State.closeSrc; simp; repeat (split <;> simp)

theorem execFaultEvent_keeps (srcs : List FaultNo) (s : State) : Keeps (execFaultEvent srcs s) s := by
  unfold execFaultEvent; (repeat' split) <;> exact ⟨_, rfl, by simp⟩

theorem execSquallWindowExpiry_keeps (n : FaultNo) (s : State) : Keeps (execSquallWindowExpiry n s) s := by
  unfold execSquallWindowExpiry; (repeat' split) <;> exact ⟨_, rfl, by simp⟩

theorem execWireFault_keeps (n : FaultNo) (s : State) : Keeps (execWireFault n s) s := by
  unfold execWireFault; (repeat' split) <;> exact ⟨_, rfl, by simp⟩

theorem execGraceExpiry_keeps (n : FaultNo) (s : State) : Keeps (execGraceExpiry n s) s := by
  unfold execGraceExpiry; (repeat' split) <;> exact ⟨_, rfl, by simp⟩

theorem execLullExpiry_keeps (n : FaultNo) (s : State) : Keeps (execLullExpiry n s) s := by
  unfold execLullExpiry; (repeat' split) <;> exact ⟨_, rfl, by simp⟩

@[simp] theorem State.faultAckWrite_kept (s : State) (q : Req) (v : Image) : (State.faultAckWrite s q v).kept = s.kept := by
  simp [State.faultAckWrite]

theorem execFaultAck_keeps (q : Req) (v : Image) (s : State) : Keeps (execFaultAck q v s) s := by
  unfold execFaultAck; (repeat' split) <;> exact ⟨_, rfl, by simp⟩

@[simp] theorem State.faultClearWrite_kept (s : State) (q : Req) (v : Image) : (State.faultClearWrite s q v).kept = s.kept := by
  simp [State.faultClearWrite]

theorem execFaultClear_keeps (q : Req) (v : Image) (s : State) : Keeps (execFaultClear q v s) s := by
  unfold execFaultClear; (repeat' split) <;> exact ⟨_, rfl, by simp⟩

@[simp] theorem State.faultForceWrite_kept (s : State) (q : Req) (v : Image) : (State.faultForceWrite s q v).kept = s.kept := by
  simp [State.faultForceWrite]

theorem execForceEvents_keeps (q : Req) (v : Image) (s : State) : Keeps (execForceEvents q v s) s := by
  unfold execForceEvents; (repeat' split) <;> exact ⟨_, rfl, by simp⟩

theorem execForceWire_keeps (q : Req) (v : Image) (s : State) : Keeps (execForceWire q v s) s := by
  unfold execForceWire; (repeat' split) <;> exact ⟨_, rfl, by simp⟩

theorem execForceDisagree_keeps (q : Req) (v : Image) (s : State) : Keeps (execForceDisagree q v s) s := by
  unfold execForceDisagree; (repeat' split) <;> exact ⟨_, rfl, by simp⟩

theorem execDecisionDisagree_keeps (s : State) : Keeps (execDecisionDisagree s) s := by
  unfold execDecisionDisagree; (repeat' split) <;> exact ⟨_, rfl, by simp⟩

@[simp] theorem State.withheld_kept (s : State) (b : Bool) : (State.withheld s b).kept = s.kept := by
  simp [State.withheld]

theorem execDecisionWordTimeout_keeps (b : Bool) (s : State) : Keeps (execDecisionWordTimeout b s) s := by
  unfold execDecisionWordTimeout; (repeat' split) <;> exact ⟨_, rfl, by simp⟩

theorem execCollectorEccError_keeps (b : Bool) (s : State) : Keeps (execCollectorEccError b s) s := by
  unfold execCollectorEccError; (repeat' split) <;> exact ⟨_, rfl, by simp⟩

theorem execFailSilentAdoptPulse_keeps (s : State) : Keeps (execFailSilentAdoptPulse s) s := by
  unfold execFailSilentAdoptPulse; (repeat' split) <;> exact ⟨_, rfl, by simp⟩

theorem execMcHeartbeatWrite_keeps (s : State) : Keeps (execMcHeartbeatWrite s) s := by
  unfold execMcHeartbeatWrite; (repeat' split) <;> exact ⟨_, rfl, by simp⟩

theorem execMcHeartbeatMiss_keeps (s : State) : Keeps (execMcHeartbeatMiss s) s := by
  unfold execMcHeartbeatMiss; (repeat' split) <;> exact ⟨_, rfl, by simp⟩

@[simp] theorem State.collDiscarded_kept (s : State) (h : Header) (c : Comp) : (State.collDiscarded s h c).kept = s.kept := by
  unfold State.collDiscarded; dsimp only
  split
  · rw [State.updColl_kept, foldl_kept (fun s b => by split <;> simp)]
  · rfl

@[simp] theorem State.discarded_kept (s : State) (h : Header) (c : Comp) : (State.discarded s h c).kept = s.kept := by
  unfold State.discarded; simp; intros; (repeat' split) <;> simp

theorem execDiscardNoticeReceive_keeps (s : State) : Keeps (execDiscardNoticeReceive s) s := by
  unfold execDiscardNoticeReceive; (repeat' split) <;> exact ⟨_, rfl, by simp⟩

@[simp] theorem State.openPair_kept (s : State) : (State.openPair s).kept = s.kept := by
  unfold State.openPair; split <;> simp

@[simp] theorem State.closePair_kept (s : State) : (State.closePair s).kept = s.kept := by
  simp [State.closePair]

@[simp] theorem State.startResync_kept (s : State) (restore : Bool) : (State.startResync s restore).kept = s.kept := by
  unfold State.startResync; split <;> simp

@[simp] theorem State.resetPartner_kept (s : State) : (State.resetPartner s).kept = s.kept := by
  unfold State.resetPartner; split <;> simp

@[simp] theorem State.bumpRegions_kept (s : State) : (State.bumpRegions s).kept = s.kept := by
  simp [State.bumpRegions]

@[simp] theorem State.adopt_kept (s : State) (cause : Nat) : (State.adopt s cause).kept = s.kept := by
  simp [State.adopt]

@[simp] theorem State.meetPartner_kept (s : State) (b : Heartbeat) : (State.meetPartner s b).kept = s.kept := by
  unfold State.meetPartner; repeat (split <;> simp)

@[simp] theorem State.onHeartbeat_kept (s : State) (b : Heartbeat) : (State.onHeartbeat s b).kept = s.kept := by
  unfold State.onHeartbeat; simp; intros; (repeat' split) <;> simp

@[simp] theorem State.heartbeatLost_kept (s : State) : (State.heartbeatLost s).kept = s.kept := by
  simp [State.heartbeatLost]

@[simp] theorem State.replaceScope_kept (s : State) (device : Bool) (l : List Change) : (State.replaceScope s device l).kept = s.kept := by
  simp [State.replaceScope]

@[simp] theorem State.resyncDone_kept (s : State) (pairs : List Change) (devs : List Change) :
    (State.resyncDone s pairs devs).kept = s.kept := by
  simp [State.resyncDone]

@[simp] theorem State.mismatch_kept (s : State) (r : Reg) (i : Nat) (e : Nat) (hot : Bool) (device : Bool) :
    (State.mismatch s r i e hot device).kept = s.kept := by
  unfold State.mismatch; split <;> simp

@[simp] theorem State.correctEntry_kept (s : State) (d : Diff) : (State.correctEntry s d).kept = s.kept := by
  simp only [State.correctEntry, State.kept_ite, State.pairSend_kept, State.setKey_kept, State.updTwin_kept, ite_self]

@[simp] theorem State.compareEntry_kept (s : State) (d : Diff) : (State.compareEntry s d).kept = s.kept := by
  unfold State.compareEntry
  split
  · rfl
  · simp only [State.kept_ite, State.correctEntry_kept, State.mismatch_kept, ite_self]

@[simp] theorem State.sweep_kept (s : State) (l : List Diff) : (State.sweep s l).kept = s.kept := by
  unfold State.sweep; split <;> simp

theorem execTwinHeartbeatSend_keeps (s : State) : Keeps (execTwinHeartbeatSend s) s := by
  unfold execTwinHeartbeatSend; (repeat' split) <;> exact ⟨_, rfl, by simp⟩

theorem execTwinHeartbeat_keeps (s : State) : Keeps (execTwinHeartbeat s) s := by
  unfold execTwinHeartbeat; (repeat' split) <;> exact ⟨_, rfl, by simp⟩

theorem execHeartbeatLost_keeps (s : State) : Keeps (execHeartbeatLost s) s := by
  unfold execHeartbeatLost; (repeat' split) <;> exact ⟨_, rfl, by simp⟩

theorem execJoiningTimeout_keeps (s : State) : Keeps (execJoiningTimeout s) s := by
  unfold execJoiningTimeout; (repeat' split) <;> exact ⟨_, rfl, by simp⟩

theorem execBeatSend_keeps (s : State) : Keeps (execBeatSend s) s := by
  unfold execBeatSend; (repeat' split) <;> exact ⟨_, rfl, by simp⟩

@[simp] theorem State.pulse_kept (s : State) (width : Nat) (lo : Nat) (hi : Nat) (k : State → State) (hk : ∀ v0, (k v0).kept = v0.kept) :
    (State.pulse s width lo hi k).kept = s.kept := by
  unfold State.pulse; repeat' split
  all_goals simp [*]

theorem execBeat_keeps (width : Nat) (s : State) : Keeps (execBeat width s) s := by
  unfold execBeat; (repeat' split) <;> exact ⟨_, rfl, by simp⟩

theorem execDistress_keeps (width : Nat) (s : State) : Keeps (execDistress width s) s := by
  unfold execDistress; (repeat' split) <;> exact ⟨_, rfl, by simp⟩

theorem execAdoptPulse_keeps (width : Nat) (s : State) : Keeps (execAdoptPulse width s) s := by
  unfold execAdoptPulse; (repeat' split) <;> exact ⟨_, rfl, by simp⟩

theorem execAlertRepeat_keeps (s : State) : Keeps (execAlertRepeat s) s := by
  unfold execAlertRepeat; (repeat' split) <;> exact ⟨_, rfl, by simp⟩

theorem execPinStuck_keeps (s : State) : Keeps (execPinStuck s) s := by
  unfold execPinStuck; (repeat' split) <;> exact ⟨_, rfl, by simp⟩

theorem execPinFaultClear_keeps (s : State) : Keeps (execPinFaultClear s) s := by
  unfold execPinFaultClear; (repeat' split) <;> exact ⟨_, rfl, by simp⟩

theorem execSilentPartner_keeps (s : State) : Keeps (execSilentPartner s) s := by
  unfold execSilentPartner; (repeat' split) <;> exact ⟨_, rfl, by simp⟩

theorem execFailSilentResetDelay_keeps (s : State) : Keeps (execFailSilentResetDelay s) s := by
  unfold execFailSilentResetDelay; (repeat' split) <;> exact ⟨_, rfl, by simp⟩

theorem execTwinResync_keeps (q : Req) (v : Image) (s : State) : Keeps (execTwinResync q v s) s := by
  unfold execTwinResync; (repeat' split) <;> exact ⟨_, rfl, by simp⟩

theorem execResyncComplete_keeps (pairs : List Change) (devs : List Change) (s : State) :
    Keeps (execResyncComplete pairs devs s) s := by
  unfold execResyncComplete; (repeat' split) <;> exact ⟨_, rfl, by simp⟩

theorem execCompareSweep_keeps (l : List Diff) (s : State) : Keeps (execCompareSweep l s) s := by
  unfold execCompareSweep; (repeat' split) <;> exact ⟨_, rfl, by simp⟩

theorem execMirrorConfirmTimeout_keeps (s : State) : Keeps (execMirrorConfirmTimeout s) s := by
  unfold execMirrorConfirmTimeout; (repeat' split) <;> exact ⟨_, rfl, by simp⟩

@[simp] theorem State.swapLead_kept (s : State) : (State.swapLead s).kept = s.kept := by
  simp [State.swapLead]

@[simp] theorem State.twinDo_kept (s : State) (c : Nat) : (State.twinDo s c).kept = s.kept := by
  unfold State.twinDo; repeat (split <;> simp)

@[simp] theorem State.twinCtlWrite_kept (s : State) (q : Req) (v : Image) : (State.twinCtlWrite s q v).kept = s.kept := by
  simp [State.twinCtlWrite]

theorem execDetach_keeps (q : Req) (v : Image) (s : State) : Keeps (execDetach q v s) s := by
  unfold execDetach; (repeat' split) <;> exact ⟨_, rfl, by simp⟩

theorem execHandback_keeps (q : Req) (v : Image) (s : State) : Keeps (execHandback q v s) s := by
  unfold execHandback; (repeat' split) <;> exact ⟨_, rfl, by simp⟩

theorem execLeadSwap_keeps (q : Req) (v : Image) (s : State) : Keeps (execLeadSwap q v s) s := by
  unfold execLeadSwap; (repeat' split) <;> exact ⟨_, rfl, by simp⟩

theorem execAdopt_keeps (q : Req) (v : Image) (s : State) : Keeps (execAdopt q v s) s := by
  unfold execAdopt; (repeat' split) <;> exact ⟨_, rfl, by simp⟩

theorem execPartnerReset_keeps (q : Req) (v : Image) (s : State) : Keeps (execPartnerReset q v s) s := by
  unfold execPartnerReset; (repeat' split) <;> exact ⟨_, rfl, by simp⟩

@[simp] theorem State.ringsBack_kept (s : State) : (State.ringsBack s).kept = s.kept := by
  simp [State.ringsBack]

@[simp] theorem State.deviceReset_kept (s : State) (kind : Nat) : (State.deviceReset s kind).kept = s.kept := by
  unfold State.deviceReset; dsimp only; refine foldl_kept (fun s b => ?_) _ _; (repeat' split) <;> simp_all [eq_pair_iff]

@[simp] theorem State.release_kept (s : State) (kinds : List Nat) : (State.release s kinds).kept = s.kept := by
  unfold State.release; split <;> simp

@[simp] theorem State.enterRecovery_kept (s : State) : (State.enterRecovery s).kept = s.kept := by
  simp [State.enterRecovery]

@[simp] theorem State.fillBuckets_kept (s : State) : (State.fillBuckets s).kept = s.kept := by
  unfold State.fillBuckets; (repeat' split) <;> (try simp) <;> (repeat' (first | split | rw [foldl_kept] | (intro _ _))) <;> simp

@[simp] theorem State.applyCaddy_kept (s : State) : (State.applyCaddy s).kept = s.kept := by
  unfold State.applyCaddy; simp; repeat (split <;> simp)

@[simp] theorem State.openPorts_kept (s : State) : (State.openPorts s).kept = s.kept := by
  simp [State.openPorts]

@[simp] theorem State.startUpEnd_kept (s : State) : (State.startUpEnd s).kept = s.kept := by
  simp [State.startUpEnd]

@[simp] theorem State.updPower_kept (s : State) (f : Power → Power) : (State.updPower s f).kept = s.kept := by
  simp [State.updPower]

@[simp] theorem State.updTime_kept (s : State) (f : TimeUnit → TimeUnit) : (State.updTime s f).kept = s.kept := by
  simp [State.updTime]

@[simp] theorem State.avsWrite_kept (s : State) (fails : Nat) (readback : BitVec 8) : (State.avsWrite s fails readback).kept = s.kept := by
  unfold State.avsWrite; split <;> simp

@[simp] theorem State.avsWindow_kept (s : State) (rate : Nat) (fails : Nat) (readback : BitVec 8) :
    (State.avsWindow s rate fails readback).kept = s.kept := by
  simp [State.avsWindow]

@[simp] theorem State.sag_kept (s : State) (level2 : Bool) : (State.sag s level2).kept = s.kept := by
  unfold State.sag; repeat (split <;> simp)

@[simp] theorem State.recoverPace_kept (s : State) : (State.recoverPace s).kept = s.kept := by
  unfold State.recoverPace; repeat (split <;> simp)

@[simp] theorem State.thermal_kept (s : State) (t : BitVec 8) : (State.thermal s t).kept = s.kept := by
  simp [State.thermal]

@[simp] theorem State.timeCauses_kept (s : State) : (State.timeCauses s).kept = s.kept := by
  unfold State.timeCauses; repeat (split <;> simp)

@[simp] theorem State.timeJudge_kept (s : State) (offset : Int) (ok : Bool) : (State.timeJudge s offset ok).kept = s.kept := by
  simp [State.timeJudge]

@[simp] theorem State.correct_kept (s : State) (offset : Int) (delay : Int) (ok : Bool) : (State.correct s offset delay ok).kept = s.kept := by
  simp [State.correct]

@[simp] theorem State.advanceTime_kept (s : State) : (State.advanceTime s).kept = s.kept := by
  simp [State.advanceTime]

@[simp] theorem State.refillAll_kept (s : State) : (State.refillAll s).kept = s.kept := by
  unfold State.refillAll; (repeat' split) <;> (try simp) <;> (repeat' (first | split | rw [foldl_kept] | (intro _ _))) <;> simp

@[simp] theorem State.countFec_kept (s : State) (p : Nat) : (State.countFec s p).kept = s.kept := by
  simp [State.countFec]

@[simp] theorem State.timeTick_kept (s : State) : (State.timeTick s).kept = s.kept := by
  unfold State.timeTick; split <;> simp

@[simp] theorem State.sendProbe_kept (s : State) : (State.sendProbe s).kept = s.kept := by
  unfold State.sendProbe; repeat (split <;> simp)

@[simp] theorem State.answerProbe_kept (s : State) : (State.answerProbe s).kept = s.kept := by
  unfold State.answerProbe; split <;> simp

@[simp] theorem State.takeReply_kept (s : State) : (State.takeReply s).kept = s.kept := by
  unfold State.takeReply; simp; intros; (repeat' split) <;> simp

@[simp] theorem State.setTime_kept (s : State) (ns : Nat) : (State.setTime s ns).kept = s.kept := by
  unfold State.setTime; split <;> simp

@[simp] theorem State.ppsEdge_kept (s : State) : (State.ppsEdge s).kept = s.kept := by
  unfold State.ppsEdge; simp; intros; (repeat' split) <;> simp

@[simp] theorem State.timeSetWrite_kept (s : State) (q : Req) (v : Image) : (State.timeSetWrite s q v).kept = s.kept := by
  simp [State.timeSetWrite]

@[simp] theorem State.timeCtlDone_kept (s : State) (was : Nat) : (State.timeCtlDone s was).kept = s.kept := by
  unfold State.timeCtlDone; repeat (split <;> simp)

theorem execAvsWindow_keeps (rate : Nat) (fails : Nat) (readback : BitVec 8) (s : State) :
    Keeps (execAvsWindow rate fails readback s) s := by
  unfold execAvsWindow; (repeat' split) <;> exact ⟨_, rfl, by simp⟩

theorem execAvsRetry_keeps (fails : Nat) (readback : BitVec 8) (s : State) : Keeps (execAvsRetry fails readback s) s := by
  unfold execAvsRetry; (repeat' split) <;> exact ⟨_, rfl, by simp⟩

theorem execBarometerCrossing_keeps (level2 : Bool) (s : State) : Keeps (execBarometerCrossing level2 s) s := by
  unfold execBarometerCrossing; (repeat' split) <;> exact ⟨_, rfl, by simp⟩

theorem execPaceRelease_keeps (s : State) : Keeps (execPaceRelease s) s := by
  unfold execPaceRelease; (repeat' split) <;> exact ⟨_, rfl, by simp⟩

theorem execThermalSample_keeps (t : BitVec 8) (s : State) : Keeps (execThermalSample t s) s := by
  unfold execThermalSample; (repeat' split) <;> exact ⟨_, rfl, by simp⟩

theorem execRefclkLoss_keeps (c : RefClock) (s : State) : Keeps (execRefclkLoss c s) s := by
  unfold execRefclkLoss; (repeat' split) <;> exact ⟨_, rfl, by simp⟩

theorem execRefclkReturn_keeps (s : State) : Keeps (execRefclkReturn s) s := by
  unfold execRefclkReturn; (repeat' split) <;> exact ⟨_, rfl, by simp⟩

theorem execPpsEdge_keeps (s : State) : Keeps (execPpsEdge s) s := by
  unfold execPpsEdge; (repeat' split) <;> exact ⟨_, rfl, by simp⟩

theorem execPpsTimeout_keeps (s : State) : Keeps (execPpsTimeout s) s := by
  unfold execPpsTimeout; (repeat' split) <;> exact ⟨_, rfl, by simp⟩

theorem execTimeProbeSend_keeps (s : State) : Keeps (execTimeProbeSend s) s := by
  unfold execTimeProbeSend; (repeat' split) <;> exact ⟨_, rfl, by simp⟩

theorem execTimeProbe_keeps (s : State) : Keeps (execTimeProbe s) s := by
  unfold execTimeProbe; (repeat' split) <;> exact ⟨_, rfl, by simp⟩

theorem execTimeReply_keeps (s : State) : Keeps (execTimeReply s) s := by
  unfold execTimeReply; (repeat' split) <;> exact ⟨_, rfl, by simp⟩

theorem execTimeSet_keeps (q : Req) (v : Image) (s : State) : Keeps (execTimeSet q v s) s := by
  unfold execTimeSet; (repeat' split) <;> exact ⟨_, rfl, by simp⟩

theorem execTimebaseTick_keeps (s : State) : Keeps (execTimebaseTick s) s := by
  unfold execTimebaseTick; (repeat' split) <;> exact ⟨_, rfl, by simp⟩

@[simp] theorem State.devResetWrite_kept (s : State) (q : Req) (v : Image) : (State.devResetWrite s q v).kept = s.kept := by
  unfold State.devResetWrite; dsimp only
  have hd : (s.dictWrite q R.devReset 0 0 v (fun _ => if v = 0 ∨ v.toNat ≠ 1 then some .outOfRange else none)
      (fun s => (({ s with holds := s.holds ++ [4] }, .ok) : State × Fdp))).kept = s.kept :=
    State.dictWrite_kept _ _ _ _ _ _ _ _ (fun t => rfl)
  rw [State.kept_ite, State.deviceReset_kept, hd, ite_self]

theorem execDevReset_keeps (q : Req) (v : Image) (s : State) : Keeps (execDevReset q v s) s := by
  unfold execDevReset; (repeat' split) <;> exact ⟨_, rfl, by simp⟩

theorem execPinReset_keeps (s : State) : Keeps (execPinReset s) s := by
  unfold execPinReset; (repeat' split) <;> exact ⟨_, rfl, by simp⟩

theorem execPowerOnReset_keeps (s : State) : Keeps (execPowerOnReset s) s := by
  unfold execPowerOnReset; (repeat' split) <;> exact ⟨_, rfl, by simp⟩

theorem execSupplyReset_keeps (s : State) : Keeps (execSupplyReset s) s := by
  unfold execSupplyReset; (repeat' split) <;> exact ⟨_, rfl, by simp⟩

theorem execStartUpEnd_keeps (s : State) : Keeps (execStartUpEnd s) s := by
  unfold execStartUpEnd; (repeat' split) <;> exact ⟨_, rfl, by simp⟩

theorem execCaddyCompact_keeps (q : Req) (v : Image) (s : State) : Keeps (execCaddyCompact q v s) s := by
  unfold execCaddyCompact; (repeat' split) <;> exact ⟨_, rfl, by simp⟩

theorem execCaddyCompactDone_keeps (free : Nat) (s : State) : Keeps (execCaddyCompactDone free s) s := by
  unfold execCaddyCompactDone; (repeat' split) <;> exact ⟨_, rfl, by simp⟩

theorem execCaddyAutoCompact_keeps (s : State) : Keeps (execCaddyAutoCompact s) s := by
  unfold execCaddyAutoCompact; (repeat' split) <;> exact ⟨_, rfl, by simp⟩

theorem execControlScrub_keeps (q : Req) (v : Image) (s : State) : Keeps (execControlScrub q v s) s := by
  unfold execControlScrub; (repeat' split) <;> exact ⟨_, rfl, by simp⟩

theorem execScrubAutoStart_keeps (s : State) : Keeps (execScrubAutoStart s) s := by
  unfold execScrubAutoStart; (repeat' split) <;> exact ⟨_, rfl, by simp⟩

theorem execControlScrubDone_keeps (corrected : Nat) (bad : List FaultNo) (s : State) :
    Keeps (execControlScrubDone corrected bad s) s := by
  unfold execControlScrubDone; (repeat' split) <;> exact ⟨_, rfl, by simp⟩

@[simp] theorem State.clearCounters_kept (s : State) : (State.clearCounters s).kept = s.kept := by
  simp [State.clearCounters]

theorem execCounterClearAll_keeps (q : Req) (v : Image) (s : State) : Keeps (execCounterClearAll q v s) s := by
  unfold execCounterClearAll; (repeat' split) <;> exact ⟨_, rfl, by simp⟩

@[simp] theorem State.domainWrite_kept (s : State) (q : Req) (r : Reg) (body : List Byte) (range : State → Option Fdp) (op : Option Nat) (eff : State → State × Fdp) (heff : ∀ v0, (eff v0).1.kept = v0.kept) :
    (State.domainWrite s q r body range op eff).kept = s.kept := by
  unfold State.domainWrite
  refine State.serve_kept _ _ _ _ _ _ (fun role s => ?_)
  dsimp only
  split
  · simp
  split
  · simp
  split
  · simp
  split
  · simp
  split
  · simp
  split
  · rename_i h; simpa using (State.recordVal_kept _ _ _ _ _ _ _ _).2 _ _ h
  · rename_i h; have h' := (State.recordVal_kept _ _ _ _ _ _ _ _).1 _ h; simp [heff, h']

@[simp] theorem State.fwStage_kept (s : State) (q : Req) (hdr : List Byte) : (State.fwStage s q hdr).kept = s.kept := by
  unfold State.fwStage
  refine State.domainWrite_kept _ _ _ _ _ _ _ (fun t => ?_)
  dsimp only; rw [State.updMgmt_kept]
  · simp
  · unfold Mgmt.withBank; dsimp only; split <;> exact ⟨rfl, rfl, rfl⟩

theorem execFirmwareStage_keeps (q : Req) (hdr : List Byte) (s : State) : Keeps (execFirmwareStage q hdr s) s := by
  unfold execFirmwareStage; (repeat' split) <;> exact ⟨_, rfl, by simp⟩

@[simp] theorem State.fwChunkWrite_kept (s : State) (q : Req) (body : List Byte) : (State.fwChunkWrite s q body).kept = s.kept := by
  unfold State.fwChunkWrite
  refine State.domainWrite_kept _ _ _ _ _ _ _ (fun t => ?_)
  dsimp only; rw [State.updMgmt_kept]
  split
  · exact ⟨rfl, rfl, rfl⟩
  · unfold Mgmt.withBank; dsimp only; split <;> exact ⟨rfl, rfl, rfl⟩

theorem execFwChunk_keeps (q : Req) (body : List Byte) (s : State) : Keeps (execFwChunk q body s) s := by
  unfold execFwChunk; (repeat' split) <;> exact ⟨_, rfl, by simp⟩

@[simp] theorem State.endStaging_kept (s : State) (fail : Nat) : (State.endStaging s fail).kept = s.kept := by
  unfold State.endStaging; split
  · rfl
  · simp only [State.opEnd_kept]
    rw [State.updMgmt_kept _ _ ⟨rfl, rfl, rfl⟩]
    split
    · rfl
    · rw [State.updMgmt_kept]; unfold Mgmt.withBank; split <;> exact ⟨rfl, rfl, rfl⟩

theorem execFirmwareCheckDone_keeps (c : FwCheck) (s : State) : Keeps (execFirmwareCheckDone c s) s := by
  unfold execFirmwareCheckDone; (repeat' split) <;> exact ⟨_, rfl, by simp⟩

theorem execFirmwareStageTimeout_keeps (s : State) : Keeps (execFirmwareStageTimeout s) s := by
  unfold execFirmwareStageTimeout; (repeat' split) <;> exact ⟨_, rfl, by simp⟩

@[simp] theorem State.fwSelectWrite_kept (s : State) (q : Req) (v : Image) : (State.fwSelectWrite s q v).kept = s.kept := by
  simp [State.fwSelectWrite]

theorem execFwSelect_keeps (q : Req) (v : Image) (s : State) : Keeps (execFwSelect q v s) s := by
  unfold execFwSelect; (repeat' split) <;> exact ⟨_, rfl, by simp⟩

@[simp] theorem State.endSession_kept (s : State) (n : Nat) : (State.endSession s n).kept = s.kept := by
  unfold State.endSession; split <;> simp

@[simp] theorem State.endKey_kept (s : State) (n : Nat) : (State.endKey s n).kept = s.kept := by
  simp [State.endKey]

@[simp] theorem State.claim_kept (s : State) (q : Req) (n : Nat) (v : Image) : (State.claim s q n v).kept = s.kept := by
  unfold State.claim; dsimp only; (repeat' split) <;> simp_all [eq_pair_iff]

@[simp] theorem State.roleKeyWrite_kept (s : State) (q : Req) (n : Nat) (vals : List Image) :
    (State.roleKeyWrite s q n vals).kept = s.kept := by
  have hr : (State.roleKeyWrite.run s q n vals).kept = s.kept := by
    unfold State.roleKeyWrite.run; dsimp only
    rw [foldl_kept (fun s b => by split <;> simp), State.writeRun_kept _ _ _ _ _ _ _ (fun e o v t => by rfl)]
  unfold State.roleKeyWrite; split
  · split <;> simp [hr]
  · exact hr

theorem execRoleKey_keeps (q : Req) (n : Nat) (v : Image) (s : State) : Keeps (execRoleKey q n v s) s := by
  unfold execRoleKey; (repeat' split) <;> exact ⟨_, rfl, by simp⟩

@[simp] theorem State.snapshotWrite_kept (s : State) (q : Req) (v : Image) : (State.snapshotWrite s q v).kept = s.kept := by
  simp [State.snapshotWrite]

theorem execSnapshot_keeps (q : Req) (v : Image) (s : State) : Keeps (execSnapshot q v s) s := by
  unfold execSnapshot; (repeat' split) <;> exact ⟨_, rfl, by simp⟩

theorem execSnapshotCapture_keeps (s : State) : Keeps (execSnapshotCapture s) s := by
  unfold execSnapshotCapture; (repeat' split) <;> exact ⟨_, rfl, by simp⟩

@[simp] theorem State.ctrWindowWrite_kept (s : State) (q : Req) (k : Nat) (v : Image) : (State.ctrWindowWrite s q k v).kept = s.kept := by
  unfold State.ctrWindowWrite
  refine State.dictWrite_kept _ _ _ _ _ _ _ _ (fun t => ?_)
  split <;> simp

theorem execCounterWindow_keeps (q : Req) (k : Slot16) (v : Image) (s : State) : Keeps (execCounterWindow q k v s) s := by
  unfold execCounterWindow; (repeat' split) <;> exact ⟨_, rfl, by simp⟩

@[simp] theorem State.ctrWindowStop_kept (s : State) (q : Req) (k : Nat) (v : Image) : (State.ctrWindowStop s q k v).kept = s.kept := by
  simp [State.ctrWindowStop]

theorem execWindowStop_keeps (q : Req) (k : Slot16) (v : Image) (s : State) : Keeps (execWindowStop q k v s) s := by
  unfold execWindowStop; (repeat' split) <;> exact ⟨_, rfl, by simp⟩

theorem execWindowRecordWrite_keeps (k : Slot16) (s : State) : Keeps (execWindowRecordWrite k s) s := by
  unfold execWindowRecordWrite; (repeat' split) <;> exact ⟨_, rfl, by simp⟩

theorem execTimedWindowStart_keeps (w : TimedWin) (s : State) : Keeps (execTimedWindowStart w s) s := by
  unfold execTimedWindowStart; (repeat' split) <;> exact ⟨_, rfl, by simp⟩

theorem execTimedWindowStop_keeps (w : TimedWin) (s : State) : Keeps (execTimedWindowStop w s) s := by
  unfold execTimedWindowStop; (repeat' split) <;> exact ⟨_, rfl, by simp⟩

@[simp] theorem State.sampleWrite_kept (s : State) (q : Req) (v : Image) : (State.sampleWrite s q v).kept = s.kept := by
  unfold State.sampleWrite
  refine State.dictWrite_kept _ _ _ _ _ _ _ _ (fun t => ?_)
  split <;> simp

theorem execSampleCtl_keeps (q : Req) (v : Image) (s : State) : Keeps (execSampleCtl q v s) s := by
  unfold execSampleCtl; (repeat' split) <;> exact ⟨_, rfl, by simp⟩

@[simp] theorem State.sampleStopWrite_kept (s : State) (q : Req) (v : Image) : (State.sampleStopWrite s q v).kept = s.kept := by
  simp [State.sampleStopWrite]

theorem execSampleStop_keeps (q : Req) (v : Image) (s : State) : Keeps (execSampleStop q v s) s := by
  unfold execSampleStop; (repeat' split) <;> exact ⟨_, rfl, by simp⟩

theorem execSampleRecord_keeps (s : State) : Keeps (execSampleRecord s) s := by
  unfold execSampleRecord; (repeat' split) <;> exact ⟨_, rfl, by simp⟩

theorem execSampleConsumerRead_keeps (s : State) : Keeps (execSampleConsumerRead s) s := by
  unfold execSampleConsumerRead; (repeat' split) <;> exact ⟨_, rfl, by simp⟩

theorem execSliceCounterRecord_keeps (sl : SliceNo) (s : State) : Keeps (execSliceCounterRecord sl s) s := by
  unfold execSliceCounterRecord; (repeat' split) <;> exact ⟨_, rfl, by simp⟩

@[simp] theorem State.openDoor_kept (s : State) (q : Req) (run : State → State) (hrun : ∀ v0, (run v0).kept = v0.kept) :
    (State.openDoor s q run).kept = s.kept := by
  unfold State.openDoor; dsimp only; (repeat' split) <;> simp_all [eq_pair_iff]

theorem execFdpIdentify_keeps (q : Req) (s : State) : Keeps (execFdpIdentify q s) s := by
  unfold execFdpIdentify; (repeat' split) <;> exact ⟨_, rfl, by simp⟩

theorem execFdpOpen_keeps (q : Req) (role : Byte) (slot : Byte) (nonce : BitVec 384) (s : State) :
    Keeps (execFdpOpen q role slot nonce s) s := by
  unfold execFdpOpen; refine ⟨_, rfl, ?_⟩
  refine State.openDoor_kept _ _ _ (fun s => ?_)
  dsimp only
  split
  · simp
  split
  · simp
  split
  · simp
  split
  · simp
  split
  · simp
  split <;> simp

@[simp] theorem State.authFail_kept (s : State) (q : Req) : (State.authFail s q).kept = s.kept := by
  simp [State.authFail]

theorem execFdpAuth_keeps (q : Req) (sigOk : Bool) (s : State) : Keeps (execFdpAuth q sigOk s) s := by
  unfold execFdpAuth; (repeat' split) <;> exact ⟨_, rfl, by simp⟩

theorem execFdpClose_keeps (q : Req) (s : State) : Keeps (execFdpClose q s) s := by
  unfold execFdpClose; (repeat' split) <;> exact ⟨_, rfl, by simp⟩

theorem execAuthTimeout_keeps (n : Nat) (s : State) : Keeps (execAuthTimeout n s) s := by
  unfold execAuthTimeout; (repeat' split) <;> exact ⟨_, rfl, by simp⟩

theorem execAuthLockoutExpiry_keeps (p : Path) (s : State) : Keeps (execAuthLockoutExpiry p s) s := by
  unfold execAuthLockoutExpiry; (repeat' split) <;> exact ⟨_, rfl, by simp⟩

theorem execSessionIdleExpiry_keeps (n : Nat) (s : State) : Keeps (execSessionIdleExpiry n s) s := by
  unfold execSessionIdleExpiry; (repeat' split) <;> exact ⟨_, rfl, by simp⟩

@[simp] theorem State.afterRead_kept (s : State) (r : Reg) (i : Nat) (e : Nat) : (State.afterRead s r i e).kept = s.kept := by
  unfold State.afterRead; repeat' split
  all_goals simp [*]

theorem objectRuleLo_kept (r : Reg) (i e : Nat) (o v : Image) (t : State) : ((objectRuleLo r i e o v).eff t).1.kept = t.kept := by
  unfold objectRuleLo
  split <;> simp [chkOnly, eqProfileRule, egressClassRule, shaperRule, policerRule] <;> split <;> simp

theorem objectRuleMid_kept (r : Reg) (q : Req) (i e : Nat) (o v : Image) (t : State) : ((objectRuleMid r q i e o v).eff t).1.kept = t.kept := by
  unfold objectRuleMid
  split <;> first
    | rfl
    | (unfold regionRule; dsimp only; (repeat' split) <;> simp; done)
    | (unfold rmaSliceRule; simp; done)
    | (unfold collCtxRule; dsimp only; split <;> simp; done)
    | (unfold collSteepRule; dsimp only; split <;> simp; done)
    | (unfold poolRule; dsimp only; (repeat' split) <;> simp; done)

theorem objectRule_kept (r : Reg) (q : Req) (i e : Nat) (o v : Image) (t : State) : ((objectRule r q i e o v).eff t).1.kept = t.kept := by
  unfold objectRule
  split
  · exact objectRuleLo_kept r i e o v t
  · unfold objectRuleHi
    split <;> first
      | exact objectRuleMid_kept r q i e o v t
      | simp [chkOnly, resyncModeRule, reactionRule, auditAckRule]

theorem Result.stateOr_kept {r : Result} {s : State} (h : Keeps r s) : (r.stateOr s).kept = s.kept := by
  obtain ⟨t, rfl, ht⟩ := h; exact ht

@[simp] theorem State.noObject_kept (s : State) (q : Req) (obj : Nat) (sub : Nat) (role : Role) :
    (State.noObject s q obj sub role).kept = s.kept := by
  unfold State.noObject; split <;> simp

theorem execFdpRead_keeps (q : Req) (obj : Nat) (sub : Nat) (entry : Nat) (count : Nat) (s : State) :
    Keeps (execFdpRead q obj sub entry count s) s := by
  unfold execFdpRead; (repeat' split) <;> exact ⟨_, rfl, by simp⟩

@[simp] theorem State.writeLength_kept (s : State) (q : Req) (r : Reg) (i : Nat) (e : Nat) (obj : Nat) (sub : Nat) :
    (State.writeLength s q r i e obj sub).kept = s.kept := by
  simp [State.writeLength]

@[simp] theorem State.ownLo_kept (s : State) (q : Req) (r : Reg) (i : Nat) (e : Nat) (v : Image) :
    ∀ t, (State.ownLo s q r i e v) = some t → t.kept = s.kept := by
  unfold State.ownLo; intro t h
  (repeat' (split at h)) <;> first
    | (cases h; done)
    | (injection h with h; subst h; simp; done)
    | (injection h with h; subst h; exact Result.stateOr_kept (execTestPattern_keeps q i v s))
    | (injection h with h; subst h; exact Result.stateOr_kept (execFlush_keeps q i v s))
    | (injection h with h; subst h; exact Result.stateOr_kept (execPortRole_keeps q e v s))
    | (injection h with h; subst h; exact Result.stateOr_kept (execKeyInsert_keeps q v s))
    | (injection h with h; subst h; exact Result.stateOr_kept (execGateSwitch_keeps q i v s))
    | (injection h with h; subst h; exact Result.stateOr_kept (execGateOverride_keeps q i e v s))
    | (injection h with h; subst h; exact Result.stateOr_kept (execGateOverrideStop_keeps q i e v s))

@[simp] theorem State.ownMid_kept (s : State) (q : Req) (r : Reg) (i : Nat) (v : Image) :
    ∀ t, (State.ownMid s q r i v) = some t → t.kept = s.kept := by
  unfold State.ownMid; intro t h
  (repeat' (split at h)) <;> first
    | (cases h; done)
    | (injection h with h; subst h; simp; done)
    | (injection h with h; subst h; exact Result.stateOr_kept (execTlbLoad_keeps q v s))
    | (injection h with h; subst h; exact Result.stateOr_kept (execTlbInval_keeps q v s))

@[simp] theorem State.canRecoverWrite_kept (s : State) (q : Req) (v : Image) : (State.canRecoverWrite s q v).kept = s.kept := by
  simp [State.canRecoverWrite]

@[simp] theorem State.ownHi_kept (s : State) (q : Req) (r : Reg) (i : Nat) (e : Nat) (v : Image) :
    ∀ t, (State.ownHi s q r i e v) = some t → t.kept = s.kept := by
  unfold State.ownHi; intro t h
  (repeat' (split at h)) <;> first
    | (cases h; done)
    | (injection h with h; subst h; simp; done)
    | (injection h with h; subst h; exact Result.stateOr_kept (execLaneCal_keeps q v s))
    | (injection h with h; subst h; exact Result.stateOr_kept (execEqLoad_keeps q v s))
    | (injection h with h; subst h; exact Result.stateOr_kept (execTwinResync_keeps q v s))
    | (injection h with h; subst h; exact Result.stateOr_kept (execCaddyCompact_keeps q v s))
    | (injection h with h; subst h; exact Result.stateOr_kept (execRouteSwap_keeps q v s))
    | (injection h with h; subst h; exact Result.stateOr_kept (execKeyTableSwap_keeps q v s))
    | (injection h with h; subst h; exact Result.stateOr_kept (execControlScrub_keeps q v s))
    | (injection h with h; subst h; exact Result.stateOr_kept (execCounterClearAll_keeps q v s))

theorem execCanRecover_keeps (q : Req) (v : Image) (s : State) : Keeps (execCanRecover q v s) s := by
  unfold execCanRecover; (repeat' split) <;> exact ⟨_, rfl, by simp⟩

theorem execFdpInfo_keeps (q : Req) (obj : Nat) (sub : Nat) (s : State) : Keeps (execFdpInfo q obj sub s) s := by
  unfold execFdpInfo; (repeat' split) <;> exact ⟨_, rfl, by simp⟩

@[simp] theorem State.updCan_kept (s : State) (f : Can → Can) : (State.updCan s f).kept = s.kept := by
  simp [State.updCan]

@[simp] theorem State.canCounts_kept (s : State) (tec : Nat) (rec_ : Nat) : (State.canCounts s tec rec_).kept = s.kept := by
  simp [State.canCounts]

@[simp] theorem State.dropPartial_kept (s : State) (src : Nat) : (State.dropPartial s src).kept = s.kept := by
  simp [State.dropPartial]

@[simp] theorem State.canMessage_kept (s : State) (src : Nat) (before : Nat) (bytes : List Byte) :
    (State.canMessage s src before bytes).kept = s.kept := by
  simp [State.canMessage]

@[simp] theorem State.canSegment_kept (s : State) (src : Nat) (data : List Byte) : (State.canSegment s src data).kept = s.kept := by
  unfold State.canSegment; simp; intros; (repeat' split) <;> simp

@[simp] theorem State.canRxOk_kept (s : State) : (State.canRxOk s).kept = s.kept := by
  simp [State.canRxOk]

theorem execCanFrameReceive_keeps (fd : Bool) (id : BitVec 29) (data : List Byte) (s : State) :
    Keeps (execCanFrameReceive fd id data s) s := by
  unfold execCanFrameReceive; (repeat' split) <;> exact ⟨_, rfl, by simp⟩

theorem execCanReassemblyTimeout_keeps (src : Nat) (s : State) : Keeps (execCanReassemblyTimeout src s) s := by
  unfold execCanReassemblyTimeout; (repeat' split) <;> exact ⟨_, rfl, by simp⟩

@[simp] theorem State.canSent_kept (s : State) (id : Nat) (data : List Byte) : (State.canSent s id data).kept = s.kept := by
  simp [State.canSent]

theorem execCanFrameTransmit_keeps (s : State) : Keeps (execCanFrameTransmit s) s := by
  unfold execCanFrameTransmit; (repeat' split) <;> exact ⟨_, rfl, by simp⟩

theorem execCanBusError_keeps (e : CanErr) (s : State) : Keeps (execCanBusError e s) s := by
  unfold execCanBusError; (repeat' split) <;> exact ⟨_, rfl, by simp⟩

theorem execBusOffRecovery_keeps (s : State) : Keeps (execBusOffRecovery s) s := by
  unfold execBusOffRecovery; (repeat' split) <;> exact ⟨_, rfl, by simp⟩

@[simp] theorem State.ctlFault_kept (s : State) : (State.ctlFault s).kept = s.kept := by
  simp [State.ctlFault]

@[simp] theorem State.deliver_kept (s : State) (a : Arrived) (n : Nat) (q : Cq) (f : Nat) : (State.deliver s a n q f).kept = s.kept := by
  unfold State.deliver
  extract_lets d slots slot base len acc
  clear_value base acc
  split
  · rename_i h; rw [State.ctlFault_kept, State.takeArrival_kept, (eq_pair_iff.1 h).1, State.xlateSpan_kept]
  · rename_i h; rw [State.countDev_kept, State.takeArrival_kept, (eq_pair_iff.1 h).1, State.xlateSpan_kept]
  · rename_i h; rw [State.holdArrival_kept, (eq_pair_iff.1 h).1, State.xlateSpan_kept]
  · rename_i h; have h1 := congrArg State.kept (eq_pair_iff.1 h).1
    rw [State.xlateSpan_kept] at h1
    split
    · rename_i h; rw [State.ctlFault_kept, State.takeArrival_kept, (eq_pair_iff.1 h).1, State.xlateSpan_kept, h1]
    · rename_i h; rw [State.countDev_kept, State.takeArrival_kept, (eq_pair_iff.1 h).1, State.xlateSpan_kept, h1]
    · rename_i h; rw [State.holdArrival_kept, (eq_pair_iff.1 h).1, State.xlateSpan_kept, h1]
    · rename_i h; have h2 := congrArg State.kept (eq_pair_iff.1 h).1
      rw [State.xlateSpan_kept, h1] at h2
      extract_lets s1 key s2 s3
      simp only [s2, s3]
      rw [State.writeCompletion_kept, State.updMgmt_kept _ _ ⟨rfl, rfl, rfl⟩, State.writeSpans_kept, State.writeSpans_kept,
        State.takeArrival_kept, h2]

theorem execControlDelivery_keeps (st : Stop) (s : State) : Keeps (execControlDelivery st s) s := by
  unfold execControlDelivery; (repeat' split) <;> exact ⟨_, rfl, by simp⟩

@[simp] theorem State.applyCopies_kept (s : State) (q : Req) (c : List Change) : (State.applyCopies s q c).1.kept = s.kept := by
  unfold State.applyCopies; dsimp only
  split
  · rfl
  · split
    · rfl
    · dsimp only; rw [foldl_kept (fun s b => by simp), State.applyEntries_kept _ _ _ _ (fun e o v t => by exact objectRule_kept _ _ _ _ _ _ t)]

@[simp] theorem State.leaderApply_kept (s : State) (c : List Change) : (State.leaderApply s c).1.kept = s.kept := by
  unfold State.leaderApply; dsimp only
  split
  · rfl
  split
  · rfl
  split
  · rfl
  split
  · rename_i h; exact (State.recordWrite_kept _ _ _ _ _ _ _).2 _ _ h
  · rename_i h; dsimp only; rw [State.applyEntries_kept _ _ _ _ (fun e o v t => objectRule_kept _ _ _ _ _ _ t)]; exact (State.recordWrite_kept _ _ _ _ _ _ _).1 _ h

@[simp] theorem State.pairChange_kept (s : State) (device : Bool) (c : List Change) : (State.pairChange s device c).kept = s.kept := by
  unfold State.pairChange; simp; intros; (repeat' split) <;> simp

@[simp] theorem State.pairAnswer_kept (s : State) (passed : Bool) (c : List Change) (f : Option Fdp) :
    (State.pairAnswer s passed c f).kept = s.kept := by
  unfold State.pairAnswer; split <;> simp

@[simp] theorem State.pairMessage_kept (s : State) (m : PairMsg) : (State.pairMessage s m).kept = s.kept := by
  unfold State.pairMessage; (repeat' split) <;> simp_all [eq_pair_iff]

theorem execMirroredWrite_keeps (m : PairMsg) (s : State) : Keeps (execMirroredWrite m s) s := by
  unfold execMirroredWrite; (repeat' split) <;> exact ⟨_, rfl, by simp⟩

@[simp] theorem State.tapFree_kept (s : State) : (State.tapFree s).kept = s.kept := by
  simp [State.tapFree]

@[simp] theorem State.tapEdge_kept (s : State) (tdi : Bool) : (State.tapEdge s tdi).kept = s.kept := by
  unfold State.tapEdge; repeat (split <;> simp)

theorem execTestAccessPort_keeps (trstN : Bool) (tms : Bool) (tdi : Bool) (i : TapInstr) (s : State) :
    Keeps (execTestAccessPort trstN tms tdi i s) s := by
  unfold execTestAccessPort; (repeat' split) <;> exact ⟨_, rfl, by simp⟩

end Sys2Proof.Machine
end

