-- ==== Sys2Proof/Laws/Moves.lean ====
section
/-! SUPPORT. The few commands that move what `Kept` holds: a life-cycle change, its completion at start-up, the choice of a firmware
bank, the straps at a reset; and what each of them does to it. -/

namespace Sys2Proof.Machine

/-- What every command does to the queue, the part's identity, the life cycle and the least firmware version. -/
structure Moved (s t : State) : Prop where
  pending  : t.pending = s.pending
  deviceId : t.straps.deviceId = s.straps.deviceId
  ports    : t.straps.ports = s.straps.ports
  life     : s.lifeStep t
  version  : s.mgmt.minVersion ≤ t.mgmt.minVersion

theorem moved_of_kept {s t : State} (h : t.kept = s.kept) : Moved s t := by
  simp only [State.kept, Kept.mk.injEq] at h
  obtain ⟨h1, h2, h3, h4, h5⟩ := h
  exact ⟨h1, by rw [h2], by rw [h2], Or.inl ⟨h3, Or.inl h4⟩, Nat.le_of_eq h5.symm⟩

/-- A command that keeps it moves it by nothing. -/
theorem moved_of_keeps {r : Result} {s : State} (h : Keeps r s) : ∃ t, r = .next t ∧ Moved s t := by
  obtain ⟨t, hr, ht⟩ := h; exact ⟨t, hr, moved_of_kept ht⟩

theorem lifeMove_leads {now x : LifeCycle} {n : Nat} {role : Role} {b : Bool} (h : lifeMove now n role = some (x, b)) :
    now.leads x = true := by
  unfold lifeMove at h
  split at h <;> first | (injection h with h; injection h with h _; subst h; rfl) | cases h

/-- A committed change: the reset that follows keeps it. -/
theorem State.commitChange_life (s : State) (x : LifeCycle) (key : BitVec 768) :
    (s.commitChange x key).kept = { s.kept with lcPending := some (x, key) } := by
  unfold State.commitChange; rw [State.deviceReset_kept]; rfl

theorem ite_holds {α : Type} {P : α → Prop} {c : Prop} [Decidable c] {a b : α} (ha : P a) (hb : P b) : P (if c then a else b) := by
  split
  · exact ha
  · exact hb

/-- A LIFECYCLE_CHANGE write commits a legal move, or changes nothing. -/
theorem State.lifecycleWrite_moved (s : State) (q : Req) (body : List Byte) : Moved s (s.lifecycleWrite q body) := by
  have key : (s.lifecycleWrite q body).kept = s.kept
      ∨ ∃ x k, (s.lifecycleWrite q body).kept = { s.kept with lcPending := some (x, k) } ∧ s.mgmt.lifecycle.leads x = true := by
    unfold State.lifecycleWrite State.serve
    dsimp only
    have ht := s.takeRequest_kept q.path
    have hl : (s.takeRequest q.path).mgmt.lifecycle = s.mgmt.lifecycle := congrArg Kept.lifecycle ht
    generalize s.takeRequest q.path = s1 at ht hl
    have no : ∀ obj sub f b, (s1.answer q obj sub f b).kept = s.kept := fun obj sub f b => (s1.answer_kept q obj sub f b).trans ht
    split
    · exact Or.inl ht
    · exact Or.inl ((s1.countDev_kept 10 1).trans ht)
    · exact Or.inl ((s1.sendFdp_kept q.path _).trans ht)
    · exact Or.inl ht
    · exact Or.inl ((s1.respond_kept q _ _ _ _).trans ht)
    · let P (t : State) : Prop :=
        t.kept = s.kept ∨ ∃ x k, t.kept = { s.kept with lcPending := some (x, k) } ∧ s.mgmt.lifecycle.leads x = true
      -- what the run itself does; serve answers it, or a refusal in its place
      suffices run : ∀ t, P t → ∀ (a b c d : Prop) [Decidable a] [Decidable b] [Decidable c] [Decidable d] (obj sub : Nat) (f g : Fdp),
          P (if a then (if b then t else s1.answer q obj sub f) else if c then (if d then t else s1.answer q obj sub g) else t) by
        refine run _ ?_ _ _ _ _ _ _ _ _
        iterate 4 refine ite_holds (P := P) (Or.inl (no _ _ _ _)) ?_
        split
        · exact Or.inl (no _ _ _ _)
        · next x b hm =>
          split
          · exact Or.inl (no _ _ _ _)
          refine ite_holds (P := P) (Or.inl (no _ _ _ _)) ?_
          split
          · next hc =>
            left
            have h1 := congrArg State.kept (eq_pair_iff.1 hc).1
            rw [State.caddyWrite_kept] at h1
            exact (State.answer_kept _ q _ _ _ _).trans (h1.trans ht)
          · next hc =>
            right
            have h1 := congrArg State.kept (eq_pair_iff.1 hc).1
            rw [State.caddyWrite_kept] at h1
            refine ⟨x, BitVec.ofNat 768 (natOfBytes ((body.drop 16).take 96)), (State.commitChange_life _ _ _).trans ?_,
              by rw [← hl]; exact lifeMove_leads hm⟩
            congr 1
            rw [State.answer_kept]
            split
            · rw [State.haltStart_kept, State.haltTenants_kept, State.auditWrite_kept, h1, ht]
            · rw [State.auditWrite_kept, h1, ht]
      intro t hp a b c d _ _ _ _ obj sub f g
      exact ite_holds (P := P) (ite_holds (P := P) hp (Or.inl (no _ _ _ _))) (ite_holds (P := P) (ite_holds (P := P) hp (Or.inl (no _ _ _ _))) hp)
  rcases key with h | ⟨x, k, h, hx⟩
  · exact moved_of_kept h
  · simp only [State.kept, Kept.mk.injEq] at h
    obtain ⟨h1, h2, h3, h4, h5⟩ := h
    exact ⟨h1, by rw [h2], by rw [h2], Or.inl ⟨h3, Or.inr ⟨x, k, h4, hx⟩⟩, Nat.le_of_eq h5.symm⟩

/-- A FDP_WRITE of any object. -/
theorem State.domainOf_moved (s : State) (q : Req) (r : Reg) (i : Nat) (body : List Byte) (t : State)
    (h : s.domainOf q r i body = some t) : Moved s t := by
  unfold State.domainOf at h
  split at h <;> first
    | (cases h; done)
    | (injection h with h; subst h; first
        | exact moved_of_kept (Result.stateOr_kept (execGateLoad_keeps q i body s))
        | exact moved_of_kept (State.fwStage_kept s q body)
        | exact moved_of_kept (State.fwChunkWrite_kept s q body)
        | exact State.lifecycleWrite_moved s q body)

theorem State.fdpWrite_moved (s : State) (q : Req) (obj sub : Nat) (body : List Byte) : Moved s (s.fdpWrite q obj sub body) := by
  unfold State.fdpWrite
  dsimp only
  split
  · refine moved_of_kept (State.serve_kept _ _ _ _ _ _ (fun role s => ?_))
    split <;> simp
  · next r i e _ =>
    split
    · next t ht => exact State.domainOf_moved s q r i body t ht
    · refine moved_of_kept ?_
      generalize (if r.entries = 0 then 1 else q.count) = k
      generalize (if r.entries = 0 then e else q.entry) = e'
      split
      · simp
      split
      · simp
      split
      · next t ht =>
        have own : ∀ (a b c : Option State), (∀ t, a = some t → t.kept = s.kept) → (∀ t, b = some t → t.kept = s.kept)
            → (∀ t, c = some t → t.kept = s.kept) → (a.orElse (fun _ => b.orElse (fun _ => c))) = some t → t.kept = s.kept := by
          intro a b c ha hb hc hx
          cases a with
          | some y => exact ha t hx
          | none => cases b with
            | some y => exact hb t hx
            | none => exact hc t hx
        exact own _ _ _ (State.ownLo_kept s q r i e _) (State.ownMid_kept s q r i _) (State.ownHi_kept s q r i e _) ht
      · exact State.writeRun_kept _ _ _ _ _ _ _ (fun _ _ _ t => objectRule_kept _ _ _ _ _ _ t)

theorem execFdpWrite_moved (q : Req) (obj sub entry count : Nat) (body : List Byte) (s : State) :
    ∃ t, execFdpWrite q obj sub entry count body s = .next t ∧ Moved s t :=
  ⟨_, rfl, State.fdpWrite_moved s _ obj sub body⟩

theorem execLifecycleChange_moved (q : Req) (body : List Byte) (s : State) :
    ∃ t, execLifecycleChange q body s = .next t ∧ Moved s t :=
  ⟨_, rfl, State.lifecycleWrite_moved s q body⟩

/-- The completion of a committed change. -/
theorem State.finishChange_kept (s : State) :
    s.finishChange.kept = s.kept ∨ ∃ x k, s.mgmt.lcPending = some (x, k) ∧ s.finishChange.kept = { s.kept with lifecycle := x, lcPending := none } := by
  unfold State.finishChange
  split
  · exact Or.inl rfl
  · next x k h =>
    refine Or.inr ⟨x, k, h, ?_⟩
    dsimp only
    split
    · rfl
    · exact (State.setReg_kept _ _ _ _ _).trans rfl

/-- The choice of a bank raises the least version, never lowers it. -/
theorem State.bootBank_kept (s : State) (b f : Bool) :
    ∃ v, s.mgmt.minVersion ≤ v ∧ (s.bootBank b f).kept = { s.kept with minVersion := v } :=
  ⟨max s.mgmt.minVersion (if b then s.mgmt.bankB else s.mgmt.bankA).floor, Nat.le_max_left _ _, rfl⟩

theorem State.bootCheck_moved (s : State) (a b : Bool) : Moved s (s.bootCheck a b) := by
  have h2 : ∃ v, s.finishChange.mgmt.minVersion ≤ v ∧ (s.bootCheck a b).kept = { s.finishChange.kept with minVersion := v } := by
    have he : ∃ v, s.finishChange.mgmt.minVersion ≤ v ∧ s.finishChange.enterRecovery.kept = { s.finishChange.kept with minVersion := v } :=
      ⟨_, Nat.le_refl _, s.finishChange.enterRecovery_kept⟩
    unfold State.bootCheck
    dsimp only
    (repeat' split) <;> first | with_reducible exact State.bootBank_kept _ _ _ | with_reducible exact he
  obtain ⟨v, hv, h2⟩ := h2
  rcases s.finishChange_kept with h1 | ⟨x, k, hx, h1⟩
  · rw [h1] at h2
    have hm : s.finishChange.mgmt.minVersion = s.mgmt.minVersion := congrArg Kept.minVersion h1
    simp only [State.kept, Kept.mk.injEq] at h2
    obtain ⟨g1, g2, g3, g4, g5⟩ := h2
    exact ⟨g1, by rw [g2], by rw [g2], Or.inl ⟨g3, Or.inl g4⟩, by rw [g5, ← hm]; exact hv⟩
  · rw [h1] at h2
    have hm : s.finishChange.mgmt.minVersion = s.mgmt.minVersion := congrArg Kept.minVersion h1
    simp only [State.kept, Kept.mk.injEq] at h2
    obtain ⟨g1, g2, g3, g4, g5⟩ := h2
    exact ⟨g1, by rw [g2], by rw [g2], Or.inr ⟨g4, k, by rw [g3]; exact hx⟩, by rw [g5, ← hm]; exact hv⟩

theorem execBootFirmwareCheck_moved (a b : Bool) (s : State) : ∃ t, execBootFirmwareCheck a b s = .next t ∧ Moved s t := by
  refine ⟨_, rfl, ?_⟩
  split
  · exact State.bootCheck_moved s a b
  · exact moved_of_kept rfl

theorem execResetRelease_moved (kind : Nat) (side : Bool) (id : BitVec 7) (s : State) :
    ∃ t, execResetRelease kind side id s = .next t ∧ Moved s t := by
  refine ⟨_, rfl, ?_⟩
  split
  · split
    · have h := State.release_kept { s with straps := { s.straps with twinSide := side, mgmtId := id.toNat } } [1, 2]
      simp only [State.kept, Kept.mk.injEq] at h
      obtain ⟨h1, h2, h3, h4, h5⟩ := h
      exact ⟨h1, by rw [h2], by rw [h2], Or.inl ⟨h3, Or.inl h4⟩, Nat.le_of_eq h5.symm⟩
    · exact moved_of_kept rfl
  · split
    · exact moved_of_kept rfl
    · exact moved_of_kept (State.release_kept s [kind])

end Sys2Proof.Machine
end

