-- ==== Sys2Proof/Laws/State.lean ====
section
/-! SUPPORT. What each update of the state leaves alone, one lemma for each field, and what a write of one element reads back as. -/

namespace Sys2Proof.Machine

@[simp] theorem State.setReg_pending (s : State) (r : Reg) (i e : Nat) (v : Image) : (s.setReg r i e v).pending = s.pending := rfl
@[simp] theorem State.setReg_out (s : State) (r : Reg) (i e : Nat) (v : Image) : (s.setReg r i e v).out = s.out := rfl
@[simp] theorem State.setReg_draws (s : State) (r : Reg) (i e : Nat) (v : Image) : (s.setReg r i e v).draws = s.draws := rfl
@[simp] theorem State.setReg_uptime (s : State) (r : Reg) (i e : Nat) (v : Image) : (s.setReg r i e v).uptime = s.uptime := rfl
@[simp] theorem State.setReg_straps (s : State) (r : Reg) (i e : Nat) (v : Image) : (s.setReg r i e v).straps = s.straps := rfl
@[simp] theorem State.setReg_active (s : State) (r : Reg) (i e : Nat) (v : Image) : (s.setReg r i e v).active = s.active := rfl
@[simp] theorem State.setReg_counters (s : State) (r : Reg) (i e : Nat) (v : Image) : (s.setReg r i e v).counters = s.counters := rfl
@[simp] theorem State.setReg_totals (s : State) (r : Reg) (i e : Nat) (v : Image) : (s.setReg r i e v).totals = s.totals := rfl
@[simp] theorem State.setReg_wires (s : State) (r : Reg) (i e : Nat) (v : Image) : (s.setReg r i e v).wires = s.wires := rfl
@[simp] theorem State.setReg_lanes (s : State) (r : Reg) (i e : Nat) (v : Image) : (s.setReg r i e v).lanes = s.lanes := rfl
@[simp] theorem State.setReg_links (s : State) (r : Reg) (i e : Nat) (v : Image) : (s.setReg r i e v).links = s.links := rfl
@[simp] theorem State.setReg_inputs (s : State) (r : Reg) (i e : Nat) (v : Image) : (s.setReg r i e v).inputs = s.inputs := rfl
@[simp] theorem State.setReg_outputs (s : State) (r : Reg) (i e : Nat) (v : Image) : (s.setReg r i e v).outputs = s.outputs := rfl
@[simp] theorem State.setReg_inBuckets (s : State) (r : Reg) (i e : Nat) (v : Image) : (s.setReg r i e v).inBuckets = s.inBuckets := rfl
@[simp] theorem State.setReg_injBuckets (s : State) (r : Reg) (i e : Nat) (v : Image) : (s.setReg r i e v).injBuckets = s.injBuckets := rfl
@[simp] theorem State.setReg_injLevel (s : State) (r : Reg) (i e : Nat) (v : Image) : (s.setReg r i e v).injLevel = s.injLevel := rfl
@[simp] theorem State.setReg_rolesOn (s : State) (r : Reg) (i e : Nat) (v : Image) : (s.setReg r i e v).rolesOn = s.rolesOn := rfl
@[simp] theorem State.setReg_isolated (s : State) (r : Reg) (i e : Nat) (v : Image) : (s.setReg r i e v).isolated = s.isolated := rfl
@[simp] theorem State.setReg_mgmt (s : State) (r : Reg) (i e : Nat) (v : Image) : (s.setReg r i e v).mgmt = s.mgmt := rfl
@[simp] theorem State.setReg_ops (s : State) (r : Reg) (i e : Nat) (v : Image) : (s.setReg r i e v).ops = s.ops := rfl
@[simp] theorem State.setReg_timeQ (s : State) (r : Reg) (i e : Nat) (v : Image) : (s.setReg r i e v).timeQ = s.timeQ := rfl
@[simp] theorem State.setReg_bypassIn (s : State) (r : Reg) (i e : Nat) (v : Image) : (s.setReg r i e v).bypassIn = s.bypassIn := rfl
@[simp] theorem State.setReg_built (s : State) (r : Reg) (i e : Nat) (v : Image) : (s.setReg r i e v).built = s.built := rfl
@[simp] theorem State.setReg_rings (s : State) (r : Reg) (i e : Nat) (v : Image) : (s.setReg r i e v).rings = s.rings := rfl
@[simp] theorem State.setReg_host (s : State) (r : Reg) (i e : Nat) (v : Image) : (s.setReg r i e v).host = s.host := rfl
@[simp] theorem State.setReg_counting (s : State) (r : Reg) (i e : Nat) (v : Image) : (s.setReg r i e v).counting = s.counting := rfl
@[simp] theorem State.setReg_trans (s : State) (r : Reg) (i e : Nat) (v : Image) : (s.setReg r i e v).trans = s.trans := rfl
@[simp] theorem State.setReg_remote (s : State) (r : Reg) (i e : Nat) (v : Image) : (s.setReg r i e v).remote = s.remote := rfl
@[simp] theorem State.setReg_colls (s : State) (r : Reg) (i e : Nat) (v : Image) : (s.setReg r i e v).colls = s.colls := rfl
@[simp] theorem State.setReg_service (s : State) (r : Reg) (i e : Nat) (v : Image) : (s.setReg r i e v).service = s.service := rfl
@[simp] theorem State.setReg_arrived (s : State) (r : Reg) (i e : Nat) (v : Image) : (s.setReg r i e v).arrived = s.arrived := rfl
@[simp] theorem State.setReg_ownGone (s : State) (r : Reg) (i e : Nat) (v : Image) : (s.setReg r i e v).ownGone = s.ownGone := rfl
@[simp] theorem State.setReg_adopted (s : State) (r : Reg) (i e : Nat) (v : Image) : (s.setReg r i e v).adopted = s.adopted := rfl
@[simp] theorem State.setReg_faults (s : State) (r : Reg) (i e : Nat) (v : Image) : (s.setReg r i e v).faults = s.faults := rfl
@[simp] theorem State.setReg_twin (s : State) (r : Reg) (i e : Nat) (v : Image) : (s.setReg r i e v).twin = s.twin := rfl
@[simp] theorem State.setReg_time (s : State) (r : Reg) (i e : Nat) (v : Image) : (s.setReg r i e v).time = s.time := rfl
@[simp] theorem State.setReg_power (s : State) (r : Reg) (i e : Nat) (v : Image) : (s.setReg r i e v).power = s.power := rfl
@[simp] theorem State.setReg_boot (s : State) (r : Reg) (i e : Nat) (v : Image) : (s.setReg r i e v).boot = s.boot := rfl
@[simp] theorem State.setReg_holds (s : State) (r : Reg) (i e : Nat) (v : Image) : (s.setReg r i e v).holds = s.holds := rfl
@[simp] theorem State.setReg_lastReset (s : State) (r : Reg) (i e : Nat) (v : Image) : (s.setReg r i e v).lastReset = s.lastReset := rfl
@[simp] theorem State.setReg_resets (s : State) (r : Reg) (i e : Nat) (v : Image) : (s.setReg r i e v).resets = s.resets := rfl
@[simp] theorem State.setReg_tap (s : State) (r : Reg) (i e : Nat) (v : Image) : (s.setReg r i e v).tap = s.tap := rfl

@[simp] theorem State.commit_pending (s : State) (r : Reg) (i e : Nat) : (s.commit r i e).pending = s.pending := rfl
@[simp] theorem State.commit_out (s : State) (r : Reg) (i e : Nat) : (s.commit r i e).out = s.out := rfl
@[simp] theorem State.commit_draws (s : State) (r : Reg) (i e : Nat) : (s.commit r i e).draws = s.draws := rfl
@[simp] theorem State.commit_uptime (s : State) (r : Reg) (i e : Nat) : (s.commit r i e).uptime = s.uptime := rfl
@[simp] theorem State.commit_straps (s : State) (r : Reg) (i e : Nat) : (s.commit r i e).straps = s.straps := rfl
@[simp] theorem State.commit_dict (s : State) (r : Reg) (i e : Nat) : (s.commit r i e).dict = s.dict := rfl
@[simp] theorem State.commit_counters (s : State) (r : Reg) (i e : Nat) : (s.commit r i e).counters = s.counters := rfl
@[simp] theorem State.commit_totals (s : State) (r : Reg) (i e : Nat) : (s.commit r i e).totals = s.totals := rfl
@[simp] theorem State.commit_wires (s : State) (r : Reg) (i e : Nat) : (s.commit r i e).wires = s.wires := rfl
@[simp] theorem State.commit_lanes (s : State) (r : Reg) (i e : Nat) : (s.commit r i e).lanes = s.lanes := rfl
@[simp] theorem State.commit_links (s : State) (r : Reg) (i e : Nat) : (s.commit r i e).links = s.links := rfl
@[simp] theorem State.commit_inputs (s : State) (r : Reg) (i e : Nat) : (s.commit r i e).inputs = s.inputs := rfl
@[simp] theorem State.commit_outputs (s : State) (r : Reg) (i e : Nat) : (s.commit r i e).outputs = s.outputs := rfl
@[simp] theorem State.commit_inBuckets (s : State) (r : Reg) (i e : Nat) : (s.commit r i e).inBuckets = s.inBuckets := rfl
@[simp] theorem State.commit_injBuckets (s : State) (r : Reg) (i e : Nat) : (s.commit r i e).injBuckets = s.injBuckets := rfl
@[simp] theorem State.commit_injLevel (s : State) (r : Reg) (i e : Nat) : (s.commit r i e).injLevel = s.injLevel := rfl
@[simp] theorem State.commit_rolesOn (s : State) (r : Reg) (i e : Nat) : (s.commit r i e).rolesOn = s.rolesOn := rfl
@[simp] theorem State.commit_isolated (s : State) (r : Reg) (i e : Nat) : (s.commit r i e).isolated = s.isolated := rfl
@[simp] theorem State.commit_mgmt (s : State) (r : Reg) (i e : Nat) : (s.commit r i e).mgmt = s.mgmt := rfl
@[simp] theorem State.commit_ops (s : State) (r : Reg) (i e : Nat) : (s.commit r i e).ops = s.ops := rfl
@[simp] theorem State.commit_timeQ (s : State) (r : Reg) (i e : Nat) : (s.commit r i e).timeQ = s.timeQ := rfl
@[simp] theorem State.commit_bypassIn (s : State) (r : Reg) (i e : Nat) : (s.commit r i e).bypassIn = s.bypassIn := rfl
@[simp] theorem State.commit_built (s : State) (r : Reg) (i e : Nat) : (s.commit r i e).built = s.built := rfl
@[simp] theorem State.commit_rings (s : State) (r : Reg) (i e : Nat) : (s.commit r i e).rings = s.rings := rfl
@[simp] theorem State.commit_host (s : State) (r : Reg) (i e : Nat) : (s.commit r i e).host = s.host := rfl
@[simp] theorem State.commit_counting (s : State) (r : Reg) (i e : Nat) : (s.commit r i e).counting = s.counting := rfl
@[simp] theorem State.commit_trans (s : State) (r : Reg) (i e : Nat) : (s.commit r i e).trans = s.trans := rfl
@[simp] theorem State.commit_remote (s : State) (r : Reg) (i e : Nat) : (s.commit r i e).remote = s.remote := rfl
@[simp] theorem State.commit_colls (s : State) (r : Reg) (i e : Nat) : (s.commit r i e).colls = s.colls := rfl
@[simp] theorem State.commit_service (s : State) (r : Reg) (i e : Nat) : (s.commit r i e).service = s.service := rfl
@[simp] theorem State.commit_arrived (s : State) (r : Reg) (i e : Nat) : (s.commit r i e).arrived = s.arrived := rfl
@[simp] theorem State.commit_ownGone (s : State) (r : Reg) (i e : Nat) : (s.commit r i e).ownGone = s.ownGone := rfl
@[simp] theorem State.commit_adopted (s : State) (r : Reg) (i e : Nat) : (s.commit r i e).adopted = s.adopted := rfl
@[simp] theorem State.commit_faults (s : State) (r : Reg) (i e : Nat) : (s.commit r i e).faults = s.faults := rfl
@[simp] theorem State.commit_twin (s : State) (r : Reg) (i e : Nat) : (s.commit r i e).twin = s.twin := rfl
@[simp] theorem State.commit_time (s : State) (r : Reg) (i e : Nat) : (s.commit r i e).time = s.time := rfl
@[simp] theorem State.commit_power (s : State) (r : Reg) (i e : Nat) : (s.commit r i e).power = s.power := rfl
@[simp] theorem State.commit_boot (s : State) (r : Reg) (i e : Nat) : (s.commit r i e).boot = s.boot := rfl
@[simp] theorem State.commit_holds (s : State) (r : Reg) (i e : Nat) : (s.commit r i e).holds = s.holds := rfl
@[simp] theorem State.commit_lastReset (s : State) (r : Reg) (i e : Nat) : (s.commit r i e).lastReset = s.lastReset := rfl
@[simp] theorem State.commit_resets (s : State) (r : Reg) (i e : Nat) : (s.commit r i e).resets = s.resets := rfl
@[simp] theorem State.commit_tap (s : State) (r : Reg) (i e : Nat) : (s.commit r i e).tap = s.tap := rfl

@[simp] theorem State.count_pending (s : State) (n k : Nat) : (s.count n k).pending = s.pending := rfl
@[simp] theorem State.count_out (s : State) (n k : Nat) : (s.count n k).out = s.out := rfl
@[simp] theorem State.count_draws (s : State) (n k : Nat) : (s.count n k).draws = s.draws := rfl
@[simp] theorem State.count_uptime (s : State) (n k : Nat) : (s.count n k).uptime = s.uptime := rfl
@[simp] theorem State.count_straps (s : State) (n k : Nat) : (s.count n k).straps = s.straps := rfl
@[simp] theorem State.count_dict (s : State) (n k : Nat) : (s.count n k).dict = s.dict := rfl
@[simp] theorem State.count_active (s : State) (n k : Nat) : (s.count n k).active = s.active := rfl
@[simp] theorem State.count_wires (s : State) (n k : Nat) : (s.count n k).wires = s.wires := rfl
@[simp] theorem State.count_lanes (s : State) (n k : Nat) : (s.count n k).lanes = s.lanes := rfl
@[simp] theorem State.count_links (s : State) (n k : Nat) : (s.count n k).links = s.links := rfl
@[simp] theorem State.count_inputs (s : State) (n k : Nat) : (s.count n k).inputs = s.inputs := rfl
@[simp] theorem State.count_outputs (s : State) (n k : Nat) : (s.count n k).outputs = s.outputs := rfl
@[simp] theorem State.count_inBuckets (s : State) (n k : Nat) : (s.count n k).inBuckets = s.inBuckets := rfl
@[simp] theorem State.count_injBuckets (s : State) (n k : Nat) : (s.count n k).injBuckets = s.injBuckets := rfl
@[simp] theorem State.count_injLevel (s : State) (n k : Nat) : (s.count n k).injLevel = s.injLevel := rfl
@[simp] theorem State.count_rolesOn (s : State) (n k : Nat) : (s.count n k).rolesOn = s.rolesOn := rfl
@[simp] theorem State.count_isolated (s : State) (n k : Nat) : (s.count n k).isolated = s.isolated := rfl
@[simp] theorem State.count_mgmt (s : State) (n k : Nat) : (s.count n k).mgmt = s.mgmt := rfl
@[simp] theorem State.count_ops (s : State) (n k : Nat) : (s.count n k).ops = s.ops := rfl
@[simp] theorem State.count_timeQ (s : State) (n k : Nat) : (s.count n k).timeQ = s.timeQ := rfl
@[simp] theorem State.count_bypassIn (s : State) (n k : Nat) : (s.count n k).bypassIn = s.bypassIn := rfl
@[simp] theorem State.count_built (s : State) (n k : Nat) : (s.count n k).built = s.built := rfl
@[simp] theorem State.count_rings (s : State) (n k : Nat) : (s.count n k).rings = s.rings := rfl
@[simp] theorem State.count_host (s : State) (n k : Nat) : (s.count n k).host = s.host := rfl
@[simp] theorem State.count_counting (s : State) (n k : Nat) : (s.count n k).counting = s.counting := rfl
@[simp] theorem State.count_trans (s : State) (n k : Nat) : (s.count n k).trans = s.trans := rfl
@[simp] theorem State.count_remote (s : State) (n k : Nat) : (s.count n k).remote = s.remote := rfl
@[simp] theorem State.count_colls (s : State) (n k : Nat) : (s.count n k).colls = s.colls := rfl
@[simp] theorem State.count_service (s : State) (n k : Nat) : (s.count n k).service = s.service := rfl
@[simp] theorem State.count_arrived (s : State) (n k : Nat) : (s.count n k).arrived = s.arrived := rfl
@[simp] theorem State.count_ownGone (s : State) (n k : Nat) : (s.count n k).ownGone = s.ownGone := rfl
@[simp] theorem State.count_adopted (s : State) (n k : Nat) : (s.count n k).adopted = s.adopted := rfl
@[simp] theorem State.count_faults (s : State) (n k : Nat) : (s.count n k).faults = s.faults := rfl
@[simp] theorem State.count_twin (s : State) (n k : Nat) : (s.count n k).twin = s.twin := rfl
@[simp] theorem State.count_time (s : State) (n k : Nat) : (s.count n k).time = s.time := rfl
@[simp] theorem State.count_power (s : State) (n k : Nat) : (s.count n k).power = s.power := rfl
@[simp] theorem State.count_boot (s : State) (n k : Nat) : (s.count n k).boot = s.boot := rfl
@[simp] theorem State.count_holds (s : State) (n k : Nat) : (s.count n k).holds = s.holds := rfl
@[simp] theorem State.count_lastReset (s : State) (n k : Nat) : (s.count n k).lastReset = s.lastReset := rfl
@[simp] theorem State.count_resets (s : State) (n k : Nat) : (s.count n k).resets = s.resets := rfl
@[simp] theorem State.count_tap (s : State) (n k : Nat) : (s.count n k).tap = s.tap := rfl

@[simp] theorem State.countPort_pending (s : State) (a e k : Nat) : (s.countPort a e k).pending = s.pending := rfl
@[simp] theorem State.countPort_out (s : State) (a e k : Nat) : (s.countPort a e k).out = s.out := rfl
@[simp] theorem State.countPort_draws (s : State) (a e k : Nat) : (s.countPort a e k).draws = s.draws := rfl
@[simp] theorem State.countPort_uptime (s : State) (a e k : Nat) : (s.countPort a e k).uptime = s.uptime := rfl
@[simp] theorem State.countPort_straps (s : State) (a e k : Nat) : (s.countPort a e k).straps = s.straps := rfl
@[simp] theorem State.countPort_dict (s : State) (a e k : Nat) : (s.countPort a e k).dict = s.dict := rfl
@[simp] theorem State.countPort_active (s : State) (a e k : Nat) : (s.countPort a e k).active = s.active := rfl
@[simp] theorem State.countPort_wires (s : State) (a e k : Nat) : (s.countPort a e k).wires = s.wires := rfl
@[simp] theorem State.countPort_lanes (s : State) (a e k : Nat) : (s.countPort a e k).lanes = s.lanes := rfl
@[simp] theorem State.countPort_links (s : State) (a e k : Nat) : (s.countPort a e k).links = s.links := rfl
@[simp] theorem State.countPort_inputs (s : State) (a e k : Nat) : (s.countPort a e k).inputs = s.inputs := rfl
@[simp] theorem State.countPort_outputs (s : State) (a e k : Nat) : (s.countPort a e k).outputs = s.outputs := rfl
@[simp] theorem State.countPort_inBuckets (s : State) (a e k : Nat) : (s.countPort a e k).inBuckets = s.inBuckets := rfl
@[simp] theorem State.countPort_injBuckets (s : State) (a e k : Nat) : (s.countPort a e k).injBuckets = s.injBuckets := rfl
@[simp] theorem State.countPort_injLevel (s : State) (a e k : Nat) : (s.countPort a e k).injLevel = s.injLevel := rfl
@[simp] theorem State.countPort_rolesOn (s : State) (a e k : Nat) : (s.countPort a e k).rolesOn = s.rolesOn := rfl
@[simp] theorem State.countPort_isolated (s : State) (a e k : Nat) : (s.countPort a e k).isolated = s.isolated := rfl
@[simp] theorem State.countPort_mgmt (s : State) (a e k : Nat) : (s.countPort a e k).mgmt = s.mgmt := rfl
@[simp] theorem State.countPort_ops (s : State) (a e k : Nat) : (s.countPort a e k).ops = s.ops := rfl
@[simp] theorem State.countPort_timeQ (s : State) (a e k : Nat) : (s.countPort a e k).timeQ = s.timeQ := rfl
@[simp] theorem State.countPort_bypassIn (s : State) (a e k : Nat) : (s.countPort a e k).bypassIn = s.bypassIn := rfl
@[simp] theorem State.countPort_built (s : State) (a e k : Nat) : (s.countPort a e k).built = s.built := rfl
@[simp] theorem State.countPort_rings (s : State) (a e k : Nat) : (s.countPort a e k).rings = s.rings := rfl
@[simp] theorem State.countPort_host (s : State) (a e k : Nat) : (s.countPort a e k).host = s.host := rfl
@[simp] theorem State.countPort_counting (s : State) (a e k : Nat) : (s.countPort a e k).counting = s.counting := rfl
@[simp] theorem State.countPort_trans (s : State) (a e k : Nat) : (s.countPort a e k).trans = s.trans := rfl
@[simp] theorem State.countPort_remote (s : State) (a e k : Nat) : (s.countPort a e k).remote = s.remote := rfl
@[simp] theorem State.countPort_colls (s : State) (a e k : Nat) : (s.countPort a e k).colls = s.colls := rfl
@[simp] theorem State.countPort_service (s : State) (a e k : Nat) : (s.countPort a e k).service = s.service := rfl
@[simp] theorem State.countPort_arrived (s : State) (a e k : Nat) : (s.countPort a e k).arrived = s.arrived := rfl
@[simp] theorem State.countPort_ownGone (s : State) (a e k : Nat) : (s.countPort a e k).ownGone = s.ownGone := rfl
@[simp] theorem State.countPort_adopted (s : State) (a e k : Nat) : (s.countPort a e k).adopted = s.adopted := rfl
@[simp] theorem State.countPort_faults (s : State) (a e k : Nat) : (s.countPort a e k).faults = s.faults := rfl
@[simp] theorem State.countPort_twin (s : State) (a e k : Nat) : (s.countPort a e k).twin = s.twin := rfl
@[simp] theorem State.countPort_time (s : State) (a e k : Nat) : (s.countPort a e k).time = s.time := rfl
@[simp] theorem State.countPort_power (s : State) (a e k : Nat) : (s.countPort a e k).power = s.power := rfl
@[simp] theorem State.countPort_boot (s : State) (a e k : Nat) : (s.countPort a e k).boot = s.boot := rfl
@[simp] theorem State.countPort_holds (s : State) (a e k : Nat) : (s.countPort a e k).holds = s.holds := rfl
@[simp] theorem State.countPort_lastReset (s : State) (a e k : Nat) : (s.countPort a e k).lastReset = s.lastReset := rfl
@[simp] theorem State.countPort_resets (s : State) (a e k : Nat) : (s.countPort a e k).resets = s.resets := rfl
@[simp] theorem State.countPort_tap (s : State) (a e k : Nat) : (s.countPort a e k).tap = s.tap := rfl

@[simp] theorem State.countIn_pending (s : State) (a e k : Nat) : (s.countIn a e k).pending = s.pending := rfl
@[simp] theorem State.countIn_out (s : State) (a e k : Nat) : (s.countIn a e k).out = s.out := rfl
@[simp] theorem State.countIn_draws (s : State) (a e k : Nat) : (s.countIn a e k).draws = s.draws := rfl
@[simp] theorem State.countIn_uptime (s : State) (a e k : Nat) : (s.countIn a e k).uptime = s.uptime := rfl
@[simp] theorem State.countIn_straps (s : State) (a e k : Nat) : (s.countIn a e k).straps = s.straps := rfl
@[simp] theorem State.countIn_dict (s : State) (a e k : Nat) : (s.countIn a e k).dict = s.dict := rfl
@[simp] theorem State.countIn_active (s : State) (a e k : Nat) : (s.countIn a e k).active = s.active := rfl
@[simp] theorem State.countIn_wires (s : State) (a e k : Nat) : (s.countIn a e k).wires = s.wires := rfl
@[simp] theorem State.countIn_lanes (s : State) (a e k : Nat) : (s.countIn a e k).lanes = s.lanes := rfl
@[simp] theorem State.countIn_links (s : State) (a e k : Nat) : (s.countIn a e k).links = s.links := rfl
@[simp] theorem State.countIn_inputs (s : State) (a e k : Nat) : (s.countIn a e k).inputs = s.inputs := rfl
@[simp] theorem State.countIn_outputs (s : State) (a e k : Nat) : (s.countIn a e k).outputs = s.outputs := rfl
@[simp] theorem State.countIn_inBuckets (s : State) (a e k : Nat) : (s.countIn a e k).inBuckets = s.inBuckets := rfl
@[simp] theorem State.countIn_injBuckets (s : State) (a e k : Nat) : (s.countIn a e k).injBuckets = s.injBuckets := rfl
@[simp] theorem State.countIn_injLevel (s : State) (a e k : Nat) : (s.countIn a e k).injLevel = s.injLevel := rfl
@[simp] theorem State.countIn_rolesOn (s : State) (a e k : Nat) : (s.countIn a e k).rolesOn = s.rolesOn := rfl
@[simp] theorem State.countIn_isolated (s : State) (a e k : Nat) : (s.countIn a e k).isolated = s.isolated := rfl
@[simp] theorem State.countIn_mgmt (s : State) (a e k : Nat) : (s.countIn a e k).mgmt = s.mgmt := rfl
@[simp] theorem State.countIn_ops (s : State) (a e k : Nat) : (s.countIn a e k).ops = s.ops := rfl
@[simp] theorem State.countIn_timeQ (s : State) (a e k : Nat) : (s.countIn a e k).timeQ = s.timeQ := rfl
@[simp] theorem State.countIn_bypassIn (s : State) (a e k : Nat) : (s.countIn a e k).bypassIn = s.bypassIn := rfl
@[simp] theorem State.countIn_built (s : State) (a e k : Nat) : (s.countIn a e k).built = s.built := rfl
@[simp] theorem State.countIn_rings (s : State) (a e k : Nat) : (s.countIn a e k).rings = s.rings := rfl
@[simp] theorem State.countIn_host (s : State) (a e k : Nat) : (s.countIn a e k).host = s.host := rfl
@[simp] theorem State.countIn_counting (s : State) (a e k : Nat) : (s.countIn a e k).counting = s.counting := rfl
@[simp] theorem State.countIn_trans (s : State) (a e k : Nat) : (s.countIn a e k).trans = s.trans := rfl
@[simp] theorem State.countIn_remote (s : State) (a e k : Nat) : (s.countIn a e k).remote = s.remote := rfl
@[simp] theorem State.countIn_colls (s : State) (a e k : Nat) : (s.countIn a e k).colls = s.colls := rfl
@[simp] theorem State.countIn_service (s : State) (a e k : Nat) : (s.countIn a e k).service = s.service := rfl
@[simp] theorem State.countIn_arrived (s : State) (a e k : Nat) : (s.countIn a e k).arrived = s.arrived := rfl
@[simp] theorem State.countIn_ownGone (s : State) (a e k : Nat) : (s.countIn a e k).ownGone = s.ownGone := rfl
@[simp] theorem State.countIn_adopted (s : State) (a e k : Nat) : (s.countIn a e k).adopted = s.adopted := rfl
@[simp] theorem State.countIn_faults (s : State) (a e k : Nat) : (s.countIn a e k).faults = s.faults := rfl
@[simp] theorem State.countIn_twin (s : State) (a e k : Nat) : (s.countIn a e k).twin = s.twin := rfl
@[simp] theorem State.countIn_time (s : State) (a e k : Nat) : (s.countIn a e k).time = s.time := rfl
@[simp] theorem State.countIn_power (s : State) (a e k : Nat) : (s.countIn a e k).power = s.power := rfl
@[simp] theorem State.countIn_boot (s : State) (a e k : Nat) : (s.countIn a e k).boot = s.boot := rfl
@[simp] theorem State.countIn_holds (s : State) (a e k : Nat) : (s.countIn a e k).holds = s.holds := rfl
@[simp] theorem State.countIn_lastReset (s : State) (a e k : Nat) : (s.countIn a e k).lastReset = s.lastReset := rfl
@[simp] theorem State.countIn_resets (s : State) (a e k : Nat) : (s.countIn a e k).resets = s.resets := rfl
@[simp] theorem State.countIn_tap (s : State) (a e k : Nat) : (s.countIn a e k).tap = s.tap := rfl

@[simp] theorem State.countXbr_pending (s : State) (a e k : Nat) : (s.countXbr a e k).pending = s.pending := rfl
@[simp] theorem State.countXbr_out (s : State) (a e k : Nat) : (s.countXbr a e k).out = s.out := rfl
@[simp] theorem State.countXbr_draws (s : State) (a e k : Nat) : (s.countXbr a e k).draws = s.draws := rfl
@[simp] theorem State.countXbr_uptime (s : State) (a e k : Nat) : (s.countXbr a e k).uptime = s.uptime := rfl
@[simp] theorem State.countXbr_straps (s : State) (a e k : Nat) : (s.countXbr a e k).straps = s.straps := rfl
@[simp] theorem State.countXbr_dict (s : State) (a e k : Nat) : (s.countXbr a e k).dict = s.dict := rfl
@[simp] theorem State.countXbr_active (s : State) (a e k : Nat) : (s.countXbr a e k).active = s.active := rfl
@[simp] theorem State.countXbr_wires (s : State) (a e k : Nat) : (s.countXbr a e k).wires = s.wires := rfl
@[simp] theorem State.countXbr_lanes (s : State) (a e k : Nat) : (s.countXbr a e k).lanes = s.lanes := rfl
@[simp] theorem State.countXbr_links (s : State) (a e k : Nat) : (s.countXbr a e k).links = s.links := rfl
@[simp] theorem State.countXbr_inputs (s : State) (a e k : Nat) : (s.countXbr a e k).inputs = s.inputs := rfl
@[simp] theorem State.countXbr_outputs (s : State) (a e k : Nat) : (s.countXbr a e k).outputs = s.outputs := rfl
@[simp] theorem State.countXbr_inBuckets (s : State) (a e k : Nat) : (s.countXbr a e k).inBuckets = s.inBuckets := rfl
@[simp] theorem State.countXbr_injBuckets (s : State) (a e k : Nat) : (s.countXbr a e k).injBuckets = s.injBuckets := rfl
@[simp] theorem State.countXbr_injLevel (s : State) (a e k : Nat) : (s.countXbr a e k).injLevel = s.injLevel := rfl
@[simp] theorem State.countXbr_rolesOn (s : State) (a e k : Nat) : (s.countXbr a e k).rolesOn = s.rolesOn := rfl
@[simp] theorem State.countXbr_isolated (s : State) (a e k : Nat) : (s.countXbr a e k).isolated = s.isolated := rfl
@[simp] theorem State.countXbr_mgmt (s : State) (a e k : Nat) : (s.countXbr a e k).mgmt = s.mgmt := rfl
@[simp] theorem State.countXbr_ops (s : State) (a e k : Nat) : (s.countXbr a e k).ops = s.ops := rfl
@[simp] theorem State.countXbr_timeQ (s : State) (a e k : Nat) : (s.countXbr a e k).timeQ = s.timeQ := rfl
@[simp] theorem State.countXbr_bypassIn (s : State) (a e k : Nat) : (s.countXbr a e k).bypassIn = s.bypassIn := rfl
@[simp] theorem State.countXbr_built (s : State) (a e k : Nat) : (s.countXbr a e k).built = s.built := rfl
@[simp] theorem State.countXbr_rings (s : State) (a e k : Nat) : (s.countXbr a e k).rings = s.rings := rfl
@[simp] theorem State.countXbr_host (s : State) (a e k : Nat) : (s.countXbr a e k).host = s.host := rfl
@[simp] theorem State.countXbr_counting (s : State) (a e k : Nat) : (s.countXbr a e k).counting = s.counting := rfl
@[simp] theorem State.countXbr_trans (s : State) (a e k : Nat) : (s.countXbr a e k).trans = s.trans := rfl
@[simp] theorem State.countXbr_remote (s : State) (a e k : Nat) : (s.countXbr a e k).remote = s.remote := rfl
@[simp] theorem State.countXbr_colls (s : State) (a e k : Nat) : (s.countXbr a e k).colls = s.colls := rfl
@[simp] theorem State.countXbr_service (s : State) (a e k : Nat) : (s.countXbr a e k).service = s.service := rfl
@[simp] theorem State.countXbr_arrived (s : State) (a e k : Nat) : (s.countXbr a e k).arrived = s.arrived := rfl
@[simp] theorem State.countXbr_ownGone (s : State) (a e k : Nat) : (s.countXbr a e k).ownGone = s.ownGone := rfl
@[simp] theorem State.countXbr_adopted (s : State) (a e k : Nat) : (s.countXbr a e k).adopted = s.adopted := rfl
@[simp] theorem State.countXbr_faults (s : State) (a e k : Nat) : (s.countXbr a e k).faults = s.faults := rfl
@[simp] theorem State.countXbr_twin (s : State) (a e k : Nat) : (s.countXbr a e k).twin = s.twin := rfl
@[simp] theorem State.countXbr_time (s : State) (a e k : Nat) : (s.countXbr a e k).time = s.time := rfl
@[simp] theorem State.countXbr_power (s : State) (a e k : Nat) : (s.countXbr a e k).power = s.power := rfl
@[simp] theorem State.countXbr_boot (s : State) (a e k : Nat) : (s.countXbr a e k).boot = s.boot := rfl
@[simp] theorem State.countXbr_holds (s : State) (a e k : Nat) : (s.countXbr a e k).holds = s.holds := rfl
@[simp] theorem State.countXbr_lastReset (s : State) (a e k : Nat) : (s.countXbr a e k).lastReset = s.lastReset := rfl
@[simp] theorem State.countXbr_resets (s : State) (a e k : Nat) : (s.countXbr a e k).resets = s.resets := rfl
@[simp] theorem State.countXbr_tap (s : State) (a e k : Nat) : (s.countXbr a e k).tap = s.tap := rfl

@[simp] theorem State.countOut_pending (s : State) (a e k : Nat) : (s.countOut a e k).pending = s.pending := rfl
@[simp] theorem State.countOut_out (s : State) (a e k : Nat) : (s.countOut a e k).out = s.out := rfl
@[simp] theorem State.countOut_draws (s : State) (a e k : Nat) : (s.countOut a e k).draws = s.draws := rfl
@[simp] theorem State.countOut_uptime (s : State) (a e k : Nat) : (s.countOut a e k).uptime = s.uptime := rfl
@[simp] theorem State.countOut_straps (s : State) (a e k : Nat) : (s.countOut a e k).straps = s.straps := rfl
@[simp] theorem State.countOut_dict (s : State) (a e k : Nat) : (s.countOut a e k).dict = s.dict := rfl
@[simp] theorem State.countOut_active (s : State) (a e k : Nat) : (s.countOut a e k).active = s.active := rfl
@[simp] theorem State.countOut_wires (s : State) (a e k : Nat) : (s.countOut a e k).wires = s.wires := rfl
@[simp] theorem State.countOut_lanes (s : State) (a e k : Nat) : (s.countOut a e k).lanes = s.lanes := rfl
@[simp] theorem State.countOut_links (s : State) (a e k : Nat) : (s.countOut a e k).links = s.links := rfl
@[simp] theorem State.countOut_inputs (s : State) (a e k : Nat) : (s.countOut a e k).inputs = s.inputs := rfl
@[simp] theorem State.countOut_outputs (s : State) (a e k : Nat) : (s.countOut a e k).outputs = s.outputs := rfl
@[simp] theorem State.countOut_inBuckets (s : State) (a e k : Nat) : (s.countOut a e k).inBuckets = s.inBuckets := rfl
@[simp] theorem State.countOut_injBuckets (s : State) (a e k : Nat) : (s.countOut a e k).injBuckets = s.injBuckets := rfl
@[simp] theorem State.countOut_injLevel (s : State) (a e k : Nat) : (s.countOut a e k).injLevel = s.injLevel := rfl
@[simp] theorem State.countOut_rolesOn (s : State) (a e k : Nat) : (s.countOut a e k).rolesOn = s.rolesOn := rfl
@[simp] theorem State.countOut_isolated (s : State) (a e k : Nat) : (s.countOut a e k).isolated = s.isolated := rfl
@[simp] theorem State.countOut_mgmt (s : State) (a e k : Nat) : (s.countOut a e k).mgmt = s.mgmt := rfl
@[simp] theorem State.countOut_ops (s : State) (a e k : Nat) : (s.countOut a e k).ops = s.ops := rfl
@[simp] theorem State.countOut_timeQ (s : State) (a e k : Nat) : (s.countOut a e k).timeQ = s.timeQ := rfl
@[simp] theorem State.countOut_bypassIn (s : State) (a e k : Nat) : (s.countOut a e k).bypassIn = s.bypassIn := rfl
@[simp] theorem State.countOut_built (s : State) (a e k : Nat) : (s.countOut a e k).built = s.built := rfl
@[simp] theorem State.countOut_rings (s : State) (a e k : Nat) : (s.countOut a e k).rings = s.rings := rfl
@[simp] theorem State.countOut_host (s : State) (a e k : Nat) : (s.countOut a e k).host = s.host := rfl
@[simp] theorem State.countOut_counting (s : State) (a e k : Nat) : (s.countOut a e k).counting = s.counting := rfl
@[simp] theorem State.countOut_trans (s : State) (a e k : Nat) : (s.countOut a e k).trans = s.trans := rfl
@[simp] theorem State.countOut_remote (s : State) (a e k : Nat) : (s.countOut a e k).remote = s.remote := rfl
@[simp] theorem State.countOut_colls (s : State) (a e k : Nat) : (s.countOut a e k).colls = s.colls := rfl
@[simp] theorem State.countOut_service (s : State) (a e k : Nat) : (s.countOut a e k).service = s.service := rfl
@[simp] theorem State.countOut_arrived (s : State) (a e k : Nat) : (s.countOut a e k).arrived = s.arrived := rfl
@[simp] theorem State.countOut_ownGone (s : State) (a e k : Nat) : (s.countOut a e k).ownGone = s.ownGone := rfl
@[simp] theorem State.countOut_adopted (s : State) (a e k : Nat) : (s.countOut a e k).adopted = s.adopted := rfl
@[simp] theorem State.countOut_faults (s : State) (a e k : Nat) : (s.countOut a e k).faults = s.faults := rfl
@[simp] theorem State.countOut_twin (s : State) (a e k : Nat) : (s.countOut a e k).twin = s.twin := rfl
@[simp] theorem State.countOut_time (s : State) (a e k : Nat) : (s.countOut a e k).time = s.time := rfl
@[simp] theorem State.countOut_power (s : State) (a e k : Nat) : (s.countOut a e k).power = s.power := rfl
@[simp] theorem State.countOut_boot (s : State) (a e k : Nat) : (s.countOut a e k).boot = s.boot := rfl
@[simp] theorem State.countOut_holds (s : State) (a e k : Nat) : (s.countOut a e k).holds = s.holds := rfl
@[simp] theorem State.countOut_lastReset (s : State) (a e k : Nat) : (s.countOut a e k).lastReset = s.lastReset := rfl
@[simp] theorem State.countOut_resets (s : State) (a e k : Nat) : (s.countOut a e k).resets = s.resets := rfl
@[simp] theorem State.countOut_tap (s : State) (a e k : Nat) : (s.countOut a e k).tap = s.tap := rfl

@[simp] theorem State.countRing_pending (s : State) (a e k : Nat) : (s.countRing a e k).pending = s.pending := rfl
@[simp] theorem State.countRing_out (s : State) (a e k : Nat) : (s.countRing a e k).out = s.out := rfl
@[simp] theorem State.countRing_draws (s : State) (a e k : Nat) : (s.countRing a e k).draws = s.draws := rfl
@[simp] theorem State.countRing_uptime (s : State) (a e k : Nat) : (s.countRing a e k).uptime = s.uptime := rfl
@[simp] theorem State.countRing_straps (s : State) (a e k : Nat) : (s.countRing a e k).straps = s.straps := rfl
@[simp] theorem State.countRing_dict (s : State) (a e k : Nat) : (s.countRing a e k).dict = s.dict := rfl
@[simp] theorem State.countRing_active (s : State) (a e k : Nat) : (s.countRing a e k).active = s.active := rfl
@[simp] theorem State.countRing_wires (s : State) (a e k : Nat) : (s.countRing a e k).wires = s.wires := rfl
@[simp] theorem State.countRing_lanes (s : State) (a e k : Nat) : (s.countRing a e k).lanes = s.lanes := rfl
@[simp] theorem State.countRing_links (s : State) (a e k : Nat) : (s.countRing a e k).links = s.links := rfl
@[simp] theorem State.countRing_inputs (s : State) (a e k : Nat) : (s.countRing a e k).inputs = s.inputs := rfl
@[simp] theorem State.countRing_outputs (s : State) (a e k : Nat) : (s.countRing a e k).outputs = s.outputs := rfl
@[simp] theorem State.countRing_inBuckets (s : State) (a e k : Nat) : (s.countRing a e k).inBuckets = s.inBuckets := rfl
@[simp] theorem State.countRing_injBuckets (s : State) (a e k : Nat) : (s.countRing a e k).injBuckets = s.injBuckets := rfl
@[simp] theorem State.countRing_injLevel (s : State) (a e k : Nat) : (s.countRing a e k).injLevel = s.injLevel := rfl
@[simp] theorem State.countRing_rolesOn (s : State) (a e k : Nat) : (s.countRing a e k).rolesOn = s.rolesOn := rfl
@[simp] theorem State.countRing_isolated (s : State) (a e k : Nat) : (s.countRing a e k).isolated = s.isolated := rfl
@[simp] theorem State.countRing_mgmt (s : State) (a e k : Nat) : (s.countRing a e k).mgmt = s.mgmt := rfl
@[simp] theorem State.countRing_ops (s : State) (a e k : Nat) : (s.countRing a e k).ops = s.ops := rfl
@[simp] theorem State.countRing_timeQ (s : State) (a e k : Nat) : (s.countRing a e k).timeQ = s.timeQ := rfl
@[simp] theorem State.countRing_bypassIn (s : State) (a e k : Nat) : (s.countRing a e k).bypassIn = s.bypassIn := rfl
@[simp] theorem State.countRing_built (s : State) (a e k : Nat) : (s.countRing a e k).built = s.built := rfl
@[simp] theorem State.countRing_rings (s : State) (a e k : Nat) : (s.countRing a e k).rings = s.rings := rfl
@[simp] theorem State.countRing_host (s : State) (a e k : Nat) : (s.countRing a e k).host = s.host := rfl
@[simp] theorem State.countRing_counting (s : State) (a e k : Nat) : (s.countRing a e k).counting = s.counting := rfl
@[simp] theorem State.countRing_trans (s : State) (a e k : Nat) : (s.countRing a e k).trans = s.trans := rfl
@[simp] theorem State.countRing_remote (s : State) (a e k : Nat) : (s.countRing a e k).remote = s.remote := rfl
@[simp] theorem State.countRing_colls (s : State) (a e k : Nat) : (s.countRing a e k).colls = s.colls := rfl
@[simp] theorem State.countRing_service (s : State) (a e k : Nat) : (s.countRing a e k).service = s.service := rfl
@[simp] theorem State.countRing_arrived (s : State) (a e k : Nat) : (s.countRing a e k).arrived = s.arrived := rfl
@[simp] theorem State.countRing_ownGone (s : State) (a e k : Nat) : (s.countRing a e k).ownGone = s.ownGone := rfl
@[simp] theorem State.countRing_adopted (s : State) (a e k : Nat) : (s.countRing a e k).adopted = s.adopted := rfl
@[simp] theorem State.countRing_faults (s : State) (a e k : Nat) : (s.countRing a e k).faults = s.faults := rfl
@[simp] theorem State.countRing_twin (s : State) (a e k : Nat) : (s.countRing a e k).twin = s.twin := rfl
@[simp] theorem State.countRing_time (s : State) (a e k : Nat) : (s.countRing a e k).time = s.time := rfl
@[simp] theorem State.countRing_power (s : State) (a e k : Nat) : (s.countRing a e k).power = s.power := rfl
@[simp] theorem State.countRing_boot (s : State) (a e k : Nat) : (s.countRing a e k).boot = s.boot := rfl
@[simp] theorem State.countRing_holds (s : State) (a e k : Nat) : (s.countRing a e k).holds = s.holds := rfl
@[simp] theorem State.countRing_lastReset (s : State) (a e k : Nat) : (s.countRing a e k).lastReset = s.lastReset := rfl
@[simp] theorem State.countRing_resets (s : State) (a e k : Nat) : (s.countRing a e k).resets = s.resets := rfl
@[simp] theorem State.countRing_tap (s : State) (a e k : Nat) : (s.countRing a e k).tap = s.tap := rfl

@[simp] theorem State.countHost_pending (s : State) (a e k : Nat) : (s.countHost a e k).pending = s.pending := rfl
@[simp] theorem State.countHost_out (s : State) (a e k : Nat) : (s.countHost a e k).out = s.out := rfl
@[simp] theorem State.countHost_draws (s : State) (a e k : Nat) : (s.countHost a e k).draws = s.draws := rfl
@[simp] theorem State.countHost_uptime (s : State) (a e k : Nat) : (s.countHost a e k).uptime = s.uptime := rfl
@[simp] theorem State.countHost_straps (s : State) (a e k : Nat) : (s.countHost a e k).straps = s.straps := rfl
@[simp] theorem State.countHost_dict (s : State) (a e k : Nat) : (s.countHost a e k).dict = s.dict := rfl
@[simp] theorem State.countHost_active (s : State) (a e k : Nat) : (s.countHost a e k).active = s.active := rfl
@[simp] theorem State.countHost_wires (s : State) (a e k : Nat) : (s.countHost a e k).wires = s.wires := rfl
@[simp] theorem State.countHost_lanes (s : State) (a e k : Nat) : (s.countHost a e k).lanes = s.lanes := rfl
@[simp] theorem State.countHost_links (s : State) (a e k : Nat) : (s.countHost a e k).links = s.links := rfl
@[simp] theorem State.countHost_inputs (s : State) (a e k : Nat) : (s.countHost a e k).inputs = s.inputs := rfl
@[simp] theorem State.countHost_outputs (s : State) (a e k : Nat) : (s.countHost a e k).outputs = s.outputs := rfl
@[simp] theorem State.countHost_inBuckets (s : State) (a e k : Nat) : (s.countHost a e k).inBuckets = s.inBuckets := rfl
@[simp] theorem State.countHost_injBuckets (s : State) (a e k : Nat) : (s.countHost a e k).injBuckets = s.injBuckets := rfl
@[simp] theorem State.countHost_injLevel (s : State) (a e k : Nat) : (s.countHost a e k).injLevel = s.injLevel := rfl
@[simp] theorem State.countHost_rolesOn (s : State) (a e k : Nat) : (s.countHost a e k).rolesOn = s.rolesOn := rfl
@[simp] theorem State.countHost_isolated (s : State) (a e k : Nat) : (s.countHost a e k).isolated = s.isolated := rfl
@[simp] theorem State.countHost_mgmt (s : State) (a e k : Nat) : (s.countHost a e k).mgmt = s.mgmt := rfl
@[simp] theorem State.countHost_ops (s : State) (a e k : Nat) : (s.countHost a e k).ops = s.ops := rfl
@[simp] theorem State.countHost_timeQ (s : State) (a e k : Nat) : (s.countHost a e k).timeQ = s.timeQ := rfl
@[simp] theorem State.countHost_bypassIn (s : State) (a e k : Nat) : (s.countHost a e k).bypassIn = s.bypassIn := rfl
@[simp] theorem State.countHost_built (s : State) (a e k : Nat) : (s.countHost a e k).built = s.built := rfl
@[simp] theorem State.countHost_rings (s : State) (a e k : Nat) : (s.countHost a e k).rings = s.rings := rfl
@[simp] theorem State.countHost_host (s : State) (a e k : Nat) : (s.countHost a e k).host = s.host := rfl
@[simp] theorem State.countHost_counting (s : State) (a e k : Nat) : (s.countHost a e k).counting = s.counting := rfl
@[simp] theorem State.countHost_trans (s : State) (a e k : Nat) : (s.countHost a e k).trans = s.trans := rfl
@[simp] theorem State.countHost_remote (s : State) (a e k : Nat) : (s.countHost a e k).remote = s.remote := rfl
@[simp] theorem State.countHost_colls (s : State) (a e k : Nat) : (s.countHost a e k).colls = s.colls := rfl
@[simp] theorem State.countHost_service (s : State) (a e k : Nat) : (s.countHost a e k).service = s.service := rfl
@[simp] theorem State.countHost_arrived (s : State) (a e k : Nat) : (s.countHost a e k).arrived = s.arrived := rfl
@[simp] theorem State.countHost_ownGone (s : State) (a e k : Nat) : (s.countHost a e k).ownGone = s.ownGone := rfl
@[simp] theorem State.countHost_adopted (s : State) (a e k : Nat) : (s.countHost a e k).adopted = s.adopted := rfl
@[simp] theorem State.countHost_faults (s : State) (a e k : Nat) : (s.countHost a e k).faults = s.faults := rfl
@[simp] theorem State.countHost_twin (s : State) (a e k : Nat) : (s.countHost a e k).twin = s.twin := rfl
@[simp] theorem State.countHost_time (s : State) (a e k : Nat) : (s.countHost a e k).time = s.time := rfl
@[simp] theorem State.countHost_power (s : State) (a e k : Nat) : (s.countHost a e k).power = s.power := rfl
@[simp] theorem State.countHost_boot (s : State) (a e k : Nat) : (s.countHost a e k).boot = s.boot := rfl
@[simp] theorem State.countHost_holds (s : State) (a e k : Nat) : (s.countHost a e k).holds = s.holds := rfl
@[simp] theorem State.countHost_lastReset (s : State) (a e k : Nat) : (s.countHost a e k).lastReset = s.lastReset := rfl
@[simp] theorem State.countHost_resets (s : State) (a e k : Nat) : (s.countHost a e k).resets = s.resets := rfl
@[simp] theorem State.countHost_tap (s : State) (a e k : Nat) : (s.countHost a e k).tap = s.tap := rfl

@[simp] theorem State.countSlice_pending (s : State) (a e k : Nat) : (s.countSlice a e k).pending = s.pending := rfl
@[simp] theorem State.countSlice_out (s : State) (a e k : Nat) : (s.countSlice a e k).out = s.out := rfl
@[simp] theorem State.countSlice_draws (s : State) (a e k : Nat) : (s.countSlice a e k).draws = s.draws := rfl
@[simp] theorem State.countSlice_uptime (s : State) (a e k : Nat) : (s.countSlice a e k).uptime = s.uptime := rfl
@[simp] theorem State.countSlice_straps (s : State) (a e k : Nat) : (s.countSlice a e k).straps = s.straps := rfl
@[simp] theorem State.countSlice_dict (s : State) (a e k : Nat) : (s.countSlice a e k).dict = s.dict := rfl
@[simp] theorem State.countSlice_active (s : State) (a e k : Nat) : (s.countSlice a e k).active = s.active := rfl
@[simp] theorem State.countSlice_wires (s : State) (a e k : Nat) : (s.countSlice a e k).wires = s.wires := rfl
@[simp] theorem State.countSlice_lanes (s : State) (a e k : Nat) : (s.countSlice a e k).lanes = s.lanes := rfl
@[simp] theorem State.countSlice_links (s : State) (a e k : Nat) : (s.countSlice a e k).links = s.links := rfl
@[simp] theorem State.countSlice_inputs (s : State) (a e k : Nat) : (s.countSlice a e k).inputs = s.inputs := rfl
@[simp] theorem State.countSlice_outputs (s : State) (a e k : Nat) : (s.countSlice a e k).outputs = s.outputs := rfl
@[simp] theorem State.countSlice_inBuckets (s : State) (a e k : Nat) : (s.countSlice a e k).inBuckets = s.inBuckets := rfl
@[simp] theorem State.countSlice_injBuckets (s : State) (a e k : Nat) : (s.countSlice a e k).injBuckets = s.injBuckets := rfl
@[simp] theorem State.countSlice_injLevel (s : State) (a e k : Nat) : (s.countSlice a e k).injLevel = s.injLevel := rfl
@[simp] theorem State.countSlice_rolesOn (s : State) (a e k : Nat) : (s.countSlice a e k).rolesOn = s.rolesOn := rfl
@[simp] theorem State.countSlice_isolated (s : State) (a e k : Nat) : (s.countSlice a e k).isolated = s.isolated := rfl
@[simp] theorem State.countSlice_mgmt (s : State) (a e k : Nat) : (s.countSlice a e k).mgmt = s.mgmt := rfl
@[simp] theorem State.countSlice_ops (s : State) (a e k : Nat) : (s.countSlice a e k).ops = s.ops := rfl
@[simp] theorem State.countSlice_timeQ (s : State) (a e k : Nat) : (s.countSlice a e k).timeQ = s.timeQ := rfl
@[simp] theorem State.countSlice_bypassIn (s : State) (a e k : Nat) : (s.countSlice a e k).bypassIn = s.bypassIn := rfl
@[simp] theorem State.countSlice_built (s : State) (a e k : Nat) : (s.countSlice a e k).built = s.built := rfl
@[simp] theorem State.countSlice_rings (s : State) (a e k : Nat) : (s.countSlice a e k).rings = s.rings := rfl
@[simp] theorem State.countSlice_host (s : State) (a e k : Nat) : (s.countSlice a e k).host = s.host := rfl
@[simp] theorem State.countSlice_counting (s : State) (a e k : Nat) : (s.countSlice a e k).counting = s.counting := rfl
@[simp] theorem State.countSlice_trans (s : State) (a e k : Nat) : (s.countSlice a e k).trans = s.trans := rfl
@[simp] theorem State.countSlice_remote (s : State) (a e k : Nat) : (s.countSlice a e k).remote = s.remote := rfl
@[simp] theorem State.countSlice_colls (s : State) (a e k : Nat) : (s.countSlice a e k).colls = s.colls := rfl
@[simp] theorem State.countSlice_service (s : State) (a e k : Nat) : (s.countSlice a e k).service = s.service := rfl
@[simp] theorem State.countSlice_arrived (s : State) (a e k : Nat) : (s.countSlice a e k).arrived = s.arrived := rfl
@[simp] theorem State.countSlice_ownGone (s : State) (a e k : Nat) : (s.countSlice a e k).ownGone = s.ownGone := rfl
@[simp] theorem State.countSlice_adopted (s : State) (a e k : Nat) : (s.countSlice a e k).adopted = s.adopted := rfl
@[simp] theorem State.countSlice_faults (s : State) (a e k : Nat) : (s.countSlice a e k).faults = s.faults := rfl
@[simp] theorem State.countSlice_twin (s : State) (a e k : Nat) : (s.countSlice a e k).twin = s.twin := rfl
@[simp] theorem State.countSlice_time (s : State) (a e k : Nat) : (s.countSlice a e k).time = s.time := rfl
@[simp] theorem State.countSlice_power (s : State) (a e k : Nat) : (s.countSlice a e k).power = s.power := rfl
@[simp] theorem State.countSlice_boot (s : State) (a e k : Nat) : (s.countSlice a e k).boot = s.boot := rfl
@[simp] theorem State.countSlice_holds (s : State) (a e k : Nat) : (s.countSlice a e k).holds = s.holds := rfl
@[simp] theorem State.countSlice_lastReset (s : State) (a e k : Nat) : (s.countSlice a e k).lastReset = s.lastReset := rfl
@[simp] theorem State.countSlice_resets (s : State) (a e k : Nat) : (s.countSlice a e k).resets = s.resets := rfl
@[simp] theorem State.countSlice_tap (s : State) (a e k : Nat) : (s.countSlice a e k).tap = s.tap := rfl

@[simp] theorem State.countFault_pending (s : State) (a e k : Nat) : (s.countFault a e k).pending = s.pending := rfl
@[simp] theorem State.countFault_out (s : State) (a e k : Nat) : (s.countFault a e k).out = s.out := rfl
@[simp] theorem State.countFault_draws (s : State) (a e k : Nat) : (s.countFault a e k).draws = s.draws := rfl
@[simp] theorem State.countFault_uptime (s : State) (a e k : Nat) : (s.countFault a e k).uptime = s.uptime := rfl
@[simp] theorem State.countFault_straps (s : State) (a e k : Nat) : (s.countFault a e k).straps = s.straps := rfl
@[simp] theorem State.countFault_dict (s : State) (a e k : Nat) : (s.countFault a e k).dict = s.dict := rfl
@[simp] theorem State.countFault_active (s : State) (a e k : Nat) : (s.countFault a e k).active = s.active := rfl
@[simp] theorem State.countFault_wires (s : State) (a e k : Nat) : (s.countFault a e k).wires = s.wires := rfl
@[simp] theorem State.countFault_lanes (s : State) (a e k : Nat) : (s.countFault a e k).lanes = s.lanes := rfl
@[simp] theorem State.countFault_links (s : State) (a e k : Nat) : (s.countFault a e k).links = s.links := rfl
@[simp] theorem State.countFault_inputs (s : State) (a e k : Nat) : (s.countFault a e k).inputs = s.inputs := rfl
@[simp] theorem State.countFault_outputs (s : State) (a e k : Nat) : (s.countFault a e k).outputs = s.outputs := rfl
@[simp] theorem State.countFault_inBuckets (s : State) (a e k : Nat) : (s.countFault a e k).inBuckets = s.inBuckets := rfl
@[simp] theorem State.countFault_injBuckets (s : State) (a e k : Nat) : (s.countFault a e k).injBuckets = s.injBuckets := rfl
@[simp] theorem State.countFault_injLevel (s : State) (a e k : Nat) : (s.countFault a e k).injLevel = s.injLevel := rfl
@[simp] theorem State.countFault_rolesOn (s : State) (a e k : Nat) : (s.countFault a e k).rolesOn = s.rolesOn := rfl
@[simp] theorem State.countFault_isolated (s : State) (a e k : Nat) : (s.countFault a e k).isolated = s.isolated := rfl
@[simp] theorem State.countFault_mgmt (s : State) (a e k : Nat) : (s.countFault a e k).mgmt = s.mgmt := rfl
@[simp] theorem State.countFault_ops (s : State) (a e k : Nat) : (s.countFault a e k).ops = s.ops := rfl
@[simp] theorem State.countFault_timeQ (s : State) (a e k : Nat) : (s.countFault a e k).timeQ = s.timeQ := rfl
@[simp] theorem State.countFault_bypassIn (s : State) (a e k : Nat) : (s.countFault a e k).bypassIn = s.bypassIn := rfl
@[simp] theorem State.countFault_built (s : State) (a e k : Nat) : (s.countFault a e k).built = s.built := rfl
@[simp] theorem State.countFault_rings (s : State) (a e k : Nat) : (s.countFault a e k).rings = s.rings := rfl
@[simp] theorem State.countFault_host (s : State) (a e k : Nat) : (s.countFault a e k).host = s.host := rfl
@[simp] theorem State.countFault_counting (s : State) (a e k : Nat) : (s.countFault a e k).counting = s.counting := rfl
@[simp] theorem State.countFault_trans (s : State) (a e k : Nat) : (s.countFault a e k).trans = s.trans := rfl
@[simp] theorem State.countFault_remote (s : State) (a e k : Nat) : (s.countFault a e k).remote = s.remote := rfl
@[simp] theorem State.countFault_colls (s : State) (a e k : Nat) : (s.countFault a e k).colls = s.colls := rfl
@[simp] theorem State.countFault_service (s : State) (a e k : Nat) : (s.countFault a e k).service = s.service := rfl
@[simp] theorem State.countFault_arrived (s : State) (a e k : Nat) : (s.countFault a e k).arrived = s.arrived := rfl
@[simp] theorem State.countFault_ownGone (s : State) (a e k : Nat) : (s.countFault a e k).ownGone = s.ownGone := rfl
@[simp] theorem State.countFault_adopted (s : State) (a e k : Nat) : (s.countFault a e k).adopted = s.adopted := rfl
@[simp] theorem State.countFault_faults (s : State) (a e k : Nat) : (s.countFault a e k).faults = s.faults := rfl
@[simp] theorem State.countFault_twin (s : State) (a e k : Nat) : (s.countFault a e k).twin = s.twin := rfl
@[simp] theorem State.countFault_time (s : State) (a e k : Nat) : (s.countFault a e k).time = s.time := rfl
@[simp] theorem State.countFault_power (s : State) (a e k : Nat) : (s.countFault a e k).power = s.power := rfl
@[simp] theorem State.countFault_boot (s : State) (a e k : Nat) : (s.countFault a e k).boot = s.boot := rfl
@[simp] theorem State.countFault_holds (s : State) (a e k : Nat) : (s.countFault a e k).holds = s.holds := rfl
@[simp] theorem State.countFault_lastReset (s : State) (a e k : Nat) : (s.countFault a e k).lastReset = s.lastReset := rfl
@[simp] theorem State.countFault_resets (s : State) (a e k : Nat) : (s.countFault a e k).resets = s.resets := rfl
@[simp] theorem State.countFault_tap (s : State) (a e k : Nat) : (s.countFault a e k).tap = s.tap := rfl

@[simp] theorem State.countDev_pending (s : State) (e k : Nat) : (s.countDev e k).pending = s.pending := rfl
@[simp] theorem State.countDev_out (s : State) (e k : Nat) : (s.countDev e k).out = s.out := rfl
@[simp] theorem State.countDev_draws (s : State) (e k : Nat) : (s.countDev e k).draws = s.draws := rfl
@[simp] theorem State.countDev_uptime (s : State) (e k : Nat) : (s.countDev e k).uptime = s.uptime := rfl
@[simp] theorem State.countDev_straps (s : State) (e k : Nat) : (s.countDev e k).straps = s.straps := rfl
@[simp] theorem State.countDev_dict (s : State) (e k : Nat) : (s.countDev e k).dict = s.dict := rfl
@[simp] theorem State.countDev_active (s : State) (e k : Nat) : (s.countDev e k).active = s.active := rfl
@[simp] theorem State.countDev_wires (s : State) (e k : Nat) : (s.countDev e k).wires = s.wires := rfl
@[simp] theorem State.countDev_lanes (s : State) (e k : Nat) : (s.countDev e k).lanes = s.lanes := rfl
@[simp] theorem State.countDev_links (s : State) (e k : Nat) : (s.countDev e k).links = s.links := rfl
@[simp] theorem State.countDev_inputs (s : State) (e k : Nat) : (s.countDev e k).inputs = s.inputs := rfl
@[simp] theorem State.countDev_outputs (s : State) (e k : Nat) : (s.countDev e k).outputs = s.outputs := rfl
@[simp] theorem State.countDev_inBuckets (s : State) (e k : Nat) : (s.countDev e k).inBuckets = s.inBuckets := rfl
@[simp] theorem State.countDev_injBuckets (s : State) (e k : Nat) : (s.countDev e k).injBuckets = s.injBuckets := rfl
@[simp] theorem State.countDev_injLevel (s : State) (e k : Nat) : (s.countDev e k).injLevel = s.injLevel := rfl
@[simp] theorem State.countDev_rolesOn (s : State) (e k : Nat) : (s.countDev e k).rolesOn = s.rolesOn := rfl
@[simp] theorem State.countDev_isolated (s : State) (e k : Nat) : (s.countDev e k).isolated = s.isolated := rfl
@[simp] theorem State.countDev_mgmt (s : State) (e k : Nat) : (s.countDev e k).mgmt = s.mgmt := rfl
@[simp] theorem State.countDev_ops (s : State) (e k : Nat) : (s.countDev e k).ops = s.ops := rfl
@[simp] theorem State.countDev_timeQ (s : State) (e k : Nat) : (s.countDev e k).timeQ = s.timeQ := rfl
@[simp] theorem State.countDev_bypassIn (s : State) (e k : Nat) : (s.countDev e k).bypassIn = s.bypassIn := rfl
@[simp] theorem State.countDev_built (s : State) (e k : Nat) : (s.countDev e k).built = s.built := rfl
@[simp] theorem State.countDev_rings (s : State) (e k : Nat) : (s.countDev e k).rings = s.rings := rfl
@[simp] theorem State.countDev_host (s : State) (e k : Nat) : (s.countDev e k).host = s.host := rfl
@[simp] theorem State.countDev_counting (s : State) (e k : Nat) : (s.countDev e k).counting = s.counting := rfl
@[simp] theorem State.countDev_trans (s : State) (e k : Nat) : (s.countDev e k).trans = s.trans := rfl
@[simp] theorem State.countDev_remote (s : State) (e k : Nat) : (s.countDev e k).remote = s.remote := rfl
@[simp] theorem State.countDev_colls (s : State) (e k : Nat) : (s.countDev e k).colls = s.colls := rfl
@[simp] theorem State.countDev_service (s : State) (e k : Nat) : (s.countDev e k).service = s.service := rfl
@[simp] theorem State.countDev_arrived (s : State) (e k : Nat) : (s.countDev e k).arrived = s.arrived := rfl
@[simp] theorem State.countDev_ownGone (s : State) (e k : Nat) : (s.countDev e k).ownGone = s.ownGone := rfl
@[simp] theorem State.countDev_adopted (s : State) (e k : Nat) : (s.countDev e k).adopted = s.adopted := rfl
@[simp] theorem State.countDev_faults (s : State) (e k : Nat) : (s.countDev e k).faults = s.faults := rfl
@[simp] theorem State.countDev_twin (s : State) (e k : Nat) : (s.countDev e k).twin = s.twin := rfl
@[simp] theorem State.countDev_time (s : State) (e k : Nat) : (s.countDev e k).time = s.time := rfl
@[simp] theorem State.countDev_power (s : State) (e k : Nat) : (s.countDev e k).power = s.power := rfl
@[simp] theorem State.countDev_boot (s : State) (e k : Nat) : (s.countDev e k).boot = s.boot := rfl
@[simp] theorem State.countDev_holds (s : State) (e k : Nat) : (s.countDev e k).holds = s.holds := rfl
@[simp] theorem State.countDev_lastReset (s : State) (e k : Nat) : (s.countDev e k).lastReset = s.lastReset := rfl
@[simp] theorem State.countDev_resets (s : State) (e k : Nat) : (s.countDev e k).resets = s.resets := rfl
@[simp] theorem State.countDev_tap (s : State) (e k : Nat) : (s.countDev e k).tap = s.tap := rfl

@[simp] theorem State.raise_pending (s : State) (n : Nat) : (s.raise n).pending = s.pending := rfl
@[simp] theorem State.raise_out (s : State) (n : Nat) : (s.raise n).out = s.out := rfl
@[simp] theorem State.raise_draws (s : State) (n : Nat) : (s.raise n).draws = s.draws := rfl
@[simp] theorem State.raise_uptime (s : State) (n : Nat) : (s.raise n).uptime = s.uptime := rfl
@[simp] theorem State.raise_straps (s : State) (n : Nat) : (s.raise n).straps = s.straps := rfl
@[simp] theorem State.raise_dict (s : State) (n : Nat) : (s.raise n).dict = s.dict := rfl
@[simp] theorem State.raise_active (s : State) (n : Nat) : (s.raise n).active = s.active := rfl
@[simp] theorem State.raise_counters (s : State) (n : Nat) : (s.raise n).counters = s.counters := rfl
@[simp] theorem State.raise_totals (s : State) (n : Nat) : (s.raise n).totals = s.totals := rfl
@[simp] theorem State.raise_lanes (s : State) (n : Nat) : (s.raise n).lanes = s.lanes := rfl
@[simp] theorem State.raise_links (s : State) (n : Nat) : (s.raise n).links = s.links := rfl
@[simp] theorem State.raise_inputs (s : State) (n : Nat) : (s.raise n).inputs = s.inputs := rfl
@[simp] theorem State.raise_outputs (s : State) (n : Nat) : (s.raise n).outputs = s.outputs := rfl
@[simp] theorem State.raise_inBuckets (s : State) (n : Nat) : (s.raise n).inBuckets = s.inBuckets := rfl
@[simp] theorem State.raise_injBuckets (s : State) (n : Nat) : (s.raise n).injBuckets = s.injBuckets := rfl
@[simp] theorem State.raise_injLevel (s : State) (n : Nat) : (s.raise n).injLevel = s.injLevel := rfl
@[simp] theorem State.raise_rolesOn (s : State) (n : Nat) : (s.raise n).rolesOn = s.rolesOn := rfl
@[simp] theorem State.raise_isolated (s : State) (n : Nat) : (s.raise n).isolated = s.isolated := rfl
@[simp] theorem State.raise_mgmt (s : State) (n : Nat) : (s.raise n).mgmt = s.mgmt := rfl
@[simp] theorem State.raise_ops (s : State) (n : Nat) : (s.raise n).ops = s.ops := rfl
@[simp] theorem State.raise_timeQ (s : State) (n : Nat) : (s.raise n).timeQ = s.timeQ := rfl
@[simp] theorem State.raise_bypassIn (s : State) (n : Nat) : (s.raise n).bypassIn = s.bypassIn := rfl
@[simp] theorem State.raise_built (s : State) (n : Nat) : (s.raise n).built = s.built := rfl
@[simp] theorem State.raise_rings (s : State) (n : Nat) : (s.raise n).rings = s.rings := rfl
@[simp] theorem State.raise_host (s : State) (n : Nat) : (s.raise n).host = s.host := rfl
@[simp] theorem State.raise_counting (s : State) (n : Nat) : (s.raise n).counting = s.counting := rfl
@[simp] theorem State.raise_trans (s : State) (n : Nat) : (s.raise n).trans = s.trans := rfl
@[simp] theorem State.raise_remote (s : State) (n : Nat) : (s.raise n).remote = s.remote := rfl
@[simp] theorem State.raise_colls (s : State) (n : Nat) : (s.raise n).colls = s.colls := rfl
@[simp] theorem State.raise_service (s : State) (n : Nat) : (s.raise n).service = s.service := rfl
@[simp] theorem State.raise_arrived (s : State) (n : Nat) : (s.raise n).arrived = s.arrived := rfl
@[simp] theorem State.raise_ownGone (s : State) (n : Nat) : (s.raise n).ownGone = s.ownGone := rfl
@[simp] theorem State.raise_adopted (s : State) (n : Nat) : (s.raise n).adopted = s.adopted := rfl
@[simp] theorem State.raise_faults (s : State) (n : Nat) : (s.raise n).faults = s.faults := rfl
@[simp] theorem State.raise_twin (s : State) (n : Nat) : (s.raise n).twin = s.twin := rfl
@[simp] theorem State.raise_time (s : State) (n : Nat) : (s.raise n).time = s.time := rfl
@[simp] theorem State.raise_power (s : State) (n : Nat) : (s.raise n).power = s.power := rfl
@[simp] theorem State.raise_boot (s : State) (n : Nat) : (s.raise n).boot = s.boot := rfl
@[simp] theorem State.raise_holds (s : State) (n : Nat) : (s.raise n).holds = s.holds := rfl
@[simp] theorem State.raise_lastReset (s : State) (n : Nat) : (s.raise n).lastReset = s.lastReset := rfl
@[simp] theorem State.raise_resets (s : State) (n : Nat) : (s.raise n).resets = s.resets := rfl
@[simp] theorem State.raise_tap (s : State) (n : Nat) : (s.raise n).tap = s.tap := rfl

@[simp] theorem State.emit_pending (s : State) (o : Out) : (s.emit o).pending = s.pending := rfl
@[simp] theorem State.emit_draws (s : State) (o : Out) : (s.emit o).draws = s.draws := rfl
@[simp] theorem State.emit_uptime (s : State) (o : Out) : (s.emit o).uptime = s.uptime := rfl
@[simp] theorem State.emit_straps (s : State) (o : Out) : (s.emit o).straps = s.straps := rfl
@[simp] theorem State.emit_dict (s : State) (o : Out) : (s.emit o).dict = s.dict := rfl
@[simp] theorem State.emit_active (s : State) (o : Out) : (s.emit o).active = s.active := rfl
@[simp] theorem State.emit_counters (s : State) (o : Out) : (s.emit o).counters = s.counters := rfl
@[simp] theorem State.emit_totals (s : State) (o : Out) : (s.emit o).totals = s.totals := rfl
@[simp] theorem State.emit_wires (s : State) (o : Out) : (s.emit o).wires = s.wires := rfl
@[simp] theorem State.emit_lanes (s : State) (o : Out) : (s.emit o).lanes = s.lanes := rfl
@[simp] theorem State.emit_links (s : State) (o : Out) : (s.emit o).links = s.links := rfl
@[simp] theorem State.emit_inputs (s : State) (o : Out) : (s.emit o).inputs = s.inputs := rfl
@[simp] theorem State.emit_outputs (s : State) (o : Out) : (s.emit o).outputs = s.outputs := rfl
@[simp] theorem State.emit_inBuckets (s : State) (o : Out) : (s.emit o).inBuckets = s.inBuckets := rfl
@[simp] theorem State.emit_injBuckets (s : State) (o : Out) : (s.emit o).injBuckets = s.injBuckets := rfl
@[simp] theorem State.emit_injLevel (s : State) (o : Out) : (s.emit o).injLevel = s.injLevel := rfl
@[simp] theorem State.emit_rolesOn (s : State) (o : Out) : (s.emit o).rolesOn = s.rolesOn := rfl
@[simp] theorem State.emit_isolated (s : State) (o : Out) : (s.emit o).isolated = s.isolated := rfl
@[simp] theorem State.emit_mgmt (s : State) (o : Out) : (s.emit o).mgmt = s.mgmt := rfl
@[simp] theorem State.emit_ops (s : State) (o : Out) : (s.emit o).ops = s.ops := rfl
@[simp] theorem State.emit_timeQ (s : State) (o : Out) : (s.emit o).timeQ = s.timeQ := rfl
@[simp] theorem State.emit_bypassIn (s : State) (o : Out) : (s.emit o).bypassIn = s.bypassIn := rfl
@[simp] theorem State.emit_built (s : State) (o : Out) : (s.emit o).built = s.built := rfl
@[simp] theorem State.emit_rings (s : State) (o : Out) : (s.emit o).rings = s.rings := rfl
@[simp] theorem State.emit_host (s : State) (o : Out) : (s.emit o).host = s.host := rfl
@[simp] theorem State.emit_counting (s : State) (o : Out) : (s.emit o).counting = s.counting := rfl
@[simp] theorem State.emit_trans (s : State) (o : Out) : (s.emit o).trans = s.trans := rfl
@[simp] theorem State.emit_remote (s : State) (o : Out) : (s.emit o).remote = s.remote := rfl
@[simp] theorem State.emit_colls (s : State) (o : Out) : (s.emit o).colls = s.colls := rfl
@[simp] theorem State.emit_service (s : State) (o : Out) : (s.emit o).service = s.service := rfl
@[simp] theorem State.emit_arrived (s : State) (o : Out) : (s.emit o).arrived = s.arrived := rfl
@[simp] theorem State.emit_ownGone (s : State) (o : Out) : (s.emit o).ownGone = s.ownGone := rfl
@[simp] theorem State.emit_adopted (s : State) (o : Out) : (s.emit o).adopted = s.adopted := rfl
@[simp] theorem State.emit_faults (s : State) (o : Out) : (s.emit o).faults = s.faults := rfl
@[simp] theorem State.emit_twin (s : State) (o : Out) : (s.emit o).twin = s.twin := rfl
@[simp] theorem State.emit_time (s : State) (o : Out) : (s.emit o).time = s.time := rfl
@[simp] theorem State.emit_power (s : State) (o : Out) : (s.emit o).power = s.power := rfl
@[simp] theorem State.emit_boot (s : State) (o : Out) : (s.emit o).boot = s.boot := rfl
@[simp] theorem State.emit_holds (s : State) (o : Out) : (s.emit o).holds = s.holds := rfl
@[simp] theorem State.emit_lastReset (s : State) (o : Out) : (s.emit o).lastReset = s.lastReset := rfl
@[simp] theorem State.emit_resets (s : State) (o : Out) : (s.emit o).resets = s.resets := rfl
@[simp] theorem State.emit_tap (s : State) (o : Out) : (s.emit o).tap = s.tap := rfl

@[simp] theorem State.drawn_pending (s : State) : s.drawn.pending = s.pending := rfl
@[simp] theorem State.drawn_out (s : State) : s.drawn.out = s.out := rfl
@[simp] theorem State.drawn_uptime (s : State) : s.drawn.uptime = s.uptime := rfl
@[simp] theorem State.drawn_straps (s : State) : s.drawn.straps = s.straps := rfl
@[simp] theorem State.drawn_dict (s : State) : s.drawn.dict = s.dict := rfl
@[simp] theorem State.drawn_active (s : State) : s.drawn.active = s.active := rfl
@[simp] theorem State.drawn_counters (s : State) : s.drawn.counters = s.counters := rfl
@[simp] theorem State.drawn_totals (s : State) : s.drawn.totals = s.totals := rfl
@[simp] theorem State.drawn_wires (s : State) : s.drawn.wires = s.wires := rfl
@[simp] theorem State.drawn_lanes (s : State) : s.drawn.lanes = s.lanes := rfl
@[simp] theorem State.drawn_links (s : State) : s.drawn.links = s.links := rfl
@[simp] theorem State.drawn_inputs (s : State) : s.drawn.inputs = s.inputs := rfl
@[simp] theorem State.drawn_outputs (s : State) : s.drawn.outputs = s.outputs := rfl
@[simp] theorem State.drawn_inBuckets (s : State) : s.drawn.inBuckets = s.inBuckets := rfl
@[simp] theorem State.drawn_injBuckets (s : State) : s.drawn.injBuckets = s.injBuckets := rfl
@[simp] theorem State.drawn_injLevel (s : State) : s.drawn.injLevel = s.injLevel := rfl
@[simp] theorem State.drawn_rolesOn (s : State) : s.drawn.rolesOn = s.rolesOn := rfl
@[simp] theorem State.drawn_isolated (s : State) : s.drawn.isolated = s.isolated := rfl
@[simp] theorem State.drawn_mgmt (s : State) : s.drawn.mgmt = s.mgmt := rfl
@[simp] theorem State.drawn_ops (s : State) : s.drawn.ops = s.ops := rfl
@[simp] theorem State.drawn_timeQ (s : State) : s.drawn.timeQ = s.timeQ := rfl
@[simp] theorem State.drawn_bypassIn (s : State) : s.drawn.bypassIn = s.bypassIn := rfl
@[simp] theorem State.drawn_built (s : State) : s.drawn.built = s.built := rfl
@[simp] theorem State.drawn_rings (s : State) : s.drawn.rings = s.rings := rfl
@[simp] theorem State.drawn_host (s : State) : s.drawn.host = s.host := rfl
@[simp] theorem State.drawn_counting (s : State) : s.drawn.counting = s.counting := rfl
@[simp] theorem State.drawn_trans (s : State) : s.drawn.trans = s.trans := rfl
@[simp] theorem State.drawn_remote (s : State) : s.drawn.remote = s.remote := rfl
@[simp] theorem State.drawn_colls (s : State) : s.drawn.colls = s.colls := rfl
@[simp] theorem State.drawn_service (s : State) : s.drawn.service = s.service := rfl
@[simp] theorem State.drawn_arrived (s : State) : s.drawn.arrived = s.arrived := rfl
@[simp] theorem State.drawn_ownGone (s : State) : s.drawn.ownGone = s.ownGone := rfl
@[simp] theorem State.drawn_adopted (s : State) : s.drawn.adopted = s.adopted := rfl
@[simp] theorem State.drawn_faults (s : State) : s.drawn.faults = s.faults := rfl
@[simp] theorem State.drawn_twin (s : State) : s.drawn.twin = s.twin := rfl
@[simp] theorem State.drawn_time (s : State) : s.drawn.time = s.time := rfl
@[simp] theorem State.drawn_power (s : State) : s.drawn.power = s.power := rfl
@[simp] theorem State.drawn_boot (s : State) : s.drawn.boot = s.boot := rfl
@[simp] theorem State.drawn_holds (s : State) : s.drawn.holds = s.holds := rfl
@[simp] theorem State.drawn_lastReset (s : State) : s.drawn.lastReset = s.lastReset := rfl
@[simp] theorem State.drawn_resets (s : State) : s.drawn.resets = s.resets := rfl
@[simp] theorem State.drawn_tap (s : State) : s.drawn.tap = s.tap := rfl

@[simp] theorem State.build_pending (s : State) (st : Nat) (h : Header) (p : List Byte) : (s.build st h p).pending = s.pending := rfl
@[simp] theorem State.build_out (s : State) (st : Nat) (h : Header) (p : List Byte) : (s.build st h p).out = s.out := rfl
@[simp] theorem State.build_draws (s : State) (st : Nat) (h : Header) (p : List Byte) : (s.build st h p).draws = s.draws := rfl
@[simp] theorem State.build_uptime (s : State) (st : Nat) (h : Header) (p : List Byte) : (s.build st h p).uptime = s.uptime := rfl
@[simp] theorem State.build_straps (s : State) (st : Nat) (h : Header) (p : List Byte) : (s.build st h p).straps = s.straps := rfl
@[simp] theorem State.build_dict (s : State) (st : Nat) (h : Header) (p : List Byte) : (s.build st h p).dict = s.dict := rfl
@[simp] theorem State.build_active (s : State) (st : Nat) (h : Header) (p : List Byte) : (s.build st h p).active = s.active := rfl
@[simp] theorem State.build_counters (s : State) (st : Nat) (h : Header) (p : List Byte) : (s.build st h p).counters = s.counters := rfl
@[simp] theorem State.build_totals (s : State) (st : Nat) (h : Header) (p : List Byte) : (s.build st h p).totals = s.totals := rfl
@[simp] theorem State.build_wires (s : State) (st : Nat) (h : Header) (p : List Byte) : (s.build st h p).wires = s.wires := rfl
@[simp] theorem State.build_lanes (s : State) (st : Nat) (h : Header) (p : List Byte) : (s.build st h p).lanes = s.lanes := rfl
@[simp] theorem State.build_links (s : State) (st : Nat) (h : Header) (p : List Byte) : (s.build st h p).links = s.links := rfl
@[simp] theorem State.build_inputs (s : State) (st : Nat) (h : Header) (p : List Byte) : (s.build st h p).inputs = s.inputs := rfl
@[simp] theorem State.build_outputs (s : State) (st : Nat) (h : Header) (p : List Byte) : (s.build st h p).outputs = s.outputs := rfl
@[simp] theorem State.build_inBuckets (s : State) (st : Nat) (h : Header) (p : List Byte) : (s.build st h p).inBuckets = s.inBuckets := rfl
@[simp] theorem State.build_injBuckets (s : State) (st : Nat) (h : Header) (p : List Byte) : (s.build st h p).injBuckets = s.injBuckets := rfl
@[simp] theorem State.build_injLevel (s : State) (st : Nat) (h : Header) (p : List Byte) : (s.build st h p).injLevel = s.injLevel := rfl
@[simp] theorem State.build_rolesOn (s : State) (st : Nat) (h : Header) (p : List Byte) : (s.build st h p).rolesOn = s.rolesOn := rfl
@[simp] theorem State.build_isolated (s : State) (st : Nat) (h : Header) (p : List Byte) : (s.build st h p).isolated = s.isolated := rfl
@[simp] theorem State.build_mgmt (s : State) (st : Nat) (h : Header) (p : List Byte) : (s.build st h p).mgmt = s.mgmt := rfl
@[simp] theorem State.build_ops (s : State) (st : Nat) (h : Header) (p : List Byte) : (s.build st h p).ops = s.ops := rfl
@[simp] theorem State.build_timeQ (s : State) (st : Nat) (h : Header) (p : List Byte) : (s.build st h p).timeQ = s.timeQ := rfl
@[simp] theorem State.build_bypassIn (s : State) (st : Nat) (h : Header) (p : List Byte) : (s.build st h p).bypassIn = s.bypassIn := rfl
@[simp] theorem State.build_rings (s : State) (st : Nat) (h : Header) (p : List Byte) : (s.build st h p).rings = s.rings := rfl
@[simp] theorem State.build_host (s : State) (st : Nat) (h : Header) (p : List Byte) : (s.build st h p).host = s.host := rfl
@[simp] theorem State.build_counting (s : State) (st : Nat) (h : Header) (p : List Byte) : (s.build st h p).counting = s.counting := rfl
@[simp] theorem State.build_trans (s : State) (st : Nat) (h : Header) (p : List Byte) : (s.build st h p).trans = s.trans := rfl
@[simp] theorem State.build_remote (s : State) (st : Nat) (h : Header) (p : List Byte) : (s.build st h p).remote = s.remote := rfl
@[simp] theorem State.build_colls (s : State) (st : Nat) (h : Header) (p : List Byte) : (s.build st h p).colls = s.colls := rfl
@[simp] theorem State.build_service (s : State) (st : Nat) (h : Header) (p : List Byte) : (s.build st h p).service = s.service := rfl
@[simp] theorem State.build_arrived (s : State) (st : Nat) (h : Header) (p : List Byte) : (s.build st h p).arrived = s.arrived := rfl
@[simp] theorem State.build_ownGone (s : State) (st : Nat) (h : Header) (p : List Byte) : (s.build st h p).ownGone = s.ownGone := rfl
@[simp] theorem State.build_adopted (s : State) (st : Nat) (h : Header) (p : List Byte) : (s.build st h p).adopted = s.adopted := rfl
@[simp] theorem State.build_faults (s : State) (st : Nat) (h : Header) (p : List Byte) : (s.build st h p).faults = s.faults := rfl
@[simp] theorem State.build_twin (s : State) (st : Nat) (h : Header) (p : List Byte) : (s.build st h p).twin = s.twin := rfl
@[simp] theorem State.build_time (s : State) (st : Nat) (h : Header) (p : List Byte) : (s.build st h p).time = s.time := rfl
@[simp] theorem State.build_power (s : State) (st : Nat) (h : Header) (p : List Byte) : (s.build st h p).power = s.power := rfl
@[simp] theorem State.build_boot (s : State) (st : Nat) (h : Header) (p : List Byte) : (s.build st h p).boot = s.boot := rfl
@[simp] theorem State.build_holds (s : State) (st : Nat) (h : Header) (p : List Byte) : (s.build st h p).holds = s.holds := rfl
@[simp] theorem State.build_lastReset (s : State) (st : Nat) (h : Header) (p : List Byte) : (s.build st h p).lastReset = s.lastReset := rfl
@[simp] theorem State.build_resets (s : State) (st : Nat) (h : Header) (p : List Byte) : (s.build st h p).resets = s.resets := rfl
@[simp] theorem State.build_tap (s : State) (st : Nat) (h : Header) (p : List Byte) : (s.build st h p).tap = s.tap := rfl

@[simp] theorem State.setLane_pending (s : State) (p : Nat) (l : Lane) : (s.setLane p l).pending = s.pending := rfl
@[simp] theorem State.setLane_out (s : State) (p : Nat) (l : Lane) : (s.setLane p l).out = s.out := rfl
@[simp] theorem State.setLane_draws (s : State) (p : Nat) (l : Lane) : (s.setLane p l).draws = s.draws := rfl
@[simp] theorem State.setLane_uptime (s : State) (p : Nat) (l : Lane) : (s.setLane p l).uptime = s.uptime := rfl
@[simp] theorem State.setLane_straps (s : State) (p : Nat) (l : Lane) : (s.setLane p l).straps = s.straps := rfl
@[simp] theorem State.setLane_dict (s : State) (p : Nat) (l : Lane) : (s.setLane p l).dict = s.dict := rfl
@[simp] theorem State.setLane_active (s : State) (p : Nat) (l : Lane) : (s.setLane p l).active = s.active := rfl
@[simp] theorem State.setLane_counters (s : State) (p : Nat) (l : Lane) : (s.setLane p l).counters = s.counters := rfl
@[simp] theorem State.setLane_totals (s : State) (p : Nat) (l : Lane) : (s.setLane p l).totals = s.totals := rfl
@[simp] theorem State.setLane_wires (s : State) (p : Nat) (l : Lane) : (s.setLane p l).wires = s.wires := rfl
@[simp] theorem State.setLane_links (s : State) (p : Nat) (l : Lane) : (s.setLane p l).links = s.links := rfl
@[simp] theorem State.setLane_inputs (s : State) (p : Nat) (l : Lane) : (s.setLane p l).inputs = s.inputs := rfl
@[simp] theorem State.setLane_outputs (s : State) (p : Nat) (l : Lane) : (s.setLane p l).outputs = s.outputs := rfl
@[simp] theorem State.setLane_inBuckets (s : State) (p : Nat) (l : Lane) : (s.setLane p l).inBuckets = s.inBuckets := rfl
@[simp] theorem State.setLane_injBuckets (s : State) (p : Nat) (l : Lane) : (s.setLane p l).injBuckets = s.injBuckets := rfl
@[simp] theorem State.setLane_injLevel (s : State) (p : Nat) (l : Lane) : (s.setLane p l).injLevel = s.injLevel := rfl
@[simp] theorem State.setLane_rolesOn (s : State) (p : Nat) (l : Lane) : (s.setLane p l).rolesOn = s.rolesOn := rfl
@[simp] theorem State.setLane_isolated (s : State) (p : Nat) (l : Lane) : (s.setLane p l).isolated = s.isolated := rfl
@[simp] theorem State.setLane_mgmt (s : State) (p : Nat) (l : Lane) : (s.setLane p l).mgmt = s.mgmt := rfl
@[simp] theorem State.setLane_ops (s : State) (p : Nat) (l : Lane) : (s.setLane p l).ops = s.ops := rfl
@[simp] theorem State.setLane_timeQ (s : State) (p : Nat) (l : Lane) : (s.setLane p l).timeQ = s.timeQ := rfl
@[simp] theorem State.setLane_bypassIn (s : State) (p : Nat) (l : Lane) : (s.setLane p l).bypassIn = s.bypassIn := rfl
@[simp] theorem State.setLane_built (s : State) (p : Nat) (l : Lane) : (s.setLane p l).built = s.built := rfl
@[simp] theorem State.setLane_rings (s : State) (p : Nat) (l : Lane) : (s.setLane p l).rings = s.rings := rfl
@[simp] theorem State.setLane_host (s : State) (p : Nat) (l : Lane) : (s.setLane p l).host = s.host := rfl
@[simp] theorem State.setLane_counting (s : State) (p : Nat) (l : Lane) : (s.setLane p l).counting = s.counting := rfl
@[simp] theorem State.setLane_trans (s : State) (p : Nat) (l : Lane) : (s.setLane p l).trans = s.trans := rfl
@[simp] theorem State.setLane_remote (s : State) (p : Nat) (l : Lane) : (s.setLane p l).remote = s.remote := rfl
@[simp] theorem State.setLane_colls (s : State) (p : Nat) (l : Lane) : (s.setLane p l).colls = s.colls := rfl
@[simp] theorem State.setLane_service (s : State) (p : Nat) (l : Lane) : (s.setLane p l).service = s.service := rfl
@[simp] theorem State.setLane_arrived (s : State) (p : Nat) (l : Lane) : (s.setLane p l).arrived = s.arrived := rfl
@[simp] theorem State.setLane_ownGone (s : State) (p : Nat) (l : Lane) : (s.setLane p l).ownGone = s.ownGone := rfl
@[simp] theorem State.setLane_adopted (s : State) (p : Nat) (l : Lane) : (s.setLane p l).adopted = s.adopted := rfl
@[simp] theorem State.setLane_faults (s : State) (p : Nat) (l : Lane) : (s.setLane p l).faults = s.faults := rfl
@[simp] theorem State.setLane_twin (s : State) (p : Nat) (l : Lane) : (s.setLane p l).twin = s.twin := rfl
@[simp] theorem State.setLane_time (s : State) (p : Nat) (l : Lane) : (s.setLane p l).time = s.time := rfl
@[simp] theorem State.setLane_power (s : State) (p : Nat) (l : Lane) : (s.setLane p l).power = s.power := rfl
@[simp] theorem State.setLane_boot (s : State) (p : Nat) (l : Lane) : (s.setLane p l).boot = s.boot := rfl
@[simp] theorem State.setLane_holds (s : State) (p : Nat) (l : Lane) : (s.setLane p l).holds = s.holds := rfl
@[simp] theorem State.setLane_lastReset (s : State) (p : Nat) (l : Lane) : (s.setLane p l).lastReset = s.lastReset := rfl
@[simp] theorem State.setLane_resets (s : State) (p : Nat) (l : Lane) : (s.setLane p l).resets = s.resets := rfl
@[simp] theorem State.setLane_tap (s : State) (p : Nat) (l : Lane) : (s.setLane p l).tap = s.tap := rfl

@[simp] theorem State.updLane_pending (s : State) (p : Nat) (f : Lane → Lane) : (s.updLane p f).pending = s.pending := rfl
@[simp] theorem State.updLane_out (s : State) (p : Nat) (f : Lane → Lane) : (s.updLane p f).out = s.out := rfl
@[simp] theorem State.updLane_draws (s : State) (p : Nat) (f : Lane → Lane) : (s.updLane p f).draws = s.draws := rfl
@[simp] theorem State.updLane_uptime (s : State) (p : Nat) (f : Lane → Lane) : (s.updLane p f).uptime = s.uptime := rfl
@[simp] theorem State.updLane_straps (s : State) (p : Nat) (f : Lane → Lane) : (s.updLane p f).straps = s.straps := rfl
@[simp] theorem State.updLane_dict (s : State) (p : Nat) (f : Lane → Lane) : (s.updLane p f).dict = s.dict := rfl
@[simp] theorem State.updLane_active (s : State) (p : Nat) (f : Lane → Lane) : (s.updLane p f).active = s.active := rfl
@[simp] theorem State.updLane_counters (s : State) (p : Nat) (f : Lane → Lane) : (s.updLane p f).counters = s.counters := rfl
@[simp] theorem State.updLane_totals (s : State) (p : Nat) (f : Lane → Lane) : (s.updLane p f).totals = s.totals := rfl
@[simp] theorem State.updLane_wires (s : State) (p : Nat) (f : Lane → Lane) : (s.updLane p f).wires = s.wires := rfl
@[simp] theorem State.updLane_links (s : State) (p : Nat) (f : Lane → Lane) : (s.updLane p f).links = s.links := rfl
@[simp] theorem State.updLane_inputs (s : State) (p : Nat) (f : Lane → Lane) : (s.updLane p f).inputs = s.inputs := rfl
@[simp] theorem State.updLane_outputs (s : State) (p : Nat) (f : Lane → Lane) : (s.updLane p f).outputs = s.outputs := rfl
@[simp] theorem State.updLane_inBuckets (s : State) (p : Nat) (f : Lane → Lane) : (s.updLane p f).inBuckets = s.inBuckets := rfl
@[simp] theorem State.updLane_injBuckets (s : State) (p : Nat) (f : Lane → Lane) : (s.updLane p f).injBuckets = s.injBuckets := rfl
@[simp] theorem State.updLane_injLevel (s : State) (p : Nat) (f : Lane → Lane) : (s.updLane p f).injLevel = s.injLevel := rfl
@[simp] theorem State.updLane_rolesOn (s : State) (p : Nat) (f : Lane → Lane) : (s.updLane p f).rolesOn = s.rolesOn := rfl
@[simp] theorem State.updLane_isolated (s : State) (p : Nat) (f : Lane → Lane) : (s.updLane p f).isolated = s.isolated := rfl
@[simp] theorem State.updLane_mgmt (s : State) (p : Nat) (f : Lane → Lane) : (s.updLane p f).mgmt = s.mgmt := rfl
@[simp] theorem State.updLane_ops (s : State) (p : Nat) (f : Lane → Lane) : (s.updLane p f).ops = s.ops := rfl
@[simp] theorem State.updLane_timeQ (s : State) (p : Nat) (f : Lane → Lane) : (s.updLane p f).timeQ = s.timeQ := rfl
@[simp] theorem State.updLane_bypassIn (s : State) (p : Nat) (f : Lane → Lane) : (s.updLane p f).bypassIn = s.bypassIn := rfl
@[simp] theorem State.updLane_built (s : State) (p : Nat) (f : Lane → Lane) : (s.updLane p f).built = s.built := rfl
@[simp] theorem State.updLane_rings (s : State) (p : Nat) (f : Lane → Lane) : (s.updLane p f).rings = s.rings := rfl
@[simp] theorem State.updLane_host (s : State) (p : Nat) (f : Lane → Lane) : (s.updLane p f).host = s.host := rfl
@[simp] theorem State.updLane_counting (s : State) (p : Nat) (f : Lane → Lane) : (s.updLane p f).counting = s.counting := rfl
@[simp] theorem State.updLane_trans (s : State) (p : Nat) (f : Lane → Lane) : (s.updLane p f).trans = s.trans := rfl
@[simp] theorem State.updLane_remote (s : State) (p : Nat) (f : Lane → Lane) : (s.updLane p f).remote = s.remote := rfl
@[simp] theorem State.updLane_colls (s : State) (p : Nat) (f : Lane → Lane) : (s.updLane p f).colls = s.colls := rfl
@[simp] theorem State.updLane_service (s : State) (p : Nat) (f : Lane → Lane) : (s.updLane p f).service = s.service := rfl
@[simp] theorem State.updLane_arrived (s : State) (p : Nat) (f : Lane → Lane) : (s.updLane p f).arrived = s.arrived := rfl
@[simp] theorem State.updLane_ownGone (s : State) (p : Nat) (f : Lane → Lane) : (s.updLane p f).ownGone = s.ownGone := rfl
@[simp] theorem State.updLane_adopted (s : State) (p : Nat) (f : Lane → Lane) : (s.updLane p f).adopted = s.adopted := rfl
@[simp] theorem State.updLane_faults (s : State) (p : Nat) (f : Lane → Lane) : (s.updLane p f).faults = s.faults := rfl
@[simp] theorem State.updLane_twin (s : State) (p : Nat) (f : Lane → Lane) : (s.updLane p f).twin = s.twin := rfl
@[simp] theorem State.updLane_time (s : State) (p : Nat) (f : Lane → Lane) : (s.updLane p f).time = s.time := rfl
@[simp] theorem State.updLane_power (s : State) (p : Nat) (f : Lane → Lane) : (s.updLane p f).power = s.power := rfl
@[simp] theorem State.updLane_boot (s : State) (p : Nat) (f : Lane → Lane) : (s.updLane p f).boot = s.boot := rfl
@[simp] theorem State.updLane_holds (s : State) (p : Nat) (f : Lane → Lane) : (s.updLane p f).holds = s.holds := rfl
@[simp] theorem State.updLane_lastReset (s : State) (p : Nat) (f : Lane → Lane) : (s.updLane p f).lastReset = s.lastReset := rfl
@[simp] theorem State.updLane_resets (s : State) (p : Nat) (f : Lane → Lane) : (s.updLane p f).resets = s.resets := rfl
@[simp] theorem State.updLane_tap (s : State) (p : Nat) (f : Lane → Lane) : (s.updLane p f).tap = s.tap := rfl

@[simp] theorem State.setLink_pending (s : State) (p : Nat) (l : Link) : (s.setLink p l).pending = s.pending := rfl
@[simp] theorem State.setLink_out (s : State) (p : Nat) (l : Link) : (s.setLink p l).out = s.out := rfl
@[simp] theorem State.setLink_draws (s : State) (p : Nat) (l : Link) : (s.setLink p l).draws = s.draws := rfl
@[simp] theorem State.setLink_uptime (s : State) (p : Nat) (l : Link) : (s.setLink p l).uptime = s.uptime := rfl
@[simp] theorem State.setLink_straps (s : State) (p : Nat) (l : Link) : (s.setLink p l).straps = s.straps := rfl
@[simp] theorem State.setLink_dict (s : State) (p : Nat) (l : Link) : (s.setLink p l).dict = s.dict := rfl
@[simp] theorem State.setLink_active (s : State) (p : Nat) (l : Link) : (s.setLink p l).active = s.active := rfl
@[simp] theorem State.setLink_counters (s : State) (p : Nat) (l : Link) : (s.setLink p l).counters = s.counters := rfl
@[simp] theorem State.setLink_totals (s : State) (p : Nat) (l : Link) : (s.setLink p l).totals = s.totals := rfl
@[simp] theorem State.setLink_wires (s : State) (p : Nat) (l : Link) : (s.setLink p l).wires = s.wires := rfl
@[simp] theorem State.setLink_lanes (s : State) (p : Nat) (l : Link) : (s.setLink p l).lanes = s.lanes := rfl
@[simp] theorem State.setLink_inputs (s : State) (p : Nat) (l : Link) : (s.setLink p l).inputs = s.inputs := rfl
@[simp] theorem State.setLink_outputs (s : State) (p : Nat) (l : Link) : (s.setLink p l).outputs = s.outputs := rfl
@[simp] theorem State.setLink_inBuckets (s : State) (p : Nat) (l : Link) : (s.setLink p l).inBuckets = s.inBuckets := rfl
@[simp] theorem State.setLink_injBuckets (s : State) (p : Nat) (l : Link) : (s.setLink p l).injBuckets = s.injBuckets := rfl
@[simp] theorem State.setLink_injLevel (s : State) (p : Nat) (l : Link) : (s.setLink p l).injLevel = s.injLevel := rfl
@[simp] theorem State.setLink_rolesOn (s : State) (p : Nat) (l : Link) : (s.setLink p l).rolesOn = s.rolesOn := rfl
@[simp] theorem State.setLink_isolated (s : State) (p : Nat) (l : Link) : (s.setLink p l).isolated = s.isolated := rfl
@[simp] theorem State.setLink_mgmt (s : State) (p : Nat) (l : Link) : (s.setLink p l).mgmt = s.mgmt := rfl
@[simp] theorem State.setLink_ops (s : State) (p : Nat) (l : Link) : (s.setLink p l).ops = s.ops := rfl
@[simp] theorem State.setLink_timeQ (s : State) (p : Nat) (l : Link) : (s.setLink p l).timeQ = s.timeQ := rfl
@[simp] theorem State.setLink_bypassIn (s : State) (p : Nat) (l : Link) : (s.setLink p l).bypassIn = s.bypassIn := rfl
@[simp] theorem State.setLink_built (s : State) (p : Nat) (l : Link) : (s.setLink p l).built = s.built := rfl
@[simp] theorem State.setLink_rings (s : State) (p : Nat) (l : Link) : (s.setLink p l).rings = s.rings := rfl
@[simp] theorem State.setLink_host (s : State) (p : Nat) (l : Link) : (s.setLink p l).host = s.host := rfl
@[simp] theorem State.setLink_counting (s : State) (p : Nat) (l : Link) : (s.setLink p l).counting = s.counting := rfl
@[simp] theorem State.setLink_trans (s : State) (p : Nat) (l : Link) : (s.setLink p l).trans = s.trans := rfl
@[simp] theorem State.setLink_remote (s : State) (p : Nat) (l : Link) : (s.setLink p l).remote = s.remote := rfl
@[simp] theorem State.setLink_colls (s : State) (p : Nat) (l : Link) : (s.setLink p l).colls = s.colls := rfl
@[simp] theorem State.setLink_service (s : State) (p : Nat) (l : Link) : (s.setLink p l).service = s.service := rfl
@[simp] theorem State.setLink_arrived (s : State) (p : Nat) (l : Link) : (s.setLink p l).arrived = s.arrived := rfl
@[simp] theorem State.setLink_ownGone (s : State) (p : Nat) (l : Link) : (s.setLink p l).ownGone = s.ownGone := rfl
@[simp] theorem State.setLink_adopted (s : State) (p : Nat) (l : Link) : (s.setLink p l).adopted = s.adopted := rfl
@[simp] theorem State.setLink_faults (s : State) (p : Nat) (l : Link) : (s.setLink p l).faults = s.faults := rfl
@[simp] theorem State.setLink_twin (s : State) (p : Nat) (l : Link) : (s.setLink p l).twin = s.twin := rfl
@[simp] theorem State.setLink_time (s : State) (p : Nat) (l : Link) : (s.setLink p l).time = s.time := rfl
@[simp] theorem State.setLink_power (s : State) (p : Nat) (l : Link) : (s.setLink p l).power = s.power := rfl
@[simp] theorem State.setLink_boot (s : State) (p : Nat) (l : Link) : (s.setLink p l).boot = s.boot := rfl
@[simp] theorem State.setLink_holds (s : State) (p : Nat) (l : Link) : (s.setLink p l).holds = s.holds := rfl
@[simp] theorem State.setLink_lastReset (s : State) (p : Nat) (l : Link) : (s.setLink p l).lastReset = s.lastReset := rfl
@[simp] theorem State.setLink_resets (s : State) (p : Nat) (l : Link) : (s.setLink p l).resets = s.resets := rfl
@[simp] theorem State.setLink_tap (s : State) (p : Nat) (l : Link) : (s.setLink p l).tap = s.tap := rfl

@[simp] theorem State.updLink_pending (s : State) (p : Nat) (f : Link → Link) : (s.updLink p f).pending = s.pending := rfl
@[simp] theorem State.updLink_out (s : State) (p : Nat) (f : Link → Link) : (s.updLink p f).out = s.out := rfl
@[simp] theorem State.updLink_draws (s : State) (p : Nat) (f : Link → Link) : (s.updLink p f).draws = s.draws := rfl
@[simp] theorem State.updLink_uptime (s : State) (p : Nat) (f : Link → Link) : (s.updLink p f).uptime = s.uptime := rfl
@[simp] theorem State.updLink_straps (s : State) (p : Nat) (f : Link → Link) : (s.updLink p f).straps = s.straps := rfl
@[simp] theorem State.updLink_dict (s : State) (p : Nat) (f : Link → Link) : (s.updLink p f).dict = s.dict := rfl
@[simp] theorem State.updLink_active (s : State) (p : Nat) (f : Link → Link) : (s.updLink p f).active = s.active := rfl
@[simp] theorem State.updLink_counters (s : State) (p : Nat) (f : Link → Link) : (s.updLink p f).counters = s.counters := rfl
@[simp] theorem State.updLink_totals (s : State) (p : Nat) (f : Link → Link) : (s.updLink p f).totals = s.totals := rfl
@[simp] theorem State.updLink_wires (s : State) (p : Nat) (f : Link → Link) : (s.updLink p f).wires = s.wires := rfl
@[simp] theorem State.updLink_lanes (s : State) (p : Nat) (f : Link → Link) : (s.updLink p f).lanes = s.lanes := rfl
@[simp] theorem State.updLink_inputs (s : State) (p : Nat) (f : Link → Link) : (s.updLink p f).inputs = s.inputs := rfl
@[simp] theorem State.updLink_outputs (s : State) (p : Nat) (f : Link → Link) : (s.updLink p f).outputs = s.outputs := rfl
@[simp] theorem State.updLink_inBuckets (s : State) (p : Nat) (f : Link → Link) : (s.updLink p f).inBuckets = s.inBuckets := rfl
@[simp] theorem State.updLink_injBuckets (s : State) (p : Nat) (f : Link → Link) : (s.updLink p f).injBuckets = s.injBuckets := rfl
@[simp] theorem State.updLink_injLevel (s : State) (p : Nat) (f : Link → Link) : (s.updLink p f).injLevel = s.injLevel := rfl
@[simp] theorem State.updLink_rolesOn (s : State) (p : Nat) (f : Link → Link) : (s.updLink p f).rolesOn = s.rolesOn := rfl
@[simp] theorem State.updLink_isolated (s : State) (p : Nat) (f : Link → Link) : (s.updLink p f).isolated = s.isolated := rfl
@[simp] theorem State.updLink_mgmt (s : State) (p : Nat) (f : Link → Link) : (s.updLink p f).mgmt = s.mgmt := rfl
@[simp] theorem State.updLink_ops (s : State) (p : Nat) (f : Link → Link) : (s.updLink p f).ops = s.ops := rfl
@[simp] theorem State.updLink_timeQ (s : State) (p : Nat) (f : Link → Link) : (s.updLink p f).timeQ = s.timeQ := rfl
@[simp] theorem State.updLink_bypassIn (s : State) (p : Nat) (f : Link → Link) : (s.updLink p f).bypassIn = s.bypassIn := rfl
@[simp] theorem State.updLink_built (s : State) (p : Nat) (f : Link → Link) : (s.updLink p f).built = s.built := rfl
@[simp] theorem State.updLink_rings (s : State) (p : Nat) (f : Link → Link) : (s.updLink p f).rings = s.rings := rfl
@[simp] theorem State.updLink_host (s : State) (p : Nat) (f : Link → Link) : (s.updLink p f).host = s.host := rfl
@[simp] theorem State.updLink_counting (s : State) (p : Nat) (f : Link → Link) : (s.updLink p f).counting = s.counting := rfl
@[simp] theorem State.updLink_trans (s : State) (p : Nat) (f : Link → Link) : (s.updLink p f).trans = s.trans := rfl
@[simp] theorem State.updLink_remote (s : State) (p : Nat) (f : Link → Link) : (s.updLink p f).remote = s.remote := rfl
@[simp] theorem State.updLink_colls (s : State) (p : Nat) (f : Link → Link) : (s.updLink p f).colls = s.colls := rfl
@[simp] theorem State.updLink_service (s : State) (p : Nat) (f : Link → Link) : (s.updLink p f).service = s.service := rfl
@[simp] theorem State.updLink_arrived (s : State) (p : Nat) (f : Link → Link) : (s.updLink p f).arrived = s.arrived := rfl
@[simp] theorem State.updLink_ownGone (s : State) (p : Nat) (f : Link → Link) : (s.updLink p f).ownGone = s.ownGone := rfl
@[simp] theorem State.updLink_adopted (s : State) (p : Nat) (f : Link → Link) : (s.updLink p f).adopted = s.adopted := rfl
@[simp] theorem State.updLink_faults (s : State) (p : Nat) (f : Link → Link) : (s.updLink p f).faults = s.faults := rfl
@[simp] theorem State.updLink_twin (s : State) (p : Nat) (f : Link → Link) : (s.updLink p f).twin = s.twin := rfl
@[simp] theorem State.updLink_time (s : State) (p : Nat) (f : Link → Link) : (s.updLink p f).time = s.time := rfl
@[simp] theorem State.updLink_power (s : State) (p : Nat) (f : Link → Link) : (s.updLink p f).power = s.power := rfl
@[simp] theorem State.updLink_boot (s : State) (p : Nat) (f : Link → Link) : (s.updLink p f).boot = s.boot := rfl
@[simp] theorem State.updLink_holds (s : State) (p : Nat) (f : Link → Link) : (s.updLink p f).holds = s.holds := rfl
@[simp] theorem State.updLink_lastReset (s : State) (p : Nat) (f : Link → Link) : (s.updLink p f).lastReset = s.lastReset := rfl
@[simp] theorem State.updLink_resets (s : State) (p : Nat) (f : Link → Link) : (s.updLink p f).resets = s.resets := rfl
@[simp] theorem State.updLink_tap (s : State) (p : Nat) (f : Link → Link) : (s.updLink p f).tap = s.tap := rfl

@[simp] theorem State.setInput_pending (s : State) (i : Nat) (b : InBuf) : (s.setInput i b).pending = s.pending := rfl
@[simp] theorem State.setInput_out (s : State) (i : Nat) (b : InBuf) : (s.setInput i b).out = s.out := rfl
@[simp] theorem State.setInput_draws (s : State) (i : Nat) (b : InBuf) : (s.setInput i b).draws = s.draws := rfl
@[simp] theorem State.setInput_uptime (s : State) (i : Nat) (b : InBuf) : (s.setInput i b).uptime = s.uptime := rfl
@[simp] theorem State.setInput_straps (s : State) (i : Nat) (b : InBuf) : (s.setInput i b).straps = s.straps := rfl
@[simp] theorem State.setInput_dict (s : State) (i : Nat) (b : InBuf) : (s.setInput i b).dict = s.dict := rfl
@[simp] theorem State.setInput_active (s : State) (i : Nat) (b : InBuf) : (s.setInput i b).active = s.active := rfl
@[simp] theorem State.setInput_counters (s : State) (i : Nat) (b : InBuf) : (s.setInput i b).counters = s.counters := rfl
@[simp] theorem State.setInput_totals (s : State) (i : Nat) (b : InBuf) : (s.setInput i b).totals = s.totals := rfl
@[simp] theorem State.setInput_wires (s : State) (i : Nat) (b : InBuf) : (s.setInput i b).wires = s.wires := rfl
@[simp] theorem State.setInput_lanes (s : State) (i : Nat) (b : InBuf) : (s.setInput i b).lanes = s.lanes := rfl
@[simp] theorem State.setInput_links (s : State) (i : Nat) (b : InBuf) : (s.setInput i b).links = s.links := rfl
@[simp] theorem State.setInput_outputs (s : State) (i : Nat) (b : InBuf) : (s.setInput i b).outputs = s.outputs := rfl
@[simp] theorem State.setInput_inBuckets (s : State) (i : Nat) (b : InBuf) : (s.setInput i b).inBuckets = s.inBuckets := rfl
@[simp] theorem State.setInput_injBuckets (s : State) (i : Nat) (b : InBuf) : (s.setInput i b).injBuckets = s.injBuckets := rfl
@[simp] theorem State.setInput_injLevel (s : State) (i : Nat) (b : InBuf) : (s.setInput i b).injLevel = s.injLevel := rfl
@[simp] theorem State.setInput_rolesOn (s : State) (i : Nat) (b : InBuf) : (s.setInput i b).rolesOn = s.rolesOn := rfl
@[simp] theorem State.setInput_isolated (s : State) (i : Nat) (b : InBuf) : (s.setInput i b).isolated = s.isolated := rfl
@[simp] theorem State.setInput_mgmt (s : State) (i : Nat) (b : InBuf) : (s.setInput i b).mgmt = s.mgmt := rfl
@[simp] theorem State.setInput_ops (s : State) (i : Nat) (b : InBuf) : (s.setInput i b).ops = s.ops := rfl
@[simp] theorem State.setInput_timeQ (s : State) (i : Nat) (b : InBuf) : (s.setInput i b).timeQ = s.timeQ := rfl
@[simp] theorem State.setInput_bypassIn (s : State) (i : Nat) (b : InBuf) : (s.setInput i b).bypassIn = s.bypassIn := rfl
@[simp] theorem State.setInput_built (s : State) (i : Nat) (b : InBuf) : (s.setInput i b).built = s.built := rfl
@[simp] theorem State.setInput_rings (s : State) (i : Nat) (b : InBuf) : (s.setInput i b).rings = s.rings := rfl
@[simp] theorem State.setInput_host (s : State) (i : Nat) (b : InBuf) : (s.setInput i b).host = s.host := rfl
@[simp] theorem State.setInput_counting (s : State) (i : Nat) (b : InBuf) : (s.setInput i b).counting = s.counting := rfl
@[simp] theorem State.setInput_trans (s : State) (i : Nat) (b : InBuf) : (s.setInput i b).trans = s.trans := rfl
@[simp] theorem State.setInput_remote (s : State) (i : Nat) (b : InBuf) : (s.setInput i b).remote = s.remote := rfl
@[simp] theorem State.setInput_colls (s : State) (i : Nat) (b : InBuf) : (s.setInput i b).colls = s.colls := rfl
@[simp] theorem State.setInput_service (s : State) (i : Nat) (b : InBuf) : (s.setInput i b).service = s.service := rfl
@[simp] theorem State.setInput_arrived (s : State) (i : Nat) (b : InBuf) : (s.setInput i b).arrived = s.arrived := rfl
@[simp] theorem State.setInput_ownGone (s : State) (i : Nat) (b : InBuf) : (s.setInput i b).ownGone = s.ownGone := rfl
@[simp] theorem State.setInput_adopted (s : State) (i : Nat) (b : InBuf) : (s.setInput i b).adopted = s.adopted := rfl
@[simp] theorem State.setInput_faults (s : State) (i : Nat) (b : InBuf) : (s.setInput i b).faults = s.faults := rfl
@[simp] theorem State.setInput_twin (s : State) (i : Nat) (b : InBuf) : (s.setInput i b).twin = s.twin := rfl
@[simp] theorem State.setInput_time (s : State) (i : Nat) (b : InBuf) : (s.setInput i b).time = s.time := rfl
@[simp] theorem State.setInput_power (s : State) (i : Nat) (b : InBuf) : (s.setInput i b).power = s.power := rfl
@[simp] theorem State.setInput_boot (s : State) (i : Nat) (b : InBuf) : (s.setInput i b).boot = s.boot := rfl
@[simp] theorem State.setInput_holds (s : State) (i : Nat) (b : InBuf) : (s.setInput i b).holds = s.holds := rfl
@[simp] theorem State.setInput_lastReset (s : State) (i : Nat) (b : InBuf) : (s.setInput i b).lastReset = s.lastReset := rfl
@[simp] theorem State.setInput_resets (s : State) (i : Nat) (b : InBuf) : (s.setInput i b).resets = s.resets := rfl
@[simp] theorem State.setInput_tap (s : State) (i : Nat) (b : InBuf) : (s.setInput i b).tap = s.tap := rfl

@[simp] theorem State.updInput_pending (s : State) (i : Nat) (f : InBuf → InBuf) : (s.updInput i f).pending = s.pending := rfl
@[simp] theorem State.updInput_out (s : State) (i : Nat) (f : InBuf → InBuf) : (s.updInput i f).out = s.out := rfl
@[simp] theorem State.updInput_draws (s : State) (i : Nat) (f : InBuf → InBuf) : (s.updInput i f).draws = s.draws := rfl
@[simp] theorem State.updInput_uptime (s : State) (i : Nat) (f : InBuf → InBuf) : (s.updInput i f).uptime = s.uptime := rfl
@[simp] theorem State.updInput_straps (s : State) (i : Nat) (f : InBuf → InBuf) : (s.updInput i f).straps = s.straps := rfl
@[simp] theorem State.updInput_dict (s : State) (i : Nat) (f : InBuf → InBuf) : (s.updInput i f).dict = s.dict := rfl
@[simp] theorem State.updInput_active (s : State) (i : Nat) (f : InBuf → InBuf) : (s.updInput i f).active = s.active := rfl
@[simp] theorem State.updInput_counters (s : State) (i : Nat) (f : InBuf → InBuf) : (s.updInput i f).counters = s.counters := rfl
@[simp] theorem State.updInput_totals (s : State) (i : Nat) (f : InBuf → InBuf) : (s.updInput i f).totals = s.totals := rfl
@[simp] theorem State.updInput_wires (s : State) (i : Nat) (f : InBuf → InBuf) : (s.updInput i f).wires = s.wires := rfl
@[simp] theorem State.updInput_lanes (s : State) (i : Nat) (f : InBuf → InBuf) : (s.updInput i f).lanes = s.lanes := rfl
@[simp] theorem State.updInput_links (s : State) (i : Nat) (f : InBuf → InBuf) : (s.updInput i f).links = s.links := rfl
@[simp] theorem State.updInput_outputs (s : State) (i : Nat) (f : InBuf → InBuf) : (s.updInput i f).outputs = s.outputs := rfl
@[simp] theorem State.updInput_inBuckets (s : State) (i : Nat) (f : InBuf → InBuf) : (s.updInput i f).inBuckets = s.inBuckets := rfl
@[simp] theorem State.updInput_injBuckets (s : State) (i : Nat) (f : InBuf → InBuf) : (s.updInput i f).injBuckets = s.injBuckets := rfl
@[simp] theorem State.updInput_injLevel (s : State) (i : Nat) (f : InBuf → InBuf) : (s.updInput i f).injLevel = s.injLevel := rfl
@[simp] theorem State.updInput_rolesOn (s : State) (i : Nat) (f : InBuf → InBuf) : (s.updInput i f).rolesOn = s.rolesOn := rfl
@[simp] theorem State.updInput_isolated (s : State) (i : Nat) (f : InBuf → InBuf) : (s.updInput i f).isolated = s.isolated := rfl
@[simp] theorem State.updInput_mgmt (s : State) (i : Nat) (f : InBuf → InBuf) : (s.updInput i f).mgmt = s.mgmt := rfl
@[simp] theorem State.updInput_ops (s : State) (i : Nat) (f : InBuf → InBuf) : (s.updInput i f).ops = s.ops := rfl
@[simp] theorem State.updInput_timeQ (s : State) (i : Nat) (f : InBuf → InBuf) : (s.updInput i f).timeQ = s.timeQ := rfl
@[simp] theorem State.updInput_bypassIn (s : State) (i : Nat) (f : InBuf → InBuf) : (s.updInput i f).bypassIn = s.bypassIn := rfl
@[simp] theorem State.updInput_built (s : State) (i : Nat) (f : InBuf → InBuf) : (s.updInput i f).built = s.built := rfl
@[simp] theorem State.updInput_rings (s : State) (i : Nat) (f : InBuf → InBuf) : (s.updInput i f).rings = s.rings := rfl
@[simp] theorem State.updInput_host (s : State) (i : Nat) (f : InBuf → InBuf) : (s.updInput i f).host = s.host := rfl
@[simp] theorem State.updInput_counting (s : State) (i : Nat) (f : InBuf → InBuf) : (s.updInput i f).counting = s.counting := rfl
@[simp] theorem State.updInput_trans (s : State) (i : Nat) (f : InBuf → InBuf) : (s.updInput i f).trans = s.trans := rfl
@[simp] theorem State.updInput_remote (s : State) (i : Nat) (f : InBuf → InBuf) : (s.updInput i f).remote = s.remote := rfl
@[simp] theorem State.updInput_colls (s : State) (i : Nat) (f : InBuf → InBuf) : (s.updInput i f).colls = s.colls := rfl
@[simp] theorem State.updInput_service (s : State) (i : Nat) (f : InBuf → InBuf) : (s.updInput i f).service = s.service := rfl
@[simp] theorem State.updInput_arrived (s : State) (i : Nat) (f : InBuf → InBuf) : (s.updInput i f).arrived = s.arrived := rfl
@[simp] theorem State.updInput_ownGone (s : State) (i : Nat) (f : InBuf → InBuf) : (s.updInput i f).ownGone = s.ownGone := rfl
@[simp] theorem State.updInput_adopted (s : State) (i : Nat) (f : InBuf → InBuf) : (s.updInput i f).adopted = s.adopted := rfl
@[simp] theorem State.updInput_faults (s : State) (i : Nat) (f : InBuf → InBuf) : (s.updInput i f).faults = s.faults := rfl
@[simp] theorem State.updInput_twin (s : State) (i : Nat) (f : InBuf → InBuf) : (s.updInput i f).twin = s.twin := rfl
@[simp] theorem State.updInput_time (s : State) (i : Nat) (f : InBuf → InBuf) : (s.updInput i f).time = s.time := rfl
@[simp] theorem State.updInput_power (s : State) (i : Nat) (f : InBuf → InBuf) : (s.updInput i f).power = s.power := rfl
@[simp] theorem State.updInput_boot (s : State) (i : Nat) (f : InBuf → InBuf) : (s.updInput i f).boot = s.boot := rfl
@[simp] theorem State.updInput_holds (s : State) (i : Nat) (f : InBuf → InBuf) : (s.updInput i f).holds = s.holds := rfl
@[simp] theorem State.updInput_lastReset (s : State) (i : Nat) (f : InBuf → InBuf) : (s.updInput i f).lastReset = s.lastReset := rfl
@[simp] theorem State.updInput_resets (s : State) (i : Nat) (f : InBuf → InBuf) : (s.updInput i f).resets = s.resets := rfl
@[simp] theorem State.updInput_tap (s : State) (i : Nat) (f : InBuf → InBuf) : (s.updInput i f).tap = s.tap := rfl

@[simp] theorem State.setOutput_pending (s : State) (o : Nat) (x : Output) : (s.setOutput o x).pending = s.pending := rfl
@[simp] theorem State.setOutput_out (s : State) (o : Nat) (x : Output) : (s.setOutput o x).out = s.out := rfl
@[simp] theorem State.setOutput_draws (s : State) (o : Nat) (x : Output) : (s.setOutput o x).draws = s.draws := rfl
@[simp] theorem State.setOutput_uptime (s : State) (o : Nat) (x : Output) : (s.setOutput o x).uptime = s.uptime := rfl
@[simp] theorem State.setOutput_straps (s : State) (o : Nat) (x : Output) : (s.setOutput o x).straps = s.straps := rfl
@[simp] theorem State.setOutput_dict (s : State) (o : Nat) (x : Output) : (s.setOutput o x).dict = s.dict := rfl
@[simp] theorem State.setOutput_active (s : State) (o : Nat) (x : Output) : (s.setOutput o x).active = s.active := rfl
@[simp] theorem State.setOutput_counters (s : State) (o : Nat) (x : Output) : (s.setOutput o x).counters = s.counters := rfl
@[simp] theorem State.setOutput_totals (s : State) (o : Nat) (x : Output) : (s.setOutput o x).totals = s.totals := rfl
@[simp] theorem State.setOutput_wires (s : State) (o : Nat) (x : Output) : (s.setOutput o x).wires = s.wires := rfl
@[simp] theorem State.setOutput_lanes (s : State) (o : Nat) (x : Output) : (s.setOutput o x).lanes = s.lanes := rfl
@[simp] theorem State.setOutput_links (s : State) (o : Nat) (x : Output) : (s.setOutput o x).links = s.links := rfl
@[simp] theorem State.setOutput_inputs (s : State) (o : Nat) (x : Output) : (s.setOutput o x).inputs = s.inputs := rfl
@[simp] theorem State.setOutput_inBuckets (s : State) (o : Nat) (x : Output) : (s.setOutput o x).inBuckets = s.inBuckets := rfl
@[simp] theorem State.setOutput_injBuckets (s : State) (o : Nat) (x : Output) : (s.setOutput o x).injBuckets = s.injBuckets := rfl
@[simp] theorem State.setOutput_injLevel (s : State) (o : Nat) (x : Output) : (s.setOutput o x).injLevel = s.injLevel := rfl
@[simp] theorem State.setOutput_rolesOn (s : State) (o : Nat) (x : Output) : (s.setOutput o x).rolesOn = s.rolesOn := rfl
@[simp] theorem State.setOutput_isolated (s : State) (o : Nat) (x : Output) : (s.setOutput o x).isolated = s.isolated := rfl
@[simp] theorem State.setOutput_mgmt (s : State) (o : Nat) (x : Output) : (s.setOutput o x).mgmt = s.mgmt := rfl
@[simp] theorem State.setOutput_ops (s : State) (o : Nat) (x : Output) : (s.setOutput o x).ops = s.ops := rfl
@[simp] theorem State.setOutput_timeQ (s : State) (o : Nat) (x : Output) : (s.setOutput o x).timeQ = s.timeQ := rfl
@[simp] theorem State.setOutput_bypassIn (s : State) (o : Nat) (x : Output) : (s.setOutput o x).bypassIn = s.bypassIn := rfl
@[simp] theorem State.setOutput_built (s : State) (o : Nat) (x : Output) : (s.setOutput o x).built = s.built := rfl
@[simp] theorem State.setOutput_rings (s : State) (o : Nat) (x : Output) : (s.setOutput o x).rings = s.rings := rfl
@[simp] theorem State.setOutput_host (s : State) (o : Nat) (x : Output) : (s.setOutput o x).host = s.host := rfl
@[simp] theorem State.setOutput_counting (s : State) (o : Nat) (x : Output) : (s.setOutput o x).counting = s.counting := rfl
@[simp] theorem State.setOutput_trans (s : State) (o : Nat) (x : Output) : (s.setOutput o x).trans = s.trans := rfl
@[simp] theorem State.setOutput_remote (s : State) (o : Nat) (x : Output) : (s.setOutput o x).remote = s.remote := rfl
@[simp] theorem State.setOutput_colls (s : State) (o : Nat) (x : Output) : (s.setOutput o x).colls = s.colls := rfl
@[simp] theorem State.setOutput_service (s : State) (o : Nat) (x : Output) : (s.setOutput o x).service = s.service := rfl
@[simp] theorem State.setOutput_arrived (s : State) (o : Nat) (x : Output) : (s.setOutput o x).arrived = s.arrived := rfl
@[simp] theorem State.setOutput_ownGone (s : State) (o : Nat) (x : Output) : (s.setOutput o x).ownGone = s.ownGone := rfl
@[simp] theorem State.setOutput_adopted (s : State) (o : Nat) (x : Output) : (s.setOutput o x).adopted = s.adopted := rfl
@[simp] theorem State.setOutput_faults (s : State) (o : Nat) (x : Output) : (s.setOutput o x).faults = s.faults := rfl
@[simp] theorem State.setOutput_twin (s : State) (o : Nat) (x : Output) : (s.setOutput o x).twin = s.twin := rfl
@[simp] theorem State.setOutput_time (s : State) (o : Nat) (x : Output) : (s.setOutput o x).time = s.time := rfl
@[simp] theorem State.setOutput_power (s : State) (o : Nat) (x : Output) : (s.setOutput o x).power = s.power := rfl
@[simp] theorem State.setOutput_boot (s : State) (o : Nat) (x : Output) : (s.setOutput o x).boot = s.boot := rfl
@[simp] theorem State.setOutput_holds (s : State) (o : Nat) (x : Output) : (s.setOutput o x).holds = s.holds := rfl
@[simp] theorem State.setOutput_lastReset (s : State) (o : Nat) (x : Output) : (s.setOutput o x).lastReset = s.lastReset := rfl
@[simp] theorem State.setOutput_resets (s : State) (o : Nat) (x : Output) : (s.setOutput o x).resets = s.resets := rfl
@[simp] theorem State.setOutput_tap (s : State) (o : Nat) (x : Output) : (s.setOutput o x).tap = s.tap := rfl

@[simp] theorem State.updOutput_pending (s : State) (o : Nat) (f : Output → Output) : (s.updOutput o f).pending = s.pending := rfl
@[simp] theorem State.updOutput_out (s : State) (o : Nat) (f : Output → Output) : (s.updOutput o f).out = s.out := rfl
@[simp] theorem State.updOutput_draws (s : State) (o : Nat) (f : Output → Output) : (s.updOutput o f).draws = s.draws := rfl
@[simp] theorem State.updOutput_uptime (s : State) (o : Nat) (f : Output → Output) : (s.updOutput o f).uptime = s.uptime := rfl
@[simp] theorem State.updOutput_straps (s : State) (o : Nat) (f : Output → Output) : (s.updOutput o f).straps = s.straps := rfl
@[simp] theorem State.updOutput_dict (s : State) (o : Nat) (f : Output → Output) : (s.updOutput o f).dict = s.dict := rfl
@[simp] theorem State.updOutput_active (s : State) (o : Nat) (f : Output → Output) : (s.updOutput o f).active = s.active := rfl
@[simp] theorem State.updOutput_counters (s : State) (o : Nat) (f : Output → Output) : (s.updOutput o f).counters = s.counters := rfl
@[simp] theorem State.updOutput_totals (s : State) (o : Nat) (f : Output → Output) : (s.updOutput o f).totals = s.totals := rfl
@[simp] theorem State.updOutput_wires (s : State) (o : Nat) (f : Output → Output) : (s.updOutput o f).wires = s.wires := rfl
@[simp] theorem State.updOutput_lanes (s : State) (o : Nat) (f : Output → Output) : (s.updOutput o f).lanes = s.lanes := rfl
@[simp] theorem State.updOutput_links (s : State) (o : Nat) (f : Output → Output) : (s.updOutput o f).links = s.links := rfl
@[simp] theorem State.updOutput_inputs (s : State) (o : Nat) (f : Output → Output) : (s.updOutput o f).inputs = s.inputs := rfl
@[simp] theorem State.updOutput_inBuckets (s : State) (o : Nat) (f : Output → Output) : (s.updOutput o f).inBuckets = s.inBuckets := rfl
@[simp] theorem State.updOutput_injBuckets (s : State) (o : Nat) (f : Output → Output) : (s.updOutput o f).injBuckets = s.injBuckets := rfl
@[simp] theorem State.updOutput_injLevel (s : State) (o : Nat) (f : Output → Output) : (s.updOutput o f).injLevel = s.injLevel := rfl
@[simp] theorem State.updOutput_rolesOn (s : State) (o : Nat) (f : Output → Output) : (s.updOutput o f).rolesOn = s.rolesOn := rfl
@[simp] theorem State.updOutput_isolated (s : State) (o : Nat) (f : Output → Output) : (s.updOutput o f).isolated = s.isolated := rfl
@[simp] theorem State.updOutput_mgmt (s : State) (o : Nat) (f : Output → Output) : (s.updOutput o f).mgmt = s.mgmt := rfl
@[simp] theorem State.updOutput_ops (s : State) (o : Nat) (f : Output → Output) : (s.updOutput o f).ops = s.ops := rfl
@[simp] theorem State.updOutput_timeQ (s : State) (o : Nat) (f : Output → Output) : (s.updOutput o f).timeQ = s.timeQ := rfl
@[simp] theorem State.updOutput_bypassIn (s : State) (o : Nat) (f : Output → Output) : (s.updOutput o f).bypassIn = s.bypassIn := rfl
@[simp] theorem State.updOutput_built (s : State) (o : Nat) (f : Output → Output) : (s.updOutput o f).built = s.built := rfl
@[simp] theorem State.updOutput_rings (s : State) (o : Nat) (f : Output → Output) : (s.updOutput o f).rings = s.rings := rfl
@[simp] theorem State.updOutput_host (s : State) (o : Nat) (f : Output → Output) : (s.updOutput o f).host = s.host := rfl
@[simp] theorem State.updOutput_counting (s : State) (o : Nat) (f : Output → Output) : (s.updOutput o f).counting = s.counting := rfl
@[simp] theorem State.updOutput_trans (s : State) (o : Nat) (f : Output → Output) : (s.updOutput o f).trans = s.trans := rfl
@[simp] theorem State.updOutput_remote (s : State) (o : Nat) (f : Output → Output) : (s.updOutput o f).remote = s.remote := rfl
@[simp] theorem State.updOutput_colls (s : State) (o : Nat) (f : Output → Output) : (s.updOutput o f).colls = s.colls := rfl
@[simp] theorem State.updOutput_service (s : State) (o : Nat) (f : Output → Output) : (s.updOutput o f).service = s.service := rfl
@[simp] theorem State.updOutput_arrived (s : State) (o : Nat) (f : Output → Output) : (s.updOutput o f).arrived = s.arrived := rfl
@[simp] theorem State.updOutput_ownGone (s : State) (o : Nat) (f : Output → Output) : (s.updOutput o f).ownGone = s.ownGone := rfl
@[simp] theorem State.updOutput_adopted (s : State) (o : Nat) (f : Output → Output) : (s.updOutput o f).adopted = s.adopted := rfl
@[simp] theorem State.updOutput_faults (s : State) (o : Nat) (f : Output → Output) : (s.updOutput o f).faults = s.faults := rfl
@[simp] theorem State.updOutput_twin (s : State) (o : Nat) (f : Output → Output) : (s.updOutput o f).twin = s.twin := rfl
@[simp] theorem State.updOutput_time (s : State) (o : Nat) (f : Output → Output) : (s.updOutput o f).time = s.time := rfl
@[simp] theorem State.updOutput_power (s : State) (o : Nat) (f : Output → Output) : (s.updOutput o f).power = s.power := rfl
@[simp] theorem State.updOutput_boot (s : State) (o : Nat) (f : Output → Output) : (s.updOutput o f).boot = s.boot := rfl
@[simp] theorem State.updOutput_holds (s : State) (o : Nat) (f : Output → Output) : (s.updOutput o f).holds = s.holds := rfl
@[simp] theorem State.updOutput_lastReset (s : State) (o : Nat) (f : Output → Output) : (s.updOutput o f).lastReset = s.lastReset := rfl
@[simp] theorem State.updOutput_resets (s : State) (o : Nat) (f : Output → Output) : (s.updOutput o f).resets = s.resets := rfl
@[simp] theorem State.updOutput_tap (s : State) (o : Nat) (f : Output → Output) : (s.updOutput o f).tap = s.tap := rfl

@[simp] theorem State.setHport_pending (s : State) (k : Nat) (h : HPort) : (s.setHport k h).pending = s.pending := rfl
@[simp] theorem State.setHport_out (s : State) (k : Nat) (h : HPort) : (s.setHport k h).out = s.out := rfl
@[simp] theorem State.setHport_draws (s : State) (k : Nat) (h : HPort) : (s.setHport k h).draws = s.draws := rfl
@[simp] theorem State.setHport_uptime (s : State) (k : Nat) (h : HPort) : (s.setHport k h).uptime = s.uptime := rfl
@[simp] theorem State.setHport_straps (s : State) (k : Nat) (h : HPort) : (s.setHport k h).straps = s.straps := rfl
@[simp] theorem State.setHport_dict (s : State) (k : Nat) (h : HPort) : (s.setHport k h).dict = s.dict := rfl
@[simp] theorem State.setHport_active (s : State) (k : Nat) (h : HPort) : (s.setHport k h).active = s.active := rfl
@[simp] theorem State.setHport_counters (s : State) (k : Nat) (h : HPort) : (s.setHport k h).counters = s.counters := rfl
@[simp] theorem State.setHport_totals (s : State) (k : Nat) (h : HPort) : (s.setHport k h).totals = s.totals := rfl
@[simp] theorem State.setHport_wires (s : State) (k : Nat) (h : HPort) : (s.setHport k h).wires = s.wires := rfl
@[simp] theorem State.setHport_lanes (s : State) (k : Nat) (h : HPort) : (s.setHport k h).lanes = s.lanes := rfl
@[simp] theorem State.setHport_links (s : State) (k : Nat) (h : HPort) : (s.setHport k h).links = s.links := rfl
@[simp] theorem State.setHport_inputs (s : State) (k : Nat) (h : HPort) : (s.setHport k h).inputs = s.inputs := rfl
@[simp] theorem State.setHport_outputs (s : State) (k : Nat) (h : HPort) : (s.setHport k h).outputs = s.outputs := rfl
@[simp] theorem State.setHport_inBuckets (s : State) (k : Nat) (h : HPort) : (s.setHport k h).inBuckets = s.inBuckets := rfl
@[simp] theorem State.setHport_injBuckets (s : State) (k : Nat) (h : HPort) : (s.setHport k h).injBuckets = s.injBuckets := rfl
@[simp] theorem State.setHport_injLevel (s : State) (k : Nat) (h : HPort) : (s.setHport k h).injLevel = s.injLevel := rfl
@[simp] theorem State.setHport_rolesOn (s : State) (k : Nat) (h : HPort) : (s.setHport k h).rolesOn = s.rolesOn := rfl
@[simp] theorem State.setHport_isolated (s : State) (k : Nat) (h : HPort) : (s.setHport k h).isolated = s.isolated := rfl
@[simp] theorem State.setHport_mgmt (s : State) (k : Nat) (h : HPort) : (s.setHport k h).mgmt = s.mgmt := rfl
@[simp] theorem State.setHport_ops (s : State) (k : Nat) (h : HPort) : (s.setHport k h).ops = s.ops := rfl
@[simp] theorem State.setHport_timeQ (s : State) (k : Nat) (h : HPort) : (s.setHport k h).timeQ = s.timeQ := rfl
@[simp] theorem State.setHport_bypassIn (s : State) (k : Nat) (h : HPort) : (s.setHport k h).bypassIn = s.bypassIn := rfl
@[simp] theorem State.setHport_built (s : State) (k : Nat) (h : HPort) : (s.setHport k h).built = s.built := rfl
@[simp] theorem State.setHport_rings (s : State) (k : Nat) (h : HPort) : (s.setHport k h).rings = s.rings := rfl
@[simp] theorem State.setHport_counting (s : State) (k : Nat) (h : HPort) : (s.setHport k h).counting = s.counting := rfl
@[simp] theorem State.setHport_trans (s : State) (k : Nat) (h : HPort) : (s.setHport k h).trans = s.trans := rfl
@[simp] theorem State.setHport_remote (s : State) (k : Nat) (h : HPort) : (s.setHport k h).remote = s.remote := rfl
@[simp] theorem State.setHport_colls (s : State) (k : Nat) (h : HPort) : (s.setHport k h).colls = s.colls := rfl
@[simp] theorem State.setHport_service (s : State) (k : Nat) (h : HPort) : (s.setHport k h).service = s.service := rfl
@[simp] theorem State.setHport_arrived (s : State) (k : Nat) (h : HPort) : (s.setHport k h).arrived = s.arrived := rfl
@[simp] theorem State.setHport_ownGone (s : State) (k : Nat) (h : HPort) : (s.setHport k h).ownGone = s.ownGone := rfl
@[simp] theorem State.setHport_adopted (s : State) (k : Nat) (h : HPort) : (s.setHport k h).adopted = s.adopted := rfl
@[simp] theorem State.setHport_faults (s : State) (k : Nat) (h : HPort) : (s.setHport k h).faults = s.faults := rfl
@[simp] theorem State.setHport_twin (s : State) (k : Nat) (h : HPort) : (s.setHport k h).twin = s.twin := rfl
@[simp] theorem State.setHport_time (s : State) (k : Nat) (h : HPort) : (s.setHport k h).time = s.time := rfl
@[simp] theorem State.setHport_power (s : State) (k : Nat) (h : HPort) : (s.setHport k h).power = s.power := rfl
@[simp] theorem State.setHport_boot (s : State) (k : Nat) (h : HPort) : (s.setHport k h).boot = s.boot := rfl
@[simp] theorem State.setHport_holds (s : State) (k : Nat) (h : HPort) : (s.setHport k h).holds = s.holds := rfl
@[simp] theorem State.setHport_lastReset (s : State) (k : Nat) (h : HPort) : (s.setHport k h).lastReset = s.lastReset := rfl
@[simp] theorem State.setHport_resets (s : State) (k : Nat) (h : HPort) : (s.setHport k h).resets = s.resets := rfl
@[simp] theorem State.setHport_tap (s : State) (k : Nat) (h : HPort) : (s.setHport k h).tap = s.tap := rfl

@[simp] theorem State.opSet_pending (s : State) (k p st : Nat) : (s.opSet k p st).pending = s.pending := rfl
@[simp] theorem State.opSet_out (s : State) (k p st : Nat) : (s.opSet k p st).out = s.out := rfl
@[simp] theorem State.opSet_draws (s : State) (k p st : Nat) : (s.opSet k p st).draws = s.draws := rfl
@[simp] theorem State.opSet_uptime (s : State) (k p st : Nat) : (s.opSet k p st).uptime = s.uptime := rfl
@[simp] theorem State.opSet_straps (s : State) (k p st : Nat) : (s.opSet k p st).straps = s.straps := rfl
@[simp] theorem State.opSet_dict (s : State) (k p st : Nat) : (s.opSet k p st).dict = s.dict := rfl
@[simp] theorem State.opSet_active (s : State) (k p st : Nat) : (s.opSet k p st).active = s.active := rfl
@[simp] theorem State.opSet_counters (s : State) (k p st : Nat) : (s.opSet k p st).counters = s.counters := rfl
@[simp] theorem State.opSet_totals (s : State) (k p st : Nat) : (s.opSet k p st).totals = s.totals := rfl
@[simp] theorem State.opSet_wires (s : State) (k p st : Nat) : (s.opSet k p st).wires = s.wires := rfl
@[simp] theorem State.opSet_lanes (s : State) (k p st : Nat) : (s.opSet k p st).lanes = s.lanes := rfl
@[simp] theorem State.opSet_links (s : State) (k p st : Nat) : (s.opSet k p st).links = s.links := rfl
@[simp] theorem State.opSet_inputs (s : State) (k p st : Nat) : (s.opSet k p st).inputs = s.inputs := rfl
@[simp] theorem State.opSet_outputs (s : State) (k p st : Nat) : (s.opSet k p st).outputs = s.outputs := rfl
@[simp] theorem State.opSet_inBuckets (s : State) (k p st : Nat) : (s.opSet k p st).inBuckets = s.inBuckets := rfl
@[simp] theorem State.opSet_injBuckets (s : State) (k p st : Nat) : (s.opSet k p st).injBuckets = s.injBuckets := rfl
@[simp] theorem State.opSet_injLevel (s : State) (k p st : Nat) : (s.opSet k p st).injLevel = s.injLevel := rfl
@[simp] theorem State.opSet_rolesOn (s : State) (k p st : Nat) : (s.opSet k p st).rolesOn = s.rolesOn := rfl
@[simp] theorem State.opSet_isolated (s : State) (k p st : Nat) : (s.opSet k p st).isolated = s.isolated := rfl
@[simp] theorem State.opSet_mgmt (s : State) (k p st : Nat) : (s.opSet k p st).mgmt = s.mgmt := rfl
@[simp] theorem State.opSet_timeQ (s : State) (k p st : Nat) : (s.opSet k p st).timeQ = s.timeQ := rfl
@[simp] theorem State.opSet_bypassIn (s : State) (k p st : Nat) : (s.opSet k p st).bypassIn = s.bypassIn := rfl
@[simp] theorem State.opSet_built (s : State) (k p st : Nat) : (s.opSet k p st).built = s.built := rfl
@[simp] theorem State.opSet_rings (s : State) (k p st : Nat) : (s.opSet k p st).rings = s.rings := rfl
@[simp] theorem State.opSet_host (s : State) (k p st : Nat) : (s.opSet k p st).host = s.host := rfl
@[simp] theorem State.opSet_counting (s : State) (k p st : Nat) : (s.opSet k p st).counting = s.counting := rfl
@[simp] theorem State.opSet_trans (s : State) (k p st : Nat) : (s.opSet k p st).trans = s.trans := rfl
@[simp] theorem State.opSet_remote (s : State) (k p st : Nat) : (s.opSet k p st).remote = s.remote := rfl
@[simp] theorem State.opSet_colls (s : State) (k p st : Nat) : (s.opSet k p st).colls = s.colls := rfl
@[simp] theorem State.opSet_service (s : State) (k p st : Nat) : (s.opSet k p st).service = s.service := rfl
@[simp] theorem State.opSet_arrived (s : State) (k p st : Nat) : (s.opSet k p st).arrived = s.arrived := rfl
@[simp] theorem State.opSet_ownGone (s : State) (k p st : Nat) : (s.opSet k p st).ownGone = s.ownGone := rfl
@[simp] theorem State.opSet_adopted (s : State) (k p st : Nat) : (s.opSet k p st).adopted = s.adopted := rfl
@[simp] theorem State.opSet_faults (s : State) (k p st : Nat) : (s.opSet k p st).faults = s.faults := rfl
@[simp] theorem State.opSet_twin (s : State) (k p st : Nat) : (s.opSet k p st).twin = s.twin := rfl
@[simp] theorem State.opSet_time (s : State) (k p st : Nat) : (s.opSet k p st).time = s.time := rfl
@[simp] theorem State.opSet_power (s : State) (k p st : Nat) : (s.opSet k p st).power = s.power := rfl
@[simp] theorem State.opSet_boot (s : State) (k p st : Nat) : (s.opSet k p st).boot = s.boot := rfl
@[simp] theorem State.opSet_holds (s : State) (k p st : Nat) : (s.opSet k p st).holds = s.holds := rfl
@[simp] theorem State.opSet_lastReset (s : State) (k p st : Nat) : (s.opSet k p st).lastReset = s.lastReset := rfl
@[simp] theorem State.opSet_resets (s : State) (k p st : Nat) : (s.opSet k p st).resets = s.resets := rfl
@[simp] theorem State.opSet_tap (s : State) (k p st : Nat) : (s.opSet k p st).tap = s.tap := rfl

@[simp] theorem State.opEnd_pending (s : State) (k p f : Nat) : (s.opEnd k p f).pending = s.pending := by unfold State.opEnd; split <;> rfl
@[simp] theorem State.opEnd_out (s : State) (k p f : Nat) : (s.opEnd k p f).out = s.out := by unfold State.opEnd; split <;> rfl
@[simp] theorem State.opEnd_draws (s : State) (k p f : Nat) : (s.opEnd k p f).draws = s.draws := by unfold State.opEnd; split <;> rfl
@[simp] theorem State.opEnd_uptime (s : State) (k p f : Nat) : (s.opEnd k p f).uptime = s.uptime := by unfold State.opEnd; split <;> rfl
@[simp] theorem State.opEnd_straps (s : State) (k p f : Nat) : (s.opEnd k p f).straps = s.straps := by unfold State.opEnd; split <;> rfl
@[simp] theorem State.opEnd_dict (s : State) (k p f : Nat) : (s.opEnd k p f).dict = s.dict := by unfold State.opEnd; split <;> rfl
@[simp] theorem State.opEnd_active (s : State) (k p f : Nat) : (s.opEnd k p f).active = s.active := by unfold State.opEnd; split <;> rfl
@[simp] theorem State.opEnd_counters (s : State) (k p f : Nat) : (s.opEnd k p f).counters = s.counters := by unfold State.opEnd; split <;> rfl
@[simp] theorem State.opEnd_totals (s : State) (k p f : Nat) : (s.opEnd k p f).totals = s.totals := by unfold State.opEnd; split <;> rfl
@[simp] theorem State.opEnd_wires (s : State) (k p f : Nat) : (s.opEnd k p f).wires = s.wires := by unfold State.opEnd; split <;> rfl
@[simp] theorem State.opEnd_lanes (s : State) (k p f : Nat) : (s.opEnd k p f).lanes = s.lanes := by unfold State.opEnd; split <;> rfl
@[simp] theorem State.opEnd_links (s : State) (k p f : Nat) : (s.opEnd k p f).links = s.links := by unfold State.opEnd; split <;> rfl
@[simp] theorem State.opEnd_inputs (s : State) (k p f : Nat) : (s.opEnd k p f).inputs = s.inputs := by unfold State.opEnd; split <;> rfl
@[simp] theorem State.opEnd_outputs (s : State) (k p f : Nat) : (s.opEnd k p f).outputs = s.outputs := by unfold State.opEnd; split <;> rfl
@[simp] theorem State.opEnd_inBuckets (s : State) (k p f : Nat) : (s.opEnd k p f).inBuckets = s.inBuckets := by unfold State.opEnd; split <;> rfl
@[simp] theorem State.opEnd_injBuckets (s : State) (k p f : Nat) : (s.opEnd k p f).injBuckets = s.injBuckets := by unfold State.opEnd; split <;> rfl
@[simp] theorem State.opEnd_injLevel (s : State) (k p f : Nat) : (s.opEnd k p f).injLevel = s.injLevel := by unfold State.opEnd; split <;> rfl
@[simp] theorem State.opEnd_rolesOn (s : State) (k p f : Nat) : (s.opEnd k p f).rolesOn = s.rolesOn := by unfold State.opEnd; split <;> rfl
@[simp] theorem State.opEnd_isolated (s : State) (k p f : Nat) : (s.opEnd k p f).isolated = s.isolated := by unfold State.opEnd; split <;> rfl
@[simp] theorem State.opEnd_mgmt (s : State) (k p f : Nat) : (s.opEnd k p f).mgmt = s.mgmt := by unfold State.opEnd; split <;> rfl
@[simp] theorem State.opEnd_timeQ (s : State) (k p f : Nat) : (s.opEnd k p f).timeQ = s.timeQ := by unfold State.opEnd; split <;> rfl
@[simp] theorem State.opEnd_bypassIn (s : State) (k p f : Nat) : (s.opEnd k p f).bypassIn = s.bypassIn := by unfold State.opEnd; split <;> rfl
@[simp] theorem State.opEnd_built (s : State) (k p f : Nat) : (s.opEnd k p f).built = s.built := by unfold State.opEnd; split <;> rfl
@[simp] theorem State.opEnd_rings (s : State) (k p f : Nat) : (s.opEnd k p f).rings = s.rings := by unfold State.opEnd; split <;> rfl
@[simp] theorem State.opEnd_host (s : State) (k p f : Nat) : (s.opEnd k p f).host = s.host := by unfold State.opEnd; split <;> rfl
@[simp] theorem State.opEnd_counting (s : State) (k p f : Nat) : (s.opEnd k p f).counting = s.counting := by unfold State.opEnd; split <;> rfl
@[simp] theorem State.opEnd_trans (s : State) (k p f : Nat) : (s.opEnd k p f).trans = s.trans := by unfold State.opEnd; split <;> rfl
@[simp] theorem State.opEnd_remote (s : State) (k p f : Nat) : (s.opEnd k p f).remote = s.remote := by unfold State.opEnd; split <;> rfl
@[simp] theorem State.opEnd_colls (s : State) (k p f : Nat) : (s.opEnd k p f).colls = s.colls := by unfold State.opEnd; split <;> rfl
@[simp] theorem State.opEnd_service (s : State) (k p f : Nat) : (s.opEnd k p f).service = s.service := by unfold State.opEnd; split <;> rfl
@[simp] theorem State.opEnd_arrived (s : State) (k p f : Nat) : (s.opEnd k p f).arrived = s.arrived := by unfold State.opEnd; split <;> rfl
@[simp] theorem State.opEnd_ownGone (s : State) (k p f : Nat) : (s.opEnd k p f).ownGone = s.ownGone := by unfold State.opEnd; split <;> rfl
@[simp] theorem State.opEnd_adopted (s : State) (k p f : Nat) : (s.opEnd k p f).adopted = s.adopted := by unfold State.opEnd; split <;> rfl
@[simp] theorem State.opEnd_faults (s : State) (k p f : Nat) : (s.opEnd k p f).faults = s.faults := by unfold State.opEnd; split <;> rfl
@[simp] theorem State.opEnd_twin (s : State) (k p f : Nat) : (s.opEnd k p f).twin = s.twin := by unfold State.opEnd; split <;> rfl
@[simp] theorem State.opEnd_time (s : State) (k p f : Nat) : (s.opEnd k p f).time = s.time := by unfold State.opEnd; split <;> rfl
@[simp] theorem State.opEnd_power (s : State) (k p f : Nat) : (s.opEnd k p f).power = s.power := by unfold State.opEnd; split <;> rfl
@[simp] theorem State.opEnd_boot (s : State) (k p f : Nat) : (s.opEnd k p f).boot = s.boot := by unfold State.opEnd; split <;> rfl
@[simp] theorem State.opEnd_holds (s : State) (k p f : Nat) : (s.opEnd k p f).holds = s.holds := by unfold State.opEnd; split <;> rfl
@[simp] theorem State.opEnd_lastReset (s : State) (k p f : Nat) : (s.opEnd k p f).lastReset = s.lastReset := by unfold State.opEnd; split <;> rfl
@[simp] theorem State.opEnd_resets (s : State) (k p f : Nat) : (s.opEnd k p f).resets = s.resets := by unfold State.opEnd; split <;> rfl
@[simp] theorem State.opEnd_tap (s : State) (k p f : Nat) : (s.opEnd k p f).tap = s.tap := by unfold State.opEnd; split <;> rfl

@[simp] theorem State.updTwin_pending (s : State) (f : Twin → Twin) : (s.updTwin f).pending = s.pending := rfl
@[simp] theorem State.updTwin_out (s : State) (f : Twin → Twin) : (s.updTwin f).out = s.out := rfl
@[simp] theorem State.updTwin_draws (s : State) (f : Twin → Twin) : (s.updTwin f).draws = s.draws := rfl
@[simp] theorem State.updTwin_uptime (s : State) (f : Twin → Twin) : (s.updTwin f).uptime = s.uptime := rfl
@[simp] theorem State.updTwin_straps (s : State) (f : Twin → Twin) : (s.updTwin f).straps = s.straps := rfl
@[simp] theorem State.updTwin_dict (s : State) (f : Twin → Twin) : (s.updTwin f).dict = s.dict := rfl
@[simp] theorem State.updTwin_active (s : State) (f : Twin → Twin) : (s.updTwin f).active = s.active := rfl
@[simp] theorem State.updTwin_counters (s : State) (f : Twin → Twin) : (s.updTwin f).counters = s.counters := rfl
@[simp] theorem State.updTwin_totals (s : State) (f : Twin → Twin) : (s.updTwin f).totals = s.totals := rfl
@[simp] theorem State.updTwin_wires (s : State) (f : Twin → Twin) : (s.updTwin f).wires = s.wires := rfl
@[simp] theorem State.updTwin_lanes (s : State) (f : Twin → Twin) : (s.updTwin f).lanes = s.lanes := rfl
@[simp] theorem State.updTwin_links (s : State) (f : Twin → Twin) : (s.updTwin f).links = s.links := rfl
@[simp] theorem State.updTwin_inputs (s : State) (f : Twin → Twin) : (s.updTwin f).inputs = s.inputs := rfl
@[simp] theorem State.updTwin_outputs (s : State) (f : Twin → Twin) : (s.updTwin f).outputs = s.outputs := rfl
@[simp] theorem State.updTwin_inBuckets (s : State) (f : Twin → Twin) : (s.updTwin f).inBuckets = s.inBuckets := rfl
@[simp] theorem State.updTwin_injBuckets (s : State) (f : Twin → Twin) : (s.updTwin f).injBuckets = s.injBuckets := rfl
@[simp] theorem State.updTwin_injLevel (s : State) (f : Twin → Twin) : (s.updTwin f).injLevel = s.injLevel := rfl
@[simp] theorem State.updTwin_rolesOn (s : State) (f : Twin → Twin) : (s.updTwin f).rolesOn = s.rolesOn := rfl
@[simp] theorem State.updTwin_isolated (s : State) (f : Twin → Twin) : (s.updTwin f).isolated = s.isolated := rfl
@[simp] theorem State.updTwin_mgmt (s : State) (f : Twin → Twin) : (s.updTwin f).mgmt = s.mgmt := rfl
@[simp] theorem State.updTwin_ops (s : State) (f : Twin → Twin) : (s.updTwin f).ops = s.ops := rfl
@[simp] theorem State.updTwin_timeQ (s : State) (f : Twin → Twin) : (s.updTwin f).timeQ = s.timeQ := rfl
@[simp] theorem State.updTwin_bypassIn (s : State) (f : Twin → Twin) : (s.updTwin f).bypassIn = s.bypassIn := rfl
@[simp] theorem State.updTwin_built (s : State) (f : Twin → Twin) : (s.updTwin f).built = s.built := rfl
@[simp] theorem State.updTwin_rings (s : State) (f : Twin → Twin) : (s.updTwin f).rings = s.rings := rfl
@[simp] theorem State.updTwin_host (s : State) (f : Twin → Twin) : (s.updTwin f).host = s.host := rfl
@[simp] theorem State.updTwin_counting (s : State) (f : Twin → Twin) : (s.updTwin f).counting = s.counting := rfl
@[simp] theorem State.updTwin_trans (s : State) (f : Twin → Twin) : (s.updTwin f).trans = s.trans := rfl
@[simp] theorem State.updTwin_remote (s : State) (f : Twin → Twin) : (s.updTwin f).remote = s.remote := rfl
@[simp] theorem State.updTwin_colls (s : State) (f : Twin → Twin) : (s.updTwin f).colls = s.colls := rfl
@[simp] theorem State.updTwin_service (s : State) (f : Twin → Twin) : (s.updTwin f).service = s.service := rfl
@[simp] theorem State.updTwin_arrived (s : State) (f : Twin → Twin) : (s.updTwin f).arrived = s.arrived := rfl
@[simp] theorem State.updTwin_ownGone (s : State) (f : Twin → Twin) : (s.updTwin f).ownGone = s.ownGone := rfl
@[simp] theorem State.updTwin_adopted (s : State) (f : Twin → Twin) : (s.updTwin f).adopted = s.adopted := rfl
@[simp] theorem State.updTwin_faults (s : State) (f : Twin → Twin) : (s.updTwin f).faults = s.faults := rfl
@[simp] theorem State.updTwin_time (s : State) (f : Twin → Twin) : (s.updTwin f).time = s.time := rfl
@[simp] theorem State.updTwin_power (s : State) (f : Twin → Twin) : (s.updTwin f).power = s.power := rfl
@[simp] theorem State.updTwin_boot (s : State) (f : Twin → Twin) : (s.updTwin f).boot = s.boot := rfl
@[simp] theorem State.updTwin_holds (s : State) (f : Twin → Twin) : (s.updTwin f).holds = s.holds := rfl
@[simp] theorem State.updTwin_lastReset (s : State) (f : Twin → Twin) : (s.updTwin f).lastReset = s.lastReset := rfl
@[simp] theorem State.updTwin_resets (s : State) (f : Twin → Twin) : (s.updTwin f).resets = s.resets := rfl
@[simp] theorem State.updTwin_tap (s : State) (f : Twin → Twin) : (s.updTwin f).tap = s.tap := rfl

@[simp] theorem State.setSess_pending (s : State) (n : Nat) (x : Session) : (s.setSess n x).pending = s.pending := rfl
@[simp] theorem State.setSess_out (s : State) (n : Nat) (x : Session) : (s.setSess n x).out = s.out := rfl
@[simp] theorem State.setSess_draws (s : State) (n : Nat) (x : Session) : (s.setSess n x).draws = s.draws := rfl
@[simp] theorem State.setSess_uptime (s : State) (n : Nat) (x : Session) : (s.setSess n x).uptime = s.uptime := rfl
@[simp] theorem State.setSess_straps (s : State) (n : Nat) (x : Session) : (s.setSess n x).straps = s.straps := rfl
@[simp] theorem State.setSess_dict (s : State) (n : Nat) (x : Session) : (s.setSess n x).dict = s.dict := rfl
@[simp] theorem State.setSess_active (s : State) (n : Nat) (x : Session) : (s.setSess n x).active = s.active := rfl
@[simp] theorem State.setSess_counters (s : State) (n : Nat) (x : Session) : (s.setSess n x).counters = s.counters := rfl
@[simp] theorem State.setSess_totals (s : State) (n : Nat) (x : Session) : (s.setSess n x).totals = s.totals := rfl
@[simp] theorem State.setSess_wires (s : State) (n : Nat) (x : Session) : (s.setSess n x).wires = s.wires := rfl
@[simp] theorem State.setSess_lanes (s : State) (n : Nat) (x : Session) : (s.setSess n x).lanes = s.lanes := rfl
@[simp] theorem State.setSess_links (s : State) (n : Nat) (x : Session) : (s.setSess n x).links = s.links := rfl
@[simp] theorem State.setSess_inputs (s : State) (n : Nat) (x : Session) : (s.setSess n x).inputs = s.inputs := rfl
@[simp] theorem State.setSess_outputs (s : State) (n : Nat) (x : Session) : (s.setSess n x).outputs = s.outputs := rfl
@[simp] theorem State.setSess_inBuckets (s : State) (n : Nat) (x : Session) : (s.setSess n x).inBuckets = s.inBuckets := rfl
@[simp] theorem State.setSess_injBuckets (s : State) (n : Nat) (x : Session) : (s.setSess n x).injBuckets = s.injBuckets := rfl
@[simp] theorem State.setSess_injLevel (s : State) (n : Nat) (x : Session) : (s.setSess n x).injLevel = s.injLevel := rfl
@[simp] theorem State.setSess_rolesOn (s : State) (n : Nat) (x : Session) : (s.setSess n x).rolesOn = s.rolesOn := rfl
@[simp] theorem State.setSess_isolated (s : State) (n : Nat) (x : Session) : (s.setSess n x).isolated = s.isolated := rfl
@[simp] theorem State.setSess_ops (s : State) (n : Nat) (x : Session) : (s.setSess n x).ops = s.ops := rfl
@[simp] theorem State.setSess_timeQ (s : State) (n : Nat) (x : Session) : (s.setSess n x).timeQ = s.timeQ := rfl
@[simp] theorem State.setSess_bypassIn (s : State) (n : Nat) (x : Session) : (s.setSess n x).bypassIn = s.bypassIn := rfl
@[simp] theorem State.setSess_built (s : State) (n : Nat) (x : Session) : (s.setSess n x).built = s.built := rfl
@[simp] theorem State.setSess_rings (s : State) (n : Nat) (x : Session) : (s.setSess n x).rings = s.rings := rfl
@[simp] theorem State.setSess_host (s : State) (n : Nat) (x : Session) : (s.setSess n x).host = s.host := rfl
@[simp] theorem State.setSess_counting (s : State) (n : Nat) (x : Session) : (s.setSess n x).counting = s.counting := rfl
@[simp] theorem State.setSess_trans (s : State) (n : Nat) (x : Session) : (s.setSess n x).trans = s.trans := rfl
@[simp] theorem State.setSess_remote (s : State) (n : Nat) (x : Session) : (s.setSess n x).remote = s.remote := rfl
@[simp] theorem State.setSess_colls (s : State) (n : Nat) (x : Session) : (s.setSess n x).colls = s.colls := rfl
@[simp] theorem State.setSess_service (s : State) (n : Nat) (x : Session) : (s.setSess n x).service = s.service := rfl
@[simp] theorem State.setSess_arrived (s : State) (n : Nat) (x : Session) : (s.setSess n x).arrived = s.arrived := rfl
@[simp] theorem State.setSess_ownGone (s : State) (n : Nat) (x : Session) : (s.setSess n x).ownGone = s.ownGone := rfl
@[simp] theorem State.setSess_adopted (s : State) (n : Nat) (x : Session) : (s.setSess n x).adopted = s.adopted := rfl
@[simp] theorem State.setSess_faults (s : State) (n : Nat) (x : Session) : (s.setSess n x).faults = s.faults := rfl
@[simp] theorem State.setSess_twin (s : State) (n : Nat) (x : Session) : (s.setSess n x).twin = s.twin := rfl
@[simp] theorem State.setSess_time (s : State) (n : Nat) (x : Session) : (s.setSess n x).time = s.time := rfl
@[simp] theorem State.setSess_power (s : State) (n : Nat) (x : Session) : (s.setSess n x).power = s.power := rfl
@[simp] theorem State.setSess_boot (s : State) (n : Nat) (x : Session) : (s.setSess n x).boot = s.boot := rfl
@[simp] theorem State.setSess_holds (s : State) (n : Nat) (x : Session) : (s.setSess n x).holds = s.holds := rfl
@[simp] theorem State.setSess_lastReset (s : State) (n : Nat) (x : Session) : (s.setSess n x).lastReset = s.lastReset := rfl
@[simp] theorem State.setSess_resets (s : State) (n : Nat) (x : Session) : (s.setSess n x).resets = s.resets := rfl
@[simp] theorem State.setSess_tap (s : State) (n : Nat) (x : Session) : (s.setSess n x).tap = s.tap := rfl

@[simp] theorem State.updMgmt_pending (s : State) (f : Mgmt → Mgmt) : (s.updMgmt f).pending = s.pending := rfl
@[simp] theorem State.updMgmt_out (s : State) (f : Mgmt → Mgmt) : (s.updMgmt f).out = s.out := rfl
@[simp] theorem State.updMgmt_draws (s : State) (f : Mgmt → Mgmt) : (s.updMgmt f).draws = s.draws := rfl
@[simp] theorem State.updMgmt_uptime (s : State) (f : Mgmt → Mgmt) : (s.updMgmt f).uptime = s.uptime := rfl
@[simp] theorem State.updMgmt_straps (s : State) (f : Mgmt → Mgmt) : (s.updMgmt f).straps = s.straps := rfl
@[simp] theorem State.updMgmt_dict (s : State) (f : Mgmt → Mgmt) : (s.updMgmt f).dict = s.dict := rfl
@[simp] theorem State.updMgmt_active (s : State) (f : Mgmt → Mgmt) : (s.updMgmt f).active = s.active := rfl
@[simp] theorem State.updMgmt_counters (s : State) (f : Mgmt → Mgmt) : (s.updMgmt f).counters = s.counters := rfl
@[simp] theorem State.updMgmt_totals (s : State) (f : Mgmt → Mgmt) : (s.updMgmt f).totals = s.totals := rfl
@[simp] theorem State.updMgmt_wires (s : State) (f : Mgmt → Mgmt) : (s.updMgmt f).wires = s.wires := rfl
@[simp] theorem State.updMgmt_lanes (s : State) (f : Mgmt → Mgmt) : (s.updMgmt f).lanes = s.lanes := rfl
@[simp] theorem State.updMgmt_links (s : State) (f : Mgmt → Mgmt) : (s.updMgmt f).links = s.links := rfl
@[simp] theorem State.updMgmt_inputs (s : State) (f : Mgmt → Mgmt) : (s.updMgmt f).inputs = s.inputs := rfl
@[simp] theorem State.updMgmt_outputs (s : State) (f : Mgmt → Mgmt) : (s.updMgmt f).outputs = s.outputs := rfl
@[simp] theorem State.updMgmt_inBuckets (s : State) (f : Mgmt → Mgmt) : (s.updMgmt f).inBuckets = s.inBuckets := rfl
@[simp] theorem State.updMgmt_injBuckets (s : State) (f : Mgmt → Mgmt) : (s.updMgmt f).injBuckets = s.injBuckets := rfl
@[simp] theorem State.updMgmt_injLevel (s : State) (f : Mgmt → Mgmt) : (s.updMgmt f).injLevel = s.injLevel := rfl
@[simp] theorem State.updMgmt_rolesOn (s : State) (f : Mgmt → Mgmt) : (s.updMgmt f).rolesOn = s.rolesOn := rfl
@[simp] theorem State.updMgmt_isolated (s : State) (f : Mgmt → Mgmt) : (s.updMgmt f).isolated = s.isolated := rfl
@[simp] theorem State.updMgmt_ops (s : State) (f : Mgmt → Mgmt) : (s.updMgmt f).ops = s.ops := rfl
@[simp] theorem State.updMgmt_timeQ (s : State) (f : Mgmt → Mgmt) : (s.updMgmt f).timeQ = s.timeQ := rfl
@[simp] theorem State.updMgmt_bypassIn (s : State) (f : Mgmt → Mgmt) : (s.updMgmt f).bypassIn = s.bypassIn := rfl
@[simp] theorem State.updMgmt_built (s : State) (f : Mgmt → Mgmt) : (s.updMgmt f).built = s.built := rfl
@[simp] theorem State.updMgmt_rings (s : State) (f : Mgmt → Mgmt) : (s.updMgmt f).rings = s.rings := rfl
@[simp] theorem State.updMgmt_host (s : State) (f : Mgmt → Mgmt) : (s.updMgmt f).host = s.host := rfl
@[simp] theorem State.updMgmt_counting (s : State) (f : Mgmt → Mgmt) : (s.updMgmt f).counting = s.counting := rfl
@[simp] theorem State.updMgmt_trans (s : State) (f : Mgmt → Mgmt) : (s.updMgmt f).trans = s.trans := rfl
@[simp] theorem State.updMgmt_remote (s : State) (f : Mgmt → Mgmt) : (s.updMgmt f).remote = s.remote := rfl
@[simp] theorem State.updMgmt_colls (s : State) (f : Mgmt → Mgmt) : (s.updMgmt f).colls = s.colls := rfl
@[simp] theorem State.updMgmt_service (s : State) (f : Mgmt → Mgmt) : (s.updMgmt f).service = s.service := rfl
@[simp] theorem State.updMgmt_arrived (s : State) (f : Mgmt → Mgmt) : (s.updMgmt f).arrived = s.arrived := rfl
@[simp] theorem State.updMgmt_ownGone (s : State) (f : Mgmt → Mgmt) : (s.updMgmt f).ownGone = s.ownGone := rfl
@[simp] theorem State.updMgmt_adopted (s : State) (f : Mgmt → Mgmt) : (s.updMgmt f).adopted = s.adopted := rfl
@[simp] theorem State.updMgmt_faults (s : State) (f : Mgmt → Mgmt) : (s.updMgmt f).faults = s.faults := rfl
@[simp] theorem State.updMgmt_twin (s : State) (f : Mgmt → Mgmt) : (s.updMgmt f).twin = s.twin := rfl
@[simp] theorem State.updMgmt_time (s : State) (f : Mgmt → Mgmt) : (s.updMgmt f).time = s.time := rfl
@[simp] theorem State.updMgmt_power (s : State) (f : Mgmt → Mgmt) : (s.updMgmt f).power = s.power := rfl
@[simp] theorem State.updMgmt_boot (s : State) (f : Mgmt → Mgmt) : (s.updMgmt f).boot = s.boot := rfl
@[simp] theorem State.updMgmt_holds (s : State) (f : Mgmt → Mgmt) : (s.updMgmt f).holds = s.holds := rfl
@[simp] theorem State.updMgmt_lastReset (s : State) (f : Mgmt → Mgmt) : (s.updMgmt f).lastReset = s.lastReset := rfl
@[simp] theorem State.updMgmt_resets (s : State) (f : Mgmt → Mgmt) : (s.updMgmt f).resets = s.resets := rfl
@[simp] theorem State.updMgmt_tap (s : State) (f : Mgmt → Mgmt) : (s.updMgmt f).tap = s.tap := rfl

end Sys2Proof.Machine
end

