-- ==== Sys2Proof/Laws/Server.lean ====
section
/-! SUPPORT. What the management server does with a request that it accepts: the door, the record of a write, the effect, the answer; and
which parts of the device an answer touches. -/

namespace Sys2Proof.Machine

/-- An accepted request has been taken from its path and recorded: only the waiting messages, the audit ring and the free segments of
the caddy have moved. -/
def State.taken (s : State) (b : List (Nat × List Byte)) (a : List Arrived) (au : Table AuditRec) (an sf : Nat) : State :=
  { s with mgmt := { s.mgmt with inbox := b, audit := au, auditNext := an, segFree := sf }, arrived := a }

theorem State.takeRequest_taken (s : State) (p : Path) :
    ∃ b a, s.takeRequest p = s.taken b a s.mgmt.audit s.mgmt.auditNext s.mgmt.segFree := by
  have h0 : s = s.taken s.mgmt.inbox s.arrived s.mgmt.audit s.mgmt.auditNext s.mgmt.segFree := rfl
  unfold State.takeRequest
  split
  · split
    · exact ⟨_, _, rfl⟩
    · exact ⟨_, _, h0⟩
  · split
    · exact ⟨s.mgmt.inbox, _, rfl⟩
    · exact ⟨_, _, h0⟩
  · exact ⟨_, _, h0⟩

/-- The door of an accepted request leads to its handler. -/
theorem State.serve_atDoor {s : State} {q : Req} {role : Role} (h : s.atDoor q role = true) :
    ∃ b a, ∀ (obj sub : Nat) (run : Role → State → State) (rec : Bool),
      s.serve q obj sub run rec = run role (s.taken b a s.mgmt.audit s.mgmt.auditNext s.mgmt.segFree) := by
  obtain ⟨b, a, ht⟩ := s.takeRequest_taken q.path
  refine ⟨b, a, fun obj sub run rec => ?_⟩
  unfold State.serve
  rw [ht]
  simp only [State.atDoor, Bool.and_eq_true, Bool.not_eq_true', beq_iff_eq, bne_iff_ne, ne_eq] at h
  obtain ⟨⟨⟨⟨⟨⟨⟨⟨⟨⟨h1, h2⟩, h3⟩, h4⟩, h5⟩, h6⟩, h7⟩, h8⟩, h9⟩, h10⟩, h11⟩ := h
  have e1 : (s.taken b a s.mgmt.audit s.mgmt.auditNext s.mgmt.segFree).serving = s.serving := rfl
  have e2 : (s.taken b a s.mgmt.audit s.mgmt.auditNext s.mgmt.segFree).pathOpen q.path = s.pathOpen q.path := by
    cases q.path <;> rfl
  have e3 : (s.taken b a s.mgmt.audit s.mgmt.auditNext s.mgmt.segFree).sess q.session = s.sess q.session := rfl
  have ha : (s.taken b a s.mgmt.audit s.mgmt.auditNext s.mgmt.segFree).admitted q = .go role := by
    have hne : q.seq ≠ (s.sess q.session).last := by rw [h9]; bv_omega
    simp [State.admitted, e1, e2, e3, h1, h2, h5, h6, h7, h9, h10, h11, h8]
  have e4 : (s.taken b a s.mgmt.audit s.mgmt.auditNext s.mgmt.segFree).mgmt.recovery = s.mgmt.recovery := rfl
  simp [ha, h3, e4, h4]

/-- The record of a write for which there is room. -/
theorem State.recordVal_room {s : State} {q : Req} {role : Role} {r : Reg} (h : s.roomFor q role r = true) (i e : Nat)
    (val : BitVec 64) (hashed : Bool) : ∃ au an sf, s.recordVal q role r i e val hashed = .ok (s.taken s.mgmt.inbox s.arrived au an sf) := by
  simp only [State.roomFor, Bool.and_eq_true, Bool.not_eq_true', Bool.or_eq_true, Bool.and_eq_false_iff, beq_eq_false_iff_ne] at h
  have h0 : s = s.taken s.mgmt.inbox s.arrived s.mgmt.audit s.mgmt.auditNext s.mgmt.segFree := rfl
  have hw : ∀ (t : State) k ro pa o en va ha, ∃ au an, t.auditWrite k ro pa o en va ha
      = t.taken t.mgmt.inbox t.arrived au an t.mgmt.segFree := fun t k ro pa o en va ha => ⟨_, _, rfl⟩
  have hc : r.caddy = true ∨ State.auditDue role r.audits = true →
      ∃ sf, s.caddyWrite q r.inConfig = (s.taken s.mgmt.inbox s.arrived s.mgmt.audit s.mgmt.auditNext sf, true) := by
    intro hd
    have hq : q.caddyOk = true ∧ (r.inConfig = false ∨ s.mgmt.segFree ≠ 0) := by
      rcases h.2 with hn | hn
      · simp only [Bool.or_eq_false_iff] at hn
        rcases hd with hd | hd
        · rw [hn.1] at hd; cases hd
        · rw [hn.2] at hd; cases hd
      · exact hn
    unfold State.caddyWrite
    have h1 : ¬(r.inConfig = true ∧ s.mgmt.segFree = 0) := by
      rintro ⟨x, y⟩; rcases hq.2 with z | z
      · rw [z] at x; cases x
      · exact z y
    rw [if_neg h1]
    simp only [hq.1, Bool.not_true, Bool.false_eq_true, if_false]
    split
    · exact ⟨_, rfl⟩
    · exact ⟨_, congrArg (·, true) h0⟩
  unfold State.recordVal
  have hf : ¬(State.auditDue role r.audits = true ∧ s.auditFull = true) := by
    rintro ⟨x, y⟩; rcases h.1 with z | z
    · rw [z] at x; cases x
    · rw [z] at y; cases y
  simp only [if_neg hf]
  by_cases hd : r.caddy = true ∨ State.auditDue role r.audits = true
  · obtain ⟨sf, he⟩ := hc hd
    simp only [if_pos hd, he, Bool.not_true, Bool.false_eq_true, if_false]
    split
    · obtain ⟨au, an, hx⟩ := hw (s.taken s.mgmt.inbox s.arrived s.mgmt.audit s.mgmt.auditNext sf) 1 (roleCode role)
        (pathCode q.path + 4 * q.session) (r.index i + 65536 * (r.sub + if r.entries = 0 then e else 0))
        (if r.entries = 0 then 0 else e) val hashed
      exact ⟨au, an, sf, congrArg Except.ok hx⟩
    · exact ⟨_, _, _, rfl⟩
  · have hn : ¬(State.auditDue role r.audits = true) := fun x => hd (Or.inr x)
    simp only [if_neg hd, Bool.not_true, Bool.false_eq_true, if_false, if_neg hn]
    exact ⟨_, _, _, congrArg Except.ok h0⟩

/-- What an answer may touch: sessions and waiting messages, the pair, what has been sent, the counters, packets built, the mailboxes. -/
def State.afterAnswer (s : State) (m : Mgmt) (tw : Twin) (o : List Out) (c tt : Table (BitVec 64)) (b : List Built) (h : HostSide) : State :=
  { s with mgmt := m, twin := tw, out := o, counters := c, totals := tt, built := b, host := h }

theorem State.afterAnswer_self (s : State) : s = s.afterAnswer s.mgmt s.twin s.out s.counters s.totals s.built s.host := rfl

theorem State.wake_after (s : State) (f : Nat) :
    ∃ o h, s.wake f = s.afterAnswer s.mgmt s.twin o s.counters s.totals s.built h := by
  unfold State.wake State.exitL1
  dsimp only
  (repeat' split) <;> exact ⟨_, _, rfl⟩

theorem State.request_after (s : State) (b : Burst) :
    ∃ o h, s.request b = s.afterAnswer s.mgmt s.twin o s.counters s.totals s.built h := by
  unfold State.request
  obtain ⟨o, h, e⟩ := State.wake_after (s.updHost (fun h => { h with arb := { s.host.arb with
    bursts := s.host.arb.bursts ++ [{ b with id := s.host.arb.nextId }], nextId := s.host.arb.nextId + 1
    active := if s.host.arb.active.contains (256 * b.inst + b.slice) then s.host.arb.active
      else s.host.arb.active ++ [256 * b.inst + b.slice] } })) b.func
  exact ⟨o, h, e⟩

/-- A vector of a function, signalled or left pending. -/
theorem State.msix_after (s : State) (f v sl key : Nat) :
    ∃ o h, s.msix f v sl key = s.afterAnswer s.mgmt s.twin o s.counters s.totals s.built h := by
  unfold State.msix
  dsimp only
  split
  · exact ⟨_, _, rfl⟩
  · exact s.request_after _

theorem State.sendFdp_after (s : State) (p : Path) (r : FdpResp) :
    ∃ m o b h, s.sendFdp p r = s.afterAnswer m s.twin o s.counters s.totals b h := by
  unfold State.sendFdp
  dsimp only
  (repeat' split) <;> first
    | exact ⟨_, _, _, _, rfl⟩
    | exact ⟨_, _, _, _, (State.msix_after _ _ _ _ _).choose_spec.choose_spec⟩

theorem State.answer_after (s : State) (q : Req) (obj sub : Nat) (f : Fdp) (body : List Byte) :
    ∃ m o c tt b h, s.answer q obj sub f body = s.afterAnswer m s.twin o c tt b h := by
  unfold State.answer
  dsimp only
  split
  · obtain ⟨m, o, b, h, e⟩ := (s.countDev 9).sendFdp_after q.path (s.respOf q obj sub f body)
    exact ⟨m, o, _, _, b, h, e⟩
  · obtain ⟨m, o, b, h, e⟩ := ((s.setSess q.session { s.sess q.session with
        last := q.seq, kept := some (s.respOf q obj sub f body), executing := false }).countDev 9).sendFdp_after q.path
          (s.respOf q obj sub f body)
    exact ⟨m, o, _, _, b, h, e⟩

theorem State.answerLater_after (s : State) (q : Req) (obj sub : Nat) :
    ∃ m, s.answerLater q obj sub = s.afterAnswer m s.twin s.out s.counters s.totals s.built s.host := ⟨_, rfl⟩

theorem State.pairSend_after (s : State) (m : PairMsg) :
    ∃ tw o, s.pairSend m = s.afterAnswer s.mgmt tw o s.counters s.totals s.built s.host := by
  unfold State.pairSend; split
  · exact ⟨s.twin, _, rfl⟩
  · exact ⟨_, s.out, rfl⟩

theorem State.leftBehind_after (s : State) (keys : List Nat) :
    ∃ tw o, s.leftBehind keys = s.afterAnswer s.mgmt tw o s.counters s.totals s.built s.host := by
  unfold State.leftBehind; dsimp only; split
  · obtain ⟨tw, o, e⟩ := State.pairSend_after (s.updTwin (fun t => { t with behind := t.behind ++ (keys.filter (fun k => !t.behind.contains k)).eraseDups })) .behind
    exact ⟨tw, o, e⟩
  · exact ⟨_, s.out, rfl⟩

theorem State.awaitMirror_after (s : State) (q : Req) (obj sub : Nat) (f : Fdp) (c : List Change) (x : Bool) :
    ∃ m tw, s.awaitMirror q obj sub f c x = s.afterAnswer m tw s.out s.counters s.totals s.built s.host := ⟨_, _, rfl⟩

/-- However the answer of an executed write goes, it touches no more than an answer does. -/
theorem State.mirrored_after (s : State) (q : Req) (r : Reg) (i : Nat) (es : List Nat) (obj sub : Nat) (f : Option Fdp) :
    ∃ m tw o c tt b h, s.mirrored q r i es obj sub f = s.afterAnswer m tw o c tt b h := by
  unfold State.mirrored
  dsimp only
  split
  · obtain ⟨m, o, c, tt, b, h, e⟩ := s.answer_after q obj sub _ []
    exact ⟨m, _, o, c, tt, b, h, e⟩
  · obtain ⟨m, e⟩ := s.answerLater_after q obj sub
    exact ⟨m, _, _, _, _, _, _, e⟩
  · split
    · obtain ⟨m, o, c, tt, b, h, e⟩ := s.answer_after q obj sub _ []
      exact ⟨m, _, o, c, tt, b, h, e⟩
    · split
      · obtain ⟨tw, o, e⟩ := s.pairSend_after (.change _ (es.map (fun e => (r.key i e, s.reg r i e))))
        rw [e]; exact ⟨_, _, _, _, _, _, _, rfl⟩
      · obtain ⟨tw, o, e⟩ := s.leftBehind_after ((es.map (fun e => (r.key i e, s.reg r i e))).map (·.1))
        rw [e]
        obtain ⟨m, o', c, tt, b, h, e'⟩ := (s.afterAnswer s.mgmt tw o s.counters s.totals s.built s.host).answer_after q obj sub _ []
        rw [e']; exact ⟨_, _, _, _, _, _, _, rfl⟩
  · unfold State.noteChange; split
    · obtain ⟨tw, o, e⟩ := s.pairSend_after (.change _ (es.map (fun e => (r.key i e, s.reg r i e))))
      rw [e]; exact ⟨_, _, _, _, _, _, _, rfl⟩
    · obtain ⟨tw, o, e⟩ := s.leftBehind_after ((es.map (fun e => (r.key i e, s.reg r i e))).map (·.1))
      rw [e]; exact ⟨_, _, _, _, _, _, _, rfl⟩

/-- The value that an accepted write stores. -/
def State.storeVal (s : State) (r : Reg) (i e : Nat) (v : Image) : State :=
  if r.wo = r.rw then s else s.setReg r i e (r.merge (s.reg r i e) v)

/-- A dictionary write that the server and the object's own rules accept: the record, the stored value, the object's effect, the answer. -/
theorem State.dictRunR_accepted {s : State} {q : Req} {role : Role} {r : Reg} {i e : Nat} {v : Image}
    (h : s.mayWrite q role r i e v = true) (deny : Role → State → Bool) (chk : State → Option Fdp) (eff : State → State × Option Fdp)
    (life : State → Bool) (hd : ∀ b a, deny role (s.taken b a s.mgmt.audit s.mgmt.auditNext s.mgmt.segFree) = false)
    (hl : ∀ b a, life (s.taken b a s.mgmt.audit s.mgmt.auditNext s.mgmt.segFree) = false)
    (hc : ∀ b a au an sf, chk (s.taken b a au an sf) = none) :
    ∃ b a au an sf m tw o c tt bu ho, s.dictRunR q r i e v deny chk eff life
      = (eff ((s.taken b a au an sf).storeVal r i e v)).1.afterAnswer m tw o c tt bu ho := by
  simp only [State.mayWrite, Bool.and_eq_true] at h
  obtain ⟨⟨⟨⟨hdoor, hstore⟩, hroom⟩, hpass⟩, hsur⟩ := h
  obtain ⟨b, a, hs⟩ := State.serve_atDoor hdoor
  simp only [State.mayStore, Bool.and_eq_true, Bool.not_eq_true', decide_eq_true_eq] at hstore
  obtain ⟨⟨⟨⟨⟨⟨h1, h2⟩, h3⟩, h4⟩, h5⟩, h6⟩, h7⟩ := hstore
  have hroom' : (s.taken b a s.mgmt.audit s.mgmt.auditNext s.mgmt.segFree).roomFor q role r = true := hroom
  unfold State.dictRunR State.writeRun
  dsimp only
  rw [hs]
  have hw : State.writeRefused (s.taken b a s.mgmt.audit s.mgmt.auditNext s.mgmt.segFree) q role r i
      (fun _ _ _ => { deny := deny, life := life, chk := chk, eff := eff }) [(e, v)] = none := by
    have hne : ¬ r.writable i role = 0 := by
      intro hz; rw [Reg.denies, hz] at h2; simp at h2
    have h1' : ¬(i < r.insts) → i = 48 ∧ ¬ r.twin = 0 := by
      intro hi; simpa [hi] using h1
    have hs' : ¬((mirrorScope r i).isSome = true ∧ s.twin.st = .surrendered) := by
      rintro ⟨x, y⟩
      rw [y] at hsur
      cases hm : mirrorScope r i <;> simp [hm] at hsur x
    have k1 : ∀ b a, (s.taken b a s.mgmt.audit s.mgmt.auditNext s.mgmt.segFree).reg r i e = s.reg r i e := fun _ _ => rfl
    have k2 : (s.taken b a s.mgmt.audit s.mgmt.auditNext s.mgmt.segFree).lifeForbids role = false := h3
    have k3 : (s.taken b a s.mgmt.audit s.mgmt.auditNext s.mgmt.segFree).twin = s.twin := rfl
    unfold State.writeRefused
    simp only [List.any_cons, List.any_nil, Bool.or_false, k1, k2, k3, h2, hd, hl, h5, hne]
    have hi : ¬(r.insts ≤ i ∧ (¬i = 48 ∨ r.twin = 0)) := by
      rintro ⟨x, y⟩; rcases y with y | y
      · exact y (h1' (Nat.not_lt.2 x)).1
      · exact (h1' (Nat.not_lt.2 x)).2 y
    have hv : ¬ 2 ^ r.bits ≤ v.toNat := Nat.not_le.2 h4
    split at h7
    · next h0 =>
      simp only [Bool.and_eq_true, beq_iff_eq, decide_eq_true_eq] at h7
      simp [h0, h7.1.1, h7.1.2, h7.2, h6, hs', hi, hv]
    · next h0 =>
      simp only [decide_eq_true_eq] at h7
      simp [h0, h6, hs', Nat.not_le.2 h7, hi, hv]
  have hes : (([v].zipIdx e).map (fun x => (x.2, x.1))) = [(e, v)] := rfl
  have hp : ¬(mirrorScope r i = some false ∧ (s.taken b a s.mgmt.audit s.mgmt.auditNext s.mgmt.segFree).passes = true ∧ q.path ≠ .pair) := by
    rintro ⟨y, x, -⟩
    have x' : s.passes = true := x
    simp [y, x'] at hpass
  have hau : (s.taken b a s.mgmt.audit s.mgmt.auditNext s.mgmt.segFree).auditRefuses role r = false := by
    simp only [State.roomFor, Bool.and_eq_true, Bool.not_eq_true'] at hroom
    exact hroom.1
  obtain ⟨au, an, sf, hrec⟩ := State.recordVal_room hroom' i e (auditValue r.bits [v]).1 (auditValue r.bits [v]).2
  have hrec' : (s.taken b a s.mgmt.audit s.mgmt.auditNext s.mgmt.segFree).recordWrite q role r i e [v] = .ok (s.taken b a au an sf) := hrec
  have h0 : ∀ t : State, chk t = none → (t.applyEntries r i (fun _ _ _ => { deny := deny, life := life, chk := chk, eff := eff }) [(e, v)])
      = ((eff (t.storeVal r i e v)).1, [], [(eff (t.storeVal r i e v)).2]) := by
    intro t ht
    simp [State.applyEntries, ht, State.storeVal]
  rw [hes, hw]
  dsimp only
  rw [if_neg hp, h0 _ (hc _ _ _ _ _), hau]
  simp only [List.nil_append, Bool.false_eq_true, if_false, firstRefusal, hrec', h0 _ (hc _ _ _ _ _)]
  obtain ⟨m, tw, o, c, tt, bu, ho, he⟩ := State.mirrored_after (eff ((s.taken b a au an sf).storeVal r i e v)).1 q r i ([(e, v)].map (·.1))
    (r.index i) (r.sub + if r.entries = 0 then e else 0) (allAnswers [(eff ((s.taken b a au an sf).storeVal r i e v)).2])
  exact ⟨b, a, au, an, sf, m, tw, o, c, tt, bu, ho, he⟩

/-- The same for a write answered at once. -/
theorem State.dictWrite_accepted {s : State} {q : Req} {role : Role} {r : Reg} {i e : Nat} {v : Image}
    (h : s.mayWrite q role r i e v = true) (chk : State → Option Fdp) (eff : State → State × Fdp)
    (hc : ∀ b a au an sf, chk (s.taken b a au an sf) = none) :
    ∃ b a au an sf m tw o c tt bu ho, s.dictWrite q r i e v chk eff
      = (eff ((s.taken b a au an sf).storeVal r i e v)).1.afterAnswer m tw o c tt bu ho :=
  State.dictRunR_accepted h (fun _ _ => false) chk (fun s => let (s, f) := eff s; (s, some f)) (fun _ => false) (fun _ _ => rfl)
    (fun _ _ => rfl) hc

/-- The same for a write answered at once or later. -/
theorem State.dictRun_accepted {s : State} {q : Req} {role : Role} {r : Reg} {i e : Nat} {v : Image}
    (h : s.mayWrite q role r i e v = true) (chk : State → Option Fdp) (eff : State → State × Option Fdp)
    (hc : ∀ b a au an sf, chk (s.taken b a au an sf) = none) :
    ∃ b a au an sf m tw o c tt bu ho, s.dictRun q r i e v chk eff
      = (eff ((s.taken b a au an sf).storeVal r i e v)).1.afterAnswer m tw o c tt bu ho :=
  State.dictRunR_accepted h (fun _ _ => false) chk eff (fun _ => false) (fun _ _ => rfl) (fun _ _ => rfl) hc

/-- A START that the server and the operation accept: the record, the operation RUNNING, its effect, the answer. -/
theorem State.opStart_accepted {s : State} {q : Req} {role : Role} {r : Reg} {v : Image} {k p : Nat}
    (h : s.mayOperate q role r v k p = true) (range busy : State → Bool) (eff : State → State × Fdp)
    (moved : State → Option (Bool × List Change))
    (hr : ∀ b a, range (s.taken b a s.mgmt.audit s.mgmt.auditNext s.mgmt.segFree) = false)
    (hb : ∀ b a, busy (s.taken b a s.mgmt.audit s.mgmt.auditNext s.mgmt.segFree) = false) :
    ∃ b a au an sf m tw o c tt bu ho, s.opStart q r 0 v k p range busy eff moved
      = (eff ((s.taken b a au an sf).opSet k p 2)).1.afterAnswer m tw o c tt bu ho := by
  simp only [State.mayOperate, Bool.and_eq_true, bne_iff_ne, ne_eq, Bool.not_eq_true', beq_iff_eq, decide_eq_true_eq,
    Option.isNone_iff_eq_none] at h
  obtain ⟨⟨⟨⟨⟨⟨⟨⟨⟨⟨hdoor, h1⟩, h2⟩, h3⟩, h4⟩, h5⟩, h6⟩, h7⟩, h8⟩, hroom⟩, hsur⟩ := h
  obtain ⟨b, a, hs⟩ := State.serve_atDoor hdoor
  have hroom' : (s.taken b a s.mgmt.audit s.mgmt.auditNext s.mgmt.segFree).roomFor q role r = true := hroom
  have hau : (s.taken b a s.mgmt.audit s.mgmt.auditNext s.mgmt.segFree).auditRefuses role r = false := by
    simp only [State.roomFor, Bool.and_eq_true, Bool.not_eq_true'] at hroom
    exact hroom.1
  obtain ⟨au, an, sf, hrec⟩ := State.recordVal_room hroom' 0 0 (auditValue r.bits [v]).1 (auditValue r.bits [v]).2
  have hrec' : (s.taken b a s.mgmt.audit s.mgmt.auditNext s.mgmt.segFree).recordWrite q role r 0 0 [v] = .ok (s.taken b a au an sf) := hrec
  have k2 : (s.taken b a s.mgmt.audit s.mgmt.auditNext s.mgmt.segFree).lifeForbids role = false := h2
  have k3 : (s.taken b a s.mgmt.audit s.mgmt.auditNext s.mgmt.segFree).opBlocked k p = none := h8
  have k4 : ¬((moved (s.taken b a s.mgmt.audit s.mgmt.auditNext s.mgmt.segFree)).isSome = true
      ∧ (s.taken b a s.mgmt.audit s.mgmt.auditNext s.mgmt.segFree).twin.st = .surrendered) := fun x => hsur x.2
  unfold State.opStart
  dsimp only
  rw [hs]
  have hv : ¬ 2 ^ r.bits ≤ v.toNat := Nat.not_le.2 h3
  simp only [h1, k2, k4, hv, h5, h6, h7, h4, hr, k3, hau, hb, hrec', Bool.false_eq_true, if_false, ne_eq, not_true_eq_false, or_self]
  split
  · obtain ⟨m, o, c, tt, bu, ho, he⟩ := State.answer_after (eff ((s.taken b a au an sf).opSet k p 2)).1 q (r.index 0) r.sub
      (eff ((s.taken b a au an sf).opSet k p 2)).2 []
    exact ⟨b, a, au, an, sf, m, _, o, c, tt, bu, ho, he⟩
  · next dev c _ =>
    split
    · obtain ⟨tw, o, he⟩ := State.pairSend_after (eff ((s.taken b a au an sf).opSet k p 2)).1 (.change dev c)
      rw [he]; exact ⟨b, a, au, an, sf, _, _, _, _, _, _, _, rfl⟩
    · obtain ⟨tw, o, he⟩ := State.leftBehind_after (eff ((s.taken b a au an sf).opSet k p 2)).1 (c.map (·.1))
      rw [he]
      obtain ⟨m, o', c', tt, bu, ho, he'⟩ := State.answer_after ((eff ((s.taken b a au an sf).opSet k p 2)).1.afterAnswer
        (eff ((s.taken b a au an sf).opSet k p 2)).1.mgmt tw o (eff ((s.taken b a au an sf).opSet k p 2)).1.counters
        (eff ((s.taken b a au an sf).opSet k p 2)).1.totals (eff ((s.taken b a au an sf).opSet k p 2)).1.built
        (eff ((s.taken b a au an sf).opSet k p 2)).1.host) q (r.index 0) r.sub (eff ((s.taken b a au an sf).opSet k p 2)).2 []
      rw [he']; exact ⟨b, a, au, an, sf, _, _, _, _, _, _, _, rfl⟩

/-! Fields that are left alone -/

@[simp] theorem State.taken_pending (s : State) (b : List (Nat × List Byte)) (a : List Arrived) (au : Table AuditRec) (an sf : Nat) :
    (s.taken b a au an sf).pending = s.pending := rfl
@[simp] theorem State.taken_out (s : State) (b : List (Nat × List Byte)) (a : List Arrived) (au : Table AuditRec) (an sf : Nat) :
    (s.taken b a au an sf).out = s.out := rfl
@[simp] theorem State.taken_draws (s : State) (b : List (Nat × List Byte)) (a : List Arrived) (au : Table AuditRec) (an sf : Nat) :
    (s.taken b a au an sf).draws = s.draws := rfl
@[simp] theorem State.taken_uptime (s : State) (b : List (Nat × List Byte)) (a : List Arrived) (au : Table AuditRec) (an sf : Nat) :
    (s.taken b a au an sf).uptime = s.uptime := rfl
@[simp] theorem State.taken_straps (s : State) (b : List (Nat × List Byte)) (a : List Arrived) (au : Table AuditRec) (an sf : Nat) :
    (s.taken b a au an sf).straps = s.straps := rfl
@[simp] theorem State.taken_dict (s : State) (b : List (Nat × List Byte)) (a : List Arrived) (au : Table AuditRec) (an sf : Nat) :
    (s.taken b a au an sf).dict = s.dict := rfl
@[simp] theorem State.taken_active (s : State) (b : List (Nat × List Byte)) (a : List Arrived) (au : Table AuditRec) (an sf : Nat) :
    (s.taken b a au an sf).active = s.active := rfl
@[simp] theorem State.taken_counters (s : State) (b : List (Nat × List Byte)) (a : List Arrived) (au : Table AuditRec) (an sf : Nat) :
    (s.taken b a au an sf).counters = s.counters := rfl
@[simp] theorem State.taken_totals (s : State) (b : List (Nat × List Byte)) (a : List Arrived) (au : Table AuditRec) (an sf : Nat) :
    (s.taken b a au an sf).totals = s.totals := rfl
@[simp] theorem State.taken_wires (s : State) (b : List (Nat × List Byte)) (a : List Arrived) (au : Table AuditRec) (an sf : Nat) :
    (s.taken b a au an sf).wires = s.wires := rfl
@[simp] theorem State.taken_lanes (s : State) (b : List (Nat × List Byte)) (a : List Arrived) (au : Table AuditRec) (an sf : Nat) :
    (s.taken b a au an sf).lanes = s.lanes := rfl
@[simp] theorem State.taken_links (s : State) (b : List (Nat × List Byte)) (a : List Arrived) (au : Table AuditRec) (an sf : Nat) :
    (s.taken b a au an sf).links = s.links := rfl
@[simp] theorem State.taken_inputs (s : State) (b : List (Nat × List Byte)) (a : List Arrived) (au : Table AuditRec) (an sf : Nat) :
    (s.taken b a au an sf).inputs = s.inputs := rfl
@[simp] theorem State.taken_outputs (s : State) (b : List (Nat × List Byte)) (a : List Arrived) (au : Table AuditRec) (an sf : Nat) :
    (s.taken b a au an sf).outputs = s.outputs := rfl
@[simp] theorem State.taken_inBuckets (s : State) (b : List (Nat × List Byte)) (a : List Arrived) (au : Table AuditRec) (an sf : Nat) :
    (s.taken b a au an sf).inBuckets = s.inBuckets := rfl
@[simp] theorem State.taken_injBuckets (s : State) (b : List (Nat × List Byte)) (a : List Arrived) (au : Table AuditRec) (an sf : Nat) :
    (s.taken b a au an sf).injBuckets = s.injBuckets := rfl
@[simp] theorem State.taken_injLevel (s : State) (b : List (Nat × List Byte)) (a : List Arrived) (au : Table AuditRec) (an sf : Nat) :
    (s.taken b a au an sf).injLevel = s.injLevel := rfl
@[simp] theorem State.taken_rolesOn (s : State) (b : List (Nat × List Byte)) (a : List Arrived) (au : Table AuditRec) (an sf : Nat) :
    (s.taken b a au an sf).rolesOn = s.rolesOn := rfl
@[simp] theorem State.taken_isolated (s : State) (b : List (Nat × List Byte)) (a : List Arrived) (au : Table AuditRec) (an sf : Nat) :
    (s.taken b a au an sf).isolated = s.isolated := rfl
@[simp] theorem State.taken_ops (s : State) (b : List (Nat × List Byte)) (a : List Arrived) (au : Table AuditRec) (an sf : Nat) :
    (s.taken b a au an sf).ops = s.ops := rfl
@[simp] theorem State.taken_timeQ (s : State) (b : List (Nat × List Byte)) (a : List Arrived) (au : Table AuditRec) (an sf : Nat) :
    (s.taken b a au an sf).timeQ = s.timeQ := rfl
@[simp] theorem State.taken_bypassIn (s : State) (b : List (Nat × List Byte)) (a : List Arrived) (au : Table AuditRec) (an sf : Nat) :
    (s.taken b a au an sf).bypassIn = s.bypassIn := rfl
@[simp] theorem State.taken_built (s : State) (b : List (Nat × List Byte)) (a : List Arrived) (au : Table AuditRec) (an sf : Nat) :
    (s.taken b a au an sf).built = s.built := rfl
@[simp] theorem State.taken_rings (s : State) (b : List (Nat × List Byte)) (a : List Arrived) (au : Table AuditRec) (an sf : Nat) :
    (s.taken b a au an sf).rings = s.rings := rfl
@[simp] theorem State.taken_host (s : State) (b : List (Nat × List Byte)) (a : List Arrived) (au : Table AuditRec) (an sf : Nat) :
    (s.taken b a au an sf).host = s.host := rfl
@[simp] theorem State.taken_counting (s : State) (b : List (Nat × List Byte)) (a : List Arrived) (au : Table AuditRec) (an sf : Nat) :
    (s.taken b a au an sf).counting = s.counting := rfl
@[simp] theorem State.taken_trans (s : State) (b : List (Nat × List Byte)) (a : List Arrived) (au : Table AuditRec) (an sf : Nat) :
    (s.taken b a au an sf).trans = s.trans := rfl
@[simp] theorem State.taken_remote (s : State) (b : List (Nat × List Byte)) (a : List Arrived) (au : Table AuditRec) (an sf : Nat) :
    (s.taken b a au an sf).remote = s.remote := rfl
@[simp] theorem State.taken_colls (s : State) (b : List (Nat × List Byte)) (a : List Arrived) (au : Table AuditRec) (an sf : Nat) :
    (s.taken b a au an sf).colls = s.colls := rfl
@[simp] theorem State.taken_service (s : State) (b : List (Nat × List Byte)) (a : List Arrived) (au : Table AuditRec) (an sf : Nat) :
    (s.taken b a au an sf).service = s.service := rfl
@[simp] theorem State.taken_ownGone (s : State) (b : List (Nat × List Byte)) (a : List Arrived) (au : Table AuditRec) (an sf : Nat) :
    (s.taken b a au an sf).ownGone = s.ownGone := rfl
@[simp] theorem State.taken_adopted (s : State) (b : List (Nat × List Byte)) (a : List Arrived) (au : Table AuditRec) (an sf : Nat) :
    (s.taken b a au an sf).adopted = s.adopted := rfl
@[simp] theorem State.taken_faults (s : State) (b : List (Nat × List Byte)) (a : List Arrived) (au : Table AuditRec) (an sf : Nat) :
    (s.taken b a au an sf).faults = s.faults := rfl
@[simp] theorem State.taken_twin (s : State) (b : List (Nat × List Byte)) (a : List Arrived) (au : Table AuditRec) (an sf : Nat) :
    (s.taken b a au an sf).twin = s.twin := rfl
@[simp] theorem State.taken_time (s : State) (b : List (Nat × List Byte)) (a : List Arrived) (au : Table AuditRec) (an sf : Nat) :
    (s.taken b a au an sf).time = s.time := rfl
@[simp] theorem State.taken_power (s : State) (b : List (Nat × List Byte)) (a : List Arrived) (au : Table AuditRec) (an sf : Nat) :
    (s.taken b a au an sf).power = s.power := rfl
@[simp] theorem State.taken_boot (s : State) (b : List (Nat × List Byte)) (a : List Arrived) (au : Table AuditRec) (an sf : Nat) :
    (s.taken b a au an sf).boot = s.boot := rfl
@[simp] theorem State.taken_holds (s : State) (b : List (Nat × List Byte)) (a : List Arrived) (au : Table AuditRec) (an sf : Nat) :
    (s.taken b a au an sf).holds = s.holds := rfl
@[simp] theorem State.taken_lastReset (s : State) (b : List (Nat × List Byte)) (a : List Arrived) (au : Table AuditRec) (an sf : Nat) :
    (s.taken b a au an sf).lastReset = s.lastReset := rfl
@[simp] theorem State.taken_resets (s : State) (b : List (Nat × List Byte)) (a : List Arrived) (au : Table AuditRec) (an sf : Nat) :
    (s.taken b a au an sf).resets = s.resets := rfl
@[simp] theorem State.taken_tap (s : State) (b : List (Nat × List Byte)) (a : List Arrived) (au : Table AuditRec) (an sf : Nat) :
    (s.taken b a au an sf).tap = s.tap := rfl

@[simp] theorem State.afterAnswer_pending (s : State) (m : Mgmt) (tw : Twin) (o : List Out) (c tt : Table (BitVec 64)) (b : List Built) (h : HostSide) :
    (s.afterAnswer m tw o c tt b h).pending = s.pending := rfl
@[simp] theorem State.afterAnswer_draws (s : State) (m : Mgmt) (tw : Twin) (o : List Out) (c tt : Table (BitVec 64)) (b : List Built) (h : HostSide) :
    (s.afterAnswer m tw o c tt b h).draws = s.draws := rfl
@[simp] theorem State.afterAnswer_uptime (s : State) (m : Mgmt) (tw : Twin) (o : List Out) (c tt : Table (BitVec 64)) (b : List Built) (h : HostSide) :
    (s.afterAnswer m tw o c tt b h).uptime = s.uptime := rfl
@[simp] theorem State.afterAnswer_straps (s : State) (m : Mgmt) (tw : Twin) (o : List Out) (c tt : Table (BitVec 64)) (b : List Built) (h : HostSide) :
    (s.afterAnswer m tw o c tt b h).straps = s.straps := rfl
@[simp] theorem State.afterAnswer_dict (s : State) (m : Mgmt) (tw : Twin) (o : List Out) (c tt : Table (BitVec 64)) (b : List Built) (h : HostSide) :
    (s.afterAnswer m tw o c tt b h).dict = s.dict := rfl
@[simp] theorem State.afterAnswer_active (s : State) (m : Mgmt) (tw : Twin) (o : List Out) (c tt : Table (BitVec 64)) (b : List Built) (h : HostSide) :
    (s.afterAnswer m tw o c tt b h).active = s.active := rfl
@[simp] theorem State.afterAnswer_wires (s : State) (m : Mgmt) (tw : Twin) (o : List Out) (c tt : Table (BitVec 64)) (b : List Built) (h : HostSide) :
    (s.afterAnswer m tw o c tt b h).wires = s.wires := rfl
@[simp] theorem State.afterAnswer_lanes (s : State) (m : Mgmt) (tw : Twin) (o : List Out) (c tt : Table (BitVec 64)) (b : List Built) (h : HostSide) :
    (s.afterAnswer m tw o c tt b h).lanes = s.lanes := rfl
@[simp] theorem State.afterAnswer_links (s : State) (m : Mgmt) (tw : Twin) (o : List Out) (c tt : Table (BitVec 64)) (b : List Built) (h : HostSide) :
    (s.afterAnswer m tw o c tt b h).links = s.links := rfl
@[simp] theorem State.afterAnswer_inputs (s : State) (m : Mgmt) (tw : Twin) (o : List Out) (c tt : Table (BitVec 64)) (b : List Built) (h : HostSide) :
    (s.afterAnswer m tw o c tt b h).inputs = s.inputs := rfl
@[simp] theorem State.afterAnswer_outputs (s : State) (m : Mgmt) (tw : Twin) (o : List Out) (c tt : Table (BitVec 64)) (b : List Built) (h : HostSide) :
    (s.afterAnswer m tw o c tt b h).outputs = s.outputs := rfl
@[simp] theorem State.afterAnswer_inBuckets (s : State) (m : Mgmt) (tw : Twin) (o : List Out) (c tt : Table (BitVec 64)) (b : List Built) (h : HostSide) :
    (s.afterAnswer m tw o c tt b h).inBuckets = s.inBuckets := rfl
@[simp] theorem State.afterAnswer_injBuckets (s : State) (m : Mgmt) (tw : Twin) (o : List Out) (c tt : Table (BitVec 64)) (b : List Built) (h : HostSide) :
    (s.afterAnswer m tw o c tt b h).injBuckets = s.injBuckets := rfl
@[simp] theorem State.afterAnswer_injLevel (s : State) (m : Mgmt) (tw : Twin) (o : List Out) (c tt : Table (BitVec 64)) (b : List Built) (h : HostSide) :
    (s.afterAnswer m tw o c tt b h).injLevel = s.injLevel := rfl
@[simp] theorem State.afterAnswer_rolesOn (s : State) (m : Mgmt) (tw : Twin) (o : List Out) (c tt : Table (BitVec 64)) (b : List Built) (h : HostSide) :
    (s.afterAnswer m tw o c tt b h).rolesOn = s.rolesOn := rfl
@[simp] theorem State.afterAnswer_isolated (s : State) (m : Mgmt) (tw : Twin) (o : List Out) (c tt : Table (BitVec 64)) (b : List Built) (h : HostSide) :
    (s.afterAnswer m tw o c tt b h).isolated = s.isolated := rfl
@[simp] theorem State.afterAnswer_ops (s : State) (m : Mgmt) (tw : Twin) (o : List Out) (c tt : Table (BitVec 64)) (b : List Built) (h : HostSide) :
    (s.afterAnswer m tw o c tt b h).ops = s.ops := rfl
@[simp] theorem State.afterAnswer_timeQ (s : State) (m : Mgmt) (tw : Twin) (o : List Out) (c tt : Table (BitVec 64)) (b : List Built) (h : HostSide) :
    (s.afterAnswer m tw o c tt b h).timeQ = s.timeQ := rfl
@[simp] theorem State.afterAnswer_bypassIn (s : State) (m : Mgmt) (tw : Twin) (o : List Out) (c tt : Table (BitVec 64)) (b : List Built) (h : HostSide) :
    (s.afterAnswer m tw o c tt b h).bypassIn = s.bypassIn := rfl
@[simp] theorem State.afterAnswer_rings (s : State) (m : Mgmt) (tw : Twin) (o : List Out) (c tt : Table (BitVec 64)) (b : List Built) (h : HostSide) :
    (s.afterAnswer m tw o c tt b h).rings = s.rings := rfl
@[simp] theorem State.afterAnswer_counting (s : State) (m : Mgmt) (tw : Twin) (o : List Out) (c tt : Table (BitVec 64)) (b : List Built) (h : HostSide) :
    (s.afterAnswer m tw o c tt b h).counting = s.counting := rfl
@[simp] theorem State.afterAnswer_trans (s : State) (m : Mgmt) (tw : Twin) (o : List Out) (c tt : Table (BitVec 64)) (b : List Built) (h : HostSide) :
    (s.afterAnswer m tw o c tt b h).trans = s.trans := rfl
@[simp] theorem State.afterAnswer_remote (s : State) (m : Mgmt) (tw : Twin) (o : List Out) (c tt : Table (BitVec 64)) (b : List Built) (h : HostSide) :
    (s.afterAnswer m tw o c tt b h).remote = s.remote := rfl
@[simp] theorem State.afterAnswer_colls (s : State) (m : Mgmt) (tw : Twin) (o : List Out) (c tt : Table (BitVec 64)) (b : List Built) (h : HostSide) :
    (s.afterAnswer m tw o c tt b h).colls = s.colls := rfl
@[simp] theorem State.afterAnswer_service (s : State) (m : Mgmt) (tw : Twin) (o : List Out) (c tt : Table (BitVec 64)) (b : List Built) (h : HostSide) :
    (s.afterAnswer m tw o c tt b h).service = s.service := rfl
@[simp] theorem State.afterAnswer_arrived (s : State) (m : Mgmt) (tw : Twin) (o : List Out) (c tt : Table (BitVec 64)) (b : List Built) (h : HostSide) :
    (s.afterAnswer m tw o c tt b h).arrived = s.arrived := rfl
@[simp] theorem State.afterAnswer_ownGone (s : State) (m : Mgmt) (tw : Twin) (o : List Out) (c tt : Table (BitVec 64)) (b : List Built) (h : HostSide) :
    (s.afterAnswer m tw o c tt b h).ownGone = s.ownGone := rfl
@[simp] theorem State.afterAnswer_adopted (s : State) (m : Mgmt) (tw : Twin) (o : List Out) (c tt : Table (BitVec 64)) (b : List Built) (h : HostSide) :
    (s.afterAnswer m tw o c tt b h).adopted = s.adopted := rfl
@[simp] theorem State.afterAnswer_faults (s : State) (m : Mgmt) (tw : Twin) (o : List Out) (c tt : Table (BitVec 64)) (b : List Built) (h : HostSide) :
    (s.afterAnswer m tw o c tt b h).faults = s.faults := rfl
@[simp] theorem State.afterAnswer_time (s : State) (m : Mgmt) (tw : Twin) (o : List Out) (c tt : Table (BitVec 64)) (b : List Built) (h : HostSide) :
    (s.afterAnswer m tw o c tt b h).time = s.time := rfl
@[simp] theorem State.afterAnswer_power (s : State) (m : Mgmt) (tw : Twin) (o : List Out) (c tt : Table (BitVec 64)) (b : List Built) (h : HostSide) :
    (s.afterAnswer m tw o c tt b h).power = s.power := rfl
@[simp] theorem State.afterAnswer_boot (s : State) (m : Mgmt) (tw : Twin) (o : List Out) (c tt : Table (BitVec 64)) (b : List Built) (h : HostSide) :
    (s.afterAnswer m tw o c tt b h).boot = s.boot := rfl
@[simp] theorem State.afterAnswer_holds (s : State) (m : Mgmt) (tw : Twin) (o : List Out) (c tt : Table (BitVec 64)) (b : List Built) (h : HostSide) :
    (s.afterAnswer m tw o c tt b h).holds = s.holds := rfl
@[simp] theorem State.afterAnswer_lastReset (s : State) (m : Mgmt) (tw : Twin) (o : List Out) (c tt : Table (BitVec 64)) (b : List Built) (h : HostSide) :
    (s.afterAnswer m tw o c tt b h).lastReset = s.lastReset := rfl
@[simp] theorem State.afterAnswer_resets (s : State) (m : Mgmt) (tw : Twin) (o : List Out) (c tt : Table (BitVec 64)) (b : List Built) (h : HostSide) :
    (s.afterAnswer m tw o c tt b h).resets = s.resets := rfl
@[simp] theorem State.afterAnswer_tap (s : State) (m : Mgmt) (tw : Twin) (o : List Out) (c tt : Table (BitVec 64)) (b : List Built) (h : HostSide) :
    (s.afterAnswer m tw o c tt b h).tap = s.tap := rfl

@[simp] theorem State.storeVal_pending (s : State) (r : Reg) (i e : Nat) (v : Image) :
    (s.storeVal r i e v).pending = s.pending := by unfold State.storeVal; split <;> rfl
@[simp] theorem State.storeVal_out (s : State) (r : Reg) (i e : Nat) (v : Image) :
    (s.storeVal r i e v).out = s.out := by unfold State.storeVal; split <;> rfl
@[simp] theorem State.storeVal_draws (s : State) (r : Reg) (i e : Nat) (v : Image) :
    (s.storeVal r i e v).draws = s.draws := by unfold State.storeVal; split <;> rfl
@[simp] theorem State.storeVal_uptime (s : State) (r : Reg) (i e : Nat) (v : Image) :
    (s.storeVal r i e v).uptime = s.uptime := by unfold State.storeVal; split <;> rfl
@[simp] theorem State.storeVal_straps (s : State) (r : Reg) (i e : Nat) (v : Image) :
    (s.storeVal r i e v).straps = s.straps := by unfold State.storeVal; split <;> rfl
@[simp] theorem State.storeVal_active (s : State) (r : Reg) (i e : Nat) (v : Image) :
    (s.storeVal r i e v).active = s.active := by unfold State.storeVal; split <;> rfl
@[simp] theorem State.storeVal_counters (s : State) (r : Reg) (i e : Nat) (v : Image) :
    (s.storeVal r i e v).counters = s.counters := by unfold State.storeVal; split <;> rfl
@[simp] theorem State.storeVal_totals (s : State) (r : Reg) (i e : Nat) (v : Image) :
    (s.storeVal r i e v).totals = s.totals := by unfold State.storeVal; split <;> rfl
@[simp] theorem State.storeVal_wires (s : State) (r : Reg) (i e : Nat) (v : Image) :
    (s.storeVal r i e v).wires = s.wires := by unfold State.storeVal; split <;> rfl
@[simp] theorem State.storeVal_lanes (s : State) (r : Reg) (i e : Nat) (v : Image) :
    (s.storeVal r i e v).lanes = s.lanes := by unfold State.storeVal; split <;> rfl
@[simp] theorem State.storeVal_links (s : State) (r : Reg) (i e : Nat) (v : Image) :
    (s.storeVal r i e v).links = s.links := by unfold State.storeVal; split <;> rfl
@[simp] theorem State.storeVal_inputs (s : State) (r : Reg) (i e : Nat) (v : Image) :
    (s.storeVal r i e v).inputs = s.inputs := by unfold State.storeVal; split <;> rfl
@[simp] theorem State.storeVal_outputs (s : State) (r : Reg) (i e : Nat) (v : Image) :
    (s.storeVal r i e v).outputs = s.outputs := by unfold State.storeVal; split <;> rfl
@[simp] theorem State.storeVal_inBuckets (s : State) (r : Reg) (i e : Nat) (v : Image) :
    (s.storeVal r i e v).inBuckets = s.inBuckets := by unfold State.storeVal; split <;> rfl
@[simp] theorem State.storeVal_injBuckets (s : State) (r : Reg) (i e : Nat) (v : Image) :
    (s.storeVal r i e v).injBuckets = s.injBuckets := by unfold State.storeVal; split <;> rfl
@[simp] theorem State.storeVal_injLevel (s : State) (r : Reg) (i e : Nat) (v : Image) :
    (s.storeVal r i e v).injLevel = s.injLevel := by unfold State.storeVal; split <;> rfl
@[simp] theorem State.storeVal_rolesOn (s : State) (r : Reg) (i e : Nat) (v : Image) :
    (s.storeVal r i e v).rolesOn = s.rolesOn := by unfold State.storeVal; split <;> rfl
@[simp] theorem State.storeVal_isolated (s : State) (r : Reg) (i e : Nat) (v : Image) :
    (s.storeVal r i e v).isolated = s.isolated := by unfold State.storeVal; split <;> rfl
@[simp] theorem State.storeVal_mgmt (s : State) (r : Reg) (i e : Nat) (v : Image) :
    (s.storeVal r i e v).mgmt = s.mgmt := by unfold State.storeVal; split <;> rfl
@[simp] theorem State.storeVal_ops (s : State) (r : Reg) (i e : Nat) (v : Image) :
    (s.storeVal r i e v).ops = s.ops := by unfold State.storeVal; split <;> rfl
@[simp] theorem State.storeVal_timeQ (s : State) (r : Reg) (i e : Nat) (v : Image) :
    (s.storeVal r i e v).timeQ = s.timeQ := by unfold State.storeVal; split <;> rfl
@[simp] theorem State.storeVal_bypassIn (s : State) (r : Reg) (i e : Nat) (v : Image) :
    (s.storeVal r i e v).bypassIn = s.bypassIn := by unfold State.storeVal; split <;> rfl
@[simp] theorem State.storeVal_built (s : State) (r : Reg) (i e : Nat) (v : Image) :
    (s.storeVal r i e v).built = s.built := by unfold State.storeVal; split <;> rfl
@[simp] theorem State.storeVal_rings (s : State) (r : Reg) (i e : Nat) (v : Image) :
    (s.storeVal r i e v).rings = s.rings := by unfold State.storeVal; split <;> rfl
@[simp] theorem State.storeVal_host (s : State) (r : Reg) (i e : Nat) (v : Image) :
    (s.storeVal r i e v).host = s.host := by unfold State.storeVal; split <;> rfl
@[simp] theorem State.storeVal_counting (s : State) (r : Reg) (i e : Nat) (v : Image) :
    (s.storeVal r i e v).counting = s.counting := by unfold State.storeVal; split <;> rfl
@[simp] theorem State.storeVal_trans (s : State) (r : Reg) (i e : Nat) (v : Image) :
    (s.storeVal r i e v).trans = s.trans := by unfold State.storeVal; split <;> rfl
@[simp] theorem State.storeVal_remote (s : State) (r : Reg) (i e : Nat) (v : Image) :
    (s.storeVal r i e v).remote = s.remote := by unfold State.storeVal; split <;> rfl
@[simp] theorem State.storeVal_colls (s : State) (r : Reg) (i e : Nat) (v : Image) :
    (s.storeVal r i e v).colls = s.colls := by unfold State.storeVal; split <;> rfl
@[simp] theorem State.storeVal_service (s : State) (r : Reg) (i e : Nat) (v : Image) :
    (s.storeVal r i e v).service = s.service := by unfold State.storeVal; split <;> rfl
@[simp] theorem State.storeVal_arrived (s : State) (r : Reg) (i e : Nat) (v : Image) :
    (s.storeVal r i e v).arrived = s.arrived := by unfold State.storeVal; split <;> rfl
@[simp] theorem State.storeVal_ownGone (s : State) (r : Reg) (i e : Nat) (v : Image) :
    (s.storeVal r i e v).ownGone = s.ownGone := by unfold State.storeVal; split <;> rfl
@[simp] theorem State.storeVal_adopted (s : State) (r : Reg) (i e : Nat) (v : Image) :
    (s.storeVal r i e v).adopted = s.adopted := by unfold State.storeVal; split <;> rfl
@[simp] theorem State.storeVal_faults (s : State) (r : Reg) (i e : Nat) (v : Image) :
    (s.storeVal r i e v).faults = s.faults := by unfold State.storeVal; split <;> rfl
@[simp] theorem State.storeVal_twin (s : State) (r : Reg) (i e : Nat) (v : Image) :
    (s.storeVal r i e v).twin = s.twin := by unfold State.storeVal; split <;> rfl
@[simp] theorem State.storeVal_time (s : State) (r : Reg) (i e : Nat) (v : Image) :
    (s.storeVal r i e v).time = s.time := by unfold State.storeVal; split <;> rfl
@[simp] theorem State.storeVal_power (s : State) (r : Reg) (i e : Nat) (v : Image) :
    (s.storeVal r i e v).power = s.power := by unfold State.storeVal; split <;> rfl
@[simp] theorem State.storeVal_boot (s : State) (r : Reg) (i e : Nat) (v : Image) :
    (s.storeVal r i e v).boot = s.boot := by unfold State.storeVal; split <;> rfl
@[simp] theorem State.storeVal_holds (s : State) (r : Reg) (i e : Nat) (v : Image) :
    (s.storeVal r i e v).holds = s.holds := by unfold State.storeVal; split <;> rfl
@[simp] theorem State.storeVal_lastReset (s : State) (r : Reg) (i e : Nat) (v : Image) :
    (s.storeVal r i e v).lastReset = s.lastReset := by unfold State.storeVal; split <;> rfl
@[simp] theorem State.storeVal_resets (s : State) (r : Reg) (i e : Nat) (v : Image) :
    (s.storeVal r i e v).resets = s.resets := by unfold State.storeVal; split <;> rfl
@[simp] theorem State.storeVal_tap (s : State) (r : Reg) (i e : Nat) (v : Image) :
    (s.storeVal r i e v).tap = s.tap := by unfold State.storeVal; split <;> rfl

end Sys2Proof.Machine
end

