-- ==== Sys2Proof/Laws/Table.lean ====
section
/-! SUPPORT. Laws of the sparse tables and of byte memories: read after write, and every operation keeps the canonical form. -/

namespace Sys2Proof.Machine

variable {α : Type}

/-- Weakening the lower bound of rising keys. -/
theorem Table.risingFrom_mono {t : Table α} {a b : Nat} (hab : a ≤ b) (h : Table.risingFrom (some b) t = true) :
    Table.risingFrom (some a) t = true := by
  cases t with
  | nil => rfl
  | cons e t =>
    simp only [Table.risingFrom, Bool.and_eq_true, decide_eq_true_eq] at h ⊢
    exact ⟨by omega, h.2⟩

theorem Table.rising_drop {t : Table α} {a : Nat} (h : Table.risingFrom (some a) t = true) : Table.risingFrom none t = true := by
  cases t with
  | nil => rfl
  | cons e t =>
    simp only [Table.risingFrom, Bool.and_eq_true] at h ⊢
    exact h.2

/-- Below the first key everything reads as the default. -/
theorem Table.get_below (d : α) {t : Table α} {a k : Nat} (h : Table.risingFrom (some a) t = true) (hk : k ≤ a) :
    Table.get d t k = d := by
  induction t generalizing a with
  | nil => rfl
  | cons e t ih =>
    simp only [Table.risingFrom, Bool.and_eq_true, decide_eq_true_eq] at h
    simp only [Table.get]
    rw [if_neg (by omega)]
    exact ih h.2 (by omega)

theorem Table.get_insert_same (d : α) (t : Table α) (k : Nat) (v : α) : Table.get d (t.insert k v) k = v := by
  induction t with
  | nil => simp [Table.insert, Table.get]
  | cons e t ih =>
    obtain ⟨k', v'⟩ := e
    simp only [Table.insert]
    split
    · simp [Table.get]
    · split
      · simp [Table.get]
      · simp only [Table.get]
        rw [if_neg (by omega)]
        exact ih

theorem Table.get_insert_other (d : α) (t : Table α) {k j : Nat} (v : α) (h : j ≠ k) :
    Table.get d (t.insert k v) j = Table.get d t j := by
  induction t with
  | nil => simp [Table.insert, Table.get, Ne.symm h]
  | cons e t ih =>
    obtain ⟨k', v'⟩ := e
    simp only [Table.insert]
    split
    · simp [Table.get, Ne.symm h]
    · split
      · subst_vars; simp [Table.get, Ne.symm h]
      · simp only [Table.get, ih]

theorem Table.get_erase_same (d : α) {t : Table α} {k : Nat} (h : Table.risingFrom none t = true) :
    Table.get d (t.erase k) k = d := by
  induction t with
  | nil => rfl
  | cons e t ih =>
    obtain ⟨k', v'⟩ := e
    simp only [Table.risingFrom] at h
    simp only [Table.erase]
    split
    · subst_vars; exact Table.get_below d h (Nat.le_refl _)
    · simp only [Table.get]
      rw [if_neg (by omega)]
      exact ih (Table.rising_drop h)

theorem Table.get_erase_other (d : α) (t : Table α) {k j : Nat} (h : j ≠ k) :
    Table.get d (t.erase k) j = Table.get d t j := by
  induction t with
  | nil => rfl
  | cons e t ih =>
    obtain ⟨k', v'⟩ := e
    simp only [Table.erase]
    split
    · subst_vars; simp [Table.get, Ne.symm h]
    · simp only [Table.get, ih]

theorem Table.rising_erase {t : Table α} {lo : Option Nat} (k : Nat) (h : Table.risingFrom lo t = true) :
    Table.risingFrom lo (t.erase k) = true := by
  induction t generalizing lo with
  | nil => cases lo <;> rfl
  | cons e t ih =>
    obtain ⟨k', v'⟩ := e
    cases lo with
    | none =>
      simp only [Table.risingFrom] at h
      simp only [Table.erase]
      split
      · exact Table.rising_drop h
      · simpa only [Table.risingFrom] using ih h
    | some a =>
      simp only [Table.risingFrom, Bool.and_eq_true, decide_eq_true_eq] at h
      simp only [Table.erase]
      split
      · exact Table.risingFrom_mono (by omega) h.2
      · simpa only [Table.risingFrom, Bool.and_eq_true, decide_eq_true_eq] using ⟨h.1, ih h.2⟩

theorem Table.rising_insert {t : Table α} {lo : Option Nat} (k : Nat) (v : α) (hlo : ∀ a, lo = some a → a < k)
    (h : Table.risingFrom lo t = true) : Table.risingFrom lo (t.insert k v) = true := by
  induction t generalizing lo with
  | nil => cases lo <;> simp [Table.insert, Table.risingFrom, hlo]
  | cons e t ih =>
    obtain ⟨k', v'⟩ := e
    simp only [Table.insert]
    have hk : Table.risingFrom (some k') t = true := by
      cases lo <;> simp_all [Table.risingFrom]
    have hb : ∀ a, lo = some a → a < k' := by
      intro a ha; subst ha; simp_all [Table.risingFrom]
    have step : ∀ (x : Nat) (w : α) (u : Table α), (∀ a, lo = some a → a < x) → Table.risingFrom (some x) u = true →
        Table.risingFrom lo ((x, w) :: u) = true := by
      intro x w u hx hu
      cases lo with
      | none => simpa [Table.risingFrom] using hu
      | some a => simp [Table.risingFrom, hu, hx a rfl]
    split
    · next hlt => exact step k v _ hlo (by simp [Table.risingFrom, hlt, hk])
    · split
      · next he => subst he; exact step k v _ hlo hk
      · exact step k' v' _ hb (ih (by intro a ha; injection ha with ha; omega) hk)

variable [DecidableEq α]

/-- Read after write: the key written. -/
theorem Table.get_set_same (d : α) {t : Table α} (k : Nat) (v : α) (h : Table.wf d t = true) : Table.get d (Table.set d t k v) k = v := by
  simp only [Table.wf, Bool.and_eq_true] at h
  unfold Table.set
  split
  · next hv => rw [hv]; exact Table.get_erase_same d h.1
  · exact Table.get_insert_same d t k v

/-- Read after write where the keys rise. -/
theorem Table.get_set_rising (d : α) {t : Table α} (k : Nat) (v : α) (h : Table.risingFrom none t = true) :
    Table.get d (Table.set d t k v) k = v := by
  unfold Table.set
  split
  · next hv => rw [hv]; exact Table.get_erase_same d h
  · exact Table.get_insert_same d t k v

/-- Read after write: every other key. -/
theorem Table.get_set_other (d : α) (t : Table α) {k j : Nat} (v : α) (h : j ≠ k) :
    Table.get d (Table.set d t k v) j = Table.get d t j := by
  unfold Table.set
  split
  · exact Table.get_erase_other d t h
  · exact Table.get_insert_other d t v h

/-- Every other key, whatever it reads as where it is not listed. -/
theorem Table.get_set_apart (d d' : α) (t : Table α) {k j : Nat} (v : α) (h : j ≠ k) :
    Table.get d' (Table.set d t k v) j = Table.get d' t j := by
  unfold Table.set
  split
  · exact Table.get_erase_other d' t h
  · exact Table.get_insert_other d' t v h

theorem Table.rising_set (d : α) {t : Table α} (k : Nat) (v : α) (h : Table.risingFrom none t = true) :
    Table.risingFrom none (Table.set d t k v) = true := by
  unfold Table.set
  split
  · exact Table.rising_erase k h
  · exact Table.rising_insert k v (by simp) h

omit [DecidableEq α] in
theorem Table.all_erase (p : Nat × α → Bool) {t : Table α} (k : Nat) (h : t.all p = true) : (t.erase k).all p = true := by
  induction t with
  | nil => rfl
  | cons e t ih =>
    obtain ⟨k', v'⟩ := e
    simp only [List.all_cons, Bool.and_eq_true] at h
    simp only [Table.erase]
    split
    · exact h.2
    · simp only [List.all_cons, Bool.and_eq_true]; exact ⟨h.1, ih h.2⟩

omit [DecidableEq α] in
theorem Table.all_insert (p : Nat × α → Bool) {t : Table α} (k : Nat) (v : α) (hv : p (k, v) = true) (h : t.all p = true) :
    (t.insert k v).all p = true := by
  induction t with
  | nil => simp [Table.insert, hv]
  | cons e t ih =>
    obtain ⟨k', v'⟩ := e
    simp only [List.all_cons, Bool.and_eq_true] at h
    simp only [Table.insert]
    split
    · simp only [List.all_cons, Bool.and_eq_true]; exact ⟨hv, h.1, h.2⟩
    · split
      · simp only [List.all_cons, Bool.and_eq_true]; exact ⟨hv, h.2⟩
      · simp only [List.all_cons, Bool.and_eq_true]; exact ⟨h.1, ih h.2⟩

/-- A write keeps the canonical form. -/
theorem Table.wf_set (d : α) {t : Table α} (k : Nat) (v : α) (h : Table.wf d t = true) : Table.wf d (Table.set d t k v) = true := by
  simp only [Table.wf, Bool.and_eq_true] at h ⊢
  refine ⟨Table.rising_set d k v h.1, ?_⟩
  unfold Table.set
  split
  · exact Table.all_erase _ k h.2
  · next hv => exact Table.all_insert _ k v (by simpa using hv) h.2

theorem Table.wf_upd (d : α) {t : Table α} (k : Nat) (f : α → α) (h : Table.wf d t = true) : Table.wf d (Table.upd d t k f) = true :=
  Table.wf_set d k _ h

theorem Table.get_upd_same (d : α) {t : Table α} (k : Nat) (f : α → α) (h : Table.wf d t = true) :
    Table.get d (Table.upd d t k f) k = f (Table.get d t k) :=
  Table.get_set_same d k _ h

theorem Table.get_upd_other (d : α) (t : Table α) {k j : Nat} (f : α → α) (h : j ≠ k) :
    Table.get d (Table.upd d t k f) j = Table.get d t j :=
  Table.get_set_other d t _ h

theorem Memory.read_write_same {m : Memory} (a : Nat) (b : Byte) (h : m.wf = true) : (m.write a b).read a = b :=
  Table.get_set_same _ a b h

theorem Memory.read_write_other (m : Memory) {a j : Nat} (b : Byte) (h : j ≠ a) : (m.write a b).read j = m.read j :=
  Table.get_set_other _ m b h

theorem Memory.wf_write {m : Memory} (a : Nat) (b : Byte) (h : m.wf = true) : (m.write a b).wf = true :=
  Table.wf_set _ a b h

theorem Memory.wf_writeAll {m : Memory} (a : Nat) (bs : List Byte) (h : m.wf = true) : (m.writeAll a bs).wf = true := by
  induction bs generalizing m a with
  | nil => exact h
  | cons b bs ih => exact ih (a + 1) (Memory.wf_write a b h)

/-- Bytes below or above those written read as before. -/
theorem Memory.read_writeAll_other {m : Memory} (a j : Nat) (bs : List Byte) (h : j < a ∨ a + bs.length ≤ j) :
    (m.writeAll a bs).read j = m.read j := by
  induction bs generalizing m a with
  | nil => rfl
  | cons b bs ih =>
    simp only [List.length_cons] at h
    rw [Memory.writeAll, ih _ (by omega), Memory.read_write_other m b (by omega)]

end Sys2Proof.Machine
end

