-- ==== Sys2Proof/Laws/Read.lean ====
section
/-! SUPPORT. What reading one element answers after an update: the element written, and every other. -/

namespace Sys2Proof.Machine

theorem State.lane_setLane_same (s : State) (p : Nat) (x : Lane) (h : x ≠ {}) : (s.setLane p x).lane p = x := by
  unfold State.setLane State.lane
  simp only [Table.set, if_neg h]
  exact Table.get_insert_same _ _ _ _
@[simp] theorem State.lane_setLane_other (s : State) {p q : Nat} (x : Lane) (h : q ≠ p) : (s.setLane p x).lane q = s.lane q := by
  show Table.get ({} : Lane) (Table.set {} _ _ _) _ = Table.get {} _ _
  exact Table.get_set_other _ _ _ h
theorem State.lane_updLane_same (s : State) (p : Nat) (f : Lane → Lane) (h : (f (s.lane p)) ≠ {}) : (s.updLane p f).lane p = (f (s.lane p)) :=
  State.lane_setLane_same s p _ h
@[simp] theorem State.lane_updLane_other (s : State) {p q : Nat} (f : Lane → Lane) (h : q ≠ p) : (s.updLane p f).lane q = s.lane q := by
  show Table.get ({} : Lane) (Table.set {} _ _ _) _ = Table.get {} _ _
  exact Table.get_set_other _ _ _ h
theorem State.link_setLink_same (s : State) (p : Nat) (x : Link) (h : x ≠ {}) : (s.setLink p x).link p = x := by
  unfold State.setLink State.link
  simp only [Table.set, if_neg h]
  exact Table.get_insert_same _ _ _ _
@[simp] theorem State.link_setLink_other (s : State) {p q : Nat} (x : Link) (h : q ≠ p) : (s.setLink p x).link q = s.link q := by
  show Table.get ({} : Link) (Table.set {} _ _ _) _ = Table.get {} _ _
  exact Table.get_set_other _ _ _ h
theorem State.link_updLink_same (s : State) (p : Nat) (f : Link → Link) (h : (f (s.link p)) ≠ {}) : (s.updLink p f).link p = (f (s.link p)) :=
  State.link_setLink_same s p _ h
@[simp] theorem State.link_updLink_other (s : State) {p q : Nat} (f : Link → Link) (h : q ≠ p) : (s.updLink p f).link q = s.link q := by
  show Table.get ({} : Link) (Table.set {} _ _ _) _ = Table.get {} _ _
  exact Table.get_set_other _ _ _ h
theorem State.input_setInput_same (s : State) (p : Nat) (x : InBuf) (h : x ≠ {}) : (s.setInput p x).input p = x := by
  unfold State.setInput State.input
  simp only [Table.set, if_neg h]
  exact Table.get_insert_same _ _ _ _
@[simp] theorem State.input_setInput_other (s : State) {p q : Nat} (x : InBuf) (h : q ≠ p) : (s.setInput p x).input q = s.input q := by
  show Table.get ({} : InBuf) (Table.set {} _ _ _) _ = Table.get {} _ _
  exact Table.get_set_other _ _ _ h
theorem State.input_updInput_same (s : State) (p : Nat) (f : InBuf → InBuf) (h : (f (s.input p)) ≠ {}) : (s.updInput p f).input p = (f (s.input p)) :=
  State.input_setInput_same s p _ h
@[simp] theorem State.input_updInput_other (s : State) {p q : Nat} (f : InBuf → InBuf) (h : q ≠ p) : (s.updInput p f).input q = s.input q := by
  show Table.get ({} : InBuf) (Table.set {} _ _ _) _ = Table.get {} _ _
  exact Table.get_set_other _ _ _ h
theorem State.output_setOutput_same (s : State) (p : Nat) (x : Output) (h : x ≠ {}) : (s.setOutput p x).output p = x := by
  unfold State.setOutput State.output
  simp only [Table.set, if_neg h]
  exact Table.get_insert_same _ _ _ _
@[simp] theorem State.output_setOutput_other (s : State) {p q : Nat} (x : Output) (h : q ≠ p) : (s.setOutput p x).output q = s.output q := by
  show Table.get ({} : Output) (Table.set {} _ _ _) _ = Table.get {} _ _
  exact Table.get_set_other _ _ _ h
theorem State.output_updOutput_same (s : State) (p : Nat) (f : Output → Output) (h : (f (s.output p)) ≠ {}) : (s.updOutput p f).output p = (f (s.output p)) :=
  State.output_setOutput_same s p _ h
@[simp] theorem State.output_updOutput_other (s : State) {p q : Nat} (f : Output → Output) (h : q ≠ p) : (s.updOutput p f).output q = s.output q := by
  show Table.get ({} : Output) (Table.set {} _ _ _) _ = Table.get {} _ _
  exact Table.get_set_other _ _ _ h
theorem State.hport_setHport_same (s : State) (p : Nat) (x : HPort) (h : x ≠ {}) : (s.setHport p x).hport p = x := by
  unfold State.setHport State.hport
  simp only [Table.set, if_neg h]
  exact Table.get_insert_same _ _ _ _
@[simp] theorem State.hport_setHport_other (s : State) {p q : Nat} (x : HPort) (h : q ≠ p) : (s.setHport p x).hport q = s.hport q := by
  show Table.get ({} : HPort) (Table.set {} _ _ _) _ = Table.get {} _ _
  exact Table.get_set_other _ _ _ h

theorem State.op_opSet_same (s : State) (k p st : Nat) (h : st ≠ 0) : (s.opSet k p st).op k p = { s.op k p with st := st } := by
  have hne : ∀ o : OpSt, ({ o with st := st } : OpSt) ≠ {} := fun o e => h (congrArg OpSt.st e)
  unfold State.opSet State.op
  simp only [Table.upd, Table.set, if_neg (hne _)]
  exact Table.get_insert_same _ _ _ _

/-- An operation that ends is no longer active. -/
theorem State.opActive_opEnd (s : State) (k p f : Nat) : (s.opEnd k p f).opActive k p = false := by
  unfold State.opEnd
  split
  · next h =>
    have hg : ∀ v : OpSt, v.st ≠ 0 → Table.get {} (Table.set {} s.ops (64 * k + p) v) (64 * k + p) = v := by
      intro v hv
      have hne : v ≠ {} := fun e => hv (congrArg OpSt.st e)
      rw [Table.set, if_neg hne]; exact Table.get_insert_same _ _ _ _
    unfold State.opActive State.op Table.upd
    dsimp only
    split
    · rw [hg _ (by simp)]; rfl
    · rw [hg _ (by simp)]; rfl
  · next h => simpa using h

@[simp] theorem State.lane_setReg (s : State) (r : Reg) (i e : Nat) (v : Image) (ia : Nat) : (s.setReg r i e v).lane ia = s.lane ia := rfl
@[simp] theorem State.link_setReg (s : State) (r : Reg) (i e : Nat) (v : Image) (ia : Nat) : (s.setReg r i e v).link ia = s.link ia := rfl
@[simp] theorem State.input_setReg (s : State) (r : Reg) (i e : Nat) (v : Image) (ia : Nat) : (s.setReg r i e v).input ia = s.input ia := rfl
@[simp] theorem State.output_setReg (s : State) (r : Reg) (i e : Nat) (v : Image) (ia : Nat) : (s.setReg r i e v).output ia = s.output ia := rfl
@[simp] theorem State.hport_setReg (s : State) (r : Reg) (i e : Nat) (v : Image) (ia : Nat) : (s.setReg r i e v).hport ia = s.hport ia := rfl
@[simp] theorem State.op_setReg (s : State) (r : Reg) (i e : Nat) (v : Image) (ia ib : Nat) : (s.setReg r i e v).op ia ib = s.op ia ib := rfl
@[simp] theorem State.opActive_setReg (s : State) (r : Reg) (i e : Nat) (v : Image) (ia ib : Nat) : (s.setReg r i e v).opActive ia ib = s.opActive ia ib := rfl
@[simp] theorem State.eff_setReg (s : State) (r : Reg) (i e : Nat) (v : Image) (ra : Reg) (ia ib : Nat) : (s.setReg r i e v).eff ra ia ib = s.eff ra ia ib := rfl
@[simp] theorem State.sess_setReg (s : State) (r : Reg) (i e : Nat) (v : Image) (ia : Nat) : (s.setReg r i e v).sess ia = s.sess ia := rfl
@[simp] theorem State.lane_commit (s : State) (r : Reg) (i e : Nat) (ia : Nat) : (s.commit r i e).lane ia = s.lane ia := rfl
@[simp] theorem State.link_commit (s : State) (r : Reg) (i e : Nat) (ia : Nat) : (s.commit r i e).link ia = s.link ia := rfl
@[simp] theorem State.input_commit (s : State) (r : Reg) (i e : Nat) (ia : Nat) : (s.commit r i e).input ia = s.input ia := rfl
@[simp] theorem State.output_commit (s : State) (r : Reg) (i e : Nat) (ia : Nat) : (s.commit r i e).output ia = s.output ia := rfl
@[simp] theorem State.hport_commit (s : State) (r : Reg) (i e : Nat) (ia : Nat) : (s.commit r i e).hport ia = s.hport ia := rfl
@[simp] theorem State.op_commit (s : State) (r : Reg) (i e : Nat) (ia ib : Nat) : (s.commit r i e).op ia ib = s.op ia ib := rfl
@[simp] theorem State.opActive_commit (s : State) (r : Reg) (i e : Nat) (ia ib : Nat) : (s.commit r i e).opActive ia ib = s.opActive ia ib := rfl
@[simp] theorem State.reg_commit (s : State) (r : Reg) (i e : Nat) (ra : Reg) (ia ib : Nat) : (s.commit r i e).reg ra ia ib = s.reg ra ia ib := rfl
@[simp] theorem State.sess_commit (s : State) (r : Reg) (i e : Nat) (ia : Nat) : (s.commit r i e).sess ia = s.sess ia := rfl
@[simp] theorem State.lane_count (s : State) (n k : Nat) (ia : Nat) : (s.count n k).lane ia = s.lane ia := rfl
@[simp] theorem State.link_count (s : State) (n k : Nat) (ia : Nat) : (s.count n k).link ia = s.link ia := rfl
@[simp] theorem State.input_count (s : State) (n k : Nat) (ia : Nat) : (s.count n k).input ia = s.input ia := rfl
@[simp] theorem State.output_count (s : State) (n k : Nat) (ia : Nat) : (s.count n k).output ia = s.output ia := rfl
@[simp] theorem State.hport_count (s : State) (n k : Nat) (ia : Nat) : (s.count n k).hport ia = s.hport ia := rfl
@[simp] theorem State.op_count (s : State) (n k : Nat) (ia ib : Nat) : (s.count n k).op ia ib = s.op ia ib := rfl
@[simp] theorem State.opActive_count (s : State) (n k : Nat) (ia ib : Nat) : (s.count n k).opActive ia ib = s.opActive ia ib := rfl
@[simp] theorem State.reg_count (s : State) (n k : Nat) (ra : Reg) (ia ib : Nat) : (s.count n k).reg ra ia ib = s.reg ra ia ib := rfl
@[simp] theorem State.eff_count (s : State) (n k : Nat) (ra : Reg) (ia ib : Nat) : (s.count n k).eff ra ia ib = s.eff ra ia ib := rfl
@[simp] theorem State.sess_count (s : State) (n k : Nat) (ia : Nat) : (s.count n k).sess ia = s.sess ia := rfl
@[simp] theorem State.lane_countPort (s : State) (ca ce ck : Nat) (ia : Nat) : (s.countPort ca ce ck).lane ia = s.lane ia := rfl
@[simp] theorem State.link_countPort (s : State) (ca ce ck : Nat) (ia : Nat) : (s.countPort ca ce ck).link ia = s.link ia := rfl
@[simp] theorem State.input_countPort (s : State) (ca ce ck : Nat) (ia : Nat) : (s.countPort ca ce ck).input ia = s.input ia := rfl
@[simp] theorem State.output_countPort (s : State) (ca ce ck : Nat) (ia : Nat) : (s.countPort ca ce ck).output ia = s.output ia := rfl
@[simp] theorem State.hport_countPort (s : State) (ca ce ck : Nat) (ia : Nat) : (s.countPort ca ce ck).hport ia = s.hport ia := rfl
@[simp] theorem State.op_countPort (s : State) (ca ce ck : Nat) (ia ib : Nat) : (s.countPort ca ce ck).op ia ib = s.op ia ib := rfl
@[simp] theorem State.opActive_countPort (s : State) (ca ce ck : Nat) (ia ib : Nat) : (s.countPort ca ce ck).opActive ia ib = s.opActive ia ib := rfl
@[simp] theorem State.reg_countPort (s : State) (ca ce ck : Nat) (ra : Reg) (ia ib : Nat) : (s.countPort ca ce ck).reg ra ia ib = s.reg ra ia ib := rfl
@[simp] theorem State.eff_countPort (s : State) (ca ce ck : Nat) (ra : Reg) (ia ib : Nat) : (s.countPort ca ce ck).eff ra ia ib = s.eff ra ia ib := rfl
@[simp] theorem State.sess_countPort (s : State) (ca ce ck : Nat) (ia : Nat) : (s.countPort ca ce ck).sess ia = s.sess ia := rfl
@[simp] theorem State.lane_countIn (s : State) (ca ce ck : Nat) (ia : Nat) : (s.countIn ca ce ck).lane ia = s.lane ia := rfl
@[simp] theorem State.link_countIn (s : State) (ca ce ck : Nat) (ia : Nat) : (s.countIn ca ce ck).link ia = s.link ia := rfl
@[simp] theorem State.input_countIn (s : State) (ca ce ck : Nat) (ia : Nat) : (s.countIn ca ce ck).input ia = s.input ia := rfl
@[simp] theorem State.output_countIn (s : State) (ca ce ck : Nat) (ia : Nat) : (s.countIn ca ce ck).output ia = s.output ia := rfl
@[simp] theorem State.hport_countIn (s : State) (ca ce ck : Nat) (ia : Nat) : (s.countIn ca ce ck).hport ia = s.hport ia := rfl
@[simp] theorem State.op_countIn (s : State) (ca ce ck : Nat) (ia ib : Nat) : (s.countIn ca ce ck).op ia ib = s.op ia ib := rfl
@[simp] theorem State.opActive_countIn (s : State) (ca ce ck : Nat) (ia ib : Nat) : (s.countIn ca ce ck).opActive ia ib = s.opActive ia ib := rfl
@[simp] theorem State.reg_countIn (s : State) (ca ce ck : Nat) (ra : Reg) (ia ib : Nat) : (s.countIn ca ce ck).reg ra ia ib = s.reg ra ia ib := rfl
@[simp] theorem State.eff_countIn (s : State) (ca ce ck : Nat) (ra : Reg) (ia ib : Nat) : (s.countIn ca ce ck).eff ra ia ib = s.eff ra ia ib := rfl
@[simp] theorem State.sess_countIn (s : State) (ca ce ck : Nat) (ia : Nat) : (s.countIn ca ce ck).sess ia = s.sess ia := rfl
@[simp] theorem State.lane_countXbr (s : State) (ca ce ck : Nat) (ia : Nat) : (s.countXbr ca ce ck).lane ia = s.lane ia := rfl
@[simp] theorem State.link_countXbr (s : State) (ca ce ck : Nat) (ia : Nat) : (s.countXbr ca ce ck).link ia = s.link ia := rfl
@[simp] theorem State.input_countXbr (s : State) (ca ce ck : Nat) (ia : Nat) : (s.countXbr ca ce ck).input ia = s.input ia := rfl
@[simp] theorem State.output_countXbr (s : State) (ca ce ck : Nat) (ia : Nat) : (s.countXbr ca ce ck).output ia = s.output ia := rfl
@[simp] theorem State.hport_countXbr (s : State) (ca ce ck : Nat) (ia : Nat) : (s.countXbr ca ce ck).hport ia = s.hport ia := rfl
@[simp] theorem State.op_countXbr (s : State) (ca ce ck : Nat) (ia ib : Nat) : (s.countXbr ca ce ck).op ia ib = s.op ia ib := rfl
@[simp] theorem State.opActive_countXbr (s : State) (ca ce ck : Nat) (ia ib : Nat) : (s.countXbr ca ce ck).opActive ia ib = s.opActive ia ib := rfl
@[simp] theorem State.reg_countXbr (s : State) (ca ce ck : Nat) (ra : Reg) (ia ib : Nat) : (s.countXbr ca ce ck).reg ra ia ib = s.reg ra ia ib := rfl
@[simp] theorem State.eff_countXbr (s : State) (ca ce ck : Nat) (ra : Reg) (ia ib : Nat) : (s.countXbr ca ce ck).eff ra ia ib = s.eff ra ia ib := rfl
@[simp] theorem State.sess_countXbr (s : State) (ca ce ck : Nat) (ia : Nat) : (s.countXbr ca ce ck).sess ia = s.sess ia := rfl
@[simp] theorem State.lane_countOut (s : State) (ca ce ck : Nat) (ia : Nat) : (s.countOut ca ce ck).lane ia = s.lane ia := rfl
@[simp] theorem State.link_countOut (s : State) (ca ce ck : Nat) (ia : Nat) : (s.countOut ca ce ck).link ia = s.link ia := rfl
@[simp] theorem State.input_countOut (s : State) (ca ce ck : Nat) (ia : Nat) : (s.countOut ca ce ck).input ia = s.input ia := rfl
@[simp] theorem State.output_countOut (s : State) (ca ce ck : Nat) (ia : Nat) : (s.countOut ca ce ck).output ia = s.output ia := rfl
@[simp] theorem State.hport_countOut (s : State) (ca ce ck : Nat) (ia : Nat) : (s.countOut ca ce ck).hport ia = s.hport ia := rfl
@[simp] theorem State.op_countOut (s : State) (ca ce ck : Nat) (ia ib : Nat) : (s.countOut ca ce ck).op ia ib = s.op ia ib := rfl
@[simp] theorem State.opActive_countOut (s : State) (ca ce ck : Nat) (ia ib : Nat) : (s.countOut ca ce ck).opActive ia ib = s.opActive ia ib := rfl
@[simp] theorem State.reg_countOut (s : State) (ca ce ck : Nat) (ra : Reg) (ia ib : Nat) : (s.countOut ca ce ck).reg ra ia ib = s.reg ra ia ib := rfl
@[simp] theorem State.eff_countOut (s : State) (ca ce ck : Nat) (ra : Reg) (ia ib : Nat) : (s.countOut ca ce ck).eff ra ia ib = s.eff ra ia ib := rfl
@[simp] theorem State.sess_countOut (s : State) (ca ce ck : Nat) (ia : Nat) : (s.countOut ca ce ck).sess ia = s.sess ia := rfl
@[simp] theorem State.lane_countRing (s : State) (ca ce ck : Nat) (ia : Nat) : (s.countRing ca ce ck).lane ia = s.lane ia := rfl
@[simp] theorem State.link_countRing (s : State) (ca ce ck : Nat) (ia : Nat) : (s.countRing ca ce ck).link ia = s.link ia := rfl
@[simp] theorem State.input_countRing (s : State) (ca ce ck : Nat) (ia : Nat) : (s.countRing ca ce ck).input ia = s.input ia := rfl
@[simp] theorem State.output_countRing (s : State) (ca ce ck : Nat) (ia : Nat) : (s.countRing ca ce ck).output ia = s.output ia := rfl
@[simp] theorem State.hport_countRing (s : State) (ca ce ck : Nat) (ia : Nat) : (s.countRing ca ce ck).hport ia = s.hport ia := rfl
@[simp] theorem State.op_countRing (s : State) (ca ce ck : Nat) (ia ib : Nat) : (s.countRing ca ce ck).op ia ib = s.op ia ib := rfl
@[simp] theorem State.opActive_countRing (s : State) (ca ce ck : Nat) (ia ib : Nat) : (s.countRing ca ce ck).opActive ia ib = s.opActive ia ib := rfl
@[simp] theorem State.reg_countRing (s : State) (ca ce ck : Nat) (ra : Reg) (ia ib : Nat) : (s.countRing ca ce ck).reg ra ia ib = s.reg ra ia ib := rfl
@[simp] theorem State.eff_countRing (s : State) (ca ce ck : Nat) (ra : Reg) (ia ib : Nat) : (s.countRing ca ce ck).eff ra ia ib = s.eff ra ia ib := rfl
@[simp] theorem State.sess_countRing (s : State) (ca ce ck : Nat) (ia : Nat) : (s.countRing ca ce ck).sess ia = s.sess ia := rfl
@[simp] theorem State.lane_countHost (s : State) (ca ce ck : Nat) (ia : Nat) : (s.countHost ca ce ck).lane ia = s.lane ia := rfl
@[simp] theorem State.link_countHost (s : State) (ca ce ck : Nat) (ia : Nat) : (s.countHost ca ce ck).link ia = s.link ia := rfl
@[simp] theorem State.input_countHost (s : State) (ca ce ck : Nat) (ia : Nat) : (s.countHost ca ce ck).input ia = s.input ia := rfl
@[simp] theorem State.output_countHost (s : State) (ca ce ck : Nat) (ia : Nat) : (s.countHost ca ce ck).output ia = s.output ia := rfl
@[simp] theorem State.hport_countHost (s : State) (ca ce ck : Nat) (ia : Nat) : (s.countHost ca ce ck).hport ia = s.hport ia := rfl
@[simp] theorem State.op_countHost (s : State) (ca ce ck : Nat) (ia ib : Nat) : (s.countHost ca ce ck).op ia ib = s.op ia ib := rfl
@[simp] theorem State.opActive_countHost (s : State) (ca ce ck : Nat) (ia ib : Nat) : (s.countHost ca ce ck).opActive ia ib = s.opActive ia ib := rfl
@[simp] theorem State.reg_countHost (s : State) (ca ce ck : Nat) (ra : Reg) (ia ib : Nat) : (s.countHost ca ce ck).reg ra ia ib = s.reg ra ia ib := rfl
@[simp] theorem State.eff_countHost (s : State) (ca ce ck : Nat) (ra : Reg) (ia ib : Nat) : (s.countHost ca ce ck).eff ra ia ib = s.eff ra ia ib := rfl
@[simp] theorem State.sess_countHost (s : State) (ca ce ck : Nat) (ia : Nat) : (s.countHost ca ce ck).sess ia = s.sess ia := rfl
@[simp] theorem State.lane_countSlice (s : State) (ca ce ck : Nat) (ia : Nat) : (s.countSlice ca ce ck).lane ia = s.lane ia := rfl
@[simp] theorem State.link_countSlice (s : State) (ca ce ck : Nat) (ia : Nat) : (s.countSlice ca ce ck).link ia = s.link ia := rfl
@[simp] theorem State.input_countSlice (s : State) (ca ce ck : Nat) (ia : Nat) : (s.countSlice ca ce ck).input ia = s.input ia := rfl
@[simp] theorem State.output_countSlice (s : State) (ca ce ck : Nat) (ia : Nat) : (s.countSlice ca ce ck).output ia = s.output ia := rfl
@[simp] theorem State.hport_countSlice (s : State) (ca ce ck : Nat) (ia : Nat) : (s.countSlice ca ce ck).hport ia = s.hport ia := rfl
@[simp] theorem State.op_countSlice (s : State) (ca ce ck : Nat) (ia ib : Nat) : (s.countSlice ca ce ck).op ia ib = s.op ia ib := rfl
@[simp] theorem State.opActive_countSlice (s : State) (ca ce ck : Nat) (ia ib : Nat) : (s.countSlice ca ce ck).opActive ia ib = s.opActive ia ib := rfl
@[simp] theorem State.reg_countSlice (s : State) (ca ce ck : Nat) (ra : Reg) (ia ib : Nat) : (s.countSlice ca ce ck).reg ra ia ib = s.reg ra ia ib := rfl
@[simp] theorem State.eff_countSlice (s : State) (ca ce ck : Nat) (ra : Reg) (ia ib : Nat) : (s.countSlice ca ce ck).eff ra ia ib = s.eff ra ia ib := rfl
@[simp] theorem State.sess_countSlice (s : State) (ca ce ck : Nat) (ia : Nat) : (s.countSlice ca ce ck).sess ia = s.sess ia := rfl
@[simp] theorem State.lane_countFault (s : State) (ca ce ck : Nat) (ia : Nat) : (s.countFault ca ce ck).lane ia = s.lane ia := rfl
@[simp] theorem State.link_countFault (s : State) (ca ce ck : Nat) (ia : Nat) : (s.countFault ca ce ck).link ia = s.link ia := rfl
@[simp] theorem State.input_countFault (s : State) (ca ce ck : Nat) (ia : Nat) : (s.countFault ca ce ck).input ia = s.input ia := rfl
@[simp] theorem State.output_countFault (s : State) (ca ce ck : Nat) (ia : Nat) : (s.countFault ca ce ck).output ia = s.output ia := rfl
@[simp] theorem State.hport_countFault (s : State) (ca ce ck : Nat) (ia : Nat) : (s.countFault ca ce ck).hport ia = s.hport ia := rfl
@[simp] theorem State.op_countFault (s : State) (ca ce ck : Nat) (ia ib : Nat) : (s.countFault ca ce ck).op ia ib = s.op ia ib := rfl
@[simp] theorem State.opActive_countFault (s : State) (ca ce ck : Nat) (ia ib : Nat) : (s.countFault ca ce ck).opActive ia ib = s.opActive ia ib := rfl
@[simp] theorem State.reg_countFault (s : State) (ca ce ck : Nat) (ra : Reg) (ia ib : Nat) : (s.countFault ca ce ck).reg ra ia ib = s.reg ra ia ib := rfl
@[simp] theorem State.eff_countFault (s : State) (ca ce ck : Nat) (ra : Reg) (ia ib : Nat) : (s.countFault ca ce ck).eff ra ia ib = s.eff ra ia ib := rfl
@[simp] theorem State.sess_countFault (s : State) (ca ce ck : Nat) (ia : Nat) : (s.countFault ca ce ck).sess ia = s.sess ia := rfl
@[simp] theorem State.lane_countDev (s : State) (e k : Nat) (ia : Nat) : (s.countDev e k).lane ia = s.lane ia := rfl
@[simp] theorem State.link_countDev (s : State) (e k : Nat) (ia : Nat) : (s.countDev e k).link ia = s.link ia := rfl
@[simp] theorem State.input_countDev (s : State) (e k : Nat) (ia : Nat) : (s.countDev e k).input ia = s.input ia := rfl
@[simp] theorem State.output_countDev (s : State) (e k : Nat) (ia : Nat) : (s.countDev e k).output ia = s.output ia := rfl
@[simp] theorem State.hport_countDev (s : State) (e k : Nat) (ia : Nat) : (s.countDev e k).hport ia = s.hport ia := rfl
@[simp] theorem State.op_countDev (s : State) (e k : Nat) (ia ib : Nat) : (s.countDev e k).op ia ib = s.op ia ib := rfl
@[simp] theorem State.opActive_countDev (s : State) (e k : Nat) (ia ib : Nat) : (s.countDev e k).opActive ia ib = s.opActive ia ib := rfl
@[simp] theorem State.reg_countDev (s : State) (e k : Nat) (ra : Reg) (ia ib : Nat) : (s.countDev e k).reg ra ia ib = s.reg ra ia ib := rfl
@[simp] theorem State.eff_countDev (s : State) (e k : Nat) (ra : Reg) (ia ib : Nat) : (s.countDev e k).eff ra ia ib = s.eff ra ia ib := rfl
@[simp] theorem State.sess_countDev (s : State) (e k : Nat) (ia : Nat) : (s.countDev e k).sess ia = s.sess ia := rfl
@[simp] theorem State.lane_raise (s : State) (n : Nat) (ia : Nat) : (s.raise n).lane ia = s.lane ia := rfl
@[simp] theorem State.link_raise (s : State) (n : Nat) (ia : Nat) : (s.raise n).link ia = s.link ia := rfl
@[simp] theorem State.input_raise (s : State) (n : Nat) (ia : Nat) : (s.raise n).input ia = s.input ia := rfl
@[simp] theorem State.output_raise (s : State) (n : Nat) (ia : Nat) : (s.raise n).output ia = s.output ia := rfl
@[simp] theorem State.hport_raise (s : State) (n : Nat) (ia : Nat) : (s.raise n).hport ia = s.hport ia := rfl
@[simp] theorem State.op_raise (s : State) (n : Nat) (ia ib : Nat) : (s.raise n).op ia ib = s.op ia ib := rfl
@[simp] theorem State.opActive_raise (s : State) (n : Nat) (ia ib : Nat) : (s.raise n).opActive ia ib = s.opActive ia ib := rfl
@[simp] theorem State.reg_raise (s : State) (n : Nat) (ra : Reg) (ia ib : Nat) : (s.raise n).reg ra ia ib = s.reg ra ia ib := rfl
@[simp] theorem State.eff_raise (s : State) (n : Nat) (ra : Reg) (ia ib : Nat) : (s.raise n).eff ra ia ib = s.eff ra ia ib := rfl
@[simp] theorem State.sess_raise (s : State) (n : Nat) (ia : Nat) : (s.raise n).sess ia = s.sess ia := rfl
@[simp] theorem State.lane_emit (s : State) (o : Out) (ia : Nat) : (s.emit o).lane ia = s.lane ia := rfl
@[simp] theorem State.link_emit (s : State) (o : Out) (ia : Nat) : (s.emit o).link ia = s.link ia := rfl
@[simp] theorem State.input_emit (s : State) (o : Out) (ia : Nat) : (s.emit o).input ia = s.input ia := rfl
@[simp] theorem State.output_emit (s : State) (o : Out) (ia : Nat) : (s.emit o).output ia = s.output ia := rfl
@[simp] theorem State.hport_emit (s : State) (o : Out) (ia : Nat) : (s.emit o).hport ia = s.hport ia := rfl
@[simp] theorem State.op_emit (s : State) (o : Out) (ia ib : Nat) : (s.emit o).op ia ib = s.op ia ib := rfl
@[simp] theorem State.opActive_emit (s : State) (o : Out) (ia ib : Nat) : (s.emit o).opActive ia ib = s.opActive ia ib := rfl
@[simp] theorem State.reg_emit (s : State) (o : Out) (ra : Reg) (ia ib : Nat) : (s.emit o).reg ra ia ib = s.reg ra ia ib := rfl
@[simp] theorem State.eff_emit (s : State) (o : Out) (ra : Reg) (ia ib : Nat) : (s.emit o).eff ra ia ib = s.eff ra ia ib := rfl
@[simp] theorem State.sess_emit (s : State) (o : Out) (ia : Nat) : (s.emit o).sess ia = s.sess ia := rfl
@[simp] theorem State.lane_drawn (s : State) (ia : Nat) : s.drawn.lane ia = s.lane ia := rfl
@[simp] theorem State.link_drawn (s : State) (ia : Nat) : s.drawn.link ia = s.link ia := rfl
@[simp] theorem State.input_drawn (s : State) (ia : Nat) : s.drawn.input ia = s.input ia := rfl
@[simp] theorem State.output_drawn (s : State) (ia : Nat) : s.drawn.output ia = s.output ia := rfl
@[simp] theorem State.hport_drawn (s : State) (ia : Nat) : s.drawn.hport ia = s.hport ia := rfl
@[simp] theorem State.op_drawn (s : State) (ia ib : Nat) : s.drawn.op ia ib = s.op ia ib := rfl
@[simp] theorem State.opActive_drawn (s : State) (ia ib : Nat) : s.drawn.opActive ia ib = s.opActive ia ib := rfl
@[simp] theorem State.reg_drawn (s : State) (ra : Reg) (ia ib : Nat) : s.drawn.reg ra ia ib = s.reg ra ia ib := rfl
@[simp] theorem State.eff_drawn (s : State) (ra : Reg) (ia ib : Nat) : s.drawn.eff ra ia ib = s.eff ra ia ib := rfl
@[simp] theorem State.sess_drawn (s : State) (ia : Nat) : s.drawn.sess ia = s.sess ia := rfl
@[simp] theorem State.lane_build (s : State) (st : Nat) (h : Header) (p : List Byte) (ia : Nat) : (s.build st h p).lane ia = s.lane ia := rfl
@[simp] theorem State.link_build (s : State) (st : Nat) (h : Header) (p : List Byte) (ia : Nat) : (s.build st h p).link ia = s.link ia := rfl
@[simp] theorem State.input_build (s : State) (st : Nat) (h : Header) (p : List Byte) (ia : Nat) : (s.build st h p).input ia = s.input ia := rfl
@[simp] theorem State.output_build (s : State) (st : Nat) (h : Header) (p : List Byte) (ia : Nat) : (s.build st h p).output ia = s.output ia := rfl
@[simp] theorem State.hport_build (s : State) (st : Nat) (h : Header) (p : List Byte) (ia : Nat) : (s.build st h p).hport ia = s.hport ia := rfl
@[simp] theorem State.op_build (s : State) (st : Nat) (h : Header) (p : List Byte) (ia ib : Nat) : (s.build st h p).op ia ib = s.op ia ib := rfl
@[simp] theorem State.opActive_build (s : State) (st : Nat) (h : Header) (p : List Byte) (ia ib : Nat) : (s.build st h p).opActive ia ib = s.opActive ia ib := rfl
@[simp] theorem State.reg_build (s : State) (st : Nat) (h : Header) (p : List Byte) (ra : Reg) (ia ib : Nat) : (s.build st h p).reg ra ia ib = s.reg ra ia ib := rfl
@[simp] theorem State.eff_build (s : State) (st : Nat) (h : Header) (p : List Byte) (ra : Reg) (ia ib : Nat) : (s.build st h p).eff ra ia ib = s.eff ra ia ib := rfl
@[simp] theorem State.sess_build (s : State) (st : Nat) (h : Header) (p : List Byte) (ia : Nat) : (s.build st h p).sess ia = s.sess ia := rfl
@[simp] theorem State.link_setLane (s : State) (p : Nat) (l : Lane) (ia : Nat) : (s.setLane p l).link ia = s.link ia := rfl
@[simp] theorem State.input_setLane (s : State) (p : Nat) (l : Lane) (ia : Nat) : (s.setLane p l).input ia = s.input ia := rfl
@[simp] theorem State.output_setLane (s : State) (p : Nat) (l : Lane) (ia : Nat) : (s.setLane p l).output ia = s.output ia := rfl
@[simp] theorem State.hport_setLane (s : State) (p : Nat) (l : Lane) (ia : Nat) : (s.setLane p l).hport ia = s.hport ia := rfl
@[simp] theorem State.op_setLane (s : State) (p : Nat) (l : Lane) (ia ib : Nat) : (s.setLane p l).op ia ib = s.op ia ib := rfl
@[simp] theorem State.opActive_setLane (s : State) (p : Nat) (l : Lane) (ia ib : Nat) : (s.setLane p l).opActive ia ib = s.opActive ia ib := rfl
@[simp] theorem State.reg_setLane (s : State) (p : Nat) (l : Lane) (ra : Reg) (ia ib : Nat) : (s.setLane p l).reg ra ia ib = s.reg ra ia ib := rfl
@[simp] theorem State.eff_setLane (s : State) (p : Nat) (l : Lane) (ra : Reg) (ia ib : Nat) : (s.setLane p l).eff ra ia ib = s.eff ra ia ib := rfl
@[simp] theorem State.sess_setLane (s : State) (p : Nat) (l : Lane) (ia : Nat) : (s.setLane p l).sess ia = s.sess ia := rfl
@[simp] theorem State.link_updLane (s : State) (p : Nat) (f : Lane → Lane) (ia : Nat) : (s.updLane p f).link ia = s.link ia := rfl
@[simp] theorem State.input_updLane (s : State) (p : Nat) (f : Lane → Lane) (ia : Nat) : (s.updLane p f).input ia = s.input ia := rfl
@[simp] theorem State.output_updLane (s : State) (p : Nat) (f : Lane → Lane) (ia : Nat) : (s.updLane p f).output ia = s.output ia := rfl
@[simp] theorem State.hport_updLane (s : State) (p : Nat) (f : Lane → Lane) (ia : Nat) : (s.updLane p f).hport ia = s.hport ia := rfl
@[simp] theorem State.op_updLane (s : State) (p : Nat) (f : Lane → Lane) (ia ib : Nat) : (s.updLane p f).op ia ib = s.op ia ib := rfl
@[simp] theorem State.opActive_updLane (s : State) (p : Nat) (f : Lane → Lane) (ia ib : Nat) : (s.updLane p f).opActive ia ib = s.opActive ia ib := rfl
@[simp] theorem State.reg_updLane (s : State) (p : Nat) (f : Lane → Lane) (ra : Reg) (ia ib : Nat) : (s.updLane p f).reg ra ia ib = s.reg ra ia ib := rfl
@[simp] theorem State.eff_updLane (s : State) (p : Nat) (f : Lane → Lane) (ra : Reg) (ia ib : Nat) : (s.updLane p f).eff ra ia ib = s.eff ra ia ib := rfl
@[simp] theorem State.sess_updLane (s : State) (p : Nat) (f : Lane → Lane) (ia : Nat) : (s.updLane p f).sess ia = s.sess ia := rfl
@[simp] theorem State.lane_setLink (s : State) (p : Nat) (l : Link) (ia : Nat) : (s.setLink p l).lane ia = s.lane ia := rfl
@[simp] theorem State.input_setLink (s : State) (p : Nat) (l : Link) (ia : Nat) : (s.setLink p l).input ia = s.input ia := rfl
@[simp] theorem State.output_setLink (s : State) (p : Nat) (l : Link) (ia : Nat) : (s.setLink p l).output ia = s.output ia := rfl
@[simp] theorem State.hport_setLink (s : State) (p : Nat) (l : Link) (ia : Nat) : (s.setLink p l).hport ia = s.hport ia := rfl
@[simp] theorem State.op_setLink (s : State) (p : Nat) (l : Link) (ia ib : Nat) : (s.setLink p l).op ia ib = s.op ia ib := rfl
@[simp] theorem State.opActive_setLink (s : State) (p : Nat) (l : Link) (ia ib : Nat) : (s.setLink p l).opActive ia ib = s.opActive ia ib := rfl
@[simp] theorem State.reg_setLink (s : State) (p : Nat) (l : Link) (ra : Reg) (ia ib : Nat) : (s.setLink p l).reg ra ia ib = s.reg ra ia ib := rfl
@[simp] theorem State.eff_setLink (s : State) (p : Nat) (l : Link) (ra : Reg) (ia ib : Nat) : (s.setLink p l).eff ra ia ib = s.eff ra ia ib := rfl
@[simp] theorem State.sess_setLink (s : State) (p : Nat) (l : Link) (ia : Nat) : (s.setLink p l).sess ia = s.sess ia := rfl
@[simp] theorem State.lane_updLink (s : State) (p : Nat) (f : Link → Link) (ia : Nat) : (s.updLink p f).lane ia = s.lane ia := rfl
@[simp] theorem State.input_updLink (s : State) (p : Nat) (f : Link → Link) (ia : Nat) : (s.updLink p f).input ia = s.input ia := rfl
@[simp] theorem State.output_updLink (s : State) (p : Nat) (f : Link → Link) (ia : Nat) : (s.updLink p f).output ia = s.output ia := rfl
@[simp] theorem State.hport_updLink (s : State) (p : Nat) (f : Link → Link) (ia : Nat) : (s.updLink p f).hport ia = s.hport ia := rfl
@[simp] theorem State.op_updLink (s : State) (p : Nat) (f : Link → Link) (ia ib : Nat) : (s.updLink p f).op ia ib = s.op ia ib := rfl
@[simp] theorem State.opActive_updLink (s : State) (p : Nat) (f : Link → Link) (ia ib : Nat) : (s.updLink p f).opActive ia ib = s.opActive ia ib := rfl
@[simp] theorem State.reg_updLink (s : State) (p : Nat) (f : Link → Link) (ra : Reg) (ia ib : Nat) : (s.updLink p f).reg ra ia ib = s.reg ra ia ib := rfl
@[simp] theorem State.eff_updLink (s : State) (p : Nat) (f : Link → Link) (ra : Reg) (ia ib : Nat) : (s.updLink p f).eff ra ia ib = s.eff ra ia ib := rfl
@[simp] theorem State.sess_updLink (s : State) (p : Nat) (f : Link → Link) (ia : Nat) : (s.updLink p f).sess ia = s.sess ia := rfl
@[simp] theorem State.lane_setInput (s : State) (i : Nat) (b : InBuf) (ia : Nat) : (s.setInput i b).lane ia = s.lane ia := rfl
@[simp] theorem State.link_setInput (s : State) (i : Nat) (b : InBuf) (ia : Nat) : (s.setInput i b).link ia = s.link ia := rfl
@[simp] theorem State.output_setInput (s : State) (i : Nat) (b : InBuf) (ia : Nat) : (s.setInput i b).output ia = s.output ia := rfl
@[simp] theorem State.hport_setInput (s : State) (i : Nat) (b : InBuf) (ia : Nat) : (s.setInput i b).hport ia = s.hport ia := rfl
@[simp] theorem State.op_setInput (s : State) (i : Nat) (b : InBuf) (ia ib : Nat) : (s.setInput i b).op ia ib = s.op ia ib := rfl
@[simp] theorem State.opActive_setInput (s : State) (i : Nat) (b : InBuf) (ia ib : Nat) : (s.setInput i b).opActive ia ib = s.opActive ia ib := rfl
@[simp] theorem State.reg_setInput (s : State) (i : Nat) (b : InBuf) (ra : Reg) (ia ib : Nat) : (s.setInput i b).reg ra ia ib = s.reg ra ia ib := rfl
@[simp] theorem State.eff_setInput (s : State) (i : Nat) (b : InBuf) (ra : Reg) (ia ib : Nat) : (s.setInput i b).eff ra ia ib = s.eff ra ia ib := rfl
@[simp] theorem State.sess_setInput (s : State) (i : Nat) (b : InBuf) (ia : Nat) : (s.setInput i b).sess ia = s.sess ia := rfl
@[simp] theorem State.lane_updInput (s : State) (i : Nat) (f : InBuf → InBuf) (ia : Nat) : (s.updInput i f).lane ia = s.lane ia := rfl
@[simp] theorem State.link_updInput (s : State) (i : Nat) (f : InBuf → InBuf) (ia : Nat) : (s.updInput i f).link ia = s.link ia := rfl
@[simp] theorem State.output_updInput (s : State) (i : Nat) (f : InBuf → InBuf) (ia : Nat) : (s.updInput i f).output ia = s.output ia := rfl
@[simp] theorem State.hport_updInput (s : State) (i : Nat) (f : InBuf → InBuf) (ia : Nat) : (s.updInput i f).hport ia = s.hport ia := rfl
@[simp] theorem State.op_updInput (s : State) (i : Nat) (f : InBuf → InBuf) (ia ib : Nat) : (s.updInput i f).op ia ib = s.op ia ib := rfl
@[simp] theorem State.opActive_updInput (s : State) (i : Nat) (f : InBuf → InBuf) (ia ib : Nat) : (s.updInput i f).opActive ia ib = s.opActive ia ib := rfl
@[simp] theorem State.reg_updInput (s : State) (i : Nat) (f : InBuf → InBuf) (ra : Reg) (ia ib : Nat) : (s.updInput i f).reg ra ia ib = s.reg ra ia ib := rfl
@[simp] theorem State.eff_updInput (s : State) (i : Nat) (f : InBuf → InBuf) (ra : Reg) (ia ib : Nat) : (s.updInput i f).eff ra ia ib = s.eff ra ia ib := rfl
@[simp] theorem State.sess_updInput (s : State) (i : Nat) (f : InBuf → InBuf) (ia : Nat) : (s.updInput i f).sess ia = s.sess ia := rfl
@[simp] theorem State.lane_setOutput (s : State) (o : Nat) (x : Output) (ia : Nat) : (s.setOutput o x).lane ia = s.lane ia := rfl
@[simp] theorem State.link_setOutput (s : State) (o : Nat) (x : Output) (ia : Nat) : (s.setOutput o x).link ia = s.link ia := rfl
@[simp] theorem State.input_setOutput (s : State) (o : Nat) (x : Output) (ia : Nat) : (s.setOutput o x).input ia = s.input ia := rfl
@[simp] theorem State.hport_setOutput (s : State) (o : Nat) (x : Output) (ia : Nat) : (s.setOutput o x).hport ia = s.hport ia := rfl
@[simp] theorem State.op_setOutput (s : State) (o : Nat) (x : Output) (ia ib : Nat) : (s.setOutput o x).op ia ib = s.op ia ib := rfl
@[simp] theorem State.opActive_setOutput (s : State) (o : Nat) (x : Output) (ia ib : Nat) : (s.setOutput o x).opActive ia ib = s.opActive ia ib := rfl
@[simp] theorem State.reg_setOutput (s : State) (o : Nat) (x : Output) (ra : Reg) (ia ib : Nat) : (s.setOutput o x).reg ra ia ib = s.reg ra ia ib := rfl
@[simp] theorem State.eff_setOutput (s : State) (o : Nat) (x : Output) (ra : Reg) (ia ib : Nat) : (s.setOutput o x).eff ra ia ib = s.eff ra ia ib := rfl
@[simp] theorem State.sess_setOutput (s : State) (o : Nat) (x : Output) (ia : Nat) : (s.setOutput o x).sess ia = s.sess ia := rfl
@[simp] theorem State.lane_updOutput (s : State) (o : Nat) (f : Output → Output) (ia : Nat) : (s.updOutput o f).lane ia = s.lane ia := rfl
@[simp] theorem State.link_updOutput (s : State) (o : Nat) (f : Output → Output) (ia : Nat) : (s.updOutput o f).link ia = s.link ia := rfl
@[simp] theorem State.input_updOutput (s : State) (o : Nat) (f : Output → Output) (ia : Nat) : (s.updOutput o f).input ia = s.input ia := rfl
@[simp] theorem State.hport_updOutput (s : State) (o : Nat) (f : Output → Output) (ia : Nat) : (s.updOutput o f).hport ia = s.hport ia := rfl
@[simp] theorem State.op_updOutput (s : State) (o : Nat) (f : Output → Output) (ia ib : Nat) : (s.updOutput o f).op ia ib = s.op ia ib := rfl
@[simp] theorem State.opActive_updOutput (s : State) (o : Nat) (f : Output → Output) (ia ib : Nat) : (s.updOutput o f).opActive ia ib = s.opActive ia ib := rfl
@[simp] theorem State.reg_updOutput (s : State) (o : Nat) (f : Output → Output) (ra : Reg) (ia ib : Nat) : (s.updOutput o f).reg ra ia ib = s.reg ra ia ib := rfl
@[simp] theorem State.eff_updOutput (s : State) (o : Nat) (f : Output → Output) (ra : Reg) (ia ib : Nat) : (s.updOutput o f).eff ra ia ib = s.eff ra ia ib := rfl
@[simp] theorem State.sess_updOutput (s : State) (o : Nat) (f : Output → Output) (ia : Nat) : (s.updOutput o f).sess ia = s.sess ia := rfl
@[simp] theorem State.lane_setHport (s : State) (k : Nat) (h : HPort) (ia : Nat) : (s.setHport k h).lane ia = s.lane ia := rfl
@[simp] theorem State.link_setHport (s : State) (k : Nat) (h : HPort) (ia : Nat) : (s.setHport k h).link ia = s.link ia := rfl
@[simp] theorem State.input_setHport (s : State) (k : Nat) (h : HPort) (ia : Nat) : (s.setHport k h).input ia = s.input ia := rfl
@[simp] theorem State.output_setHport (s : State) (k : Nat) (h : HPort) (ia : Nat) : (s.setHport k h).output ia = s.output ia := rfl
@[simp] theorem State.op_setHport (s : State) (k : Nat) (h : HPort) (ia ib : Nat) : (s.setHport k h).op ia ib = s.op ia ib := rfl
@[simp] theorem State.opActive_setHport (s : State) (k : Nat) (h : HPort) (ia ib : Nat) : (s.setHport k h).opActive ia ib = s.opActive ia ib := rfl
@[simp] theorem State.reg_setHport (s : State) (k : Nat) (h : HPort) (ra : Reg) (ia ib : Nat) : (s.setHport k h).reg ra ia ib = s.reg ra ia ib := rfl
@[simp] theorem State.eff_setHport (s : State) (k : Nat) (h : HPort) (ra : Reg) (ia ib : Nat) : (s.setHport k h).eff ra ia ib = s.eff ra ia ib := rfl
@[simp] theorem State.sess_setHport (s : State) (k : Nat) (h : HPort) (ia : Nat) : (s.setHport k h).sess ia = s.sess ia := rfl
@[simp] theorem State.lane_opSet (s : State) (k p st : Nat) (ia : Nat) : (s.opSet k p st).lane ia = s.lane ia := rfl
@[simp] theorem State.link_opSet (s : State) (k p st : Nat) (ia : Nat) : (s.opSet k p st).link ia = s.link ia := rfl
@[simp] theorem State.input_opSet (s : State) (k p st : Nat) (ia : Nat) : (s.opSet k p st).input ia = s.input ia := rfl
@[simp] theorem State.output_opSet (s : State) (k p st : Nat) (ia : Nat) : (s.opSet k p st).output ia = s.output ia := rfl
@[simp] theorem State.hport_opSet (s : State) (k p st : Nat) (ia : Nat) : (s.opSet k p st).hport ia = s.hport ia := rfl
@[simp] theorem State.reg_opSet (s : State) (k p st : Nat) (ra : Reg) (ia ib : Nat) : (s.opSet k p st).reg ra ia ib = s.reg ra ia ib := rfl
@[simp] theorem State.eff_opSet (s : State) (k p st : Nat) (ra : Reg) (ia ib : Nat) : (s.opSet k p st).eff ra ia ib = s.eff ra ia ib := rfl
@[simp] theorem State.sess_opSet (s : State) (k p st : Nat) (ia : Nat) : (s.opSet k p st).sess ia = s.sess ia := rfl
@[simp] theorem State.lane_opEnd (s : State) (k p f : Nat) (ia : Nat) : (s.opEnd k p f).lane ia = s.lane ia := by unfold State.opEnd; split <;> rfl
@[simp] theorem State.link_opEnd (s : State) (k p f : Nat) (ia : Nat) : (s.opEnd k p f).link ia = s.link ia := by unfold State.opEnd; split <;> rfl
@[simp] theorem State.input_opEnd (s : State) (k p f : Nat) (ia : Nat) : (s.opEnd k p f).input ia = s.input ia := by unfold State.opEnd; split <;> rfl
@[simp] theorem State.output_opEnd (s : State) (k p f : Nat) (ia : Nat) : (s.opEnd k p f).output ia = s.output ia := by unfold State.opEnd; split <;> rfl
@[simp] theorem State.hport_opEnd (s : State) (k p f : Nat) (ia : Nat) : (s.opEnd k p f).hport ia = s.hport ia := by unfold State.opEnd; split <;> rfl
@[simp] theorem State.reg_opEnd (s : State) (k p f : Nat) (ra : Reg) (ia ib : Nat) : (s.opEnd k p f).reg ra ia ib = s.reg ra ia ib := by unfold State.opEnd; split <;> rfl
@[simp] theorem State.eff_opEnd (s : State) (k p f : Nat) (ra : Reg) (ia ib : Nat) : (s.opEnd k p f).eff ra ia ib = s.eff ra ia ib := by unfold State.opEnd; split <;> rfl
@[simp] theorem State.sess_opEnd (s : State) (k p f : Nat) (ia : Nat) : (s.opEnd k p f).sess ia = s.sess ia := by unfold State.opEnd; split <;> rfl
@[simp] theorem State.lane_updTwin (s : State) (f : Twin → Twin) (ia : Nat) : (s.updTwin f).lane ia = s.lane ia := rfl
@[simp] theorem State.link_updTwin (s : State) (f : Twin → Twin) (ia : Nat) : (s.updTwin f).link ia = s.link ia := rfl
@[simp] theorem State.input_updTwin (s : State) (f : Twin → Twin) (ia : Nat) : (s.updTwin f).input ia = s.input ia := rfl
@[simp] theorem State.output_updTwin (s : State) (f : Twin → Twin) (ia : Nat) : (s.updTwin f).output ia = s.output ia := rfl
@[simp] theorem State.hport_updTwin (s : State) (f : Twin → Twin) (ia : Nat) : (s.updTwin f).hport ia = s.hport ia := rfl
@[simp] theorem State.op_updTwin (s : State) (f : Twin → Twin) (ia ib : Nat) : (s.updTwin f).op ia ib = s.op ia ib := rfl
@[simp] theorem State.opActive_updTwin (s : State) (f : Twin → Twin) (ia ib : Nat) : (s.updTwin f).opActive ia ib = s.opActive ia ib := rfl
@[simp] theorem State.reg_updTwin (s : State) (f : Twin → Twin) (ra : Reg) (ia ib : Nat) : (s.updTwin f).reg ra ia ib = s.reg ra ia ib := rfl
@[simp] theorem State.eff_updTwin (s : State) (f : Twin → Twin) (ra : Reg) (ia ib : Nat) : (s.updTwin f).eff ra ia ib = s.eff ra ia ib := rfl
@[simp] theorem State.sess_updTwin (s : State) (f : Twin → Twin) (ia : Nat) : (s.updTwin f).sess ia = s.sess ia := rfl
@[simp] theorem State.lane_setSess (s : State) (n : Nat) (x : Session) (ia : Nat) : (s.setSess n x).lane ia = s.lane ia := rfl
@[simp] theorem State.link_setSess (s : State) (n : Nat) (x : Session) (ia : Nat) : (s.setSess n x).link ia = s.link ia := rfl
@[simp] theorem State.input_setSess (s : State) (n : Nat) (x : Session) (ia : Nat) : (s.setSess n x).input ia = s.input ia := rfl
@[simp] theorem State.output_setSess (s : State) (n : Nat) (x : Session) (ia : Nat) : (s.setSess n x).output ia = s.output ia := rfl
@[simp] theorem State.hport_setSess (s : State) (n : Nat) (x : Session) (ia : Nat) : (s.setSess n x).hport ia = s.hport ia := rfl
@[simp] theorem State.op_setSess (s : State) (n : Nat) (x : Session) (ia ib : Nat) : (s.setSess n x).op ia ib = s.op ia ib := rfl
@[simp] theorem State.opActive_setSess (s : State) (n : Nat) (x : Session) (ia ib : Nat) : (s.setSess n x).opActive ia ib = s.opActive ia ib := rfl
@[simp] theorem State.reg_setSess (s : State) (n : Nat) (x : Session) (ra : Reg) (ia ib : Nat) : (s.setSess n x).reg ra ia ib = s.reg ra ia ib := rfl
@[simp] theorem State.eff_setSess (s : State) (n : Nat) (x : Session) (ra : Reg) (ia ib : Nat) : (s.setSess n x).eff ra ia ib = s.eff ra ia ib := rfl
@[simp] theorem State.lane_updMgmt (s : State) (f : Mgmt → Mgmt) (ia : Nat) : (s.updMgmt f).lane ia = s.lane ia := rfl
@[simp] theorem State.link_updMgmt (s : State) (f : Mgmt → Mgmt) (ia : Nat) : (s.updMgmt f).link ia = s.link ia := rfl
@[simp] theorem State.input_updMgmt (s : State) (f : Mgmt → Mgmt) (ia : Nat) : (s.updMgmt f).input ia = s.input ia := rfl
@[simp] theorem State.output_updMgmt (s : State) (f : Mgmt → Mgmt) (ia : Nat) : (s.updMgmt f).output ia = s.output ia := rfl
@[simp] theorem State.hport_updMgmt (s : State) (f : Mgmt → Mgmt) (ia : Nat) : (s.updMgmt f).hport ia = s.hport ia := rfl
@[simp] theorem State.op_updMgmt (s : State) (f : Mgmt → Mgmt) (ia ib : Nat) : (s.updMgmt f).op ia ib = s.op ia ib := rfl
@[simp] theorem State.opActive_updMgmt (s : State) (f : Mgmt → Mgmt) (ia ib : Nat) : (s.updMgmt f).opActive ia ib = s.opActive ia ib := rfl
@[simp] theorem State.reg_updMgmt (s : State) (f : Mgmt → Mgmt) (ra : Reg) (ia ib : Nat) : (s.updMgmt f).reg ra ia ib = s.reg ra ia ib := rfl
@[simp] theorem State.eff_updMgmt (s : State) (f : Mgmt → Mgmt) (ra : Reg) (ia ib : Nat) : (s.updMgmt f).eff ra ia ib = s.eff ra ia ib := rfl
@[simp] theorem State.lane_taken (s : State) (bb : List (Nat × List Byte)) (aa : List Arrived) (au : Table AuditRec) (an sf : Nat) (ia : Nat) : (s.taken bb aa au an sf).lane ia = s.lane ia := rfl
@[simp] theorem State.link_taken (s : State) (bb : List (Nat × List Byte)) (aa : List Arrived) (au : Table AuditRec) (an sf : Nat) (ia : Nat) : (s.taken bb aa au an sf).link ia = s.link ia := rfl
@[simp] theorem State.input_taken (s : State) (bb : List (Nat × List Byte)) (aa : List Arrived) (au : Table AuditRec) (an sf : Nat) (ia : Nat) : (s.taken bb aa au an sf).input ia = s.input ia := rfl
@[simp] theorem State.output_taken (s : State) (bb : List (Nat × List Byte)) (aa : List Arrived) (au : Table AuditRec) (an sf : Nat) (ia : Nat) : (s.taken bb aa au an sf).output ia = s.output ia := rfl
@[simp] theorem State.hport_taken (s : State) (bb : List (Nat × List Byte)) (aa : List Arrived) (au : Table AuditRec) (an sf : Nat) (ia : Nat) : (s.taken bb aa au an sf).hport ia = s.hport ia := rfl
@[simp] theorem State.op_taken (s : State) (bb : List (Nat × List Byte)) (aa : List Arrived) (au : Table AuditRec) (an sf : Nat) (ia ib : Nat) : (s.taken bb aa au an sf).op ia ib = s.op ia ib := rfl
@[simp] theorem State.opActive_taken (s : State) (bb : List (Nat × List Byte)) (aa : List Arrived) (au : Table AuditRec) (an sf : Nat) (ia ib : Nat) : (s.taken bb aa au an sf).opActive ia ib = s.opActive ia ib := rfl
@[simp] theorem State.reg_taken (s : State) (bb : List (Nat × List Byte)) (aa : List Arrived) (au : Table AuditRec) (an sf : Nat) (ra : Reg) (ia ib : Nat) : (s.taken bb aa au an sf).reg ra ia ib = s.reg ra ia ib := rfl
@[simp] theorem State.eff_taken (s : State) (bb : List (Nat × List Byte)) (aa : List Arrived) (au : Table AuditRec) (an sf : Nat) (ra : Reg) (ia ib : Nat) : (s.taken bb aa au an sf).eff ra ia ib = s.eff ra ia ib := rfl
@[simp] theorem State.lane_afterAnswer (s : State) (m : Mgmt) (tw : Twin) (oo : List Out) (c tt : Table (BitVec 64)) (bu : List Built) (ho : HostSide) (ia : Nat) : (s.afterAnswer m tw oo c tt bu ho).lane ia = s.lane ia := rfl
@[simp] theorem State.link_afterAnswer (s : State) (m : Mgmt) (tw : Twin) (oo : List Out) (c tt : Table (BitVec 64)) (bu : List Built) (ho : HostSide) (ia : Nat) : (s.afterAnswer m tw oo c tt bu ho).link ia = s.link ia := rfl
@[simp] theorem State.input_afterAnswer (s : State) (m : Mgmt) (tw : Twin) (oo : List Out) (c tt : Table (BitVec 64)) (bu : List Built) (ho : HostSide) (ia : Nat) : (s.afterAnswer m tw oo c tt bu ho).input ia = s.input ia := rfl
@[simp] theorem State.output_afterAnswer (s : State) (m : Mgmt) (tw : Twin) (oo : List Out) (c tt : Table (BitVec 64)) (bu : List Built) (ho : HostSide) (ia : Nat) : (s.afterAnswer m tw oo c tt bu ho).output ia = s.output ia := rfl
@[simp] theorem State.op_afterAnswer (s : State) (m : Mgmt) (tw : Twin) (oo : List Out) (c tt : Table (BitVec 64)) (bu : List Built) (ho : HostSide) (ia ib : Nat) : (s.afterAnswer m tw oo c tt bu ho).op ia ib = s.op ia ib := rfl
@[simp] theorem State.opActive_afterAnswer (s : State) (m : Mgmt) (tw : Twin) (oo : List Out) (c tt : Table (BitVec 64)) (bu : List Built) (ho : HostSide) (ia ib : Nat) : (s.afterAnswer m tw oo c tt bu ho).opActive ia ib = s.opActive ia ib := rfl
@[simp] theorem State.reg_afterAnswer (s : State) (m : Mgmt) (tw : Twin) (oo : List Out) (c tt : Table (BitVec 64)) (bu : List Built) (ho : HostSide) (ra : Reg) (ia ib : Nat) : (s.afterAnswer m tw oo c tt bu ho).reg ra ia ib = s.reg ra ia ib := rfl
@[simp] theorem State.eff_afterAnswer (s : State) (m : Mgmt) (tw : Twin) (oo : List Out) (c tt : Table (BitVec 64)) (bu : List Built) (ho : HostSide) (ra : Reg) (ia ib : Nat) : (s.afterAnswer m tw oo c tt bu ho).eff ra ia ib = s.eff ra ia ib := rfl
@[simp] theorem State.lane_storeVal (s : State) (r : Reg) (i e : Nat) (v : Image) (ia : Nat) : (s.storeVal r i e v).lane ia = s.lane ia := by unfold State.storeVal; split <;> rfl
@[simp] theorem State.link_storeVal (s : State) (r : Reg) (i e : Nat) (v : Image) (ia : Nat) : (s.storeVal r i e v).link ia = s.link ia := by unfold State.storeVal; split <;> rfl
@[simp] theorem State.input_storeVal (s : State) (r : Reg) (i e : Nat) (v : Image) (ia : Nat) : (s.storeVal r i e v).input ia = s.input ia := by unfold State.storeVal; split <;> rfl
@[simp] theorem State.output_storeVal (s : State) (r : Reg) (i e : Nat) (v : Image) (ia : Nat) : (s.storeVal r i e v).output ia = s.output ia := by unfold State.storeVal; split <;> rfl
@[simp] theorem State.hport_storeVal (s : State) (r : Reg) (i e : Nat) (v : Image) (ia : Nat) : (s.storeVal r i e v).hport ia = s.hport ia := by unfold State.storeVal; split <;> rfl
@[simp] theorem State.op_storeVal (s : State) (r : Reg) (i e : Nat) (v : Image) (ia ib : Nat) : (s.storeVal r i e v).op ia ib = s.op ia ib := by unfold State.storeVal; split <;> rfl
@[simp] theorem State.opActive_storeVal (s : State) (r : Reg) (i e : Nat) (v : Image) (ia ib : Nat) : (s.storeVal r i e v).opActive ia ib = s.opActive ia ib := by unfold State.storeVal; split <;> rfl
@[simp] theorem State.eff_storeVal (s : State) (r : Reg) (i e : Nat) (v : Image) (ra : Reg) (ia ib : Nat) : (s.storeVal r i e v).eff ra ia ib = s.eff ra ia ib := by unfold State.storeVal; split <;> rfl
@[simp] theorem State.sess_storeVal (s : State) (r : Reg) (i e : Nat) (v : Image) (ia : Nat) : (s.storeVal r i e v).sess ia = s.sess ia := by unfold State.storeVal; split <;> rfl

end Sys2Proof.Machine
end

