-- ==== Sys2Proof/Machine/HostViews.lean ====
section
/-! DEFINITION. What a host reads of a function (chapter 9): its identity and capabilities in configuration space, and its BARs.  No
command of the block is a read: these are the values that the device would answer. -/

namespace Sys2Proof.Machine

/-! Configuration space (R261, R263, R282) -/

/-- The identity fields of a configuration header. -/
structure FuncIds where
  vendor   : Nat := 0x1D9A
  device   : Nat := 0x4E31
  revision : Nat := 0xB0
  class_   : Nat := 0x028000
  subVendor : Nat := 0x1D9A
  subsystem : Nat := 0x4E31
  deriving DecidableEq, Repr

/-- How a configuration request is answered: by no function, with Request Retry Status, or by the function. -/
inductive CfgAnswer where
  | none | retry
  | function (ids : FuncIds)
  deriving DecidableEq, Repr

/-- The answer to a configuration request of a function (R263, R266, R282): bound to a slice or not. -/
def State.configAnswer (s : State) (f : Nat) : CfgAnswer :=
  if !s.funcExists f ∨ !s.funcShown f then .none
  else if !(s.hlink (funcPort f) (funcLink f)).ready then .retry
  else .function { device := if funcVf f = 0 then 0x4E31 else 0x4E32 }

/-- Features of Table HST-2 that are found in configuration space. -/
inductive Capability where
  | ari | sriov | pasid | msix | aer | ltr | flr | l1ss | pme
  | ats | pri | acs | msi | intx | ptm | tph | resizableBar | doe | ide | tdisp
  deriving DecidableEq, Repr

/-- The device supports a feature; what it does not support is absent from configuration space (R261, Table HST-2). -/
def Capability.present : Capability → Bool
  | .ari | .sriov | .pasid | .msix | .aer | .ltr | .flr | .l1ss | .pme => true
  | .ats | .pri | .acs | .msi | .intx | .ptm | .tph | .resizableBar | .doe | .ide | .tdisp => false

/-- Power states from which PME_Support says that PM_PME can be sent (R277). -/
def pmeFrom : List DState := [.d3hot, .d3cold]

/-- Bytes of a BAR (Table HST-4): both BARs of a PF take 4 MiB, of a VF 1 MiB. -/
def barBytes (vf : Bool) : Nat := if vf then 2 ^ 20 else 2 ^ 22

/-! BAR reads (R266, R269–R272) -/

/-- The mailbox of a PF. -/
def State.mailbox (s : State) (f : Nat) : Mailbox :=
  let h := s.hport (funcPort f)
  if funcLink f = 0 then h.mbxA else h.mbxB

/-- MBX_CTL as it reads (Table HST-8). -/
def Mailbox.ctl (m : Mailbox) : Nat :=
  at' 63 (b2n m.busy) + at' 62 (b2n m.done) + at' 61 (b2n m.irqEn) + at' 32 m.rspLen + m.reqLen

/-- FUNC_STATUS (Table HST-7). -/
def State.funcStatus (s : State) (f : Nat) : Nat :=
  let sl := s.funcSlice f
  at' 16 (sl.getD 0) + at' 12 (match sl with | some n => (s.slice n).st.code | none => 0) + at' 11 (b2n sl.isSome)
    + at' 9 (funcPort f) + at' 8 (funcLink f)

/-- The 8 bytes of the control page at an aligned offset (Table HST-6). -/
def State.controlWord (s : State) (f off : Nat) : Nat :=
  if off = 0 then s.funcStatus f
  else if off = 8 then s.ns
  else if off = 0x100 ∧ funcVf f = 0 then (s.mailbox f).ctl
  else 0

/-- `len` bytes of a value of 8 bytes, at an offset. -/
def partOf (w off len : Nat) : Nat := w / 2 ^ (8 * (off % 8)) % 2 ^ (8 * len)

/-- One 8-byte half of an MSI-X table entry: its address; its data and mask. -/
def MsixVec.half (x : MsixVec) (i : Nat) : Nat := if i = 0 then x.addr.toNat else x.data.toNat + at' 32 (b2n x.masked)

/-- What a read of at most 8 bytes of a bound function's BAR answers (R269): zero wherever no field answers. -/
def State.barValue (s : State) (f bar off len : Nat) : Nat :=
  match barRegion (funcVf f != 0) bar off with
  | .control o =>
    if !fieldAccess o len ∨ (o / 8 = 1 ∧ len = 4) then 0 else partOf (s.controlWord f (8 * (o / 8))) o len
  | .request o => natOfBytes (((s.mailbox f).req.drop o).take len)
  | .response o => natOfBytes (((s.mailbox f).rsp.drop o).take len)
  | .msixTable v o => if v < s.msixCount f then partOf (((s.func f).vec v).half (o / 8)) o len else 0
  | .msixPending o => partOf (((s.func f).pend.filter (fun v => v / 64 = o / 8)).map (fun v => 2 ^ (v % 64))).sum o len
  | _ => 0

/-- A read of a BAR: answered by a function that decodes it, with zero where that is unbound (R266). -/
def State.barRead (s : State) (f bar off len : Nat) : Option Nat :=
  if !s.barOpen f then none
  else if (s.funcSlice f).isNone then some 0
  else some (s.barValue f bar off len)

end Sys2Proof.Machine
end

