-- ==== Sys2Proof/WellFormed.lean ====
section
/-! DEFINITION. Well-formed commands: every number that names a port, a stop, a slice, a queue or another unit lies in the
unit's range, and no request from outside calls itself a mirrored change (R593). -/

namespace Sys2Proof

/-- The range checks of a command's operands. -/
def Instr.wellFormed : Instr → Bool
  | .fdpWrite q obj sub _ _ _ => decide (obj ≤ 65535) && decide (sub ≤ 255) && !q.mirror
  | .fdpRead q obj sub _ _ => decide (obj ≤ 65535) && decide (sub ≤ 255) && !q.mirror
  | .fdpIdentify q => !q.mirror
  | .fdpOpen q _ _ _ => !q.mirror
  | .fdpAuth q _ => !q.mirror
  | .fdpClose q => !q.mirror
  | .fdpInfo q obj sub => decide (obj ≤ 65535) && decide (sub ≤ 255) && !q.mirror
  | .authTimeout n => decide (n ≤ 16)
  | .authLockoutExpiry _ => true
  | .sessionIdleExpiry n => decide (n ≤ 16)
  | .canFrameReceive _ _ _ => true
  | .canReassemblyTimeout src => decide (src ≤ 127)
  | .canFrameTransmit => true
  | .canBusError _ => true
  | .busOffRecovery => true
  | .canRecover q _ => !q.mirror
  | .mbxSubmit h l _ _ => decide (h ≤ 3) && decide (l ≤ 1)
  | .mbxDoneClear h l _ => decide (h ≤ 3) && decide (l ≤ 1)
  | .controlDelivery st => decide (st ≤ 63)
  | .discardNoticeReceive => true
  | .laneCal q _ => !q.mirror
  | .laneCalTimeout p => decide (p ≤ 48)
  | .eqLoad q _ => !q.mirror
  | .eqLoadDeferredStart p => decide (p ≤ 48)
  | .twinResync q _ => !q.mirror
  | .resyncComplete _ _ => true
  | .caddyCompact q _ => !q.mirror
  | .caddyCompactDone _ => true
  | .caddyAutoCompact => true
  | .firmwareStage q _ => !q.mirror
  | .fwChunk q _ => !q.mirror
  | .firmwareCheckDone _ => true
  | .firmwareStageTimeout => true
  | .fwSelect q _ => !q.mirror
  | .routeSwap q _ => !q.mirror
  | .keyTableSwap q _ => !q.mirror
  | .swapCopyDone _ => true
  | .controlScrub q _ => !q.mirror
  | .scrubAutoStart => true
  | .controlScrubDone _ bad => bad.all (fun x => decide (x ≤ 2047))
  | .counterClearAll q _ => !q.mirror
  | .lifecycleChange q _ => !q.mirror
  | .portRole q p _ => decide (p ≤ 47) && !q.mirror
  | .retrain q p _ => decide (p ≤ 48) && !q.mirror
  | .wake q p _ => decide (p ≤ 48) && !q.mirror
  | .testPattern q p _ => decide (p ≤ 48) && !q.mirror
  | .testPatternDeferredStart p => decide (p ≤ 48)
  | .synthLocked p => decide (p ≤ 48)
  | .synthLockTimeout p => decide (p ≤ 48)
  | .forwardedClockPresent p _ => decide (p ≤ 48)
  | .clockAcquireTimeout p => decide (p ≤ 48)
  | .eyeCentreFound p _ => decide (p ≤ 48)
  | .phaseTrimTimeout p => decide (p ≤ 48)
  | .markersFound p _ _ => decide (p ≤ 48)
  | .alignTimeout p => decide (p ≤ 48)
  | .fecLocked p => decide (p ≤ 48)
  | .fecLockTimeout p => decide (p ≤ 48)
  | .synthLockLoss p => decide (p ≤ 48)
  | .forwardedClockLoss p => decide (p ≤ 48)
  | .txLockLostTimeout p => decide (p ≤ 48)
  | .rxClockLostTimeout p => decide (p ≤ 48)
  | .retryWaitExpiry p => decide (p ≤ 48)
  | .calmIntervalExpiry p => decide (p ≤ 48)
  | .calmRequest p _ => decide (p ≤ 48)
  | .calmGrant p _ => decide (p ≤ 48)
  | .calmRefuse p _ => decide (p ≤ 48)
  | .calmRetry p => decide (p ≤ 48)
  | .calmWindowStart p => decide (p ≤ 48)
  | .calmWindowEnd p _ _ => decide (p ≤ 48)
  | .dozeIdleExpiry p => decide (p ≤ 47)
  | .dozeRequest p _ => decide (p ≤ 48)
  | .dozeGrant p _ => decide (p ≤ 48)
  | .dozeRefuse p _ => decide (p ≤ 48)
  | .wakeCausePort p => decide (p ≤ 48)
  | .wakeTone p => decide (p ≤ 48)
  | .wakeLocked p => decide (p ≤ 48)
  | .wakeTimeout p => decide (p ≤ 48)
  | .lockLossExpiry p => decide (p ≤ 48)
  | .linkCellTransmit p => decide (p ≤ 48)
  | .dataCellReceive p _ _ => decide (p ≤ 48)
  | .idleCellReceive p _ => decide (p ≤ 48)
  | .bypassCellReceive p _ => decide (p ≤ 48)
  | .linkInit p _ => decide (p ≤ 48)
  | .linkInitAck p _ => decide (p ≤ 48)
  | .linkInitResend p => decide (p ≤ 48)
  | .initTimeout p => decide (p ≤ 48)
  | .nak p _ => decide (p ≤ 48)
  | .replayTimeout p => decide (p ≤ 48)
  | .linkDown p _ => decide (p ≤ 48)
  | .wiringNotice p _ => decide (p ≤ 48)
  | .wiringNoticeRepeat p => decide (p ≤ 48)
  | .abort p _ => decide (p ≤ 48)
  | .errorRateWindowEnd p => decide (p ≤ 48)
  | .flush q p _ => decide (p ≤ 48) && !q.mirror
  | .flushDone p => decide (p ≤ 48)
  | .schedulerToken => true
  | .redAvgUpdate => true
  | .pressureReportSend p => decide (p ≤ 47)
  | .keyInsert q _ => !q.mirror
  | .gateLoad q p _ => decide (p ≤ 47) && !q.mirror
  | .gateSwitch q p _ => decide (p ≤ 47) && !q.mirror
  | .gateListSwitch p => decide (p ≤ 47)
  | .gateEntryTransition p => decide (p ≤ 47)
  | .gateOverride q p k _ => decide (p ≤ 47) && decide (k ≤ 3) && !q.mirror
  | .gateOverrideStop q p k _ => decide (p ≤ 47) && decide (k ≤ 3) && !q.mirror
  | .timedWindowStart _ => true
  | .timedWindowStop _ => true
  | .gateFitTest p => decide (p ≤ 47)
  | .ringSendRequest st _ => decide (st ≤ 63)
  | .ringPacketArrive src dst kind _ free => decide (src ≤ 63) && decide (dst ≤ 63) && decide (kind ≤ 12) && decide (free ≤ 40)
  | .ringPacketReturn src dst kind => decide (src ≤ 63) && decide (dst ≤ 63) && decide (kind ≤ 12)
  | .ringReinject src dst kind => decide (src ≤ 63) && decide (dst ≤ 63) && decide (kind ≤ 12)
  | .ringStarveReserve st r => decide (st ≤ 63) && decide (r ≤ 3)
  | .ringTimeout st tag => decide (st ≤ 63) && decide (tag ≤ 1023)
  | .ringStall st r => decide (st ≤ 63) && decide (r ≤ 3)
  | .ringDisable q _ => !q.mirror
  | .crossingReset _ _ => true
  | .hostPerstAssert h => decide (h ≤ 3)
  | .hostPerstDeassert h => decide (h ≤ 3)
  | .hostLinkReset h l _ => decide (h ≤ 3) && decide (l ≤ 1)
  | .functionLevelReset f => decide (f ≤ 2047)
  | .wqDoorbell f page slot _ => decide (f ≤ 2047) && decide (page ≤ 959) && decide (slot ≤ 15)
  | .queueArm f page slot _ _ => decide (f ≤ 2047) && decide (page ≤ 959) && decide (slot ≤ 15)
  | .pushWrite f page slot _ => decide (f ≤ 2047) && decide (page ≤ 959) && decide (slot ≤ 15)
  | .barInvalidWrite w => w.inRange
  | .wakeCause f => decide (f ≤ 2047)
  | .pmPmeSend f => decide (f ≤ 2047)
  | .pmcsrD0Write f => decide (f ≤ 2047)
  | .pmeEnWrite f _ => decide (f ≤ 2047)
  | .pmeStatusClear f => decide (f ≤ 2047)
  | .ltrIdle h l => decide (h ≤ 3) && decide (l ≤ 1)
  | .l0pMeasure h l => decide (h ≤ 3) && decide (l ≤ 1)
  | .aspmL1Request h l => decide (h ≤ 3) && decide (l ≤ 1)
  | .hostReadCompletion _ _ => true
  | .wqFetch n => decide (n ≤ 65535)
  | .sliceStart q sl => decide (sl ≤ 255) && !q.mirror
  | .sliceRun q sl => decide (sl ≤ 255) && !q.mirror
  | .sliceRecover q sl => decide (sl ≤ 255) && !q.mirror
  | .sliceTest q sl => decide (sl ≤ 255) && !q.mirror
  | .sliceStop q sl => decide (sl ≤ 255) && !q.mirror
  | .sliceReset q sl => decide (sl ≤ 255) && !q.mirror
  | .sliceHalt q sl => decide (sl ≤ 255) && !q.mirror
  | .sliceStateSettled sl => decide (sl ≤ 255)
  | .wakeTest q sl _ => decide (sl ≤ 255) && !q.mirror
  | .createWq q sl _ => decide (sl ≤ 255) && !q.mirror
  | .createCq q sl _ => decide (sl ≤ 255) && !q.mirror
  | .createEq q sl _ => decide (sl ≤ 255) && !q.mirror
  | .destroyWq q sl _ => decide (sl ≤ 255) && !q.mirror
  | .destroyCq q sl _ => decide (sl ≤ 255) && !q.mirror
  | .destroyEq q sl _ => decide (sl ≤ 255) && !q.mirror
  | .resetWq q sl _ => decide (sl ≤ 255) && !q.mirror
  | .dispatchAdmit k => decide (k ≤ 31)
  | .engineTake e => decide (e ≤ 511)
  | .engineSteal e => decide (e ≤ 511)
  | .engineRemoteSteal e => decide (e ≤ 511)
  | .entryNop e => decide (e ≤ 511)
  | .entrySend e => decide (e ≤ 511)
  | .entryRecv e => decide (e ≤ 511)
  | .entryPut e => decide (e ≤ 511)
  | .entryPutImm e => decide (e ≤ 511)
  | .entryGet e => decide (e ≤ 511)
  | .entryAtomic e => decide (e ≤ 511)
  | .entryCollective e => decide (e ≤ 511)
  | .entryControlSend e => decide (e ≤ 511)
  | .entrySegment e => decide (e ≤ 511)
  | .itemUnpark _ => true
  | .engineItemLimit e => decide (e ≤ 511)
  | .engineMemoryError e => decide (e ≤ 511)
  | .arbiterRefill => true
  | .arbiterGrant a => decide (a ≤ 15)
  | .arbiterPreempt a sl => decide (a ≤ 15) && decide (sl ≤ 255)
  | .burstHandover a => decide (a ≤ 15)
  | .lockClaim n sl m _ => decide (n ≤ 4095) && decide (sl ≤ 255) && decide (m ≤ 1023)
  | .lockRelease n sl m _ => decide (n ≤ 4095) && decide (sl ≤ 255) && decide (m ≤ 1023)
  | .lockRead n sl m => decide (n ≤ 4095) && decide (sl ≤ 255) && decide (m ≤ 1023)
  | .lockBreak q _ => !q.mirror
  | .tlbLoad q _ => !q.mirror
  | .tlbInval q _ => !q.mirror
  | .tlbInvalDone => true
  | .transRetry q _ => !q.mirror
  | .transRetryFault q _ => !q.mirror
  | .walkReadComplete _ _ _ => true
  | .missTimeout _ => true
  | .eager u => decide (u ≤ 7)
  | .rts u => decide (u ≤ 7)
  | .channelSync u => decide (u ≤ 7)
  | .cts u => decide (u ≤ 7)
  | .data u => decide (u ≤ 7)
  | .done u => decide (u ≤ 7)
  | .msgAck u => decide (u ≤ 7)
  | .rdvAbort u => decide (u ≤ 7)
  | .ackDelayExpiry _ _ => true
  | .ackTimeout _ _ => true
  | .rdvTimeout _ num _ => decide (num ≤ 16777215)
  | .overflowWalk n => decide (n ≤ 8191)
  | .rankLoad sl _ _ => decide (sl ≤ 255)
  | .rankInval q sl _ => decide (sl ≤ 255) && !q.mirror
  | .putData st => decide (st ≤ 63)
  | .putNotify st => decide (st ≤ 63)
  | .getReq st => decide (st ≤ 63)
  | .atomicReq st => decide (st ≤ 63)
  | .getResp st => decide (st ≤ 63)
  | .atomicResp st => decide (st ≤ 63)
  | .sack st => decide (st ≤ 63)
  | .sackDelayExpiry _ num => decide (num ≤ 16777215)
  | .retransmitTimeout _ num => decide (num ≤ 16777215)
  | .regionInvalidate q n _ => decide (n ≤ 65535) && !q.mirror
  | .collUp u => decide (u ≤ 3)
  | .collDown u => decide (u ≤ 3)
  | .collSummary u => decide (u ≤ 3)
  | .collAbortReceive u => decide (u ≤ 3)
  | .collSegmentSend n m _ => decide (n ≤ 4095) && decide (m ≤ 63)
  | .collTimeout n => decide (n ≤ 4095)
  | .collAbort q _ => !q.mirror
  | .collEpoch q _ => !q.mirror
  | .collSteep q n _ => decide (n ≤ 4095) && !q.mirror
  | .collSteepClear q _ => !q.mirror
  | .poolAssign q p _ => decide (p ≤ 1023) && !q.mirror
  | .poolRelease q p _ => decide (p ≤ 1023) && !q.mirror
  | .poolZeroingDone p => decide (p ≤ 1023)
  | .memPerstRelease => true
  | .memLinkTrained m _ _ _ => decide (m ≤ 7)
  | .memoryActive m _ => decide (m ≤ 7)
  | .memActiveTimeout m => decide (m ≤ 7)
  | .memLinkDown m => decide (m ≤ 7)
  | .cxlMemError m _ => decide (m ≤ 7)
  | .twinHeartbeatSend => true
  | .twinHeartbeat => true
  | .heartbeatLost => true
  | .beatSend => true
  | .beat _ => true
  | .distress _ => true
  | .adoptPulse _ => true
  | .alertRepeat => true
  | .pinStuck => true
  | .pinFaultClear => true
  | .joiningTimeout => true
  | .silentPartner => true
  | .failSilentResetDelay => true
  | .compareSweep _ => true
  | .mirroredWrite _ => true
  | .mirrorConfirmTimeout => true
  | .detach q _ => !q.mirror
  | .handback q _ => !q.mirror
  | .leadSwap q _ => !q.mirror
  | .adopt q _ => !q.mirror
  | .partnerReset q _ => !q.mirror
  | .faultEvent srcs => srcs.all (fun x => decide (x ≤ 2047))
  | .squallWindowExpiry n => decide (n ≤ 2047)
  | .wireFault n => decide (n ≤ 2047)
  | .graceExpiry n => decide (n ≤ 2047)
  | .lullExpiry n => decide (n ≤ 2047)
  | .faultAck q _ => !q.mirror
  | .faultClear q _ => !q.mirror
  | .forceEvents q _ => !q.mirror
  | .forceWire q _ => !q.mirror
  | .forceDisagree q _ => !q.mirror
  | .decisionDisagree => true
  | .decisionWordTimeout _ => true
  | .collectorEccError _ => true
  | .failSilentAdoptPulse => true
  | .mcHeartbeatWrite => true
  | .mcHeartbeatMiss => true
  | .avsWindow _ _ _ => true
  | .avsRetry _ _ => true
  | .barometerCrossing _ => true
  | .paceRelease => true
  | .thermalSample _ => true
  | .refclkLoss _ => true
  | .refclkReturn => true
  | .ppsEdge => true
  | .ppsTimeout => true
  | .timeProbeSend => true
  | .timeProbe => true
  | .timeReply => true
  | .timeSet q _ => !q.mirror
  | .devReset q _ => !q.mirror
  | .pinReset => true
  | .powerOnReset => true
  | .supplyReset => true
  | .resetRelease kind _ _ => decide (kind ≤ 6)
  | .bootFirmwareCheck _ _ => true
  | .startUpEnd => true
  | .snapshot q _ => !q.mirror
  | .snapshotCapture => true
  | .counterWindow q k _ => decide (k ≤ 15) && !q.mirror
  | .windowStop q k _ => decide (k ≤ 15) && !q.mirror
  | .windowRecordWrite k => decide (k ≤ 15)
  | .sampleCtl q _ => !q.mirror
  | .sampleStop q _ => !q.mirror
  | .sampleRecord => true
  | .sampleConsumerRead => true
  | .sliceCounterRecord sl => decide (sl ≤ 255)
  | .roleKey q _ _ => !q.mirror
  | .forwardedClockReturn p => decide (p ≤ 48)
  | .symbolLockLoss p => decide (p ≤ 48)
  | .symbolLockRegained p => decide (p ≤ 48)
  | .timebaseTick => true
  | .hostLinkStateChange h l _ _ _ _ => decide (h ≤ 3) && decide (l ≤ 1)
  | .functionsReady h l => decide (h ≤ 3) && decide (l ≤ 1)
  | .pcieConfigWrite f _ => decide (f ≤ 2047)
  | .msixVectorUnmask f _ => decide (f ≤ 2047)
  | .testAccessPort _ _ _ _ => true

end Sys2Proof
end

