-- ==== Sys2Proof/Tests/Slice0.lean ====
section
/-! SUPPORT. Tests: terms that well-formedness refuses, words of the table, values that the spec works out, and witnesses for the
hypotheses of the statements. -/

namespace Sys2Proof.Machine

set_option Elab.async false

/-- A started device with one open session of a role on the bus of node 0. -/
def tServe (role : Role) : State :=
  { State.reset with boot := .up, rolesOn := true, holds := []
                     mgmt := { sessions := [(0, { st := .opened, role := role })] } }
/-- A request of that session, next in sequence. -/
def tReq : Req := { seq := 1 }
/-- A port whose lanes, a port whose link stands so. -/
def tLane (p : Nat) (l : Lane) : State := { State.reset with rolesOn := true, lanes := [(p, l)] }
def tLink (p : Nat) (k : Link) : State := { State.reset with rolesOn := true, links := [(p, k)] }
theorem image_of_crc (c : LinkCell) (k : BitVec 32) : ({ c with crc := k } : LinkCell).image = c.image := rfl
theorem right_crc_of_crc (c : LinkCell) (k : BitVec 32) : ({ c with crc := k } : LinkCell).rightCrc = c.rightCrc :=
    congrArg (fun x : BitVec 1088 => crc32 x.toNat 136) (image_of_crc c k)
theorem good_of_crc (c : LinkCell) (k : BitVec 32) (h : ({ c with crc := k } : LinkCell).rightCrc = k) (hr : c.reserved = 0) (hd : c.isData = true → c.vc.toNat ≤ 47)
    (hn : c.isData = false → c.isAbort = false → c.vc = 0x3F) : ({ c with crc := k } : LinkCell).damaged = false := by
  unfold LinkCell.damaged
  rw [h, show ({ c with crc := k } : LinkCell).isData = c.isData from rfl, show ({ c with crc := k } : LinkCell).isAbort = c.isAbort from rfl]
  dsimp only
  rw [hr]
  cases h : c.isData
  · cases h' : c.isAbort
    · simp [hn h h']
    · simp
  · simp [Nat.not_lt.2 (hd h)]
/-- A sealed cell with a legal VC is not damaged (R106). -/
theorem sealed_good (c : LinkCell) (hr : c.reserved = 0) (hd : c.isData = true → c.vc.toNat ≤ 47)
    (hn : c.isData = false → c.isAbort = false → c.vc = 0x3F) : c.sealed.damaged = false :=
  good_of_crc c c.rightCrc (right_crc_of_crc c _) hr hd hn
/-- Port `p` has role SPARE and a valid profile of native rate. -/
def tReady (s : State) (p : Nat) : State := (s.setReg R.portRole 0 p 0x80000000).setReg R.eqProfile p 0 1

/-! Well-formedness. -/

/-- Well-formedness refuses a term for each of its checks: every number one past its range, a request that calls itself mirrored. -/
theorem test_wellFormed_refuses_a : ([
    .fdpWrite {} 65536 0 0 0 [], .fdpWrite {} 0 256 0 0 [], .fdpWrite { mirror := true } 0 0 0 0 [], .fdpRead {} 65536 0 0 0, .fdpRead {} 0 256 0 0,
    .fdpRead { mirror := true } 0 0 0 0, .fdpIdentify { mirror := true }, .fdpOpen { mirror := true } 0 0 0, .fdpAuth { mirror := true } false,
    .fdpClose { mirror := true }, .fdpInfo {} 65536 0, .fdpInfo {} 0 256, .fdpInfo { mirror := true } 0 0, .authTimeout 17, .sessionIdleExpiry 17,
    .canReassemblyTimeout 128, .canRecover { mirror := true } 0, .mbxSubmit 4 0 0 [], .mbxSubmit 0 2 0 [], .mbxDoneClear 4 0 0, .mbxDoneClear 0 2 0,
    .controlDelivery 64, .laneCal { mirror := true } 0, .laneCalTimeout 49, .eqLoad { mirror := true } 0, .eqLoadDeferredStart 49,
    .twinResync { mirror := true } 0, .caddyCompact { mirror := true } 0, .firmwareStage { mirror := true } [], .fwChunk { mirror := true } [],
    .fwSelect { mirror := true } 0, .routeSwap { mirror := true } 0, .keyTableSwap { mirror := true } 0, .controlScrub { mirror := true } 0,
    .controlScrubDone 0 [2048], .counterClearAll { mirror := true } 0, .lifecycleChange { mirror := true } [], .portRole {} 48 0,
    .portRole { mirror := true } 0 0, .retrain {} 49 0, .retrain { mirror := true } 0 0, .wake {} 49 0, .wake { mirror := true } 0 0,
    .testPattern {} 49 0, .testPattern { mirror := true } 0 0, .testPatternDeferredStart 49, .synthLocked 49, .synthLockTimeout 49,
    .forwardedClockPresent 49 .expected, .clockAcquireTimeout 49, .eyeCentreFound 49 [], .phaseTrimTimeout 49, .markersFound 49 [] [],
    .alignTimeout 49, .fecLocked 49, .fecLockTimeout 49, .synthLockLoss 49, .forwardedClockLoss 49, .txLockLostTimeout 49, .rxClockLostTimeout 49,
    .retryWaitExpiry 49] : List Instr).all (fun i => !i.wellFormed) = true := by decide +kernel
/-- Well-formedness refuses a term for each of its checks: every number one past its range, a request that calls itself mirrored. -/
theorem test_wellFormed_refuses_b : ([
    .calmIntervalExpiry 49, .calmRequest 49 {}, .calmGrant 49 {}, .calmRefuse 49 {}, .calmRetry 49, .calmWindowStart 49, .calmWindowEnd 49 [] [],
    .dozeIdleExpiry 48, .dozeRequest 49 {}, .dozeGrant 49 {}, .dozeRefuse 49 {}, .wakeCausePort 49, .wakeTone 49, .wakeLocked 49, .wakeTimeout 49,
    .lockLossExpiry 49, .linkCellTransmit 49, .dataCellReceive 49 {} .carried, .idleCellReceive 49 {}, .bypassCellReceive 49 {}, .linkInit 49 {},
    .linkInitAck 49 {}, .linkInitResend 49, .initTimeout 49, .nak 49 {}, .replayTimeout 49, .linkDown 49 {}, .wiringNotice 49 {},
    .wiringNoticeRepeat 49, .abort 49 {}, .errorRateWindowEnd 49, .flush {} 49 0, .flush { mirror := true } 0 0, .flushDone 49,
    .pressureReportSend 48, .keyInsert { mirror := true } 0, .gateLoad {} 48 [], .gateLoad { mirror := true } 0 [], .gateSwitch {} 48 0,
    .gateSwitch { mirror := true } 0 0, .gateListSwitch 48, .gateEntryTransition 48, .gateOverride {} 48 0 0, .gateOverride {} 0 4 0,
    .gateOverride { mirror := true } 0 0 0, .gateOverrideStop {} 48 0 0, .gateOverrideStop {} 0 4 0, .gateOverrideStop { mirror := true } 0 0 0,
    .gateFitTest 48, .ringSendRequest 64 (.cells 0), .ringPacketArrive 64 0 0 .good 0, .ringPacketArrive 0 64 0 .good 0,
    .ringPacketArrive 0 0 13 .good 0, .ringPacketArrive 0 0 0 .good 41, .ringPacketReturn 64 0 0, .ringPacketReturn 0 64 0, .ringPacketReturn 0 0 13,
    .ringReinject 64 0 0, .ringReinject 0 64 0, .ringReinject 0 0 13, .ringStarveReserve 64 0] : List Instr).all (fun i => !i.wellFormed) = true := by decide +kernel
/-- Well-formedness refuses a term for each of its checks: every number one past its range, a request that calls itself mirrored. -/
theorem test_wellFormed_refuses_c : ([
    .ringStarveReserve 0 4, .ringTimeout 64 0, .ringTimeout 0 1024, .ringStall 64 0, .ringStall 0 4, .ringDisable { mirror := true } 0,
    .hostPerstAssert 4, .hostPerstDeassert 4, .hostLinkReset 4 0 .hot, .hostLinkReset 0 2 .hot, .functionLevelReset 2048, .wqDoorbell 2048 0 0 0,
    .wqDoorbell 0 960 0 0, .wqDoorbell 0 0 16 0, .queueArm 2048 0 0 false 0, .queueArm 0 960 0 false 0, .queueArm 0 0 16 false 0,
    .pushWrite 2048 0 0 [], .pushWrite 0 960 0 [], .pushWrite 0 0 16 [], .barInvalidWrite { func := 2048 }, .barInvalidWrite { bar := 3 }, .barInvalidWrite { off := 4194304 }, .barInvalidWrite { len := 513 }, .wakeCause 2048, .pmPmeSend 2048, .pmcsrD0Write 2048,
    .pmeEnWrite 2048 false, .pmeStatusClear 2048, .ltrIdle 4 0, .ltrIdle 0 2, .l0pMeasure 4 0, .l0pMeasure 0 2, .aspmL1Request 4 0,
    .aspmL1Request 0 2, .wqFetch 65536, .sliceStart {} 256, .sliceStart { mirror := true } 0, .sliceRun {} 256, .sliceRun { mirror := true } 0,
    .sliceRecover {} 256, .sliceRecover { mirror := true } 0, .sliceTest {} 256, .sliceTest { mirror := true } 0, .sliceStop {} 256,
    .sliceStop { mirror := true } 0, .sliceReset {} 256, .sliceReset { mirror := true } 0, .sliceHalt {} 256, .sliceHalt { mirror := true } 0,
    .sliceStateSettled 256, .wakeTest {} 256 0, .wakeTest { mirror := true } 0 0, .createWq {} 256 0, .createWq { mirror := true } 0 0,
    .createCq {} 256 0, .createCq { mirror := true } 0 0, .createEq {} 256 0, .createEq { mirror := true } 0 0, .destroyWq {} 256 0,
    .destroyWq { mirror := true } 0 0, .destroyCq {} 256 0, .destroyCq { mirror := true } 0 0, .destroyEq {} 256 0] : List Instr).all (fun i => !i.wellFormed) = true := by decide +kernel
/-- Well-formedness refuses a term for each of its checks: every number one past its range, a request that calls itself mirrored. -/
theorem test_wellFormed_refuses_d : ([
    .destroyEq { mirror := true } 0 0, .resetWq {} 256 0, .resetWq { mirror := true } 0 0, .dispatchAdmit 32, .engineTake 512, .engineSteal 512,
    .engineRemoteSteal 512, .entryNop 512, .entrySend 512, .entryRecv 512, .entryPut 512, .entryPutImm 512, .entryGet 512, .entryAtomic 512,
    .entryCollective 512, .entryControlSend 512, .entrySegment 512, .engineItemLimit 512, .engineMemoryError 512, .arbiterGrant 16,
    .arbiterPreempt 16 0, .arbiterPreempt 0 256, .burstHandover 16, .lockClaim 4096 0 0 0, .lockClaim 0 256 0 0, .lockClaim 0 0 1024 0,
    .lockRelease 4096 0 0 0, .lockRelease 0 256 0 0, .lockRelease 0 0 1024 0, .lockRead 4096 0 0, .lockRead 0 256 0, .lockRead 0 0 1024,
    .lockBreak { mirror := true } 0, .tlbLoad { mirror := true } 0, .tlbInval { mirror := true } 0, .transRetry { mirror := true } 0,
    .transRetryFault { mirror := true } 0, .eager 8, .rts 8, .channelSync 8, .cts 8, .data 8, .done 8, .msgAck 8, .rdvAbort 8,
    .rdvTimeout {} 16777216 false, .overflowWalk 8192, .rankLoad 256 0 0, .rankInval {} 256 0, .rankInval { mirror := true } 0 0, .putData 64,
    .putNotify 64, .getReq 64, .atomicReq 64, .getResp 64, .atomicResp 64, .sack 64, .sackDelayExpiry {} 16777216, .retransmitTimeout {} 16777216,
    .regionInvalidate {} 65536 0, .regionInvalidate { mirror := true } 0 0] : List Instr).all (fun i => !i.wellFormed) = true := by decide +kernel
/-- Well-formedness refuses a term for each of its checks: every number one past its range, a request that calls itself mirrored. -/
theorem test_wellFormed_refuses_e : ([
    .collUp 4, .collDown 4, .collSummary 4, .collAbortReceive 4, .collSegmentSend 4096 0 false, .collSegmentSend 0 64 false, .collTimeout 4096,
    .collAbort { mirror := true } 0, .collEpoch { mirror := true } 0, .collSteep {} 4096 0, .collSteep { mirror := true } 0 0,
    .collSteepClear { mirror := true } 0, .poolAssign {} 1024 0, .poolAssign { mirror := true } 0 0, .poolRelease {} 1024 0,
    .poolRelease { mirror := true } 0 0, .poolZeroingDone 1024, .memLinkTrained 8 false 0 0, .memoryActive 8 0, .memActiveTimeout 8, .memLinkDown 8,
    .cxlMemError 8 none, .detach { mirror := true } 0, .handback { mirror := true } 0, .leadSwap { mirror := true } 0, .adopt { mirror := true } 0,
    .partnerReset { mirror := true } 0, .faultEvent [2048], .squallWindowExpiry 2048, .wireFault 2048, .graceExpiry 2048, .lullExpiry 2048,
    .faultAck { mirror := true } 0, .faultClear { mirror := true } 0, .forceEvents { mirror := true } 0, .forceWire { mirror := true } 0,
    .forceDisagree { mirror := true } 0, .timeSet { mirror := true } 0, .devReset { mirror := true } 0, .resetRelease 7 false 0,
    .snapshot { mirror := true } 0, .counterWindow {} 16 0, .counterWindow { mirror := true } 0 0, .windowStop {} 16 0,
    .windowStop { mirror := true } 0 0, .windowRecordWrite 16, .sampleCtl { mirror := true } 0, .sampleStop { mirror := true } 0,
    .sliceCounterRecord 256, .roleKey { mirror := true } 0 0, .forwardedClockReturn 49, .symbolLockLoss 49, .symbolLockRegained 49,
    .hostLinkStateChange 4 0 0 0 0 false, .hostLinkStateChange 0 2 0 0 0 false, .functionsReady 4 0, .functionsReady 0 2,
    .pcieConfigWrite 2048 .d3hot, .msixVectorUnmask 2048 .function] : List Instr).all (fun i => !i.wellFormed) = true := by decide +kernel
/-- Numbers at the end of their ranges are well formed. -/
theorem test_wellFormed_accepts : ([ .fdpWrite {} 65535 255 0 0 [], .authTimeout 16, .eqLoadDeferredStart 48, .portRole {} 47 0, .faultEvent [2047], .wqFetch 65535,
    .resetRelease 6 false 0, .lockClaim 4095 255 1023 0, .controlDelivery 63 ] : List Instr).all (fun i => i.wellFormed) = true := by decide +kernel

/-! The table gives no row any bits: no word spells a command. -/

theorem test_no_word : decodeTableWord 32 0 = none := by decide +kernel
theorem test_no_word_ones : decodeTableWord 128 (2 ^ 128 - 1) = none := by decide +kernel

/-! Values that the spec works out in its examples. -/

/-- 1,000 bytes take 9 cells, 4,096 take 33 (R38). -/
theorem test_cells : (cellsOf 1000, cellsOf 4096) = (9, 33) := by decide +kernel
/-- Device (17, 4, 9) has node address 0x01149 (chapter 0). -/
theorem test_node : (17 * 256 + 4 * 16 + 9 : Nat) = 0x1149 := by decide +kernel
/-- Packets of 9, 33 and 1 cells are charged 1,341, 4,917 and 149 bytes (chapter 7, under R206). -/
theorem test_charged : [9, 33, 1].map (fun n => chargedLen (R.egressOverhead.default 0 0) (if n = 1 then 96 else 96 + (n - 1) * 128)) = [1341, 4917, 149] := by
  decide +kernel
/-- The candidates of group route entry 0x8030_FFF7_144C_3786 (R172). -/
theorem test_candidates : (List.range 4).map (candOf 0x8030FFF7144C3786) =
    [some { idx := 0, port := 6, remote := 30 }, some { idx := 1, port := 3, remote := 19 }, some { idx := 2, port := 20, remote := 28 }, none] := by decide +kernel
/-- GREEN TC6 drops at input 1 are counter 2,645; data cells sent on the twin port are counter 1,536 (R634). -/
theorem test_counter_numbers : (((State.reset.countXbr 1 37).countPort 48 0).counters.map (·.1)) = [1536, 2645] := by decide +kernel
/-- The gate list of port 22: TC0 and TC3 open from tick 0, every class but TC3 from tick 250 (chapter 7, under R227). -/
theorem test_gate_list : (match gateListOf (leBytes 0x4E2 4 ++ leBytes 0x09000000 4 ++ leBytes 0xF70000FA 4) with
    | .ok g => some (g.cycle, g.openAt 0, g.openAt 249, g.openAt 250, g.openAt 1249)
    | .error _ => none) = some (1250, 0x09, 0x09, 0xF7, 0xF7) := by decide +kernel
/-- Slice 42's keys on a GLOBAL and on a ROW port (chapter 6, under R191). -/
def tStrain (role : Nat) : State :=
  ((({ State.reset with rolesOn := true }.setReg R.keyTable 0 0 0x8FC43A10).setReg R.keyTable 0 1 0x91003A1F).setReg R.portRole 0 0 (BitVec.ofNat 1024 (role * 2 ^ 29)))
theorem test_strain_global : ((tStrain 2).strain 0 0x3A10, (tStrain 2).strain 0 0x3A1F) = (.admitted, .refuse) := by decide +kernel
theorem test_strain_row : (tStrain 0).strain 0 0x3A1F = .admitted := by decide +kernel


/-! Hypotheses of EmptyQueueIdles are met. -/

theorem test_wit_idle : State.reset.pending = [] := by (repeat' apply And.intro) <;> decide +kernel

/-! Hypotheses of LifeCycleMovesLegally are met. -/

theorem test_wit_life : State.reset.lifeLegal ∧ step State.reset = .next State.reset :=
  ⟨(fun _ _ h => nomatch h), rfl⟩

/-! Hypotheses of RetiredStaysRetired are met. -/

/-- A retired device with nothing to do. -/
def tRetired : State := { State.reset with mgmt := { lifecycle := .retired } }
theorem test_wit_retired : tRetired.lifeLegal ∧ step tRetired = .next tRetired ∧ tRetired.mgmt.lifecycle = .retired :=
  ⟨(fun _ _ h => nomatch h), rfl, rfl⟩
def tMaker : State := { State.reset with mgmt := { lifecycle := .maker } }
theorem test_wit_maker : tMaker.lifeLegal ∧ step tMaker = .next tMaker ∧ tMaker.mgmt.lifecycle = .maker :=
  ⟨(fun _ _ h => nomatch h), rfl, rfl⟩

/-! Hypotheses of LeastVersionNeverFalls are met. -/

theorem test_wit_version : step State.reset = .next State.reset := rfl

/-! Hypotheses of DictionaryHoldsWhatIsWritten are met. -/

theorem test_wit_dict : Table.risingFrom none State.reset.dict = true ∧ Memory.wf [(3, 1), (7, 2)] = true
    ∧ R.nodeAddr.key 0 0 ≠ R.groupShape.key 0 0 := by (repeat' apply And.intro) <;> decide +kernel

/-! Hypotheses of LaneBringUpAdvances are met. -/

theorem test_wit_LaneBringUpAdvances_1 : ∃ (s : State) (p : Nat),
    (s.lane p).st = .synthLock :=
  ⟨tLane 0 { st := .synthLock }, 0, by decide +kernel⟩
theorem test_wit_LaneBringUpAdvances_2 : ∃ (s : State) (p : Nat),
    (s.lane p).st = .clockAcquire :=
  ⟨tLane 48 { st := .clockAcquire }, 48, by decide +kernel⟩
theorem test_wit_LaneBringUpAdvances_3 : ∃ (s : State) (p : Nat),
    (s.lane p).st = .phaseTrim :=
  ⟨tLane 47 { st := .phaseTrim }, 47, by decide +kernel⟩
theorem test_wit_LaneBringUpAdvances_4 : ∃ (s : State) (p : Nat) (arrivals : List Nat) (lo hi : Nat),
    (s.lane p).st = .align ∧ lo ∈ arrivals ∧ hi ∈ arrivals ∧ (∀ a ∈ arrivals, lo ≤ a ∧ a ≤ hi) ∧ hi ≤ lo + 255 :=
  ⟨tLane 48 { st := .align }, 48, [12, 10, 265, 11], 10, 265, by decide +kernel⟩
theorem test_wit_LaneBringUpAdvances_5 : ∃ (s : State) (p : Nat),
    (s.lane p).st = .fecLock ∧ (s.link p).flushing = false :=
  ⟨tLane 0 { st := .fecLock }, 0, by decide +kernel⟩

/-! Hypotheses of BringUpTimeoutsFail are met. -/

theorem test_wit_BringUpTimeoutsFail_1a : ∃ (s : State) (p : Nat) (st : LaneSt) (c : Instr) (f : LaneFail),
    (st, c, f) ∈ [(LaneSt.synthLock, Instr.synthLockTimeout p, LaneFail.synthLock), (.clockAcquire, .clockAcquireTimeout p, .noClock), (.phaseTrim, .phaseTrimTimeout p, .trim), (.align, .alignTimeout p, .noComma), (.fecLock, .fecLockTimeout p, .fecLock)] ∧ (s.lane p).st = st :=
  ⟨tLane 3 { st := .synthLock }, 3, .synthLock, .synthLockTimeout 3, .synthLock, by decide +kernel⟩
theorem test_wit_BringUpTimeoutsFail_1b : ∃ (s : State) (p : Nat) (st : LaneSt) (c : Instr) (f : LaneFail),
    (st, c, f) ∈ [(LaneSt.synthLock, Instr.synthLockTimeout p, LaneFail.synthLock), (.clockAcquire, .clockAcquireTimeout p, .noClock), (.phaseTrim, .phaseTrimTimeout p, .trim), (.align, .alignTimeout p, .noComma), (.fecLock, .fecLockTimeout p, .fecLock)] ∧ (s.lane p).st = st :=
  ⟨{ tLane 48 { st := .fecLock } with ops := [(176, { st := 2 })] }, 48, .fecLock, .fecLockTimeout 48, .fecLock, by decide +kernel⟩
theorem test_wit_BringUpTimeoutsFail_2 : ∃ (s : State) (p sel : Nat),
    (s.lane p).st = .retryWait ∧ s.role p ≠ 7 ∧ fldN (s.reg R.eqSelect p) 2 0 = sel ∧ bit (s.reg R.eqProfile p sel) 0 = true ∧ bit (s.reg R.eqProfile p sel) 1 = bit (s.reg R.laneCtl p) 1 :=
  ⟨tReady (tLane 0 { st := .retryWait, retries := 255 }) 0, 0, 0, by decide +kernel⟩

/-! Hypotheses of LostLockAndClock are met. -/

/-- A port whose lanes and link stand so. -/
def tPort (p : Nat) (l : Lane) (k : Link) : State := { State.reset with rolesOn := true, lanes := [(p, l)], links := [(p, k)] }
theorem test_wit_LostLockAndClock_1 : ∃ (s : State) (p : Nat),
    (s.lane p).st = .laneUp :=
  ⟨tLane 3 { st := .laneUp }, 3, by decide +kernel⟩
theorem test_wit_LostLockAndClock_3 : ∃ (s : State) (p : Nat),
    (s.lane p).st = .laneUp :=
  ⟨tLane 3 { st := .laneUp }, 3, by decide +kernel⟩
theorem test_wit_LostLockAndClock_4 : ∃ (s : State) (p : Nat),
    (s.lane p).rateActive = true :=
  ⟨tLane 3 { rateActive := true }, 3, by decide +kernel⟩
theorem test_wit_LostLockAndClock_6 : ∃ (s : State) (p : Nat),
    (s.lane p).st = .laneUp ∧ (s.lane p).lockLost = true ∧ (s.link p).st ≠ .down :=
  ⟨tPort 5 { st := .laneUp, lockLost := true } { st := .up }, 5, by decide +kernel⟩
theorem test_wit_LostLockAndClock_7 : ∃ (s : State) (p : Nat),
    (s.lane p).st = .laneUp ∧ (s.lane p).rxClock = false ∧ (s.link p).st ≠ .down :=
  ⟨tPort 48 { st := .laneUp } { st := .init }, 48, by decide +kernel⟩
theorem test_wit_LostLockAndClock_8 : ∃ (s : State) (p : Nat),
    (s.lane p).rateActive = true ∧ (s.lane p).symLoss = true ∧ (s.link p).pauseAt = none ∧ (s.link p).st ≠ .down :=
  ⟨tPort 0 { st := .laneUp, rateActive := true, symLoss := true, rxClock := true } { st := .up }, 0, by decide +kernel⟩

/-! Hypotheses of CalmWindowsRunTheirCourse are met. -/

/-- A calm cell of an operation, sealed. -/
def tCalm (op id : Nat) : LinkCell :=
  LinkCell.sealed { type := .calm, vc := 0x3F, body := (CtlMsg.calm { op := op, id := BitVec.ofNat 8 id, startDelay := 64, duration := 10 }).body }
/-- A device with a valid address whose port 3 is up with a partner of a valid address. -/
def tUp (l : Lane) : State :=
  { State.reset with rolesOn := true, active := [(R.nodeAddr.key 0 0, 0x80000001)]
                     lanes := [(3, l)], links := [(3, { st := .up, partner := some { addrValid := true, node := 2 } })] }
theorem test_wit_CalmWindowsRunTheirCourse_1 : ∃ (s : State) (p : Nat),
    s.calmable p = true ∧ s.nodeValid = true ∧ s.partnerValid p = true ∧ fldN (s.reg R.laneCtl p) 23 16 ≠ 0 ∧ (s.lane p).calmReq = none ∧ (s.lane p).calmWin = none :=
  ⟨tUp { st := .laneUp }, 3, by decide +kernel⟩
theorem test_wit_CalmWindowsRunTheirCourse_2 : ∃ (s : State) (p : Nat),
    s.calmable p = true ∧ s.nodeValid = true ∧ s.partnerValid p = true ∧ (s.lane p).calmRetry = true ∧ (s.lane p).calmWin = none :=
  ⟨tUp { st := .laneUp, calmRetry := true }, 3, by decide +kernel⟩
theorem test_wit_CalmWindowsRunTheirCourse_3 : ∃ (s : State) (p : Nat) (c : LinkCell) (i : CalmInfo),
    (s.link p).st ≠ .down ∧ c.damaged = false ∧ c.type = .calm ∧ calmOf c = i ∧ i.op = 1 ∧ (s.lane p).rateActive = false ∧ (s.lane p).calmReq = none ∧ s.calmSpaced p = true ∧ (s.lane p).patternWaits = false ∧ (s.lane p).st = .laneUp ∧ s.opActive 2 p = false :=
  ⟨tUp { st := .laneUp }, 3, tCalm 1 7, { op := 1, id := 7, startDelay := 64, duration := 10 }, by decide +kernel, sealed_good _ (by decide +kernel) (by decide +kernel) (by decide +kernel), by decide +kernel⟩
theorem test_wit_CalmWindowsRunTheirCourse_4 : ∃ (s : State) (p : Nat) (c : LinkCell) (i r : CalmInfo),
    (s.link p).st ≠ .down ∧ c.damaged = false ∧ c.type = .calm ∧ calmOf c = i ∧ i.op = 2 ∧ (s.lane p).calmReq = some r ∧ i.id = r.id :=
  ⟨tUp { st := .laneUp, calmReq := some { op := 1, id := 7 } }, 3, tCalm 2 7, { op := 2, id := 7, startDelay := 64, duration := 10 }, { op := 1, id := 7 }, by decide +kernel, sealed_good _ (by decide +kernel) (by decide +kernel) (by decide +kernel), by decide +kernel⟩
theorem test_wit_CalmWindowsRunTheirCourse_5 : ∃ (s : State) (p : Nat) (c : LinkCell) (i r : CalmInfo),
    (s.link p).st ≠ .down ∧ c.damaged = false ∧ c.type = .calm ∧ calmOf c = i ∧ i.op = 3 ∧ (s.lane p).calmReq = some r ∧ i.id = r.id :=
  ⟨tUp { st := .laneUp, calmReq := some { op := 1, id := 7 } }, 3, tCalm 3 7, { op := 3, id := 7, startDelay := 64, duration := 10 }, { op := 1, id := 7 }, by decide +kernel, sealed_good _ (by decide +kernel) (by decide +kernel) (by decide +kernel), by decide +kernel⟩
theorem test_wit_CalmWindowsRunTheirCourse_6 : ∃ (s : State) (p : Nat) (w : CalmWin),
    (s.lane p).st = .laneUp ∧ (s.lane p).calmWin = some w :=
  ⟨tUp { st := .laneUp, calmWin := some {} }, 3, {}, by decide +kernel⟩
theorem test_wit_CalmWindowsRunTheirCourse_7 : ∃ (s : State) (p : Nat),
    (s.lane p).st = .calm :=
  ⟨tUp { st := .calm }, 3, by decide +kernel⟩

/-! Hypotheses of DozeAndWake are met. -/

/-- The same port with DOZE_IDLE set, long idle. -/
def tIdle (l : Lane) : State := { tUp l with dict := [(R.laneCtl.key 3 0, 0x100)], uptime := 2000 }
theorem test_wit_DozeAndWake_1 : ∃ (s : State) (p : Nat),
    s.dozeIdle p ≠ 0 ∧ s.dozeDue p = true ∧ s.dozeAble p = true ∧ (s.lane p).dozeReq = none :=
  ⟨tIdle { st := .laneUp, txReady := true }, 3, by decide +kernel⟩
theorem test_wit_DozeAndWake_2 : ∃ (s : State) (p : Nat) (c : LinkCell),
    (s.link p).st = .up ∧ c.damaged = false ∧ c.type = .calm ∧ (calmOf c).op = 4 ∧ p ≠ 48 ∧ s.dozeIdle p ≠ 0 ∧ s.dozeDue p = true ∧ s.dozeAble p = true :=
  ⟨tIdle { st := .laneUp, txReady := true }, 3, tCalm 4 9, by decide +kernel, sealed_good _ (by decide +kernel) (by decide +kernel) (by decide +kernel), by decide +kernel⟩
theorem test_wit_DozeAndWake_3 : ∃ (s : State) (p : Nat) (c : LinkCell) (id : BitVec 8),
    (s.link p).st = .up ∧ c.damaged = false ∧ c.type = .calm ∧ (calmOf c).op = 5 ∧ (s.lane p).dozeReq = some id ∧ (calmOf c).id = id ∧ s.dozeAble p = true :=
  ⟨tIdle { st := .laneUp, txReady := true, dozeReq := some 9 }, 3, tCalm 5 9, 9, by decide +kernel, sealed_good _ (by decide +kernel) (by decide +kernel) (by decide +kernel), by decide +kernel⟩
theorem test_wit_DozeAndWake_4 : ∃ (s : State) (p : Nat) (c : LinkCell) (id : BitVec 8),
    (s.link p).st ≠ .down ∧ c.damaged = false ∧ c.type = .calm ∧ (calmOf c).op = 6 ∧ (s.lane p).dozeReq = some id ∧ (calmOf c).id = id ∧ (s.lane p).st = .laneUp :=
  ⟨tIdle { st := .laneUp, dozeReq := some 9 }, 3, tCalm 6 9, 9, by decide +kernel, sealed_good _ (by decide +kernel) (by decide +kernel) (by decide +kernel), by decide +kernel⟩
theorem test_wit_DozeAndWake_5 : ∃ (s : State) (p : Nat),
    (s.lane p).st = .doze ∧ (s.link p).bypassQ ≠ [] :=
  ⟨tPort 3 { st := .doze } { st := .doze, bypassQ := [4] }, 3, by decide +kernel⟩
theorem test_wit_DozeAndWake_6 : ∃ (s : State) (p : Nat),
    (s.lane p).st = .doze :=
  ⟨tLane 3 { st := .doze }, 3, by decide +kernel⟩
theorem test_wit_DozeAndWake_7 : ∃ (s : State) (p : Nat),
    (s.lane p).st = .wake ∧ (s.lane p).txReady = true ∧ (s.lane p).calmRetry = false :=
  ⟨tPort 3 { st := .wake, txReady := true } { st := .doze }, 3, by decide +kernel⟩
theorem test_wit_DozeAndWake_8 : ∃ (s : State) (p : Nat),
    (s.lane p).st = .wake ∧ (s.link p).st = .doze :=
  ⟨tPort 3 { st := .wake } { st := .doze }, 3, by decide +kernel⟩

/-! Hypotheses of LaneCommandsOfTheDictionary are met. -/

/-- A device at which port 3 stands so, and a session of a role. -/
def tServePort (l : Lane) (k : Link) (role : Role := .operator) : State :=
  tReady { tServe role with lanes := [(3, l)], links := [(3, k)], active := [(R.nodeAddr.key 0 0, 0x80000001)] } 3
theorem test_wit_LaneCommandsOfTheDictionary_1 : ∃ (s : State) (q : Req) (role : Role) (p : Nat) (v prof : Image),
    s.role p ≠ 7 ∧ s.mayWrite q role R.laneCtl p 0 (v ||| 1) = true ∧ p ≠ 48 ∧ bit v 2 = false ∧ (s.lane p).st ≠ .test ∧ (s.link p).st ≠ .down ∧ s.reg R.eqProfile p (fldN (s.reg R.eqSelect p) 2 0) = prof ∧ bit prof 0 = true ∧ bit prof 1 = bit (R.laneCtl.merge (s.reg R.laneCtl p) (v ||| 1)) 1 ∧ Table.risingFrom none s.dict = true :=
  ⟨tServePort { st := .laneUp } { st := .up }, tReq, .operator, 3, 0x320000, 1, by decide +kernel⟩
theorem test_wit_LaneCommandsOfTheDictionary_2 : ∃ (s : State) (q : Req) (role : Role) (p : Nat) (v : Image),
    s.mayWrite q role R.laneCtl p 0 (v ||| 4) = true ∧ p ≠ 48 ∧ bit v 0 = false ∧ (s.lane p).st = .doze :=
  ⟨tServePort { st := .doze } { st := .doze }, tReq, .operator, 3, 0x320000, by decide +kernel⟩
theorem test_wit_LaneCommandsOfTheDictionary_3 : ∃ (s : State) (q : Req) (role : Role) (p : Nat) (v : Image),
    s.role p ≠ 7 ∧ s.mayWrite q role R.testPattern p 0 v = true ∧ fldN v 2 0 ≠ 0 ∧ fldN v 2 0 ≤ 4 :=
  ⟨tServePort { st := .laneUp, txReady := true } { st := .up }, tReq, .operator, 3, 4, by decide +kernel⟩
theorem test_wit_LaneCommandsOfTheDictionary_4 : ∃ (s : State) (p : Nat),
    (s.lane p).st = .test ∧ (s.lane p).patternWaits = true ∧ (s.lane p).txReady = true :=
  ⟨tLane 3 { st := .test, patternWaits := true, txReady := true }, 3, by decide +kernel⟩
theorem test_wit_LaneCommandsOfTheDictionary_5 : ∃ (s : State) (q : Req) (role : Role) (p : Nat) (v : Image),
    s.role p ≠ 7 ∧ startPort v = some p ∧ s.mayOperate q role R.laneCalStart v 1 p = true ∧ bit (s.reg R.laneCtl p) 1 = false ∧ (s.link p).st = .up ∧ s.calmable p = true ∧ s.nodeValid = true ∧ s.partnerValid p = true ∧ (s.lane p).calmReq = none ∧ (s.lane p).calmWin = none :=
  ⟨tServePort { st := .laneUp } { st := .up, partner := some { addrValid := true, node := 2 } }, tReq, .operator, 3, 3, by decide +kernel⟩
theorem test_wit_LaneCommandsOfTheDictionary_6 : ∃ (s : State) (p : Nat),
    s.opActive 1 p = true :=
  ⟨{ State.reset with ops := [(64 + 48, { st := 2 })] }, 48, by decide +kernel⟩
theorem test_wit_LaneCommandsOfTheDictionary_7 : ∃ (s : State) (q : Req) (role : Role) (p : Nat) (v : Image),
    s.role p ≠ 7 ∧ startPort v = some p ∧ s.mayOperate q role R.eqLoadStart v 2 p = true ∧ (s.lane p).st = .calm :=
  ⟨tServePort { st := .calm } { st := .up } .installer, tReq, .installer, 3, 3, by decide +kernel⟩
theorem test_wit_LaneCommandsOfTheDictionary_8 : ∃ (s : State) (q : Req) (role : Role) (p : Nat) (v prof : Image),
    s.role p ≠ 7 ∧ startPort v = some p ∧ s.mayOperate q role R.eqLoadStart v 2 p = true ∧ (s.lane p).st ≠ .calm ∧ (s.lane p).st ≠ .test ∧ (s.link p).st ≠ .down ∧ s.reg R.eqProfile p (fldN (s.reg R.eqSelect p) 2 0) = prof ∧ bit prof 0 = true ∧ bit prof 1 = bit (s.reg R.laneCtl p) 1 :=
  ⟨tServePort { st := .laneUp } { st := .up } .installer, tReq, .installer, 3, 3, 1, by decide +kernel⟩
theorem test_wit_LaneCommandsOfTheDictionary_9 : ∃ (s : State) (p : Nat) (prof : Image),
    s.role p ≠ 7 ∧ (s.op 2 p).st = 1 ∧ (s.lane p).st ≠ .calm ∧ (s.lane p).st ≠ .test ∧ (s.link p).st ≠ .down ∧ s.reg R.eqProfile p (fldN (s.reg R.eqSelect p) 2 0) = prof ∧ bit prof 0 = true ∧ bit prof 1 = bit (s.reg R.laneCtl p) 1 :=
  ⟨{ tServePort { st := .laneUp } { st := .up } with ops := [(131, { st := 1 })] }, 3, 1, by decide +kernel⟩

/-! Hypotheses of LinkTransmits are met. -/

/-- A port with one cell of class 1 in its egress stage and a credit for it. -/
def tEgress : State :=
  { tPort 3 { st := .laneUp, txReady := true } { st := .up, credits := [(6, 1)] } with
    outputs := [(3, { egress := [{ vc := 6, cls := 1, first := true, last := true }] })] }
theorem test_wit_LinkTransmits_1 : ∃ (s : State) (p : Nat) (m : CtlMsg) (ms : List CtlMsg),
    (s.lane p).txReady = true ∧ (s.lane p).st = .laneUp ∧ (s.link p).st ≠ .down ∧ (s.link p).ctlQ = m :: ms ∧ spanEnds (s.stream p).cells = false :=
  ⟨tPort 3 { st := .laneUp, txReady := true } { st := .up, ctlQ := [.nak 5, .nak 6], nextSeq := 4095 }, 3, .nak 5, [.nak 6], by decide +kernel⟩
theorem test_wit_LinkTransmits_2 : ∃ (s : State) (p : Nat),
    (s.lane p).txReady = true ∧ (s.lane p).st = .laneUp ∧ (s.link p).ctlQ = [] ∧ (s.link p).bypassQ = [] ∧ (s.link p).st.running = true ∧ (s.link p).replayAt = none ∧ s.pickCell p = none ∧ spanEnds (s.stream p).cells = false :=
  ⟨tPort 48 { st := .laneUp, txReady := true } { st := .up }, 48, by decide +kernel⟩
theorem test_wit_LinkTransmits_3 : ∃ (s : State) (p n : Nat) (e : EgCell),
    (s.lane p).txReady = true ∧ (s.lane p).st = .laneUp ∧ (s.link p).ctlQ = [] ∧ (s.link p).bypassQ = [] ∧ (s.link p).st.running = true ∧ (s.link p).replayAt = none ∧ (s.link p).occupied < replayRoom p ∧ s.pickCell p = some n ∧ (s.offered p)[n]? = some e ∧ e.abort = none ∧ (s.link p).again = [] :=
  ⟨tEgress, 3, 0, { vc := 6, cls := 1, first := true, last := true }, by decide +kernel⟩
theorem test_wit_LinkTransmits_4 : ∃ (s : State) (p : Nat),
    (s.link p).st.running = true ∧ (s.link p).bypassQ.length < 64 :=
  ⟨tPort 3 {} { st := .up, reportSeq := 255 }, 3, by decide +kernel⟩

/-! Hypotheses of LinkReceivesInSequence are met. -/

theorem test_wit_LinkReceivesInSequence_1 : ∃ (s : State) (p : Nat) (c : LinkCell),
    (s.link p).st.running = true ∧ c.damaged = false ∧ c.isData = true ∧ c.lseq = (s.link p).expect :=
  ⟨tPort 3 {} { st := .up, expect := 7 }, 3, LinkCell.sealed { lseq := 7, vc := 0, type := .only }, by decide +kernel, sealed_good _ (by decide +kernel) (by decide +kernel) (by decide +kernel), by decide +kernel⟩
theorem test_wit_LinkReceivesInSequence_2 : ∃ (s : State) (p : Nat) (c : LinkCell),
    (s.link p).st.running = true ∧ c.damaged = false ∧ c.isData = true ∧ 0 < seqAhead 12 c.lseq (s.link p).expect ∧ seqAhead 12 c.lseq (s.link p).expect < 2048 ∧ (s.link p).nakAt = none :=
  ⟨tPort 3 {} { st := .up, expect := 7 }, 3, LinkCell.sealed { lseq := 2054, vc := 0, type := .only }, by decide +kernel, sealed_good _ (by decide +kernel) (by decide +kernel) (by decide +kernel), by decide +kernel⟩
theorem test_wit_LinkReceivesInSequence_4 : ∃ (s : State) (p : Nat) (c : LinkCell) (x stamp : Nat),
    (s.link p).st.running = true ∧ c.damaged = false ∧ c.isAbort = true ∧ c.lseq = (s.link p).expect ∧ (s.input x).nextStamp ≠ 0 ∧ Table.get RxOpen.none (s.link p).rxOpen c.vc.toNat = .pkt x stamp :=
  ⟨{ tPort 3 {} { st := .up, rxOpen := [(6, .pkt 3 4)] } with inputs := [(3, { nextStamp := 5, pkts := [{ stamp := 4 }] })] }, 3, LinkCell.sealed { vc := 6, type := .control, body := 0x0106 }, 3, 4, by decide +kernel, sealed_good _ (by decide +kernel) (by decide +kernel) (by decide +kernel), by decide +kernel⟩
theorem test_wit_LinkReceivesInSequence_5 : ∃ (s : State) (p : Nat) (c : LinkCell),
    (s.link p).st.running = true ∧ c.damaged = false ∧ c.type = .idle ∧ c.lseq = (s.link p).expect :=
  ⟨tPort 3 {} { st := .wiringFault, expect := 9 }, 3, LinkCell.sealed { lseq := 9, pressure := 255 }, by decide +kernel, sealed_good _ (by decide +kernel) (by decide +kernel) (by decide +kernel), by decide +kernel⟩
theorem test_wit_LinkReceivesInSequence_6 : ∃ (s : State) (p : Nat) (c : LinkCell),
    (s.link p).st.running = true ∧ c.damaged = false ∧ c.type = .bypass ∧ c.lseq = (s.link p).expect ∧ p ≠ 48 ∧ fldN c.body 7 0 = 1 ∧ (∀ i ∈ [1, 2, 3, 4, 5, 6, 7], fldN (c.body.extractLsb' (128 * i) 128) 7 0 = 0) :=
  ⟨tPort 3 {} { st := .up }, 3, LinkCell.sealed { type := .bypass, body := 0x30001 }, by decide +kernel, sealed_good _ (by decide +kernel) (by decide +kernel) (by decide +kernel), by decide +kernel⟩
theorem test_wit_LinkReceivesInSequence_7 : ∃ (s : State) (p : Nat) (c : LinkCell),
    (s.link p).st.running = true ∧ c.damaged = false ∧ c.type = .bypass ∧ c.lseq = (s.link p).expect ∧ fldN c.body 7 0 = 2 ∧ (∀ i ∈ [1, 2, 3, 4, 5, 6, 7], fldN (c.body.extractLsb' (128 * i) 128) 7 0 = 0) :=
  ⟨tPort 3 {} { st := .up }, 3, LinkCell.sealed { type := .bypass, body := 0x30002 }, by decide +kernel, sealed_good _ (by decide +kernel) (by decide +kernel) (by decide +kernel), by decide +kernel⟩

/-! Hypotheses of LinkComesUpAndGoesDown are met. -/

/-- A LINK_INIT_ACK echoes its epoch. -/
theorem ack_op (op : Nat) (h : op = 2) (f : Bool) (e : BitVec 16) :
    LinkCellIs (LinkCell.sealed { type := .control, body := (CtlMsg.linkInitAck f e).body }) op = true
    ∧ (LinkCell.sealed { type := .control, body := (CtlMsg.linkInitAck f e).body }).body.extractLsb' 16 16 = e := by
  subst h
  have he := e.isLt
  have hb : (CtlMsg.linkInitAck f e).body.toNat = 2 + 256 * b2n f + 65536 * e.toNat := by
    show (BitVec.ofNat 1024 (2 + at' 8 (b2n f) + at' 16 e.toNat)).toNat = _
    rw [BitVec.toNat_ofNat, Nat.mod_eq_of_lt]
    · unfold at'; omega
    · refine Nat.lt_of_lt_of_le (m := 2 ^ 40) ?_ (Nat.pow_le_pow_right (by decide) (by decide))
      unfold at'; cases f <;> simp [b2n] <;> omega
  constructor
  · have : bodyByte (CtlMsg.linkInitAck f e).body 0 = 2 := by
      unfold bodyByte fldN
      simp only [hb]
      cases f <;> simp [b2n] <;> omega
    show (_ && !LinkCell.isAbort _ && bodyByte (CtlMsg.linkInitAck f e).body 0 == 2) = true
    rw [this]; rfl
  · show BitVec.extractLsb' 16 16 (CtlMsg.linkInitAck f e).body = e
    apply BitVec.eq_of_toNat_eq
    rw [BitVec.extractLsb'_toNat, hb]
    cases f <;> simp [b2n] <;> omega
theorem test_wit_LinkComesUpAndGoesDown_1 : ∃ (s : State) (p : Nat) (c : LinkCell),
    (s.link p).st = .init ∧ c.damaged = false ∧ LinkCellIs c 1 = true :=
  ⟨tPort 3 { st := .laneUp } { st := .init }, 3, LinkCell.sealed { type := .control, body := (CtlMsg.linkInit { epoch := 5, node := 2 }).body }, by decide +kernel, sealed_good _ (by decide +kernel) (by decide +kernel) (by decide +kernel), by decide +kernel⟩
theorem test_wit_LinkComesUpAndGoesDown_2 : ∃ (s : State) (p : Nat) (c : LinkCell) (i : InitInfo),
    (s.link p).st = .init ∧ c.damaged = false ∧ LinkCellIs c 2 = true ∧ c.body.extractLsb' 16 16 = s.epoch p ∧ (s.link p).initRx = some i :=
  ⟨tPort 3 { st := .laneUp } { st := .init, initRx := some { epoch := 5, node := 2 } }, 3, LinkCell.sealed { type := .control, body := (CtlMsg.linkInitAck true (Config.linkEpoch 3 0)).body }, { epoch := 5, node := 2 }, by decide +kernel, sealed_good _ (by decide +kernel) (by decide +kernel) (by decide +kernel), (ack_op 2 rfl _ _).1, (ack_op 2 rfl _ _).2, by decide +kernel⟩
theorem test_wit_LinkComesUpAndGoesDown_3 : ∃ (s : State) (p : Nat),
    (s.link p).st = .init :=
  ⟨tPort 3 {} { st := .init }, 3, by decide +kernel⟩
theorem test_wit_LinkComesUpAndGoesDown_4 : ∃ (s : State) (p : Nat),
    (s.link p).st = .init ∧ (s.link p).pauseAt = none :=
  ⟨tPort 0 { st := .laneUp, txReady := true } { st := .init }, 0, by decide +kernel⟩
theorem test_wit_LinkComesUpAndGoesDown_5 : ∃ (s : State) (p : Nat) (c : LinkCell),
    (s.link p).st ≠ .down ∧ c.damaged = false ∧ LinkCellIs c 4 = true :=
  ⟨tPort 0 { st := .laneUp, txReady := true } { st := .up }, 0, LinkCell.sealed { type := .control, body := (CtlMsg.linkDown 7).body }, by decide +kernel, sealed_good _ (by decide +kernel) (by decide +kernel) (by decide +kernel), by decide +kernel⟩
theorem test_wit_LinkComesUpAndGoesDown_6 : ∃ (s : State) (p : Nat),
    (s.link p).st.running = true ∧ (s.lane p).rateActive = false ∧ (s.link p).pauseAt = none ∧ fldN (s.eff R.linkDownRule p) 7 0 * (s.link p).winCells < (s.link p).winReplays * 1000000 :=
  ⟨tPort 0 { st := .laneUp, txReady := true } { st := .up, winCells := 10, winReplays := 10 }, 0, by decide +kernel⟩
theorem test_wit_LinkComesUpAndGoesDown_7 : ∃ (s : State) (p : Nat),
    (s.link p).st.running = true ∧ (s.link p).pauseAt = none ∧ (s.link p).winReplays * 1000000 ≤ fldN (s.eff R.linkDownRule p) 7 0 * (s.link p).winCells :=
  ⟨tPort 0 {} { st := .up, winCells := 10 }, 0, by decide +kernel⟩
theorem test_wit_LinkComesUpAndGoesDown_8 : ∃ (s : State) (p : Nat) (c : LinkCell),
    (s.link p).st.running = true ∧ c.damaged = false ∧ LinkCellIs c 5 = true ∧ bit c.body 8 = true ∧ (s.link p).st ≠ .wiringFault :=
  ⟨tPort 0 {} { st := .up }, 0, LinkCell.sealed { type := .control, body := (CtlMsg.wiringNotice true).body }, by decide +kernel, sealed_good _ (by decide +kernel) (by decide +kernel) (by decide +kernel), by decide +kernel⟩
theorem test_wit_LinkComesUpAndGoesDown_9 : ∃ (s : State) (p : Nat),
    (s.link p).st = .wiringFault :=
  ⟨tPort 0 {} { st := .wiringFault }, 0, by decide +kernel⟩

/-! Hypotheses of ReplayAndFlush are met. -/

/-- A port with two cells not acknowledged, of TC2, and a NAK for the second. -/
def tReplay : State :=
  tPort 3 {} { st := .up, nextSeq := 3, replay := [{ seq := 1, vc := 12, first := true, last := true }, { seq := 2, vc := 12, first := true, last := true }] }
def tNak : LinkCell := LinkCell.sealed { lseq := 0, ackSeq := 0, type := .control, body := (CtlMsg.nak 2).body }
theorem test_wit_ReplayAndFlush_1 : ∃ (s u : State) (p : Nat) (c : LinkCell) (e : BitVec 12),
    (s.link p).st.running = true ∧ c.damaged = false ∧ LinkCellIs c 3 = true ∧ s.headerUpdate p c = u ∧ c.body.extractLsb' 16 12 = e ∧ (e - (u.link p).oldest).toNat < ((u.link p).nextSeq - (u.link p).oldest).toNat ∧ u.replayRecent p e = false ∧ (u.link p).replayAt = none ∧ (u.link p).stallCount < 7 :=
  ⟨tReplay, tReplay.headerUpdate 3 tNak, 3, tNak, 2, by decide +kernel, sealed_good _ (by decide +kernel) (by decide +kernel) (by decide +kernel), by decide +kernel⟩
theorem test_wit_ReplayAndFlush_2 : ∃ (s : State) (p : Nat),
    (s.link p).st.running = true ∧ (s.link p).pauseAt = none ∧ (s.link p).oldest ≠ (s.link p).nextSeq ∧ (s.link p).stallCount < 7 :=
  ⟨tReplay, 3, by decide +kernel⟩
theorem test_wit_ReplayAndFlush_3 : ∃ (s : State) (q : Req) (role : Role) (p : Nat) (v : Image),
    s.mayWrite q role R.linkCtl p 0 v = true ∧ bit v 0 = true ∧ (s.link p).st = .down :=
  ⟨tServePort {} {}, tReq, .operator, 3, 1, by decide +kernel⟩
theorem test_wit_ReplayAndFlush_4 : ∃ (s : State) (p : Nat),
    (s.link p).flushing = true ∧ (s.link p).initWaits = false ∧ (s.link p).epochNo ≠ 0 :=
  ⟨tPort 3 {} { flushing := true, epochNo := 1 }, 3, by decide +kernel⟩
theorem test_wit_ReplayAndFlush_5 : ∃ (s : State) (p : Nat),
    (s.link p).flushing = true ∧ (s.link p).initWaits = true ∧ (s.lane p).st = .laneUp :=
  ⟨tPort 3 { st := .laneUp } { flushing := true, initWaits := true }, 3, by decide +kernel⟩

/-! Hypotheses of TokenMovesOnePacketHead are met. -/

/-- Port 3 is up and one packet of class 7 for it waits at input 5; class 7 is strict there. -/
def tToken : State :=
  let s := tReady { State.reset with rolesOn := true, lanes := [(3, { st := .laneUp, txReady := true })], links := [(3, { st := .up, credits := [(42, 1)] })]
                                     inputs := [(5, { nextStamp := 1, pkts := [{ out := 3, vc := 42, inVc := 42, hdr := { cls := 7 }, cells := [9], arrived := 1 }] })] } 3
  s.setReg R.egressClass 3 7 0x20001
theorem test_wit_TokenMovesOnePacketHead_1 : ∃ (s u : State),
    s.tokenStart = u ∧ u.requests = [] :=
  ⟨State.reset, State.reset, by decide +kernel⟩
theorem test_wit_TokenMovesOnePacketHead_2 : ∃ (s u : State) (r : Request) (k : VPkt) (b : BitVec 1024) (rest : List (BitVec 1024)),
    s.tokenStart = u ∧ u.requests = [r] ∧ r.inp < 61 ∧ r.out < 61 ∧ r.cls < 8 ∧ (u.input r.inp).find r.stamp = some k ∧ k.cells = b :: rest ∧ k.out = r.out ∧ u.strict r.out r.cls = true ∧ u.shaped r.out r.cls = false ∧ u.gateOpen r.out r.cls = true ∧ Table.risingFrom none u.inputs = true ∧ Table.risingFrom none u.outputs = true :=
  ⟨tToken, tToken, { inp := 5, out := 3, cls := 7, stamp := 0 }, { out := 3, vc := 42, inVc := 42, hdr := { cls := 7 }, cells := [9], arrived := 1 }, 9, [], by decide +kernel⟩

/-! Hypotheses of RunningAveragesFollowBacklogs are met. -/

theorem test_wit_RunningAveragesFollowBacklogs_1 : ∃ (s : State) (o c a b w : Nat),
    o < 61 ∧ c < 8 ∧ Table.risingFrom none s.outputs = true ∧ Table.risingFrom none (s.output o).avg = true ∧ Table.risingFrom none (s.output o).bLast = true ∧ Table.get 0 (s.output o).avg c = a ∧ s.backlog o c = b ∧ fldN (s.reg R.congMode 0 c) 7 4 = w :=
  ⟨{ tToken with outputs := [(3, { avg := [(7, 100)] })] }, 3, 7, 100, 1, 4, by decide +kernel⟩

/-! Hypotheses of BanksSwapAndPortsTakeRoles are met. -/

theorem test_wit_BanksSwapAndPortsTakeRoles_1 : ∃ (s : State) (q : Req) (role : Role) (e : Nat),
    s.mayOperate q role R.boolStart 1 6 0 = true ∧ s.orderedChange = false ∧ Table.risingFrom none s.dict = true ∧ e < 4096 :=
  ⟨(tServe .operator).setReg R.groupRouteStage 0 9 0x8000000000FC0FC3, tReq, .operator, 9, by decide +kernel⟩
theorem test_wit_BanksSwapAndPortsTakeRoles_2 : ∃ (s : State) (q : Req) (role : Role) (e : Nat),
    s.mayOperate q role R.boolStart 1 7 0 = true ∧ Table.risingFrom none s.dict = true ∧ e < 4096 :=
  ⟨(tServe .operator).setReg R.keyTableStage 0 4095 0x80400005, tReq, .operator, 4095, by decide +kernel⟩
theorem test_wit_BanksSwapAndPortsTakeRoles_3 : ∃ (s : State) (e : Nat),
    s.opActive 6 = true ∧ Table.risingFrom none s.dict = true ∧ e < 4096 :=
  ⟨{ (tServe .operator).setReg R.groupRoute 0 9 0x8000000000FC0FC3 with ops := [(384, { st := 2 })] }, 9, by decide +kernel⟩
theorem test_wit_BanksSwapAndPortsTakeRoles_4 : ∃ (s : State) (e : Nat),
    s.opActive 7 = true ∧ Table.risingFrom none s.dict = true ∧ e < 4096 :=
  ⟨{ (tServe .operator).setReg R.keyTable 0 0 0x80400005 with ops := [(448, { st := 2 })] }, 0, by decide +kernel⟩
theorem test_wit_BanksSwapAndPortsTakeRoles_5 : ∃ (s : State) (q : Req) (role : Role) (v : Image) (i : Nat),
    s.mayWrite q role R.keyInsert 0 0 v = true ∧ s.keyEntryBad none v = false ∧ s.keySlot = some i ∧ s.opActive 7 = false ∧ Table.risingFrom none s.dict = true :=
  ⟨(tServe .operator).setReg R.keyTableStage 0 0 0x80400005, tReq, .operator, 0x80400006, 1, by decide +kernel⟩
theorem test_wit_BanksSwapAndPortsTakeRoles_6 : ∃ (s : State) (q : Req) (role : Role) (p : Nat) (v : Image),
    s.mayWrite q role R.portRole 0 p v = true ∧ s.portRoleBad p v = false ∧ fldN v 31 29 = 7 ∧ s.role p ≠ 7 ∧ p < 48 ∧ Table.risingFrom none s.dict = true ∧ Table.risingFrom none s.lanes = true :=
  ⟨{ tServePort { st := .laneUp } { st := .up } .installer with active := [(R.groupShape.key 0 0, 0xFF)] }, tReq, .installer, 3, 0xEFFF0000, by decide +kernel⟩
theorem test_wit_BanksSwapAndPortsTakeRoles_7 : ∃ (s : State) (q : Req) (role : Role) (p : Nat) (v prof : Image),
    s.mayWrite q role R.portRole 0 p v = true ∧ s.portRoleBad p v = false ∧ fldN v 31 29 ≠ 7 ∧ s.role p = 7 ∧ p < s.straps.ports ∧ p < 48 ∧ s.rolesOn = true ∧ s.isolated.contains p = false ∧ (s.lane p).patternWaits = false ∧ Table.risingFrom none s.dict = true ∧ s.reg R.eqProfile p (fldN (s.reg R.eqSelect p) 2 0) = prof ∧ bit prof 0 = true ∧ bit prof 1 = bit (s.reg R.laneCtl p) 1 :=
  ⟨{ (tServe .installer).setReg R.eqProfile 3 0 1 with active := [(R.groupShape.key 0 0, 0xFF)] }, tReq, .installer, 3, 0x8FFF0000, 1, by decide +kernel⟩

/-! Hypotheses of GatesOpenAndClose are met. -/

/-- The port of `tEgress` with its gate enabled and every class open. -/
def tGated : State := { tEgress with outputs := [(3, { gate := { enable := true }, egress := [{ vc := 6, cls := 1, first := true, last := true }] })] }
theorem test_wit_GatesOpenAndClose_1 : ∃ (s : State) (q : Req) (role : Role) (p : Nat) (bytes : List Byte) (l : GateList),
    s.mayWrite q role R.gateLoad p 0 0 = true ∧ gateListOf bytes = .ok l ∧ (s.output p).gate.switchAt = none :=
  ⟨tServe .operator, tReq, .operator, 3, [100, 0, 0, 0, 0, 0, 0, 0x81], { cycle := 100, entries := [{ opens := 0x81, offset := 0 }] }, by decide +kernel, rfl, by decide +kernel⟩
theorem test_wit_GatesOpenAndClose_2 : ∃ (s : State) (q : Req) (role : Role) (p : Nat) (v : Image) (l : GateList),
    s.mayWrite q role R.gateSwitch p 0 v = true ∧ (s.output p).gate.staged = some l ∧ s.tick < fldN v 63 0 / 8 :=
  ⟨{ tServe .operator with outputs := [(3, { gate := { staged := some {} } })] }, tReq, .operator, 3, 8, {}, by decide +kernel⟩
theorem test_wit_GatesOpenAndClose_3 : ∃ (s : State) (q : Req) (role : Role) (p : Nat) (v : Image) (l : GateList),
    s.mayWrite q role R.gateSwitch p 0 v = true ∧ (s.output p).gate.staged = some l ∧ fldN v 63 0 / 8 ≤ s.tick :=
  ⟨{ tServe .operator with outputs := [(3, { gate := { staged := some {} } })] }, tReq, .operator, 3, 7, {}, by decide +kernel⟩
theorem test_wit_GatesOpenAndClose_4 : ∃ (s : State) (p n : Nat) (l : GateList),
    (s.output p).gate.switchAt = some n ∧ n ≤ s.tick ∧ (s.output p).gate.staged = some l :=
  ⟨{ State.reset with outputs := [(3, { gate := { staged := some {}, switchAt := some 0 } })] }, 3, 0, {}, by decide +kernel⟩
theorem test_wit_GatesOpenAndClose_6 : ∃ (s : State) (q : Req) (role : Role) (p k : Nat) (v : Image) (f : Fdp) (w : Window),
    s.mayWrite q role R.gateOverride p k v = true ∧ overrideBad v = false ∧ k < (s.output p).gate.overrides.length ∧ submitWindow (fldN v 63 0) (fldN v 127 64) s.tick = some (f, w) ∧ (nthD {} (s.output p).gate.overrides k).win.st = .free :=
  ⟨tServe .operator, tReq, .operator, 3, 3, (2 : Image) ^^^ ((0x80 : Image) <<< 128) ^^^ ((800 : Image) <<< 64), .lateStart, { st := .running, start := 0, stop := some 100 }, by decide +kernel⟩
theorem test_wit_GatesOpenAndClose_7 : ∃ (s : State) (q : Req) (role : Role) (p k : Nat) (v : Image),
    s.mayWrite q role R.gateOverrideStop p k v = true ∧ k < (s.output p).gate.overrides.length ∧ Table.risingFrom none s.outputs = true :=
  ⟨{ tServe .operator with outputs := [(3, { gate := { overrides := [{ win := { st := .running } }, {}, {}, {}] } })] }, tReq, .operator, 3, 0, 80, by decide +kernel⟩
theorem test_wit_GatesOpenAndClose_8 : ∃ (s : State) (p n : Nat) (e : EgCell),
    s.pickCell p = some n ∧ (s.offered p)[n]? = some e ∧ e.first = true ∧ s.gated p e.cls = true ∧ (s.link p).ctlQ = [] ∧ (s.link p).replayAt = none ∧ (s.link p).bypassQ = [] :=
  ⟨tGated, 3, 0, { vc := 6, cls := 1, first := true, last := true }, by decide +kernel⟩

/-! Hypotheses of RingPacketsTravel are met. -/

/-- A device whose four rings are in service and route all stops as by default, some tokens after reset. -/
def tRing : State := { State.reset with totals := [(20288, 9)] }
/-- A posted unit on its way from stop 3 to stop 5. -/
def tUnit : RingPkt := { src := 3, dst := 5, kind := 10, units := 2, place := .flying }
theorem test_wit_RingPacketsTravel_1 : ∃ (s : State) (st dst kind r n : Nat),
    (kind = kindRead ∨ kind = kindWrite) ∧ s.ringRoute st dst kind = some r ∧ s.freeTag st = some n :=
  ⟨tRing, 3, 6, 8, 0, 0, by decide +kernel⟩
theorem test_wit_RingPacketsTravel_2 : ∃ (s : State) (st dst r : Nat),
    s.ringRoute st dst kindPost = some r :=
  ⟨tRing, 3, 6, 0, by decide +kernel⟩
theorem test_wit_RingPacketsTravel_3 : ∃ (s : State) (src dst free : Nat) (p : RingPkt),
    s.ringNext src dst kindPost = some p ∧ s.ringBlocked p = false ∧ s.takesKind p = true ∧ p.units + 1 + ringRes p.age ≤ min free (s.ejectFree p.dst p.ring) ∧ islandOf p.dst = none ∧ p.kind = kindPost ∧ p.item = none ∧ p.seq = Table.get 0 s.rings.expect (flowKey p.src p.dst p.kind) :=
  ⟨tRing.updRings (fun r => { r with pkts := [tUnit] }), 3, 5, 18, tUnit, by decide +kernel⟩
theorem test_wit_RingPacketsTravel_4 : ∃ (s : State) (src dst kind free : Nat) (p : RingPkt),
    s.ringNext src dst kind = some p ∧ min free (s.ejectFree p.dst p.ring) < p.units + 1 + ringRes p.age :=
  ⟨tRing.updRings (fun r => { r with pkts := [tUnit] }), 3, 5, 10, 17, tUnit, by decide +kernel⟩
theorem test_wit_RingPacketsTravel_5 : ∃ (s : State) (src dst kind : Nat) (p : RingPkt),
    s.rings.pkts.find? (fun p => p.inFlow src dst kind && p.place == .refused) = some p ∧ p.since + 64 ≤ s.tokens :=
  ⟨{ tRing.updRings (fun r => { r with pkts := [{ tUnit with place := .refused }] }) with totals := [(20288, 64)] }, 3, 5, 10, { tUnit with place := .refused }, by decide +kernel⟩
theorem test_wit_RingPacketsTravel_6 : ∃ (s : State) (src dst kind r : Nat) (p : RingPkt),
    s.rings.pkts.find? (fun p => p.inFlow src dst kind && (p.place == .queued || p.place == .returned)) = some p ∧ p.place = .returned ∧ s.ringRoute src dst kind = some r ∧ p.since + 64 * fldN (s.reg R.ringCtl) 11 8 ≤ s.tokens ∧ Table.get 0 s.rings.holds (flowKey src dst kind) ≤ s.tokens :=
  ⟨{ tRing.updRings (fun r => { r with pkts := [{ tUnit with place := .returned }] }) with totals := [(20288, 9999)] }, 3, 5, 10, 0, { tUnit with place := .returned }, by decide +kernel⟩
theorem test_wit_RingPacketsTravel_7 : ∃ (s : State) (st r : Nat) (p : RingPkt),
    s.nextInjection r st s.tokens = some p ∧ s.hasResv r st = false ∧ (∀ v ∈ s.rings.resv, ¬(v.ring = r ∧ v.slot = slotAt r st s.tokens)) ∧ p.since + fldN (s.reg R.ringCtl) 19 12 ≤ s.tokens :=
  ⟨{ tRing.updRings (fun r => { r with pkts := [{ tUnit with place := .queued }] }) with totals := [(20288, 9999)] }, 3, 0, { tUnit with place := .queued }, by decide +kernel⟩
theorem test_wit_RingPacketsTravel_8 : ∃ (s : State) (st tag : Nat) (g : RingTag),
    Table.get ({} : RingTag) s.rings.tags (1024 * st + tag) = g ∧ g.st = .busy .device :=
  ⟨tRing.updRings (fun r => { r with tags := [(3072, { st := .busy .device })] }), 3, 0, { st := .busy .device }, by decide +kernel⟩

/-! Hypotheses of RingsLeaveService are met. -/

theorem test_wit_RingsLeaveService_1 : ∃ (s : State) (r : Nat),
    s.ringUp r = true ∧ r < 4 ∧ Table.risingFrom none s.dict = true :=
  ⟨tRing, 3, by decide +kernel⟩
theorem test_wit_RingsLeaveService_2 : ∃ (s : State) (q : Req) (role : Role) (v : Image) (r : Nat),
    s.mayWrite q role R.ringCtl 0 0 v = true ∧ s.ringCtlBad v = false ∧ r < 4 ∧ Table.risingFrom none s.dict = true :=
  ⟨tServe .installer, tReq, .installer, 0x0144010E, 0, by decide +kernel⟩
theorem test_wit_RingsLeaveService_3 : ∃ (s : State),
    Table.risingFrom none s.rings.waits = true :=
  ⟨tRing, by decide +kernel⟩
theorem test_wit_RingsLeaveService_4 : ∃ (s : State),
    Table.risingFrom none s.rings.waits = true :=
  ⟨tRing, by decide +kernel⟩

/-! Hypotheses of HostMailboxAndBars are met. -/

/-- Host port 0 is up; function 0, bound to slice 0, has memory space and bus master enabled. -/
def tHost : State :=
  { (tServe .operator).setReg R.funcMap 0 0 0x80000000 with
    host := { ports := [(0, { perst := false, pin := false, linkA := { st := 2, width := 16, speed := 6, ready := true } })]
              funcs := [(0, { mse := true, bme := true })] } }
theorem test_wit_HostMailboxAndBars_1 : ∃ (s : State) (h l n : Nat) (v : BitVec 64) (msg : List Byte),
    l < 2 ∧ s.barOpen (512 * h + 256 * l) = true ∧ (s.funcSlice (512 * h + 256 * l)).isSome = true ∧ fldN v 12 0 = n ∧ 1 ≤ n ∧ n ≤ 4096 ∧ (if l = 1 then (s.hport h).mbxB else (s.hport h).mbxA).busy = false ∧ fdpMalformed (msg.take n ++ List.replicate (n - msg.length) 0) = false :=
  ⟨tHost, 0, 0, 24, 24, [0x10], by decide +kernel⟩
theorem test_wit_HostMailboxAndBars_2 : ∃ (s : State) (h l : Nat),
    l < 2 ∧ s.barOpen (512 * h + 256 * l) = true ∧ (s.funcSlice (512 * h + 256 * l)).isSome = true :=
  ⟨tHost, 0, 0, by decide +kernel⟩
theorem test_wit_HostMailboxAndBars_3 : ∃ (s : State) (w : BarSpan),
    s.barOpen w.func = true ∧ s.barTakes w.func w.bar w.off w.len = false :=
  ⟨tHost, { func := 0, bar := 0, off := 0x4000, len := 8 }, by decide +kernel⟩
theorem test_wit_HostMailboxAndBars_4 : ∃ (off len : Nat),
    off < 0x1000 ∧ fieldAccess off len = false :=
  ⟨0x102, 4, by decide +kernel⟩

/-! Hypotheses of HostPortsResetAndWake are met. -/

theorem test_wit_HostPortsResetAndWake_1 : ∃ (s : State) (h : Nat),
    s.hostRole h = 0 ∧ (s.hport h).pin = false ∧ (s.hport h).perst = false ∧ Table.risingFrom none s.host.ports = true :=
  ⟨tHost, 0, by decide +kernel⟩
theorem test_wit_HostPortsResetAndWake_2 : ∃ (s : State) (h : Nat),
    s.hostRole h = 0 ∧ (s.hport h).pin = true ∧ (s.hport h).perst = true ∧ (s.hport h).held = false ∧ s.hostsReady = true ∧ Table.risingFrom none s.host.funcs = true :=
  ⟨tServe .operator, 3, by decide +kernel⟩
theorem test_wit_HostPortsResetAndWake_3 : ∃ (s : State) (h l : Nat),
    s.endpointLink h l = true ∧ (s.hport h).perst = false :=
  ⟨tHost, 0, 0, by decide +kernel⟩
theorem test_wit_HostPortsResetAndWake_4 : ∃ (s : State) (f : Nat),
    s.cfgOpen f = true :=
  ⟨tHost, 0, by decide +kernel⟩
theorem test_wit_HostPortsResetAndWake_5 : ∃ (s : State) (f : Nat),
    s.funcExists f = true ∧ s.needs f = true ∧ (s.func f).power ≠ .d0 ∧ (s.func f).pme = .clear :=
  ⟨(tHost.setFunc 0 { power := .d3hot }).updHost (fun h => { h with arb := { h.arb with bursts := [{}] } }), 0, by decide +kernel⟩
theorem test_wit_HostPortsResetAndWake_6 : ∃ (s : State) (f : Nat),
    (s.func f).pme = .owed ∧ (s.func f).power = .d3hot ∧ (s.hlink (funcPort f) (funcLink f)).st = 2 :=
  ⟨tHost.setFunc 0 { power := .d3hot, pme := .owed }, 0, by decide +kernel⟩
theorem test_wit_HostPortsResetAndWake_7 : ∃ (s : State) (f : Nat),
    s.cfgOpen f = true ∧ (s.func f).power = .d3hot :=
  ⟨tHost.setFunc 0 { power := .d3hot, pme := .owed }, 0, by decide +kernel⟩
theorem test_wit_HostPortsResetAndWake_8 : ∃ (s : State) (f : Nat),
    s.cfgOpen f = true :=
  ⟨tHost, 0, by decide +kernel⟩
theorem test_wit_HostPortsResetAndWake_9 : ∃ (s : State) (f : Nat),
    s.cfgOpen f = true :=
  ⟨tHost, 0, by decide +kernel⟩

/-! Hypotheses of HostLinksAndConfiguration are met. -/

theorem test_wit_HostLinksAndConfiguration_1 : ∃ (s : State) (h l : Nat),
    s.endpointLink h l = true ∧ s.linkIdle h l = true ∧ (s.hlink h l).ltrHigh = true :=
  ⟨{ tHost with host := { tHost.host with ports := [(0, { perst := false, pin := false, linkA := { st := 2, ltrHigh := true } })] } }, 0, 0, by decide +kernel⟩
theorem test_wit_HostLinksAndConfiguration_2 : ∃ (s : State) (h : Nat),
    bit (s.reg R.hostPm h) 0 = false :=
  ⟨tHost.setReg R.hostPm 0 0 0, 0, by decide +kernel⟩
theorem test_wit_HostLinksAndConfiguration_3 : ∃ (s : State) (h : Nat),
    bit (s.reg R.hostPm h) 0 = true ∧ (s.hlink h 0).st = 2 ∧ (s.hlink h 0).width = 16 ∧ (s.hlink h 0).moved = 0 ∧ s.bifurcated h = false :=
  ⟨tHost.setReg R.hostPm 0 0 1, 0, by decide +kernel⟩
theorem test_wit_HostLinksAndConfiguration_4 : ∃ (s : State) (h l : Nat),
    fldN (s.reg R.hostPm h) 15 8 ≠ 0 ∧ (s.hlink h l).aspmL1 = true ∧ s.linkIdle h l = true ∧ (s.hlink h l).st = 2 ∧ s.host.funcs.all (fun f => !(f.1 / 256 == 2 * h + l && f.2.pme == .owed)) = true :=
  ⟨(tHost.setReg R.hostPm 0 0 0x0100).updHlink 0 0 (fun x => { x with aspmL1 := true }), 0, 0, by decide +kernel⟩
theorem test_wit_HostLinksAndConfiguration_5 : ∃ (s : State) (h l st width speed : Nat),
    s.endpointLink h l = true ∧ (s.hport h).perst = false ∧ s.hostLinkBad h l st width speed = false :=
  ⟨tHost, 0, 0, 3, 8, 6, by decide +kernel⟩
theorem test_wit_HostLinksAndConfiguration_6 : ∃ (s : State) (h l : Nat),
    s.endpointLink h l = true ∧ (s.hport h).perst = false ∧ 2 ≤ (s.hlink h l).st ∧ (s.hlink h l).st ≤ 6 :=
  ⟨tHost, 0, 0, by decide +kernel⟩
theorem test_wit_HostLinksAndConfiguration_7 : ∃ (s : State) (f : Nat),
    s.cfgOpen f = true :=
  ⟨tHost, 0, by decide +kernel⟩
theorem test_wit_HostLinksAndConfiguration_8 : ∃ (s : State) (f : Nat),
    s.cfgOpen f = true :=
  ⟨tHost, 0, by decide +kernel⟩
theorem test_wit_HostLinksAndConfiguration_9 : ∃ (s : State) (f : Nat),
    s.cfgOpen f = true ∧ s.needs f = false :=
  ⟨tHost, 0, by decide +kernel⟩
theorem test_wit_HostLinksAndConfiguration_10 : ∃ (s : State) (f v : Nat),
    s.barOpen f = true ∧ (s.funcSlice f).isSome = true ∧ v < s.msixCount f ∧ (s.func f).msixEn = true ∧ (s.func f).fmask = false ∧ (s.func f).pend = [v] :=
  ⟨(tHost.setFunc 0 { mse := true, msixEn := true, pend := [5] }).setReg R.funcMap 0 0 0x80400000, 0, 5, by decide +kernel⟩
theorem test_wit_HostLinksAndConfiguration_11 : ∃ (s : State) (f v : Nat),
    s.cfgOpen f = true ∧ (s.func f).power = .d0 ∧ (s.func f).msixEn = true ∧ (s.func f).pend = [v] ∧ ((s.func f).vec v).masked = false :=
  ⟨tHost.setFunc 0 { mse := true, msixEn := true, fmask := true, pend := [5], vecs := [(5, { masked := false })] }, 0, 5, by decide +kernel⟩

/-! Hypotheses of DoorbellsArmsAndFetches are met. -/

/-- Queues of slice 1: WQ 5, CQ 0 and EQ 0 of function 0, with 64 positions each; slice 1 has station 64; the device is in SERVICE. -/
def tWq : Wq := { slice := 1, push := true, station := 64 }
def tCq : Cq := { slice := 1 }
def tEq : Eq := { slice := 1, slices := true }
def tQueues : State :=
  ((((tHost.setReg R.funcMap 0 0 0x80400001).setReg R.sliceStations 1 0 0x80000440).setReg R.sliceLimits 1 0 0x1ffff7fff1fff).updMgmt
    (fun m => { m with lifecycle := .service })).updHost
    (fun h => { h with wqs := [(5, tWq)], cqs := [(0, tCq)], eqs := [(0, tEq)] })
theorem test_wit_DoorbellsArmsAndFetches_1 : ∃ (s : State) (f page slot sl n : Nat) (v : BitVec 64) (w : Wq),
    s.barOpen f = true ∧ s.funcSlice f = some sl ∧ s.slotWq f page slot = some (n, w) ∧ (s.slice w.slice).st ≠ .halted ∧ fldN v 63 16 = 0 ∧ fldN v 15 0 ≠ w.producer ∧ w.inWindow (fldN v 15 0) = true :=
  ⟨tQueues, 0, 0, 0, 1, 5, 64, tWq, by decide +kernel⟩
theorem test_wit_DoorbellsArmsAndFetches_2 : ∃ (s : State) (f page slot sl n : Nat) (v : BitVec 64) (w : Wq),
    s.barOpen f = true ∧ s.funcSlice f = some sl ∧ s.slotWq f page slot = some (n, w) ∧ (s.slice w.slice).st ≠ .halted ∧ fldN v 63 16 = 0 ∧ fldN v 15 0 ≠ w.producer ∧ w.inWindow (fldN v 15 0) = false :=
  ⟨tQueues, 0, 0, 0, 1, 5, 65, tWq, by decide +kernel⟩
theorem test_wit_DoorbellsArmsAndFetches_3 : ∃ (s : State) (f page slot sl n : Nat) (v : BitVec 64) (e : Eq),
    s.barOpen f = true ∧ s.funcSlice f = some sl ∧ (s.host.eqs.find? (fun e => e.2.func = f ∧ e.2.page = page ∧ e.2.slot = slot) = some (n, e)) ∧ (s.slice e.slice).st ≠ .halted ∧ fldN v 63 17 = 0 ∧ bit v 16 = true ∧ e.wpos = fldN v 15 0 :=
  ⟨tQueues, 0, 0, 0, 1, 0, 0x10000, tEq, by decide +kernel⟩
theorem test_wit_DoorbellsArmsAndFetches_4 : ∃ (s : State) (f page slot sl n : Nat) (v : BitVec 64) (e : Eq),
    s.barOpen f = true ∧ s.funcSlice f = some sl ∧ (s.host.eqs.find? (fun e => e.2.func = f ∧ e.2.page = page ∧ e.2.slot = slot) = some (n, e)) ∧ (s.slice e.slice).st ≠ .halted ∧ fldN v 63 17 = 0 ∧ bit v 16 = true ∧ e.wpos ≠ fldN v 15 0 ∧ e.st = .ready :=
  ⟨tQueues, 0, 0, 0, 1, 0, 0x1FFFF, tEq, by decide +kernel⟩
theorem test_wit_DoorbellsArmsAndFetches_5 : ∃ (s : State) (f page slot sl n : Nat) (v : BitVec 64) (c : Cq),
    s.barOpen f = true ∧ s.funcSlice f = some sl ∧ (s.host.cqs.find? (fun c => c.2.func = f ∧ c.2.page = page ∧ c.2.slot = slot) = some (n, c)) ∧ (s.slice c.slice).st ≠ .halted ∧ fldN v 63 18 = 0 ∧ bit v 16 = true ∧ c.wpos = fldN v 15 0 ∧ c.notable = [] :=
  ⟨tQueues, 0, 0, 0, 1, 0, 0x30000, tCq, by decide +kernel⟩
theorem test_wit_DoorbellsArmsAndFetches_6 : ∃ (s : State) (f page slot sl n m k : Nat) (data : List Byte) (w : Wq),
    s.barOpen f = true ∧ s.funcSlice f = some sl ∧ s.slotWq f page slot = some (n, w) ∧ (s.slice w.slice).st ≠ .halted ∧ w.push = true ∧ data.length = 64 * m ∧ 1 ≤ m ∧ m ≤ 4 ∧ entryFld data 47 32 = w.fetch ∧ w.inWindow (posAdd w.fetch m) = true ∧ posAdd w.fetch m ≠ w.producer ∧ wholeUnits m data = k ∧ k ≠ 0 ∧ s.fetches w = true :=
  ⟨tQueues.updSlice 1 (fun x => { x with st := .running }), 0, 0, 0, 1, 5, 1, 1, List.replicate 64 0, tWq, by decide +kernel⟩
theorem test_wit_DoorbellsArmsAndFetches_7 : ∃ (s : State) (f page slot sl n m : Nat) (data : List Byte) (w : Wq),
    s.barOpen f = true ∧ s.funcSlice f = some sl ∧ s.slotWq f page slot = some (n, w) ∧ (s.slice w.slice).st ≠ .halted ∧ w.push = true ∧ data.length = 64 * m ∧ 1 ≤ m ∧ m ≤ 4 ∧ posAdd (entryFld data 47 32) m ≠ w.producer ∧ w.inWindow (posAdd (entryFld data 47 32) m) = true ∧ s.fetches w = false :=
  ⟨tQueues, 0, 0, 0, 1, 5, 1, List.replicate 64 0, tWq, by decide +kernel⟩
theorem test_wit_DoorbellsArmsAndFetches_8 : ∃ (s : State) (n k : Nat) (w : Wq),
    s.wq n = some w ∧ s.fetches w = true ∧ s.mayIssue w.func = true ∧ w.func ≠ memFunc ∧ s.resident (ctxNo 0 n) = true ∧ k = min (min 8 (posDiff w.producer w.fetch)) (min (2 ^ w.log - w.fetch % 2 ^ w.log) (64 - w.fetch % 2 ^ w.log % 64)) ∧ k ≠ 0 :=
  ⟨(tQueues.updSlice 1 (fun x => { x with st := .running })).putWq 5 { tWq with producer := 63, fetch := 60, head := 60, parse := 60 }, 5, 3, { tWq with producer := 63, fetch := 60, head := 60, parse := 60 }, by decide +kernel⟩
theorem test_wit_DoorbellsArmsAndFetches_9 : ∃ (s : State) (id : Nat) (r : HostRead),
    s.host.reads.find? (fun r => r.id = id) = some r ∧ r.owner = .payload ∧ s.remote.placing = [] ∧ s.remote.invals = [] :=
  ⟨{ tQueues with built := [{ payload := [1, 2, 3, 4], wait := [(7, 1)] }] }.updHost (fun h => { h with reads := [{ id := 7, len := 2, owner := .payload }] }), 7, { id := 7, len := 2, owner := .payload }, by decide +kernel⟩

/-! Hypotheses of SlicesStartStopHaltAndReset are met. -/

theorem test_wit_SlicesStartStopHaltAndReset_1 : ∃ (s : State) (q : Req) (role : Role) (sl : Nat),
    s.mayWrite q role R.sliceCtl sl 0 1 = true ∧ (sl = 0 ∨ s.mgmt.lifecycle = .service) ∧ (s.slice sl).st = .stopped ∧ (s.slice sl).settle = none ∧ (s.slice sl).resetNext = false ∧ s.mayStart sl = true :=
  ⟨tQueues, tReq, .operator, 1, by decide +kernel⟩
theorem test_wit_SlicesStartStopHaltAndReset_2 : ∃ (s : State) (q : Req) (role : Role) (sl : Nat),
    s.mayWrite q role R.sliceCtl sl 0 4 = true ∧ (sl = 0 ∨ s.mgmt.lifecycle ≠ .maker) ∧ (s.slice sl).st = .stopped ∧ (s.slice sl).settle = none ∧ (s.slice sl).resetNext = false ∧ s.mayStart sl = true :=
  ⟨tQueues, tReq, .operator, 1, by decide +kernel⟩
theorem test_wit_SlicesStartStopHaltAndReset_3 : ∃ (s : State) (q : Req) (role : Role) (sl : Nat),
    s.mayWrite q role R.sliceCtl sl 0 2 = true ∧ ((s.slice sl).st = .starting ∨ (s.slice sl).st = .recovering) ∧ (s.slice sl).settle = none ∧ (s.slice sl).resetNext = false :=
  ⟨tQueues.updSlice 1 (fun x => { x with st := .recovering }), tReq, .operator, 1, by decide +kernel⟩
theorem test_wit_SlicesStartStopHaltAndReset_4 : ∃ (s : State) (q : Req) (role : Role) (sl : Nat),
    s.mayWrite q role R.sliceCtl sl 0 3 = true ∧ (s.slice sl).st = .running ∧ (s.slice sl).settle = none ∧ (s.slice sl).resetNext = false :=
  ⟨tQueues.updSlice 1 (fun x => { x with st := .running }), tReq, .operator, 1, by decide +kernel⟩
theorem test_wit_SlicesStartStopHaltAndReset_5 : ∃ (s : State) (q : Req) (role : Role) (sl : Nat),
    s.mayWrite q role R.sliceCtl sl 0 5 = true ∧ (s.slice sl).settle = none ∧ (s.slice sl).resetNext = false ∧ (s.slice sl).st ≠ .stopped ∧ (s.slice sl).st ≠ .halted :=
  ⟨tQueues.updSlice 1 (fun x => { x with st := .running }), tReq, .operator, 1, by decide +kernel⟩
theorem test_wit_SlicesStartStopHaltAndReset_6 : ∃ (s : State) (q : Req) (role : Role) (sl : Nat),
    s.mayWrite q role R.sliceCtl sl 0 6 = true ∧ (s.slice sl).settle = none ∧ (s.slice sl).resetNext = false :=
  ⟨tQueues.updSlice 1 (fun x => { x with st := .running }), tReq, .operator, 1, by decide +kernel⟩
theorem test_wit_SlicesStartStopHaltAndReset_7 : ∃ (s : State) (q : Req) (role : Role) (sl : Nat),
    s.mayWrite q role R.sliceCtl sl 0 7 = true ∧ (s.slice sl).settle = none ∧ (s.slice sl).resetNext = false ∧ (s.slice sl).st ≠ .halted :=
  ⟨tQueues.updSlice 1 (fun x => { x with st := .running }), tReq, .operator, 1, by decide +kernel⟩
theorem test_wit_SlicesStartStopHaltAndReset_8 : ∃ (s : State) (sl : Nat),
    (s.slice sl).settle = some .stop ∧ s.host.engines.items.all (fun i => i.slice != sl) = true ∧ Table.risingFrom none s.host.slices = true :=
  ⟨tQueues.updSlice 1 (fun x => { x with st := .running, settle := some .stop }), 1, by decide +kernel⟩
theorem test_wit_SlicesStartStopHaltAndReset_9 : ∃ (s : State) (sl c : Nat),
    (s.slice sl).settle = some (.halt c) ∧ (s.slice sl).resetNext = false :=
  ⟨tQueues.updSlice 1 (fun x => { x with st := .running, settle := some (.halt 2) }), 1, 2, by decide +kernel⟩
theorem test_wit_SlicesStartStopHaltAndReset_10 : ∃ (s : State) (sl : Nat),
    (s.slice sl).settle = some .reset ∧ Table.risingFrom none s.host.slices = true :=
  ⟨tQueues.updSlice 1 (fun x => { x with st := .running, settle := some .reset }), 1, by decide +kernel⟩
theorem test_wit_SlicesStartStopHaltAndReset_11 : ∃ (s : State) (q : Req) (role : Role) (sl n : Nat) (e : Eq),
    s.mayWrite q role R.wakeTest sl 0 1 = true ∧ s.sliceEq sl = some n ∧ s.eq n = some e ∧ e.slice = sl ∧ (s.slice sl).st ≠ .halted ∧ e.st = .ready ∧ e.room = true ∧ e.lost = 0 :=
  ⟨tQueues, tReq, .operator, 1, 0, tEq, by decide +kernel⟩
theorem test_wit_SlicesStartStopHaltAndReset_12 : ∃ (s : State) (q : Req) (role : Role) (sl n : Nat) (e : Eq),
    s.mayWrite q role R.wakeTest sl 0 1 = true ∧ s.sliceEq sl = some n ∧ s.eq n = some e ∧ (s.slice sl).st ≠ .halted ∧ (s.func e.func).power ≠ .d0 ∧ (s.func e.func).pme = .clear :=
  ⟨tQueues.setFunc 0 { power := .d3hot }, tReq, .operator, 1, 0, tEq, by decide +kernel⟩

/-! Hypotheses of QueuesAreCreatedAndDestroyed are met. -/

/-- A QUEUE_CMD value: number, target, slot, flags, base, START and station, with ring size 64. -/
def tQcmd (n target slot flags base start station : Nat) : Image :=
  BitVec.ofNat _ (at' 8 6 + at' 16 n + at' 32 target + at' 80 slot + at' 88 flags + at' 128 base + at' 192 start + at' 208 station)
theorem test_wit_QueuesAreCreatedAndDestroyed_1 : ∃ (s : State) (q : Req) (role : Role) (sl n : Nat) (v x : Image),
    x = setFld v 7 0 1 ∧ s.mayWrite q role R.queueCmd sl 0 x = true ∧ s.queueCmdBad sl x = false ∧ s.queuesFull sl 1 (cmdWord x 2 2) = false ∧ n = cmdWord x 2 2 :=
  ⟨tQueues, tReq, .operator, 1, 7, tQcmd 7 0 1 5 0x1000 9 64, setFld (tQcmd 7 0 1 5 0x1000 9 64) 7 0 1, by decide +kernel⟩
theorem test_wit_QueuesAreCreatedAndDestroyed_2 : ∃ (s : State) (q : Req) (role : Role) (sl n : Nat) (v x : Image),
    x = setFld v 7 0 2 ∧ s.mayWrite q role R.queueCmd sl 0 x = true ∧ s.queueCmdBad sl x = false ∧ s.queuesFull sl 2 (cmdWord x 2 2) = false ∧ n = cmdWord x 2 2 ∧ s.serviceMode = false :=
  ⟨tQueues, tReq, .operator, 1, 7, tQcmd 7 0 1 0 0x1000 9 0, setFld (tQcmd 7 0 1 0 0x1000 9 0) 7 0 2, by decide +kernel⟩
theorem test_wit_QueuesAreCreatedAndDestroyed_3 : ∃ (s : State) (q : Req) (role : Role) (sl n : Nat) (v x : Image),
    x = setFld v 7 0 3 ∧ s.mayWrite q role R.queueCmd sl 0 x = true ∧ s.queueCmdBad sl x = false ∧ s.queuesFull sl 3 (cmdWord x 2 2) = false ∧ n = cmdWord x 2 2 :=
  ⟨tQueues, tReq, .operator, 1, 7, tQcmd 7 3 1 0 0x1000 9 0, setFld (tQcmd 7 3 1 0 0x1000 9 0) 7 0 3, by decide +kernel⟩
theorem test_wit_QueuesAreCreatedAndDestroyed_4 : ∃ (s : State) (q : Req) (role : Role) (sl n : Nat) (v x : Image),
    x = setFld v 7 0 4 ∧ s.mayWrite q role R.queueCmd sl 0 x = true ∧ s.queueCmdBad sl x = false ∧ n = cmdWord x 2 2 :=
  ⟨tQueues, tReq, .operator, 1, 5, tQcmd 5 0 0 0 0 0 0, setFld (tQcmd 5 0 0 0 0 0 0) 7 0 4, by decide +kernel⟩
theorem test_wit_QueuesAreCreatedAndDestroyed_5 : ∃ (s : State) (q : Req) (role : Role) (sl n : Nat) (v x : Image),
    x = setFld v 7 0 5 ∧ s.mayWrite q role R.queueCmd sl 0 x = true ∧ s.queueCmdBad sl x = false ∧ n = cmdWord x 2 2 ∧ s.host.wqs.all (fun w => w.2.cq != n) = true :=
  ⟨tQueues.updHost (fun h => { h with wqs := [] }), tReq, .operator, 1, 0, tQcmd 0 0 0 0 0 0 0, setFld (tQcmd 0 0 0 0 0 0 0) 7 0 5, by decide +kernel⟩
theorem test_wit_QueuesAreCreatedAndDestroyed_6 : ∃ (s : State) (q : Req) (role : Role) (sl n : Nat) (v x : Image),
    x = setFld v 7 0 6 ∧ s.mayWrite q role R.queueCmd sl 0 x = true ∧ s.queueCmdBad sl x = false ∧ n = cmdWord x 2 2 ∧ s.host.cqs.all (fun c => c.2.eq != n) = true :=
  ⟨tQueues.updHost (fun h => { h with cqs := [] }), tReq, .operator, 1, 0, tQcmd 0 0 0 0 0 0 0, setFld (tQcmd 0 0 0 0 0 0 0) 7 0 6, by decide +kernel⟩
theorem test_wit_QueuesAreCreatedAndDestroyed_7 : ∃ (s : State) (q : Req) (role : Role) (sl n : Nat) (v x : Image) (w : Wq),
    x = setFld v 7 0 7 ∧ s.mayWrite q role R.queueCmd sl 0 x = true ∧ s.queueCmdBad sl x = false ∧ n = cmdWord x 2 2 ∧ s.wq n = some w ∧ w.closing = false :=
  ⟨tQueues.putWq 5 { tWq with st := .error 4 }, tReq, .operator, 1, 5, tQcmd 5 0 0 0 0 9 0, setFld (tQcmd 5 0 0 0 0 9 0) 7 0 7, { tWq with st := .error 4 }, by decide +kernel⟩

/-! Hypotheses of EnginesTakeStealAndLeave are met. -/

/-- One item of slice 1, of WQ 5 at position 0, of cluster 3. -/
def tItem (p : ItemPlace) : Item := { id := 9, slice := 1, src := .entry 5 0, cluster := 3, place := p }
def tItems (p : ItemPlace) : State := tQueues.updEngines (fun e => { e with items := [tItem p], nextItem := 10 })
theorem test_wit_EnginesTakeStealAndLeave_1 : ∃ (s : State) (k least : Nat) (x : Item),
    (List.range 16).any (fun l => s.inService (16 * k + l) && decide ((s.deque (16 * k + l)).length < 8)) = true ∧ s.admissibleHeads k = [x] ∧ s.leastEngine k = some least ∧ Table.risingFrom none s.host.engines.vt = true :=
  ⟨tItems .intake, 3, 48, tItem .intake, by decide +kernel⟩
theorem test_wit_EnginesTakeStealAndLeave_2 : ∃ (s : State) (e : Nat) (i : Item),
    s.inService e = true ∧ s.running e = none ∧ (s.deque e).find? (fun i => !s.haltedNow i.slice && !s.capped i.slice) = some i :=
  ⟨tItems (.deque 48), 48, tItem (.deque 48), by decide +kernel⟩
theorem test_wit_EnginesTakeStealAndLeave_3 : ∃ (s : State) (e v : Nat) (i : Item),
    s.maysteal e = true ∧ bit (s.reg R.engineCtl) 31 = true ∧ s.victim e = some v ∧ s.deque v = [i] ∧ i.key = none ∧ s.haltedNow i.slice = false ∧ s.capped i.slice = false :=
  ⟨tItems (.deque 48), 50, 48, tItem (.deque 48), by decide +kernel⟩
theorem test_wit_EnginesTakeStealAndLeave_4 : ∃ (s : State) (e v : Nat) (i : Item),
    s.maysteal e = true ∧ bit (s.reg R.engineCtl) 30 = true ∧ s.localYields e = false ∧ s.remoteVictim e = some v ∧ s.deque v = [i] ∧ i.key = none ∧ s.haltedNow i.slice = false ∧ s.capped i.slice = false ∧ bit (s.reg R.engineShare i.slice) (32 + e / 16) = true ∧ (s.ringRoute (clusterStop (v / 16)) (clusterStop (e / 16)) kindPost).isSome = true :=
  ⟨(tItems (.deque 48)).setReg R.engineCtl 0 0 0xC0010020, 5, 48, tItem (.deque 48), by decide +kernel⟩
theorem test_wit_EnginesTakeStealAndLeave_5 : ∃ (s : State) (id : Nat) (i : Item) (c : ParkCause),
    s.host.engines.items.find? (fun i => i.id = id) = some i ∧ i.place = .parked c ∧ s.causeOver i c = true :=
  ⟨tItems (.parked .shaper), 9, tItem (.parked .shaper), .shaper, by decide +kernel⟩
theorem test_wit_EnginesTakeStealAndLeave_6 : ∃ (s : State) (e : Nat),
    (s.running e).isSome = true ∧ s.inService e = true :=
  ⟨tItems (.running 48), 48, by decide +kernel⟩
theorem test_wit_EnginesTakeStealAndLeave_7 : ∃ (s : State) (e : Nat),
    s.inService e = true :=
  ⟨tItems (.deque 48), 48, by decide +kernel⟩

/-! Hypotheses of ArbiterAndLockBank are met. -/

def tBursts (l : List Burst) : State := tQueues.updHost (fun h => { h with arb := { h.arb with bursts := l } })
/-- Locks 0–63 are open to slice 1. -/
def tLocks : State := tQueues.setReg R.lockGroupLo 0 0 0x8001
theorem test_wit_ArbiterAndLockBank_1 : ∃ (s : State),
    Table.risingFrom none s.host.arb.credit = true ∧ s.host.arb.bursts.all (fun b => decide (b.slice < 256)) = true :=
  ⟨tBursts [{ id := 3, inst := 1, slice := 1 }], by decide +kernel⟩
theorem test_wit_ArbiterAndLockBank_2 : ∃ (s : State) (i : Nat) (b : Burst),
    s.nextGrant i = some b ∧ i % 2 = 1 ∧ s.still = true :=
  ⟨tBursts [{ id := 3, inst := 1, slice := 1, len := 64 }], 1, { id := 3, inst := 1, slice := 1, len := 64 }, by decide +kernel⟩
theorem test_wit_ArbiterAndLockBank_3 : ∃ (s : State) (i : Nat) (b : Burst),
    s.nextGrant i = some b ∧ i % 2 = 0 ∧ s.still = true :=
  ⟨tBursts [{ id := 3, inst := 0, slice := 1, len := 64 }], 0, { id := 3, inst := 0, slice := 1, len := 64 }, by decide +kernel⟩
theorem test_wit_ArbiterAndLockBank_4 : ∃ (s : State) (i sl : Nat) (b : Burst),
    (s.host.arb.bursts.find? (fun b => b.inst = i ∧ b.granted) = some b) ∧ i % 2 = 1 ∧ sl ≠ b.slice ∧ (s.askers i).any (fun x => x.slice == sl) = true ∧ s.credit i b.slice + 64 * fldN (s.eff R.arbCtl (i / 2)) 31 24 < s.credit i sl ∧ b.taken < fldN (s.eff R.arbCtl (i / 2)) 23 20 :=
  ⟨(tBursts [{ id := 3, inst := 1, slice := 1, granted := true }, { id := 4, inst := 1, slice := 2 }]).setCredit 1 2 99999, 1, 2, { id := 3, inst := 1, slice := 1, granted := true }, by decide +kernel⟩
theorem test_wit_ArbiterAndLockBank_5 : ∃ (s : State) (i : Nat) (b : Burst),
    (s.host.arb.bursts.find? (fun b => b.inst = i ∧ b.granted) = some b) ∧ s.still = true ∧ (b.report = true ∨ s.writable b.slice = true) :=
  ⟨tBursts [{ id := 3, inst := 1, slice := 1, granted := true, data := [7] }], 1, { id := 3, inst := 1, slice := 1, granted := true, data := [7] }, by decide +kernel⟩
theorem test_wit_ArbiterAndLockBank_6 : ∃ (s : State) (n sl m : Nat) (w : BitVec 32),
    fldN w 31 30 = 1 ∧ fldN w 27 20 = sl ∧ fldN w 9 0 = m ∧ s.lockAllowed n sl m = true ∧ bit (s.lock n) 31 = false :=
  ⟨tLocks, 0, 1, 5, 0x40100005, by decide +kernel⟩
theorem test_wit_ArbiterAndLockBank_7 : ∃ (s : State) (n sl m : Nat) (w : BitVec 32),
    fldN w 31 30 = 1 ∧ fldN w 27 20 = sl ∧ fldN w 9 0 = m ∧ s.lockAllowed n sl m = true ∧ bit (s.lock n) 31 = true :=
  ⟨tLocks.setLock 0 0x80100006, 0, 1, 5, 0x40100005, by decide +kernel⟩
theorem test_wit_ArbiterAndLockBank_8 : ∃ (s : State) (n sl m : Nat) (w : BitVec 32),
    fldN w 31 30 = 2 ∧ fldN w 27 20 = sl ∧ fldN w 9 0 = m ∧ s.lockAllowed n sl m = true ∧ bit (s.lock n) 31 = true ∧ fldN (s.lock n) 27 20 = sl ∧ fldN (s.lock n) 9 0 = m :=
  ⟨tLocks.setLock 0 0x80100005, 0, 1, 5, 0x80100005, by decide +kernel⟩
theorem test_wit_ArbiterAndLockBank_10 : ∃ (s : State) (q : Req) (role : Role) (v : Image),
    s.mayWrite q role R.lockBreak 0 0 v = true ∧ fldN v 15 0 < 4096 ∧ bit (s.lock (fldN v 15 0)) 31 = true :=
  ⟨(tServe .installer).setLock 7 0x80100005, tReq, .installer, 7, by decide +kernel⟩

/-! Hypotheses of EntriesAreExecuted are met. -/

/-- An entry's first 64 bytes: OPCODE, flags (bits 8–31), PKEY, LENGTH, and further (byte, value, width). -/
def tBytes (op flags pkey len : Nat) (more : List (Nat × Nat × Nat)) : List Byte :=
  bytesOf (BitVec.ofNat 512 (op + at' 8 flags + at' 48 pkey + at' 256 len + (more.map (fun m => at' (8 * m.1) m.2.1)).sum)) 64
def tWqe (b : List Byte) : WqEntry := { bytes := b, st := .started }
def tEntryWq (b : List Byte) : Wq := { tWq with entries := [tWqe b] }
def tPair : Pair := { station := 64, node := 7, remote := 65 }
def tPeer : Peer := { pair := tPair, slice := 1, send2 := { sync := false } }
/-- Entries to station 65 of node 7: direct; SEND and PUT with ten bytes inline, GET to a buffer, an 8-byte ATOMIC. -/
def tInline : List Byte := [1, 2, 3, 4, 5, 6, 7, 8, 9, 10] ++ List.replicate 54 0
def tSendB : List Byte := tBytes 0x10 0xA20 0 10 [(16, 7, 4), (20, 65, 2)] ++ tInline
def tRecvB : List Byte := tBytes 0x11 0 0 0 []
def tRmaB (op : Nat) : List Byte := tBytes op 0xC20 0 10 [(16, 7, 4), (20, 65, 2), (36, 0x2000, 8), (44, 3, 4)] ++ tInline
def tGetB : List Byte := tBytes 0x22 0x420 0 10 [(16, 7, 4), (20, 65, 2), (24, 0x1000, 8), (36, 0x2000, 8), (44, 3, 4)]
def tAtomB : List Byte := tBytes 0x23 0x420 0 0x800 [(16, 7, 4), (20, 65, 2), (36, 0x2000, 8), (44, 3, 4)]
def tCollB : List Byte := tBytes 0x30 0 0 4 []
def tCtlB : List Byte := tBytes 0x70 0x820 0xFFFF 10 [(16, 7, 4), (20, 65, 2), (36, 1, 1)] ++ tInline
/-- Engine 48 executes the entry of WQ 5; slice 1 holds key 0, context 0 is open to it, and a peer is on chip. -/
def tEntry (b : List Byte) : State :=
  let s := (((tQueues.putWq 5 (tEntryWq b)).updEngines (fun e => { e with items := [tItem (.running 48)], nextItem := 10 })).updRemote
    (fun r => { r with peers := [tPeer] }))
  (((s.setReg R.sliceKeys 1 0 0x80000000).setReg R.matchCtx 0 0 (BitVec.ofNat _ (2 ^ 63 + 64 * 2 ^ 48))).setReg R.msgSliceCtl 1 0
    (BitVec.ofNat _ 0x0FFFFFFFFFFF1000)).setReg R.collCtx 0 0
    (BitVec.ofNat _ (2 ^ 127 + 2 ^ 126 + 2 ^ 112 + 63 * 2 ^ 90 + 2 ^ 81))
def tEntry0 : State := (tEntry tCtlB).putWq 5 { tEntryWq tCtlB with slice := 0 }
/-- A rendezvous of that SEND with a grant of two bytes from byte 1 on, and its item. -/
def tRdv : RdvSend := { num := 3, wq := 5, pos := 0, grants := [(1, 2)] }
def tRdvPeer : Peer := { tPeer with rdvS := [tRdv] }
def tSegment : State :=
  ((tEntry tSendB).updRemote (fun r => { r with peers := [tRdvPeer] })).updEngines
    (fun e => { e with items := [{ tItem (.running 48) with src := .segment 5 0 }] })
theorem test_wit_EntriesAreExecuted_1 : ∃ (s : State) (e n pos : Nat) (w : Wq) (x : WqEntry),
    s.runningEntry e = some (n, pos, w, x) ∧ entryOp x.bytes = 0x00 ∧ malformation w.slice w pos x.bytes = none :=
  ⟨tEntry (tBytes 0 0 0 0 []), 48, 5, 0, tEntryWq (tBytes 0 0 0 0 []), tWqe (tBytes 0 0 0 0 []), by decide +kernel⟩
theorem test_wit_EntriesAreExecuted_2 : ∃ (s : State) (e n pos : Nat) (w : Wq) (x : WqEntry) (pr : Pair) (p : Peer),
    s.runningEntry e = some (n, pos, w, x) ∧ entryOp x.bytes = 0x10 ∧ malformation w.slice w pos x.bytes = none ∧ entryUnits x.bytes ≠ 0 ∧ entryFld x.bytes 13 13 = 1 ∧ s.entryCtxOk w.slice (entryCtx x.bytes) = true ∧ s.holdsKey w.slice (entryPkey x.bytes) = true ∧ s.shaperHolds w.slice (entryClass x.bytes) = false ∧ pr = { station := mctxStation (s.reg R.matchCtx 0 (entryCtx x.bytes)), node := entryFld x.bytes 147 128, remote := entryFld x.bytes 169 160 } ∧ s.peer pr = some p ∧ (p.send (entryClass x.bytes)).unacked = [] ∧ (p.send (entryClass x.bytes)).sync = false ∧ entryLen x.bytes ≤ s.eagerLimit w.slice :=
  ⟨tEntry tSendB, 48, 5, 0, tEntryWq tSendB, tWqe tSendB, { station := 64, node := 7, remote := 65 }, tPeer, by decide +kernel⟩
theorem test_wit_EntriesAreExecuted_3 : ∃ (s : State) (e n pos : Nat) (w : Wq) (x : WqEntry),
    s.runningEntry e = some (n, pos, w, x) ∧ entryOp x.bytes = 0x11 ∧ malformation w.slice w pos x.bytes = none ∧ entryFrag x.bytes = false ∧ s.entryCtxOk w.slice (entryCtx x.bytes) = true ∧ (s.mctx (entryCtx x.bytes)).walking = none ∧ (s.mctx (entryCtx x.bytes)).unex = [] ∧ (s.mctx (entryCtx x.bytes)).overflow = [] ∧ s.postRoom (entryCtx x.bytes) w.slice = true :=
  ⟨tEntry tRecvB, 48, 5, 0, tEntryWq tRecvB, tWqe tRecvB, by decide +kernel⟩
theorem test_wit_EntriesAreExecuted_4 : ∃ (s : State) (e n pos : Nat) (w : Wq) (x : WqEntry) (pr : Pair) (p : Peer),
    s.runningEntry e = some (n, pos, w, x) ∧ entryOp x.bytes = 0x20 ∧ malformation w.slice w pos x.bytes = none ∧ entryUnits x.bytes ≠ 0 ∧ s.rop n pos = none ∧ entryRkey x.bytes < 2 ^ 24 ∧ s.holdsKey w.slice (entryPkey x.bytes) = true ∧ s.shaperHolds w.slice (entryClass x.bytes) = false ∧ entryFld x.bytes 13 13 = 1 ∧ pr = { station := w.station, node := entryFld x.bytes 147 128, remote := entryFld x.bytes 169 160 } ∧ s.peer pr = some p ∧ p.msgs = [] ∧ s.windowOpen p = true ∧ messageLen (entryRaddr x.bytes) (entryLen x.bytes) = entryLen x.bytes ∧ piecesOf (entryRaddr x.bytes) (entryLen x.bytes) = 1 :=
  ⟨tEntry (tRmaB 0x20), 48, 5, 0, tEntryWq (tRmaB 0x20), tWqe (tRmaB 0x20), { station := 64, node := 7, remote := 65 }, tPeer, by decide +kernel⟩
theorem test_wit_EntriesAreExecuted_5 : ∃ (s : State) (e n pos : Nat) (w : Wq) (x : WqEntry) (pr : Pair) (p : Peer),
    s.runningEntry e = some (n, pos, w, x) ∧ entryOp x.bytes = 0x21 ∧ malformation w.slice w pos x.bytes = none ∧ entryUnits x.bytes ≠ 0 ∧ s.rop n pos = none ∧ entryRkey x.bytes < 2 ^ 24 ∧ s.holdsKey w.slice (entryPkey x.bytes) = true ∧ s.shaperHolds w.slice (entryClass x.bytes) = false ∧ entryFld x.bytes 13 13 = 1 ∧ pr = { station := w.station, node := entryFld x.bytes 147 128, remote := entryFld x.bytes 169 160 } ∧ s.peer pr = some p ∧ p.msgs = [] ∧ s.windowOpen p = true ∧ messageLen (entryRaddr x.bytes) (entryLen x.bytes) = entryLen x.bytes ∧ piecesOf (entryRaddr x.bytes) (entryLen x.bytes) = 1 :=
  ⟨tEntry (tRmaB 0x21), 48, 5, 0, tEntryWq (tRmaB 0x21), tWqe (tRmaB 0x21), { station := 64, node := 7, remote := 65 }, tPeer, by decide +kernel⟩
theorem test_wit_EntriesAreExecuted_6 : ∃ (s : State) (e n pos : Nat) (w : Wq) (x : WqEntry) (pr : Pair) (p : Peer),
    s.runningEntry e = some (n, pos, w, x) ∧ entryOp x.bytes = 0x22 ∧ malformation w.slice w pos x.bytes = none ∧ entryFrag x.bytes = false ∧ s.mayIssue w.func = true ∧ s.sliceFrost w.slice = false ∧ s.linkFrost (instOf w.func false) = false ∧ s.trans.ended = [] ∧ s.stage1On w.slice = false ∧ s.stage2Mode w.slice = 2 ∧ s.serviceMode = false ∧ s.rop n pos = none ∧ entryRkey x.bytes < 2 ^ 24 ∧ s.holdsKey w.slice (entryPkey x.bytes) = true ∧ s.shaperHolds w.slice (entryClass x.bytes) = false ∧ entryFld x.bytes 13 13 = 1 ∧ pr = { station := w.station, node := entryFld x.bytes 147 128, remote := entryFld x.bytes 169 160 } ∧ s.peer pr = some p ∧ p.msgs = [] ∧ s.windowOpen p = true ∧ messageLen (entryRaddr x.bytes) (entryLen x.bytes) = entryLen x.bytes :=
  ⟨(tEntry tGetB).setReg R.transStageTwo 1 0 (BitVec.ofNat _ (2 ^ 63)), 48, 5, 0, tEntryWq tGetB, tWqe tGetB, { station := 64, node := 7, remote := 65 }, tPeer, by decide +kernel⟩
theorem test_wit_EntriesAreExecuted_7 : ∃ (s : State) (e n pos : Nat) (w : Wq) (x : WqEntry) (pr : Pair) (p : Peer),
    s.runningEntry e = some (n, pos, w, x) ∧ entryOp x.bytes = 0x23 ∧ malformation w.slice w pos x.bytes = none ∧ entryLaddr x.bytes = 0 ∧ s.rop n pos = none ∧ entryRkey x.bytes < 2 ^ 24 ∧ s.holdsKey w.slice (entryPkey x.bytes) = true ∧ s.shaperHolds w.slice (entryClass x.bytes) = false ∧ entryFld x.bytes 13 13 = 1 ∧ pr = { station := w.station, node := entryFld x.bytes 147 128, remote := entryFld x.bytes 169 160 } ∧ s.peer pr = some p ∧ p.msgs = [] ∧ s.windowOpen p = true :=
  ⟨tEntry tAtomB, 48, 5, 0, tEntryWq tAtomB, tWqe tAtomB, { station := 64, node := 7, remote := 65 }, tPeer, by decide +kernel⟩
theorem test_wit_EntriesAreExecuted_8 : ∃ (s : State) (e n pos k : Nat) (w : Wq) (x : WqEntry) (o : COp),
    s.runningEntry e = some (n, pos, w, x) ∧ entryOp x.bytes = 0x30 ∧ malformation w.slice w pos x.bytes = none ∧ s.hostCause w x.bytes = none ∧ k = entryCtx x.bytes ∧ s.collValid k = true ∧ s.collSlice k = w.slice ∧ entryFld x.bytes 159 128 < s.collLocals k ∧ s.holdsKey w.slice (fldN (s.collEntry k) 111 96) = true ∧ diff24 (entryWord x.bytes 48 4 % 2 ^ 24) (s.coll k).last = 1 ∧ (s.coll k).st ≠ .active ∧ o = { cop := entryFld x.bytes 359 352, type := entryFld x.bytes 367 360, mode := entryFld x.bytes 375 368, count := entryLen x.bytes } ∧ s.collRefuses k o = none :=
  ⟨tEntry tCollB, 48, 5, 0, 0, tEntryWq tCollB, tWqe tCollB, { count := 4 }, by decide +kernel⟩
theorem test_wit_EntriesAreExecuted_9 : ∃ (s : State) (e n pos : Nat) (w : Wq) (x : WqEntry),
    s.runningEntry e = some (n, pos, w, x) ∧ entryOp x.bytes = 0x70 ∧ malformation w.slice w pos x.bytes = none ∧ entryUnits x.bytes ≠ 0 ∧ x.built = false :=
  ⟨tEntry0, 48, 5, 0, { tEntryWq tCtlB with slice := 0 }, tWqe tCtlB, by decide +kernel⟩
theorem test_wit_EntriesAreExecuted_10 : ∃ (s : State) (e n pos first len : Nat) (i : Item) (w : Wq) (x : WqEntry) (p : Peer) (r : RdvSend),
    s.running e = some i ∧ i.src = .segment n pos ∧ s.recvEntry n pos = some (w, x) ∧ entryUnits x.bytes ≠ 0 ∧ s.hostCause w x.bytes = none ∧ s.rop n pos = none ∧ (s.remote.peers.findSome? (fun p => (p.rdvS.find? (fun r => r.wq = n ∧ r.pos = pos)).map (fun r => (p, r))) = some (p, r)) ∧ s.holdsKey p.slice r.pkey.toNat = true ∧ s.shaperHolds p.slice 3 = false ∧ r.grants = [(first, len)] ∧ len ≤ 4096 :=
  ⟨tSegment, 48, 5, 0, 1, 2, { tItem (.running 48) with src := .segment 5 0 }, tEntryWq tSendB, tWqe tSendB, tRdvPeer, tRdv, by decide +kernel⟩

/-! Hypotheses of TranslationsLoadInvalidateAndEnd are met. -/

/-- Stage 1 of slice 1 translates, and the device is in SERVICE. -/
def tServe2 : State := tQueues.setReg R.transCtl 1 0 (BitVec.ofNat _ (2 ^ 61))
def tAcc : Access := { slice := 1, ia := 0x1000, wq := 5 }
def tMiss (l : List (Who × Access)) : State :=
  (tEntry (tBytes 0 0 0 0 [])).updTrans (fun t => { t with misses := [{ id := 7, slice := 1, stage := 1, ia := 0x1000, waiters := l }] })
def tTheWalk : Walk := { id := 4, acc := { slice := 1, ia := 0x3000 }, stage := 2, ia := 0x3000, lv := 4 }
def tWalk (w : Walk) : State :=
  (tQueues.updTrans (fun t => { t with walks := [w], nextWalk := 5 })).updHost (fun h => { h with reads := [{ owner := .walk 4 }] })
theorem test_wit_TranslationsLoadInvalidateAndEnd_1 : ∃ (s : State) (q : Req) (role : Role) (v : Image) (sl st : Nat),
    sl = fldN v 127 120 ∧ st = fldN v 119 118 ∧ s.mayWrite q role R.tlbLoad 0 0 v = true ∧ s.mayStage role sl st = true ∧ s.tlbLoadBad v = false ∧ (s.tlbPut (slotOf sl st (v.extractLsb' 0 64 : BitVec 64) (fldN v 99 64) (bit v 117))).isSome = true :=
  ⟨tServe2, tReq, .operator, BitVec.ofNat _ (2 ^ 120 + 2 ^ 118 + 3 * 2 ^ 64 + 0x5007), 1, 1, by decide +kernel⟩
theorem test_wit_TranslationsLoadInvalidateAndEnd_2 : ∃ (s : State) (q : Req) (role : Role) (v : Image),
    s.mayWrite q role R.tlbInval 0 0 v = true ∧ fldN v 119 118 ≠ 0 ∧ fldN v 116 115 < 2 ∧ (fldN v 116 115 = 1 → fldN v 35 0 ≠ 0) ∧ (stagesOf (fldN v 119 118)).all (fun n => s.mayStage role (fldN v 127 120) n) = true ∧ Table.risingFrom none s.trans.tlb = true :=
  ⟨tServe2, tReq, .operator, BitVec.ofNat _ (2 ^ 120 + 2 ^ 118), by decide +kernel⟩
theorem test_wit_TranslationsLoadInvalidateAndEnd_3 : ∃ (s : State),
    s.host.arb.bursts.all (fun b => !(b.granted && b.stale)) = true :=
  ⟨tQueues, by decide +kernel⟩
theorem test_wit_TranslationsLoadInvalidateAndEnd_4 : ∃ (s : State) (q : Req) (role : Role) (v : Image) (m : Miss),
    s.mayWrite q role R.transRetry 0 0 v = true ∧ s.trans.misses.find? (fun m => m.id = fldN v 15 0) = some m ∧ s.mayStage role m.slice m.stage = true ∧ fldN v 31 30 = 1 ∧ m.waiters = [] ∧ s.trans.ended = [] ∧ s.trans.walks.all (fun w => decide (w.on ≠ .free)) = true :=
  ⟨tMiss [], tReq, .operator, 0x40000007, { id := 7, slice := 1, stage := 1, ia := 0x1000 }, by decide +kernel⟩
theorem test_wit_TranslationsLoadInvalidateAndEnd_5 : ∃ (s : State) (q : Req) (role : Role) (v x : Image) (m : Miss) (n pos : Nat) (a : Access),
    x = setFld v 31 30 2 ∧ s.mayWrite q role R.transRetry 0 0 x = true ∧ s.trans.misses.find? (fun m => m.id = fldN x 15 0) = some m ∧ s.mayStage role m.slice m.stage = true ∧ m.waiters = [(.item n pos, a)] ∧ s.trans.ended = [] ∧ s.trans.walks.all (fun w => decide (w.on ≠ .free)) = true ∧ s.rop n pos = none ∧ s.remote.peers.all (fun p => p.rdvS.all (fun r => !(r.wq == n && r.pos == pos))) = true ∧ s.colls.ctx.all (fun c => c.2.members.all (fun m => !(m.wq == n && m.pos == pos))) = true :=
  ⟨tMiss [(.item 5 0, tAcc)], tReq, .operator, 7, 0x80000007, { id := 7, slice := 1, stage := 1, ia := 0x1000, waiters := [(.item 5 0, tAcc)] }, 5, 0, tAcc, by decide +kernel⟩
theorem test_wit_TranslationsLoadInvalidateAndEnd_6 : ∃ (s : State) (id n pos : Nat) (m : Miss) (a : Access),
    s.trans.misses.find? (fun m => m.id = id) = some m ∧ m.waiters = [(.item n pos, a)] ∧ s.trans.ended = [] ∧ s.trans.walks.all (fun w => decide (w.on ≠ .free)) = true ∧ s.rop n pos = none ∧ s.remote.peers.all (fun p => p.rdvS.all (fun r => !(r.wq == n && r.pos == pos))) = true ∧ s.colls.ctx.all (fun c => c.2.members.all (fun m => !(m.wq == n && m.pos == pos))) = true :=
  ⟨tMiss [(.item 5 0, tAcc)], 7, 5, 0, { id := 7, slice := 1, stage := 1, ia := 0x1000, waiters := [(.item 5 0, tAcc)] }, tAcc, by decide +kernel⟩
theorem test_wit_TranslationsLoadInvalidateAndEnd_7 : ∃ (s : State) (id : Nat) (e : BitVec 64) (r : HostRead) (w : Walk),
    s.host.reads.find? (fun r => r.owner = .walk id) = some r ∧ (s.trans.walks.find? (fun w => w.id = id ∧ w.on = .read) = some w) ∧ w.stage = 2 ∧ w.lv < 4 ∧ bit e 0 = true ∧ fldN e 11 1 = 0 ∧ s.serviceMode = false ∧ s.trans.ended = [] :=
  ⟨tWalk { tTheWalk with lv := 3 }, 4, 0x9001, { owner := .walk 4 }, { tTheWalk with lv := 3 }, by decide +kernel⟩
theorem test_wit_TranslationsLoadInvalidateAndEnd_8 : ∃ (s : State) (id : Nat) (e : BitVec 64) (r : HostRead) (w : Walk),
    s.host.reads.find? (fun r => r.owner = .walk id) = some r ∧ (s.trans.walks.find? (fun w => w.id = id ∧ w.on = .read) = some w) ∧ w.stage = 2 ∧ w.lv = 4 ∧ bit e 0 = true ∧ pteReserved e 2 = false ∧ pteMisaligned e (w.ia / 4096) = false ∧ w.waiters = [] ∧ s.trans.ended = [] :=
  ⟨tWalk tTheWalk, 4, 0x9007, { owner := .walk 4 }, tTheWalk, by decide +kernel⟩

/-! Hypotheses of MessagesAreMatchedAndAnswered are met. -/

/-- A packet from station 65 of node 7 to station 64. -/
def tHdr (cmd cls : Nat) : Header :=
  { dstStation := 64, srcNode := 7, srcStation := 65, cls := BitVec.ofNat 3 cls, cmd := BitVec.ofNat 8 cmd }
/-- A RECV of 100 bytes at 0x1000, as an entry and as a posted receive of any message; a peer whose channels expect number 0. -/
def tRecvB2 : List Byte := tBytes 0x11 0 0 100 [(24, 0x1000, 8)]
def tRecvR : Posted := { wq := 5, source := 0xFFFFFFFF }
def tPeerR : Peer := { tPeer with recv2 := { known := true } }
/-- The entry is there and its receive posted; accesses are not translated; the packet stands at match unit 0. -/
def tPosted (h : Header) (payload : List Byte) : State :=
  { (((tEntry tRecvB2).setReg R.transStageTwo 1 0 (BitVec.ofNat _ (2 ^ 63))).setMctx 0 { posted := [tRecvR] }).updRemote
      (fun r => { r with peers := [tPeerR] }) with arrived := [{ stop := 5, pkt := { hdr := h, payload := payload } }] }
/-- A SEND that goes by rendezvous, or is unacknowledged. -/
def tSending (h : Header) : State :=
  { ((tEntry tSendB).updRemote (fun r => { r with peers := [{ tPeer with
      rdvS := [{ tRdv with grants := [] }],
      send2 := (if h.cmd = 0x15 then { sync := false, next := 4, unacked := [{ num := 3, wq := 5 }] } else { sync := false }) }] }))
    with arrived := [{ stop := 5, pkt := { hdr := h } }] }
/-- A receive by rendezvous whose last two bytes come. -/
def tRdvR : RdvRecv := { num := 9, wq := 5, want := 2, granted := 2, chunks := [{ first := 0, len := 2 }] }
def tFilling : State := (tPosted { tHdr 0x13 3 with msgId := 9 } [1, 2]).updRemote (fun r => { r with peers := [{ tPeerR with rdvR := [tRdvR] }] })
theorem test_wit_MessagesAreMatchedAndAnswered_1 : ∃ (s : State) (u sl n : Nat) (a : Arrived) (r : Posted) (rest : List Posted) (w : Wq) (e : WqEntry),
    s.arrival (matchStop u) 0x10 = some a ∧ (s.takeArrival a).inStep a.pkt.hdr sl n = true ∧ (s.mctx n).posted = r :: rest ∧ (s.mctx n).overflow = [] ∧ r.fits a.pkt.hdr.ext (prologueOf a.pkt.payload).1 = true ∧ s.recvEntry r.wq r.pos = some (w, e) ∧ entryFrag e.bytes = false ∧ s.bypass w.slice = true ∧ a.pkt.payload.length = 16 + (prologueOf a.pkt.payload).2.1 ∧ 0 < (prologueOf a.pkt.payload).2.1 ∧ (prologueOf a.pkt.payload).2.1 ≤ min 512 (entryLen e.bytes) ∧ entryLaddr e.bytes % 4096 + (prologueOf a.pkt.payload).2.1 ≤ 4096 ∧ w.func ≠ memFunc ∧ s.writable w.slice = true ∧ Table.risingFrom none s.remote.mctx = true :=
  ⟨tPosted (tHdr 0x10 2) (prologue 3 2 false ++ [7, 8]), 0, 1, 0, { stop := 5, pkt := { hdr := tHdr 0x10 2, payload := prologue 3 2 false ++ [7, 8] } }, tRecvR, [], tEntryWq tRecvB2, tWqe tRecvB2, by decide +kernel⟩
theorem test_wit_MessagesAreMatchedAndAnswered_2 : ∃ (s : State) (u sl n : Nat) (a : Arrived) (r : Posted) (rest : List Posted) (w : Wq) (e : WqEntry),
    s.arrival (matchStop u) 0x11 = some a ∧ s.itemWaits a = false ∧ (s.takeArrival a).inStep a.pkt.hdr sl n = true ∧ (s.mctx n).posted = r :: rest ∧ (s.mctx n).overflow = [] ∧ r.fits a.pkt.hdr.ext (prologueOf a.pkt.payload).1 = true ∧ s.recvEntry r.wq r.pos = some (w, e) ∧ 0 < min (prologueOf a.pkt.payload).2.1 (entryLen e.bytes) ∧ 0 < s.rdvWindow ∧ Table.risingFrom none s.remote.mctx = true :=
  ⟨tPosted (tHdr 0x11 2) (prologue 3 200 false), 0, 1, 0, { stop := 5, pkt := { hdr := tHdr 0x11 2, payload := prologue 3 200 false } }, tRecvR, [], tEntryWq tRecvB2, tWqe tRecvB2, by decide +kernel⟩
theorem test_wit_MessagesAreMatchedAndAnswered_3 : ∃ (s : State) (u sl : Nat) (a : Arrived) (p : Peer),
    s.arrival (matchStop u) 0x16 = some a ∧ s.stationSlice a.pkt.hdr.dstStation.toNat = some sl ∧ s.peer (pairOf a.pkt.hdr) = some p ∧ s.holdsKey sl a.pkt.hdr.pkey.toNat = true ∧ s.peersOf p.slice ≤ s.peerLimit p.slice :=
  ⟨tPosted { tHdr 0x16 2 with msgId := 9 } [], 0, 1, { stop := 5, pkt := { hdr := { tHdr 0x16 2 with msgId := 9 } } }, tPeerR, by decide +kernel⟩
theorem test_wit_MessagesAreMatchedAndAnswered_4 : ∃ (s : State) (u : Nat) (a : Arrived) (p : Peer) (r : RdvSend) (w : Wq) (e : WqEntry),
    s.arrival (matchStop u) 0x12 = some a ∧ s.itemWaits a = false ∧ s.peer (pairOf a.pkt.hdr) = some p ∧ p.rdvS.find? (fun r => r.num = a.pkt.hdr.msgId.toNat) = some r ∧ s.holdsKey p.slice a.pkt.hdr.pkey.toNat = true ∧ r.grants = [] ∧ s.recvEntry r.wq r.pos = some (w, e) ∧ entryUnits e.bytes ≠ 0 ∧ s.shaperHolds p.slice 3 = false ∧ a.pkt.hdr.ext.toNat ≤ 4096 :=
  ⟨tSending { tHdr 0x12 2 with msgId := 3, offset := 4, ext := 2 }, 0, { stop := 5, pkt := { hdr := { tHdr 0x12 2 with msgId := 3, offset := 4, ext := 2 } } }, { tPeer with rdvS := [{ tRdv with grants := [] }] }, { tRdv with grants := [] }, tEntryWq tSendB, tWqe tSendB, by decide +kernel⟩
theorem test_wit_MessagesAreMatchedAndAnswered_5 : ∃ (s : State) (u : Nat) (a : Arrived) (p : Peer) (r : RdvRecv) (k : Chunk) (w : Wq) (e : WqEntry),
    s.arrival (matchStop u) 0x13 = some a ∧ s.peer (pairOf a.pkt.hdr) = some p ∧ p.rdvR.find? (fun r => r.num = a.pkt.hdr.msgId.toNat) = some r ∧ s.holdsKey p.slice a.pkt.hdr.pkey.toNat = true ∧ r.chunks = [k] ∧ k.first ≤ a.pkt.hdr.offset.toNat ∧ a.pkt.hdr.offset.toNat + a.pkt.payload.length ≤ k.first + k.len ∧ r.offsets.contains a.pkt.hdr.offset.toNat = false ∧ k.got + a.pkt.payload.length = k.len ∧ r.want ≤ r.granted ∧ s.recvEntry r.wq r.pos = some (w, e) ∧ entryFrag e.bytes = false ∧ s.bypass w.slice = true :=
  ⟨tFilling, 0, { stop := 5, pkt := { hdr := { tHdr 0x13 3 with msgId := 9 }, payload := [1, 2] } }, { tPeerR with rdvR := [tRdvR] }, tRdvR, { first := 0, len := 2 }, tEntryWq tRecvB2, tWqe tRecvB2, by decide +kernel⟩
theorem test_wit_MessagesAreMatchedAndAnswered_6 : ∃ (s : State) (u : Nat) (a : Arrived) (p : Peer) (r : RdvSend),
    s.arrival (matchStop u) 0x14 = some a ∧ s.itemWaits a = false ∧ s.peer (pairOf a.pkt.hdr) = some p ∧ p.rdvS.find? (fun r => r.num = a.pkt.hdr.msgId.toNat) = some r :=
  ⟨tSending { tHdr 0x14 2 with msgId := 3 }, 0, { stop := 5, pkt := { hdr := { tHdr 0x14 2 with msgId := 3 } } }, { tPeer with rdvS := [{ tRdv with grants := [] }] }, { tRdv with grants := [] }, by decide +kernel⟩
theorem test_wit_MessagesAreMatchedAndAnswered_7 : ∃ (s : State) (u cls : Nat) (a : Arrived) (p : Peer),
    s.arrival (matchStop u) 0x15 = some a ∧ s.itemWaits a = false ∧ cls = a.pkt.hdr.ext.toNat / 256 % 8 ∧ (cls = 2 ∨ cls = 3) ∧ a.pkt.hdr.ext.toNat % 256 = 0 ∧ s.peer (pairOf a.pkt.hdr) = some p ∧ s.holdsKey p.slice a.pkt.hdr.pkey.toNat = true ∧ s.peersOf p.slice ≤ s.peerLimit p.slice ∧ (p.send cls).unacked.any (fun x => decide (diff24 a.pkt.hdr.msgId.toNat x.num < 2 ^ 23)) = true :=
  ⟨tSending { tHdr 0x15 2 with msgId := 3, ext := 0x200 }, 0, 2, { stop := 5, pkt := { hdr := { tHdr 0x15 2 with msgId := 3, ext := 0x200 } } }, { tPeer with rdvS := [{ tRdv with grants := [] }], send2 := { sync := false, next := 4, unacked := [{ num := 3, wq := 5 }] } }, by decide +kernel⟩
theorem test_wit_MessagesAreMatchedAndAnswered_8 : ∃ (s : State) (u : Nat) (a : Arrived) (p : Peer) (r : RdvSend),
    s.arrival (matchStop u) 0x17 = some a ∧ s.itemWaits a = false ∧ s.peer (pairOf a.pkt.hdr) = some p ∧ p.rdvS.find? (fun r => r.num = a.pkt.hdr.msgId.toNat) = some r :=
  ⟨tSending { tHdr 0x17 2 with msgId := 3, ext := 0x31 }, 0, { stop := 5, pkt := { hdr := { tHdr 0x17 2 with msgId := 3, ext := 0x31 } } }, { tPeer with rdvS := [{ tRdv with grants := [] }] }, { tRdv with grants := [] }, by decide +kernel⟩
theorem test_wit_MessagesAreMatchedAndAnswered_9 : ∃ (s : State) (pr : Pair) (tc3 : Bool) (p : Peer) (num : Nat) (h : Header),
    s.peer pr = some p ∧ (p.recv (chanClass tc3)).owed = some (num, h) :=
  ⟨(tPosted (tHdr 0x10 2) []).updRemote (fun r => { r with peers := [{ tPeerR with recv2 := { known := true, owed := some (8, tHdr 0x10 2) } }] }), tPair, false, { tPeerR with recv2 := { known := true, owed := some (8, tHdr 0x10 2) } }, 8, tHdr 0x10 2, by decide +kernel⟩
theorem test_wit_MessagesAreMatchedAndAnswered_10 : ∃ (s : State) (pr : Pair) (tc3 : Bool) (p : Peer),
    s.peer pr = some p ∧ (p.send (chanClass tc3)).unacked ≠ [] ∧ s.peersOf p.slice ≤ s.peerLimit p.slice :=
  ⟨tSending (tHdr 0x15 2), tPair, false, { tPeer with rdvS := [{ tRdv with grants := [] }], send2 := { sync := false, next := 4, unacked := [{ num := 3, wq := 5 }] } }, by decide +kernel⟩
theorem test_wit_MessagesAreMatchedAndAnswered_11 : ∃ (s : State) (pr : Pair) (num : Nat) (p : Peer) (r : RdvSend),
    s.peer pr = some p ∧ (p.rdvS.find? (fun r => r.num = num ∧ r.accepted) = some r) ∧ s.holdsKey p.slice r.pkey.toNat = true :=
  ⟨(tSending (tHdr 0x15 2)).updRemote (fun r => { r with peers := [{ tPeer with rdvS := [{ tRdv with accepted := true }] }] }), tPair, 3, { tPeer with rdvS := [{ tRdv with accepted := true }] }, { tRdv with accepted := true }, by decide +kernel⟩
theorem test_wit_MessagesAreMatchedAndAnswered_12 : ∃ (s : State) (n sl id k : Nat) (u : Unexpected) (r : Posted) (w : Wq) (e : WqEntry),
    (s.mctx n).walking = some id ∧ s.stationSlice (mctxStation (s.reg R.matchCtx 0 n)) = some sl ∧ (s.mctx n).unex.find? (fun u => u.id = id) = some u ∧ u.taken = none ∧ u.bin = none ∧ (s.mctx n).posted.find? (fun r => r.fits u.hdr.ext u.rank) = none ∧ (s.mctx n).unex.all (fun v => !v.waiting || v.id == id) = true ∧ (s.inboundFunc sl).isSome = true ∧ (s.mctx n).overflow = [(k, r)] ∧ s.bypass sl = true ∧ r.fits u.hdr.ext u.rank = true ∧ s.recvEntry r.wq r.pos = some (w, e) ∧ Table.risingFrom none s.remote.mctx = true :=
  ⟨(tPosted (tHdr 0x11 2) []).setMctx 0 { overflow := [(0, tRecvR)], unex := [{ id := 6, hdr := tHdr 0x11 2, rank := 3, total := 4 }], walking := some 6 }, 0, 1, 6, 0, { id := 6, hdr := tHdr 0x11 2, rank := 3, total := 4 }, tRecvR, tEntryWq tRecvB2, tWqe tRecvB2, by decide +kernel⟩
theorem test_wit_MessagesAreMatchedAndAnswered_13 : ∃ (s : State) (sl job rank : Nat) (x : Nat × Nat) (xs : List (Nat × Nat)) (j : Image) (w : Wq),
    s.rankWaiters sl job rank = x :: xs ∧ s.jobEntry sl job = some j ∧ s.host.gathers.all (fun g => decide (g.for_ ≠ .rank sl job rank)) = true ∧ s.wq x.1 = some w ∧ s.bypass sl = true :=
  ⟨((tPosted (tHdr 0x11 2) []).updEngines (fun e => { e with items := [tItem (.parked (.rank 2 3))] })).setReg R.jobs 1 0 (BitVec.ofNat _ (2 ^ 127 + 2 * 2 ^ 96)), 1, 2, 3, (5, 0), [], BitVec.ofNat _ (2 ^ 127 + 2 * 2 ^ 96), tEntryWq tRecvB2, by decide +kernel⟩
theorem test_wit_MessagesAreMatchedAndAnswered_14 : ∃ (s : State) (q : Req) (role : Role) (sl : Nat) (v : Image),
    s.mayWrite q role R.rankInval sl 0 v = true :=
  ⟨tQueues.updRemote (fun r => { r with ranks := [(1, 2, 3, 4)] }), tReq, .operator, 1, BitVec.ofNat _ (2 ^ 63 + 2 * 2 ^ 32 + 3), by decide +kernel⟩

/-! Hypotheses of RemoteRequestsAndAnswers are met. -/

/-- Slice 1 is a target: region 0 covers its first 2^39 bytes with every right, and notifies CQ 0. -/
def tTarget (h : Header) (payload : List Byte) : State :=
  { (tPosted h []).setReg R.region 0 0 (BitVec.ofNat _ (2 ^ 127 + 7 * 2 ^ 124 + 2 ^ 122 + 2 ^ 112 + 2 ^ 39 * 2 ^ 48))
    with arrived := [{ pkt := { hdr := h, payload := payload } }] }
/-- An operation of WQ 5 with one message of one packet outstanding. -/
def tOutMsg (k : RKind) : RMsg := { wq := 5, kind := k, len := 10, addr := 0x2000, sent := 1, times := [0] }
def tOp : ROp := { wq := 5, slice := 1, pair := tPair, cls := 4, cut := 10, all := true }
def tWaiter (k : RKind) : Peer := { tPeer with next := 1, msgs := [tOutMsg k] }
def tWaiting (k : RKind) (h : Header) (payload : List Byte) : State :=
  { (tEntry (tRmaB 0x20)).updRemote (fun r => { r with peers := [tWaiter k], ops := [tOp] }) with arrived := [{ pkt := { hdr := h, payload := payload } }] }
def tOwing : Peer := { tPeer with trackers := [{ num := 3, pkts := 2, rcvd := [1], hdr := tHdr 0x20 4 }], owed := [(3, 1)] }
theorem test_wit_RemoteRequestsAndAnswers_1 : ∃ (s : State) (st sl f : Nat) (a : Arrived),
    s.arrival st 0x20 = some a ∧ s.admits a.pkt.hdr sl = true ∧ s.regionRefuses sl (reqKey a.pkt.hdr) 125 (targetAddr a.pkt.hdr) a.pkt.payload.length = false ∧ s.inboundFunc sl = some f ∧ f ≠ memFunc ∧ s.bypass sl = true ∧ 0 < a.pkt.payload.length ∧ a.pkt.payload.length ≤ 512 ∧ targetAddr a.pkt.hdr % 4096 + a.pkt.payload.length ≤ 4096 ∧ s.writable sl = true ∧ s.remote.placing = [] ∧ s.remote.invals = [] :=
  ⟨tTarget { tHdr 0x20 4 with offset := 0x1010 } [5, 6], 0, 1, 0, { pkt := { hdr := { tHdr 0x20 4 with offset := 0x1010 }, payload := [5, 6] } }, by decide +kernel⟩
theorem test_wit_RemoteRequestsAndAnswers_2 : ∃ (s : State) (st sl rkey n : Nat) (a : Arrived) (c : Cq),
    s.arrival st 0x21 = some a ∧ s.itemWaits a = false ∧ s.admits a.pkt.hdr sl = true ∧ rkey = natOfBytes (a.pkt.payload.take 4) ∧ s.regionRefuses sl rkey 122 (fldN (s.reg R.region 0 (rkey % 65536)) 47 0) 0 = false ∧ n = fldN (s.reg R.region 0 (rkey % 65536)) 103 90 ∧ s.cq n = some c ∧ c.slice = sl ∧ c.st = .ready ∧ s.writable sl = true ∧ s.resident (ctxNo 1 n) = true ∧ c.held = [] ∧ posDiff c.wpos c.consumer < 2 ^ c.log :=
  ⟨tTarget (tHdr 0x21 4) (leBytes 0 4 ++ leBytes 9 4), 0, 1, 0, 0, { pkt := { hdr := tHdr 0x21 4, payload := leBytes 0 4 ++ leBytes 9 4 } }, tCq, by decide +kernel⟩
theorem test_wit_RemoteRequestsAndAnswers_3 : ∃ (s : State) (st sl len : Nat) (a : Arrived),
    s.arrival st 0x22 = some a ∧ s.admits a.pkt.hdr sl = true ∧ len = natOfBytes (a.pkt.payload.take 4) ∧ len ≤ 65536 ∧ s.answersWaiting < 8192 ∧ s.regionRefuses sl (reqKey a.pkt.hdr) 126 (targetAddr a.pkt.hdr) len = false ∧ s.bypass sl = true ∧ 0 < len ∧ targetAddr a.pkt.hdr % 4096 + len ≤ 4096 ∧ s.remote.placing = [] ∧ s.remote.invals = [] :=
  ⟨tTarget { tHdr 0x22 4 with offset := 0x1010 } (leBytes 100 8), 0, 1, 100, { pkt := { hdr := { tHdr 0x22 4 with offset := 0x1010 }, payload := leBytes 100 8 } }, by decide +kernel⟩
theorem test_wit_RemoteRequestsAndAnswers_4 : ∃ (s : State) (st sl size : Nat) (a : Arrived),
    s.arrival st 0x23 = some a ∧ s.admits a.pkt.hdr sl = true ∧ size = (if bit a.pkt.hdr.ext 27 then 16 else 8) ∧ s.answersWaiting < 8192 ∧ s.remote.atomics.all (fun x => !(targetAddr x.hdr / 64 == targetAddr a.pkt.hdr / 64 && x.slice == sl)) = true ∧ s.regionRefuses sl (reqKey a.pkt.hdr) 124 (targetAddr a.pkt.hdr) size = false ∧ targetAddr a.pkt.hdr % size = 0 ∧ a.pkt.hdr.ext.toNat / 2 ^ 24 % 8 ≤ 6 ∧ a.pkt.payload.length = 2 * size ∧ s.bypass sl = true :=
  ⟨tTarget { tHdr 0x23 4 with offset := 0x1010, ext := 0x1000000 } (leBytes 100 16), 0, 1, 8, { pkt := { hdr := { tHdr 0x23 4 with offset := 0x1010, ext := 0x1000000 }, payload := leBytes 100 16 } }, by decide +kernel⟩
theorem test_wit_RemoteRequestsAndAnswers_5 : ∃ (s : State) (st : Nat) (a : Arrived) (p : Peer) (m : RMsg) (o : ROp),
    s.arrival st 0x28 = some a ∧ s.answered a.pkt.hdr (· == .get) = some (p, m) ∧ a.pkt.hdr.ext.toNat / 2 ^ 28 = 0 ∧ m.acked = [] ∧ m.pkts = 1 ∧ p.msgs = [m] ∧ s.rop m.wq m.pos = some o ∧ o.pair = p.pair ∧ o.all = true ∧ o.failed = none :=
  ⟨tWaiting .get (tHdr 0x28 5) [1], 0, { pkt := { hdr := tHdr 0x28 5, payload := [1] } }, tWaiter .get, tOutMsg .get, tOp, by decide +kernel⟩
theorem test_wit_RemoteRequestsAndAnswers_6 : ∃ (s : State) (st : Nat) (a : Arrived) (p : Peer) (m : RMsg) (o : ROp),
    s.arrival st 0x29 = some a ∧ s.answered a.pkt.hdr (· == .atomic) = some (p, m) ∧ m.acked = [] ∧ m.pkts = 1 ∧ p.msgs = [m] ∧ s.rop m.wq m.pos = some o ∧ o.pair = p.pair ∧ o.all = true ∧ o.failed = none :=
  ⟨tWaiting .atomic (tHdr 0x29 5) [1], 0, { pkt := { hdr := tHdr 0x29 5, payload := [1] } }, tWaiter .atomic, tOutMsg .atomic, tOp, by decide +kernel⟩
theorem test_wit_RemoteRequestsAndAnswers_7 : ∃ (s : State) (st : Nat) (a : Arrived) (p : Peer) (m : RMsg) (o : ROp),
    s.arrival st 0x2A = some a ∧ s.itemWaits a = false ∧ s.answered a.pkt.hdr sacked = some (p, m) ∧ (maskIds (a.pkt.hdr.ext.toNat % 65536) m.pkts).length = m.pkts ∧ m.acked = [] ∧ p.msgs = [m] ∧ s.rop m.wq m.pos = some o ∧ o.pair = p.pair ∧ o.all = true ∧ o.failed = none :=
  ⟨tWaiting .put { tHdr 0x2A 5 with ext := 0x8001 } [], 0, { pkt := { hdr := { tHdr 0x2A 5 with ext := 0x8001 } } }, tWaiter .put, tOutMsg .put, tOp, by decide +kernel⟩
theorem test_wit_RemoteRequestsAndAnswers_8 : ∃ (s : State) (pr : Pair) (num : Nat) (p : Peer) (x : Tracker),
    s.peer pr = some p ∧ p.trackers.find? (fun t => t.num = num) = some x ∧ p.owed.any (fun o => o.1 = num) = true :=
  ⟨(tTarget (tHdr 0x20 4) []).updRemote (fun r => { r with peers := [tOwing] }), tPair, 3, tOwing, { num := 3, pkts := 2, rcvd := [1], hdr := tHdr 0x20 4 }, by decide +kernel⟩
theorem test_wit_RemoteRequestsAndAnswers_9 : ∃ (s : State) (pr : Pair) (num : Nat) (p : Peer) (m : RMsg) (o : ROp) (w : Wq) (e : WqEntry),
    s.peer pr = some p ∧ p.msgs = [m] ∧ m.num = num ∧ m.sent = 1 ∧ m.acked = [] ∧ m.kind = .put ∧ m.tries < s.retryLimit ∧ s.rop m.wq m.pos = some o ∧ o.pair = pr ∧ s.holdsKey o.slice o.pkey.toNat = true ∧ s.shaperHolds o.slice o.cls = false ∧ s.recvEntry m.wq m.pos = some (w, e) ∧ entryUnits e.bytes ≠ 0 :=
  ⟨tWaiting .put (tHdr 0x2A 5) [], tPair, 0, tWaiter .put, tOutMsg .put, tOp, tEntryWq (tRmaB 0x20), tWqe (tRmaB 0x20), by decide +kernel⟩
theorem test_wit_RemoteRequestsAndAnswers_10 : ∃ (s : State) (q : Req) (role : Role) (n : Nat) (v x : Image),
    x = setFld v 127 127 0 ∧ s.mayWrite q role R.region 0 n x = true ∧ bit (s.reg R.region 0 n) 127 = true ∧ Table.risingFrom none s.dict = true ∧ s.remote.placing.all (fun x => x.region != n) = true :=
  ⟨tTarget (tHdr 0x20 4) [], tReq, .operator, 0, 0, 0, by decide +kernel⟩

/-! Hypotheses of CollectivesCombineCommitAndAbort are met. -/

/-- A COLLECTIVE that reads its contribution at 0x1000. -/
def tCollB2 : List Byte := tBytes 0x30 0 0 4 [(24, 0x1000, 8)]
/-- Context 0 of unit 0, key 1: parent at port 5, a child at port 3, `k` local members; neighbours 100 and 101 stand at ports 3 and 5. -/
def tCollCtx (k : Nat) : Image := BitVec.ofNat _ (2 ^ 127 + 2 ^ 112 + 2 ^ 96 + 5 * 2 ^ 90 + k * 2 ^ 81 + 2 ^ 73 + 2 ^ 3)
/-- EXT of a plain sum of four elements, attempt 0; a packet of epoch 0, one cell long, staged at unit 0. -/
def tCollExt : Nat := ({ count := 4 } : COp).ext 0
def tCollHdr (cmd ext off : Nat) : Header :=
  { srcNode := if cmd = 0x40 then 100 else 101, cls := 1, cmd := BitVec.ofNat 8 cmd, length := 16, ext := BitVec.ofNat 32 ext, offset := BitVec.ofNat 32 off }
def tCollPk (cmd ext off : Nat) : Packet := packetOf (packetCells (tCollHdr cmd ext off) [1, 2, 3, 4])
def tTree (k cmd ext off : Nat) : State :=
  let s := (tQueues.setReg R.collCtx 0 0 (tCollCtx k)).setColl 0 { st := .active, op := { count := 4 } }
  { s with links := [(3, { partner := some { addrValid := true, node := 100 } }), (5, { partner := some { addrValid := true, node := 101 } })]
           outputs := [(56, { egress := (packetCells (tCollHdr cmd ext off) [1, 2, 3, 4]).map (fun b => { first := true, last := true, body := b }) })] }
theorem test_wit_CollectivesCombineCommitAndAbort_1 : ∃ (s : State) (u n edge pid j : Nat) (pk : Packet),
    s.collArrival u 0x40 = some (pid, pk) ∧ s.collOwn u pid = none ∧ s.collTakes pk.hdr n (s.collChildren n) edge = true ∧ (s.coll n).st = .active ∧ (s.coll n).op = copOf pk.hdr.ext.toNat ∧ j = pk.hdr.offset.toNat % 512 ∧ j < (s.coll n).op.segs ∧ pk.hdr.offset.toNat / 512 % 2 = 1 ∧ (s.coll n).upSeen edge j true = false ∧ (s.coll n).data = [] ∧ (s.contributors n).all (fun x => x == edge) = false :=
  ⟨tTree 2 0x40 tCollExt 512, 0, 0, 3, 0, 0, tCollPk 0x40 tCollExt 512, by decide +kernel⟩
theorem test_wit_CollectivesCombineCommitAndAbort_2 : ∃ (s : State) (u n edge pid j up : Nat) (pk : Packet),
    s.collArrival u 0x40 = some (pid, pk) ∧ s.collOwn u pid = none ∧ s.collTakes pk.hdr n (s.collChildren n) edge = true ∧ (s.coll n).st = .active ∧ (s.coll n).op = copOf pk.hdr.ext.toNat ∧ j = pk.hdr.offset.toNat % 512 ∧ j < (s.coll n).op.segs ∧ pk.hdr.offset.toNat / 512 % 2 = 1 ∧ (s.coll n).upSeen edge j true = false ∧ (s.coll n).data = [] ∧ (s.contributors n).all (fun x => x == edge) = true ∧ s.collParent n = some up ∧ (s.coll n).exps = [] ∧ j = (s.coll n).upDone.length ∧ s.segOpen (s.coll n) j = true :=
  ⟨tTree 0 0x40 tCollExt 512, 0, 0, 3, 0, 0, 5, tCollPk 0x40 tCollExt 512, by decide +kernel⟩
theorem test_wit_CollectivesCombineCommitAndAbort_3 : ∃ (s : State) (u n edge pid j : Nat) (pk : Packet),
    s.collArrival u 0x41 = some (pid, pk) ∧ s.collOwn u pid = none ∧ s.collTakes pk.hdr n (s.collParent n).toList edge = true ∧ (s.coll n).st = .active ∧ (s.coll n).op = copOf pk.hdr.ext.toNat ∧ j = pk.hdr.offset.toNat % 512 ∧ j < (s.coll n).op.segs ∧ pk.hdr.offset.toNat / 512 % 2 = 1 ∧ (s.coll n).downD.contains j = false ∧ (s.coll n).members = [] ∧ (s.coll n).data = [] ∧ (s.coll n).exps = [] :=
  ⟨tTree 0 0x41 tCollExt 512, 0, 0, 5, 0, 0, tCollPk 0x41 tCollExt 512, by decide +kernel⟩
theorem test_wit_CollectivesCombineCommitAndAbort_4 : ∃ (s : State) (u n edge pid : Nat) (pk : Packet),
    s.collArrival u 0x42 = some (pid, pk) ∧ s.collOwn u pid = none ∧ s.collTakes pk.hdr n (s.collParent n).toList edge = true ∧ (s.coll n).st = .active ∧ (s.coll n).op = copOf pk.hdr.ext.toNat ∧ Table.risingFrom none s.colls.ctx = true :=
  ⟨tTree 0 0x42 tCollExt 0, 0, 0, 5, 0, tCollPk 0x42 tCollExt 0, by decide +kernel⟩
theorem test_wit_CollectivesCombineCommitAndAbort_5 : ∃ (s : State) (u n edge pid : Nat) (pk : Packet),
    s.collArrival u 0x43 = some (pid, pk) ∧ s.collOwn u pid = none ∧ s.collTakes pk.hdr n (s.collEdges n) edge = true ∧ (s.coll n).st = .active :=
  ⟨tTree 0 0x43 6 0, 0, 0, 5, 0, tCollPk 0x43 6 0, by decide +kernel⟩
theorem test_wit_CollectivesCombineCommitAndAbort_6 : ∃ (s : State) (n num : Nat) (m : CMember) (w : Wq) (e : WqEntry),
    ((s.coll n).members.find? (fun x => x.num = num ∧ !x.gone) = some m) ∧ (s.coll n).st = .active ∧ s.mayData (s.coll n) m = true ∧ s.recvEntry m.wq m.pos = some (w, e) ∧ s.capped w.slice = false ∧ entryLaddr e.bytes ≠ 0 ∧ s.bypass w.slice = true :=
  ⟨((tEntry tCollB2).setReg R.transStageTwo 1 0 (BitVec.ofNat _ (2 ^ 63))).setColl 0 { st := .active, op := { count := 4 }, members := [{ num := 0, wq := 5 }] }, 0, 0, { num := 0, wq := 5 }, tEntryWq tCollB2, tWqe tCollB2, by decide +kernel⟩
theorem test_wit_CollectivesCombineCommitAndAbort_7 : ∃ (s : State) (n : Nat),
    (s.coll n).st = .active ∧ (s.collEdges n).find? s.collPortDown = none :=
  ⟨(tEntry tCollB2).setColl 0 { st := .active, op := { count := 4 } }, 0, by decide +kernel⟩
theorem test_wit_CollectivesCombineCommitAndAbort_8 : ∃ (s : State) (q : Req) (role : Role) (v : Image) (n : Nat),
    s.mayWrite q role R.collAbort 0 0 v = true ∧ n = fldN v 11 0 ∧ s.collValid n = true ∧ (s.coll n).st = .active :=
  ⟨(tEntry tCollB2).setColl 0 { st := .active, op := { count := 4 } }, tReq, .operator, 0, 0, by decide +kernel⟩
theorem test_wit_CollectivesCombineCommitAndAbort_9 : ∃ (s : State) (q : Req) (role : Role) (v : Image) (n : Nat),
    s.mayWrite q role R.collEpoch 0 0 v = true ∧ n = fldN v 43 32 ∧ s.collValid n = true ∧ (s.coll n).st ≠ .active ∧ Table.risingFrom none s.colls.ctx = true :=
  ⟨tEntry tCollB2, tReq, .operator, 7, 0, by decide +kernel⟩
theorem test_wit_CollectivesCombineCommitAndAbort_10 : ∃ (s : State) (q : Req) (role : Role) (v : Image) (n b : Nat),
    s.mayWrite q role R.collSteep 0 n v = true ∧ s.collValid n = true ∧ s.collRoot n = true ∧ 0 < fldN v 44 28 ∧ fldN v 44 28 ≤ 65536 ∧ (3 ≤ fldN v 62 60 → fldN v 59 57 < 3) ∧ bit v 63 = true ∧ bit (s.reg R.collSteep 0 n) 63 = false ∧ s.steepRun (fldN v 44 28) = some b ∧ Table.risingFrom none s.dict = true :=
  ⟨tEntry tCollB2, tReq, .operator, BitVec.ofNat _ (2 ^ 63 + 100 * 2 ^ 28), 0, 0, by decide +kernel⟩
theorem test_wit_CollectivesCombineCommitAndAbort_11 : ∃ (s : State) (q : Req) (role : Role) (v : Image) (n : Nat),
    s.mayWrite q role R.collSteepClear 0 0 v = true ∧ n = fldN v 11 0 ∧ bit (s.reg R.collSteep 0 n) 63 = true ∧ (s.coll n).st ≠ .active :=
  ⟨(tEntry tCollB2).setReg R.collSteep 0 0 (BitVec.ofNat _ (2 ^ 63 + 100 * 2 ^ 28)), tReq, .operator, 0, 0, by decide +kernel⟩

/-! Hypotheses of MemoryLinksAndPools are met. -/

/-- Every host port is a ROOT port whose PERST# is asserted; the device has started up. -/
def tMemRoots : State := { tServe .operator with active := (List.range 4).map (fun k => (R.hostCtl.key k 0, 1)) }
/-- Memory link 0 stands so; decoder 0 (4 × 256 MiB, no interleaving) reads from it; the device is in service mode. -/
def tMem (m : MemLink) : State :=
  { tServe .operator with
    active := (tServe .operator |>.setReg R.svcCtl 0 0 0xA01 |>.setReg R.memDecoder 0 0 (BitVec.ofNat _ (2 ^ 127 + 4 * 2 ^ 64))).dict
    host := { ports := [(0, { perst := false, pin := false, linkA := { st := 2 } })] }
    service := { links := [(0, m)] } }
/-- Pool 0 is the first 2 MiB for slice 5, in state `st`, DIRTY as `dirty` says, last slice 5's, in the committed decoder 0. -/
def tPoolV : Image := BitVec.ofNat _ (5 * 2 ^ 112 + 2 ^ 64)
def tPool (st dirty : Nat) : State :=
  let s := (tMem { st := .active, capacity := 4 }).setReg R.pool 0 0 (setFld (setFld (setFld tPoolV 111 104 5) 125 125 dirty) 127 126 st)
  { s with service := { s.service with committed := [0] }, mgmt := { s.mgmt with lifecycle := .service } }
theorem test_wit_MemoryLinksAndPools_1 : ∃ (s : State),
    s.hostsReady = true ∧ (∀ k < 4, s.hostRole k = 1 ∧ (s.hport k).perst = true ∧ (s.hport k).held = false) :=
  ⟨tMemRoots, by decide +kernel⟩
theorem test_wit_MemoryLinksAndPools_2 : ∃ (s : State) (m : Nat),
    ((s.memLink m).st = .training ∨ (s.memLink m).st = .down) ∧ s.faults.mems.contains m = false :=
  ⟨tMem { st := .training }, 0, by decide +kernel⟩
theorem test_wit_MemoryLinksAndPools_3 : ∃ (s : State) (m : Nat),
    ((s.memLink m).st = .training ∨ (s.memLink m).st = .down) ∧ s.faults.mems.contains m = false ∧ (s.hlink (m / 2) (m % 2)).st = 2 ∧ s.serviceMode = true :=
  ⟨tMem { st := .training }, 0, by decide +kernel⟩
theorem test_wit_MemoryLinksAndPools_4 : ∃ (s : State) (m : Nat),
    (s.memLink m).st = .training :=
  ⟨tMem { st := .training }, 0, by decide +kernel⟩
theorem test_wit_MemoryLinksAndPools_5 : ∃ (s : State) (m : Nat),
    (s.memLink m).st = .active :=
  ⟨tMem { st := .active, capacity := 4 }, 0, by decide +kernel⟩
theorem test_wit_MemoryLinksAndPools_7 : ∃ (s : State) (id : Nat) (r : HostRead),
    s.host.reads.find? (fun r => r.id = id) = some r ∧ r.owner = .payload :=
  ⟨{ tMem { st := .active, capacity := 4 } with built := [{ wait := [(7, 1)] }] }.updHost (fun h => { h with reads := [{ id := 7, len := 2, owner := .payload }] }), 7, { id := 7, len := 2, owner := .payload }, by decide +kernel⟩
theorem test_wit_MemoryLinksAndPools_8 : ∃ (s : State) (q : Req) (role : Role) (p : Nat) (v x : Image),
    x = setFld v 124 124 1 ∧ s.mayWrite q role R.pool 0 p x = true ∧ (poolRule q p (s.reg R.pool 0 p) x).chk s = none ∧ poolSt (s.reg R.pool 0 p) = 0 ∧ bit (s.reg R.pool 0 p) 125 = false ∧ poolSpan x = poolSpan (s.reg R.pool 0 p) ∧ fldN x 119 112 = fldN (s.reg R.pool 0 p) 111 104 :=
  ⟨tPool 0 0, tReq, .operator, 0, tPoolV, setFld tPoolV 124 124 1, by decide +kernel⟩
theorem test_wit_MemoryLinksAndPools_9 : ∃ (s : State) (q : Req) (role : Role) (p : Nat) (v x : Image),
    x = setFld v 124 124 1 ∧ s.mayWrite q role R.pool 0 p x = true ∧ (poolRule q p (s.reg R.pool 0 p) x).chk s = none ∧ poolSt (s.reg R.pool 0 p) = 0 ∧ (bit (s.reg R.pool 0 p) 125 = true ∨ poolSpan x ≠ poolSpan (s.reg R.pool 0 p) ∨ fldN x 119 112 ≠ fldN (s.reg R.pool 0 p) 111 104) :=
  ⟨tPool 0 1, tReq, .operator, 0, tPoolV, setFld tPoolV 124 124 1, by decide +kernel⟩
theorem test_wit_MemoryLinksAndPools_10 : ∃ (s : State) (q : Req) (role : Role) (p : Nat) (v x : Image),
    x = setFld v 124 124 0 ∧ s.mayWrite q role R.pool 0 p x = true ∧ (poolRule q p (s.reg R.pool 0 p) x).chk s = none ∧ poolSt (s.reg R.pool 0 p) = 1 ∧ s.poolBusy (s.reg R.pool 0 p) = false ∧ Table.risingFrom none s.dict = true :=
  ⟨tPool 1 0, tReq, .operator, 0, tPoolV, tPoolV, by decide +kernel⟩
theorem test_wit_MemoryLinksAndPools_11 : ∃ (s : State) (p : Nat) (ks : List Nat),
    s.service.zeroing = p :: ks ∧ s.poolLinksUp (s.reg R.pool 0 p) = true :=
  ⟨(tPool 2 1).updService (fun x => { x with zeroing := [0, 3] }), 0, [3], by decide +kernel⟩

/-! Hypotheses of TwinsHearEachOther are met. -/

/-- A started device with its twin link UP, an enrolled partner, the twin pair as given, and an operator's session. -/
def tTwin (w : Twin) : State :=
  { (tServe .operator).setReg R.roleKey 0 13 1 with twin := w, links := [(48, { st := .up })] }
/-- Heartbeats: of a LEAD device; of a SURRENDERED one that asks for adoption, cause 4. -/
def tBeat : BypassMsg := ({ state := 3, node := 1 } : Heartbeat).toMsg
def tAsk : BypassMsg := ({ state := 6, alert := 2, cause := 4, node := 1 } : Heartbeat).toMsg
theorem test_wit_TwinsHearEachOther_1 : ∃ (s : State),
    (s.link 48).st = .up ∧ s.faults.silent = false ∧ (s.link 48).bypassQ.length < 64 :=
  ⟨tTwin { st := .lead, lead := true, hbSeq := 255 }, by decide +kernel⟩
theorem test_wit_TwinsHearEachOther_2 : ∃ (s : State) (m : BypassMsg) (tm : Nat),
    (s.bypassIn.find? (fun b => b.1 = 48 ∧ b.2.1.type = 4) = some (48, m, tm)) :=
  ⟨{ tTwin { st := .lead, lead := true } with bypassIn := [(48, tBeat, 0)] }, tBeat, 0, by decide +kernel⟩
theorem test_wit_TwinsHearEachOther_3 : ∃ (s : State) (m : BypassMsg) (tm : Nat) (b : Heartbeat),
    (s.bypassIn.find? (fun b => b.1 = 48 ∧ b.2.1.type = 4) = some (48, m, tm)) ∧ b = heartbeatOf m ∧ b.alert = 2 ∧ b.cause ∈ [1, 2, 4, 5] ∧ s.twin.shadowValid = true ∧ s.twin.st ∈ [TwinSt.solo, .resync, .lead, .trail] ∧ s.faults.silent = false ∧ b.state ≠ 5 :=
  ⟨{ tTwin { st := .trail, shadowValid := true } with bypassIn := [(48, tAsk, 0)] }, tAsk, 0, heartbeatOf tAsk, by decide +kernel⟩
theorem test_wit_TwinsHearEachOther_4 : ∃ (s : State) (m : BypassMsg) (tm : Nat) (b : Heartbeat),
    (s.bypassIn.find? (fun b => b.1 = 48 ∧ b.2.1.type = 4) = some (48, m, tm)) ∧ b = heartbeatOf m ∧ b.alert ≠ 2 ∧ s.twin.st = .joining ∧ s.enrolled = true ∧ b.adopted ≠ some s.ownNode ∧ (s.nodeValid = true ∨ b.state ≠ 5) :=
  ⟨{ tTwin {} with bypassIn := [(48, tBeat, 0)] }, tBeat, 0, heartbeatOf tBeat, by decide +kernel⟩
theorem test_wit_TwinsHearEachOther_5 : ∃ (s : State),
    s.twin.hb = true ∧ s.beats = true ∧ (s.twin.st = .lead ∨ s.twin.st = .trail) :=
  ⟨tTwin { st := .lead, lead := true, hb := true, session := true, beatAt := some 0 }, by decide +kernel⟩
theorem test_wit_TwinsHearEachOther_6 : ∃ (s : State),
    s.twin.hb = true ∧ s.beats = false ∧ s.twin.pinFault = false :=
  ⟨tTwin { st := .lead, lead := true, hb := true }, by decide +kernel⟩
theorem test_wit_TwinsHearEachOther_7 : ∃ (s : State),
    s.twin.st = .joining ∧ s.twin.hb = false :=
  ⟨tTwin {}, by decide +kernel⟩
theorem test_wit_TwinsHearEachOther_8 : ∃ (s : State),
    s.faults.silent = false :=
  ⟨tTwin {}, by decide +kernel⟩
theorem test_wit_TwinsHearEachOther_9 : ∃ (w : Nat),
    500 ≤ w ∧ w ≤ 2000 :=
  ⟨2000, by decide +kernel⟩
theorem test_wit_TwinsHearEachOther_10 : ∃ (w : Nat),
    (w < 500 ∨ 2000 < w) :=
  ⟨2001, by decide +kernel⟩
theorem test_wit_TwinsHearEachOther_11 : ∃ (w : Nat),
    3000 ≤ w ∧ w ≤ 6000 :=
  ⟨3000, by decide +kernel⟩
theorem test_wit_TwinsHearEachOther_12 : ∃ (s : State) (w : Nat),
    15000 ≤ w ∧ w ≤ 30000 ∧ s.twin.hb = false ∧ s.mayAdopt = true :=
  ⟨tTwin { st := .solo, shadowValid := true }, 30000, by decide +kernel⟩
theorem test_wit_TwinsHearEachOther_13 : ∃ (s : State) (p : Pulse) (l : List Pulse),
    s.twin.copies = p :: l :=
  ⟨tTwin { copies := [.adopt, .adopt] }, .adopt, [.adopt], by decide +kernel⟩
theorem test_wit_TwinsHearEachOther_16 : ∃ (s : State),
    s.twin.hb = false ∧ s.twin.pinFault = false ∧ s.autoAdopt = true ∧ (s.partnerReset = 1 ∨ s.partnerReset = 2) ∧ s.mayAdopt = true ∧ s.pulsedLately = false :=
  ⟨(tTwin { st := .solo, shadowValid := true }).setReg R.twinPolicy 0 0 (BitVec.ofNat _ 0x0A0A600A0A), by decide +kernel⟩
theorem test_wit_TwinsHearEachOther_17 : ∃ (s : State),
    s.twin.resetDue = true ∧ s.pulsedLately = false ∧ s.faults.silent = false :=
  ⟨tTwin { resetDue := true }, by decide +kernel⟩

/-! Hypotheses of TwinsStayAlike are met. -/

/-- A resync under way. -/
def tResync (lead : Bool) : State := { tTwin { st := .resync, lead := lead, session := true } with ops := [(192, { st := 2 })] }
/-- The keys of slice 1 differ from the partner's. -/
def tDiff (ref : Bool) : Diff := { key := R.sliceKeys.key 1 0, value := 0x80000005, ref := ref }
def tChange : Change := ((tDiff true).key, 5)
theorem test_wit_TwinsStayAlike_1 : ∃ (s : State) (q : Req) (role : Role),
    s.mayOperate q role R.boolStart 1 3 0 = true ∧ (s.twin.st = .lead ∨ s.twin.st = .adopting) ∧ s.twin.session = true ∧ (fldN (s.reg R.resyncMode) 1 0 = 1 → s.twin.partner.map (·.state) = some 6) :=
  ⟨tTwin { st := .lead, lead := true, session := true, joined := true }, tReq, .operator, by decide +kernel⟩
theorem test_wit_TwinsStayAlike_2 : ∃ (s : State),
    s.opActive 3 = true ∧ s.twin.lead = true :=
  ⟨tResync true, by decide +kernel⟩
theorem test_wit_TwinsStayAlike_3 : ∃ (s : State),
    s.opActive 3 = true ∧ s.twin.lead = false ∧ s.twin.st = .resync ∧ s.twin.restore = false :=
  ⟨tResync false, by decide +kernel⟩
theorem test_wit_TwinsStayAlike_4 : ∃ (s : State) (d : Diff) (r : Reg) (i e : Nat),
    (s.twin.st = .lead ∨ s.twin.st = .trail) ∧ objectOf d.key = some (r, i, e) ∧ d.owner = .pair ∧ d.ref = true ∧ mirrorScope r i = some false ∧ s.twin.mirrors = [] ∧ sameEntry r (Table.get (keyDefault d.key) s.dict d.key) d.value = false :=
  ⟨tTwin { st := .lead, lead := true }, tDiff true, R.sliceKeys, 1, 0, by decide +kernel⟩
theorem test_wit_TwinsStayAlike_5 : ∃ (s : State) (d : Diff) (r : Reg) (i e : Nat),
    s.twin.st = .trail ∧ objectOf d.key = some (r, i, e) ∧ d.owner = .pair ∧ d.ref = false ∧ mirrorScope r i = some false ∧ s.twin.mirrors = [] ∧ sameEntry r (Table.get (keyDefault d.key) s.dict d.key) d.value = false ∧ s.referenced r i e (Table.get (keyDefault d.key) s.dict d.key) = false ∧ s.referenced r i e d.value = false ∧ keyValue d.key d.value = d.value ∧ Table.risingFrom none s.dict = true :=
  ⟨tTwin { st := .trail }, tDiff false, R.sliceKeys, 1, 0, by decide +kernel⟩
theorem test_wit_TwinsStayAlike_6 : ∃ (s : State) (m : Mirror) (l : List Mirror),
    s.twin.mirrors = m :: l :=
  ⟨tTwin { st := .lead, lead := true, session := true, mirrors := [{ changes := [tChange] }] }, { changes := [tChange] }, [], by decide +kernel⟩
theorem test_wit_TwinsStayAlike_7 : ∃ (s : State) (q : Req) (role : Role) (v x : Image),
    x = setFld v 3 0 1 ∧ s.mayWrite q role R.twinCtl 0 0 x = true ∧ s.twinBusy 1 = false :=
  ⟨tTwin { st := .trail, session := true, partner := some { shadow := true } }, tReq, .operator, 0, 1, by decide +kernel⟩
theorem test_wit_TwinsStayAlike_8 : ∃ (s : State) (q : Req) (role : Role) (v x : Image),
    x = setFld v 3 0 2 ∧ s.mayWrite q role R.twinCtl 0 0 x = true ∧ s.twinBusy 2 = false :=
  ⟨{ tTwin { st := .adopting, lead := true, hb := true, joined := true, partner := some { state := 6 }, adoptCause := 4 } with adopted := some 1 }, tReq, .operator, 0, 2, by decide +kernel⟩
theorem test_wit_TwinsStayAlike_9 : ∃ (s : State) (q : Req) (role : Role) (v x : Image),
    x = setFld v 3 0 3 ∧ s.mayWrite q role R.twinCtl 0 0 x = true ∧ s.twinBusy 3 = false :=
  ⟨tTwin { st := .trail, session := true }, tReq, .operator, 0, 3, by decide +kernel⟩
theorem test_wit_TwinsStayAlike_10 : ∃ (s : State) (q : Req) (v x : Image),
    x = setFld v 3 0 4 ∧ s.mayWrite q .installer R.twinCtl 0 0 x = true ∧ s.twinBusy 4 = false :=
  ⟨{ tServe .installer with twin := { st := .solo, shadowValid := true } }, tReq, 0, 4, by decide +kernel⟩
theorem test_wit_TwinsStayAlike_11 : ∃ (s : State) (q : Req) (v x : Image),
    x = setFld v 3 0 5 ∧ s.mayWrite q .installer R.twinCtl 0 0 x = true ∧ s.twinBusy 5 = false ∧ s.faults.silent = false :=
  ⟨{ tServe .installer with twin := { st := .solo } }, tReq, 0, 5, by decide +kernel⟩
theorem test_wit_TwinsStayAlike_12 : ∃ (s : State),
    s.twin.session = true ∧ s.serving = true :=
  ⟨tTwin { st := .lead, lead := true, session := true }, by decide +kernel⟩
theorem test_wit_TwinsStayAlike_13 : ∃ (s : State),
    s.twin.session = true ∧ s.serving = true :=
  ⟨tTwin { st := .lead, lead := true, session := true }, by decide +kernel⟩
theorem test_wit_TwinsStayAlike_14 : ∃ (s : State),
    s.twin.session = true ∧ s.serving = true :=
  ⟨tTwin { st := .lead, lead := true, session := true }, by decide +kernel⟩
theorem test_wit_TwinsStayAlike_15 : ∃ (s : State) (c : List Change) (m : Mirror),
    s.twin.session = true ∧ s.serving = true ∧ (s.twin.mirrors.find? (fun m => m.passed = false ∧ m.changes = c) = some m) :=
  ⟨tTwin { st := .lead, lead := true, session := true, mirrors := [{ changes := [] }] }, [], { changes := [] }, by decide +kernel⟩
theorem test_wit_TwinsStayAlike_16 : ∃ (s : State),
    (s.twin.session = false ∨ s.serving = false) :=
  ⟨tTwin {}, by decide +kernel⟩

/-! Hypotheses of FaultsClimbTheLadder are met. -/

/-- A started device with an operator's session; source `n` stands so, has the reaction `r`, and an event waits on its wires. -/
def tFault (n : Nat) (r : BitVec 64) (x : FaultSrc) : State :=
  { ((tServe .operator).setReg R.faultReaction 0 n (r.setWidth 1024)).setSrc n x with wires := [n] }
theorem test_wit_FaultsClimbTheLadder_1 : ∃ (s : State) (n : Nat),
    faultValid n = true ∧ s.wires.contains n = true ∧ (s.src n).st = .idle ∧ rxMask (s.reactionOf n) = true :=
  ⟨tFault 0x410 (2 ^ 63) {}, 0x410, by decide +kernel⟩
theorem test_wit_FaultsClimbTheLadder_2 : ∃ (s : State) (n : Nat) (r : BitVec 64),
    faultValid n = true ∧ s.wires.contains n = true ∧ r = s.reactionOf n ∧ (s.src n).st = .idle ∧ rxMask r = false ∧ s.mergeTarget n [] = none ∧ (rxSquallN r = 0 ∨ (s.src n).window.getD 0 + 1 < rxSquallN r) ∧ rxStart r ≤ 2 ∧ s.decides = true :=
  ⟨tFault 0x410 (2 ^ 60 + 2 * 2 ^ 57) {}, 0x410, 2 ^ 60 + 2 * 2 ^ 57, by decide +kernel⟩
theorem test_wit_FaultsClimbTheLadder_3 : ∃ (s : State) (n : Nat) (r : BitVec 64),
    faultValid n = true ∧ s.wires.contains n = true ∧ r = s.reactionOf n ∧ (s.src n).st = .idle ∧ rxMask r = false ∧ s.mergeTarget n [] = none ∧ rxStart r = 3 ∧ s.decides = true :=
  ⟨tFault 0x532 (3 * 2 ^ 60 + 3 * 2 ^ 57) {}, 0x532, 3 * 2 ^ 60 + 3 * 2 ^ 57, by decide +kernel⟩
theorem test_wit_FaultsClimbTheLadder_4 : ∃ (s : State) (n : Nat),
    faultValid n = true ∧ s.wires.contains n = true ∧ (s.src n).st ≠ .idle ∧ s.decides = true ∧ (rxSquallN (s.src n).reaction = 0 ∨ (s.src n).window.getD 0 + 1 < rxSquallN (s.src n).reaction) :=
  ⟨tFault 0x410 0 { st := .active, events := 1 }, 0x410, by decide +kernel⟩
theorem test_wit_FaultsClimbTheLadder_5 : ∃ (s : State) (n : Nat),
    (s.src n).st ≠ .idle :=
  ⟨tFault 0x410 0 { st := .active, events := 1, window := some 3 }, 0x410, by decide +kernel⟩
theorem test_wit_FaultsClimbTheLadder_6 : ∃ (s : State) (n : Nat),
    faultValid n = true ∧ s.faults.forcedWires.contains n = false ∧ (s.src n).st ≠ .idle ∧ s.decides = true ∧ (rxSquallN (s.src n).reaction = 0 ∨ (s.src n).window.getD 0 + 1 < rxSquallN (s.src n).reaction) :=
  ⟨tFault 0x410 0 { st := .active, events := 1 }, 0x410, by decide +kernel⟩
theorem test_wit_FaultsClimbTheLadder_7 : ∃ (s : State) (n : Nat),
    (s.src n).st = .active ∧ (s.src n).rung < rxLimit (s.src n).reaction ∧ (s.src n).rung < 2 ∧ s.decides = true :=
  ⟨tFault 0x410 0 { st := .active, events := 1, reaction := 2 * 2 ^ 57 }, 0x410, by decide +kernel⟩
theorem test_wit_FaultsClimbTheLadder_8 : ∃ (s : State) (n : Nat),
    (s.src n).st = .held ∧ s.decides = true :=
  ⟨tFault 0x410 0 { st := .held, events := 1 }, 0x410, by decide +kernel⟩
theorem test_wit_FaultsClimbTheLadder_9 : ∃ (s : State) (q : Req) (role : Role) (v : Image) (n : Nat),
    s.mayWrite q role R.faultAck 0 0 v = true ∧ n = fldN v 10 0 ∧ faultValid n = true ∧ (s.src n).st = .active ∧ s.decides = true :=
  ⟨tFault 0x410 0 { st := .active, events := 1 }, tReq, .operator, 0x410, 0x410, by decide +kernel⟩
theorem test_wit_FaultsClimbTheLadder_10 : ∃ (s : State) (q : Req) (role : Role) (v : Image) (n : Nat),
    s.mayWrite q role R.faultAck 0 0 v = true ∧ n = fldN v 10 0 ∧ faultValid n = true ∧ (s.src n).st ≠ .active :=
  ⟨tFault 0x410 0 { st := .held, events := 1 }, tReq, .operator, 0x410, 0x410, by decide +kernel⟩
theorem test_wit_FaultsClimbTheLadder_11 : ∃ (s : State) (q : Req) (role : Role) (v : Image) (n : Nat),
    s.mayWrite q role R.faultClear 0 0 v = true ∧ n = fldN v 10 0 ∧ faultValid n = true ∧ (s.src n).st = .held ∧ s.decides = true ∧ Table.risingFrom none s.faults.srcs = true :=
  ⟨tFault 0x410 0 { st := .held, events := 1 }, tReq, .operator, 0x410, 0x410, by decide +kernel⟩
theorem test_wit_FaultsClimbTheLadder_12 : ∃ (s : State) (q : Req) (role : Role) (v : Image) (n : Nat),
    s.mayWrite q role R.faultClear 0 0 v = true ∧ n = fldN v 10 0 ∧ faultValid n = true ∧ (s.src n).st = .idle :=
  ⟨tFault 0x410 0 {}, tReq, .operator, 0x410, 0x410, by decide +kernel⟩

/-! Hypotheses of FailSilentForcesAndTheWatch are met. -/

/-- The discard notice of message 3 of WQ 5, and a device to which it has come. -/
def tLost : Header := { srcStation := 64, dstNode := 7, dstStation := 65, cmd := 0x10, cls := 2, msgId := 3, pkey := 1 }
def tNotice : Arrived := { stop := 7, pkt := { hdr := { cmd := 0x08, ext := 5, length := 32 }, payload := bytesOf tLost.toBits 32 } }
def tNoticed : State :=
  { tSending (tHdr 0x10 2) with arrived := [tNotice] }.updRemote (fun r => { r with peers :=
    [{ tPeer with send2 := { sync := false, next := 4, unacked := [{ num := 3, wq := 5 }] } }] })
theorem test_wit_FailSilentForcesAndTheWatch_1 : ∃ (s : State) (q : Req) (role : Role) (v x : Image) (n : Nat) (r : BitVec 64),
    x = setFld v 31 30 1 ∧ s.mayWrite q role R.faultForce 0 0 x = true ∧ n = fldN x 10 0 ∧ faultValid n = true ∧ fldN x 29 22 ≠ 0 ∧ r = (s.reg R.faultReaction 0 n).extractLsb' 0 64 ∧ (role = .installer ∨ (rxStart r < 3 ∧ rxLimit r < 3 ∧ rxSquall r < 3)) :=
  ⟨tFault 0x410 0 {}, tReq, .operator, 0x410 + 3 * 2 ^ 22, 0x410 + 3 * 2 ^ 22 + 2 ^ 30, 0x410, 0, by decide +kernel⟩
theorem test_wit_FailSilentForcesAndTheWatch_2 : ∃ (s : State) (q : Req) (role : Role) (v x : Image) (n : Nat) (r : BitVec 64),
    x = setFld v 31 30 2 ∧ s.mayWrite q role R.faultForce 0 0 x = true ∧ n = fldN x 10 0 ∧ faultValid n = true ∧ r = (s.reg R.faultReaction 0 n).extractLsb' 0 64 ∧ (role = .installer ∨ (rxStart r < 3 ∧ rxLimit r < 3 ∧ rxSquall r < 3)) :=
  ⟨tFault 0x410 0 {}, tReq, .operator, 0x410, 0x410 + 2 ^ 31, 0x410, 0, by decide +kernel⟩
theorem test_wit_FailSilentForcesAndTheWatch_3 : ∃ (s : State) (q : Req) (v x : Image),
    x = setFld v 31 30 3 ∧ s.mayWrite q .installer R.faultForce 0 0 x = true ∧ faultValid (fldN x 10 0) = true ∧ s.mgmt.lifecycle = .install :=
  ⟨tServe .installer, tReq, 0x410, 0x410 + 3 * 2 ^ 30, by decide +kernel⟩
theorem test_wit_FailSilentForcesAndTheWatch_4 : ∃ (s : State),
    s.faults.silent = false :=
  ⟨tFault 0x410 0 {}, by decide +kernel⟩
theorem test_wit_FailSilentForcesAndTheWatch_5 : ∃ (s : State),
    s.faults.silent = false :=
  ⟨tFault 0x410 0 {}, by decide +kernel⟩
theorem test_wit_FailSilentForcesAndTheWatch_6 : ∃ (s : State),
    s.faults.silent = false :=
  ⟨tFault 0x410 0 {}, by decide +kernel⟩
theorem test_wit_FailSilentForcesAndTheWatch_7 : ∃ (s : State),
    s.faults.silent = true :=
  ⟨(tFault 0x410 0 {}).updFaults (fun f => { f with silent := true }), by decide +kernel⟩
theorem test_wit_FailSilentForcesAndTheWatch_9 : ∃ (s : State) (n : Nat),
    s.faults.mcArmed = true ∧ n = s.faults.mcMissed + 1 :=
  ⟨(tFault 0x410 0 {}).updFaults (fun f => { f with mcArmed := true, mcMissed := 2 }), 3, by decide +kernel⟩
theorem test_wit_FailSilentForcesAndTheWatch_10 : ∃ (s : State) (a : Arrived) (h : Header) (p : Peer) (u : Unacked),
    s.mcRuns = true ∧ s.arrival mcStop 0x08 = some a ∧ h = Header.ofBits (BitVec.ofNat 256 (natOfBytes (a.pkt.payload.take 32))) ∧ fldN a.pkt.hdr.ext 7 0 ∈ [1, 2, 3, 4, 5] ∧ (h.cmd = 0x10 ∨ h.cmd = 0x11) ∧ s.peer { station := h.srcStation.toNat, node := h.dstNode.toNat, remote := h.dstStation.toNat } = some p ∧ (p.send h.cls.toNat).unacked.find? (fun u => u.num = h.msgId.toNat) = some u ∧ u.ended = false :=
  ⟨tNoticed, tNotice, tLost, { tPeer with send2 := { sync := false, next := 4, unacked := [{ num := 3, wq := 5 }] } }, { num := 3, wq := 5 }, by decide +kernel⟩

/-! Hypotheses of VoltagePaceAndTemperature are met. -/

theorem test_wit_VoltagePaceAndTemperature_1 : ∃ (s : State),
    s.boot ≠ .held ∧ (bit (s.reg R.avsCtl) 31 = false ∨ s.power.touched = true ∨ s.power.pace < 100) :=
  ⟨(tServe .operator).updPower (fun p => { p with touched := true }), by decide +kernel⟩
theorem test_wit_VoltagePaceAndTemperature_2 : ∃ (s : State) (rate fails : Nat)  (c : Image),
    s.boot ≠ .held ∧ c = s.reg R.avsCtl ∧ bit c 31 = true ∧ s.power.touched = false ∧ 100 ≤ s.power.pace ∧ s.power.avsFault = false ∧ (∀ t ∈ s.power.changedAt, 125000 ≤ s.uptime - t) ∧ 100 * rate < 101 * fldN c 30 20 ∧ s.power.request < fldN c 15 8 ∧ fails < 4 :=
  ⟨tServe .operator, 1800, 3, R.avsCtl.dflt, by decide +kernel⟩
theorem test_wit_VoltagePaceAndTemperature_3 : ∃ (s : State) (rate fails : Nat)  (c : Image),
    s.boot ≠ .held ∧ c = s.reg R.avsCtl ∧ bit c 31 = true ∧ s.power.touched = false ∧ 100 ≤ s.power.pace ∧ s.power.avsFault = false ∧ (∀ t ∈ s.power.changedAt, 125000 ≤ s.uptime - t) ∧ 104 * fldN c 30 20 < 100 * rate ∧ s.power.above = 9 ∧ fldN c 7 0 < s.power.request ∧ fails < 4 :=
  ⟨(tServe .operator).updPower (fun p => { p with above := 9 }), 2100, 0, R.avsCtl.dflt, by decide +kernel⟩
theorem test_wit_VoltagePaceAndTemperature_4a : ∃ (s : State),
    s.power.avsFault = true ∧ bit (s.reg R.avsCtl) 31 = true :=
  ⟨(tServe .operator).updPower (fun p => { p with avsFault := true }), by decide +kernel⟩
theorem test_wit_VoltagePaceAndTemperature_4b : ∃ (s : State),
    s.power.avsFault = true ∧ bit (s.reg R.avsCtl) 31 = true :=
  ⟨(tServe .operator).updPower (fun p => { p with avsFault := true }), by decide +kernel⟩
theorem test_wit_VoltagePaceAndTemperature_5 : ∃ (s : State),
    s.boot ≠ .held ∧ s.power.pace = 100 :=
  ⟨tServe .operator, by decide +kernel⟩
theorem test_wit_VoltagePaceAndTemperature_6 : ∃ (s : State),
    s.power.pace = 70 :=
  ⟨(tServe .operator).updPower (fun p => { p with pace := 70 }), by decide +kernel⟩
theorem test_wit_VoltagePaceAndTemperature_7 : ∃ (s : State),
    s.power.pace = 85 :=
  ⟨(tServe .operator).updPower (fun p => { p with pace := 85 }), by decide +kernel⟩
theorem test_wit_VoltagePaceAndTemperature_8 : ∃ (s : State) (c : BitVec 8),
    s.boot ≠ .held ∧ c.toInt < fldN (s.reg R.thermalCtl) 23 16 ∧ (fldN (s.reg R.thermalCtl) 15 8 : Int) ≤ c.toInt ∧ s.power.armed = true :=
  ⟨tServe .operator, 110, by decide +kernel⟩
theorem test_wit_VoltagePaceAndTemperature_9 : ∃ (s : State) (c : BitVec 8),
    s.boot ≠ .held ∧ (fldN (s.reg R.thermalCtl) 23 16 : Int) ≤ c.toInt :=
  ⟨tServe .operator, 125, by decide +kernel⟩
theorem test_wit_VoltagePaceAndTemperature_10 : ∃ (s : State) (c : BitVec 8),
    s.boot = .held ∧ s.holds = [5] ∧ c.toInt ≤ fldN (s.reg R.thermalCtl) 23 16 - 20 :=
  ⟨{ State.reset with holds := [5] }, 105, by decide +kernel⟩
theorem test_wit_VoltagePaceAndTemperature_11 : ∃ (s : State) (k : Nat),
    (∀ i < 12, (s.lane (12 * k + i)).st = .laneUp) :=
  ⟨{ tServe .operator with lanes := (List.range 12).map (fun i => (i, { st := .laneUp })) }, 0, by decide +kernel⟩
theorem test_wit_VoltagePaceAndTemperature_12 : ∃ (s : State) (k : Nat),
    s.hostRole k = 0 ∧ (s.hport k).perst = false ∧ s.bifurcated k = false :=
  ⟨tHost, 0, by decide +kernel⟩
theorem test_wit_VoltagePaceAndTemperature_14 : ∃ (s : State),
    s.time.st = .holdover ∧ (s.timeSource = 2 → (s.link s.timeParent).st = .up) ∧ (s.timeSource = 1 → s.time.ppsSeen = true) :=
  ⟨{ tServe .operator with time := { st := .holdover, refclkLost := true } }, by decide +kernel⟩

/-! Hypotheses of TimeIsKeptAndSet are met. -/

/-- A started device with an operator's session, the timebase as given, SOURCE `src` with parent port 5 and its link UP. -/
def tTime (x : TimeUnit) (src : Nat) : State :=
  { (tServe .operator).setReg R.timeCtl 0 0 (BitVec.ofNat _ (src * 2 ^ 62 + 5 * 2 ^ 56 + 1000 * 2 ^ 32 + 1000 * 2 ^ 16)) with
    time := x, links := [(5, { st := .up })] }
theorem test_wit_TimeIsKeptAndSet_1 : ∃ (s : State),
    s.boot ≠ .held ∧ s.time.hold = 0 :=
  ⟨{ tServe .operator with time := { f := -5, p := 2 } }, by decide +kernel⟩
theorem test_wit_TimeIsKeptAndSet_2 : ∃ (s : State) (p n : Nat),
    s.timeSource = 2 ∧ p = s.timeParent ∧ (s.link p).st = .up ∧ (s.link p).bypassQ.length < 64 ∧ n = (s.time.probeSeq + 1) % 256 :=
  ⟨tTime {} 2, 5, 1, by decide +kernel⟩
theorem test_wit_TimeIsKeptAndSet_3 : ∃ (s : State) (p at_ : Nat) (m : BypassMsg),
    s.oldestBypass 2 = some (p, m, at_) ∧ (s.link p).st = .up ∧ (s.link p).bypassQ.length < 64 :=
  ⟨{ tTime {} 2 with bypassIn := [(5, 0x702, 100)] }, 5, 100, 0x702, by decide +kernel⟩
theorem test_wit_TimeIsKeptAndSet_4 : ∃ (s : State) (n t1 t2 t3 p at_ : Nat) (m : BypassMsg) (a b : Int),
    s.oldestBypass 3 = some (p, m, at_) ∧ s.time.probe = some (n, some t1) ∧ s.timeSource = 2 ∧ p = s.timeParent ∧ fldN m 15 8 = n ∧ t2 = fldN m 95 32 * 2 ^ 32 + fldN m 31 16 * 2 ^ 16 ∧ t3 = t2 + fldN m 119 96 * 2 ^ 28 ∧ a = t2 - t1 ∧ b = ((at_ - Config.rxDelay p : Nat) : Int) - t3 :=
  ⟨{ tTime { probe := some (7, some 50) } 2 with bypassIn := [(5, 0x703, 100)] }, 7, 50, 0, 0, 5, 100, 0x703, -50, ((100 - Config.rxDelay 5 : Nat) : Int), by decide +kernel, by decide +kernel, by decide +kernel, by decide +kernel, by decide +kernel, by decide +kernel, by decide +kernel, by decide +kernel, (by rw [show ((0 : Nat) : Int) = 0 from rfl, Int.sub_zero])⟩
theorem test_wit_TimeIsKeptAndSet_5 : ∃ (s : State) (v : Nat),
    s.boot ≠ .held ∧ s.timeSource = 1 ∧ s.time.ppsTime = some v ∧ s.timeQ ≤ v * 2 ^ 32 :=
  ⟨tTime { ppsTime := some 1000 } 1, 1000, by decide +kernel⟩
theorem test_wit_TimeIsKeptAndSet_6 : ∃ (s : State),
    s.timeSource = 1 ∧ (s.time.st = .synced ∨ s.time.st = .acquiring) :=
  ⟨tTime { st := .synced, ppsSeen := true } 1, by decide +kernel⟩
theorem test_wit_TimeIsKeptAndSet_7 : ∃ (s : State) (q : Req) (role : Role) (v : Image) (n : Nat),
    s.mayWrite q role R.timeSet 0 0 v = true ∧ n = fldN v 63 0 ∧ s.timeSource = 0 ∧ s.timeQ ≤ n * 2 ^ 32 :=
  ⟨tTime {} 0, tReq, .operator, 5000, 5000, by decide +kernel⟩
theorem test_wit_TimeIsKeptAndSet_8 : ∃ (s : State) (q : Req) (role : Role) (v : Image) (n : Nat),
    s.mayWrite q role R.timeSet 0 0 v = true ∧ n = fldN v 63 0 ∧ s.timeSource = 1 ∧ s.timeQ ≤ n * 2 ^ 32 :=
  ⟨tTime {} 1, tReq, .operator, 5000, 5000, by decide +kernel⟩

/-! Hypotheses of ResetsAndStartUp are met. -/

theorem test_wit_ResetsAndStartUp_1 : ∃ (s : State) (q : Req) (role : Role),
    s.mayWrite q role R.devReset 0 0 1 = true ∧ s.service.releasing = [] :=
  ⟨tServe .operator, tReq, .operator, by decide +kernel⟩
theorem test_wit_ResetsAndStartUp_2 : ∃ (s : State),
    s.boot ≠ .held ∧ s.service.releasing = [] :=
  ⟨tServe .operator, by decide +kernel⟩
theorem test_wit_ResetsAndStartUp_3 : ∃ (s : State),
    s.boot ≠ .held ∧ s.service.releasing = [] :=
  ⟨tServe .operator, by decide +kernel⟩
theorem test_wit_ResetsAndStartUp_4 : ∃ (s : State),
    s.boot ≠ .held ∧ s.service.releasing = [] :=
  ⟨tServe .operator, by decide +kernel⟩
theorem test_wit_ResetsAndStartUp_5 : ∃ (s : State) (k : Nat),
    s.boot = .held ∧ (k = 1 ∨ k = 2) ∧ s.holds = [k] :=
  ⟨State.reset, 1, by decide +kernel⟩
theorem test_wit_ResetsAndStartUp_6 : ∃ (s : State) (k : Nat),
    s.boot = .held ∧ (k = 3 ∨ k = 4 ∨ k = 6) ∧ s.holds = [k] :=
  ⟨{ State.reset with holds := [4] }, 4, by decide +kernel⟩
theorem test_wit_ResetsAndStartUp_7 : ∃ (s : State),
    s.boot = .released ∧ s.mgmt.lcPending = none ∧ fldN (s.reg R.fwSelect) 7 0 ≠ 0x0B ∧ s.bankPasses s.mgmt.bankA true = true :=
  ⟨{ State.reset with boot := .released, holds := [] }, by decide +kernel⟩
theorem test_wit_ResetsAndStartUp_8 : ∃ (s : State),
    s.boot = .released :=
  ⟨{ State.reset with boot := .released, holds := [] }, by decide +kernel⟩
theorem test_wit_ResetsAndStartUp_9 : ∃ (s : State),
    s.boot = .booted ∧ s.mgmt.recovery = false ∧ s.mgmt.lifecycle ≠ .retired ∧ Table.risingFrom none s.dict = true ∧ keyValue (R.nodeAddr.key 0 0) (s.reg R.nodeAddr) = s.reg R.nodeAddr :=
  ⟨{ State.reset with boot := .booted, holds := [] }.setReg R.nodeAddr 0 0 0x80000042, by decide +kernel⟩

/-! Hypotheses of SnapshotsAndCounterWindows are met. -/

/-- The dump area is 64 KiB at 0x10000 of function 0. -/
def tDump : State := tHost.setReg R.dumpArea 0 0 (BitVec.ofNat _ (2 ^ 63 + 4 * 2 ^ 56 + 0x10000))
/-- A window of counters 5 and 6 from `a` to `b` ns; one that runs and is over. -/
def tWinV (a b : Nat) : Image := BitVec.ofNat _ (2 * 2 ^ 160 + 5 * 2 ^ 128 + b * 2 ^ 64 + a)
def tRunning : CtrWindow := { win := { st := .running, stop := some 0 }, first := 5, count := 2, base := [0, 0] }
theorem test_wit_SnapshotsAndCounterWindows_1 : ∃ (s : State) (q : Req) (role : Role) (v : Image),
    s.mayWrite q role R.snapshot 0 0 v = true ∧ s.snapshotBad v = false ∧ s.counting.snaps.length < 2 ∧ fldN v 63 0 / 8 ≤ s.tick :=
  ⟨tDump, tReq, .operator, BitVec.ofNat _ (2 * 2 ^ 128 + 5 * 2 ^ 96), by decide +kernel⟩
theorem test_wit_SnapshotsAndCounterWindows_2 : ∃ (s : State) (q : Req) (role : Role) (v : Image),
    s.mayWrite q role R.snapshot 0 0 v = true ∧ s.snapshotBad v = false ∧ s.counting.snaps.length < 2 ∧ s.tick < fldN v 63 0 / 8 :=
  ⟨tDump, tReq, .operator, BitVec.ofNat _ (2 * 2 ^ 128 + 5 * 2 ^ 96 + 800), by decide +kernel⟩
theorem test_wit_SnapshotsAndCounterWindows_3 : ∃ (s : State) (x : Snapshot) (vs : List (BitVec 64)),
    s.counting.snaps = [x] ∧ x.captured = none ∧ x.at_ ≤ s.tick ∧ s.dumpReady x.offset (recordLen x.count) = true ∧ vs = (List.range x.count).map (fun i => s.counter (x.first + i)) :=
  ⟨tDump.updCounting (fun c => { c with snaps := [{ count := 2, first := 5 }] }), { count := 2, first := 5 }, [0, 0], by decide +kernel⟩
theorem test_wit_SnapshotsAndCounterWindows_4 : ∃ (s : State) (q : Req) (role : Role) (k : Nat) (v : Image) (f : Fdp) (w : Window),
    s.mayWrite q role R.counterWindow 0 k v = true ∧ s.windowBad v = false ∧ submitWindow (fldN v 63 0) (fldN v 127 64) s.tick = some (f, w) ∧ f = .ok ∧ fldN v 172 160 ≤ s.storeFree ∧ (s.ctrWindow k).win.st = .free ∧ k < s.counting.windows.length :=
  ⟨tDump, tReq, .operator, 3, tWinV 800 1600, .ok, { st := .pending, start := 100, stop := some 200 }, by decide +kernel⟩
theorem test_wit_SnapshotsAndCounterWindows_5 : ∃ (s : State) (q : Req) (role : Role) (k : Nat) (v : Image) (w : Window),
    s.mayWrite q role R.counterWindow 0 k v = true ∧ s.windowBad v = false ∧ submitWindow (fldN v 63 0) (fldN v 127 64) s.tick = some (.emptyWindow, w) ∧ fldN v 172 160 ≤ s.storeFree ∧ (s.ctrWindow k).win.st = .free ∧ k < s.counting.windows.length :=
  ⟨tDump, tReq, .operator, 3, tWinV 800 800, {}, by decide +kernel⟩
theorem test_wit_SnapshotsAndCounterWindows_6 : ∃ (s : State) (q : Req) (role : Role) (k : Nat) (v : Image) (x : CtrWindow),
    s.mayWrite q role R.windowStop 0 k v = true ∧ x = s.ctrWindow k ∧ x.win.st = .running ∧ fldN v 63 0 / 8 ≤ s.tick ∧ k < s.counting.windows.length :=
  ⟨tDump.setCtrWindow 3 tRunning, tReq, .operator, 3, 0, tRunning, by decide +kernel⟩
theorem test_wit_SnapshotsAndCounterWindows_7 : ∃ (s : State) (k : Nat) (x : CtrWindow),
    x = s.ctrWindow k ∧ x.win.st = .pending ∧ x.win.start ≤ s.tick ∧ k < s.counting.windows.length :=
  ⟨tDump.setCtrWindow 3 { tRunning with win := { st := .pending } }, 3, { tRunning with win := { st := .pending } }, by decide +kernel⟩
theorem test_wit_SnapshotsAndCounterWindows_8 : ∃ (s : State) (p k : Nat),
    k < (s.output p).gate.overrides.length ∧ (nthD {} (s.output p).gate.overrides k).win.st = .pending ∧ (nthD {} (s.output p).gate.overrides k).win.start ≤ s.tick :=
  ⟨{ tServe .operator with outputs := [(3, { gate := { overrides := [{ win := { st := .pending } }, {}, {}, {}] } })] }, 3, 0, by decide +kernel⟩
theorem test_wit_SnapshotsAndCounterWindows_9 : ∃ (s : State),
    s.counting.sampling.win.st = .pending ∧ s.counting.sampling.win.start ≤ s.tick :=
  ⟨tDump.updSampling (fun x => { x with win := { st := .pending } }), by decide +kernel⟩
theorem test_wit_SnapshotsAndCounterWindows_10 : ∃ (s : State) (k : Nat) (x : CtrWindow),
    x = s.ctrWindow k ∧ x.win.ended s.tick = true ∧ k < s.counting.windows.length :=
  ⟨tDump.setCtrWindow 3 tRunning, 3, tRunning, by decide +kernel⟩
theorem test_wit_SnapshotsAndCounterWindows_11 : ∃ (s : State) (p k : Nat),
    k < (s.output p).gate.overrides.length ∧ (nthD {} (s.output p).gate.overrides k).win.ended s.tick = true ∧ Table.risingFrom none s.outputs = true :=
  ⟨{ tServe .operator with outputs := [(3, { gate := { overrides := [{ win := { st := .running, stop := some 0 } }, {}, {}, {}] } })] }, 3, 0, by decide +kernel⟩
theorem test_wit_SnapshotsAndCounterWindows_12 : ∃ (s : State) (k : Nat) (x : CtrWindow),
    x = s.ctrWindow k ∧ x.win.st = .writing ∧ s.dumpReady x.offset (recordLen x.count) = true ∧ k < s.counting.windows.length :=
  ⟨tDump.setCtrWindow 3 { tRunning with win := { st := .writing }, value := [0, 1] }, 3, { tRunning with win := { st := .writing }, value := [0, 1] }, by decide +kernel⟩

/-! Hypotheses of SamplesAndSliceRecords are met. -/

theorem test_wit_SamplesAndSliceRecords_1 : ∃ (s : State) (q : Req) (role : Role) (v : Image) (f : Fdp) (w : Window),
    s.mayWrite q role R.sampleCtl 0 0 v = true ∧ s.sampleBad v = false ∧ submitWindow (fldN v 63 0) (fldN v 127 64) s.tick = some (f, w) ∧ s.counting.sampling.win.st = .free :=
  ⟨tDump, tReq, .operator, BitVec.ofNat _ (2 ^ 144 + 9 * 2 ^ 128 + 1600 * 2 ^ 64 + 800), .ok, { st := .pending, start := 100, stop := some 200 }, by decide +kernel⟩
theorem test_wit_SamplesAndSliceRecords_2 : ∃ (s : State) (q : Req) (role : Role) (v : Image),
    s.mayWrite q role R.sampleStop 0 0 v = true :=
  ⟨tDump.updSampling (fun x => { x with win := { st := .running } }), tReq, .operator, 0, by decide +kernel⟩
theorem test_wit_SamplesAndSliceRecords_3 : ∃ (s : State) (x : Window),
    x = s.counting.sampling.win ∧ x.ended s.tick = true :=
  ⟨tDump.updSampling (fun x => { x with win := { st := .running, stop := some 0 } }), { st := .running, stop := some 0 }, by decide +kernel⟩
theorem test_wit_SamplesAndSliceRecords_4 : ∃ (s : State) (d : SampleDue) (ds : List SampleDue),
    s.counting.sampling.due = d :: ds ∧ s.counting.sampling.buffer.length < 1024 :=
  ⟨tDump.updSampling (fun x => { x with due := [{}] }), {}, [], by decide +kernel⟩
theorem test_wit_SamplesAndSliceRecords_5 : ∃ (s : State) (d : SampleDue) (ds : List SampleDue),
    s.counting.sampling.due = d :: ds ∧ 1024 ≤ s.counting.sampling.buffer.length :=
  ⟨tDump.updSampling (fun x => { x with due := [{}], buffer := List.replicate 1024 [] }), {}, [], by decide +kernel⟩
theorem test_wit_SamplesAndSliceRecords_6 : ∃ (s : State),
    s.counting.sampling.buffer ≠ [] ∧ s.sampleRoom = false ∧ s.host.reads.all (fun r => r.owner != .sample) = true ∧ s.host.arb.bursts.all (fun b => b.owner != .sample) = true ∧ s.dumpReady (sampleOffset (s.reg R.sampleCtl) + 64 * sampleSlots (s.reg R.sampleCtl)) 8 = true ∧ (s.dumpBase + sampleOffset (s.reg R.sampleCtl)) % 64 = 0 :=
  ⟨(tDump.setReg R.sampleCtl 0 0 0).updSampling (fun x => { x with buffer := [[]], seq := 65 }), by decide +kernel⟩
theorem test_wit_SamplesAndSliceRecords_7 : ∃ (s : State) (sl f : Nat),
    bit (s.reg R.sliceCtr sl) 63 = true ∧ (s.slice sl).st ∈ [SliceSt.starting, .running, .recovering, .test] ∧ s.inboundFunc sl = some f ∧ f ≠ memFunc ∧ fldN (s.reg R.sliceCtr sl) 11 6 ≤ 59 :=
  ⟨(tQueues.updSlice 1 (fun x => { x with st := .running })).setReg R.sliceCtr 1 0 (BitVec.ofNat _ (2 ^ 63 + 0x2000)), 1, 0, by decide +kernel⟩
theorem test_wit_SamplesAndSliceRecords_8 : ∃ (s : State) (sl : Nat),
    (bit (s.reg R.sliceCtr sl) 63 = false ∨ (s.slice sl).st = .stopped ∨ (s.slice sl).st = .halted) :=
  ⟨tQueues, 1, by decide +kernel⟩

/-! Hypotheses of CaddyFirmwareKeysAndLifeCycle are met. -/

/-- A staging of 5 bytes of bank B, version 2, is under way; these offsets are written. -/
def tStaging (w : List (Nat × Nat)) : State :=
  { tServe .installer with
    ops := [(320, { st := 2 })]
    mgmt := { (tServe .installer).mgmt with staging := some { bankB := true, length := 5, version := 2, floor := 1, written := w } } }
/-- A valid key: the base point of P-384, X then Y, each big-endian. -/
def tKey : Image :=
  BitVec.ofNat 1024 (1 + 2 ^ 32 * natOfBytes (
    (bytesOf (BitVec.ofNat 384 0xaa87ca22be8b05378eb1c71ef320ad746e1d3b628ba79b9859f741e082542a385502f25dbf55296c3a545e3872760ab7) 48).reverse
    ++ (bytesOf (BitVec.ofNat 384 0x3617de4a96262c6f5d9e98bf9292dc29f8f41dbd289a147ce9da3113b5f0b8c00a60b1ce1d7e819d7a431d7c90ea0e5f) 48).reverse))
theorem test_wit_CaddyFirmwareKeysAndLifeCycle_1 : ∃ (s : State) (q : Req) (role : Role),
    s.mayOperate q role R.boolStart 1 4 0 = true :=
  ⟨tServe .operator, tReq, .operator, by decide +kernel⟩
theorem test_wit_CaddyFirmwareKeysAndLifeCycle_2 : ∃ (s : State),
    s.mgmt.segFree < 4 ∧ s.serving = true ∧ s.opBlocked 4 0 = none :=
  ⟨(tServe .operator).updMgmt (fun m => { m with segFree := 3 }), by decide +kernel⟩
theorem test_wit_CaddyFirmwareKeysAndLifeCycle_3 : ∃ (s : State),
    s.opActive 4 = true :=
  ⟨{ tServe .operator with ops := [(256, { st := 2 })], faults := { waiting := [{ seq := 7 }] } }, by decide +kernel⟩
theorem test_wit_CaddyFirmwareKeysAndLifeCycle_4 : ∃ (s : State) (q : Req) (role : Role),
    s.mayOperate q role R.boolStart 1 8 0 = true :=
  ⟨tServe .operator, tReq, .operator, by decide +kernel⟩
theorem test_wit_CaddyFirmwareKeysAndLifeCycle_5 : ∃ (s : State),
    fldN (s.reg R.scrubCtl) 15 0 ≠ 0 ∧ s.serving = true ∧ s.opBlocked 8 0 = none :=
  ⟨(tServe .operator).setReg R.scrubCtl 0 0 5, by decide +kernel⟩
theorem test_wit_CaddyFirmwareKeysAndLifeCycle_6 : ∃ (s : State),
    s.opActive 8 = true :=
  ⟨{ tServe .operator with ops := [(512, { st := 2 })] }, by decide +kernel⟩
theorem test_wit_CaddyFirmwareKeysAndLifeCycle_7 : ∃ (s : State) (q : Req) (role : Role),
    s.mayOperate q role R.boolStart 1 9 0 = true :=
  ⟨{ tServe .operator with counters := [(5, 9)] }, tReq, .operator, by decide +kernel⟩
theorem test_wit_CaddyFirmwareKeysAndLifeCycle_8 : ∃ (s : State) (q : Req) (role : Role) (hdr : List Byte) (b : Bool),
    s.mayWrite q role R.fwStageStart 0 0 0 = true ∧ s.opBlocked 5 0 = none ∧ hdr.length = 160 ∧ natOfBytes ((hdr.drop 12).take 4) = 0 ∧ 0 < natOfBytes (hdr.take 4) ∧ natOfBytes (hdr.take 4) ≤ 4190208 ∧ b = !s.mgmt.runningB :=
  ⟨tServe .installer, tReq, .installer, 5 :: List.replicate 159 0, true, by decide +kernel⟩
theorem test_wit_CaddyFirmwareKeysAndLifeCycle_9 : ∃ (s : State) (q : Req) (role : Role) (body : List Byte) (g : Staging) (off : Nat),
    s.mayWrite q role R.fwChunk 0 0 0 = true ∧ s.mgmt.staging = some g ∧ off = natOfBytes (body.take 4) ∧ 5 ≤ body.length ∧ body.length ≤ 4068 ∧ off + (body.length - 4) ≤ g.length :=
  ⟨tStaging [], tReq, .installer, [3, 0, 0, 0, 7, 8], { bankB := true, length := 5, version := 2, floor := 1 }, 3, by decide +kernel⟩
theorem test_wit_CaddyFirmwareKeysAndLifeCycle_10 : ∃ (s : State) (g : Staging),
    s.mgmt.staging = some g ∧ g.complete = true ∧ s.mgmt.minVersion ≤ g.version ∧ s.opActive 5 = true :=
  ⟨tStaging [(0, 5)], { bankB := true, length := 5, version := 2, floor := 1, written := [(0, 5)] }, by decide +kernel⟩
theorem test_wit_CaddyFirmwareKeysAndLifeCycle_11 : ∃ (s : State) (g : Staging) (c : FwCheck) (k : Nat),
    s.mgmt.staging = some g ∧ g.complete = true ∧ (c, k) ∈ [(FwCheck.length, 1), (.hash, 2), (.signature, 3), (.caddy, 6)] ∧ s.opActive 5 = true :=
  ⟨tStaging [(0, 5)], { bankB := true, length := 5, version := 2, floor := 1, written := [(0, 5)] }, .signature, 3, by decide +kernel⟩
theorem test_wit_CaddyFirmwareKeysAndLifeCycle_12 : ∃ (s : State) (g : Staging),
    s.mgmt.staging = some g ∧ g.complete = false ∧ s.opActive 5 = true :=
  ⟨tStaging [], { bankB := true, length := 5, version := 2, floor := 1 }, by decide +kernel⟩
theorem test_wit_CaddyFirmwareKeysAndLifeCycle_13 : ∃ (s : State) (q : Req) (role : Role) (v : Image),
    s.mayWrite q role R.fwSelect 0 0 v = true ∧ (v = 0x0A ∨ v = 0x0B) ∧ (s.mgmt.bank (v == 0x0B)).valid = true ∧ (∀ g ∈ s.mgmt.staging, g.bankB ≠ (v == 0x0B)) ∧ Table.risingFrom none s.dict = true :=
  ⟨(tServe .installer).setReg R.fwSelect 0 0 0x0B, tReq, .installer, 0x0A, by decide +kernel⟩
theorem test_wit_CaddyFirmwareKeysAndLifeCycle_14 : ∃ (s : State) (q : Req) (n : Nat),
    s.mayWrite q .installer R.roleKey 0 n 0 = true ∧ s.mayClaim q n = false ∧ n ≠ 0 ∧ s.installersWith n 0 = true ∧ Table.risingFrom none s.dict = true :=
  ⟨(tServe .installer |>.setReg R.roleKey 0 1 1).setReg R.roleKey 0 2 1, tReq, 2, by decide +kernel⟩
theorem test_wit_CaddyFirmwareKeysAndLifeCycle_15 : ∃ (s : State) (q : Req) (n : Nat) (v : Image),
    s.mayClaim q n = true ∧ s.serving = true ∧ s.pathOpen q.path = true ∧ q.full = false ∧ s.mgmt.recovery = false ∧ s.mgmt.lifecycle ≠ .retired ∧ v.toNat < 2 ^ 800 ∧ q.odd = false ∧ R.roleKey.reservedSet v = false ∧ bit v 0 = true ∧ keyOk (v.extractLsb' 32 768) = true ∧ s.auditFull = false ∧ q.caddyOk = true :=
  ⟨tServe .operator, tReq, 1, tKey, by decide +kernel⟩
theorem test_wit_CaddyFirmwareKeysAndLifeCycle_16 : ∃ (s : State) (q : Req) (role : Role) (body : List Byte) (x : LifeCycle) (key : BitVec 768),
    s.atDoor q role = true ∧ R.lifecycleStart.writable 0 role ≠ 0 ∧ s.lifeForbids role = false ∧ body.length = 112 ∧ q.odd = false ∧ q.entry = 0 ∧ q.count = 0 ∧ lifeMove s.mgmt.lifecycle (natOfBytes (body.take 1)) role = some (x, true) ∧ natOfBytes ((body.drop 1).take 7) = 0 ∧ natOfBytes ((body.drop 8).take 8) = s.straps.deviceId.toNat ∧ key = BitVec.ofNat 768 (natOfBytes ((body.drop 16).take 96)) ∧ (key = 0 ∨ keyOk key = true) ∧ s.opBlocked 10 0 = none ∧ (x = .retired ∨ s.mgmt.lifecycle = .maker ∨ (s.tenantsStopped = true ∧ s.twin.st ≠ .adopting)) ∧ q.caddyOk = true :=
  ⟨tServe .installer, tReq, .installer, 2 :: List.replicate 111 0, .service, 0, by decide +kernel⟩

/-! Hypotheses of SessionsAndServices are met. -/

/-- Slot 1 waits for the AUTH of an operator with key slot 5. -/
def tOpening : State :=
  ((tServe .operator).setReg R.roleKey 0 5 1).setSess 1 { st := .opening, role := .operator, keySlot := 5 }
theorem test_wit_SessionsAndServices_1 : ∃ (s : State) (q : Req),
    s.serving = true ∧ s.pathOpen q.path = true ∧ q.path ≠ .pair ∧ q.odd = false ∧ q.full = false :=
  ⟨tServe .operator, tReq, by decide +kernel⟩
theorem test_wit_SessionsAndServices_2 : ∃ (s : State) (q : Req) (role slot : Byte)  (n : Nat),
    s.serving = true ∧ s.pathOpen q.path = true ∧ q.path ≠ .pair ∧ q.odd = false ∧ q.full = false ∧ s.slotHolds (roleOf role) slot.toNat = true ∧ s.mayOpen (roleOf role) = true ∧ s.freeSession = some n ∧ s.mgmt.locked.contains q.path = false :=
  ⟨(tServe .operator).setReg R.roleKey 0 5 1, tReq, 3, 5, 1, by decide +kernel⟩
theorem test_wit_SessionsAndServices_3 : ∃ (s : State) (q : Req) (x : Session),
    x = s.sess q.session ∧ x.st = .opening ∧ x.path = q.path ∧ s.serving = true ∧ s.pathOpen q.path = true ∧ q.seq = 0 ∧ s.slotHolds x.role x.keySlot = true ∧ s.mayOpen x.role = true ∧ q.odd = false ∧ q.full = false :=
  ⟨tOpening, { session := 1 }, { st := .opening, role := .operator, keySlot := 5 }, by decide +kernel⟩
theorem test_wit_SessionsAndServices_4 : ∃ (s : State) (q : Req) (x : Session),
    x = s.sess q.session ∧ x.st = .opening ∧ x.path = q.path ∧ s.serving = true ∧ s.pathOpen q.path = true ∧ Table.risingFrom none s.mgmt.sessions = true :=
  ⟨tOpening, { session := 1 }, { st := .opening, role := .operator, keySlot := 5 }, by decide +kernel⟩
theorem test_wit_SessionsAndServices_5 : ∃ (s : State) (q : Req) (role : Role),
    s.atDoor q role = true ∧ q.odd = false ∧ Table.risingFrom none s.mgmt.sessions = true :=
  ⟨tServe .operator, tReq, .operator, by decide +kernel⟩
theorem test_wit_SessionsAndServices_6 : ∃ (s : State) (n : Nat),
    (s.sess n).st = .opening :=
  ⟨tOpening, 1, by decide +kernel⟩
theorem test_wit_SessionsAndServices_8 : ∃ (s : State) (n : Nat),
    (s.sess n).st = .opened ∧ (s.sess n).executing = false ∧ Table.risingFrom none s.mgmt.sessions = true :=
  ⟨tServe .operator, 0, by decide +kernel⟩
theorem test_wit_SessionsAndServices_9 : ∃ (s : State) (q : Req) (role : Role) (obj sub i e : Nat) (r : Reg),
    s.atDoor q role = true ∧ q.odd = false ∧ sub ≠ 0 ∧ findObject obj sub = some (r, i, e) ∧ r.entries = 0 ∧ r.emptyRead = false :=
  ⟨tServe .operator, tReq, .operator, 0x1002, 1, 0, 0, R.nodeAddr, by decide +kernel⟩
theorem test_wit_SessionsAndServices_10 : ∃ (s : State) (q : Req) (role : Role) (obj sub i e : Nat) (r : Reg),
    s.atDoor q role = true ∧ q.odd = false ∧ sub ≠ 0 ∧ findObject obj sub = some (r, i, e) :=
  ⟨tServe .operator, tReq, .operator, 0x1002, 1, 0, 0, R.nodeAddr, by decide +kernel⟩
theorem test_wit_SessionsAndServices_11 : ∃ (s : State) (q : Req) (role : Role) (body : List Byte) (v : Image),
    body.length = 4 ∧ v = BitVec.ofNat 1024 (natOfBytes body) ∧ s.mayWrite q role R.nodeAddr 0 0 v = true ∧ (objectRule R.nodeAddr q 0 0 (s.reg R.nodeAddr) v).chk s = none ∧ Table.risingFrom none s.dict = true :=
  ⟨tServe .installer, tReq, .installer, [0, 0, 0, 0x80], 0x80000000, by decide +kernel⟩
theorem test_wit_SessionsAndServices_12 : ∃ (s : State) (q : Req) (role : Role),
    s.mayWrite q role R.canRecover 0 0 1 = true ∧ s.mgmt.can.st = .busOff ∧ bit (s.eff R.canCtl) 11 = false :=
  ⟨{ (tServe .operator).updMgmt (fun m => { m with can := { st := .busOff } }) with active := [(R.canCtl.key 0 0, 1)] }, tReq, .operator, by decide +kernel⟩

/-! Hypotheses of TheManagementBusDeliveriesAndTheTestPort are met. -/

/-- A started device at node 9 of the management bus. -/
def tCan : State := { tServe .operator with straps := { mgmtId := 9 } }
/-- An FDP_RESPONSE for station 1 of slice 0 has come to stop 7; CQ 0 of slice 0 takes it. -/
def tDelivered : Arrived := { stop := 7, pkt := { hdr := { cmd := 0x02, dstStation := 0x201, length := 3 }, payload := [1, 2, 3] } }
def tDeliver : State :=
  { (((tHost.setReg R.sliceStations 0 0 0x80000601).setReg R.controlRecv 0 0 (BitVec.ofNat _ (2 ^ 127 + 0x10000))).setReg
      R.transStageTwo 0 0 (BitVec.ofNat _ (2 ^ 63))).updHost (fun h => { h with cqs := [(0, {})] }) with arrived := [tDelivered] }
theorem test_wit_TheManagementBusDeliveriesAndTheTestPort_1 : ∃ (s u : State) (id : BitVec 29),
    s.boot ≠ .held ∧ s.canSt ≠ .busOff ∧ u = (if s.canSt = .monitor then s else s.canRxOk) ∧ s.canIgnores id = true :=
  ⟨tCan, tCan, 0, by decide +kernel⟩
theorem test_wit_TheManagementBusDeliveriesAndTheTestPort_2 : ∃ (s u : State),
    s.boot ≠ .held ∧ s.canSt ≠ .busOff ∧ u = (if s.canSt = .monitor then s else s.canRxOk) :=
  ⟨tCan, tCan, by decide +kernel⟩
theorem test_wit_TheManagementBusDeliveriesAndTheTestPort_3 : ∃ (s : State) (id : BitVec 29) (data msg : List Byte) (n src : Nat),
    s.boot ≠ .held ∧ s.canSt ≠ .busOff ∧ s.canIgnores id = false ∧ nthD 0 data 0 = 0xC0 ∧ nthD 0 data 1 = 0 ∧ src = fldN id 17 11 ∧ s.mgmt.can.reasm.length < 8 ∧ n = 24 + natOfBytes (((data.drop 2).drop 14).take 2) ∧ n ≤ 4096 ∧ msg = (data.drop 2).take n ∧ fdpMalformed msg = false ∧ nthD 0 msg 0 = 0x10 :=
  ⟨tCan, BitVec.ofNat 29 (2 ^ 25 + 9 * 2 ^ 18 + 3 * 2 ^ 11), [0xC0, 0, 0x10] ++ List.replicate 29 0, 0x10 :: List.replicate 23 0, 24, 3, by decide +kernel⟩
theorem test_wit_TheManagementBusDeliveriesAndTheTestPort_4 : ∃ (s : State) (id : BitVec 29) (data : List Byte) (src : Nat),
    s.boot ≠ .held ∧ s.canSt ≠ .busOff ∧ s.canIgnores id = false ∧ nthD 0 data 0 = 0x80 ∧ nthD 0 data 1 = 0 ∧ src = fldN id 17 11 ∧ s.mgmt.can.reasm.length < 8 :=
  ⟨tCan, BitVec.ofNat 29 (2 ^ 25 + 9 * 2 ^ 18 + 3 * 2 ^ 11), [0x80, 0, 0x10], 3, by decide +kernel⟩
theorem test_wit_TheManagementBusDeliveriesAndTheTestPort_5 : ∃ (s : State) (id : BitVec 29) (data : List Byte) (src : Nat) (r : Reassembly),
    s.boot ≠ .held ∧ s.canSt ≠ .busOff ∧ s.canIgnores id = false ∧ nthD 0 data 0 = 0 ∧ src = fldN id 17 11 ∧ s.mgmt.can.reasm.find? (fun r => r.src = src) = some r ∧ (nthD 0 data 1).toNat = r.next ∧ r.next ≤ 66 :=
  ⟨tCan.updCan (fun c => { c with reasm := [{ src := 3, next := 1, bytes := [0x10] }] }), BitVec.ofNat 29 (2 ^ 25 + 9 * 2 ^ 18 + 3 * 2 ^ 11), [0, 1, 5], 3, { src := 3, next := 1, bytes := [0x10] }, by decide +kernel⟩
theorem test_wit_TheManagementBusDeliveriesAndTheTestPort_6 : ∃ (s : State) (src : Nat),
    s.mgmt.can.reasm.any (fun r => r.src == src) = true :=
  ⟨tCan.updCan (fun c => { c with reasm := [{ src := 3 }] }), 3, by decide +kernel⟩
theorem test_wit_TheManagementBusDeliveriesAndTheTestPort_7 : ∃ (s : State) (d : Distress),
    s.boot ≠ .held ∧ s.canSt ≠ .busOff ∧ s.canSt ≠ .monitor ∧ s.mgmt.can.distress = some d :=
  ⟨tCan.updCan (fun c => { c with distress := some {}, txq := [{ dest := 5, bytes := [1] }] }), {}, by decide +kernel⟩
theorem test_wit_TheManagementBusDeliveriesAndTheTestPort_8a : ∃ (s : State) (m : CanMsg) (l : List CanMsg),
    s.boot ≠ .held ∧ s.canSt ≠ .busOff ∧ s.canSt ≠ .monitor ∧ s.mgmt.can.distress = none ∧ s.mgmt.can.txq = m :: l ∧ s.mgmt.can.txErr ≤ 256 :=
  ⟨tCan.updCan (fun c => { c with txq := [{ dest := 5, bytes := List.replicate 63 0 }] }), { dest := 5, bytes := List.replicate 63 0 }, [], by decide +kernel⟩
theorem test_wit_TheManagementBusDeliveriesAndTheTestPort_8b : ∃ (s : State) (m : CanMsg) (l : List CanMsg),
    s.boot ≠ .held ∧ s.canSt ≠ .busOff ∧ s.canSt ≠ .monitor ∧ s.mgmt.can.distress = none ∧ s.mgmt.can.txq = m :: l ∧ s.mgmt.can.txErr ≤ 256 :=
  ⟨tCan.updCan (fun c => { c with txq := [{ dest := 5, bytes := List.replicate 62 0 }] }), { dest := 5, bytes := List.replicate 62 0 }, [], by decide +kernel⟩
theorem test_wit_TheManagementBusDeliveriesAndTheTestPort_9 : ∃ (s : State) (e : CanErr) (a b : Nat),
    s.boot ≠ .held ∧ s.canSt ≠ .busOff ∧ s.canSt ≠ .monitor ∧ (e, a, b) ∈ [(CanErr.transmitter, min 511 (s.mgmt.can.txErr + 8), s.mgmt.can.rxErr), (.receiver, s.mgmt.can.txErr, min 255 (s.mgmt.can.rxErr + 1)), (.receiverDominant, s.mgmt.can.txErr, min 255 (s.mgmt.can.rxErr + 8))] :=
  ⟨tCan.updCan (fun c => { c with txErr := 248 }), .transmitter, 256, 0, by decide +kernel⟩
theorem test_wit_TheManagementBusDeliveriesAndTheTestPort_10 : ∃ (s : State),
    s.mgmt.can.st = .busOff ∧ (bit (s.eff R.canCtl) 11 = true ∨ s.mgmt.can.recovering = true) :=
  ⟨tCan.updCan (fun c => { c with st := .busOff, txErr := 256 }), by decide +kernel⟩
theorem test_wit_TheManagementBusDeliveriesAndTheTestPort_11 : ∃ (s : State) (st : Nat) (a : Arrived),
    (s.arrived.find? (fun a => a.stop = st ∧ deliveryCmd a.pkt.hdr.cmd.toNat ∧ s.released a.hold) = some a) ∧ s.ctlQueue a.pkt.hdr = none :=
  ⟨{ tCan with arrived := [tDelivered] }, 7, tDelivered, by decide +kernel⟩
theorem test_wit_TheManagementBusDeliveriesAndTheTestPort_12 : ∃ (s : State) (st n f : Nat) (a : Arrived) (q : Cq),
    (s.arrived.find? (fun a => a.stop = st ∧ deliveryCmd a.pkt.hdr.cmd.toNat ∧ s.released a.hold) = some a) ∧ s.ctlQueue a.pkt.hdr = some (n, q) ∧ s.inboundFunc 0 = some f ∧ s.bypass 0 = true ∧ a.pkt.payload.length ≤ 4096 ∧ q.held = [] ∧ posDiff q.wpos q.consumer < 2 ^ q.log ∧ s.writable q.slice = true :=
  ⟨tDeliver, 7, 0, 0, tDelivered, {}, by decide +kernel⟩
theorem test_wit_TheManagementBusDeliveriesAndTheTestPort_14 : ∃ (s : State) (b : Bool) (l : List Bool),
    s.tap.st = .shiftDr ∧ s.tap.dr = b :: l :=
  ⟨{ tCan with tap := { st := .shiftDr, dr := [true, false] } }, true, [false], by decide +kernel⟩
theorem test_wit_TheManagementBusDeliveriesAndTheTestPort_15 : ∃ (s : State),
    s.tap.st = .exit1Ir :=
  ⟨{ tCan with tap := { st := .exit1Ir } }, by decide +kernel⟩
theorem test_wit_TheManagementBusDeliveriesAndTheTestPort_16 : ∃ (s : State),
    s.tap.st = .captureDr :=
  ⟨{ tCan with tap := { st := .captureDr } }, by decide +kernel⟩

/-! Hypotheses of OnlyTheHolderReleasesALock are met. -/

theorem test_wit_OnlyTheHolderReleasesALock_1 : ∃ (s : State) (n sl m : Nat) (w : BitVec 32),
    fldN w 31 30 = 2 ∧ fldN w 27 20 = sl ∧ fldN w 9 0 = m ∧ s.lockAllowed n sl m = true ∧ Table.risingFrom none s.host.locks = true ∧ bit (s.lock n) 31 = true ∧ fldN (s.lock n) 27 20 = sl ∧ fldN (s.lock n) 9 0 = m :=
  ⟨tLocks.setLock 0 0xC0100005, 0, 1, 5, 0x80100005, by decide +kernel⟩
theorem test_wit_OnlyTheHolderReleasesALock_2 : ∃ (s : State) (n sl m : Nat),
    (¬(bit (s.lock n) 31 = true ∧ fldN (s.lock n) 27 20 = sl ∧ fldN (s.lock n) 9 0 = m)) :=
  ⟨tLocks.setLock 0 0x80100005, 0, 1, 6, by decide +kernel⟩

/-! Hypotheses of FaultClearFollowsTheState are met. -/

theorem test_wit_FaultClearFollowsTheState_1 : ∃ (s : State) (q : Req) (role : Role) (v : Image) (n : Nat),
    s.mayWrite q role R.faultClear 0 0 v = true ∧ n = fldN v 10 0 ∧ faultValid n = true ∧ (s.src n).st = .held ∧ s.decides = true ∧ Table.risingFrom none s.faults.srcs = true :=
  ⟨tFault 0x410 0 { st := .held, events := 1 }, tReq, .operator, 0x410, 0x410, by decide +kernel⟩
theorem test_wit_FaultClearFollowsTheState_2 : ∃ (s : State) (q : Req) (role : Role) (v : Image) (n : Nat),
    s.mayWrite q role R.faultClear 0 0 v = true ∧ n = fldN v 10 0 ∧ faultValid n = true ∧ ((s.src n).st = .active ∨ (s.src n).st = .latched) :=
  ⟨tFault 0x410 0 { st := .latched, events := 1 }, tReq, .operator, 0x410, 0x410, by decide +kernel⟩
theorem test_wit_FaultClearFollowsTheState_3 : ∃ (s : State) (q : Req) (role : Role) (v : Image) (n : Nat),
    s.mayWrite q role R.faultClear 0 0 v = true ∧ n = fldN v 10 0 ∧ faultValid n = true ∧ (s.src n).st = .idle :=
  ⟨tFault 0x410 0 {}, tReq, .operator, 0x410, 0x410, by decide +kernel⟩

/-! Hypotheses of InitTimeoutTakesTheLinkDown are met. -/

theorem test_wit_InitTimeoutTakesTheLinkDown_1 : ∃ (s : State) (p : Nat),
    (s.link p).st = .init ∧ (s.link p).pauseAt = none :=
  ⟨tLink 3 { st := .init }, 3, by decide +kernel⟩
theorem test_wit_InitTimeoutTakesTheLinkDown_2 : ∃ (s : State) (p : Nat),
    ((s.link p).st ≠ .init ∨ (s.link p).pauseAt ≠ none) :=
  ⟨tLink 3 { st := .up }, 3, by decide +kernel⟩

/-! Hypotheses of DoorbellsMoveProducerInTheWindow are met. -/

theorem test_wit_DoorbellsMoveProducerInTheWindow_1 : ∃ (s : State) (f page slot sl n p : Nat) (v : BitVec 64) (w : Wq),
    s.barOpen f = true ∧ s.funcSlice f = some sl ∧ s.slotWq f page slot = some (n, w) ∧ (s.slice w.slice).st ≠ .halted ∧ fldN v 63 16 = 0 ∧ p = fldN v 15 0 ∧ ((p : Int) - w.head) % 65536 ≤ 2 ^ w.log ∧ 1 ≤ ((p : Int) - w.producer) % 65536 ∧ ((p : Int) - w.producer) % 65536 ≤ 2 ^ w.log ∧ p ≠ w.producer :=
  ⟨tQueues, 0, 0, 0, 1, 5, 64, 64, tWq, by decide +kernel⟩
theorem test_wit_DoorbellsMoveProducerInTheWindow_2 : ∃ (s : State) (f page slot sl n : Nat) (v : BitVec 64) (w : Wq),
    s.barOpen f = true ∧ s.funcSlice f = some sl ∧ s.slotWq f page slot = some (n, w) ∧ (s.slice w.slice).st ≠ .halted ∧ fldN v 63 16 = 0 ∧ fldN v 15 0 = w.producer :=
  ⟨tQueues, 0, 0, 0, 1, 5, 0, tWq, by decide +kernel⟩
theorem test_wit_DoorbellsMoveProducerInTheWindow_3 : ∃ (s : State) (f page slot sl n p : Nat) (v : BitVec 64) (w : Wq),
    s.barOpen f = true ∧ s.funcSlice f = some sl ∧ s.slotWq f page slot = some (n, w) ∧ (s.slice w.slice).st ≠ .halted ∧ fldN v 63 16 = 0 ∧ p = fldN v 15 0 ∧ p ≠ w.producer ∧ (¬(((p : Int) - w.head) % 65536 ≤ 2 ^ w.log ∧ 1 ≤ ((p : Int) - w.producer) % 65536 ∧ ((p : Int) - w.producer) % 65536 ≤ 2 ^ w.log)) :=
  ⟨tQueues, 0, 0, 0, 1, 5, 65, 65, tWq, by decide +kernel⟩
theorem test_wit_DoorbellsMoveProducerInTheWindow_4 : ∃ (s : State) (f page slot sl n a b : Nat) (v u : BitVec 64) (w : Wq),
    s.barOpen f = true ∧ s.funcSlice f = some sl ∧ s.slotWq f page slot = some (n, w) ∧ (s.slice w.slice).st ≠ .halted ∧ fldN v 63 16 = 0 ∧ fldN u 63 16 = 0 ∧ a = fldN v 15 0 ∧ b = fldN u 15 0 ∧ w.inWindow a = true ∧ w.inWindow b = true ∧ posDiff a w.producer < posDiff b w.producer ∧ w.log ≤ 15 ∧ w.producer < 65536 :=
  ⟨tQueues, 0, 0, 0, 1, 5, 3, 60, 3, 60, tWq, by decide +kernel⟩

end Sys2Proof.Machine
end

section
/-! What every command does (family 00, scope): it answers a next state, and moves the queue, the part's identity, the life cycle
and the least firmware version only as `Moved` allows.  And what the dictionary reads after a store. -/

namespace Sys2Proof.Machine

/-! The commands -/

/-- Every command answers a next state, which differs from the one before as `Moved` allows.  Four commands may move the life cycle,
the straps or the least firmware version; every other one keeps all of `Kept`. -/
theorem exec_moved (c : Instr) (s : State) : ∃ t, exec c s = .next t ∧ Moved s t :=
  match c with
  | .fdpWrite q obj sub entry count body => execFdpWrite_moved q obj sub entry count body s
  | .fdpRead q obj sub entry count => moved_of_keeps (execFdpRead_keeps q obj sub entry count s)
  | .fdpIdentify q => moved_of_keeps (execFdpIdentify_keeps q s)
  | .fdpOpen q role slot nonce => moved_of_keeps (execFdpOpen_keeps q role slot nonce s)
  | .fdpAuth q sigOk => moved_of_keeps (execFdpAuth_keeps q sigOk s)
  | .fdpClose q => moved_of_keeps (execFdpClose_keeps q s)
  | .fdpInfo q obj sub => moved_of_keeps (execFdpInfo_keeps q obj sub s)
  | .authTimeout n => moved_of_keeps (execAuthTimeout_keeps n s)
  | .authLockoutExpiry p => moved_of_keeps (execAuthLockoutExpiry_keeps p s)
  | .sessionIdleExpiry n => moved_of_keeps (execSessionIdleExpiry_keeps n s)
  | .canFrameReceive fd id data => moved_of_keeps (execCanFrameReceive_keeps fd id data s)
  | .canReassemblyTimeout src => moved_of_keeps (execCanReassemblyTimeout_keeps src s)
  | .canFrameTransmit => moved_of_keeps (execCanFrameTransmit_keeps s)
  | .canBusError e => moved_of_keeps (execCanBusError_keeps e s)
  | .busOffRecovery => moved_of_keeps (execBusOffRecovery_keeps s)
  | .canRecover q v => moved_of_keeps (execCanRecover_keeps q v s)
  | .mbxSubmit h l v msg => moved_of_keeps (execMbxSubmit_keeps h l v msg s)
  | .mbxDoneClear h l v => moved_of_keeps (execMbxDoneClear_keeps h l v s)
  | .controlDelivery st => moved_of_keeps (execControlDelivery_keeps st s)
  | .discardNoticeReceive => moved_of_keeps (execDiscardNoticeReceive_keeps s)
  | .laneCal q v => moved_of_keeps (execLaneCal_keeps q v s)
  | .laneCalTimeout p => moved_of_keeps (execLaneCalTimeout_keeps p s)
  | .eqLoad q v => moved_of_keeps (execEqLoad_keeps q v s)
  | .eqLoadDeferredStart p => moved_of_keeps (execEqLoadDeferredStart_keeps p s)
  | .twinResync q v => moved_of_keeps (execTwinResync_keeps q v s)
  | .resyncComplete pairs devs => moved_of_keeps (execResyncComplete_keeps pairs devs s)
  | .caddyCompact q v => moved_of_keeps (execCaddyCompact_keeps q v s)
  | .caddyCompactDone free => moved_of_keeps (execCaddyCompactDone_keeps free s)
  | .caddyAutoCompact => moved_of_keeps (execCaddyAutoCompact_keeps s)
  | .firmwareStage q hdr => moved_of_keeps (execFirmwareStage_keeps q hdr s)
  | .fwChunk q body => moved_of_keeps (execFwChunk_keeps q body s)
  | .firmwareCheckDone c => moved_of_keeps (execFirmwareCheckDone_keeps c s)
  | .firmwareStageTimeout => moved_of_keeps (execFirmwareStageTimeout_keeps s)
  | .fwSelect q v => moved_of_keeps (execFwSelect_keeps q v s)
  | .routeSwap q v => moved_of_keeps (execRouteSwap_keeps q v s)
  | .keyTableSwap q v => moved_of_keeps (execKeyTableSwap_keeps q v s)
  | .swapCopyDone keys => moved_of_keeps (execSwapCopyDone_keeps keys s)
  | .controlScrub q v => moved_of_keeps (execControlScrub_keeps q v s)
  | .scrubAutoStart => moved_of_keeps (execScrubAutoStart_keeps s)
  | .controlScrubDone corrected bad => moved_of_keeps (execControlScrubDone_keeps corrected bad s)
  | .counterClearAll q v => moved_of_keeps (execCounterClearAll_keeps q v s)
  | .lifecycleChange q body => execLifecycleChange_moved q body s
  | .portRole q p v => moved_of_keeps (execPortRole_keeps q p v s)
  | .retrain q p v => moved_of_keeps (execRetrain_keeps q p v s)
  | .wake q p v => moved_of_keeps (execWake_keeps q p v s)
  | .testPattern q p v => moved_of_keeps (execTestPattern_keeps q p v s)
  | .testPatternDeferredStart p => moved_of_keeps (execTestPatternDeferredStart_keeps p s)
  | .synthLocked p => moved_of_keeps (execSynthLocked_keeps p s)
  | .synthLockTimeout p => moved_of_keeps (execSynthLockTimeout_keeps p s)
  | .forwardedClockPresent p rate => moved_of_keeps (execForwardedClockPresent_keeps p rate s)
  | .clockAcquireTimeout p => moved_of_keeps (execClockAcquireTimeout_keeps p s)
  | .eyeCentreFound p trims => moved_of_keeps (execEyeCentreFound_keeps p trims s)
  | .phaseTrimTimeout p => moved_of_keeps (execPhaseTrimTimeout_keeps p s)
  | .markersFound p lanes arrivals => moved_of_keeps (execMarkersFound_keeps p lanes arrivals s)
  | .alignTimeout p => moved_of_keeps (execAlignTimeout_keeps p s)
  | .fecLocked p => moved_of_keeps (execFecLocked_keeps p s)
  | .fecLockTimeout p => moved_of_keeps (execFecLockTimeout_keeps p s)
  | .synthLockLoss p => moved_of_keeps (execSynthLockLoss_keeps p s)
  | .forwardedClockLoss p => moved_of_keeps (execForwardedClockLoss_keeps p s)
  | .txLockLostTimeout p => moved_of_keeps (execTxLockLostTimeout_keeps p s)
  | .rxClockLostTimeout p => moved_of_keeps (execRxClockLostTimeout_keeps p s)
  | .retryWaitExpiry p => moved_of_keeps (execRetryWaitExpiry_keeps p s)
  | .calmIntervalExpiry p => moved_of_keeps (execCalmIntervalExpiry_keeps p s)
  | .calmRequest p c => moved_of_keeps (execCalmRequest_keeps p c s)
  | .calmGrant p c => moved_of_keeps (execCalmGrant_keeps p c s)
  | .calmRefuse p c => moved_of_keeps (execCalmRefuse_keeps p c s)
  | .calmRetry p => moved_of_keeps (execCalmRetry_keeps p s)
  | .calmWindowStart p => moved_of_keeps (execCalmWindowStart_keeps p s)
  | .calmWindowEnd p trims deskew => moved_of_keeps (execCalmWindowEnd_keeps p trims deskew s)
  | .dozeIdleExpiry p => moved_of_keeps (execDozeIdleExpiry_keeps p s)
  | .dozeRequest p c => moved_of_keeps (execDozeRequest_keeps p c s)
  | .dozeGrant p c => moved_of_keeps (execDozeGrant_keeps p c s)
  | .dozeRefuse p c => moved_of_keeps (execDozeRefuse_keeps p c s)
  | .wakeCausePort p => moved_of_keeps (execWakeCausePort_keeps p s)
  | .wakeTone p => moved_of_keeps (execWakeTone_keeps p s)
  | .wakeLocked p => moved_of_keeps (execWakeLocked_keeps p s)
  | .wakeTimeout p => moved_of_keeps (execWakeTimeout_keeps p s)
  | .lockLossExpiry p => moved_of_keeps (execLockLossExpiry_keeps p s)
  | .linkCellTransmit p => moved_of_keeps (execLinkCellTransmit_keeps p s)
  | .dataCellReceive p c fate => moved_of_keeps (execDataCellReceive_keeps p c fate s)
  | .idleCellReceive p c => moved_of_keeps (execIdleCellReceive_keeps p c s)
  | .bypassCellReceive p c => moved_of_keeps (execBypassCellReceive_keeps p c s)
  | .linkInit p c => moved_of_keeps (execLinkInit_keeps p c s)
  | .linkInitAck p c => moved_of_keeps (execLinkInitAck_keeps p c s)
  | .linkInitResend p => moved_of_keeps (execLinkInitResend_keeps p s)
  | .initTimeout p => moved_of_keeps (execInitTimeout_keeps p s)
  | .nak p c => moved_of_keeps (execNak_keeps p c s)
  | .replayTimeout p => moved_of_keeps (execReplayTimeout_keeps p s)
  | .linkDown p c => moved_of_keeps (execLinkDown_keeps p c s)
  | .wiringNotice p c => moved_of_keeps (execWiringNotice_keeps p c s)
  | .wiringNoticeRepeat p => moved_of_keeps (execWiringNoticeRepeat_keeps p s)
  | .abort p c => moved_of_keeps (execAbort_keeps p c s)
  | .errorRateWindowEnd p => moved_of_keeps (execErrorRateWindowEnd_keeps p s)
  | .flush q p v => moved_of_keeps (execFlush_keeps q p v s)
  | .flushDone p => moved_of_keeps (execFlushDone_keeps p s)
  | .schedulerToken => moved_of_keeps (execSchedulerToken_keeps s)
  | .redAvgUpdate => moved_of_keeps (execRedAvgUpdate_keeps s)
  | .pressureReportSend p => moved_of_keeps (execPressureReportSend_keeps p s)
  | .keyInsert q v => moved_of_keeps (execKeyInsert_keeps q v s)
  | .gateLoad q p bytes => moved_of_keeps (execGateLoad_keeps q p bytes s)
  | .gateSwitch q p v => moved_of_keeps (execGateSwitch_keeps q p v s)
  | .gateListSwitch p => moved_of_keeps (execGateListSwitch_keeps p s)
  | .gateEntryTransition p => moved_of_keeps (execGateEntryTransition_keeps p s)
  | .gateOverride q p k v => moved_of_keeps (execGateOverride_keeps q p k v s)
  | .gateOverrideStop q p k v => moved_of_keeps (execGateOverrideStop_keeps q p k v s)
  | .timedWindowStart w => moved_of_keeps (execTimedWindowStart_keeps w s)
  | .timedWindowStop w => moved_of_keeps (execTimedWindowStop_keeps w s)
  | .gateFitTest p => moved_of_keeps (execGateFitTest_keeps p s)
  | .ringSendRequest st a => moved_of_keeps (execRingSendRequest_keeps st a s)
  | .ringPacketArrive src dst kind hdr free => moved_of_keeps (execRingPacketArrive_keeps src dst kind hdr free s)
  | .ringPacketReturn src dst kind => moved_of_keeps (execRingPacketReturn_keeps src dst kind s)
  | .ringReinject src dst kind => moved_of_keeps (execRingReinject_keeps src dst kind s)
  | .ringStarveReserve st r => moved_of_keeps (execRingStarveReserve_keeps st r s)
  | .ringTimeout st tag => moved_of_keeps (execRingTimeout_keeps st tag s)
  | .ringStall st r => moved_of_keeps (execRingStall_keeps st r s)
  | .ringDisable q v => moved_of_keeps (execRingDisable_keeps q v s)
  | .crossingReset c entries => moved_of_keeps (execCrossingReset_keeps c entries s)
  | .hostPerstAssert h => moved_of_keeps (execHostPerstAssert_keeps h s)
  | .hostPerstDeassert h => moved_of_keeps (execHostPerstDeassert_keeps h s)
  | .hostLinkReset h l k => moved_of_keeps (execHostLinkReset_keeps h l k s)
  | .functionLevelReset f => moved_of_keeps (execFunctionLevelReset_keeps f s)
  | .wqDoorbell f page slot v => moved_of_keeps (execWqDoorbell_keeps f page slot v s)
  | .queueArm f page slot events v => moved_of_keeps (execQueueArm_keeps f page slot events v s)
  | .pushWrite f page slot data => moved_of_keeps (execPushWrite_keeps f page slot data s)
  | .barInvalidWrite w => moved_of_keeps (execBarInvalidWrite_keeps w s)
  | .wakeCause f => moved_of_keeps (execWakeCause_keeps f s)
  | .pmPmeSend f => moved_of_keeps (execPmPmeSend_keeps f s)
  | .pmcsrD0Write f => moved_of_keeps (execPmcsrD0Write_keeps f s)
  | .pmeEnWrite f en => moved_of_keeps (execPmeEnWrite_keeps f en s)
  | .pmeStatusClear f => moved_of_keeps (execPmeStatusClear_keeps f s)
  | .ltrIdle h l => moved_of_keeps (execLtrIdle_keeps h l s)
  | .l0pMeasure h l => moved_of_keeps (execL0pMeasure_keeps h l s)
  | .aspmL1Request h l => moved_of_keeps (execAspmL1Request_keeps h l s)
  | .hostReadCompletion id data => moved_of_keeps (execHostReadCompletion_keeps id data s)
  | .wqFetch n => moved_of_keeps (execWqFetch_keeps n s)
  | .sliceStart q sl => moved_of_keeps (execSliceStart_keeps q sl s)
  | .sliceRun q sl => moved_of_keeps (execSliceRun_keeps q sl s)
  | .sliceRecover q sl => moved_of_keeps (execSliceRecover_keeps q sl s)
  | .sliceTest q sl => moved_of_keeps (execSliceTest_keeps q sl s)
  | .sliceStop q sl => moved_of_keeps (execSliceStop_keeps q sl s)
  | .sliceReset q sl => moved_of_keeps (execSliceReset_keeps q sl s)
  | .sliceHalt q sl => moved_of_keeps (execSliceHalt_keeps q sl s)
  | .sliceStateSettled sl => moved_of_keeps (execSliceStateSettled_keeps sl s)
  | .wakeTest q sl v => moved_of_keeps (execWakeTest_keeps q sl v s)
  | .createWq q sl v => moved_of_keeps (execCreateWq_keeps q sl v s)
  | .createCq q sl v => moved_of_keeps (execCreateCq_keeps q sl v s)
  | .createEq q sl v => moved_of_keeps (execCreateEq_keeps q sl v s)
  | .destroyWq q sl v => moved_of_keeps (execDestroyWq_keeps q sl v s)
  | .destroyCq q sl v => moved_of_keeps (execDestroyCq_keeps q sl v s)
  | .destroyEq q sl v => moved_of_keeps (execDestroyEq_keeps q sl v s)
  | .resetWq q sl v => moved_of_keeps (execResetWq_keeps q sl v s)
  | .dispatchAdmit k => moved_of_keeps (execDispatchAdmit_keeps k s)
  | .engineTake e => moved_of_keeps (execEngineTake_keeps e s)
  | .engineSteal e => moved_of_keeps (execEngineSteal_keeps e s)
  | .engineRemoteSteal e => moved_of_keeps (execEngineRemoteSteal_keeps e s)
  | .entryNop e => moved_of_keeps (execEntryNop_keeps e s)
  | .entrySend e => moved_of_keeps (execEntrySend_keeps e s)
  | .entryRecv e => moved_of_keeps (execEntryRecv_keeps e s)
  | .entryPut e => moved_of_keeps (execEntryPut_keeps e s)
  | .entryPutImm e => moved_of_keeps (execEntryPutImm_keeps e s)
  | .entryGet e => moved_of_keeps (execEntryGet_keeps e s)
  | .entryAtomic e => moved_of_keeps (execEntryAtomic_keeps e s)
  | .entryCollective e => moved_of_keeps (execEntryCollective_keeps e s)
  | .entryControlSend e => moved_of_keeps (execEntryControlSend_keeps e s)
  | .entrySegment e => moved_of_keeps (execEntrySegment_keeps e s)
  | .itemUnpark id => moved_of_keeps (execItemUnpark_keeps id s)
  | .engineItemLimit e => moved_of_keeps (execEngineItemLimit_keeps e s)
  | .engineMemoryError e => moved_of_keeps (execEngineMemoryError_keeps e s)
  | .arbiterRefill => moved_of_keeps (execArbiterRefill_keeps s)
  | .arbiterGrant a => moved_of_keeps (execArbiterGrant_keeps a s)
  | .arbiterPreempt a sl => moved_of_keeps (execArbiterPreempt_keeps a sl s)
  | .burstHandover a => moved_of_keeps (execBurstHandover_keeps a s)
  | .lockClaim n sl m w => moved_of_keeps (execLockClaim_keeps n sl m w s)
  | .lockRelease n sl m w => moved_of_keeps (execLockRelease_keeps n sl m w s)
  | .lockRead n sl m => moved_of_keeps (execLockRead_keeps n sl m s)
  | .lockBreak q v => moved_of_keeps (execLockBreak_keeps q v s)
  | .tlbLoad q v => moved_of_keeps (execTlbLoad_keeps q v s)
  | .tlbInval q v => moved_of_keeps (execTlbInval_keeps q v s)
  | .tlbInvalDone => moved_of_keeps (execTlbInvalDone_keeps s)
  | .transRetry q v => moved_of_keeps (execTransRetry_keeps q v s)
  | .transRetryFault q v => moved_of_keeps (execTransRetryFault_keeps q v s)
  | .walkReadComplete id entry ok => moved_of_keeps (execWalkReadComplete_keeps id entry ok s)
  | .missTimeout id => moved_of_keeps (execMissTimeout_keeps id s)
  | .eager u => moved_of_keeps (execEager_keeps u s)
  | .rts u => moved_of_keeps (execRts_keeps u s)
  | .channelSync u => moved_of_keeps (execChannelSync_keeps u s)
  | .cts u => moved_of_keeps (execCts_keeps u s)
  | .data u => moved_of_keeps (execData_keeps u s)
  | .done u => moved_of_keeps (execDone_keeps u s)
  | .msgAck u => moved_of_keeps (execMsgAck_keeps u s)
  | .rdvAbort u => moved_of_keeps (execRdvAbort_keeps u s)
  | .ackDelayExpiry p tc3 => moved_of_keeps (execAckDelayExpiry_keeps p tc3 s)
  | .ackTimeout p tc3 => moved_of_keeps (execAckTimeout_keeps p tc3 s)
  | .rdvTimeout p num sender => moved_of_keeps (execRdvTimeout_keeps p num sender s)
  | .overflowWalk n => moved_of_keeps (execOverflowWalk_keeps n s)
  | .rankLoad sl job rank => moved_of_keeps (execRankLoad_keeps sl job rank s)
  | .rankInval q sl v => moved_of_keeps (execRankInval_keeps q sl v s)
  | .putData st => moved_of_keeps (execPutData_keeps st s)
  | .putNotify st => moved_of_keeps (execPutNotify_keeps st s)
  | .getReq st => moved_of_keeps (execGetReq_keeps st s)
  | .atomicReq st => moved_of_keeps (execAtomicReq_keeps st s)
  | .getResp st => moved_of_keeps (execGetResp_keeps st s)
  | .atomicResp st => moved_of_keeps (execAtomicResp_keeps st s)
  | .sack st => moved_of_keeps (execSack_keeps st s)
  | .sackDelayExpiry p num => moved_of_keeps (execSackDelayExpiry_keeps p num s)
  | .retransmitTimeout p num => moved_of_keeps (execRetransmitTimeout_keeps p num s)
  | .regionInvalidate q n v => moved_of_keeps (execRegionInvalidate_keeps q n v s)
  | .collUp u => moved_of_keeps (execCollUp_keeps u s)
  | .collDown u => moved_of_keeps (execCollDown_keeps u s)
  | .collSummary u => moved_of_keeps (execCollSummary_keeps u s)
  | .collAbortReceive u => moved_of_keeps (execCollAbortReceive_keeps u s)
  | .collSegmentSend n m exps => moved_of_keeps (execCollSegmentSend_keeps n m exps s)
  | .collTimeout n => moved_of_keeps (execCollTimeout_keeps n s)
  | .collAbort q v => moved_of_keeps (execCollAbort_keeps q v s)
  | .collEpoch q v => moved_of_keeps (execCollEpoch_keeps q v s)
  | .collSteep q n v => moved_of_keeps (execCollSteep_keeps q n v s)
  | .collSteepClear q v => moved_of_keeps (execCollSteepClear_keeps q v s)
  | .poolAssign q p v => moved_of_keeps (execPoolAssign_keeps q p v s)
  | .poolRelease q p v => moved_of_keeps (execPoolRelease_keeps q p v s)
  | .poolZeroingDone p => moved_of_keeps (execPoolZeroingDone_keeps p s)
  | .memPerstRelease => moved_of_keeps (execMemPerstRelease_keeps s)
  | .memLinkTrained m type3 width speed => moved_of_keeps (execMemLinkTrained_keeps m type3 width speed s)
  | .memoryActive m capacity => moved_of_keeps (execMemoryActive_keeps m capacity s)
  | .memActiveTimeout m => moved_of_keeps (execMemActiveTimeout_keeps m s)
  | .memLinkDown m => moved_of_keeps (execMemLinkDown_keeps m s)
  | .cxlMemError m read => moved_of_keeps (execCxlMemError_keeps m read s)
  | .twinHeartbeatSend => moved_of_keeps (execTwinHeartbeatSend_keeps s)
  | .twinHeartbeat => moved_of_keeps (execTwinHeartbeat_keeps s)
  | .heartbeatLost => moved_of_keeps (execHeartbeatLost_keeps s)
  | .beatSend => moved_of_keeps (execBeatSend_keeps s)
  | .beat width => moved_of_keeps (execBeat_keeps width s)
  | .distress width => moved_of_keeps (execDistress_keeps width s)
  | .adoptPulse width => moved_of_keeps (execAdoptPulse_keeps width s)
  | .alertRepeat => moved_of_keeps (execAlertRepeat_keeps s)
  | .pinStuck => moved_of_keeps (execPinStuck_keeps s)
  | .pinFaultClear => moved_of_keeps (execPinFaultClear_keeps s)
  | .joiningTimeout => moved_of_keeps (execJoiningTimeout_keeps s)
  | .silentPartner => moved_of_keeps (execSilentPartner_keeps s)
  | .failSilentResetDelay => moved_of_keeps (execFailSilentResetDelay_keeps s)
  | .compareSweep l => moved_of_keeps (execCompareSweep_keeps l s)
  | .mirroredWrite m => moved_of_keeps (execMirroredWrite_keeps m s)
  | .mirrorConfirmTimeout => moved_of_keeps (execMirrorConfirmTimeout_keeps s)
  | .detach q v => moved_of_keeps (execDetach_keeps q v s)
  | .handback q v => moved_of_keeps (execHandback_keeps q v s)
  | .leadSwap q v => moved_of_keeps (execLeadSwap_keeps q v s)
  | .adopt q v => moved_of_keeps (execAdopt_keeps q v s)
  | .partnerReset q v => moved_of_keeps (execPartnerReset_keeps q v s)
  | .faultEvent srcs => moved_of_keeps (execFaultEvent_keeps srcs s)
  | .squallWindowExpiry n => moved_of_keeps (execSquallWindowExpiry_keeps n s)
  | .wireFault n => moved_of_keeps (execWireFault_keeps n s)
  | .graceExpiry n => moved_of_keeps (execGraceExpiry_keeps n s)
  | .lullExpiry n => moved_of_keeps (execLullExpiry_keeps n s)
  | .faultAck q v => moved_of_keeps (execFaultAck_keeps q v s)
  | .faultClear q v => moved_of_keeps (execFaultClear_keeps q v s)
  | .forceEvents q v => moved_of_keeps (execForceEvents_keeps q v s)
  | .forceWire q v => moved_of_keeps (execForceWire_keeps q v s)
  | .forceDisagree q v => moved_of_keeps (execForceDisagree_keeps q v s)
  | .decisionDisagree => moved_of_keeps (execDecisionDisagree_keeps s)
  | .decisionWordTimeout collectorB => moved_of_keeps (execDecisionWordTimeout_keeps collectorB s)
  | .collectorEccError collectorB => moved_of_keeps (execCollectorEccError_keeps collectorB s)
  | .failSilentAdoptPulse => moved_of_keeps (execFailSilentAdoptPulse_keeps s)
  | .mcHeartbeatWrite => moved_of_keeps (execMcHeartbeatWrite_keeps s)
  | .mcHeartbeatMiss => moved_of_keeps (execMcHeartbeatMiss_keeps s)
  | .avsWindow rate fails readback => moved_of_keeps (execAvsWindow_keeps rate fails readback s)
  | .avsRetry fails readback => moved_of_keeps (execAvsRetry_keeps fails readback s)
  | .barometerCrossing level2 => moved_of_keeps (execBarometerCrossing_keeps level2 s)
  | .paceRelease => moved_of_keeps (execPaceRelease_keeps s)
  | .thermalSample t => moved_of_keeps (execThermalSample_keeps t s)
  | .refclkLoss c => moved_of_keeps (execRefclkLoss_keeps c s)
  | .refclkReturn => moved_of_keeps (execRefclkReturn_keeps s)
  | .ppsEdge => moved_of_keeps (execPpsEdge_keeps s)
  | .ppsTimeout => moved_of_keeps (execPpsTimeout_keeps s)
  | .timeProbeSend => moved_of_keeps (execTimeProbeSend_keeps s)
  | .timeProbe => moved_of_keeps (execTimeProbe_keeps s)
  | .timeReply => moved_of_keeps (execTimeReply_keeps s)
  | .timeSet q v => moved_of_keeps (execTimeSet_keeps q v s)
  | .devReset q v => moved_of_keeps (execDevReset_keeps q v s)
  | .pinReset => moved_of_keeps (execPinReset_keeps s)
  | .powerOnReset => moved_of_keeps (execPowerOnReset_keeps s)
  | .supplyReset => moved_of_keeps (execSupplyReset_keeps s)
  | .resetRelease kind twinSide mgmtId => execResetRelease_moved kind twinSide mgmtId s
  | .bootFirmwareCheck aOk bOk => execBootFirmwareCheck_moved aOk bOk s
  | .startUpEnd => moved_of_keeps (execStartUpEnd_keeps s)
  | .snapshot q v => moved_of_keeps (execSnapshot_keeps q v s)
  | .snapshotCapture => moved_of_keeps (execSnapshotCapture_keeps s)
  | .counterWindow q k v => moved_of_keeps (execCounterWindow_keeps q k v s)
  | .windowStop q k v => moved_of_keeps (execWindowStop_keeps q k v s)
  | .windowRecordWrite k => moved_of_keeps (execWindowRecordWrite_keeps k s)
  | .sampleCtl q v => moved_of_keeps (execSampleCtl_keeps q v s)
  | .sampleStop q v => moved_of_keeps (execSampleStop_keeps q v s)
  | .sampleRecord => moved_of_keeps (execSampleRecord_keeps s)
  | .sampleConsumerRead => moved_of_keeps (execSampleConsumerRead_keeps s)
  | .sliceCounterRecord sl => moved_of_keeps (execSliceCounterRecord_keeps sl s)
  | .roleKey q n v => moved_of_keeps (execRoleKey_keeps q n v s)
  | .forwardedClockReturn p => moved_of_keeps (execForwardedClockReturn_keeps p s)
  | .symbolLockLoss p => moved_of_keeps (execSymbolLockLoss_keeps p s)
  | .symbolLockRegained p => moved_of_keeps (execSymbolLockRegained_keeps p s)
  | .timebaseTick => moved_of_keeps (execTimebaseTick_keeps s)
  | .hostLinkStateChange h l st width speed cxl => moved_of_keeps (execHostLinkStateChange_keeps h l st width speed cxl s)
  | .functionsReady h l => moved_of_keeps (execFunctionsReady_keeps h l s)
  | .pcieConfigWrite f w => moved_of_keeps (execPcieConfigWrite_keeps f w s)
  | .msixVectorUnmask f w => moved_of_keeps (execMsixVectorUnmask_keeps f w s)
  | .testAccessPort trstN tms tdi ti => moved_of_keeps (execTestAccessPort_keeps trstN tms tdi ti s)

/-- The command in front of the queue runs with the others waiting behind it (notes/assumptions/1.md). -/
theorem step_cons (c : Instr) (rest : List Instr) (s : State) :
    step { s with pending := c :: rest } = exec c { s with pending := rest } := rfl

/-- Settles O4: `exec_moved` gives the next state, in which the queue and the part are what they were. -/
theorem everyCommandAnswers : Obligations.EveryCommandAnswers := by
  unfold Obligations.EveryCommandAnswers
  intro c rest s
  obtain ⟨t, answers, moved⟩ := exec_moved c { s with pending := rest }
  exact ⟨t, answers, (step_cons c rest s).trans answers, moved.pending, moved.deviceId, moved.ports⟩

/-! The dictionary -/

/-- A store reads back, where the keys of the stored objects rise. -/
theorem State.reg_setReg_same {s : State} (r : Reg) (i e : Nat) (v : Image) (rising : Table.risingFrom none s.dict = true) :
    (s.setReg r i e v).reg r i e = v :=
  Table.get_set_rising (r.default i e) (r.key i e) v rising

/-- A store under another key, of the same object or of another one with another default, is not read. -/
theorem State.reg_setReg_other (s : State) {r r' : Reg} {i e i' e' : Nat} (v : Image) (apart : r'.key i' e' ≠ r.key i e) :
    (s.setReg r i e v).reg r' i' e' = s.reg r' i' e' :=
  Table.get_set_apart (r.default i e) (r'.default i' e') s.dict v apart

/-- Settles O11: the laws of sparse tables, at the dictionary's keys and over the addresses of a run of bytes. -/
theorem dictionaryHoldsWhatIsWritten : Obligations.DictionaryHoldsWhatIsWritten := by
  unfold Obligations.DictionaryHoldsWhatIsWritten
  refine ⟨?stored, ?others, ?bytes⟩
  case stored => exact fun s r i e v rising => State.reg_setReg_same r i e v rising
  case others => exact fun s r r' i e i' e' v apart => State.reg_setReg_other s v apart
  case bytes => exact fun m a bs wf => ⟨Memory.wf_writeAll a bs wf, fun j outside => Memory.read_writeAll_other a j bs outside⟩

end Sys2Proof.Machine
end

section
/-! The packet header (family 01, fabric): it and its 256 bits say the same, and its check is blind to what a hop may change. -/

namespace Sys2Proof

/-! The header and its bits (R32, Table FAB-8) -/

/-- Each field is read where it was written, above the fields below it.  The cast writes 256 as the sum of the fields' widths,
at which the rules of `++` apply. -/
theorem Header.ofBits_toBits (h : Header) : Header.ofBits h.toBits = h := by
  change Header.ofBits (BitVec.cast
    (rfl : 16 + 2 + 4 + 2 + 2 + 12 + 32 + 16 + 32 + 24 + 13 + 8 + 12 + 2 + 3 + 16 + 10 + 20 + 10 + 20 = 256) h.toBits) = h
  simp only [Header.ofBits, Header.toBits, BitVec.extractLsb'_cast, BitVec.extractLsb'_append_eq_of_le,
    BitVec.extractLsb'_append_eq_right, BitVec.extractLsb'_eq_self, Nat.reduceLeDiff, Nat.reduceSub]

/-- Each field begins where the one below it ends, so from HCHK down the fields close up to all 256 bits. -/
theorem Header.toBits_ofBits (b : BitVec 256) : (Header.ofBits b).toBits = b := by
  simp only [Header.toBits, Header.ofBits, BitVec.extractLsb'_append_extractLsb'_eq_extractLsb']
  exact BitVec.extractLsb'_eq_self

/-! The bits that the check covers (R39) -/

/-- The word whose low `k` bits are set has no other bit. -/
theorem getLsbD_lowMask (w k i : Nat) : (BitVec.ofNat w (2 ^ k - 1)).getLsbD i = (decide (i < w) && decide (i < k)) := by
  rw [BitVec.getLsbD_ofNat, Nat.testBit_two_pow_sub_one]

/-- A mask of the low `k` bits leaves a field that lies in them. -/
theorem extractLsb'_lowMask_inside {w k start len : Nat} (b : BitVec w) (inside : start + len ≤ k) :
    (b &&& BitVec.ofNat w (2 ^ k - 1)).extractLsb' start len = b.extractLsb' start len := by
  ext i hi
  have low : start + i < k := by omega
  simpa only [BitVec.getElem_extractLsb', BitVec.getLsbD_and, getLsbD_lowMask, low, decide_true, Bool.and_true,
    Bool.and_eq_left_iff_imp, decide_eq_true_eq] using BitVec.lt_of_getLsbD

/-- A mask of the low `k` bits clears a field that lies above them. -/
theorem extractLsb'_lowMask_above {w k start len : Nat} (b : BitVec w) (above : k ≤ start) :
    (b &&& BitVec.ofNat w (2 ^ k - 1)).extractLsb' start len = 0 := by
  ext i hi
  have high : ¬ start + i < k := by omega
  simp only [BitVec.getElem_extractLsb', BitVec.getLsbD_and, getLsbD_lowMask, high, decide_false, Bool.and_false,
    BitVec.ofNat_eq_ofNat, BitVec.getElem_zero]

/-- The header with every field at 0 that HCHK does not cover: those that a hop may change, and HCHK itself. -/
def Header.covered (h : Header) : Header := { h with colour := 0, phase := 0, hops := 0, cong := 0, hchk := 0 }

/-- Clearing bits 255 to 230 clears the uncovered fields, and no other: RESERVED ends at bit 229, COLOUR begins at bit 230. -/
theorem Header.ofBits_lowMask (b : BitVec 256) :
    Header.ofBits (b &&& BitVec.ofNat 256 (2 ^ 230 - 1)) = (Header.ofBits b).covered := by
  simp only [Header.ofBits, Header.covered, ↓extractLsb'_lowMask_inside, ↓extractLsb'_lowMask_above, Nat.reduceLeDiff, Nat.reduceAdd]

/-- In the bits of a header, too, clearing bits 255 to 230 clears the uncovered fields. -/
theorem Header.toBits_lowMask (h : Header) : h.toBits &&& BitVec.ofNat 256 (2 ^ 230 - 1) = h.covered.toBits := by
  rw [← Header.toBits_ofBits (h.toBits &&& _), Header.ofBits_lowMask, Header.ofBits_toBits]

/-- The check reads the covered fields only. -/
theorem Header.check_eq (h : Header) : h.check = (bytesOf h.covered.toBits 32).foldl crc16Byte 0xFFFF#16 := by
  rw [Header.check, Header.toBits_lowMask]

end Sys2Proof

namespace Sys2Proof.Machine

/-- Settles O9: each of the two readings undoes the other. -/
theorem headerRoundTrip : Obligations.HeaderRoundTrip := by
  unfold Obligations.HeaderRoundTrip
  exact ⟨Header.ofBits_toBits, Header.toBits_ofBits⟩

/-- Settles O10: the two headers agree in every covered field. -/
theorem headerCheckSkipsHopFields : Obligations.HeaderCheckSkipsHopFields := by
  unfold Obligations.HeaderCheckSkipsHopFields
  intro h co ph cg ho k
  have same : ({ h with colour := co, phase := ph, hops := ho, cong := cg, hchk := k } : Header).covered = h.covered := rfl
  rw [Header.check_eq, same, ← Header.check_eq]

end Sys2Proof.Machine
end

section
/-! The lanes (family 03): what a lane command writes reads back, and what a link that goes down, a calm window or doze leaves alone.
A table reads back what is written unless the value written is the default of the table, whose entry is erased: then an older entry
under the same key, if the table holds one, comes to light. -/

namespace Sys2Proof.Machine

/-! Values that are not the default of their table -/

theorem Lane.ne_default {l : Lane} (notOff : l.st ≠ .off) : l ≠ {} := fun e => notOff (congrArg Lane.st e)
theorem Link.ne_default_of_st {k : Link} (notDown : k.st ≠ .down) : k ≠ {} := fun e => notDown (congrArg Link.st e)
theorem Link.ne_default_of_lastDown {k : Link} (caused : k.lastDown ≠ 0) : k ≠ {} := fun e => caused (congrArg Link.lastDown e)
theorem Link.ne_default_of_pauseAt {k : Link} (paused : k.pauseAt.isSome = true) : k ≠ {} :=
  fun e => by rw [e] at paused; cases paused

theorem State.lane_updLane {s : State} {p : Nat} {f : Lane → Lane} (notOff : (f (s.lane p)).st ≠ .off) :
    (s.updLane p f).lane p = f (s.lane p) :=
  State.lane_updLane_same s p f (Lane.ne_default notOff)

theorem State.lane_setLane {s : State} {p : Nat} {l : Lane} (notOff : l.st ≠ .off) : (s.setLane p l).lane p = l :=
  State.lane_setLane_same s p l (Lane.ne_default notOff)

/-! The port's timers (R142) -/

@[simp] theorem State.settlePause_lanes (s : State) (p : Nat) : (s.settlePause p).lanes = s.lanes := rfl
@[simp] theorem State.settlePause_dict (s : State) (p : Nat) : (s.settlePause p).dict = s.dict := rfl
@[simp] theorem State.settlePause_wires (s : State) (p : Nat) : (s.settlePause p).wires = s.wires := rfl
@[simp] theorem State.lane_settlePause (s : State) (p q : Nat) : (s.settlePause p).lane q = s.lane q := rfl
@[simp] theorem State.op_settlePause (s : State) (p k q : Nat) : (s.settlePause p).op k q = s.op k q := rfl
@[simp] theorem State.opActive_settlePause (s : State) (p k q : Nat) : (s.settlePause p).opActive k q = s.opActive k q := rfl
@[simp] theorem State.link_settlePause_other (s : State) {p q : Nat} (h : q ≠ p) : (s.settlePause p).link q = s.link q :=
  State.link_updLink_other s _ h

/-- Lanes that are not timed pause the timers. -/
theorem State.pauseAt_settlePause {s : State} {p : Nat} (untimed : (s.lane p).timed = false) :
    ((s.settlePause p).link p).pauseAt.isSome = true := by
  unfold State.settlePause
  rw [untimed, State.link_updLink_same]
  · cases paused : (s.link p).pauseAt <;> simp [paused]
  · refine Link.ne_default_of_pauseAt ?_
    cases paused : (s.link p).pauseAt <;> simp [paused]

/-- The timers do not move the state of a link. -/
theorem State.st_settlePause {s : State} {p : Nat} (notDown : (s.link p).st ≠ .down) :
    ((s.settlePause p).link p).st = (s.link p).st := by
  unfold State.settlePause
  rw [State.link_updLink_same _ _ _ (Link.ne_default_of_st ?_)]
  all_goals (cases (s.link p).pauseAt <;> cases (s.lane p).timed <;> simp [notDown])

/-! Control and calm cells that wait (R111) -/

@[simp] theorem State.lane_queueCtl (s : State) (p : Nat) (m : CtlMsg) (q : Nat) : (s.queueCtl p m).lane q = s.lane q := rfl
@[simp] theorem State.link_queueCtl_other (s : State) {p q : Nat} (m : CtlMsg) (h : q ≠ p) : (s.queueCtl p m).link q = s.link q :=
  State.link_updLink_other s _ h

theorem State.link_queueCtl (s : State) (p : Nat) (m : CtlMsg) :
    (s.queueCtl p m).link p = { s.link p with ctlQ := (s.link p).ctlQ ++ [m] } := by
  refine State.link_updLink_same s p _ fun e => ?_
  have waiting := congrArg Link.ctlQ e
  simp at waiting

/-! Bring-up (R84, R86, R100) -/

/-- An operation that was active ends FAILED with the code. -/
theorem State.op_opEnd_failed {s : State} {k p f : Nat} (active : s.opActive k p = true) (failed : f ≠ 0) :
    ((s.opEnd k p f).op k p).st = 4 ∧ ((s.opEnd k p f).op k p).fail = f := by
  have ended : (s.opEnd k p f).op k p = { st := 4, fail := f, runs := min ((s.op k p).runs + 1) (2 ^ 32 - 1) } := by
    rw [State.opEnd, if_pos active]
    simp only [failed, if_false, State.op, Table.upd, Table.set]
    rw [if_neg (fun e => by simpa using congrArg OpSt.st e), Table.get_insert_same]
  rw [ended]
  exact ⟨rfl, rfl⟩

/-- A bring-up that fails waits for its retry (Table LAN-14), and no other port notices. -/
theorem State.bringUpFail_waits (s : State) (p : Nat) {f : LaneFail} (failed : f ≠ .none) :
    (s.bringUpFail p f).lane p = { s.lane p with st := .retryWait, lastFail := f, txReady := false, lockLost := false }
      ∧ (s.bringUpFail p f).wires = s.wires ++ [8 * p] ∧ ((s.bringUpFail p f).link p).pauseAt.isSome = true
      ∧ (s.bringUpFail p f).dict = s.dict
      ∧ (s.opActive 2 p = true → ((s.bringUpFail p f).op 2 p).st = 4 ∧ ((s.bringUpFail p f).op 2 p).fail = f.code)
      ∧ (s.bringUpFail p f).opActive 2 p = false
      ∧ ∀ q, q ≠ p → (s.bringUpFail p f).lane q = s.lane q ∧ (s.bringUpFail p f).link q = s.link q := by
  have code : f.code ≠ 0 := by cases f <;> simp [LaneFail.code] at failed ⊢
  unfold State.bringUpFail
  refine ⟨?lane, ?wires, ?paused, ?dict, fun active => State.op_opEnd_failed ?active code, State.opActive_opEnd .., fun q h => ?others⟩
  case lane => simp [State.lane_updLane]
  case wires => simp [State.raise]
  case paused => simpa using State.pauseAt_settlePause (by simp [State.lane_updLane, Lane.timed])
  case dict => simp
  case active => simpa using active
  case others => simp [h]

/-- With a role and a valid profile of its rate, a port starts its bring-up (R83, R100). -/
theorem State.startBringUp_starts {s : State} {p : Nat} (on : s.role p ≠ 7)
    (valid : bit (s.reg R.eqProfile p (fldN (s.reg R.eqSelect p) 2 0)) 0 = true)
    (ofRate : bit (s.reg R.eqProfile p (fldN (s.reg R.eqSelect p) 2 0)) 1 = bit (s.reg R.laneCtl p) 1) :
    ((s.startBringUp p).lane p).st = .synthLock ∧ ((s.startBringUp p).lane p).retries = (s.lane p).retries
      ∧ ((s.startBringUp p).lane p).profileActive = fldN (s.reg R.eqSelect p) 2 0
      ∧ ((s.startBringUp p).lane p).rateActive = bit (s.reg R.laneCtl p) 1
      ∧ (s.startBringUp p).dict = s.dict
      ∧ ∀ q, q ≠ p → (s.startBringUp p).lane q = s.lane q ∧ (s.startBringUp p).link q = s.link q := by
  unfold State.startBringUp
  simp only [if_neg on, valid, ofRate, beq_self_eq_true, Bool.and_self, if_true]
  refine ⟨?_, ?_, ?_, ?_, rfl, fun q h => ?_⟩
  all_goals simp [State.lane_updLane, *]

/-- A port fails in the stage that it is in. -/
theorem State.failIn_stage {s : State} {p : Nat} {st : LaneSt} (stage : (s.lane p).st = st) (f : LaneFail) :
    s.failIn p st f = s.bringUpFail p f := if_pos stage

/-- A retry is counted, at most 255 of them (R86). -/
def State.countRetry (s : State) (p : Nat) : State := s.updLane p (fun l => { l with retries := min 255 (l.retries + 1) })

/-- The wait for a retry ends with its count and a new start. -/
theorem exec_retryWaitExpiry {s : State} {p : Nat} (waits : (s.lane p).st = .retryWait) :
    exec (.retryWaitExpiry p) s = .next ((s.countRetry p).startBringUp p) :=
  congrArg Host.Outcome.next (if_pos waits)

/-- Settles O13: each timeout is the failure of its own stage, and the retry is the start of bring-up after the count. -/
theorem bringUpTimeoutsFail : Obligations.BringUpTimeoutsFail := by
  unfold Obligations.BringUpTimeoutsFail
  refine ⟨?timeouts, ?retry⟩
  case timeouts =>
    intro s p st c f watched stage
    have answers : exec c s = .next (s.failIn p st f) ∧ f ≠ .none := by
      simp only [List.mem_cons, List.not_mem_nil, or_false, Prod.mk.injEq] at watched
      rcases watched with ⟨rfl, rfl, rfl⟩ | ⟨rfl, rfl, rfl⟩ | ⟨rfl, rfl, rfl⟩ | ⟨rfl, rfl, rfl⟩ | ⟨rfl, rfl, rfl⟩ <;>
        exact ⟨rfl, nofun⟩
    rw [State.failIn_stage stage] at answers
    exact ⟨_, answers.1, s.bringUpFail_waits p answers.2⟩
  case retry =>
    intro s p sel waits on selected valid ofRate
    subst selected
    obtain ⟨st, retries, profile, rate, dict, others⟩ := State.startBringUp_starts (s := s.countRetry p) on valid ofRate
    refine ⟨_, exec_retryWaitExpiry waits, st, ?counted, profile, rate, dict, fun q h => ?_⟩
    case counted => rw [retries, State.countRetry, State.lane_updLane (by simp [waits])]
    exact ⟨(others q h).1.trans (State.lane_updLane_other s _ h), (others q h).2⟩

end Sys2Proof.Machine
end

section
/-! Cells that arrive, and calm windows (family 03, lanes). -/

namespace Sys2Proof.Machine

/-! Cells that arrive (R106) -/

/-- The state without its links and counters: what the header of a cell does not touch. -/
def State.besidesLinks (s : State) : State := { s with links := [], counters := [], totals := [] }

theorem State.ackSeq_besidesLinks (s : State) (p : Nat) (a : BitVec 12) : (s.ackSeq p a).besidesLinks = s.besidesLinks := by
  unfold State.ackSeq; dsimp only; (repeat' split) <;> rfl

theorem State.creditReport_besidesLinks (s : State) (p : Nat) (code : BitVec 6) (n : BitVec 7) :
    (s.creditReport p code n).besidesLinks = s.besidesLinks := by
  unfold State.creditReport; (repeat' split) <;> rfl

theorem State.headerUpdate_besidesLinks (s : State) (p : Nat) (c : LinkCell) : (s.headerUpdate p c).besidesLinks = s.besidesLinks := by
  unfold State.headerUpdate
  split
  · rfl
  · rfl
  · exact (State.creditReport_besidesLinks ..).trans (State.ackSeq_besidesLinks ..)

@[simp] theorem State.lane_headerUpdate (s : State) (p : Nat) (c : LinkCell) (q : Nat) : (s.headerUpdate p c).lane q = s.lane q :=
  (congrArg (State.lane · q) (s.headerUpdate_besidesLinks p c) :)
@[simp] theorem State.reg_headerUpdate (s : State) (p : Nat) (c : LinkCell) (r : Reg) (i e : Nat) :
    (s.headerUpdate p c).reg r i e = s.reg r i e :=
  (congrArg (State.reg · r i e) (s.headerUpdate_besidesLinks p c) :)
@[simp] theorem State.opActive_headerUpdate (s : State) (p : Nat) (c : LinkCell) (k q : Nat) :
    (s.headerUpdate p c).opActive k q = s.opActive k q :=
  (congrArg (State.opActive · k q) (s.headerUpdate_besidesLinks p c) :)
@[simp] theorem State.nodeValid_headerUpdate (s : State) (p : Nat) (c : LinkCell) : (s.headerUpdate p c).nodeValid = s.nodeValid :=
  (congrArg State.nodeValid (s.headerUpdate_besidesLinks p c) :)
@[simp] theorem State.headerUpdate_uptime (s : State) (p : Nat) (c : LinkCell) : (s.headerUpdate p c).uptime = s.uptime :=
  (congrArg State.uptime (s.headerUpdate_besidesLinks p c) :)
@[simp] theorem State.calmSpaced_headerUpdate (s : State) (p : Nat) (c : LinkCell) (q : Nat) :
    (s.headerUpdate p c).calmSpaced q = s.calmSpaced q :=
  (congrArg (State.calmSpaced · q) (s.headerUpdate_besidesLinks p c) :)

/-- What of a link no header moves: its state, its partner, and when data last moved. -/
structure Link.SameCourse (k k' : Link) : Prop where
  st      : k'.st = k.st
  partner : k'.partner = k.partner
  dataAt  : k'.dataAt = k.dataAt

theorem Link.SameCourse.trans {k k' k'' : Link} (h : k.SameCourse k') (h' : k'.SameCourse k'') : k.SameCourse k'' :=
  ⟨h'.st.trans h.st, h'.partner.trans h.partner, h'.dataAt.trans h.dataAt⟩

/-- An update of any port's link that moves no course moves that of no link that is not DOWN. -/
theorem State.sameCourse_updLink {s : State} {p : Nat} {f : Link → Link} (keeps : ∀ k : Link, k.SameCourse (f k))
    (notDown : (s.link p).st ≠ .down) : (s.link p).SameCourse ((s.updLink p f).link p) := by
  rw [State.link_updLink_same _ _ _ (Link.ne_default_of_st (by rw [(keeps _).st]; exact notDown))]
  exact keeps _

theorem State.sameCourse_ackSeq {s : State} {p : Nat} (a : BitVec 12) (notDown : (s.link p).st ≠ .down) :
    (s.link p).SameCourse ((s.ackSeq p a).link p) := by
  unfold State.ackSeq
  dsimp only
  split
  · split
    · exact ⟨rfl, rfl, rfl⟩
    · exact State.sameCourse_updLink (f := (·.ackTo (a + 1))) (fun _ => ⟨rfl, rfl, rfl⟩) notDown
  · exact ⟨rfl, rfl, rfl⟩

theorem State.sameCourse_creditReport {s : State} {p : Nat} (code : BitVec 6) (n : BitVec 7) (notDown : (s.link p).st ≠ .down) :
    (s.link p).SameCourse ((s.creditReport p code n).link p) := by
  unfold State.creditReport
  split
  · exact ⟨rfl, rfl, rfl⟩
  · split
    · exact ⟨rfl, rfl, rfl⟩
    · exact State.sameCourse_updLink (fun _ => ⟨rfl, rfl, rfl⟩) notDown

theorem State.sameCourse_headerUpdate {s : State} {p : Nat} (c : LinkCell) (notDown : (s.link p).st ≠ .down) :
    (s.link p).SameCourse ((s.headerUpdate p c).link p) := by
  unfold State.headerUpdate
  split
  · exact ⟨rfl, rfl, rfl⟩
  · exact State.sameCourse_updLink (fun _ => ⟨rfl, rfl, rfl⟩) notDown
  · have acked := State.sameCourse_ackSeq c.ackSeq notDown
    have reported := State.sameCourse_creditReport c.creditVc c.creditCount (acked.st ▸ notDown)
    have both := acked.trans reported
    exact both.trans (State.sameCourse_updLink (fun _ => ⟨rfl, rfl, rfl⟩) (both.st ▸ notDown))

theorem State.link_headerUpdate_other (s : State) {p q : Nat} (c : LinkCell) (h : q ≠ p) : (s.headerUpdate p c).link q = s.link q := by
  have acked : ∀ t : State, ∀ a, (t.ackSeq p a).link q = t.link q := by
    intro t a
    unfold State.ackSeq; dsimp only; (repeat' split) <;> simp [h]
  have reported : ∀ t : State, ∀ code n, (t.creditReport p code n).link q = t.link q := by
    intro t code n
    unfold State.creditReport; (repeat' split) <;> simp [h]
  unfold State.headerUpdate
  split <;> simp [h, acked, reported]

/-- An undamaged cell goes to its handler after what its header updates. -/
theorem State.received_undamaged {s : State} {p : Nat} {c : LinkCell} (notDown : (s.link p).st ≠ .down) (good : c.damaged = false)
    (k : State → State) : s.received p c k = k (s.headerUpdate p c) := by
  simp [State.received, notDown, good]

/-! The transmitter's stream (R72, R76) -/

@[simp] theorem State.lane_startStream (s : State) (p q : Nat) : (s.startStream p).lane q = s.lane q := rfl
@[simp] theorem State.link_startStream (s : State) (p q : Nat) : (s.startStream p).link q = s.link q := rfl
@[simp] theorem State.lane_lastCodeword (s : State) (p : Nat) (c : Wire.CwState) (q : Nat) : (s.lastCodeword p c).lane q = s.lane q := rfl
@[simp] theorem State.link_lastCodeword (s : State) (p : Nat) (c : Wire.CwState) (q : Nat) : (s.lastCodeword p c).link q = s.link q := rfl

/-! Calm windows (R91, R93) -/

/-- The spacing of calm windows hangs on the last one alone (R91). -/
theorem State.calmSpaced_setLane {s : State} {p : Nat} {l : Lane} (notOff : l.st ≠ .off) (last : l.calmLast = (s.lane p).calmLast) :
    (s.setLane p l).calmSpaced p = s.calmSpaced p := by
  unfold State.calmSpaced
  rw [State.lane_setLane notOff, last, State.setLane_uptime]

/-- The numbers drawn lie within the bounds of Table LAN-11. -/
theorem calmDraw_bounds (n : Nat) : (calmDraw n).op = 1 ∧ 64 ≤ (calmDraw n).startDelay ∧ (calmDraw n).startDelay < 8192
    ∧ 2 ≤ (calmDraw n).duration ∧ (calmDraw n).duration ≤ 1250 := by
  refine ⟨rfl, ?_, ?_, ?_, ?_⟩ <;> simp only [calmDraw] <;> omega

/-- A port that may ask for or grant pauses runs at native rate at LANE_UP. -/
theorem State.laneUp_of_calmable {s : State} {p : Nat} (able : s.calmable p = true) :
    (s.lane p).st = .laneUp ∧ (s.lane p).rateActive = false := by
  simp only [State.calmable, Bool.and_eq_true, beq_iff_eq, Bool.not_eq_true'] at able
  exact able.1

/-- A port that may ask for a window records its request and queues it. -/
theorem State.calmAsk_asks {s : State} {p : Nat} (able : s.calmable p = true) (own : s.nodeValid = true) (partner : s.partnerValid p = true) :
    (s.calmAsk p).lane p = { s.lane p with calmReq := some (calmDraw s.draws), calmRetry := false }
      ∧ ((s.calmAsk p).link p).ctlQ = (s.link p).ctlQ ++ [.calm (calmDraw s.draws)]
      ∧ ∀ q, q ≠ p → (s.calmAsk p).lane q = s.lane q ∧ (s.calmAsk p).link q = s.link q := by
  have up := (State.laneUp_of_calmable able).1
  simp only [State.calmAsk, able, own, partner, Bool.and_self, if_true]
  refine ⟨?_, ?_, fun q h => ?_⟩
  · simp [State.lane_updLane, up]
  · simp [State.link_queueCtl]
  · simp [h]

/-- A request for a window is granted with its own numbers, which fixes the window (R93). -/
def State.grantWindow (s : State) (p : Nat) (i : CalmInfo) : State :=
  ((s.setLane p { s.lane p with calmReq := none }).queueCtl p
    (.calm { op := 2, id := i.id, startDelay := i.startDelay, duration := i.duration })).updLane p (fun l => { l with
      dozeReq := none, calmRetry := false
      calmWin := some { startAt := s.uptime + cwTicks i.startDelay, duration := i.duration } })

/-- An undamaged request of a spaced, idle port at LANE_UP that has asked for nothing is granted. -/
theorem execCalmRequest_grants {s : State} {p : Nat} {c : LinkCell} (notDown : (s.link p).st ≠ .down) (good : c.damaged = false)
    (calm : c.type = .calm) (op : (calmOf c).op = 1) (native : (s.lane p).rateActive = false) (unasked : (s.lane p).calmReq = none)
    (spaced : s.calmSpaced p = true) (noPattern : (s.lane p).patternWaits = false) (up : (s.lane p).st = .laneUp)
    (idle : s.opActive 2 p = false) : execCalmRequest p c s = .next ((s.headerUpdate p c).grantWindow p (calmOf c)) := by
  simp [execCalmRequest, State.received_undamaged notDown good, calm, op, native, unasked, spaced, noPattern, up, idle,
    State.grantWindow, State.calmSpaced_setLane]

/-- The end of a calm window: what was found is set, the lanes return to LANE_UP, ready unless lock is still lost, and LANE_CAL ends. -/
theorem execCalmWindowEnd_returns {s : State} {p : Nat} (trims deskew : List Nat) (calm : (s.lane p).st = .calm) :
    ∃ t, execCalmWindowEnd p trims deskew s = .next t
      ∧ t.lane p = { s.lane p with st := .laneUp, calmWin := none, trims := trims, deskew := deskew,
                                   skew := (spread deskew).2 - (spread deskew).1,
                                   txReady := (s.lane p).txReady || !(s.lane p).lockLost }
      ∧ t.opActive 1 p = false ∧ ∀ q, q ≠ p → t.lane q = s.lane q := by
  simp only [execCalmWindowEnd, calm, if_true]
  refine ⟨_, rfl, ?lane, State.opActive_opEnd .., fun q h => ?others⟩
  case lane => cases lost : (s.lane p).lockLost <;> simp [State.lane_setLane]
  case others => cases lost : (s.lane p).lockLost <;> simp [h]

/-- Settles O15: a request that is asked is recorded and queued, a cell meets the request that it names, and the window's two ends move
the lanes of their port alone. -/
theorem calmWindowsRunTheirCourse : Obligations.CalmWindowsRunTheirCourse := by
  unfold Obligations.CalmWindowsRunTheirCourse
  refine ⟨?interval, ?retry, ?request, ?grant, ?refuse, ?start, ?windowEnd⟩
  case interval =>
    intro s p able own partner set unasked free
    have native := State.laneUp_of_calmable able
    obtain ⟨lane, link, others⟩ := State.calmAsk_asks able own partner
    refine ⟨s.calmAsk p, ?_, others, calmDraw s.draws, by rw [lane], ?_⟩
    · show execCalmIntervalExpiry p s = _
      simp [execCalmIntervalExpiry, set, native, unasked, free]
    · obtain ⟨op, lo, hi, lo', hi'⟩ := calmDraw_bounds s.draws
      exact ⟨op, lo, hi, lo', hi', link⟩
  case retry =>
    intro s p able own partner again free
    obtain ⟨lane, link, -⟩ := State.calmAsk_asks able own partner
    refine ⟨s.calmAsk p, ?_, by rw [lane], calmDraw s.draws, by rw [lane], rfl, link⟩
    show execCalmRetry p s = _
    simp [execCalmRetry, again, free]
  case request =>
    intro s p c i notDown good calm body op native unasked spaced noPattern up idle
    subst body
    refine ⟨_, execCalmRequest_grants notDown good calm op native unasked spaced noPattern up idle, ?_, ?_⟩
    · simp [State.grantWindow, State.lane_updLane, State.lane_setLane, up]
    · simp [State.grantWindow, State.link_queueCtl]
  case grant =>
    intro s p c i r notDown good calm body op asked named
    subst body
    refine ⟨(s.headerUpdate p c).updLane p (fun l => { l with
          calmReq := none, calmRetry := false
          calmWin := some { startAt := s.uptime + cwTicks (calmOf c).startDelay, duration := (calmOf c).duration } }), ?_, ?_⟩
    · show execCalmGrant p c s = _
      simp [execCalmGrant, State.received_undamaged notDown good, asked, calm, op, named]
    · rw [State.lane_updLane_same _ _ _ (fun e => by simpa using congrArg Lane.calmWin e)]
      exact ⟨rfl, rfl⟩
  case refuse =>
    intro s p c i r notDown good calm body op asked named
    subst body
    refine ⟨(s.headerUpdate p c).updLane p (fun l => { l with calmReq := none, calmRetry := true }), ?_, ?_⟩
    · show execCalmRefuse p c s = _
      simp [execCalmRefuse, State.received_undamaged notDown good, asked, calm, op, named]
    · rw [State.lane_updLane_same _ _ _ (fun e => by simpa using congrArg Lane.calmRetry e)]
      exact ⟨rfl, rfl⟩
  case start =>
    intro s p w up window
    refine ⟨((s.lastCodeword p .calmNext).setLane p
        { s.lane p with st := .calm, txReady := false, lockLost := true, calmLast := some s.uptime }).settlePause p, ?_, ?_, ?_, ?_, ?_, ?_⟩
    · show execCalmWindowStart p s = _
      simp [execCalmWindowStart, up, window]
    · simp [State.lane_setLane]
    · exact ⟨_, rfl⟩
    · exact State.pauseAt_settlePause (by simp [State.lane_setLane, Lane.timed])
    · rfl
    · intro q h
      simp [h]
  case windowEnd =>
    intro s p trims deskew calm
    exact execCalmWindowEnd_returns trims deskew calm

end Sys2Proof.Machine
end

section
/-! A link that goes down takes its lanes along, and doze (family 03, lanes). -/

namespace Sys2Proof.Machine

/-! Events of the host side (R313–R315, R445): they touch neither lanes nor links -/

/-- The state without what the host side moves when an event is queued: bursts and queues, free draws, counters, what is sent. -/
def State.besidesHost (s : State) : State := { s with out := [], draws := 0, counters := [], totals := [], host := {}, remote := {} }

theorem foldl_besidesHost {β : Type} {f : State → β → State} (h : ∀ s b, (f s b).besidesHost = s.besidesHost) (l : List β) (s : State) :
    (l.foldl f s).besidesHost = s.besidesHost := by
  induction l generalizing s with
  | nil => rfl
  | cons b l ih => rw [List.foldl_cons, ih, h]

@[simp] theorem State.updHost_besidesHost (s : State) (f : HostSide → HostSide) : (s.updHost f).besidesHost = s.besidesHost := rfl
@[simp] theorem State.emit_besidesHost (s : State) (o : Out) : (s.emit o).besidesHost = s.besidesHost := rfl
@[simp] theorem State.drawn_besidesHost (s : State) : s.drawn.besidesHost = s.besidesHost := rfl
@[simp] theorem State.countSlice_besidesHost (s : State) (sl e k : Nat) : (s.countSlice sl e k).besidesHost = s.besidesHost := rfl
@[simp] theorem State.putEq_besidesHost (s : State) (n : Nat) (e : Eq) : (s.putEq n e).besidesHost = s.besidesHost := rfl
@[simp] theorem State.setPortEv_besidesHost (s : State) (l : List (Nat × Nat × Nat × Nat)) : (s.setPortEv l).besidesHost = s.besidesHost := rfl

@[simp] theorem State.request_besidesHost (s : State) (b : Burst) : (s.request b).besidesHost = s.besidesHost := by
  obtain ⟨o, h, e⟩ := s.request_after b
  rw [e]; rfl

@[simp] theorem State.msix_besidesHost (s : State) (f v sl key : Nat) : (s.msix f v sl key).besidesHost = s.besidesHost := by
  obtain ⟨o, h, e⟩ := s.msix_after f v sl key
  rw [e]; rfl

@[simp] theorem State.hostWrite_besidesHost (s : State) (b : Burst) (data : List Byte) : (s.hostWrite b data).besidesHost = s.besidesHost := by
  have bursts : ∀ n (t : State) b data, (t.hostWriteN b n data).besidesHost = t.besidesHost := by
    intro n
    induction n with
    | zero => exact fun _ _ _ => rfl
    | succ n ih => intro t b data; unfold State.hostWriteN; split <;> simp [ih]
  exact bursts _ _ _ _

theorem State.hostReadN_besidesHost (s : State) (b : Burst) (n off len : Nat) : (s.hostReadN b n off len).1.besidesHost = s.besidesHost := by
  induction n generalizing s b off len with
  | zero => rfl
  | succ n ih => unfold State.hostReadN; split <;> simp [ih]

@[simp] theorem State.loadContext_besidesHost (s : State) (k : Nat) : (s.loadContext k).besidesHost = s.besidesHost := by
  unfold State.loadContext
  dsimp only
  split
  · rfl
  · exact State.hostReadN_besidesHost ..

@[simp] theorem State.useContext_besidesHost (s : State) (k : Nat) : (s.useContext k).besidesHost = s.besidesHost := by
  unfold State.useContext
  dsimp only
  split <;> simp

@[simp] theorem State.writeEvent_besidesHost (s : State) (n ty src detail key : Nat) :
    (s.writeEvent n ty src detail key).besidesHost = s.besidesHost := by
  unfold State.writeEvent
  split <;> simp [State.ringWrite]

@[simp] theorem State.fireEq_besidesHost (s : State) (n key : Nat) : (s.fireEq n key).besidesHost = s.besidesHost := by
  unfold State.fireEq
  (repeat' split) <;> simp

@[simp] theorem State.overrunEvent_besidesHost (s : State) (n : Nat) : (s.overrunEvent n).besidesHost = s.besidesHost := by
  unfold State.overrunEvent
  (repeat' split) <;> simp

@[simp] theorem State.event_besidesHost (s : State) (n ty src detail key : Nat) :
    (s.event n ty src detail key).besidesHost = s.besidesHost := by
  unfold State.event
  dsimp only
  (repeat' split) <;> simp

@[simp] theorem State.sliceEvent_besidesHost (s : State) (sl ty src detail : Nat) :
    (s.sliceEvent sl ty src detail).besidesHost = s.besidesHost := by
  unfold State.sliceEvent
  split <;> simp

theorem State.portState_besidesHost (s : State) (p : Nat) (was : LinkSt) : (s.portState p was).besidesHost = s.besidesHost := by
  unfold State.portState
  dsimp only
  split
  · rfl
  · refine foldl_besidesHost (fun t e => ?_) _ s
    split <;> simp

@[simp] theorem State.portState_lanes (s : State) (p : Nat) (was : LinkSt) : (s.portState p was).lanes = s.lanes :=
  (congrArg State.lanes (s.portState_besidesHost p was) :)
@[simp] theorem State.portState_links (s : State) (p : Nat) (was : LinkSt) : (s.portState p was).links = s.links :=
  (congrArg State.links (s.portState_besidesHost p was) :)
@[simp] theorem State.lane_portState (s : State) (p : Nat) (was : LinkSt) (q : Nat) : (s.portState p was).lane q = s.lane q :=
  (congrArg (State.lane · q) (s.portState_besidesHost p was) :)
@[simp] theorem State.link_portState (s : State) (p : Nat) (was : LinkSt) (q : Nat) : (s.portState p was).link q = s.link q :=
  (congrArg (State.link · q) (s.portState_besidesHost p was) :)

/-! A link that is down (R131, R133, R136) -/

/-- The lanes stand as `L`, and the link of port `p` is DOWN with a cause. -/
structure DownWith (L : Table Lane) (p cause : Nat) (s : State) : Prop where
  lanes    : s.lanes = L
  st       : (s.link p).st = .down
  lastDown : (s.link p).lastDown = cause
  caused   : cause ≠ 0

section
variable {L : Table Lane} {p cause : Nat} {s : State}

/-- What moves neither lanes nor links. -/
theorem DownWith.of_same {t : State} (h : DownWith L p cause s) (lanes : t.lanes = s.lanes) (links : t.links = s.links) :
    DownWith L p cause t := by
  have link : t.link p = s.link p := by rw [State.link, links, State.link]
  exact ⟨lanes.trans h.lanes, link ▸ h.st, link ▸ h.lastDown, h.caused⟩

theorem DownWith.lane {f : Lane → Lane} {t : State} (h : DownWith (s.updLane p f).lanes p cause t) (notOff : (f (s.lane p)).st ≠ .off) :
    t.lane p = f (s.lane p) := by
  rw [State.lane, h.lanes]
  exact State.lane_updLane notOff

theorem DownWith.foldl {β : Type} {f : State → β → State} (keeps : ∀ t b, DownWith L p cause t → DownWith L p cause (f t b)) (l : List β)
    (h : DownWith L p cause s) : DownWith L p cause (l.foldl f s) := by
  induction l generalizing s with
  | nil => exact h
  | cons b l ih => exact ih (keeps s b h)

/-- An update of any port's link that moves neither its state nor its cause. -/
theorem DownWith.updLink {q : Nat} {f : Link → Link} (h : DownWith L p cause s) (st : ∀ k, (f k).st = k.st := by intro; rfl)
    (lastDown : ∀ k, (f k).lastDown = k.lastDown := by intro; rfl) : DownWith L p cause (s.updLink q f) := by
  by_cases same : p = q
  · subst same
    have link : (s.updLink p f).link p = f (s.link p) :=
      State.link_updLink_same s p f (Link.ne_default_of_lastDown (by rw [lastDown, h.lastDown]; exact h.caused))
    exact ⟨h.lanes, by rw [link, st, h.st], by rw [link, lastDown, h.lastDown], h.caused⟩
  · have link : (s.updLink q f).link p = s.link p := State.link_updLink_other s f same
    exact ⟨h.lanes, link ▸ h.st, link ▸ h.lastDown, h.caused⟩

theorem DownWith.ite {c : Prop} [Decidable c] {a b : State} (ha : DownWith L p cause a) (hb : DownWith L p cause b) :
    DownWith L p cause (if c then a else b) := by
  split
  · exact ha
  · exact hb

theorem DownWith.updInput {x : Nat} {f : InBuf → InBuf} (h : DownWith L p cause s) : DownWith L p cause (s.updInput x f) := h.of_same rfl rfl
theorem DownWith.setOutput {o : Nat} {x : Output} (h : DownWith L p cause s) : DownWith L p cause (s.setOutput o x) := h.of_same rfl rfl
theorem DownWith.updOutput {o : Nat} {f : Output → Output} (h : DownWith L p cause s) : DownWith L p cause (s.updOutput o f) := h.setOutput
theorem DownWith.count {n k : Nat} (h : DownWith L p cause s) : DownWith L p cause (s.count n k) := h.of_same rfl rfl

theorem DownWith.settlePause (h : DownWith L p cause s) (q : Nat) : DownWith L p cause (s.settlePause q) := by
  unfold State.settlePause
  refine h.updLink ?_ ?_
  all_goals
    intro k
    cases k.pauseAt <;> cases (s.lane q).timed <;> rfl

theorem DownWith.settleDeficit (h : DownWith L p cause s) (o c : Nat) : DownWith L p cause (s.settleDeficit o c) := by
  unfold State.settleDeficit
  split
  · exact h.of_same rfl rfl
  · exact h

theorem DownWith.settleDeficits (h : DownWith L p cause s) (o : Nat) : DownWith L p cause (s.settleDeficits o) :=
  .foldl (fun _ c h => h.settleDeficit o c) _ h

theorem DownWith.creditsBack (h : DownWith L p cause s) (x vc n : Nat) : DownWith L p cause (s.creditsBack x vc n) := by
  induction n generalizing s with
  | zero => exact h
  | succ n ih =>
    refine ih ?_
    unfold State.creditBackOf
    (repeat' split)
    · exact h
    · exact h
    · exact h.updLink

theorem DownWith.redirect (h : DownWith L p cause s) (x st : Nat) (dst : RxOpen) : DownWith L p cause (s.redirect x st dst) := by
  unfold State.redirect
  split
  · exact h.updLink
  · exact h.of_same rfl rfl

theorem DownWith.abortPkt (h : DownWith L p cause s) (x stamp reason : Nat) : DownWith L p cause (s.abortPkt x stamp reason) := by
  unfold State.abortPkt
  split
  · exact h
  · refine DownWith.settleDeficit ?_ ..
    have credited := (h.of_same (t := s.updInput x (·.drop stamp)) rfl rfl).creditsBack
    dsimp only
    (repeat' split)
    · exact credited ..
    · exact credited ..
    · exact (credited ..).of_same rfl rfl
    · exact (credited ..).of_same rfl rfl

theorem DownWith.abortOpen (h : DownWith L p cause s) (q vc reason : Nat) : DownWith L p cause (s.abortOpen q vc reason) := by
  unfold State.abortOpen
  split
  · exact h
  · exact h.updLink
  · exact h.updLink.abortPkt ..

theorem DownWith.abortCounted (h : DownWith L p cause s) (q vc reason : Nat) : DownWith L p cause (s.abortCounted q vc reason) := by
  unfold State.abortCounted
  split
  · exact h
  · exact (h.abortOpen q vc reason).of_same rfl rfl

theorem DownWith.voidBegun (h : DownWith L p cause s) (q pid : Nat) : DownWith L p cause (s.voidBegun q pid) := by
  unfold State.voidBegun
  dsimp only
  exact .updOutput (.updLink h)

theorem DownWith.rerouteBegun (h : DownWith L p cause s) (q a pid : Nat) : DownWith L p cause (s.rerouteBegun q a pid) := by
  have void := h.voidBegun q pid
  unfold State.rerouteBegun
  dsimp only
  split
  · exact void
  · split
    · exact void.settleDeficits _
    · refine DownWith.settleDeficits ?_ _
      rcases s.begunRest (xIdx q) pid with _ | ⟨x, rest⟩
      · exact void.of_same rfl rfl
      · refine DownWith.redirect ?_ ..
        have credited := (void.of_same (t := (s.voidBegun q pid).updInput x (·.drop rest.stamp)) rfl rfl).creditsBack x rest.inVc rest.cells.length
        exact credited.of_same rfl rfl

theorem DownWith.rerouteControl (h : DownWith L p cause s) (q : Nat) (begun : Bool) : DownWith L p cause (s.rerouteControl q begun) := by
  have moved : ∀ {t : State} (dst : Nat × Bool → Nat) (ids : List (Nat × Bool)), DownWith L p cause t →
      DownWith L p cause (ids.foldl (fun t i => t.rerouteBegun q (dst i) i.1) t) :=
    fun dst ids ht => .foldl (fun _ i hi => hi.rerouteBegun q (dst i) i.1) ids ht
  unfold State.rerouteControl
  dsimp only
  split
  · exact moved (fun _ => xIdx q) _ h
  · refine moved (fun _ => xIdx q) _ ?_
    have counted : DownWith L p cause (s.inputIdx.foldl (fun s x => if (s.input x).holdsControl (xIdx q) then s.countIn x 13 else s) s) :=
      .foldl (fun t x ht => .ite ht.count ht) _ h
    exact .ite counted.count counted
  · exact .settleDeficits (.foldl (fun t x ht => ht.updInput) _ (moved _ _ h)) _

end

/-- What a link that goes down makes of the lanes. -/
def Lane.away (l : Lane) (next : LaneSt) : Lane :=
  { l.linkGone with st := next, txReady := if next = .test then l.txReady else false, lockLost := false, symLoss := false }

@[simp] theorem State.sendCtl_lanes (s : State) (p : Nat) (m : CtlMsg) : (s.sendCtl p m).lanes = s.lanes := rfl
@[simp] theorem State.lane_sendCtl (s : State) (p : Nat) (m : CtlMsg) (q : Nat) : (s.sendCtl p m).lane q = s.lane q := rfl

@[simp] theorem State.link_sendCtl_other (s : State) {p q : Nat} (m : CtlMsg) (h : q ≠ p) : (s.sendCtl p m).link q = s.link q :=
  State.link_setLink_other s _ h

/-- What is left to say before a link goes down: LANE_CAL fails, and LINK_DOWN goes out three times unless the cause forbids it. -/
def State.farewell (s : State) (p cause : Nat) : State :=
  if (s.lane p).txReady && decide (cause ≠ 8) && decide (cause ≠ 6) then
    (((s.opEnd 1 p 1).sendCtl p (.linkDown cause)).sendCtl p (.linkDown cause)).sendCtl p (.linkDown cause)
  else s.opEnd 1 p 1

/-- The link goes DOWN with its cause, and what waited for its transmitter is discarded. -/
def State.shutLink (s : State) (p cause : Nat) : State :=
  s.updLink p (fun k => { k with st := .down, lastDown := cause, bypassQ := [], ctlQ := []
                                 replayAt := none, initRx := none, nakAt := none
                                 stallCount := 0, winCells := 0, winReplays := 0 })

/-- What was open on the control VCs of a fabric port is aborted, and its control traffic leaves for the alternate. -/
def State.dropControl (s : State) (p : Nat) : State :=
  if p = 48 then s else (controlVcs.foldl (fun s v => s.abortCounted p v 1) s).rerouteControl p true

/-- The source of a cause is raised (Table FLT-6). -/
def State.raiseDown (s : State) (p cause : Nat) : State :=
  match downSource cause p with
  | some src => s.raise src
  | none => s

/-- The way down of a link, step by step. -/
theorem State.declareDown_eq {s : State} {p : Nat} (notDown : (s.link p).st ≠ .down) (cause : Nat) (next : LaneSt) :
    s.declareDown p cause next = (((((((s.farewell p cause).updLane p (·.away next)).settlePause p).shutLink p cause).portState p
      (s.link p).st).dropControl p).countPort p 26).raiseDown p cause := by
  have notDown' : ((s.opEnd 1 p 1).link p).st ≠ .down := by rwa [State.link_opEnd]
  unfold State.declareDown
  dsimp only
  rw [if_neg notDown']
  rfl

theorem State.farewell_lanes (s : State) (p cause : Nat) : (s.farewell p cause).lanes = s.lanes := by
  unfold State.farewell
  split <;> simp

theorem State.shutLink_down {L : Table Lane} {s : State} {p cause : Nat} (lanes : s.lanes = L) (caused : cause ≠ 0) :
    DownWith L p cause (s.shutLink p cause) := by
  have link : (s.shutLink p cause).link p = _ := State.link_updLink_same s p _ (Link.ne_default_of_lastDown caused)
  exact ⟨lanes, by rw [link], by rw [link], caused⟩

theorem DownWith.dropControl {L : Table Lane} {s : State} {p cause : Nat} (h : DownWith L p cause s) (q : Nat) :
    DownWith L p cause (s.dropControl q) :=
  .ite h (.rerouteControl (.foldl (fun _ v ht => ht.abortCounted q v 1) _ h) q true)

theorem DownWith.raiseDown {L : Table Lane} {s : State} {p cause : Nat} (h : DownWith L p cause s) (q c : Nat) :
    DownWith L p cause (s.raiseDown q c) := by
  unfold State.raiseDown
  split
  · exact h.of_same rfl rfl
  · exact h

/-- The link of a port that is not DOWN goes DOWN with its cause, and its lanes leave for `next`. -/
theorem State.declareDown_goes {s : State} {p cause : Nat} (next : LaneSt) (notDown : (s.link p).st ≠ .down) (caused : cause ≠ 0) :
    DownWith (s.updLane p (·.away next)).lanes p cause (s.declareDown p cause next) := by
  rw [State.declareDown_eq notDown]
  have lanes : ((s.farewell p cause).updLane p (·.away next)).lanes = (s.updLane p (·.away next)).lanes := by
    simp only [State.updLane, State.setLane, State.lane, State.farewell_lanes]
  have shut := State.shutLink_down (s := ((s.farewell p cause).updLane p (·.away next)).settlePause p) (p := p) lanes caused
  have told := shut.of_same (t := State.portState _ p (s.link p).st) (State.portState_lanes ..) (State.portState_links ..)
  exact ((told.dropControl p).count (n := p * 32 + 26) (k := 1)).raiseDown p cause

/-! Doze and wake (R96–R98) -/

/-- A dozing port: its lanes without transmitter and clock, its link in DOZE, no pressure report or time message waiting, and no other
port has moved (R97). -/
structure Dozes (p : Nat) (s t : State) : Prop where
  lane   : t.lane p = { s.lane p with st := .doze, txReady := false, rxClock := false, dozeReq := none }
  link   : (t.link p).st = .doze
  bypass : ∀ m ∈ (t.link p).bypassQ, ¬(1 ≤ fldN m 7 0 ∧ fldN m 7 0 ≤ 3)
  others : ∀ q, q ≠ p → t.lane q = s.lane q ∧ t.link q = s.link q

theorem State.enterDoze_dozes (s : State) (p : Nat) : Dozes p s (s.enterDoze p) := by
  have link := State.link_updLink_same (((s.lastCodeword p .dozeNext).updLane p (fun l => { l with
    st := .doze, txReady := false, rxClock := false, dozeReq := none })).settlePause p) p (fun k => { k with
    st := .doze
    bypassQ := k.bypassQ.filter (fun m => !(fldN m 7 0 == 1 || fldN m 7 0 == 2 || fldN m 7 0 == 3)) }) (Link.ne_default_of_st nofun)
  refine ⟨?lane, ?link, ?bypass, fun q h => ?others⟩
  all_goals unfold State.enterDoze
  case lane => simp [State.lane_updLane]
  case link => rw [State.link_portState, link]
  case bypass =>
    intro m waits
    rw [State.link_portState, link] at waits
    have kept := (List.mem_filter.1 waits).2
    simp only [Bool.not_eq_true', Bool.or_eq_false_iff, beq_eq_false_iff_ne] at kept
    omega
  case others => simp [h]

@[simp] theorem State.dozeIdle_headerUpdate (s : State) (p : Nat) (c : LinkCell) (q : Nat) :
    (s.headerUpdate p c).dozeIdle q = s.dozeIdle q := by
  simp [State.dozeIdle]

theorem State.dozeDue_headerUpdate {s : State} {p : Nat} (c : LinkCell) (notDown : (s.link p).st ≠ .down) :
    (s.headerUpdate p c).dozeDue p = s.dozeDue p := by
  unfold State.dozeDue
  rw [(State.sameCourse_headerUpdate c notDown).dataAt, State.dozeIdle_headerUpdate, State.headerUpdate_uptime]

theorem State.dozeAble_headerUpdate {s : State} {p : Nat} (c : LinkCell) (notDown : (s.link p).st ≠ .down) :
    (s.headerUpdate p c).dozeAble p = s.dozeAble p := by
  have course := State.sameCourse_headerUpdate c notDown
  have partner : (s.headerUpdate p c).partnerValid p = s.partnerValid p := by
    unfold State.partnerValid
    rw [course.partner]
  simp [State.dozeAble, State.calmable, course.st, partner]

/-- A port that may doze runs at native rate at LANE_UP and has asked for no calm window. -/
theorem State.laneUp_of_dozeAble {s : State} {p : Nat} (able : s.dozeAble p = true) :
    (s.lane p).st = .laneUp ∧ (s.lane p).rateActive = false ∧ (s.lane p).calmReq = none := by
  simp only [State.dozeAble, Bool.and_eq_true, Option.isNone_iff_eq_none] at able
  obtain ⟨⟨⟨⟨⟨⟨⟨⟨⟨calmable, -⟩, -⟩, -⟩, -⟩, unasked⟩, -⟩, -⟩, -⟩, -⟩ := able
  exact ⟨(State.laneUp_of_calmable calmable).1, (State.laneUp_of_calmable calmable).2, unasked⟩

/-- A wake that has found lock takes the lanes to LANE_UP and the link to UP. -/
theorem execWakeLocked_returns {s : State} {p : Nat} (wake : (s.lane p).st = .wake) (ready : (s.lane p).txReady = true)
    (noRetry : (s.lane p).calmRetry = false) :
    ∃ t, execWakeLocked p s = .next t
      ∧ t.lane p = { s.lane p with st := .laneUp, rxClock := true, wakeLeads := false, wakeTone := false }
      ∧ (t.link p).st.running = true := by
  have up : ∀ u : State, (((((u.updLink p (fun k => { k with st := .up })).settlePause p).portState p .doze).link p).st).running = true := by
    intro u
    have link : (u.updLink p (fun k => { k with st := .up })).link p = { u.link p with st := .up } :=
      State.link_updLink_same u p _ (Link.ne_default_of_st nofun)
    rw [State.link_portState, State.st_settlePause (by rw [link]; nofun), link]
    rfl
  simp only [execWakeLocked, wake, ready, noRetry, and_self, if_true, Bool.false_eq_true, if_false]
  refine ⟨_, rfl, ?_, up _⟩
  cases leads : (s.lane p).wakeLeads <;> simp [State.lane_setLane]

/-- Settles O16: a port dozes by `enterDoze` whether it grants or is granted, and a wake that fails is a link that goes down. -/
theorem dozeAndWake : Obligations.DozeAndWake := by
  unfold Obligations.DozeAndWake
  refine ⟨?idle, ?request, ?grant, ?refuse, ?cause, ?tone, ?locked, ?timeout⟩
  case idle =>
    intro s p set due able unasked
    obtain ⟨up, -, -⟩ := State.laneUp_of_dozeAble able
    refine ⟨_, congrArg Host.Outcome.next (if_pos ⟨set, due, able, Option.isNone_iff_eq_none.2 unasked⟩),
      (Config.calmChoice s.draws).extractLsb' 0 8, ?_, ?_⟩
    · simp [State.lane_updLane, up]
    · simp [State.link_queueCtl]
  case request =>
    intro s p c up good calm op fabric set due able
    have notDown : (s.link p).st ≠ .down := by simp [up]
    obtain ⟨-, native, unasked⟩ := State.laneUp_of_dozeAble able
    have dozes := ((s.headerUpdate p c).sendCtl p (.calm { op := 5, id := (calmOf c).id })).enterDoze_dozes p
    refine ⟨_, ?_, by rw [dozes.lane], by rw [dozes.lane], by rw [dozes.lane], dozes.link, dozes.bypass, fun q h => ?_⟩
    · show execDozeRequest p c s = _
      simp [execDozeRequest, State.received_undamaged notDown good, calm, op, native, unasked, fabric, set, due, able,
        State.dozeDue_headerUpdate c notDown, State.dozeAble_headerUpdate c notDown]
    · obtain ⟨lane, link⟩ := dozes.others q h
      rw [lane, link, State.lane_sendCtl, State.lane_headerUpdate, State.link_sendCtl_other _ _ h, State.link_headerUpdate_other _ _ h]
      exact ⟨rfl, rfl⟩
  case grant =>
    intro s p c id up good calm op asked named able
    have notDown : (s.link p).st ≠ .down := by simp [up]
    have dozes := (s.headerUpdate p c).enterDoze_dozes p
    refine ⟨_, ?_, by rw [dozes.lane], by rw [dozes.lane], by rw [dozes.lane], dozes.link, dozes.bypass⟩
    show execDozeGrant p c s = _
    simp [execDozeGrant, State.received_undamaged notDown good, calm, op, asked, named, able, State.dozeAble_headerUpdate c notDown,
      (State.sameCourse_headerUpdate c notDown).st, up]
  case refuse =>
    intro s p c id notDown good calm op asked named up
    refine ⟨(s.headerUpdate p c).updLane p (fun l => { l with dozeReq := none }), ?_, ?_⟩
    · show execDozeRefuse p c s = _
      simp [execDozeRefuse, State.received_undamaged notDown good, calm, op, asked, named]
    · simp [State.lane_updLane, up]
  case cause =>
    intro s p doze waits
    refine ⟨(s.updLane p (fun l => { l with st := .wake, wakeLeads := true, wakeTone := true })).emit (.wakeTone p), ?_, ?_, rfl, rfl⟩
    · show execWakeCausePort p s = _
      simp [execWakeCausePort, State.wakeUp, waits, doze]
    · simp [State.lane_updLane]
  case tone =>
    intro s p doze
    show execWakeTone p s = _
    simp [execWakeTone, doze]
  case locked =>
    intro s p wake ready noRetry
    exact execWakeLocked_returns wake ready noRetry
  case timeout =>
    intro s p wake doze
    have down := State.declareDown_goes (s := s.updLane p (fun l => { l with lastFail := .txLockLost })) (p := p) (cause := 9) .retryWait
      (by simp [doze]) (by decide)
    refine ⟨_, congrArg Host.Outcome.next (if_pos wake), ?_, ?_, down.st, down.lastDown⟩
    all_goals rw [down.lane (by simp [Lane.away]), State.lane_updLane (by simp [wake])]
    all_goals rfl

end Sys2Proof.Machine
end

section
/-! Tables that hold two entries under one key (family 03, lanes).  Each of O12, O14 and O17 says of such a state, too, what an entry
reads after a write; a write of the default value only uncovers the entry behind.  Beside each refutation stand the clauses concerned,
proved where the keys of the table rise, as every write of a table keeps them (`Table.rising_set`). -/

namespace Sys2Proof.Machine

/-! Tables whose keys rise read back whatever is written -/

theorem State.lane_updLane_of_rising {s : State} (rising : Table.risingFrom none s.lanes = true) (p : Nat) (f : Lane → Lane) :
    (s.updLane p f).lane p = f (s.lane p) :=
  Table.get_set_rising ({} : Lane) p (f (s.lane p)) rising

theorem State.link_updLink_of_rising {s : State} (rising : Table.risingFrom none s.links = true) (p : Nat) (f : Link → Link) :
    (s.updLink p f).link p = f (s.link p) :=
  Table.get_set_rising ({} : Link) p (f (s.link p)) rising

/-- The timers pause exactly where the lanes are not timed. -/
theorem State.pauseAt_settlePause_of_rising {s : State} (rising : Table.risingFrom none s.links = true) (p : Nat) :
    ((s.settlePause p).link p).pauseAt.isSome = !(s.lane p).timed := by
  unfold State.settlePause
  rw [State.link_updLink_of_rising rising]
  cases paused : (s.link p).pauseAt <;> cases (s.lane p).timed <;> simp [paused]

/-- The timers do not move the state of a link. -/
theorem State.st_settlePause_of_rising {s : State} (rising : Table.risingFrom none s.links = true) (p : Nat) :
    ((s.settlePause p).link p).st = (s.link p).st := by
  unfold State.settlePause
  rw [State.link_updLink_of_rising rising]
  cases (s.link p).pauseAt <;> cases (s.lane p).timed <;> simp

/-- A stream starts with the alignment block that carries the port's AB_COUNT (R76). -/
theorem State.out_startStream_of_rising {s : State} (rising : Table.risingFrom none s.streams = true) (p : Nat) :
    (s.startStream p).out = .alignBlock p (s.stream p).ab :: s.out := by
  have stream : ∀ t : TxStream, Table.get {} (Table.set {} s.streams p t) p = t := fun t => Table.get_set_rising {} p t rising
  simp only [State.startStream, State.alignBlock, State.emit, State.stream, stream]

/-- A command answers one next state. -/
theorem exec_next_unique {c : Instr} {s t u : State} (answers : exec c s = .next t) (answers' : exec c s = .next u) : t = u := by
  injection answers.symm.trans answers'

/-! SYNTH_LOCKED and FORWARDED_CLOCK_PRESENT (O12) -/

/-- Port 0 waits for its synthesiser, and `streams` holds two entries for it. -/
def twoStreams : State :=
  { State.reset with lanes := [(0, { st := .synthLock })], streams := [(0, {}), (0, { ab := 7 })] }

theorem twoStreams_synthLocked : ∃ t, exec (.synthLocked 0) twoStreams = .next t ∧ t.out = [.alignBlock 0 7] :=
  ⟨_, rfl, by decide⟩

/-- Refutes O12: the stream of port 0 starts as the default one, so its entry is erased, and the alignment block carries AB_COUNT 7 of
the entry behind it, where the clause for SYNTH_LOCKED says 0.  The clause holds where the keys of `streams` rise
(`exec_synthLocked_of_rising`); so does that for FORWARDED_CLOCK_PRESENT where those of `links` do. -/
theorem not_laneBringUpAdvances : ¬ Obligations.LaneBringUpAdvances := by
  unfold Obligations.LaneBringUpAdvances
  rintro ⟨starts, -⟩
  obtain ⟨t, answers, -, out, -⟩ := starts twoStreams 0 rfl
  obtain ⟨u, answers', block⟩ := twoStreams_synthLocked
  rw [exec_next_unique answers answers', block] at out
  exact absurd out (by decide)

/-- SYNTH_LOCKED in the stage that waits for it (R100), where the keys of `streams` rise. -/
theorem exec_synthLocked_of_rising {s : State} {p : Nat} (rising : Table.risingFrom none s.streams = true)
    (stage : (s.lane p).st = .synthLock) :
    ∃ t, exec (.synthLocked p) s = .next t ∧ t.lane p = { s.lane p with st := .clockAcquire, txReady := true, lockLost := false }
      ∧ t.out = .alignBlock p (s.stream p).ab :: s.out ∧ t.dict = s.dict ∧ ∀ q, q ≠ p → t.lane q = s.lane q := by
  refine ⟨((s.setLane p { s.lane p with st := .clockAcquire, txReady := true, lockLost := false }).startStream p).settlePause p,
    ?_, ?_, ?_, rfl, fun q h => ?_⟩
  · show Host.Outcome.next (s.synthLocked p) = _
    simp [State.synthLocked, stage]
  · simp [State.lane_setLane]
  · exact State.out_startStream_of_rising (s := s.setLane p _) rising p
  · simp [h]

/-- FORWARDED_CLOCK_PRESENT in the stage that waits for it (R100), where the keys of `links` rise. -/
theorem exec_forwardedClockPresent_of_rising {s : State} {p : Nat} (rising : Table.risingFrom none s.links = true)
    (stage : (s.lane p).st = .clockAcquire) :
    ∃ t, exec (.forwardedClockPresent p .expected) s = .next t ∧ t.lane p = { s.lane p with st := .phaseTrim, rxClock := true }
      ∧ (t.link p).pauseAt.isSome = !(s.lane p).txReady ∧ t.dict = s.dict ∧ t.out = s.out ∧ ∀ q, q ≠ p → t.lane q = s.lane q := by
  refine ⟨(s.setLane p { s.lane p with st := .phaseTrim, rxClock := true }).settlePause p, ?_, ?_, ?_, rfl, rfl, fun q h => ?_⟩
  · show execForwardedClockPresent p .expected s = _
    simp [execForwardedClockPresent, stage]
  · simp [State.lane_setLane]
  · rw [State.pauseAt_settlePause_of_rising (by simpa using rising)]
    simp [State.lane_setLane, Lane.timed]
  · simp [h]

/-! FORWARDED_CLOCK_LOSS and FORWARDED_CLOCK_RETURN (O14) -/

/-- `lanes` holds two entries for port 0: one with nothing but a clock, and behind it one with a ready transmitter. -/
def twoLanes : State := { State.reset with lanes := [(0, { rxClock := true }), (0, { txReady := true })] }

theorem twoLanes_forwardedClockLoss : ∃ t, exec (.forwardedClockLoss 0) twoLanes = .next t ∧ (t.lane 0).txReady = true :=
  ⟨_, rfl, by decide +kernel⟩

/-- Refutes O14: without their clock the lanes of port 0 are the default ones, so their entry is erased, and the port reads as ready by
the entry behind it, where the clause for FORWARDED_CLOCK_LOSS says that only the clock goes.  The clause holds where the keys of `lanes`
rise (`exec_forwardedClockLoss_of_rising`); so does that for FORWARDED_CLOCK_RETURN where those of `links` do. -/
theorem not_lostLockAndClock : ¬ Obligations.LostLockAndClock := by
  unfold Obligations.LostLockAndClock
  rintro ⟨-, loses, -⟩
  obtain ⟨t, answers, lane, -⟩ := loses twoLanes 0
  obtain ⟨u, answers', ready⟩ := twoLanes_forwardedClockLoss
  rw [← exec_next_unique answers answers', lane] at ready
  exact absurd ready (by decide)

/-- FORWARDED_CLOCK_LOSS (R88, R142), where the keys of `lanes` rise. -/
theorem exec_forwardedClockLoss_of_rising {s : State} (rising : Table.risingFrom none s.lanes = true) (p : Nat) :
    ∃ t, exec (.forwardedClockLoss p) s = .next t ∧ t.lane p = { s.lane p with rxClock := false }
      ∧ (t.link p).pauseAt.isSome = true ∧ t.dict = s.dict ∧ t.out = s.out
      ∧ ∀ q, q ≠ p → t.lane q = s.lane q ∧ t.link q = s.link q := by
  refine ⟨_, rfl, ?_, ?_, rfl, rfl, fun q h => ?_⟩
  · rw [State.lane_settlePause, State.lane_updLane_of_rising rising]
  · exact State.pauseAt_settlePause (by simp [State.lane_updLane_of_rising rising, Lane.timed])
  · simp [h]

/-- FORWARDED_CLOCK_RETURN at LANE_UP (R88, R130), where the keys of `links` rise. -/
theorem exec_forwardedClockReturn_of_rising {s : State} {p : Nat} (rising : Table.risingFrom none s.links = true)
    (up : (s.lane p).st = .laneUp) :
    ∃ t, exec (.forwardedClockReturn p) s = .next t ∧ t.lane p = { s.lane p with rxClock := true }
      ∧ (t.link p).pauseAt.isSome = !(s.lane p).txReady ∧ t.dict = s.dict ∧ t.out = s.out
      ∧ ∀ q, q ≠ p → t.lane q = s.lane q ∧ t.link q = s.link q := by
  refine ⟨(s.setLane p { s.lane p with rxClock := true }).settlePause p, ?_, ?_, ?_, rfl, rfl, fun q h => ?_⟩
  · show execForwardedClockReturn p s = _
    simp [execForwardedClockReturn, up, LaneSt.listens]
  · simp [State.lane_setLane, up]
  · rw [State.pauseAt_settlePause_of_rising (by simpa using rising)]
    simp [State.lane_setLane, Lane.timed, up]
  · simp [h]

/-! TEST_PATTERN (O17) -/

/-- An operator's session is open, port 3 is a SPARE, and `links` holds two entries for it: a DOWN one with nothing but a pause, and
behind it one that is UP. -/
def twoLinks : State :=
  { State.reset with
    boot := .up, rolesOn := true, holds := [], mgmt := { sessions := [(0, { st := .opened, role := .operator })] }
    dict := [(R.portRole.key 0 3, 0x80000000)], lanes := [(3, { txReady := true, rxClock := true })]
    links := [(3, { pauseAt := some 0 }), (3, { st := .up })] }

theorem twoLinks_testPattern :
    ∃ t, exec (.testPattern { seq := 1 } 3 4) twoLinks = .next t ∧ (t.link 3).st = .up :=
  ⟨_, rfl, by decide +kernel⟩

/-- Refutes O17: as the timers run again, the link of port 3 is the default one, so its entry is erased, and the link reads as UP by the
entry behind it, where the clause for TEST_PATTERN says DOWN.  The clause holds where the keys of `links` rise
(`exec_testPattern_of_rising`). -/
theorem not_laneCommandsOfTheDictionary : ¬ Obligations.LaneCommandsOfTheDictionary := by
  unfold Obligations.LaneCommandsOfTheDictionary
  rintro ⟨-, -, tests, -⟩
  obtain ⟨t, answers, -, down, -⟩ := tests twoLinks { seq := 1 } .operator 3 4 (by decide +kernel) (by decide +kernel)
    (by decide +kernel) (by decide +kernel)
  obtain ⟨u, answers', up⟩ := twoLinks_testPattern
  rw [exec_next_unique answers answers', up] at down
  cases down

theorem State.rising_settlePause {s : State} (rising : Table.risingFrom none s.links = true) (p : Nat) :
    Table.risingFrom none (s.settlePause p).links = true := by
  unfold State.settlePause State.updLink State.setLink
  exact Table.rising_set _ p _ rising

/-- A link that goes DOWN stays so when the timers settle: its cause stands, or the keys of `links` rise. -/
theorem State.st_settlePause_down {s : State} {p : Nat} (reads : (s.link p).lastDown ≠ 0 ∨ Table.risingFrom none s.links = true)
    (down : (s.link p).st = .down) : ((s.settlePause p).link p).st = .down := by
  rcases reads with caused | rising
  · exact (DownWith.settlePause ⟨rfl, down, rfl, caused⟩ p).st
  · rw [State.st_settlePause_of_rising rising, down]

/-- A link that is declared down is DOWN, whatever it was, where the keys of `links` rise. -/
theorem State.declareDown_down_of_rising {s : State} (rising : Table.risingFrom none s.links = true) (p : Nat) {cause : Nat}
    (next : LaneSt) (caused : cause ≠ 0) :
    ((s.declareDown p cause next).link p).st = .down
      ∧ (((s.declareDown p cause next).link p).lastDown ≠ 0 ∨ Table.risingFrom none (s.declareDown p cause next).links = true) := by
  by_cases down : (s.link p).st = .down
  · unfold State.declareDown
    simp only [State.link_opEnd, down, if_true]
    refine ⟨State.st_settlePause_down (.inr (by simpa using rising)) (by simpa using down), .inr ?_⟩
    exact State.rising_settlePause (by simpa using rising) p
  · have went := State.declareDown_goes next down caused
    exact ⟨went.st, .inl (by rw [went.lastDown]; exact caused)⟩

/-- A test pattern that starts takes the port to TEST and its link DOWN; it runs at once where the synthesiser is locked (R90). -/
theorem State.startTest_tests {s : State} {p : Nat} (v : Image) (rising : Table.risingFrom none s.links = true) (on : s.role p ≠ 7) :
    ((s.startTest p v).1.lane p).st = .test ∧ ((s.startTest p v).1.link p).st = .down
      ∧ ((s.startTest p v).1.lane p).patternRuns = (s.lane p).locked
      ∧ ((s.startTest p v).1.lane p).patternWaits = !(s.lane p).locked := by
  obtain ⟨down, reads⟩ := State.declareDown_down_of_rising rising p (cause := 7) .test (by decide)
  unfold State.startTest State.patternStarts
  simp only [if_neg on]
  cases locked : (s.lane p).locked
  case false =>
    simp only [Bool.false_eq_true, if_false]
    exact ⟨by simp [State.lane_updLane], State.st_settlePause_down (by simpa using reads) (by simpa using down),
      by simp [State.lane_updLane], by simp [State.lane_updLane]⟩
  case true =>
    simp only [if_true]
    exact ⟨by simp [State.lane_updLane], by simpa using State.st_settlePause_down (by simpa using reads) (by simpa using down),
      by simp [State.lane_updLane], by simp [State.lane_updLane]⟩

/-- The role of a port does not hang on its test pattern. -/
theorem State.role_storeVal_testPattern (s : State) (p : Nat) (v : Image) :
    (s.storeVal R.testPattern p 0 v).role p = s.role p := by
  have apart : R.portRole.key 0 p ≠ R.testPattern.key p 0 := by
    simp [Reg.key, Reg.index, R.portRole, R.testPattern]
    split <;> omega
  have stored : (s.storeVal R.testPattern p 0 v).reg R.portRole 0 p = s.reg R.portRole 0 p := by
    unfold State.storeVal
    split
    · rfl
    · exact State.reg_setReg_other s _ apart
  simp [State.role, stored]

/-- What a stored TEST_PATTERN does (R90): a pattern starts, or NONE ends the one before. -/
def State.patternStored (p : Nat) (v : Image) (s : State) : State × Fdp :=
  if fldN v 2 0 ≠ 0 then s.startTest p v
  else
    let was := (s.lane p).st
    let s := s.updLane p (fun l => { l with patternWaits := false, patternRuns := false })
    if was = .test then (s.startBringUp p, .ok) else (s, .ok)

theorem exec_testPattern (q : Req) (p : Nat) (v : Image) (s : State) :
    exec (.testPattern q p v) s = .next (s.dictWrite q R.testPattern p 0 v
      (fun _ => if 4 < fldN v 2 0 then some .outOfRange else none) (State.patternStored p v)) := rfl

/-- TEST_PATTERN that the server accepts (R90), where the keys of `links` rise. -/
theorem exec_testPattern_of_rising {s : State} {q : Req} {role : Role} {p : Nat} {v : Image}
    (rising : Table.risingFrom none s.links = true) (on : s.role p ≠ 7) (accepted : s.mayWrite q role R.testPattern p 0 v = true)
    (pattern : fldN v 2 0 ≠ 0) (known : fldN v 2 0 ≤ 4) :
    ∃ t, exec (.testPattern q p v) s = .next t ∧ (t.lane p).st = .test ∧ (t.link p).st = .down
      ∧ (t.lane p).patternRuns = (s.lane p).locked ∧ (t.lane p).patternWaits = !(s.lane p).locked := by
  obtain ⟨b, a, au, an, sf, m, tw, o, c, tt, bu, ho, stored⟩ := State.dictWrite_accepted accepted
    (fun _ => if 4 < fldN v 2 0 then some .outOfRange else none) (State.patternStored p v)
    (fun _ _ _ _ _ => if_neg (Nat.not_lt.2 known))
  rw [State.patternStored, if_pos pattern] at stored
  refine ⟨_, (exec_testPattern q p v s).trans (congrArg Host.Outcome.next stored), ?_⟩
  simpa using State.startTest_tests (s := (s.taken b a au an sf).storeVal R.testPattern p 0 v) v (by simpa using rising)
    (by rw [State.role_storeVal_testPattern]; exact on)

end Sys2Proof.Machine
end

section
/-! What packets that arrive, leave or are aborted move of the links (family 04, link layer): the replay buffer, the credits that go
back and what is open, and nothing else. -/

namespace Sys2Proof.Machine

/-- A link without what packets move of it. -/
def Link.still (k : Link) : Link :=
  { k with replay := [], again := [], total := [], unreported := [], waiting := [], rxOpen := [], dataAt := 0 }

/-- From `s` to `t` no lane moves, and of no link more than packets move, as far as the table of links reads back what is written: the
link is not the default one, or the keys rise. -/
structure LinksStay (s t : State) : Prop where
  lanes  : t.lanes = s.lanes
  rising : Table.risingFrom none s.links = true → Table.risingFrom none t.links = true
  link   : ∀ p, (s.link p).still ≠ {} ∨ Table.risingFrom none s.links = true → (t.link p).still = (s.link p).still

/-- The same, and no fault source is raised. -/
structure Traffic (s t : State) : Prop extends LinksStay s t where
  wires : t.wires = s.wires

section
variable {s t u : State}

theorem LinksStay.trans (h : LinksStay s t) (h' : LinksStay t u) : LinksStay s u := by
  refine ⟨h'.lanes.trans h.lanes, h'.rising ∘ h.rising, fun p reads => ?_⟩
  have kept := h.link p reads
  exact (h'.link p (reads.imp (fun listed => kept ▸ listed) h.rising)).trans kept

theorem LinksStay.of_same (lanes : t.lanes = s.lanes) (links : t.links = s.links) : LinksStay s t := by
  refine ⟨lanes, fun rising => links ▸ rising, fun p _ => ?_⟩
  rw [State.link, links, State.link]

theorem LinksStay.updLink (s : State) (q : Nat) {f : Link → Link} (keeps : ∀ k, (f k).still = k.still) :
    LinksStay s (s.updLink q f) := by
  refine ⟨rfl, fun rising => Table.rising_set _ q _ rising, fun p reads => ?_⟩
  by_cases same : p = q
  · subst same
    have read : (s.updLink p f).link p = f (s.link p) := by
      rcases reads with listed | rising
      · exact State.link_updLink_same s p f fun e => listed ((keeps _).symm.trans (congrArg Link.still e))
      · exact State.link_updLink_of_rising rising p f
    rw [read, keeps]
  · rw [State.link_updLink_other s f same]

theorem Traffic.refl (s : State) : Traffic s s := ⟨.of_same rfl rfl, rfl⟩

theorem Traffic.trans (h : Traffic s t) (h' : Traffic t u) : Traffic s u :=
  ⟨h.toLinksStay.trans h'.toLinksStay, h'.wires.trans h.wires⟩

/-- A step that moves neither lanes nor links nor wires. -/
theorem Traffic.of_same (h : Traffic s t) (lanes : u.lanes = t.lanes) (links : u.links = t.links) (wires : u.wires = t.wires) :
    Traffic s u :=
  h.trans ⟨.of_same lanes links, wires⟩

theorem Traffic.updLink {q : Nat} {f : Link → Link} (h : Traffic s t) (keeps : ∀ k, (f k).still = k.still := by intro; rfl) :
    Traffic s (t.updLink q f) :=
  h.trans ⟨.updLink t q keeps, rfl⟩

theorem Traffic.foldl {β : Type} {f : State → β → State} (keeps : ∀ u b, Traffic s u → Traffic s (f u b)) (l : List β)
    (h : Traffic s t) : Traffic s (l.foldl f t) := by
  induction l generalizing t with
  | nil => exact h
  | cons b l ih => exact ih (keeps t b h)

theorem Traffic.ite {c : Prop} [Decidable c] (ht : Traffic s t) (hu : Traffic s u) : Traffic s (if c then t else u) := by
  split
  · exact ht
  · exact hu

theorem Traffic.count {n k : Nat} (h : Traffic s t) : Traffic s (t.count n k) := h.of_same rfl rfl rfl
theorem Traffic.updInput {x : Nat} {f : InBuf → InBuf} (h : Traffic s t) : Traffic s (t.updInput x f) := h.of_same rfl rfl rfl
theorem Traffic.setOutput {o : Nat} {x : Output} (h : Traffic s t) : Traffic s (t.setOutput o x) := h.of_same rfl rfl rfl
theorem Traffic.updOutput {o : Nat} {f : Output → Output} (h : Traffic s t) : Traffic s (t.updOutput o f) := h.setOutput

/-! Credits and deficits (R115, R206) -/

theorem Traffic.creditBackOf (h : Traffic s t) (x vc more : Nat) : Traffic s (t.creditBackOf x vc more) := by
  unfold State.creditBackOf
  split
  · exact h
  · exact .ite h h.updLink

theorem Traffic.creditsBack (h : Traffic s t) (x vc n : Nat) : Traffic s (t.creditsBack x vc n) := by
  induction n generalizing t with
  | zero => exact h
  | succ n ih => exact ih (h.creditBackOf x vc n)

theorem Traffic.settleDeficit (h : Traffic s t) (o c : Nat) : Traffic s (t.settleDeficit o c) := .ite h.updOutput h

theorem Traffic.settleDeficits (h : Traffic s t) (o : Nat) : Traffic s (t.settleDeficits o) :=
  .foldl (fun _ c hu => hu.settleDeficit o c) _ h

/-! Aborted and redirected packets (R133, R136) -/

theorem Traffic.redirect (h : Traffic s t) (x st : Nat) (dst : RxOpen) : Traffic s (t.redirect x st dst) := by
  unfold State.redirect
  split
  · exact h.updLink
  · exact h.updInput

theorem Traffic.abortPkt (h : Traffic s t) (x stamp reason : Nat) : Traffic s (t.abortPkt x stamp reason) := by
  unfold State.abortPkt
  split
  · exact h
  · refine Traffic.settleDeficit ?_ ..
    have credited := (h.updInput (x := x) (f := (·.drop stamp))).creditsBack x
    dsimp only
    (repeat' split)
    · exact credited ..
    · exact credited ..
    · exact (credited ..).setOutput
    · exact (credited ..).setOutput

theorem Traffic.abortOpen (h : Traffic s t) (p vc reason : Nat) : Traffic s (t.abortOpen p vc reason) := by
  unfold State.abortOpen
  split
  · exact h
  · exact h.updLink
  · exact h.updLink.abortPkt ..

theorem Traffic.abortCounted (h : Traffic s t) (p vc reason : Nat) : Traffic s (t.abortCounted p vc reason) :=
  .ite h (h.abortOpen p vc reason).count

/-- What is open on each VC of a list is aborted and counted. -/
theorem Traffic.abortAll (h : Traffic s t) (p reason : Nat) (vcs : List Nat) :
    Traffic s (vcs.foldl (fun u v => u.abortCounted p v reason) t) :=
  .foldl (fun _ v hu => hu.abortCounted p v reason) vcs h

/-! Packets begun on a port (R127, R133, R138) -/

theorem Traffic.voidBegun (h : Traffic s t) (p pid : Nat) : Traffic s (t.voidBegun p pid) := by
  unfold State.voidBegun
  dsimp only
  exact .updOutput (.updLink h)

theorem Traffic.rerouteBegun (h : Traffic s t) (p a pid : Nat) : Traffic s (t.rerouteBegun p a pid) := by
  have void := h.voidBegun p pid
  unfold State.rerouteBegun
  dsimp only
  split
  · exact void
  · split
    · exact void.settleDeficits _
    · refine Traffic.settleDeficits ?_ _
      rcases t.begunRest (xIdx p) pid with _ | ⟨x, rest⟩
      · exact void.of_same rfl rfl rfl
      · refine Traffic.redirect ?_ ..
        exact ((void.updInput (x := x) (f := (·.drop rest.stamp))).creditsBack x rest.inVc rest.cells.length).of_same rfl rfl rfl

theorem Traffic.rerouteControl (h : Traffic s t) (p : Nat) (begun : Bool) : Traffic s (t.rerouteControl p begun) := by
  have moved : ∀ {u : State} (dst : Nat × Bool → Nat) (ids : List (Nat × Bool)), Traffic s u →
      Traffic s (ids.foldl (fun u i => u.rerouteBegun p (dst i) i.1) u) :=
    fun dst ids hu => .foldl (fun _ i hi => hi.rerouteBegun p (dst i) i.1) ids hu
  unfold State.rerouteControl
  dsimp only
  split
  · exact moved (fun _ => xIdx p) _ h
  · refine moved (fun _ => xIdx p) _ ?_
    have counted : Traffic s (t.inputIdx.foldl (fun u x => if (u.input x).holdsControl (xIdx p) then u.countIn x 13 else u) t) :=
      .foldl (fun _ _ hu => .ite hu.count hu) _ h
    exact .ite counted.count counted
  · exact .settleDeficits (.foldl (fun _ _ hu => hu.updInput) _ (moved _ _ h)) _

theorem Traffic.dropControl (h : Traffic s t) (p : Nat) : Traffic s (t.dropControl p) :=
  .ite h ((h.abortAll p 1 controlVcs).rerouteControl p true)

theorem Traffic.discardBegun (h : Traffic s t) (o pid : Nat) : Traffic s (t.discardBegun o pid) := by
  unfold State.discardBegun
  refine Traffic.settleDeficits ?_ o
  rcases portOf o with _ | p <;> rcases t.begunRest o pid with _ | ⟨x, rest⟩
  · exact h.updOutput
  · exact ((h.updOutput.updInput (x := x)).creditsBack ..).redirect ..
  · exact h.updLink.updOutput
  · exact ((h.updLink.updOutput.updInput (x := x)).creditsBack ..).redirect ..

end

end Sys2Proof.Machine
end

section
/-! What a running link does with the cells that it receives (family 04, link layer). -/

namespace Sys2Proof.Machine

theorem LinkSt.notDown_of_running {st : LinkSt} (running : st.running = true) : st ≠ .down := by
  rintro rfl
  cases running

theorem Link.still_ne_default {k : Link} (notDown : k.st ≠ .down) : k.still ≠ {} := Link.ne_default_of_st notDown

/-- Of a link that is not DOWN no more moves than packets move. -/
theorem LinksStay.link_of_notDown {s t : State} {p : Nat} (h : LinksStay s t) (notDown : (s.link p).st ≠ .down) :
    (t.link p).still = (s.link p).still :=
  h.link p (.inl (Link.still_ne_default notDown))

/-! What the header of a cell updates (R106) -/

/-- A link without what the header of a cell updates of it. -/
def Link.besideHeader (k : Link) : Link :=
  { k with replay := [], stallCount := 0, replayAt := none, credits := [], lastCount := [], pressureRx := 0 }

theorem State.besideHeader_updLink {s : State} {p : Nat} {f : Link → Link} (keeps : ∀ k, (f k).besideHeader = k.besideHeader)
    (notDown : (s.link p).st ≠ .down) : ((s.updLink p f).link p).besideHeader = (s.link p).besideHeader := by
  have st : (f (s.link p)).st = (s.link p).st := (congrArg Link.st (keeps (s.link p)) :)
  rw [State.link_updLink_same s p f (Link.ne_default_of_st (st ▸ notDown)), keeps]

theorem State.besideHeader_ackSeq {s : State} {p : Nat} (a : BitVec 12) (notDown : (s.link p).st ≠ .down) :
    ((s.ackSeq p a).link p).besideHeader = (s.link p).besideHeader := by
  unfold State.ackSeq
  dsimp only
  split
  · split
    · rfl
    · exact State.besideHeader_updLink (f := (·.ackTo (a + 1))) (fun _ => rfl) notDown
  · rfl

theorem State.besideHeader_creditReport {s : State} {p : Nat} (code : BitVec 6) (n : BitVec 7) (notDown : (s.link p).st ≠ .down) :
    ((s.creditReport p code n).link p).besideHeader = (s.link p).besideHeader := by
  unfold State.creditReport
  split
  · rfl
  · split
    · rfl
    · exact State.besideHeader_updLink (fun _ => rfl) notDown

theorem State.besideHeader_headerUpdate {s : State} {p : Nat} (c : LinkCell) (notDown : (s.link p).st ≠ .down) :
    ((s.headerUpdate p c).link p).besideHeader = (s.link p).besideHeader := by
  unfold State.headerUpdate
  split
  · rfl
  · exact State.besideHeader_updLink (fun _ => rfl) notDown
  · have acked := State.besideHeader_ackSeq c.ackSeq notDown
    have acked_st : ((s.ackSeq p c.ackSeq).link p).st = (s.link p).st := (congrArg Link.st acked :)
    have reported := (State.besideHeader_creditReport c.creditVc c.creditCount (acked_st ▸ notDown)).trans acked
    have reported_st : (((s.ackSeq p c.ackSeq).creditReport p c.creditVc c.creditCount).link p).st = (s.link p).st :=
      (congrArg Link.st reported :)
    exact (State.besideHeader_updLink (f := fun k => { k with pressureRx := c.pressure.toNat }) (fun _ => rfl)
      (reported_st ▸ notDown)).trans reported

section
variable {s : State} {p : Nat} (c : LinkCell)

theorem State.running_headerUpdate (running : (s.link p).st.running = true) : ((s.headerUpdate p c).link p).st.running = true := by
  rw [(s.sameCourse_headerUpdate c (LinkSt.notDown_of_running running)).st]
  exact running

theorem State.expect_headerUpdate (running : (s.link p).st.running = true) :
    ((s.headerUpdate p c).link p).expect = (s.link p).expect :=
  (congrArg Link.expect (s.besideHeader_headerUpdate c (LinkSt.notDown_of_running running)) :)

theorem State.pressureRx_headerUpdate (running : (s.link p).st.running = true) :
    ((s.headerUpdate p c).link p).pressureRx = c.pressure.toNat := by
  have notDown := LinkSt.notDown_of_running running
  have acked := State.sameCourse_ackSeq c.ackSeq notDown
  have reported := acked.trans (State.sameCourse_creditReport c.creditVc c.creditCount (acked.st ▸ notDown))
  unfold State.headerUpdate
  split
  · next down => exact absurd down notDown
  · next init => rw [init] at running; cases running
  · rw [State.link_updLink_same _ _ _ (Link.ne_default_of_st (reported.st ▸ notDown))]

end

@[simp] theorem State.headerUpdate_lanes (s : State) (p : Nat) (c : LinkCell) : (s.headerUpdate p c).lanes = s.lanes :=
  (congrArg State.lanes (s.headerUpdate_besidesLinks p c) :)
@[simp] theorem State.headerUpdate_wires (s : State) (p : Nat) (c : LinkCell) : (s.headerUpdate p c).wires = s.wires :=
  (congrArg State.wires (s.headerUpdate_besidesLinks p c) :)
@[simp] theorem State.headerUpdate_out (s : State) (p : Nat) (c : LinkCell) : (s.headerUpdate p c).out = s.out :=
  (congrArg State.out (s.headerUpdate_besidesLinks p c) :)
@[simp] theorem State.headerUpdate_inputs (s : State) (p : Nat) (c : LinkCell) : (s.headerUpdate p c).inputs = s.inputs :=
  (congrArg State.inputs (s.headerUpdate_besidesLinks p c) :)
@[simp] theorem State.headerUpdate_bypassIn (s : State) (p : Nat) (c : LinkCell) : (s.headerUpdate p c).bypassIn = s.bypassIn :=
  (congrArg State.bypassIn (s.headerUpdate_besidesLinks p c) :)
@[simp] theorem State.headerUpdate_timeQ (s : State) (p : Nat) (c : LinkCell) : (s.headerUpdate p c).timeQ = s.timeQ :=
  (congrArg State.timeQ (s.headerUpdate_besidesLinks p c) :)

/-! The sequence (R120) -/

section
variable {s : State} {p : Nat} {c : LinkCell}

theorem State.sequenced_inOrder (running : (s.link p).st.running = true) (next : c.lseq = (s.link p).expect) (accept : State → State) :
    s.sequenced p c accept = accept (s.advanceExpect p) := by
  simp [State.sequenced, running, next, seqAhead]

theorem State.sequenced_gap (running : (s.link p).st.running = true) (ahead : 0 < seqAhead 12 c.lseq (s.link p).expect)
    (near : seqAhead 12 c.lseq (s.link p).expect < 2048) (accept : State → State) : s.sequenced p c accept = s.sendNak p := by
  simp [State.sequenced, running, near, Nat.ne_of_gt ahead]

/-- A cell without a sequence of its own that names EXPECT shows no lost tail. -/
theorem State.tailCheck_inOrder (next : c.lseq = (s.link p).expect) : s.tailCheck p c = s := by
  simp [State.tailCheck, next, seqAhead]

theorem State.link_advanceExpect (notDown : (s.link p).st ≠ .down) :
    (s.advanceExpect p).link p = { s.link p with expect := (s.link p).expect + 1, nakAt := none } :=
  State.link_updLink_same s p _ (Link.ne_default_of_st notDown)

/-- A NAK that none preceded a moment ago (R120) waits for the transmitter, and EXPECT stands. -/
theorem State.sendNak_queues (unasked : (s.link p).nakAt = none) :
    ((s.sendNak p).link p).expect = (s.link p).expect ∧ .nak (s.link p).expect ∈ ((s.sendNak p).link p).ctlQ
      ∧ (s.sendNak p).inputs = s.inputs := by
  have sent : s.sendNak p
      = ((s.setLink p { s.link p with nakAt := some (s.portClock p) }).queueCtl p (.nak (s.link p).expect)).countPort p 5 := by
    simp [State.sendNak, unasked]
  have marked : (s.setLink p { s.link p with nakAt := some (s.portClock p) }).link p
      = { s.link p with nakAt := some (s.portClock p) } :=
    State.link_setLink_same s p _ fun e => by simpa using congrArg Link.nakAt e
  rw [sent]
  refine ⟨?_, ?_, rfl⟩ <;> simp [State.link_queueCtl, marked]

end

/-! Cells that are accepted (R42, R149, R150, R162) -/

section
variable {s t : State}

theorem LinksStay.same {u : State} (h : LinksStay s t) (lanes : u.lanes = t.lanes) (links : u.links = t.links) : LinksStay s u :=
  h.trans (.of_same lanes links)

theorem LinksStay.creditBack (h : LinksStay s t) (x vc : Nat) : LinksStay s (t.creditBack x vc) :=
  h.trans ((Traffic.refl t).creditBackOf x vc 0).toLinksStay

theorem LinksStay.abortOpen (h : LinksStay s t) (p vc reason : Nat) : LinksStay s (t.abortOpen p vc reason) :=
  h.trans ((Traffic.refl t).abortOpen p vc reason).toLinksStay

theorem LinksStay.thenLink (h : LinksStay s t) {q : Nat} {f : Link → Link} (keeps : ∀ k, (f k).still = k.still := by intro; rfl) :
    LinksStay s (t.updLink q f) :=
  h.trans (.updLink t q keeps)

theorem LinksStay.ite {c : Prop} [Decidable c] {u : State} (ht : LinksStay s t) (hu : LinksStay s u) :
    LinksStay s (if c then t else u) := by
  split
  · exact ht
  · exact hu

theorem LinksStay.discardFirst (h : LinksStay s t) (p : Nat) (c : LinkCell) : LinksStay s (t.discardFirst p c) := by
  unfold State.discardFirst
  exact (LinksStay.ite h.thenLink h).creditBack ..

theorem State.notice_stays (s : State) (h : Header) (x reason : Nat) : LinksStay s (s.notice h x reason) := by
  unfold State.notice
  dsimp only
  (repeat' split) <;> exact .of_same rfl rfl

theorem State.routeFault_stays (s : State) (h : Header) (x : Nat) (f : RouteFault) : LinksStay s (s.routeFault h x f) := by
  refine LinksStay.trans ?_ (State.notice_stays _ h x f.code)
  cases f <;> exact .of_same rfl rfl

theorem State.noteStrain_stays (s : State) (p : Nat) (key : BitVec 16) : LinksStay s (s.noteStrain p key) := by
  unfold State.noteStrain
  split <;> exact .of_same rfl rfl

theorem State.applyAlt_stays (s : State) (h : Header) (x o : Nat) : LinksStay s (s.applyAlt h x o).1 := by
  unfold State.applyAlt
  (repeat' split) <;> exact .of_same rfl rfl

theorem State.red_stays (s : State) (x o c : Nat) (colour : BitVec 2) : LinksStay s (s.red x o c colour).1 := by
  unfold State.red
  dsimp only
  (repeat' split) <;> exact .of_same rfl rfl

/-- What `acceptFirst` does with the policers of a fabric port: the colour that the packet takes, and its buckets (R214). -/
def State.policeFirst (s : State) (p : Nat) (h : Header) : BitVec 2 × State :=
  if p = 48 then (h.colour, s)
  else
    let (col, b) := police (s.reg R.ingressPolicer p h.cls.toNat) (Table.get {} s.inBuckets (8 * p + h.cls.toNat)) h.colour
      (1000 * chargedLen (s.reg R.egressOverhead p) h.length.toNat)
    (col, { s with inBuckets := Table.set {} s.inBuckets (8 * p + h.cls.toNat) b })

theorem State.policeFirst_stays (s : State) (p : Nat) (h : Header) : LinksStay s (s.policeFirst p h).2 := by
  unfold State.policeFirst
  split <;> exact .of_same rfl rfl

/-- What `acceptFirst` does with a cell whose output, VC and colour are known: RED, and the queue (R160, R162). -/
def State.queueFirst (s : State) (p : Nat) (c : LinkCell) (h : Header) (o v : Nat) (moved : Bool) (col : BitVec 2) : State :=
  let (s, dropped, mark) := s.red (xIdx p) o h.cls.toNat col
  if dropped then s.discardFirst p c
  else
    let (s, st) := s.enqueue (xIdx p) { out := o, vc := v, inVc := c.vc.toNat, hdr := { h with colour := col }, mark := mark
                                        total := cellsOf h.length.toNat, cells := [c.body], arrived := 1, moved := moved }
    let s := s.countXbr (xIdx p) (48 + h.cls.toNat)
    if c.type = .first then s.updLink p (fun k => { k with rxOpen := Table.set .none k.rxOpen c.vc.toNat (.pkt (xIdx p) st) })
    else s

theorem LinksStay.queueFirst (h : LinksStay s t) (p : Nat) (c : LinkCell) (hdr : Header) (o v : Nat) (moved : Bool) (col : BitVec 2) :
    LinksStay s (t.queueFirst p c hdr o v moved col) := by
  unfold State.queueFirst
  have drawn := h.trans (t.red_stays (xIdx p) o hdr.cls.toNat col)
  generalize t.red (xIdx p) o hdr.cls.toNat col = drawing at drawn ⊢
  obtain ⟨u, dropped, mark⟩ := drawing
  change LinksStay s u at drawn
  have queued : ∀ k, LinksStay s ((u.enqueue (xIdx p) k).1.countXbr (xIdx p) (48 + hdr.cls.toNat)) := fun _ => drawn.same rfl rfl
  exact .ite (drawn.discardFirst p c) (.ite (queued _).thenLink (queued _))

theorem State.acceptFirst_stays (s : State) (p : Nat) (c : LinkCell) : LinksStay s (s.acceptFirst p c) := by
  unfold State.acceptFirst
  extract_lets x vc h cls s₁ s₂ len
  have noted : LinksStay s s₁ := s.noteStrain_stays p h.pkey
  have routed : LinksStay s s₂ := noted.same rfl rfl
  clear_value s₁ s₂
  split
  · refine LinksStay.discardFirst ?_ p c
    exact .of_same rfl rfl
  split
  · refine LinksStay.discardFirst (LinksStay.trans ?_ (State.notice_stays ..)) p c
    exact noted.same rfl rfl
  · refine LinksStay.discardFirst ?_ p c
    exact noted.same rfl rfl
  split
  · exact (noted.trans (State.routeFault_stays ..)).discardFirst p c
  split
  · exact (routed.trans (State.routeFault_stays ..)).discardFirst p c
  next o v _ =>
  have bound := routed.trans (s₂.applyAlt_stays h x o)
  generalize s₂.applyAlt h x o = found at bound ⊢
  obtain ⟨s₃, o', moved⟩ := found
  change LinksStay s s₃ at bound
  exact (bound.trans (s₃.policeFirst_stays p h)).queueFirst p c h o' v moved (s₃.policeFirst p h).1

theorem State.acceptLater_stays (s : State) (p : Nat) (c : LinkCell) : LinksStay s (s.acceptLater p c) := by
  unfold State.acceptLater
  extract_lets vc close
  have closed : ∀ u, LinksStay s u → LinksStay s (close u) := fun u hu => .ite hu.thenLink hu
  have back := (LinksStay.of_same (s := s) (t := s) rfl rfl).creditBack (xIdx p) vc
  split
  · next x stamp _ =>
    split
    · next k _ =>
      have written : LinksStay s ((s.updInput x (·.put { k with cells := k.cells ++ [c.body], arrived := k.arrived + 1 })).countXbr x
          (48 + k.hdr.cls.toNat)) := .of_same rfl rfl
      exact closed _ (.ite written (written.creditBack ..))
    · exact closed _ back
  · exact closed _ back

/-- Whatever becomes of an accepted data cell, its link moves no more than packets move it. -/
theorem State.acceptData_stays (s : State) (p : Nat) (c : LinkCell) (bad : Bool) : LinksStay s (s.acceptData p c bad) := by
  unfold State.acceptData
  extract_lets vc isOpen s₁
  have counted : LinksStay s s₁ := (LinksStay.updLink s p (f := fun k => { k with dataAt := s.uptime }) (fun _ => rfl)).same rfl rfl
  clear_value s₁
  have later : LinksStay s
      (if isOpen ∧ bad then
        ((s₁.abortOpen p vc 4).updLink p (fun k => { k with
          rxOpen := Table.set .none k.rxOpen vc (if c.type = .last then .none else .drop) })).creditBack (xIdx p) vc
      else if isOpen then s₁.acceptLater p c
      else (s₁.countPort p 8).creditBack (xIdx p) vc) :=
    .ite ((counted.abortOpen p vc 4).thenLink.creditBack ..)
      (.ite (counted.trans (s₁.acceptLater_stays p c)) ((counted.same (u := s₁.countPort p 8) rfl rfl).creditBack ..))
  have first : LinksStay s
      (if isOpen then ((((s₁.countPort p 8).countAbort p 4).abortOpen p vc 4).raise (1 + 8 * p)).creditBack (xIdx p) vc
      else if bad then s₁.discardFirst p c
      else s₁.acceptFirst p c) := by
    refine .ite ?_ (.ite (counted.discardFirst p c) (counted.trans (s₁.acceptFirst_stays p c)))
    have aborted := (counted.same (u := (s₁.countPort p 8).countAbort p 4) rfl rfl).abortOpen p vc 4
    exact (aborted.same (u := (((s₁.countPort p 8).countAbort p 4).abortOpen p vc 4).raise (1 + 8 * p)) rfl rfl).creditBack ..
  split
  · exact first
  · exact first
  · exact later

end

/-! Packets that are aborted (R136) -/

theorem State.inputs_creditsBack (s : State) (x vc n : Nat) : (s.creditsBack x vc n).inputs = s.inputs := by
  induction n generalizing s with
  | zero => rfl
  | succ n ih =>
    refine (ih _).trans ?_
    unfold State.creditBackOf
    (repeat' split) <;> rfl

/-- A packet that is aborted is in its input no longer; an input that has given out a stamp is listed in the table of inputs. -/
theorem State.find_abortPkt {s : State} {x : Nat} (used : (s.input x).nextStamp ≠ 0) (stamp reason : Nat) :
    ((s.abortPkt x stamp reason).input x).find stamp = none := by
  have inputs : ∀ k, (s.input x).find stamp = some k →
      (s.abortPkt x stamp reason).inputs = (s.updInput x (·.drop stamp)).inputs := by
    intro k found
    unfold State.abortPkt State.settleDeficit
    simp only [found]
    (repeat' split) <;> simp [State.inputs_creditsBack]
  cases found : (s.input x).find stamp with
  | none => simp [State.abortPkt, found]
  | some k =>
    have dropped : (s.updInput x (·.drop stamp)).input x = (s.input x).drop stamp :=
      State.input_updInput_same s x _ fun e => used (congrArg InBuf.nextStamp e)
    rw [State.input, inputs k found, ← State.input, dropped]
    simp [InBuf.find, InBuf.drop]

end Sys2Proof.Machine
end

section
/-! A running link receives in sequence (O19). -/

namespace Sys2Proof.Machine

section
variable {s : State} {p : Nat} {c : LinkCell}

/-- An undamaged data cell on a running link comes to the sequence rule after its header (R106, R120). -/
theorem exec_dataCellReceive_carried (running : (s.link p).st.running = true) (good : c.damaged = false) (data : c.isData = true) :
    exec (.dataCellReceive p c .carried) s = .next ((s.headerUpdate p c).sequenced p c (fun t => t.acceptData p c false)) := by
  show execDataCellReceive p c .carried s = _
  simp [execDataCellReceive, State.received_undamaged (LinkSt.notDown_of_running running) good, data]

/-- What an abort in sequence does once EXPECT has moved on (R136). -/
def State.acceptAbort (s : State) (p : Nat) (c : LinkCell) : State :=
  let s := s.abortOpen p c.vc.toNat (bodyByte c.body 1)
  if 1 ≤ bodyByte c.body 1 ∧ bodyByte c.body 1 ≤ 4 then s.countAbort p (bodyByte c.body 1) else s

theorem exec_abort_inOrder (running : (s.link p).st.running = true) (good : c.damaged = false) (abort : c.isAbort = true)
    (next : c.lseq = (s.link p).expect) :
    exec (.abort p c) s = .next (((s.headerUpdate p c).advanceExpect p).acceptAbort p c) := by
  show execAbort p c s = _
  simp only [execAbort, State.received_undamaged (LinkSt.notDown_of_running running) good, abort, if_true]
  rw [State.sequenced_inOrder (State.running_headerUpdate c running) (by rw [State.expect_headerUpdate c running, next])]
  rfl

theorem State.acceptAbort_stays (s : State) (p : Nat) (c : LinkCell) : LinksStay s (s.acceptAbort p c) := by
  have aborted := ((Traffic.refl s).abortOpen p c.vc.toNat (bodyByte c.body 1)).toLinksStay
  exact .ite (aborted.same rfl rfl) aborted

/-- The packet that the abort ends has left its input. -/
theorem State.find_acceptAbort {x stamp : Nat} (used : (s.input x).nextStamp ≠ 0)
    (opened : Table.get RxOpen.none (s.link p).rxOpen c.vc.toNat = .pkt x stamp) : ((s.acceptAbort p c).input x).find stamp = none := by
  have gone : ((s.abortOpen p c.vc.toNat (bodyByte c.body 1)).input x).find stamp = none := by
    simp only [State.abortOpen, opened]
    exact State.find_abortPkt (by simpa using used) stamp _
  unfold State.acceptAbort
  dsimp only
  split
  · exact gone
  · exact gone

/-- What is accepted in sequence moves EXPECT on by one where it then leaves the links to packets. -/
theorem State.expect_accepted {t : State} (running : (s.link p).st.running = true)
    (stays : LinksStay ((s.headerUpdate p c).advanceExpect p) t) : (t.link p).expect = (s.link p).expect + 1 := by
  have notDown := LinkSt.notDown_of_running (State.running_headerUpdate c running)
  have moved := State.link_advanceExpect notDown
  have kept := stays.link_of_notDown (p := p) (by rw [moved]; exact notDown)
  have expect : (t.link p).expect = (((s.headerUpdate p c).advanceExpect p).link p).expect := (congrArg Link.expect kept :)
  rw [expect, moved, State.expect_headerUpdate c running]

/-! Bypass cells (R109, R181) -/

/-- Slots of TYPE 0 say nothing. -/
theorem State.bypassMsgs_empty (s : State) (p : Nat) {b : BitVec 1024} {slots : List Nat}
    (empty : ∀ i ∈ slots, fldN (b.extractLsb' (128 * i) 128) 7 0 = 0) :
    slots.foldl (fun s i => s.bypassMsg p (b.extractLsb' (128 * i) 128)) s = s := by
  induction slots with
  | nil => rfl
  | cons i slots ih =>
    have silent : s.bypassMsg p (b.extractLsb' (128 * i) 128) = s := by
      unfold State.bypassMsg
      exact if_pos (empty i (by simp))
    rw [List.foldl_cons, silent]
    exact ih fun j hj => empty j (by simp [hj])

/-- A bypass cell in sequence whose first slot alone says something. -/
theorem exec_bypassCellReceive_one (running : (s.link p).st.running = true) (good : c.damaged = false) (bypass : c.type = .bypass)
    (next : c.lseq = (s.link p).expect)
    (empty : ∀ i ∈ [1, 2, 3, 4, 5, 6, 7], fldN (c.body.extractLsb' (128 * i) 128) 7 0 = 0) :
    exec (.bypassCellReceive p c) s = .next ((s.headerUpdate p c).bypassMsg p (c.body.extractLsb' 0 128)) := by
  have slots : List.range 8 = 0 :: [1, 2, 3, 4, 5, 6, 7] := rfl
  show execBypassCellReceive p c s = _
  simp only [execBypassCellReceive, State.received_undamaged (LinkSt.notDown_of_running running) good, bypass, ne_eq, not_true_eq_false,
    if_false]
  rw [State.tailCheck_inOrder (by rw [State.expect_headerUpdate c running, next]), slots, List.foldl_cons, State.bypassMsgs_empty _ _ empty]

/-- The TYPE of the first slot is the low byte of the body. -/
theorem fldN_firstSlot (b : BitVec 1024) : fldN (b.extractLsb' 0 128) 7 0 = fldN b 7 0 := by
  simp only [fldN, BitVec.extractLsb'_toNat, Nat.shiftRight_zero]
  exact Nat.mod_mod_of_dvd _ (by decide)

end

/-- Settles O19: the header leaves EXPECT and the inputs alone, the sequence rule moves EXPECT, and what is accepted then moves of the
links no more than packets do (`LinksStay`). -/
theorem linkReceivesInSequence : Obligations.LinkReceivesInSequence := by
  unfold Obligations.LinkReceivesInSequence
  refine ⟨?inOrder, ?gap, ?overrun, ?abort, ?idle, ?report, ?time⟩
  case inOrder =>
    intro s p c running good data next
    have stays := State.acceptData_stays ((s.headerUpdate p c).advanceExpect p) p c false
    have next' : c.lseq = ((s.headerUpdate p c).link p).expect := by rw [State.expect_headerUpdate c running, next]
    refine ⟨_, exec_dataCellReceive_carried running good data, ?_⟩
    rw [State.sequenced_inOrder (State.running_headerUpdate c running) next']
    exact ⟨State.expect_accepted running stays, stays.lanes.trans (s.headerUpdate_lanes p c)⟩
  case gap =>
    intro s p c running good data ahead near unasked
    have expect := State.expect_headerUpdate c running
    have unasked' : ((s.headerUpdate p c).link p).nakAt = none :=
      (congrArg Link.nakAt (s.besideHeader_headerUpdate c (LinkSt.notDown_of_running running)) :).trans unasked
    obtain ⟨stands, queued, inputs⟩ := State.sendNak_queues unasked'
    refine ⟨_, exec_dataCellReceive_carried running good data, ?_⟩
    rw [State.sequenced_gap (State.running_headerUpdate c running) (by rwa [expect]) (by rwa [expect])]
    exact ⟨stands.trans expect, inputs.trans (s.headerUpdate_inputs p c), expect ▸ queued⟩
  case overrun => exact fun s p c => rfl
  case abort =>
    intro s p c x stamp running good abort next used opened
    refine ⟨_, exec_abort_inOrder running good abort next, State.expect_accepted running (State.acceptAbort_stays ..), ?_⟩
    have notDown := LinkSt.notDown_of_running running
    have rxOpen : ((s.headerUpdate p c).link p).rxOpen = (s.link p).rxOpen :=
      (congrArg Link.rxOpen (s.besideHeader_headerUpdate c notDown) :)
    refine State.find_acceptAbort ?_ ?_
    · show (((s.headerUpdate p c).input x).nextStamp ≠ 0)
      simpa [State.input] using used
    · rw [State.link_advanceExpect (LinkSt.notDown_of_running (State.running_headerUpdate c running)), rxOpen, opened]
  case idle =>
    intro s p c running good idle next
    refine ⟨?_, State.pressureRx_headerUpdate c running, State.expect_headerUpdate c running, s.headerUpdate_out p c⟩
    show execIdleCellReceive p c s = _
    simp only [execIdleCellReceive, State.received_undamaged (LinkSt.notDown_of_running running) good, idle, if_true]
    rw [State.tailCheck_inOrder (by rw [State.expect_headerUpdate c running, next])]
  case report =>
    intro s p c running good bypass next fabric report empty
    refine ⟨_, exec_bypassCellReceive_one running good bypass next empty, ?_⟩
    have recorded : (s.headerUpdate p c).bypassMsg p (c.body.extractLsb' 0 128) = (s.headerUpdate p c).updLink p
        (fun k => { k with report := some ((c.body.extractLsb' 0 128).extractLsb' 16 96, (s.headerUpdate p c).uptime) }) := by
      simp [State.bypassMsg, fldN_firstSlot, report, fabric]
    have levels : (c.body.extractLsb' 0 128).extractLsb' 16 96 = c.body.extractLsb' 16 96 := by
      ext i inside
      simp only [BitVec.getElem_extractLsb', BitVec.getLsbD_extractLsb']
      rw [decide_eq_true (by omega : 16 + i < 128), Bool.true_and, Nat.zero_add]
    rw [recorded, State.link_updLink_same _ _ _ (fun e => by simpa using congrArg Link.report e)]
    exact ⟨by rw [levels, State.headerUpdate_uptime], s.headerUpdate_bypassIn p c⟩
  case time =>
    intro s p c running good bypass next time empty
    refine ⟨_, exec_bypassCellReceive_one running good bypass next empty, ?_⟩
    simp [State.bypassMsg, fldN_firstSlot, time]

end Sys2Proof.Machine
end

section
/-! A link comes up and goes down (O20). -/

namespace Sys2Proof.Machine

/-! The way down (R131) -/

theorem State.portState_wires (s : State) (p : Nat) (was : LinkSt) : (s.portState p was).wires = s.wires :=
  (congrArg State.wires (s.portState_besidesHost p was) :)

@[simp] theorem State.sendCtl_wires (s : State) (p : Nat) (m : CtlMsg) : (s.sendCtl p m).wires = s.wires := rfl

theorem State.farewell_wires (s : State) (p cause : Nat) : (s.farewell p cause).wires = s.wires := by
  unfold State.farewell
  split <;> simp

/-- A link that goes down raises the source of its cause, if there is one, and no other. -/
theorem State.declareDown_wires {s : State} {p : Nat} (notDown : (s.link p).st ≠ .down) (cause : Nat) (next : LaneSt) :
    (s.declareDown p cause next).wires = s.wires ++ (downSource cause p).toList := by
  rw [State.declareDown_eq notDown]
  have shut : ∀ t : State, (((t.updLane p (·.away next)).settlePause p).shutLink p cause).wires = t.wires := fun _ => rfl
  have told := (State.portState_wires _ p (s.link p).st).trans ((shut _).trans (s.farewell_wires p cause))
  have dropped := ((Traffic.refl _).dropControl p).wires.trans told
  unfold State.raiseDown
  cases downSource cause p with
  | none => simpa using dropped
  | some src => simpa [State.raise] using dropped

/-- What a link that is declared down with the lanes to RETRY_WAIT answers: its state, its cause, its lanes, its fault source. -/
theorem State.declareDown_retries {s : State} {p cause : Nat} (notDown : (s.link p).st ≠ .down) (caused : cause ≠ 0) :
    ((s.declareDown p cause .retryWait).link p).st = .down ∧ ((s.declareDown p cause .retryWait).link p).lastDown = cause
      ∧ ((s.declareDown p cause .retryWait).lane p).st = .retryWait := by
  have went := State.declareDown_goes .retryWait notDown caused
  refine ⟨went.st, went.lastDown, ?_⟩
  rw [went.lane (by simp [Lane.away])]
  rfl

/-! Link-up (R126, R127, R139) -/

/-- What a link-up settles of a link: that it is not DOWN, whom it met, and whether it goes on where it stood. -/
structure Link.Met (q : Partner) (resumed : Bool) (k : Link) : Prop where
  notDown : k.st ≠ .down
  partner : k.partner = some q
  resumed : k.resumed = resumed

section
variable {s t : State} {p : Nat} {q : Partner} {resumed : Bool}

theorem Link.Met.stays (h : (s.link p).Met q resumed) (stays : LinksStay s t) : (t.link p).Met q resumed := by
  have kept := stays.link_of_notDown h.notDown
  have st : (t.link p).st = (s.link p).st := (congrArg Link.st kept :)
  exact ⟨st ▸ h.notDown, (congrArg Link.partner kept :).trans h.partner, (congrArg Link.resumed kept :).trans h.resumed⟩

/-- An update of the link that keeps it met. -/
theorem Link.Met.updLink (h : (s.link p).Met q resumed) {f : Link → Link}
    (keeps : ∀ k : Link, k.Met q resumed → (f k).Met q resumed) :
    ((s.updLink p f).link p).Met q resumed := by
  have met := keeps _ h
  rw [State.link_updLink_same s p f (Link.ne_default_of_st met.notDown)]
  exact met

theorem Traffic.countPort (h : Traffic s t) (p e : Nat) : Traffic s (t.countPort p e) := h.count

theorem Traffic.commitAll (h : Traffic s t) (r : Reg) (i n : Nat) : Traffic s (t.commitAll r i n) := by
  induction n with
  | zero => exact h
  | succ n ih => exact ih.of_same rfl rfl rfl

theorem Traffic.initialReturn (h : Traffic s t) (p : Nat) : Traffic s (t.initialReturn p) := by
  unfold State.initialReturn
  extract_lets b
  clear_value b
  refine Traffic.foldl (fun u c hu => ?_) _ h
  have reserves : Traffic s (((List.range 6).map (fun i => 6 * c + i)).foldl (fun w v => w.updLink p (·.owe v
      ((u.creditsOf p c).1 - min (u.creditsOf p c).1 (b.held v)))) u) :=
    .foldl (fun _ _ hw => hw.updLink) _ hu
  exact reserves.updLink

theorem Link.Met.freshStart (h : (s.link p).Met q resumed) : ((s.freshStart p).link p).Met q resumed := by
  unfold State.freshStart
  extract_lets o s₁ held whole staged lost s₂ s₃ s₄
  have aborted : Traffic s s₁ := (Traffic.refl s).abortAll p 2 _
  clear_value s₁ lost
  have discarded : Traffic s s₂ := by
    refine Traffic.foldl (fun u i hu => ?_) lost aborted
    exact (hu.discardBegun o i.1).countPort p 17
  have committed : Traffic s s₃ := discarded.commitAll R.vcCredit p 8
  clear_value s₃ whole held
  have cleared : (s₄.link p).Met q resumed :=
    (h.stays committed.toLinksStay).updLink fun _ h => ⟨h.notDown, h.partner, h.resumed⟩
  exact cleared.stays ((Traffic.refl s₄).initialReturn p).toLinksStay

theorem Link.Met.resumeLink (h : (s.link p).Met q resumed) (rx : BitVec 12) : ((s.resumeLink p rx).link p).Met q resumed :=
  h.updLink fun _ h => ⟨h.notDown, h.partner, h.resumed⟩

end

/-- The state that a link takes by its own check and what the partner tells of its own (R139). -/
def wiringSt (ok peer : Bool) : LinkSt := if !ok then .wiringFault else if peer then .peerFault else .up

theorem wiringSt_running (ok peer : Bool) : (wiringSt ok peer).running = true := by
  cases ok <;> cases peer <;> rfl

theorem State.link_updLink_st (s : State) (p : Nat) {st : LinkSt} (notDown : st ≠ .down) :
    (s.updLink p (fun k => { k with st := st })).link p = { s.link p with st := st } :=
  State.link_updLink_same s p _ (Link.ne_default_of_st notDown)

/-- Control traffic leaves a port where no new packet may start (R139): its link moves no more than packets move it. -/
theorem State.still_rerouted {t : State} {p : Nat} (notDown : (t.link p).st ≠ .down) :
    (((t.rerouteControl p false).opEnd 1 p 1).link p).still = (t.link p).still := by
  rw [State.link_opEnd]
  exact ((Traffic.refl t).rerouteControl p false).link_of_notDown notDown

/-- By the check of its wiring a link moves its state and what waits for its transmitter, beside what packets move. -/
theorem State.link_applyWiring (s : State) (p : Nat) (ok wasFault : Bool) :
    ∃ waiting, ((s.applyWiring p ok wasFault).link p).still
      = ({ s.link p with st := wiringSt ok (s.link p).peerWiring, ctlQ := waiting } : Link).still := by
  unfold State.applyWiring
  rw [State.link_portState]
  unfold State.wiringState
  cases ok with
  | false =>
    have faulted := s.link_updLink_st p (st := .wiringFault) nofun
    rw [show wiringSt false (s.link p).peerWiring = .wiringFault from rfl]
    cases wasFault with
    | true => exact ⟨(s.link p).ctlQ, congrArg Link.still faulted⟩
    | false =>
      have noticed : ((((s.updLink p (fun k => { k with st := .wiringFault })).queueCtl p (.wiringNotice true)).raise (2 + 8 * p)).link p)
          = { s.link p with st := .wiringFault, ctlQ := (s.link p).ctlQ ++ [.wiringNotice true] } := by
        rw [State.link_raise, State.link_queueCtl, faulted]
      refine ⟨(s.link p).ctlQ ++ [.wiringNotice true], (State.still_rerouted ?_).trans (congrArg Link.still noticed)⟩
      rw [noticed]
      exact nofun
  | true =>
    obtain ⟨waiting, told⟩ : ∃ waiting, ((if wasFault then s.queueCtl p (.wiringNotice false) else s).link p)
        = { s.link p with ctlQ := waiting } := by
      cases wasFault with
      | true => exact ⟨_, s.link_queueCtl p _⟩
      | false => exact ⟨(s.link p).ctlQ, rfl⟩
    refine ⟨waiting, ?_⟩
    simp only [Bool.not_true, Bool.false_eq_true, if_false]
    generalize (if wasFault then s.queueCtl p (.wiringNotice false) else s) = t at told ⊢
    rcases Bool.eq_false_or_eq_true (s.link p).peerWiring with peer | peer
    · rw [show wiringSt true (s.link p).peerWiring = .peerFault by rw [peer]; rfl, if_pos peer]
      have faulted := t.link_updLink_st p (st := .peerFault) nofun
      have shown : (t.updLink p (fun k => { k with st := .peerFault })).link p = { s.link p with st := .peerFault, ctlQ := waiting } := by
        rw [faulted, told]
      split
      · exact congrArg Link.still shown
      · refine (State.still_rerouted ?_).trans (congrArg Link.still shown)
        rw [shown]
        exact nofun
    · rw [show wiringSt true (s.link p).peerWiring = .up by rw [peer]; rfl, if_neg (by simp [peer]),
        t.link_updLink_st p (st := .up) nofun, told]

/-- A link that has met its partner and makes its check runs. -/
theorem Link.Met.settleWiring {s : State} {p : Nat} {q : Partner} {resumed : Bool} (h : (s.link p).Met q resumed) (wasFault : Bool) :
    ((s.settleWiring p wasFault).link p).st.running = true ∧ ((s.settleWiring p wasFault).link p).partner = some q
      ∧ ((s.settleWiring p wasFault).link p).resumed = resumed := by
  obtain ⟨waiting, still⟩ := s.link_applyWiring p (s.wiringOk p) wasFault
  have st : ((s.settleWiring p wasFault).link p).st = wiringSt (s.wiringOk p) (s.link p).peerWiring := (congrArg Link.st still :)
  exact ⟨st ▸ wiringSt_running .., (congrArg Link.partner still :).trans h.partner, (congrArg Link.resumed still :).trans h.resumed⟩

/-- What is recorded of the partner that a LINK_INIT tells of (R124). -/
def partnerOf (i : InitInfo) : Partner :=
  { epoch := i.epoch, addrValid := i.addrValid, node := i.node, port := i.port, role := i.role }

/-- A link that comes up runs, with its partner recorded, resumed unless the start is fresh (R125–R127). -/
theorem State.linkUp_runs {s : State} {p : Nat} (notDown : (s.link p).st ≠ .down) (i : InitInfo) (fresh : Bool) :
    ((s.linkUp p i fresh).link p).st.running = true ∧ ((s.linkUp p i fresh).link p).partner = some (partnerOf i)
      ∧ ((s.linkUp p i fresh).link p).resumed = !fresh := by
  unfold State.linkUp
  extract_lets s₁ s₂ s₃
  have met : (s₁.link p).Met (partnerOf i) (!fresh) := by
    have read : s₁.link p = _ := State.link_updLink_same s p _ (Link.ne_default_of_st notDown)
    rw [read]
    exact ⟨notDown, rfl, rfl⟩
  have committed : (s₂.link p).Met (partnerOf i) (!fresh) := met
  clear_value s₂
  have started : (s₃.link p).Met (partnerOf i) (!fresh) := by
    cases fresh with
    | true => exact committed.freshStart
    | false => exact committed.resumeLink i.rxExpect
  exact started.settleWiring false

/-! The commands -/

section
variable {s : State} {p : Nat}

/-- In INIT the header of a cell only records PRESSURE (R106). -/
theorem State.link_headerUpdate_init (init : (s.link p).st = .init) (c : LinkCell) :
    s.headerUpdate p c = s.updLink p (fun k => { k with pressureRx := c.pressure.toNat })
      ∧ (s.headerUpdate p c).link p = { s.link p with pressureRx := c.pressure.toNat } := by
  have updated : s.headerUpdate p c = s.updLink p (fun k => { k with pressureRx := c.pressure.toNat }) := by
    simp [State.headerUpdate, init]
  refine ⟨updated, ?_⟩
  rw [updated, State.link_updLink_same _ _ _ (Link.ne_default_of_st (by simp [init]))]

/-- The partner's LINK_INIT is recorded and answered (R125). -/
def State.answerInit (s : State) (p : Nat) (i : InitInfo) (fresh : Bool) : State :=
  (s.setLink p { s.link p with initRx := some i, sentFresh := fresh }).queueCtl p (.linkInitAck fresh i.epoch)

theorem State.link_answerInit (i : InitInfo) (fresh : Bool) : (s.answerInit p i fresh).link p
    = { s.link p with initRx := some i, sentFresh := fresh, ctlQ := (s.link p).ctlQ ++ [.linkInitAck fresh i.epoch] } := by
  rw [State.answerInit, State.link_queueCtl, State.link_setLink_same _ _ _ (fun e => by simpa using congrArg Link.initRx e)]

/-- The partner tells of a fault of its wiring (R139). -/
def State.notePeer (s : State) (p : Nat) : State := s.setLink p { s.link p with peerWiring := true }

theorem State.link_notePeer : (s.notePeer p).link p = { s.link p with peerWiring := true } :=
  State.link_setLink_same s p _ fun e => by simpa using congrArg Link.peerWiring e

end

/-- Settles O20: a link-up keeps its partner through all that follows (`Link.Met`), and a link that goes down is `declareDown`. -/
theorem linkComesUpAndGoesDown : Obligations.LinkComesUpAndGoesDown := by
  unfold Obligations.LinkComesUpAndGoesDown
  refine ⟨?init, ?ack, ?resend, ?timeout, ?down, ?rateOver, ?rateWithin, ?notice, ?again⟩
  case init =>
    intro s p c init good op
    have notDown : (s.link p).st ≠ .down := by rw [init]; exact nofun
    obtain ⟨-, link⟩ := State.link_headerUpdate_init init c
    have fresh : (s.headerUpdate p c).freshFor p (initOf c) = s.freshFor p (initOf c) := by
      simp only [State.freshFor, State.epoch, link]
      rfl
    refine ⟨(s.headerUpdate p c).answerInit p (initOf c) (s.freshFor p (initOf c)), ?_, ?_⟩
    · show execLinkInit p c s = _
      simp only [execLinkInit, State.received_undamaged notDown good, op, Bool.not_true, Bool.false_eq_true, if_false, fresh]
      rw [if_pos (by rw [link]; exact init)]
      rfl
    · rw [State.link_answerInit, link]
      exact ⟨rfl, rfl, rfl, init⟩
  case ack =>
    intro s p c i init good op own told
    have notDown : (s.link p).st ≠ .down := by rw [init]; exact nofun
    obtain ⟨-, link⟩ := State.link_headerUpdate_init init c
    have epoch : (s.headerUpdate p c).epoch p = s.epoch p := by rw [State.epoch, link]; rfl
    have notDown' : ((s.headerUpdate p c).link p).st ≠ .down := by rw [link]; exact notDown
    refine ⟨(s.headerUpdate p c).linkUp p i ((s.link p).sentFresh || bit c.body 8), ?_, State.linkUp_runs notDown' i _⟩
    show execLinkInitAck p c s = _
    simp [execLinkInitAck, State.received_undamaged notDown good, op, own, epoch, link, init, told]
  case resend => exact fun s p init => congrArg Host.Outcome.next (if_pos init)
  case timeout =>
    intro s p init runs
    have notDown : (s.link p).st ≠ .down := by rw [init]; exact nofun
    obtain ⟨st, lastDown, lane⟩ := State.declareDown_retries (cause := 5) notDown (by decide)
    refine ⟨_, congrArg Host.Outcome.next (if_pos ⟨init, by rw [runs]; rfl⟩), st, lastDown, lane, ?_⟩
    rw [State.declareDown_wires notDown]
    simp [downSource]
  case down =>
    intro s p c notDown good op
    have notDown' : ((s.headerUpdate p c).link p).st ≠ .down := by rwa [(s.sameCourse_headerUpdate c notDown).st]
    obtain ⟨st, lastDown, lane⟩ := State.declareDown_retries (cause := 6) notDown' (by decide)
    refine ⟨(s.headerUpdate p c).declareDown p 6 .retryWait, ?_, st, lastDown, lane, ?_⟩
    · show execLinkDown p c s = _
      simp [execLinkDown, State.received_undamaged notDown good, op]
    · rw [State.declareDown_wires notDown']
      simp [downSource]
  case rateOver =>
    intro s p running native runs exceeds
    have notDown := LinkSt.notDown_of_running running
    obtain ⟨st, lastDown, lane⟩ := State.declareDown_retries (cause := 1) notDown (by decide)
    refine ⟨s.declareDown p 1 .retryWait, ?_, st, lastDown, lane, ?_⟩
    · show execErrorRateWindowEnd p s = _
      simp [execErrorRateWindowEnd, running, native, runs, exceeds]
    · rw [State.declareDown_wires notDown]
      simp [downSource]
  case rateWithin =>
    intro s p running runs within
    show execErrorRateWindowEnd p s = _
    simp [execErrorRateWindowEnd, running, runs, Nat.not_lt.2 within]
  case notice =>
    intro s p c running good op fault noFault
    have notDown := LinkSt.notDown_of_running running
    have noFault' : ((s.headerUpdate p c).link p).st ≠ .wiringFault := by rwa [(s.sameCourse_headerUpdate c notDown).st]
    have running' := State.running_headerUpdate c running
    have noInit : ((s.headerUpdate p c).link p).st ≠ .init := fun e => by rw [e] at running'; cases running'
    have answers : exec (.wiringNotice p c) s = .next (((s.headerUpdate p c).notePeer p).applyWiring p true false) := by
      show execWiringNotice p c s = _
      simp only [execWiringNotice, State.received_undamaged notDown good, op, Bool.not_true, Bool.false_eq_true, if_false, noInit,
        running', if_true, fault, bne_iff_ne.2 noFault', beq_false_of_ne noFault']
      rfl
    obtain ⟨waiting, still⟩ := ((s.headerUpdate p c).notePeer p).link_applyWiring p true false
    rw [State.link_notePeer] at still
    exact ⟨_, answers, (congrArg Link.st still :), (congrArg Link.peerWiring still :)⟩
  case again => exact fun s p fault => congrArg Host.Outcome.next (if_pos fault)

end Sys2Proof.Machine
end

section
/-! Tables that hold two entries under one key (family 04, link layer).  Each of O18, O21 and O56 says of such a state, too, what an
entry reads after a write; a write of the default value only uncovers the entry behind.  Beside each refutation stands the clause
concerned, proved where the keys of the table rise, as every write of a table keeps them (`Table.rising_set`). -/

namespace Sys2Proof.Machine

/-! INIT_TIMEOUT (O56) -/

/-- Port 0 is in INIT with a control cell of a packet in its replay buffer whose rest stands at the input of port 1, and `links` holds two
entries for port 1: the default one, and behind it one that is UP. -/
def twoNeighbours : State :=
  { State.reset with
    links := [(0, { st := .init, replay := [{ pid := 5 }] }), (1, {}), (1, { st := .up })]
    outputs := [(0, { opened := [(0, (1, 0, 5))] })], inputs := [(1, { pkts := [{}] })] }

theorem twoNeighbours_initTimeout : ∃ t, exec (.initTimeout 0) twoNeighbours = .next t ∧ (t.link 1).st = .up :=
  ⟨_, rfl, by decide +kernel⟩

/-- Refutes O56: the packet goes back whole into the queue of port 0, so what arrives of it at port 1 is redirected (R133); that leaves the
link of port 1 the default one, so its entry is erased, and the link reads as UP by the entry behind it, where the clause says that it is
DOWN as before.  The clause holds where the keys of `links` rise (`exec_initTimeout_of_rising`). -/
theorem not_initTimeoutTakesTheLinkDown : ¬ Obligations.InitTimeoutTakesTheLinkDown := by
  unfold Obligations.InitTimeoutTakesTheLinkDown
  rintro ⟨expires, -⟩
  obtain ⟨t, answers, -, -, others⟩ := expires twoNeighbours 0 (by decide +kernel) (by decide +kernel)
  obtain ⟨u, answers', up⟩ := twoNeighbours_initTimeout
  rw [exec_next_unique answers answers'] at others
  have stands := (others 1 (by decide)).symm.trans up
  revert stands
  decide +kernel

theorem State.rising_sendCtl {s : State} (rising : Table.risingFrom none s.links = true) (p : Nat) (m : CtlMsg) :
    Table.risingFrom none (s.sendCtl p m).links = true := by
  unfold State.sendCtl State.sendCell State.emitCell State.setLink
  exact Table.rising_set _ p _ rising

theorem State.farewell_of_rising {s : State} (rising : Table.risingFrom none s.links = true) (p cause : Nat) :
    Table.risingFrom none (s.farewell p cause).links = true ∧ ∀ k, k ≠ p → (s.farewell p cause).link k = s.link k := by
  have ended : Table.risingFrom none (s.opEnd 1 p 1).links = true := by simpa using rising
  unfold State.farewell
  split
  · exact ⟨State.rising_sendCtl (State.rising_sendCtl (State.rising_sendCtl ended p _) p _) p _, fun k other => by simp [other]⟩
  · exact ⟨ended, fun k other => by simp⟩

@[simp] theorem State.link_raiseDown (s : State) (p cause k : Nat) : (s.raiseDown p cause).link k = s.link k := by
  unfold State.raiseDown
  split <;> rfl

/-- Where the keys of `links` rise, no link that goes down moves the state of another. -/
theorem State.declareDown_others_of_rising {s : State} {p k : Nat} (rising : Table.risingFrom none s.links = true)
    (notDown : (s.link p).st ≠ .down) (cause : Nat) (next : LaneSt) (other : k ≠ p) :
    ((s.declareDown p cause next).link k).st = (s.link k).st := by
  obtain ⟨said, link⟩ := State.farewell_of_rising rising p cause
  rw [State.declareDown_eq notDown, State.link_raiseDown, State.link_countPort]
  have settled : Table.risingFrom none (((s.farewell p cause).updLane p (·.away next)).settlePause p).links = true :=
    State.rising_settlePause (s := (s.farewell p cause).updLane p (·.away next)) said p
  generalize told : ((((s.farewell p cause).updLane p (·.away next)).settlePause p).shutLink p cause).portState p (s.link p).st = t
  have rising' : Table.risingFrom none t.links = true := by
    rw [← told, State.portState_links]
    exact Table.rising_set _ p _ settled
  have link' : t.link k = s.link k := by
    rw [← told, ← link k other]
    simp [State.shutLink, other]
  have kept := ((Traffic.refl t).dropControl p).link k (.inr rising')
  rw [← link']
  exact (congrArg Link.st kept :)

/-- INIT_TIMEOUT of a port whose timers run (R128), where the keys of `links` rise. -/
theorem exec_initTimeout_of_rising {s : State} {p : Nat} (rising : Table.risingFrom none s.links = true) (init : (s.link p).st = .init)
    (runs : (s.link p).pauseAt = none) :
    ∃ t, exec (.initTimeout p) s = .next t ∧ (t.link p).st = .down ∧ (t.link p).lastDown = 5
      ∧ ∀ k, k ≠ p → (t.link k).st = (s.link k).st := by
  have notDown : (s.link p).st ≠ .down := by rw [init]; exact nofun
  obtain ⟨st, lastDown, -⟩ := State.declareDown_retries (cause := 5) notDown (by decide)
  exact ⟨_, congrArg Host.Outcome.next (if_pos ⟨init, by rw [runs]; rfl⟩), st, lastDown,
    fun k other => State.declareDown_others_of_rising rising notDown 5 .retryWait other⟩

/-! LINK_CELL_TRANSMIT (O18) -/

/-- At port 0, which is UP with a credit, the last cell of a packet waits in an egress stage, and `outputs` holds two entries for it. -/
def twoStages : State :=
  { State.reset with
    lanes := [(0, { st := .laneUp, txReady := true })], links := [(0, { st := .up, credits := [(0, 1)] })]
    outputs := [(0, { egress := [{ vc := 0, last := true }] }), (0, { egress := [{}] })] }

theorem twoStages_linkCellTransmit : ∃ t, exec (.linkCellTransmit 0) twoStages = .next t ∧ (t.output 0).egress = [{}] :=
  ⟨_, rfl, by decide +kernel⟩

/-- Refutes O18: with its one cell sent the output of port 0 is the default one, so its entry is erased, and the stage reads as that of the
entry behind it, where the clause for a new sequenced cell says that it is empty.  The clause holds where the keys of `outputs` rise
(`exec_linkCellTransmit_of_rising`). -/
theorem not_linkTransmits : ¬ Obligations.LinkTransmits := by
  unfold Obligations.LinkTransmits
  rintro ⟨-, -, sequenced, -⟩
  obtain ⟨t, answers, -, -, egress, -⟩ := sequenced twoStages 0 0 { vc := 0, last := true } (by decide +kernel) (by decide +kernel)
    (by decide +kernel) (by decide +kernel) (by decide +kernel) (by decide +kernel) (by decide +kernel) (by decide +kernel)
    (by decide +kernel) rfl (by decide +kernel)
  obtain ⟨u, answers', uncovered⟩ := twoStages_linkCellTransmit
  rw [exec_next_unique answers answers', show xIdx 0 = 0 from rfl, uncovered] at egress
  revert egress
  decide +kernel

/-- A report of credits moves neither the state of a link, nor its sequence, nor what it keeps to send again. -/
theorem Link.nextReport_keeps (k : Link) : k.nextReport.1.st = k.st ∧ k.nextReport.1.nextSeq = k.nextSeq
    ∧ k.nextReport.1.replay = k.replay ∧ k.nextReport.1.again = k.again := by
  have report : k.takeReport.1.st = k.st ∧ k.takeReport.1.nextSeq = k.nextSeq ∧ k.takeReport.1.replay = k.replay
      ∧ k.takeReport.1.again = k.again := by
    unfold Link.takeReport
    dsimp only
    split <;> exact ⟨rfl, rfl, rfl, rfl⟩
  unfold Link.nextReport
  split
  · exact ⟨rfl, rfl, rfl, rfl⟩
  · exact ⟨rfl, rfl, rfl, rfl⟩
  · exact report

section
variable {s : State} {p : Nat}

/-- One cell leaves (R111): what the outbox and the link show of it. -/
structure Sends (p : Nat) (lseq : BitVec 12) (ty : CellType) (vc : Nat) (s t : State) : Prop where
  out     : ∃ c, t.out = s.closing p ++ .cell p c :: s.out ∧ c.lseq = lseq ∧ c.vc = BitVec.ofNat 6 vc ∧ c.type = ty
  inputs  : t.inputs = s.inputs
  outputs : t.outputs = s.outputs
  st      : (t.link p).st = (s.link p).st
  nextSeq : (t.link p).nextSeq = (s.link p).nextSeq
  replay  : (t.link p).replay = (s.link p).replay
  again   : (t.link p).again = (s.link p).again

theorem State.sendCell_sends (notDown : (s.link p).st ≠ .down) (lseq : BitVec 12) (ty : CellType) (vc : Nat) (body : BitVec 1024) :
    Sends p lseq ty vc s (s.sendCell p lseq ty vc body) := by
  obtain ⟨st, nextSeq, replay, again⟩ := (s.link p).nextReport_keeps
  have link : ∃ k : Link, (s.sendCell p lseq ty vc body).link p = k ∧ k.st = (s.link p).st ∧ k.nextSeq = (s.link p).nextSeq
      ∧ k.replay = (s.link p).replay ∧ k.again = (s.link p).again :=
    ⟨_, State.link_setLink_same s p _ (Link.ne_default_of_st fun down => notDown (st.symm.trans down)), st, nextSeq, replay, again⟩
  obtain ⟨k, read, st', nextSeq', replay', again'⟩ := link
  exact ⟨⟨_, rfl, rfl, rfl, rfl⟩, rfl, rfl, read ▸ st', read ▸ nextSeq', read ▸ replay', read ▸ again'⟩

theorem Sends.trackWire {t : State} {lseq : BitVec 12} {ty : CellType} {vc : Nat} (h : Sends p lseq ty vc s t) (e : EgCell) :
    Sends p lseq ty vc s (t.trackWire p e) := by
  unfold State.trackWire
  split
  · exact h
  · exact ⟨h.out, h.inputs, h.outputs, h.st, h.nextSeq, h.replay, h.again⟩

theorem Sends.countPort {t : State} {lseq : BitVec 12} {ty : CellType} {vc e : Nat} (h : Sends p lseq ty vc s t) :
    Sends p lseq ty vc s (t.countPort p e) :=
  ⟨h.out, h.inputs, h.outputs, h.st, h.nextSeq, h.replay, h.again⟩

theorem Sends.ite {t u : State} {lseq : BitVec 12} {ty : CellType} {vc : Nat} {c : Prop} [Decidable c] (ht : Sends p lseq ty vc s t)
    (hu : Sends p lseq ty vc s u) : Sends p lseq ty vc s (if c then t else u) := by
  split
  · exact ht
  · exact hu

theorem State.output_updOutput_of_rising (rising : Table.risingFrom none s.outputs = true) (o : Nat) (f : Output → Output) :
    (s.updOutput o f).output o = f (s.output o) :=
  Table.get_set_rising ({} : Output) o (f (s.output o)) rising

@[simp] theorem State.link_settleDeficit (s : State) (o c k : Nat) : (s.settleDeficit o c).link k = s.link k := by
  unfold State.settleDeficit; split <;> rfl
@[simp] theorem State.settleDeficit_inputs (s : State) (o c : Nat) : (s.settleDeficit o c).inputs = s.inputs := by
  unfold State.settleDeficit; split <;> rfl
@[simp] theorem State.settleDeficit_out (s : State) (o c : Nat) : (s.settleDeficit o c).out = s.out := by
  unfold State.settleDeficit; split <;> rfl

/-- A deficit that is settled leaves the egress stage as it is. -/
theorem State.egress_settleDeficit (rising : Table.risingFrom none s.outputs = true) (o c : Nat) :
    ((s.settleDeficit o c).output o).egress = (s.output o).egress := by
  unfold State.settleDeficit
  split
  · rw [State.output_updOutput_of_rising rising]
  · rfl

theorem State.transmit_sequenced {n : Nat} (ready : (s.lane p).txReady = true) (up : (s.lane p).st = .laneUp)
    (noControl : (s.link p).ctlQ = []) (noBypass : (s.link p).bypassQ = []) (running : (s.link p).st.running = true)
    (noReplay : (s.link p).replayAt = none) (room : (s.link p).occupied < replayRoom p) (picked : s.pickCell p = some n) :
    s.transmit p = s.sendEgress p n := by
  simp [State.transmit, ready, up, noControl, noBypass, running, noReplay, room, picked]

/-- The slot that an offered cell takes in the replay buffer (R118). -/
def EgCell.slot (e : EgCell) (seq : BitVec 12) : RCell :=
  { seq := seq, vc := e.vc, pid := e.pid, first := e.first, last := e.last, body := e.body, mark := e.mark, abort := e.abort
    total := e.total, inp := e.inp, stamp := e.stamp, moved := e.moved }

theorem LinkCell.isData_of_type {c : LinkCell} {first last : Bool} (type : c.type = dataType first last) : c.isData = true := by
  unfold LinkCell.isData
  rw [type]
  cases first <;> cases last <;> rfl

/-- Offered cell `n` leaves as a new sequenced cell: it takes the next sequence number, stays in the replay buffer, and leaves the egress
stage (R111, R118). -/
structure SendsNew (p n : Nat) (e : EgCell) (s t : State) : Prop where
  nextSeq : (t.link p).nextSeq = (s.link p).nextSeq + 1
  replay  : (t.link p).replay = (s.link p).replay ++ [e.slot (s.link p).nextSeq]
  egress  : (t.output (xIdx p)).egress = (s.output (xIdx p)).egress.eraseIdx n
  inputs  : t.inputs = s.inputs
  out     : ∃ c, t.out = s.closing p ++ .cell p c :: s.out ∧ c.lseq = (s.link p).nextSeq ∧ c.vc = BitVec.ofNat 6 e.vc
    ∧ c.isData = true

theorem State.sendEgress_of_rising {n : Nat} {e : EgCell} (rising : Table.risingFrom none s.outputs = true)
    (notDown : (s.link p).st ≠ .down) (offered : (s.offered p)[n]? = some e) (data : e.abort = none) (fresh : (s.link p).again = []) :
    SendsNew p n e s (s.sendEgress p n) := by
  unfold State.sendEgress
  extract_lets o k old
  split
  · next missing => rw [offered] at missing; cases missing
  next e' found =>
  obtain rfl : e = e' := Option.some.inj (offered.symm.trans found)
  extract_lets c s₁ gated s₂ s₃ s₄ s₅
  have sent : Sends p k.nextSeq (dataType e.first e.last) e.vc s s₁ := by
    refine Sends.trackWire ?_ e
    simp only [State.sendSlot, c, data]
    exact State.sendCell_sends notDown ..
  have counted : Sends p k.nextSeq (dataType e.first e.last) e.vc s s₂ := .ite sent.countPort sent
  clear_value s₁ s₂
  have link : (s₃.link p).nextSeq = k.nextSeq + 1 ∧ (s₃.link p).replay = k.replay ++ [c] := by
    have read : s₃.link p = _ := State.link_updLink_same s₂ p _ (Link.ne_default_of_st (by
      show (if e.abort.isNone then (s₂.link p).spend e.vc else s₂.link p).st ≠ .down
      rw [data]
      exact fun down => notDown (counted.st.symm.trans down)))
    rw [read]
    exact ⟨by rw [counted.nextSeq], by rw [counted.replay]⟩
  have rising₂ : Table.risingFrom none s₂.outputs = true := by rwa [counted.outputs]
  have stage : (s₄.output o).egress = (s.output o).egress.eraseIdx n := by
    have same : s₃.output o = s.output o := by
      show Table.get {} s₂.outputs o = Table.get {} s.outputs o
      rw [counted.outputs]
    rw [State.output_updOutput_of_rising (s := s₃) rising₂, same]
    simp [old, k, fresh]
  have rising₄ : Table.risingFrom none s₄.outputs = true := Table.rising_set _ o _ rising₂
  have links : s₄.link p = s₃.link p := rfl
  have inputs : s₄.inputs = s.inputs := counted.inputs
  have out : s₄.out = s₂.out := rfl
  have done : s₅ = (s₄.countPort p 0).countOut o e.cls := by simp only [s₅, data, Option.isNone_none, if_true]
  clear_value s₅ s₄ s₃
  subst done
  obtain ⟨cell, sends, lseq, vc, type⟩ := counted.out
  refine ⟨?_, ?_, ?_, by simp [inputs], cell, by simpa [out] using sends, lseq, vc, LinkCell.isData_of_type type⟩
  · simp [links, link.1, k]
  · simp [links, link.2, k, c, EgCell.slot]
  · rw [State.egress_settleDeficit (by simpa using rising₄), State.output_countOut, State.output_countPort, stage]

end

/-- LINK_CELL_TRANSMIT of a cell that the egress stage offers (R111, R114, R118), where the keys of `outputs` rise. -/
theorem exec_linkCellTransmit_of_rising {s : State} {p n : Nat} {e : EgCell} (rising : Table.risingFrom none s.outputs = true)
    (ready : (s.lane p).txReady = true) (up : (s.lane p).st = .laneUp) (noControl : (s.link p).ctlQ = [])
    (noBypass : (s.link p).bypassQ = []) (running : (s.link p).st.running = true) (noReplay : (s.link p).replayAt = none)
    (room : (s.link p).occupied < replayRoom p) (picked : s.pickCell p = some n) (offered : (s.offered p)[n]? = some e)
    (data : e.abort = none) (fresh : (s.link p).again = []) :
    ∃ t, exec (.linkCellTransmit p) s = .next t ∧ SendsNew p n e s t :=
  ⟨_, congrArg Host.Outcome.next (State.transmit_sequenced ready up noControl noBypass running noReplay room picked),
    State.sendEgress_of_rising rising (LinkSt.notDown_of_running running) offered data fresh⟩

/-! FLUSH (O21) -/

/-- An operator's session is open, and `links` holds two entries for port 3: a DOWN one with nothing but a cell to be sent again, and
behind it one that is UP. -/
def twoFlushed : State :=
  { State.reset with
    boot := .up, rolesOn := true, holds := [], mgmt := { sessions := [(0, { st := .opened, role := .operator })] }
    links := [(3, { again := [{}] }), (3, { st := .up })] }

theorem twoFlushed_flush : ∃ t, exec (.flush { seq := 1 } 3 1) twoFlushed = .next t ∧ (t.link 3).st = .up :=
  ⟨_, rfl, by decide +kernel⟩

/-- Refutes O21: without the cell to be sent again the link of port 3 is the default one, so its entry is erased, and the link reads as UP
by the entry behind it, where the clause for FLUSH says DOWN.  The clause holds where the keys of `links` rise
(`exec_flush_of_rising`). -/
theorem not_replayAndFlush : ¬ Obligations.ReplayAndFlush := by
  unfold Obligations.ReplayAndFlush
  rintro ⟨-, -, flushes, -⟩
  obtain ⟨t, answers, -, -, -, down, -⟩ := flushes twoFlushed { seq := 1 } .operator 3 1 (by decide +kernel) (by decide +kernel)
    (by decide +kernel)
  obtain ⟨u, answers', up⟩ := twoFlushed_flush
  rw [exec_next_unique answers answers', up] at down
  cases down

theorem State.link_settleDeficits (s : State) (o k : Nat) : (s.settleDeficits o).link k = s.link k := by
  unfold State.settleDeficits
  generalize List.range 8 = classes
  induction classes generalizing s with
  | nil => rfl
  | cons c classes ih => rw [List.foldl_cons, ih, State.link_settleDeficit]

/-- A packet that a flush discards from an input (R138). -/
theorem Traffic.discardQueued {s t : State} (h : Traffic s t) (p x : Nat) (k : VPkt) :
    Traffic s ((((t.updInput x (·.drop k.stamp)).creditsBack x k.inVc k.cells.length).countPort p (18 + k.hdr.cls.toNat)).redirect x
      k.stamp .drop) :=
  ((h.updInput.creditsBack x k.inVc k.cells.length).countPort p _).redirect x k.stamp .drop

/-- What a flush makes of its port, beside what packets move (R138, R124). -/
theorem State.flushPort_flushes {s : State} (rising : Table.risingFrom none s.links = true) (p : Nat) :
    ((s.flushPort p).link p).flushing = true ∧ ((s.flushPort p).link p).replay = []
      ∧ ((s.flushPort p).link p).epochNo = (s.link p).epochNo + 1 ∧ ((s.flushPort p).link p).st = (s.link p).st
      ∧ (s.flushPort p).lanes = s.lanes := by
  unfold State.flushPort
  extract_lets o s₁ s₂ s₃ s₄
  have begun : Traffic s s₁ := by
    refine Traffic.foldl (fun u i hu => ?_) _ (.refl s)
    exact (hu.discardBegun o i.1).countPort p (18 + i.2)
  have staged : Traffic s s₂ := begun.updOutput
  clear_value s₁ s₂
  have queued : Traffic s s₃ := by
    refine Traffic.foldl (fun u x hu => Traffic.foldl (fun w k hw => ?_) _ hu) _ staged
    exact hw.discardQueued p x k
  clear_value s₃
  have partials : Traffic s s₄ := queued.abortAll p 3 _
  clear_value s₄
  have kept := partials.link p (.inr rising)
  have epochNo : (s₄.link p).epochNo = (s.link p).epochNo := (congrArg Link.epochNo kept :)
  have lanes : ∀ t, (State.settleDeficits t o).lanes = t.lanes := fun t => ((Traffic.refl t).settleDeficits o).lanes
  rw [State.link_settleDeficits, State.link_updLink_same _ _ _ (fun e => by simpa using congrArg Link.flushing e), lanes]
  exact ⟨rfl, rfl, congrArg (· + 1) epochNo, (congrArg Link.st kept :), partials.lanes⟩

/-- FLUSH that the server accepts on a DOWN link (R138, R140), where the keys of `links` rise. -/
theorem exec_flush_of_rising {s : State} {q : Req} {role : Role} {p : Nat} {v : Image} (rising : Table.risingFrom none s.links = true)
    (accepted : s.mayWrite q role R.linkCtl p 0 v = true) (flush : bit v 0 = true) (down : (s.link p).st = .down) :
    ∃ t, exec (.flush q p v) s = .next t ∧ (t.link p).flushing = true ∧ (t.link p).replay = []
      ∧ (t.link p).epochNo = (s.link p).epochNo + 1 ∧ (t.link p).st = .down ∧ t.lanes = s.lanes := by
  obtain ⟨b, a, au, an, sf, m, tw, o, c, tt, bu, ho, run⟩ := State.dictRun_accepted accepted
    (fun s => if bit v 0 ∧ (s.link p).st ≠ .down then some .busy else none)
    (fun s => if bit v 0 then (s.flushPort p, none) else (s, some .ok))
    (fun _ _ _ _ _ => if_neg fun ⟨_, up⟩ => up (by simpa using down))
  rw [if_pos flush] at run
  have flushes := State.flushPort_flushes (s := (s.taken b a au an sf).storeVal R.linkCtl p 0 v) (by simpa using rising) p
  refine ⟨_, congrArg Host.Outcome.next run, ?_⟩
  simpa [down] using flushes

end Sys2Proof.Machine
end

section
/-! A token of the scheduler with one eligible request (family 05, switch core). -/

namespace Sys2Proof.Machine

/-! Tables whose keys rise -/

theorem State.output_setOutput_of_rising {s : State} (rising : Table.risingFrom none s.outputs = true) (o : Nat) (x : Output) :
    (s.setOutput o x).output o = x :=
  Table.get_set_rising ({} : Output) o x rising

theorem State.input_updInput_of_rising {s : State} (rising : Table.risingFrom none s.inputs = true) (i : Nat) (f : InBuf → InBuf) :
    (s.updInput i f).input i = f (s.input i) :=
  Table.get_set_rising ({} : InBuf) i (f (s.input i)) rising

/-! One request: the grant order (R206) -/

/-- Among the numbers below `n`, the one that meets a condition that only it meets. -/
theorem filter_range_sole {n c : Nat} {p : Nat → Bool} (below : c < n) (sole : ∀ j, p j = true ↔ j = c) :
    (List.range n).filter p = [c] := by
  induction n with
  | zero => cases below
  | succ n ih =>
    rw [List.range_succ, List.filter_append]
    rcases Nat.lt_succ_iff_lt_or_eq.1 below with lower | rfl
    · have last : p n ≠ true := fun holds => Nat.ne_of_gt lower ((sole n).1 holds)
      rw [ih lower, List.filter_cons_of_neg last, List.filter_nil, List.append_nil]
    · have earlier : (List.range c).filter p = [] :=
        List.filter_eq_nil_iff.2 fun j listed holds => Nat.ne_of_lt (List.mem_range.1 listed) ((sole j).1 holds)
      rw [earlier, List.filter_cons_of_pos ((sole c).2 rfl), List.filter_nil, List.nil_append]

theorem eraseDups_append_sole {l : List Nat} {c : Nat} (same : ∀ x ∈ l, x = c) : (l ++ [c]).eraseDups = [c] := by
  cases l with
  | nil => rfl
  | cons x l =>
    obtain ⟨rfl, same⟩ := List.forall_mem_cons.1 same
    have noOther : (l ++ [x]).filter (fun y => !y == x) = [] := by
      rw [List.filter_eq_nil_iff]
      intro y listed
      have equal : y = x := (List.mem_append.1 listed).elim (same y) List.mem_singleton.1
      simp [equal]
    rw [List.cons_append, List.eraseDups_cons, noOther, List.eraseDups_nil]

section
variable {s : State} {r : Request}

/-- The only request of an output, of a strict class that neither its shaper nor its gate holds, is all of its grant order; no deficit is
replenished. -/
theorem State.present_sole (cls : r.cls < 8) (strict : s.strict r.out r.cls = true) (unshaped : s.shaped r.out r.cls = false)
    (open_ : s.gateOpen r.out r.cls = true) : s.present r.out [r] = (s.setOutput r.out (s.output r.out), [r.cls]) := by
  have asked : ∀ c, [r].any (fun q => q.out = r.out && q.cls = c) = true ↔ c = r.cls := fun c => by simp [eq_comm]
  have strictOnes : (List.range 8).filter (fun c => s.strict r.out c && ([r].any (fun q => q.out = r.out && q.cls = c)
      && !s.shaped r.out c && s.gateOpen r.out c)) = [r.cls] := by
    refine filter_range_sole cls fun c => ?_
    simp only [Bool.and_eq_true, asked]
    constructor
    · rintro ⟨-, ⟨same, -⟩, -⟩
      exact same
    · rintro rfl
      exact ⟨strict, ⟨rfl, by rw [unshaped]; rfl⟩, open_⟩
  have noDeficit : (List.range 8).filter (fun c => !s.strict r.out c && ([r].any (fun q => q.out = r.out && q.cls = c)
      && !s.shaped r.out c && s.gateOpen r.out c)) = [] := by
    rw [List.filter_eq_nil_iff]
    intro c _
    simp only [Bool.and_eq_true, asked]
    rintro ⟨notStrict, ⟨rfl, -⟩, -⟩
    rw [strict] at notStrict
    cases notStrict
  have continued : ∀ c ∈ (s.contClasses r.out).filter (fun c => [r].any (fun q => q.out = r.out && q.cls = c)), c = r.cls :=
    fun c listed => (asked c).1 (List.mem_filter.1 listed).2
  have noneServed : ∀ l : List Nat, l.filter (fun _ => false) = [] := fun l => List.filter_eq_nil_iff.2 fun _ _ => Bool.false_ne_true
  unfold State.present
  dsimp only
  rw [strictOnes, noDeficit]
  simp only [List.isEmpty_nil, Bool.not_true, Bool.false_and, Bool.false_eq_true, if_false, List.contains_nil, noneServed,
    List.append_nil, eraseDups_append_sole continued]

/-! One request: the match (R155) -/

/-- A pointer that goes round the 61 indices finds the only one that meets the condition. -/
theorem firstFrom_sole (a : Nat) {i : Nat} {p : Nat → Bool} (below : i < 61) (sole : ∀ j, p j = true ↔ j = i) : firstFrom a p = some i := by
  unfold firstFrom
  cases found : ((List.range 61).map (fun j => (a + j) % 61)).find? p with
  | none =>
    have passed : i ∈ (List.range 61).map (fun j => (a + j) % 61) :=
      List.mem_map.2 ⟨(i + 61 - a % 61) % 61, List.mem_range.2 (Nat.mod_lt _ (by decide)), by omega⟩
    exact absurd ((sole i).2 rfl) (List.find?_eq_none.1 found i passed)
  | some j => rw [(sole j).1 (List.find?_some found)]

/-- The match of a request. -/
def Request.toMatch (r : Request) : Match := { inp := r.inp, out := r.out, cls := r.cls }

/-- The pointers of a match made in the first iteration pass it (R155). -/
def State.passPointers (s : State) (r : Request) : State :=
  (s.updOutput r.out (fun x => { x with gptr := Table.set 0 x.gptr r.cls ((r.inp + 1) % 61) })).updInput r.inp
    (fun b => { b with aptr := (r.out + 1) % 61 })

theorem sortNat_eraseDups_singleton (n : Nat) : sortNat [n].eraseDups = [n] := by
  rw [List.eraseDups_cons, List.filter_nil, List.eraseDups_nil]
  rfl

theorem State.find_passPointers (rising : Table.risingFrom none s.inputs = true) (r : Request) :
    ((s.passPointers r).input r.inp).find r.stamp = (s.input r.inp).find r.stamp := by
  have read : (s.passPointers r).input r.inp = { s.input r.inp with aptr := (r.out + 1) % 61 } :=
    State.input_updInput_of_rising (s := s.updOutput r.out _) rising r.inp _
  rw [read, InBuf.find, InBuf.find]

theorem State.egress_passPointers (rising : Table.risingFrom none s.outputs = true) (r : Request) :
    ((s.passPointers r).output r.out).egress = (s.output r.out).egress := by
  rw [State.passPointers, State.output_updInput, State.output_updOutput_of_rising rising]

/-- The only request is granted and accepted in the first iteration. -/
theorem State.iterate_first (inp : r.inp < 61) (out : r.out < 61) :
    s.iterate [r] [(r.out, [r.cls])] true [] = (s.passPointers r, [r.toMatch]) := by
  have grant : ∀ a, firstFrom a (fun i => (!([] : List Match).any (fun m => m.inp = i))
      && [r].any (fun q => q.inp = i && q.out = r.out && q.cls = r.cls)) = some r.inp :=
    fun a => firstFrom_sole a inp fun i => by simp [eq_comm]
  have accept : ∀ a, firstFrom a (fun j => r.out = j) = some r.out := fun a => firstFrom_sole a out fun j => by simp [eq_comm]
  unfold State.iterate
  simp only [List.filterMap_cons, List.filterMap_nil, List.findSome?_cons, grant]
  simp [sortNat_eraseDups_singleton, accept, State.passPointers, Request.toMatch]

/-- A later iteration finds its output taken. -/
theorem State.iterate_later : s.iterate [r] [(r.out, [r.cls])] false [r.toMatch] = (s, [r.toMatch]) := by
  simp [State.iterate, Request.toMatch, sortNat, sortBy]

/-- A token with one eligible request, of a strict class that no shaper and no gate holds: the pointers pass the match, and its cell
crosses. -/
theorem State.token_sole (sole : s.requests = [r]) (inp : r.inp < 61) (out : r.out < 61) (cls : r.cls < 8)
    (strict : s.strict r.out r.cls = true) (unshaped : s.shaped r.out r.cls = false) (open_ : s.gateOpen r.out r.cls = true) :
    s.token = (((s.setOutput r.out (s.output r.out)).passPointers r).cross [r] r.toMatch).countDev 0 := by
  unfold State.token
  simp [sole, sortNat_eraseDups_singleton, State.present_sole cls strict unshaped open_, State.iterate_first inp out, State.iterate_later]

theorem State.token_none (idle : s.requests = []) : s.token = s.countDev 0 := by
  simp [State.token, idle, State.iterate, sortNat, sortBy]

/-! The crossing (R153) -/

/-- A credit that goes back moves nothing but links. -/
theorem State.creditBack_eq (s : State) (x vc : Nat) : ∃ links, s.creditBack x vc = { s with links := links } := by
  unfold State.creditBack State.creditBackOf
  (repeat' split) <;> exact ⟨_, rfl⟩

/-- A charge moves deficit, pointer and level of its output, and a counter. -/
theorem State.charge_eq (s : State) (o c l : Nat) :
    ∃ x, x.egress = (s.output o).egress ∧ s.charge o c l = (s.setOutput o x).countOut o (8 + c) l := by
  unfold State.charge
  extract_lets x d next served shaped
  have deficit : served.egress = x.egress := by
    unfold served
    split <;> rfl
  have level : shaped.egress = served.egress := by
    unfold shaped
    split <;> rfl
  exact ⟨shaped, level.trans deficit, rfl⟩

/-- The head cell of packet `k`, which the request `r` names, stands at the end of the egress stage, and the packet leaves its input with
its last cell (R153, R154). -/
structure Crosses (r : Request) (k : VPkt) (s t : State) : Prop where
  lanes  : t.lanes = s.lanes
  dict   : t.dict = s.dict
  leaves : k.sent + 1 = k.total → (t.input r.inp).find r.stamp = none
  staged : ∃ e, (t.output r.out).egress = (s.output r.out).egress ++ [e] ∧ e.vc = k.vc ∧ e.cls = r.cls ∧ e.first = (k.sent == 0)
    ∧ e.last = (k.sent + 1 == k.total) ∧ e.total = k.total ∧ e.abort = none

theorem InBuf.find_drop (b : InBuf) (stamp : Nat) : (b.drop stamp).find stamp = none := by
  simp [InBuf.find, InBuf.drop]

/-- A charge leaves what has crossed where it is. -/
theorem Crosses.charge {k : VPkt} {t : State} (h : Crosses r k s t) (rising : Table.risingFrom none t.outputs = true) (c l : Nat) :
    Crosses r k s (t.charge r.out c l) := by
  obtain ⟨x, stage, charged⟩ := t.charge_eq r.out c l
  have read : ((t.charge r.out c l).output r.out).egress = (t.output r.out).egress := by
    rw [charged, State.output_countOut, State.output_setOutput_of_rising rising, stage]
  rw [charged] at read ⊢
  exact ⟨h.lanes, h.dict, h.leaves, read ▸ h.staged⟩

/-- The only request's match crosses its packet's head cell. -/
theorem State.cross_sole {k : VPkt} {b : BitVec 1024} {rest : List (BitVec 1024)} (risingIn : Table.risingFrom none s.inputs = true)
    (risingOut : Table.risingFrom none s.outputs = true) (found : (s.input r.inp).find r.stamp = some k) (cells : k.cells = b :: rest) :
    Crosses r k s (s.cross [r] r.toMatch) := by
  have request : [r].find? (fun q => q.inp = r.toMatch.inp && q.out = r.toMatch.out && q.cls = r.toMatch.cls) = some r := by
    simp [Request.toMatch]
  unfold State.cross
  split
  · next missing => rw [request] at missing; cases missing
  next q named =>
  obtain rfl : r = q := Option.some.inj (request.symm.trans named)
  split
  · next missing => rw [found] at missing; cases missing
  next k' here =>
  obtain rfl : k = k' := Option.some.inj (found.symm.trans here)
  split
  · next missing => rw [cells] at missing; cases missing
  next b' rest' head =>
  extract_lets first last key x pid body x' s₁ s₂ s₃
  obtain ⟨lanes, dict⟩ : s₂.lanes = s.lanes ∧ s₂.dict = s.dict := by unfold s₂; split <;> exact ⟨rfl, rfl⟩
  have outputs : s₂.outputs = s₁.outputs := by unfold s₂; split <;> rfl
  have leaves : k.sent + 1 = k.total → (s₂.input r.inp).find r.stamp = none := fun done => by
    have isLast : last = true := beq_iff_eq.2 done
    unfold s₂
    rw [if_pos isLast, State.input_updInput_of_rising (s := s₁) risingIn, InBuf.find_drop]
  have risingOut₂ : Table.risingFrom none s₂.outputs = true := outputs ▸ Table.rising_set _ _ _ risingOut
  have stage : (s₂.output r.out).egress = x'.egress := by
    rw [State.output, outputs]
    exact congrArg Output.egress (State.output_setOutput_of_rising risingOut r.out x')
  have crossed : Crosses r k s s₂ := ⟨lanes, dict, leaves, _, stage, rfl, rfl, rfl, rfl, rfl, rfl⟩
  obtain ⟨links, credited⟩ := s₂.creditBack_eq r.inp k.inVc
  have returned : Crosses r k s s₃ := by
    unfold s₃
    rw [credited]
    exact ⟨crossed.lanes, crossed.dict, crossed.leaves, crossed.staged⟩
  have risingOut₃ : Table.risingFrom none s₃.outputs = true := by
    unfold s₃
    rw [credited]
    exact risingOut₂
  split
  · exact returned.charge risingOut₃ ..
  · exact returned

/-- What the token writes before the crossing, the output as it was and the pointers, leaves stages and packets alone. -/
theorem Crosses.of_passPointers {k : VPkt} {t : State} (risingOut : Table.risingFrom none s.outputs = true)
    (h : Crosses r k ((s.setOutput r.out (s.output r.out)).passPointers r) t) : Crosses r k s t := by
  have stage : (((s.setOutput r.out (s.output r.out)).passPointers r).output r.out).egress = (s.output r.out).egress := by
    rw [State.egress_passPointers (Table.rising_set _ _ _ risingOut), State.output_setOutput_of_rising risingOut]
  exact ⟨h.lanes, h.dict, h.leaves, stage ▸ h.staged⟩

end

/-- Settles O22: no request makes no match, and the only one is granted, accepted and crosses. -/
theorem tokenMovesOnePacketHead : Obligations.TokenMovesOnePacketHead := by
  unfold Obligations.TokenMovesOnePacketHead
  refine ⟨fun s u started idle => ?_, ?_⟩
  · show Host.Outcome.next s.tokenStart.token = _
    rw [started, State.token_none idle]
  · intro s u r k b rest started sole inp out cls found cells _ strict unshaped open_ risingIn risingOut
    refine ⟨s.tokenStart.token, rfl, ?_⟩
    rw [started, State.token_sole sole inp out cls strict unshaped open_]
    have waits : (((u.setOutput r.out (u.output r.out)).passPointers r).input r.inp).find r.stamp = some k :=
      (State.find_passPointers (s := u.setOutput r.out (u.output r.out)) risingIn r).trans found
    have crossed := (State.cross_sole (Table.rising_set _ _ _ risingIn) (Table.rising_set _ _ _ (Table.rising_set _ _ _ risingOut)) waits
      cells).of_passPointers risingOut
    exact ⟨crossed.lanes, crossed.dict, crossed.leaves, crossed.staged⟩

end Sys2Proof.Machine
end

section
/-! The running averages of outputs and classes (family 05, switch core). -/

namespace Sys2Proof.Machine

/-- The average that follows `a` where the backlog is `b` and WEIGHT is `w` (R159). -/
def nextAverage (a b w : Nat) : Nat := (a * 2 ^ w + 256 * b - a) / 2 ^ w

theorem nextAverage_idle (w : Nat) : nextAverage 0 0 w = 0 := by simp [nextAverage]

/-- The model subtracts among the integers; the difference is never negative. -/
theorem toNat_nextAverage (a b w : Nat) :
    (((a : Int) * 2 ^ w + ((b * 256 : Nat) : Int) - (a : Int)) / 2 ^ w).toNat = nextAverage a b w := by
  have below : a ≤ a * 2 ^ w + 256 * b := Nat.le_add_right_of_le (Nat.le_mul_of_pos_right a (Nat.two_pow_pos w))
  have numerator : (a : Int) * 2 ^ w + ((b * 256 : Nat) : Int) - (a : Int) = ((a * 2 ^ w + 256 * b - a : Nat) : Int) := by
    rw [Int.natCast_sub below, Nat.mul_comm b 256, Int.natCast_add, Int.natCast_mul a, Int.natCast_pow]
    rfl
  have weight : (2 : Int) ^ w = ((2 ^ w : Nat) : Int) := (Int.natCast_pow 2 w).symm
  rw [numerator, weight, ← Int.natCast_ediv, Int.toNat_natCast, nextAverage]

/-- An output whose class `c` has a new average and backlog. -/
def Output.averaged (x : Output) (c v b : Nat) : Output :=
  { x with avg := Table.set 0 x.avg c v, bLast := Table.set 0 x.bLast c b }

/-- What RED_AVG_UPDATE does for one output and class (R159). -/
def State.redStep (s : State) (o c : Nat) : State :=
  if s.backlog o c = 0 ∧ Table.get 0 (s.output o).avg c = 0 ∧ Table.get 0 (s.output o).bLast c = 0 then s
  else s.updOutput o (·.averaged c (nextAverage (Table.get 0 (s.output o).avg c) (s.backlog o c) (fldN (s.reg R.congMode 0 c) 7 4))
    (s.backlog o c))

/-- What RED_AVG_UPDATE does for one output (R159). -/
def State.redOutput (s : State) (o : Nat) : State := (List.range 8).foldl (fun t c => t.redStep o c) s

theorem State.redUpdate_eq (s : State) : s.redUpdate = (List.range 61).foldl State.redOutput s := by
  unfold State.redUpdate
  simp only [toNat_nextAverage]
  rfl

/-- A pass over a list that holds `x` once: its own step leads from `P` to `Q`, and the other steps keep both. -/
theorem foldl_once {β : Type} {f : State → β → State} {P Q : State → Prop} {x : β} (own : ∀ t, P t → Q (f t x))
    (before : ∀ t y, x ≠ y → P t → P (f t y)) (after : ∀ t y, x ≠ y → Q t → Q (f t y)) {l : List β} (once : l.Nodup) (listed : x ∈ l)
    {s : State} (start : P s) : Q (l.foldl f s) := by
  induction l generalizing s with
  | nil => cases listed
  | cons y l ih =>
    obtain ⟨fresh, once⟩ := List.nodup_cons.1 once
    rw [List.foldl_cons]
    rcases List.mem_cons.1 listed with rfl | later
    · exact List.foldlRecOn l f (own s start) fun t reached z among => after t z (fun same => fresh (same ▸ among)) reached
    · exact ih once later (before s y (fun same => fresh (same ▸ later)) start)

/-- From `s` to `t` nothing that output `o` reads moves but averages, whose tables read back what is written; class `c` there has the
average `a`. -/
structure Averaged (s : State) (o c a : Nat) (t : State) : Prop where
  inputs    : t.inputs = s.inputs
  dict      : t.dict = s.dict
  egress    : (t.output o).egress = (s.output o).egress
  rising    : Table.risingFrom none t.outputs = true
  risingAvg : Table.risingFrom none (t.output o).avg = true
  avg       : Table.get 0 (t.output o).avg c = a

section
variable {s t : State} {o c a : Nat}

theorem Averaged.backlog (h : Averaged s o c a t) : t.backlog o c = s.backlog o c := by
  simp only [State.backlog, h.inputs, h.egress]

theorem Averaged.reg (h : Averaged s o c a t) (r : Reg) (i e : Nat) : t.reg r i e = s.reg r i e := by
  simp only [State.reg, h.dict]

/-- A class of the output itself takes a new average. -/
theorem Averaged.updOutput_same (h : Averaged s o c a t) (c' v b : Nat) {a' : Nat}
    (avg : Table.get 0 (Table.set 0 (t.output o).avg c' v) c = a') : Averaged s o c a' (t.updOutput o (·.averaged c' v b)) := by
  have read : (t.updOutput o (·.averaged c' v b)).output o = (t.output o).averaged c' v b :=
    State.output_updOutput_of_rising h.rising o _
  exact ⟨h.inputs, h.dict, read ▸ h.egress, Table.rising_set _ o _ h.rising, read ▸ Table.rising_set 0 c' v h.risingAvg, read ▸ avg⟩

/-- Another output takes a new average. -/
theorem Averaged.updOutput_other (h : Averaged s o c a t) {o' : Nat} (other : o ≠ o') (f : Output → Output) :
    Averaged s o c a (t.updOutput o' f) := by
  have read : (t.updOutput o' f).output o = t.output o := State.output_updOutput_other t f other
  exact ⟨h.inputs, h.dict, read ▸ h.egress, Table.rising_set _ o' _ h.rising, read ▸ h.risingAvg, read ▸ h.avg⟩

/-- The average is left alone by the update of every other class of its output. -/
theorem Averaged.redStep_other (h : Averaged s o c a t) {c' : Nat} (other : c ≠ c') : Averaged s o c a (t.redStep o c') := by
  unfold State.redStep
  split
  · exact h
  · exact h.updOutput_same _ _ _ ((Table.get_set_other 0 _ _ other).trans h.avg)

/-- It is left alone by the updates of every other output. -/
theorem Averaged.redOutput_other (h : Averaged s o c a t) {o' : Nat} (other : o ≠ o') : Averaged s o c a (t.redOutput o') := by
  refine List.foldlRecOn _ _ h fun u hu c' _ => ?_
  unfold State.redStep
  split
  · exact hu
  · exact hu.updOutput_other other _

/-- Its own update replaces the average; where nothing is updated, the average was and stays 0. -/
theorem Averaged.redStep_same (h : Averaged s o c a t) :
    Averaged s o c (nextAverage a (s.backlog o c) (fldN (s.reg R.congMode 0 c) 7 4)) (t.redStep o c) := by
  unfold State.redStep
  rw [h.avg, h.backlog, h.reg]
  split
  · next idle =>
    obtain ⟨empty, zero, -⟩ := idle
    rw [empty, zero, nextAverage_idle]
    exact zero ▸ h
  · exact h.updOutput_same _ _ _ (Table.get_set_rising 0 c _ h.risingAvg)

/-- Each output is updated once, and each of its classes once, so RED_AVG_UPDATE replaces every average once. -/
theorem Averaged.redUpdate (h : Averaged s o c a s) (output : o < 61) (cls : c < 8) :
    Averaged s o c (nextAverage a (s.backlog o c) (fldN (s.reg R.congMode 0 c) 7 4)) s.redUpdate := by
  rw [State.redUpdate_eq]
  refine foldl_once (fun t ht => ?_) (fun _ _ other ht => ht.redOutput_other other) (fun _ _ other ht => ht.redOutput_other other)
    List.nodup_range (List.mem_range.2 output) h
  exact foldl_once (fun _ hu => hu.redStep_same) (fun _ _ other hu => hu.redStep_other other)
    (fun _ _ other hu => hu.redStep_other other) List.nodup_range (List.mem_range.2 cls) ht

end

/-- Settles O23: among the updates of all outputs and classes, each average is replaced by its own and left alone by the others. -/
theorem runningAveragesFollowBacklogs : Obligations.RunningAveragesFollowBacklogs := by
  unfold Obligations.RunningAveragesFollowBacklogs
  intro s o c a b w output cls rising risingAvg _ avg backlog weight
  have updated := (Averaged.mk rfl rfl rfl rising risingAvg avg : Averaged s o c a s).redUpdate output cls
  rw [backlog, weight] at updated
  exact ⟨_, rfl, updated.inputs, updated.egress, updated.avg⟩

end Sys2Proof.Machine
end

section
/-! Gates, their lists and their overrides (family 07, scheduling). -/

namespace Sys2Proof

/-! Elements of a list -/

theorem nthD_setNth_same {α : Type} (d y : α) {l : List α} {k : Nat} (below : k < l.length) : nthD d (setNth l k y) k = y := by
  induction l generalizing k with
  | nil => cases below
  | cons x l ih =>
    cases k with
    | zero => rfl
    | succ k => exact ih (Nat.lt_of_succ_lt_succ below)

theorem nthD_replicate {α : Type} (d : α) (n k : Nat) : nthD d (List.replicate n d) k = d := by
  induction n generalizing k with
  | zero => rfl
  | succ n ih =>
    cases k with
    | zero => rfl
    | succ k => exact ih k

end Sys2Proof

namespace Sys2Proof.Machine

/-! What an accepted write of the dictionary leaves of the device -/

/-- The device `u`, at which a write recorded at `s` takes effect, has the outputs, the time, the counting and the counters of `s`. -/
structure Recorded (s u : State) : Prop where
  outputs  : u.outputs = s.outputs
  timeQ    : u.timeQ = s.timeQ
  counting : u.counting = s.counting
  counters : u.counters = s.counters
  totals   : u.totals = s.totals

section
variable {s u : State}

theorem Recorded.output (h : Recorded s u) (p : Nat) : u.output p = s.output p := by simp only [State.output, h.outputs]
theorem Recorded.ns (h : Recorded s u) : u.ns = s.ns := by simp only [State.ns, h.timeQ]
theorem Recorded.tick (h : Recorded s u) : u.tick = s.tick := by simp only [State.tick, h.ns]

end

/-- The device `w`, which has answered where `t` took effect, has the outputs and the counting of `t`. -/
structure Answered (t w : State) : Prop where
  output   : ∀ p, w.output p = t.output p
  counting : w.counting = t.counting

/-- An accepted write that passes its own checks takes effect on the recorded device, and is answered. -/
theorem State.dictWrite_next {s : State} {q : Req} {role : Role} {r : Reg} {i e : Nat} {v : Image} {chk : State → Option Fdp}
    {eff : State → State × Fdp} {P : State → Prop} (accepted : s.mayWrite q role r i e v = true)
    (passes : ∀ b a au an sf, chk (s.taken b a au an sf) = none) (effect : ∀ u w, Recorded s u → Answered (eff u).1 w → P w) :
    ∃ t, (.next (s.dictWrite q r i e v chk eff) : Result) = .next t ∧ P t := by
  obtain ⟨b, a, au, an, sf, m, tw, o, c, tt, bu, ho, written⟩ := State.dictWrite_accepted accepted chk eff passes
  refine ⟨_, congrArg Host.Outcome.next written, effect ((s.taken b a au an sf).storeVal r i e v) _ ?_ ⟨fun _ => rfl, rfl⟩⟩
  constructor <;> unfold State.storeVal <;> split <;> rfl

/-! The gate of a port -/

/-- The gate with the open set of tick `t` applied (R222). -/
def Gate.applied (g : Gate) (t : Nat) : Gate := { g with opened := g.openAt t }

theorem State.applyGate_eq (s : State) (p : Nat) : s.applyGate p = s.updGate p (·.applied s.tick) := rfl

@[simp] theorem State.tick_updGate (s : State) (p : Nat) (f : Gate → Gate) : (s.updGate p f).tick = s.tick := rfl

/-- The open set depends on nothing that was applied before. -/
theorem Gate.opened_applied (g : Gate) (t : Nat) : (g.applied t).opened = (g.applied t).openAt t := rfl

section
variable {s : State} {p : Nat} {f : Gate → Gate}

/-- A gate that is written reads back where the outputs stand in order, or where it is not the gate of an unlisted output. -/
theorem State.output_updGate (reads : Table.risingFrom none s.outputs = true ∨ f (s.output p).gate ≠ {}) :
    (s.updGate p f).output p = { s.output p with gate := f (s.output p).gate } := by
  rcases reads with rising | listed
  · exact State.output_updOutput_of_rising rising p _
  · exact State.output_updOutput_same s p _ fun unlisted => listed (congrArg Output.gate unlisted)

/-- So does one that is written and then applied. -/
theorem State.output_updGate_applied
    (reads : Table.risingFrom none s.outputs = true ∨ ∀ opened, { f (s.output p).gate with opened := opened } ≠ ({} : Gate)) :
    ((s.updGate p f).applyGate p).output p = { s.output p with gate := (f (s.output p).gate).applied s.tick } := by
  have written : (s.updGate p f).output p = { s.output p with gate := f (s.output p).gate } :=
    State.output_updGate (reads.imp_right fun listed => listed _)
  rw [State.applyGate_eq, State.output_updGate, written, State.tick_updGate]
  rw [written]
  exact reads.imp (Table.rising_set _ p _) fun listed => listed _

end

/-- A gate that holds an override is not that of an unlisted output. -/
theorem Gate.ne_default_of_override {g : Gate} {k : Nat} (held : nthD {} g.overrides k ≠ {}) : g ≠ {} := by
  rintro rfl
  exact held (nthD_replicate ({} : Override) 4 k)

/-- The gate with override `k` replaced. -/
def Gate.withOverride (k : Nat) (o : Override) (g : Gate) : Gate := { g with overrides := setNth g.overrides k o }

/-- An override that is written in a slot of its own and applied reads back, its port's gate open as it is now. -/
theorem State.override_applied {s : State} {p k : Nat} {o : Override} (slot : k < (s.output p).gate.overrides.length)
    (reads : Table.risingFrom none s.outputs = true ∨ o ≠ {}) :
    nthD {} (((s.updGate p (·.withOverride k o)).applyGate p).output p).gate.overrides k = o
      ∧ (((s.updGate p (·.withOverride k o)).applyGate p).output p).gate.opened
        = (((s.updGate p (·.withOverride k o)).applyGate p).output p).gate.openAt s.tick := by
  have same : nthD {} ((s.output p).gate.withOverride k o).overrides k = o := nthD_setNth_same {} o slot
  rw [State.output_updGate_applied (reads.imp_right fun listed _ => Gate.ne_default_of_override (k := k) (by rwa [same]))]
  exact ⟨same, Gate.opened_applied ..⟩

/-- A staged list becomes active at tick `t`. -/
theorem State.output_switchList {s : State} {p : Nat} {l : GateList} (staged : (s.output p).gate.staged = some l) (t : Nat) :
    (s.switchList p t).output p = { s.output p with
      gate := ({ (s.output p).gate with active := some (l, t), staged := none, switchAt := none } : Gate).applied s.tick } := by
  unfold State.switchList
  rw [State.output_updGate_applied]
  · simp only [staged]
  · simp only [staged]
    exact .inr fun _ unlisted => nomatch congrArg Gate.active unlisted

/-- An override that R231 allows forces a class. -/
theorem override_forces {v : Image} (allowed : overrideBad v = false) (w : Window) :
    ({ win := w, forceOpen := v.extractLsb' 128 8, forceClose := v.extractLsb' 136 8 } : Override) ≠ {} := by
  intro none_
  have closes : fldN v 143 136 = 0 := congrArg (fun o => o.forceClose.toNat) none_
  have opens : fldN v 135 128 = 0 := congrArg (fun o => o.forceOpen.toNat) none_
  simp [overrideBad, closes, opens] at allowed

/-! The commands -/

section
variable {s : State} {q : Req} {role : Role} {p : Nat}

/-- GATE_LOAD stages its list (R220). -/
theorem exec_gateLoad {bytes : List Byte} {l : GateList} (accepted : s.mayWrite q role R.gateLoad p 0 0 = true)
    (spelt : gateListOf bytes = .ok l) (noSwitch : (s.output p).gate.switchAt = none) :
    ∃ t, exec (.gateLoad q p bytes) s = .next t
      ∧ t.output p = { s.output p with gate := { (s.output p).gate with staged := some l } } := by
  refine State.dictWrite_next accepted (fun b a au an sf => ?_) fun u w recorded answered => ?_
  · simp [spelt, noSwitch]
  · rw [spelt] at answered
    rw [answered.output, State.output_updGate, recorded.output]
    exact .inr fun unlisted => nomatch congrArg Gate.staged unlisted

section
variable {v : Image} {l : GateList}

/-- GATE_SWITCH at a later tick waits for it (R221). -/
theorem exec_gateSwitch_later (accepted : s.mayWrite q role R.gateSwitch p 0 v = true) (staged : (s.output p).gate.staged = some l)
    (later : s.tick < fldN v 63 0 / 8) :
    ∃ t, exec (.gateSwitch q p v) s = .next t
      ∧ t.output p = { s.output p with gate := { (s.output p).gate with switchAt := some (fldN v 63 0 / 8) } } := by
  refine State.dictWrite_next accepted (fun b a au an sf => ?_) fun u w recorded answered => ?_
  · simp [staged]
  · simp only [recorded.tick, if_neg (Nat.not_le.2 later)] at answered
    rw [answered.output, State.output_updGate, recorded.output]
    exact .inr fun unlisted => nomatch congrArg Gate.switchAt unlisted

/-- GATE_SWITCH at a past tick switches at once (R221). -/
theorem exec_gateSwitch_past (accepted : s.mayWrite q role R.gateSwitch p 0 v = true) (staged : (s.output p).gate.staged = some l)
    (past : fldN v 63 0 / 8 ≤ s.tick) :
    ∃ t, exec (.gateSwitch q p v) s = .next t ∧ t.output p = { s.output p with
      gate := ({ (s.output p).gate with active := some (l, s.tick), staged := none, switchAt := none } : Gate).applied s.tick } := by
  refine State.dictWrite_next accepted (fun b a au an sf => ?_) fun u w recorded answered => ?_
  · simp [staged]
  · simp only [recorded.tick, if_pos past] at answered
    rw [answered.output, State.output_switchList (by rw [recorded.output, staged]), recorded.output, recorded.tick]

end

/-- GATE_LIST_SWITCH at its tick (R221). -/
theorem exec_gateListSwitch {n : Nat} (at_ : (s.output p).gate.switchAt = some n) (come : n ≤ s.tick) :
    exec (.gateListSwitch p) s = .next (s.switchList p n) := by
  show execGateListSwitch p s = _
  simp only [execGateListSwitch, at_, if_pos come]

section
variable {v : Image} {k : Nat}

/-- GATE_OVERRIDE installs its window and its masks (R229, R231). -/
theorem exec_gateOverride {f : Fdp} {x : Window} (accepted : s.mayWrite q role R.gateOverride p k v = true)
    (allowed : overrideBad v = false) (slot : k < (s.output p).gate.overrides.length)
    (submitted : submitWindow (fldN v 63 0) (fldN v 127 64) s.tick = some (f, x))
    (free : (nthD {} (s.output p).gate.overrides k).win.st = .free) :
    ∃ t, exec (.gateOverride q p k v) s = .next t ∧ nthD {} (t.output p).gate.overrides k
      = { win := x, forceOpen := v.extractLsb' 128 8, forceClose := v.extractLsb' 136 8 } := by
  refine State.dictWrite_next accepted (fun b a au an sf => ?_) fun u w recorded answered => ?_
  · have submitted' : submitWindow (fldN v 63 0) (fldN v 127 64) (s.taken b a au an sf).tick = some (f, x) := submitted
    simp only [allowed, submitted', State.output_taken, free, Option.isNone_some, Bool.false_eq_true, reduceCtorEq, or_self, if_false]
  · simp only [recorded.tick, submitted] at answered
    rw [answered.output]
    exact (State.override_applied (recorded.output p ▸ slot) (.inr (override_forces allowed x))).1

/-- GATE_OVERRIDE_STOP leaves what `stopWindow` says (R230). -/
theorem exec_gateOverrideStop (accepted : s.mayWrite q role R.gateOverrideStop p k v = true)
    (slot : k < (s.output p).gate.overrides.length) (rising : Table.risingFrom none s.outputs = true) :
    ∃ t, exec (.gateOverrideStop q p k v) s = .next t ∧ nthD {} (t.output p).gate.overrides k
      = { nthD {} (s.output p).gate.overrides k with
          win := (stopWindow (nthD {} (s.output p).gate.overrides k).win (fldN v 63 0) s.tick).2 } := by
  refine State.dictWrite_next accepted (fun _ _ _ _ _ => rfl) fun u w recorded answered => ?_
  simp only [recorded.tick, recorded.output] at answered
  rw [answered.output]
  exact (State.override_applied (recorded.output p ▸ slot) (.inl (recorded.outputs ▸ rising))).1

end

/-- GATE_FIT_TEST sends the first cell of a gated packet that may leave where nothing goes before it (R226). -/
theorem exec_gateFitTest {n : Nat} {e : EgCell} (picked : s.pickCell p = some n) (offered : (s.offered p)[n]? = some e)
    (first : e.first = true) (gated : s.gated p e.cls = true) (noControl : (s.link p).ctlQ = []) (noReplay : (s.link p).replayAt = none)
    (noBypass : (s.link p).bypassQ = []) : exec (.gateFitTest p) s = .next (s.transmit p) := by
  show execGateFitTest p s = _
  simp [execGateFitTest, picked, offered, first, gated, noControl, noReplay, noBypass]

end

/-- Settles O25: each clause is its command's lemma, read at the port's gate. -/
theorem gatesOpenAndClose : Obligations.GatesOpenAndClose := by
  unfold Obligations.GatesOpenAndClose
  refine ⟨fun s q role p bytes l accepted spelt noSwitch => ?load, fun s q role p v l accepted staged later => ?later,
    fun s q role p v l accepted staged past => ?past, fun s p n l at_ come staged => ?listSwitch, fun _ _ => rfl,
    fun s q role p k v f x accepted allowed slot submitted free => exec_gateOverride accepted allowed slot submitted free,
    fun s q role p k v accepted slot rising => exec_gateOverrideStop accepted slot rising,
    fun s p n e picked offered first gated noControl noReplay noBypass =>
      exec_gateFitTest picked offered first gated noControl noReplay noBypass⟩
  case load =>
    obtain ⟨t, answers, output⟩ := exec_gateLoad accepted spelt noSwitch
    exact ⟨t, answers, by simp [output]⟩
  case later =>
    obtain ⟨t, answers, output⟩ := exec_gateSwitch_later accepted staged later
    exact ⟨t, answers, by simp [output, staged]⟩
  case past =>
    obtain ⟨t, answers, output⟩ := exec_gateSwitch_past accepted staged past
    exact ⟨t, answers, by simp [output, Gate.applied]⟩
  case listSwitch =>
    exact ⟨_, exec_gateListSwitch at_ come, by simp [State.output_switchList staged, Gate.applied]⟩

end Sys2Proof.Machine
end

section
/-! Snapshots, counter windows and the records that they leave in the dump area (family 07, scheduling). -/

namespace Sys2Proof.Machine

/-! Bytes written to host memory (R346) -/

/-- From `s` to `t` bursts that carry `data` have joined the queues of the arbiter, and slices may be written as before. -/
structure Writes (data : List Byte) (s t : State) : Prop where
  bursts   : ∃ bs, t.host.arb.bursts = s.host.arb.bursts ++ bs ∧ bs.flatMap (fun b => b.data) = data
  writable : ∀ sl, t.writable sl = s.writable sl

section
variable {s t u : State} {data more : List Byte}

theorem Writes.nil (s : State) : Writes [] s s := ⟨⟨[], by simp, rfl⟩, fun _ => rfl⟩

theorem Writes.trans (h : Writes data s t) (next : Writes more t u) : Writes (data ++ more) s u := by
  obtain ⟨bs, joined, carry⟩ := h.bursts
  obtain ⟨bs', joined', carry'⟩ := next.bursts
  refine ⟨⟨bs ++ bs', ?_, ?_⟩, fun sl => (next.writable sl).trans (h.writable sl)⟩
  · rw [joined', joined, List.append_assoc]
  · rw [List.flatMap_append, carry, carry']

/-- A wake moves functions and links of host ports. -/
theorem State.wake_arb (s : State) (f : Nat) : (s.wake f).host.arb = s.host.arb := by
  unfold State.wake State.exitL1
  dsimp only
  (repeat' split) <;> rfl

theorem State.wake_writable (s : State) (f sl : Nat) : (s.wake f).writable sl = s.writable sl := by
  unfold State.wake State.exitL1
  dsimp only
  (repeat' split) <;> rfl

theorem Writes.request (s : State) (b : Burst) : Writes b.data s (s.request b) :=
  ⟨⟨[{ b with id := s.host.arb.nextId }], congrArg Arbiter.bursts (State.wake_arb ..), by simp⟩,
    fun sl => State.wake_writable _ b.func sl⟩

/-- `n` bursts suffice for the bytes that `n` granules of 256 hold from the burst's address on: every burst goes at least to the end of its
granule (R346, R491). -/
theorem Writes.hostWriteN {n : Nat} {b : Burst} (writable : s.writable b.slice = true) (room : data.length ≤ 256 * n - b.addr % 256) :
    Writes data s (s.hostWriteN b n data) := by
  induction n generalizing s b data with
  | zero =>
    obtain rfl : data = [] := List.length_eq_zero_iff.1 (by omega)
    exact .nil s
  | succ n ih =>
    unfold State.hostWriteN
    split
    · next stops =>
      obtain rfl : data = [] := by simpa [writable] using stops
      exact .nil s
    · have first := Writes.request s { b with
        inst := s.instFor b.func b.addr true, len := (data.take (chunkOf b.func b.addr)).length, data := data.take (chunkOf b.func b.addr) }
      have rest : (data.drop (chunkOf b.func b.addr)).length ≤ 256 * n - (b.addr + chunkOf b.func b.addr) % 256 := by
        rw [List.length_drop]
        unfold chunkOf
        split <;> omega
      have both := first.trans (ih (b := { b with
        addr := b.addr + chunkOf b.func b.addr, acc := b.acc.map (Access.shift · (chunkOf b.func b.addr)) })
        ((first.writable _).trans writable) rest)
      rwa [List.take_append_drop] at both

theorem Writes.hostWrite {b : Burst} (writable : s.writable b.slice = true) (data : List Byte) : Writes data s (s.hostWrite b data) :=
  Writes.hostWriteN writable (by omega)

theorem Writes.dumpWrite (writable : s.writable 0 = true) (off : Nat) (data : List Byte) : Writes data s (s.dumpWrite off data) :=
  Writes.hostWrite writable data

/-- Taking the number of the next record writes nothing. -/
theorem Writes.nextRecord (h : Writes data s t) : Writes data s t.nextRecord := ⟨h.bursts, h.writable⟩

end

/-! Records in the dump area (R636, R637) -/

@[simp] theorem State.dumpWrite_counting (s : State) (off : Nat) (data : List Byte) : (s.dumpWrite off data).counting = s.counting :=
  (congrArg State.counting (s.hostWrite_besidesHost _ data) :)

theorem State.dumpRecord_counting (s : State) (off kind flags source t0 t1 first : Nat) (v : List (BitVec 64)) :
    (s.dumpRecord off kind flags source t0 t1 first v).counting = { s.counting with recSeq := (s.counting.recSeq + 1) % 2 ^ 32 } := by
  simp [State.dumpRecord, State.nextRecord, State.updCounting]

/-- A record that can be written is written as its header, its values and its trailer, in this order. -/
theorem Writes.dumpRecord {s : State} (writable : s.writable 0 = true) (off kind flags source t0 t1 first : Nat) (v : List (BitVec 64)) :
    Writes (recordHead s.counting.recSeq kind flags source t0 t1 first v.length ++ recordValues v ++ recordTail s.counting.recSeq) s
      (s.dumpRecord off kind flags source t0 t1 first v) := by
  have head := Writes.dumpWrite writable off (recordHead s.counting.recSeq kind flags source t0 t1 first v.length)
  have values := head.trans (Writes.dumpWrite ((head.writable 0).trans writable) (off + 40) (recordValues v))
  have tail := values.trans (Writes.dumpWrite ((values.writable 0).trans writable) (off + 40 + 8 * v.length) (recordTail s.counting.recSeq))
  exact tail.nextRecord

/-- Where the dump area can be written, the place lies in it, and slice 0 may be written. -/
theorem State.dumpReady_place {s : State} {off len : Nat} (ready : s.dumpReady off len = true) :
    s.dumpFits off len = true ∧ s.writable 0 = true := by
  simp only [State.dumpReady, Bool.and_eq_true] at ready
  obtain ⟨⟨⟨⟨-, fits⟩, -⟩, writable⟩, -⟩ := ready
  exact ⟨fits, writable⟩

/-! Counter windows (R639, R640) -/

theorem State.ctrWindow_setCtrWindow_same {s : State} {k : Nat} (slot : k < s.counting.windows.length) (x : CtrWindow) :
    (s.setCtrWindow k x).ctrWindow k = x :=
  nthD_setNth_same ({} : CtrWindow) x slot

theorem State.dumpRecord_ctrWindow (s : State) (off kind flags source t0 t1 first : Nat) (v : List (BitVec 64)) (k : Nat) :
    (s.dumpRecord off kind flags source t0 t1 first v).ctrWindow k = s.ctrWindow k := by
  simp only [State.ctrWindow, State.dumpRecord_counting]

section
variable {s u w : State}

theorem Recorded.ctrWindow (h : Recorded s u) (k : Nat) : u.ctrWindow k = s.ctrWindow k := by simp only [State.ctrWindow, h.counting]
theorem Recorded.windowEnds (h : Recorded s u) (x : CtrWindow) : u.windowEnds x = s.windowEnds x := by
  simp only [State.windowEnds, h.ns, State.totalOf, h.totals]
theorem Recorded.windowRuns (h : Recorded s u) (x : CtrWindow) : u.windowRuns x = s.windowRuns x := by
  simp only [State.windowRuns, h.ns, State.totalOf, h.totals]
theorem Recorded.windowEmpty (h : Recorded s u) (x : CtrWindow) : u.windowEmpty x = s.windowEmpty x := by
  simp only [State.windowEmpty, h.ns]
theorem Recorded.capture (h : Recorded s u) (x : Snapshot) : u.capture x = s.capture x := by
  simp only [State.capture, h.ns, State.counter, h.counters]

/-- A window that a write sets reads back at the answered device. -/
theorem Answered.ctrWindow {k : Nat} {x : CtrWindow} (answered : Answered (u.setCtrWindow k x) w) (recorded : Recorded s u)
    (slot : k < s.counting.windows.length) : w.ctrWindow k = x := by
  rw [State.ctrWindow, answered.counting]
  exact State.ctrWindow_setCtrWindow_same (recorded.counting ▸ slot) x

end

theorem stopWindow_running {x : Window} {stop n : Nat} (running : x.st = .running) (past : stop / 8 ≤ n) :
    stopWindow x stop n = (.ok, {}) := by
  simp only [stopWindow, running, if_neg (Nat.not_lt.2 past)]

theorem Window.due_of_pending {x : Window} {n : Nat} (pending : x.st = .pending) (come : x.start ≤ n) : x.due n = true := by
  simp [Window.due, pending, come]

/-! The commands -/

section
variable {s : State} {q : Req} {role : Role} {v : Image} {k : Nat}

/-- The snapshot that a SNAPSHOT value asks for (R638). -/
def snapshotOf (v : Image) (late : Bool) : Snapshot :=
  { at_ := fldN v 63 0 / 8, offset := fldN v 95 64, first := fldN v 127 96, count := fldN v 159 128, late := late }

/-- SNAPSHOT queues its snapshot, captured already where its tick has come (R638). -/
theorem exec_snapshot (accepted : s.mayWrite q role R.snapshot 0 0 v = true) (allowed : s.snapshotBad v = false)
    (room : s.counting.snaps.length < 2) {late : Bool} (judged : decide (fldN v 63 0 / 8 ≤ s.tick) = late) :
    ∃ t, exec (.snapshot q v) s = .next t ∧ t.counting = { s.counting with
      snaps := s.counting.snaps ++ [if late then s.capture (snapshotOf v late) else snapshotOf v late] } := by
  show ∃ t, Host.Outcome.next (s.snapshotWrite q v) = _ ∧ _
  unfold State.snapshotWrite
  refine State.dictWrite_next accepted (fun b a au an sf => ?_) fun u w recorded answered => ?_
  · have allowed' : (s.taken b a au an sf).snapshotBad v = false := allowed
    simp only [allowed', Bool.false_eq_true, if_false]
    exact if_neg (Nat.not_le.2 room)
  · rw [answered.counting, ← recorded.counting]
    simp only [recorded.tick, judged, recorded.capture, State.updCounting, snapshotOf]

/-- The window that a COUNTER_WINDOW value asks for, with the ends that its submission installs (R639). -/
def windowOf (v : Image) (x : Window) (late : Bool) : CtrWindow :=
  { win := x, first := fldN v 159 128, count := fldN v 172 160, offset := fldN v 223 192, late := late }

/-- What becomes of a new counter window by the answer to its submission (R228, R639). -/
def State.windowBegins (s : State) (f : Fdp) (x : CtrWindow) : CtrWindow :=
  match f with
  | .emptyWindow => s.windowEmpty x
  | .lateStart => s.windowRuns x
  | _ => x

theorem Recorded.windowBegins {u : State} (h : Recorded s u) (f : Fdp) (x : CtrWindow) : u.windowBegins f x = s.windowBegins f x := by
  unfold State.windowBegins
  split
  · exact h.windowEmpty x
  · exact h.windowRuns x
  · rfl

/-- A COUNTER_WINDOW that finds its slot free takes its window as its submission says (R639). -/
theorem exec_counterWindow {f : Fdp} {x : Window} (accepted : s.mayWrite q role R.counterWindow 0 k v = true)
    (allowed : s.windowBad v = false) (submitted : submitWindow (fldN v 63 0) (fldN v 127 64) s.tick = some (f, x))
    (room : fldN v 172 160 ≤ s.storeFree) (free : (s.ctrWindow k).win.st = .free) (slot : k < s.counting.windows.length) :
    ∃ t, exec (.counterWindow q k v) s = .next t ∧ t.ctrWindow k = s.windowBegins f (windowOf v x (f == .lateStart)) := by
  show ∃ t, Host.Outcome.next (s.ctrWindowWrite q k v) = _ ∧ _
  unfold State.ctrWindowWrite
  refine State.dictWrite_next accepted (fun b a au an sf => ?_) fun u w recorded answered => ?_
  · have allowed' : (s.taken b a au an sf).windowBad v = false := allowed
    have submitted' : submitWindow (fldN v 63 0) (fldN v 127 64) (s.taken b a au an sf).tick = some (f, x) := submitted
    have room' : ¬ (s.taken b a au an sf).storeFree < fldN v 172 160 := Nat.not_lt.2 room
    have free' : ((s.taken b a au an sf).ctrWindow k).win.st = .free := free
    simp only [allowed', submitted', free', if_neg room', Option.isNone_some, Bool.false_eq_true, ne_eq, not_true_eq_false, if_false]
  · simp only [recorded.tick, submitted] at answered
    exact (Answered.ctrWindow answered recorded slot).trans (recorded.windowBegins f _)

/-- WINDOW_STOP ends a window that runs where its tick has come (R230). -/
theorem exec_windowStop (accepted : s.mayWrite q role R.windowStop 0 k v = true) (running : (s.ctrWindow k).win.st = .running)
    (come : fldN v 63 0 / 8 ≤ s.tick) (slot : k < s.counting.windows.length) :
    ∃ t, exec (.windowStop q k v) s = .next t ∧ t.ctrWindow k = s.windowEnds (s.ctrWindow k) := by
  show ∃ t, Host.Outcome.next (s.ctrWindowStop q k v) = _ ∧ _
  unfold State.ctrWindowStop
  refine State.dictWrite_next accepted (fun _ _ _ _ _ => rfl) fun u w recorded answered => ?_
  simp only [recorded.tick, recorded.ctrWindow, stopWindow_running running come, running, recorded.windowEnds] at answered
  exact Answered.ctrWindow answered recorded slot

/-- TIMED_WINDOW_START of a counter window whose start tick has come (R228). -/
theorem exec_timedWindowStart_counter (pending : (s.ctrWindow k).win.st = .pending) (come : (s.ctrWindow k).win.start ≤ s.tick)
    (slot : k < s.counting.windows.length) :
    ∃ t, exec (.timedWindowStart (.counter k)) s = .next t ∧ t.ctrWindow k
      = s.windowRuns { s.ctrWindow k with win := { (s.ctrWindow k).win with st := .running } } :=
  ⟨_, congrArg Host.Outcome.next (if_pos (Window.due_of_pending pending come)), State.ctrWindow_setCtrWindow_same slot _⟩

/-- TIMED_WINDOW_STOP of a counter window whose stop tick has come (R228). -/
theorem exec_timedWindowStop_counter (ended : (s.ctrWindow k).win.ended s.tick = true) (slot : k < s.counting.windows.length) :
    ∃ t, exec (.timedWindowStop (.counter k)) s = .next t ∧ t.ctrWindow k = s.windowEnds (s.ctrWindow k) :=
  ⟨_, congrArg Host.Outcome.next (if_pos ended), State.ctrWindow_setCtrWindow_same slot _⟩

section
variable {p : Nat}

/-- TIMED_WINDOW_START of a gate override whose start tick has come (R228, R229). -/
theorem exec_timedWindowStart_override (slot : k < (s.output p).gate.overrides.length)
    (pending : (nthD {} (s.output p).gate.overrides k).win.st = .pending)
    (come : (nthD {} (s.output p).gate.overrides k).win.start ≤ s.tick) :
    ∃ t, exec (.timedWindowStart (.override p k)) s = .next t ∧ (nthD {} (t.output p).gate.overrides k).win.st = .running
      ∧ (t.output p).gate.opened = (t.output p).gate.openAt s.tick := by
  obtain ⟨installed, opened⟩ := State.override_applied (s := s)
    (o := { nthD {} (s.output p).gate.overrides k with win := { (nthD {} (s.output p).gate.overrides k).win with st := .running } }) slot
    (.inr fun none_ => nomatch congrArg (fun o => o.win.st) none_)
  exact ⟨_, congrArg Host.Outcome.next (if_pos (Window.due_of_pending pending come)), congrArg (fun o => o.win.st) installed, opened⟩

/-- TIMED_WINDOW_STOP of a gate override whose stop tick has come (R228, R229). -/
theorem exec_timedWindowStop_override (slot : k < (s.output p).gate.overrides.length)
    (ended : (nthD {} (s.output p).gate.overrides k).win.ended s.tick = true) (rising : Table.risingFrom none s.outputs = true) :
    ∃ t, exec (.timedWindowStop (.override p k)) s = .next t ∧ (nthD {} (t.output p).gate.overrides k).win = {} := by
  obtain ⟨installed, -⟩ := State.override_applied (s := s) (o := { nthD {} (s.output p).gate.overrides k with win := {} }) slot
    (.inl rising)
  exact ⟨_, congrArg Host.Outcome.next (if_pos ended), congrArg Override.win installed⟩

end

theorem State.captureDue_sole {x : Snapshot} (sole : s.counting.snaps = [x]) (waits : x.captured = none) (come : x.at_ ≤ s.tick) :
    s.captureDue = s.updCounting (fun c => { c with snaps := [s.capture x] }) := by
  simp [State.captureDue, State.updCounting, sole, waits, come]

/-- A captured snapshot whose record can be written leaves the list as its record is written (R638). -/
theorem State.writeSnapshot_ready {x : Snapshot} {n : Nat} {vs : List (BitVec 64)} (captured : x.captured = some (n, vs))
    (ready : s.dumpReady x.offset (recordLen vs.length) = true) :
    s.writeSnapshot x
      = (s.updCounting (fun c => { c with snaps := c.snaps.erase x })).dumpRecord x.offset 1 (b2n x.late) 0 n n x.first vs := by
  obtain ⟨fits, -⟩ := State.dumpReady_place ready
  simp only [State.writeSnapshot, captured, fits, ready, Bool.not_true, Bool.false_eq_true, if_false]

/-- The only snapshot, not yet captured, is captured at its tick and written where the dump area is ready (R638). -/
theorem exec_snapshotCapture {x : Snapshot} (sole : s.counting.snaps = [x]) (waits : x.captured = none) (come : x.at_ ≤ s.tick)
    (ready : s.dumpReady x.offset (recordLen x.count) = true) :
    exec .snapshotCapture s = .next ((s.updCounting (fun c => { c with snaps := [] })).dumpRecord x.offset 1 (b2n x.late) 0 s.ns s.ns
      x.first ((List.range x.count).map (fun i => s.counter (x.first + i)))) := by
  show Host.Outcome.next (s.captureDue.counting.snaps.foldl State.writeSnapshot s.captureDue) = _
  rw [State.captureDue_sole sole waits come]
  show Host.Outcome.next (State.writeSnapshot _ (s.capture x)) = _
  rw [State.writeSnapshot_ready (x := s.capture x) rfl]
  · simp only [State.updCounting, List.erase_cons_head]
    rfl
  · rw [List.length_map, List.length_range]
    exact ready

/-- WINDOW_RECORD_WRITE of an ended window writes its record where the dump area is ready, and frees the slot (R639). -/
theorem exec_windowRecordWrite (ended : (s.ctrWindow k).win.st = .writing)
    (ready : s.dumpReady (s.ctrWindow k).offset (recordLen (s.ctrWindow k).count) = true) :
    exec (.windowRecordWrite k) s = .next ((s.setCtrWindow k {}).dumpRecord (s.ctrWindow k).offset 2
      (b2n (s.ctrWindow k).late + 2 * b2n (s.ctrWindow k).empty) k (s.ctrWindow k).tStart (s.ctrWindow k).tEnd (s.ctrWindow k).first
      (s.ctrWindow k).value) := by
  obtain ⟨fits, -⟩ := State.dumpReady_place ready
  show Host.Outcome.next (s.writeWindow k) = _
  simp [State.writeWindow, ended, fits, ready]

end

/-- Settles O49: each clause is its command's lemma; a record's bytes are those of the bursts that carry it. -/
theorem snapshotsAndCounterWindows : Obligations.SnapshotsAndCounterWindows := by
  unfold Obligations.SnapshotsAndCounterWindows
  refine ⟨fun s q role v accepted allowed room come => exec_snapshot accepted allowed room (decide_eq_true come),
    fun s q role v accepted allowed room later => exec_snapshot accepted allowed room (decide_eq_false (Nat.not_le.2 later)),
    ?capture, ?window, ?empty, ?stop, ?start,
    fun s p k slot pending come => exec_timedWindowStart_override slot pending come,
    fun s pending come => congrArg Host.Outcome.next (if_pos (Window.due_of_pending pending come)), ?ends,
    fun s p k slot ended rising => exec_timedWindowStop_override slot ended rising, ?written⟩
  case capture =>
    rintro s x vs sole waits come ready rfl
    have record := (Writes.dumpRecord (s := s.updCounting fun c => { c with snaps := [] }) (State.dumpReady_place ready).2 x.offset 1
      (b2n x.late) 0 s.ns s.ns x.first ((List.range x.count).map fun i => s.counter (x.first + i))).bursts
    rw [List.length_map, List.length_range] at record
    exact ⟨_, exec_snapshotCapture sole waits come ready, congrArg Counting.snaps (State.dumpRecord_counting ..),
      congrArg Counting.recSeq (State.dumpRecord_counting ..), record⟩
  case window =>
    rintro s q role k v f x accepted allowed submitted rfl room free slot
    exact exec_counterWindow accepted allowed submitted room free slot
  case empty =>
    intro s q role k v x accepted allowed submitted room free slot
    obtain ⟨t, answers, window⟩ := exec_counterWindow accepted allowed submitted room free slot
    refine ⟨t, answers, ?_⟩
    rw [window]
    exact ⟨rfl, rfl, rfl, rfl, rfl⟩
  case stop =>
    rintro s q role k v x accepted rfl running come slot
    exact exec_windowStop accepted running come slot
  case start =>
    rintro s k x rfl pending come slot
    exact exec_timedWindowStart_counter pending come slot
  case ends =>
    rintro s k x rfl ended slot
    exact exec_timedWindowStop_counter ended slot
  case written =>
    rintro s k x rfl ended ready slot
    exact ⟨_, exec_windowRecordWrite ended ready, (State.dumpRecord_ctrWindow ..).trans (State.ctrWindow_setCtrWindow_same slot {}),
      congrArg Counting.recSeq (State.dumpRecord_counting ..),
      (Writes.dumpRecord (s := s.setCtrWindow k {}) (State.dumpReady_place ready).2 ..).bursts⟩

end Sys2Proof.Machine
end

section
/-! The ring network (family 08): a packet is sent, accepted or refused, comes back and goes out again (O26). -/

namespace Sys2Proof.Machine

/-! Injection (R234, R243) -/

/-- In token `n` a stop of the rings `r` may have injected: at most one packet has come onto its ring. -/
structure Injected (n : Nat) (r r' : Rings) : Prop where
  tags  : r'.tags = r.tags
  waits : r'.waits = r.waits
  pkts  : r'.pkts = r.pkts ∨ ∃ p, r'.pkts = r.pkts.map (fun x => if x = p then { p with place := .flying, since := n } else x)

/-- An injection moves the rings alone. -/
theorem State.ringInject_injected (s : State) (ring stop n : Nat) :
    ∃ r, s.ringInject ring stop n = s.updRings (fun _ => r) ∧ Injected n s.rings r := by
  have rests : ∃ r, s = s.updRings (fun _ => r) ∧ Injected n s.rings r := ⟨_, rfl, rfl, rfl, .inl rfl⟩
  unfold State.ringInject State.reserveSlot
  dsimp only
  split
  · split
    · exact ⟨_, rfl, rfl, rfl, .inl rfl⟩
    · split
      · exact rests
      · exact ⟨_, rfl, rfl, rfl, .inl rfl⟩
  · split
    · exact rests
    · next p _ =>
      split
      · exact ⟨_, rfl, rfl, rfl, .inr ⟨p, rfl⟩⟩
      · exact rests

theorem Injected.length {n : Nat} {r r' : Rings} (h : Injected n r r') : r'.pkts.length = r.pkts.length := by
  rcases h.pkts with same | ⟨p, flown⟩
  · rw [same]
  · rw [flown, List.length_map]

/-- A packet waits on, or it is the one that flies. -/
theorem Injected.mem {n : Nat} {r r' : Rings} (h : Injected n r r') {p : RingPkt} (listed : p ∈ r.pkts) :
    p ∈ r'.pkts ∨ { p with place := .flying, since := n } ∈ r'.pkts := by
  rcases h.pkts with same | ⟨q, flown⟩
  · exact .inl (same ▸ listed)
  · have image := List.mem_map_of_mem (f := fun x => if x = q then { q with place := .flying, since := n } else x) listed
    rw [← flown] at image
    by_cases own : p = q
    · exact .inr (by simpa only [own, if_true] using image)
    · exact .inl (by simpa only [if_neg own] using image)

/-! Queueing and sending (R236, R238) -/

/-- At token `n` the packet `p` has joined the packets of its stop, with the SEQ of its flow. -/
structure Queued (p : RingPkt) (n : Nat) (r r' : Rings) : Prop where
  tags   : r'.tags = r.tags
  waits  : r'.waits = r.waits
  length : r'.pkts.length = r.pkts.length + 1
  joined : ∃ x, { p with seq := Table.get 0 r.seq (flowKey p.src p.dst p.kind), place := x, since := n } ∈ r'.pkts

theorem State.ringQueue_queued (s : State) (p : RingPkt) :
    ∃ r, s.ringQueue p = s.updRings (fun _ => r) ∧ Queued p s.tokens s.rings r := by
  unfold State.ringQueue
  dsimp only
  generalize joined : s.updRings _ = u
  obtain ⟨r, moved, injected⟩ := u.ringInject_injected p.ring p.src s.tokens
  subst joined
  refine ⟨r, moved, injected.tags, injected.waits, injected.length.trans List.length_append, ?_⟩
  rcases injected.mem (List.mem_append_right _ (List.mem_singleton_self _)) with waits | flies
  · exact ⟨.queued, waits⟩
  · exact ⟨.flying, flies⟩

/-- A tag of a stop is busy for its owner, with its next generation (R245). -/
def State.takeTag (s : State) (stop tag : Nat) (owner : RingOwner) : State :=
  s.updRings (fun r => { r with
    tags := Table.set {} r.tags (1024 * stop + tag)
      { st := .busy owner, gen := ((Table.get ({} : RingTag) s.rings.tags (1024 * stop + tag)).gen + 1) % 4 } })

theorem State.takeTag_busy (s : State) (stop tag : Nat) (owner : RingOwner) :
    (Table.get ({} : RingTag) (s.takeTag stop tag owner).rings.tags (1024 * stop + tag)).st = .busy owner := by
  have notFree : ∀ g, ({ st := .busy owner, gen := g } : RingTag) ≠ {} := fun _ e => nomatch congrArg RingTag.st e
  simp only [State.takeTag, State.updRings, Table.set, if_neg (notFree _), Table.get_insert_same]

section
variable {s : State} {p : RingPkt} {owner : RingOwner} {r n : Nat}

/-- A non-posted packet with a route and a free tag is queued on its ring under that tag. -/
theorem State.ringSend_nonPosted (nonPosted : p.kind = kindRead ∨ p.kind = kindWrite)
    (route : s.ringRoute p.src p.dst p.kind = some r) (free : s.freeTag p.src = some n) :
    ∃ g, s.ringSend p owner = (s.takeTag p.src n owner).ringQueue { p with ring := r, tag := n, gen := g } := by
  simp only [State.ringSend, route, nonPosted, free, if_true]
  exact ⟨_, rfl⟩

/-- Any other packet with a route is queued on its ring. -/
theorem State.ringSend_posted (posted : ¬(p.kind = kindRead ∨ p.kind = kindWrite))
    (route : s.ringRoute p.src p.dst p.kind = some r) : s.ringSend p owner = s.ringQueue { p with ring := r } := by
  simp only [State.ringSend, route, posted, if_false]

end

/-- RING_SEND_REQUEST of a unit sends a packet with its operands. -/
theorem exec_ringSendRequest_unit (s : State) (st dst kind units slice addr : Nat) (data : List Byte) (owner : RingOwner) :
    ∃ p : RingPkt, exec (.ringSendRequest st (.unit dst kind units slice addr data owner 0 0 0)) s = .next (s.ringSend p owner)
      ∧ p.src = st ∧ p.dst = dst ∧ p.kind = kind ∧ p.data = data ∧ p.addr = addr :=
  ⟨_, rfl, rfl, rfl, rfl, rfl, rfl⟩

/-! Arrival (R239, R240, R247) -/

theorem hostOf_of_noIsland {stop : Nat} (noIsland : islandOf stop = none) : hostOf stop = none := by
  cases block : stopBlock stop <;> simp_all [islandOf, hostOf]

section
variable {s : State} {p : RingPkt} {free : Nat}

/-- Without room for its units, one more and the reservation of its AGE, a packet is refused. -/
theorem State.ringArrive_refused (crowded : min free (s.ejectFree p.dst p.ring) < p.units + 1 + ringRes p.age) :
    ∃ b, s.ringArrive p free = ((s.ringPut p { p with place := .refused }).updRings (fun r => { r with blocks := b }), false) := by
  unfold State.ringArrive
  rw [if_pos (.inr (.inr crowded))]
  exact ⟨_, rfl⟩

/-- A packet that its block takes and has room for goes on to the block, where no crossing lies between. -/
theorem State.ringArrive_accepted (open_ : s.ringBlocked p = false) (takes : s.takesKind p = true)
    (room : p.units + 1 + ringRes p.age ≤ min free (s.ejectFree p.dst p.ring)) (noIsland : islandOf p.dst = none) :
    s.ringArrive p free = ((s.ringTake p).ringAccept p).ringHandOver p := by
  unfold State.ringArrive
  rw [if_neg (by simp only [open_, takes]; simpa using room), hostOf_of_noIsland noIsland]
  simp only [State.ringCross, noIsland]

/-- A posted unit in sequence is handed to its block. -/
theorem State.ringHandOver_posted (posted : p.kind = kindPost) (noItem : p.item = none)
    (inSequence : p.seq = Table.get 0 s.rings.expect (flowKey p.src p.dst p.kind)) :
    s.ringHandOver p = ((s.updRings fun r =>
      { r with expect := Table.set 0 r.expect (flowKey p.src p.dst p.kind) ((p.seq + 1) % 256) }).emit (.ringUnit p), false) := by
  have next : (p.seq + 256 - Table.get 0 s.rings.expect (flowKey p.src p.dst p.kind)) % 256 = 0 := by
    rw [← inSequence, Nat.add_sub_cancel_left]
  unfold State.ringHandOver
  simp only [next, noItem]
  simp [posted, kindPost, kindResponse]

/-- A header without an error is that of the flow's next packet; no inner port refuses it here. -/
theorem exec_ringPacketArrive_good {src dst kind : Nat} {t : State} (next : s.ringNext src dst kind = some p)
    (arrives : s.ringArrive p free = (t, false)) : exec (.ringPacketArrive src dst kind .good free) s = .next t := by
  show execRingPacketArrive src dst kind .good free s = _
  simp [execRingPacketArrive, next, arrives]

end

/-- A packet that is replaced leaves its successor among the packets. -/
theorem State.mem_ringPut {s : State} {p : RingPkt} (q : RingPkt) (listed : p ∈ s.rings.pkts) : q ∈ (s.ringPut p q).rings.pkts :=
  List.mem_map.2 ⟨p, listed, if_pos rfl⟩

/-! The commands -/

section
variable {s : State} {src dst kind r : Nat} {p : RingPkt}

/-- RING_PACKET_RETURN 64 tokens after the injection (R241). -/
theorem exec_ringPacketReturn
    (refused : s.rings.pkts.find? (fun p => p.inFlow src dst kind && p.place == .refused) = some p) (back : p.since + 64 ≤ s.tokens) :
    exec (.ringPacketReturn src dst kind) s
      = .next ((s.ringPut p { p with place := .returned, age := min 255 (p.age + 1), since := s.tokens }).countRing src 2) := by
  show execRingPacketReturn src dst kind s = _
  simp only [execRingPacketReturn, refused, if_pos back]

/-- RING_REINJECT of the flow's first packet off the ring (R241). -/
theorem exec_ringReinject
    (first : s.rings.pkts.find? (fun p => p.inFlow src dst kind && (p.place == .queued || p.place == .returned)) = some p)
    (returned : p.place = .returned) (route : s.ringRoute src dst kind = some r)
    (delayed : p.since + 64 * fldN (s.reg R.ringCtl) 11 8 ≤ s.tokens)
    (notHeld : Table.get 0 s.rings.holds (flowKey src dst kind) ≤ s.tokens) :
    exec (.ringReinject src dst kind) s
      = .next ((s.ringPut p { p with place := .queued, ring := r, since := s.tokens }).ringInject r src s.tokens) := by
  show execRingReinject src dst kind s = _
  simp only [execRingReinject, first, route, if_pos (And.intro returned (And.intro delayed notHeld))]

/-- RING_STARVE_RESERVE marks the slot that passes where neither the stop nor the slot has a reservation (R243). -/
theorem exec_ringStarveReserve {st : Nat} (next : s.nextInjection r st s.tokens = some p) (noneOwn : s.hasResv r st = false)
    (unmarked : ∀ v ∈ s.rings.resv, ¬(v.ring = r ∧ v.slot = slotAt r st s.tokens))
    (starved : p.since + fldN (s.reg R.ringCtl) 19 12 ≤ s.tokens) :
    exec (.ringStarveReserve st r) s
      = .next (s.updRings (fun x => { x with resv := x.resv ++ [{ stop := st, ring := r, slot := slotAt r st s.tokens }] })) := by
  have slot : s.rings.resv.any (fun v => v.ring == r && v.slot == slotAt r st s.tokens) = false := by
    simpa only [List.any_eq_false, Bool.and_eq_true, beq_iff_eq] using unmarked
  show execRingStarveReserve st r s = _
  simp only [execRingStarveReserve, next, if_pos starved, State.reserveSlot, noneOwn, slot, Bool.or_self, Bool.false_eq_true, if_false]

end

/-- RING_TIMEOUT of a block's request (R245, R246). -/
theorem exec_ringTimeout_device {s : State} {st tag : Nat}
    (busy : (Table.get ({} : RingTag) s.rings.tags (1024 * st + tag)).st = .busy .device) :
    exec (.ringTimeout st tag) s = .next ((((s.updRings (fun r => { r with
        tags := Table.set {} r.tags (1024 * st + tag)
          { Table.get ({} : RingTag) s.rings.tags (1024 * st + tag) with st := .quarantined s.uptime } })).countRing st 3).raise
        (0x191 + 2 * st)).emit (.ringAnswer st 0x80)) := by
  show execRingTimeout st tag s = _
  simp only [execRingTimeout, busy]
  rfl

/-- Settles O26: each clause is its command's lemma; an injection leaves the packet that joins, or goes out again, among the packets of
the rings. -/
theorem ringPacketsTravel : Obligations.RingPacketsTravel := by
  unfold Obligations.RingPacketsTravel
  refine ⟨?request, ?post, ?accepted, ?refused, fun s src dst kind p refused back => exec_ringPacketReturn refused back, ?again,
    fun s st r p next noneOwn unmarked starved => exec_ringStarveReserve next noneOwn unmarked starved, ?timeout⟩
  case request =>
    intro s st dst kind units slice addr r n data owner nonPosted route free
    obtain ⟨p, answers, rfl, rfl, rfl, rfl, rfl⟩ := exec_ringSendRequest_unit s st dst kind units slice addr data owner
    obtain ⟨g, sent⟩ := State.ringSend_nonPosted (owner := owner) nonPosted route free
    obtain ⟨x, moved, queued⟩ := (s.takeTag p.src n owner).ringQueue_queued { p with ring := r, tag := n, gen := g }
    rw [sent, moved] at answers
    obtain ⟨place, joined⟩ := queued.joined
    exact ⟨_, answers, queued.tags ▸ s.takeTag_busy p.src n owner, queued.length, _, joined, rfl, rfl, rfl, rfl, rfl, rfl, rfl, rfl⟩
  case post =>
    intro s st dst units slice addr r data owner route
    obtain ⟨p, answers, rfl, rfl, posted, rfl, rfl⟩ := exec_ringSendRequest_unit s st dst kindPost units slice addr data owner
    rw [← posted] at route
    have sent := State.ringSend_posted (owner := owner) (by rw [posted]; decide) route
    obtain ⟨x, moved, queued⟩ := s.ringQueue_queued { p with ring := r }
    rw [sent, moved] at answers
    obtain ⟨place, joined⟩ := queued.joined
    exact ⟨_, answers, queued.tags, queued.length, _, joined, rfl, rfl, posted, rfl, rfl, by rw [← posted]⟩
  case accepted =>
    intro s src dst free p next open_ takes room noIsland posted noItem inSequence
    exact ⟨_, exec_ringPacketArrive_good next ((State.ringArrive_accepted open_ takes room noIsland).trans
      (State.ringHandOver_posted posted noItem inSequence)), rfl, rfl⟩
  case refused =>
    intro s src dst kind free p next crowded
    obtain ⟨b, refused⟩ := State.ringArrive_refused crowded
    exact ⟨_, exec_ringPacketArrive_good next refused, State.mem_ringPut _ (List.mem_of_find?_eq_some next), rfl, rfl⟩
  case again =>
    intro s src dst kind r p first returned route delayed notHeld
    obtain ⟨x, moved, injected⟩ :=
      (s.ringPut p { p with place := .queued, ring := r, since := s.tokens }).ringInject_injected r src s.tokens
    refine ⟨_, exec_ringReinject first returned route delayed notHeld, ?_⟩
    rw [moved]
    refine ⟨injected.length.trans (List.length_map _), ?_⟩
    rcases injected.mem (State.mem_ringPut _ (List.mem_of_find?_eq_some first)) with waits | flies
    · exact ⟨.queued, .inl rfl, waits⟩
    · exact ⟨.flying, .inr rfl, flies⟩
  case timeout =>
    rintro s st tag g rfl busy
    exact exec_ringTimeout_device busy

end Sys2Proof.Machine
end

section
/-! Rings and crossings that leave service (family 08, ring network; O27). -/

namespace Sys2Proof.Machine

/-! Bits of a value -/

section
variable (v w : Image) {i : Nat}

theorem bit_and : bit (v &&& w) i = (bit v i && bit w i) := BitVec.getLsbD_and
theorem bit_or : bit (v ||| w) i = (bit v i || bit w i) := BitVec.getLsbD_or
theorem bit_not (below : i < 1024) : bit (~~~ v) i = !bit v i := by
  rw [bit, BitVec.getLsbD_not, decide_eq_true below, Bool.true_and, bit]
theorem bit_ofNat (m : Nat) (below : i < 1024) : bit (BitVec.ofNat 1024 m) i = m.testBit i := by
  rw [bit, BitVec.getLsbD_ofNat, decide_eq_true below, Bool.true_and]

end

/-! What waits for a ring that has left service (R238, R249) -/

/-- Among packets of which `p` is replaced by another one than `x`, the number of `x`. -/
theorem count_map_replace {α : Type} [DecidableEq α] {p q x : α} (other : q ≠ x) (l : List α) :
    (l.map fun y => if y = p then q else y).count x = if x = p then 0 else l.count x := by
  induction l with
  | nil => simp
  | cons y l ih =>
    rw [List.map_cons, List.count_cons, ih]
    by_cases own : y = p
    · subst own
      by_cases same : x = y
      · simp [same, same ▸ other]
      · simp [same, other, Ne.symm same]
    · by_cases same : x = p
      · subst same; simp [own]
      · simp [own, same, List.count_cons]

theorem State.ringPut_pkts (s : State) (p q : RingPkt) :
    (s.ringPut p q).rings.pkts = s.rings.pkts.map (fun x => if x = p then q else x) := rfl

/-- From `s` to `t` the packets that wait for ring `r` are being sent elsewhere, all but those in `left`. -/
structure Leaving (r : Nat) (left : List RingPkt) (s t : State) : Prop where
  dict  : t.dict = s.dict
  wires : t.wires = s.wires
  resv  : t.rings.resv = s.rings.resv
  slots : t.rings.slots = s.rings.slots
  pkts  : ∀ x : RingPkt, x.ring = r → t.rings.pkts.count x ≤ left.count x

theorem State.ringUp_of_ringRoute {s : State} {src dst kind r : Nat} (route : s.ringRoute src dst kind = some r) : s.ringUp r = true := by
  unfold State.ringRoute at route
  dsimp only at route
  split at route
  · cases route
  · exact List.find?_some route

/-- A packet that waits takes a ring in service, or leaves. -/
theorem Leaving.ringRequeue {r : Nat} {p : RingPkt} {left : List RingPkt} {s t : State} (down : s.ringUp r = false)
    (h : Leaving r (p :: left) s t) : Leaving r left s (t.ringRequeue p) := by
  have down' : t.ringUp r = false := by rw [← down]; simp only [State.ringUp, State.reg, h.dict]
  have before : ∀ x : RingPkt, x.ring = r → t.rings.pkts.count x ≤ left.count x + if p == x then 1 else 0 := fun x on => by
    simpa only [List.count_cons] using h.pkts x on
  have gone : ∀ x : RingPkt, x.ring = r → (t.rings.pkts.erase p).count x ≤ left.count x := fun x on => by
    rw [List.count_erase]
    exact Nat.sub_le_iff_le_add.2 (before x on)
  unfold State.ringRequeue
  split
  · next r' route =>
    refine ⟨h.dict, h.wires, h.resv, h.slots, fun x on => ?_⟩
    have elsewhere : { p with ring := r' } ≠ x := by
      rintro rfl
      rw [← on, State.ringUp_of_ringRoute route] at down'
      cases down'
    rw [State.ringPut_pkts, count_map_replace elsewhere]
    split
    · exact Nat.zero_le _
    · next apart => simpa [Ne.symm apart] using before x on
  · dsimp only
    split <;> exact ⟨h.dict, h.wires, h.resv, h.slots, gone⟩

theorem Leaving.foldl_ringRequeue {r : Nat} {left : List RingPkt} {s t : State} (down : s.ringUp r = false) (h : Leaving r left s t) :
    Leaving r [] s (left.foldl (fun u p => u.ringRequeue p) t) := by
  induction left generalizing t with
  | nil => exact h
  | cons p left ih => exact ih (h.ringRequeue down)

/-! A ring leaves service (R248, R249) -/

/-- The bits of RING_CTL with that of one ring cleared. -/
theorem bit_clear (v : Image) {r i : Nat} (below : i < 1024) :
    bit (v &&& ~~~ (BitVec.ofNat 1024 (2 ^ r))) i = (bit v i && decide (i ≠ r)) := by
  rw [bit_and, bit_not _ below, bit_ofNat _ below, Nat.testBit_two_pow, ← decide_not]
  exact congrArg (bit v i && ·) (decide_eq_decide.2 ne_comm)

theorem bit_set (v : Image) {i : Nat} (below : i < 1024) : bit (v ||| BitVec.ofNat 1024 (2 ^ i)) i = true := by
  rw [bit_or, bit_ofNat _ below, Nat.testBit_two_pow_self, Bool.or_true]

/-- From `s` to `t` ring `r` has left service. -/
structure OutOfService (r : Nat) (s t : State) : Prop where
  dict  : t.dict = (s.setReg R.ringCtl 0 0 (s.reg R.ringCtl &&& ~~~ (BitVec.ofNat 1024 (2 ^ r)))).dict
  wires : t.wires = s.wires
  resv  : ∀ v ∈ t.rings.resv, v.ring ≠ r
  pkts  : ∀ p ∈ t.rings.pkts, p.ring ≠ r
  slots : ∀ u ∈ t.rings.slots, u.ring ≠ r

section
variable {s t : State} {r : Nat}

theorem State.ringUp_clear (rising : Table.risingFrom none s.dict = true) {i : Nat} (inside : i < 4) :
    (s.setReg R.ringCtl 0 0 (s.reg R.ringCtl &&& ~~~ (BitVec.ofNat 1024 (2 ^ r)))).ringUp i = (s.ringUp i && decide (i ≠ r)) := by
  rw [State.ringUp, State.reg_setReg_same _ _ _ _ rising]
  exact bit_clear _ (by omega)

theorem State.ringOut_outOfService (rising : Table.risingFrom none s.dict = true) (below : r < 4) : OutOfService r s (s.ringOut r) := by
  unfold State.ringOut
  dsimp only
  generalize cleared : State.updRings _ _ = u
  have down : u.ringUp r = false := by
    rw [← cleared]
    exact (State.ringUp_clear rising below).trans (by simp)
  have start : Leaving r (u.rings.pkts.filter (fun p => p.ring = r)) u u :=
    ⟨rfl, rfl, rfl, rfl, fun x on => Nat.le_of_eq (List.count_filter (p := fun p : RingPkt => p.ring = r) (decide_eq_true on)).symm⟩
  obtain ⟨dict, wires, resv, slots, pkts⟩ := start.foldl_ringRequeue down
  subst cleared
  refine ⟨dict, wires, ?_, fun p listed on => ?_, ?_⟩
  · rw [resv]; simp [State.updRings]
  · exact absurd (List.count_pos_iff.2 listed) (Nat.not_lt.2 (pkts p on))
  · rw [slots]; simp [State.updRings]

/-- The rings in service are those that were, but for the one that left. -/
theorem OutOfService.ringUp (h : OutOfService r s t) (rising : Table.risingFrom none s.dict = true) {i : Nat} (inside : i < 4) :
    t.ringUp i = (s.ringUp i && decide (i ≠ r)) := by
  rw [← State.ringUp_clear rising inside]
  simp only [State.ringUp, State.reg, h.dict]

/-- Every object but RING_CTL keeps what it holds. -/
theorem OutOfService.reg_other (h : OutOfService r s t) {x : Reg} {i e : Nat} (apart : x.key i e ≠ R.ringCtl.key 0 0) :
    t.reg x i e = s.reg x i e := by
  rw [State.reg, h.dict]
  exact State.reg_setReg_other s _ apart

theorem OutOfService.rising (h : OutOfService r s t) (rising : Table.risingFrom none s.dict = true) :
    Table.risingFrom none t.dict = true := by
  rw [h.dict]
  exact Table.rising_set _ _ _ rising

/-- Of the rings that were in service those are left that do not leave. -/
theorem State.ringUp_foldl_ringOut {l : List Nat} (numbers : ∀ y ∈ l, y < 4) (rising : Table.risingFrom none s.dict = true) {i : Nat}
    (inside : i < 4) : (l.foldl (fun u y => u.ringOut y) s).ringUp i = (s.ringUp i && decide (i ∉ l)) := by
  induction l generalizing s with
  | nil => simp
  | cons y l ih =>
    obtain ⟨below, numbers⟩ := List.forall_mem_cons.1 numbers
    have out := State.ringOut_outOfService rising below
    rw [List.foldl_cons, ih numbers (out.rising rising), out.ringUp rising inside]
    simp [Bool.and_assoc]

/-- RING_STALL of a ring in service (R248): its flag, its source, and it leaves service. -/
theorem exec_ringStall_up {st : Nat} (up : s.ringUp r = true) :
    exec (.ringStall st r) s = .next (((s.setReg R.ringStatus 0 0 (s.reg R.ringStatus ||| BitVec.ofNat 1024 (2 ^ (4 + r)))).raise
      (0x190 + 2 * st)).ringOut r) :=
  congrArg Host.Outcome.next (if_pos up)

end

/-! RING_CTL (R250) -/

/-- A write of RING_CTL stores its RING_ENABLE bits. -/
theorem bit_merge_ringCtl (old v : Image) {r : Nat} (below : r < 4) : bit (R.ringCtl.merge old v) r = bit v r := by
  have enable : ∀ i < 4, R.ringCtl.rw.testBit i = true ∧ R.ringCtl.wo.testBit i = false ∧ R.ringCtl.w1c.testBit i = false := by decide
  obtain ⟨writable, notWo, notW1c⟩ := enable r below
  have inside : r < 1024 := by omega
  simp only [Reg.merge, bit_and, bit_or, bit_not _ inside, bit_ofNat _ inside, writable, notWo, notW1c]
  simp

/-- RING_DISABLE leaves the rings in service whose bits it writes. -/
theorem exec_ringDisable {s : State} {q : Req} {role : Role} {v : Image} {r : Nat} (accepted : s.mayWrite q role R.ringCtl 0 0 v = true)
    (allowed : s.ringCtlBad v = false) (below : r < 4) (rising : Table.risingFrom none s.dict = true) :
    ∃ t, exec (.ringDisable q v) s = .next t ∧ t.ringUp r = bit v r := by
  show ∃ t, Host.Outcome.next (s.ringCtlWrite q v) = _ ∧ _
  unfold State.ringCtlWrite
  obtain ⟨b, a, au, an, sf, m, tw, o, c, tt, bu, ho, written⟩ := State.dictWrite_accepted accepted
    (fun s => if s.ringCtlBad v then some .outOfRange else none)
    (fun u => ((((List.range 4).filter s.ringUp).filter (fun r => !bit v r)).foldl (fun u r => u.ringOut r) u, .ok))
    (fun _ _ _ _ _ => if_neg (Bool.eq_false_iff.1 allowed))
  refine ⟨_, congrArg Host.Outcome.next written, ?_⟩
  have numbers : ∀ y ∈ ((List.range 4).filter s.ringUp).filter (fun r => !bit v r), y < 4 := fun y listed =>
    List.mem_range.1 (List.mem_filter.1 (List.mem_filter.1 listed).1).1
  have stored : ((s.taken b a au an sf).setReg R.ringCtl 0 0 (R.ringCtl.merge (s.reg R.ringCtl) v)).ringUp r = bit v r := by
    rw [State.ringUp, State.reg_setReg_same (s := s.taken b a au an sf) _ _ _ _ rising, bit_merge_ringCtl _ v below]
  calc State.ringUp _ r
    _ = (bit v r && decide (r ∉ ((List.range 4).filter s.ringUp).filter (fun r => !bit v r))) := by
      rw [← stored]
      exact State.ringUp_foldl_ringOut numbers (Table.rising_set _ _ _ rising) below
    _ = bit v r := by cases written : bit v r <;> simp [written]

/-! Crossings (R255) -/

/-- From `s` to `t` only ring packets have moved: no lane, no link, nothing of the host side, and nothing that waits in a crossing. -/
structure RingTraffic (s t : State) : Prop where
  lanes : t.lanes = s.lanes
  links : t.links = s.links
  host  : t.host = s.host
  waits : t.rings.waits = s.rings.waits

section
variable {s t u : State}

theorem RingTraffic.trans (h : RingTraffic s t) (h' : RingTraffic t u) : RingTraffic s u :=
  ⟨h'.lanes.trans h.lanes, h'.links.trans h.links, h'.host.trans h.host, h'.waits.trans h.waits⟩

theorem RingTraffic.ringQueue (s : State) (p : RingPkt) : RingTraffic s (s.ringQueue p) := by
  obtain ⟨r, moved, queued⟩ := s.ringQueue_queued p
  rw [moved]
  exact ⟨rfl, rfl, rfl, queued.waits⟩

theorem RingTraffic.ringSend (s : State) (p : RingPkt) (owner : RingOwner) : RingTraffic s (s.ringSend p owner) := by
  unfold State.ringSend
  dsimp only
  split
  · split <;> exact ⟨rfl, rfl, rfl, rfl⟩
  · by_cases nonPosted : p.kind = kindRead ∨ p.kind = kindWrite
    · rw [if_pos nonPosted]
      split
      · exact ⟨rfl, rfl, rfl, rfl⟩
      · exact .trans (t := s.takeTag p.src _ owner) ⟨rfl, rfl, rfl, rfl⟩ (.ringQueue ..)
    · rw [if_neg nonPosted]
      exact .ringQueue ..

theorem RingTraffic.resetAnswer (s : State) (k : Nat) (p : RingPkt) : RingTraffic s (s.resetAnswer k p) := by
  unfold State.resetAnswer
  split
  · exact .trans (t := s.countHost k 13) ⟨rfl, rfl, rfl, rfl⟩ (.ringSend ..)
  · exact ⟨rfl, rfl, rfl, rfl⟩

/-- A crossing whose controller enters reset is emptied; the answers are ring packets. -/
theorem State.islandReset_traffic (s : State) (i : Nat) :
    RingTraffic (s.updRings fun r => { r with waits := Table.set [] r.waits i [] }) (s.islandReset i) := by
  unfold State.islandReset
  dsimp only
  split
  · exact ⟨rfl, rfl, rfl, rfl⟩
  · exact List.foldlRecOn _ _ ⟨rfl, rfl, rfl, rfl⟩ fun u hu p _ => hu.trans (.resetAnswer u i p)

/-- A write burst is discarded and its charge refunded (R255). -/
def State.refundBurst (s : State) (b : Burst) : State :=
  (s.setCredit b.inst b.slice (s.credit b.inst b.slice + b.len)).dropBurst b.id

theorem State.flushHost_eq (s : State) (k : Nat) :
    s.flushHost k = (s.host.arb.bursts.filter (fun b => b.granted ∧ b.inst / 4 = k)).foldl State.refundBurst s := rfl

/-- Refunds move the host side alone; no burst that is refunded is left. -/
theorem State.foldl_refundBurst (l : List Burst) (s : State) :
    ∃ h, l.foldl State.refundBurst s = s.updHost (fun _ => h) ∧ ∀ b ∈ h.arb.bursts, b ∈ s.host.arb.bursts ∧ b ∉ l := by
  induction l generalizing s with
  | nil => exact ⟨s.host, rfl, fun b listed => ⟨listed, List.not_mem_nil⟩⟩
  | cons x l ih =>
    obtain ⟨h, moved, rest⟩ := ih (s.refundBurst x)
    refine ⟨h, moved, fun b listed => ?_⟩
    obtain ⟨kept, notLater⟩ := rest b listed
    obtain ⟨before, apart⟩ := List.mem_filter.1 kept
    exact ⟨before, List.not_mem_cons_of_ne_of_not_mem (fun same => by simp [same] at apart) notLater⟩

/-- No granted burst of a host port's controller is left. -/
theorem State.flushHost_bursts (s : State) (k : Nat) :
    ∃ h, s.flushHost k = s.updHost (fun _ => h) ∧ ∀ b ∈ h.arb.bursts, ¬(b.granted = true ∧ b.inst / 4 = k) := by
  rw [State.flushHost_eq]
  obtain ⟨h, moved, rest⟩ := State.foldl_refundBurst (s.host.arb.bursts.filter fun b => b.granted ∧ b.inst / 4 = k) s
  refine ⟨h, moved, fun b listed granted => ?_⟩
  obtain ⟨before, dropped⟩ := rest b listed
  exact dropped (List.mem_filter.2 ⟨before, decide_eq_true granted⟩)

end

/-- Settles O27: a stalled ring's packets are counted down as each takes another ring or leaves; the other clauses are their commands'
lemmas. -/
theorem ringsLeaveService : Obligations.RingsLeaveService := by
  unfold Obligations.RingsLeaveService
  refine ⟨?stall, fun s q role v r accepted allowed below rising => exec_ringDisable accepted allowed below rising, ?host, ?caddy⟩
  case stall =>
    intro s st r up below rising
    have rising' := Table.rising_set (R.ringStatus.default 0 0) (R.ringStatus.key 0 0)
      (s.reg R.ringStatus ||| BitVec.ofNat 1024 (2 ^ (4 + r))) rising
    have out := State.ringOut_outOfService (s := (s.setReg R.ringStatus 0 0 (s.reg R.ringStatus ||| BitVec.ofNat 1024 (2 ^ (4 + r)))).raise
      (0x190 + 2 * st)) rising' below
    refine ⟨_, exec_ringStall_up up, ?_, ?_, out.wires, out.resv, out.pkts, out.slots⟩
    · rw [out.ringUp rising' below]; simp
    · rw [out.reg_other (by decide), State.reg_raise, State.reg_setReg_same _ _ _ _ rising]
      exact bit_set _ (by omega)
  case host =>
    intro s k n rising
    have emptied := State.islandReset_traffic (s.countHost k 12 (n + (Table.get [] s.rings.waits k).length)) k
    obtain ⟨h, moved, flushed⟩ := State.flushHost_bursts
      ((s.countHost k 12 (n + (Table.get [] s.rings.waits k).length)).islandReset k) k
    refine ⟨_, congrArg Host.Outcome.next moved, emptied.lanes, emptied.links, ?_, flushed⟩
    exact (congrArg (Table.get [] · k) emptied.waits).trans (Table.get_set_rising [] k [] rising)
  case caddy =>
    intro s n rising
    have emptied := State.islandReset_traffic s 4
    exact ⟨_, rfl, (congrArg (Table.get [] · 4) emptied.waits).trans (Table.get_set_rising [] 4 [] rising), emptied.host, emptied.lanes,
      emptied.links⟩

end Sys2Proof.Machine
end

section
/-! The mailbox of a function, and writes that no block takes (family 09, host ports; O28). -/

namespace Sys2Proof.Machine

/-! Fields of a word -/

section
variable {w : Nat} (v : BitVec w) {hi lo : Nat} (x : Nat) {i : Nat}

/-- The bits of a word one of whose fields is replaced. -/
theorem bit_setFld (ordered : lo ≤ hi) (inside : i < w) :
    bit (setFld v hi lo x) i = if lo ≤ i ∧ i ≤ hi then x.testBit (i - lo) else bit v i := by
  simp only [bit, setFld, BitVec.getLsbD_or, BitVec.getLsbD_and, BitVec.getLsbD_not, BitVec.getLsbD_ofNat, Nat.testBit_shiftLeft,
    Nat.testBit_two_pow_sub_one, Nat.testBit_mod_two_pow, decide_eq_true inside, Bool.true_and]
  by_cases above : lo ≤ i
  · by_cases field : i ≤ hi
    · have width : i - lo < hi + 1 - lo := by omega
      simp [above, field, width]
    · have width : ¬ i - lo < hi + 1 - lo := by omega
      simp [above, field, width]
  · simp [above]

/-- A field below the one that is replaced. -/
theorem fldN_setFld_below {hi' lo' : Nat} (ordered : lo ≤ hi) (below : hi' < lo) (inside : hi' < w) :
    fldN (setFld v hi lo x) hi' lo' = fldN v hi' lo' := by
  refine Nat.eq_of_testBit_eq fun i => ?_
  simp only [fldN, Nat.testBit_mod_two_pow, Nat.testBit_shiftRight, BitVec.testBit_toNat]
  by_cases field : i < hi' + 1 - lo'
  · have apart : ¬(lo ≤ lo' + i ∧ lo' + i ≤ hi) := by omega
    rw [← bit, ← bit, bit_setFld v x ordered (by omega), if_neg apart]
  · rw [decide_eq_false field, Bool.false_and, Bool.false_and]

end

/-! Functions (R263) -/

/-- The PF of a link is a function of its port. -/
theorem funcPort_pf {l : Nat} (two : l < 2) (h : Nat) : funcPort (512 * h + 256 * l) = h := by
  unfold funcPort; omega

/-- A function decodes its BARs where its port's links are not held, and in D0. -/
theorem State.perst_of_barOpen {s : State} {f : Nat} (open_ : s.barOpen f = true) : (s.hport (funcPort f)).perst = false := by
  simp only [State.barOpen, Bool.and_eq_true, Bool.not_eq_true'] at open_
  obtain ⟨-, free⟩ := open_
  exact free

theorem State.power_of_barOpen {s : State} {f : Nat} (open_ : s.barOpen f = true) : (s.func f).power = .d0 := by
  simp only [State.barOpen, Bool.and_eq_true, beq_iff_eq] at open_
  obtain ⟨⟨-, awake⟩, -⟩ := open_
  exact awake

/-- A port whose links are not held is listed whatever else it holds. -/
theorem HPort.ne_default {x : HPort} (free : x.perst = false) : x ≠ {} := fun same => by
  rw [same] at free
  cases free

/-! The mailbox (R271) -/

/-- The mailbox of a link's PF. -/
def HPort.mbx (x : HPort) (l : Nat) : Mailbox := if l = 1 then x.mbxB else x.mbxA
/-- The port with one mailbox changed. -/
def HPort.withMbx (x : HPort) (l : Nat) (m : Mailbox) : HPort := if l = 1 then { x with mbxB := m } else { x with mbxA := m }

theorem HPort.mbx_withMbx (x : HPort) (l : Nat) (m : Mailbox) : (x.withMbx l m).mbx l = m := by
  unfold HPort.mbx HPort.withMbx
  split <;> rfl

theorem HPort.perst_withMbx (x : HPort) (l : Nat) (m : Mailbox) : (x.withMbx l m).perst = x.perst := by
  unfold HPort.withMbx
  split <;> rfl

/-- MBX_CTL submits a request: with SUBMIT, of 1 to 4,096 bytes, in an idle mailbox. -/
def Mailbox.submits (m : Mailbox) (v : BitVec 64) : Bool :=
  bit v 60 && !decide (m.busy = true ∨ fldN v 12 0 = 0 ∨ 4096 < fldN v 12 0)

/-- What a write of MBX_CTL makes of a mailbox. -/
def Mailbox.written (m : Mailbox) (v : BitVec 64) (msg : List Byte) : Mailbox :=
  { m with
    done := m.done && !bit v 62, irqEn := bit v 61, reqLen := fldN v 12 0, busy := m.busy || m.submits v
    req := if m.submits v then msg.take (fldN v 12 0) ++ List.replicate (fldN v 12 0 - msg.length) 0 else m.req }

section
variable {s : State} {h l : Nat} (v : BitVec 64) (msg : List Byte)

/-- A write of MBX_CTL on an open BAR of a function that serves a slice. -/
theorem State.mbx_mbxWrite (two : l < 2) (open_ : s.barOpen (512 * h + 256 * l) = true)
    (bound : (s.funcSlice (512 * h + 256 * l)).isSome = true) :
    ((s.mbxWrite h l v msg).hport h).mbx l = ((s.hport h).mbx l).written v msg := by
  have free := State.perst_of_barOpen open_
  rw [funcPort_pf two] at free
  have stored : ((s.setHport h ((s.hport h).withMbx l (((s.hport h).mbx l).written v msg))).hport h).mbx l
      = ((s.hport h).mbx l).written v msg := by
    rw [State.hport_setHport_same _ _ _ (HPort.ne_default ((HPort.perst_withMbx ..).trans free)), HPort.mbx_withMbx]
  have shape : s.mbxWrite h l v msg =
      let t := s.setHport h ((s.hport h).withMbx l (((s.hport h).mbx l).written v msg))
      if bit v 60 ∧ (((s.hport h).mbx l).busy ∨ fldN v 12 0 = 0 ∨ 4096 < fldN v 12 0) then t.countHost h 9
      else if ((s.hport h).mbx l).submits v
          ∧ fdpMalformed (msg.take (fldN v 12 0) ++ List.replicate (fldN v 12 0 - msg.length) 0) then t.countDev 8
      else t := by
    unfold State.mbxWrite
    simp only [open_, Option.isNone_eq_false_iff.2 bound, Bool.not_true, Bool.false_eq_true, if_false]
    rfl
  rw [shape]
  dsimp only
  (repeat' split) <;> exact stored

end

/-- Settles O28: a write of MBX_CTL is read back from the mailbox; the field accesses of the control page are among its offsets. -/
theorem hostMailboxAndBars : Obligations.HostMailboxAndBars := by
  unfold Obligations.HostMailboxAndBars
  refine ⟨?submit, ?done, fun s w open_ free => ?invalid, fun s f off len page odd => ?odd⟩
  case submit =>
    rintro s h l n v msg two open_ bound rfl least most idle -
    have mbx := State.mbx_mbxWrite (setFld v 60 60 1) msg two open_ bound
    have length : fldN (setFld v 60 60 1) 12 0 = fldN v 12 0 := fldN_setFld_below v 1 (by decide) (by decide) (by decide)
    have submits : ((s.hport h).mbx l).submits (setFld v 60 60 1) = true := by
      have idle' : ((s.hport h).mbx l).busy = false := idle
      have short : ¬(fldN v 12 0 = 0 ∨ 4096 < fldN v 12 0) := by omega
      simp [Mailbox.submits, length, idle', short, bit_setFld v 1 (i := 60) (Nat.le_refl 60) (by decide)]
    refine ⟨_, rfl, (congrArg Mailbox.busy mbx).trans ?_, (congrArg Mailbox.req mbx).trans ?_,
      (congrArg Mailbox.reqLen mbx).trans length⟩
    · exact (congrArg (((s.hport h).mbx l).busy || ·) submits).trans (Bool.or_true _)
    · rw [Mailbox.written, if_pos submits, length]
  case done =>
    intro s h l v two open_ bound
    have mbx := State.mbx_mbxWrite (setFld (setFld v 62 62 1) 60 60 0) [] two open_ bound
    have clears : bit (setFld (setFld v 62 62 1) 60 60 0) 62 = true := by
      simp [bit_setFld]
    have keeps : ((s.hport h).mbx l).submits (setFld (setFld v 62 62 1) 60 60 0) = false := by
      simp [Mailbox.submits, bit_setFld]
    refine ⟨_, rfl, (congrArg Mailbox.done mbx).trans ?_, (congrArg Mailbox.busy mbx).trans ?_, (congrArg Mailbox.rsp mbx :)⟩
    · simp [Mailbox.written, clears]
    · exact (congrArg (((s.hport h).mbx l).busy || ·) keeps).trans (Bool.or_false _)
  case invalid => exact congrArg Host.Outcome.next (if_pos ⟨open_, by rw [free]; rfl⟩)
  case odd =>
    have region : barRegion (funcVf f != 0) 0 off = .control off := by
      unfold barRegion
      simp [page]
    simp [State.barTakes, region, odd]

end Sys2Proof.Machine
end

section
/-! Link power, link states, configuration writes and MSI-X of the host ports (family 09, host ports; O30). -/

namespace Sys2Proof.Machine

/-! Links of a host port -/

@[simp] theorem HPort.link_withLink (x : HPort) (l : Nat) (k : HLink) : (x.withLink l k).link l = k := by
  unfold HPort.link HPort.withLink
  split <;> rfl

@[simp] theorem HPort.perst_withLink (x : HPort) (l : Nat) (k : HLink) : (x.withLink l k).perst = x.perst := by
  unfold HPort.withLink
  split <;> rfl

theorem State.hport_updHlink {s : State} {h : Nat} (free : (s.hport h).perst = false) (l : Nat) (f : HLink → HLink) :
    (s.updHlink h l f).hport h = (s.hport h).withLink l (f (s.hlink h l)) :=
  State.hport_setHport_same _ _ _ (HPort.ne_default ((HPort.perst_withLink ..).trans free))

theorem State.hlink_updHlink {s : State} {h : Nat} (free : (s.hport h).perst = false) (l : Nat) (f : HLink → HLink) :
    (s.updHlink h l f).hlink h l = f (s.hlink h l) := by
  rw [State.hlink, State.hport_updHlink free, HPort.link_withLink]

/-! Functions -/

theorem State.func_setFunc_same (s : State) (f : Nat) {x : Func} (listed : x ≠ {}) : (s.setFunc f x).func f = x := by
  unfold State.setFunc State.updHost State.func
  simp only [Table.set, if_neg listed]
  exact Table.get_insert_same _ _ _ _

theorem State.func_setFunc_other (s : State) {f g : Nat} (x : Func) (other : g ≠ f) : (s.setFunc f x).func g = s.func g :=
  Table.get_set_other _ _ _ other

/-- In D0 no wake cause arises (R277). -/
theorem State.wake_awake {s : State} {f : Nat} (awake : (s.func f).power = .d0) : s.wake f = s :=
  if_pos (.inl awake)

/-- A request of a function in D0 joins the queue, and does nothing else (R346). -/
theorem State.request_awake {s : State} {b : Burst} (awake : (s.func b.func).power = .d0) :
    ∃ n a, s.request b = s.updHost (fun h => { h with arb := { h.arb with
      bursts := h.arb.bursts ++ [{ b with id := h.arb.nextId }], nextId := n, active := a } }) :=
  ⟨_, _, State.wake_awake awake⟩

/-! MSI-X (R272) -/

/-- A function with MSI-X enabled is listed whatever else it holds. -/
theorem Func.ne_default {x : Func} (enabled : x.msixEn = true) : x ≠ {} := fun same => by
  rw [same] at enabled
  cases enabled

/-- A vector is signalled where MSI-X is enabled and neither it nor the function is masked. -/
theorem Func.signals_of {x : Func} {v : Nat} (enabled : x.msixEn = true) (unmasked : x.fmask = false)
    (vector : (x.vec v).masked = false) : x.signals v = true := by
  rw [Func.signals, enabled, unmasked, vector]
  rfl

/-- A write that signals vector `v` of function `f` has joined the queue of the bursts of `s`. -/
structure Signals (f v : Nat) (addr : BitVec 64) (s t : State) (b : Burst) : Prop where
  bursts : t.host.arb.bursts = s.host.arb.bursts ++ [b]
  msix   : b.msix = some v
  func   : b.func = f
  addr   : b.addr = addr.toNat
  len    : b.len = 4
  report : b.report = true

section
variable {s : State} {f v : Nat}

theorem State.msix_signals {sl key : Nat} (signals : (s.func f).signals v = true) (awake : (s.func f).power = .d0) :
    (s.msix f v sl key).func f = s.func f ∧ ∃ b, Signals f v ((s.func f).vec v).addr s (s.msix f v sl key) b := by
  have shape : s.msix f v sl key = s.request { inst := instOf f true, func := f, slice := sl, addr := ((s.func f).vec v).addr.toNat
                                               len := 4, report := true, key := key, msix := some v } := by
    simp [State.msix, signals]
  obtain ⟨n, a, queued⟩ := State.request_awake (s := s) (b := { inst := instOf f true, func := f, slice := sl
                                                                addr := ((s.func f).vec v).addr.toNat, len := 4, report := true
                                                                key := key, msix := some v }) awake
  rw [shape, queued]
  exact ⟨rfl, _, rfl, rfl, rfl, rfl, rfl, rfl⟩

/-- The one vector that is pending and no longer masked is signalled. -/
theorem State.firePending_signals (signals : (s.func f).signals v = true) (awake : (s.func f).power = .d0)
    (pending : (s.func f).pend = [v]) :
    (s.firePending f).func f = { s.func f with pend := [] } ∧ ∃ b, Signals f v ((s.func f).vec v).addr s (s.firePending f) b := by
  have enabled : (s.func f).msixEn = true := by
    simp only [Func.signals, Bool.and_eq_true] at signals
    obtain ⟨⟨on, -⟩, -⟩ := signals
    exact on
  have shape : s.firePending f = (s.setFunc f { s.func f with pend := [] }).msix f v ((s.funcSlice f).getD 0) 0 := by
    have fired : [v].filter (s.func f).signals = [v] := by simp [signals]
    have left : [v].filter (fun v => !(s.func f).signals v) = [] := by simp [signals]
    simp only [State.firePending, pending, fired, left, List.foldl_cons, List.foldl_nil]
    rfl
  have stored : (s.setFunc f { s.func f with pend := [] }).func f = { s.func f with pend := [] } :=
    State.func_setFunc_same _ _ (Func.ne_default enabled)
  obtain ⟨kept, b, queued⟩ := State.msix_signals (s := s.setFunc f { s.func f with pend := [] }) (f := f) (v := v)
    (sl := (s.funcSlice f).getD 0) (key := 0) (by rw [stored]; exact signals) (by rw [stored]; exact awake)
  rw [stored] at kept queued
  rw [shape]
  exact ⟨kept, b, queued.bursts, queued.msix, queued.func, queued.addr, queued.len, queued.report⟩

/-- The same where the function has just been written: it becomes `x`. -/
theorem State.updFunc_firePending_signals {g : Func → Func} (enabled : (g (s.func f)).msixEn = true)
    (signals : (g (s.func f)).signals v = true) (awake : (g (s.func f)).power = .d0) (pending : (g (s.func f)).pend = [v]) :
    ((s.updFunc f g).firePending f).func f = { g (s.func f) with pend := [] }
      ∧ ∃ b, Signals f v ((g (s.func f)).vec v).addr s ((s.updFunc f g).firePending f) b := by
  have stored : (s.updFunc f g).func f = g (s.func f) := State.func_setFunc_same _ _ (Func.ne_default enabled)
  obtain ⟨emptied, b, queued⟩ := State.firePending_signals (s := s.updFunc f g) (f := f) (v := v) (by rwa [stored])
    (by rwa [stored]) (by rwa [stored])
  rw [stored] at emptied queued
  exact ⟨emptied, b, queued.bursts, queued.msix, queued.func, queued.addr, queued.len, queued.report⟩

/-- MSIX_VECTOR_UNMASK of the table entry of a pending vector. -/
theorem exec_msixVectorUnmask_entry {a : BitVec 64} {d : BitVec 32} (open_ : s.barOpen f = true) (bound : (s.funcSlice f).isSome = true)
    (inside : v < s.msixCount f) (enabled : (s.func f).msixEn = true) (unmasked : (s.func f).fmask = false)
    (pending : (s.func f).pend = [v]) :
    ∃ t, exec (.msixVectorUnmask f (.entry v a d false)) s = .next t ∧ (t.func f).vec v = { addr := a, data := d, masked := false }
      ∧ (t.func f).pend = [] ∧ ∃ b, Signals f v a s t b := by
  have entry : Table.get {} (Table.set {} (s.func f).vecs v { addr := a, data := d, masked := false }) v
      = ({ addr := a, data := d, masked := false } : MsixVec) := by
    rw [Table.set, if_neg fun same => Bool.false_ne_true (congrArg MsixVec.masked same)]
    exact Table.get_insert_same _ _ _ _
  have fired := State.updFunc_firePending_signals (s := s) (f := f) (v := v)
    (g := fun x => { x with vecs := Table.set {} x.vecs v { addr := a, data := d, masked := false } }) enabled
    (Func.signals_of enabled unmasked (congrArg MsixVec.masked entry)) (State.power_of_barOpen open_) pending
  obtain ⟨emptied, b, queued⟩ := fired
  have listed : ¬((s.funcSlice f).isNone ∨ s.msixCount f ≤ v) := by
    simpa [Option.isSome_iff_ne_none] using And.intro bound inside
  refine ⟨_, congrArg Host.Outcome.next ?_, ?_, congrArg Func.pend emptied, b, ?_⟩
  rotate_left 2
  · simpa only [Func.vec, entry] using queued
  · simp only [open_, Bool.not_true, Bool.false_eq_true, if_false, if_neg listed]
  · rw [emptied]; exact entry

/-- MSIX_VECTOR_UNMASK of the function mask. -/
theorem exec_msixVectorUnmask_function (answers : s.cfgOpen f = true) (awake : (s.func f).power = .d0)
    (enabled : (s.func f).msixEn = true) (pending : (s.func f).pend = [v]) (unmasked : ((s.func f).vec v).masked = false) :
    ∃ t, exec (.msixVectorUnmask f .function) s = .next t ∧ (t.func f).fmask = false ∧ (t.func f).pend = []
      ∧ ∃ b, Signals f v ((s.func f).vec v).addr s t b := by
  obtain ⟨emptied, b, queued⟩ := State.updFunc_firePending_signals (s := s) (f := f) (v := v)
    (g := fun x => { x with fmask := false }) enabled (Func.signals_of enabled rfl unmasked) awake pending
  exact ⟨_, congrArg Host.Outcome.next (if_neg (by simp [answers])), congrArg Func.fmask emptied, congrArg Func.pend emptied, b, queued⟩

end

/-! Link power and link states (R276, R282) -/

section
variable {s : State} {h l : Nat}

/-- L0P_MEASURE without traffic on an undivided port at full width: the narrowest width carries it (R276). -/
theorem exec_l0pMeasure_idle (allowed : bit (s.reg R.hostPm h) 0 = true) (up : (s.hlink h 0).st = 2) (wide : (s.hlink h 0).width = 16)
    (still : (s.hlink h 0).moved = 0) (whole : s.bifurcated h = false) :
    exec (.l0pMeasure h 0) s = .next ((s.updHlink h 0 (fun x => { x with moved := 0 })).emit (.l0p (2 * h) 2)) := by
  have narrowest : (([2, 4, 8, 16].filter (· ≤ 16)).find? (fun w => 4 * 0 ≤ 3 * laneBytes (s.hlink h 0).speed w)).getD 16 = 2 := by
    simp
  show execL0pMeasure h 0 s = _
  simp only [execL0pMeasure, still, whole, Bool.false_eq_true, or_false, Nat.zero_ne_one, if_false, narrowest]
  exact congrArg Host.Outcome.next (if_pos ⟨allowed, .inl up, by rw [wide]; decide⟩)

/-- HOST_LINK_STATE_CHANGE to a state that the link can take (Table HST-9). -/
theorem exec_hostLinkStateChange {st width speed : Nat} {cxl : Bool} (exists_ : s.endpointLink h l = true)
    (free : (s.hport h).perst = false) (legal : s.hostLinkBad h l st width speed = false) :
    ∃ t, exec (.hostLinkStateChange h l st width speed cxl) s = .next t
      ∧ t.hlink h l = { s.hlink h l with
          st := st, width := width, speed := speed, cxl := cxl && bit (s.eff R.hostCtl h) 24
          leaving := (s.hlink h l).leaving && decide (4 ≤ st ∧ st ≤ 6) }
      ∧ t.counters = (if ((s.hlink h l).st = 2 ∨ (s.hlink h l).st = 3) ∧ (st = 2 ∨ st = 3) ∧ (s.hlink h l).width ≠ width
          then (s.countHost h 11).counters else s.counters) := by
  have taken : ¬(!s.endpointLink h l ∨ (s.hport h).perst ∨ s.hostLinkBad h l st width speed) := by simp [exists_, free, legal]
  refine ⟨_, congrArg Host.Outcome.next (if_neg taken), ?_⟩
  split
  · exact ⟨State.hlink_updHlink (s := s.countHost h 11) free l _, rfl⟩
  · exact ⟨State.hlink_updHlink free l _, rfl⟩

end

/-- Settles O30: each clause is its command's branch; the MSI-X write that was pending is the one burst that joins the queue. -/
theorem hostLinksAndConfiguration : Obligations.HostLinksAndConfiguration := by
  unfold Obligations.HostLinksAndConfiguration
  refine ⟨fun s h l exists_ idle high => congrArg Host.Outcome.next (if_pos ⟨exists_, idle, high⟩), ?still,
    fun s h allowed up wide still whole => exec_l0pMeasure_idle allowed up wide still whole, ?aspm,
    fun s h l st width speed cxl exists_ free legal => exec_hostLinkStateChange exists_ free legal, ?ready, ?memory, ?master, ?sleep,
    ?entry, ?function⟩
  case still => exact fun s h l off => congrArg Host.Outcome.next (if_neg fun ⟨on, _⟩ => Bool.false_ne_true (off.symm.trans on))
  case aspm =>
    intro s h l timed enabled idle up noneOwed
    have owed : s.host.funcs.any (fun f => f.1 / 256 == 2 * h + l && f.2.pme == .owed) = false := by
      rw [← Bool.not_eq_true', List.not_any_eq_all_not]; exact noneOwed
    exact congrArg Host.Outcome.next (if_pos ⟨timed, enabled, idle, by rw [owed]; rfl, .inl up⟩)
  case ready =>
    exact fun s h l exists_ free up down => congrArg Host.Outcome.next (if_pos ⟨exists_, by rw [free]; rfl, up, down⟩)
  case memory => exact fun s f on answers => congrArg Host.Outcome.next (if_neg (by simp [answers]))
  case master => exact fun s f on answers => congrArg Host.Outcome.next (if_neg (by simp [answers]))
  case sleep =>
    intro s f answers nothing
    have taken : ¬((!s.cfgOpen f) = true) := by simp [answers]
    refine congrArg Host.Outcome.next ((if_neg taken).trans (if_neg ?_))
    show ¬(s.needs f = true)
    rw [nothing]
    exact Bool.false_ne_true
  case entry =>
    intro s f v a d open_ bound inside enabled unmasked pending
    obtain ⟨t, answers, vec, emptied, b, queued⟩ := exec_msixVectorUnmask_entry open_ bound inside enabled unmasked pending
    exact ⟨t, answers, vec, emptied, b, queued.bursts, queued.msix, queued.func, queued.addr, queued.len, queued.report⟩
  case function =>
    intro s f v answered awake enabled pending unmasked
    obtain ⟨t, answers, fmask, emptied, b, queued⟩ := exec_msixVectorUnmask_function answered awake enabled pending unmasked
    exact ⟨t, answers, fmask, emptied, b, queued.bursts, queued.msix, queued.func, queued.addr⟩

end Sys2Proof.Machine
end

section
/-! Whose links are held (family 09, host ports): requests, events, answers and slice resets list and unlist no host port, and hold or
release the links of none.  One lemma for each operation, by the operations it calls. -/

namespace Sys2Proof.Machine

/-- The keys of a table rise after an entry is put exactly where they rose before. -/
theorem Table.risingFrom_of_insert {α : Type} {t : Table α} {lo : Option Nat} {k : Nat} {v : α}
    (rising : Table.risingFrom lo (t.insert k v) = true) : Table.risingFrom lo t = true := by
  induction t generalizing lo with
  | nil => cases lo <;> rfl
  | cons e t ih =>
    obtain ⟨k', v'⟩ := e
    simp only [Table.insert] at rising
    split at rising
    · cases lo with
      | none => exact Table.rising_drop rising
      | some a =>
        simp only [Table.risingFrom, Bool.and_eq_true, decide_eq_true_eq] at rising ⊢
        obtain ⟨above, below, rest⟩ := rising
        exact ⟨Nat.lt_trans above below, rest⟩
    · split at rising
      · next same => subst same; cases lo <;> exact rising
      · cases lo with
        | none => exact ih rising
        | some a =>
          simp only [Table.risingFrom, Bool.and_eq_true] at rising ⊢
          exact rising.imp_right ih

theorem Table.rising_insert_iff {α : Type} {t : Table α} {k : Nat} {v : α} :
    Table.risingFrom none (t.insert k v) = Table.risingFrom none t :=
  Bool.eq_iff_iff.2 ⟨Table.risingFrom_of_insert, Table.rising_insert k v nofun⟩

/-- Of the host ports: whether their keys rise, and whose links are held. -/
structure HeldPorts where
  rising : Bool
  perst  : Nat → Bool

def heldPorts (t : Table HPort) : HeldPorts := ⟨Table.risingFrom none t, fun h => (Table.get {} t h).perst⟩

/-- A port that is listed and whose links are held as before. -/
theorem heldPorts_set {t : Table HPort} {k : Nat} {x : HPort} (listed : x ≠ {}) (same : x.perst = (Table.get {} t k).perst) :
    heldPorts (Table.set {} t k x) = heldPorts t := by
  rw [Table.set, if_neg listed, heldPorts, heldPorts, Table.rising_insert_iff]
  refine congrArg (HeldPorts.mk _) (funext fun h => ?_)
  by_cases own : h = k
  · rw [own, Table.get_insert_same, same]
  · rw [Table.get_insert_other _ _ _ own]

theorem foldl_ports {β : Type} {f : State → β → State} (h : ∀ s b, (f s b).host.ports = s.host.ports) (l : List β) (s : State) :
    (l.foldl f s).host.ports = s.host.ports := by
  induction l generalizing s with
  | nil => rfl
  | cons b l ih => rw [List.foldl_cons, ih, h]

theorem foldl_held {β : Type} {f : State → β → State} (h : ∀ s b, heldPorts (f s b).host.ports = heldPorts s.host.ports) (l : List β)
    (s : State) : heldPorts (l.foldl f s).host.ports = heldPorts s.host.ports := by
  induction l generalizing s with
  | nil => rfl
  | cons b l ih => rw [List.foldl_cons, ih, h]

/-! Operations that leave the host ports alone -/

section
variable (s : State)

@[simp] theorem State.updHost_ports (f : HostSide → HostSide) : (s.updHost f).host.ports = (f s.host).ports := rfl
@[simp] theorem State.setFunc_ports (f : Nat) (x : Func) : (s.setFunc f x).host.ports = s.host.ports := rfl
@[simp] theorem State.putWq_ports (n : Nat) (w : Wq) : (s.putWq n w).host.ports = s.host.ports := rfl
@[simp] theorem State.putCq_ports (n : Nat) (c : Cq) : (s.putCq n c).host.ports = s.host.ports := rfl
@[simp] theorem State.putEq_ports (n : Nat) (e : Eq) : (s.putEq n e).host.ports = s.host.ports := rfl
@[simp] theorem State.dropItems_ports (n : Nat) : (s.dropItems n).host.ports = s.host.ports := rfl
@[simp] theorem State.dropItemOf_ports (n pos : Nat) : (s.dropItemOf n pos).host.ports = s.host.ports := rfl
@[simp] theorem State.dropSliceItems_ports (sl : Nat) (halt : Bool) : (s.dropSliceItems sl halt).host.ports = s.host.ports := rfl
@[simp] theorem State.forgetPlaced_ports (key : Nat) (l : Option Nat) : (s.forgetPlaced key l).host.ports = s.host.ports := rfl
@[simp] theorem State.forgetWq_ports (n : Nat) : (s.forgetWq n).host.ports = s.host.ports := rfl
@[simp] theorem State.uncache_ports (k : Nat) : (s.uncache k).host.ports = s.host.ports := rfl
@[simp] theorem State.killQueues_ports (sl : Nat) : (s.killQueues sl).host.ports = s.host.ports := rfl
@[simp] theorem State.removeCq_ports (n : Nat) : (s.removeCq n).host.ports = s.host.ports := rfl
@[simp] theorem State.removeEq_ports (n : Nat) : (s.removeEq n).host.ports = s.host.ports := rfl
@[simp] theorem State.updRemote_ports (f : Remote → Remote) : (s.updRemote f).host.ports = s.host.ports := rfl
@[simp] theorem State.setPeer_ports (p : Peer) : (s.setPeer p).host.ports = s.host.ports := rfl
@[simp] theorem State.updColls_ports (f : Colls → Colls) : (s.updColls f).host.ports = s.host.ports := rfl
@[simp] theorem State.setColl_ports (n : Nat) (c : Coll) : (s.setColl n c).host.ports = s.host.ports := rfl
@[simp] theorem State.updColl_ports (n : Nat) (f : Coll → Coll) : (s.updColl n f).host.ports = s.host.ports := rfl
@[simp] theorem State.transDrop_ports (sl : Nat) : (s.transDrop sl).host.ports = s.host.ports := rfl

@[simp] theorem State.pairSend_ports (m : PairMsg) : (s.pairSend m).host.ports = s.host.ports := by
  unfold State.pairSend
  split <;> rfl

@[simp] theorem State.leftBehind_ports (keys : List Nat) : (s.leftBehind keys).host.ports = s.host.ports := by
  unfold State.leftBehind
  dsimp only
  split
  · exact State.pairSend_ports ..
  · rfl

@[simp] theorem State.noteChange_ports (device : Bool) (c : List Change) : (s.noteChange device c).host.ports = s.host.ports := by
  unfold State.noteChange
  split <;> simp

@[simp] theorem State.setPool_ports (n : Nat) (v : Image) : (s.setPool n v).host.ports = s.host.ports := State.noteChange_ports ..
@[simp] theorem State.setRegion_ports (n : Nat) (v : Image) : (s.setRegion n v).host.ports = s.host.ports := State.noteChange_ports ..

@[simp] theorem State.poolsReset_ports (sl : Nat) : (s.poolsReset sl).host.ports = s.host.ports := by
  refine foldl_ports (fun t p => ?_) _ s
  dsimp only
  (repeat' split) <;> simp

@[simp] theorem State.sampled_ports (n sl : Nat) (e : WqEntry) (status count : Nat) :
    (s.sampled n sl e status count).host.ports = s.host.ports := by
  unfold State.sampled
  split <;> rfl

@[simp] theorem State.countComp_ports (sl : Nat) (c : Comp) : (s.countComp sl c).host.ports = s.host.ports := by
  unfold State.countComp
  dsimp only
  (repeat' split) <;> rfl

@[simp] theorem State.colour_ports (sl cls l : Nat) : (s.colour sl cls l).1.host.ports = s.host.ports := by
  unfold State.colour
  dsimp only
  (repeat' split) <;> rfl

@[simp] theorem State.inject_ports (sl stop : Nat) (h : Header) (payload : List Byte) (wait : List (Nat × Nat))
    (owner : Option (Nat × Nat)) (charge : Nat) (answer : Bool) :
    (s.inject sl stop h payload wait owner charge answer).host.ports = s.host.ports := by
  unfold State.inject
  dsimp only
  split
  · rfl
  · exact State.colour_ports ..

@[simp] theorem State.rmaAnswer_ports (sl : Nat) (h : Header) (cmd off ext : Nat) (payload : List Byte) (wait : List (Nat × Nat)) :
    (s.rmaAnswer sl h cmd off ext payload wait).host.ports = s.host.ports := State.inject_ports ..

@[simp] theorem State.abortBuilt_ports (test : Built → Bool) : (s.abortBuilt test).host.ports = s.host.ports :=
  foldl_ports (fun t _ => congrArg HostSide.ports (RingTraffic.ringSend t _ _).host) _ _

@[simp] theorem State.dropPackets_ports (sl : Nat) (all : Bool) : (s.dropPackets sl all).host.ports = s.host.ports :=
  State.abortBuilt_ports ..

@[simp] theorem State.islandReset_ports (i : Nat) : (s.islandReset i).host.ports = s.host.ports :=
  congrArg HostSide.ports (State.islandReset_traffic s i).host

@[simp] theorem State.flushHost_ports (k : Nat) : (s.flushHost k).host.ports = s.host.ports :=
  foldl_ports (f := State.refundBurst) (fun _ _ => rfl) _ s

@[simp] theorem State.collUnstage_ports (n : Nat) (c : Coll) : (s.collUnstage n c).host.ports = s.host.ports := by
  unfold State.collUnstage
  dsimp only
  split <;> rfl

@[simp] theorem State.collSend_ports (n p cmd off ext : Nat) (payload : List Byte) :
    (s.collSend n p cmd off ext payload).host.ports = s.host.ports := by
  unfold State.collSend
  split <;> rfl

@[simp] theorem State.collFlood_ports (n attempt cause : Nat) (but : Option Nat) :
    (s.collFlood n attempt cause but).host.ports = s.host.ports := foldl_ports (fun t _ => State.collSend_ports t ..) _ s

@[simp] theorem State.collReset_ports (sl : Nat) : (s.collReset sl).host.ports = s.host.ports := by
  refine foldl_ports (fun t n => ?_) _ s
  dsimp only
  split <;> rfl

@[simp] theorem State.tlbRemove_ports (p : TSlot → Bool) : (s.tlbRemove p).host.ports = s.host.ports :=
  foldl_ports (f := fun t n => t.setWays n ((t.tlbWays n).filter (fun w => !p w))) (fun _ _ => rfl) _ s

end

/-! Operations that keep who is held -/

section
variable (s : State)

/-- The device starts an exit from L1: the port is listed for it. -/
@[simp] theorem State.exitL1_held (k l : Nat) : heldPorts (s.exitL1 k l).host.ports = heldPorts s.host.ports := by
  unfold State.exitL1
  dsimp only
  split
  · refine heldPorts_set (fun same => ?_) (HPort.perst_withLink ..)
    have leaves := congrArg (fun x : HPort => (x.link l).leaving) same
    rw [HPort.link_withLink] at leaves
    unfold HPort.link at leaves
    split at leaves <;> cases leaves
  · rfl

@[simp] theorem State.wake_held (f : Nat) : heldPorts (s.wake f).host.ports = heldPorts s.host.ports := by
  unfold State.wake
  dsimp only
  (repeat' split) <;> simp

@[simp] theorem State.request_held (b : Burst) : heldPorts (s.request b).host.ports = heldPorts s.host.ports := State.wake_held ..

@[simp] theorem State.msix_held (f v sl key : Nat) : heldPorts (s.msix f v sl key).host.ports = heldPorts s.host.ports := by
  unfold State.msix
  dsimp only
  split <;> simp

/-- A mailbox whose request has its response. -/
def Mailbox.answered (m : Mailbox) (r : FdpResp) : Mailbox :=
  { m with busy := false, done := true, rspLen := r.bytes.length, rsp := r.bytes }

theorem State.sendFdp_mailbox (k l : Nat) (r : FdpResp) :
    s.sendFdp (.mailbox k l) r =
      if ((s.hport k).mbx l).busy then
        let t := (s.emit (.fdp (.mailbox k l) r)).setHport k ((s.hport k).withMbx l (((s.hport k).mbx l).answered r))
        if ((s.hport k).mbx l).irqEn then t.msix (512 * k + 256 * l) 0 0 0 else t
      else s.emit (.fdp (.mailbox k l) r) := rfl

/-- A response in a mailbox: the port is listed for its DONE. -/
theorem heldPorts_answered (t : Table HPort) (k l : Nat) (r : FdpResp) :
    heldPorts (Table.set {} t k ((Table.get {} t k).withMbx l (((Table.get {} t k).mbx l).answered r))) = heldPorts t := by
  refine heldPorts_set (fun same => ?_) (HPort.perst_withMbx ..)
  have undone := congrArg (fun x : HPort => (x.mbx l).done) same
  rw [HPort.mbx_withMbx] at undone
  unfold HPort.mbx at undone
  split at undone <;> cases undone

@[simp] theorem State.sendFdp_held (p : Path) (r : FdpResp) : heldPorts (s.sendFdp p r).host.ports = heldPorts s.host.ports := by
  cases p with
  | mailbox k l =>
    have stored := heldPorts_answered s.host.ports k l r
    rw [State.sendFdp_mailbox]
    dsimp only
    (repeat' split)
    · exact (State.msix_held ..).trans stored
    · exact stored
    · rfl
  | _ => rfl

@[simp] theorem State.answer_held (q : Req) (obj sub : Nat) (f : Fdp) (body : List Byte) :
    heldPorts (s.answer q obj sub f body).host.ports = heldPorts s.host.ports := by
  unfold State.answer
  dsimp only
  split <;> simp

@[simp] theorem State.answerOwed_held (obj sub : Nat) (f : Fdp) :
    heldPorts (s.answerOwed obj sub f).host.ports = heldPorts s.host.ports := by
  unfold State.answerOwed
  dsimp only
  (repeat' split) <;> simp

@[simp] theorem State.answerClose_held (w : Wq) : heldPorts (s.answerClose w).host.ports = heldPorts s.host.ports := by
  unfold State.answerClose
  split <;> simp

/-! Host memory (R346) -/

theorem State.hostWriteN_held (b : Burst) (n : Nat) (data : List Byte) :
    heldPorts (s.hostWriteN b n data).host.ports = heldPorts s.host.ports := by
  induction n generalizing s b data with
  | zero => rfl
  | succ n ih => unfold State.hostWriteN; split <;> simp [ih]

theorem State.hostReadN_held (b : Burst) (n off len : Nat) :
    heldPorts (s.hostReadN b n off len).1.host.ports = heldPorts s.host.ports := by
  induction n generalizing s b off len with
  | zero => rfl
  | succ n ih => unfold State.hostReadN; split <;> simp [ih]

@[simp] theorem State.hostWrite_held (b : Burst) (data : List Byte) : heldPorts (s.hostWrite b data).host.ports = heldPorts s.host.ports :=
  State.hostWriteN_held ..

@[simp] theorem State.ringWrite_held (kind n f sl addr key : Nat) (data : List Byte) :
    heldPorts (s.ringWrite kind n f sl addr key data).host.ports = heldPorts s.host.ports := State.hostWrite_held ..

@[simp] theorem State.loadContext_held (k : Nat) : heldPorts (s.loadContext k).host.ports = heldPorts s.host.ports := by
  unfold State.loadContext
  dsimp only
  split
  · rfl
  · exact State.hostReadN_held ..

@[simp] theorem State.useContext_held (k : Nat) : heldPorts (s.useContext k).host.ports = heldPorts s.host.ports := by
  unfold State.useContext
  dsimp only
  split <;> simp

/-! Events, completions and errors of queues (R313–R315) -/

@[simp] theorem State.writeEvent_held (n ty src detail key : Nat) :
    heldPorts (s.writeEvent n ty src detail key).host.ports = heldPorts s.host.ports := by
  unfold State.writeEvent
  split <;> simp

@[simp] theorem State.fireEq_held (n key : Nat) : heldPorts (s.fireEq n key).host.ports = heldPorts s.host.ports := by
  unfold State.fireEq
  (repeat' split) <;> simp

@[simp] theorem State.overrunEvent_held (n : Nat) : heldPorts (s.overrunEvent n).host.ports = heldPorts s.host.ports := by
  unfold State.overrunEvent
  (repeat' split) <;> simp

@[simp] theorem State.event_held (n ty src detail key : Nat) :
    heldPorts (s.event n ty src detail key).host.ports = heldPorts s.host.ports := by
  unfold State.event
  dsimp only
  (repeat' split) <;> simp

@[simp] theorem State.sliceEvent_held (sl ty src detail : Nat) :
    heldPorts (s.sliceEvent sl ty src detail).host.ports = heldPorts s.host.ports := by
  unfold State.sliceEvent
  split <;> simp

@[simp] theorem State.queueErrorEvent_held (sl kind n cause : Nat) :
    heldPorts (s.queueErrorEvent sl kind n cause).host.ports = heldPorts s.host.ports := State.sliceEvent_held ..

@[simp] theorem State.fireCq_held (n key : Nat) : heldPorts (s.fireCq n key).host.ports = heldPorts s.host.ports := by
  unfold State.fireCq
  dsimp only
  (repeat' split) <;> simp

@[simp] theorem State.wqErrorSilent_held (n cause : Nat) : heldPorts (s.wqErrorSilent n cause).host.ports = heldPorts s.host.ports := by
  unfold State.wqErrorSilent
  (repeat' split) <;> simp [foldl_ports]

@[simp] theorem State.cqError_held (n cause : Nat) : heldPorts (s.cqError n cause).host.ports = heldPorts s.host.ports := by
  unfold State.cqError
  dsimp only
  (repeat' split) <;> simp [foldl_held]

@[simp] theorem State.writeCompletion_held (n : Nat) (c : Completion) (key : Nat) :
    heldPorts (s.writeCompletion n c key).host.ports = heldPorts s.host.ports := by
  unfold State.writeCompletion
  dsimp only
  (repeat' split) <;> simp [State.hostReadN_held]

@[simp] theorem State.finish_held (n pos : Nat) (st : Comp) (count detail specific : Nat) (solicited : Bool) :
    heldPorts (s.finish n pos st count detail specific solicited).host.ports = heldPorts s.host.ports := by
  unfold State.finish
  dsimp only
  (repeat' split) <;> simp

@[simp] theorem State.removeWq_held (n : Nat) : heldPorts (s.removeWq n).host.ports = heldPorts s.host.ports := by
  unfold State.removeWq
  dsimp only
  split <;> simp

/-! Answers of the target (R281, R431) -/

@[simp] theorem State.putPeer_held (p : Peer) : heldPorts (s.putPeer p).host.ports = heldPorts s.host.ports := by
  unfold State.putPeer State.evict
  dsimp only
  split <;> simp

@[simp] theorem State.sack_held (sl : Nat) (p : Peer) (h : Header) (status : Comp) :
    heldPorts (s.sack sl p h status).host.ports = heldPorts s.host.ports := by
  unfold State.sack
  simp

@[simp] theorem State.endTarget_held (sl : Nat) (h : Header) (c : Comp) :
    heldPorts (s.endTarget sl h c).host.ports = heldPorts s.host.ports := by
  unfold State.endTarget
  dsimp only
  (repeat' split) <;> simp

@[simp] theorem State.refuseLost_held (keys : List Nat) : heldPorts (s.refuseLost keys).host.ports = heldPorts s.host.ports :=
  foldl_held (fun t _ => State.endTarget_held t ..) _ _

/-! Resets of slices (R321) -/

@[simp] theorem State.collAbortEntries_held (c : Coll) : heldPorts (s.collAbortEntries c).host.ports = heldPorts s.host.ports := by
  refine foldl_held (fun t m => ?_) _ s
  split <;> simp

@[simp] theorem State.collAbort_held (n cause port : Nat) (but : Option Nat) (own : Bool) :
    heldPorts (s.collAbort n cause port but own).host.ports = heldPorts s.host.ports := by
  unfold State.collAbort State.collEvent
  simp

@[simp] theorem State.collHalt_held (sl : Nat) : heldPorts (s.collHalt sl).host.ports = heldPorts s.host.ports  := by
  unfold State.collHalt
  exact foldl_held (fun t c => by simp) _ s

@[simp] theorem State.resetStart_held (sl : Nat) : heldPorts (s.resetStart sl).host.ports = heldPorts s.host.ports := by
  unfold State.resetStart
  extract_lets s₁ s₂ s₃ s₄ s₅ s₆ s₇ s₈ s₉ s₁₀
  have answered : heldPorts s₂.host.ports = heldPorts s.host.ports := by
    refine foldl_held (fun t w => ?_) _ s₁
    rw [foldl_ports fun u e => State.sampled_ports u ..]
    exact State.answerClose_held ..
  clear_value s₁ s₂
  have dropped : s₆.host.ports = s₂.host.ports := by
    simp only [s₆, s₅, s₄, s₃, State.tlbRemove_ports, State.transDrop_ports, State.updHost_ports, State.killQueues_ports,
      State.dropPackets_ports, State.dropSliceItems_ports]
  clear_value s₃ s₄ s₅ s₆
  have ended : heldPorts s₈.host.ports = heldPorts s₆.host.ports := by
    simp only [s₈, s₇, State.updRemote_ports, State.collReset_ports, State.collHalt_held]
  clear_value s₇ s₈
  have regions : s₉.host.ports = s₈.host.ports := by
    refine foldl_ports (fun t e => ?_) _ s₈
    split <;> simp
  clear_value s₉
  have locks : s₁₀.host.ports = s₉.host.ports := by
    refine foldl_ports (fun t g => ?_) _ s₉
    dsimp only
    split <;> rfl
  rw [State.poolsReset_ports, locks, regions, ended, dropped, answered]

end

/-! Resets of functions (R281) -/

/-- A port whose mailbox of a link is in its reset state. -/
def HPort.clearMbx (x : HPort) (l : Nat) : HPort := if l = 0 then { x with mbxA := {} } else { x with mbxB := {} }

theorem HPort.perst_clearMbx (x : HPort) (l : Nat) : (x.clearMbx l).perst = x.perst := by
  unfold HPort.clearMbx
  split <;> rfl

/-- One function returns to its reset state; with a PF go its mailbox and what came through it. -/
def State.resetFunc (s : State) (f : Nat) : State :=
  let x := s.func f
  let t := s.setFunc f { power := .d0, pme := if x.pme = .owed then .cancelled else x.pme, pmeEn := x.pmeEn, pmeStat := x.pmeStat }
  if funcVf f = 0 then
    (t.updHost (fun h => { h with ports := Table.set {} h.ports (funcPort f) ((s.hport (funcPort f)).clearMbx (funcLink f)) })).updMgmt
      (fun m => { m with sessions := m.sessions.filter (fun e => e.2.path ≠ .mailbox (funcPort f) (funcLink f))
                         owed := m.owed.filter (fun o => o.1.path ≠ .mailbox (funcPort f) (funcLink f)) })
  else t

theorem State.resetFunc_ports (s : State) (f : Nat) : (s.resetFunc f).host.ports =
    if funcVf f = 0 then Table.set {} s.host.ports (funcPort f) ((s.hport (funcPort f)).clearMbx (funcLink f)) else s.host.ports := by
  unfold State.resetFunc
  dsimp only
  split <;> rfl

/-- From `s` to `t` the keys of the host ports go on rising where they did, and a port whose links are not held stays so. -/
structure HoldsNone (s t : State) : Prop where
  rising : Table.risingFrom none s.host.ports = true → Table.risingFrom none t.host.ports = true
  free   : ∀ h, (s.hport h).perst = false → (t.hport h).perst = false

section
variable {s t u : State}

theorem HoldsNone.of_held (same : heldPorts t.host.ports = heldPorts s.host.ports) : HoldsNone s t :=
  ⟨fun rising => (congrArg HeldPorts.rising same).trans rising, fun h free => (congrFun (congrArg HeldPorts.perst same) h).trans free⟩

theorem HoldsNone.trans (a : HoldsNone s t) (b : HoldsNone t u) : HoldsNone s u :=
  ⟨fun rising => b.rising (a.rising rising), fun h free => b.free h (a.free h free)⟩

theorem HoldsNone.foldl {β : Type} {f : State → β → State} (step : ∀ s b, HoldsNone s (f s b)) (l : List β) (s : State) :
    HoldsNone s (l.foldl f s) := by
  induction l generalizing s with
  | nil => exact .of_held rfl
  | cons b l ih => exact (step s b).trans (ih (f s b))

theorem HoldsNone.resetFunc (s : State) (f : Nat) : HoldsNone s (s.resetFunc f) := by
  have same := HPort.perst_clearMbx (s.hport (funcPort f)) (funcLink f)
  refine ⟨fun rising => ?_, fun h free => ?_⟩
  · rw [State.resetFunc_ports]
    split
    · exact Table.rising_set _ _ _ rising
    · exact rising
  · rw [State.hport, State.resetFunc_ports]
    split
    · by_cases own : h = funcPort f
      · subst own
        exact (congrArg HPort.perst (s.hport_setHport_same _ _ (HPort.ne_default (same.trans free)))).trans (same.trans free)
      · exact (congrArg HPort.perst (s.hport_setHport_other _ own)).trans free
    · exact free

/-- A reset of functions (R281). -/
theorem HoldsNone.resetFuncs (s : State) (fs : List Nat) : HoldsNone s (s.resetFuncs fs) := by
  unfold State.resetFuncs
  extract_lets slices wqs cqs eqs lost keys s₁ s₂ s₃ s₄ s₅ s₆ s₇ s₈ s₉
  have lost : heldPorts s₃.host.ports = heldPorts s.host.ports := State.refuseLost_held ..
  have queues : heldPorts s₆.host.ports = heldPorts s₃.host.ports := by
    calc heldPorts s₆.host.ports
      _ = heldPorts s₅.host.ports := foldl_held (fun t n => by simp) _ s₅
      _ = heldPorts s₄.host.ports := foldl_held (fun t n => by simp) _ s₄
      _ = heldPorts s₃.host.ports := foldl_held (fun t n => State.removeWq_held ..) _ s₃
  have errors : heldPorts s₈.host.ports = heldPorts s₆.host.ports := by
    calc heldPorts s₈.host.ports
      _ = heldPorts s₇.host.ports := foldl_held (fun t c => State.cqError_held ..) _ s₇
      _ = heldPorts s₆.host.ports := foldl_held (fun t w => State.wqErrorSilent_held ..) _ s₆
  have reset : HoldsNone s₈ s₉ := .foldl HoldsNone.resetFunc fs s₈
  refine ((HoldsNone.of_held (errors.trans (queues.trans lost))).trans reset).trans (.of_held (foldl_held (fun t sl => ?_) slices s₉))
  split <;> simp

end

end Sys2Proof.Machine
end

section
/-! Resets of host ports and functions, and wake causes (family 09, host ports; O29). -/

namespace Sys2Proof.Machine

/-! PERST# (R280, R282) -/

theorem State.hport_of_ports {s t : State} (same : t.host.ports = s.host.ports) (h : Nat) : t.hport h = s.hport h :=
  congrArg (Table.get ({} : HPort) · h) same

theorem State.hport_setHport_of_rising {s : State} (rising : Table.risingFrom none s.host.ports = true) (h : Nat) (x : HPort) :
    (s.setHport h x).hport h = x :=
  Table.get_set_rising ({} : HPort) h x rising

/-- Held links (R281, R282). -/
theorem State.hostHold_holds {s : State} {h : Nat} (free : (s.hport h).perst = false)
    (rising : Table.risingFrom none s.host.ports = true) :
    ((s.hostHold h).hport h).perst = true ∧ ((s.hostHold h).hport h).linkA = { st := 8 }
      ∧ Table.risingFrom none (s.hostHold h).host.ports = true := by
  have flushed : ((s.islandReset h).flushHost h).host.ports = s.host.ports := by simp
  unfold State.hostHold
  rw [if_neg (by simp [free])]
  extract_lets fs was s₁ s₂ p
  have reset : Table.risingFrom none s₁.host.ports = true :=
    (HoldsNone.resetFuncs ((s.islandReset h).flushHost h) fs).rising (by rw [flushed]; exact rising)
  have powered : s₂.host.ports = s₁.host.ports := foldl_ports (by intros; rfl) was s₁
  have rising' : Table.risingFrom none s₂.host.ports = true := by rw [powered]; exact reset
  rw [State.hport_setHport_of_rising rising']
  exact ⟨rfl, rfl, Table.rising_set _ _ _ rising'⟩

theorem exec_hostPerstAssert {s : State} {h : Nat} (endpoint : s.hostRole h = 0) (high : (s.hport h).pin = false)
    (free : (s.hport h).perst = false) (rising : Table.risingFrom none s.host.ports = true) :
    ∃ t, exec (.hostPerstAssert h) s = .next t ∧ (t.hport h).pin = true ∧ (t.hport h).perst = true
      ∧ (t.hport h).linkA = { st := 8 } := by
  obtain ⟨perst, linkA, rising'⟩ := State.hostHold_holds free rising
  refine ⟨(s.hostHold h).setHport h { (s.hostHold h).hport h with pin := true },
    congrArg Host.Outcome.next (if_neg (by simp [endpoint, high])), ?_⟩
  rw [State.hport_setHport_of_rising rising']
  exact ⟨rfl, perst, linkA⟩

/-- Functions written one after the other by a write that leaves each in D0. -/
theorem State.power_foldl_updFunc {g : Func → Func} (awakes : ∀ x, (g x).power = .d0) {fs : List Nat} {s : State}
    (rising : Table.risingFrom none s.host.funcs = true) {f : Nat} (awake : f ∈ fs ∨ (s.func f).power = .d0) :
    ((fs.foldl (fun s f => s.updFunc f g) s).func f).power = .d0 := by
  induction fs generalizing s with
  | nil => exact awake.resolve_left List.not_mem_nil
  | cons k fs ih =>
    refine ih (s := s.updFunc k g) (Table.rising_set _ _ _ rising) ?_
    by_cases own : f = k
    · subst own
      have stored : (s.updFunc f g).func f = g (s.func f) := Table.get_set_rising ({} : Func) f _ rising
      exact .inr (by rw [stored]; exact awakes _)
    · refine awake.imp (fun listed => (List.mem_cons.1 listed).resolve_left own) fun d0 => ?_
      rw [State.updFunc, State.func_setFunc_other _ _ own]
      exact d0

/-- Links that train, with every function in D0 (R280, R282). -/
theorem State.hostRelease_trains {s : State} {h : Nat} (held : (s.hport h).perst = true)
    (rising : Table.risingFrom none s.host.funcs = true) :
    (∃ x, (s.hostRelease h).hport h = { s.hport h with perst := false, linkA := { st := 1 }, linkB := x })
      ∧ ∀ f ∈ linkFuncs h 0, ((s.hostRelease h).func f).power = .d0 := by
  unfold State.hostRelease
  rw [if_neg (by simp [held])]
  extract_lets fs s₁ p
  have listed : ∀ f ∈ linkFuncs h 0, f ∈ fs := fun f => List.mem_append_left _
  clear_value fs
  have ports : s₁.host.ports = s.host.ports := foldl_ports (by intros; rfl) fs s
  have port : p = s.hport h := State.hport_of_ports ports h
  have stored := s₁.hport_setHport_same h
    { p with perst := false, linkA := .reset 1, linkB := .reset (if s₁.bifurcated h then 1 else 15) } (HPort.ne_default rfl)
  refine ⟨⟨_, stored.trans (by rw [port]; rfl)⟩, fun f own => ?_⟩
  exact State.power_foldl_updFunc (by intros; rfl) rising (.inl (listed f own))

theorem exec_hostPerstDeassert {s : State} {h : Nat} (endpoint : s.hostRole h = 0) (low : (s.hport h).pin = true)
    (perst : (s.hport h).perst = true) (notHeld : (s.hport h).held = false) (ready : s.hostsReady = true)
    (rising : Table.risingFrom none s.host.funcs = true) :
    ∃ t, exec (.hostPerstDeassert h) s = .next t ∧ (t.hport h).pin = false ∧ (t.hport h).perst = false
      ∧ (t.hport h).linkA = { st := 1 } ∧ ∀ f ∈ linkFuncs h 0, (t.func f).power = .d0 := by
  have released : (s.setHport h { s.hport h with pin := false }).hport h = { s.hport h with pin := false } :=
    State.hport_setHport_same _ _ _ fun same => Bool.false_ne_true (congrArg HPort.pin same)
  obtain ⟨⟨x, port⟩, awake⟩ := State.hostRelease_trains (s := s.setHport h { s.hport h with pin := false }) (h := h)
    (by rw [released]; exact perst) rising
  rw [released] at port
  have nothingElse : ¬(((s.setHport h { s.hport h with pin := false }).hport h).held ∨ !s.hostsReady) := by
    rw [released]
    simp [notHeld, ready]
  refine ⟨_, congrArg Host.Outcome.next ((if_neg (by simp [endpoint, low])).trans (if_neg nothingElse)), ?_, ?_, ?_, awake⟩
  all_goals rw [port]

/-! HOST_LINK_RESET (R281) -/

theorem exec_hostLinkReset {s : State} {h l : Nat} (k : LinkReset) (exists_ : s.endpointLink h l = true)
    (free : (s.hport h).perst = false) :
    ∃ t, exec (.hostLinkReset h l k) s = .next t ∧ t.hlink h l = { st := if k = .hot then 1 else 0 } ∧ (t.hport h).perst = false := by
  show ∃ t, execHostLinkReset h l k s = _ ∧ _
  unfold execHostLinkReset
  rw [if_neg (by simp [exists_, free])]
  extract_lets s₁ s₂
  have flushed : s₁.host.ports = s.host.ports := by
    unfold s₁
    split <;> simp
  have raised : s₂.host.ports = s₁.host.ports := by
    unfold s₂
    split <;> rfl
  have port : s₂.hport h = s.hport h := State.hport_of_ports (raised.trans flushed) h
  have free' := (HoldsNone.resetFuncs s₂ (linkFuncs h l)).free h (by rw [port]; exact free)
  refine ⟨_, rfl, State.hlink_updHlink free' l _, ?_⟩
  rw [State.hport_updHlink free', HPort.perst_withLink]
  exact free'

/-! Wake causes (R277, R278) -/

section
variable (s : State) (k l : Nat)

theorem State.func_exitL1 (f : Nat) : (s.exitL1 k l).func f = s.func f := by
  unfold State.exitL1
  dsimp only
  split <;> rfl

theorem State.out_exitL1 : (s.exitL1 k l).out =
    if 4 ≤ (s.hlink k l).st ∧ (s.hlink k l).st ≤ 6 ∧ (s.hlink k l).leaving = false then .exitL1 (2 * k + l) :: s.out else s.out := by
  unfold State.exitL1
  simp only [Bool.not_eq_true']
  split <;> rfl

end

/-- A wake cause outside D0, with nothing pending (R278). -/
theorem State.wake_causes {s : State} {f : Nat} (asleep : (s.func f).power ≠ .d0) (clear : (s.func f).pme = .clear) :
    (s.wake f).func f = { s.func f with pmeStat := true, pme := if (s.func f).pmeEn then .owed else .cancelled }
      ∧ (s.wake f).out = if (s.func f).pmeEn = true ∧ 4 ≤ (s.hlink (funcPort f) (funcLink f)).st
          ∧ (s.hlink (funcPort f) (funcLink f)).st ≤ 6 ∧ (s.hlink (funcPort f) (funcLink f)).leaving = false
        then .exitL1 (2 * funcPort f + funcLink f) :: s.out else s.out := by
  have stored := s.func_setFunc_same f (x := { s.func f with
    pmeStat := true, pme := if (s.func f).pmeEn then .owed else .cancelled }) fun same => Bool.false_ne_true (congrArg Func.pmeStat same).symm
  unfold State.wake
  simp only [asleep, clear, ne_eq, not_true_eq_false, or_self, if_false]
  split
  · next enabled =>
    rw [enabled, if_pos rfl] at stored
    refine ⟨(State.func_exitL1 ..).trans stored, ?_⟩
    simp only [enabled, true_and]
    exact State.out_exitL1 ..
  · next disabled =>
    rw [if_neg disabled] at stored
    exact ⟨stored, (if_neg fun ⟨enabled, _⟩ => disabled enabled).symm⟩

/-- Settles O29: a reset of functions holds no link of the host ports, and their keys go on rising; the other clauses are their commands'
branches. -/
theorem hostPortsResetAndWake : Obligations.HostPortsResetAndWake := by
  unfold Obligations.HostPortsResetAndWake
  refine ⟨fun s h endpoint high free rising => exec_hostPerstAssert endpoint high free rising,
    fun s h endpoint low perst notHeld ready rising => exec_hostPerstDeassert endpoint low perst notHeld ready rising,
    fun s h l k exists_ free => exec_hostLinkReset k exists_ free, ?level, ?wake, ?send, ?awake, ?enable, ?clear⟩
  case level => exact fun s f answers => congrArg Host.Outcome.next (if_neg (by simp [answers]))
  case wake =>
    exact fun s f exists_ needs asleep clear => ⟨_, congrArg Host.Outcome.next (if_pos ⟨exists_, needs⟩), State.wake_causes asleep clear⟩
  case send => exact fun s f owed asleep up => congrArg Host.Outcome.next (if_pos ⟨owed, asleep, .inl up⟩)
  case awake => exact fun s f answers asleep => congrArg Host.Outcome.next (if_pos ⟨answers, asleep⟩)
  case enable =>
    intro s f en answers
    show execPmeEnWrite f en s = _
    simp [execPmeEnWrite, answers, State.updFunc]
  case clear => exact fun s f answers => congrArg Host.Outcome.next (if_pos answers)

end Sys2Proof.Machine
end

section
/-! Doorbells of work queues (family 10, work queues; O57): positions and their window, queues under their numbers, and the commands of
a WQ's slot. -/

namespace Sys2Proof.Machine

/-! Positions (R285, R305) -/

theorem posDiff_eq_emod (p h : Nat) : (posDiff p h : Int) = ((p : Int) - h) % 65536 := by
  unfold posDiff
  omega

/-- R305's window, in the rule's own words. -/
theorem Wq.inWindow_iff (w : Wq) (p : Nat) : w.inWindow p = true ↔
    ((p : Int) - w.head) % 65536 ≤ 2 ^ w.log ∧ 1 ≤ ((p : Int) - w.producer) % 65536 ∧ ((p : Int) - w.producer) % 65536 ≤ 2 ^ w.log := by
  rw [← posDiff_eq_emod, ← posDiff_eq_emod, Wq.inWindow, decide_eq_true_iff]
  norm_cast

/-- A value in the window is not PRODUCER. -/
theorem Wq.ne_producer_of_inWindow {w : Wq} {p : Nat} (inside : w.inWindow p = true) : p ≠ w.producer := by
  rintro rfl
  have step := ((w.inWindow_iff _).1 inside).2.1
  rw [Int.sub_self] at step
  exact absurd step (by decide)

/-! Queues under their numbers -/

section
variable {α : Type} {l : List (Nat × α)} {n m : Nat} {x y : α}

theorem assoc_cons (e : Nat × α) : assoc (e :: l) n = if e.1 = n then some e.2 else assoc l n := by
  unfold assoc
  by_cases own : e.1 = n <;> simp [own]

theorem assocPut_cons (e : Nat × α) : assocPut (e :: l) n x = (if e.1 = n then (n, x) else e) :: assocPut l n x := rfl

/-- A number under which something stands has a first entry. -/
theorem assoc_of_mem (listed : (n, y) ∈ l) : ∃ x, assoc l n = some x := by
  induction l with
  | nil => cases listed
  | cons e l ih =>
    rw [assoc_cons]
    split
    · exact ⟨_, rfl⟩
    · next other =>
      rcases List.mem_cons.1 listed with rfl | later
      · exact absurd rfl other
      · exact ih later

theorem assoc_assocPut_same (listed : assoc l n = some y) : assoc (assocPut l n x) n = some x := by
  induction l with
  | nil => cases listed
  | cons e l ih =>
    rw [assocPut_cons, assoc_cons]
    rw [assoc_cons] at listed
    split at listed
    · next own => simp [own]
    · next other => simp [other, ih listed]

theorem assoc_assocPut_other (other : m ≠ n) : assoc (assocPut l n x) m = assoc l m := by
  induction l with
  | nil => rfl
  | cons e l ih =>
    rw [assocPut_cons, assoc_cons, assoc_cons, ih]
    by_cases own : e.1 = n
    · simp [own, Ne.symm other]
    · simp [own]

theorem assocPut_assocPut : assocPut (assocPut l n y) n x = assocPut l n x := by
  unfold assocPut
  rw [List.map_map]
  refine List.map_congr_left fun e _ => ?_
  simp only [Function.comp_apply]
  split <;> simp [*]

/-- The first entry with a property is still found after its own number has been given another value that has it. -/
theorem find_assocPut {p : Nat × α → Bool} (found : l.find? p = some (n, y)) (has : p (n, x) = true) :
    (assocPut l n x).find? p = some (n, x) := by
  induction l with
  | nil => cases found
  | cons e l ih =>
    simp only [assocPut, List.map_cons]
    by_cases own : e.1 = n
    · rw [if_pos own, List.find?_cons_of_pos has]
    · rw [if_neg own]
      by_cases here : p e = true
      · rw [List.find?_cons_of_pos here] at found
        cases found
        exact absurd rfl own
      · rw [List.find?_cons_of_neg here] at found ⊢
        exact ih found

end

theorem State.wq_putWq_same {s : State} {n : Nat} {w w' : Wq} (listed : s.wq n = some w') : (s.putWq n w).wq n = some w :=
  assoc_assocPut_same listed

theorem State.wq_putWq_other {s : State} {n m : Nat} (w : Wq) (other : m ≠ n) : (s.putWq n w).wq m = s.wq m :=
  assoc_assocPut_other other

theorem State.putWq_putWq (s : State) (n : Nat) (w w' : Wq) : (s.putWq n w').putWq n w = s.putWq n w := by
  unfold State.putWq State.updHost
  simp only [assocPut_assocPut]

/-! The link of a WQ becomes active (R276) -/

section
variable (s : State) (k l : Nat)

/-- LTR_ACTIVE moves the port's record of it, and is sent. -/
theorem State.linkActive_eq : ∃ ports out, s.linkActive k l = { s with host := { s.host with ports := ports }, out := out } := by
  unfold State.linkActive
  split
  · exact ⟨s.host.ports, s.out, rfl⟩
  · exact ⟨_, _, rfl⟩

@[simp] theorem State.linkActive_wqs : (s.linkActive k l).host.wqs = s.host.wqs := by
  obtain ⟨ports, out, same⟩ := s.linkActive_eq k l
  rw [same]
@[simp] theorem State.linkActive_cqs : (s.linkActive k l).host.cqs = s.host.cqs := by
  obtain ⟨ports, out, same⟩ := s.linkActive_eq k l
  rw [same]
@[simp] theorem State.linkActive_eqs : (s.linkActive k l).host.eqs = s.host.eqs := by
  obtain ⟨ports, out, same⟩ := s.linkActive_eq k l
  rw [same]
@[simp] theorem State.linkActive_slices : (s.linkActive k l).host.slices = s.host.slices := by
  obtain ⟨ports, out, same⟩ := s.linkActive_eq k l
  rw [same]
@[simp] theorem State.linkActive_counters : (s.linkActive k l).counters = s.counters := by
  obtain ⟨ports, out, same⟩ := s.linkActive_eq k l
  rw [same]
@[simp] theorem State.wq_linkActive (n : Nat) : (s.linkActive k l).wq n = s.wq n := by
  simp only [State.wq, State.linkActive_wqs]
@[simp] theorem State.funcSlice_linkActive (f : Nat) : (s.linkActive k l).funcSlice f = s.funcSlice f := by
  obtain ⟨ports, out, same⟩ := s.linkActive_eq k l
  rw [same]
  rfl
@[simp] theorem State.fetches_linkActive (w : Wq) : (s.linkActive k l).fetches w = s.fetches w := by
  obtain ⟨ports, out, same⟩ := s.linkActive_eq k l
  rw [same]
  rfl

/-- A BAR that is open stays so. -/
theorem State.barOpen_linkActive {f : Nat} (free : (s.hport k).perst = false) : (s.linkActive k l).barOpen f = s.barOpen f := by
  have held : ((s.linkActive k l).hport (funcPort f)).perst = (s.hport (funcPort f)).perst := by
    unfold State.linkActive
    split
    · rfl
    · rw [State.hport_emit]
      by_cases own : funcPort f = k
      · rw [own, State.hport_updHlink free, HPort.perst_withLink]
      · exact congrArg HPort.perst (Table.get_set_other _ _ _ own)
  unfold State.barOpen
  rw [held]
  unfold State.linkActive
  split <;> rfl

end

/-! A doorbell at a WQ's slot (R304, R305) -/

section
variable {s : State} {f page slot sl n : Nat} {v : BitVec 64} {w : Wq}

/-- A write of a slot of an open page of a bound function reaches its queue. -/
theorem State.barWrite_bound (open_ : s.barOpen f = true) (bound : s.funcSlice f = some sl) (act : State → Nat → State) :
    s.barWrite f act = act s sl := by
  unfold State.barWrite
  rw [open_, bound]
  rfl

theorem exec_wqDoorbell_open (open_ : s.barOpen f = true) (bound : s.funcSlice f = some sl)
    (found : s.slotWq f page slot = some (n, w)) (runs : (s.slice w.slice).st ≠ .halted) (plain : fldN v 63 16 = 0) :
    exec (.wqDoorbell f page slot v) s = .next (s.ring n w (fldN v 15 0)) := by
  refine congrArg Host.Outcome.next ((State.barWrite_bound open_ bound _).trans ?_)
  rw [found]
  dsimp only
  rw [if_neg runs, if_neg (not_not_intro plain)]

variable {p : Nat}

theorem State.ring_same (same : p = w.producer) : s.ring n w p = s := if_pos same

/-- The device after an accepted doorbell: PRODUCER of the WQ moves, and its link becomes active. -/
def State.rung (s : State) (n : Nat) (w : Wq) (p : Nat) : State :=
  (s.putWq n { w with producer := p, rungAt := s.ns }).linkActive (funcPort w.func) (funcLink w.func)

theorem State.ring_inside (inside : w.inWindow p = true) : s.ring n w p = s.rung n w p := by
  rw [State.ring, if_neg (Wq.ne_producer_of_inWindow inside), if_pos inside]
  rfl

theorem State.ring_outside (other : p ≠ w.producer) (outside : w.inWindow p = false) :
    s.ring n w p = s.countHost (funcPort w.func) 5 := by
  rw [State.ring, if_neg other, if_neg (Bool.eq_false_iff.1 outside)]

/-- An accepted doorbell moves PRODUCER, and nothing else of any queue, slice or counter. -/
theorem exec_wqDoorbell_inside (open_ : s.barOpen f = true) (bound : s.funcSlice f = some sl)
    (found : s.slotWq f page slot = some (n, w)) (runs : (s.slice w.slice).st ≠ .halted) (plain : fldN v 63 16 = 0)
    (inside : w.inWindow (fldN v 15 0) = true) :
    ∃ t, exec (.wqDoorbell f page slot v) s = .next t
      ∧ t.host.wqs = assocPut s.host.wqs n { w with producer := fldN v 15 0, rungAt := s.ns }
      ∧ t.host.cqs = s.host.cqs ∧ t.host.eqs = s.host.eqs ∧ t.host.slices = s.host.slices ∧ t.counters = s.counters := by
  refine ⟨_, exec_wqDoorbell_open open_ bound found runs plain, ?_⟩
  rw [State.ring_inside inside]
  simp only [State.rung, State.linkActive_wqs, State.linkActive_cqs, State.linkActive_eqs, State.linkActive_slices, State.linkActive_counters]
  exact ⟨rfl, rfl, rfl, rfl, rfl⟩

theorem State.func_of_slotWq (found : s.slotWq f page slot = some (n, w)) : w.func = f ∧ w.page = page ∧ w.slot = slot := by
  simpa using List.find?_some found

/-- A WQ that a slot serves stands under its number. -/
theorem State.wq_of_slotWq (found : s.slotWq f page slot = some (n, w)) : ∃ w', s.wq n = some w' :=
  assoc_of_mem (List.mem_of_find?_eq_some found)

theorem State.wq_rung {w' : Wq} (listed : s.wq n = some w') :
    (s.rung n w p).wq n = some { w with producer := p, rungAt := s.ns } :=
  (State.wq_linkActive ..).trans (State.wq_putWq_same listed)

/-- A further doorbell of a slot whose WQ has taken one reaches the WQ as that has left it. -/
theorem exec_wqDoorbell_rung (open_ : s.barOpen f = true) (bound : s.funcSlice f = some sl)
    (found : s.slotWq f page slot = some (n, w)) (runs : (s.slice w.slice).st ≠ .halted) (plain : fldN v 63 16 = 0) :
    exec (.wqDoorbell f page slot v) (s.rung n w p)
      = .next ((s.rung n w p).ring n { w with producer := p, rungAt := s.ns } (fldN v 15 0)) := by
  obtain ⟨func, page_, slot_⟩ := State.func_of_slotWq found
  have free : (s.hport (funcPort w.func)).perst = false := by
    rw [func]
    exact State.perst_of_barOpen open_
  have stillFound : (s.rung n w p).slotWq f page slot = some (n, { w with producer := p, rungAt := s.ns }) := by
    unfold State.slotWq State.rung
    rw [State.linkActive_wqs]
    exact find_assocPut found (by simp [func, page_, slot_])
  have stillBound : (s.rung n w p).funcSlice f = some sl := (State.funcSlice_linkActive ..).trans bound
  have stillRuns : ((s.rung n w p).slice w.slice).st ≠ .halted := by
    rwa [State.rung, State.slice, State.linkActive_slices]
  exact exec_wqDoorbell_open ((State.barOpen_linkActive (s.putWq n _) _ _ free).trans open_) stillBound stillFound stillRuns plain

end

/-- Two values in the window: the nearer one leaves the farther one in it; the farther one leaves the nearer one outside (R305). -/
theorem Wq.inWindow_nearer_farther {w : Wq} {a b : Nat} (x : Nat) (insideA : w.inWindow a = true) (insideB : w.inWindow b = true)
    (nearer : posDiff a w.producer < posDiff b w.producer) (depth : w.log ≤ 15) :
    ({ w with producer := a, rungAt := x } : Wq).inWindow b = true ∧ ({ w with producer := b, rungAt := x } : Wq).inWindow a = false := by
  have small : 2 ^ w.log ≤ 2 ^ 15 := Nat.pow_le_pow_right (by decide) depth
  unfold Wq.inWindow posDiff at *
  simp only [decide_eq_true_eq, decide_eq_false_iff_not] at *
  omega

/-- Settles O57: R305's window is the condition of an accepted doorbell, and of two accepted values the farther one prevails. -/
theorem doorbellsMoveProducerInTheWindow : Obligations.DoorbellsMoveProducerInTheWindow := by
  unfold Obligations.DoorbellsMoveProducerInTheWindow
  refine ⟨?inside, ?same, ?outside, ?order⟩
  case inside =>
    rintro s f page slot sl n p v w open_ bound found runs plain rfl head step depth -
    obtain ⟨t, answers, wqs, -, -, -, counters⟩ :=
      exec_wqDoorbell_inside open_ bound found runs plain ((w.inWindow_iff _).2 ⟨head, step, depth⟩)
    exact ⟨t, answers, wqs, counters⟩
  case same =>
    intro s f page slot sl n v w open_ bound found runs plain same
    rw [exec_wqDoorbell_open open_ bound found runs plain, State.ring_same same]
  case outside =>
    rintro s f page slot sl n p v w open_ bound found runs plain rfl other outside
    rw [← w.inWindow_iff, Bool.not_eq_true] at outside
    rw [exec_wqDoorbell_open open_ bound found runs plain, State.ring_outside other outside]
  case order =>
    rintro s f page slot sl n a b v u w open_ bound found runs plainV plainU rfl rfl insideA insideB nearer depth -
    obtain ⟨farther, stale⟩ := Wq.inWindow_nearer_farther s.ns insideA insideB nearer depth
    obtain ⟨w', listed⟩ := State.wq_of_slotWq found
    have first : ∀ {z : BitVec 64}, fldN z 63 16 = 0 → w.inWindow (fldN z 15 0) = true →
        exec (.wqDoorbell f page slot z) s = .next (s.rung n w (fldN z 15 0)) := fun plain inside =>
      (exec_wqDoorbell_open open_ bound found runs plain).trans (congrArg _ (State.ring_inside inside))
    refine ⟨_, _, _, _, first plainV insideA, exec_wqDoorbell_rung open_ bound found runs plainU,
      first plainU insideB, exec_wqDoorbell_rung open_ bound found runs plainV, ?_, ?_⟩
    · rw [State.ring_inside farther, State.wq_rung (State.wq_rung listed), Option.map_some]
    · have apart : fldN v 15 0 ≠ fldN u 15 0 := fun same => Nat.lt_irrefl _ (same ▸ nearer)
      rw [State.ring_outside apart stale]
      show ((s.rung n w (fldN u 15 0)).wq n).map _ = _
      rw [State.wq_rung listed, Option.map_some]

end Sys2Proof.Machine
end

section
/-! Arms, pushes and fetches of work queues (family 10, work queues; O31): what a host access leaves of the queues, the commands of a
queue's slot, and the reads that bring entries and payload. -/

namespace Sys2Proof.Machine

/-! What a burst that joins the arbiter leaves alone (R346) -/

/-- The queues and the slices they belong to. -/
structure QueueSide where
  wqs    : List (Nat × Wq)
  cqs    : List (Nat × Cq)
  eqs    : List (Nat × Eq)
  slices : Table Slice

def State.queueSide (s : State) : QueueSide := ⟨s.host.wqs, s.host.cqs, s.host.eqs, s.host.slices⟩

theorem State.wqs_of_queueSide {s t : State} (same : t.queueSide = s.queueSide) : t.host.wqs = s.host.wqs :=
  congrArg QueueSide.wqs same

@[simp] theorem State.wake_queueSide (s : State) (f : Nat) : (s.wake f).queueSide = s.queueSide := by
  unfold State.wake State.exitL1
  dsimp only
  (repeat' split) <;> rfl

@[simp] theorem State.request_queueSide (s : State) (b : Burst) : (s.request b).queueSide = s.queueSide :=
  State.wake_queueSide _ b.func

@[simp] theorem State.hostWrite_queueSide (s : State) (b : Burst) (data : List Byte) : (s.hostWrite b data).queueSide = s.queueSide := by
  have bursts : ∀ n (t : State) b data, (t.hostWriteN b n data).queueSide = t.queueSide := by
    intro n
    induction n with
    | zero => exact fun _ _ _ => rfl
    | succ n ih => intro t b data; unfold State.hostWriteN; split <;> simp [ih]
  exact bursts _ _ _ _

@[simp] theorem State.hostReadN_queueSide (s : State) (b : Burst) (n off len : Nat) : (s.hostReadN b n off len).1.queueSide = s.queueSide := by
  induction n generalizing s b off len with
  | zero => rfl
  | succ n ih => unfold State.hostReadN; split <;> simp [ih]

@[simp] theorem State.useContext_queueSide (s : State) (k : Nat) : (s.useContext k).queueSide = s.queueSide := by
  unfold State.useContext
  dsimp only
  split
  · rfl
  · exact State.hostWrite_queueSide ..

/-! Arms of a queue's slot (R312, R313) -/

section
variable {s : State} {f page slot sl n : Nat} {v : BitVec 64}

theorem State.eq_putEq_same {e e' : Eq} (listed : s.eq n = some e') : (s.putEq n e).eq n = some e :=
  assoc_assocPut_same listed

theorem State.cq_putCq_same {c c' : Cq} (listed : s.cq n = some c') : (s.putCq n c).cq n = some c :=
  assoc_assocPut_same listed

theorem State.putEq_putEq (s : State) (n : Nat) (e e' : Eq) : (s.putEq n e').putEq n e = s.putEq n e := by
  unfold State.putEq State.updHost
  simp only [assocPut_assocPut]

/-- The queues that a slot serves stand under their numbers. -/
theorem State.eq_of_slotEq {e : Eq} (found : s.slotEq f page slot = some (n, e)) : ∃ e', s.eq n = some e' :=
  assoc_of_mem (List.mem_of_find?_eq_some found)

theorem State.cq_of_slotCq {c : Cq} (found : s.slotCq f page slot = some (n, c)) : ∃ c', s.cq n = some c' :=
  assoc_of_mem (List.mem_of_find?_eq_some found)

theorem exec_queueArm_eq {e : Eq} (open_ : s.barOpen f = true) (bound : s.funcSlice f = some sl)
    (found : s.slotEq f page slot = some (n, e)) (runs : (s.slice e.slice).st ≠ .halted) (plain : fldN v 63 17 = 0) (arms : bit v 16 = true) :
    exec (.queueArm f page slot true v) s = .next ((s.putEq n { e with consumer := fldN v 15 0, armed := true }).fireEq n 0) := by
  refine congrArg Host.Outcome.next ((State.barWrite_bound open_ bound _).trans ?_)
  rw [if_pos rfl, found]
  dsimp only
  rw [if_neg runs, if_neg (not_not_intro plain), arms, Bool.or_true]

theorem exec_queueArm_cq {c : Cq} (open_ : s.barOpen f = true) (bound : s.funcSlice f = some sl)
    (found : s.slotCq f page slot = some (n, c)) (runs : (s.slice c.slice).st ≠ .halted) (plain : fldN v 63 18 = 0) (arms : bit v 16 = true) :
    exec (.queueArm f page slot false v) s
      = .next ((s.putCq n { c.consume (fldN v 15 0) with armed := true, solOnly := bit v 17 }).fireCq n 0) := by
  refine congrArg Host.Outcome.next ((State.barWrite_bound open_ bound _).trans ?_)
  rw [if_neg Bool.false_ne_true, found]
  dsimp only
  rw [if_neg runs, if_neg (not_not_intro plain), if_pos arms]

/-- An event queue with nothing beyond CONSUMER signals nothing. -/
theorem State.fireEq_nothing {e : Eq} (listed : s.eq n = some e) (nothing : e.wpos = e.consumer) (key : Nat) : s.fireEq n key = s := by
  simp [State.fireEq, listed, nothing]

/-- An armed event queue with an event beyond CONSUMER signals its vector, and is armed no more. -/
theorem State.fireEq_fires {e : Eq} (listed : s.eq n = some e) (armed : e.armed = true) (beyond : e.wpos ≠ e.consumer) (ready : e.st = .ready)
    (key : Nat) : s.fireEq n key = (s.putEq n { e with armed := false }).msix e.func e.vector e.slice key := by
  simp [State.fireEq, listed, armed, beyond, ready]

/-- Where no completion counts, only CONSUMER moves. -/
theorem Cq.consume_none {c : Cq} (none_ : c.notable = []) (p : Nat) : c.consume p = { c with consumer := p } := by
  rw [Cq.consume, none_, List.filter_nil, ← none_]

/-- A completion queue with no entry beyond CONSUMER, and none that counts, writes no event. -/
theorem State.fireCq_nothing {c : Cq} (listed : s.cq n = some c) (nothing : c.wpos = c.consumer) (none_ : c.notable = []) (key : Nat) :
    s.fireCq n key = s := by
  simp [State.fireCq, listed, nothing, none_]

end

/-! Pushes (R306, R307) -/

section
variable {s : State} {f page slot sl n m : Nat} {data : List Byte} {w : Wq}

/-- Whole entries lie within the units pushed. -/
theorem wholeUnits_le (fuel : Nat) (data : List Byte) : 64 * wholeUnits fuel data ≤ data.length := by
  induction fuel generalizing data with
  | zero => exact Nat.zero_le _
  | succ fuel ih =>
    have later := ih (data.drop (64 * (entryUnits data + 1)))
    rw [List.length_drop] at later
    unfold wholeUnits
    dsimp only
    split
    · exact Nat.zero_le _
    · split
      · exact Nat.zero_le _
      · omega

theorem posDiff_posAdd (p : Nat) (m : Nat) (small : m < 65536) : posDiff (posAdd p m) p = m := by
  unfold posDiff posAdd
  omega

/-- Neither PRODUCER of a WQ nor the state of its link says whether it is fetched. -/
theorem State.fetches_rung (p : Nat) : (s.rung n w p).fetches { w with producer := p, rungAt := s.ns } = s.fetches w :=
  State.fetches_linkActive ..

/-- A push of whole units, whose new PRODUCER lies in the window: its entries enter the device where they continue at FETCH and the
WQ is fetched, and are discarded elsewhere (log 40). -/
theorem exec_pushWrite_inside (open_ : s.barOpen f = true) (bound : s.funcSlice f = some sl) (found : s.slotWq f page slot = some (n, w))
    (runs : (s.slice w.slice).st ≠ .halted) (push : w.push = true) (units : data.length = 64 * m) (some_ : 1 ≤ m) (few : m ≤ 4)
    (inside : w.inWindow (posAdd (entryFld data 47 32) m) = true) :
    exec (.pushWrite f page slot data) s = .next (
      if entryFld data 47 32 = w.fetch ∧ wholeUnits m data ≠ 0
          ∧ wholeUnits m data ≤ posDiff (posAdd (entryFld data 47 32) m) w.fetch ∧ s.fetches w = true then
        (((s.rung n w (posAdd (entryFld data 47 32) m)).putWq n { w with
          producer := posAdd (entryFld data 47 32) m, rungAt := s.ns, fetch := posAdd (entryFld data 47 32) (wholeUnits m data) }).gotSlots n
          (entryFld data 47 32) (data.take (64 * wholeUnits m data)) true).countHost (funcPort f) 7
      else (s.rung n w (posAdd (entryFld data 47 32) m)).countHost (funcPort f) 8) := by
  obtain ⟨w', listed⟩ := State.wq_of_slotWq found
  have length : data.length / 64 = m := by omega
  have shape : ¬ ((!w.push) = true ∨ data.length % 64 ≠ 0 ∨ m = 0 ∨ 4 < m) := by
    rw [push]
    simp only [Bool.not_true, Bool.false_eq_true, false_or]
    omega
  refine congrArg Host.Outcome.next ((State.barWrite_bound open_ bound _).trans ?_)
  rw [found]
  dsimp only
  rw [length, if_neg runs, if_neg shape, State.ring_inside inside, State.wq_rung listed]
  dsimp only
  rw [State.fetches_rung]

end

/-! The fetch of entries (R308) -/

section
variable {s : State}

theorem State.linkActive_arb (s : State) (k l : Nat) : (s.linkActive k l).host.arb = s.host.arb := by
  obtain ⟨ports, out, same⟩ := s.linkActive_eq k l
  rw [same]

/-- A read of at most 512 bytes through a function is one burst. -/
theorem State.hostReadN_one {b : Burst} {n len : Nat} (func : b.func ≠ memFunc) (some_ : len ≠ 0) (few : len ≤ 512) :
    (s.hostReadN b (n + 2) 0 len).1 = s.request { b with inst := s.instFor b.func b.addr false, len := len } := by
  have chunk : chunkOf b.func b.addr = 512 := if_neg func
  unfold State.hostReadN
  rw [if_neg some_]
  dsimp only
  rw [chunk, Nat.min_eq_left few, Nat.sub_eq_zero_of_le few]
  unfold State.hostReadN
  rw [if_pos rfl]

theorem State.request_queued (b : Burst) : { b with id := s.host.arb.nextId } ∈ (s.request b).host.arb.bursts := by
  unfold State.request
  rw [State.wake_arb]
  simp [State.updHost]

/-- The positions of one fetch: at most eight, within PRODUCER, the ring and a page. -/
def Wq.fetchCount (w : Wq) : Nat :=
  min (min 8 (posDiff w.producer w.fetch)) (min (2 ^ w.log - w.fetch % 2 ^ w.log) (64 - w.fetch % 2 ^ w.log % 64))

/-- The device after the WQ's FETCH has moved over `k` positions. -/
def State.fetchMoved (s : State) (n k : Nat) (w : Wq) : State :=
  ((s.useContext (ctxNo 0 n)).putWq n { w with fetch := posAdd w.fetch k }).linkActive (funcPort w.func) (funcLink w.func)

/-- The read that fetches `k` positions of a WQ from its ring. -/
def Wq.fetchBurst (w : Wq) (n k : Nat) : Burst :=
  let a := w.base + 64 * (w.fetch % 2 ^ w.log)
  { func := w.func, slice := w.slice, addr := a, owner := .fetch n w.fetch k, stale := true, ring := some n
    acc := some { slice := w.slice, ia := a, kind := .descriptor, both := false, wq := n, func := w.func } }

theorem exec_wqFetch_resident {n : Nat} {w : Wq} (listed : s.wq n = some w) (fetched : s.fetches w = true) (issues : s.mayIssue w.func = true)
    (resident : s.resident (ctxNo 0 n) = true) (some_ : w.fetchCount ≠ 0) :
    exec (.wqFetch n) s = .next ((s.fetchMoved n w.fetchCount w).hostReadN (w.fetchBurst n w.fetchCount) 4 0 (64 * w.fetchCount)).1 := by
  have goes : ¬ (w.fetchCount = 0 ∨ (!s.fetches w) = true ∨ (!s.mayIssue w.func) = true) := by simp [some_, fetched, issues]
  refine congrArg Host.Outcome.next ?_
  rw [listed]
  refine (if_neg goes).trans (if_neg ?_)
  simp [resident]

end

/-! Bytes of a payload (R317) -/

theorem State.settlePlacing_nothing {s : State} (placing : s.remote.placing = []) (invals : s.remote.invals = []) : s.settlePlacing = s := by
  have shape : ∀ r : Remote, r.placing = [] → r.invals = [] → ({ s with remote := r } : State).settlePlacing = { s with remote := r } := by
    rintro ⟨⟩ rfl rfl
    rfl
  exact shape s.remote placing invals

/-- Settles O31: doorbells and arms from the laws of their slots, pushes and fetches from where FETCH stands. -/
theorem doorbellsArmsAndFetches : Obligations.DoorbellsArmsAndFetches := by
  unfold Obligations.DoorbellsArmsAndFetches
  refine ⟨?inside, ?outside, ?eqArmed, ?eqFires, ?cqArmed, ?taken, ?discarded, ?fetch, ?payload⟩
  case inside => exact fun s f page slot sl n v w open_ bound found runs plain _ inside =>
    exec_wqDoorbell_inside open_ bound found runs plain inside
  case outside =>
    intro s f page slot sl n v w open_ bound found runs plain other outside
    rw [exec_wqDoorbell_open open_ bound found runs plain, State.ring_outside other outside]
  case eqArmed =>
    intro s f page slot sl n v e open_ bound found runs plain arms nothing
    obtain ⟨e', listed⟩ := State.eq_of_slotEq found
    rw [exec_queueArm_eq open_ bound found runs plain arms, State.fireEq_nothing (State.eq_putEq_same listed) nothing]
  case eqFires =>
    intro s f page slot sl n v e open_ bound found runs plain arms beyond ready
    obtain ⟨e', listed⟩ := State.eq_of_slotEq found
    rw [exec_queueArm_eq open_ bound found runs plain arms, 
      State.fireEq_fires (State.eq_putEq_same (e := { e with consumer := fldN v 15 0, armed := true }) listed) rfl beyond ready,
      State.putEq_putEq]
  case cqArmed =>
    intro s f page slot sl n v c open_ bound found runs plain arms nothing none_
    obtain ⟨c', listed⟩ := State.cq_of_slotCq found
    rw [exec_queueArm_cq open_ bound found runs plain arms, Cq.consume_none none_]
    exact congrArg Host.Outcome.next (State.fireCq_nothing
      (State.cq_putCq_same (c := { c with consumer := fldN v 15 0, armed := true, solOnly := bit v 17 }) listed) nothing none_ 0)
  case taken =>
    rintro s f page slot sl n m k data w open_ bound found runs push units some_ few here inside - rfl whole fetched
    have within : wholeUnits m data ≤ m := by
      have le := wholeUnits_le m data
      omega
    rw [exec_pushWrite_inside open_ bound found runs push units some_ few (here ▸ inside), here,
      if_pos ⟨rfl, whole, by rwa [posDiff_posAdd _ _ (by omega)], fetched⟩]
    rfl
  case discarded =>
    intro s f page slot sl n m data w open_ bound found runs push units some_ few _ inside unfetched
    rw [exec_pushWrite_inside open_ bound found runs push units some_ few inside, if_neg (by simp [unfetched])]
    rfl
  case fetch =>
    rintro s n k w listed fetched issues host resident rfl some_
    refine ⟨_, exec_wqFetch_resident listed fetched issues resident some_, ?_, ?_⟩
    · rw [State.wqs_of_queueSide (State.hostReadN_queueSide ..), State.fetchMoved, State.linkActive_wqs]
      exact congrArg (assocPut · n _) (State.wqs_of_queueSide (State.useContext_queueSide ..))
    · have few : 64 * w.fetchCount ≤ 512 := by
        unfold Wq.fetchCount
        omega
      have some' : 64 * w.fetchCount ≠ 0 := Nat.mul_ne_zero (by decide) some_
      rw [State.hostReadN_one (b := w.fetchBurst n w.fetchCount) host some' few]
      exact ⟨_, State.request_queued _, rfl, rfl, rfl, rfl, rfl⟩
  case payload =>
    intro s id r data found owner placing invals
    refine ⟨_, rfl, ?_⟩
    rw [found]
    dsimp only
    rw [owner]
    dsimp only
    rw [State.settlePlacing_nothing] <;> simp only [State.readDone, owner]
    · exact ⟨rfl, rfl⟩
    · exact placing
    · exact invals

end Sys2Proof.Machine
end

section
/-! Entries that end, and work queues that fail (family 10, work queues; O33): what a completion, an event and an error of a queue leave of
the packets built and of the work queues' states. -/

namespace Sys2Proof.Machine

/-! What an event of the host side leaves alone (R313–R315) -/

/-- The work queues and the slices they belong to. -/
structure WorkSide where
  wqs    : List (Nat × Wq)
  slices : Table Slice

def State.workSide (s : State) : WorkSide := ⟨s.host.wqs, s.host.slices⟩

theorem State.workSide_of_queueSide {s t : State} (same : t.queueSide = s.queueSide) : t.workSide = s.workSide :=
  congrArg (fun q : QueueSide => WorkSide.mk q.wqs q.slices) same

section
variable (s : State)

@[simp] theorem State.msix_queueSide (f v sl key : Nat) : (s.msix f v sl key).queueSide = s.queueSide := by
  unfold State.msix
  dsimp only
  split
  · rfl
  · exact State.request_queueSide ..

@[simp] theorem State.loadContext_queueSide (k : Nat) : (s.loadContext k).queueSide = s.queueSide := by
  unfold State.loadContext
  dsimp only
  split
  · rfl
  · exact State.hostReadN_queueSide ..

@[simp] theorem State.hostWrite_workSide (b : Burst) (data : List Byte) : (s.hostWrite b data).workSide = s.workSide :=
  State.workSide_of_queueSide (State.hostWrite_queueSide ..)
@[simp] theorem State.hostReadN_workSide (b : Burst) (n off len : Nat) : (s.hostReadN b n off len).1.workSide = s.workSide :=
  State.workSide_of_queueSide (State.hostReadN_queueSide ..)
@[simp] theorem State.msix_workSide (f v sl key : Nat) : (s.msix f v sl key).workSide = s.workSide :=
  State.workSide_of_queueSide (State.msix_queueSide ..)
@[simp] theorem State.useContext_workSide (k : Nat) : (s.useContext k).workSide = s.workSide :=
  State.workSide_of_queueSide (State.useContext_queueSide ..)
@[simp] theorem State.loadContext_workSide (k : Nat) : (s.loadContext k).workSide = s.workSide :=
  State.workSide_of_queueSide (State.loadContext_queueSide ..)
@[simp] theorem State.putEq_workSide (n : Nat) (e : Eq) : (s.putEq n e).workSide = s.workSide := rfl
@[simp] theorem State.putCq_workSide (n : Nat) (c : Cq) : (s.putCq n c).workSide = s.workSide := rfl
@[simp] theorem State.putCq_besidesHost (n : Nat) (c : Cq) : (s.putCq n c).besidesHost = s.besidesHost := rfl
@[simp] theorem State.countSlice_workSide (sl e k : Nat) : (s.countSlice sl e k).workSide = s.workSide := rfl

@[simp] theorem State.writeEvent_workSide (n ty src detail key : Nat) : (s.writeEvent n ty src detail key).workSide = s.workSide := by
  unfold State.writeEvent
  split <;> simp [State.ringWrite]

@[simp] theorem State.fireEq_workSide (n key : Nat) : (s.fireEq n key).workSide = s.workSide := by
  unfold State.fireEq
  (repeat' split) <;> simp

@[simp] theorem State.overrunEvent_workSide (n : Nat) : (s.overrunEvent n).workSide = s.workSide := by
  unfold State.overrunEvent
  (repeat' split) <;> simp

@[simp] theorem State.event_workSide (n ty src detail key : Nat) : (s.event n ty src detail key).workSide = s.workSide := by
  unfold State.event
  dsimp only
  (repeat' split) <;> simp

@[simp] theorem State.sliceEvent_workSide (sl ty src detail : Nat) : (s.sliceEvent sl ty src detail).workSide = s.workSide := by
  unfold State.sliceEvent
  split <;> simp

end

/-! The end of an entry (R309–R312, R316) -/

/-- Work queue `n` is not READY. -/
def State.WqDown (s : State) (n : Nat) : Prop := ∀ w, s.wq n = some w → w.st ≠ .ready

/-- From `s` to `t` entries have ended: no packet was built, and no work queue has become READY. -/
structure Ends (s t : State) : Prop where
  built : t.built = s.built
  down  : ∀ n, s.WqDown n → t.WqDown n

section
variable {s t : State}

theorem State.WqDown.of_wqs {n : Nat} (h : s.WqDown n) (same : t.host.wqs = s.host.wqs) : t.WqDown n := by
  unfold State.WqDown State.wq
  rwa [same]

theorem State.WqDown.of_workSide {n : Nat} (h : s.WqDown n) (same : t.workSide = s.workSide) : t.WqDown n :=
  h.of_wqs (congrArg WorkSide.wqs same)

theorem Ends.refl (s : State) : Ends s s := ⟨rfl, fun _ h => h⟩

theorem Ends.of_same {u : State} (h : Ends s t) (built : u.built = t.built) (wqs : u.host.wqs = t.host.wqs) : Ends s u :=
  ⟨built.trans h.built, fun n down => (h.down n down).of_wqs wqs⟩

/-- What moves neither the work queues nor anything beside the host. -/
theorem Ends.of_sides {u : State} (h : Ends s t) (besides : u.besidesHost = t.besidesHost) (work : u.workSide = t.workSide) : Ends s u :=
  h.of_same (congrArg State.built besides :) (congrArg WorkSide.wqs work)

theorem Ends.foldl {β : Type} {f : State → β → State} (keeps : ∀ t b, Ends s t → Ends s (f t b)) (l : List β) (h : Ends s t) :
    Ends s (l.foldl f t) := by
  induction l generalizing t with
  | nil => exact h
  | cons b l ih => exact ih (keeps t b h)

/-- A work queue put back READY was so. -/
theorem State.WqDown.putWq {n m : Nat} {w w' : Wq} (h : s.WqDown n) (listed : s.wq m = some w) (ready : w'.st = .ready → w.st = .ready) :
    (s.putWq m w').WqDown n := by
  intro x found
  by_cases same : n = m
  · subst same
    rw [State.wq_putWq_same listed] at found
    cases found
    exact fun up => h w listed (ready up)
  · rw [State.wq_putWq_other _ same] at found
    exact h x found

theorem Ends.putWq {m : Nat} {w w' : Wq} (h : Ends s t) (listed : t.wq m = some w) (ready : w'.st = .ready → w.st = .ready) :
    Ends s (t.putWq m w') :=
  ⟨h.built, fun n down => (h.down n down).putWq listed ready⟩

theorem Ends.queueErrorEvent (h : Ends s t) (sl kind n cause : Nat) : Ends s (t.queueErrorEvent sl kind n cause) :=
  h.of_sides (State.sliceEvent_besidesHost ..) (State.sliceEvent_workSide ..)

theorem Ends.sampled (h : Ends s t) (n sl : Nat) (e : WqEntry) (status count : Nat) : Ends s (t.sampled n sl e status count) := by
  unfold State.sampled
  split
  · exact h
  · exact h.of_same rfl rfl

theorem Ends.countSlice (h : Ends s t) (sl e k : Nat) : Ends s (t.countSlice sl e k) := h.of_same rfl rfl

theorem Ends.countComp (h : Ends s t) (sl : Nat) (c : Comp) : Ends s (t.countComp sl c) := by
  unfold State.countComp
  dsimp only
  (repeat' split) <;> exact h.of_same rfl rfl

theorem Ends.ite {c : Prop} [Decidable c] {a b : State} (ha : Ends s a) (hb : Ends s b) : Ends s (if c then a else b) := by
  split
  · exact ha
  · exact hb

theorem Ends.fireCq (h : Ends s t) (n key : Nat) : Ends s (t.fireCq n key) := by
  unfold State.fireCq
  split
  · exact h
  · exact .ite (h.of_sides (State.event_besidesHost ..) (State.event_workSide ..)) h

theorem Ends.wqErrorSilent (h : Ends s t) (n cause : Nat) : Ends s (t.wqErrorSilent n cause) := by
  unfold State.wqErrorSilent
  split
  · exact h
  · next w listed =>
    split
    · exact h
    · have listed' : ∀ u : State, u.host.wqs = t.host.wqs → u.wq n = some w := fun u same => by rwa [State.wq, same]
      have samples : ∀ (l : List WqEntry) (u : State), (l.foldl (fun s e => s.sampled n w.slice e 0xFF 0) u).host.wqs = u.host.wqs := by
        intro l
        induction l with
        | nil => exact fun _ => rfl
        | cons e l ih =>
          intro u
          rw [List.foldl_cons, ih]
          unfold State.sampled
          split <;> rfl
      dsimp only
      refine Ends.queueErrorEvent (Ends.putWq ?ended (listed' _ ?kept) ?down) ..
      case ended => exact Ends.foldl (fun _ e hu => hu.sampled ..) _ (h.of_same rfl rfl)
      case kept => exact samples _ _
      case down => exact fun up => by cases up

theorem Ends.cqError (h : Ends s t) (n cause : Nat) : Ends s (t.cqError n cause) := by
  unfold State.cqError
  split
  · exact h
  · next c _ =>
    have failed : Ends s ((t.putCq n { c with st := .error cause }).queueErrorEvent c.slice 1 n cause) :=
      Ends.queueErrorEvent (t := t.putCq n _) (h.of_same rfl rfl) ..
    exact .ite h (.ite (.foldl (fun _ _ hu => hu.wqErrorSilent ..) _ failed) failed)

theorem Ends.writeCompletion (h : Ends s t) (n : Nat) (c : Completion) (key : Nat) : Ends s (t.writeCompletion n c key) := by
  unfold State.writeCompletion
  split
  · exact h
  · next q _ =>
    have held : ∀ x, Ends s (t.putCq n x) := fun x => h.of_same rfl rfl
    refine .ite h (.ite (held _) (.ite ?load (.ite (.ite ?consumer (h.cqError ..)) (.fireCq ?written ..))))
    case load => exact (held _).of_sides (State.loadContext_besidesHost ..) (State.loadContext_workSide ..)
    case consumer => exact (held _).of_sides (State.hostReadN_besidesHost ..) (State.hostReadN_workSide ..)
    case written => refine h.of_sides ?_ ?_ <;> simp [State.ringWrite]

theorem Ends.finish (s : State) (n pos : Nat) (st : Comp) (count detail specific : Nat) (solicited : Bool) :
    Ends s (s.finish n pos st count detail specific solicited) := by
  unfold State.finish
  split
  · exact .refl s
  · next w listed =>
    split
    · exact .refl s
    · dsimp only
      have moved : ∀ w' : Wq, w'.st = w.st → Ends s ((s.putWq n w').dropItemOf n pos) := fun w' same =>
        ((Ends.refl s).putWq listed (fun up => same ▸ up)).of_same rfl rfl
      split
      · refine .writeCompletion (.countComp (.sampled (moved _ ?_) ..) ..) ..
        rfl
      · refine .of_same (.sampled (moved _ ?_) ..) rfl rfl
        rfl

end

end Sys2Proof.Machine
end

section
/-! The commands of QUEUE_CMD (family 10, work queues; O33): what an answer leaves of the queues, queues that are added and removed, and
work queues that fail. -/

namespace Sys2Proof.Machine

/-! Fields of a word (R296) -/

/-- The field that is replaced. -/
theorem fldN_setFld_same {w : Nat} (v : BitVec w) {hi lo x : Nat} (ordered : lo ≤ hi) (inside : hi < w) (fits : x < 2 ^ (hi + 1 - lo)) :
    fldN (setFld v hi lo x) hi lo = x := by
  refine Nat.eq_of_testBit_eq fun i => ?_
  simp only [fldN, Nat.testBit_mod_two_pow, Nat.testBit_shiftRight, BitVec.testBit_toNat]
  by_cases field : i < hi + 1 - lo
  · have within : lo ≤ lo + i ∧ lo + i ≤ hi := by omega
    rw [← bit, bit_setFld v x ordered (by omega), if_pos within, decide_eq_true field, Bool.true_and, Nat.add_sub_cancel_left]
  · have beyond : x < 2 ^ i := Nat.lt_of_lt_of_le fits (Nat.pow_le_pow_right (by decide) (by omega))
    rw [decide_eq_false field, Bool.false_and, Nat.testBit_lt_two_pow beyond]

/-- A flag of a queue command, read from its field of flags or from the word. -/
theorem cmdFlag (v : Image) {k : Nat} (flag : k < 8) : (cmdWord v 11 1 / 2 ^ k % 2 == 1) = bit v (88 + k) := by
  have odd : ∀ n : Nat, (n % 2 == 1) = n.testBit 0 := fun n => by rw [Nat.testBit_zero]; rfl
  rw [odd, Nat.testBit_div_two_pow, cmdWord, fldN, Nat.testBit_mod_two_pow, Nat.testBit_shiftRight, BitVec.testBit_toNat, bit,
    Nat.zero_add, decide_eq_true (by omega), Bool.true_and]

/-! What an answer leaves of the queues (R565) -/

section
variable (s : State)

@[simp] theorem State.emit_queueSide (o : Out) : (s.emit o).queueSide = s.queueSide := rfl
@[simp] theorem State.setHport_queueSide (k : Nat) (h : HPort) : (s.setHport k h).queueSide = s.queueSide := rfl

@[simp] theorem State.sendFdp_queueSide (p : Path) (r : FdpResp) : (s.sendFdp p r).queueSide = s.queueSide := by
  unfold State.sendFdp
  cases p with
  | mailbox k l =>
    dsimp only
    (repeat' split) <;> simp
  | _ => rfl

@[simp] theorem State.answer_queueSide (q : Req) (obj sub : Nat) (f : Fdp) (body : List Byte) :
    (s.answer q obj sub f body).queueSide = s.queueSide := by
  unfold State.answer
  dsimp only
  split <;> exact State.sendFdp_queueSide ..

@[simp] theorem State.answerOwed_queueSide (obj sub : Nat) (f : Fdp) : (s.answerOwed obj sub f).queueSide = s.queueSide := by
  unfold State.answerOwed
  split
  · rfl
  · dsimp only
    split <;> exact State.answer_queueSide ..

@[simp] theorem State.answerClose_queueSide (w : Wq) : (s.answerClose w).queueSide = s.queueSide := by
  unfold State.answerClose
  split
  · exact State.answerOwed_queueSide ..
  · rfl

end

/-- What refuses a write before its object's own rules lets an accepted one in. -/
theorem State.writeRefused_accepted {s : State} {q : Req} {role : Role} {r : Reg} {i e : Nat} {v : Image}
    (stores : s.mayStore q role r i e v = true) (unmirrored : mirrorScope r i = none) (chk : State → Option Fdp)
    (eff : State → State × Option Fdp) : s.writeRefused q role r i (fun _ _ _ => { chk := chk, eff := eff }) [(e, v)] = none := by
  simp only [State.mayStore, Bool.and_eq_true, Bool.not_eq_true', decide_eq_true_eq] at stores
  obtain ⟨⟨⟨⟨⟨⟨there, rights⟩, life⟩, width⟩, reserved⟩, even⟩, entry⟩ := stores
  have may : r.writable i role ≠ 0 := fun none_ => by simp [Reg.denies, none_] at rights
  have there' : ¬(r.insts ≤ i ∧ (¬i = 48 ∨ r.twin = 0)) := by
    simp only [Bool.or_eq_true, decide_eq_true_eq, Bool.and_eq_true, beq_iff_eq, bne_iff_ne] at there
    omega
  have narrow : ¬ 2 ^ r.bits ≤ v.toNat := Nat.not_le.2 width
  split at entry
  · next plain =>
    simp only [Bool.and_eq_true, beq_iff_eq, decide_eq_true_eq] at entry
    obtain ⟨⟨first, one⟩, within⟩ := entry
    simpa [State.writeRefused, rights, life, may, narrow, reserved, even, plain, first, one, within, unmirrored] using there'
  · next array =>
    rw [decide_eq_true_eq] at entry
    simpa [State.writeRefused, rights, life, may, narrow, reserved, even, array, Nat.not_le.2 entry, unmirrored] using there'

/-- An accepted write of an object that stores nothing and that no partner mirrors: of the queues, what its effect makes of them. -/
theorem State.dictRun_queueSide {P : QueueSide → Prop} {s : State} {q : Req} {role : Role} {r : Reg} {i e : Nat} {v : Image}
    {chk : State → Option Fdp} {eff : State → State × Option Fdp} (accepted : s.mayWrite q role r i e v = true)
    (unmirrored : mirrorScope r i = none) (unstored : r.wo = r.rw)
    (good : ∀ b a au an sf, chk (s.taken b a au an sf) = none)
    (effect : ∀ b a au an sf, P (eff (s.taken b a au an sf)).1.queueSide) : P (s.dictRun q r i e v chk eff).queueSide := by
  simp only [State.mayWrite, Bool.and_eq_true] at accepted
  obtain ⟨⟨⟨⟨door, stores⟩, room⟩, -⟩, -⟩ := accepted
  obtain ⟨b, a, served⟩ := State.serve_atDoor door
  have room' : (s.taken b a s.mgmt.audit s.mgmt.auditNext s.mgmt.segFree).roomFor q role r = true := room
  have recorded : (s.taken b a s.mgmt.audit s.mgmt.auditNext s.mgmt.segFree).auditRefuses role r = false := by
    simp only [State.roomFor, Bool.and_eq_true, Bool.not_eq_true'] at room
    exact room.1
  obtain ⟨au, an, sf, record⟩ := State.recordVal_room room' i e (auditValue r.bits [v]).1 (auditValue r.bits [v]).2
  have record' : (s.taken b a s.mgmt.audit s.mgmt.auditNext s.mgmt.segFree).recordWrite q role r i e [v] = .ok (s.taken b a au an sf) := record
  have applied : ∀ t : State, chk t = none → t.applyEntries r i (fun _ _ _ => { chk := chk, eff := eff }) [(e, v)]
      = ((eff t).1, [], [(eff t).2]) := by
    intro t passes
    simp [State.applyEntries, passes, unstored]
  unfold State.dictRun State.dictRunR State.writeRun
  dsimp only
  rw [served]
  have refused := State.writeRefused_accepted (s := s.taken b a s.mgmt.audit s.mgmt.auditNext s.mgmt.segFree) (q := q) (role := role)
    stores unmirrored chk eff
  simp only [List.zipIdx_cons, List.zipIdx_nil, List.map_cons, List.map_nil, refused, unmirrored, reduceCtorEq, false_and, if_false,
    applied _ (good _ _ _ _ _), recorded, Bool.false_eq_true, List.append_nil, firstRefusal, record']
  have shown := effect b a au an sf
  unfold State.mirrored
  rw [unmirrored]
  cases allAnswers [(eff (s.taken b a au an sf)).2] with
  | none => exact shown
  | some f => exact (State.answer_queueSide ..).symm ▸ shown

/-! Queues that are added and removed -/

section
variable {α : Type} {l : List (Nat × α)} {n m : Nat}

theorem assoc_filter_same : assoc (l.filter (fun e => decide (e.1 ≠ n))) n = none := by
  induction l with
  | nil => rfl
  | cons e l ih =>
    rw [List.filter_cons]
    split
    · next other =>
      rw [assoc_cons, if_neg (of_decide_eq_true other), ih]
    · exact ih

theorem assoc_filter_other (other : m ≠ n) : assoc (l.filter (fun e => decide (e.1 ≠ n))) m = assoc l m := by
  induction l with
  | nil => rfl
  | cons e l ih =>
    rw [List.filter_cons, assoc_cons]
    split
    · rw [assoc_cons, ih]
    · next own =>
      have own : e.1 = n := by simpa using own
      rw [ih, if_neg (own ▸ Ne.symm other)]

theorem assoc_append_new {x : α} (free : assoc l n = none) : assoc (l ++ [(n, x)]) n = some x := by
  induction l with
  | nil => simp [assoc]
  | cons e l ih =>
    rw [assoc_cons] at free
    rw [List.cons_append, assoc_cons]
    split at free
    · cases free
    · next other => rw [if_neg other, ih free]

end

/-- A work queue that is removed leaves the others as they are. -/
theorem State.removeWq_wqs (s : State) (n : Nat) : (s.removeWq n).host.wqs = s.host.wqs.filter (fun w => w.1 ≠ n) := by
  unfold State.removeWq
  dsimp only
  split
  · rw [State.wqs_of_queueSide (State.answerClose_queueSide ..)]
    rfl
  · rfl

theorem State.wq_removeWq_same (s : State) (n : Nat) : (s.removeWq n).wq n = none := by
  rw [State.wq, State.removeWq_wqs]
  exact assoc_filter_same

/-! Packets that are built (R33, R59) -/

/-- The packet carries what a block has put into it. -/
structure Built.Carries (b : Built) (h : Header) (payload : List Byte) : Prop where
  cmd        : b.hdr.cmd = h.cmd
  cls        : b.hdr.cls = h.cls
  dstNode    : b.hdr.dstNode = h.dstNode
  dstStation : b.hdr.dstStation = h.dstStation
  pkey       : b.hdr.pkey = h.pkey
  msgId      : b.hdr.msgId = h.msgId
  offset     : b.hdr.offset = h.offset
  ctx        : b.hdr.ctx = h.ctx
  ext        : b.hdr.ext = h.ext
  payload    : b.payload = payload

/-- The state after a packet is built: what the choice of its route and its charge may touch, and the packet. -/
def State.withBuilt (s : State) (b : Built) (tw : Twin) (d : Nat) (il : Table Int) (ib : Table Buckets) (c tt : Table (BitVec 64)) : State :=
  { s with built := s.built ++ [b], twin := tw, draws := d, injLevel := il, injBuckets := ib, counters := c, totals := tt }

/-- Charging a packet moves levels, buckets and counters alone. -/
theorem State.colour_eq (s : State) (sl cls l : Nat) : ∃ il ib c tt,
    (s.colour sl cls l).1 = { s with injLevel := il, injBuckets := ib, counters := c, totals := tt } := by
  unfold State.colour
  dsimp only
  (repeat' split) <;> exact ⟨_, _, _, _, rfl⟩

theorem State.inject_built (s : State) (sl stop : Nat) (h : Header) (payload : List Byte) (wait : List (Nat × Nat))
    (owner : Option (Nat × Nat)) (charge : Nat) (answer : Bool) : ∃ b tw d il ib c tt, b.Carries h payload
      ∧ s.inject sl stop h payload wait owner charge answer = s.withBuilt b tw d il ib c tt := by
  unfold State.inject
  extract_lets cls draw
  obtain ⟨mode, via⟩ := s.routeMode cls h.dstNode draw
  dsimp only
  split
  · refine ⟨_, _, _, _, _, _, _, ?_, rfl⟩
    exact ⟨rfl, rfl, rfl, rfl, rfl, rfl, rfl, rfl, rfl, rfl⟩
  · obtain ⟨il, ib, c, tt, charged⟩ := State.colour_eq ((s.noteRoute (s.modeReads cls h.dstNode draw)).drawn) sl cls charge
    rw [charged]
    refine ⟨_, _, _, _, _, _, _, ?_, rfl⟩
    exact ⟨rfl, rfl, rfl, rfl, rfl, rfl, rfl, rfl, rfl, rfl⟩

theorem State.inject_host (s : State) (sl stop : Nat) (h : Header) (payload : List Byte) (wait : List (Nat × Nat))
    (owner : Option (Nat × Nat)) (charge : Nat) (answer : Bool) :
    (s.inject sl stop h payload wait owner charge answer).host = s.host := by
  obtain ⟨b, tw, d, il, ib, c, tt, -, same⟩ := s.inject_built sl stop h payload wait owner charge answer
  rw [same]
  rfl

/-! Work queues that fail (R316, Table MSG-6) -/

section
variable {s : State} {n : Nat}

theorem State.WqDown.foldl {β : Type} {f : State → β → State} (keeps : ∀ t b, t.WqDown n → (f t b).WqDown n) (l : List β)
    (h : s.WqDown n) : (l.foldl f s).WqDown n := by
  induction l generalizing s with
  | nil => exact h
  | cons b l ih => exact ih (keeps s b h)

theorem State.putPeer_queueSide (s : State) (p : Peer) : (s.putPeer p).queueSide = s.queueSide := by
  unfold State.putPeer State.evict
  dsimp only
  split
  · exact State.hostWrite_queueSide ..
  · rfl

theorem State.updRdvS_queueSide (s : State) (p : Pair) (f : List RdvSend → List RdvSend) : (s.updRdvS p f).queueSide = s.queueSide := by
  unfold State.updRdvS
  split
  · exact State.putPeer_queueSide ..
  · rfl

theorem State.WqDown.failRdvS (h : s.WqDown n) (sl : Nat) (p : Pair) (r : RdvSend) (own : Comp) (detail : Nat) (peer : Comp) :
    (s.failRdvS sl p r own detail peer).WqDown n := by
  have removed := h.of_wqs (State.wqs_of_queueSide (State.updRdvS_queueSide s p (·.filter (fun x => !(x.wq = r.wq ∧ x.pos = r.pos)))))
  unfold State.failRdvS
  refine (Ends.finish ..).down n ?_
  split
  · exact removed
  · exact removed.of_wqs (congrArg HostSide.wqs (State.inject_host ..))

theorem State.WqDown.wqError (s : State) (n cause : Nat) : (s.wqError n cause).WqDown n := by
  unfold State.wqError
  split
  · next gone =>
    intro w found
    rw [gone] at found
    cases found
  · next w listed =>
    split
    · next down =>
      intro w' found
      rw [listed] at found
      cases found
      exact down
    · have failed : ((s.putWq n { w with st := .error cause }).dropItems n).WqDown n := by
        intro w' found
        have same : (s.putWq n { w with st := .error cause }).wq n = some w' := found
        rw [State.wq_putWq_same listed] at same
        cases same
        exact fun up => by cases up
      exact (State.WqDown.foldl (fun _ e hu => (Ends.finish ..).down n hu) _ failed).of_workSide (State.sliceEvent_workSide ..)

theorem State.WqDown.wqFail (s : State) (n cause : Nat) : (s.wqFail n cause).WqDown n :=
  .foldl (fun _ _ hp => .foldl (fun _ _ hr => hr.failRdvS _ _ _ _ _ _) _ hp) _ (.wqError s n cause)

/-- A work queue whose destruction has begun is gone, or in ERROR and closing. -/
theorem State.wq_destroyWq (s : State) (n : Nat) {w : Wq} (found : (s.destroyWq n).wq n = some w) : w.closing = true ∧ w.st ≠ .ready := by
  have down := State.WqDown.wqFail s n 6
  unfold State.destroyWq at found
  dsimp only at found
  split at found
  · next gone =>
    rw [gone] at found
    cases found
  · next w' listed =>
    have put := State.wq_putWq_same (w := { w' with closing := true }) listed
    unfold State.closeDone at found
    rw [put] at found
    dsimp only at found
    split at found
    · rw [State.wq_removeWq_same] at found
      cases found
    · rw [put] at found
      cases found
      exact ⟨rfl, down w' listed⟩

end

/-! QUEUE_CMD (R296, R297) -/

section
variable {P : QueueSide → Prop} {s : State} {q : Req} {role : Role} {sl : Nat} {x : Image}

/-- A queue command that is not refused. -/
structure State.Commands (s : State) (q : Req) (role : Role) (sl op : Nat) (x : Image) : Prop where
  accepted : s.mayWrite q role R.queueCmd sl 0 x = true
  good     : s.queueCmdBad sl x = false
  op       : cmdWord x 0 1 = op

theorem cmdWord_setFld (v : Image) {op : Nat} (fits : op < 8) : cmdWord (setFld v 7 0 op) 0 1 = op :=
  fldN_setFld_same v (by decide) (by decide) (by omega)

theorem cmdPush : (cmdWord x 11 1 % 2 == 1) = bit x 88 := by simpa using cmdFlag x (k := 0) (by decide)
theorem cmdSlices : (cmdWord x 11 1 / 2 % 2 == 1) = bit x 89 := by simpa using cmdFlag x (k := 1) (by decide)
theorem cmdJobValid : (cmdWord x 11 1 / 4 % 2 == 1) = bit x 90 := by simpa using cmdFlag x (k := 2) (by decide)

/-- CREATE_WQ adds the work queue. -/
theorem State.queueCmdWrite_createWq (command : s.Commands q role sl 1 x) (room : s.queuesFull sl 1 (cmdWord x 2 2) = false) :
    (s.queueCmdWrite q sl x).host.wqs = s.host.wqs ++ [(cmdWord x 2 2, {
      slice := sl, func := cmdFunc x, page := cmdWord x 8 2, slot := cmdWord x 10 1, log := cmdWord x 1 1, base := cmdWord x 16 8
      cq := cmdWord x 4 2, station := cmdWord x 26 2, push := bit x 88, jobValid := bit x 90, job := cmdWord x 12 3
      producer := cmdWord x 24 2, fetch := cmdWord x 24 2, head := cmdWord x 24 2, parse := cmdWord x 24 2
      home := s.wqHome sl (cmdWord x 2 2), priv := s.supervisor sl (cmdWord x 8 2) })] := by
  unfold State.queueCmdWrite
  refine State.dictRun_queueSide (P := fun t => t.wqs = _) command.accepted rfl rfl (fun b a au an sf => ?_) (fun b a au an sf => ?_)
  · have good : (s.taken b a au an sf).queueCmdBad sl x = false := command.good
    have room : (s.taken b a au an sf).queuesFull sl 1 (cmdWord x 2 2) = false := room
    simp [good, room, command.op]
  · simp only [command.op, if_true, State.useContext_queueSide, ← cmdPush, ← cmdJobValid]
    rfl

/-- CREATE_CQ adds the completion queue. -/
theorem State.queueCmdWrite_createCq (command : s.Commands q role sl 2 x) (room : s.queuesFull sl 2 (cmdWord x 2 2) = false)
    (compute : s.serviceMode = false) :
    (s.queueCmdWrite q sl x).host.cqs = s.host.cqs ++ [(cmdWord x 2 2, {
      slice := sl, func := cmdFunc x, page := cmdWord x 8 2, slot := cmdWord x 10 1, log := cmdWord x 1 1, base := cmdWord x 16 8
      eq := cmdWord x 4 2, wpos := cmdWord x 24 2, start := cmdWord x 24 2, consumer := cmdWord x 24 2 })] := by
  unfold State.queueCmdWrite
  refine State.dictRun_queueSide (P := fun t => t.cqs = _) command.accepted rfl rfl (fun b a au an sf => ?_) (fun b a au an sf => ?_)
  · have good : (s.taken b a au an sf).queueCmdBad sl x = false := command.good
    have room : (s.taken b a au an sf).queuesFull sl 2 (cmdWord x 2 2) = false := room
    simp [good, room, command.op]
  · have compute : (s.taken b a au an sf).serviceMode = false := compute
    simp only [command.op, Nat.reduceEqDiff, if_false, if_true, State.useContext_queueSide, compute, Bool.false_eq_true]
    rfl

/-- CREATE_EQ adds the event queue. -/
theorem State.queueCmdWrite_createEq (command : s.Commands q role sl 3 x) (room : s.queuesFull sl 3 (cmdWord x 2 2) = false) :
    (s.queueCmdWrite q sl x).host.eqs = s.host.eqs ++ [(cmdWord x 2 2, {
      slice := sl, func := cmdFunc x, page := cmdWord x 8 2, slot := cmdWord x 10 1, log := cmdWord x 1 1, base := cmdWord x 16 8
      vector := cmdWord x 4 2, slices := bit x 89, wpos := cmdWord x 24 2, consumer := cmdWord x 24 2 })] := by
  unfold State.queueCmdWrite
  refine State.dictRun_queueSide (P := fun t => t.eqs = _) command.accepted rfl rfl (fun b a au an sf => ?_) (fun b a au an sf => ?_)
  · have good : (s.taken b a au an sf).queueCmdBad sl x = false := command.good
    have room : (s.taken b a au an sf).queuesFull sl 3 (cmdWord x 2 2) = false := room
    simp [good, room, command.op]
  · simp only [command.op, Nat.reduceEqDiff, if_false, if_true, State.useContext_queueSide, ← cmdSlices]
    rfl

/-- DESTROY_WQ begins the work queue's destruction. -/
theorem State.queueCmdWrite_destroyWq (command : s.Commands q role sl 4 x) {w : Wq}
    (found : (s.queueCmdWrite q sl x).wq (cmdWord x 2 2) = some w) : w.closing = true ∧ w.st ≠ .ready := by
  unfold State.queueCmdWrite at found
  revert w
  refine State.dictRun_queueSide (P := fun t => ∀ {w}, assoc t.wqs (cmdWord x 2 2) = some w → w.closing = true ∧ w.st ≠ .ready)
    command.accepted rfl rfl (fun b a au an sf => ?_) (fun b a au an sf => ?_)
  · have good : (s.taken b a au an sf).queueCmdBad sl x = false := command.good
    simp [good, command.op]
  · simp only [command.op, Nat.reduceEqDiff, if_false, if_true]
    exact State.wq_destroyWq _ _

/-- DESTROY_CQ removes a completion queue that no work queue uses. -/
theorem State.queueCmdWrite_destroyCq (command : s.Commands q role sl 5 x) (unused : s.host.wqs.all (fun w => w.2.cq != cmdWord x 2 2) = true) :
    (s.queueCmdWrite q sl x).host.cqs = s.host.cqs.filter (fun c => c.1 ≠ cmdWord x 2 2) := by
  unfold State.queueCmdWrite
  refine State.dictRun_queueSide (P := fun t => t.cqs = _) command.accepted rfl rfl (fun b a au an sf => ?_) (fun b a au an sf => ?_)
  · have good : (s.taken b a au an sf).queueCmdBad sl x = false := command.good
    have unused : s.host.wqs.any (fun w => w.2.cq = cmdWord x 2 2) = false := by simpa using unused
    simp [good, unused, command.op]
  · simp only [command.op, Nat.reduceEqDiff, if_false, if_true]
    rfl

/-- DESTROY_EQ removes an event queue that no completion queue uses. -/
theorem State.queueCmdWrite_destroyEq (command : s.Commands q role sl 6 x) (unused : s.host.cqs.all (fun c => c.2.eq != cmdWord x 2 2) = true) :
    (s.queueCmdWrite q sl x).host.eqs = s.host.eqs.filter (fun e => e.1 ≠ cmdWord x 2 2) := by
  unfold State.queueCmdWrite
  refine State.dictRun_queueSide (P := fun t => t.eqs = _) command.accepted rfl rfl (fun b a au an sf => ?_) (fun b a au an sf => ?_)
  · have good : (s.taken b a au an sf).queueCmdBad sl x = false := command.good
    have unused : ∀ c ∈ s.host.cqs, c.2.eq ≠ cmdWord x 2 2 := by simpa using unused
    simp only [good, command.op, Bool.false_eq_true, if_false, Nat.reduceLeDiff, Nat.reduceEqDiff, false_and, true_and]
    refine if_neg fun used => ?_
    obtain ⟨c, listed, both⟩ := List.any_eq_true.1 used
    exact unused c listed (of_decide_eq_true both).1
  · simp only [command.op, Nat.reduceEqDiff, if_false, if_true]
    rfl

/-- RESET_WQ makes a work queue that is not closing READY and empty. -/
theorem State.wq_queueCmdWrite_resetWq (command : s.Commands q role sl 7 x) {w : Wq} (listed : s.wq (cmdWord x 2 2) = some w)
    (stays : w.closing = false) :
    (s.queueCmdWrite q sl x).wq (cmdWord x 2 2) = some { w with
      st := .ready, producer := cmdWord x 24 2, fetch := cmdWord x 24 2, head := cmdWord x 24 2, parse := cmdWord x 24 2
      raw := [], entries := [] } := by
  unfold State.queueCmdWrite
  refine State.dictRun_queueSide (P := fun t => assoc t.wqs _ = _) command.accepted rfl rfl (fun b a au an sf => ?_) (fun b a au an sf => ?_)
  · have good : (s.taken b a au an sf).queueCmdBad sl x = false := command.good
    have listed : (s.taken b a au an sf).wq (cmdWord x 2 2) = some w := listed
    simp [good, listed, stays, command.op]
  · have listed : (s.taken b a au an sf).wq (cmdWord x 2 2) = some w := listed
    simp only [command.op, Nat.reduceEqDiff, if_false, listed, State.useContext_queueSide, ← stays]
    exact assoc_append_new (State.wq_removeWq_same _ _)

end

/-- Settles O33: each command of QUEUE_CMD from what its effect makes of the queues. -/
theorem queuesAreCreatedAndDestroyed : Obligations.QueuesAreCreatedAndDestroyed := by
  unfold Obligations.QueuesAreCreatedAndDestroyed
  refine ⟨?createWq, ?createCq, ?createEq, ?destroyWq, ?destroyCq, ?destroyEq, ?resetWq⟩
  case createWq =>
    rintro s q role sl n v x rfl accepted good room rfl
    exact ⟨_, rfl, State.queueCmdWrite_createWq ⟨accepted, good, cmdWord_setFld v (by decide)⟩ room⟩
  case createCq =>
    rintro s q role sl n v x rfl accepted good room rfl compute
    exact ⟨_, rfl, State.queueCmdWrite_createCq ⟨accepted, good, cmdWord_setFld v (by decide)⟩ room compute⟩
  case createEq =>
    rintro s q role sl n v x rfl accepted good room rfl
    exact ⟨_, rfl, State.queueCmdWrite_createEq ⟨accepted, good, cmdWord_setFld v (by decide)⟩ room⟩
  case destroyWq =>
    rintro s q role sl n v x rfl accepted good rfl
    exact ⟨_, rfl, fun w found => State.queueCmdWrite_destroyWq ⟨accepted, good, cmdWord_setFld v (by decide)⟩ found⟩
  case destroyCq =>
    rintro s q role sl n v x rfl accepted good rfl unused
    have left := State.queueCmdWrite_destroyCq ⟨accepted, good, cmdWord_setFld v (by decide)⟩ unused
    refine ⟨_, rfl, ?_, fun m other => ?_⟩
    · exact (congrArg (assoc · _) left).trans assoc_filter_same
    · exact (congrArg (assoc · m) left).trans (assoc_filter_other other)
  case destroyEq =>
    rintro s q role sl n v x rfl accepted good rfl unused
    have left := State.queueCmdWrite_destroyEq ⟨accepted, good, cmdWord_setFld v (by decide)⟩ unused
    refine ⟨_, rfl, ?_, fun m other => ?_⟩
    · exact (congrArg (assoc · _) left).trans assoc_filter_same
    · exact (congrArg (assoc · m) left).trans (assoc_filter_other other)
  case resetWq =>
    rintro s q role sl n v x w rfl accepted good rfl listed stays
    exact ⟨_, rfl, State.wq_queueCmdWrite_resetWq ⟨accepted, good, cmdWord_setFld v (by decide)⟩ listed stays⟩

end Sys2Proof.Machine
end

section
/-! A halt of a slice whose table holds two entries for it (family 10, work queues; O32).  The clause for a completed halt is the one of
O32's completions that does not ask for rising keys; beside the refutation stands that clause, proved where they rise. -/

namespace Sys2Proof.Machine

/-- A halt of slice 0 is under way, and `slices` holds a second entry for it. -/
def twoSlices : State :=
  { State.reset with host := { State.reset.host with slices := [(0, { settle := some (.halt 0) }), (0, { wq := 5 })] } }

theorem twoSlices_sliceStateSettled : ∃ t, exec (.sliceStateSettled 0) twoSlices = .next t ∧ (t.slice 0).wq = 5 :=
  ⟨_, rfl, by decide +kernel⟩

/-- Refutes O32: a halt of cause 0 that completes leaves slice 0 for a moment as after power-on, so its entry is erased, and it goes on
with the WQ number 5 of the entry behind it, where the clause says that only the state and the cause change.  The clause holds where the
keys of `slices` rise (`exec_sliceStateSettled_halt_of_rising`). -/
theorem not_slicesStartStopHaltAndReset : ¬ Obligations.SlicesStartStopHaltAndReset := by
  unfold Obligations.SlicesStartStopHaltAndReset
  rintro ⟨-, -, -, -, -, -, -, -, halts, -⟩
  obtain ⟨t, answers, slice, -⟩ := halts twoSlices 0 0 rfl rfl
  obtain ⟨u, answers', queue⟩ := twoSlices_sliceStateSettled
  rw [← exec_next_unique answers answers', slice] at queue
  exact absurd queue (by decide)

/-! What completes a halt (R319) -/

theorem State.slices_of_workSide {s t : State} (same : t.workSide = s.workSide) : t.host.slices = s.host.slices :=
  congrArg WorkSide.slices same

theorem State.answer_wires (s : State) (q : Req) (obj sub : Nat) (f : Fdp) (body : List Byte) : (s.answer q obj sub f body).wires = s.wires := by
  obtain ⟨m, o, c, tt, b, h, same⟩ := s.answer_after q obj sub f body
  rw [same]
  rfl

theorem State.answerOwed_wires (s : State) (obj sub : Nat) (f : Fdp) : (s.answerOwed obj sub f).wires = s.wires := by
  unfold State.answerOwed
  split
  · rfl
  · dsimp only
    split <;> exact State.answer_wires ..

/-- The answers of a slice's SLICE_CTL move neither queues, slices nor wires. -/
theorem State.answerSlice_same (s : State) (sl keep : Nat) :
    (s.answerSlice sl keep).queueSide = s.queueSide ∧ (s.answerSlice sl keep).wires = s.wires := by
  have folds : ∀ (l : List Nat) (t : State), let u := l.foldl (fun s _ => s.answerOwed (R.sliceCtl.index sl) 1 .ok) t
      u.queueSide = t.queueSide ∧ u.wires = t.wires := by
    intro l
    induction l with
    | nil => exact fun _ => ⟨rfl, rfl⟩
    | cons _ l ih =>
      intro t
      obtain ⟨queues, wires⟩ := ih (t.answerOwed (R.sliceCtl.index sl) 1 .ok)
      exact ⟨queues.trans (State.answerOwed_queueSide ..), wires.trans (State.answerOwed_wires ..)⟩
  exact folds _ s

theorem State.slice_setSlice_of_rising {s : State} (rising : Table.risingFrom none s.host.slices = true) (sl : Nat) (x : Slice) :
    (s.setSlice sl x).slice sl = x :=
  Table.get_set_rising ({} : Slice) sl x rising

theorem State.slice_of_slices {s t : State} (same : t.host.slices = s.host.slices) (sl : Nat) : t.slice sl = s.slice sl := by
  rw [State.slice, same, State.slice]

/-- The slice after its halt is complete. -/
theorem State.slice_haltDone_of_rising {s : State} (rising : Table.risingFrom none s.host.slices = true) (sl c : Nat) :
    (s.haltDone sl c).slice sl = { s.slice sl with settle := none, st := .halted, haltCause := c } := by
  unfold State.haltDone
  extract_lets y x t
  have slices : t.host.slices = (s.setSlice sl x).host.slices := State.slices_of_workSide (State.sliceEvent_workSide ..)
  have rising' : Table.risingFrom none t.host.slices = true := by
    rw [slices]
    exact Table.rising_set _ _ _ rising
  have reads : t.slice sl = x := (State.slice_of_slices slices sl).trans (State.slice_setSlice_of_rising rising sl x)
  have halted : (t.updSlice sl (fun x => { x with st := .halted })).slice sl = { x with st := .halted } := by
    rw [State.updSlice, State.slice_setSlice_of_rising rising', reads]
  have answered := (((t.updSlice sl (fun x => { x with st := .halted })).raise (0x410 + sl)).answerSlice_same sl (b2n x.resetNext)).1
  exact (State.slice_of_slices (congrArg QueueSide.slices answered) sl).trans halted

theorem State.wires_haltDone (s : State) (sl c : Nat) : 0x410 + sl ∈ (s.haltDone sl c).wires := by
  unfold State.haltDone
  extract_lets y x t
  rw [(State.answerSlice_same _ _ _).2]
  exact List.mem_append_right _ (List.mem_singleton_self _)

/-- A halt that completes, where the keys of `slices` rise: the slice is HALTED with its cause, and its fault source raised. -/
theorem exec_sliceStateSettled_halt_of_rising {s : State} {sl c : Nat} (rising : Table.risingFrom none s.host.slices = true)
    (halting : (s.slice sl).settle = some (.halt c)) (noReset : (s.slice sl).resetNext = false) :
    ∃ t, exec (.sliceStateSettled sl) s = .next t ∧ t.slice sl = { s.slice sl with settle := none, st := .halted, haltCause := c }
      ∧ 0x410 + sl ∈ t.wires := by
  have slice := State.slice_haltDone_of_rising rising sl c
  refine ⟨s.haltDone sl c, congrArg Host.Outcome.next ?_, slice, State.wires_haltDone s sl c⟩
  unfold State.sliceSettled
  rw [halting]
  dsimp only
  rw [slice, noReset]
  rfl

end Sys2Proof.Machine
end

section
/-! A message of one packet (family 10, work queues; O36): what the checks of an entry leave open, the rules of peer contexts and of
operations, and the run that sends an operation's one packet. -/

namespace Sys2Proof.Machine

/-! Checks 1 to 10 (R317, Table WKQ-20) -/

theorem none_of_check {c : Prop} [Decidable c] {k : Nat} {rest : Option Nat} : (if c then some k else rest) = none ↔ ¬c ∧ rest = none := by
  by_cases fails : c <;> simp [fails]

section
variable {sl pos : Nat} {w : Wq} {b : List Byte}

/-- A well-formed SEND has one of the two channel classes. -/
theorem class_of_send (formed : malformation sl w pos b = none) (op : entryOp b = 0x10) : entryClass b = 2 ∨ entryClass b = 3 := by
  unfold malformation at formed
  simp only [none_of_check, op] at formed
  obtain ⟨-, -, -, -, cls, -⟩ := formed
  simp at cls
  omega

/-- Inline data excludes a fragment table, and is not empty. -/
theorem inline_wellFormed (formed : malformation sl w pos b = none)
    (op : entryOp b = 0x10 ∨ entryOp b = 0x20 ∨ entryOp b = 0x21 ∨ entryOp b = 0x70) (inline : entryUnits b ≠ 0) :
    entryFrag b = false ∧ 0 < entryLen b := by
  unfold malformation at formed
  simp only [none_of_check] at formed
  obtain ⟨-, -, -, -, -, -, units, -⟩ := formed
  have op' : entryOp b ≠ 0x23 := by omega
  have ok : (entryOp b == 0x10 || entryOp b == 0x20 || entryOp b == 0x21 || entryOp b == 0x70) = true := by simpa [or_assoc] using op
  simp [op', ok, inline] at units
  refine ⟨?_, by omega⟩
  simp [entryFrag, units]

/-- An ATOMIC has no fragment table. -/
theorem frag_of_atomic (formed : malformation sl w pos b = none) (op : entryOp b = 0x23) : entryFrag b = false := by
  unfold malformation at formed
  simp only [none_of_check, op] at formed
  obtain ⟨-, -, common, -⟩ := formed
  simp at common
  simp [entryFrag, common]

end

/-- What is put in the place of the first entry with a property is found by it. -/
theorem find_map_put {α : Type} {test : α → Prop} [DecidablePred test] {l : List α} {a b : α} (found : l.find? (fun y => test y) = some b)
    (has : test a) : (l.map (fun y => if test y then a else y)).find? (fun y => test y) = some a := by
  induction l with
  | nil => cases found
  | cons y l ih =>
    rw [List.map_cons]
    by_cases own : test y
    · rw [if_pos own, List.find?_cons_of_pos (p := fun y => decide (test y)) (decide_eq_true has)]
    · rw [List.find?_cons_of_neg (by simpa using own)] at found
      rw [if_neg own, List.find?_cons_of_neg (by simpa using own), ih found]

/-! Peer contexts (R440–R442) -/

section
variable {s : State} {pr : Pair} {p q : Peer}

theorem State.pair_of_peer (found : s.peer pr = some p) : p.pair = pr := by simpa using List.find?_some found

/-- The device once the context of a pair has become the most recently used. -/
def State.usedPeer (s : State) (p : Peer) : State :=
  s.updRemote (fun r => { r with peers := p :: r.peers.filter (fun x => x.pair ≠ p.pair) })

theorem State.openPeer_found (found : s.peer pr = some p) (sl : Nat) : s.openPeer sl pr = (s.usedPeer p, some p) := by
  rw [State.openPeer, found, State.usedPeer, State.pair_of_peer found]

theorem State.withPeer_found (found : s.peer pr = some p) (n pos sl : Nat) (act : State → Peer → State) :
    s.withPeer n pos sl pr act = act (s.usedPeer p) p := by
  rw [State.withPeer, State.openPeer_found found]

theorem State.peer_usedPeer : (s.usedPeer p).peer p.pair = some p := by
  simp [State.peer, State.usedPeer, State.updRemote]

/-- A context in use stays on chip. -/
theorem State.putPeer_busy (busy : p.idle = false) : s.putPeer p = s.setPeer p := by simp [State.putPeer, busy]

theorem State.peer_setPeer (found : s.peer p.pair = some q) : (s.setPeer p).peer p.pair = some p :=
  find_map_put (test := fun x : Peer => x.pair = p.pair) found rfl

theorem State.hostWrite_built (s : State) (b : Burst) (data : List Byte) : (s.hostWrite b data).built = s.built :=
  (congrArg State.built (s.hostWrite_besidesHost b data) :)

theorem State.putPeer_built (s : State) (p : Peer) : (s.putPeer p).built = s.built := by
  unfold State.putPeer State.evict
  dsimp only
  split
  · exact State.hostWrite_built ..
  · rfl

end

/-! Operations and their messages (R420, R421, R433) -/

section
variable {s : State} {n pos : Nat} {o : ROp} {p : Peer} {w : Wq} {x : WqEntry} {m : RMsg}

theorem State.rop_putRop {o' : ROp} (found : s.rop n pos = some o') (own : o.wq = n ∧ o.pos = pos) : (s.putRop o).rop n pos = some o := by
  obtain ⟨rfl, rfl⟩ := own
  exact find_map_put (test := fun y : ROp => y.wq = o.wq ∧ y.pos = o.pos) found ⟨rfl, rfl⟩

/-- The command of a kind of request (Table RMA-1). -/
def RKind.code : RKind → Nat
  | .put => 0x20
  | .notify => 0x21
  | .get => 0x22
  | .atomic => 0x23

/-- The packet asks for a message of an operation. -/
structure Built.Requests (b : Built) (o : ROp) (m : RMsg) (payload : List Byte) : Prop where
  cmd     : b.hdr.cmd = BitVec.ofNat 8 m.kind.code
  dstNode : b.hdr.dstNode = BitVec.ofNat 20 o.pair.node
  msgId   : b.hdr.msgId = BitVec.ofNat 24 m.num
  offset  : m.kind = .put → b.hdr.offset = BitVec.ofNat 32 (m.addr % 2 ^ 32)
  ctx     : m.kind = .put → b.hdr.ctx = BitVec.ofNat 16 (m.addr / 2 ^ 32)
  payload : b.payload = payload

/-- A message's first request packet. -/
theorem State.sendRequest_built (s : State) (o : ROp) (m : RMsg) (x : WqEntry) (payload : List Byte) : ∃ b tw d il ib c tt,
    b.Requests o m payload ∧ s.sendRequest o m 0 x payload [] = s.withBuilt b tw d il ib c tt := by
  unfold State.sendRequest
  extract_lets bytes rkey
  cases kind : m.kind <;>
  · dsimp only
    obtain ⟨b, tw, d, il, ib, c, tt, carries, same⟩ := s.inject_built o.slice _ _ payload [] (some (o.wq, o.pos)) _ false
    refine ⟨b, tw, d, il, ib, c, tt, ⟨?_, carries.dstNode, carries.msgId, ?_, ?_, carries.payload⟩, same⟩
    all_goals simp [carries.cmd, carries.offset, carries.ctx, kind, RKind.code, pieceAt]

/-- With no message under way an operation begins its next one. -/
theorem ROp.step_fresh (quiet : p.msgs = []) (sound : o.failed = none) (more : o.all = false) (b : List Byte) : o.step p b = .fresh := by
  simp [ROp.step, quiet, sound, more]

/-- With its last message sent an operation waits. -/
theorem ROp.step_idle {b : List Byte} (one : p.msgs = [m]) (own : m.wq = o.wq ∧ m.pos = o.pos) (due : m.due = []) (sent : m.reqs ≤ m.sent)
    (sound : o.failed = none) (last : o.all = true ∨ entryOp b = 0x21 ∧ o.cut = entryLen b) : o.step p b = .idle := by
  simp [ROp.step, one, own, due, Nat.not_lt.2 sent, sound, last]

end

/-! A message of one packet (R420, R421) -/

/-- The operation of an entry may send, and has no message under way. -/
structure ROp.Ready (o : ROp) (u : State) (n pos : Nat) (p : Peer) (w : Wq) (x : WqEntry) : Prop where
  own    : o.wq = n ∧ o.pos = pos
  rop    : u.rop n pos = some o
  entry  : u.recvEntry n pos = some (w, x)
  peer   : u.peer o.pair = some p
  quiet  : p.msgs = []
  sound  : o.failed = none
  more   : o.all = false
  key    : u.holdsKey o.slice o.pkey.toNat = true
  shaped : u.shaperHolds o.slice o.cls = false
  window : u.windowOpen p = true

/-- An operation's next message is one request packet, and nothing follows before it is acknowledged. -/
structure ROp.OneMsg (o : ROp) (b : List Byte) (m : RMsg) (last : Bool) (cut : Nat) : Prop where
  next : o.nextMsg b = (m, last, cut)
  own  : m.wq = o.wq ∧ m.pos = o.pos
  due  : m.due = []
  reqs : m.reqs = 1
  last : last = true ∨ entryOp b = 0x21 ∧ cut = entryLen b

/-- The message as its first packet is sent. -/
def RMsg.sentAt (m : RMsg) (num : Nat) (sp : Spans) (tick : Nat) : RMsg :=
  { m with num := num, spans := sp, sent := 1, times := [tick], timer := tick }

/-- The peer context after a message has taken its next number. -/
def Peer.took (p : Peer) (m : RMsg) : Peer := { p with next := (p.next + 1) % 2 ^ 24, msgs := [m] }

/-- An engine's item is over. -/
def State.left (s : State) (e : Nat) : State := match s.running e with | some i => s.dropItem i.id | none => s

theorem State.left_eq (s : State) (e : Nat) : ∃ x, s.left e = s.updEngines x := by
  unfold State.left
  split
  · exact ⟨_, rfl⟩
  · exact ⟨id, rfl⟩

section
variable {o : ROp} {u : State} {n pos : Nat} {p : Peer} {w : Wq} {x : WqEntry} {m : RMsg} {last : Bool} {cut : Nat} {sp : Spans}
  {data : List Byte}

/-- The device after the first packet of a message has been sent. -/
def State.sentFirst (u : State) (o : ROp) (p : Peer) (m : RMsg) (last : Bool) (cut : Nat) (sp : Spans) (x : WqEntry) (data : List Byte) :
    State :=
  ((u.setPeer (p.took (m.sentAt p.next sp u.uptime))).putRop { o with cut := cut, all := last }).sendRequest o (m.sentAt p.next sp u.uptime) 0
    x data []

theorem State.sentFirst_built (u : State) (o : ROp) (p : Peer) (m : RMsg) (last : Bool) (cut : Nat) (sp : Spans) (x : WqEntry)
    (data : List Byte) : ∃ b tw d il ib c tt, b.Requests o (m.sentAt p.next sp u.uptime) data ∧ u.sentFirst o p m last cut sp x data
      = ((u.setPeer (p.took (m.sentAt p.next sp u.uptime))).putRop { o with cut := cut, all := last }).withBuilt b tw d il ib c tt :=
  State.sendRequest_built ..

/-- An operation with a message that is not finished goes on. -/
theorem State.settleOp_open (rop : u.rop n pos = some o) (peer : u.peer o.pair = some p)
    (open_ : p.msgs.any (fun m => m.wq = n ∧ m.pos = pos) = true) : u.settleOp n pos = u := by
  unfold State.settleOp
  rw [rop]
  dsimp only
  rw [peer]
  simp only [open_, true_or, if_true]

theorem ROp.Ready.sendFresh (ready : o.Ready u n pos p w x) (one : o.OneMsg x.bytes m last cut) (spans : u.answerSpans m w x = (u, .ok sp))
    (bytes : u.requestData o { m with num := p.next } 0 w x = (u, .ok (data, []))) :
    u.sendFresh o p w x = (u.sentFirst o p m last cut sp x data, none) := by
  have busy : (p.took (m.sentAt p.next sp u.uptime)).idle = false := by simp [Peer.took, Peer.idle]
  unfold State.sendFresh State.sentFirst
  rw [one.next]
  dsimp only
  rw [spans]
  dsimp only
  rw [bytes]
  dsimp only
  rw [ready.peer, State.newMsg, Option.getD_some, ready.quiet, ← State.putPeer_busy busy]
  rfl

/-- The first step of a run sends the message (R420, R421). -/
theorem ROp.Ready.pump1 (ready : o.Ready u n pos p w x) (one : o.OneMsg x.bytes m last cut) (spans : u.answerSpans m w x = (u, .ok sp))
    (bytes : u.requestData o { m with num := p.next } 0 w x = (u, .ok (data, []))) :
    u.pump1 o p w x = (u.sentFirst o p m last cut sp x data, none) := by
  have may : p.maySend (entryOp x.bytes = 0x23) = true := by simp [Peer.maySend, ready.quiet]
  have window : (u.sentFirst o p m last cut sp x data).windowOpen p = true := by
    obtain ⟨b, tw, d, il, ib, c, tt, -, same⟩ := u.sentFirst_built o p m last cut sp x data
    rw [same]
    exact ready.window
  unfold State.pump1
  rw [o.step_fresh ready.quiet ready.sound ready.more]
  simp [ready.key, ready.shaped, may, ready.window, ready.sendFresh one spans bytes, window]

/-- A run sends the message and ends, and so does the engine's item; the operation stays until the message is acknowledged (R433). -/
theorem ROp.Ready.runOp (ready : o.Ready u n pos p w x) (one : o.OneMsg x.bytes m last cut) (spans : u.answerSpans m w x = (u, .ok sp))
    (bytes : u.requestData o { m with num := p.next } 0 w x = (u, .ok (data, []))) (e : Nat) :
    u.runOp e n pos w = (u.sentFirst o p m last cut sp x data).left e := by
  obtain ⟨b, tw, d, il, ib, c, tt, -, same⟩ := u.sentFirst_built o p m last cut sp x data
  have own : p.pair = o.pair := State.pair_of_peer ready.peer
  have peer : (u.sentFirst o p m last cut sp x data).peer o.pair = some (p.took (m.sentAt p.next sp u.uptime)) := by
    rw [same]
    show (u.setPeer (p.took (m.sentAt p.next sp u.uptime))).peer o.pair = _
    rw [← own]
    exact State.peer_setPeer (own ▸ ready.peer)
  have rop : (u.sentFirst o p m last cut sp x data).rop n pos = some { o with cut := cut, all := last } := by
    rw [same]
    exact State.rop_putRop (s := u.setPeer (p.took (m.sentAt p.next sp u.uptime))) ready.rop ready.own
  have entry : (u.sentFirst o p m last cut sp x data).recvEntry n pos = some (w, x) := by
    rw [same]
    exact ready.entry
  have idle : { o with cut := cut, all := last : ROp }.step (p.took (m.sentAt p.next sp u.uptime)) x.bytes = .idle := ROp.step_idle rfl one.own one.due (Nat.le_of_eq one.reqs) ready.sound one.last
  have pump : u.pump n pos 8 = (u.sentFirst o p m last cut sp x data, .all) := by
    unfold State.pump
    rw [ready.rop, ready.entry]
    dsimp only
    rw [ready.peer]
    dsimp only
    rw [ready.pump1 one spans bytes]
    dsimp only
    unfold State.pump
    rw [rop, entry]
    dsimp only
    rw [peer]
    dsimp only
    simp only [State.pump1, idle, if_true]
  have stays : ((u.sentFirst o p m last cut sp x data).left e).settleOp n pos = (u.sentFirst o p m last cut sp x data).left e := by
    obtain ⟨f, engines⟩ := (u.sentFirst o p m last cut sp x data).left_eq e
    rw [engines]
    refine State.settleOp_open (p := p.took (m.sentAt p.next sp u.uptime)) rop peer ?_
    simp [Peer.took, RMsg.sentAt, one.own, ready.own]
  unfold State.runOp
  rw [pump]
  exact stays

end

end Sys2Proof.Machine
end

section
/-! Work entries that are executed (family 10, work queues; O36): how an entry starts, and the command of each opcode. -/

namespace Sys2Proof.Machine

/-! The start of an operation (R194, R411, R442) -/

section
variable {s : State} {e n pos : Nat} {w : Wq} {x : WqEntry}

theorem State.recvEntry_of_running (running : s.runningEntry e = some (n, pos, w, x)) : s.recvEntry n pos = some (w, x) := by
  unfold State.runningEntry at running
  split at running
  · cases running
  · split at running
    · cases running
    · next m p _ =>
      obtain ⟨y, entry, same⟩ := Option.map_eq_some_iff.1 running
      cases same
      exact entry

/-- An engine executes a well-formed entry that nothing in the host side holds up. -/
theorem State.execEntry_acts {ops : Nat → Bool} {act : State → Nat → Nat → Wq → WqEntry → State}
    (running : s.runningEntry e = some (n, pos, w, x)) (op : ops (entryOp x.bytes) = true)
    (formed : malformation w.slice w pos x.bytes = none) (host : s.hostCause w x.bytes = none) :
    s.execEntry e ops act = act s n pos w x := by
  simp [State.execEntry, running, op, formed, host]

theorem State.hostCause_needless {b : List Byte} (needless : needsHost b = false) (w : Wq) : s.hostCause w b = none := by
  simp [State.hostCause, needless]

theorem State.fragsReady_plain (plain : entryFrag x.bytes = false) (e n pos : Nat) (w : Wq) : s.fragsReady e n pos w x = (s, true) := by
  simp [State.fragsReady, plain]

/-- The pair of an entry that names its destination itself. -/
def WqEntry.target (x : WqEntry) (station : Nat) : Pair :=
  { station := station, node := entryFld x.bytes 147 128, remote := entryFld x.bytes 169 160 }

theorem State.withDest_direct (direct : entryFld x.bytes 13 13 = 1) (e n pos : Nat) (w : Wq) (act : State → Nat → Nat → State) :
    s.withDest e n pos w x act = act s (entryFld x.bytes 147 128) (entryFld x.bytes 169 160) := by
  simp [State.withDest, State.dest, direct]

/-- The operation that an entry starts. -/
def WqEntry.newOp (x : WqEntry) (n pos : Nat) (w : Wq) : ROp :=
  { wq := n, pos := pos, slice := w.slice, pair := x.target w.station, cls := entryClass x.bytes
    pkey := BitVec.ofNat 16 (entryPkey x.bytes) }

/-- The device once an operation has been started. -/
def State.begun (s : State) (p : Peer) (o : ROp) : State := (s.usedPeer p).updRemote (fun r => { r with ops := r.ops ++ [o] })

/-- An entry that names its destination starts an operation with a peer with which nothing is outstanding. -/
structure State.Starts (s : State) (n pos : Nat) (w : Wq) (x : WqEntry) (p : Peer) : Prop where
  entry  : s.recvEntry n pos = some (w, x)
  free   : s.rop n pos = none
  region : entryRkey x.bytes < 2 ^ 24
  key    : s.holdsKey w.slice (entryPkey x.bytes) = true
  shaped : s.shaperHolds w.slice (entryClass x.bytes) = false
  plain  : entryFrag x.bytes = false
  direct : entryFld x.bytes 13 13 = 1
  peer   : s.peer (x.target w.station) = some p
  quiet  : p.msgs = []
  window : s.windowOpen p = true

theorem toNat_entryPkey (b : List Byte) : (BitVec.ofNat 16 (entryPkey b)).toNat = entryPkey b := by
  simp [entryPkey, entryFld]

section
variable {p : Peer}

theorem State.Starts.startOp (starts : s.Starts n pos w x p) (e : Nat) :
    s.startOp e n pos w x = (s.begun p (x.newOp n pos w)).runOp e n pos w := by
  have region : entryRkey x.bytes / 2 ^ 24 = 0 := Nat.div_eq_of_lt starts.region
  unfold State.startOp
  simp only [starts.free, Option.isSome_none, Bool.false_eq_true, if_false, region, ne_eq, not_true_eq_false, starts.key, Bool.not_true,
    starts.shaped, State.fragsReady_plain starts.plain, State.withDest_direct starts.direct]
  exact State.withPeer_found starts.peer ..

theorem State.Starts.ready (starts : s.Starts n pos w x p) :
    (x.newOp n pos w).Ready (s.begun p (x.newOp n pos w)) n pos p w x where
  own    := ⟨rfl, rfl⟩
  rop    := by
    have free : s.remote.ops.find? (fun o => o.wq = n ∧ o.pos = pos) = none := starts.free
    show (s.remote.ops ++ [x.newOp n pos w]).find? _ = _
    rw [List.find?_append, free]
    simp [WqEntry.newOp]
  entry  := starts.entry
  peer   := by
    have used : (s.usedPeer p).peer p.pair = some p := State.peer_usedPeer
    rw [State.pair_of_peer starts.peer] at used
    exact used
  quiet  := starts.quiet
  sound  := rfl
  more   := rfl
  key    := by
    show s.holdsKey w.slice (BitVec.ofNat 16 (entryPkey x.bytes)).toNat = true
    rw [toNat_entryPkey]
    exact starts.key
  shaped := starts.shaped
  window := starts.window

/-- The entry sends its message's one packet, and the message is outstanding. -/
theorem State.Starts.sends (starts : s.Starts n pos w x p) {m : RMsg} {last : Bool} {cut : Nat} {sp : Spans} {data : List Byte}
    (one : (x.newOp n pos w).OneMsg x.bytes m last cut)
    (spans : (s.begun p (x.newOp n pos w)).answerSpans m w x = (s.begun p (x.newOp n pos w), .ok sp))
    (bytes : (s.begun p (x.newOp n pos w)).requestData (x.newOp n pos w) { m with num := p.next } 0 w x
      = (s.begun p (x.newOp n pos w), .ok (data, []))) (e : Nat) :
    (∃ b, (s.startOp e n pos w x).built = s.built ++ [b] ∧ b.Requests (x.newOp n pos w) { m with num := p.next } data)
      ∧ (s.startOp e n pos w x).peer (x.target w.station) = some (p.took (m.sentAt p.next sp s.uptime)) := by
  rw [starts.startOp, starts.ready.runOp one spans bytes]
  obtain ⟨f, engines⟩ := ((s.begun p (x.newOp n pos w)).sentFirst (x.newOp n pos w) p m last cut sp x data).left_eq e
  obtain ⟨b, tw, d, il, ib, c, tt, requests, same⟩ :=
    (s.begun p (x.newOp n pos w)).sentFirst_built (x.newOp n pos w) p m last cut sp x data
  have pair : p.pair = x.target w.station := State.pair_of_peer starts.peer
  rw [engines, same]
  refine ⟨⟨b, rfl, requests.cmd, requests.dstNode, requests.msgId, requests.offset, requests.ctx, requests.payload⟩, ?_⟩
  show ((s.begun p (x.newOp n pos w)).setPeer (p.took (m.sentAt p.next sp s.uptime))).peer (x.target w.station) = _
  have begun : (s.begun p (x.newOp n pos w)).peer (x.target w.station) = some p := starts.ready.peer
  rw [← pair] at begun ⊢
  exact State.peer_setPeer (p := p.took _) begun

end

end

/-! What the four remote-memory opcodes send (R302, R420, R427, R428, R438) -/

section
variable {n pos : Nat} {w : Wq} {x : WqEntry}

/-- The message of a PUT, or the data message of a PUT_IMM, that needs no cutting. -/
theorem WqEntry.newOp_put (op : entryOp x.bytes = 0x20 ∨ entryOp x.bytes = 0x21) (some_ : 0 < entryLen x.bytes)
    (whole : messageLen (entryRaddr x.bytes) (entryLen x.bytes) = entryLen x.bytes)
    (piece : piecesOf (entryRaddr x.bytes) (entryLen x.bytes) = 1) :
    (x.newOp n pos w).OneMsg x.bytes { wq := n, pos := pos, kind := .put, addr := entryRaddr x.bytes, len := entryLen x.bytes, pkts := 1 }
      (entryOp x.bytes = 0x20) (entryLen x.bytes) where
  next := by
    rcases op with op | op <;> simp [ROp.nextMsg, WqEntry.newOp, op, whole, piece, Nat.ne_of_lt some_]
  own := ⟨rfl, rfl⟩
  due := rfl
  reqs := rfl
  last := by
    rcases op with op | op <;> simp [op]

theorem WqEntry.newOp_get (op : entryOp x.bytes = 0x22) (whole : messageLen (entryRaddr x.bytes) (entryLen x.bytes) = entryLen x.bytes) :
    (x.newOp n pos w).OneMsg x.bytes { wq := n, pos := pos, kind := .get, addr := entryRaddr x.bytes, len := entryLen x.bytes
                                       pkts := piecesOf (entryRaddr x.bytes) (entryLen x.bytes) } true (entryLen x.bytes) where
  next := by simp [ROp.nextMsg, WqEntry.newOp, op, whole]
  own := ⟨rfl, rfl⟩
  due := rfl
  reqs := rfl
  last := .inl rfl

theorem WqEntry.newOp_atomic (op : entryOp x.bytes = 0x23) :
    (x.newOp n pos w).OneMsg x.bytes { wq := n, pos := pos, kind := .atomic, addr := entryRaddr x.bytes, len := entrySize x.bytes, pkts := 1 }
      true (entrySize x.bytes) where
  next := by simp [ROp.nextMsg, WqEntry.newOp, op]
  own := ⟨rfl, rfl⟩
  due := rfl
  reqs := rfl
  last := .inl rfl

/-- The one packet of a message of inline data carries all of it. -/
theorem State.requestData_inline (s : State) (o : ROp) {m : RMsg} (kind : m.kind = .put) (whole : m.off = 0 ∧ m.len = entryLen x.bytes)
    (inline : entryUnits x.bytes ≠ 0) (piece : piecesOf m.addr m.len = 1) :
    s.requestData o m 0 w x = (s, .ok (entryInline x.bytes, [])) := by
  have within : m.addr % 4096 + m.len ≤ 4096 := by
    unfold piecesOf ceilDiv at piece
    omega
  obtain ⟨off, len⟩ := whole
  have all : (entryInline x.bytes).length ≤ m.len := by
    rw [entryInline, len]
    exact List.length_take_le ..
  have taken : min m.len (4096 - m.addr % 4096) = m.len := by omega
  simp [State.requestData, kind, inline, pieceAt, off, taken, List.take_of_length_le all]

/-! Translations that lead nowhere (R370, R371) -/

section
variable {s : State} {sl : Nat}

/-- Accesses of the slice go through as they are. -/
structure State.Through (s : State) (sl : Nat) : Prop where
  ended  : s.trans.ended = []
  stage1 : s.stage1On sl = false
  stage2 : s.stage2Mode sl = 2
  plain  : s.serviceMode = false

theorem State.Through.xlate (h : s.Through sl) (who : Who) {a : Access} (slice : a.slice = sl) : s.xlate who a = (s, .hit a.ia) := by
  subst slice
  simp [State.xlate, State.xlate2, h.ended, h.stage1, h.stage2, h.plain]

theorem State.Through.xlateSpan (h : s.Through sl) (who : Who) (fuel : Nat) {a : Access} (slice : a.slice = sl) (len : Nat) :
    ∃ sp, s.xlateSpan who a fuel len = (s, sp, none) := by
  induction fuel generalizing a len with
  | zero => exact ⟨[], rfl⟩
  | succ fuel ih =>
    unfold State.xlateSpan
    split
    · exact ⟨[], rfl⟩
    · rw [h.xlate who slice]
      obtain ⟨sp, rest⟩ := ih (a := a.shift (min len (4096 - a.ia % 4096))) slice (len - min len (4096 - a.ia % 4096))
      dsimp only
      rw [rest]
      exact ⟨_, rfl⟩

theorem State.Through.xlatePieces (h : s.Through sl) (who : Who) {a : Access} (slice : a.slice = sl) (l : List (Nat × Nat)) :
    ∃ sp, s.xlatePieces who a l = (s, sp, none) := by
  induction l with
  | nil => exact ⟨[], rfl⟩
  | cons piece l ih =>
    obtain ⟨addr, len⟩ := piece
    unfold State.xlatePieces
    obtain ⟨sp, first⟩ := h.xlateSpan who (len / 4096 + 2) (a := { a with ia := addr }) slice len
    obtain ⟨sp', rest⟩ := ih
    rw [first]
    dsimp only
    rw [rest]
    exact ⟨_, rfl⟩

/-- The answer of a GET has its place where accesses go through. -/
theorem State.Through.answerSpans_get (h : s.Through w.slice) {m : RMsg} (kind : m.kind = .get) (x : WqEntry) :
    ∃ sp, s.answerSpans m w x = (s, .ok sp) := by
  obtain ⟨sp, through⟩ := h.xlatePieces (.item m.wq m.pos) (a := s.entryAccess m.wq w x .write 0) rfl
    (subPieces (x.pieces.getD []) m.off m.len)
  exact ⟨sp, by simp [State.answerSpans, kind, through]⟩

end

theorem State.answerSpans_atomic (s : State) {m : RMsg} (kind : m.kind = .atomic) (none_ : entryLaddr x.bytes = 0) :
    s.answerSpans m w x = (s, .ok []) := by
  simp [State.answerSpans, kind, none_]

end

/-! SEND (R387, R390) -/

section
variable {s : State} {e n pos : Nat} {w : Wq} {x : WqEntry} {p : Peer}

/-- A packet forward on behalf of an entry. -/
theorem State.msgForward_built (s : State) (sl n pos : Nat) (p : Pair) (pkey : BitVec 16) (cls cmd num off ctx : Nat) (ext : BitVec 32)
    (payload : List Byte) : ∃ b tw d il ib c tt, b.Carries { dstNode := BitVec.ofNat 20 p.node, dstStation := BitVec.ofNat 10 p.remote
                                                             pkey := pkey, cls := BitVec.ofNat 3 cls, cmd := BitVec.ofNat 8 cmd
                                                             msgId := BitVec.ofNat 24 num, offset := BitVec.ofNat 32 off
                                                             ctx := BitVec.ofNat 16 ctx, ext := ext } payload
      ∧ s.msgForward sl n pos p pkey cls cmd num off ctx ext payload [] = s.withBuilt b tw d il ib c tt := by
  obtain ⟨b, tw, d, il, ib, c, tt, carries, same⟩ := s.inject_built sl
    (match s.wq n with | some w => s.workStop n pos w | none => s.stationStop p.station)
    { dstNode := BitVec.ofNat 20 p.node, dstStation := BitVec.ofNat 10 p.remote, srcNode := s.nodeFor sl
      srcStation := BitVec.ofNat 10 p.station, pkey := pkey, cls := BitVec.ofNat 3 cls, cmd := BitVec.ofNat 8 cmd, msgId := BitVec.ofNat 24 num
      offset := BitVec.ofNat 32 off, ctx := BitVec.ofNat 16 ctx, ext := ext } payload [] (some (n, pos))
    (s.injCharge payload.length []) (cmd == 0x17)
  obtain ⟨cmd, cls, dstNode, dstStation, pkey, msgId, offset, ctx, ext, payload⟩ := carries
  exact ⟨b, tw, d, il, ib, c, tt, ⟨cmd, cls, dstNode, dstStation, pkey, msgId, offset, ctx, ext, payload⟩, same⟩

theorem Peer.pair_withSend (p : Peer) (cls : Nat) (c : SendChan) : (p.withSend cls c).pair = p.pair := by
  unfold Peer.withSend
  split <;> rfl

/-- A channel with a message that is not acknowledged is in use. -/
theorem Peer.busy_withSend (p : Peer) (cls : Nat) {c : SendChan} (waits : c.unacked ≠ []) : (p.withSend cls c).idle = false := by
  unfold Peer.withSend
  split <;> simp [Peer.idle, waits]

/-- The channel of a SEND after its message has taken the next number. -/
def SendChan.took (c : SendChan) (n pos : Nat) : SendChan :=
  { sync := false, next := (c.next + 1) % 2 ^ 24, unacked := [{ num := c.next, wq := n, pos := pos, rdv := false }] }

/-- An eager SEND of inline data on a channel in step, with nothing unacknowledged. -/
theorem State.sendOn_inline (s : State) (e n pos : Nat) (w : Wq) (x : WqEntry) (ctx : Image) {p : Peer} (found : s.peer p.pair = some p)
    (some_ : 0 < entryLen x.bytes) (inline : entryUnits x.bytes ≠ 0) (eager : entryLen x.bytes ≤ s.eagerLimit w.slice)
    (quiet : (p.send (entryClass x.bytes)).unacked = []) (step : (p.send (entryClass x.bytes)).sync = false) :
    (∃ b, (s.sendOn e n pos w x ctx p).built = s.built ++ [b]
      ∧ b.Carries { dstNode := BitVec.ofNat 20 p.pair.node, dstStation := BitVec.ofNat 10 p.pair.remote
                    pkey := BitVec.ofNat 16 (entryPkey x.bytes), cls := BitVec.ofNat 3 (entryClass x.bytes), cmd := 0x10
                    msgId := BitVec.ofNat 24 (p.send (entryClass x.bytes)).next, ctx := BitVec.ofNat 16 (mctxWire ctx)
                    ext := BitVec.ofNat 32 (entryWord x.bytes 36 4) }
          (prologue (fldN ctx 31 0) (entryLen x.bytes) (entryFld x.bytes 10 10 == 1) ++ entryInline x.bytes))
      ∧ (s.sendOn e n pos w x ctx p).peer p.pair
        = some (p.withSend (entryClass x.bytes) ((p.send (entryClass x.bytes)).took n pos)) := by
  obtain ⟨b, tw, d, il, ib, c, tt, carries, same⟩ := s.msgForward_built w.slice n pos p.pair (BitVec.ofNat 16 (entryPkey x.bytes))
    (entryClass x.bytes) 0x10 (p.send (entryClass x.bytes)).next 0 (mctxWire ctx) (BitVec.ofNat 32 (entryWord x.bytes 36 4))
    (prologue (fldN ctx 31 0) (entryLen x.bytes) (entryFld x.bytes 10 10 == 1) ++ entryInline x.bytes)
  have busy : (p.withSend (entryClass x.bytes) ((p.send (entryClass x.bytes)).took n pos)).idle = false :=
    p.busy_withSend _ (by simp [SendChan.took])
  have sent : s.sendOn e n pos w x ctx p = ((s.withBuilt b tw d il ib c tt).setPeer
      (p.withSend (entryClass x.bytes) ((p.send (entryClass x.bytes)).took n pos))).left e := by
    have found' : (s.withBuilt b tw d il ib c tt).peer p.pair = some p := found
    have eager' : decide (entryLen x.bytes ≤ s.eagerLimit w.slice) = true := decide_eq_true eager
    unfold State.sendOn
    simp only [eager', Bool.not_true, Bool.false_eq_true, false_or, Nat.ne_of_gt some_, if_false, inline, ne_eq, not_false_eq_true, if_true,
      step, quiet, List.nil_append]
    rw [same, found']
    dsimp only
    rw [← State.putPeer_busy busy]
    rfl
  obtain ⟨f, engines⟩ := ((s.withBuilt b tw d il ib c tt).setPeer
    (p.withSend (entryClass x.bytes) ((p.send (entryClass x.bytes)).took n pos))).left_eq e
  rw [sent, engines]
  refine ⟨⟨b, rfl, carries⟩, ?_⟩
  have pair := p.pair_withSend (entryClass x.bytes) ((p.send (entryClass x.bytes)).took n pos)
  show ((s.withBuilt b tw d il ib c tt).setPeer (p.withSend (entryClass x.bytes) ((p.send (entryClass x.bytes)).took n pos))).peer _ = _
  rw [← pair]
  exact State.peer_setPeer (q := p) (pair ▸ found)

end

/-! RECV (R403) -/

section
variable {s : State} {n pos : Nat} {w : Wq} {x : WqEntry}

/-- The receive that a RECV posts at its context. -/
def WqEntry.posted (x : WqEntry) (n pos stamp : Nat) : Posted :=
  { wq := n, pos := pos, tag := BitVec.ofNat 32 (entryWord x.bytes 36 4), mask := BitVec.ofNat 32 (entryWord x.bytes 40 4)
    source := entryWord x.bytes 44 4, stamp := stamp }

/-- The context after a RECV has posted its receive. -/
def MatchCtx.took (c : MatchCtx) (x : WqEntry) (n pos : Nat) : MatchCtx :=
  { c with posted := c.posted ++ [x.posted n pos c.stamp], stamp := c.stamp + 1 }

/-- What is not the default reads back. -/
theorem Table.get_set_listed {α : Type} [DecidableEq α] {d v : α} (t : Table α) (k : Nat) (listed : v ≠ d) :
    Table.get d (Table.set d t k v) k = v := by
  unfold Table.set
  rw [if_neg listed]
  exact Table.get_insert_same _ _ _ _

/-- A receive joins the posted list where that has room on chip and nothing waits in the overflow list. -/
theorem State.mctx_postRecv (s : State) (e n pos : Nat) {w : Wq} {x : WqEntry} (none_ : (s.mctx (entryCtx x.bytes)).overflow = [])
    (room : s.postRoom (entryCtx x.bytes) w.slice = true) :
    (s.postRecv e n pos w x).mctx (entryCtx x.bytes) = (s.mctx (entryCtx x.bytes)).took x n pos := by
  have posts : s.postRecv e n pos w x
      = (s.setMctx (entryCtx x.bytes) ((s.mctx (entryCtx x.bytes)).took x n pos)).left e := by
    have fits : (s.mctx (entryCtx x.bytes)).overflow.isEmpty = true ∧ s.postRoom (entryCtx x.bytes) w.slice = true :=
      ⟨by rw [none_, List.isEmpty_nil], room⟩
    exact if_pos fits
  obtain ⟨f, engines⟩ := (s.setMctx (entryCtx x.bytes) ((s.mctx (entryCtx x.bytes)).took x n pos)).left_eq e
  rw [posts, engines]
  exact Table.get_set_listed _ _ (fun same => by simpa [MatchCtx.took] using congrArg MatchCtx.posted same)

end

/-! COLLECTIVE (R454) -/

theorem State.coll_updColl_same (s : State) (k : Nat) (f : Coll → Coll) (listed : f (s.coll k) ≠ {}) : (s.updColl k f).coll k = f (s.coll k) :=
  Table.get_set_listed _ _ listed

/-- A member joins a context that it makes active. -/
theorem State.coll_start_join (s : State) (k : Nat) (o : COp) (m : CMember) :
    ((s.collStart k o).updColl k (fun c => { c with members := c.members ++ [m] })).coll k
      = { s.coll k with st := .active, op := o, timer := s.uptime, members := (s.coll k).members ++ [m] } := by
  have active : ∀ c : Coll, c.st = .active → c ≠ {} := fun c on same => by
    rw [same] at on
    cases on
  have started : (s.collStart k o).coll k = { s.coll k with st := .active, op := o, timer := s.uptime } :=
    State.coll_updColl_same s k _ (active _ rfl)
  rw [State.coll_updColl_same _ _ _ (active _ (by rw [started])), started]

/-! CONTROL_SEND and SEGMENT (R300, R407) -/

theorem State.updEntry_built (s : State) (n pos : Nat) (f : WqEntry → WqEntry) : (s.updEntry n pos f).built = s.built := by
  unfold State.updEntry
  split <;> rfl

theorem State.updRdvS_built (s : State) (p : Pair) (f : List RdvSend → List RdvSend) : (s.updRdvS p f).built = s.built := by
  unfold State.updRdvS
  split
  · exact State.putPeer_built ..
  · rfl

/-- The one grant of a rendezvous with inline data is sent as one DATA packet. -/
theorem State.sendData_inline {s : State} {sl first len k : Nat} {p : Pair} {r : RdvSend} {w : Wq} {x : WqEntry}
    (grants : r.grants = [(first, len)]) (few : len ≤ 4096) (shaped : s.shaperHolds sl 3 = false)
    (entry : s.recvEntry r.wq r.pos = some (w, x)) (inline : entryUnits x.bytes ≠ 0) :
    s.sendData sl p r (k + 2) = (s.msgForward sl r.wq r.pos p r.pkey 3 0x13 r.num first r.ctx 0 (((entryInline x.bytes).drop first).take len) [],
      { r with grants := [] }, none) := by
  unfold State.sendData
  rw [grants]
  simp only [shaped, entry, inline, few, Bool.false_eq_true, if_false, if_true, ne_eq, not_false_eq_true, Nat.min_eq_right few]
  rfl

section
variable {s : State} {e n pos : Nat} {w : Wq} {x : WqEntry}

/-- An entry whose bytes come with it needs no host. -/
theorem needsHost_inline {b : List Byte} (op : entryOp b = 0x10 ∨ entryOp b = 0x20 ∨ entryOp b = 0x21 ∨ entryOp b = 0x70)
    (inline : entryUnits b ≠ 0) : needsHost b = false := by
  rcases op with op | op | op | op <;> simp [needsHost, op, inline]

/-- An entry with inline data executes. -/
theorem State.execEntry_inline {ops : Nat → Bool} {act : State → Nat → Nat → Wq → WqEntry → State}
    (running : s.runningEntry e = some (n, pos, w, x)) (runs : ops (entryOp x.bytes) = true)
    (formed : malformation w.slice w pos x.bytes = none)
    (op : entryOp x.bytes = 0x10 ∨ entryOp x.bytes = 0x20 ∨ entryOp x.bytes = 0x21 ∨ entryOp x.bytes = 0x70)
    (inline : entryUnits x.bytes ≠ 0) : s.execEntry e ops act = act s n pos w x :=
  State.execEntry_acts running runs formed (State.hostCause_needless (needsHost_inline op inline) w)

/-- A PUT or PUT_IMM of inline data sends its one packet. -/
theorem State.Starts.sends_put {p : Peer} (starts : s.Starts n pos w x p) (op : entryOp x.bytes = 0x20 ∨ entryOp x.bytes = 0x21)
    (formed : malformation w.slice w pos x.bytes = none) (inline : entryUnits x.bytes ≠ 0)
    (whole : messageLen (entryRaddr x.bytes) (entryLen x.bytes) = entryLen x.bytes)
    (piece : piecesOf (entryRaddr x.bytes) (entryLen x.bytes) = 1) (e : Nat) :
    ∃ m : RMsg, (m.num = p.next ∧ m.kind = .put ∧ m.len = entryLen x.bytes ∧ m.addr = entryRaddr x.bytes)
      ∧ (∃ b, (s.startOp e n pos w x).built = s.built ++ [b] ∧ b.Requests (x.newOp n pos w) m (entryInline x.bytes))
      ∧ ∃ m' : RMsg, (s.startOp e n pos w x).peer (x.target w.station) = some (p.took m') ∧ m'.num = p.next ∧ m'.kind = .put
        ∧ m'.len = entryLen x.bytes := by
  have some_ := (inline_wellFormed formed (by omega) inline).2
  obtain ⟨built, peer⟩ := starts.sends (x.newOp_put op some_ whole piece) rfl
    (State.requestData_inline _ _ rfl ⟨rfl, rfl⟩ inline piece) e
  exact ⟨_, ⟨rfl, rfl, rfl, rfl⟩, built, _, peer, rfl, rfl, rfl⟩

end

/-- The operation that a COLLECTIVE asks for. -/
def WqEntry.collOp (x : WqEntry) : COp :=
  { cop := entryFld x.bytes 359 352, type := entryFld x.bytes 367 360, mode := entryFld x.bytes 375 368, count := entryLen x.bytes }

/-- A COLLECTIVE's member has joined its context. -/
def State.joined (s : State) (x : WqEntry) (n pos : Nat) : State :=
  s.updColl (entryCtx x.bytes) (fun c => { c with members := c.members ++ [{ num := entryFld x.bytes 159 128, wq := n, pos := pos }] })

/-- Settles O36: each opcode's entry passes its checks, and its command sends, posts or joins as its laws say. -/
theorem entriesAreExecuted : Obligations.EntriesAreExecuted := by
  unfold Obligations.EntriesAreExecuted
  refine ⟨?nop, ?send, ?recv, ?put, ?putImm, ?get, ?atomic, ?collective, ?control, ?segment⟩
  case nop =>
    intro s e n pos w x running op formed
    exact congrArg Host.Outcome.next (State.execEntry_acts running (by simp [op]) formed
      (State.hostCause_needless (by simp [needsHost, op]) w))
  case send =>
    rintro s e n pos w x pr p running op formed inline direct ctxOk key shaped rfl found quiet step eager
    obtain ⟨plain, some_⟩ := inline_wellFormed formed (.inl op) inline
    obtain ⟨⟨b, built, carries⟩, peer⟩ := (s.usedPeer p).sendOn_inline e n pos w x (s.reg R.matchCtx 0 (entryCtx x.bytes))
      State.peer_usedPeer some_ inline eager quiet step
    refine ⟨_, congrArg Host.Outcome.next ((State.execEntry_inline running (by simp [op]) formed (.inl op) inline).trans ?_),
      ⟨b, built, ?_⟩, (State.pair_of_peer found) ▸ peer⟩
    · simp only [ctxOk, key, shaped, Bool.not_true, Bool.false_eq_true, if_false, State.fragsReady_plain plain, State.withDest_direct direct,
        State.withPeer_found found, quiet, List.any_nil, List.length_nil]
      rw [if_neg (by decide), State.peer_usedPeer, Option.getD_some]
    · rw [State.pair_of_peer found] at carries
      exact ⟨carries.cmd, carries.cls, carries.dstNode, carries.dstStation, carries.pkey, carries.msgId, carries.ext, carries.payload⟩
  case recv =>
    intro s e n pos w x running op formed plain ctxOk walking unex none_ room
    refine ⟨s.postRecv e n pos w x, congrArg Host.Outcome.next ((State.execEntry_acts running (by simp [op]) formed
      (State.hostCause_needless (by simp [needsHost, op, plain]) w)).trans ?_), State.mctx_postRecv s e n pos none_ room⟩
    simp [ctxOk, State.fragsReady_plain plain, walking, unex]
  case put =>
    rintro s e n pos w x pr p running op formed inline free region key shaped direct rfl found quiet window whole piece
    have starts : s.Starts n pos w x p := ⟨State.recvEntry_of_running running, free, region, key, shaped,
      (inline_wellFormed formed (by omega) inline).1, direct, found, quiet, window⟩
    obtain ⟨m, ⟨num, kind, -, addr⟩, ⟨b, built, requests⟩, peer⟩ := starts.sends_put (.inl op) formed inline whole piece e
    refine ⟨_, congrArg Host.Outcome.next (State.execEntry_inline running (by simp [op]) formed (.inr (.inl op)) inline),
      ⟨b, built, ?_⟩, peer⟩
    rw [← num, ← addr]
    exact ⟨requests.cmd.trans (by rw [kind]; rfl), requests.dstNode, requests.msgId, requests.offset kind, requests.ctx kind, requests.payload⟩
  case putImm =>
    rintro s e n pos w x pr p running op formed inline free region key shaped direct rfl found quiet window whole piece
    have starts : s.Starts n pos w x p := ⟨State.recvEntry_of_running running, free, region, key, shaped,
      (inline_wellFormed formed (by omega) inline).1, direct, found, quiet, window⟩
    obtain ⟨m, ⟨num, kind, -, -⟩, ⟨b, built, requests⟩, peer⟩ := starts.sends_put (.inr op) formed inline whole piece e
    refine ⟨_, congrArg Host.Outcome.next (State.execEntry_inline running (by simp [op]) formed (.inr (.inr (.inl op))) inline),
      ⟨b, built, ?_⟩, peer⟩
    rw [← num]
    exact ⟨requests.cmd.trans (by rw [kind]; rfl), requests.dstNode, requests.msgId, requests.payload⟩
  case get =>
    rintro s e n pos w x pr p running op formed plain issues sliceFrost linkFrost ended stage1 stage2 compute free region key shaped direct rfl
      found quiet window whole
    have starts : s.Starts n pos w x p := ⟨State.recvEntry_of_running running, free, region, key, shaped, plain, direct, found, quiet, window⟩
    have through : (s.begun p (x.newOp n pos w)).Through w.slice := ⟨ended, stage1, stage2, compute⟩
    have one := x.newOp_get (n := n) (pos := pos) (w := w) op whole
    obtain ⟨sp, spans⟩ := through.answerSpans_get (m := { wq := n, pos := pos, kind := .get, addr := entryRaddr x.bytes, len := entryLen x.bytes
                                                          pkts := piecesOf (entryRaddr x.bytes) (entryLen x.bytes) }) rfl x
    obtain ⟨⟨b, built, requests⟩, peer⟩ := starts.sends one spans rfl e
    refine ⟨_, congrArg Host.Outcome.next (State.execEntry_acts running (by simp [op]) formed ?_), ⟨b, built, ?_⟩, _, peer, rfl, rfl, rfl⟩
    · simp [State.hostCause, issues, sliceFrost, linkFrost]
    · exact ⟨requests.cmd, requests.dstNode, requests.msgId, requests.payload⟩
  case atomic =>
    rintro s e n pos w x pr p running op formed none_ free region key shaped direct rfl found quiet window
    have starts : s.Starts n pos w x p := ⟨State.recvEntry_of_running running, free, region, key, shaped,
      frag_of_atomic formed op, direct, found, quiet, window⟩
    have data : ∀ m : RMsg, m.kind = .atomic → (s.begun p (x.newOp n pos w)).requestData (x.newOp n pos w) m 0 w x
        = (s.begun p (x.newOp n pos w), .ok ((if entrySize x.bytes = 16 then (x.bytes.drop 64).take 32
          else leBytes (entryWord x.bytes 48 8) 8 ++ leBytes (entryWord x.bytes 56 8) 8), [])) := by
      intro m kind
      by_cases wide : entrySize x.bytes = 16 <;> simp [State.requestData, kind, wide]
    obtain ⟨⟨b, built, requests⟩, peer⟩ := starts.sends (x.newOp_atomic op) (State.answerSpans_atomic _ rfl none_) (data _ rfl) e
    refine ⟨_, congrArg Host.Outcome.next (State.execEntry_acts running (by simp [op]) formed
      (State.hostCause_needless (by simp [needsHost, op, none_]) w)), ⟨b, built, ?_⟩, _, peer, rfl, rfl, rfl⟩
    exact ⟨requests.cmd, requests.dstNode, requests.msgId, requests.payload⟩
  case collective =>
    rintro s e n pos k w x o running op formed host rfl valid own local_ key next idle rfl fits
    obtain ⟨f, engines⟩ := ((s.collStart (entryCtx x.bytes) x.collOp).joined x n pos).left_eq e
    refine ⟨((s.collStart (entryCtx x.bytes) x.collOp).joined x n pos).left e,
      congrArg Host.Outcome.next ((State.execEntry_acts running (by simp [op]) formed host).trans ?_), ?_⟩
    · simp only [valid, own, Nat.not_le.2 local_, key, next, idle, fits, Bool.not_true, Bool.false_eq_true, ne_eq, not_true_eq_false, or_self,
        false_and, if_false]
      rfl
    · rw [engines]
      exact State.coll_start_join ..
  case control =>
    intro s e n pos w x running op formed inline new
    obtain ⟨plain, some_⟩ := inline_wellFormed formed (by omega) inline
    refine ⟨_, congrArg Host.Outcome.next (State.execEntry_inline running (by simp [op]) formed (by omega) inline), ?_⟩
    simp only [new, Bool.false_eq_true, if_false, State.fragsReady_plain plain, Nat.ne_of_gt some_, inline, ne_eq, not_false_eq_true, if_true]
    obtain ⟨b, tw, d, il, ib, c, tt, carries, same⟩ := s.inject_built w.slice (s.workStop n pos w)
      { dstNode := BitVec.ofNat 20 (entryFld x.bytes 147 128), dstStation := BitVec.ofNat 10 (entryFld x.bytes 169 160)
        srcNode := s.nodeFor w.slice, srcStation := BitVec.ofNat 10 w.station, pkey := BitVec.ofNat 16 (entryPkey x.bytes)
        cmd := BitVec.ofNat 8 (entryFld x.bytes 295 288), ext := BitVec.ofNat 32 (entryWord x.bytes 40 4) }
      (entryInline x.bytes) [] (some (n, pos)) (s.injCharge (entryInline x.bytes).length []) false
    rw [same]
    refine ⟨b, ?_, carries.cls, carries.dstNode, carries.cmd, carries.payload⟩
    split
    · exact State.updEntry_built ..
    · exact (Ends.finish ..).built.trans (State.updEntry_built ..)
  case segment =>
    intro s e n pos first len i w x p r running segment entry inline host none_ found key shaped grants few
    refine ⟨_, rfl, ?_⟩
    simp only [running, segment, entry, host, none_, found, key, shaped, Bool.not_true, Bool.false_eq_true, if_false, Option.isSome_none]
    obtain ⟨q, -, of_peer⟩ := List.exists_of_findSome?_eq_some found
    obtain ⟨r', of_rdv, same⟩ := Option.map_eq_some_iff.1 of_peer
    cases same
    obtain ⟨rfl, rfl⟩ : r.wq = n ∧ r.pos = pos := by simpa using List.find?_some of_rdv
    have sent := State.sendData_inline (p := p.pair) (k := 6) grants few shaped entry inline
    obtain ⟨b, tw, d, il, ib, c, tt, carries, same⟩ := s.msgForward_built p.slice r.wq r.pos p.pair r.pkey 3 0x13 r.num first r.ctx 0
      (((entryInline x.bytes).drop first).take len)
    rw [sent, same]
    dsimp only
    refine ⟨b, ?_, carries.cmd, carries.dstNode, carries.msgId, carries.offset, carries.payload⟩
    exact State.updRdvS_built ..

end Sys2Proof.Machine
end

section
/-! What a response, an event and the end of an entry leave of the engine array and the lock bank (family 11, engines). -/

namespace Sys2Proof.Machine

/-- The engines out of service, the locks, and the fault events on their way to the collectors. -/
structure EngineSide where
  out   : List Nat
  locks : Table (BitVec 32)
  wires : List Nat

def State.engineSide (s : State) : EngineSide := ⟨s.host.engines.out, s.host.locks, s.wires⟩

theorem foldl_engineSide {β : Type} {f : State → β → State} (h : ∀ s b, (f s b).engineSide = s.engineSide) (l : List β) (s : State) :
    (l.foldl f s).engineSide = s.engineSide :=
  List.foldlRecOn (motive := fun t => t.engineSide = s.engineSide) l f rfl fun t same b _ => (h t b).trans same

section
variable (s : State)

@[simp] theorem State.countSlice_engineSide (sl e k : Nat) : (s.countSlice sl e k).engineSide = s.engineSide := rfl
@[simp] theorem State.putWq_engineSide (n : Nat) (w : Wq) : (s.putWq n w).engineSide = s.engineSide := rfl
@[simp] theorem State.putCq_engineSide (n : Nat) (c : Cq) : (s.putCq n c).engineSide = s.engineSide := rfl
@[simp] theorem State.putEq_engineSide (n : Nat) (e : Eq) : (s.putEq n e).engineSide = s.engineSide := rfl
@[simp] theorem State.dropItems_engineSide (n : Nat) : (s.dropItems n).engineSide = s.engineSide := rfl
@[simp] theorem State.dropItemOf_engineSide (n pos : Nat) : (s.dropItemOf n pos).engineSide = s.engineSide := rfl
@[simp] theorem State.toDeque_engineSide (id e : Nat) : (s.toDeque id e).engineSide = s.engineSide := rfl
@[simp] theorem State.forgetPlaced_engineSide (key : Nat) (l : Option Nat) : (s.forgetPlaced key l).engineSide = s.engineSide := rfl

/-! Requests to host memory and MSI-X (R272, R346) -/

@[simp] theorem State.exitL1_engineSide (k l : Nat) : (s.exitL1 k l).engineSide = s.engineSide := by
  unfold State.exitL1
  dsimp only
  split <;> rfl

@[simp] theorem State.wake_engineSide (f : Nat) : (s.wake f).engineSide = s.engineSide := by
  unfold State.wake
  dsimp only
  split
  · rfl
  · split
    · exact State.exitL1_engineSide ..
    · rfl

@[simp] theorem State.request_engineSide (b : Burst) : (s.request b).engineSide = s.engineSide := State.wake_engineSide _ b.func

@[simp] theorem State.msix_engineSide (f v sl key : Nat) : (s.msix f v sl key).engineSide = s.engineSide := by
  unfold State.msix
  dsimp only
  split
  · rfl
  · exact State.request_engineSide ..

theorem State.hostWriteN_engineSide (b : Burst) (n : Nat) (data : List Byte) : (s.hostWriteN b n data).engineSide = s.engineSide := by
  induction n generalizing s b data with
  | zero => rfl
  | succ n ih =>
    unfold State.hostWriteN
    split
    · rfl
    · exact (ih ..).trans (State.request_engineSide ..)

@[simp] theorem State.hostWrite_engineSide (b : Burst) (data : List Byte) : (s.hostWrite b data).engineSide = s.engineSide :=
  State.hostWriteN_engineSide ..

@[simp] theorem State.ringWrite_engineSide (kind n f sl addr key : Nat) (data : List Byte) :
    (s.ringWrite kind n f sl addr key data).engineSide = s.engineSide := State.hostWrite_engineSide ..

@[simp] theorem State.hostReadN_engineSide (b : Burst) (n off len : Nat) : (s.hostReadN b n off len).1.engineSide = s.engineSide := by
  induction n generalizing s b off len with
  | zero => rfl
  | succ n ih =>
    unfold State.hostReadN
    split
    · rfl
    · exact (ih ..).trans (State.request_engineSide ..)

@[simp] theorem State.loadContext_engineSide (k : Nat) : (s.loadContext k).engineSide = s.engineSide := by
  unfold State.loadContext
  dsimp only
  split
  · rfl
  · exact State.hostReadN_engineSide ..

@[simp] theorem State.useContext_engineSide (k : Nat) : (s.useContext k).engineSide = s.engineSide := by
  unfold State.useContext
  dsimp only
  split
  · rfl
  · exact State.hostWrite_engineSide ..

/-! Events and completions (R310–R316) -/

@[simp] theorem State.writeEvent_engineSide (n ty src detail key : Nat) : (s.writeEvent n ty src detail key).engineSide = s.engineSide := by
  unfold State.writeEvent
  split <;> simp

@[simp] theorem State.fireEq_engineSide (n key : Nat) : (s.fireEq n key).engineSide = s.engineSide := by
  unfold State.fireEq
  (repeat' split) <;> simp

@[simp] theorem State.overrunEvent_engineSide (n : Nat) : (s.overrunEvent n).engineSide = s.engineSide := by
  unfold State.overrunEvent
  (repeat' split) <;> simp

@[simp] theorem State.event_engineSide (n ty src detail key : Nat) : (s.event n ty src detail key).engineSide = s.engineSide := by
  unfold State.event
  dsimp only
  (repeat' split) <;> simp

@[simp] theorem State.queueErrorEvent_engineSide (sl kind n cause : Nat) : (s.queueErrorEvent sl kind n cause).engineSide = s.engineSide := by
  unfold State.queueErrorEvent State.sliceEvent
  split <;> simp

@[simp] theorem State.fireCq_engineSide (n key : Nat) : (s.fireCq n key).engineSide = s.engineSide := by
  unfold State.fireCq
  dsimp only
  (repeat' split) <;> simp

@[simp] theorem State.sampled_engineSide (n sl : Nat) (e : WqEntry) (status count : Nat) :
    (s.sampled n sl e status count).engineSide = s.engineSide := by
  unfold State.sampled
  split <;> rfl

@[simp] theorem State.countComp_engineSide (sl : Nat) (c : Comp) : (s.countComp sl c).engineSide = s.engineSide := by
  unfold State.countComp
  dsimp only
  (repeat' split) <;> rfl

@[simp] theorem State.wqErrorSilent_engineSide (n cause : Nat) : (s.wqErrorSilent n cause).engineSide = s.engineSide := by
  unfold State.wqErrorSilent
  (repeat' split) <;> simp [foldl_engineSide]

@[simp] theorem State.cqError_engineSide (n cause : Nat) : (s.cqError n cause).engineSide = s.engineSide := by
  unfold State.cqError
  dsimp only
  (repeat' split) <;> simp [foldl_engineSide]

@[simp] theorem State.writeCompletion_engineSide (n : Nat) (c : Completion) (key : Nat) :
    (s.writeCompletion n c key).engineSide = s.engineSide := by
  unfold State.writeCompletion
  dsimp only
  (repeat' split) <;> simp

/-- An entry that ends takes no engine out of service and raises nothing. -/
@[simp] theorem State.finish_engineSide (n pos : Nat) (st : Comp) (count detail specific : Nat) (solicited : Bool) :
    (s.finish n pos st count detail specific solicited).engineSide = s.engineSide := by
  unfold State.finish
  dsimp only
  (repeat' split) <;> simp

/-! Answers of the management server (R563, R565) -/

@[simp] theorem State.sendFdp_engineSide (p : Path) (r : FdpResp) : (s.sendFdp p r).engineSide = s.engineSide := by
  cases p with
  | mailbox k l =>
    rw [State.sendFdp_mailbox]
    dsimp only
    split
    · split
      · exact State.msix_engineSide ..
      · rfl
    · rfl
  | _ => rfl

@[simp] theorem State.answer_engineSide (q : Req) (obj sub : Nat) (f : Fdp) (body : List Byte) :
    (s.answer q obj sub f body).engineSide = s.engineSide := by
  unfold State.answer
  dsimp only
  split <;> exact State.sendFdp_engineSide ..

end

end Sys2Proof.Machine
end

section
/-! The lock bank (family 11, engines; O54, and the locks of O35). -/

namespace Sys2Proof.Machine

/-! Reading and writing a lock (R353) -/

section
variable {s : State} {n k : Nat}

theorem State.lock_setLock_same (word : BitVec 32) (reads : Table.risingFrom none s.host.locks = true ∨ word ≠ 0) :
    (s.setLock n word).lock n = word := by
  rcases reads with rising | listed
  · exact Table.get_set_rising 0 n word rising
  · exact Table.get_set_listed s.host.locks n listed

theorem State.lock_setLock_other (word : BitVec 32) (other : k ≠ n) : (s.setLock n word).lock k = s.lock k :=
  Table.get_set_other 0 s.host.locks word other

theorem State.lock_of_engineSide {s t : State} (same : t.engineSide = s.engineSide) (k : Nat) : t.lock k = s.lock k :=
  congrArg (fun x : EngineSide => Table.get 0 x.locks k) same

end

/-! A write at the lock bank (R354–R356) -/

/-- The lock is held by a master of a slice. -/
def State.HeldBy (s : State) (n sl m : Nat) : Prop :=
  bit (s.lock n) 31 = true ∧ fldN (s.lock n) 27 20 = sl ∧ fldN (s.lock n) 9 0 = m

/-- A word of an OP that names its writer, to whom the lock's group is open. -/
structure State.Permits (s : State) (n sl m : Nat) (w : BitVec 32) (op : Nat) : Prop where
  op      : fldN w 31 30 = op
  slice   : fldN w 27 20 = sl
  master  : fldN w 9 0 = m
  allowed : s.lockAllowed n sl m = true

/-- The word of a lock that a master of a slice holds, ABANDONED as it was. -/
def heldWord (abandoned : Bool) (sl m : Nat) : BitVec 32 := BitVec.ofNat 32 (2 ^ 31 + 2 ^ 30 * b2n abandoned + 2 ^ 20 * sl + m)

section
variable {s : State} {n sl m : Nat} {w : BitVec 32}

/-- A permitted CLAIM of a free lock takes it; one of a held lock changes nothing (R355). -/
theorem State.Permits.lockWrite_claim (permits : s.Permits n sl m w 1) : s.lockWrite n sl m w =
    if bit (s.lock n) 31 then s.emit (.ringAnswer 31 0)
    else (s.setLock n (heldWord (bit (s.lock n) 30) sl m)).emit (.ringAnswer 31 0) := by
  have word : at' 31 1 + at' 30 (b2n (bit (s.lock n) 30)) + at' 20 sl + m
      = 2 ^ 31 + 2 ^ 30 * b2n (bit (s.lock n) 30) + 2 ^ 20 * sl + m := by
    simp only [at', Nat.shiftLeft_eq, Nat.one_mul, Nat.mul_comm]
  unfold State.lockWrite heldWord
  dsimp only
  rw [word, if_neg (by simp [permits.op, permits.slice, permits.master, permits.allowed]), if_pos permits.op]

/-- A permitted RELEASE by the holder frees the lock (R356). -/
theorem State.Permits.lockWrite_release (permits : s.Permits n sl m w 2) (held : s.HeldBy n sl m) :
    s.lockWrite n sl m w = (s.setLock n 0).emit (.ringAnswer 31 0) := by
  unfold State.lockWrite
  dsimp only
  rw [if_neg (by simp [permits.op, permits.slice, permits.master, permits.allowed]), if_neg (by simp [permits.op])]
  exact if_pos held

/-- A word that is no CLAIM, from a master that does not hold the lock, is refused (R354, R356). -/
theorem State.lockWrite_refused (noClaim : fldN w 31 30 ≠ 1) (other : ¬s.HeldBy n sl m) :
    s.lockWrite n sl m w = (s.countDev 11).emit (.ringAnswer 31 3) := by
  unfold State.lockWrite
  dsimp only
  split
  · rfl
  · exact if_neg other

/-- With both bits of its OP turned, a CLAIM word reads RELEASE: LOCK_RELEASE is told from LOCK_CLAIM by the command. -/
theorem fldN_op_turned (claim : fldN w 31 30 = 1) : fldN (w ^^^ 0xC0000000) 31 30 = 2 := by
  unfold fldN at claim ⊢
  rw [BitVec.toNat_xor, Nat.shiftRight_xor_distrib, Nat.xor_mod_two_pow, claim]
  rfl

theorem exec_lockClaim (claim : fldN w 31 30 = 1) : exec (.lockClaim n sl m w) s = .next (s.lockWrite n sl m w) := by
  refine congrArg (fun word => Host.Outcome.next (s.lockWrite n sl m word)) (if_neg ?_)
  omega

theorem exec_lockRelease (release : fldN w 31 30 = 2) : exec (.lockRelease n sl m w) s = .next (s.lockWrite n sl m w) := by
  refine congrArg (fun word => Host.Outcome.next (s.lockWrite n sl m word)) (if_neg ?_)
  omega

/-- LOCK_RELEASE by any other master is refused, whatever word it writes. -/
theorem exec_lockRelease_refused (w : BitVec 32) (other : ¬s.HeldBy n sl m) :
    exec (.lockRelease n sl m w) s = .next ((s.countDev 11).emit (.ringAnswer 31 3)) := by
  refine congrArg Host.Outcome.next (State.lockWrite_refused ?_ other)
  split
  · next claim => rw [fldN_op_turned claim]; decide
  · next noClaim => exact noClaim

end

/-- Settles O54: the holder's release writes zero, any other is refused before a lock is written. -/
theorem onlyTheHolderReleasesALock : Obligations.OnlyTheHolderReleasesALock := by
  unfold Obligations.OnlyTheHolderReleasesALock
  refine ⟨?holder, ?other⟩
  case holder =>
    intro s n sl m w op slice master allowed rising held bySlice byMaster
    have released := State.Permits.lockWrite_release ⟨op, slice, master, allowed⟩ ⟨held, bySlice, byMaster⟩
    exact ⟨_, (exec_lockRelease op).trans (congrArg Host.Outcome.next released), State.lock_setLock_same 0 (.inl rising),
      fun k other => State.lock_setLock_other 0 other, rfl⟩
  case other => exact fun s n sl m w other => ⟨_, exec_lockRelease_refused w other, rfl, rfl⟩

end Sys2Proof.Machine
end

section
/-! Items of the engine array: admission, taking, stealing, parking, and engines that leave service (family 11, engines; O34). -/

namespace Sys2Proof.Machine

/-! What moves an item (R332, R338, R339) -/

/-- Two changes of one item are one. -/
theorem map_item_twice {f g : Item → Item} (keepsId : ∀ j, (f j).id = j.id) (id : Nat) (l : List Item) :
    (l.map (fun j => if j.id = id then f j else j)).map (fun j => if j.id = id then g j else j)
      = l.map (fun j => if j.id = id then g (f j) else j) := by
  rw [List.map_map]
  refine List.map_congr_left fun j _ => ?_
  by_cases own : j.id = id
  · simp only [Function.comp_apply, own, keepsId, if_true]
  · simp only [Function.comp_apply, own, if_false]

section
variable (s : State)

@[simp] theorem State.trackItem_host (i : Item) (f : Track → Track) : (s.trackItem i f).host = s.host := by
  unfold State.trackItem
  split <;> rfl

@[simp] theorem State.trackItem_rings (i : Item) (f : Track → Track) : (s.trackItem i f).rings = s.rings := by
  unfold State.trackItem
  split <;> rfl

theorem State.trackItem_ringRoute (i : Item) (f : Track → Track) (src dst kind : Nat) :
    (s.trackItem i f).ringRoute src dst kind = s.ringRoute src dst kind := by
  unfold State.trackItem
  split <;> rfl

@[simp] theorem State.markEntry_engines (n pos : Nat) (st : EntrySt) : (s.markEntry n pos st).host.engines = s.host.engines := by
  unfold State.markEntry
  split <;> rfl

theorem State.items_markStolen (i : Item) (remote : Bool) : (s.markStolen i remote).host.engines.items
    = s.host.engines.items.map (fun j => if j.id = i.id then { j with stolen := true, remote := j.remote || remote } else j) :=
  congrArg (fun h : HostSide => h.engines.items) (State.trackItem_host (s.updItem i.id _) i _)

theorem State.ringRoute_markStolen (i : Item) (remote : Bool) (src dst kind : Nat) :
    (s.markStolen i remote).ringRoute src dst kind = s.ringRoute src dst kind :=
  State.trackItem_ringRoute (s.updItem i.id _) i _ ..

end

/-! Admission (R332, R333) -/

/-- The engine that an item is admitted to: the one its cluster's directory names for its key, or that with the fewest waiting items. -/
def State.engineFor (s : State) (k least : Nat) (x : Item) : Nat :=
  (match x.key with | some key => s.directory k key | none => none).getD least

/-- An admitted item goes to the tail of a deque, and its entry has started. -/
def State.admitItem (s : State) (x : Item) (e : Nat) : State :=
  let u := (s.toDeque x.id e).trackItem x (fun t => { t with admitted := t.admitted.or (some s.ns) })
  match x.src with
  | .entry n pos => u.markEntry n pos .started
  | .segment _ _ => u

theorem State.engines_admitItem (s : State) (x : Item) (e : Nat) :
    (s.admitItem x e).host.engines = (s.toDeque x.id e).host.engines := by
  unfold State.admitItem
  dsimp only
  split
  · rw [State.markEntry_engines, State.trackItem_host]
  · rw [State.trackItem_host]

/-- With one admissible head, it is this item that is admitted. -/
theorem State.admit1_sole {s : State} {k least : Nat} {x : Item}
    (room : (List.range 16).any (fun l => s.inService (16 * k + l) && decide ((s.deque (16 * k + l)).length < 8)) = true)
    (sole : s.admissibleHeads k = [x]) (found : s.leastEngine k = some least) :
    s.admit1 k = (s.admitItem x (s.engineFor k least x)).chargeVt k x.slice x.cost := by
  unfold State.admit1
  dsimp only
  rw [if_pos room, sole]
  simp only [List.foldl_nil, List.find?_cons, decide_true, found]
  rfl

/-- The charge of an admission never lowers the slice's virtual time. -/
theorem State.vt_le_chargeVt {s : State} (rising : Table.risingFrom none s.host.engines.vt = true) (k sl cost : Nat) :
    s.vt k sl ≤ (s.chargeVt k sl cost).vt k sl := by
  have charged : (s.chargeVt k sl cost).vt k sl = _ := Table.get_set_rising 0 (256 * k + sl) _ rising
  rw [charged]
  exact Nat.le_add_right_of_le (Nat.le_max_left ..)

/-! Taking and stealing (R334, R338) -/

section
variable {s : State} {e v : Nat} {i : Item}

/-- An idle engine takes the first item of its deque whose slice is neither halted nor capped. -/
theorem State.items_take (serves : s.inService e = true) (idle : s.running e = none)
    (first : (s.deque e).find? (fun i => !s.haltedNow i.slice && !s.capped i.slice) = some i) :
    (s.take e).host.engines.items = s.host.engines.items.map (fun j => if j.id = i.id then { j with place := .running e } else j) := by
  have takes : ¬((!s.inService e) = true ∨ (s.running e).isSome = true) := by simp [serves, idle]
  unfold State.take
  rw [if_neg takes, first]
  exact congrArg (fun h : HostSide => h.engines.items) (State.trackItem_host ..)

/-- Of a victim with one unkeyed item a steal takes it, where its slice may run there. -/
theorem State.spoils_sole {remote : Option Nat} (sole : s.deque v = [i]) (unkeyed : i.key = none) (runs : s.haltedNow i.slice = false)
    (below : s.capped i.slice = false) (shared : remote.any (fun k => !bit (s.reg R.engineShare i.slice) (32 + k)) = false) :
    s.spoils v remote = [i] := by
  have scanned : s.stealScan v 1 remote [i] [i] [] [] = [i.id] := by
    simp [State.stealScan, runs, below, shared, unkeyed]
  have half : ceilDiv 1 2 = 1 := by decide
  unfold State.spoils
  dsimp only
  rw [sole, List.length_singleton, half, List.reverse_singleton, scanned]
  simp

/-- A local steal of one item. -/
theorem State.items_steal (sole : s.spoils v none = [i]) : (s.steal e v).host.engines.items
    = s.host.engines.items.map (fun j => if j.id = i.id then { j with
        place := .deque e, rank := s.host.engines.nextRank, stolen := true } else j) := by
  have moved := map_item_twice (f := fun j => { j with place := .deque e, rank := s.host.engines.nextRank })
    (g := fun j => { j with stolen := true, remote := j.remote || false }) (fun _ => rfl) i.id s.host.engines.items
  simp only [Bool.or_false] at moved
  unfold State.steal
  rw [sole, List.foldl_cons, List.foldl_nil, State.items_markStolen]
  simp only [Bool.or_false]
  exact moved

/-- The packet in which a stolen item travels to its thief (R339). -/
def Item.stolenPkt (i : Item) (thief victim : Nat) : RingPkt :=
  { src := clusterStop (victim / 16), dst := clusterStop (thief / 16), kind := kindPost, units := 1, slice := i.slice
    item := some (i.id, thief) }

/-- A remote steal of one item, to whose cluster the victim's cluster has a route. -/
theorem State.stealRemote_sends (sole : s.spoils v (some (e / 16)) = [i])
    (route : (s.ringRoute (clusterStop (v / 16)) (clusterStop (e / 16)) kindPost).isSome = true) :
    (s.stealRemote e v).host.engines.items = s.host.engines.items.map (fun j => if j.id = i.id then { j with
        place := .ring e, stolen := true, remote := true } else j)
      ∧ ∃ p ∈ (s.stealRemote e v).rings.pkts, p.item = some (i.id, e) ∧ p.src = clusterStop (v / 16) ∧ p.dst = clusterStop (e / 16)
        ∧ p.kind = kindPost := by
  obtain ⟨ring, routed⟩ := Option.isSome_iff_exists.1 route
  have moved := map_item_twice (f := fun j => { j with place := .ring e })
    (g := fun j => { j with stolen := true, remote := j.remote || true }) (fun _ => rfl) i.id s.host.engines.items
  simp only [Bool.or_true] at moved
  have marked := State.items_markStolen (s.updItem i.id (fun i => { i with place := .ring e })) i true
  simp only [Bool.or_true] at marked
  have posted : ¬((i.stolenPkt e v).kind = kindRead ∨ (i.stolenPkt e v).kind = kindWrite) := by
    show ¬(kindPost = kindRead ∨ kindPost = kindWrite)
    decide
  unfold State.stealRemote
  rw [sole, List.foldl_cons, List.foldl_nil]
  change (State.ringSend _ (i.stolenPkt e v) _).host.engines.items = _ ∧ ∃ p ∈ (State.ringSend _ (i.stolenPkt e v) _).rings.pkts, _
  generalize markedState : (s.updItem i.id (fun i => { i with place := .ring e })).markStolen i true = u at marked ⊢
  have routed' : u.ringRoute (i.stolenPkt e v).src (i.stolenPkt e v).dst (i.stolenPkt e v).kind = some ring := by
    rw [← markedState, State.ringRoute_markStolen]
    exact routed
  rw [State.ringSend_posted posted routed']
  obtain ⟨rings, same, queued⟩ := u.ringQueue_queued { i.stolenPkt e v with ring := ring }
  obtain ⟨place, joined⟩ := queued.joined
  rw [same]
  exact ⟨marked.trans moved, _, joined, rfl, rfl, rfl, rfl⟩

end

/-! Engines that leave service (R344, R345) -/

/-- Locks that are abandoned are all that moves (R357). -/
theorem State.abandonLocks_eq (s : State) (held : Nat → Nat → Bool) :
    ∃ locks, s.abandonLocks held = s.updHost (fun h => { h with locks := locks }) := by
  refine List.foldlRecOn (motive := fun t => ∃ locks, t = s.updHost (fun h => { h with locks := locks })) _ _ ⟨s.host.locks, rfl⟩ ?_
  rintro t ⟨locks, rfl⟩ lock -
  split
  · exact ⟨_, rfl⟩
  · exact ⟨locks, rfl⟩

/-- The engine is out of service, and its fault source has an event on its wires. -/
structure State.EngineDown (s : State) (e : Nat) : Prop where
  out    : e ∈ s.host.engines.out
  raised : 0x210 + e ∈ s.wires

section
variable {s t : State} {e : Nat}

theorem State.EngineDown.of_same (h : s.EngineDown e) (out : t.host.engines.out = s.host.engines.out) (wires : t.wires = s.wires) :
    t.EngineDown e := ⟨out ▸ h.out, wires ▸ h.raised⟩

theorem State.EngineDown.of_engineSide (h : s.EngineDown e) (same : t.engineSide = s.engineSide) : t.EngineDown e :=
  h.of_same (congrArg EngineSide.out same) (congrArg EngineSide.wires same)

theorem State.EngineDown.abandonLocks (h : s.EngineDown e) (held : Nat → Nat → Bool) : (s.abandonLocks held).EngineDown e := by
  obtain ⟨locks, same⟩ := s.abandonLocks_eq held
  rw [same]
  exact h.of_same rfl rfl

theorem State.EngineDown.rehome (h : s.EngineDown e) (k : Nat) : (s.rehome k).EngineDown e := by
  refine State.EngineDown.of_same (h.of_engineSide (foldl_engineSide (fun t w => ?_) s.host.wqs s)) rfl rfl
  split
  · exact State.putWq_engineSide ..
  · rfl

theorem State.EngineDown.inService (h : s.EngineDown e) : s.inService e = false := by
  simpa [State.inService] using h.out

/-- What an engine leaves behind does not bring it back into service. -/
theorem State.engineOut_down (serves : s.inService e = true) : (s.engineOut e).EngineDown e := by
  have leaves : State.EngineDown ((s.updEngines (fun en => { en with out := en.out ++ [e] })).raise (0x210 + e)) e :=
    ⟨List.mem_append_right _ (List.mem_singleton_self e), List.mem_append_right _ (List.mem_singleton_self _)⟩
  unfold State.engineOut
  rw [if_neg (by simp [serves])]
  extract_lets run left flushed abandoned
  clear_value run
  have flushes : flushed.EngineDown e := by
    dsimp only [flushed]
    split
    · exact leaves.of_engineSide (State.finish_engineSide ..)
    · exact leaves
  have abandons : abandoned.EngineDown e := flushes.abandonLocks _
  split
  · exact abandons.of_engineSide (foldl_engineSide (fun t i => State.toDeque_engineSide t ..) _ _)
  · exact abandons.rehome _

end

/-- Settles O34: each command by the one item it moves, and an engine's leave by `engineOut_down`, since neither its entry's end, nor its
locks, nor its waiting items bring it back. -/
theorem enginesTakeStealAndLeave : Obligations.EnginesTakeStealAndLeave := by
  unfold Obligations.EnginesTakeStealAndLeave
  refine ⟨?admission, ?take, ?steal, ?remote, ?unpark, ?limit, ?memory⟩
  case admission =>
    intro s k least x room sole found rising
    refine ⟨_, congrArg Host.Outcome.next (State.admit1_sole room sole found), ?_, ?_⟩
    · have same := congrArg Engines.vt (s.engines_admitItem x (s.engineFor k least x))
      have charged := State.vt_le_chargeVt (same ▸ rising) k x.slice x.cost
      unfold State.vt at charged ⊢
      rwa [same] at charged
    · exact congrArg Engines.items (State.engines_admitItem ..)
  case take => exact fun s e i serves idle first => ⟨_, rfl, State.items_take serves idle first⟩
  case steal =>
    intro s e v i may on victim sole unkeyed runs below
    refine ⟨s.steal e v, congrArg Host.Outcome.next ?_, State.items_steal (State.spoils_sole sole unkeyed runs below rfl)⟩
    rw [if_pos ⟨may, on⟩, victim]
  case remote =>
    intro s e v i may on noLocal victim sole unkeyed runs below shared route
    refine ⟨s.stealRemote e v, congrArg Host.Outcome.next ?_,
      State.stealRemote_sends (State.spoils_sole sole unkeyed runs below (by simp [shared])) route⟩
    rw [if_pos ⟨may, on, by simp [noLocal]⟩, victim]
  case unpark =>
    intro s id i c listed parked ended
    refine congrArg Host.Outcome.next ?_
    rw [listed]
    dsimp only
    rw [parked]
    exact if_pos ended
  case limit =>
    intro s e busy serves
    have down := State.engineOut_down serves
    exact ⟨s.engineOut e, congrArg Host.Outcome.next (if_pos busy), down.inService, down.raised⟩
  case memory =>
    intro s e serves
    have down := State.engineOut_down (s := s.countDev 16) serves
    exact ⟨(s.countDev 16).engineOut e, congrArg Host.Outcome.next (if_pos serves), down.inService, down.raised⟩

end Sys2Proof.Machine
end

section
/-! The host-bandwidth arbiter, and LOCK_BREAK (family 11, engines; O35). -/

namespace Sys2Proof.Machine

/-! LOCK_BREAK (R358) -/

/-- An accepted write of an object that no partner mirrors takes effect on the recorded device, and its answer is all that follows. -/
theorem State.dictWrite_answers {s : State} {q : Req} {role : Role} {r : Reg} {i e : Nat} {v : Image} {chk : State → Option Fdp}
    (accepted : s.mayWrite q role r i e v = true) (unmirrored : mirrorScope r i = none)
    (passes : ∀ b a au an sf, chk (s.taken b a au an sf) = none) (eff : State → State × Fdp) :
    ∃ u obj sub, u.host = s.host ∧ s.dictWrite q r i e v chk eff = (eff u).1.answer q obj sub (eff u).2 := by
  simp only [State.mayWrite, Bool.and_eq_true] at accepted
  obtain ⟨⟨⟨⟨door, stores⟩, room⟩, -⟩, -⟩ := accepted
  obtain ⟨b, a, served⟩ := State.serve_atDoor door
  generalize taken : s.taken b a s.mgmt.audit s.mgmt.auditNext s.mgmt.segFree = t at served
  have stores' : t.mayStore q role r i e v = true := taken ▸ stores
  have room' : t.roomFor q role r = true := taken ▸ room
  have recorded : t.auditRefuses role r = false := by
    simp only [State.roomFor, Bool.and_eq_true, Bool.not_eq_true'] at room'
    exact room'.1
  have refused := State.writeRefused_accepted stores' unmirrored chk (fun s => let (s, f) := eff s; (s, some f))
  obtain ⟨au, an, sf, record⟩ := State.recordVal_room room' i e (auditValue r.bits [v]).1 (auditValue r.bits [v]).2
  have record' : t.recordWrite q role r i e [v] = .ok (s.taken b a au an sf) := by
    rw [State.recordWrite, record, ← taken]
    rfl
  have applied : ∀ w : State, chk w = none →
      w.applyEntries r i (fun _ _ _ => { chk := chk, eff := fun s => let (s, f) := eff s; (s, some f) }) [(e, v)]
        = ((eff (w.storeVal r i e v)).1, [], [some (eff (w.storeVal r i e v)).2]) := by
    intro w good
    simp [State.applyEntries, good, State.storeVal]
  have good : chk t = none := taken ▸ passes b a _ _ _
  have answers : ∀ f : Fdp, allAnswers [some f] = some f := by
    intro f
    cases f <;> rfl
  refine ⟨(s.taken b a au an sf).storeVal r i e v, r.index i, r.sub + if r.entries = 0 then e else 0, State.storeVal_host .., ?_⟩
  unfold State.dictWrite State.dictRun State.dictRunR State.writeRun
  dsimp only
  rw [served]
  simp only [List.zipIdx_cons, List.zipIdx_nil, List.map_cons, List.map_nil, refused, unmirrored, reduceCtorEq, false_and, if_false,
    applied t good, recorded, Bool.false_eq_true, List.append_nil, firstRefusal, record', applied _ (passes b a au an sf)]
  unfold State.mirrored
  rw [unmirrored, answers]

/-- An accepted LOCK_BREAK of a held lock leaves it free and ABANDONED. -/
theorem exec_lockBreak_held {s : State} {q : Req} {role : Role} {v : Image} (accepted : s.mayWrite q role R.lockBreak 0 0 v = true)
    (below : fldN v 15 0 < 4096) (held : bit (s.lock (fldN v 15 0)) 31 = true) :
    ∃ t, exec (.lockBreak q v) s = .next t ∧ t.lock (fldN v 15 0) = 0x40000000
      ∧ ∀ m, m ≠ fldN v 15 0 → t.lock m = s.lock m := by
  obtain ⟨u, obj, sub, host, answered⟩ := State.dictWrite_answers (chk := fun _ => if 4096 ≤ fldN v 15 0 then some .outOfRange else none)
    accepted rfl (fun _ _ _ _ _ => if_neg (Nat.not_le.2 below))
    (fun s => (if bit (s.lock (fldN v 15 0)) 31 then s.setLock (fldN v 15 0) 0x40000000 else s, .ok))
  have same : ∀ m, u.lock m = s.lock m := fun m => by rw [State.lock, host]; rfl
  refine ⟨_, congrArg Host.Outcome.next answered, ?_, fun m other => ?_⟩
  · rw [State.lock_of_engineSide (State.answer_engineSide ..), same, if_pos held]
    exact State.lock_setLock_same _ (.inr (by decide))
  · rw [State.lock_of_engineSide (State.answer_engineSide ..), same (fldN v 15 0), if_pos held, State.lock_setLock_other _ other, same]

/-! Refills (R347, R352) -/

/-- An entry that is not listed reads as the default. -/
theorem Table.get_unlisted {α : Type} (d : α) {t : Table α} {k : Nat} (unlisted : ∀ e ∈ t, e.1 ≠ k) : Table.get d t k = d := by
  induction t with
  | nil => rfl
  | cons e t ih =>
    simp only [Table.get, if_neg (unlisted e List.mem_cons_self)]
    exact ih fun e' later => unlisted e' (List.mem_cons_of_mem e later)

/-- Slices of an arbiter get new credits, one after the other. -/
def State.withCredits (s : State) (i : Nat) (f : State → Nat → Int) (l : List Nat) : State :=
  l.foldl (fun t sl => t.setCredit i sl (f t sl)) s

/-- The active slices of an arbiter. -/
def State.activeSlices (s : State) (i : Nat) : List Nat := (s.host.arb.active.filter (fun k => k / 256 = i)).map (· % 256)

/-- The slices of an arbiter that have credit and are not active. -/
def State.idleSlices (s : State) (i : Nat) : List Nat :=
  ((s.host.arb.credit.filter (fun e => e.1 / 256 = i)).map (·.1 % 256)).filter (fun sl => !(s.activeSlices i).contains sl)

/-- The slices that have a burst at an arbiter. -/
def State.waiting (s : State) (i : Nat) : List Nat := ((s.host.arb.bursts.filter (fun x => x.inst = i)).map (·.slice)).eraseDups

/-- An arbiter's active slices are those that wait there. -/
def State.listActive (s : State) (i : Nat) (waiting : List Nat) : State :=
  s.updHost (fun h => { h with arb := { h.arb with active := h.arb.active.filter (fun k => k / 256 ≠ i) ++ waiting.map (256 * i + ·) } })

section
variable {s : State} {i j sl : Nat} {f : State → Nat → Int} {l : List Nat}

theorem State.withCredits_eq (s : State) (i : Nat) (f : State → Nat → Int) (l : List Nat) :
    ∃ c, s.withCredits i f l = s.updHost (fun h => { h with arb := { h.arb with credit := c } }) := by
  refine List.foldlRecOn (motive := fun t : State => ∃ c, t = s.updHost (fun h => { h with arb := { h.arb with credit := c } })) _ _
    ⟨s.host.arb.credit, rfl⟩ ?_
  rintro t ⟨c, rfl⟩ sl -
  exact ⟨_, rfl⟩

theorem State.rising_withCredits (rising : Table.risingFrom none s.host.arb.credit = true) :
    Table.risingFrom none (s.withCredits i f l).host.arb.credit = true :=
  List.foldlRecOn (motive := fun t : State => Table.risingFrom none t.host.arb.credit = true) l _ rising
    fun _ rises _ _ => Table.rising_set 0 _ _ rises

theorem State.credit_setCredit_other {k : Nat} (c : Int) (apart : 256 * j + sl ≠ 256 * i + k) :
    (s.setCredit i k c).credit j sl = s.credit j sl := Table.get_set_other 0 s.host.arb.credit c apart

theorem State.credit_withCredits_other (apart : ∀ k ∈ l, 256 * j + sl ≠ 256 * i + k) :
    (s.withCredits i f l).credit j sl = s.credit j sl :=
  List.foldlRecOn (motive := fun t : State => t.credit j sl = s.credit j sl) l _ rfl
    fun (_ : State) same k among => (State.credit_setCredit_other _ (apart k among)).trans same

/-- A cut is made once or often with one result. -/
theorem State.credit_withCredits_cut (rising : Table.risingFrom none s.host.arb.credit = true) (listed : sl ∈ l) :
    (s.withCredits i (fun t k => min (t.credit i k) 0) l).credit i sl = min (s.credit i sl) 0 := by
  induction l generalizing s with
  | nil => cases listed
  | cons k l ih =>
    have rises : Table.risingFrom none (s.setCredit i k (min (s.credit i k) 0)).host.arb.credit = true := Table.rising_set 0 _ _ rising
    have cut : (s.setCredit i sl (min (s.credit i sl) 0)).credit i sl = min (s.credit i sl) 0 := Table.get_set_rising 0 _ _ rising
    show ((s.setCredit i k (min (s.credit i k) 0)).withCredits i _ l).credit i sl = _
    by_cases later : sl ∈ l
    · rw [ih rises later]
      by_cases own : sl = k
      · rw [← own, cut, Int.min_assoc, Int.min_self]
      · rw [State.credit_setCredit_other _ (by omega)]
    · obtain rfl : sl = k := (List.mem_cons.1 listed).resolve_right later
      rw [State.credit_withCredits_other fun k among same => later (by rwa [Nat.add_left_cancel same]), cut]

/-- A refill: idle slices are cut, active ones get their share, and the active ones are found anew. -/
theorem State.arbRefill_eq (s : State) (i : Nat) : ∃ share, s.arbRefill i
    = (((s.commit R.arbCtl (i / 2) 0).withCredits i (fun t k => min (t.credit i k) 0) (s.idleSlices i)).withCredits i share
        (s.activeSlices i)).listActive i (s.waiting i) := ⟨_, rfl⟩

theorem State.lt_of_idleSlices (listed : sl ∈ s.idleSlices i) : sl < 256 := by
  obtain ⟨e, -, rfl⟩ := List.mem_map.1 (List.mem_filter.1 listed).1
  exact Nat.mod_lt _ (by decide)

theorem State.lt_of_activeSlices (listed : sl ∈ s.activeSlices i) : sl < 256 := by
  obtain ⟨k, -, rfl⟩ := List.mem_map.1 listed
  exact Nat.mod_lt _ (by decide)

theorem State.mem_active_of_activeSlices (listed : sl ∈ s.activeSlices i) : 256 * i + sl ∈ s.host.arb.active := by
  obtain ⟨k, active, rfl⟩ := List.mem_map.1 listed
  obtain ⟨active, inst⟩ := List.mem_filter.1 active
  rw [decide_eq_true_eq] at inst
  rwa [← inst, Nat.div_add_mod]

theorem State.arb_arbRefill (s : State) (i : Nat) : (s.arbRefill i).host.arb.bursts = s.host.arb.bursts
    ∧ (s.arbRefill i).host.arb.active = s.host.arb.active.filter (fun k => k / 256 ≠ i) ++ (s.waiting i).map (256 * i + ·) := by
  obtain ⟨share, refilled⟩ := s.arbRefill_eq i
  rw [refilled]
  obtain ⟨c, cut⟩ := (s.commit R.arbCtl (i / 2) 0).withCredits_eq i (fun t k => min (t.credit i k) 0) (s.idleSlices i)
  rw [cut]
  generalize cutState : State.updHost _ _ = u
  obtain ⟨c', shared⟩ := u.withCredits_eq i share (s.activeSlices i)
  rw [shared, ← cutState]
  exact ⟨rfl, rfl⟩

/-- What is active after a refill of arbiter `i`. -/
theorem State.mem_active_arbRefill (slices : ∀ b ∈ s.host.arb.bursts, b.slice < 256) (k : Nat) :
    k ∈ (s.arbRefill i).host.arb.active ↔
      if k / 256 = i then ∃ b ∈ s.host.arb.bursts, b.inst = k / 256 ∧ b.slice = k % 256 else k ∈ s.host.arb.active := by
  rw [(s.arb_arbRefill i).2, List.mem_append, List.mem_filter, List.mem_map, decide_eq_true_eq]
  have waits : ∀ sl, sl ∈ s.waiting i ↔ ∃ b ∈ s.host.arb.bursts, b.inst = i ∧ b.slice = sl := by
    intro sl
    simp [State.waiting, and_assoc]
  split
  · next inst =>
    constructor
    · rintro (⟨-, apart⟩ | ⟨sl, waiting, rfl⟩)
      · exact absurd inst apart
      · obtain ⟨b, listed, at_, rfl⟩ := (waits sl).1 waiting
        have := slices b listed
        exact ⟨b, listed, by omega, by omega⟩
    · rintro ⟨b, listed, at_, slice⟩
      exact .inr ⟨b.slice, (waits _).2 ⟨b, listed, by omega, rfl⟩, by omega⟩
  · next apart =>
    constructor
    · rintro (⟨active, -⟩ | ⟨sl, waiting, rfl⟩)
      · exact active
      · obtain ⟨b, listed, -, rfl⟩ := (waits sl).1 waiting
        have := slices b listed
        omega
    · exact fun active => .inl ⟨active, apart⟩

/-- Another arbiter's refill leaves a slice's credit alone. -/
theorem State.credit_arbRefill_other (other : j ≠ i) (slice : sl < 256) : (s.arbRefill i).credit j sl = s.credit j sl := by
  obtain ⟨share, refilled⟩ := s.arbRefill_eq i
  rw [refilled]
  refine (State.credit_withCredits_other fun k among => ?_).trans (State.credit_withCredits_other fun k among => ?_)
  · have := State.lt_of_activeSlices among
    omega
  · have := State.lt_of_idleSlices among
    omega

/-- A slice that is not active loses what credit it has. -/
theorem State.credit_arbRefill_idle (rising : Table.risingFrom none s.host.arb.credit = true) (slice : sl < 256)
    (idle : 256 * i + sl ∉ s.host.arb.active) : (s.arbRefill i).credit i sl = min (s.credit i sl) 0 := by
  have noShare : sl ∉ s.activeSlices i := fun listed => idle (State.mem_active_of_activeSlices listed)
  obtain ⟨share, refilled⟩ := s.arbRefill_eq i
  rw [refilled]
  refine (State.credit_withCredits_other fun k among same => noShare (by rwa [Nat.add_left_cancel same])).trans ?_
  by_cases listed : sl ∈ s.idleSlices i
  · exact State.credit_withCredits_cut (s := s.commit R.arbCtl (i / 2) 0) rising listed
  · have none_ : s.credit i sl = 0 := by
      refine Table.get_unlisted 0 fun e among same =>
        listed (List.mem_filter.2 ⟨List.mem_map.2 ⟨e, List.mem_filter.2 ⟨among, ?_⟩, ?_⟩, ?_⟩)
      · rw [decide_eq_true_eq]; omega
      · omega
      · simpa using noShare
    rw [none_, Int.min_self]
    exact (State.credit_withCredits_other fun k among same => listed (by rwa [Nat.add_left_cancel same])).trans none_

theorem State.rising_arbRefill (rising : Table.risingFrom none s.host.arb.credit = true) (i : Nat) :
    Table.risingFrom none (s.arbRefill i).host.arb.credit = true := by
  obtain ⟨share, refilled⟩ := s.arbRefill_eq i
  rw [refilled]
  exact State.rising_withCredits (State.rising_withCredits rising)

end

/-- Before the refill of its arbiter a slice has its credit and is not active; the table of credits is in order. -/
structure Unrefilled (s : State) (i sl : Nat) (t : State) : Prop where
  bursts : t.host.arb.bursts = s.host.arb.bursts
  rising : Table.risingFrom none t.host.arb.credit = true
  idle   : 256 * i + sl ∉ t.host.arb.active
  credit : t.credit i sl = s.credit i sl

section
variable {s : State}

/-- After a window has begun, what has a burst is active. -/
theorem State.mem_active_refills (slices : ∀ b ∈ s.host.arb.bursts, b.slice < 256) {k : Nat} (below : k < 4096) :
    k ∈ ((List.range 16).foldl State.arbRefill s).host.arb.active
      ↔ ∃ b ∈ s.host.arb.bursts, b.inst = k / 256 ∧ b.slice = k % 256 := by
  have refill : ∀ (t : State) i, t.host.arb.bursts = s.host.arb.bursts → (t.arbRefill i).host.arb.bursts = s.host.arb.bursts :=
    fun t i same => (t.arb_arbRefill i).1.trans same
  refine (foldl_once (P := fun t => t.host.arb.bursts = s.host.arb.bursts)
    (Q := fun t => t.host.arb.bursts = s.host.arb.bursts
      ∧ (k ∈ t.host.arb.active ↔ ∃ b ∈ s.host.arb.bursts, b.inst = k / 256 ∧ b.slice = k % 256))
    (x := k / 256) (fun t same => ⟨refill t _ same, ?_⟩) (fun t i _ same => refill t i same) ?_ List.nodup_range
    (List.mem_range.2 (by omega)) rfl).2
  · rw [State.mem_active_arbRefill (same ▸ slices), if_pos rfl, same]
  · rintro t i other ⟨same, active⟩
    rw [State.mem_active_arbRefill (same ▸ slices), if_neg other]
    exact ⟨refill t i same, active⟩

/-- A slice that was not active keeps no credit above none. -/
theorem State.credit_refills_idle (rising : Table.risingFrom none s.host.arb.credit = true)
    (slices : ∀ b ∈ s.host.arb.bursts, b.slice < 256) {i sl : Nat} (inst : i < 16) (slice : sl < 256)
    (idle : 256 * i + sl ∉ s.host.arb.active) :
    ((List.range 16).foldl State.arbRefill s).credit i sl = min (s.credit i sl) 0 := by
  refine foldl_once (P := Unrefilled s i sl) (Q := fun t => t.credit i sl = min (s.credit i sl) 0) (fun t before => ?_)
    (fun t j other before => ?_) (fun t j other after => ?_) List.nodup_range (List.mem_range.2 inst) ⟨rfl, rising, idle, rfl⟩
  · rw [State.credit_arbRefill_idle before.rising slice before.idle, before.credit]
  · refine ⟨(t.arb_arbRefill j).1.trans before.bursts, State.rising_arbRefill before.rising j, ?_,
      (State.credit_arbRefill_other other slice).trans before.credit⟩
    rw [State.mem_active_arbRefill (before.bursts ▸ slices), if_neg (by omega)]
    exact before.idle
  · exact (State.credit_arbRefill_other other slice).trans after

end

/-! Grants and handovers of an arbiter that nothing else moves (R348–R350) -/

theorem State.placeHeads_nothing {s : State} (placed : s.host.arb.bursts.all (fun b => !b.stale) = true) (i : Nat) : s.placeHeads i = s := by
  have none_ : (s.host.arb.bursts.filter (fun b => b.inst = i)).filter (·.stale) = [] := by
    refine List.filter_eq_nil_iff.2 fun b listed => ?_
    simpa using List.all_eq_true.1 placed b (List.mem_filter.1 listed).1
  unfold State.placeHeads staleHeads
  rw [none_]
  rfl

theorem State.collSettle_nothing {s : State} (ends : s.colls.ends = []) : s.collSettle = s := by
  have shape : ∀ c : Colls, c.ends = [] → ({ s with colls := c } : State).collSettle = { s with colls := c } := by
    rintro ⟨⟩ rfl
    rfl
  exact shape s.colls ends

theorem State.deliverEnded_nothing {s : State} (ended : s.trans.ended = []) : s.deliverEnded = s := by
  unfold State.deliverEnded
  rw [ended]
  rfl

theorem State.askReads_nothing {s : State} (placed : s.host.arb.placed = []) (i : Nat) : s.askReads i = s := by
  unfold State.askReads
  rw [placed]
  rfl

theorem State.settleReleases_nothing {s : State} (releasing : s.service.releasing = []) : s.settleReleases = s := by
  have shape : ∀ v : Service, v.releasing = [] → ({ s with service := v } : State).settleReleases = { s with service := v } := by
    rintro ⟨⟩ rfl
    rfl
  exact shape s.service releasing

section
variable {s : State} {i : Nat} {b : Burst}

/-- No placement and no release waits for bursts. -/
structure State.NoneWaits (s : State) : Prop where
  placing   : s.remote.placing = []
  invals    : s.remote.invals = []
  releasing : s.service.releasing = []

theorem State.NoneWaits.settle (h : s.NoneWaits) : s.settlePlacing.settleReleases = s := by
  rw [State.settlePlacing_nothing h.placing h.invals, State.settleReleases_nothing h.releasing]

theorem State.noneWaits_of_still (still : s.still = true) : s.NoneWaits := by
  simp only [State.still, Bool.and_eq_true, List.isEmpty_iff] at still
  obtain ⟨⟨⟨-, placing⟩, invals⟩, releasing⟩ := still
  exact ⟨placing, invals, releasing⟩

/-- Before a grant of such an arbiter nothing is to be done. -/
theorem State.prepare_of_still (still : s.still = true) : ((s.placeHeads i).collSettle.deliverEnded).askReads i = s := by
  simp only [State.still, Bool.and_eq_true, List.isEmpty_iff] at still
  obtain ⟨⟨⟨⟨⟨⟨fresh, ended⟩, ends⟩, placed⟩, -⟩, -⟩, -⟩ := still
  rw [State.placeHeads_nothing fresh, State.collSettle_nothing ends, State.deliverEnded_nothing ended, State.askReads_nothing placed]

/-- The grant of a write marks it granted; its slice is charged. -/
theorem State.grant_write (next : s.nextGrant i = some b) (write : i % 2 = 1) :
    s.grant i = ((s.setCredit i b.slice (s.credit i b.slice - b.len)).countSlice b.slice 28 b.len).updBurst b.id
      (fun x => { x with granted := true }) := by
  unfold State.grant
  rw [next]
  exact if_pos write

/-- The read of a burst that an arbiter has granted. -/
def Burst.read (b : Burst) (i : Nat) : HostRead :=
  { id := b.id, inst := i, func := b.func, slice := b.slice, addr := b.addr, len := b.len, owner := b.owner, key := b.key }

/-- The grant of a read issues it. -/
theorem State.grant_read (next : s.nextGrant i = some b) (read : i % 2 = 0) :
    s.grant i = ((((((((s.setCredit i b.slice (s.credit i b.slice - b.len)).countSlice b.slice 28 b.len).dropBurst b.id).updHost
      (fun h => { h with reads := h.reads ++ [b.read i] })).countHost (i / 4) 3).countHost (i / 4) 1 b.len).moved i b.len).emit
        (.hostRead i b.func b.addr b.len b.id)) := by
  unfold State.grant
  rw [next]
  exact if_neg (by omega)

theorem State.NoneWaits.grant (h : s.NoneWaits) (i : Nat) : (s.grant i).NoneWaits := by
  unfold State.grant
  split
  · exact h
  · dsimp only
    split <;> exact ⟨h.placing, h.invals, h.releasing⟩

theorem State.mem_out_linkActive {k l : Nat} {o : Out} (sent : o ∈ s.out) : o ∈ (s.linkActive k l).out := by
  unfold State.linkActive
  split
  · exact sent
  · exact List.mem_cons_of_mem _ sent

theorem exec_arbiterGrant_still (still : s.still = true) (next : s.nextGrant i = some b) :
    exec (.arbiterGrant i) s = .next ((s.grant i).linkActive (i / 4) (i / 2 % 2)) := by
  show execArbiterGrant i s = _
  unfold execArbiterGrant
  rw [State.prepare_of_still still]
  dsimp only
  rw [((State.noneWaits_of_still still).grant i).settle, next]
  rfl

/-- What leaves the device at a handover: a write, or the message of a vector. -/
def State.handedOver (s : State) (i : Nat) (b : Burst) : Out :=
  match b.msix with
  | some v => .msix b.func v b.addr ((s.func b.func).vec v).data
  | none => .hostWrite i b.func b.addr b.data (!b.report && (s.func b.func).relaxed)

/-- What is noted of a burst that is handed over touches what is placed alone (R680). -/
theorem State.notePlaced_eq (s : State) (b : Burst) :
    ∃ placed, s.notePlaced b = s.updHost (fun h => { h with arb := { h.arb with placed := placed } }) := by
  unfold State.notePlaced
  dsimp only
  split
  · split
    · exact ⟨s.host.arb.placed, rfl⟩
    · exact ⟨_, rfl⟩
  · exact ⟨_, rfl⟩

@[simp] theorem State.updHost_out (s : State) (f : HostSide → HostSide) : (s.updHost f).out = s.out := rfl
@[simp] theorem State.updHost_remote (s : State) (f : HostSide → HostSide) : (s.updHost f).remote = s.remote := rfl
@[simp] theorem State.updHost_service (s : State) (f : HostSide → HostSide) : (s.updHost f).service = s.service := rfl

/-- Bytes that move on a link are noted at its port alone (R276). -/
theorem State.moved_eq (s : State) (i n : Nat) : ∃ ports, s.moved i n = s.updHost (fun h => { h with ports := ports }) := ⟨_, rfl⟩

/-- The device without a burst that it hands over, noted and counted. -/
def State.withoutGranted (s : State) (i : Nat) (b : Burst) : State :=
  ((((s.dropBurst b.id).notePlaced b).countHost (i / 4) 2).countHost (i / 4) 0 b.len).moved i b.len

/-- That moves bursts, and nothing that still has to be settled, sent or read. -/
structure WithoutBurst (b : Burst) (s t : State) : Prop where
  bursts  : t.host.arb.bursts = s.host.arb.bursts.filter (fun x => x.id ≠ b.id)
  funcs   : t.host.funcs = s.host.funcs
  out     : t.out = s.out
  remote  : t.remote = s.remote
  service : t.service = s.service

theorem State.withoutGranted_without (s : State) (i : Nat) (b : Burst) : WithoutBurst b s (s.withoutGranted i b) := by
  obtain ⟨placed, noted⟩ := (s.dropBurst b.id).notePlaced_eq b
  obtain ⟨ports, moved⟩ := ((((s.dropBurst b.id).notePlaced b).countHost (i / 4) 2).countHost (i / 4) 0 b.len).moved_eq i b.len
  unfold State.withoutGranted
  rw [moved, noted]
  exact ⟨rfl, rfl, by simp [State.dropBurst], by simp [State.dropBurst], by simp [State.dropBurst]⟩

theorem State.handedOver_of_funcs {s t : State} (same : t.host.funcs = s.host.funcs) (i : Nat) (b : Burst) :
    t.handedOver i b = s.handedOver i b := by
  unfold State.handedOver State.func
  rw [same]

/-- The granted burst leaves, if it is a report or its slice's memory may be written. -/
theorem State.handover_granted (granted : s.host.arb.bursts.find? (fun b => b.inst = i ∧ b.granted) = some b)
    (may : b.report = true ∨ s.writable b.slice = true) :
    s.handover i = (s.withoutGranted i b).emit ((s.withoutGranted i b).handedOver i b) := by
  have writes : ¬((!b.report) = true ∧ (!s.writable b.slice) = true) := by
    rcases may with report | writable
    · simp [report]
    · simp [writable]
  unfold State.handover State.handedOver
  rw [granted]
  dsimp only
  rw [if_neg writes]
  cases b.msix with
  | none => rfl
  | some v => rfl

/-- A handover moves the arbiter's bursts and what is sent, and lets nothing wait for bursts. -/
theorem exec_burstHandover_still (still : s.still = true)
    (granted : s.host.arb.bursts.find? (fun b => b.inst = i ∧ b.granted) = some b) (may : b.report = true ∨ s.writable b.slice = true) :
    ∃ t, exec (.burstHandover i) s = .next t ∧ t.host.arb.bursts = s.host.arb.bursts.filter (fun x => x.id ≠ b.id)
      ∧ t.out = s.handedOver i b :: s.out := by
  have handed := State.handover_granted granted may
  have without := s.withoutGranted_without i b
  have noneWaits := State.noneWaits_of_still still
  generalize s.withoutGranted i b = t at handed without
  have settled : (s.handover i).NoneWaits := by
    rw [handed]
    exact ⟨without.remote ▸ noneWaits.placing, without.remote ▸ noneWaits.invals, without.service ▸ noneWaits.releasing⟩
  refine ⟨s.handover i, congrArg Host.Outcome.next settled.settle, ?_⟩
  rw [handed, State.handedOver_of_funcs without.funcs, ← without.out]
  exact ⟨without.bursts, rfl⟩

end

/-- Settles O35: the arbiter by its refills, grants and handovers, the lock bank by the laws of its writes. -/
theorem arbiterAndLockBank : Obligations.ArbiterAndLockBank := by
  unfold Obligations.ArbiterAndLockBank
  refine ⟨?refill, ?grantWrite, ?grantRead, ?preempt, ?handover, ?claimFree, ?claimHeld, ?release, fun _ _ _ _ => rfl, ?break_⟩
  case refill =>
    intro s rising slices
    have slices' : ∀ b ∈ s.host.arb.bursts, b.slice < 256 := by simpa using slices
    exact ⟨_, rfl, fun k below => State.mem_active_refills slices' below,
      fun i inst sl slice idle => State.credit_refills_idle rising slices' inst slice idle⟩
  case grantWrite =>
    intro s i b next write still
    refine ⟨_, exec_arbiterGrant_still still next, ?_⟩
    obtain ⟨ports, out, same⟩ := (s.grant i).linkActive_eq (i / 4) (i / 2 % 2)
    rw [same, State.grant_write next write]
    exact ⟨rfl, rfl, rfl⟩
  case grantRead =>
    intro s i b next read still
    refine ⟨_, exec_arbiterGrant_still still next, ?_, ?_, State.mem_out_linkActive ?_⟩
    · rw [State.linkActive_arb, State.grant_read next read]
      rfl
    · obtain ⟨ports, out, same⟩ := (s.grant i).linkActive_eq (i / 4) (i / 2 % 2)
      rw [same, State.grant_read next read]
      rfl
    · rw [State.grant_read next read]
      exact List.mem_cons_self
  case preempt =>
    intro s i sl b granted write other asks credit few
    refine congrArg Host.Outcome.next ?_
    rw [granted]
    exact if_pos ⟨write, other, asks, credit, few⟩
  case handover => exact fun s i b granted still may => exec_burstHandover_still still granted may
  case claimFree =>
    intro s n sl m w op slice master allowed free
    have claimed := State.Permits.lockWrite_claim ⟨op, slice, master, allowed⟩
    rw [exec_lockClaim op, claimed, free]
    rfl
  case claimHeld =>
    intro s n sl m w op slice master allowed held
    have claimed := State.Permits.lockWrite_claim ⟨op, slice, master, allowed⟩
    rw [exec_lockClaim op, claimed, if_pos held]
  case release =>
    intro s n sl m w op slice master allowed held bySlice byMaster
    rw [exec_lockRelease op, State.Permits.lockWrite_release ⟨op, slice, master, allowed⟩ ⟨held, bySlice, byMaster⟩]
  case break_ => exact fun s q role v accepted below held => exec_lockBreak_held accepted below held

end Sys2Proof.Machine
end

section
/-! The life cycle, the queue and the reset state (family 12, the statements on the whole device; O1, O2, O3, O5, O6, O7, O8): a step is
either idle or runs one command, and every command moves of the life cycle what `Moved` allows. -/

namespace Sys2Proof.Machine

/-! A step -/

theorem step_nil {s : State} (empty : s.pending = []) : step s = .next s := by
  unfold step
  rw [empty]

/-- A step of a device with no command idles; any other runs the command in front. -/
theorem step_cases {s t : State} (stepped : step s = .next t) :
    t = s ∨ ∃ c rest, s.pending = c :: rest ∧ exec c { s with pending := rest } = .next t := by
  cases waiting : s.pending with
  | nil =>
    rw [step_nil waiting] at stepped
    injection stepped with same
    exact Or.inl same.symm
  | cons c rest =>
    refine Or.inr ⟨c, rest, rfl, ?_⟩
    rw [← stepped, ← step_cons c rest s, ← waiting]

/-- Whatever a step does, the life cycle moves by a legal change, and the least version does not fall. -/
theorem step_moves {s t : State} (stepped : step s = .next t) : s.lifeStep t ∧ s.mgmt.minVersion ≤ t.mgmt.minVersion := by
  rcases step_cases stepped with rfl | ⟨c, rest, -, ran⟩
  · exact ⟨Or.inl ⟨rfl, Or.inl rfl⟩, Nat.le_refl _⟩
  · obtain ⟨u, answers, moved⟩ := exec_moved c { s with pending := rest }
    rw [answers] at ran
    injection ran with same
    subst same
    exact ⟨moved.life, moved.version⟩

/-! The moves of Table SEC-5 (R596, R597) -/

/-- A legal step commits legal changes only: one that stood stands or is complete, one that is new is a move of the table. -/
theorem State.lifeLegal_of_lifeStep {s t : State} (legal : s.lifeLegal) (moves : s.lifeStep t) : t.lifeLegal := by
  intro x key pending
  rcases moves with ⟨stands, same | ⟨y, key', committed, leads⟩⟩ | ⟨complete, -⟩
  · rw [stands]
    exact legal x key (same ▸ pending)
  · rw [committed] at pending
    injection pending with pair
    injection pair with named _
    rw [stands, ← named]
    exact leads
  · rw [complete] at pending
    cases pending

/-- Where the life cycle does not stand, a legal step follows a move of the table. -/
theorem State.leads_of_lifeStep {s t : State} (legal : s.lifeLegal) (moves : s.lifeStep t) :
    t.mgmt.lifecycle = s.mgmt.lifecycle ∨ s.mgmt.lifecycle.leads t.mgmt.lifecycle = true := by
  rcases moves with ⟨stands, -⟩ | ⟨-, key, committed⟩
  · exact Or.inl stands
  · exact Or.inr (legal _ key committed)

theorem LifeCycle.not_leads_retired (x : LifeCycle) : LifeCycle.retired.leads x = false := by cases x <;> rfl
theorem LifeCycle.not_leads_maker (x : LifeCycle) : x.leads .maker = false := by cases x <;> rfl

/-- Settles O5: every step moves the life cycle legally, and a legal move leaves a legal change pending, or none. -/
theorem lifeCycleMovesLegally : Obligations.LifeCycleMovesLegally := by
  unfold Obligations.LifeCycleMovesLegally
  intro s t legal stepped
  have moves := (step_moves stepped).1
  exact ⟨moves, State.lifeLegal_of_lifeStep legal moves⟩

/-- Settles O6: after reset no change is pending. -/
theorem lifeLegalAtReset : Obligations.LifeLegalAtReset := by
  unfold Obligations.LifeLegalAtReset
  intro x key pending
  cases pending

/-- Settles O7: no move of the table leaves RETIRED, and none enters MAKER. -/
theorem retiredStaysRetired : Obligations.RetiredStaysRetired := by
  unfold Obligations.RetiredStaysRetired
  intro s t legal stepped
  rcases State.leads_of_lifeStep legal (step_moves stepped).1 with stands | leads
  · exact ⟨fun retired => stands.trans retired, fun maker => stands.symm.trans maker⟩
  · constructor
    · intro retired
      rw [retired, LifeCycle.not_leads_retired] at leads
      cases leads
    · intro maker
      rw [maker, LifeCycle.not_leads_maker] at leads
      cases leads

/-- Settles O8: no step lowers the least version. -/
theorem leastVersionNeverFalls : Obligations.LeastVersionNeverFalls := by
  unfold Obligations.LeastVersionNeverFalls
  exact fun s t stepped => (step_moves stepped).2

/-! The queue and the reset state -/

/-- Settles O1: the command in front runs with the rest waiting. -/
theorem frontCommandRuns : Obligations.FrontCommandRuns := by
  unfold Obligations.FrontCommandRuns
  exact step_cons

/-- Settles O2: a step with no command answers the state it is in. -/
theorem emptyQueueIdles : Obligations.EmptyQueueIdles := by
  unfold Obligations.EmptyQueueIdles
  exact fun s empty => step_nil empty

/-- Settles O3: the tables of the reset state are empty, so each entry reads as its default. -/
theorem resetLeaves : Obligations.ResetLeaves := by
  unfold Obligations.ResetLeaves
  exact ⟨fun _ _ _ => ⟨rfl, rfl⟩, fun _ => ⟨rfl, rfl, rfl⟩, fun _ => ⟨rfl, rfl, rfl⟩, fun _ _ => rfl, rfl, rfl, rfl, rfl, rfl, rfl, rfl, rfl⟩

end Sys2Proof.Machine
end

section
/-! The management server (family 13, messaging; the laws that the statements on commands of the dictionary share): an accepted write
or START takes effect on the recorded device, and what follows of the answer serves requests and the pair session alone. -/

namespace Sys2Proof.Machine

/-! What an answer moves (R565, R512) -/

/-- The controller but for what an answer moves: the sessions, the answers still owed, the messages that wait for the bus. -/
def Mgmt.besidesAnswer (m : Mgmt) : Mgmt := { m with sessions := [], owed := [], can := { m.can with txq := [] } }
/-- The pair but for what a mirrored write moves: the messages that wait for the link, the writes that wait, the keys left behind. -/
def Twin.besidesMirror (t : Twin) : Twin := { t with outbox := [], mirrors := [], behind := [] }

/-- `t` has answered where `s` took effect: sessions, what is owed and sent, the counters, packets built, the mailboxes and what a
mirrored write moves of the pair apart, it is the device `s`; and what `s` had sent is sent. -/
structure Served (s t : State) : Prop where
  same : ∃ m tw o c tt b h, t = s.afterAnswer m tw o c tt b h
  mgmt : t.mgmt.besidesAnswer = s.mgmt.besidesAnswer
  twin : t.twin.besidesMirror = s.twin.besidesMirror
  out  : ∃ more, t.out = more ++ s.out

section
variable {s t u : State}

theorem Served.refl (s : State) : Served s s := ⟨⟨_, _, _, _, _, _, _, s.afterAnswer_self⟩, rfl, rfl, [], rfl⟩

theorem Served.trans (h : Served s t) (next : Served t u) : Served s u := by
  obtain ⟨⟨m, tw, o, c, tt, b, ho, same⟩, mgmt, twin, more, out⟩ := h
  obtain ⟨⟨m', tw', o', c', tt', b', ho', same'⟩, mgmt', twin', more', out'⟩ := next
  refine ⟨⟨m', tw', o', c', tt', b', ho', ?_⟩, mgmt'.trans mgmt, twin'.trans twin, more' ++ more, ?_⟩
  · rw [same', same]
    rfl
  · rw [out', out, List.append_assoc]

/-- What was sent before the answer is sent after it. -/
theorem Served.mem_out (h : Served s t) {o : Out} (sent : o ∈ s.out) : o ∈ t.out := by
  obtain ⟨more, out⟩ := h.out
  rw [out]
  exact List.mem_append_right more sent

theorem Served.dict (h : Served s t) : t.dict = s.dict := by obtain ⟨m, tw, o, c, tt, b, ho, rfl⟩ := h.same; rfl
theorem Served.active (h : Served s t) : t.active = s.active := by obtain ⟨m, tw, o, c, tt, b, ho, rfl⟩ := h.same; rfl
theorem Served.faults (h : Served s t) : t.faults = s.faults := by obtain ⟨m, tw, o, c, tt, b, ho, rfl⟩ := h.same; rfl
theorem Served.wires (h : Served s t) : t.wires = s.wires := by obtain ⟨m, tw, o, c, tt, b, ho, rfl⟩ := h.same; rfl
theorem Served.ops (h : Served s t) : t.ops = s.ops := by obtain ⟨m, tw, o, c, tt, b, ho, rfl⟩ := h.same; rfl
theorem Served.trans_ (h : Served s t) : t.trans = s.trans := by obtain ⟨m, tw, o, c, tt, b, ho, rfl⟩ := h.same; rfl
theorem Served.colls (h : Served s t) : t.colls = s.colls := by obtain ⟨m, tw, o, c, tt, b, ho, rfl⟩ := h.same; rfl
theorem Served.service (h : Served s t) : t.service = s.service := by obtain ⟨m, tw, o, c, tt, b, ho, rfl⟩ := h.same; rfl
theorem Served.counting (h : Served s t) : t.counting = s.counting := by obtain ⟨m, tw, o, c, tt, b, ho, rfl⟩ := h.same; rfl
theorem Served.remote (h : Served s t) : t.remote = s.remote := by obtain ⟨m, tw, o, c, tt, b, ho, rfl⟩ := h.same; rfl
theorem Served.time (h : Served s t) : t.time = s.time := by obtain ⟨m, tw, o, c, tt, b, ho, rfl⟩ := h.same; rfl
theorem Served.timeQ (h : Served s t) : t.timeQ = s.timeQ := by obtain ⟨m, tw, o, c, tt, b, ho, rfl⟩ := h.same; rfl
theorem Served.adopted (h : Served s t) : t.adopted = s.adopted := by obtain ⟨m, tw, o, c, tt, b, ho, rfl⟩ := h.same; rfl
theorem Served.ownGone (h : Served s t) : t.ownGone = s.ownGone := by obtain ⟨m, tw, o, c, tt, b, ho, rfl⟩ := h.same; rfl
theorem Served.reg (h : Served s t) (r : Reg) (i e : Nat) : t.reg r i e = s.reg r i e := by simp only [State.reg, h.dict]
theorem Served.src (h : Served s t) (n : Nat) : t.src n = s.src n := by simp only [State.src, h.faults]
theorem Served.op (h : Served s t) (k p : Nat) : t.op k p = s.op k p := by simp only [State.op, h.ops]

end

/-! The answer -/

/-- A message leaves by its path, and what an answer may move follows. -/
theorem Served.sendFdp (s : State) (p : Path) (r : FdpResp) : Served s (s.sendFdp p r) ∧ Out.fdp p r ∈ (s.sendFdp p r).out := by
  have sent : Served s (s.emit (.fdp p r)) := ⟨⟨_, _, _, _, _, _, _, rfl⟩, rfl, rfl, [.fdp p r], rfl⟩
  have first : Out.fdp p r ∈ (s.emit (.fdp p r)).out := List.mem_cons_self
  suffices rest : Served (s.emit (.fdp p r)) (s.sendFdp p r) from ⟨sent.trans rest, rest.mem_out first⟩
  have signalled : ∀ (t : State) (f v sl key : Nat), Served t (t.msix f v sl key) := by
    intro t f v sl key
    obtain ⟨o, h, same⟩ := t.msix_after f v sl key
    refine ⟨⟨_, _, _, _, _, _, _, same⟩, by rw [same]; rfl, by rw [same]; rfl, ?_⟩
    unfold State.msix State.request State.wake State.exitL1
    dsimp only
    (repeat' split) <;> first
      | exact ⟨[], rfl⟩
      | exact ⟨[_], rfl⟩
  cases p with
  | can n => exact ⟨⟨_, _, _, _, _, _, _, rfl⟩, rfl, rfl, [], rfl⟩
  | inBand n st => exact ⟨⟨_, _, _, _, _, _, _, rfl⟩, rfl, rfl, [], rfl⟩
  | pair => exact .refl _
  | mailbox k l =>
    rw [State.sendFdp_mailbox]
    split
    · have there : ∀ h, Served (s.emit (.fdp (.mailbox k l) r)) ((s.emit (.fdp (.mailbox k l) r)).setHport k h) :=
        fun h => ⟨⟨_, _, _, _, _, _, _, rfl⟩, rfl, rfl, [], rfl⟩
      dsimp only
      split
      · exact (there _).trans (signalled ..)
      · exact there _
    · exact .refl _

/-- The answer to a request, which is among what has been sent. -/
theorem Served.answer (s : State) (q : Req) (obj sub : Nat) (f : Fdp) (body : List Byte) :
    Served s (s.answer q obj sub f body) ∧ Out.fdp q.path (s.respOf q obj sub f body) ∈ (s.answer q obj sub f body).out := by
  unfold State.answer
  dsimp only
  generalize kept : (if f = .busy ∨ f = .notAuthenticated ∨ f = .sequenceError then s
    else s.setSess q.session { s.sess q.session with last := q.seq, kept := some (s.respOf q obj sub f body), executing := false }) = t
  have there : Served s (t.countDev 9) := by
    rw [← kept]
    split <;> exact ⟨⟨_, _, _, _, _, _, _, rfl⟩, rfl, rfl, [], rfl⟩
  obtain ⟨sent, first⟩ := Served.sendFdp (t.countDev 9) q.path (s.respOf q obj sub f body)
  exact ⟨there.trans sent, first⟩

theorem Served.answerLater (s : State) (q : Req) (obj sub : Nat) : Served s (s.answerLater q obj sub) :=
  ⟨⟨_, _, _, _, _, _, _, rfl⟩, rfl, rfl, [], rfl⟩

theorem Served.pairSend (s : State) (m : PairMsg) : Served s (s.pairSend m) := by
  unfold State.pairSend
  split
  · exact ⟨⟨_, _, _, _, _, _, _, rfl⟩, rfl, rfl, [.pair m], rfl⟩
  · exact ⟨⟨_, _, _, _, _, _, _, rfl⟩, rfl, rfl, [], rfl⟩

theorem Served.leftBehind (s : State) (keys : List Nat) : Served s (s.leftBehind keys) := by
  have marked : Served s (s.updTwin (fun t => { t with behind := t.behind ++ (keys.filter (fun k => !t.behind.contains k)).eraseDups })) :=
    ⟨⟨_, _, _, _, _, _, _, rfl⟩, rfl, rfl, [], rfl⟩
  unfold State.leftBehind
  dsimp only
  split
  · exact marked.trans (.pairSend ..)
  · exact marked

theorem Served.noteChange (s : State) (device : Bool) (c : List Change) : Served s (s.noteChange device c) := by
  unfold State.noteChange
  split
  · exact .pairSend ..
  · exact .leftBehind ..

theorem Served.awaitMirror (s : State) (q : Req) (obj sub : Nat) (f : Fdp) (c : List Change) (x : Bool) :
    Served s (s.awaitMirror q obj sub f c x) := ⟨⟨_, _, _, _, _, _, _, rfl⟩, rfl, rfl, [], rfl⟩

/-- However an executed write is mirrored and answered, no more than that follows. -/
theorem Served.mirrored (s : State) (q : Req) (r : Reg) (i : Nat) (es : List Nat) (obj sub : Nat) (f : Option Fdp) :
    Served s (s.mirrored q r i es obj sub f) := by
  unfold State.mirrored
  dsimp only
  split
  · exact (Served.answer ..).1
  · exact .answerLater ..
  · split
    · exact (Served.answer ..).1
    · split
      · exact (Served.pairSend ..).trans (.awaitMirror ..)
      · exact (Served.leftBehind ..).trans (Served.answer ..).1
  · exact (Served.noteChange ..).trans (.answerLater ..)

/-- A write that no partner mirrors is answered at once, or its answer is owed. -/
theorem State.mirrored_unmirrored {s : State} {q : Req} {r : Reg} {i : Nat} (unmirrored : mirrorScope r i = none) (es : List Nat)
    (obj sub : Nat) (f : Fdp) : s.mirrored q r i es obj sub (some f) = s.answer q obj sub f := by
  unfold State.mirrored
  rw [unmirrored]

/-! Writes (R14, R556, R565) -/

/-- What refuses a write before its object's own rules lets an accepted one in, whose rights and life cycle its object allows. -/
theorem State.writeRefused_none {s : State} {q : Req} {role : Role} {r : Reg} {i e : Nat} {v : Image}
    {rule : Nat → Image → Image → WriteRule} (stores : s.mayStore q role r i e v = true)
    (unsurrendered : ((mirrorScope r i).isNone || s.twin.st != .surrendered) = true)
    (allowed : (rule e (s.reg r i e) v).deny role s = false) (living : (rule e (s.reg r i e) v).life s = false) :
    s.writeRefused q role r i rule [(e, v)] = none := by
  simp only [State.mayStore, Bool.and_eq_true, Bool.not_eq_true', decide_eq_true_eq] at stores
  obtain ⟨⟨⟨⟨⟨⟨there, rights⟩, life⟩, width⟩, reserved⟩, even⟩, entry⟩ := stores
  have may : r.writable i role ≠ 0 := fun none_ => by simp [Reg.denies, none_] at rights
  have there' : ¬(r.insts ≤ i ∧ (¬i = 48 ∨ r.twin = 0)) := by
    simp only [Bool.or_eq_true, decide_eq_true_eq, Bool.and_eq_true, beq_iff_eq, bne_iff_ne] at there
    omega
  have narrow : ¬ 2 ^ r.bits ≤ v.toNat := Nat.not_le.2 width
  have unsurrendered' : ¬((mirrorScope r i).isSome = true ∧ s.twin.st = .surrendered) := by
    rintro ⟨mirrored, surrendered⟩
    simp [surrendered, Option.isSome_iff_ne_none.1 mirrored] at unsurrendered
  split at entry
  · next plain =>
    simp only [Bool.and_eq_true, beq_iff_eq, decide_eq_true_eq] at entry
    obtain ⟨⟨first, one⟩, within⟩ := entry
    simp [State.writeRefused, rights, life, may, narrow, reserved, even, plain, first, one, Nat.not_le.2 within, allowed, living, there',
      unsurrendered']
  · next array =>
    rw [decide_eq_true_eq] at entry
    simp [State.writeRefused, rights, life, may, narrow, reserved, even, array, Nat.not_le.2 entry, allowed, living, there', unsurrendered']

/-- An accepted write comes to its object's own check, once its request is taken: the check refuses it, or it is recorded, takes effect
and is answered, by itself or at the partner. -/
theorem State.writeRun_judged {s : State} {q : Req} {role : Role} {r : Reg} {i e : Nat} {v : Image}
    (accepted : s.mayWrite q role r i e v = true) (rule : Nat → Image → Image → WriteRule)
    (allowed : ∀ b a, (rule e (s.reg r i e) v).deny role (s.taken b a s.mgmt.audit s.mgmt.auditNext s.mgmt.segFree) = false)
    (living : ∀ b a, (rule e (s.reg r i e) v).life (s.taken b a s.mgmt.audit s.mgmt.auditNext s.mgmt.segFree) = false) :
    ∃ b a, (∀ f, (∀ au an sf, (rule e (s.reg r i e) v).chk (s.taken b a au an sf) = some f) →
        s.writeRun q r i e [v] rule = (s.taken b a s.mgmt.audit s.mgmt.auditNext s.mgmt.segFree).answer q (r.index i)
          (r.sub + if r.entries = 0 then e else 0) f)
      ∧ ((∀ au an sf, (rule e (s.reg r i e) v).chk (s.taken b a au an sf) = none) → ∃ au an sf,
        s.writeRun q r i e [v] rule = ((rule e (s.reg r i e) v).eff ((s.taken b a au an sf).storeVal r i e v)).1.mirrored q r i [e]
          (r.index i) (r.sub + if r.entries = 0 then e else 0)
          ((rule e (s.reg r i e) v).eff ((s.taken b a au an sf).storeVal r i e v)).2) := by
  simp only [State.mayWrite, Bool.and_eq_true] at accepted
  obtain ⟨⟨⟨⟨door, stores⟩, room⟩, passes⟩, unsurrendered⟩ := accepted
  obtain ⟨b, a, served⟩ := State.serve_atDoor door
  refine ⟨b, a, ?_⟩
  have refused := State.writeRefused_none (s := s.taken b a s.mgmt.audit s.mgmt.auditNext s.mgmt.segFree) (rule := rule) stores
    unsurrendered (allowed b a) (living b a)
  have room' : (s.taken b a s.mgmt.audit s.mgmt.auditNext s.mgmt.segFree).roomFor q role r = true := room
  have recorded : (s.taken b a s.mgmt.audit s.mgmt.auditNext s.mgmt.segFree).auditRefuses role r = false := by
    simp only [State.roomFor, Bool.and_eq_true, Bool.not_eq_true'] at room
    exact room.1
  obtain ⟨au, an, sf, record⟩ := State.recordVal_room room' i e (auditValue r.bits [v]).1 (auditValue r.bits [v]).2
  have record' : (s.taken b a s.mgmt.audit s.mgmt.auditNext s.mgmt.segFree).recordWrite q role r i e [v] = .ok (s.taken b a au an sf) := record
  have kept : ¬(mirrorScope r i = some false ∧ (s.taken b a s.mgmt.audit s.mgmt.auditNext s.mgmt.segFree).passes = true
      ∧ q.path ≠ .pair) := by
    rintro ⟨pair, passed, -⟩
    have passed' : s.passes = true := passed
    simp [pair, passed'] at passes
  have refuses : ∀ au an sf f, (rule e (s.reg r i e) v).chk (s.taken b a au an sf) = some f →
      (s.taken b a au an sf).applyEntries r i rule [(e, v)] = (s.taken b a au an sf, [f], []) := by
    intro au an sf f bad
    have bad' : (rule e ((s.taken b a au an sf).reg r i e) v).chk (s.taken b a au an sf) = some f := bad
    simp only [State.applyEntries, bad']
  have applies : ∀ au an sf, (rule e (s.reg r i e) v).chk (s.taken b a au an sf) = none →
      (s.taken b a au an sf).applyEntries r i rule [(e, v)]
        = (((rule e (s.reg r i e) v).eff ((s.taken b a au an sf).storeVal r i e v)).1, [],
          [((rule e (s.reg r i e) v).eff ((s.taken b a au an sf).storeVal r i e v)).2]) := by
    intro au an sf good
    have good' : (rule e ((s.taken b a au an sf).reg r i e) v).chk (s.taken b a au an sf) = none := good
    simp only [State.applyEntries, good']
    rfl
  have answers : ∀ f : Option Fdp, allAnswers [f] = f := by
    intro f
    cases f with
    | none => rfl
    | some f => cases f <;> rfl
  unfold State.writeRun
  dsimp only
  rw [served]
  simp only [List.zipIdx_cons, List.zipIdx_nil, List.map_cons, List.map_nil, refused, if_neg kept, recorded, Bool.false_eq_true, if_false,
    List.append_nil]
  constructor
  · intro f bad
    simp only [refuses _ _ _ f (bad _ _ _), firstRefusal]
  · intro good
    refine ⟨au, an, sf, ?_⟩
    simp only [applies _ _ _ (good _ _ _), firstRefusal, record', answers]

theorem State.storeVal_unstored {r : Reg} (unstored : r.wo = r.rw) (s : State) (i e : Nat) (v : Image) : s.storeVal r i e v = s :=
  if_pos unstored

theorem State.storeVal_stored {r : Reg} (stored : r.wo ≠ r.rw) (s : State) (i e : Nat) (v : Image) :
    s.storeVal r i e v = s.setReg r i e (r.merge (s.reg r i e) v) := if_neg stored

/-- A write that the server and its object accept takes effect on the recorded device, and is served; where no partner mirrors it and its
answer is not owed, the answer is sent. -/
theorem State.writeRun_done {s : State} {q : Req} {role : Role} {r : Reg} {i e : Nat} {v : Image}
    (accepted : s.mayWrite q role r i e v = true) (rule : Nat → Image → Image → WriteRule)
    (allowed : ∀ b a, (rule e (s.reg r i e) v).deny role (s.taken b a s.mgmt.audit s.mgmt.auditNext s.mgmt.segFree) = false)
    (living : ∀ b a, (rule e (s.reg r i e) v).life (s.taken b a s.mgmt.audit s.mgmt.auditNext s.mgmt.segFree) = false)
    (passes : ∀ b a au an sf, (rule e (s.reg r i e) v).chk (s.taken b a au an sf) = none) :
    ∃ b a au an sf, Served ((rule e (s.reg r i e) v).eff ((s.taken b a au an sf).storeVal r i e v)).1 (s.writeRun q r i e [v] rule)
      ∧ ∀ f, mirrorScope r i = none → ((rule e (s.reg r i e) v).eff ((s.taken b a au an sf).storeVal r i e v)).2 = some f →
        ∃ y, Out.fdp q.path y ∈ (s.writeRun q r i e [v] rule).out ∧ y.status = f := by
  obtain ⟨b, a, -, done⟩ := State.writeRun_judged accepted rule allowed living
  obtain ⟨au, an, sf, written⟩ := done (passes b a)
  refine ⟨b, a, au, an, sf, ?_, ?_⟩
  · rw [written]
    exact Served.mirrored ..
  · intro f unmirrored answers
    rw [written, answers, State.mirrored_unmirrored unmirrored]
    exact ⟨_, (Served.answer ..).2, rfl⟩

/-- The same for a write of one value that has a row of its own. -/
theorem State.dictRunR_done {s : State} {q : Req} {role : Role} {r : Reg} {i e : Nat} {v : Image}
    (accepted : s.mayWrite q role r i e v = true) (deny : Role → State → Bool) (chk : State → Option Fdp)
    (eff : State → State × Option Fdp) (life : State → Bool)
    (allowed : ∀ b a, deny role (s.taken b a s.mgmt.audit s.mgmt.auditNext s.mgmt.segFree) = false)
    (living : ∀ b a, life (s.taken b a s.mgmt.audit s.mgmt.auditNext s.mgmt.segFree) = false)
    (passes : ∀ b a au an sf, chk (s.taken b a au an sf) = none) :
    ∃ b a au an sf, Served (eff ((s.taken b a au an sf).storeVal r i e v)).1 (s.dictRunR q r i e v deny chk eff life)
      ∧ ∀ f, mirrorScope r i = none → (eff ((s.taken b a au an sf).storeVal r i e v)).2 = some f →
        ∃ y, Out.fdp q.path y ∈ (s.dictRunR q r i e v deny chk eff life).out ∧ y.status = f :=
  State.writeRun_done accepted (fun _ _ _ => { deny := deny, life := life, chk := chk, eff := eff }) allowed living passes

/-- The same for a write whose right depends on the role alone, answered at once. -/
theorem State.dictWrite_done {s : State} {q : Req} {role : Role} {r : Reg} {i e : Nat} {v : Image}
    (accepted : s.mayWrite q role r i e v = true) (chk : State → Option Fdp) (eff : State → State × Fdp)
    (passes : ∀ b a au an sf, chk (s.taken b a au an sf) = none) :
    ∃ b a au an sf, Served (eff ((s.taken b a au an sf).storeVal r i e v)).1 (s.dictWrite q r i e v chk eff)
      ∧ (mirrorScope r i = none → ∃ y, Out.fdp q.path y ∈ (s.dictWrite q r i e v chk eff).out
        ∧ y.status = (eff ((s.taken b a au an sf).storeVal r i e v)).2) := by
  obtain ⟨b, a, au, an, sf, served, answered⟩ := State.dictRunR_done accepted (fun _ _ => false) chk
    (fun s => let (s, f) := eff s; (s, some f)) (fun _ => false) (fun _ _ => rfl) (fun _ _ => rfl) passes
  exact ⟨b, a, au, an, sf, served, fun unmirrored => answered _ unmirrored rfl⟩

/-- A write that its object's check refuses is answered with the refusal, and nothing of it takes effect. -/
theorem State.dictWrite_refused {s : State} {q : Req} {role : Role} {r : Reg} {i e : Nat} {v : Image}
    (accepted : s.mayWrite q role r i e v = true) (chk : State → Option Fdp) (eff : State → State × Fdp) {f : Fdp}
    (refuses : ∀ b a au an sf, chk (s.taken b a au an sf) = some f) :
    ∃ b a, Served (s.taken b a s.mgmt.audit s.mgmt.auditNext s.mgmt.segFree) (s.dictWrite q r i e v chk eff)
      ∧ ∃ y, Out.fdp q.path y ∈ (s.dictWrite q r i e v chk eff).out ∧ y.status = f := by
  obtain ⟨b, a, refused, -⟩ := State.writeRun_judged accepted (fun _ _ _ => { chk := chk, eff := fun s => let (s, f) := eff s; (s, some f) })
    (fun _ _ => rfl) (fun _ _ => rfl)
  have written : s.dictWrite q r i e v chk eff = _ := refused f (refuses b a)
  rw [written]
  exact ⟨b, a, (Served.answer ..).1, _, (Served.answer ..).2, rfl⟩

/-- An object beside CONFIG takes no segment of the caddy. -/
theorem State.recordVal_segFree {s u : State} {q : Req} {role : Role} {r : Reg} {i e : Nat} {val : BitVec 64} {hashed : Bool}
    (beside : r.inConfig = false) (recorded : s.recordVal q role r i e val hashed = .ok u) : u.mgmt.segFree = s.mgmt.segFree := by
  have caddy : (s.caddyWrite q r.inConfig).2 = true → (s.caddyWrite q r.inConfig).1 = s := by
    unfold State.caddyWrite
    rw [beside]
    cases q.caddyOk <;> simp
  unfold State.recordVal at recorded
  dsimp only at recorded
  generalize s.caddyWrite q r.inConfig = c at caddy recorded
  obtain ⟨t, ok⟩ := c
  split at recorded
  · cases recorded
  · split at recorded
    · cases ok with
      | false => cases recorded
      | true =>
        obtain rfl : t = s := caddy rfl
        simp only [Bool.not_true, Bool.false_eq_true, if_false] at recorded
        split at recorded <;> cases recorded <;> rfl
    · simp only [Bool.not_true, Bool.false_eq_true, if_false] at recorded
      split at recorded <;> cases recorded <;> rfl

/-- A START that the server and the operation accept, of an operation that installs no mirrored values: the record, the operation
RUNNING, its effect, the answer. -/
theorem State.opStart_runs {s : State} {q : Req} {role : Role} {r : Reg} {v : Image} {k p : Nat} (i : Nat)
    (accepted : s.mayOperate q role r v k p = true) (everyInstance : r.denies i role 0 v = r.denies 0 role 0 v)
    (range busy : State → Bool) (eff : State → State × Fdp)
    (inRange : ∀ b a, range (s.taken b a s.mgmt.audit s.mgmt.auditNext s.mgmt.segFree) = false)
    (idle : ∀ b a, busy (s.taken b a s.mgmt.audit s.mgmt.auditNext s.mgmt.segFree) = false) :
    ∃ b a au an sf, (r.inConfig = false → sf = s.mgmt.segFree) ∧ s.opStart q r i v k p range busy eff
      = (eff ((s.taken b a au an sf).opSet k p 2)).1.answer q (r.index i) r.sub (eff ((s.taken b a au an sf).opSet k p 2)).2 := by
  simp only [State.mayOperate, Bool.and_eq_true, bne_iff_ne, ne_eq, Bool.not_eq_true', beq_iff_eq, decide_eq_true_eq,
    Option.isNone_iff_eq_none] at accepted
  obtain ⟨⟨⟨⟨⟨⟨⟨⟨⟨⟨door, rights⟩, life⟩, width⟩, reserved⟩, even⟩, first⟩, one⟩, free⟩, room⟩, -⟩ := accepted
  obtain ⟨b, a, served⟩ := State.serve_atDoor door
  have room' : (s.taken b a s.mgmt.audit s.mgmt.auditNext s.mgmt.segFree).roomFor q role r = true := room
  have recorded : (s.taken b a s.mgmt.audit s.mgmt.auditNext s.mgmt.segFree).auditRefuses role r = false := by
    simp only [State.roomFor, Bool.and_eq_true, Bool.not_eq_true'] at room
    exact room.1
  obtain ⟨au, an, sf, record⟩ := State.recordVal_room room' i 0 (auditValue r.bits [v]).1 (auditValue r.bits [v]).2
  have record' : (s.taken b a s.mgmt.audit s.mgmt.auditNext s.mgmt.segFree).recordWrite q role r i 0 [v] = .ok (s.taken b a au an sf) := record
  have life' : (s.taken b a s.mgmt.audit s.mgmt.auditNext s.mgmt.segFree).lifeForbids role = false := life
  have free' : (s.taken b a s.mgmt.audit s.mgmt.auditNext s.mgmt.segFree).opBlocked k p = none := free
  refine ⟨b, a, au, an, sf, fun beside => State.recordVal_segFree beside record, ?_⟩
  unfold State.opStart
  dsimp only
  rw [served]
  simp only [everyInstance, rights, life', Nat.not_le.2 width, even, first, one, reserved, inRange, free', recorded, idle, record',
    Option.isSome_none, Bool.false_eq_true, if_false, ne_eq, not_true_eq_false, or_self, false_and]

end Sys2Proof.Machine
end

section
/-! What the device's units leave of its controller (family 17, twin pairs, and 18, faults): the halts, resets and isolations that a
surrender or a fault brings about move links, queues, operations and host functions, and neither the collectors, nor the pair, nor the
controller.  One lemma for each operation, by the operations it calls. -/

namespace Sys2Proof.Machine

/-- The pair but for what packets and mirrored values move: `besidesMirror`, and the routes and keys that lookups have read. -/
def Twin.course (t : Twin) : Twin := { t.besidesMirror with routeRefs := [], keyRefs := [] }

/-- The controller, its sessions apart, with service mode, the pair, the collectors, time and reset. -/
structure Control where
  straps : Straps
  uptime : Nat
  rolesOn : Bool
  mgmt : Mgmt
  timeQ : Nat
  bypassIn : List (Nat × BypassMsg × Nat)
  service : Service
  ownGone : Bool
  adopted : Option Node
  faults : Collectors
  twin : Twin
  time : TimeUnit
  power : Power
  boot : Boot
  holds : List Nat
  lastReset : Nat
  resets : Nat

def State.control (s : State) : Control :=
  ⟨s.straps, s.uptime, s.rolesOn, s.mgmt.besidesAnswer, s.timeQ, s.bypassIn, s.service, s.ownGone, s.adopted,
    s.faults, s.twin.course, s.time, s.power, s.boot, s.holds, s.lastReset, s.resets⟩

/-- The controller but for service mode and the memory links that an isolate action holds. -/
def Control.steady (c : Control) : Control := { c with service := {}, faults := { c.faults with mems := [] } }

@[simp] theorem State.control_fold (s : State) :
    Control.mk s.straps s.uptime s.rolesOn s.mgmt.besidesAnswer s.timeQ s.bypassIn s.service s.ownGone s.adopted
      s.faults s.twin.course s.time s.power s.boot s.holds s.lastReset s.resets = s.control := rfl

@[simp] theorem State.control_mk
    pending out draws uptime straps dict active counters totals wires lanes streams links inputs outputs inBuckets
    injBuckets injLevel rolesOn isolated mgmt ops timeQ bypassIn built rings hosts counting trans remote colls service
    arrived ownGone adopted faults twin clock power boot holds lastReset resets tap :
    (State.mk
      pending out draws uptime straps dict active counters totals wires lanes streams links inputs outputs inBuckets
      injBuckets injLevel rolesOn isolated mgmt ops timeQ bypassIn built rings hosts counting trans remote colls service
      arrived ownGone adopted faults twin clock power boot holds lastReset resets tap).control
      = ⟨straps, uptime, rolesOn, mgmt.besidesAnswer, timeQ, bypassIn, service, ownGone, adopted, faults, twin.course,
          clock, power, boot, holds, lastReset, resets⟩ := rfl

@[simp] theorem State.control_ite (c : Prop) [Decidable c] (a b : State) :
    (if c then a else b).control = if c then a.control else b.control := by
  split <;> rfl

@[simp] theorem State.control_fst_ite {γ : Type} (c : Prop) [Decidable c] (a b : State × γ) :
    (if c then a else b).1.control = if c then a.1.control else b.1.control := by
  split <;> rfl

@[simp] theorem foldl_control {β : Type} {f : State → β → State} (h : ∀ s b, (f s b).control = s.control) (l : List β) (s : State) :
    (l.foldl f s).control = s.control := by
  induction l generalizing s with
  | nil => rfl
  | cons b l ih => rw [List.foldl_cons, ih, h]

@[simp] theorem State.updMgmt_control (s : State) (f : Mgmt → Mgmt) (h : (f s.mgmt).besidesAnswer = s.mgmt.besidesAnswer) :
    (s.updMgmt f).control = s.control := by
  unfold State.updMgmt
  rw [State.control_mk, h]
  rfl

@[simp] theorem State.updTwin_control (s : State) (f : Twin → Twin) (h : (f s.twin).course = s.twin.course) :
    (s.updTwin f).control = s.control := by
  unfold State.updTwin
  rw [State.control_mk, h]
  rfl

@[simp] theorem State.setReg_control (s : State) (r : Reg) (i e : Nat) (v : Image) : (s.setReg r i e v).control = s.control := rfl
@[simp] theorem State.commit_control (s : State) (r : Reg) (i e : Nat) : (s.commit r i e).control = s.control := rfl
@[simp] theorem State.opSet_control (s : State) (k p st : Nat) : (s.opSet k p st).control = s.control := rfl
@[simp] theorem State.opEnd_control (s : State) (k p f : Nat) : (s.opEnd k p f).control = s.control := by
  unfold State.opEnd
  split <;> rfl

@[simp] theorem State.setSess_control (s : State) (n : Nat) (x : Session) : (s.setSess n x).control = s.control := rfl
@[simp] theorem State.noteRoute_control (s : State) (l : List Nat) : (s.noteRoute l).control = s.control := rfl

/-- What follows of an answer leaves the controller. -/
theorem Served.control {s t : State} (h : Served s t) : t.control = s.control := by
  have course : t.twin.course = s.twin.course := congrArg (fun t : Twin => { t with routeRefs := [], keyRefs := [] }) h.twin
  obtain ⟨⟨m, tw, o, c, tt, b, ho, rfl⟩, mgmt, -, -⟩ := h
  unfold State.control
  rw [mgmt, course]
  rfl

@[simp] theorem State.answer_control (s : State) (q : Req) (obj sub : Nat) (f : Fdp) (body : List Byte) :
    (s.answer q obj sub f body).control = s.control := (Served.answer ..).1.control
@[simp] theorem State.pairSend_control (s : State) (m : PairMsg) : (s.pairSend m).control = s.control := (Served.pairSend ..).control
@[simp] theorem State.noteChange_control (s : State) (d : Bool) (c : List Change) : (s.noteChange d c).control = s.control :=
  (Served.noteChange ..).control

@[simp] theorem State.answerOwed_control (s : State) (obj sub : Nat) (f : Fdp) : (s.answerOwed obj sub f).control = s.control := by
  unfold State.answerOwed
  split
  · rfl
  · dsimp only
    split <;> exact (State.answer_control ..).trans rfl

@[simp] theorem State.setPool_control (s : State) (n : Nat) (v : Image) : (s.setPool n v).control = s.control :=
  State.noteChange_control ..
@[simp] theorem State.setRegion_control (s : State) (n : Nat) (v : Image) : (s.setRegion n v).control = s.control :=
  State.noteChange_control ..

@[simp] theorem State.count_control (s : State) (n : Nat) (k : Nat) : (State.count s n k).control = s.control := by
  simp [State.count]

@[simp] theorem State.countPort_control (s : State) (p : Nat) (e : Nat) (k : Nat) : (State.countPort s p e k).control = s.control := by
  simp [State.countPort]

@[simp] theorem State.countIn_control (s : State) (i : Nat) (e : Nat) (k : Nat) : (State.countIn s i e k).control = s.control := by
  simp [State.countIn]

@[simp] theorem State.countOut_control (s : State) (o : Nat) (e : Nat) (k : Nat) : (State.countOut s o e k).control = s.control := by
  simp [State.countOut]

@[simp] theorem State.countRing_control (s : State) (st : Nat) (e : Nat) (k : Nat) : (State.countRing s st e k).control = s.control := by
  simp [State.countRing]

@[simp] theorem State.countHost_control (s : State) (h : Nat) (e : Nat) (k : Nat) : (State.countHost s h e k).control = s.control := by
  simp [State.countHost]

@[simp] theorem State.countSlice_control (s : State) (sl : Nat) (e : Nat) (k : Nat) : (State.countSlice s sl e k).control = s.control := by
  simp [State.countSlice]

@[simp] theorem State.countDev_control (s : State) (e : Nat) (k : Nat) : (State.countDev s e k).control = s.control := by
  simp [State.countDev]

@[simp] theorem State.raise_control (s : State) (src : Nat) : (State.raise s src).control = s.control := by
  simp [State.raise]

@[simp] theorem State.trackEntry_control (s : State) (n : Nat) (pos : Nat) (f : Track → Track) : (State.trackEntry s n pos f).control = s.control := by
  simp [State.trackEntry]

@[simp] theorem State.emit_control (s : State) (o : Out) : (State.emit s o).control = s.control := by
  simp [State.emit]

@[simp] theorem State.drawn_control (s : State) : (State.drawn s).control = s.control := by
  simp [State.drawn]

@[simp] theorem State.build_control (s : State) (stop : Nat) (h : Header) (payload : List Byte) :
    (State.build s stop h payload).control = s.control := by
  simp [State.build]

@[simp] theorem State.setLane_control (s : State) (p : Nat) (l : Lane) : (State.setLane s p l).control = s.control := by
  simp [State.setLane]

@[simp] theorem State.updLane_control (s : State) (p : Nat) (f : Lane → Lane) : (State.updLane s p f).control = s.control := by
  simp [State.updLane]

@[simp] theorem State.setLink_control (s : State) (p : Nat) (l : Link) : (State.setLink s p l).control = s.control := by
  simp [State.setLink]

@[simp] theorem State.updLink_control (s : State) (p : Nat) (f : Link → Link) : (State.updLink s p f).control = s.control := by
  simp [State.updLink]

@[simp] theorem State.setInput_control (s : State) (i : Nat) (b : InBuf) : (State.setInput s i b).control = s.control := by
  simp [State.setInput]

@[simp] theorem State.updInput_control (s : State) (i : Nat) (f : InBuf → InBuf) : (State.updInput s i f).control = s.control := by
  simp [State.updInput]

@[simp] theorem State.setOutput_control (s : State) (o : Nat) (x : Output) : (State.setOutput s o x).control = s.control := by
  simp [State.setOutput]

@[simp] theorem State.updOutput_control (s : State) (o : Nat) (f : Output → Output) : (State.updOutput s o f).control = s.control := by
  simp [State.updOutput]

@[simp] theorem State.setHport_control (s : State) (k : Nat) (h : HPort) : (State.setHport s k h).control = s.control := by
  simp [State.setHport]

@[simp] theorem State.updHost_control (s : State) (f : HostSide → HostSide) : (State.updHost s f).control = s.control := by
  simp [State.updHost]

@[simp] theorem State.setFunc_control (s : State) (f : Nat) (x : Func) : (State.setFunc s f x).control = s.control := by
  simp [State.setFunc]

@[simp] theorem State.updFunc_control (s : State) (f : Nat) (g : Func → Func) : (State.updFunc s f g).control = s.control := by
  simp [State.updFunc]

@[simp] theorem State.setSlice_control (s : State) (n : Nat) (x : Slice) : (State.setSlice s n x).control = s.control := by
  simp [State.setSlice]

@[simp] theorem State.updSlice_control (s : State) (n : Nat) (f : Slice → Slice) : (State.updSlice s n f).control = s.control := by
  simp [State.updSlice]

@[simp] theorem State.updHlink_control (s : State) (k : Nat) (l : Nat) (f : HLink → HLink) : (State.updHlink s k l f).control = s.control := by
  simp [State.updHlink]

@[simp] theorem State.exitL1_control (s : State) (k : Nat) (l : Nat) : (State.exitL1 s k l).control = s.control := by
  simp [State.exitL1]

@[simp] theorem State.wake_control (s : State) (f : Nat) : (State.wake s f).control = s.control := by
  unfold State.wake; simp

@[simp] theorem State.request_control (s : State) (b : Burst) : (State.request s b).control = s.control := by
  simp [State.request]

@[simp] theorem State.msix_control (s : State) (f : Nat) (v : Nat) (sl : Nat) (key : Nat) : (State.msix s f v sl key).control = s.control := by
  unfold State.msix; simp

@[simp] theorem State.creditBackOf_control (s : State) (x : Nat) (vc : Nat) (more : Nat) : (State.creditBackOf s x vc more).control = s.control := by
  unfold State.creditBackOf; split <;> simp

@[simp] theorem State.creditsBack_control (s : State) (x : Nat) (vc : Nat) (y3 : Nat) : (State.creditsBack s x vc y3).control = s.control := by
  fun_induction State.creditsBack s x vc y3 <;> simp_all [-State.creditsBack_control]

@[simp] theorem State.enqueue_control (s : State) (x : Nat) (k : VPkt) : (State.enqueue s x k).1.control = s.control := by
  simp [State.enqueue]

@[simp] theorem State.settleDeficit_control (s : State) (o : Nat) (c : Nat) : (State.settleDeficit s o c).control = s.control := by
  unfold State.settleDeficit; split <;> simp

@[simp] theorem State.settleDeficits_control (s : State) (o : Nat) : (State.settleDeficits s o).control = s.control := by
  simp [State.settleDeficits]

@[simp] theorem State.abortPkt_control (s : State) (x : Nat) (stamp : Nat) (reason : Nat) : (State.abortPkt s x stamp reason).control = s.control := by
  unfold State.abortPkt; simp; (repeat' split) <;> simp

@[simp] theorem State.abortOpen_control (s : State) (p : Nat) (vc : Nat) (reason : Nat) : (State.abortOpen s p vc reason).control = s.control := by
  unfold State.abortOpen; split <;> simp

@[simp] theorem State.settlePause_control (s : State) (p : Nat) : (State.settlePause s p).control = s.control := by
  simp [State.settlePause]

@[simp] theorem State.hostWriteN_control (s : State) (b : Burst) (y2 : Nat) (y3 : List Byte) : (State.hostWriteN s b y2 y3).control = s.control := by
  fun_induction State.hostWriteN s b y2 y3 <;> simp_all

@[simp] theorem State.hostWrite_control (s : State) (b : Burst) (data : List Byte) : (State.hostWrite s b data).control = s.control := by
  simp [State.hostWrite]

@[simp] theorem State.ringWrite_control (s : State) (kind : Nat) (n : Nat) (f : Nat) (sl : Nat) (addr : Nat) (key : Nat) (data : List Byte) :
    (State.ringWrite s kind n f sl addr key data).control = s.control := by
  simp [State.ringWrite]

@[simp] theorem State.hostReadN_control (s : State) (b : Burst) (y2 : Nat) (y3 : Nat) (y4 : Nat) :
    (State.hostReadN s b y2 y3 y4).1.control = s.control := by
  induction y2 generalizing s b y3 y4 with
  | zero => rfl
  | succ n ih => unfold State.hostReadN; split <;> simp [ih]

@[simp] theorem State.readSpans_control (s : State) (b : Burst) (y2 : Spans) (y3 : Nat) : (State.readSpans s b y2 y3).1.control = s.control := by
  fun_induction State.readSpans s b y2 y3 <;> simp_all [eq_pair_iff]

@[simp] theorem State.setCredit_control (s : State) (inst : Nat) (sl : Nat) (c : Int) : (State.setCredit s inst sl c).control = s.control := by
  simp [State.setCredit]

@[simp] theorem State.forgetPlaced_control (s : State) (key : Nat) (link : Option Nat) : (State.forgetPlaced s key link).control = s.control := by
  simp [State.forgetPlaced]

@[simp] theorem State.dropBurst_control (s : State) (id : Nat) : (State.dropBurst s id).control = s.control := by
  simp [State.dropBurst]

@[simp] theorem State.moved_control (s : State) (inst : Nat) (n : Nat) : (State.moved s inst n).control = s.control := by
  simp [State.moved]

@[simp] theorem State.putWq_control (s : State) (n : Nat) (w : Wq) : (State.putWq s n w).control = s.control := by
  simp [State.putWq]

@[simp] theorem State.putCq_control (s : State) (n : Nat) (c : Cq) : (State.putCq s n c).control = s.control := by
  simp [State.putCq]

@[simp] theorem State.putEq_control (s : State) (n : Nat) (e : Eq) : (State.putEq s n e).control = s.control := by
  simp [State.putEq]

@[simp] theorem State.useContext_control (s : State) (k : Nat) : (State.useContext s k).control = s.control := by
  unfold State.useContext; dsimp only; (repeat' split) <;> simp

@[simp] theorem State.loadContext_control (s : State) (k : Nat) : (State.loadContext s k).control = s.control := by
  simp [State.loadContext]

@[simp] theorem State.writeEvent_control (s : State) (n : Nat) (type : Nat) (source : Nat) (detail : Nat) (key : Nat) :
    (State.writeEvent s n type source detail key).control = s.control := by
  unfold State.writeEvent; split <;> simp

@[simp] theorem State.fireEq_control (s : State) (n : Nat) (key : Nat) : (State.fireEq s n key).control = s.control := by
  unfold State.fireEq; repeat (split <;> simp)

@[simp] theorem State.overrunEvent_control (s : State) (n : Nat) : (State.overrunEvent s n).control = s.control := by
  unfold State.overrunEvent; repeat (split <;> simp)

@[simp] theorem State.event_control (s : State) (n : Nat) (type : Nat) (source : Nat) (detail : Nat) (key : Nat) :
    (State.event s n type source detail key).control = s.control := by
  unfold State.event; simp; (repeat' split) <;> simp

@[simp] theorem State.sliceEvent_control (s : State) (sl : Nat) (type : Nat) (source : Nat) (detail : Nat) :
    (State.sliceEvent s sl type source detail).control = s.control := by
  unfold State.sliceEvent; split <;> simp

@[simp] theorem State.sampled_control (s : State) (n : Nat) (sl : Nat) (e : WqEntry) (status : Nat) (count : Nat) :
    (State.sampled s n sl e status count).control = s.control := by
  unfold State.sampled; split <;> simp

@[simp] theorem State.fireCq_control (s : State) (n : Nat) (key : Nat) : (State.fireCq s n key).control = s.control := by
  unfold State.fireCq; (repeat' split) <;> simp

@[simp] theorem State.queueErrorEvent_control (s : State) (sl : Nat) (kind : Nat) (n : Nat) (cause : Nat) :
    (State.queueErrorEvent s sl kind n cause).control = s.control := by
  simp [State.queueErrorEvent]

@[simp] theorem State.dropItems_control (s : State) (n : Nat) : (State.dropItems s n).control = s.control := by
  simp [State.dropItems]

@[simp] theorem State.wqErrorSilent_control (s : State) (n : Nat) (cause : Nat) : (State.wqErrorSilent s n cause).control = s.control := by
  unfold State.wqErrorSilent; repeat (split <;> simp)

@[simp] theorem State.cqError_control (s : State) (n : Nat) (cause : Nat) : (State.cqError s n cause).control = s.control := by
  unfold State.cqError; repeat' split
  all_goals simp [*]

@[simp] theorem State.writeCompletion_control (s : State) (n : Nat) (c : Completion) (key : Nat) :
    (State.writeCompletion s n c key).control = s.control := by
  unfold State.writeCompletion; repeat' split
  all_goals simp [*]

@[simp] theorem State.countComp_control (s : State) (sl : Nat) (c : Comp) : (State.countComp s sl c).control = s.control := by
  unfold State.countComp; repeat' split
  all_goals simp [*]

@[simp] theorem State.dropItemOf_control (s : State) (n : Nat) (pos : Nat) : (State.dropItemOf s n pos).control = s.control := by
  simp [State.dropItemOf]

@[simp] theorem State.finish_control (s : State) (n : Nat) (pos : Nat) (st : Comp) (count : Nat) (detail : Nat) (specific : Nat) (solicited : Bool) :
    (State.finish s n pos st count detail specific solicited).control = s.control := by
  unfold State.finish; (repeat' split) <;> simp

@[simp] theorem State.wqError_control (s : State) (n : Nat) (cause : Nat) : (State.wqError s n cause).control = s.control := by
  unfold State.wqError; repeat (split <;> simp)

@[simp] theorem State.eqError_control (s : State) (n : Nat) (cause : Nat) : (State.eqError s n cause).control = s.control := by
  unfold State.eqError; repeat (split <;> simp)

@[simp] theorem State.emitCell_control (s : State) (p : Nat) (c : LinkCell) : (State.emitCell s p c).control = s.control := by
  simp [State.emitCell]

@[simp] theorem State.sendCell_control (s : State) (p : Nat) (lseq : BitVec 12) (ty : CellType) (vc : Nat) (body : BitVec 1024) :
    (State.sendCell s p lseq ty vc body).control = s.control := by
  simp [State.sendCell]

@[simp] theorem State.sendCtl_control (s : State) (p : Nat) (m : CtlMsg) : (State.sendCtl s p m).control = s.control := by
  simp [State.sendCtl]

@[simp] theorem State.queueCtl_control (s : State) (p : Nat) (m : CtlMsg) : (State.queueCtl s p m).control = s.control := by
  simp [State.queueCtl]

@[simp] theorem State.countAbort_control (s : State) (p : Nat) (reason : Nat) : (State.countAbort s p reason).control = s.control := by
  simp [State.countAbort]

@[simp] theorem State.abortCounted_control (s : State) (p : Nat) (v : Nat) (reason : Nat) : (State.abortCounted s p v reason).control = s.control := by
  unfold State.abortCounted; split <;> simp

@[simp] theorem State.voidBegun_control (s : State) (p : Nat) (pid : Nat) : (State.voidBegun s p pid).control = s.control := by
  simp [State.voidBegun]

@[simp] theorem State.redirect_control (s : State) (x : Nat) (st : Nat) (dst : RxOpen) : (State.redirect s x st dst).control = s.control := by
  unfold State.redirect; split <;> simp

@[simp] theorem State.rerouteBegun_control (s : State) (p : Nat) (a : Nat) (pid : Nat) : (State.rerouteBegun s p a pid).control = s.control := by
  simp [State.rerouteBegun]; repeat (split <;> simp [*])

@[simp] theorem State.rerouteControl_control (s : State) (p : Nat) (begun : Bool) : (State.rerouteControl s p begun).control = s.control := by
  unfold State.rerouteControl; (repeat' split) <;> simp

@[simp] theorem State.setPortEv_control (s : State) (l : List (Nat × Nat × Nat × Nat)) : (State.setPortEv s l).control = s.control := by
  simp [State.setPortEv]

@[simp] theorem State.portState_control (s : State) (p : Nat) (was : LinkSt) : (State.portState s p was).control = s.control := by
  unfold State.portState; dsimp only; (repeat' split) <;> (try rw [foldl_control]) <;> intros <;> (repeat' split) <;> simp_all

@[simp] theorem State.declareDown_control (s : State) (p : Nat) (cause : Nat) (next : LaneSt) :
    (State.declareDown s p cause next).control = s.control := by
  unfold State.declareDown; (repeat' split) <;> simp

@[simp] theorem State.wiringState_control (s : State) (p : Nat) (ok : Bool) (wasFault : Bool) :
    (State.wiringState s p ok wasFault).control = s.control := by
  simp [State.wiringState]

@[simp] theorem State.applyWiring_control (s : State) (p : Nat) (ok : Bool) (wasFault : Bool) :
    (State.applyWiring s p ok wasFault).control = s.control := by
  simp [State.applyWiring]

@[simp] theorem State.settleWiring_control (s : State) (p : Nat) (wasFault : Bool) : (State.settleWiring s p wasFault).control = s.control := by
  simp [State.settleWiring]

@[simp] theorem State.updEngines_control (s : State) (f : Engines → Engines) : (State.updEngines s f).control = s.control := by
  simp [State.updEngines]

@[simp] theorem State.updItem_control (s : State) (id : Nat) (f : Item → Item) : (State.updItem s id f).control = s.control := by
  simp [State.updItem]

@[simp] theorem State.trackItem_control (s : State) (i : Item) (f : Track → Track) : (State.trackItem s i f).control = s.control := by
  unfold State.trackItem; split <;> simp

@[simp] theorem State.spendTokens_control (s : State) (sl : Nat) : (State.spendTokens s sl).control = s.control := by
  simp [State.spendTokens]

@[simp] theorem State.take_control (s : State) (e : Nat) : (State.take s e).control = s.control := by
  unfold State.take; repeat' split
  all_goals simp [*]

@[simp] theorem State.setLock_control (s : State) (n : Nat) (w : BitVec 32) : (State.setLock s n w).control = s.control := by
  simp [State.setLock]

@[simp] theorem State.abandonLocks_control (s : State) (held : Nat → Nat → Bool) : (State.abandonLocks s held).control = s.control := by
  simp [State.abandonLocks]

@[simp] theorem State.updTrans_control (s : State) (f : Trans → Trans) : (State.updTrans s f).control = s.control := by
  simp [State.updTrans]

@[simp] theorem State.setWays_control (s : State) (n : Nat) (w : List TSlot) : (State.setWays s n w).control = s.control := by
  simp [State.setWays]

@[simp] theorem State.tlbLookup_control (s : State) (sl : Nat) (stage : Nat) (x : Nat) : (State.tlbLookup s sl stage x).1.control = s.control := by
  unfold State.tlbLookup; split <;> simp

@[simp] theorem State.tlbRemove_control (s : State) (p : TSlot → Bool) : (State.tlbRemove s p).control = s.control := by
  simp [State.tlbRemove]

@[simp] theorem State.memFault_control (s : State) (a : Nat) : (State.memFault s a).control = s.control := by
  unfold State.memFault; split <;> simp

@[simp] theorem State.tfault_control (s : State) (a : Access) (stage : Nat) (lv : Nat) (cause : Nat) (s1 : Nat) (x : Nat) :
    (State.tfault s a stage lv cause s1 x).1.control = s.control := by
  unfold State.tfault; repeat (split <;> simp)

@[simp] theorem State.trackMiss_control (s : State) (who : Who) : (State.trackMiss s who).control = s.control := by
  unfold State.trackMiss; split <;> simp

@[simp] theorem State.trapMiss_control (s : State) (who : Who) (a : Access) (stage : Nat) (x : Nat) (s1 : Nat) :
    (State.trapMiss s who a stage x s1).1.control = s.control := by
  unfold State.trapMiss; repeat (split <;> simp)

@[simp] theorem State.walkRead_control (s : State) (w : Walk) (bus : Nat) : (State.walkRead s w bus).control = s.control := by
  simp [State.walkRead]

@[simp] theorem State.putWalk_control (s : State) (w : Walk) : (State.putWalk s w).control = s.control := by
  simp [State.putWalk]

@[simp] theorem State.step2_control (s : State) (w : Walk) : (State.step2 s w).1.control = s.control := by
  unfold State.step2; simp

@[simp] theorem State.miss2_control (s : State) (who : Who) (a : Access) (x : Nat) (s1 : Nat) : (State.miss2 s who a x s1).1.control = s.control := by
  unfold State.miss2; dsimp only; (repeat' split) <;> simp_all [eq_pair_iff]

@[simp] theorem State.xlate2_control (s : State) (who : Who) (a : Access) (x : Nat) (s1 : Nat) : (State.xlate2 s who a x s1).1.control = s.control := by
  unfold State.xlate2; dsimp only; (repeat' split) <;> simp_all [eq_pair_iff]

@[simp] theorem State.step1_control (s : State) (w : Walk) : (State.step1 s w).1.control = s.control := by
  unfold State.step1; dsimp only; (repeat' split) <;> simp_all [eq_pair_iff]

@[simp] theorem State.endWaiters_control (s : State) (ws : List (Who × Access)) (stage : Nat) (lv : Nat) (cause : Nat) (s1 : Nat) (x : Nat) :
    (State.endWaiters s ws stage lv cause s1 x).control = s.control := by
  unfold State.endWaiters; (repeat' split) <;> (try simp) <;> (repeat' (first | split | rw [foldl_control] | (intro _ _))) <;> simp

@[simp] theorem State.resumeWalks_control (s : State) (ws : List (Who × Access)) : (State.resumeWalks s ws).control = s.control := by
  unfold State.resumeWalks; dsimp only; refine foldl_control (fun s b => ?_) _ _; (repeat' split) <;> simp_all [eq_pair_iff]

@[simp] theorem State.walkFault_control (s : State) (w : Walk) (cause : Nat) (lv : Nat) : (State.walkFault s w cause lv).control = s.control := by
  simp [State.walkFault]

@[simp] theorem State.walkGot_control (s : State) (w : Walk) (e : BitVec 64) (ok : Bool) : (State.walkGot s w e ok).control = s.control := by
  unfold State.walkGot; dsimp only
  have hp : ∀ (t : State) (x : TSlot), ((t.tlbPut x).getD t).control = t.control := by
    intro t x; unfold State.tlbPut; dsimp only; split
    · rfl
    · split <;> simp
  (repeat' split) <;> simp_all [eq_pair_iff]

@[simp] theorem State.transDrop_control (s : State) (sl : Nat) : (State.transDrop s sl).control = s.control := by
  simp [State.transDrop]

@[simp] theorem State.updRings_control (s : State) (f : Rings → Rings) : (State.updRings s f).control = s.control := by
  simp [State.updRings]

@[simp] theorem State.reserveSlot_control (s : State) (ring : Nat) (stop : Nat) (n : Nat) : (State.reserveSlot s ring stop n).control = s.control := by
  simp [State.reserveSlot]

@[simp] theorem State.fillSlot_control (s : State) (u : RingUnit) : (State.fillSlot s u).control = s.control := by
  simp [State.fillSlot]

@[simp] theorem State.ringPut_control (s : State) (p : RingPkt) (q : RingPkt) : (State.ringPut s p q).control = s.control := by
  simp [State.ringPut]

@[simp] theorem State.ringInject_control (s : State) (ring : Nat) (stop : Nat) (n : Nat) : (State.ringInject s ring stop n).control = s.control := by
  unfold State.ringInject; (repeat' split) <;> simp

@[simp] theorem State.ringQueue_control (s : State) (p : RingPkt) : (State.ringQueue s p).control = s.control := by
  simp [State.ringQueue]

@[simp] theorem State.ringSend_control (s : State) (p : RingPkt) (owner : RingOwner) : (State.ringSend s p owner).control = s.control := by
  unfold State.ringSend; dsimp only; (repeat' split) <;> simp_all

@[simp] theorem State.resetAnswer_control (s : State) (k : Nat) (p : RingPkt) : (State.resetAnswer s k p).control = s.control := by
  unfold State.resetAnswer; split <;> simp

@[simp] theorem State.islandReset_control (s : State) (i : Nat) : (State.islandReset s i).control = s.control := by
  simp [State.islandReset]

@[simp] theorem State.updRemote_control (s : State) (f : Remote → Remote) : (State.updRemote s f).control = s.control := by
  simp [State.updRemote]

@[simp] theorem State.colour_control (s : State) (sl : Nat) (cls : Nat) (l : Nat) : (State.colour s sl cls l).1.control = s.control := by
  simp [State.colour]

@[simp] theorem State.inject_control (s : State) (sl : Nat) (stop : Nat) (h : Header) (payload : List Byte) (wait : List (Nat × Nat)) (owner : Option (Nat × Nat)) (charge : Nat) (answer : Bool) :
    (State.inject s sl stop h payload wait owner charge answer).control = s.control := by
  unfold State.inject; split <;> simp

@[simp] theorem State.evict_control (s : State) (p : Peer) : (State.evict s p).control = s.control := by
  simp [State.evict]

@[simp] theorem State.setPeer_control (s : State) (p : Peer) : (State.setPeer s p).control = s.control := by
  simp [State.setPeer]

@[simp] theorem State.putPeer_control (s : State) (p : Peer) : (State.putPeer s p).control = s.control := by
  unfold State.putPeer; simp

@[simp] theorem State.rmaEvent_control (s : State) (sl : Nat) (n : Nat) (source : Nat) (detail : Nat) :
    (State.rmaEvent s sl n source detail).control = s.control := by
  unfold State.rmaEvent; split <;> simp

@[simp] theorem State.gather_control (s : State) (g : GatherFor) (sp : Spans) : (State.gather s g sp).control = s.control := by
  simp [State.gather]

@[simp] theorem State.msgBack_control (s : State) (sl : Nat) (h : Header) (cmd : Nat) (num : Nat) (off : Nat) (ext : Nat) :
    (State.msgBack s sl h cmd num off ext).control = s.control := by
  simp [State.msgBack]

@[simp] theorem State.msgForward_control (s : State) (sl : Nat) (n : Nat) (pos : Nat) (p : Pair) (pkey : BitVec 16) (cls : Nat) (cmd : Nat) (num : Nat) (off : Nat) (ctx : Nat) (ext : BitVec 32) (payload : List Byte) (wait : List (Nat × Nat)) :
    (State.msgForward s sl n pos p pkey cls cmd num off ctx ext payload wait).control = s.control := by
  simp [State.msgForward]

@[simp] theorem State.updRdvS_control (s : State) (p : Pair) (f : List RdvSend → List RdvSend) : (State.updRdvS s p f).control = s.control := by
  unfold State.updRdvS; split <;> simp

@[simp] theorem State.failRdvS_control (s : State) (sl : Nat) (p : Pair) (r : RdvSend) (own : Comp) (detail : Nat) (peer : Comp) :
    (State.failRdvS s sl p r own detail peer).control = s.control := by
  simp [State.failRdvS]

@[simp] theorem State.rdvWqGone_control (s : State) (n : Nat) : (State.rdvWqGone s n).control = s.control := by
  simp [State.rdvWqGone]

@[simp] theorem State.wqFail_control (s : State) (n : Nat) (cause : Nat) : (State.wqFail s n cause).control = s.control := by
  simp [State.wqFail]

@[simp] theorem State.putRop_control (s : State) (o : ROp) : (State.putRop s o).control = s.control := by
  simp [State.putRop]

@[simp] theorem State.dropRop_control (s : State) (n : Nat) (pos : Nat) : (State.dropRop s n pos).control = s.control := by
  simp [State.dropRop]

@[simp] theorem State.settleOp_control (s : State) (n : Nat) (pos : Nat) : (State.settleOp s n pos).control = s.control := by
  unfold State.settleOp; simp; (repeat' split) <;> simp

@[simp] theorem State.failOp_control (s : State) (n : Nat) (pos : Nat) (num : Nat) (c : Comp) (detail : Nat) :
    (State.failOp s n pos num c detail).control = s.control := by
  unfold State.failOp; repeat' split
  all_goals simp [*]

@[simp] theorem State.rmaAnswer_control (s : State) (sl : Nat) (h : Header) (cmd : Nat) (off : Nat) (ext : Nat) (payload : List Byte) (wait : List (Nat × Nat)) :
    (State.rmaAnswer s sl h cmd off ext payload wait).control = s.control := by
  simp [State.rmaAnswer]

@[simp] theorem State.sack_control (s : State) (sl : Nat) (p : Peer) (h : Header) (status : Comp) :
    (State.sack s sl p h status).control = s.control := by
  simp [State.sack]

@[simp] theorem State.regionFault_control (s : State) (sl : Nat) (h : Header) (rkey : Nat) (c : Comp) :
    (State.regionFault s sl h rkey c).control = s.control := by
  simp [State.regionFault]

@[simp] theorem State.endTarget_control (s : State) (sl : Nat) (h : Header) (c : Comp) : (State.endTarget s sl h c).control = s.control := by
  unfold State.endTarget; split <;> simp

@[simp] theorem State.failTarget_control (s : State) (sl : Nat) (h : Header) (rkey : Nat) (c : Comp) :
    (State.failTarget s sl h rkey c).control = s.control := by
  unfold State.failTarget; repeat' split
  all_goals simp [*]

@[simp] theorem State.placed_control (s : State) (sl : Nat) (h : Header) : (State.placed s sl h).control = s.control := by
  unfold State.placed; simp; (repeat' split) <;> simp

@[simp] theorem State.updColls_control (s : State) (f : Colls → Colls) : (State.updColls s f).control = s.control := by
  simp [State.updColls]

@[simp] theorem State.setColl_control (s : State) (n : Nat) (c : Coll) : (State.setColl s n c).control = s.control := by
  simp [State.setColl]

@[simp] theorem State.updColl_control (s : State) (n : Nat) (f : Coll → Coll) : (State.updColl s n f).control = s.control := by
  simp [State.updColl]

@[simp] theorem State.unitQueue_control (s : State) (u : Nat) (q : UnitPkt) : (State.unitQueue s u q).control = s.control := by
  simp [State.unitQueue]

@[simp] theorem State.collSend_control (s : State) (n : Nat) (p : Nat) (cmd : Nat) (off : Nat) (ext : Nat) (payload : List Byte) :
    (State.collSend s n p cmd off ext payload).control = s.control := by
  unfold State.collSend; (repeat' split) <;> simp

@[simp] theorem State.collAbortEntries_control (s : State) (c : Coll) : (State.collAbortEntries s c).control = s.control := by
  unfold State.collAbortEntries; (repeat' (first | split | rw [foldl_control] | (intro _ _))) <;> simp

@[simp] theorem State.collEvent_control (s : State) (n : Nat) (epoch : Nat) (attempt : Nat) (cause : Nat) (port : Nat) (own : Bool) :
    (State.collEvent s n epoch attempt cause port own).control = s.control := by
  simp [State.collEvent]

@[simp] theorem State.collFlood_control (s : State) (n : Nat) (attempt : Nat) (cause : Nat) (but : Option Nat) :
    (State.collFlood s n attempt cause but).control = s.control := by
  simp [State.collFlood]

@[simp] theorem State.collUnstage_control (s : State) (n : Nat) (c : Coll) : (State.collUnstage s n c).control = s.control := by
  simp [State.collUnstage]

@[simp] theorem State.collAbort_control (s : State) (n : Nat) (cause : Nat) (port : Nat) (but : Option Nat) (own : Bool) :
    (State.collAbort s n cause port but own).control = s.control := by
  simp [State.collAbort]

@[simp] theorem State.collMemberFault_control (s : State) (n : Nat) (m : CMember) (c : Comp) (detail : Nat) :
    (State.collMemberFault s n m c detail).control = s.control := by
  simp [State.collMemberFault]

@[simp] theorem State.steepClear_control (s : State) (n : Nat) (flagsOnly : Bool) : (State.steepClear s n flagsOnly).control = s.control := by
  simp [State.steepClear]

@[simp] theorem State.collHalt_control (s : State) (sl : Nat) : (State.collHalt s sl).control = s.control := by
  simp [State.collHalt]

@[simp] theorem State.collReset_control (s : State) (sl : Nat) : (State.collReset s sl).control = s.control := by
  simp [State.collReset]

@[simp] theorem State.collFault_control (s : State) (wq : Nat) (pos : Nat) (c : Comp) (detail : Nat) (read : Bool) :
    (State.collFault s wq pos c detail read).control = s.control := by
  unfold State.collFault; repeat' split
  all_goals simp [*]

@[simp] theorem State.failEntry_control (s : State) (n : Nat) (pos : Nat) (c : Comp) (detail : Nat) :
    (State.failEntry s n pos c detail).control = s.control := by
  unfold State.failEntry; simp; (repeat' split) <;> simp

@[simp] theorem State.entryFail_control (s : State) (n : Nat) (pos : Nat) (c : Comp) (peer : Comp) (detail : Nat) (read : Bool) :
    (State.entryFail s n pos c peer detail read).control = s.control := by
  unfold State.entryFail; repeat' split
  all_goals simp [*]

@[simp] theorem State.entryFault_control (s : State) (n : Nat) (pos : Nat) (f : TFault) : (State.entryFault s n pos f).control = s.control := by
  simp [State.entryFault]

@[simp] theorem State.deliverEnded_control (s : State) : (State.deliverEnded s).control = s.control := by
  unfold State.deliverEnded; (repeat' (first | split | rw [foldl_control] | (intro _ _))) <;> simp

@[simp] theorem State.unpost_control (s : State) (p : Posted → Bool) : (State.unpost s p).control = s.control := by
  simp [State.unpost]

@[simp] theorem State.forgetWq_control (s : State) (n : Nat) : (State.forgetWq s n).control = s.control := by
  simp [State.forgetWq]

@[simp] theorem State.uncache_control (s : State) (k : Nat) : (State.uncache s k).control = s.control := by
  simp [State.uncache]

@[simp] theorem State.answerClose_control (s : State) (w : Wq) : (State.answerClose s w).control = s.control := by
  unfold State.answerClose; split <;> simp

@[simp] theorem State.removeWq_control (s : State) (n : Nat) : (State.removeWq s n).control = s.control := by
  unfold State.removeWq; split <;> simp

@[simp] theorem State.removeCq_control (s : State) (n : Nat) : (State.removeCq s n).control = s.control := by
  simp [State.removeCq]

@[simp] theorem State.removeEq_control (s : State) (n : Nat) : (State.removeEq s n).control = s.control := by
  simp [State.removeEq]

@[simp] theorem State.abortBuilt_control (s : State) (test : Built → Bool) : (State.abortBuilt s test).control = s.control := by
  simp [State.abortBuilt]

@[simp] theorem State.dropPackets_control (s : State) (sl : Nat) (all : Bool) : (State.dropPackets s sl all).control = s.control := by
  simp [State.dropPackets]

@[simp] theorem State.dropSliceItems_control (s : State) (sl : Nat) (halt : Bool) : (State.dropSliceItems s sl halt).control = s.control := by
  simp [State.dropSliceItems]

@[simp] theorem State.rdvHalt_control (s : State) (sl : Nat) : (State.rdvHalt s sl).control = s.control := by
  simp [State.rdvHalt]

@[simp] theorem State.haltStart_control (s : State) (sl : Nat) (cause : Nat) (bad : List (Nat × Nat)) :
    (State.haltStart s sl cause bad).control = s.control := by
  unfold State.haltStart; simp; (repeat' split) <;> simp

@[simp] theorem State.killQueues_control (s : State) (sl : Nat) : (State.killQueues s sl).control = s.control := by
  simp [State.killQueues]

@[simp] theorem State.refuseLost_control (s : State) (keys : List Nat) : (State.refuseLost s keys).control = s.control := by
  simp [State.refuseLost]

@[simp] theorem State.bringUpFail_control (s : State) (p : Nat) (f : LaneFail) : (State.bringUpFail s p f).control = s.control := by
  simp [State.bringUpFail]

@[simp] theorem State.startBringUp_control (s : State) (p : Nat) : (State.startBringUp s p).control = s.control := by
  unfold State.startBringUp; repeat (split <;> simp)

@[simp] theorem State.roleChanged_control (s : State) (p : Nat) (old : Nat) : (State.roleChanged s p old).control = s.control := by
  simp [State.roleChanged]

@[simp] theorem State.failPlacing_control (s : State) (key : Nat) (c : Comp) : (State.failPlacing s key c).control = s.control := by
  unfold State.failPlacing; split <;> simp

@[simp] theorem State.flushHost_control (s : State) (k : Nat) : (State.flushHost s k).control = s.control := by
  simp [State.flushHost]

@[simp] theorem State.hostRelease_control (s : State) (h : Nat) : (State.hostRelease s h).control = s.control := by
  unfold State.hostRelease; split <;> simp

@[simp] theorem State.linkActive_control (s : State) (k : Nat) (l : Nat) : (State.linkActive s k l).control = s.control := by
  unfold State.linkActive; split <;> simp

@[simp] theorem State.ring_control (s : State) (n : Nat) (w : Wq) (p : Nat) : (State.ring s n w p).control = s.control := by
  unfold State.ring; repeat' split
  all_goals simp [*]

@[simp] theorem State.contextRead_control (s : State) (kind : Nat) (n : Nat) (data : List Byte) :
    (State.contextRead s kind n data).control = s.control := by
  unfold State.contextRead; dsimp only; (repeat' split) <;> simp

@[simp] theorem State.memReadFault_control (s : State) (r : HostRead) : (State.memReadFault s r).1.control = s.control := by
  simp [State.memReadFault]

@[simp] theorem State.memReadFail_control (s : State) (r : HostRead) : (State.memReadFail s r).control = s.control := by
  unfold State.memReadFail; simp; (repeat' split) <;> simp

@[simp] theorem State.haltTenants_control (s : State) : (State.haltTenants s).control = s.control := by
  simp [State.haltTenants]

@[simp] theorem State.ownToTwin_control (s : State) : (State.ownToTwin s).control = s.control := by
  simp [State.ownToTwin]

/-! Pools, memory links and isolate actions -/

@[simp] theorem Control.steady_ite (c : Prop) [Decidable c] (a b : Control) :
    (if c then a else b).steady = if c then a.steady else b.steady := by
  split <;> rfl

@[simp] theorem foldl_steady {β : Type} {f : State → β → State} (h : ∀ s b, (f s b).control.steady = s.control.steady) (l : List β)
    (s : State) : (l.foldl f s).control.steady = s.control.steady := by
  induction l generalizing s with
  | nil => rfl
  | cons b l ih => rw [List.foldl_cons, ih, h]

@[simp] theorem State.updService_steady (s : State) (f : Service → Service) : (s.updService f).control.steady = s.control.steady := rfl
@[simp] theorem State.setMemLink_steady (s : State) (m : Nat) (x : MemLink) : (s.setMemLink m x).control.steady = s.control.steady := rfl

@[simp] theorem State.poolsReset_steady (s : State) (sl : Nat) : (s.poolsReset sl).control.steady = s.control.steady := by
  refine foldl_steady (fun t p => ?_) _ _
  dsimp only
  split
  · have moved := congrArg Control.steady (t.setPool_control p.1 (setFld (poolTo p.2 2) 125 125 1))
    exact moved
  · split
    · exact congrArg Control.steady (t.setPool_control ..)
    · rfl

@[simp] theorem State.resetStart_steady (s : State) (sl : Nat) : (s.resetStart sl).control.steady = s.control.steady := by
  simp [State.resetStart]

theorem State.resetFunc_control (s : State) (f : Nat) : (s.resetFunc f).control = s.control := by
  unfold State.resetFunc
  dsimp only
  split
  · exact (State.updMgmt_control _ _ rfl).trans rfl
  · rfl

@[simp] theorem State.resetFuncs_steady (s : State) (fs : List Nat) : (s.resetFuncs fs).control.steady = s.control.steady := by
  unfold State.resetFuncs
  refine (foldl_steady (fun t sl => ?_) _ _).trans
    (congrArg Control.steady ((foldl_control State.resetFunc_control _ _).trans ?_))
  · split <;> simp
  · simp only [foldl_control, State.cqError_control, State.wqErrorSilent_control, State.removeEq_control, State.removeCq_control,
      State.removeWq_control, State.refuseLost_control, implies_true]
    rfl

@[simp] theorem State.hostHold_steady (s : State) (h : Nat) : (s.hostHold h).control.steady = s.control.steady := by
  unfold State.hostHold
  split <;> simp

@[simp] theorem State.memRelease_steady (s : State) (k : Nat) : (s.memRelease k).control.steady = s.control.steady := by
  unfold State.memRelease
  dsimp only
  split <;> simp

/-- The reads of a link that is down end, and move nothing of service mode. -/
theorem State.memDown_control (s : State) (m st : Nat) :
    (s.memDown m st).control = (s.setMemLink m { s.memLink m with st := .down }).control := by
  simp [State.memDown]

@[simp] theorem State.memDown_steady (s : State) (m st : Nat) : (s.memDown m st).control.steady = s.control.steady := by
  rw [State.memDown_control, State.setMemLink_steady]

@[simp] theorem State.isolate_steady (s : State) (u : IsoUnit) : (s.isolate u).control.steady = s.control.steady := by
  unfold State.isolate
  cases u with
  | port p =>
    dsimp only
    split <;> simp
  | host k =>
    dsimp only
    (repeat' split) <;> simp
  | mem m => exact State.memDown_steady ..

@[simp] theorem State.resume_steady (s : State) (u : IsoUnit) : (s.resume u).control.steady = s.control.steady := by
  unfold State.resume
  cases u with
  | port p => simp
  | host k =>
    dsimp only
    (repeat' split) <;> simp
  | mem m => rfl

end Sys2Proof.Machine
end

section
/-! Fault collection (family 18): the records of the log, what a source reaches, and a decision of both collectors (R535–R543). -/

namespace Sys2Proof.Machine

variable {s : State} {n : Nat}

/-! The sources -/

/-- An open source, or one with counts or a window, reads back. -/
theorem State.src_setSrc_listed {x : FaultSrc} (s : State) (n : Nat) (listed : x ≠ {}) : (s.setSrc n x).src n = x :=
  Table.get_set_listed _ _ listed

theorem State.src_setSrc_of_rising (rising : Table.risingFrom none s.faults.srcs = true) (n : Nat) (x : FaultSrc) :
    (s.setSrc n x).src n = x := Table.get_set_rising _ _ _ rising

theorem State.src_of_srcs {s t : State} (h : t.faults.srcs = s.faults.srcs) (n : Nat) : t.src n = s.src n := by
  simp only [State.src, h]

/-- A source in a state of the ladder has an entry of its own. -/
theorem FaultSrc.listed_of_st {x : FaultSrc} (open_ : x.st ≠ .idle) : x ≠ {} := fun idle => open_ (by rw [idle])

/-- What leaves the controller, but for memory links, leaves the sources and the log. -/
theorem State.srcs_of_steady {s t : State} (h : t.control.steady = s.control.steady) :
    t.faults.srcs = s.faults.srcs ∧ t.faults.logSeq = s.faults.logSeq :=
  ⟨congrArg (fun c : Control => c.faults.srcs) h, congrArg (fun c : Control => c.faults.logSeq) h⟩

theorem State.faults_of_control {s t : State} (h : t.control = s.control) : t.faults = s.faults := congrArg Control.faults h

theorem State.twinSt_of_control {s t : State} (h : t.control = s.control) : t.twin.st = s.twin.st :=
  congrArg (fun c : Control => c.twin.st) h

/-! Records, notices and distress (R546, R547, R577) -/

/-- A record takes the next SEQ and a place in the log, or waits for one, or is lost. -/
theorem State.logRecord_eq (s : State) (r : FaultRec) : ∃ log waiting lost, (s.logRecord r).1
    = s.updFaults (fun f => { f with logSeq := (f.logSeq + 1) % 2 ^ 32, log := log, waiting := waiting, lost := lost }) := by
  unfold State.logRecord
  dsimp only
  split
  · exact ⟨_, _, _, rfl⟩
  · split <;> exact ⟨_, _, _, rfl⟩

/-- A source's record leaves every source as it is. -/
theorem State.srcRecord_eq (s : State) (n kind : Nat) : ∃ log waiting lost, (s.srcRecord n kind).1
    = s.updFaults (fun f => { f with logSeq := (f.logSeq + 1) % 2 ^ 32, log := log, waiting := waiting, lost := lost }) :=
  State.logRecord_eq ..

@[simp] theorem State.faultNotice_control (s : State) (kind : Nat) (r : FaultRec) : (s.faultNotice kind r).control = s.control := by
  unfold State.faultNotice
  split
  · rfl
  · split
    · exact State.countDev_control ..
    · exact State.build_control ..

theorem State.distress_faults (s : State) (n rung seq : Nat) : (s.distress n rung seq).faults = s.faults := by
  unfold State.distress
  dsimp only
  split
  · exact (State.faults_of_control (State.build_control ..)).trans rfl
  · rfl

@[simp] theorem State.alertThrice_faults (s : State) (p : Pulse) : (s.alertThrice p).faults = s.faults := rfl

/-! Surrender (R524) -/

theorem State.surrendered_surrender (s : State) (cause : Nat) : (s.surrender cause).twin.st = .surrendered := by
  unfold State.surrender
  split
  · assumption
  · dsimp only
    obtain ⟨log, waiting, lost, record⟩ := State.logRecord_eq _ _
    rw [record]
    rfl

theorem State.srcs_surrender (s : State) (cause : Nat) : (s.surrender cause).faults.srcs = s.faults.srcs := by
  have kept : ∀ t : State, (t.haltTenants.alertThrice .adopt).faults.srcs = t.faults.srcs := fun t => by
    rw [State.alertThrice_faults, State.faults_of_control t.haltTenants_control]
  unfold State.surrender
  split
  · rfl
  · dsimp only
    obtain ⟨log, waiting, lost, record⟩ := State.logRecord_eq _ _
    rw [record]
    dsimp only [State.updFaults, State.updTwin]
    rw [kept]
    split
    · rw [State.faults_of_control s.ownToTwin_control]
    · rfl

/-! What a source reaches (R537, R546) -/

/-- A rung's DISTRESS and isolation mark the source as isolating, at most; the log stands. -/
structure Reached (n : Nat) (s t : State) : Prop where
  src : ∃ on, t.src n = { s.src n with isolating := on }
  log : t.faults.logSeq = s.faults.logSeq

theorem Reached.refl (n : Nat) (s : State) : Reached n s s := ⟨⟨_, rfl⟩, rfl⟩

theorem Reached.trans {s t u : State} (h : Reached n s t) (next : Reached n t u) : Reached n s u := by
  obtain ⟨on, src⟩ := h.src
  obtain ⟨on', src'⟩ := next.src
  exact ⟨⟨on', by rw [src', src]⟩, next.log.trans h.log⟩

theorem Reached.of_srcs {s t : State} (srcs : t.faults.srcs = s.faults.srcs) (log : t.faults.logSeq = s.faults.logSeq) : Reached n s t :=
  ⟨⟨_, State.src_of_srcs srcs n⟩, log⟩

/-- An isolated unit's source is isolating. -/
theorem Reached.isolate (s : State) (n : Nat) (u : IsoUnit) :
    Reached n s ((s.updSrc n (fun x => { x with isolating := true })).isolate u) := by
  obtain ⟨srcs, log⟩ := State.srcs_of_steady ((s.updSrc n (fun x => { x with isolating := true })).isolate_steady u)
  refine ⟨⟨true, ?_⟩, log⟩
  rw [State.src_of_srcs srcs]
  exact State.src_setSrc_listed _ _ (fun none_ => nomatch congrArg FaultSrc.isolating none_)

/-- A rung that a source reaches by climbing from `old` to `new`. -/
def rungReached (old : Option Nat) (new r : Nat) : Bool := decide (r ≤ new) && (match old with | some o => decide (o < r) | none => true)

/-- The actions of the rungs up to ISOLATE come first; SURRENDER and fail silent follow. -/
theorem State.act_reached (s : State) (n : Nat) (old : Option Nat) (new seq : Nat) : ∃ t, Reached n s t ∧ s.act n old new seq
    = if rungReached old new 4 then t.failSilent 4 else if rungReached old new 3 then t.surrender (surrenderCause n) else t := by
  have called : Reached n s (if rungReached old new 1 ∧ rxDistress (s.src n).reaction then s.distress n new seq else s) := by
    split
    · exact .of_srcs (by rw [State.distress_faults]) (by rw [State.distress_faults])
    · exact .refl ..
  generalize first : (if rungReached old new 1 ∧ rxDistress (s.src n).reaction then s.distress n new seq else s) = t at called
  refine ⟨match isoUnit n with
    | some u => if rungReached old new 2 then (t.updSrc n (fun x => { x with isolating := true })).isolate u else t
    | none => t, called.trans ?_, by rw [← first]; rfl⟩
  split
  · split
    · exact .isolate ..
    · exact .refl ..
  · exact .refl ..

/-- The actions below SURRENDER. -/
theorem Reached.act (s : State) (n : Nat) (old : Option Nat) {new : Nat} (seq : Nat) (low : new ≤ 2) : Reached n s (s.act n old new seq) := by
  obtain ⟨t, reached, acts⟩ := s.act_reached n old new seq
  have below : ∀ r, 3 ≤ r → rungReached old new r = false := fun r high => by
    unfold rungReached
    rw [decide_eq_false (by omega : ¬r ≤ new), Bool.false_and]
  rw [acts, below 4 (by decide), below 3 (by decide)]
  exact reached

/-- A source that reaches a rung below SURRENDER is as it was but for its isolation, with one more record in the log. -/
theorem State.reach_low {s : State} {n : Nat} (low : (s.src n).rung ≤ 2) (old : Option Nat) (kind : Nat) :
    (∃ on, (s.reach n old kind).src n = { s.src n with isolating := on })
      ∧ (s.reach n old kind).faults.logSeq = (s.faults.logSeq + 1) % 2 ^ 32 := by
  obtain ⟨log, waiting, lost, record⟩ := State.srcRecord_eq s n kind
  have recorded : (s.srcRecord n kind).1.src n = s.src n := by
    rw [record]
    rfl
  have numbered : (s.srcRecord n kind).1.faults.logSeq = (s.faults.logSeq + 1) % 2 ^ 32 := by
    rw [record]
    rfl
  have acted := Reached.act (s.srcRecord n kind).1 n old (s.srcRecord n kind).2.seq (recorded ▸ low)
  have noted : ∀ t k r, Reached n t (t.faultNotice k r) := fun t k r =>
    have kept := State.faults_of_control (t.faultNotice_control k r)
    .of_srcs (by rw [kept]) (by rw [kept])
  suffices all : Reached n (s.srcRecord n kind).1 (s.reach n old kind) by
    obtain ⟨on, src⟩ := all.src
    exact ⟨⟨on, by rw [src, recorded]⟩, all.log.trans numbered⟩
  unfold State.reach
  dsimp only
  rw [recorded, if_neg (fun high : 3 ≤ (s.src n).rung ∧ _ => absurd high.1 (by omega))]
  rw [recorded] at acted
  refine acted.trans ?_
  split
  · exact noted ..
  · split
    · exact noted ..
    · exact .refl ..

/-- A source that opens at SURRENDER is LATCHED there, and the device has surrendered. -/
theorem State.reach_surrender {s : State} {n : Nat} (rung : (s.src n).rung = 3) (kind : Nat) :
    ((s.reach n none kind).src n).st = .latched ∧ ((s.reach n none kind).src n).rung = 3
      ∧ (s.reach n none kind).twin.st = .surrendered := by
  obtain ⟨log, waiting, lost, record⟩ := State.srcRecord_eq s n kind
  have recorded : (s.srcRecord n kind).1.src n = s.src n := by
    rw [record]
    rfl
  obtain ⟨t, reached, acts⟩ := (s.srcRecord n kind).1.act_reached n none 3 (s.srcRecord n kind).2.seq
  have acted : (s.srcRecord n kind).1.act n none 3 (s.srcRecord n kind).2.seq = t.surrender (surrenderCause n) := acts
  obtain ⟨on, src⟩ := reached.src
  have rung' : ((t.surrender (surrenderCause n)).src n).rung = 3 := by
    rw [State.src_of_srcs (State.srcs_surrender ..), src, recorded]
    exact rung
  unfold State.reach
  dsimp only
  rw [recorded, rung, acted]
  generalize noted : (if kind = 12 then _ else _ : State) = u
  have kept : u.control = (t.surrender (surrenderCause n)).control := by
    rw [← noted]
    split
    · exact State.faultNotice_control ..
    · exact State.faultNotice_control ..
  have same : u.src n = (t.surrender (surrenderCause n)).src n :=
    State.src_of_srcs (congrArg Collectors.srcs (State.faults_of_control kept)) n
  have gone : u.twin.st = .surrendered := (State.twinSt_of_control kept).trans (State.surrendered_surrender ..)
  by_cases latched : (u.src n).st = .latched
  · rw [if_neg (fun other => other.2 latched)]
    exact ⟨latched, same ▸ rung', gone⟩
  · rw [if_pos ⟨le_refl 3, latched⟩]
    obtain ⟨log, waiting, lost, record⟩ := State.srcRecord_eq (u.updSrc n (fun x => { x with st := .latched })) n 7
    have latches : (u.updSrc n (fun x => { x with st := .latched })).src n = { u.src n with st := .latched } :=
      State.src_setSrc_listed _ _ (FaultSrc.listed_of_st nofun)
    have after : ((u.updSrc n (fun x => { x with st := .latched })).srcRecord n 7).1.src n = { u.src n with st := .latched } := by
      rw [record]
      exact latches
    refine ⟨by rw [after], by rw [after]; exact same ▸ rung', ?_⟩
    rw [record]
    exact gone

end Sys2Proof.Machine
end

section
/-! The ladder of a fault source (family 18): events, timers, acknowledgement and closing (R538–R543), and what settles the statements
on it. -/

namespace Sys2Proof.Machine

variable {s : State} {n : Nat}

/-! Decisions, squalls and merging -/

theorem State.decision_decides (decides : s.decides = true) (f : State → State) : s.decision f = f s := by
  simp only [State.decides, Bool.and_eq_true, Bool.not_eq_true'] at decides
  obtain ⟨⟨a, b⟩, alter⟩ := decides
  simp [State.decision, a, b, alter]

/-- Too few events, or a record that is LATCHED, make no squall. -/
theorem State.squallCheck_short (short : rxSquallN (s.src n).reaction = 0 ∨ (s.src n).window.getD 0 < rxSquallN (s.src n).reaction) :
    s.squallCheck n = s := by
  unfold State.squallCheck
  dsimp only
  rw [if_neg]
  rintro ⟨-, -, limited, filled⟩
  rcases short with none_ | short
  · exact limited none_
  · omega

theorem State.squallCheck_latched (latched : (s.src n).st = .latched) : s.squallCheck n = s := by
  unfold State.squallCheck
  dsimp only
  rw [if_neg]
  rintro ⟨climbing, -⟩
  simp [latched] at climbing

/-- What is asked of the entries of other keys alone is answered alike after an entry is written. -/
theorem Table.find?_set_apart {α : Type} [DecidableEq α] (d : α) {k : Nat} (v : α) {p : Nat × α → Bool} (apart : ∀ x, p (k, x) = false)
    (t : Table α) : (Table.set d t k v).find? p = t.find? p := by
  unfold Table.set
  split
  · induction t with
    | nil => rfl
    | cons e t ih =>
      obtain ⟨j, x⟩ := e
      by_cases same : j = k
      · subst same
        simp [Table.erase, apart]
      · simp [Table.erase, same, List.find?_cons, ih]
  · induction t with
    | nil => simp [Table.insert, apart]
    | cons e t ih =>
      obtain ⟨j, x⟩ := e
      unfold Table.insert
      split
      · simp [List.find?_cons, apart]
      · split
        · next same =>
          subst same
          simp [apart]
        · simp [List.find?_cons, ih]

/-- An event of a source merges by what the other sources are. -/
theorem State.mergeTarget_setSrc (s : State) (n : Nat) (x : FaultSrc) (opened : List Nat) :
    (s.setSrc n x).mergeTarget n opened = s.mergeTarget n opened := by
  unfold State.mergeTarget
  have apart := Table.find?_set_apart {} (k := n) x (p := fun e => e.1 != n && faultInst e.1 == faultInst n && !protectedSrc e.1
    && (e.2.st == .active || (opened.contains e.1 && e.2.st != .idle))) (fun x => by simp) s.faults.srcs
  have merged : (s.setSrc n x).faults.srcs = Table.set {} s.faults.srcs n x := rfl
  rw [merged, apart]

/-! Events (R538, R539) -/

theorem State.faultEvents_single (valid : faultValid n = true) (waits : s.wires.contains n = true) :
    s.faultEvents [n] = (State.faultEvent { s with wires := s.wires.erase n } n false false []).1 := by
  have taken : s.takeEvent n = ({ s with wires := s.wires.erase n }, false) := if_pos waits
  unfold State.faultEvents
  rw [List.filter_cons_of_pos valid]
  change (State.faultEvent (s.takeEvent n).1 n (s.takeEvent n).2 false []).1 = _
  rw [taken]

/-- The event of an unmasked source counts in its window and moves its source. -/
theorem State.faultEvent_moves (counts : (s.src n).st ≠ .idle ∨ rxMask (s.reactionOf n) = false) (decides : s.decides = true)
    (wire : Bool) (opened : List Nat) : (s.faultEvent n false wire opened).1
      = ((s.countFault n 0).updSrc n (fun x => { x with window := some (x.window.getD 0 + 1) })).eventMoves n false wire opened := by
  have unmasked : ¬(((s.countFault n 0).src n).st = .idle ∧ rxMask ((s.countFault n 0).reactionOf n) = true) := by
    rintro ⟨idle, masked⟩
    rcases counts with open_ | unmasked
    · exact open_ idle
    · exact Bool.noConfusion (unmasked.symm.trans masked)
  unfold State.faultEvent
  dsimp only
  rw [if_neg (Bool.false_ne_true), if_neg unmasked]
  dsimp only
  exact State.decision_decides (by exact decides) _

theorem State.src_window (s : State) (n k : Nat) :
    (s.updSrc n (fun x => { x with window := some k })).src n = { s.src n with window := some k } :=
  State.src_setSrc_listed _ _ (fun none_ => nomatch congrArg FaultSrc.window none_)

/-- An event of an open source that fills no squall counts in its record and moves nothing else. -/
theorem State.faultEvent_open (open_ : (s.src n).st ≠ .idle) (decides : s.decides = true)
    (short : rxSquallN (s.src n).reaction = 0 ∨ (s.src n).window.getD 0 + 1 < rxSquallN (s.src n).reaction) (wire : Bool) :
    ∃ x, (s.faultEvent n false wire []).1 = ((s.countFault n 0).setSrc n x).setSrc n
      { s.src n with window := some ((s.src n).window.getD 0 + 1), events := min (2 ^ 32 - 1) ((s.src n).events + 1),
                     wire := (s.src n).wire || wire } := by
  have windowed := State.src_window (s.countFault n 0) n ((s.src n).window.getD 0 + 1)
  generalize counted : (s.countFault n 0).updSrc n (fun x => { x with window := some ((s.src n).window.getD 0 + 1) }) = t at windowed
  have moves : (s.faultEvent n false wire []).1 = t.eventMoves n false wire [] := by
    rw [State.faultEvent_moves (.inl open_) decides, ← counted]
    rfl
  have src : t.src n = { s.src n with window := some ((s.src n).window.getD 0 + 1) } := windowed
  have stands : (t.src n).st ≠ .idle := by rw [src]; exact open_
  generalize record : ({ t.src n with
    events := min (2 ^ 32 - 1) ((t.src n).events + 1)
    forced := (t.src n).forced || false
    wire := (t.src n).wire || wire } : FaultSrc) = y
  have recorded : (t.setSrc n y).src n = y := State.src_setSrc_listed _ _ (FaultSrc.listed_of_st (by rw [← record]; exact stands))
  have quiet : (t.setSrc n y).squallCheck n = t.setSrc n y := State.squallCheck_short (by
    rw [recorded, ← record, src]
    exact short)
  refine ⟨{ s.src n with window := some ((s.src n).window.getD 0 + 1) }, ?_⟩
  rw [moves, State.eventMoves]
  dsimp only
  rw [if_neg stands, record, quiet, ← record, src, ← counted, Bool.or_false]
  rfl

/-- A source whose record opens: its START rung, its first event, and what FAULT_REACTION says. -/
def FaultSrc.opened (x : FaultSrc) (r : BitVec 64) (forced wire : Bool) : FaultSrc :=
  { x with st := climbing (rxStart r) r, rung := rxStart r, squall := false, wire := wire, forced := forced, began := forced,
           reaction := r, events := 1, secCount := 0, secondary := none, isolating := false }

theorem climbing_open (rung : Nat) (r : BitVec 64) : climbing rung r ≠ .idle := by
  unfold climbing
  split <;> exact nofun

/-- The first event of an unmasked source that merges into no record opens its own. -/
theorem State.faultEvent_opens (idle : (s.src n).st = .idle) (unmasked : rxMask (s.reactionOf n) = false)
    (apart : s.mergeTarget n [] = none) (decides : s.decides = true) :
    ∃ (t : State) (kind : Nat), t.src n = { s.src n with window := some ((s.src n).window.getD 0 + 1) }.opened (s.reactionOf n) false false
      ∧ t.faults.logSeq = s.faults.logSeq ∧ (s.faultEvent n false false []).1 = (t.reach n none kind).squallCheck n := by
  have windowed := State.src_window (s.countFault n 0) n ((s.src n).window.getD 0 + 1)
  generalize counted : (s.countFault n 0).updSrc n (fun x => { x with window := some ((s.src n).window.getD 0 + 1) }) = t at windowed
  have moves : (s.faultEvent n false false []).1 = t.eventMoves n false false [] := by
    rw [State.faultEvent_moves (.inr unmasked) decides, ← counted]
    rfl
  have src : t.src n = { s.src n with window := some ((s.src n).window.getD 0 + 1) } := windowed
  have stands : (t.src n).st = .idle := by rw [src]; exact idle
  have own : t.mergeTarget n [] = none := by
    rw [← counted]
    exact (State.mergeTarget_setSrc ..).trans apart
  have reaction : t.reactionOf n = s.reactionOf n := by
    simp only [State.reactionOf, stands, idle, if_true]
    rw [← counted]
    rfl
  refine ⟨t.setSrc n ((t.src n).opened (t.reactionOf n) false false), if n = 0x523 then 12 else 1, ?_, ?_, ?_⟩
  · rw [State.src_setSrc_listed _ _ (FaultSrc.listed_of_st (climbing_open _ _)), src, reaction]
  · rw [← counted]
    rfl
  · rw [moves, State.eventMoves]
    dsimp only
    rw [if_pos stands, own]
    rfl

/-! The closing of a record (R542, R543) -/

/-- The end of an isolate action leaves the sources but for its own, and the log. -/
theorem State.endIsolate_log (s : State) (n : Nat) : (s.endIsolate n).faults.logSeq = s.faults.logSeq := by
  unfold State.endIsolate
  split
  · rfl
  · dsimp only
    split
    · split
      · rfl
      · exact (State.srcs_of_steady (State.resume_steady ..)).2
    · rfl

theorem State.rising_endIsolate (rising : Table.risingFrom none s.faults.srcs = true) (n : Nat) :
    Table.risingFrom none (s.endIsolate n).faults.srcs = true := by
  have ended : ∀ t : State, t.faults.srcs = Table.set {} s.faults.srcs n { s.src n with isolating := false } →
      Table.risingFrom none t.faults.srcs = true := fun t same => by
    rw [same]
    exact Table.rising_set _ _ _ rising
  unfold State.endIsolate
  split
  · exact rising
  · dsimp only
    split
    · split
      · exact ended _ rfl
      · exact ended _ (State.srcs_of_steady (State.resume_steady ..)).1
    · exact ended _ rfl

/-- A source whose record has closed keeps its window and its recoveries alone. -/
def FaultSrc.closed (x : FaultSrc) (kind : Nat) : FaultSrc :=
  { window := x.window, recoveries := if kind = 5 then min (2 ^ 32 - 1) (x.recoveries + 1) else x.recoveries }

/-- A record closes with a record of the log, its source IDLE again, where what it keeps reads back. -/
theorem State.closeSrc_closes (kind : Nat) (reads : Table.risingFrom none s.faults.srcs = true ∨ (s.src n).closed kind ≠ {}) :
    (s.closeSrc n kind).src n = (s.src n).closed kind ∧ (s.closeSrc n kind).faults.logSeq = (s.faults.logSeq + 1) % 2 ^ 32 := by
  obtain ⟨log, waiting, lost, record⟩ := State.srcRecord_eq s n kind
  generalize noted : (if 1 ≤ (s.src n).rung then (s.srcRecord n kind).1.faultNotice 1 (s.srcRecord n kind).2 else (s.srcRecord n kind).1) = t
  have kept : t.faults = (s.srcRecord n kind).1.faults := by
    rw [← noted]
    split
    · exact State.faults_of_control (State.faultNotice_control ..)
    · rfl
  have closes : s.closeSrc n kind = (t.endIsolate n).setSrc n ((s.src n).closed kind) := by rw [← noted]; rfl
  rw [record] at kept
  rw [closes]
  constructor
  · rcases reads with rising | listed
    · have rising' : Table.risingFrom none t.faults.srcs = true := by rw [kept]; exact rising
      exact State.src_setSrc_of_rising (State.rising_endIsolate rising' n) _ _
    · exact State.src_setSrc_listed _ _ listed
  · refine (State.endIsolate_log t n).trans ?_
    rw [kept]
    rfl

/-! The commands of the collectors -/

theorem exec_faultEvent_masked (valid : faultValid n = true) (waits : s.wires.contains n = true) (idle : (s.src n).st = .idle)
    (masked : rxMask (s.reactionOf n) = true) :
    exec (.faultEvent [n]) s = .next ({ s with wires := s.wires.erase n }.countFault n 0) := by
  change Host.Outcome.next (s.faultEvents [n]) = _
  rw [State.faultEvents_single valid waits]
  unfold State.faultEvent
  dsimp only
  rw [if_neg Bool.false_ne_true]
  exact congrArg (fun r : State × List Nat => Host.Outcome.next r.1) (if_pos ⟨idle, masked⟩)

theorem exec_faultEvent_opens {r : BitVec 64} (valid : faultValid n = true) (waits : s.wires.contains n = true)
    (governs : r = s.reactionOf n) (idle : (s.src n).st = .idle) (unmasked : rxMask r = false) (apart : s.mergeTarget n [] = none)
    (short : rxSquallN r = 0 ∨ (s.src n).window.getD 0 + 1 < rxSquallN r) (low : rxStart r ≤ 2) (decides : s.decides = true) :
    ∃ t, exec (.faultEvent [n]) s = .next t ∧ (t.src n).st = climbing (rxStart r) r ∧ (t.src n).rung = rxStart r ∧ (t.src n).events = 1
      ∧ (t.src n).window = some ((s.src n).window.getD 0 + 1) ∧ t.faults.logSeq = (s.faults.logSeq + 1) % 2 ^ 32 := by
  subst governs
  obtain ⟨u, kind, src, log, moves⟩ := State.faultEvent_opens (s := { s with wires := s.wires.erase n }) idle unmasked apart decides
  obtain ⟨⟨on, reached⟩, logged⟩ := State.reach_low (s := u) (n := n) (by rw [src]; exact low) none kind
  rw [src] at reached
  have quiet : (u.reach n none kind).squallCheck n = u.reach n none kind := State.squallCheck_short (by rw [reached]; exact short)
  refine ⟨_, rfl, ?_⟩
  rw [State.faultEvents_single valid waits, moves, quiet, reached, logged, log]
  exact ⟨rfl, rfl, rfl, rfl, rfl⟩

theorem exec_faultEvent_surrenders {r : BitVec 64} (valid : faultValid n = true) (waits : s.wires.contains n = true)
    (governs : r = s.reactionOf n) (idle : (s.src n).st = .idle) (unmasked : rxMask r = false) (apart : s.mergeTarget n [] = none)
    (start : rxStart r = 3) (decides : s.decides = true) :
    ∃ t, exec (.faultEvent [n]) s = .next t ∧ (t.src n).st = .latched ∧ (t.src n).rung = 3 ∧ t.twin.st = .surrendered := by
  subst governs
  obtain ⟨u, kind, src, log, moves⟩ := State.faultEvent_opens (s := { s with wires := s.wires.erase n }) idle unmasked apart decides
  obtain ⟨latched, rung, gone⟩ := State.reach_surrender (s := u) (n := n) (by rw [src]; exact start) kind
  refine ⟨_, rfl, ?_⟩
  rw [State.faultEvents_single valid waits, moves, State.squallCheck_latched latched]
  exact ⟨latched, rung, gone⟩

theorem exec_faultEvent_open (valid : faultValid n = true) (waits : s.wires.contains n = true) (open_ : (s.src n).st ≠ .idle)
    (decides : s.decides = true)
    (short : rxSquallN (s.src n).reaction = 0 ∨ (s.src n).window.getD 0 + 1 < rxSquallN (s.src n).reaction) :
    ∃ t, exec (.faultEvent [n]) s = .next t ∧ t.faults.logSeq = s.faults.logSeq
      ∧ t.src n = { s.src n with window := some ((s.src n).window.getD 0 + 1), events := min (2 ^ 32 - 1) ((s.src n).events + 1) } := by
  obtain ⟨x, moves⟩ := State.faultEvent_open (s := { s with wires := s.wires.erase n }) open_ decides short false
  refine ⟨_, rfl, ?_⟩
  rw [State.faultEvents_single valid waits, moves]
  refine ⟨rfl, (State.src_setSrc_listed _ _ (FaultSrc.listed_of_st (by exact open_))).trans ?_⟩
  rw [Bool.or_false]
  rfl

theorem exec_squallWindowExpiry (open_ : (s.src n).st ≠ .idle) :
    ∃ t, exec (.squallWindowExpiry n) s = .next t ∧ t.src n = { s.src n with window := none } :=
  ⟨_, rfl, State.src_setSrc_listed _ _ (FaultSrc.listed_of_st open_)⟩

theorem exec_wireFault (valid : faultValid n = true) (unforced : s.faults.forcedWires.contains n = false) (open_ : (s.src n).st ≠ .idle)
    (decides : s.decides = true)
    (short : rxSquallN (s.src n).reaction = 0 ∨ (s.src n).window.getD 0 + 1 < rxSquallN (s.src n).reaction) :
    ∃ t, exec (.wireFault n) s = .next t ∧ t.wires = s.wires ++ [0x538]
      ∧ t.src n = { s.src n with window := some ((s.src n).window.getD 0 + 1), events := min (2 ^ 32 - 1) ((s.src n).events + 1), wire := true } := by
  obtain ⟨x, moves⟩ := State.faultEvent_open
    (s := s.updFaults (fun f => { f with forcedWires := f.forcedWires.erase n })) open_ decides short true
  have run : exec (.wireFault n) s
      = .next (((s.updFaults (fun f => { f with forcedWires := f.forcedWires.erase n })).faultEvent n false true []).1.raise 0x538) := by
    change execWireFault n s = _
    unfold execWireFault
    simp only [valid, unforced, Bool.not_true, Bool.false_eq_true, if_false]
  refine ⟨_, run, ?_⟩
  rw [moves]
  refine ⟨rfl, (State.src_setSrc_listed _ _ (FaultSrc.listed_of_st (by exact open_))).trans ?_⟩
  rw [Bool.or_true]
  rfl

theorem exec_graceExpiry (active : (s.src n).st = .active) (below : (s.src n).rung < rxLimit (s.src n).reaction) (low : (s.src n).rung < 2)
    (decides : s.decides = true) :
    ∃ t, exec (.graceExpiry n) s = .next t ∧ (t.src n).rung = (s.src n).rung + 1
      ∧ (t.src n).st = climbing ((s.src n).rung + 1) (s.src n).reaction ∧ t.faults.logSeq = (s.faults.logSeq + 1) % 2 ^ 32 := by
  have up : (s.setSrc n { s.src n with rung := (s.src n).rung + 1, st := climbing ((s.src n).rung + 1) (s.src n).reaction }).src n
      = { s.src n with rung := (s.src n).rung + 1, st := climbing ((s.src n).rung + 1) (s.src n).reaction } :=
    State.src_setSrc_listed _ _ (FaultSrc.listed_of_st (climbing_open _ _))
  generalize moved : s.setSrc n { s.src n with rung := (s.src n).rung + 1, st := climbing ((s.src n).rung + 1) (s.src n).reaction } = u at up
  obtain ⟨⟨on, reached⟩, logged⟩ := State.reach_low (s := u) (n := n) (by rw [up]; exact low) (some (s.src n).rung) 2
  have log : u.faults.logSeq = s.faults.logSeq := by rw [← moved]; rfl
  have run : exec (.graceExpiry n) s = .next (u.reach n (some (s.src n).rung) 2) := by
    change Host.Outcome.next (s.decision (fun s => s.graceEnds n)) = _
    rw [State.decision_decides decides, State.graceEnds, if_neg (fun other => other active), if_pos below, moved]
  refine ⟨_, run, ?_⟩
  rw [reached, up, logged, log]
  exact ⟨rfl, rfl, rfl⟩

theorem exec_lullExpiry (held : (s.src n).st = .held) (decides : s.decides = true) :
    ∃ t, exec (.lullExpiry n) s = .next t
      ∧ t.src n = { window := (s.src n).window, recoveries := min (2 ^ 32 - 1) ((s.src n).recoveries + 1) } := by
  have counted : (s.src n).closed 5 ≠ {} := fun none_ => by
    have recovered : min (2 ^ 32 - 1) ((s.src n).recoveries + 1) = 0 := congrArg FaultSrc.recoveries none_
    omega
  have run : exec (.lullExpiry n) s = .next (s.closeSrc n 5) := by
    change Host.Outcome.next (if (s.src n).st = .held then s.decision (fun s => s.closeSrc n 5) else s) = _
    rw [if_pos held, State.decision_decides decides]
  exact ⟨_, run, (State.closeSrc_closes 5 (.inr counted)).1⟩

/-! FAULT_ACK and FAULT_CLEAR -/

theorem exec_faultAck {q : Req} {role : Role} {v : Image} (accepted : s.mayWrite q role R.faultAck 0 0 v = true)
    (valid : faultValid (fldN v 10 0) = true) : ∃ b a au an sf t, exec (.faultAck q v) s = .next t
      ∧ Served (if (s.src (fldN v 10 0)).st = .active then (s.taken b a au an sf).decision (fun s =>
        ((s.updSrc (fldN v 10 0) (fun x => { x with st := .held })).srcRecord (fldN v 10 0) 4).1) else s.taken b a au an sf) t := by
  obtain ⟨b, a, au, an, sf, served, -⟩ := State.dictWrite_done accepted
    (fun _ => if faultValid (fldN v 10 0) then none else some .outOfRange)
    (fun s => (if (s.src (fldN v 10 0)).st = .active then s.decision (fun s =>
      ((s.updSrc (fldN v 10 0) (fun x => { x with st := .held })).srcRecord (fldN v 10 0) 4).1) else s, .ok))
    (fun _ _ _ _ _ => if_pos valid)
  rw [State.storeVal_unstored (by decide)] at served
  exact ⟨b, a, au, an, sf, _, rfl, served⟩

theorem exec_faultAck_holds {q : Req} {role : Role} {v : Image} (accepted : s.mayWrite q role R.faultAck 0 0 v = true)
    (names : n = fldN v 10 0) (valid : faultValid n = true) (active : (s.src n).st = .active) (decides : s.decides = true) :
    ∃ t, exec (.faultAck q v) s = .next t ∧ t.src n = { s.src n with st := .held }
      ∧ t.faults.logSeq = (s.faults.logSeq + 1) % 2 ^ 32 := by
  subst names
  obtain ⟨b, a, au, an, sf, t, run, served⟩ := exec_faultAck accepted valid
  rw [if_pos active, State.decision_decides (s := s.taken b a au an sf) decides] at served
  obtain ⟨log, waiting, lost, record⟩ := State.srcRecord_eq
    ((s.taken b a au an sf).updSrc (fldN v 10 0) (fun x => { x with st := .held })) (fldN v 10 0) 4
  rw [record] at served
  refine ⟨t, run, ?_, ?_⟩
  · rw [served.src]
    exact State.src_setSrc_listed (s.taken b a au an sf) (fldN v 10 0) (x := { s.src (fldN v 10 0) with st := .held })
      (FaultSrc.listed_of_st nofun)
  · rw [served.faults]
    rfl

theorem exec_faultAck_idle {q : Req} {role : Role} {v : Image} (accepted : s.mayWrite q role R.faultAck 0 0 v = true)
    (names : n = fldN v 10 0) (valid : faultValid n = true) (other : (s.src n).st ≠ .active) :
    ∃ t, exec (.faultAck q v) s = .next t ∧ t.faults = s.faults := by
  subst names
  obtain ⟨b, a, au, an, sf, t, run, served⟩ := exec_faultAck accepted valid
  rw [if_neg other] at served
  exact ⟨t, run, served.faults⟩

/-- A FAULT_CLEAR of a source that is neither ACTIVE nor LATCHED closes its record where it is HELD, and is answered OK. -/
theorem exec_faultClear {q : Req} {role : Role} {v : Image} (accepted : s.mayWrite q role R.faultClear 0 0 v = true)
    (valid : faultValid (fldN v 10 0) = true) (free : ¬((s.src (fldN v 10 0)).st = .active ∨ (s.src (fldN v 10 0)).st = .latched)) :
    ∃ b a au an sf t, exec (.faultClear q v) s = .next t
      ∧ Served (if (s.src (fldN v 10 0)).st = .held then (s.taken b a au an sf).decision (fun s => s.closeSrc (fldN v 10 0) 6)
        else s.taken b a au an sf) t
      ∧ ∃ y, Out.fdp q.path y ∈ t.out ∧ y.status = .ok := by
  obtain ⟨b, a, au, an, sf, served, answered⟩ := State.dictWrite_done accepted
    (fun s => if !faultValid (fldN v 10 0) then some .outOfRange
      else if (s.src (fldN v 10 0)).st = .active ∨ (s.src (fldN v 10 0)).st = .latched then some .busy else none)
    (fun s => (if (s.src (fldN v 10 0)).st = .held then s.decision (fun s => s.closeSrc (fldN v 10 0) 6) else s, .ok))
    (fun _ _ _ _ _ => by
      rw [valid]
      exact if_neg free)
  rw [State.storeVal_unstored (by decide)] at served
  exact ⟨b, a, au, an, sf, _, rfl, served, answered rfl⟩

theorem exec_faultClear_held {q : Req} {role : Role} {v : Image} (accepted : s.mayWrite q role R.faultClear 0 0 v = true)
    (names : n = fldN v 10 0) (valid : faultValid n = true) (held : (s.src n).st = .held) (decides : s.decides = true)
    (rising : Table.risingFrom none s.faults.srcs = true) :
    ∃ t, exec (.faultClear q v) s = .next t ∧ t.src n = { window := (s.src n).window, recoveries := (s.src n).recoveries }
      ∧ t.faults.logSeq = (s.faults.logSeq + 1) % 2 ^ 32 ∧ ∃ y, Out.fdp q.path y ∈ t.out ∧ y.status = .ok := by
  subst names
  obtain ⟨b, a, au, an, sf, t, run, served, answered⟩ := exec_faultClear accepted valid (by simp [held])
  rw [if_pos held, State.decision_decides (s := s.taken b a au an sf) decides] at served
  obtain ⟨src, log⟩ := State.closeSrc_closes (s := s.taken b a au an sf) (n := fldN v 10 0) 6 (.inl rising)
  exact ⟨t, run, (served.src _).trans src, by rw [served.faults]; exact log, answered⟩

theorem exec_faultClear_idle {q : Req} {role : Role} {v : Image} (accepted : s.mayWrite q role R.faultClear 0 0 v = true)
    (names : n = fldN v 10 0) (valid : faultValid n = true) (idle : (s.src n).st = .idle) :
    ∃ t, exec (.faultClear q v) s = .next t ∧ t.faults = s.faults ∧ t.dict = s.dict ∧ ∃ y, Out.fdp q.path y ∈ t.out ∧ y.status = .ok := by
  subst names
  obtain ⟨b, a, au, an, sf, t, run, served, answered⟩ := exec_faultClear accepted valid (by simp [idle])
  rw [if_neg (by simp [idle])] at served
  exact ⟨t, run, served.faults, served.dict, answered⟩

theorem exec_faultClear_busy {q : Req} {role : Role} {v : Image} (accepted : s.mayWrite q role R.faultClear 0 0 v = true)
    (names : n = fldN v 10 0) (valid : faultValid n = true) (runs : (s.src n).st = .active ∨ (s.src n).st = .latched) :
    ∃ t, exec (.faultClear q v) s = .next t ∧ t.faults = s.faults ∧ t.dict = s.dict
      ∧ ∃ y, Out.fdp q.path y ∈ t.out ∧ y.status = .busy := by
  subst names
  obtain ⟨b, a, served, answered⟩ := State.dictWrite_refused accepted
    (fun s => if !faultValid (fldN v 10 0) then some .outOfRange
      else if (s.src (fldN v 10 0)).st = .active ∨ (s.src (fldN v 10 0)).st = .latched then some .busy else none)
    (fun s => (if (s.src (fldN v 10 0)).st = .held then s.decision (fun s => s.closeSrc (fldN v 10 0) 6) else s, .ok))
    (fun _ _ _ _ _ => by
      rw [valid]
      exact if_pos runs)
  exact ⟨_, rfl, served.faults, served.dict, answered⟩

/-- Settles O44: how a fault source moves, by one command of the collectors after another. -/
theorem faultsClimbTheLadder : Obligations.FaultsClimbTheLadder := by
  unfold Obligations.FaultsClimbTheLadder
  refine ⟨fun s n => exec_faultEvent_masked, fun s n r => exec_faultEvent_opens, fun s n r => exec_faultEvent_surrenders,
    fun s n => exec_faultEvent_open, fun s n => exec_squallWindowExpiry, fun s n => exec_wireFault, fun s n => exec_graceExpiry,
    fun s n => exec_lullExpiry, fun s q role v n => exec_faultAck_holds, fun s q role v n => exec_faultAck_idle, ?_, ?_⟩
  · intro s q role v n accepted names valid held decides rising
    obtain ⟨t, run, src, log, -⟩ := exec_faultClear_held accepted names valid held decides rising
    exact ⟨t, run, src, log⟩
  · intro s q role v n accepted names valid idle
    obtain ⟨t, run, faults, -⟩ := exec_faultClear_idle accepted names valid idle
    exact ⟨t, run, faults⟩

/-- Settles O55: FAULT_CLEAR by the state of its source. -/
theorem faultClearFollowsTheState : Obligations.FaultClearFollowsTheState := by
  unfold Obligations.FaultClearFollowsTheState
  refine ⟨?_, fun s q role v n => exec_faultClear_busy, fun s q role v n => exec_faultClear_idle⟩
  intro s q role v n accepted names valid held decides rising
  obtain ⟨t, run, src, -, answered⟩ := exec_faultClear_held accepted names valid held decides rising
  exact ⟨t, run, by rw [src], by rw [src], answered⟩

end Sys2Proof.Machine
end

section
/-! The pair (family 17): what adoption, surrender and the meeting of the partner do to the device (R507, R519–R524), and what settles
the statement on heartbeats and the alert pin. -/

namespace Sys2Proof.Machine

variable {s : State}

/-! Adoption and surrender -/

@[simp] theorem State.bumpRegions_control (s : State) : s.bumpRegions.control = s.control := by
  unfold State.bumpRegions
  exact foldl_control (fun t e => by split <;> simp) _ _

theorem State.setRegion_mem_out (s : State) (n : Nat) (v : Image) {o : Out} (sent : o ∈ s.out) : o ∈ (s.setRegion n v).out :=
  (Served.noteChange (s.setReg R.region 0 n v) false _).mem_out sent

/-- What was sent before the partner's regions are counted on is sent. -/
theorem State.bumpRegions_mem_out (s : State) : ∀ o ∈ s.out, o ∈ s.bumpRegions.out := by
  unfold State.bumpRegions
  generalize s.entriesOf R.region = l
  induction l generalizing s with
  | nil => exact fun o sent => sent
  | cons e l ih =>
    rw [List.foldl_cons]
    refine fun o sent => ih _ o ?_
    split
    · exact State.setRegion_mem_out _ _ _ sent
    · exact sent

theorem foldl_active {β : Type} {f : State → β → State} (h : ∀ s b, (f s b).active = s.active ∧ (f s b).out = s.out) (l : List β)
    (s : State) : (l.foldl f s).active = s.active ∧ (l.foldl f s).out = s.out := by
  induction l generalizing s with
  | nil => exact ⟨rfl, rfl⟩
  | cons b l ih =>
    obtain ⟨active, out⟩ := ih (f s b)
    exact ⟨active.trans (h s b).1, out.trans (h s b).2⟩

/-- The partner's slices are here as after a reset; its resync has ended. -/
def State.slicesForPartner (s : State) : State :=
  (List.range 256).foldl (fun s sl => if s.homed sl then s else s.setSlice sl {}) (s.opEnd 3 0 1)

@[simp] theorem State.slicesForPartner_control (s : State) : s.slicesForPartner.control = s.control := by
  unfold State.slicesForPartner
  rw [foldl_control (fun t sl => by split <;> simp)]
  exact State.opEnd_control ..

theorem State.slicesForPartner_keeps (s : State) : s.slicesForPartner.active = s.active ∧ s.slicesForPartner.out = s.out := by
  have ended : (s.opEnd 3 0 1).active = s.active ∧ (s.opEnd 3 0 1).out = s.out := by
    unfold State.opEnd
    split <;> exact ⟨rfl, rfl⟩
  obtain ⟨active, out⟩ := foldl_active (f := fun s sl => if s.homed sl then s else s.setSlice sl {})
    (fun t sl => by split <;> exact ⟨rfl, rfl⟩) (List.range 256) (s.opEnd 3 0 1)
  exact ⟨active.trans ended.1, out.trans ended.2⟩

/-- What of adoption the regions and slices have no part in: the device `u` holds the address. -/
def State.adoptsAs (u : State) (node : Node) (cause : Nat) : State :=
  { u with adopted := some node }.updTwin (fun t => { t with st := .adopting, adoptCause := cause, lead := true })

/-- Adoption's record and its notice. -/
def State.adoptNotice (u : State) (cause : Nat) : State :=
  let (s, r) := u.logRecord { kind := 10, detail := nodeDetail u.ownNode.twin cause }
  s.faultNotice 2 r

theorem State.adopt_adoptNotice (s : State) (cause : Nat) :
    s.adopt cause = (s.slicesForPartner.bumpRegions.adoptsAs s.slicesForPartner.ownNode.twin cause).adoptNotice cause := rfl

/-- Adoption is one change of the device whose regions are counted on, a record and the notice of it. -/
theorem State.adopt_eq (s : State) (cause : Nat) : ∃ (u : State) (log : Table FaultRec) (waiting : List FaultRec) (lost : Nat) (r : FaultRec),
    u.control = s.control ∧ (∀ o ∈ s.out, o ∈ u.out) ∧ s.adopt cause = ((u.adoptsAs s.ownNode.twin cause).updFaults
        (fun f => { f with logSeq := (f.logSeq + 1) % 2 ^ 32, log := log, waiting := waiting, lost := lost })).faultNotice 2 r := by
  have node : s.slicesForPartner.ownNode = s.ownNode := by
    simp only [State.ownNode, State.eff, (State.slicesForPartner_keeps s).1]
  have kept : s.slicesForPartner.bumpRegions.control = s.control := by simp
  have sent : ∀ o ∈ s.out, o ∈ s.slicesForPartner.bumpRegions.out := fun o sent =>
    (State.bumpRegions_mem_out s.slicesForPartner) o ((State.slicesForPartner_keeps s).2.symm ▸ sent)
  rw [State.adopt_adoptNotice, node]
  generalize s.slicesForPartner.bumpRegions = u at kept sent
  obtain ⟨log, waiting, lost, record⟩ := State.logRecord_eq (u.adoptsAs s.ownNode.twin cause)
    { kind := 10, detail := nodeDetail (u.adoptsAs s.ownNode.twin cause).ownNode.twin cause }
  refine ⟨u, log, waiting, lost, ((u.adoptsAs s.ownNode.twin cause).logRecord
    { kind := 10, detail := nodeDetail (u.adoptsAs s.ownNode.twin cause).ownNode.twin cause }).2, kept, sent, ?_⟩
  rw [← record]
  rfl

/-- The device that adopts holds the partner's address and leads, for a cause; of the controller no more changes but the fault log. -/
theorem State.adopt_control (s : State) (cause : Nat) : ∃ f, (s.adopt cause).control = { s.control with
    adopted := some s.ownNode.twin
    faults := f
    twin := { s.twin.course with st := .adopting, adoptCause := cause, lead := true } } := by
  obtain ⟨u, log, waiting, lost, r, kept, -, adopts⟩ := s.adopt_eq cause
  have course : u.twin.course = s.twin.course := congrArg Control.twin kept
  rw [adopts, State.faultNotice_control, ← course, ← kept]
  exact ⟨_, rfl⟩

theorem State.faultNotice_out (s : State) (kind : Nat) (r : FaultRec) : (s.faultNotice kind r).out = s.out := by
  unfold State.faultNotice
  split
  · rfl
  · split <;> rfl

theorem State.adopt_mem_out (s : State) (cause : Nat) {o : Out} (sent : o ∈ s.out) : o ∈ (s.adopt cause).out := by
  obtain ⟨u, log, waiting, lost, r, -, kept, adopts⟩ := s.adopt_eq cause
  rw [adopts, State.faultNotice_out]
  exact kept o sent

/-- The device that surrenders has no address of its own or of the partner's, and asks for adoption. -/
theorem State.surrender_control {s : State} (cause : Nat) (not_yet : s.twin.st ≠ .surrendered) :
    ∃ f, (s.surrender cause).control = { s.control with
      ownGone := true
      adopted := none
      faults := f
      twin := { s.twin.course with st := .surrendered, askCause := cause, copies := s.twin.copies ++ [.adopt, .adopt] } } := by
  have kept : (if s.twin.st = .joining then s.ownToTwin else s).haltTenants.control = s.control := by
    rw [State.haltTenants_control]
    split
    · exact State.ownToTwin_control s
    · rfl
  generalize asked : (if s.twin.st = .joining then s.ownToTwin else s).haltTenants = u at kept
  have course : u.twin.course = s.twin.course := congrArg Control.twin kept
  have copies : u.twin.copies = s.twin.copies := congrArg (fun c : Control => c.twin.copies) kept
  have surrenders : s.surrender cause = (({ u.alertThrice .adopt with ownGone := true, adopted := none }.updTwin
      (fun t => { t with st := .surrendered, askCause := cause })).logRecord
        { kind := 11, detail := nodeDetail ({ u.alertThrice .adopt with ownGone := true, adopted := none }.updTwin
          (fun t => { t with st := .surrendered, askCause := cause })).ownNode cause }).1 := by
    rw [← asked, State.surrender, if_neg not_yet]
  obtain ⟨log, waiting, lost, record⟩ := State.logRecord_eq _ _
  rw [surrenders, record, ← course, ← kept, ← copies]
  exact ⟨_, rfl⟩

/-! The meeting of the partner (R506, R507) -/

/-- What a heartbeat leaves of itself: the partner as it told, its presence, and the messages that came besides. -/
def State.heard (s : State) : Option Heartbeat × Bool × List (Nat × BypassMsg × Nat) := (s.twin.partner, s.twin.hb, s.bypassIn)

theorem State.heard_control (s : State) : s.heard = (s.control.twin.partner, s.control.twin.hb, s.control.bypassIn) := rfl

theorem State.heard_adopt (s : State) (cause : Nat) : (s.adopt cause).heard = s.heard := by
  obtain ⟨f, control⟩ := s.adopt_control cause
  rw [State.heard_control, control]
  rfl

theorem State.heard_surrender (s : State) (cause : Nat) : (s.surrender cause).heard = s.heard := by
  by_cases gone : s.twin.st = .surrendered
  · rw [State.surrender, if_pos gone]
  · obtain ⟨f, control⟩ := State.surrender_control cause gone
    rw [State.heard_control, control]
    rfl

/-- Opening the session and starting a resync leave the state and the lead. -/
theorem State.openPair_keeps (s : State) : s.openPair.heard = s.heard ∧ s.openPair.twin.st = s.twin.st ∧ s.openPair.twin.lead = s.twin.lead := by
  unfold State.openPair
  split <;> exact ⟨rfl, rfl, rfl⟩

theorem State.startResync_keeps (s : State) (restore : Bool) : (s.startResync restore).heard = s.heard
    ∧ (s.startResync restore).twin.st = s.twin.st ∧ (s.startResync restore).twin.lead = s.twin.lead := by
  unfold State.startResync
  split <;> exact ⟨rfl, rfl, rfl⟩

/-- After it a resync runs. -/
theorem State.startResync_runs (s : State) (restore : Bool) : (s.startResync restore).opActive 3 = true := by
  unfold State.startResync
  split
  · assumption
  · have started : ((s.opSet 3 0 2).op 3).st = 2 := by rw [State.op_opSet_same _ _ _ _ (by decide)]
    unfold State.opActive
    rw [State.op_updTwin, started]
    rfl

theorem State.heard_meetPartner (s : State) (b : Heartbeat) : (s.meetPartner b).heard = s.heard := by
  unfold State.meetPartner
  split
  · exact ((State.startResync_keeps ..).1.trans (State.openPair_keeps _).1).trans (State.heard_surrender ..)
  · split
    · rfl
    · exact (State.startResync_keeps ..).1.trans (State.openPair_keeps _).1

/-- The device has heard the heartbeat. -/
def State.hears (s : State) (b : Heartbeat) : State :=
  let t := s.updTwin (fun t => { t with partner := some b, hb := true })
  if b.alert = 1 ∧ (!s.twin.hb ∨ s.twin.partner.map (·.alert) ≠ some 1) then t.raise 0x523 else t

theorem State.hears_keeps (s : State) (b : Heartbeat) : (s.hears b).twin = { s.twin with partner := some b, hb := true }
    ∧ (s.hears b).bypassIn = s.bypassIn ∧ (s.hears b).active = s.active ∧ (s.hears b).dict = s.dict ∧ (s.hears b).faults = s.faults
    ∧ (s.hears b).straps = s.straps := by
  unfold State.hears
  dsimp only
  split <;> exact ⟨rfl, rfl, rfl, rfl, rfl, rfl⟩

/-- A heartbeat asks for adoption (R519). -/
def Heartbeat.asks (b : Heartbeat) : Bool := b.alert == 2 && (b.cause == 1 || b.cause == 2 || b.cause == 4 || b.cause == 5)

/-- What a device does about the heartbeat that it has heard. -/
def State.responds (s : State) (b : Heartbeat) (before : Option Heartbeat) (was : Bool) : State :=
  match s.twin.st with
  | .joining | .solo => s.meetPartner b
  | .surrendered =>
    if (before.bind (·.adopted)) = some s.ownNode ∧ b.adopted ≠ some s.ownNode then
      { s with ownGone := false }.updTwin (fun t => { t with st := .trail, lead := false, askCause := 0 })
    else s
  | .adopting => if b.state = 6 ∧ (!was ∨ before.map (·.state) ≠ some 6) then s.openPair.startResync false else s
  | _ => s

theorem State.onHeartbeat_eq (s : State) (b : Heartbeat) : s.onHeartbeat b =
    if b.asks = true ∧ (s.hears b).mayAdopt = true then (s.hears b).adopt b.cause
    else (s.hears b).responds b s.twin.partner s.twin.hb := rfl

theorem State.heard_responds (s : State) (b : Heartbeat) (before : Option Heartbeat) (was : Bool) :
    (s.responds b before was).heard = s.heard := by
  unfold State.responds
  split
  · exact State.heard_meetPartner ..
  · exact State.heard_meetPartner ..
  · split <;> rfl
  · split
    · exact (State.startResync_keeps ..).1.trans (State.openPair_keeps _).1
    · rfl
  · rfl

/-- The messages that waited for the link leave, and nothing else changes. -/
theorem Served.pairFlush (s : State) : Served s s.pairFlush := by
  have sends : ∀ (l : List PairMsg) (t : State), Served t (l.foldl (fun s m => s.emit (.pair m)) t) := by
    intro l
    induction l with
    | nil => exact fun t => .refl t
    | cons m l ih =>
      intro t
      have sent : Served t (t.emit (.pair m)) := ⟨⟨_, _, _, _, _, _, _, rfl⟩, rfl, rfl, [.pair m], rfl⟩
      exact sent.trans (ih _)
  unfold State.pairFlush
  split
  · exact (sends ..).trans ⟨⟨_, _, _, _, _, _, _, rfl⟩, rfl, rfl, [], rfl⟩
  · exact .refl _

theorem Served.heard {s t : State} (h : Served s t) : t.heard = s.heard := by
  rw [State.heard_control, h.control]
  rfl

theorem State.heard_onHeartbeat (s : State) (b : Heartbeat) : (s.onHeartbeat b).heard = (some b, true, s.bypassIn) := by
  have hears : (s.hears b).heard = (some b, true, s.bypassIn) := by
    obtain ⟨twin, bypassIn, -⟩ := s.hears_keeps b
    rw [State.heard, twin, bypassIn]
  rw [← hears, State.onHeartbeat_eq]
  split
  · exact State.heard_adopt ..
  · exact State.heard_responds ..

/-- What the adopting device's controller shows of the adoption. -/
theorem State.adopt_shows (s : State) (cause : Nat) : (s.adopt cause).twin.st = .adopting ∧ (s.adopt cause).twin.lead = true
    ∧ (s.adopt cause).twin.adoptCause = cause ∧ (s.adopt cause).adopted = some s.ownNode.twin := by
  obtain ⟨f, control⟩ := s.adopt_control cause
  generalize s.adopt cause = t at control ⊢
  exact ⟨congrArg (fun c : Control => c.twin.st) control, congrArg (fun c : Control => c.twin.lead) control,
    congrArg (fun c : Control => c.twin.adoptCause) control, congrArg (fun c : Control => c.adopted) control⟩

/-! The commands -/

theorem exec_twinHeartbeatSend (up : (s.link 48).st = .up) (speaks : s.faults.silent = false) (room : (s.link 48).bypassQ.length < 64) :
    ∃ t, exec .twinHeartbeatSend s = .next t ∧ (t.link 48).bypassQ = (s.link 48).bypassQ ++ [s.heartbeat.toMsg]
      ∧ t.twin = { s.twin with hbSeq := (s.twin.hbSeq + 1) % 256 } := by
  have queued : s.queueBypass 48 s.heartbeat.toMsg
      = s.setLink 48 { s.link 48 with bypassQ := (s.link 48).bypassQ ++ [s.heartbeat.toMsg] } := by
    unfold State.queueBypass
    simp only [up, reduceCtorEq, if_false, false_and, Nat.not_le.2 room]
  refine ⟨_, congrArg Host.Outcome.next (if_pos ⟨up, by simp [speaks]⟩), ?_, ?_⟩
  · rw [queued]
    refine congrArg Link.bypassQ (State.link_setLink_same s 48 _ fun none_ => ?_)
    exact List.append_ne_nil_of_right_ne_nil _ (List.cons_ne_nil _ _) (congrArg Link.bypassQ none_)
  · rw [queued]
    rfl

section
variable {m : BypassMsg} {tm : Nat} {b : Heartbeat}

theorem exec_twinHeartbeat (came : s.bypassIn.find? (fun b => b.1 = 48 ∧ b.2.1.type = 4) = some (48, m, tm)) :
    exec .twinHeartbeat s = .next ({ s with bypassIn := s.bypassIn.erase (48, m, tm) }.onHeartbeat (heartbeatOf m)).pairFlush := by
  change Host.Outcome.next _ = _
  rw [came]

theorem exec_twinHeartbeat_present (came : s.bypassIn.find? (fun b => b.1 = 48 ∧ b.2.1.type = 4) = some (48, m, tm)) :
    ∃ t, exec .twinHeartbeat s = .next t ∧ t.twin.partner = some (heartbeatOf m) ∧ t.twin.hb = true
      ∧ t.bypassIn = s.bypassIn.erase (48, m, tm) := by
  refine ⟨_, exec_twinHeartbeat came, ?_⟩
  have heard := (Served.pairFlush _).heard.trans
    (State.heard_onHeartbeat { s with bypassIn := s.bypassIn.erase (48, m, tm) } (heartbeatOf m))
  simp only [State.heard, Prod.mk.injEq] at heard
  exact heard

theorem exec_twinHeartbeat_adopts (came : s.bypassIn.find? (fun b => b.1 = 48 ∧ b.2.1.type = 4) = some (48, m, tm))
    (told : b = heartbeatOf m) (alert : b.alert = 2) (cause : b.cause ∈ [1, 2, 4, 5]) (shadow : s.twin.shadowValid = true)
    (st : s.twin.st ∈ [TwinSt.solo, .resync, .lead, .trail]) (speaks : s.faults.silent = false) (free : b.state ≠ 5) :
    ∃ t, exec .twinHeartbeat s = .next t ∧ t.twin.st = .adopting ∧ t.twin.lead = true ∧ t.twin.adoptCause = b.cause
      ∧ t.adopted = some s.ownNode.twin := by
  subst told
  refine ⟨_, exec_twinHeartbeat came, ?_⟩
  generalize from_ : ({ s with bypassIn := s.bypassIn.erase (48, m, tm) } : State) = u
  have twin : u.twin = s.twin := by rw [← from_]
  have faults : u.faults = s.faults := by rw [← from_]
  have node : u.ownNode = s.ownNode := by rw [← from_]; rfl
  obtain ⟨hears, -, active, -, faults', -⟩ := u.hears_keeps (heartbeatOf m)
  have asks : (heartbeatOf m).asks = true := by simpa [Heartbeat.asks, alert, or_assoc] using cause
  have may : (u.hears (heartbeatOf m)).mayAdopt = true := by
    simp only [State.mayAdopt, hears, faults', twin, faults, shadow, speaks]
    simpa [free, or_assoc] using st
  have node' : (u.hears (heartbeatOf m)).ownNode = s.ownNode := by rw [← node, State.ownNode, State.eff, active]; rfl
  obtain ⟨st, lead, adoptCause, adopted⟩ := (u.hears (heartbeatOf m)).adopt_shows (heartbeatOf m).cause
  rw [State.onHeartbeat_eq, if_pos ⟨asks, may⟩]
  generalize (u.hears (heartbeatOf m)).adopt (heartbeatOf m).cause = v at st lead adoptCause adopted ⊢
  have control := (Served.pairFlush v).control
  generalize v.pairFlush = w at control ⊢
  exact ⟨(State.twinSt_of_control control).trans st, (congrArg (fun c : Control => c.twin.lead) control).trans lead,
    (congrArg (fun c : Control => c.twin.adoptCause) control).trans adoptCause,
    (congrArg (fun c : Control => c.adopted) control).trans (adopted.trans (by rw [node']))⟩

theorem exec_twinHeartbeat_joins (came : s.bypassIn.find? (fun b => b.1 = 48 ∧ b.2.1.type = 4) = some (48, m, tm))
    (told : b = heartbeatOf m) (no_alert : b.alert ≠ 2) (joining : s.twin.st = .joining) (enrolled : s.enrolled = true)
    (free : b.adopted ≠ some s.ownNode) (knows : s.nodeValid = true ∨ b.state ≠ 5) :
    ∃ t, exec .twinHeartbeat s = .next t ∧ t.twin.st = .resync ∧ t.twin.lead = (b.state != 5 && !s.straps.twinSide)
      ∧ t.opActive 3 = true := by
  subst told
  refine ⟨_, exec_twinHeartbeat came, ?_⟩
  generalize from_ : ({ s with bypassIn := s.bypassIn.erase (48, m, tm) } : State) = u
  obtain ⟨hears, -, active, dict, -, straps⟩ := u.hears_keeps (heartbeatOf m)
  have joining' : u.twin.st = .joining := by rw [← from_]; exact joining
  have quiet : (heartbeatOf m).asks = false := by simp [Heartbeat.asks, no_alert]
  rw [State.onHeartbeat_eq, if_neg (by simp [quiet])]
  generalize u.hears (heartbeatOf m) = v at hears active dict straps
  have node : v.ownNode = s.ownNode := by rw [State.ownNode, State.eff, active, ← from_]; rfl
  have valid : v.nodeValid = s.nodeValid := by rw [State.nodeValid, State.eff, active, ← from_]; rfl
  have enrolled' : v.enrolled = true := by rw [State.enrolled, State.reg, dict, ← from_]; exact enrolled
  have side : v.straps = s.straps := by rw [straps, ← from_]
  have st : v.twin.st = .joining := by rw [hears]; exact joining'
  generalize responds : v.responds (heartbeatOf m) u.twin.partner u.twin.hb = w
  have met : w = ((v.updTwin (fun t => { t with
      st := .resync, lead := if (heartbeatOf m).state = 5 then false else !v.straps.twinSide })).openPair).startResync false := by
    rw [← responds, State.responds, st]
    dsimp only
    rw [State.meetPartner, if_neg, if_neg (by simp [enrolled'])]
    · simp only [st, beq_self_eq_true, Bool.true_or, if_true]
    · rintro (adopted | ⟨unknown, state⟩)
      · exact free (adopted.trans (by rw [node]))
      · rcases knows with known | other
        · rw [valid, known] at unknown
          exact absurd unknown (by decide)
        · exact other state
  have served := Served.pairFlush w
  have control := served.control
  obtain ⟨-, stR, leadR⟩ := State.startResync_keeps ((v.updTwin (fun t => { t with
    st := .resync, lead := if (heartbeatOf m).state = 5 then false else !v.straps.twinSide })).openPair) false
  obtain ⟨-, stO, leadO⟩ := State.openPair_keeps (v.updTwin (fun t => { t with
    st := .resync, lead := if (heartbeatOf m).state = 5 then false else !v.straps.twinSide }))
  refine ⟨?_, ?_, ?_⟩
  · rw [State.twinSt_of_control control, met, stR, stO]
    rfl
  · have lead : w.pairFlush.twin.lead = w.twin.lead := congrArg (fun c : Control => c.twin.lead) control
    rw [lead, met, leadR, leadO, side]
    change (if (heartbeatOf m).state = 5 then false else !s.straps.twinSide) = _
    by_cases adopting : (heartbeatOf m).state = 5 <;> simp [adopting]
  · have runs : w.opActive 3 = true := by rw [met]; exact State.startResync_runs ..
    rw [State.opActive, served.op]
    exact runs

end

theorem exec_heartbeatLost_beats (present : s.twin.hb = true) (beats : s.beats = true) (st : s.twin.st = .lead ∨ s.twin.st = .trail) :
    ∃ t, exec .heartbeatLost s = .next t ∧ t.twin = { s.twin with hb := false, session := false, st := .solo }
      ∧ t.wires = s.wires ++ [0x521] := by
  have beats' : (s.updTwin (fun t => { t with hb := false })).beats = true := beats
  have st' : (s.updTwin (fun t => { t with hb := false })).twin.st = .lead ∨ (s.updTwin (fun t => { t with hb := false })).twin.st = .trail := st
  have lost : s.heartbeatLost
      = (((s.updTwin (fun t => { t with hb := false })).raise 0x521).closePair).updTwin (fun t => { t with st := .solo }) := by
    unfold State.heartbeatLost
    simp only [present, beats', Bool.not_true, Bool.false_eq_true, if_false, if_true]
    exact if_pos st'
  exact ⟨_, rfl, by rw [lost]; rfl, by rw [lost]; rfl⟩

theorem exec_heartbeatLost_quiet (present : s.twin.hb = true) (no_beats : s.beats = false) (no_fault : s.twin.pinFault = false) :
    exec .heartbeatLost s = .next (s.updTwin (fun t => { t with hb := false })) := by
  have no_beats' : (s.updTwin (fun t => { t with hb := false })).beats = false := no_beats
  have no_fault' : (s.updTwin (fun t => { t with hb := false })).twin.pinFault = false := no_fault
  change Host.Outcome.next s.heartbeatLost = _
  unfold State.heartbeatLost
  simp only [present, no_beats', no_fault', Bool.not_true, Bool.false_eq_true, if_false]

theorem State.pulse_decoded {w lo hi : Nat} (above : lo ≤ w) (below : w ≤ hi) (k : State → State) :
    s.pulse w lo hi k = k (s.updTwin (fun t => { t with beatAt := some s.uptime })) := if_pos ⟨above, below⟩

theorem exec_beat_odd {w : Nat} (odd : w < 500 ∨ 2000 < w) :
    exec (.beat w) s = .next (s.updTwin (fun t => { t with oddPulses := t.oddPulses + 1 })) :=
  congrArg Host.Outcome.next (if_neg (by omega))

theorem exec_adoptPulse {w : Nat} (above : 15000 ≤ w) (below : w ≤ 30000) (absent : s.twin.hb = false) (may : s.mayAdopt = true) :
    ∃ t, exec (.adoptPulse w) s = .next t ∧ t.twin.st = .adopting ∧ t.twin.adoptCause = 3 ∧ t.adopted = some s.ownNode.twin
      ∧ t.twin.resetDue = (s.partnerReset == 2) := by
  have absent' : (!(s.updTwin (fun t => { t with beatAt := some s.uptime })).twin.hb) = true := by
    change (!s.twin.hb) = true
    rw [absent]
    rfl
  have may' : (s.updTwin (fun t => { t with beatAt := some s.uptime })).mayAdopt = true := may
  have node : (s.updTwin (fun t => { t with beatAt := some s.uptime })).ownNode = s.ownNode := rfl
  have policy : (s.updTwin (fun t => { t with beatAt := some s.uptime })).partnerReset = s.partnerReset := rfl
  have run : exec (.adoptPulse w) s = .next (((s.updTwin (fun t => { t with beatAt := some s.uptime })).adopt 3).updTwin
      (fun t => { t with resetDue := s.partnerReset == 2 })) := by
    change Host.Outcome.next (s.pulse w 15000 30000 _) = _
    rw [State.pulse_decoded above below]
    generalize s.updTwin (fun t => { t with beatAt := some s.uptime }) = u at absent' may' policy
    rw [if_pos ⟨absent', may'⟩, policy]
  obtain ⟨st, -, cause, adopted⟩ := (s.updTwin (fun t => { t with beatAt := some s.uptime })).adopt_shows 3
  rw [node] at adopted
  generalize (s.updTwin (fun t => { t with beatAt := some s.uptime })).adopt 3 = u at run st cause adopted
  exact ⟨_, run, st, cause, adopted, rfl⟩

theorem State.resetPartner_pulses (rested : s.pulsedLately = false) (speaks : s.faults.silent = false) : s.resetPartner
    = (s.emit (.resetOut (fldN (s.reg R.twinPolicy) 39 32))).updTwin (fun t => { t with resetAt := some s.uptime }) :=
  if_neg (by simp [rested, speaks])

theorem exec_silentPartner (absent : s.twin.hb = false) (no_fault : s.twin.pinFault = false) (auto : s.autoAdopt = true)
    (resets : s.partnerReset = 1 ∨ s.partnerReset = 2) (may : s.mayAdopt = true) (rested : s.pulsedLately = false) :
    ∃ t, exec .silentPartner s = .next t ∧ Out.resetOut (fldN (s.reg R.twinPolicy) 39 32) ∈ t.out ∧ t.twin.st = .adopting
      ∧ t.twin.adoptCause = 6 ∧ t.adopted = some s.ownNode.twin := by
  have speaks : s.faults.silent = false := by
    simp only [State.mayAdopt, Bool.and_eq_true, Bool.not_eq_true'] at may
    exact may.1.2
  generalize beaten : s.updTwin (fun t => { t with beatAt := none }) = u
  have here : u.twin.hb = false ∧ u.twin.pinFault = false ∧ u.autoAdopt = true ∧ (u.partnerReset = 1 ∨ u.partnerReset = 2)
      ∧ u.mayAdopt = true ∧ u.pulsedLately = false ∧ u.faults.silent = false := by
    rw [← beaten]
    exact ⟨absent, no_fault, auto, resets, may, rested, speaks⟩
  obtain ⟨absent', no_fault', auto', resets', may', rested', speaks'⟩ := here
  have node : u.ownNode = s.ownNode := by rw [← beaten]; rfl
  have policy : u.reg R.twinPolicy = s.reg R.twinPolicy := by rw [← beaten]; rfl
  have run : exec .silentPartner s = .next (u.resetPartner.adopt 6) := by
    have begins : (if s.twin.hb then s else s.updTwin (fun t => { t with beatAt := none })) = u := by
      rw [absent]
      exact beaten
    change execSilentPartner s = _
    unfold execSilentPartner
    dsimp only
    rw [begins, if_pos ⟨by simp [absent'], by simp [no_fault'], auto', resets', may'⟩]
  have pulses := State.resetPartner_pulses rested' speaks'
  have node' : u.resetPartner.ownNode = s.ownNode := by rw [pulses, ← node]; rfl
  have sent : Out.resetOut (fldN (s.reg R.twinPolicy) 39 32) ∈ u.resetPartner.out := by
    rw [pulses, policy]
    exact List.mem_cons_self
  obtain ⟨st, -, cause, adopted⟩ := u.resetPartner.adopt_shows 6
  exact ⟨_, run, State.adopt_mem_out _ _ sent, st, cause, adopted.trans (by rw [node'])⟩

theorem exec_failSilentResetDelay (due : s.twin.resetDue = true) (rested : s.pulsedLately = false) (speaks : s.faults.silent = false) :
    exec .failSilentResetDelay s = .next ((s.emit (.resetOut (fldN (s.reg R.twinPolicy) 39 32))).updTwin
      (fun t => { t with resetAt := some s.uptime, resetDue := false })) := by
  change Host.Outcome.next (if s.twin.resetDue then s.resetPartner.updTwin (fun t => { t with resetDue := false }) else s) = _
  rw [if_pos due, State.resetPartner_pulses rested speaks]
  rfl

/-- Settles O42: heartbeats, the alert pin, and the meeting and adoption of the partner. -/
theorem twinsHearEachOther : Obligations.TwinsHearEachOther := by
  unfold Obligations.TwinsHearEachOther
  exact ⟨fun s => exec_twinHeartbeatSend, fun s m tm => exec_twinHeartbeat_present, fun s m tm b => exec_twinHeartbeat_adopts,
    fun s m tm b => exec_twinHeartbeat_joins, fun s => exec_heartbeatLost_beats, fun s => exec_heartbeatLost_quiet,
    fun s joining absent => congrArg Host.Outcome.next (if_pos ⟨joining, by simp [absent]⟩),
    fun s speaks => congrArg Host.Outcome.next (if_neg (by simp [speaks])),
    fun s w above below => congrArg Host.Outcome.next (State.pulse_decoded above below _), fun s w => exec_beat_odd,
    fun s w above below => congrArg Host.Outcome.next (State.pulse_decoded above below _), fun s w => exec_adoptPulse,
    fun s p l waits => congrArg Host.Outcome.next (by rw [waits]), fun s => rfl, fun s => rfl, fun s => exec_silentPartner,
    fun s => exec_failSilentResetDelay⟩

end Sys2Proof.Machine
end

section
/-! The pair session (family 17): resync, comparison, mirrored writes and the commands of TWIN_CTL (R512–R517, R529–R530), and what
settles the statement on them. -/

namespace Sys2Proof.Machine

variable {s : State}

/-! Answers and the pair -/

/-- A write that no partner mirrors, and whose answer its effect does not owe, is answered where it took effect. -/
theorem State.dictRunR_answers {q : Req} {role : Role} {r : Reg} {i e : Nat} {v : Image}
    (accepted : s.mayWrite q role r i e v = true) (deny : Role → State → Bool) (chk : State → Option Fdp)
    (eff : State → State × Option Fdp) (life : State → Bool) {f : Fdp} (unmirrored : mirrorScope r i = none)
    (allowed : ∀ b a, deny role (s.taken b a s.mgmt.audit s.mgmt.auditNext s.mgmt.segFree) = false)
    (living : ∀ b a, life (s.taken b a s.mgmt.audit s.mgmt.auditNext s.mgmt.segFree) = false)
    (passes : ∀ b a au an sf, chk (s.taken b a au an sf) = none) (answers : ∀ t, (eff t).2 = some f) :
    ∃ b a au an sf, s.dictRunR q r i e v deny chk eff life
      = (eff ((s.taken b a au an sf).storeVal r i e v)).1.answer q (r.index i) (r.sub + if r.entries = 0 then e else 0) f := by
  obtain ⟨b, a, -, done⟩ := State.writeRun_judged accepted
    (fun _ _ _ => { deny := deny, life := life, chk := chk, eff := eff }) allowed living
  obtain ⟨au, an, sf, written⟩ := done (passes b a)
  refine ⟨b, a, au, an, sf, ?_⟩
  change s.writeRun q r i e [v] _ = _
  rw [written, answers, State.mirrored_unmirrored unmirrored]

@[simp] theorem State.answer_twin (s : State) (q : Req) (obj sub : Nat) (f : Fdp) (body : List Byte) :
    (s.answer q obj sub f body).twin = s.twin := by
  obtain ⟨m, o, c, tt, b, h, same⟩ := s.answer_after q obj sub f body
  rw [same]
  rfl

/-- What is sent to the partner waits, at most, in the box of what is to be sent. -/
theorem State.pairSend_twin (s : State) (m : PairMsg) : ∃ box, (s.pairSend m).twin = { s.twin with outbox := box } := by
  unfold State.pairSend
  split <;> exact ⟨_, rfl⟩

/-- Keys are left behind, and the partner is told where the session is open. -/
theorem State.leftBehind_twin (s : State) (keys : List Nat) : ∃ box, (s.leftBehind keys).twin = { s.twin with
    behind := s.twin.behind ++ (keys.filter (fun k => !s.twin.behind.contains k)).eraseDups, outbox := box } := by
  unfold State.leftBehind
  dsimp only
  split
  · obtain ⟨box, twin⟩ := State.pairSend_twin
      (s.updTwin (fun t => { t with behind := t.behind ++ (keys.filter (fun k => !t.behind.contains k)).eraseDups })) .behind
    exact ⟨box, twin⟩
  · exact ⟨_, rfl⟩

/-- A key that is left behind is among them. -/
theorem mem_leftBehind {k : Nat} {behind keys : List Nat} (left : k ∈ keys) :
    k ∈ behind ++ (keys.filter (fun k => !behind.contains k)).eraseDups := by
  by_cases already : k ∈ behind
  · exact List.mem_append_left _ already
  · exact List.mem_append_right _ (by simp [List.mem_eraseDups, left, already])

/-- The answer to a mirrored write takes it from those that wait. -/
theorem State.mirrorAnswer_twin (s : State) (m : Mirror) (f : Fdp) :
    (s.mirrorAnswer m f).twin = { s.twin with mirrors := s.twin.mirrors.erase m } := by
  unfold State.mirrorAnswer
  dsimp only
  split
  · rw [State.answer_twin]
    rfl
  · rfl

theorem State.mirrorAnswer_dict (s : State) (m : Mirror) (f : Fdp) : (s.mirrorAnswer m f).dict = s.dict := by
  unfold State.mirrorAnswer
  dsimp only
  split
  · exact (Served.answer ..).1.dict
  · rfl

/-! Resync (R514) -/

/-- Every operation's START grants the same rights. -/
theorem boolStart_denies (i : Nat) (role : Role) (old new : Image) :
    R.boolStart.denies i role old new = R.boolStart.denies 0 role old new := by
  have writable : R.boolStart.writable i role = R.boolStart.writable 0 role := by cases role <;> rfl
  unfold Reg.denies
  rw [writable]

theorem startBad_one : startBad 1 = false := by simp [startBad]

theorem exec_twinResync {q : Req} {role : Role} (accepted : s.mayOperate q role R.boolStart 1 3 0 = true)
    (leads : s.twin.st = .lead ∨ s.twin.st = .adopting) (session : s.twin.session = true)
    (restorable : fldN (s.reg R.resyncMode) 1 0 = 1 → s.twin.partner.map (·.state) = some 6) :
    ∃ t, exec (.twinResync q 1) s = .next t ∧ (t.op 3).st = 2 ∧ t.twin.restore = (fldN (s.reg R.resyncMode) 1 0 == 1)
      ∧ t.twin.joined = false := by
  obtain ⟨b, a, au, an, sf, -, run⟩ := State.opStart_runs 3 accepted (boolStart_denies 3 role 0 1) (fun _ => startBad 1)
    (fun s => !(s.twin.st == .lead || s.twin.st == .adopting) || !s.twin.session
      || (fldN (s.reg R.resyncMode) 1 0 == 1 && (s.twin.partner.map (·.state)) != some 6))
    (fun s =>
      let restore := fldN (s.reg R.resyncMode) 1 0 == 1
      ((s.updTwin (fun t => { t with restore := restore, joined := false })).pairSend (.resync restore), .ok))
    (fun _ _ => startBad_one) (fun _ _ => by
      change (!(s.twin.st == .lead || s.twin.st == .adopting) || !s.twin.session
        || (fldN (s.reg R.resyncMode) 1 0 == 1 && (s.twin.partner.map (·.state)) != some 6)) = false
      have may : (s.twin.st == .lead || s.twin.st == .adopting) = true := by simpa using leads
      rw [may, session]
      by_cases mode : fldN (s.reg R.resyncMode) 1 0 = 1
      · simp [restorable mode]
      · simp [mode])
  refine ⟨_, congrArg Host.Outcome.next run, ?_, ?_, ?_⟩
  · rw [(Served.answer ..).1.op, (Served.pairSend ..).op, State.op_updTwin, State.op_opSet_same _ _ _ _ (by decide)]
  · rw [State.answer_twin]
    obtain ⟨box, twin⟩ := State.pairSend_twin _ _
    rw [twin]
    rfl
  · rw [State.answer_twin]
    obtain ⟨box, twin⟩ := State.pairSend_twin _ _
    rw [twin]
    rfl

/-- A running operation that ends well is DONE, and no more changes. -/
theorem State.opEnd_done {k p : Nat} (runs : s.opActive k p = true) :
    ∃ ops, s.opEnd k p = { s with ops := ops } ∧ (Table.get {} ops (64 * k + p) : OpSt).st = 3 := by
  refine ⟨_, if_pos runs, ?_⟩
  have listed : ({ s.op k p with st := 3, runs := min ((s.op k p).runs + 1) (2 ^ 32 - 1) } : OpSt) ≠ {} := fun none_ => by
    have none_' := congrArg OpSt.st none_
    exact nomatch (none_' : 3 = 0)
  exact congrArg OpSt.st (Table.get_set_listed s.ops (64 * k + p) listed)

/-- The pair of a leader, or of a trailer, whose resync has completed with the partner's device-scope values. -/
def Twin.resynced (t : Twin) (ds : List Change) (lead : Bool) : Twin :=
  { t with
    gen := (t.gen + 1) % 65536, behind := [], joined := true, restore := false, shadowValid := t.restore.not || t.shadowValid,
    st := if t.st = .resync then (if lead then .lead else .trail) else t.st,
    shadow := if t.restore then t.shadow else putKeys [] (ds.filter (fun c => keyScope c.1 = some true)) }

theorem State.resyncDone_lead {ps ds : List Change} (runs : s.opActive 3 = true) (lead : s.twin.lead = true) :
    s.resyncDone ps ds = (s.updTwin (fun t => t.resynced ds true)).opEnd 3 0 := by
  have held : s.resyncDone ps ds = ((if s.twin.restore then s
      else s.updTwin (fun t => { t with shadow := putKeys [] (ds.filter (fun c => keyScope c.1 = some true)) })).updTwin (fun t => { t with
      gen := (t.gen + 1) % 65536, behind := [], joined := true, restore := false
      shadowValid := if s.twin.restore then t.shadowValid else true
      st := if t.st = .resync then (if t.lead then .lead else .trail) else t.st })).opEnd 3 0 := by
    unfold State.resyncDone
    simp only [runs, lead, Bool.not_true, Bool.false_eq_true, if_false, if_true]
  rw [held]
  refine congrArg (fun u : State => u.opEnd 3 0) ?_
  cases restore : s.twin.restore <;> simp [State.updTwin, Twin.resynced, restore, lead]

theorem State.resyncDone_trail {ps ds : List Change} (runs : s.opActive 3 = true) (trail : s.twin.lead = false)
    (resync : s.twin.restore = false) :
    s.resyncDone ps ds = ((s.replaceScope false ps).updTwin (fun t => t.resynced ds false)).opEnd 3 0 := by
  unfold State.resyncDone
  simp only [runs, trail, resync, Bool.not_true, Bool.false_eq_true, if_false]
  refine congrArg (fun u : State => u.opEnd 3 0) ?_
  have trail' : (s.replaceScope false ps).twin.lead = false := trail
  have resync' : (s.replaceScope false ps).twin.restore = false := resync
  simp [State.updTwin, Twin.resynced, resync', trail']

theorem exec_resyncComplete_lead {ps ds : List Change} (runs : s.opActive 3 = true) (lead : s.twin.lead = true) :
    ∃ t, exec (.resyncComplete ps ds) s = .next t ∧ t.dict = s.dict ∧ (t.op 3).st = 3
      ∧ t.twin = { s.twin with
        gen := (s.twin.gen + 1) % 65536, behind := [], joined := true, restore := false, shadowValid := s.twin.restore.not || s.twin.shadowValid,
        st := if s.twin.st = .resync then .lead else s.twin.st,
        shadow := if s.twin.restore then s.twin.shadow else putKeys [] (ds.filter (fun c => keyScope c.1 = some true)) } := by
  obtain ⟨ops, ends, st⟩ := State.opEnd_done (s := s.updTwin (fun t => t.resynced ds true)) (k := 3) (p := 0) runs
  refine ⟨_, congrArg Host.Outcome.next (State.resyncDone_lead runs lead), ?_, ?_, ?_⟩
  · rw [ends]
    rfl
  · rw [ends]
    exact st
  · rw [ends]
    rfl

theorem exec_resyncComplete_trail {ps ds : List Change} (runs : s.opActive 3 = true) (trail : s.twin.lead = false)
    (st : s.twin.st = .resync) (resync : s.twin.restore = false) :
    ∃ t, exec (.resyncComplete ps ds) s = .next t ∧ t.dict = (s.replaceScope false ps).dict ∧ t.twin.st = .trail
      ∧ t.twin.shadowValid = true ∧ (t.op 3).st = 3 := by
  obtain ⟨ops, ends, done⟩ := State.opEnd_done (s := (s.replaceScope false ps).updTwin (fun t => t.resynced ds false)) (k := 3) (p := 0) runs
  refine ⟨_, congrArg Host.Outcome.next (State.resyncDone_trail runs trail resync), ?_, ?_, ?_, ?_⟩
  · rw [ends]
    rfl
  · rw [ends]
    exact if_pos st
  · rw [ends]
    change (s.twin.restore.not || s.twin.shadowValid) = true
    rw [resync]
    rfl
  · rw [ends]
    exact done

/-! Comparison (R515–R517) -/

theorem State.rising_setReg (rising : Table.risingFrom none s.dict = true) (r : Reg) (i e : Nat) (v : Image) :
    Table.risingFrom none (s.setReg r i e v).dict = true := Table.rising_set _ _ _ rising

/-- A mismatch is counted, logged and told; a hot one raises its source. -/
theorem State.mismatch_eq (s : State) (r : Reg) (i e : Nat) (hot device : Bool) :
    (s.mismatch r i e hot device).twin = (if hot then { s.twin with hot := min 65535 (s.twin.hot + 1) }
        else { s.twin with cold := min 65535 (s.twin.cold + 1) })
      ∧ (s.mismatch r i e hot device).wires = (if hot then s.wires ++ [0x522] else s.wires)
      ∧ (Table.risingFrom none s.dict = true → Table.risingFrom none (s.mismatch r i e hot device).dict = true) := by
  unfold State.mismatch
  dsimp only
  generalize BitVec.ofNat 1024 _ = v
  generalize (FaultRec.mk _ _ _ _ _ _ _ _ _) = record
  obtain ⟨log, waiting, lost, logged⟩ := State.logRecord_eq (s.setReg R.twinMismatch 0 0 v) record
  rw [logged]
  have rising := fun rising : Table.risingFrom none s.dict = true => State.rising_setReg rising R.twinMismatch 0 0 v
  cases hot with
  | true => exact ⟨rfl, rfl, rising⟩
  | false => exact ⟨rfl, rfl, rising⟩

/-- What a sweep does with the one entry that differs. -/
theorem exec_compareSweep {d : Diff} (st : s.twin.st = .lead ∨ s.twin.st = .trail) :
    exec (.compareSweep [d]) s = .next ((s.compareEntry d).updTwin (fun t => { t with routeRefs := [], keyRefs := [] })) :=
  congrArg Host.Outcome.next (if_pos st)

/-- An entry of the pair's objects whose copies differ, with no write to it on its way, is a mismatch. -/
theorem State.compareEntry_pair {d : Diff} {r : Reg} {i e : Nat} (names : objectOf d.key = some (r, i, e)) (pair : d.owner = .pair)
    (scope : mirrorScope r i = some false) (settled : s.twin.mirrors = [])
    (differs : sameEntry r (Table.get (keyDefault d.key) s.dict d.key) d.value = false) :
    s.compareEntry d = if d.ref || s.referenced r i e (Table.get (keyDefault d.key) s.dict d.key) || s.referenced r i e d.value
      then s.mismatch r i e true false else (s.mismatch r i e false false).correctEntry d := by
  have copy : s.copyOf d = Table.get (keyDefault d.key) s.dict d.key := by
    unfold State.copyOf
    rw [pair]
  unfold State.compareEntry
  rw [names]
  dsimp only
  rw [copy, pair, settled, scope, differs]
  cases d.ref || s.referenced r i e (Table.get (keyDefault d.key) s.dict d.key) || s.referenced r i e d.value <;> rfl

theorem exec_compareSweep_hot {d : Diff} {r : Reg} {i e : Nat} (st : s.twin.st = .lead ∨ s.twin.st = .trail)
    (names : objectOf d.key = some (r, i, e)) (pair : d.owner = .pair) (ref : d.ref = true) (scope : mirrorScope r i = some false)
    (settled : s.twin.mirrors = []) (differs : sameEntry r (Table.get (keyDefault d.key) s.dict d.key) d.value = false) :
    ∃ t, exec (.compareSweep [d]) s = .next t ∧ t.wires = s.wires ++ [0x522]
      ∧ t.twin = { s.twin with hot := min 65535 (s.twin.hot + 1), routeRefs := [], keyRefs := [] } := by
  obtain ⟨twin, wires, -⟩ := s.mismatch_eq r i e true false
  refine ⟨_, exec_compareSweep st, ?_⟩
  rw [State.compareEntry_pair names pair scope settled differs, ref, Bool.true_or, Bool.true_or, if_pos rfl]
  refine ⟨wires, ?_⟩
  change ({ (s.mismatch r i e true false).twin with routeRefs := [], keyRefs := [] } : Twin) = _
  rw [twin]
  rfl

theorem exec_compareSweep_cold {d : Diff} {r : Reg} {i e : Nat} (st : s.twin.st = .trail)
    (names : objectOf d.key = some (r, i, e)) (pair : d.owner = .pair) (ref : d.ref = false) (scope : mirrorScope r i = some false)
    (settled : s.twin.mirrors = []) (differs : sameEntry r (Table.get (keyDefault d.key) s.dict d.key) d.value = false)
    (unused : s.referenced r i e (Table.get (keyDefault d.key) s.dict d.key) = false) (unused' : s.referenced r i e d.value = false)
    (whole : keyValue d.key d.value = d.value) (rising : Table.risingFrom none s.dict = true) :
    ∃ t, exec (.compareSweep [d]) s = .next t ∧ t.wires = s.wires ∧ Table.get (keyDefault d.key) t.dict d.key = d.value
      ∧ t.twin = { s.twin with cold := min 65535 (s.twin.cold + 1), routeRefs := [], keyRefs := [] } := by
  obtain ⟨twin, wires, rising'⟩ := s.mismatch_eq r i e false false
  have corrects : s.compareEntry d = (s.mismatch r i e false false).setKey d.key d.value := by
    rw [State.compareEntry_pair names pair scope settled differs, ref, unused, unused', Bool.or_false, Bool.or_false,
      if_neg Bool.false_ne_true, State.correctEntry, if_neg (by rw [twin]; simp [st]), if_neg (by simp [pair])]
  refine ⟨_, exec_compareSweep (.inr st), ?_⟩
  rw [corrects]
  generalize s.mismatch r i e false false = u at twin wires rising'
  refine ⟨wires, ?_, ?_⟩
  · change Table.get (keyDefault d.key) (Table.set (keyDefault d.key) u.dict d.key (keyValue d.key d.value)) d.key = d.value
    rw [whole]
    exact Table.get_set_rising _ _ _ (rising' rising)
  · change ({ u.twin with routeRefs := [], keyRefs := [] } : Twin) = _
    rw [twin]
    rfl

/-! Mirrored writes (R512) -/

theorem State.setKeys_twin (l : List Change) (s : State) : (l.foldl (fun s c => s.setKey c.1 c.2) s).twin = s.twin := by
  induction l generalizing s with
  | nil => rfl
  | cons c l ih => exact (ih _).trans rfl

theorem exec_mirrorConfirmTimeout {m : Mirror} {l : List Mirror} (waits : s.twin.mirrors = m :: l) :
    ∃ t, exec .mirrorConfirmTimeout s = .next t ∧ t.twin.mirrors = l ∧ ∀ c ∈ m.changes, c.1 ∈ t.twin.behind := by
  generalize applied : (if m.passed then m.changes.foldl (fun s c => s.setKey c.1 c.2) s else s) = u
  have twin : u.twin = s.twin := by
    rw [← applied]
    split
    · exact State.setKeys_twin ..
    · rfl
  have run : exec .mirrorConfirmTimeout s = .next ((u.leftBehind (m.changes.map (·.1))).mirrorAnswer m m.status) := by
    rw [← applied]
    change execMirrorConfirmTimeout s = _
    unfold execMirrorConfirmTimeout
    rw [waits]
  obtain ⟨box, left⟩ := u.leftBehind_twin (m.changes.map (·.1))
  refine ⟨_, run, ?_⟩
  rw [State.mirrorAnswer_twin, left, twin, waits]
  exact ⟨List.erase_cons_head .., fun c changed => mem_leftBehind (List.mem_map_of_mem changed)⟩

theorem exec_mirroredWrite_open {m : PairMsg} (session : s.twin.session = true) (serves : s.serving = true) :
    exec (.mirroredWrite m) s = .next (s.pairMessage m) := congrArg Host.Outcome.next (if_pos ⟨session, serves⟩)

theorem exec_mirroredWrite_closed {m : PairMsg} (closed : s.twin.session = false ∨ s.serving = false) :
    exec (.mirroredWrite m) s = .next s := by
  refine congrArg Host.Outcome.next (if_neg ?_)
  rintro ⟨session, serves⟩
  rcases closed with closed | closed
  · simp [closed] at session
  · simp [closed] at serves

theorem exec_mirroredWrite_confirm {c : List Change} {m : Mirror} (session : s.twin.session = true) (serves : s.serving = true)
    (waits : s.twin.mirrors.find? (fun m => m.passed = false ∧ m.changes = c) = some m) :
    ∃ t, exec (.mirroredWrite (.confirm c)) s = .next t ∧ t.twin.mirrors = s.twin.mirrors.erase m ∧ t.dict = s.dict := by
  have confirms : s.pairMessage (.confirm c) = s.mirrorAnswer m m.status := by
    change s.pairAnswer false c none = _
    unfold State.pairAnswer
    rw [waits]
    rfl
  refine ⟨_, exec_mirroredWrite_open session serves, ?_⟩
  rw [confirms, State.mirrorAnswer_twin, State.mirrorAnswer_dict]
  exact ⟨rfl, rfl⟩

/-! TWIN_CTL (Table TWN-14) -/

/-- A twin command that nothing refuses has its effect, and is answered. -/
theorem State.twinCtlWrite_does {q : Req} {role : Role} {v : Image} {c : Nat} (accepted : s.mayWrite q role R.twinCtl 0 0 (setFld v 3 0 c) = true)
    (command : 1 ≤ c ∧ c ≤ 5) (allowed : 4 ≤ c → role = .installer) (free : s.twinBusy c = false) :
    ∃ b a au an sf, s.twinCtlWrite q (setFld v 3 0 c)
      = ((s.taken b a au an sf).twinDo c).answer q (R.twinCtl.index 0) R.twinCtl.sub .ok := by
  have names : fldN (setFld v 3 0 c) 3 0 = c := fldN_setFld_same v (by decide) (by decide) (by omega)
  obtain ⟨b, a, au, an, sf, written⟩ := State.dictRunR_answers accepted
    (fun role _ => (c == 4 || c == 5) && role != .installer)
    (fun s => if c = 0 ∨ 5 < c then some .outOfRange else if s.twinBusy c then some .busy else none)
    (fun s => (s.twinDo c, some .ok)) (fun _ => false) (f := .ok) (by decide)
    (fun _ _ => by
      by_cases restricted : 4 ≤ c
      · simp [allowed restricted]
      · simp [show c ≠ 4 by omega, show c ≠ 5 by omega])
    (fun _ _ => rfl)
    (fun b a au an sf => by
      have free' : (s.taken b a au an sf).twinBusy c = false := free
      rw [if_neg (by omega), free']
      rfl)
    (fun _ => rfl)
  refine ⟨b, a, au, an, sf, ?_⟩
  rw [State.storeVal_unstored (by decide)] at written
  unfold State.twinCtlWrite
  dsimp only
  rw [names]
  exact written

section
variable {q : Req} {role : Role} {v x : Image}

theorem exec_detach (command : x = setFld v 3 0 1) (accepted : s.mayWrite q role R.twinCtl 0 0 x = true) (free : s.twinBusy 1 = false) :
    ∃ t, exec (.detach q v) s = .next t ∧ t.twin.st = .surrendered ∧ t.twin.askCause = 4 ∧ t.ownGone = true := by
  subst command
  obtain ⟨b, a, au, an, sf, run⟩ := State.twinCtlWrite_does accepted (by decide) (fun high => absurd high (by decide)) free
  have stands : (s.taken b a au an sf).twin.st ≠ .surrendered := fun gone => by
    have gone' : s.twin.st = .surrendered := gone
    simp [State.twinBusy, gone'] at free
  have does : (s.taken b a au an sf).twinDo 1 = (s.taken b a au an sf).surrender 4 := rfl
  obtain ⟨f, control⟩ := State.surrender_control 4 stands
  rw [does] at run
  refine ⟨_, congrArg Host.Outcome.next run, ?_⟩
  generalize (s.taken b a au an sf).surrender 4 = u at control ⊢
  rw [State.answer_twin, (Served.answer ..).1.ownGone]
  exact ⟨congrArg (fun c : Control => c.twin.st) control, congrArg (fun c : Control => c.twin.askCause) control,
    congrArg (fun c : Control => c.ownGone) control⟩

theorem exec_handback (command : x = setFld v 3 0 2) (accepted : s.mayWrite q role R.twinCtl 0 0 x = true) (free : s.twinBusy 2 = false) :
    ∃ t, exec (.handback q v) s = .next t ∧ t.adopted = none ∧ t.twin.st = .lead ∧ t.twin.lead = true ∧ t.twin.adoptCause = 0 := by
  subst command
  obtain ⟨b, a, au, an, sf, run⟩ := State.twinCtlWrite_does accepted (by decide) (fun high => absurd high (by decide)) free
  refine ⟨_, congrArg Host.Outcome.next run, ?_⟩
  rw [State.answer_twin, (Served.answer ..).1.adopted]
  exact ⟨rfl, rfl, rfl, rfl⟩

theorem exec_leadSwap (command : x = setFld v 3 0 3) (accepted : s.mayWrite q role R.twinCtl 0 0 x = true) (free : s.twinBusy 3 = false) :
    ∃ t, exec (.leadSwap q v) s = .next t ∧ t.twin.lead = !s.twin.lead
      ∧ t.twin.st = (if s.twin.st = .lead then TwinSt.trail else .lead) := by
  subst command
  obtain ⟨b, a, au, an, sf, run⟩ := State.twinCtlWrite_does accepted (by decide) (fun high => absurd high (by decide)) free
  obtain ⟨box, sent⟩ := State.pairSend_twin (s.taken b a au an sf) .leadSwap
  have does : (s.taken b a au an sf).twinDo 3 = ((s.taken b a au an sf).pairSend .leadSwap).swapLead := rfl
  have twin : (((s.taken b a au an sf).pairSend .leadSwap).swapLead).twin = { s.twin with
      outbox := box, lead := !s.twin.lead, st := if s.twin.st = .lead then .trail else if s.twin.st = .trail then .lead else s.twin.st } := by
    change ({ ((s.taken b a au an sf).pairSend .leadSwap).twin with lead := _, st := _ } : Twin) = _
    rw [sent]
    rfl
  refine ⟨_, congrArg Host.Outcome.next run, ?_⟩
  rw [State.answer_twin, does, twin]
  refine ⟨rfl, ?_⟩
  by_cases lead : s.twin.st = .lead
  · simp [lead]
  · have trail : s.twin.st = .trail := by
      simp only [State.twinBusy, Bool.not_eq_false', Bool.and_eq_true, Bool.or_eq_true, beq_iff_eq] at free
      exact free.1.resolve_left lead
    simp [trail]

theorem exec_adopt (command : x = setFld v 3 0 4) (accepted : s.mayWrite q .installer R.twinCtl 0 0 x = true) (free : s.twinBusy 4 = false) :
    ∃ t, exec (.adopt q v) s = .next t ∧ t.twin.st = .adopting ∧ t.twin.lead = true ∧ t.twin.adoptCause = 7
      ∧ t.adopted = some s.ownNode.twin := by
  subst command
  obtain ⟨b, a, au, an, sf, run⟩ := State.twinCtlWrite_does accepted (by decide) (fun _ => rfl) free
  generalize reset : (if ((s.taken b a au an sf).partnerReset = 1 ∨ (s.taken b a au an sf).partnerReset = 2)
    ∧ !(s.taken b a au an sf).twin.hb then (s.taken b a au an sf).resetPartner else s.taken b a au an sf) = u
  have does : (s.taken b a au an sf).twinDo 4 = u.adopt 7 := by rw [← reset]; rfl
  have node : u.ownNode = s.ownNode := by
    rw [← reset]
    split
    · unfold State.resetPartner
      split <;> rfl
    · rfl
  obtain ⟨st, lead, cause, adopted⟩ := u.adopt_shows 7
  refine ⟨_, congrArg Host.Outcome.next run, ?_⟩
  rw [does, State.answer_twin, (Served.answer ..).1.adopted, ← node]
  exact ⟨st, lead, cause, adopted⟩

theorem exec_partnerReset (command : x = setFld v 3 0 5) (accepted : s.mayWrite q .installer R.twinCtl 0 0 x = true)
    (free : s.twinBusy 5 = false) (speaks : s.faults.silent = false) :
    ∃ t, exec (.partnerReset q v) s = .next t ∧ Out.resetOut (fldN (s.reg R.twinPolicy) 39 32) ∈ t.out
      ∧ t.twin = { s.twin with resetAt := some s.uptime } := by
  subst command
  obtain ⟨b, a, au, an, sf, run⟩ := State.twinCtlWrite_does accepted (by decide) (fun _ => rfl) free
  have does : (s.taken b a au an sf).twinDo 5 = _ := State.resetPartner_pulses (s := s.taken b a au an sf) free speaks
  refine ⟨_, congrArg Host.Outcome.next run, ?_⟩
  rw [State.answer_twin, does]
  refine ⟨(Served.answer ..).1.mem_out ?_, rfl⟩
  exact List.mem_cons_self

end

/-- Settles O43: resync, comparison, mirrored writes and the commands of TWIN_CTL. -/
theorem twinsStayAlike : Obligations.TwinsStayAlike := by
  unfold Obligations.TwinsStayAlike
  exact ⟨fun s q role => exec_twinResync, fun s ps ds => exec_resyncComplete_lead, fun s ps ds => exec_resyncComplete_trail,
    fun s d r i e => exec_compareSweep_hot, fun s d r i e => exec_compareSweep_cold, fun s m l => exec_mirrorConfirmTimeout,
    fun s q role v x => exec_detach, fun s q role v x => exec_handback, fun s q role v x => exec_leadSwap, fun s q v x => exec_adopt,
    fun s q v x => exec_partnerReset, fun s c => exec_mirroredWrite_open, fun s => exec_mirroredWrite_open,
    fun s => exec_mirroredWrite_open, fun s c m => exec_mirroredWrite_confirm, fun s m => exec_mirroredWrite_closed⟩

end Sys2Proof.Machine
end

section
/-! What requests to host memory, signals and events move (families 12 to 16, the laws that their statements share): the host side, the
counters, the draws and what is sent, and nothing of translation, messaging, remote memory, collectives or service mode. -/

namespace Sys2Proof.Machine

/-- `t` has asked host memory, signalled or told where `s` stood: the host side, counters, draws and what is sent apart, it is `s`. -/
structure Told (s t : State) : Prop where
  same : ∃ d o c tt h, t = { s with draws := d, out := o, counters := c, totals := tt, host := h }
  out  : ∃ more, t.out = more ++ s.out

section
variable {s t u : State}

theorem Told.refl (s : State) : Told s s := ⟨⟨_, _, _, _, _, rfl⟩, [], rfl⟩

theorem Told.trans (h : Told s t) (next : Told t u) : Told s u := by
  obtain ⟨⟨d, o, c, tt, ho, same⟩, more, out⟩ := h
  obtain ⟨⟨d', o', c', tt', ho', same'⟩, more', out'⟩ := next
  refine ⟨⟨d', o', c', tt', ho', ?_⟩, more' ++ more, ?_⟩
  · rw [same', same]
  · rw [out', out, List.append_assoc]

theorem Told.mem_out (h : Told s t) {o : Out} (sent : o ∈ s.out) : o ∈ t.out := by
  obtain ⟨more, out⟩ := h.out
  rw [out]
  exact List.mem_append_right more sent

theorem Told.dict (h : Told s t) : t.dict = s.dict := by obtain ⟨d, o, c, tt, ho, rfl⟩ := h.same; rfl
theorem Told.active (h : Told s t) : t.active = s.active := by obtain ⟨d, o, c, tt, ho, rfl⟩ := h.same; rfl
theorem Told.wires (h : Told s t) : t.wires = s.wires := by obtain ⟨d, o, c, tt, ho, rfl⟩ := h.same; rfl
theorem Told.built (h : Told s t) : t.built = s.built := by obtain ⟨d, o, c, tt, ho, rfl⟩ := h.same; rfl
theorem Told.mgmt (h : Told s t) : t.mgmt = s.mgmt := by obtain ⟨d, o, c, tt, ho, rfl⟩ := h.same; rfl
theorem Told.ops (h : Told s t) : t.ops = s.ops := by obtain ⟨d, o, c, tt, ho, rfl⟩ := h.same; rfl
theorem Told.counting (h : Told s t) : t.counting = s.counting := by obtain ⟨d, o, c, tt, ho, rfl⟩ := h.same; rfl
theorem Told.trans_ (h : Told s t) : t.trans = s.trans := by obtain ⟨d, o, c, tt, ho, rfl⟩ := h.same; rfl
theorem Told.remote (h : Told s t) : t.remote = s.remote := by obtain ⟨d, o, c, tt, ho, rfl⟩ := h.same; rfl
theorem Told.colls (h : Told s t) : t.colls = s.colls := by obtain ⟨d, o, c, tt, ho, rfl⟩ := h.same; rfl
theorem Told.service (h : Told s t) : t.service = s.service := by obtain ⟨d, o, c, tt, ho, rfl⟩ := h.same; rfl
theorem Told.arrived (h : Told s t) : t.arrived = s.arrived := by obtain ⟨d, o, c, tt, ho, rfl⟩ := h.same; rfl
theorem Told.rings (h : Told s t) : t.rings = s.rings := by obtain ⟨d, o, c, tt, ho, rfl⟩ := h.same; rfl
theorem Told.twin (h : Told s t) : t.twin = s.twin := by obtain ⟨d, o, c, tt, ho, rfl⟩ := h.same; rfl
theorem Told.time (h : Told s t) : t.time = s.time := by obtain ⟨d, o, c, tt, ho, rfl⟩ := h.same; rfl
theorem Told.reg (h : Told s t) (r : Reg) (i e : Nat) : t.reg r i e = s.reg r i e := by simp only [State.reg, h.dict]
theorem Told.eff (h : Told s t) (r : Reg) (i e : Nat) : t.eff r i e = s.eff r i e := by simp only [State.eff, h.active]

end

variable (s : State)

theorem Told.updHost (f : HostSide → HostSide) : Told s (s.updHost f) := ⟨⟨_, _, _, _, _, rfl⟩, [], rfl⟩
theorem Told.emit (o : Out) : Told s (s.emit o) := ⟨⟨_, _, _, _, _, rfl⟩, [o], rfl⟩
theorem Told.drawn : Told s s.drawn := ⟨⟨_, _, _, _, _, rfl⟩, [], rfl⟩
theorem Told.count (n k : Nat) : Told s (s.count n k) := ⟨⟨_, _, _, _, _, rfl⟩, [], rfl⟩
theorem Told.countSlice (sl e k : Nat) : Told s (s.countSlice sl e k) := Told.count ..
theorem Told.countDev (e k : Nat) : Told s (s.countDev e k) := Told.count ..

/-! Requests (R277, R346) -/

theorem Told.exitL1 (k l : Nat) : Told s (s.exitL1 k l) := by
  unfold State.exitL1
  dsimp only
  split
  · have left : Told s (s.updHlink k l (fun x => { x with leaving := true })) := ⟨⟨_, _, _, _, _, rfl⟩, [], rfl⟩
    exact left.trans (.emit ..)
  · exact .refl s

theorem Told.wake (f : Nat) : Told s (s.wake f) := by
  unfold State.wake
  dsimp only
  split
  · exact .refl s
  · split
    · exact (Told.updHost s _).trans (.exitL1 ..)
    · exact .updHost ..

theorem Told.request (b : Burst) : Told s (s.request b) := (Told.updHost s _).trans (.wake ..)

theorem Told.msix (f v sl key : Nat) : Told s (s.msix f v sl key) := by
  unfold State.msix
  dsimp only
  split
  · exact .updHost ..
  · exact .request ..

theorem Told.hostWriteN (b : Burst) (n : Nat) (data : List Byte) : Told s (s.hostWriteN b n data) := by
  induction n generalizing s b data with
  | zero => exact .refl s
  | succ n ih =>
    unfold State.hostWriteN
    split
    · exact .refl s
    · exact (Told.request s _).trans (ih ..)

theorem Told.hostWrite (b : Burst) (data : List Byte) : Told s (s.hostWrite b data) := .hostWriteN ..
theorem Told.ringWrite (kind n f sl addr key : Nat) (data : List Byte) : Told s (s.ringWrite kind n f sl addr key data) := .hostWrite ..

theorem Told.hostReadN (b : Burst) (n off len : Nat) : Told s (s.hostReadN b n off len).1 := by
  induction n generalizing s b off len with
  | zero => exact .refl s
  | succ n ih =>
    unfold State.hostReadN
    split
    · exact .refl s
    · exact (Told.request s _).trans (ih ..)

/-! Contexts and events (R286, R314, R315) -/

theorem Told.useContext (k : Nat) : Told s (s.useContext k) := by
  unfold State.useContext
  dsimp only
  have used := Told.updHost s (fun h => { h with cached :=
    k :: (if (s.host.cached.filter (fun x => x ≠ k)).length < 8192 then s.host.cached.filter (fun x => x ≠ k)
      else (s.host.cached.filter (fun x => x ≠ k)).dropLast) })
  split
  · exact used
  · exact (used.trans (.drawn _)).trans (.hostWrite ..)

theorem Told.loadContext (k : Nat) : Told s (s.loadContext k) := by
  unfold State.loadContext
  dsimp only
  split
  · exact .refl s
  · exact .hostReadN ..

theorem Told.putEq (n : Nat) (e : Eq) : Told s (s.putEq n e) := .updHost ..

theorem Told.writeEvent (n type source detail key : Nat) : Told s (s.writeEvent n type source detail key) := by
  unfold State.writeEvent
  split
  · exact .refl s
  · exact ((Told.ringWrite ..).trans (.ringWrite ..)).trans (.putEq ..)

theorem Told.fireEq (n key : Nat) : Told s (s.fireEq n key) := by
  unfold State.fireEq
  split
  · exact .refl s
  · split
    · exact (Told.putEq s _ _).trans (.msix ..)
    · exact .refl s

theorem Told.overrunEvent (n : Nat) : Told s (s.overrunEvent n) := by
  unfold State.overrunEvent
  split
  · exact .refl s
  · split
    · exact (Told.putEq s _ _).trans (.writeEvent ..)
    · exact .refl s

theorem Told.event (n type source detail key : Nat) : Told s (s.event n type source detail key) := by
  unfold State.event
  split
  · exact .refl s
  · split
    · exact .refl s
    · split
      · exact (Told.putEq s _ _).trans (.loadContext ..)
      · dsimp only
        have used := (Told.useContext s (ctxNo 2 n)).trans (.overrunEvent _ n)
        split
        · exact used
        · split
          · exact (used.trans (.writeEvent ..)).trans (.fireEq ..)
          · exact (used.trans (.putEq ..)).trans (.countSlice ..)

theorem Told.sliceEvent (sl type source detail : Nat) : Told s (s.sliceEvent sl type source detail) := by
  unfold State.sliceEvent
  split
  · exact .event ..
  · exact .refl s

theorem Told.rmaEvent (sl n source detail : Nat) : Told s (s.rmaEvent sl n source detail) := by
  unfold State.rmaEvent
  split
  · exact .sliceEvent ..
  · exact .refl s

theorem Told.regionFault (sl : Nat) (h : Header) (rkey : Nat) (c : Comp) : Told s (s.regionFault sl h rkey c) := .rmaEvent ..

/-! Packets that a block builds (R33, R441) -/

/-- What is left to leave of a device: the packets built, and the fault sources raised. -/
def State.leaving (s : State) : List Built × List Nat := (s.built, s.wires)

theorem Told.leaving {s t : State} (h : Told s t) : t.leaving = s.leaving := by simp only [State.leaving, h.built, h.wires]

theorem State.leaving_tfault (a : Access) (stage lv cause s1 x : Nat) : (s.tfault a stage lv cause s1 x).1.leaving = s.leaving := by
  unfold State.tfault
  dsimp only
  split
  · exact (Told.sliceEvent ..).leaving
  · rfl

/-- What a target answers is built last, waiting for nothing but the reads of its payload; no fault source is raised. -/
theorem State.leaving_inject (sl stop : Nat) (h : Header) (payload : List Byte) (wait : List (Nat × Nat)) (owner : Option (Nat × Nat))
    (charge : Nat) : ∃ b : Built, (s.inject sl stop h payload wait owner charge true).leaving = (s.built ++ [b], s.wires) ∧ b.wait = wait :=
  ⟨_, rfl, rfl⟩

theorem State.leaving_putPeer (p : Peer) : (s.putPeer p).leaving = s.leaving := by
  unfold State.putPeer
  dsimp only
  split
  · exact (Told.hostWrite ..).leaving
  · rfl

theorem State.leaving_rmaAnswer (sl : Nat) (h : Header) (cmd off ext : Nat) (payload : List Byte) (wait : List (Nat × Nat)) :
    ∃ b : Built, (s.rmaAnswer sl h cmd off ext payload wait).leaving = (s.built ++ [b], s.wires) ∧ b.wait = wait := s.leaving_inject ..

/-- The end of a message at its target builds at most an answer that waits for nothing. -/
theorem State.leaving_failTarget (sl : Nat) (h : Header) (rkey : Nat) (c : Comp) :
    ∃ l : List Built, (s.failTarget sl h rkey c).leaving = (s.built ++ l, s.wires) ∧ ∀ b ∈ l, b.wait = [] := by
  have answered : ∀ (t : State) (cmd off ext : Nat), t.leaving = s.leaving → ∃ l : List Built,
      (t.rmaAnswer sl h cmd off ext [] []).leaving = (s.built ++ l, s.wires) ∧ ∀ b ∈ l, b.wait = [] := by
    intro t cmd off ext same
    obtain ⟨b, built, wait⟩ := t.leaving_rmaAnswer sl h cmd off ext [] []
    simp only [State.leaving, Prod.mk.injEq] at same
    obtain ⟨built', wires'⟩ := same
    exact ⟨[b], by rw [built, built', wires'], by simp [wait]⟩
  have none_ : ∃ l : List Built, s.leaving = (s.built ++ l, s.wires) ∧ ∀ b ∈ l, b.wait = [] :=
    ⟨[], by rw [List.append_nil]; rfl, nofun⟩
  unfold State.failTarget
  split
  · exact none_
  · have told := (Told.regionFault s sl h rkey c).leaving
    unfold State.endTarget
    split
    · rw [told]
      exact none_
    · dsimp only
      have put := fun p => ((s.regionFault sl h rkey c).leaving_putPeer p).trans told
      split
      · exact answered _ _ _ _ (put _)
      · split
        · exact answered _ _ _ _ (put _)
        · exact answered _ _ _ _ ((State.leaving_putPeer ..).trans (put _))

end Sys2Proof.Machine
end

section
/-! Service mode (family 16): memory links, their decoders and pools (R488–R495), and what settles the statement on them. -/

namespace Sys2Proof.Machine

/-! Decoders (R491) -/

/-- Memory links and the device that they serve, which judging leaves. -/
def State.memSide (s : State) : Table MemLink × HostSide × Table Image := (s.service.links, s.host, s.active)

theorem State.pairSend_host (s : State) (m : PairMsg) : (s.pairSend m).host = s.host := by
  unfold State.pairSend
  split <;> rfl

theorem State.noteChange_host (s : State) (device : Bool) (c : List Change) : (s.noteChange device c).host = s.host := by
  unfold State.noteChange State.leftBehind
  split
  · exact State.pairSend_host ..
  · dsimp only
    split
    · exact State.pairSend_host ..
    · rfl

theorem Served.wires_mem {s t : State} (h : Served s t) {n : Nat} (raised : n ∈ s.wires) : n ∈ t.wires := by
  rw [h.wires]
  exact raised

/-- A pool that fails or frees moves no memory link, and unraises no fault source. -/
theorem State.setPool_keeps (s : State) (n : Nat) (v : Image) :
    (s.setPool n v).memSide = s.memSide ∧ (s.setPool n v).service = s.service ∧ (s.setPool n v).wires = s.wires := by
  have served := Served.noteChange (s.setReg R.pool 0 n v) true [(R.pool.key 0 n, v)]
  have host := (s.setReg R.pool 0 n v).noteChange_host true [(R.pool.key 0 n, v)]
  have kept : (s.setPool n v).service = s.service := served.service
  refine ⟨?_, kept, served.wires⟩
  have host' : (s.setPool n v).host = s.host := host
  have active' : (s.setPool n v).active = s.active := served.active
  simp only [State.memSide, kept, host', active']

/-- What judging a decoder leaves: the links, the commitments made before, and what is said of other decoders. -/
structure Judges (d : Nat) (s t : State) : Prop where
  side  : t.memSide = s.memSide
  wires : ∀ n ∈ s.wires, n ∈ t.wires
  committed : ∀ e ∈ s.service.committed, e ∈ t.service.committed
  failed : ∀ e, e ≠ d → e ∈ t.service.failed → e ∈ s.service.failed

theorem Judges.judgeDecoder (s : State) (d : Nat) : Judges d s (s.judgeDecoder d) := by
  have raises : ∀ (l : List Nat) (t : State), (l.foldl (fun s m => s.raise (memSource m)) t).memSide = t.memSide
      ∧ (l.foldl (fun s m => s.raise (memSource m)) t).service = t.service
      ∧ ∀ n ∈ t.wires, n ∈ (l.foldl (fun s m => s.raise (memSource m)) t).wires := by
    intro l
    induction l with
    | nil => exact fun t => ⟨rfl, rfl, fun n raised => raised⟩
    | cons m l ih =>
      intro t
      obtain ⟨side, service, wires⟩ := ih (t.raise (memSource m))
      exact ⟨side, service, fun n raised => wires n (List.mem_append_left _ raised)⟩
  have pools : ∀ (l : List (Nat × Image)) (p : Nat × Image → Prop) [DecidablePred p] (t : State),
      (l.foldl (fun s e => if p e then s.setPool e.1 (poolTo e.2 3) else s) t).memSide = t.memSide
      ∧ (l.foldl (fun s e => if p e then s.setPool e.1 (poolTo e.2 3) else s) t).service = t.service
      ∧ (l.foldl (fun s e => if p e then s.setPool e.1 (poolTo e.2 3) else s) t).wires = t.wires := by
    intro l p _
    induction l with
    | nil => exact fun t => ⟨rfl, rfl, rfl⟩
    | cons e l ih =>
      intro t
      obtain ⟨side, service, wires⟩ := ih (if p e then t.setPool e.1 (poolTo e.2 3) else t)
      have first : (if p e then t.setPool e.1 (poolTo e.2 3) else t).memSide = t.memSide
          ∧ (if p e then t.setPool e.1 (poolTo e.2 3) else t).service = t.service
          ∧ (if p e then t.setPool e.1 (poolTo e.2 3) else t).wires = t.wires := by
        split
        · exact State.setPool_keeps ..
        · exact ⟨rfl, rfl, rfl⟩
      exact ⟨side.trans first.1, service.trans first.2.1, wires.trans first.2.2⟩
  have refl : Judges d s s := ⟨rfl, fun n raised => raised, fun e there => there, fun e _ there => there⟩
  unfold State.judgeDecoder
  dsimp only
  split
  · exact refl
  · split
    · exact refl
    · split
      · exact ⟨rfl, fun n raised => raised, fun e there => List.mem_append_left _ there, fun e _ there => there⟩
      · obtain ⟨side, service, wires⟩ := raises (s.decoderLinks d) (s.updService (fun v => { v with failed := v.failed ++ [d] }))
        obtain ⟨side', service', wires'⟩ := pools
          (((s.decoderLinks d).foldl (fun s m => s.raise (memSource m)) (s.updService (fun v => { v with failed := v.failed ++ [d] }))).entriesOf R.pool)
          (fun p => fldN p.2 94 64 ≠ 0 ∧ spanIn (poolSpan p.2) (decoderSpan (s.eff R.memDecoder 0 d)) = true)
          ((s.decoderLinks d).foldl (fun s m => s.raise (memSource m)) (s.updService (fun v => { v with failed := v.failed ++ [d] })))
        refine ⟨side'.trans side, ?_, ?_, ?_⟩
        · rw [wires']
          exact wires
        · rw [service', service]
          exact fun e there => there
        · rw [service', service]
          intro e other there
          exact (List.mem_append.1 there).resolve_right (fun own => other (List.mem_singleton.1 own))

/-- Every decoder is judged, and the links stand. -/
theorem State.judgeDecoders_keeps (s : State) : s.judgeDecoders.memSide = s.memSide ∧ ∀ n ∈ s.wires, n ∈ s.judgeDecoders.wires := by
  have all : ∀ (l : List Nat) (t : State), (l.foldl State.judgeDecoder t).memSide = t.memSide
      ∧ ∀ n ∈ t.wires, n ∈ (l.foldl State.judgeDecoder t).wires := by
    intro l
    induction l with
    | nil => exact fun t => ⟨rfl, fun n raised => raised⟩
    | cons d l ih =>
      intro t
      have judged := Judges.judgeDecoder t d
      obtain ⟨side, wires⟩ := ih (t.judgeDecoder d)
      exact ⟨side.trans judged.side, fun n raised => wires n (judged.wires n raised)⟩
  exact all _ s

theorem State.memLink_of_memSide {s t : State} (h : t.memSide = s.memSide) (m : Nat) : t.memLink m = s.memLink m := by
  simp only [State.memSide, Prod.mk.injEq] at h
  simp only [State.memLink, h.1]

theorem State.hport_of_memSide {s t : State} (h : t.memSide = s.memSide) (k : Nat) : t.hport k = s.hport k := by
  simp only [State.memSide, Prod.mk.injEq] at h
  simp only [State.hport, h.2.1]

theorem State.eff_of_memSide {s t : State} (h : t.memSide = s.memSide) (r : Reg) (i e : Nat) : t.eff r i e = s.eff r i e := by
  simp only [State.memSide, Prod.mk.injEq] at h
  simp only [State.eff, h.2.2]

/-- Every link of a decoder is ACTIVE with room for its share. -/
def State.linksRoom (s : State) (d : Nat) : Prop := ∀ k ∈ s.decoderLinks d, (s.memLink k).st = .active
  ∧ fldN (s.eff R.memDecoder 0 d) 87 64 / 2 ^ fldN (s.eff R.memDecoder 0 d) 126 125 ≤ (s.memLink k).capacity

theorem State.linksRoom_of_memSide {s t : State} (h : t.memSide = s.memSide) (d : Nat) : t.linksRoom d ↔ s.linksRoom d := by
  simp only [State.linksRoom, State.decoderLinks, State.eff_of_memSide h, State.memLink_of_memSide h]

/-- A valid decoder that has not failed commits where its links have the room. -/
theorem State.judgeDecoder_commits {s : State} {d : Nat} (mode : s.serviceMode = true) (valid : bit (s.eff R.memDecoder 0 d) 127 = true)
    (sound : d ∉ s.service.failed) (room : s.linksRoom d) : d ∈ (s.judgeDecoder d).service.committed := by
  unfold State.judgeDecoder
  dsimp only
  by_cases already : d ∈ s.service.committed
  · rw [if_pos (by simp [already])]
    exact already
  · rw [if_neg (by simp [mode, valid, already, sound]), if_neg, if_pos]
    · exact List.mem_append_right _ (List.mem_singleton_self d)
    · rw [List.all_eq_true]
      intro m link
      obtain ⟨active, fits⟩ := room m link
      simp [active, fits]
    · intro waits
      obtain ⟨m, link, unsettled⟩ := List.any_eq_true.1 waits
      obtain ⟨active, -⟩ := room m link
      simp [active] at unsettled

theorem State.judgeDecoders_commits {s : State} {d : Nat} (inside : d < 8) (mode : s.serviceMode = true)
    (valid : bit (s.eff R.memDecoder 0 d) 127 = true) (sound : d ∉ s.service.failed) (room : s.linksRoom d) :
    d ∈ s.judgeDecoders.service.committed := by
  have commits : ∀ (l : List Nat) (t : State), t.memSide = s.memSide → (d ∈ t.service.committed ∨ d ∈ l ∧ d ∉ t.service.failed) →
      d ∈ (l.foldl State.judgeDecoder t).service.committed := by
    intro l
    induction l with
    | nil => exact fun t _ turn => turn.resolve_right (fun none_ => List.not_mem_nil none_.1)
    | cons e l ih =>
      intro t side turn
      have judged := Judges.judgeDecoder t e
      refine ih _ (judged.side.trans side) ?_
      rcases turn with already | ⟨listed, sound⟩
      · exact .inl (judged.committed d already)
      · by_cases here : d = e
        · subst here
          have mode' : t.serviceMode = true := by rw [State.serviceMode, State.eff_of_memSide side]; exact mode
          exact .inl (State.judgeDecoder_commits mode' (by rw [State.eff_of_memSide side]; exact valid) sound
            ((State.linksRoom_of_memSide side d).2 room))
        · exact .inr ⟨(List.mem_cons.1 listed).resolve_left here, fun failed => sound (judged.failed d here failed)⟩
  exact commits _ s rfl (.inr ⟨List.mem_range.2 inside, sound⟩)

/-! Links (R488, R489) -/

theorem State.memLink_setMemLink_same (s : State) (m : Nat) {x : MemLink} (listed : x ≠ {}) : (s.setMemLink m x).memLink m = x :=
  Table.get_set_listed _ _ listed

theorem State.memLink_setMemLink_other (s : State) {m k : Nat} (x : MemLink) (other : k ≠ m) : (s.setMemLink m x).memLink k = s.memLink k :=
  Table.get_set_other _ _ _ other

/-- The links of a ROOT port that is released. -/
def Frees (t : State) (k : Nat) : Prop :=
  (t.hport k).perst = false ∧ (t.hport k).linkA = { st := 1 } ∧ (t.memLink (2 * k)).st = .training

/-- One ROOT port's pin is released. -/
def State.perstRelease (s : State) (k : Nat) : State :=
  let s := s.setHport k { s.hport k with pin := false }
  if (s.hport k).held then s else s.memRelease k

theorem State.memRelease_frees (s : State) (k : Nat) : Frees (s.memRelease k) k
    ∧ ∀ j, j ≠ k → (s.memRelease k).hport j = s.hport j ∧ (s.memRelease k).memLink (2 * j) = s.memLink (2 * j) := by
  have port : ∀ b : HLink, (s.setHport k { s.hport k with perst := false, linkA := .reset 1, linkB := b }).hport k
      = { s.hport k with perst := false, linkA := .reset 1, linkB := b } :=
    fun b => State.hport_setHport_same _ _ _ (fun none_ => nomatch congrArg HPort.perst none_)
  have trains : ∀ t : State, ((t.setMemLink (2 * k) { st := .training }).memLink (2 * k)).st = .training :=
    fun t => by rw [State.memLink_setMemLink_same _ _ (by decide)]
  unfold State.memRelease
  dsimp only
  generalize HLink.reset (if s.bifurcated k then 1 else 15) = b
  split
  · refine ⟨⟨congrArg HPort.perst (port _), congrArg HPort.linkA (port _), ?_⟩, fun j other =>
      ⟨State.hport_setHport_other _ _ other, ?_⟩⟩
    · rw [State.memLink_setMemLink_other _ _ (by omega)]
      exact trains _
    · rw [State.memLink_setMemLink_other _ _ (by omega), State.memLink_setMemLink_other _ _ (by omega)]
      rfl
  · refine ⟨⟨congrArg HPort.perst (port _), congrArg HPort.linkA (port _), trains _⟩, fun j other =>
      ⟨State.hport_setHport_other _ _ other, ?_⟩⟩
    rw [State.memLink_setMemLink_other _ _ (by omega)]
    rfl

theorem State.perstRelease_frees {s : State} {k : Nat} (free : (s.hport k).held = false) : Frees (s.perstRelease k) k
    ∧ ∀ j, j ≠ k → (s.perstRelease k).hport j = s.hport j ∧ (s.perstRelease k).memLink (2 * j) = s.memLink (2 * j) := by
  have low : (s.setHport k { s.hport k with pin := false }).hport k = { s.hport k with pin := false } :=
    State.hport_setHport_same _ _ _ (fun none_ => nomatch congrArg HPort.pin none_)
  have releases : s.perstRelease k = (s.setHport k { s.hport k with pin := false }).memRelease k := by
    unfold State.perstRelease
    dsimp only
    rw [low]
    exact if_neg (by simp [free])
  obtain ⟨frees, others⟩ := (s.setHport k { s.hport k with pin := false }).memRelease_frees k
  rw [releases]
  exact ⟨frees, fun j other => ⟨(others j other).1.trans (State.hport_setHport_other _ _ other), (others j other).2⟩⟩

theorem State.perstReleases_free {l : List Nat} (once : l.Nodup) {s : State} (free : ∀ k ∈ l, (s.hport k).held = false) :
    (∀ k ∈ l, Frees (l.foldl State.perstRelease s) k) ∧ ∀ j, j ∉ l → (l.foldl State.perstRelease s).hport j = s.hport j
      ∧ (l.foldl State.perstRelease s).memLink (2 * j) = s.memLink (2 * j) := by
  induction l generalizing s with
  | nil => exact ⟨nofun, fun j _ => ⟨rfl, rfl⟩⟩
  | cons k l ih =>
    obtain ⟨new, once'⟩ := List.nodup_cons.1 once
    obtain ⟨frees, others⟩ := State.perstRelease_frees (free k List.mem_cons_self)
    obtain ⟨rest, out⟩ := ih once' (s := s.perstRelease k) (fun j later => by
      rw [(others j (fun same => new (same ▸ later))).1]
      exact free j (List.mem_cons_of_mem _ later))
    rw [List.foldl_cons]
    refine ⟨fun j listed => ?_, fun j unlisted => ?_⟩
    · rcases List.mem_cons.1 listed with rfl | later
      · obtain ⟨port, link⟩ := out j new
        exact ⟨by rw [port]; exact frees.1, by rw [port]; exact frees.2.1, by rw [link]; exact frees.2.2⟩
      · exact rest j later
    · obtain ⟨first, later⟩ := not_or.1 (fun there => unlisted (List.mem_cons.2 there))
      obtain ⟨port, link⟩ := out j later
      obtain ⟨port', link'⟩ := others j first
      exact ⟨port.trans port', link.trans link'⟩

section
variable {s : State} {m : Nat}

theorem exec_memPerstRelease (ready : s.hostsReady = true)
    (root : ∀ k < 4, s.hostRole k = 1 ∧ (s.hport k).perst = true ∧ (s.hport k).held = false) :
    ∃ t, exec .memPerstRelease s = .next t
      ∧ ∀ k < 4, (t.hport k).perst = false ∧ (t.hport k).linkA = { st := 1 } ∧ (t.memLink (2 * k)).st = .training := by
  have ports : (List.range 4).filter (fun k => s.hostsReady && s.hostRole k == 1 && (s.hport k).perst) = List.range 4 := by
    refine List.filter_eq_self.2 fun k listed => ?_
    obtain ⟨role, perst, -⟩ := root k (List.mem_range.1 listed)
    simp [ready, role, perst]
  obtain ⟨frees, -⟩ := State.perstReleases_free (s := s) List.nodup_range (fun k listed => (root k (List.mem_range.1 listed)).2.2)
  have run : exec .memPerstRelease s = .next (((List.range 4).foldl State.perstRelease s).judgeDecoders) := by
    change Host.Outcome.next ((((List.range 4).filter (fun k => s.hostsReady && s.hostRole k == 1 && (s.hport k).perst)).foldl
      State.perstRelease s).judgeDecoders) = _
    rw [ports]
  refine ⟨_, run, fun k inside => ?_⟩
  obtain ⟨side, -⟩ := State.judgeDecoders_keeps ((List.range 4).foldl State.perstRelease s)
  rw [State.hport_of_memSide side, State.memLink_of_memSide side]
  exact frees k (List.mem_range.2 inside)

theorem exec_memLinkTrained {w sp : Nat} (trains : (s.memLink m).st = .training ∨ (s.memLink m).st = .down)
    (free : s.faults.mems.contains m = false) : exec (.memLinkTrained m true w sp) s
      = .next (s.updHlink (m / 2) (m % 2) (fun l => { l with st := 2, width := w, speed := sp, cxl := true })) := by
  change execMemLinkTrained m true w sp s = _
  unfold execMemLinkTrained
  dsimp only
  rw [if_neg]
  · rfl
  · rintro (⟨training, down⟩ | held)
    · exact trains.elim training down
    · exact Bool.noConfusion (free.symm.trans held)

theorem exec_memoryActive {c : BitVec 24} (trains : (s.memLink m).st = .training ∨ (s.memLink m).st = .down)
    (free : s.faults.mems.contains m = false) (up : (s.hlink (m / 2) (m % 2)).st = 2) (mode : s.serviceMode = true) :
    ∃ t, exec (.memoryActive m c) s = .next t ∧ t.memLink m = { st := .active, capacity := c.toNat }
      ∧ ∀ d < 8, bit (s.eff R.memDecoder 0 d) 127 = true → d ∉ s.service.failed →
        (∀ k ∈ s.decoderLinks d, (t.memLink k).st = .active
          ∧ fldN (s.eff R.memDecoder 0 d) 87 64 / 2 ^ fldN (s.eff R.memDecoder 0 d) 126 125 ≤ (t.memLink k).capacity)
        → d ∈ t.service.committed := by
  obtain ⟨side, -⟩ := State.judgeDecoders_keeps (s.setMemLink m { st := .active, capacity := c.toNat })
  refine ⟨_, congrArg Host.Outcome.next (if_pos ⟨by rw [free]; rfl, up, trains⟩), ?_, ?_⟩
  · rw [State.memLink_of_memSide side]
    exact State.memLink_setMemLink_same _ _ (fun none_ => nomatch congrArg MemLink.st none_)
  · intro d inside valid sound room
    refine State.judgeDecoders_commits inside mode valid sound fun k link => ?_
    obtain ⟨active, fits⟩ := room k link
    rw [State.memLink_of_memSide side] at active fits
    exact ⟨active, fits⟩

theorem exec_memActiveTimeout (trains : (s.memLink m).st = .training) :
    ∃ t, exec (.memActiveTimeout m) s = .next t ∧ t.memLink m = { s.memLink m with st := .timeout } ∧ memSource m ∈ t.wires := by
  obtain ⟨side, wires⟩ := State.judgeDecoders_keeps ((s.setMemLink m { s.memLink m with st := .timeout }).raise (memSource m))
  refine ⟨_, congrArg Host.Outcome.next (if_pos (.inl trains)), ?_, wires _ (List.mem_append_right _ (List.mem_singleton_self _))⟩
  rw [State.memLink_of_memSide side]
  exact State.memLink_setMemLink_same _ _ (fun none_ => nomatch congrArg MemLink.st none_)

theorem exec_memLinkDown (active : (s.memLink m).st = .active) :
    ∃ t, exec (.memLinkDown m) s = .next t ∧ t.memLink m = { s.memLink m with st := .down } ∧ memSource m ∈ t.wires := by
  refine ⟨_, congrArg Host.Outcome.next (if_neg (fun other => other active)), ?_, List.mem_append_right _ (List.mem_singleton_self _)⟩
  have service : (s.memDown m 1).service = (s.setMemLink m { s.memLink m with st := .down }).service :=
    congrArg Control.service (s.memDown_control m 1)
  have link : (s.memDown m 1).memLink m = (s.setMemLink m { s.memLink m with st := .down }).memLink m := by
    simp only [State.memLink, service]
  exact link.trans (State.memLink_setMemLink_same _ _ (fun none_ => nomatch congrArg MemLink.st none_))

/-! Errors of reads (R492) -/

theorem exec_cxlMemError_payload {id : Nat} {r : HostRead} (found : s.host.reads.find? (fun r => r.id = id) = some r)
    (owner : r.owner = .payload) :
    ∃ t, exec (.cxlMemError m (some id)) s = .next t ∧ memSource m ∈ t.wires ∧ ∀ b ∈ t.built, ∀ w ∈ b.wait, w.1 ≠ id := by
  have names : r.id = id := by simpa using List.find?_some found
  generalize read : (s.raise (memSource m)).updHost (fun h => { h with reads := h.reads.erase r }) = u
  generalize spoilt : ((u.memReadFault r).1.host.reads.filter (fun x => x.key = r.key)).map (·.id)
    ++ ((u.memReadFault r).1.host.arb.bursts.filter (fun b => b.key = r.key)).map (·.id) = reads
  generalize left : ({ (u.memReadFault r).1 with
    built := (u.memReadFault r).1.built.filter (fun b => !(b.wait.any (fun w => w.1 = r.id ∨ (r.key ≠ 0 ∧ reads.contains w.1)))) } : State) = v
  have run : exec (.cxlMemError m (some id)) s = .next (v.failPlacing r.key (u.memReadFault r).2.remote) := by
    change execCxlMemError m (some id) s = _
    unfold execCxlMemError
    dsimp only [Option.bind_some]
    rw [found, ← left, ← spoilt, ← read]
    dsimp only
    unfold State.memReadFail
    rw [owner]
  have kept : (u.memReadFault r).1.leaving = u.leaving := State.leaving_tfault ..
  have raised : memSource m ∈ v.wires := by
    rw [← left]
    change memSource m ∈ (u.memReadFault r).1.wires
    rw [(Prod.mk.inj kept).2, ← read]
    exact List.mem_append_right _ (List.mem_singleton_self _)
  have gone : ∀ b ∈ v.built, ∀ w ∈ b.wait, w.1 ≠ id := by
    rw [← left]
    intro b there w waits same
    have spared := (List.mem_filter.1 there).2
    rw [Bool.not_eq_true', List.any_eq_false] at spared
    exact spared w waits (by simp [same, names])
  refine ⟨_, run, ?_⟩
  unfold State.failPlacing
  split
  · exact ⟨raised, gone⟩
  · next x _ =>
    obtain ⟨l, leaves, free⟩ := State.leaving_failTarget _ x.slice x.hdr (x.hdr.ext.toNat % 2 ^ 24) (u.memReadFault r).2.remote
    obtain ⟨built, wires⟩ := Prod.mk.inj leaves
    rw [built, wires]
    refine ⟨raised, fun b there w waits => ?_⟩
    rcases List.mem_append.1 there with before | answer
    · exact gone b before w waits
    · rw [free b answer] at waits
      exact absurd waits List.not_mem_nil

end

end Sys2Proof.Machine
end

section
/-! Pools (R493–R495), and what settles the statement on service mode. -/

namespace Sys2Proof.Machine

/-! Fields of a stored value -/

/-- A field is its bits. -/
theorem fldN_congr {w : Nat} {v u : BitVec w} {hi lo : Nat} (same : ∀ i, lo ≤ i → i ≤ hi → bit v i = bit u i) : fldN v hi lo = fldN u hi lo := by
  refine Nat.eq_of_testBit_eq fun i => ?_
  simp only [fldN, Nat.testBit_mod_two_pow, Nat.testBit_shiftRight, BitVec.testBit_toNat]
  by_cases field : i < hi + 1 - lo
  · rw [← bit, ← bit, same (lo + i) (by omega) (by omega)]
  · rw [decide_eq_false field, Bool.false_and, Bool.false_and]

/-- A field apart from the one that is replaced. -/
theorem fldN_setFld_apart {w : Nat} (v : BitVec w) {hi lo hi' lo' : Nat} (x : Nat) (ordered : lo ≤ hi) (apart : hi' < lo ∨ hi < lo')
    (inside : hi' < w) : fldN (setFld v hi lo x) hi' lo' = fldN v hi' lo' :=
  fldN_congr fun i above below => by rw [bit_setFld v x ordered (by omega), if_neg (by omega)]

/-- What a write stores of a value: the bits that may be written are the new ones, the others stay. -/
theorem bit_merge {r : Reg} (plain : r.wo = 0 ∧ r.w1c = 0) (old v : Image) {i : Nat} (inside : i < 1024) :
    bit (r.merge old v) i = if r.rw.testBit i then bit v i else bit old i := by
  obtain ⟨wo, w1c⟩ := plain
  simp only [Reg.merge, bit_and, bit_or, bit_not _ inside, bit_ofNat _ inside, wo, w1c, Nat.zero_testBit]
  cases r.rw.testBit i <;> simp

/-- The fields of a POOL entry that a write sets, and those that it leaves. -/
theorem pool_fields : (∀ i, 124 ≤ i → i ≤ 124 → R.pool.rw.testBit i = true) ∧ (∀ i, 112 ≤ i → i ≤ 119 → R.pool.rw.testBit i = true)
    ∧ (∀ i, 64 ≤ i → i ≤ 94 → R.pool.rw.testBit i = true) ∧ (∀ i, 21 ≤ i → i ≤ 51 → R.pool.rw.testBit i = true)
    ∧ (∀ i, 125 ≤ i → i ≤ 127 → R.pool.rw.testBit i = false) ∧ (∀ i, 104 ≤ i → i ≤ 111 → R.pool.rw.testBit i = false) := by
  have all : ∀ i < 128, R.pool.rw.testBit i = (i == 124 || (decide (112 ≤ i) && decide (i ≤ 119)) || (decide (64 ≤ i) && decide (i ≤ 94))
      || (decide (21 ≤ i) && decide (i ≤ 51))) := by decide
  refine ⟨fun i above below => ?_, fun i above below => ?_, fun i above below => ?_, fun i above below => ?_, fun i above below => ?_,
    fun i above below => ?_⟩ <;> rw [all i (by omega)] <;> simp <;> omega

section
variable (old x : Image)

theorem poolMerge_new {hi lo : Nat} (inside : hi < 1024) (written : ∀ i, lo ≤ i → i ≤ hi → R.pool.rw.testBit i = true) :
    fldN (R.pool.merge old x) hi lo = fldN x hi lo :=
  fldN_congr fun i above below => by rw [bit_merge ⟨rfl, rfl⟩ _ _ (by omega), written i above below, if_pos rfl]

theorem poolMerge_old {hi lo : Nat} (inside : hi < 1024) (read_only : ∀ i, lo ≤ i → i ≤ hi → R.pool.rw.testBit i = false) :
    fldN (R.pool.merge old x) hi lo = fldN old hi lo :=
  fldN_congr fun i above below => by rw [bit_merge ⟨rfl, rfl⟩ _ _ (by omega), read_only i above below, if_neg Bool.false_ne_true]

/-- The span of a pool is its BASE and LENGTH. -/
theorem poolSpan_eq_iff (a b : Image) : poolSpan a = poolSpan b ↔ fldN a 51 21 = fldN b 51 21 ∧ fldN a 94 64 = fldN b 94 64 := by
  simp only [poolSpan, Prod.mk.injEq]
  constructor
  · rintro ⟨base, length⟩
    exact ⟨Nat.eq_of_mul_eq_mul_right (by decide) base, Nat.eq_of_mul_eq_mul_right (by decide) length⟩
  · rintro ⟨base, length⟩
    rw [base, length]
    exact ⟨rfl, rfl⟩

theorem poolSpan_merge : poolSpan (R.pool.merge old x) = poolSpan x := by
  obtain ⟨-, -, length, base, -, -⟩ := pool_fields
  exact (poolSpan_eq_iff ..).2 ⟨poolMerge_new old x (by decide) base, poolMerge_new old x (by decide) length⟩

theorem bit_poolMerge_125 : bit (R.pool.merge old x) 125 = bit old 125 := by
  obtain ⟨-, -, -, -, state, -⟩ := pool_fields
  rw [bit_merge ⟨rfl, rfl⟩ _ _ (by decide), state 125 (by decide) (by decide), if_neg Bool.false_ne_true]

theorem bit_poolMerge_124 : bit (R.pool.merge old x) 124 = bit x 124 := by
  obtain ⟨assign, -⟩ := pool_fields
  rw [bit_merge ⟨rfl, rfl⟩ _ _ (by decide), assign 124 (by decide) (by decide), if_pos rfl]

theorem poolTo_fields (e : Image) {st : Nat} (code : st < 4) : poolSt (poolTo e st) = st ∧ poolSpan (poolTo e st) = poolSpan e
    ∧ fldN (poolTo e st) 119 112 = fldN e 119 112 ∧ fldN (poolTo e st) 111 104 = fldN e 111 104 := by
  refine ⟨fldN_setFld_same e (by decide) (by decide) (by omega), (poolSpan_eq_iff ..).2 ⟨?_, ?_⟩, ?_, ?_⟩
  all_goals exact fldN_setFld_apart e _ (by decide) (by omega) (by decide)

end

/-! POOL writes (R493, R494) -/

theorem State.reg_setReg_listed (s : State) {r : Reg} {i e : Nat} {v : Image} (listed : v ≠ r.default i e) :
    (s.setReg r i e v).reg r i e = v := Table.get_set_listed _ _ listed

theorem State.reg_updService (s : State) (f : Service → Service) (r : Reg) (i e : Nat) : (s.updService f).reg r i e = s.reg r i e := rfl

/-- Of an entry that was never written only ZERO is 1. -/
theorem bit_poolDefault (p : Nat) {i : Nat} (inside : i < 1024) : bit (R.pool.default 0 p) i = decide (i = 125) := by
  have zero : R.pool.default 0 p = BitVec.ofNat 1024 (2 ^ 125) := by
    unfold Reg.default
    rfl
  rw [zero, bit_ofNat _ inside, Nat.testBit_two_pow]
  simp [eq_comm]

theorem pool_listed_of_bit {v : Image} {p i : Nat} (inside : i < 1024) (other : i ≠ 125) (set_ : bit v i = true) : v ≠ R.pool.default 0 p := by
  intro same
  rw [same, bit_poolDefault p inside, decide_eq_false other] at set_
  exact absurd set_ (by decide)

/-- A pool in a state other than FREE reads back. -/
theorem State.reg_poolTo {s : State} {p st : Nat} (e : Image) (held : st = 1 ∨ st = 2) :
    (s.setReg R.pool 0 p (poolTo e st)).reg R.pool 0 p = poolTo e st := by
  rcases held with rfl | rfl
  · exact State.reg_setReg_listed _ (pool_listed_of_bit (i := 126) (by decide) (by decide)
      ((bit_setFld e _ (by decide) (by decide)).trans ((if_pos (by decide)).trans (by decide))))
  · exact State.reg_setReg_listed _ (pool_listed_of_bit (i := 127) (by decide) (by decide)
      ((bit_setFld e _ (by decide) (by decide)).trans ((if_pos (by decide)).trans (by decide))))

section
variable {s : State} {q : Req} {role : Role} {p : Nat} {v x : Image}

/-- A POOL write that R493 does not refuse takes effect on the stored entry, and is served. -/
theorem State.poolWrite_done (accepted : s.mayWrite q role R.pool 0 p x = true) (passes : (poolRule q p (s.reg R.pool 0 p) x).chk s = none) :
    ∃ b a au an sf, Served ((poolRule (q.entries p 1) p (s.reg R.pool 0 p) x).eff
      ((s.taken b a au an sf).setReg R.pool 0 p (R.pool.merge (s.reg R.pool 0 p) x))).1 (s.poolWrite q p x) := by
  have accepted' : s.mayWrite (q.entries p 1) role R.pool 0 p x = true := accepted
  obtain ⟨b, a, au, an, sf, served, -⟩ := State.writeRun_done accepted' (poolRule (q.entries p 1)) (fun _ _ => rfl) (fun _ _ => rfl)
    (fun _ _ _ _ _ => passes)
  rw [State.storeVal_stored (by decide)] at served
  exact ⟨b, a, au, an, sf, served⟩

/-- The entry that a write of ASSIGN 1 stores reads back. -/
theorem State.reg_poolMerge (t : State) (assign : bit x 124 = true) (old : Image) :
    (t.setReg R.pool 0 p (R.pool.merge old x)).reg R.pool 0 p = R.pool.merge old x :=
  State.reg_setReg_listed _ (pool_listed_of_bit (i := 124) (by decide) (by decide) ((bit_poolMerge_124 old x).trans assign))

theorem bit_assign (v : Image) : bit (setFld v 124 124 1) 124 = true :=
  (bit_setFld v _ (by decide) (by decide)).trans ((if_pos (by decide)).trans (by decide))

theorem bit_release (v : Image) : bit (setFld v 124 124 0) 124 = false :=
  (bit_setFld v _ (by decide) (by decide)).trans ((if_pos (by decide)).trans (by decide))

/-- The pool is another than the entry says. -/
theorem poolMoved_iff (old x : Image) : (fldN x 51 21 ≠ fldN old 51 21 ∨ fldN x 94 64 ≠ fldN old 94 64) ↔ poolSpan x ≠ poolSpan old := by
  rw [ne_eq (poolSpan x), poolSpan_eq_iff, not_and_or]

/-- A pool that moves must be zeroed first. -/
def poolDirty (was v now : Image) : Image := if poolSpan v ≠ poolSpan was then setFld now 125 125 1 else now

/-- ASSIGN 1 at a FREE pool: it goes to the slice that had it last where nothing has to be zeroed, else joins the order. -/
theorem poolRule_assign {was : Image} (u : State) (free : poolSt was = 0) (assign : bit x 124 = true) {now : Image}
    (holds : poolDirty was x (u.reg R.pool 0 p) = now) :
    (poolRule q p was x).eff u = if !bit now 125 ∧ fldN now 111 104 = fldN x 119 112
      then ((u.setReg R.pool 0 p now).setReg R.pool 0 p (poolTo now 1), some .ok)
      else (((u.setReg R.pool 0 p now).setReg R.pool 0 p (poolTo now 2)).updService (fun y => { y with zeroing := y.zeroing ++ [p] }),
        some .deferred) := by
  have moved : (if fldN x 51 21 ≠ fldN was 51 21 ∨ fldN x 94 64 ≠ fldN was 94 64 then setFld (u.reg R.pool 0 p) 125 125 1
      else u.reg R.pool 0 p) = now := by
    rw [← holds, poolDirty]
    simp only [poolMoved_iff]
  unfold poolRule
  dsimp only
  rw [moved, free, assign]
  exact if_pos ⟨rfl, rfl⟩

/-- ASSIGN 0 at an ASSIGNED pool that does not move and that nothing on its way reaches: it is FREE. -/
theorem poolRule_release {was : Image} (u : State) (assigned : poolSt was = 1) (release : bit x 124 = false)
    (stays : poolSpan x = poolSpan was)
    (idle : ((u.setReg R.pool 0 p (u.reg R.pool 0 p)).setReg R.pool 0 p
      (setFld (u.reg R.pool 0 p) 119 112 (fldN was 119 112))).poolBusy (u.reg R.pool 0 p) = false) :
    (poolRule q p was x).eff u = (((u.setReg R.pool 0 p (u.reg R.pool 0 p)).setReg R.pool 0 p
      (setFld (u.reg R.pool 0 p) 119 112 (fldN was 119 112))).setReg R.pool 0 p (poolTo (u.reg R.pool 0 p) 0), some .ok) := by
  have moved : (if fldN x 51 21 ≠ fldN was 51 21 ∨ fldN x 94 64 ≠ fldN was 94 64 then setFld (u.reg R.pool 0 p) 125 125 1
      else u.reg R.pool 0 p) = u.reg R.pool 0 p := if_neg ((not_congr (poolMoved_iff was x)).2 (not_not.2 stays))
  unfold poolRule
  dsimp only
  rw [moved, assigned, release, if_neg (by decide), if_pos (by decide)]
  exact if_neg (by rw [idle]; decide)

theorem exec_poolAssign_clean (command : x = setFld v 124 124 1) (accepted : s.mayWrite q role R.pool 0 p x = true)
    (passes : (poolRule q p (s.reg R.pool 0 p) x).chk s = none) (free : poolSt (s.reg R.pool 0 p) = 0)
    (clean : bit (s.reg R.pool 0 p) 125 = false) (stays : poolSpan x = poolSpan (s.reg R.pool 0 p))
    (last : fldN x 119 112 = fldN (s.reg R.pool 0 p) 111 104) :
    ∃ t, exec (.poolAssign q p v) s = .next t ∧ poolSt (t.reg R.pool 0 p) = 1 ∧ fldN (t.reg R.pool 0 p) 119 112 = fldN x 119 112
      ∧ t.service = s.service := by
  obtain ⟨b, a, au, an, sf, served⟩ := State.poolWrite_done accepted passes
  have assign : bit x 124 = true := command ▸ bit_assign v
  obtain ⟨-, slice, -, -, -, owner⟩ := pool_fields
  have now := State.reg_poolMerge (p := p) (s.taken b a au an sf) assign (s.reg R.pool 0 p)
  have service : ((s.taken b a au an sf).setReg R.pool 0 p (R.pool.merge (s.reg R.pool 0 p) x)).service = s.service := rfl
  generalize (s.taken b a au an sf).setReg R.pool 0 p (R.pool.merge (s.reg R.pool 0 p) x) = u at served now service
  have holds : poolDirty (s.reg R.pool 0 p) x (u.reg R.pool 0 p) = R.pool.merge (s.reg R.pool 0 p) x := by
    rw [poolDirty, if_neg (not_not.2 stays), now]
  rw [poolRule_assign u free assign holds, if_pos ⟨by rw [bit_poolMerge_125, clean]; rfl,
    (poolMerge_old _ _ (by decide) owner).trans last.symm⟩] at served
  subst command
  refine ⟨_, rfl, ?_⟩
  rw [served.reg,
    State.reg_poolTo _ (.inl rfl), served.service]
  obtain ⟨state, -, holder, -⟩ := poolTo_fields (R.pool.merge (s.reg R.pool 0 p) (setFld v 124 124 1)) (st := 1) (by decide)
  exact ⟨state, holder.trans (poolMerge_new _ _ (by decide) slice), service⟩

theorem exec_poolAssign_zeroes (command : x = setFld v 124 124 1) (accepted : s.mayWrite q role R.pool 0 p x = true)
    (passes : (poolRule q p (s.reg R.pool 0 p) x).chk s = none) (free : poolSt (s.reg R.pool 0 p) = 0)
    (used : bit (s.reg R.pool 0 p) 125 = true ∨ poolSpan x ≠ poolSpan (s.reg R.pool 0 p)
      ∨ fldN x 119 112 ≠ fldN (s.reg R.pool 0 p) 111 104) :
    ∃ t, exec (.poolAssign q p v) s = .next t ∧ poolSt (t.reg R.pool 0 p) = 2
      ∧ t.service = { s.service with zeroing := s.service.zeroing ++ [p] } := by
  obtain ⟨b, a, au, an, sf, served⟩ := State.poolWrite_done accepted passes
  have assign : bit x 124 = true := command ▸ bit_assign v
  obtain ⟨-, -, -, -, -, owner⟩ := pool_fields
  have now := State.reg_poolMerge (p := p) (s.taken b a au an sf) assign (s.reg R.pool 0 p)
  have service : ((s.taken b a au an sf).setReg R.pool 0 p (R.pool.merge (s.reg R.pool 0 p) x)).service = s.service := rfl
  generalize (s.taken b a au an sf).setReg R.pool 0 p (R.pool.merge (s.reg R.pool 0 p) x) = u at served now service
  generalize holds : poolDirty (s.reg R.pool 0 p) x (u.reg R.pool 0 p) = w
  have must : ¬((!bit w 125) = true ∧ fldN w 111 104 = fldN x 119 112) := by
    rw [← holds, poolDirty, now]
    rintro ⟨clean, last⟩
    split at clean
    · rw [bit_setFld _ _ (by decide) (by decide), if_pos (by decide)] at clean
      exact absurd clean (by decide)
    · next stays =>
      rw [if_neg stays, poolMerge_old _ _ (by decide) owner] at last
      rw [bit_poolMerge_125] at clean
      rcases used with dirty | moved | other
      · simp [dirty] at clean
      · exact stays moved
      · exact other last.symm
  rw [poolRule_assign u free assign holds, if_neg must] at served
  subst command
  refine ⟨_, rfl, ?_, ?_⟩
  · have stored := served.reg R.pool 0 p
    rw [State.reg_updService, State.reg_poolTo w (.inr rfl)] at stored
    exact (congrArg poolSt stored).trans (poolTo_fields w (by decide)).1
  · refine served.service.trans ?_
    change ({ u.service with zeroing := u.service.zeroing ++ [p] } : Service) = _
    rw [service]

theorem exec_poolRelease (command : x = setFld v 124 124 0) (accepted : s.mayWrite q role R.pool 0 p x = true)
    (passes : (poolRule q p (s.reg R.pool 0 p) x).chk s = none) (assigned : poolSt (s.reg R.pool 0 p) = 1)
    (idle : s.poolBusy (s.reg R.pool 0 p) = false) (rising : Table.risingFrom none s.dict = true) :
    ∃ t, exec (.poolRelease q p v) s = .next t ∧ poolSt (t.reg R.pool 0 p) = 0
      ∧ fldN (t.reg R.pool 0 p) 111 104 = fldN (s.reg R.pool 0 p) 111 104 ∧ poolSpan (t.reg R.pool 0 p) = poolSpan (s.reg R.pool 0 p) := by
  obtain ⟨b, a, au, an, sf, served⟩ := State.poolWrite_done accepted passes
  have release : bit x 124 = false := command ▸ bit_release v
  have stays : poolSpan x = poolSpan (s.reg R.pool 0 p) := by
    by_contra moved
    unfold poolRule at passes
    dsimp only at passes
    split at passes
    · exact absurd passes (by simp)
    · rw [if_pos (.inr (.inl ⟨(poolMoved_iff ..).2 moved, by rw [assigned]; decide⟩))] at passes
      exact absurd passes (by simp)
  obtain ⟨-, -, -, -, -, owner⟩ := pool_fields
  have now := State.reg_setReg_same (s := s.taken b a au an sf) R.pool 0 p (R.pool.merge (s.reg R.pool 0 p) x) rising
  have rising' : Table.risingFrom none ((s.taken b a au an sf).setReg R.pool 0 p (R.pool.merge (s.reg R.pool 0 p) x)).dict = true :=
    State.rising_setReg (s := s.taken b a au an sf) rising ..
  have host : ((s.taken b a au an sf).setReg R.pool 0 p (R.pool.merge (s.reg R.pool 0 p) x)).host = s.host := rfl
  generalize (s.taken b a au an sf).setReg R.pool 0 p (R.pool.merge (s.reg R.pool 0 p) x) = u at served now rising' host
  have span : poolSpan (u.reg R.pool 0 p) = poolSpan (s.reg R.pool 0 p) := by rw [now, poolSpan_merge, stays]
  have idle' : ((u.setReg R.pool 0 p (u.reg R.pool 0 p)).setReg R.pool 0 p
      (setFld (u.reg R.pool 0 p) 119 112 (fldN (s.reg R.pool 0 p) 119 112))).poolBusy (u.reg R.pool 0 p) = false := by
    rw [← idle]
    unfold State.poolBusy
    rw [span, ← host]
    rfl
  rw [poolRule_release u assigned release stays idle'] at served
  have final : ((s.poolWrite q p x).reg R.pool 0 p) = poolTo (u.reg R.pool 0 p) 0 :=
    (served.reg R.pool 0 p).trans (State.reg_setReg_same _ _ _ _ (State.rising_setReg (State.rising_setReg rising' ..) ..))
  obtain ⟨state, span', -, last⟩ := poolTo_fields (u.reg R.pool 0 p) (st := 0) (by decide)
  subst command
  refine ⟨_, rfl, ?_⟩
  refine ⟨(congrArg poolSt final).trans state, (congrArg (fldN · 111 104) final).trans (last.trans ?_),
    (congrArg poolSpan final).trans (span'.trans span)⟩
  rw [now]
  exact poolMerge_old _ _ (by decide) owner

theorem exec_poolZeroingDone {ks : List Nat} (first : s.service.zeroing = p :: ks) (up : s.poolLinksUp (s.reg R.pool 0 p) = true) :
    ∃ t, exec (.poolZeroingDone p) s = .next t ∧ t.service.zeroing = ks ∧ poolSt (t.reg R.pool 0 p) = 1
      ∧ bit (t.reg R.pool 0 p) 125 = false ∧ fldN (t.reg R.pool 0 p) 111 104 = fldN (s.reg R.pool 0 p) 119 112
      ∧ poolSpan (t.reg R.pool 0 p) = poolSpan (s.reg R.pool 0 p) := by
  generalize was : s.reg R.pool 0 p = e at up
  generalize zeroed : setFld (setFld (poolTo e 1) 125 125 0) 111 104 (fldN e 119 112) = w
  have run : exec (.poolZeroingDone p) s = .next (((s.updService (fun v => { v with zeroing := ks })).setPool p w).emit
      (.zeroed (poolSpan e).1 (poolSpan e).2)) := by
    change execPoolZeroingDone p s = _
    unfold execPoolZeroingDone
    rw [first]
    dsimp only
    rw [was, if_neg (by simp [up]), zeroed]
  obtain ⟨state, span, -, -⟩ := poolTo_fields e (st := 1) (by decide)
  have apart : ∀ {hi lo : Nat}, (hi < 125 ∧ (hi < 104 ∨ 111 < lo) ∨ 125 < lo) → hi < 1024 → fldN w hi lo = fldN (poolTo e 1) hi lo := by
    intro hi lo away inside
    rw [← zeroed, fldN_setFld_apart _ _ (by decide) (by omega) inside, fldN_setFld_apart _ _ (by decide) (by omega) inside]
  have state' : poolSt w = 1 := (apart (.inr (by decide)) (by decide)).trans state
  have listed : w ≠ R.pool.default 0 p := fun none_ => by
    have free : poolSt (R.pool.default 0 p) = 0 := by
      refine Nat.eq_of_testBit_eq fun i => ?_
      simp only [poolSt, fldN, Nat.testBit_mod_two_pow, Nat.testBit_shiftRight, BitVec.testBit_toNat, Nat.zero_testBit]
      by_cases field : i < 2
      · rw [← bit, bit_poolDefault p (by omega)]
        simp
        omega
      · simp
        omega
    rw [← none_, state'] at free
    exact absurd free (by decide)
  have served := Served.noteChange ((s.updService (fun v => { v with zeroing := ks })).setReg R.pool 0 p w) true [(R.pool.key 0 p, w)]
  have stored : (((s.updService (fun v => { v with zeroing := ks })).setPool p w).emit (.zeroed (poolSpan e).1 (poolSpan e).2)).reg R.pool 0 p
      = w := (served.reg R.pool 0 p).trans (State.reg_setReg_listed _ listed)
  refine ⟨_, run, congrArg Service.zeroing served.service, ?_⟩
  rw [stored]
  refine ⟨state', ?_, ?_, ?_⟩
  · rw [← zeroed, bit_setFld _ _ (by decide) (by decide), if_neg (by decide), bit_setFld _ _ (by decide) (by decide), if_pos (by decide)]
    decide
  · rw [← zeroed]
    refine fldN_setFld_same _ (by decide) (by decide) ?_
    exact Nat.mod_lt _ (by decide)
  · refine ((poolSpan_eq_iff ..).2 ⟨?_, ?_⟩).trans span
    · exact apart (.inl ⟨by decide, .inl (by decide)⟩) (by decide)
    · exact apart (.inl ⟨by decide, .inl (by decide)⟩) (by decide)

end

/-- Settles O41: memory links, decoders and pools of service mode. -/
theorem memoryLinksAndPools : Obligations.MemoryLinksAndPools := by
  unfold Obligations.MemoryLinksAndPools
  exact ⟨fun s => exec_memPerstRelease, fun s m w sp => exec_memLinkTrained, fun s m c => exec_memoryActive,
    fun s m => exec_memActiveTimeout, fun s m => exec_memLinkDown, fun s m => rfl, fun s m id r => exec_cxlMemError_payload,
    fun s q role p v x => exec_poolAssign_clean, fun s q role p v x => exec_poolAssign_zeroes, fun s q role p v x => exec_poolRelease,
    fun s p ks => exec_poolZeroingDone⟩

end Sys2Proof.Machine
end

section
/-! Time and supply (family 21): what the tick's own work leaves of the controller, and the deriving of the commands of voltage, pace,
temperature and the timebase (R610–R625). -/

namespace Sys2Proof.Machine

/-! The islands, gates and counts of a tick -/

@[simp] theorem State.countXbr_control (s : State) (i e k : Nat) : (s.countXbr i e k).control = s.control := State.count_control ..

@[simp] theorem State.applyAlt_control (s : State) (h : Header) (inX : Nat) (o : Nat) : (State.applyAlt s h inX o).1.control = s.control := by
  unfold State.applyAlt; repeat' split
  all_goals simp [*]

@[simp] theorem State.notice_control (s : State) (h : Header) (inX : Nat) (reason : Nat) : (State.notice s h inX reason).control = s.control := by
  unfold State.notice; repeat (split <;> simp)

@[simp] theorem State.routeFault_control (s : State) (h : Header) (inX : Nat) (f : RouteFault) : (State.routeFault s h inX f).control = s.control := by
  unfold State.routeFault; split <;> simp

@[simp] theorem State.red_control (s : State) (inX : Nat) (o : Nat) (c : Nat) (colour : BitVec 2) :
    (State.red s inX o c colour).1.control = s.control := by
  simp [State.red]

@[simp] theorem State.applyGate_control (s : State) (p : Nat) : (State.applyGate s p).control = s.control := by
  simp [State.applyGate]

@[simp] theorem State.gateOff_control (s : State) (p : Nat) : (State.gateOff s p).control = s.control := by
  unfold State.gateOff; split <;> simp

@[simp] theorem State.dropItem_control (s : State) (id : Nat) : (State.dropItem s id).control = s.control := by
  simp [State.dropItem]

@[simp] theorem State.toDeque_control (s : State) (id : Nat) (e : Nat) : (State.toDeque s id e).control = s.control := by
  simp [State.toDeque]

@[simp] theorem State.stolenArrives_control (s : State) (id : Nat) (e : Nat) : (State.stolenArrives s id e).control = s.control := by
  unfold State.stolenArrives; (repeat' split) <;> simp

@[simp] theorem State.ringAbort_control (s : State) (p : RingPkt) : (State.ringAbort s p).control = s.control := by
  unfold State.ringAbort; repeat (split <;> simp)

@[simp] theorem State.innerFirst_control (s : State) (j : Nat) (p : RingPkt) (b : BitVec 1024) : (State.innerFirst s j p b).1.control = s.control := by
  unfold State.innerFirst; simp; (repeat' split) <;> simp

@[simp] theorem State.innerLater_control (s : State) (j : Nat) (p : RingPkt) (b : BitVec 1024) : (State.innerLater s j p b).control = s.control := by
  unfold State.innerLater; simp; (repeat' split) <;> simp

@[simp] theorem State.innerCells_control (s : State) (j : Nat) (p : RingPkt) : (State.innerCells s j p).1.control = s.control := by
  unfold State.innerCells; repeat (split <;> simp)

@[simp] theorem State.blockCells_control (s : State) (p : RingPkt) : (State.blockCells s p).control = s.control := by
  simp [State.blockCells]

@[simp] theorem State.ringResponse_control (s : State) (p : RingPkt) : (State.ringResponse s p).control = s.control := by
  unfold State.ringResponse; simp; (repeat' split) <;> simp

@[simp] theorem State.ringHandOver_control (s : State) (p : RingPkt) : (State.ringHandOver s p).1.control = s.control := by
  unfold State.ringHandOver; (repeat' split) <;> simp

@[simp] theorem State.islandWake_control (s : State) (i : Nat) : (State.islandWake s i).control = s.control := by
  unfold State.islandWake; split <;> simp

@[simp] theorem State.refillAll_control (s : State) : (State.refillAll s).control = s.control := by
  unfold State.refillAll
  dsimp only
  refine (foldl_control ?_ _ _).trans ((foldl_control ?_ _ _).trans ((foldl_control ?_ _ _).trans (foldl_control ?_ _ _)))
  · exact fun _ _ => rfl
  · exact fun _ _ => rfl
  · exact fun _ _ => rfl
  · exact fun _ _ => State.updOutput_control ..

@[simp] theorem State.countFec_control (s : State) (p : Nat) : (State.countFec s p).control = s.control := by
  simp [State.countFec]

/-! Device reset (R627, R628) -/

/-- Pools whose release waited are FREE, which moves the stored values alone. -/
theorem State.releasing_freed (l : List (Nat × Req)) (s : State) :
    ∃ d, l.foldl (fun s r => s.setReg R.pool 0 r.1 (poolTo (s.reg R.pool 0 r.1) 0)) s = { s with dict := d } := by
  induction l generalizing s with
  | nil => exact ⟨_, rfl⟩
  | cons r l ih =>
    obtain ⟨d, same⟩ := ih (s.setReg R.pool 0 r.1 (poolTo (s.reg R.pool 0 r.1) 0))
    exact ⟨d, same⟩

/-- The device as a reset of a kind leaves it, its stored values being `d`, RING_CTL apart. -/
def State.asReset (s : State) (kind : Nat) (d : Table Image) (links : Table Link) (host : HostSide) : State :=
  { State.reset with
    pending := s.pending, out := s.out, draws := s.draws, straps := s.straps, tap := s.tap
    dict := d
    links := links, host := host
    mgmt := s.mgmt.kept
    service := { zeroing := s.service.zeroing }
    faults := { log := s.faults.log, logSeq := s.faults.logSeq }
    twin := { shadow := s.twin.shadow }
    power := { tj := s.power.tj }
    boot := .held
    holds := if s.boot = .held then (if s.holds.contains kind then s.holds else s.holds ++ [kind]) else [kind]
    lastReset := kind
    resets := if kind = 1 then 0 else min 65535 (s.resets + 1) }

/-- A reset keeps of the stored values what the caddy holds. -/
theorem State.deviceReset_eq (s : State) (kind : Nat) : ∃ d links host, s.deviceReset kind = (s.asReset kind d links host).ringsBack
    ∧ (s.service.releasing = [] → d = s.dict.filter (fun e => inCaddy e.1)) := by
  obtain ⟨d, freed⟩ := State.releasing_freed s.service.releasing s
  refine ⟨d.filter (fun e => inCaddy e.1), ({ s with dict := d } : State).freshLinks, ({ s with dict := d } : State).freshHosts, ?_, ?_⟩
  · unfold State.deviceReset
    rw [freed]
    rfl
  · intro none_
    rw [none_] at freed
    exact congrArg (fun t : State => t.dict.filter (fun e => inCaddy e.1)) freed.symm

/-! The supply (R610–R616) -/

section
variable {s : State}

/-- A transaction that succeeds within four tries. -/
theorem State.avsWrite_ok {fails : Nat} (within : fails < 4) (rb : BitVec 8) : ∃ o, s.avsWrite fails rb
    = { s with out := o, power := { s.power with avsFault := false, readback := rb.toNat } } ∧ Out.avs (600 + 5 * s.power.request) ∈ o := by
  have sends : ∀ (n : Nat) (t : State), ∃ o, (List.range n).foldl (fun s _ => s.emit (.avs (600 + 5 * s.power.request))) t = { t with out := o }
      ∧ (0 < n → Out.avs (600 + 5 * t.power.request) ∈ o) := by
    intro n
    induction n with
    | zero => exact fun t => ⟨_, rfl, fun none_ => absurd none_ (by decide)⟩
    | succ n ih =>
      intro t
      obtain ⟨o, same, -⟩ := ih t
      rw [List.range_succ, List.foldl_append, same]
      exact ⟨_, rfl, fun _ => List.mem_cons_self⟩
  obtain ⟨o, same, sent⟩ := sends (min 4 (fails + 1)) s
  refine ⟨o, ?_, sent (by omega)⟩
  unfold State.avsWrite
  dsimp only
  rw [same, if_pos within]
  rfl

theorem exec_avsWindow_ignored {rate fails : Nat} {rb : BitVec 8} (runs : s.boot ≠ .held)
    (ignored : bit (s.reg R.avsCtl) 31 = false ∨ s.power.touched = true ∨ s.power.pace < 100) :
    exec (.avsWindow rate fails rb) s = .next (s.updPower (fun p => { p with
      now := rate, low := some (match p.low with | some l => min l rate | none => rate), touched := decide (p.pace < 100) })) := by
  refine congrArg Host.Outcome.next ((if_neg runs).trans ?_)
  unfold State.avsWindow
  dsimp only
  refine if_pos ?_
  rcases ignored with off | touched | paced
  · exact .inl (by rw [off]; rfl)
  · exact .inr (by rw [touched]; rfl)
  · exact .inr (by rw [decide_eq_true paced, Bool.or_true])

/-- The window's rate is taken down, with the windows in a row above the limit. -/
def Power.windowed (p : Power) (c : Image) (rate : Nat) : Power :=
  { p with
    now := rate, low := some (match p.low with | some l => min l rate | none => rate), touched := decide (p.pace < 100),
    above := if 104 * fldN c 30 20 < 100 * rate then min 10 (p.above + 1) else 0,
    limit := p.request == fldN c 15 8 && decide (rate < fldN c 30 20) }

/-- The request takes a new value within VMIN and VMAX. -/
def State.avsGo (s : State) (c : Image) (r fails : Nat) (rb : BitVec 8) : State :=
  (s.updPower (fun p => { p with request := max (fldN c 7 0) (min (fldN c 15 8) r), above := 0, changedAt := some s.uptime })).avsWrite fails rb

/-- Control acts on a window while it is on and no pace interval has touched the window, at least 1 ms after its last change. -/
theorem exec_avsWindow_acts {rate fails : Nat} {rb : BitVec 8} {c : Image} (runs : s.boot ≠ .held) (ctl : c = s.reg R.avsCtl)
    (on : bit c 31 = true) (untouched : s.power.touched = false) (free : 100 ≤ s.power.pace) (sound : s.power.avsFault = false)
    (rested : ∀ t ∈ s.power.changedAt, 125000 ≤ s.uptime - t) : exec (.avsWindow rate fails rb) s
      = .next (let t := s.updPower (·.windowed c rate)
        if s.power.request < fldN c 7 0 ∨ fldN c 15 8 < s.power.request then t.avsGo c s.power.request fails rb
        else if 100 * rate < 101 * fldN c 30 20 ∧ s.power.request < fldN c 15 8 then t.avsGo c (s.power.request + 1) fails rb
        else if (s.power.windowed c rate).above = 10 ∧ fldN c 7 0 < s.power.request then t.avsGo c (s.power.request - 1) fails rb
        else t) := by
  subst ctl
  refine congrArg Host.Outcome.next ((if_neg runs).trans ?_)
  have may : (!s.power.avsFault && (match s.power.changedAt with | some t => decide (125000 ≤ s.uptime - t) | none => true)) = true := by
    rw [sound]
    split
    · next t changed => simpa using rested t changed
    · rfl
  unfold State.avsWindow
  dsimp only
  rw [if_neg]
  · exact if_neg (fun no => absurd may (Bool.eq_false_iff.1 ((Bool.not_eq_eq_eq_not).1 no)))
  · rw [on, untouched, decide_eq_false (Nat.not_lt.2 free)]
    decide

/-- A change of the request within VMIN and VMAX, sent and confirmed. -/
theorem State.avsGo_ok {fails : Nat} (within : fails < 4) (c : Image) (r : Nat) (rb : BitVec 8) :
    (s.avsGo c r fails rb).power.request = max (fldN c 7 0) (min (fldN c 15 8) r) ∧ (s.avsGo c r fails rb).power.readback = rb.toNat
      ∧ (s.avsGo c r fails rb).power.avsFault = false ∧ (s.avsGo c r fails rb).power.changedAt = some s.uptime
      ∧ (s.avsGo c r fails rb).power.above = 0
      ∧ Out.avs (600 + 5 * max (fldN c 7 0) (min (fldN c 15 8) r)) ∈ (s.avsGo c r fails rb).out := by
  obtain ⟨o, goes, sent⟩ := State.avsWrite_ok (s := s.updPower (fun p => { p with
    request := max (fldN c 7 0) (min (fldN c 15 8) r), above := 0, changedAt := some s.uptime })) within rb
  have goes' : s.avsGo c r fails rb = _ := goes
  rw [goes']
  exact ⟨rfl, rfl, rfl, rfl, rfl, sent⟩

theorem exec_avsWindow_raises {rate fails : Nat} {rb : BitVec 8} {c : Image} (runs : s.boot ≠ .held) (ctl : c = s.reg R.avsCtl)
    (on : bit c 31 = true) (untouched : s.power.touched = false) (free : 100 ≤ s.power.pace) (sound : s.power.avsFault = false)
    (rested : ∀ t ∈ s.power.changedAt, 125000 ≤ s.uptime - t) (slow : 100 * rate < 101 * fldN c 30 20)
    (room : s.power.request < fldN c 15 8) (within : fails < 4) :
    ∃ t, exec (.avsWindow rate fails rb) s = .next t ∧ t.power.request = max (fldN c 7 0) (min (fldN c 15 8) (s.power.request + 1))
      ∧ t.power.readback = rb.toNat ∧ t.power.avsFault = false ∧ t.power.changedAt = some s.uptime
      ∧ Out.avs (600 + 5 * max (fldN c 7 0) (min (fldN c 15 8) (s.power.request + 1))) ∈ t.out := by
  have run := exec_avsWindow_acts (rate := rate) (fails := fails) (rb := rb) runs ctl on untouched free sound rested
  dsimp only at run
  by_cases low : s.power.request < fldN c 7 0
  · rw [if_pos (.inl low)] at run
    have same : max (fldN c 7 0) (min (fldN c 15 8) (s.power.request + 1)) = max (fldN c 7 0) (min (fldN c 15 8) s.power.request) := by omega
    obtain ⟨request, readback, fault, changed, -, sent⟩ := State.avsGo_ok (s := s.updPower (·.windowed c rate)) within c s.power.request rb
    exact ⟨_, run, same ▸ request, readback, fault, changed, same ▸ sent⟩
  · rw [if_neg (by omega), if_pos ⟨slow, room⟩] at run
    obtain ⟨request, readback, fault, changed, -, sent⟩ := State.avsGo_ok (s := s.updPower (·.windowed c rate)) within c (s.power.request + 1) rb
    exact ⟨_, run, request, readback, fault, changed, sent⟩

theorem exec_avsWindow_lowers {rate fails : Nat} {rb : BitVec 8} {c : Image} (runs : s.boot ≠ .held) (ctl : c = s.reg R.avsCtl)
    (on : bit c 31 = true) (untouched : s.power.touched = false) (free : 100 ≤ s.power.pace) (sound : s.power.avsFault = false)
    (rested : ∀ t ∈ s.power.changedAt, 125000 ≤ s.uptime - t) (fast : 104 * fldN c 30 20 < 100 * rate) (ninth : s.power.above = 9)
    (room : fldN c 7 0 < s.power.request) (within : fails < 4) :
    ∃ t, exec (.avsWindow rate fails rb) s = .next t
      ∧ t.power.request = max (fldN c 7 0) (min (fldN c 15 8) (s.power.request - 1)) ∧ t.power.above = 0 := by
  have run := exec_avsWindow_acts (rate := rate) (fails := fails) (rb := rb) runs ctl on untouched free sound rested
  dsimp only at run
  by_cases high : fldN c 15 8 < s.power.request
  · rw [if_pos (.inr high)] at run
    have same : max (fldN c 7 0) (min (fldN c 15 8) (s.power.request - 1)) = max (fldN c 7 0) (min (fldN c 15 8) s.power.request) := by omega
    obtain ⟨request, -, -, -, above, -⟩ := State.avsGo_ok (s := s.updPower (·.windowed c rate)) within c s.power.request rb
    exact ⟨_, run, same ▸ request, above⟩
  · have tenth : (s.power.windowed c rate).above = 10 := by
      change (if 104 * fldN c 30 20 < 100 * rate then min 10 (s.power.above + 1) else 0) = 10
      rw [if_pos fast, ninth]
      rfl
    rw [if_neg (by omega), if_neg (by omega), if_pos ⟨tenth, room⟩] at run
    obtain ⟨request, -, -, -, above, -⟩ := State.avsGo_ok (s := s.updPower (·.windowed c rate)) within c (s.power.request - 1) rb
    exact ⟨_, run, request, above⟩

theorem exec_avsRetry {fails : Nat} {rb : BitVec 8} (fault : s.power.avsFault = true) (on : bit (s.reg R.avsCtl) 31 = true) :
    ∃ t, exec (.avsRetry fails rb) s = .next t ∧ t.power = (if fails < 4 then { s.power with avsFault := false, readback := rb.toNat }
      else { s.power with errors := min 4095 (s.power.errors + 1) }) := by
  have sends : ∀ (l : List Nat) (t : State), (l.foldl (fun s _ => s.emit (.avs (600 + 5 * s.power.request))) t).power = t.power := by
    intro l
    induction l with
    | nil => exact fun t => rfl
    | cons n l ih => exact fun t => ih _
  refine ⟨_, congrArg Host.Outcome.next (if_pos ⟨fault, on⟩), ?_⟩
  by_cases within : fails < 4
  · obtain ⟨o, goes, -⟩ := State.avsWrite_ok (s := s) within rb
    rw [goes, if_pos within]
  · unfold State.avsWrite
    dsimp only
    rw [if_neg within, if_neg within]
    change ({ ((List.range (min 4 (fails + 1))).foldl _ s).power with avsFault := true, errors := _ } : Power) = _
    rw [sends, ← fault]

theorem exec_barometerCrossing {deep : Bool} (runs : s.boot ≠ .held) (full : s.power.pace = 100) :
    ∃ t, exec (.barometerCrossing deep) s = .next t ∧ t.wires = s.wires ++ [0x539] ∧ t.power = { s.power with
      pace := if deep then 70 else 85, touched := true, paceAt := s.uptime, intervals := min 65535 (s.power.intervals + 1) } := by
  have sags : s.sag deep = ((s.updPower (fun p => { p with
      pace := if deep then 70 else 85, touched := true, paceAt := s.uptime, intervals := min 65535 (p.intervals + 1) })).countDev 1).raise 0x539 := by
    unfold State.sag
    simp only [full, beq_self_eq_true, if_true]
    have paced : (if deep then 70 else min s.power.pace 85) = if deep then 70 else 85 := by rw [full]; rfl
    simp only [State.updPower, paced]
  exact ⟨_, congrArg Host.Outcome.next ((if_neg runs).trans sags), rfl, rfl⟩

theorem exec_paceRelease_deep (deep : s.power.pace = 70) : exec .paceRelease s = .next (s.updPower (fun p => { p with pace := 85 })) :=
  congrArg Host.Outcome.next (if_pos deep)

theorem exec_paceRelease_last (light : s.power.pace = 85) :
    exec .paceRelease s = .next ((s.updPower (fun p => { p with
      pace := 100, longest := max p.longest (min 65535 (8 * (s.uptime - p.paceAt))) })).countDev 2 (8 * (s.uptime - s.power.paceAt))) :=
  congrArg Host.Outcome.next ((if_neg (by rw [light]; decide)).trans (if_pos light))

/-! Temperature (R617) -/

theorem exec_thermalSample_alarm {c : BitVec 8} (runs : s.boot ≠ .held) (below : c.toInt < fldN (s.reg R.thermalCtl) 23 16)
    (hot : (fldN (s.reg R.thermalCtl) 15 8 : Int) ≤ c.toInt) (armed : s.power.armed = true) :
    exec (.thermalSample c) s = .next ((s.updPower (fun p => { p with tj := c, armed := false })).raise 0x53A) := by
  change Host.Outcome.next (s.thermal c) = _
  unfold State.thermal
  dsimp only
  rw [if_neg (by exact runs), if_neg (by omega), if_pos ⟨hot, by exact armed⟩]
  rfl

theorem exec_thermalSample_trip {c : BitVec 8} (runs : s.boot ≠ .held) (trip : (fldN (s.reg R.thermalCtl) 23 16 : Int) ≤ c.toInt) :
    ∃ t, exec (.thermalSample c) s = .next t ∧ t.boot = .held ∧ t.holds = [5] ∧ t.lastReset = 5 ∧ t.power.tj = c := by
  have run : exec (.thermalSample c) s = .next ((s.updPower (fun p => { p with tj := c })).deviceReset 5) := by
    change Host.Outcome.next (s.thermal c) = _
    unfold State.thermal
    dsimp only
    rw [if_neg (by exact runs), if_pos trip]
  obtain ⟨d, links, host, resets, -⟩ := (s.updPower (fun p => { p with tj := c })).deviceReset_eq 5
  refine ⟨_, run, ?_⟩
  rw [resets]
  exact ⟨rfl, if_neg runs, rfl, rfl⟩

theorem exec_thermalSample_cool {c : BitVec 8} (held : s.boot = .held) (trip : s.holds = [5])
    (cool : c.toInt ≤ fldN (s.reg R.thermalCtl) 23 16 - 20) :
    ∃ t, exec (.thermalSample c) s = .next t ∧ t.boot = .released ∧ t.holds = [] := by
  have run : exec (.thermalSample c) s = .next ((s.updPower (fun p => { p with tj := c })).release [5]) := by
    change Host.Outcome.next (s.thermal c) = _
    unfold State.thermal
    dsimp only
    have held' : (s.updPower (fun p => { p with tj := c })).boot = .held := held
    have trip' : (s.updPower (fun p => { p with tj := c })).holds = [5] := trip
    rw [if_pos held', if_pos]
    rw [trip']
    exact ⟨rfl, cool⟩
  have held' : ¬(s.updPower (fun p => { p with tj := c })).boot ≠ .held := not_not.2 held
  have gone : (s.updPower (fun p => { p with tj := c })).holds.filter (fun k => !([5] : List Nat).contains k) = [] := by
    change s.holds.filter _ = []
    rw [trip]
    rfl
  refine ⟨_, run, ?_⟩
  unfold State.release
  rw [if_neg held', gone]
  exact ⟨rfl, rfl⟩

/-! Lost clocks (R618) -/

theorem State.lane_synthLoss_other (s : State) {p j : Nat} (other : j ≠ p) : (s.synthLoss p).lane j = s.lane j := by
  have set_ : ∀ l, (s.setLane p l).lane j = s.lane j := fun l => Table.get_set_other _ _ _ other
  unfold State.synthLoss
  dsimp only
  split
  all_goals first
    | rfl
    | exact set_ _

theorem State.lane_synthLoss_up {p : Nat} (up : (s.lane p).st = .laneUp) :
    (s.synthLoss p).lane p = { s.lane p with txReady := false, lockLost := true } := by
  have listed : ({ s.lane p with txReady := false, lockLost := true } : Lane) ≠ {} := fun none_ => nomatch congrArg Lane.lockLost none_
  have loses : s.synthLoss p = (s.setLane p { s.lane p with txReady := false, lockLost := true }).settlePause p := by
    unfold State.synthLoss
    dsimp only
    rw [up]
  rw [loses, State.lane_settlePause]
  exact Table.get_set_listed _ _ listed

/-- Each lane in turn loses the clock; a lane is touched at its own turn alone. -/
theorem State.lane_synthLosses {l : List Nat} (once : l.Nodup) {s : State} {p : Nat} (listed : p ∈ l) (up : (s.lane p).st = .laneUp) :
    (l.foldl State.synthLoss s).lane p = { s.lane p with txReady := false, lockLost := true } := by
  have later : ∀ (l : List Nat) (t : State), p ∉ l → (l.foldl State.synthLoss t).lane p = t.lane p := by
    intro l
    induction l with
    | nil => exact fun t _ => rfl
    | cons j l ih =>
      intro t unlisted
      obtain ⟨first, rest⟩ := not_or.1 (fun there => unlisted (List.mem_cons.2 there))
      exact (ih (t.synthLoss j) rest).trans (t.lane_synthLoss_other first)
  induction l generalizing s with
  | nil => exact absurd listed List.not_mem_nil
  | cons j l ih =>
    obtain ⟨new, once'⟩ := List.nodup_cons.1 once
    rw [List.foldl_cons]
    by_cases here : p = j
    · subst here
      rw [later l _ new, State.lane_synthLoss_up up]
    · have same := s.lane_synthLoss_other here
      rw [ih once' ((List.mem_cons.1 listed).resolve_left here) (by rw [same]; exact up), same]

theorem exec_refclkLoss_lane {k : Nat} (up : ∀ i < 12, (s.lane (12 * k + i)).st = .laneUp) :
    ∃ t, exec (.refclkLoss (.lane k)) s = .next t
      ∧ ∀ i < 12, t.lane (12 * k + i) = { s.lane (12 * k + i) with txReady := false, lockLost := true } := by
  refine ⟨_, rfl, fun i inside => State.lane_synthLosses ?_ ?_ (up i inside)⟩
  · refine List.Nodup.append (List.nodup_range.map (fun a b same => Nat.add_left_cancel same)) (by split <;> simp) ?_
    intro j own twin
    obtain ⟨a, below, rfl⟩ := List.mem_map.1 own
    have below' := List.mem_range.1 below
    split at twin
    · next first =>
      have forty := List.mem_singleton.1 twin
      omega
    · exact absurd twin List.not_mem_nil
  · exact List.mem_append_left _ (List.mem_map.2 ⟨i, List.mem_range.2 inside, rfl⟩)

theorem exec_refclkLoss_host {k : Nat} (endpoint : s.hostRole k = 0) (free : (s.hport k).perst = false) (whole : s.bifurcated k = false) :
    ∃ t, exec (.refclkLoss (.host k)) s = .next t ∧ (t.hport k).linkA = { st := 0 } ∧ (t.hport k).perst = false := by
  have free' := (HoldsNone.resetFuncs s (linkFuncs k 0)).free k free
  refine ⟨(s.resetFuncs (linkFuncs k 0)).updHlink k 0 (fun _ => .reset 0), ?_, State.hlink_updHlink free' 0 _, ?_⟩
  · change execRefclkLoss (.host k) s = _
    unfold execRefclkLoss
    simp only [free, endpoint, whole, Bool.false_eq_true, if_false, ne_eq, not_true_eq_false, Nat.zero_ne_one]
  · rw [State.hport_updHlink free', HPort.perst_withLink]
    exact free'

theorem exec_refclkLoss_time (s : State) : ∃ t, exec (.refclkLoss .time) s = .next t ∧ t.time.refclkLost = true
    ∧ t.time.st = (if s.time.st = .synced ∨ s.time.st = .acquiring then TimeSt.holdover else s.time.st) := by
  have cut : (s.updTime (fun t => { t with refclkLost := true })).timeCut = true := by
    change (true || _ || _) = true
    rfl
  refine ⟨_, rfl, ?_⟩
  unfold State.timeCauses
  rw [cut]
  by_cases kept : s.time.st = .synced ∨ s.time.st = .acquiring
  · rw [if_pos ⟨kept, rfl⟩, if_pos kept]
    exact ⟨rfl, rfl⟩
  · rw [if_neg (fun both => kept both.1), if_neg (by simp), if_neg kept]
    exact ⟨rfl, rfl⟩

theorem exec_refclkReturn (holdover : s.time.st = .holdover) (parent : s.timeSource = 2 → (s.link s.timeParent).st = .up)
    (pps : s.timeSource = 1 → s.time.ppsSeen = true) :
    ∃ t, exec .refclkReturn s = .next t ∧ t.time = { s.time with refclkLost := false, st := .acquiring, good := 0 } := by
  have free : (s.updTime (fun t => { t with refclkLost := false })).timeCut = false := by
    change (false || (s.timeSource == 2 && (s.link s.timeParent).st != .up) || (s.timeSource == 1 && !s.time.ppsSeen)) = false
    by_cases two : s.timeSource = 2
    · simp [two, parent two]
    · by_cases one : s.timeSource = 1
      · simp [one, pps one]
      · simp [two, one]
  refine ⟨_, rfl, ?_⟩
  unfold State.timeCauses
  have holdover' : (s.updTime (fun t => { t with refclkLost := false })).time.st = .holdover := holdover
  rw [free, if_neg (by simp), if_pos ⟨holdover', rfl⟩]
  rfl

end

/-- Settles O46: voltage control, the pace governor, temperature and lost clocks. -/
theorem voltagePaceAndTemperature : Obligations.VoltagePaceAndTemperature := by
  unfold Obligations.VoltagePaceAndTemperature
  exact ⟨fun s rate fails rb => exec_avsWindow_ignored, fun s rate fails rb c => exec_avsWindow_raises,
    fun s rate fails rb c => exec_avsWindow_lowers, fun s fails rb => exec_avsRetry, fun s deep => exec_barometerCrossing,
    fun s => exec_paceRelease_deep, fun s => exec_paceRelease_last, fun s c => exec_thermalSample_alarm,
    fun s c => exec_thermalSample_trip, fun s c => exec_thermalSample_cool, fun s k => exec_refclkLoss_lane,
    fun s k => exec_refclkLoss_host, exec_refclkLoss_time, fun s => exec_refclkReturn⟩

end Sys2Proof.Machine
end

section
/-! The timebase (family 21, R619–R626): the tick, probes and replies, PPS and TIME_SET. -/

namespace Sys2Proof.Machine

variable {s : State}

/-! The tick (R619) -/

theorem State.timeCauses_timeQ (s : State) : s.timeCauses.timeQ = s.timeQ := by
  unfold State.timeCauses
  (repeat' split) <;> rfl

theorem State.timeCauses_uptime (s : State) : s.timeCauses.uptime = s.uptime := by
  unfold State.timeCauses
  (repeat' split) <;> rfl

/-- Outside a hold, TIME advances by the whole step. -/
theorem State.advanceTime_flows (flows : s.time.hold = 0) :
    s.advanceTime.uptime = s.uptime + 1 ∧ s.advanceTime.timeQ = s.timeQ + (8 * 2 ^ 32 + s.time.f + s.time.p).toNat := by
  refine ⟨rfl, ?_⟩
  change s.timeQ + (_ - min _ s.time.hold) = _
  rw [flows, Nat.min_zero, Nat.sub_zero]
  rfl

/-- A tick moves the clock as `advanceTime` does; the counts, islands, gates and buckets leave the clock alone. -/
theorem State.timeTick_clock (runs : s.boot ≠ .held) : ∃ u : State, u.control = s.control
    ∧ s.timeTick.uptime = u.advanceTime.uptime ∧ s.timeTick.timeQ = u.advanceTime.timeQ := by
  refine ⟨(s.lanes.map (·.1)).foldl (fun s p => s.countFec p) s, foldl_control (fun t p => t.countFec_control p) _ _, ?_⟩
  unfold State.timeTick
  rw [if_neg runs]
  dsimp only
  rw [State.timeCauses_uptime, State.timeCauses_timeQ]
  generalize (s.lanes.map (·.1)).foldl (fun s p => s.countFec p) s = u
  generalize u.outputs.map (·.1) = gates
  have worked : ((List.range 5).foldl (fun s i => s.islandWake i) (gates.foldl (fun s p => s.gateOff p) u.advanceTime)).refillAll.control
      = u.advanceTime.control := by
    rw [State.refillAll_control, foldl_control (fun t i => t.islandWake_control i), foldl_control (fun t p => t.gateOff_control p)]
  generalize ((List.range 5).foldl (fun s i => s.islandWake i) (gates.foldl (fun s p => s.gateOff p) u.advanceTime)).refillAll = t at worked ⊢
  exact ⟨congrArg Control.uptime worked, congrArg Control.timeQ worked⟩

theorem exec_timebaseTick (runs : s.boot ≠ .held) (flows : s.time.hold = 0) :
    ∃ t, exec .timebaseTick s = .next t ∧ t.uptime = s.uptime + 1 ∧ t.timeQ = s.timeQ + (8 * 2 ^ 32 + s.time.f + s.time.p).toNat := by
  obtain ⟨u, same, up, time⟩ := State.timeTick_clock runs
  have clock : u.time = s.time := congrArg Control.time same
  obtain ⟨up', time'⟩ := State.advanceTime_flows (s := u) (by rw [clock]; exact flows)
  refine ⟨_, rfl, up.trans (up'.trans ?_), time.trans (time'.trans ?_)⟩
  · rw [show u.uptime = s.uptime from congrArg Control.uptime same]
  · rw [show u.timeQ = s.timeQ from congrArg Control.timeQ same, clock]

/-! Probes and replies (R621, R623) -/

/-- A message joins the bypass queue of a link that is UP and has room. -/
theorem State.queueBypass_joins {p : Nat} (m : BypassMsg) (up : (s.link p).st = .up) (room : (s.link p).bypassQ.length < 64) :
    s.queueBypass p m = s.setLink p { s.link p with bypassQ := (s.link p).bypassQ ++ [m] } := by
  unfold State.queueBypass
  dsimp only
  rw [if_neg (by rw [up]; exact LinkSt.noConfusion), if_neg (fun dozing => LinkSt.noConfusion (up.symm.trans dozing.1)), if_neg (by omega)]

theorem State.bypassQ_queueBypass {p : Nat} (m : BypassMsg) (up : (s.link p).st = .up) (room : (s.link p).bypassQ.length < 64) :
    ((s.queueBypass p m).link p).bypassQ = (s.link p).bypassQ ++ [m] := by
  rw [State.queueBypass_joins m up room, State.link_setLink_same]
  exact fun none_ => List.append_ne_nil_of_right_ne_nil _ (List.cons_ne_nil _ _) (congrArg Link.bypassQ none_)

theorem exec_timeProbeSend {p n : Nat} (follows : s.timeSource = 2) (parent : p = s.timeParent) (up : (s.link p).st = .up)
    (room : (s.link p).bypassQ.length < 64) (next_ : n = (s.time.probeSeq + 1) % 256) :
    ∃ t, exec .timeProbeSend s = .next t ∧ t.time.probe = some (n, none)
      ∧ (t.link p).bypassQ = (s.link p).bypassQ ++ [BitVec.ofNat 128 (2 + at' 8 n)] := by
  subst parent next_
  have sends : s.sendProbe = (((if s.time.probe.isSome then s.countDev 27 else s).updTime (fun t => { t with
      probeSeq := (s.time.probeSeq + 1) % 256, probe := some ((s.time.probeSeq + 1) % 256, none) })).queueBypass s.timeParent
        (BitVec.ofNat 128 (2 + at' 8 ((s.time.probeSeq + 1) % 256)))) := by
    unfold State.sendProbe
    rw [if_neg (by simp [follows, up])]
    split <;> rfl
  have links : ∀ u : State, u = (if s.time.probe.isSome then s.countDev 27 else s) → u.link s.timeParent = s.link s.timeParent := by
    rintro u rfl
    split <;> rfl
  refine ⟨_, congrArg Host.Outcome.next sends, ?_⟩
  generalize hu : (if s.time.probe.isSome then s.countDev 27 else s) = u at *
  have same := links u rfl
  generalize BitVec.ofNat 128 _ = m
  constructor
  · rw [State.queueBypass_joins m (by exact same ▸ up) (by exact same ▸ room)]
    rfl
  · rw [State.bypassQ_queueBypass m (by exact same ▸ up) (by exact same ▸ room)]
    exact congrArg (fun k : Link => k.bypassQ ++ [m]) same

/-- A message with TYPE 3, a SEQ and a rest above it. -/
theorem reply_fields {x q : Nat} (fits : q < 256) (r : Nat) (made : x = 3 + at' 8 q + r * 2 ^ 16) :
    BypassMsg.type (BitVec.ofNat 128 x) = 3 ∧ fldN (BitVec.ofNat 128 x) 15 8 = q := by
  subst made
  unfold BypassMsg.type fldN at'
  simp only [BitVec.toNat_ofNat, Nat.shiftLeft_eq, Nat.shiftRight_eq_div_pow]
  omega

theorem fldN_lt {w : Nat} (v : BitVec w) (hi lo : Nat) : fldN v hi lo < 2 ^ (hi + 1 - lo) := Nat.mod_lt _ (Nat.two_pow_pos _)

theorem exec_timeProbe {p at_ : Nat} {m : BypassMsg} (oldest : s.oldestBypass 2 = some (p, m, at_)) (up : (s.link p).st = .up)
    (room : (s.link p).bypassQ.length < 64) :
    ∃ t, exec .timeProbe s = .next t ∧ t.bypassIn = s.bypassIn.erase (p, m, at_)
      ∧ ∃ a : BypassMsg, (t.link p).bypassQ = (s.link p).bypassQ ++ [a] ∧ a.type = 3 ∧ fldN a 15 8 = fldN m 15 8 := by
  obtain ⟨r, answers⟩ : ∃ r : Nat, s.answerProbe = ({ s with bypassIn := s.bypassIn.erase (p, m, at_) } : State).queueBypass p
      (BitVec.ofNat 128 (3 + at' 8 (fldN m 15 8) + r * 2 ^ 16)) := by
    unfold State.answerProbe
    rw [oldest]
    dsimp only
    generalize at_ - Config.rxDelay p = t2
    refine ⟨t2 / 2 ^ 16 % 2 ^ 16 + t2 / 2 ^ 32 % 2 ^ 64 * 2 ^ 16 + s.time.st.code * 2 ^ 104, congrArg (State.queueBypass _ p) ?_⟩
    refine congrArg (BitVec.ofNat 128) ?_
    simp only [at', Nat.shiftLeft_eq]
    ring
  obtain ⟨type, seq⟩ := reply_fields (fldN_lt m 15 8) r rfl
  generalize BitVec.ofNat 128 _ = reply at answers type seq
  refine ⟨_, congrArg Host.Outcome.next answers, ?_, reply, State.bypassQ_queueBypass reply (by exact up) (by exact room), type, seq⟩
  rw [State.queueBypass_joins (s := { s with bypassIn := s.bypassIn.erase (p, m, at_) }) reply (by exact up) (by exact room)]
  rfl

theorem State.timeJudge_keeps (s : State) (offset : Int) (ok : Bool) : (s.timeJudge offset ok).bypassIn = s.bypassIn
    ∧ (s.timeJudge offset ok).time.probe = s.time.probe ∧ (s.timeJudge offset ok).time.offset = s.time.offset
    ∧ (s.timeJudge offset ok).time.delay = s.time.delay := by
  refine ⟨rfl, ?_⟩
  unfold State.timeJudge State.updTime
  dsimp only
  (repeat' split) <;> exact ⟨rfl, rfl, rfl⟩

theorem State.correct_measures (s : State) (offset delay : Int) (ok : Bool) : (s.correct offset delay ok).bypassIn = s.bypassIn
    ∧ (s.correct offset delay ok).time.probe = s.time.probe ∧ (s.correct offset delay ok).time.offset = offset
    ∧ (s.correct offset delay ok).time.delay = delay := by
  unfold State.correct
  dsimp only
  obtain ⟨waiting, probe, offset', delay'⟩ := State.timeJudge_keeps (if s.stepLimit < offset then
      { s.updTime (fun t => { t with offset := offset, delay := delay }) with timeQ := s.timeQ + offset.toNat }
    else if offset < -s.stepLimit then
      (s.updTime (fun t => { t with offset := offset, delay := delay })).updTime (fun t => { t with hold := offset.natAbs })
    else (s.updTime (fun t => { t with offset := offset, delay := delay })).updTime (fun t => { t with
      p := clampTo 17179869 (8 * offset / (s.syncNs : Int)), f := clampTo 6871947 (t.f + offset / (s.syncNs : Int)) })) offset ok
  refine ⟨Eq.trans waiting ?_, Eq.trans probe ?_, Eq.trans offset' ?_, Eq.trans delay' ?_⟩ <;> (repeat' split) <;> rfl

theorem exec_timeReply {n t1 t2 t3 p at_ : Nat} {m : BypassMsg} {a b : Int} (oldest : s.oldestBypass 3 = some (p, m, at_))
    (sent : s.time.probe = some (n, some t1)) (follows : s.timeSource = 2) (parent : p = s.timeParent) (matches_ : fldN m 15 8 = n)
    (there : t2 = fldN m 95 32 * 2 ^ 32 + fldN m 31 16 * 2 ^ 16) (left : t3 = t2 + fldN m 119 96 * 2 ^ 28) (out : a = t2 - t1)
    (back : b = ((at_ - Config.rxDelay p : Nat) : Int) - t3) :
    ∃ t, exec .timeReply s = .next t ∧ t.bypassIn = s.bypassIn.erase (p, m, at_) ∧ t.time.probe = none
      ∧ t.time.offset = (a - b) / 2 - s.asym p ∧ t.time.delay = (a + b) / 2 := by
  have takes : s.takeReply = (({ s with bypassIn := s.bypassIn.erase (p, m, at_) } : State).updTime (fun t => { t with probe := none })).correct
      ((a - b) / 2 - s.asym p) ((a + b) / 2) (fldN m 127 120 == 2) := by
    unfold State.takeReply
    rw [oldest]
    dsimp only
    rw [sent]
    dsimp only
    rw [if_neg (by rintro (no | no | no); exacts [no follows, no parent, no matches_])]
    subst there left out back
    rfl
  refine ⟨_, congrArg Host.Outcome.next takes, ?_⟩
  exact State.correct_measures ..

/-! PPS and TIME_SET (R624, R626) -/

theorem State.setTime_forward {n : Nat} (forward : s.timeQ ≤ n * 2 ^ 32) : s.setTime n = { s with timeQ := n * 2 ^ 32 } := if_pos forward

theorem State.timeCauses_keeps (s : State) : s.timeCauses.time.ppsTime = s.time.ppsTime ∧ s.timeCauses.time.ppsSeen = s.time.ppsSeen
    ∧ s.timeCauses.timeSource = s.timeSource := by
  unfold State.timeCauses
  (repeat' split) <;> exact ⟨rfl, rfl, rfl⟩

theorem exec_ppsEdge {v : Nat} (runs : s.boot ≠ .held) (pps : s.timeSource = 1) (set_ : s.time.ppsTime = some v) (forward : s.timeQ ≤ v * 2 ^ 32) :
    ∃ t, exec .ppsEdge s = .next t ∧ t.timeQ = v * 2 ^ 32 ∧ t.time.ppsTime = none ∧ t.time.ppsSeen = true := by
  refine ⟨_, congrArg Host.Outcome.next (if_neg runs), ?_⟩
  unfold State.ppsEdge
  dsimp only
  obtain ⟨kept, seen, source⟩ := (s.updTime (fun t => { t with ppsSeen := true })).timeCauses_keeps
  have now := (s.updTime (fun t => { t with ppsSeen := true })).timeCauses_timeQ
  generalize (s.updTime (fun t => { t with ppsSeen := true })).timeCauses = u at *
  rw [if_neg (not_not.2 (source.trans pps)), kept.trans set_]
  dsimp only
  rw [State.setTime_forward (by exact now.trans_le forward)]
  exact ⟨rfl, rfl, seen⟩

theorem exec_ppsTimeout (pps : s.timeSource = 1) (led : s.time.st = .synced ∨ s.time.st = .acquiring) :
    exec .ppsTimeout s = .next (s.updTime (fun t => { t with ppsSeen := false, st := .holdover, p := 0, good := 0 })) := by
  have cut : (s.updTime (fun t => { t with ppsSeen := false })).timeCut = true := by
    change (s.time.refclkLost || (s.timeSource == 2 && (s.link s.timeParent).st != .up) || (s.timeSource == 1 && !false)) = true
    simp [pps]
  exact congrArg Host.Outcome.next (if_pos ⟨led, cut⟩)

/-- A TIME_SET write that the server accepts and that does not set TIME back: the device takes the value, and answers. -/
theorem State.timeSetWrite_done {q : Req} {role : Role} {v : Image} {n : Nat} (accepted : s.mayWrite q role R.timeSet 0 0 v = true)
    (value : n = fldN v 63 0) (leads : s.timeSource ≠ 2) (forward : s.timeQ ≤ n * 2 ^ 32) :
    ∃ b a au an sf, Served (if s.timeSource = 1 then (s.taken b a au an sf).updTime (fun t => { t with ppsTime := some n })
      else (s.taken b a au an sf).setTime n) (s.timeSetWrite q v) := by
  subst value
  obtain ⟨b, a, au, an, sf, served, -⟩ := State.dictWrite_done accepted
    (fun s => if s.timeSource = 2 ∨ fldN v 63 0 * 2 ^ 32 + (2 ^ 32 - 1) < s.timeQ then some .outOfRange else none)
    (fun s => (if s.timeSource = 1 then s.updTime (fun t => { t with ppsTime := some (fldN v 63 0) }) else s.setTime (fldN v 63 0), .ok))
    (fun b a au an sf => if_neg (by
      rintro (two | late)
      · exact leads two
      · exact absurd (show fldN v 63 0 * 2 ^ 32 + (2 ^ 32 - 1) < s.timeQ from late) (by omega)))
  rw [State.storeVal_unstored (by decide)] at served
  exact ⟨b, a, au, an, sf, served⟩

theorem exec_timeSet_free {q : Req} {role : Role} {v : Image} {n : Nat} (accepted : s.mayWrite q role R.timeSet 0 0 v = true)
    (value : n = fldN v 63 0) (free : s.timeSource = 0) (forward : s.timeQ ≤ n * 2 ^ 32) :
    ∃ t, exec (.timeSet q v) s = .next t ∧ t.timeQ = n * 2 ^ 32 ∧ t.time = s.time := by
  obtain ⟨b, a, au, an, sf, served⟩ := State.timeSetWrite_done accepted value (by rw [free]; decide) forward
  rw [if_neg (by rw [free]; decide), State.setTime_forward (by exact forward)] at served
  exact ⟨_, rfl, served.timeQ, served.time⟩

theorem exec_timeSet_pps {q : Req} {role : Role} {v : Image} {n : Nat} (accepted : s.mayWrite q role R.timeSet 0 0 v = true)
    (value : n = fldN v 63 0) (pps : s.timeSource = 1) (forward : s.timeQ ≤ n * 2 ^ 32) :
    ∃ t, exec (.timeSet q v) s = .next t ∧ t.timeQ = s.timeQ ∧ t.time = { s.time with ppsTime := some n } := by
  obtain ⟨b, a, au, an, sf, served⟩ := State.timeSetWrite_done accepted value (by rw [pps]; decide) forward
  rw [if_pos pps] at served
  exact ⟨_, rfl, served.timeQ, served.time⟩

/-- Settles O47: the timebase, probes, PPS and TIME_SET. -/
theorem timeIsKeptAndSet : Obligations.TimeIsKeptAndSet := by
  unfold Obligations.TimeIsKeptAndSet
  exact ⟨fun s => exec_timebaseTick, fun s p n => exec_timeProbeSend, fun s p at_ m => exec_timeProbe,
    fun s n t1 t2 t3 p at_ m a b => exec_timeReply, fun s v => exec_ppsEdge, fun s => exec_ppsTimeout,
    fun s q role v n => exec_timeSet_free, fun s q role v n => exec_timeSet_pps⟩

end Sys2Proof.Machine
end

section
/-! Resets of the device and its start-up (family 21, R627–R629). -/

namespace Sys2Proof.Machine

/-! Tables -/

section
variable {α : Type} [DecidableEq α]

omit [DecidableEq α] in
theorem Table.filter_erase (t : Table α) (k : Nat) : (t.erase k).filter (fun e => e.1 != k) = t.filter (fun e => e.1 != k) := by
  induction t with
  | nil => rfl
  | cons e t ih =>
    obtain ⟨j, w⟩ := e
    unfold Table.erase
    split
    · next here => rw [List.filter_cons_of_neg (by simp [here])]
    · next there => rw [List.filter_cons_of_pos (by simpa using there), List.filter_cons_of_pos (by simpa using there), ih]

omit [DecidableEq α] in
theorem Table.filter_insert (t : Table α) (k : Nat) (v : α) : (t.insert k v).filter (fun e => e.1 != k) = t.filter (fun e => e.1 != k) := by
  induction t with
  | nil => exact List.filter_cons_of_neg (by simp)
  | cons e t ih =>
    obtain ⟨j, w⟩ := e
    unfold Table.insert
    split
    · exact List.filter_cons_of_neg (by simp)
    · split
      · next here => rw [List.filter_cons_of_neg (by simp), List.filter_cons_of_neg (by simp [here])]
      · next there =>
        have apart : ¬ j = k := fun same => there same.symm
        rw [List.filter_cons_of_pos (by simpa using apart), List.filter_cons_of_pos (by simpa using apart), ih]

/-- A write leaves every other entry where it was. -/
theorem Table.filter_set (d : α) (t : Table α) (k : Nat) (v : α) :
    (Table.set d t k v).filter (fun e => e.1 != k) = t.filter (fun e => e.1 != k) := by
  unfold Table.set
  split
  · exact Table.filter_erase t k
  · exact Table.filter_insert t k v

omit [DecidableEq α] in
theorem Table.risingFrom_filter (p : Nat × α → Bool) {t : Table α} {lo : Option Nat} (rising : Table.risingFrom lo t = true) :
    Table.risingFrom lo (t.filter p) = true := by
  induction t generalizing lo with
  | nil => exact rising
  | cons e t ih =>
    obtain ⟨k, v⟩ := e
    have above : Table.risingFrom (some k) t = true := by
      cases lo with
      | none => exact rising
      | some a => exact ((Bool.and_eq_true _ _).mp rising).2
    by_cases kept : p (k, v) = true
    · rw [List.filter_cons_of_pos kept]
      cases lo with
      | none => exact ih above
      | some a => exact (Bool.and_eq_true _ _).mpr ⟨((Bool.and_eq_true _ _).mp rising).1, ih above⟩
    · rw [List.filter_cons_of_neg kept]
      cases lo with
      | none => exact Table.rising_drop (ih above)
      | some a => exact Table.risingFrom_mono (of_decide_eq_true ((Bool.and_eq_true _ _).mp rising).1).le (ih above)

omit [DecidableEq α] in
/-- A filter by the key keeps what a key that it takes reads. -/
theorem Table.get_filter_key (p : Nat → Bool) (d : α) (t : Table α) {k : Nat} (taken : p k = true) :
    Table.get d (t.filter (fun e => p e.1)) k = Table.get d t k := by
  induction t with
  | nil => rfl
  | cons e t ih =>
    obtain ⟨j, w⟩ := e
    by_cases here : j = k
    · subst here
      rw [List.filter_cons_of_pos (by exact taken)]
      simp only [Table.get, if_true]
    · by_cases kept : p j = true
      · rw [List.filter_cons_of_pos (by exact kept)]
        simp only [Table.get, if_neg here, ih]
      · rw [List.filter_cons_of_neg (by exact kept)]
        simp only [Table.get, if_neg here, ih]

end

/-- Values put above a key leave it alone. -/
theorem get_putKeys_above {k : Nat} (d : Image) {l : List Change} (above : Table.risingFrom (some k) l = true) (t : Table Image) :
    Table.get d (putKeys t l) k = Table.get d t k := by
  induction l generalizing t with
  | nil => rfl
  | cons c l ih =>
    obtain ⟨first, rest⟩ := (Bool.and_eq_true _ _).mp above
    have later : k < c.1 := of_decide_eq_true first
    exact (ih (Table.risingFrom_mono later.le rest) _).trans (Table.get_set_apart _ _ _ _ later.ne)

/-- The values of a list in the order of its keys are put one by one; what a key held that stands as it is put is then read. -/
theorem get_putKeys {k : Nat} {l : List Change} (rising : Table.risingFrom none l = true)
    (stands : keyValue k (Table.get (keyDefault k) l k) = Table.get (keyDefault k) l k) {t : Table Image}
    (sorted : Table.risingFrom none t = true) (unset : Table.get (keyDefault k) t k = keyDefault k) :
    Table.get (keyDefault k) (putKeys t l) k = Table.get (keyDefault k) l k := by
  induction l generalizing t with
  | nil => exact unset
  | cons c l ih =>
    obtain ⟨j, v⟩ := c
    have above : Table.risingFrom (some j) l = true := rising
    by_cases here : j = k
    · subst here
      have read : Table.get (keyDefault j) ((j, v) :: l) j = v := if_pos rfl
      rw [read] at stands ⊢
      exact (get_putKeys_above _ above _).trans ((Table.get_set_rising _ _ _ sorted).trans stands)
    · have read : Table.get (keyDefault k) ((j, v) :: l) k = Table.get (keyDefault k) l k := if_neg here
      rw [read] at stands ⊢
      exact ih (Table.rising_drop above) stands (Table.rising_set _ _ _ sorted)
        ((Table.get_set_apart _ _ _ _ (Ne.symm here)).trans unset)

section
variable {s : State}

/-! Reset (R627, R628) -/

/-- A device that runs as a reset leaves it: held for that cause alone, with what the caddy keeps, RING_CTL apart. -/
theorem State.deviceReset_leaves (kind : Nat) (runs : s.boot ≠ .held) (none_ : s.service.releasing = []) :
    (s.deviceReset kind).boot = .held ∧ (s.deviceReset kind).holds = [kind] ∧ (s.deviceReset kind).lastReset = kind
      ∧ (s.deviceReset kind).resets = (if kind = 1 then 0 else min 65535 (s.resets + 1))
      ∧ (s.deviceReset kind).dict.filter (fun e => e.1 != R.ringCtl.key 0 0)
        = s.dict.filter (fun e => inCaddy e.1 && e.1 != R.ringCtl.key 0 0)
      ∧ (s.deviceReset kind).active = [] ∧ (s.deviceReset kind).timeQ = 0 ∧ (s.deviceReset kind).mgmt.sessions = []
      ∧ (s.deviceReset kind).straps = s.straps := by
  obtain ⟨d, links, host, resets, kept⟩ := s.deviceReset_eq kind
  rw [resets]
  refine ⟨rfl, if_neg runs, rfl, rfl, ?_, rfl, rfl, rfl, rfl⟩
  refine (Table.filter_set _ _ _ _).trans ?_
  change d.filter _ = _
  rw [kept none_, List.filter_filter]
  exact congrArg (fun p => s.dict.filter p) (funext fun e => Bool.and_comm _ _)

/-- A server that serves belongs to a device that runs. -/
theorem State.runs_of_mayWrite {q : Req} {role : Role} {r : Reg} {i e : Nat} {v : Image} (accepted : s.mayWrite q role r i e v = true) :
    s.boot ≠ .held := by
  intro held
  simp only [State.mayWrite, State.atDoor, State.serving, held, Bool.and_eq_true, Bool.or_eq_true, beq_iff_eq] at accepted
  obtain ⟨⟨⟨⟨door, -⟩, -⟩, -⟩, -⟩ := accepted
  simp at door

/-- A DEV_RESET of 1 that the server accepts is answered, and the device resets. -/
theorem State.devResetWrite_resets {q : Req} {role : Role} {v : Image} (accepted : s.mayWrite q role R.devReset 0 0 v = true)
    (one : v.toNat = 1) : ∃ u : State, s.devResetWrite q v = u.deviceReset 4 ∧ u.boot = s.boot ∧ u.resets = s.resets ∧ u.dict = s.dict
      ∧ u.service = s.service := by
  have passes : ∀ u : State, (if v = 0 ∨ v.toNat ≠ 1 then some Fdp.outOfRange else none) = none := by
    refine fun _ => if_neg ?_
    rintro (rfl | other)
    · simp at one
    · exact other one
  obtain ⟨b, a, au, an, sf, served, -⟩ := State.dictWrite_done accepted (fun _ => if v = 0 ∨ v.toNat ≠ 1 then some .outOfRange else none)
    (fun s => ({ s with holds := s.holds ++ [4] }, .ok)) (fun _ _ _ _ _ => passes s)
  rw [State.storeVal_unstored (by decide)] at served
  obtain ⟨m, tw, o, c, tt, bu, ho, same⟩ := served.same
  unfold State.devResetWrite
  dsimp only
  generalize s.dictWrite q R.devReset 0 0 v _ _ = t at same ⊢
  have holds : t.holds = s.holds ++ [4] := by rw [same]; rfl
  refine ⟨t, if_pos (by rw [holds]; simp), ?_⟩
  rw [same]
  exact ⟨rfl, rfl, rfl, rfl⟩

theorem exec_devReset {q : Req} {role : Role} (accepted : s.mayWrite q role R.devReset 0 0 1 = true) (none_ : s.service.releasing = []) :
    ∃ t, exec (.devReset q 1) s = .next t ∧ t.boot = .held ∧ t.holds = [4] ∧ t.lastReset = 4 ∧ t.resets = min 65535 (s.resets + 1)
      ∧ t.dict.filter (fun e => e.1 != R.ringCtl.key 0 0) = s.dict.filter (fun e => inCaddy e.1 && e.1 != R.ringCtl.key 0 0)
      ∧ t.active = [] ∧ t.timeQ = 0 ∧ t.mgmt.sessions = [] := by
  have one : (1 : Image).toNat = 1 := BitVec.toNat_one (by decide)
  generalize (1 : Image) = v at accepted one ⊢
  obtain ⟨u, resets, boot, number, stored, service⟩ := State.devResetWrite_resets accepted one
  obtain ⟨held, holds, kind, count, dict, active, time, sessions, -⟩ := State.deviceReset_leaves (s := u) 4
    (by rw [boot]; exact State.runs_of_mayWrite accepted) (by rw [service]; exact none_)
  rw [number] at count
  rw [stored] at dict
  exact ⟨_, congrArg Host.Outcome.next resets, held, holds, kind, count, dict, active, time, sessions⟩

theorem exec_pinReset (runs : s.boot ≠ .held) (none_ : s.service.releasing = []) :
    ∃ t, exec .pinReset s = .next t ∧ t.boot = .held ∧ t.holds = [2] ∧ t.lastReset = 2 ∧ t.resets = min 65535 (s.resets + 1)
      ∧ t.dict.filter (fun e => e.1 != R.ringCtl.key 0 0) = s.dict.filter (fun e => inCaddy e.1 && e.1 != R.ringCtl.key 0 0)
      ∧ t.active = [] ∧ t.timeQ = 0 ∧ t.mgmt.sessions = [] ∧ t.straps = s.straps :=
  ⟨_, rfl, State.deviceReset_leaves 2 runs none_⟩

theorem exec_powerOnReset (runs : s.boot ≠ .held) (none_ : s.service.releasing = []) :
    ∃ t, exec .powerOnReset s = .next t ∧ t.boot = .held ∧ t.holds = [1] ∧ t.lastReset = 1 ∧ t.resets = 0
      ∧ t.dict.filter (fun e => e.1 != R.ringCtl.key 0 0) = s.dict.filter (fun e => inCaddy e.1 && e.1 != R.ringCtl.key 0 0)
      ∧ t.active = [] ∧ t.timeQ = 0 ∧ t.mgmt.sessions = [] := by
  obtain ⟨held, holds, kind, count, dict, active, time, sessions, -⟩ := State.deviceReset_leaves 1 runs none_
  exact ⟨_, rfl, held, holds, kind, count, dict, active, time, sessions⟩

theorem exec_supplyReset (runs : s.boot ≠ .held) (none_ : s.service.releasing = []) :
    ∃ t, exec .supplyReset s = .next t ∧ t.boot = .held ∧ t.holds = [3] ∧ t.lastReset = 3 ∧ t.resets = min 65535 (s.resets + 1)
      ∧ t.dict.filter (fun e => e.1 != R.ringCtl.key 0 0) = s.dict.filter (fun e => inCaddy e.1 && e.1 != R.ringCtl.key 0 0)
      ∧ t.active = [] ∧ t.timeQ = 0 ∧ t.mgmt.sessions = [] := by
  obtain ⟨held, holds, kind, count, dict, active, time, sessions, -⟩ := State.deviceReset_leaves 3 runs none_
  exact ⟨_, rfl, held, holds, kind, count, dict, active, time, sessions⟩

/-- The release of the last cause releases the device. -/
theorem State.release_last {kinds : List Nat} {k : Nat} (held : s.boot = .held) (last : s.holds = [k]) (gone : kinds.contains k = true) :
    s.release kinds = { s with holds := [], boot := .released } := by
  have empty : s.holds.filter (fun k => !kinds.contains k) = [] := by
    rw [last, List.filter_cons_of_neg (by rw [gone]; decide), List.filter_nil]
  unfold State.release
  rw [if_neg (not_not.2 held), empty]
  rfl

theorem exec_resetRelease_pin {k : Nat} {side : Bool} {id : BitVec 7} (held : s.boot = .held) (pin : k = 1 ∨ k = 2) (last : s.holds = [k]) :
    ∃ t, exec (.resetRelease k side id) s = .next t ∧ t.boot = .released ∧ t.holds = []
      ∧ t.straps = { s.straps with twinSide := side, mgmtId := id.toNat } := by
  refine ⟨_, congrArg Host.Outcome.next ((if_pos pin).trans ((if_pos held).trans (State.release_last held last ?_))), rfl, rfl, rfl⟩
  rcases pin with rfl | rfl <;> rfl

theorem exec_resetRelease_self {k : Nat} {side : Bool} {id : BitVec 7} (held : s.boot = .held) (self : k = 3 ∨ k = 4 ∨ k = 6)
    (last : s.holds = [k]) :
    ∃ t, exec (.resetRelease k side id) s = .next t ∧ t.boot = .released ∧ t.holds = [] ∧ t.straps = s.straps := by
  refine ⟨_, congrArg Host.Outcome.next ((if_neg ?_).trans ((if_neg ?_).trans (State.release_last held last ?_))), rfl, rfl, rfl⟩
  · omega
  · omega
  · exact List.elem_cons_self

/-! The boot ROM (R606) -/

theorem exec_bootFirmwareCheck_runs {bOk : Bool} (released : s.boot = .released) (standing : s.mgmt.lcPending = none)
    (prefersA : fldN (s.reg R.fwSelect) 7 0 ≠ 0x0B) (passes : s.bankPasses s.mgmt.bankA true = true) :
    ∃ t, exec (.bootFirmwareCheck true bOk) s = .next t ∧ t.boot = .booted ∧ t.mgmt.runningB = false ∧ t.mgmt.recovery = false
      ∧ t.mgmt.minVersion = max s.mgmt.minVersion s.mgmt.bankA.floor ∧ t.faults.mcArmed = true := by
  have done : s.finishChange = s := by
    unfold State.finishChange
    rw [standing]
  have boots : s.bootCheck true bOk = s.bootBank false false := by
    unfold State.bootCheck
    rw [done, if_neg prefersA, if_pos passes]
  exact ⟨_, congrArg Host.Outcome.next ((if_pos released).trans boots), rfl, rfl, rfl, rfl, rfl⟩

/-- A device whose boot ROM has found no bank, before it surrenders. -/
def State.bankless (s : State) : State :=
  let s := (s.updMgmt (fun m => { m with recovery := true, fallback := false })).auditWrite 4 0 0 0 0 0 false
  { s.updEngines (fun e => { e with out := List.range 512 }) with boot := .booted }

theorem State.surrender_boots (s : State) (cause : Nat) : (s.surrender cause).boot = s.boot ∧ (s.surrender cause).mgmt.recovery = s.mgmt.recovery := by
  by_cases already : s.twin.st = .surrendered
  · rw [show s.surrender cause = s from if_pos already]
    exact ⟨rfl, rfl⟩
  · obtain ⟨f, control⟩ := State.surrender_control cause already
    exact ⟨congrArg Control.boot control, congrArg (fun c : Control => c.mgmt.recovery) control⟩

theorem State.enterRecovery_shows (s : State) : s.enterRecovery.boot = .booted ∧ s.enterRecovery.mgmt.recovery = true
    ∧ s.enterRecovery.twin.st = .surrendered := by
  have released : s.enterRecovery.control = (s.bankless.surrender 5).control := by
    have ends : s.enterRecovery = (List.range 4).foldl (fun s k => if s.hostRole k = 0 ∧ !(s.hport k).pin then s.hostRelease k else s)
      (s.bankless.surrender 5) := rfl
    rw [ends]
    generalize s.bankless.surrender 5 = u
    refine foldl_control (fun t k => ?_) _ u
    split
    · exact t.hostRelease_control k
    · rfl
  obtain ⟨boot, recovery⟩ := s.bankless.surrender_boots 5
  have surrenders := State.surrendered_surrender s.bankless 5
  have booted : s.bankless.boot = .booted := rfl
  have recovers : s.bankless.mgmt.recovery = true := rfl
  rw [booted] at boot
  rw [recovers] at recovery
  generalize s.bankless.surrender 5 = u at *
  generalize s.enterRecovery = t at *
  exact ⟨(congrArg Control.boot released).trans boot, (congrArg (fun c : Control => c.mgmt.recovery) released).trans recovery,
    (congrArg (fun c : Control => c.twin.st) released).trans surrenders⟩

theorem exec_bootFirmwareCheck_recovers (released : s.boot = .released) :
    ∃ t, exec (.bootFirmwareCheck false false) s = .next t ∧ t.boot = .booted ∧ t.mgmt.recovery = true ∧ t.twin.st = .surrendered := by
  have recovers : s.bootCheck false false = s.finishChange.enterRecovery := by
    have fails : ∀ b, s.finishChange.bankPasses b false = false := by
      intro b
      unfold State.bankPasses
      rw [Bool.and_false, Bool.false_and]
    unfold State.bootCheck
    simp only [fails, Bool.false_eq_true, if_false, ite_self]
  exact ⟨_, congrArg Host.Outcome.next ((if_pos released).trans recovers), State.enterRecovery_shows _⟩

end

/-! The end of start-up (R629) -/

/-- What start-up moves of a device whose values are applied leaves its address, the boot state and the roles. -/
structure Standing where
  boot      : Boot
  rolesOn   : Bool
  life      : LifeCycle
  stored    : Image
  governing : Image

def State.standing (s : State) : Standing := ⟨s.boot, s.rolesOn, s.mgmt.lifecycle, s.reg R.nodeAddr, s.eff R.nodeAddr⟩

theorem foldl_standing {β : Type} {f : State → β → State} {l : List β} (h : ∀ s, ∀ b ∈ l, (f s b).standing = s.standing) (s : State) :
    (l.foldl f s).standing = s.standing := by
  induction l generalizing s with
  | nil => rfl
  | cons b l ih =>
    rw [List.foldl_cons, ih (fun s c listed => h s c (List.mem_cons_of_mem _ listed)), h s b List.mem_cons_self]

theorem State.standing_fillBuckets (s : State) : s.fillBuckets.standing = s.standing := by
  unfold State.fillBuckets
  dsimp only
  refine (foldl_standing ?_ _).trans ((foldl_standing ?_ _).trans ((foldl_standing ?_ _).trans (foldl_standing ?_ _)))
  all_goals exact fun _ _ _ => rfl

/-- NODE_ADDR stands below every object of a higher index. -/
theorem nodeAddr_key_below {r : Reg} {i e : Nat} (above : 0x1003 ≤ r.index i) : R.nodeAddr.key 0 0 ≠ r.key i e := by
  have own : R.nodeAddr.key 0 0 = (0x1002 * 256 + 1) * 2 ^ 20 := by decide
  unfold Reg.key at own ⊢
  rw [own]
  split <;> omega

theorem State.standing_setReg (s : State) {r : Reg} {i e : Nat} (v : Image) (apart : R.nodeAddr.key 0 0 ≠ r.key i e) :
    (s.setReg r i e v).standing = s.standing := by
  have kept := State.reg_setReg_other s (r' := R.nodeAddr) (i' := 0) (e' := 0) v apart
  unfold State.standing
  rw [kept]
  rfl

/-- A staging bank becomes a copy, beside the other values. -/
theorem State.standing_copyTable (s : State) (a : Reg) {b : Reg} (above : 0x1003 ≤ b.index 0) : (s.copyTable a b).standing = s.standing :=
  (foldl_standing (fun t _ _ => t.standing_setReg _ (nodeAddr_key_below above)) _).trans
    (foldl_standing (fun t _ _ => t.standing_setReg _ (nodeAddr_key_below above)) s)

theorem State.standing_commit (s : State) {r : Reg} {i e : Nat} (apart : R.nodeAddr.key 0 0 ≠ r.key i e) : (s.commit r i e).standing = s.standing := by
  have kept : (s.commit r i e).eff R.nodeAddr = s.eff R.nodeAddr := Table.get_set_apart _ _ _ _ apart
  unfold State.standing
  rw [kept]
  rfl

theorem State.standing_opEnd (s : State) (k p f : Nat) : (s.opEnd k p f).standing = s.standing := by
  unfold State.opEnd
  split <;> rfl

/-- Bring-up begins, or ends at once for want of a profile. -/
theorem State.standing_startBringUp (s : State) (p : Nat) : (s.startBringUp p).standing = s.standing := by
  have selects : 0x1003 ≤ R.eqSelect.index p := by
    unfold Reg.index
    split
    · decide
    · exact le_trans (by decide) (Nat.le_add_right _ _)
  have profiles : 0x1003 ≤ R.eqProfile.index p := by
    unfold Reg.index
    split
    · decide
    · exact le_trans (by decide) (Nat.le_add_right _ _)
  have loads := fun sel => (State.standing_commit (s.commit R.eqProfile p sel) (e := 0) (nodeAddr_key_below selects)).trans
    (State.standing_commit s (nodeAddr_key_below profiles))
  unfold State.startBringUp
  dsimp only
  generalize fldN (s.reg R.eqSelect p) 2 0 = sel
  by_cases off : s.role p = 7
  · rw [if_pos off]
    rfl
  · rw [if_neg off]
    split
    · refine Eq.trans ?_ (loads sel)
      generalize (s.commit R.eqProfile p sel).commit R.eqSelect p 0 = u
      rfl
    · exact (State.standing_opEnd _ _ _ _).trans rfl

theorem State.standing_roleTaken (s : State) (p : Nat) : (s.roleChanged p 7).standing = s.standing := by
  unfold State.roleChanged
  dsimp only
  rw [if_pos rfl, if_pos rfl]
  by_cases off : s.role p = 7
  · rw [if_pos off]
  · rw [if_neg off]
    split
    · rfl
    · exact s.standing_startBringUp p

theorem State.standing_hostRelease (s : State) (k : Nat) : (s.hostRelease k).standing = s.standing := by
  unfold State.hostRelease
  dsimp only
  by_cases open_ : (!(s.hport k).perst) = true
  · rw [if_pos open_]
  · rw [if_neg open_]
    generalize awakes : List.foldl _ s _ = u
    have same : u.standing = s.standing := by
      rw [← awakes]
      refine foldl_standing (fun _ _ _ => ?_) s
      rfl
    exact Eq.trans rfl same

/-- Ports, the twin port and the host ports are opened; the roles are on. -/
theorem State.standing_openPorts (s : State) : s.openPorts.standing = { s.standing with rolesOn := true } := by
  unfold State.openPorts
  dsimp only
  refine (foldl_standing (fun t k _ => ?_) _).trans ((State.standing_startBringUp _ 48).trans
    ((foldl_standing (fun t p _ => t.standing_roleTaken p) _).trans rfl))
  split
  · exact t.standing_hostRelease k
  · rfl

theorem State.bindStations_host (l : Table Image) (s : State) : ∃ ho,
    l.foldl (fun s e => s.bindStations ((keyIndex e.1 - 0x4000) / 16) (keyEntry e.1)) s = { s with host := ho } := by
  induction l generalizing s with
  | nil => exact ⟨_, rfl⟩
  | cons e l ih =>
    obtain ⟨ho, same⟩ := ih (s.bindStations ((keyIndex e.1 - 0x4000) / 16) (keyEntry e.1))
    exact ⟨ho, same⟩

/-- The stored address governs once the caddy's values are applied. -/
theorem State.standing_applyCaddy {s : State} (rising : Table.risingFrom none s.dict = true)
    (clear : keyValue (R.nodeAddr.key 0 0) (s.reg R.nodeAddr) = s.reg R.nodeAddr) :
    s.applyCaddy.standing = { s.standing with governing := s.reg R.nodeAddr } := by
  have named : objectOf (R.nodeAddr.key 0 0) = some (R.nodeAddr, 0, 0) := by decide
  have default_ : keyDefault (R.nodeAddr.key 0 0) = R.nodeAddr.default 0 0 := by
    unfold keyDefault
    rw [named]
  have later : governsLater (R.nodeAddr.key 0 0) = true := by
    unfold governsLater
    rw [named]
    decide
  have read := Table.get_filter_key governsLater (R.nodeAddr.default 0 0) s.dict later
  have governs : Table.get (R.nodeAddr.default 0 0) (putKeys [] (s.dict.filter (fun e => governsLater e.1))) (R.nodeAddr.key 0 0) = s.reg R.nodeAddr := by
    have put := get_putKeys (k := R.nodeAddr.key 0 0) (Table.risingFrom_filter (fun e => governsLater e.1) rising)
      (by rw [default_, read]; exact clear) (t := []) rfl rfl
    rw [default_, read] at put
    exact put
  unfold State.applyCaddy
  dsimp only
  generalize (s.dict.filter (fun e => keySub e.1 = 5 ∧ 0x4000 ≤ keyIndex e.1 ∧ keyIndex e.1 < 0x5000 ∧ keyIndex e.1 % 16 = 0)) = stations
  obtain ⟨ho, same⟩ := State.bindStations_host stations s
  rw [same]
  have governed : ({ s with host := ho, active := putKeys [] (s.dict.filter (fun e => governsLater e.1)) } : State).standing
      = { s.standing with governing := s.reg R.nodeAddr } :=
    congrArg (Standing.mk s.boot s.rolesOn s.mgmt.lifecycle (s.reg R.nodeAddr)) governs
  refine Eq.trans ?_ governed
  dsimp only
  generalize ({ s with host := ho, active := putKeys [] (s.dict.filter (fun e => governsLater e.1)) } : State) = u
  have copied : ((u.copyTable R.groupRoute R.groupRouteStage).copyTable R.keyTable R.keyTableStage).fillBuckets.standing = u.standing :=
    (State.standing_fillBuckets _).trans ((State.standing_copyTable _ _ (by decide)).trans (State.standing_copyTable _ _ (by decide)))
  generalize ((u.copyTable R.groupRoute R.groupRouteStage).copyTable R.keyTable R.keyTableStage).fillBuckets = w at copied ⊢
  refine Eq.trans ?_ copied
  split <;> rfl

theorem exec_startUpEnd {s : State} (booted : s.boot = .booted) (sound : s.mgmt.recovery = false) (lives : s.mgmt.lifecycle ≠ .retired)
    (rising : Table.risingFrom none s.dict = true) (clear : keyValue (R.nodeAddr.key 0 0) (s.reg R.nodeAddr) = s.reg R.nodeAddr) :
    ∃ t, exec .startUpEnd s = .next t ∧ t.boot = .up ∧ t.rolesOn = true ∧ t.eff R.nodeAddr = s.reg R.nodeAddr
      ∧ t.reg R.nodeAddr = s.reg R.nodeAddr := by
  have applied := State.standing_applyCaddy rising clear
  have opens : s.startUpEnd = ({ s.applyCaddy with boot := .up } : State).openPorts := by
    refine if_neg ?_
    exact fun retired => lives ((congrArg Standing.life applied).symm.trans retired)
  have ends : s.startUpEnd.standing = { s.standing with boot := .up, rolesOn := true, governing := s.reg R.nodeAddr } := by
    rw [opens, State.standing_openPorts]
    have up : ({ s.applyCaddy with boot := .up } : State).standing = { s.applyCaddy.standing with boot := .up } := rfl
    rw [up, applied]
  refine ⟨_, congrArg Host.Outcome.next (if_pos ⟨booted, by rw [sound]; rfl⟩), ?_⟩
  exact ⟨congrArg Standing.boot ends, congrArg Standing.rolesOn ends, congrArg Standing.governing ends, congrArg Standing.stored ends⟩

/-- Settles O48: resets of the device and its start-up. -/
theorem resetsAndStartUp : Obligations.ResetsAndStartUp := by
  unfold Obligations.ResetsAndStartUp
  exact ⟨fun s q role => exec_devReset, fun s => exec_pinReset, fun s => exec_powerOnReset, fun s => exec_supplyReset,
    fun s k side id => exec_resetRelease_pin, fun s k side id => exec_resetRelease_self, fun s bOk => exec_bootFirmwareCheck_runs,
    fun s => exec_bootFirmwareCheck_recovers, fun s => exec_startUpEnd⟩

end Sys2Proof.Machine
end

section
/-! Sampling and the counters of a slice (family 22, R641–R644). -/

namespace Sys2Proof.Machine

/-! Bytes written to host memory -/

section
variable {s t : State}

/-- Writes to host memory move the host side, and the messages that a wake sends. -/
theorem State.hostWriteN_after (s : State) (b : Burst) (n : Nat) (data : List Byte) :
    ∃ o h, s.hostWriteN b n data = { s with out := o, host := h } := by
  induction n generalizing s b data with
  | zero => exact ⟨_, _, rfl⟩
  | succ n ih =>
    unfold State.hostWriteN
    split
    · exact ⟨_, _, rfl⟩
    · dsimp only
      obtain ⟨o, h, first⟩ := s.request_after { b with
        inst := s.instFor b.func b.addr true, len := (data.take (chunkOf b.func b.addr)).length, data := data.take (chunkOf b.func b.addr) }
      rw [first]
      obtain ⟨o', h', rest⟩ := ih (s.afterAnswer s.mgmt s.twin o s.counters s.totals s.built h) { b with
        addr := b.addr + chunkOf b.func b.addr, acc := b.acc.map (Access.shift · (chunkOf b.func b.addr)) } (data.drop (chunkOf b.func b.addr))
      exact ⟨o', h', rest⟩

theorem State.hostWrite_after (s : State) (b : Burst) (data : List Byte) : ∃ o h, s.hostWrite b data = { s with out := o, host := h } :=
  State.hostWriteN_after ..

theorem State.request_bursts (s : State) (b : Burst) : (s.request b).host.arb.bursts = s.host.arb.bursts ++ [{ b with id := s.host.arb.nextId }] :=
  congrArg Arbiter.bursts (State.wake_arb ..)

/-- At most 512 bytes through a function are one burst. -/
theorem State.hostWrite_one {b : Burst} {data : List Byte} (func : b.func ≠ memFunc) (some_ : data ≠ []) (few : data.length ≤ 512)
    (writable : s.writable b.slice = true) :
    s.hostWrite b data = s.request { b with inst := s.instFor b.func b.addr true, len := data.length, data := data } := by
  have chunk : chunkOf b.func b.addr = 512 := if_neg func
  have none_ : data.isEmpty = false := List.isEmpty_eq_false_iff.2 some_
  unfold State.hostWrite State.hostWriteN
  rw [if_neg (by simp [none_, writable])]
  dsimp only
  rw [chunk, List.take_of_length_le few, List.drop_eq_nil_of_le few]
  unfold State.hostWriteN
  exact if_pos (.inl rfl)

/-- Bytes that lie within one page are one write. -/
theorem State.pagedWrite_one {b : Burst} {data : List Byte} (n : Nat) (some_ : data ≠ []) (within : b.addr % 4096 + data.length ≤ 4096) :
    s.pagedWrite b (n + 2) data = s.hostWrite b data := by
  have none_ : data.isEmpty = false := List.isEmpty_eq_false_iff.2 some_
  have fits : data.length ≤ 4096 - b.addr % 4096 := by omega
  unfold State.pagedWrite
  rw [if_neg (by simp [none_])]
  dsimp only
  rw [List.take_of_length_le fits, List.drop_eq_nil_of_le fits]
  unfold State.pagedWrite
  exact if_pos rfl

end

/-! Sampling (R642–R644) -/

section
variable {s : State} {q : Req} {role : Role} {v : Image}

theorem exec_sampleCtl {f : Fdp} {w : Window} (accepted : s.mayWrite q role R.sampleCtl 0 0 v = true) (allowed : s.sampleBad v = false)
    (submitted : submitWindow (fldN v 63 0) (fldN v 127 64) s.tick = some (f, w)) (free : s.counting.sampling.win.st = .free) :
    ∃ t, exec (.sampleCtl q v) s = .next t
      ∧ t.counting = { s.counting with sampling := { s.counting.sampling with win := w, countdown := fldN v 143 128 + 1 } } := by
  change ∃ t, Host.Outcome.next (s.sampleWrite q v) = _ ∧ _
  unfold State.sampleWrite
  refine State.dictWrite_next accepted (fun b a au an sf => ?_) fun u t recorded answered => ?_
  · have allowed' : (s.taken b a au an sf).sampleBad v = false := allowed
    have submitted' : submitWindow (fldN v 63 0) (fldN v 127 64) (s.taken b a au an sf).tick = some (f, w) := submitted
    simp only [allowed', submitted', Bool.false_eq_true, if_false, Option.isNone_some]
    exact if_neg (not_not.2 free)
  · simp only [recorded.tick, submitted] at answered
    rw [answered.counting, ← recorded.counting]
    rfl

theorem exec_sampleStop (accepted : s.mayWrite q role R.sampleStop 0 0 v = true) :
    ∃ t, exec (.sampleStop q v) s = .next t ∧ t.counting = { s.counting with sampling := { s.counting.sampling with
      win := (stopWindow s.counting.sampling.win (fldN v 63 0) s.tick).2 } } := by
  change ∃ t, Host.Outcome.next (s.sampleStopWrite q v) = _ ∧ _
  unfold State.sampleStopWrite
  refine State.dictWrite_next accepted (fun _ _ _ _ _ => rfl) fun u t recorded answered => ?_
  rw [answered.counting, ← recorded.counting, ← recorded.tick]
  rfl

/-- Records that leave the buffer for the ring move the buffer and the host side. -/
theorem State.drainSamples_after (s : State) (n : Nat) : ∃ o h l, s.drainSamples n
    = { s with out := o, host := h, counting := { s.counting with sampling := { s.counting.sampling with buffer := l } } } := by
  induction n generalizing s with
  | zero => exact ⟨_, _, _, rfl⟩
  | succ n ih =>
    unfold State.drainSamples
    split
    · exact ⟨_, _, _, rfl⟩
    · next r rest _ =>
      dsimp only
      split
      · obtain ⟨o, h, written⟩ := (s.updSampling (fun x => { x with buffer := rest })).hostWrite_after
          { func := (s.updSampling (fun x => { x with buffer := rest })).dumpFunc, slice := 0
            addr := (s.updSampling (fun x => { x with buffer := rest })).dumpBase
              + (sampleOffset (s.reg R.sampleCtl) + 64 * (s.counting.sampling.firstSeq % sampleSlots (s.reg R.sampleCtl))) } r
        unfold State.dumpWrite
        rw [written]
        obtain ⟨o', h', l, more⟩ := ih { s.updSampling (fun x => { x with buffer := rest }) with out := o, host := h }
        exact ⟨o', h', l, more⟩
      · exact ⟨_, _, _, rfl⟩

theorem exec_sampleRecord {d : SampleDue} {ds : List SampleDue} (due : s.counting.sampling.due = d :: ds)
    (room : s.counting.sampling.buffer.length < 1024) :
    ∃ t, exec .sampleRecord s = .next t ∧ t.counting.sampling.due = ds ∧ t.counting.sampling.seq = (s.counting.sampling.seq + 1) % 2 ^ 32
      ∧ t.draws = s.draws + 1 ∧ t.counters = (s.countDev 28).counters := by
  refine ⟨_, rfl, ?_⟩
  unfold State.recordSample
  rw [due]
  dsimp only
  rw [if_neg (by exact Nat.not_le.2 room)]
  generalize SampleDue.record _ _ _ = r
  obtain ⟨o, h, l, drained⟩ := State.drainSamples_after (((s.updSampling (fun x => { x with due := ds })).countDev 28).drawn.updSampling
    (fun x => { x with buffer := x.buffer ++ [r], seq := (x.seq + 1) % 2 ^ 32 })) 1024
  rw [drained]
  exact ⟨rfl, rfl, rfl, rfl⟩

theorem exec_sampleRecord_lost {d : SampleDue} {ds : List SampleDue} (due : s.counting.sampling.due = d :: ds)
    (full : 1024 ≤ s.counting.sampling.buffer.length) :
    exec .sampleRecord s = .next (((s.updSampling (fun x => { x with due := ds })).countDev 28).countDev 29) := by
  refine congrArg Host.Outcome.next ?_
  unfold State.recordSample
  rw [due]
  exact if_pos full

theorem State.drainSamples_full (full : s.sampleRoom = false) (n : Nat) : s.drainSamples n = s := by
  cases n with
  | zero => rfl
  | succ n =>
    unfold State.drainSamples
    split
    · rfl
    · exact if_neg (fun both => Bool.false_ne_true (full.symm.trans both.1))

theorem exec_sampleConsumerRead (waits : s.counting.sampling.buffer ≠ []) (full : s.sampleRoom = false)
    (unread : s.host.reads.all (fun r => r.owner != .sample) = true) (unasked : s.host.arb.bursts.all (fun b => b.owner != .sample) = true)
    (ready : s.dumpReady (sampleOffset (s.reg R.sampleCtl) + 64 * sampleSlots (s.reg R.sampleCtl)) 8 = true)
    (aligned : (s.dumpBase + sampleOffset (s.reg R.sampleCtl)) % 64 = 0) :
    ∃ t, exec .sampleConsumerRead s = .next t ∧ t.counting = s.counting ∧ ∃ b, t.host.arb.bursts = s.host.arb.bursts ++ [b] ∧ b.owner = .sample
      ∧ b.len = 8 ∧ b.data = [] ∧ b.func = s.dumpFunc ∧ b.addr = s.dumpBase + sampleOffset (s.reg R.sampleCtl) + 64 * sampleSlots (s.reg R.sampleCtl) := by
  have none_ : s.counting.sampling.buffer.isEmpty = false := List.isEmpty_eq_false_iff.2 waits
  have free : (s.host.reads.any (fun r => r.owner == .sample) || s.host.arb.bursts.any (fun b => b.owner == .sample)) = false := by
    simp only [List.all_eq_true, bne_iff_ne] at unread unasked
    simp only [Bool.or_eq_false_iff, List.any_eq_false, beq_iff_eq]
    exact ⟨unread, unasked⟩
  generalize slots : sampleSlots (s.reg R.sampleCtl) = n at ready ⊢
  have chunk : 8 ≤ chunkOf s.dumpFunc (s.dumpBase + (sampleOffset (s.reg R.sampleCtl) + 64 * n)) := by
    unfold chunkOf
    split <;> omega
  obtain ⟨inst, asks⟩ : ∃ i, s.readConsumer = s.request { func := s.dumpFunc, slice := 0, inst := i, len := 8, owner := .sample,
                                                           addr := s.dumpBase + (sampleOffset (s.reg R.sampleCtl) + 64 * n) } := by
    unfold State.readConsumer
    dsimp only
    rw [slots, free, none_, full, ready]
    refine ⟨s.instFor s.dumpFunc (s.dumpBase + (sampleOffset (s.reg R.sampleCtl) + 64 * n)) false, (if_neg (by decide)).trans ?_⟩
    unfold State.hostReadN
    rw [if_neg (by decide)]
    dsimp only
    rw [Nat.min_eq_left chunk]
    rfl
  refine ⟨_, congrArg Host.Outcome.next ((congrArg State.readConsumer (State.drainSamples_full full 1024)).trans asks), ?_, _,
    State.request_bursts .., rfl, rfl, rfl, rfl, (Nat.add_assoc _ _ _).symm⟩
  obtain ⟨o, h, same⟩ := s.request_after { func := s.dumpFunc, slice := 0, inst := inst, len := 8, owner := .sample,
                                           addr := s.dumpBase + (sampleOffset (s.reg R.sampleCtl) + 64 * n) }
  rw [same]
  rfl

end

/-! A slice's own counters (R641) -/

/-- The burst that carries a part of a slice's record. -/
def recordBurst (sl f addr : Nat) : Burst :=
  { func := f, slice := sl, addr := addr, stale := true, ring := some (3 * 65536 + sl)
    acc := some { slice := sl, ia := addr, kind := .write, priv := true, func := f } }

section
variable {s : State} {sl f : Nat}

/-- A part of the record within a page is one burst; the slice may be written, and counts, as before. -/
theorem State.pagedWrite_part (func : f ≠ memFunc) (writable : s.writable sl = true) {addr : Nat} {data : List Byte} (some_ : data ≠ [])
    (few : data.length ≤ 512) (within : addr % 4096 + data.length ≤ 4096) :
    ∃ b : Burst, (s.pagedWrite (recordBurst sl f addr) 3 data).host.arb.bursts = s.host.arb.bursts ++ [b] ∧ b.addr = addr ∧ b.data = data
      ∧ (s.pagedWrite (recordBurst sl f addr) 3 data).writable sl = true
      ∧ (s.pagedWrite (recordBurst sl f addr) 3 data).counting = s.counting := by
  have one := (State.pagedWrite_one (s := s) (b := recordBurst sl f addr) 1 some_ within).trans
    (State.hostWrite_one (by exact func) some_ few (by exact writable))
  obtain ⟨o, h, same⟩ := s.hostWrite_after (recordBurst sl f addr) data
  have same' := (State.pagedWrite_one (s := s) (b := recordBurst sl f addr) 1 some_ within).trans same
  refine ⟨_, (congrArg (fun t : State => t.host.arb.bursts) one).trans (State.request_bursts ..), rfl, rfl, ?_, ?_⟩
  · rw [one, State.request, State.wake_writable]
    exact writable
  · rw [same']

theorem length_bytesOf {w : Nat} (v : BitVec w) (n : Nat) : (bytesOf v n).length = n := by simp [bytesOf]

theorem length_recordValues (v : List (BitVec 64)) : (recordValues v).length = 8 * v.length := by
  induction v with
  | nil => rfl
  | cons x v ih =>
    have split_ : recordValues (x :: v) = bytesOf x 8 ++ recordValues v := rfl
    rw [split_, List.length_append, length_bytesOf, ih, List.length_cons]
    omega

theorem ne_nil_of_length {data : List Byte} {n : Nat} (len : data.length = n) (some_ : n ≠ 0) : data ≠ [] := by
  rintro rfl
  exact some_ len.symm

theorem exec_sliceCounterRecord (on : bit (s.reg R.sliceCtr sl) 63 = true)
    (runs : (s.slice sl).st ∈ [SliceSt.starting, .running, .recovering, .test]) (served : s.inboundFunc sl = some f) (func : f ≠ memFunc)
    (page : fldN (s.reg R.sliceCtr sl) 11 6 ≤ 59) :
    ∃ t, exec (.sliceCounterRecord sl) s = .next t ∧ t.counting.recSeq = (s.counting.recSeq + 1) % 2 ^ 32
      ∧ ∃ bs, t.host.arb.bursts = s.host.arb.bursts ++ bs ∧ bs.map (fun b => b.addr) = [0, 40, 296].map (64 * fldN (s.reg R.sliceCtr sl) 47 6 + ·)
      ∧ bs.flatMap (fun b => b.data) = recordHead s.counting.recSeq 3 0 sl s.ns s.ns (8000 + 32 * sl) 32
        ++ recordValues ((List.range 32).map (fun i => s.counter (8000 + 32 * sl + i))) ++ recordTail s.counting.recSeq := by
  have open_ : (s.slice sl).st == .starting || (s.slice sl).st == .running || (s.slice sl).st == .recovering || (s.slice sl).st == .test := by
    simp only [List.mem_cons, List.not_mem_nil, or_false] at runs
    rcases runs with st | st | st | st <;> rw [st] <;> rfl
  have writable : s.writable sl = true := by
    unfold State.writable
    simp only [List.mem_cons, List.not_mem_nil, or_false] at runs
    rcases runs with st | st | st | st <;> rw [st] <;> rfl
  have low : 64 * fldN (s.reg R.sliceCtr sl) 47 6 % 4096 ≤ 64 * 59 := by
    unfold fldN at page ⊢
    omega
  generalize heads : recordHead s.counting.recSeq 3 0 sl s.ns s.ns (8000 + 32 * sl) 32 = head
  generalize values_ : recordValues ((List.range 32).map (fun i => s.counter (8000 + 32 * sl + i))) = values
  generalize tails : recordTail s.counting.recSeq = tail
  have headLen : head.length = 40 := heads ▸ length_bytesOf ..
  have valuesLen : values.length = 256 := by
    rw [← values_, length_recordValues, List.length_map, List.length_range]
  have tailLen : tail.length = 8 := tails ▸ length_bytesOf ..
  have writes : s.sliceRecord sl f = (((s.pagedWrite (recordBurst sl f (fldN (s.reg R.sliceCtr sl) 47 6 * 64 + 0)) 3 head).pagedWrite
      (recordBurst sl f (fldN (s.reg R.sliceCtr sl) 47 6 * 64 + 40)) 3 values).pagedWrite
      (recordBurst sl f (fldN (s.reg R.sliceCtr sl) 47 6 * 64 + 296)) 3 tail).nextRecord := by
    rw [← heads, ← values_, ← tails]
    rfl
  generalize fldN (s.reg R.sliceCtr sl) 47 6 = a at low writes ⊢
  obtain ⟨b0, bursts0, addr0, data0, writable0, counting0⟩ := State.pagedWrite_part func writable (addr := a * 64 + 0)
    (ne_nil_of_length headLen (by decide)) (by omega) (by omega)
  obtain ⟨b1, bursts1, addr1, data1, writable1, counting1⟩ := State.pagedWrite_part func writable0 (addr := a * 64 + 40)
    (ne_nil_of_length valuesLen (by decide)) (by omega) (by omega)
  obtain ⟨b2, bursts2, addr2, data2, -, counting2⟩ := State.pagedWrite_part func writable1 (addr := a * 64 + 296)
    (ne_nil_of_length tailLen (by decide)) (by omega) (by omega)
  have runs' : exec (.sliceCounterRecord sl) s = .next (s.sliceRecord sl f) := by
    refine congrArg Host.Outcome.next ?_
    rw [served, on, open_]
    rfl
  refine ⟨_, runs'.trans (congrArg Host.Outcome.next writes), ?_, [b0, b1, b2], ?_, ?_, ?_⟩
  · change (State.counting _).recSeq.succ % 2 ^ 32 = _
    rw [counting2, counting1, counting0]
  · refine (bursts2.trans ?_)
    rw [bursts1, bursts0, List.append_assoc, List.append_assoc]
    rfl
  · simp only [List.map_cons, List.map_nil, addr0, addr1, addr2, Nat.mul_comm 64 a]
  · simp only [List.flatMap_cons, List.flatMap_nil, data0, data1, data2, List.append_nil, List.append_assoc]

theorem exec_sliceCounterRecord_off (off : bit (s.reg R.sliceCtr sl) 63 = false ∨ (s.slice sl).st = .stopped ∨ (s.slice sl).st = .halted) :
    exec (.sliceCounterRecord sl) s = .next s := by
  refine congrArg Host.Outcome.next ?_
  have closed : (bit (s.reg R.sliceCtr sl) 63 && ((s.slice sl).st == .starting || (s.slice sl).st == .running
      || (s.slice sl).st == .recovering || (s.slice sl).st == .test)) = false := by
    rcases off with off | st | st
    · rw [off, Bool.false_and]
    · rw [st, Bool.and_eq_false_iff]
      exact .inr rfl
    · rw [st, Bool.and_eq_false_iff]
      exact .inr rfl
  rw [closed]
  split <;> rfl

end

/-- Settles O50: sampling, the samples' buffer and ring, and the counters of a slice. -/
theorem samplesAndSliceRecords : Obligations.SamplesAndSliceRecords := by
  unfold Obligations.SamplesAndSliceRecords
  refine ⟨fun s q role v f w => exec_sampleCtl, fun s q role v => exec_sampleStop, ?_, fun s d ds => exec_sampleRecord,
    fun s d ds => exec_sampleRecord_lost, fun s => exec_sampleConsumerRead, fun s sl f => exec_sliceCounterRecord,
    fun s sl => exec_sliceCounterRecord_off⟩
  rintro s x rfl ended
  exact congrArg Host.Outcome.next (if_pos ended)

end Sys2Proof.Machine
end

section
/-! The caddy, firmware, keys and the life cycle (family 20; R585, R645). -/

namespace Sys2Proof.Machine

/-! What an answer counts -/

section
variable {s t : State} {q : Req} {role : Role}

theorem State.sendFdp_counts (s : State) (p : Path) (r : FdpResp) : (s.sendFdp p r).counters = s.counters ∧ (s.sendFdp p r).totals = s.totals := by
  unfold State.sendFdp
  dsimp only
  split
  · exact ⟨rfl, rfl⟩
  · exact ⟨rfl, rfl⟩
  · next k l =>
    generalize (if l = 1 then ((s.emit (.fdp (.mailbox k l) r)).hport k).mbxB else ((s.emit (.fdp (.mailbox k l) r)).hport k).mbxA) = m
    by_cases busy : m.busy = true
    · rw [if_pos busy]
      by_cases signals : m.irqEn = true
      · rw [if_pos signals]
        obtain ⟨o, h, same⟩ := State.msix_after ((s.emit (.fdp (.mailbox k l) r)).setHport k _) (512 * k + 256 * l) 0 0 0
        rw [same]
        exact ⟨rfl, rfl⟩
      · rw [if_neg signals]
        exact ⟨rfl, rfl⟩
    · rw [if_neg busy]
      exact ⟨rfl, rfl⟩
  · exact ⟨rfl, rfl⟩

/-- An answer counts its own event. -/
theorem State.answer_counts (s : State) (q : Req) (obj sub : Nat) (f : Fdp) (body : List Byte) :
    (s.answer q obj sub f body).counters = (s.countDev 9).counters ∧ (s.answer q obj sub f body).totals = (s.countDev 9).totals := by
  unfold State.answer
  dsimp only
  obtain ⟨counters, totals⟩ := State.sendFdp_counts ((if f = .busy ∨ f = .notAuthenticated ∨ f = .sequenceError then s
    else s.setSess q.session { s.sess q.session with last := q.seq, kept := some (s.respOf q obj sub f body), executing := false }).countDev 9)
    q.path (s.respOf q obj sub f body)
  refine ⟨counters.trans ?_, totals.trans ?_⟩ <;> split <;> rfl

/-! Compaction, the control scrub and the clearing of counters (R601, R585, R645) -/

/-- A BOOL START of 1 makes its operation RUNNING, and takes no segment of the caddy. -/
theorem State.boolStart_runs {k : Nat} (accepted : s.mayOperate q role R.boolStart 1 k 0 = true) (eff : State → State × Fdp) :
    ∃ b a au an, s.opStart q R.boolStart k 1 k 0 (fun _ => startBad 1) (fun _ => false) eff
      = (eff ((s.taken b a au an s.mgmt.segFree).opSet k 0 2)).1.answer q (R.boolStart.index k) R.boolStart.sub
        (eff ((s.taken b a au an s.mgmt.segFree).opSet k 0 2)).2 := by
  obtain ⟨b, a, au, an, sf, beside, run⟩ := State.opStart_runs k accepted (boolStart_denies k role 0 1) (fun _ => startBad 1) (fun _ => false) eff
    (fun _ _ => startBad_one) (fun _ _ => rfl)
  obtain rfl := beside (by decide)
  exact ⟨b, a, au, an, run⟩

theorem exec_caddyCompact (accepted : s.mayOperate q role R.boolStart 1 4 0 = true) :
    ∃ t, exec (.caddyCompact q 1) s = .next t ∧ (t.op 4).st = 2 ∧ t.mgmt.segFree = s.mgmt.segFree := by
  obtain ⟨b, a, au, an, run⟩ := State.boolStart_runs accepted (fun s => (s, .ok))
  have served := (Served.answer ((s.taken b a au an s.mgmt.segFree).opSet 4 0 2) q (R.boolStart.index 4) R.boolStart.sub .ok []).1
  refine ⟨_, congrArg Host.Outcome.next run, ?_, (congrArg Mgmt.segFree served.mgmt :)⟩
  rw [served.op, State.op_opSet_same _ _ _ _ (by decide)]

theorem exec_caddyAutoCompact (few : s.mgmt.segFree < 4) (serves : s.serving = true) (free : s.opBlocked 4 0 = none) :
    exec .caddyAutoCompact s = .next (s.opSet 4 0 2) := congrArg Host.Outcome.next (if_pos ⟨few, serves, free⟩)

theorem exec_caddyCompactDone {free : Nat} (runs : s.opActive 4 = true) :
    ∃ t, exec (.caddyCompactDone free) s = .next t ∧ (t.op 4).st = 3 ∧ t.mgmt.segFree = min 33 (max (max s.mgmt.segFree 12) free)
      ∧ t.faults.waiting = [] ∧ t.faults.log = s.faults.waiting.foldl (fun l r => Table.set {} l (r.seq % 8192) r) s.faults.log := by
  obtain ⟨ops, ends, done⟩ := State.opEnd_done runs
  refine ⟨_, congrArg Host.Outcome.next (if_pos runs), ?_⟩
  rw [ends]
  exact ⟨done, rfl, rfl, rfl⟩

theorem exec_controlScrub (accepted : s.mayOperate q role R.boolStart 1 8 0 = true) :
    ∃ t, exec (.controlScrub q 1) s = .next t ∧ (t.op 8).st = 2 := by
  obtain ⟨b, a, au, an, run⟩ := State.boolStart_runs accepted (fun s => (s, .ok))
  have served := (Served.answer ((s.taken b a au an s.mgmt.segFree).opSet 8 0 2) q (R.boolStart.index 8) R.boolStart.sub .ok []).1
  refine ⟨_, congrArg Host.Outcome.next run, ?_⟩
  rw [served.op, State.op_opSet_same _ _ _ _ (by decide)]

theorem exec_scrubAutoStart (period : fldN (s.reg R.scrubCtl) 15 0 ≠ 0) (serves : s.serving = true) (free : s.opBlocked 8 0 = none) :
    exec .scrubAutoStart s = .next (s.opSet 8 0 2) := congrArg Host.Outcome.next (if_pos ⟨period, serves, free⟩)

theorem State.raises_eq (s : State) (l : List Nat) : l.foldl State.raise s = { s with wires := s.wires ++ l } := by
  induction l generalizing s with
  | nil => exact congrArg (fun w => { s with wires := w }) (List.append_nil s.wires).symm
  | cons n l ih =>
    rw [List.foldl_cons, ih]
    exact congrArg (fun w => { s with wires := w }) (List.append_assoc s.wires [n] l)

theorem exec_controlScrubDone {n : Nat} {bad : List Nat} (runs : s.opActive 8 = true) :
    ∃ t, exec (.controlScrubDone n bad) s = .next t ∧ (t.op 8).st = 3 ∧ t.wires = s.wires ++ bad
      ∧ t.counters = ((s.countDev 17 n).countDev 18 bad.length).counters := by
  obtain ⟨ops, ends, done⟩ := State.opEnd_done
    (s := { (s.countDev 17 n).countDev 18 bad.length with wires := s.wires ++ bad }) (k := 8) (p := 0) runs
  have raised : bad.foldl State.raise ((s.countDev 17 n).countDev 18 bad.length)
      = { (s.countDev 17 n).countDev 18 bad.length with wires := s.wires ++ bad } := State.raises_eq ..
  refine ⟨_, congrArg Host.Outcome.next ((if_pos runs).trans ((congrArg (State.opEnd · 8 0) raised).trans ends)), done, rfl, rfl⟩

theorem exec_counterClearAll (accepted : s.mayOperate q role R.boolStart 1 9 0 = true) :
    ∃ t, exec (.counterClearAll q 1) s = .next t ∧ (t.op 9).st = 3 ∧ t.counters = ({ s with counters := [] }.countDev 9).counters
      ∧ t.totals = (s.countDev 9).totals ∧ t.counting = s.counting := by
  obtain ⟨b, a, au, an, run⟩ := State.boolStart_runs accepted (fun s => (s.clearCounters.opEnd 9 0, .ok))
  have runs : ((s.taken b a au an s.mgmt.segFree).opSet 9 0 2).clearCounters.opActive 9 0 = true := by
    have op := State.op_opSet_same (s.taken b a au an s.mgmt.segFree) 9 0 2 (by decide)
    have st : (((s.taken b a au an s.mgmt.segFree).opSet 9 0 2).clearCounters.op 9 0).st = 2 := congrArg OpSt.st op
    unfold State.opActive
    rw [st]
    rfl
  obtain ⟨ops, ends, done⟩ := State.opEnd_done runs
  dsimp only at run
  rw [ends] at run
  refine ⟨_, congrArg Host.Outcome.next run, ?_, (State.answer_counts ..).1, (State.answer_counts ..).2, (Served.answer ..).1.counting⟩
  rw [(Served.answer ..).1.op]
  exact done

end

/-! Firmware (R605, R606) -/

section
variable {s t : State} {q : Req} {role : Role}

/-- A write of a DOMAIN that the server and the object accept takes effect on the recorded device, and is answered. -/
theorem State.domainWrite_done {r : Reg} {body : List Byte} {range : State → Option Fdp} {op : Option Nat} {eff : State → State × Fdp}
    (accepted : s.mayWrite q role r 0 0 0 = true) (whole : r.entries = 0) (short : 8 * body.length ≤ r.bits)
    (passes : ∀ b a, range (s.taken b a s.mgmt.audit s.mgmt.auditNext s.mgmt.segFree) = none) (free : op.bind (s.opBlocked · 0) = none) :
    ∃ b a au an sf, s.domainWrite q r body range op eff
      = (eff (s.taken b a au an sf)).1.answer q r.obj r.sub (eff (s.taken b a au an sf)).2 := by
  simp only [State.mayWrite, State.mayStore, Bool.and_eq_true, Bool.not_eq_true', if_pos whole, beq_iff_eq] at accepted
  obtain ⟨⟨⟨⟨door, ⟨⟨⟨⟨⟨⟨-, rights⟩, life⟩, -⟩, -⟩, even⟩, ⟨⟨first, one⟩, -⟩⟩⟩, room⟩, -⟩, -⟩ := accepted
  have writes : r.writable 0 role ≠ 0 := by
    intro none_
    unfold Reg.denies at rights
    rw [none_] at rights
    simp at rights
  obtain ⟨b, a, served⟩ := State.serve_atDoor door
  have room' : (s.taken b a s.mgmt.audit s.mgmt.auditNext s.mgmt.segFree).roomFor q role r = true := room
  have life' : (s.taken b a s.mgmt.audit s.mgmt.auditNext s.mgmt.segFree).lifeForbids role = false := life
  have free' : op.bind ((s.taken b a s.mgmt.audit s.mgmt.auditNext s.mgmt.segFree).opBlocked · 0) = none := free
  obtain ⟨au, an, sf, record⟩ := State.recordVal_room room' 0 0 ((Config.sha384 body).extractLsb' 0 64) true
  refine ⟨b, a, au, an, sf, ?_⟩
  unfold State.domainWrite
  rw [served]
  simp only [if_neg writes, life', if_neg (Nat.not_lt.2 short), even, first, one, passes, free', record, Bool.false_eq_true, if_false, ne_eq,
    not_true_eq_false, or_self]
  rfl

theorem Mgmt.bank_withBank (m : Mgmt) (b : Bool) (k : Bank) : (m.withBank b k).bank b = k := by cases b <;> rfl
theorem Mgmt.bank_withBank_other (m : Mgmt) (b : Bool) (k : Bank) : (m.withBank b k).bank (!b) = m.bank (!b) := by cases b <;> rfl
theorem Mgmt.bank_besidesAnswer (m : Mgmt) (b : Bool) : m.besidesAnswer.bank b = m.bank b := by cases b <;> rfl

/-- The banks and the staging survive the answer. -/
theorem Served.bank (h : Served s t) (b : Bool) : t.mgmt.bank b = s.mgmt.bank b := by
  rw [← Mgmt.bank_besidesAnswer, h.mgmt, Mgmt.bank_besidesAnswer]
theorem Served.staging (h : Served s t) : t.mgmt.staging = s.mgmt.staging := (congrArg Mgmt.staging h.mgmt :)

theorem exec_firmwareStage {hdr : List Byte} {b : Bool} (accepted : s.mayWrite q role R.fwStageStart 0 0 0 = true)
    (free : s.opBlocked 5 0 = none) (whole : hdr.length = 160) (plain : natOfBytes ((hdr.drop 12).take 4) = 0)
    (some_ : 0 < natOfBytes (hdr.take 4)) (fits : natOfBytes (hdr.take 4) ≤ 4190208) (other : b = !s.mgmt.runningB) :
    ∃ t, exec (.firmwareStage q hdr) s = .next t ∧ (t.op 5).st = 2 ∧ (t.mgmt.bank b).valid = false ∧ t.mgmt.bank (!b) = s.mgmt.bank (!b)
      ∧ t.mgmt.staging = some { bankB := b, length := natOfBytes (hdr.take 4), version := natOfBytes ((hdr.drop 4).take 4)
                                floor := natOfBytes ((hdr.drop 8).take 4), hash := BitVec.ofNat 384 (natOfBytes ((hdr.drop 16).take 48)) } := by
  subst other
  obtain ⟨bx, a, au, an, sf, staged⟩ := State.domainWrite_done (body := hdr) (op := some 5)
    (range := fun _ => if hdr.length < 160 ∨ natOfBytes ((hdr.drop 12).take 4) ≠ 0 ∨ natOfBytes ((hdr.drop 0).take 4) = 0
      ∨ 4190208 < natOfBytes ((hdr.drop 0).take 4) then some .outOfRange else none)
    (eff := fun s => ((s.opSet 5 0 2).updMgmt (fun m =>
      { m.withBank (!m.runningB) { m.bank (!m.runningB) with valid := false } with
        staging := some { bankB := !m.runningB, length := natOfBytes ((hdr.drop 0).take 4), version := natOfBytes ((hdr.drop 4).take 4)
                          floor := natOfBytes ((hdr.drop 8).take 4), hash := BitVec.ofNat 384 (natOfBytes ((hdr.drop 16).take 48)) } }), .ok))
    accepted rfl (by rw [whole]; decide) (fun _ _ => if_neg (by rw [List.drop_zero]; omega)) free
  refine ⟨_, congrArg Host.Outcome.next staged, ?_, ?_, ?_, ?_⟩
  · rw [(Served.answer ..).1.op]
    exact congrArg OpSt.st (State.op_opSet_same (s.taken bx a au an sf) 5 0 2 (by decide))
  · rw [(Served.answer ..).1.bank]
    exact congrArg Bank.valid (Mgmt.bank_withBank ..)
  · rw [(Served.answer ..).1.bank]
    exact Mgmt.bank_withBank_other ..
  · rw [(Served.answer ..).1.staging]
    rfl

/-- A chunk of the staged image joins its bank (R605). -/
def Mgmt.chunked (m : Mgmt) (off : Nat) (data : List Byte) : Mgmt :=
  match m.staging with
  | none => m
  | some g =>
    let k := m.bank g.bankB
    { m.withBank g.bankB { k with image := k.image.writeAll off data } with
      staging := some { g with written := addSpan g.written (off, off + data.length) } }

theorem Mgmt.chunked_staged {m : Mgmt} {g : Staging} (staged : m.staging = some g) (off : Nat) (data : List Byte) :
    (m.chunked off data).staging = some { g with written := addSpan g.written (off, off + data.length) }
      ∧ (m.chunked off data).bank g.bankB = { m.bank g.bankB with image := (m.bank g.bankB).image.writeAll off data }
      ∧ (m.chunked off data).bank (!g.bankB) = m.bank (!g.bankB) := by
  unfold Mgmt.chunked
  rw [staged]
  exact ⟨rfl, Mgmt.bank_withBank .., Mgmt.bank_withBank_other ..⟩

theorem exec_fwChunk {body : List Byte} {g : Staging} {off : Nat} (accepted : s.mayWrite q role R.fwChunk 0 0 0 = true)
    (staged : s.mgmt.staging = some g) (place : off = natOfBytes (body.take 4)) (some_ : 5 ≤ body.length) (few : body.length ≤ 4068)
    (fits : off + (body.length - 4) ≤ g.length) :
    ∃ t, exec (.fwChunk q body) s = .next t
      ∧ t.mgmt.staging = some { g with written := addSpan g.written (off, off + (body.drop 4).length) }
      ∧ t.mgmt.bank g.bankB = { s.mgmt.bank g.bankB with image := (s.mgmt.bank g.bankB).image.writeAll off (body.drop 4) }
      ∧ t.mgmt.bank (!g.bankB) = s.mgmt.bank (!g.bankB) := by
  subst place
  obtain ⟨b, a, au, an, sf, written⟩ := State.domainWrite_done (body := body) (op := none)
    (range := fun s => match s.mgmt.staging with
      | none => some .outOfRange
      | some g => if body.length < 5 ∨ g.length < natOfBytes (body.take 4) + (body.drop 4).length then some .outOfRange else none)
    (eff := fun s => (s.updMgmt (fun m => m.chunked (natOfBytes (body.take 4)) (body.drop 4)), .ok)) accepted rfl
    (show 8 * body.length ≤ 32544 by omega) (fun b a => by
      have staged' : (s.taken b a s.mgmt.audit s.mgmt.auditNext s.mgmt.segFree).mgmt.staging = some g := staged
      rw [staged']
      exact if_neg (by rw [List.length_drop]; omega)) rfl
  have same : s.fwChunkWrite q body = _ := Eq.trans rfl written
  obtain ⟨staging, bank, other⟩ := Mgmt.chunked_staged (m := (s.taken b a au an sf).mgmt) staged (natOfBytes (body.take 4)) (body.drop 4)
  refine ⟨_, congrArg Host.Outcome.next same, ?_, ?_, ?_⟩
  · rw [(Served.answer ..).1.staging]
    exact staging
  · rw [(Served.answer ..).1.bank]
    exact bank
  · rw [(Served.answer ..).1.bank]
    exact other

theorem exec_firmwareCheckDone_passed {g : Staging} (staged : s.mgmt.staging = some g) (whole : g.complete = true)
    (allowed : s.mgmt.minVersion ≤ g.version) (runs : s.opActive 5 = true) :
    ∃ t, exec (.firmwareCheckDone .passed) s = .next t ∧ t.mgmt.staging = none ∧ (t.op 5).st = 3
      ∧ t.mgmt.bank g.bankB = { s.mgmt.bank g.bankB with valid := true, version := g.version, floor := g.floor, length := g.length } := by
  obtain ⟨ops, ends, done⟩ := State.opEnd_done (k := 5) (p := 0) (s := (s.updMgmt (fun m => m.withBank g.bankB { m.bank g.bankB with
    valid := true, version := g.version, floor := g.floor, length := g.length })).updMgmt (fun m => { m with staging := none })) runs
  have run : exec (.firmwareCheckDone .passed) s = .next (((s.updMgmt (fun m => m.withBank g.bankB { m.bank g.bankB with
      valid := true, version := g.version, floor := g.floor, length := g.length })).updMgmt (fun m => { m with staging := none })).opEnd 5 0) := by
    refine congrArg Host.Outcome.next ?_
    rw [staged]
    dsimp only
    rw [whole, if_neg (by decide), if_neg (Nat.not_lt.2 allowed)]
    unfold State.endStaging
    rw [staged]
    rfl
  refine ⟨_, run.trans (congrArg Host.Outcome.next ends), rfl, done, Mgmt.bank_withBank s.mgmt g.bankB _⟩

/-- A staging that fails leaves its bank as it is. -/
theorem State.endStaging_fails {g : Staging} {fail : Nat} (staged : s.mgmt.staging = some g) (failed : fail ≠ 0) (runs : s.opActive 5 = true) :
    (s.endStaging fail).mgmt = { s.mgmt with staging := none } ∧ ((s.endStaging fail).op 5).st = 4 ∧ ((s.endStaging fail).op 5).fail = fail := by
  have ends : s.endStaging fail = (s.updMgmt (fun m => { m with staging := none })).opEnd 5 0 fail := by
    unfold State.endStaging
    rw [staged]
    dsimp only
    rw [if_pos failed]
  obtain ⟨st, code⟩ := State.op_opEnd_failed (s := s.updMgmt (fun m => { m with staging := none })) (k := 5) (p := 0) runs failed
  rw [ends]
  exact ⟨State.opEnd_mgmt .., st, code⟩

theorem exec_firmwareCheckDone_failed {g : Staging} {c : FwCheck} {k : Nat} (staged : s.mgmt.staging = some g) (whole : g.complete = true)
    (code : (c, k) ∈ [(FwCheck.length, 1), (.hash, 2), (.signature, 3), (.caddy, 6)]) (runs : s.opActive 5 = true) :
    ∃ t, exec (.firmwareCheckDone c) s = .next t ∧ t.mgmt.staging = none ∧ (t.op 5).st = 4 ∧ (t.op 5).fail = k
      ∧ t.mgmt.bank g.bankB = s.mgmt.bank g.bankB := by
  have run : exec (.firmwareCheckDone c) s = .next (s.endStaging k) ∧ k ≠ 0 := by
    simp only [List.mem_cons, Prod.mk.injEq, List.not_mem_nil, or_false] at code
    constructor
    · refine congrArg Host.Outcome.next ?_
      rw [staged]
      dsimp only
      rw [whole, if_neg (by decide)]
      rcases code with ⟨rfl, rfl⟩ | ⟨rfl, rfl⟩ | ⟨rfl, rfl⟩ | ⟨rfl, rfl⟩ <;> rfl
    · omega
  obtain ⟨mgmt, st, failed⟩ := State.endStaging_fails staged run.2 runs
  exact ⟨_, run.1, congrArg Mgmt.staging mgmt, st, failed, (congrArg (fun m : Mgmt => m.bank g.bankB) mgmt :)⟩

theorem exec_firmwareStageTimeout {g : Staging} (staged : s.mgmt.staging = some g) (partial_ : g.complete = false) (runs : s.opActive 5 = true) :
    ∃ t, exec .firmwareStageTimeout s = .next t ∧ t.mgmt.staging = none ∧ (t.op 5).st = 4 ∧ (t.op 5).fail = 5 := by
  have run : exec .firmwareStageTimeout s = .next (s.endStaging 5) := by
    refine congrArg Host.Outcome.next ?_
    rw [staged]
    dsimp only
    rw [partial_]
    rfl
  obtain ⟨mgmt, st, failed⟩ := State.endStaging_fails (fail := 5) staged (by decide) runs
  exact ⟨_, run, congrArg Mgmt.staging mgmt, st, failed⟩

/-- What refuses a FW_SELECT value (R606). -/
def State.selectRefuses (v : Image) (s : State) : Option Fdp :=
  if v ≠ 0x0A ∧ v ≠ 0x0B then some .outOfRange
  else match s.mgmt.staging with
  | some g => if g.bankB = (v == 0x0B) then some .busy else if (s.mgmt.bank (v == 0x0B)).valid then none else some .outOfRange
  | none => if (s.mgmt.bank (v == 0x0B)).valid then none else some .outOfRange

theorem exec_fwSelect {v : Image} (accepted : s.mayWrite q role R.fwSelect 0 0 v = true) (names : v = 0x0A ∨ v = 0x0B)
    (valid : (s.mgmt.bank (v == 0x0B)).valid = true) (unstaged : ∀ g ∈ s.mgmt.staging, g.bankB ≠ (v == 0x0B))
    (rising : Table.risingFrom none s.dict = true) :
    ∃ t, exec (.fwSelect q v) s = .next t ∧ fldN (t.reg R.fwSelect) 7 0 = v.toNat := by
  have fits : v.toNat < 2 ^ 8 := by
    simp only [State.mayWrite, State.mayStore, Bool.and_eq_true, decide_eq_true_eq] at accepted
    obtain ⟨⟨⟨⟨-, ⟨⟨⟨⟨-, width⟩, -⟩, -⟩, -⟩⟩, -⟩, -⟩, -⟩ := accepted
    exact width
  have passes : ∀ b a au an sf, (s.taken b a au an sf).selectRefuses v = none := by
    intro b a au an sf
    have valid' : ((s.taken b a au an sf).mgmt.bank (v == 0x0B)).valid = true := valid
    have unstaged' : ∀ g ∈ (s.taken b a au an sf).mgmt.staging, g.bankB ≠ (v == 0x0B) := unstaged
    unfold State.selectRefuses
    rw [if_neg (by rintro ⟨notA, notB⟩; exact names.elim notA notB)]
    split
    · next g staged => rw [if_neg (unstaged' g staged), if_pos valid']
    · rw [if_pos valid']
  obtain ⟨b, a, au, an, sf, served, -⟩ := State.dictWrite_done accepted (State.selectRefuses v) (fun s => (s, .ok)) passes
  rw [State.storeVal_stored (by decide)] at served
  refine ⟨_, rfl, ?_⟩
  have read : (s.fwSelectWrite q v).reg R.fwSelect = R.fwSelect.merge (s.reg R.fwSelect 0 0) v :=
    (served.reg R.fwSelect 0 0).trans (State.reg_setReg_same (s := s.taken b a au an sf) _ _ _ _ rising)
  change fldN ((s.fwSelectWrite q v).reg R.fwSelect) 7 0 = _
  rw [read, fldN_congr (u := v) (fun i _ below => ?_)]
  · unfold fldN
    rw [Nat.shiftRight_zero]
    exact Nat.mod_eq_of_lt fits
  · rw [bit_merge ⟨rfl, rfl⟩ _ _ (by omega)]
    have writes : R.fwSelect.rw.testBit i = true := by
      have all : ∀ i ≤ 7, R.fwSelect.rw.testBit i = true := by decide
      exact all i below
    rw [if_pos writes]

end

/-! Keys (R590, R591) -/

section
variable {s t : State} {q : Req} {role : Role}

theorem State.endSession_dict (s : State) (n : Nat) : (s.endSession n).dict = s.dict := by
  unfold State.endSession
  dsimp only
  split <;> rfl

/-- Sessions end beside the stored values. -/
theorem State.endKey_dict (s : State) (n : Nat) : (s.endKey n).dict = s.dict := by
  unfold State.endKey
  generalize s.mgmt.sessions.filter (fun e => e.2.st = .opened ∧ e.2.keySlot = n) = l
  induction l generalizing s with
  | nil => rfl
  | cons e l ih => exact (ih _).trans (s.endSession_dict e.1)

/-- VALID of a key entry can be written. -/
theorem roleKey_rw_valid : R.roleKey.rw.testBit 0 = true := by
  simp only [Reg.rw, R.roleKey, fms]
  generalize fm 799 32 = key
  simp [fm]

theorem bit_roleKey_merge (old v : Image) : bit (R.roleKey.merge old v) 0 = bit v 0 := by
  rw [bit_merge ⟨rfl, rfl⟩ _ _ (by decide), if_pos roleKey_rw_valid]

/-- An entry whose VALID is clear is taken while an installer's slot is left. -/
theorem State.keyRefuses_clear {n : Nat} {v : Image} (unset : bit v 0 = false) (left : s.installersWith n v = true) : s.keyRefuses n v = none := by
  unfold State.keyRefuses
  simp only [unset, left, Bool.false_eq_true, false_and, Bool.not_true, or_self, if_false]

/-- A ROLE_KEY write that clears VALID and leaves an installer's slot: the slot is not valid, its sessions end. -/
theorem exec_roleKey_unset {n : Nat} {v : Image} (accepted : s.mayWrite q .installer R.roleKey 0 n v = true) (keyed : s.mayClaim q n = false)
    (own : n ≠ 0) (unset : bit v 0 = false) (left : s.installersWith n v = true) (rising : Table.risingFrom none s.dict = true) :
    ∃ t, exec (.roleKey q n v) s = .next t ∧ bit (t.reg R.roleKey 0 n) 0 = false := by
  have accepted' : s.mayWrite (q.entries n 1) .installer R.roleKey 0 n v = true := accepted
  have keyed' : s.mayClaim (q.entries n 1) n = false := keyed
  obtain ⟨b, a, au, an, sf, served, -⟩ := State.writeRun_done accepted' roleKeyRule (fun _ _ => beq_false_of_ne own) (fun _ _ => rfl)
    (fun b a au an sf => State.keyRefuses_clear unset left)
  have stored : R.roleKey.wo ≠ R.roleKey.rw := by
    intro same
    have valid := roleKey_rw_valid
    rw [← same] at valid
    exact absurd valid (by decide)
  rw [State.storeVal_stored stored] at served
  have read : (s.writeRun (q.entries n 1) R.roleKey 0 n [v] roleKeyRule).reg R.roleKey 0 n = R.roleKey.merge (s.reg R.roleKey 0 n) v :=
    (served.reg R.roleKey 0 n).trans (State.reg_setReg_same (s := s.taken b a au an sf) _ _ _ _ rising)
  have runs : exec (.roleKey q n v) s = .next (State.roleKeyWrite.run s (q.entries n 1) n [v]) := by
    refine congrArg Host.Outcome.next ?_
    unfold State.roleKeyWrite
    dsimp only
    rw [keyed']
    rfl
  refine ⟨_, runs, ?_⟩
  unfold State.roleKeyWrite.run
  dsimp only
  generalize s.writeRun (q.entries n 1) R.roleKey 0 n [v] roleKeyRule = t at read ⊢
  have kept : ∀ u : State, u.dict = t.dict → bit (u.reg R.roleKey 0 n) 0 = false := by
    intro u same
    have reg : u.reg R.roleKey 0 n = t.reg R.roleKey 0 n := by simp only [State.reg, same]
    rw [reg, read, bit_roleKey_merge, unset]
  refine kept _ ?_
  change (if _ then t.endKey (n + 0) else t).dict = t.dict
  split
  · exact t.endKey_dict n
  · rfl

theorem exec_roleKey_clears {n : Nat} (accepted : s.mayWrite q .installer R.roleKey 0 n 0 = true) (keyed : s.mayClaim q n = false) (own : n ≠ 0)
    (left : s.installersWith n 0 = true) (rising : Table.risingFrom none s.dict = true) :
    ∃ t, exec (.roleKey q n 0) s = .next t ∧ bit (t.reg R.roleKey 0 n) 0 = false :=
  exec_roleKey_unset accepted keyed own BitVec.getLsbD_zero left rising

/-- A request that the caddy can store is stored beside CONFIG, and takes no segment. -/
theorem State.caddyWrite_beside (sound : q.caddyOk = true) : s.caddyWrite q false = (s, true) := by
  unfold State.caddyWrite
  rw [sound]
  simp

/-- A key whose VALID is set is not what an installer's slot reads before it is written. -/
theorem key_listed {v : Image} {n : Nat} (own : n ≠ 0) (valid : bit v 0 = true) : v ≠ R.roleKey.default 0 n := by
  intro same
  have default_ : R.roleKey.default 0 n = BitVec.ofNat 1024 0 := by
    unfold Reg.default
    rw [if_neg (by decide), if_neg (by decide), if_neg (fun both => own both.2)]
    rfl
  rw [same, default_, bit_ofNat _ (by decide)] at valid
  exact absurd valid (by decide)

/-- Where a claim can be made, no installer's slot is valid; a valid key is taken. -/
theorem State.keyRefuses_claim {n : Nat} {v : Image} (claims : s.mayClaim q n = true) (valid : bit v 0 = true)
    (point : keyOk (v.extractLsb' 32 768) = true) : s.keyRefuses n v = none := by
  simp only [State.mayClaim, Bool.and_eq_true, decide_eq_true_eq, Bool.not_eq_true'] at claims
  obtain ⟨⟨⟨-, low, high⟩, none_⟩, -⟩ := claims
  have slot : n ∈ [1, 2, 3, 4] := by simp; omega
  have apart : n ≠ 16 := by omega
  have free : bit (s.reg R.roleKey 0 n) 0 = false := by
    have all := List.any_eq_false.1 none_
    have each : ∀ k ∈ [1, 2, 3, 4], ¬ (if k = 16 then bit (0 : Image) 0 else bit (s.reg R.roleKey 0 k) 0) = true := all
    have own := each n slot
    rw [if_neg apart] at own
    exact Bool.eq_false_iff.2 own
  have kept : s.installersWith n v = true := List.any_eq_true.2 ⟨n, slot, by simpa using valid⟩
  unfold State.keyRefuses
  rw [valid, point, kept, free]
  rfl

theorem exec_roleKey_claims {n : Nat} {v : Image} (claims : s.mayClaim q n = true) (serves : s.serving = true) (open_ : s.pathOpen q.path = true)
    (room : q.full = false) (sound : s.mgmt.recovery = false) (lives : s.mgmt.lifecycle ≠ .retired) (fits : v.toNat < 2 ^ 800)
    (even : q.odd = false) (plain : R.roleKey.reservedSet v = false) (valid : bit v 0 = true) (point : keyOk (v.extractLsb' 32 768) = true)
    (audits : s.auditFull = false) (stores : q.caddyOk = true) :
    ∃ t, exec (.roleKey q n v) s = .next t ∧ t.reg R.roleKey 0 n = v := by
  have claims' : s.mayClaim (q.entries n 1) n = true := claims
  have own : n ≠ 0 := by
    rintro rfl
    simp [State.mayClaim] at claims
  obtain ⟨b, a, taken⟩ := s.takeRequest_taken (q.entries n 1).path
  generalize htaken : s.taken b a s.mgmt.audit s.mgmt.auditNext s.mgmt.segFree = u at taken
  have serves' : u.serving = true := htaken ▸ serves
  have open' : u.pathOpen (q.entries n 1).path = true := htaken ▸ open_
  have sound' : u.mgmt.recovery = false := htaken ▸ sound
  have lives' : u.mgmt.lifecycle ≠ .retired := htaken ▸ lives
  have audits' : u.auditFull = false := htaken ▸ audits
  have room' : (q.entries n 1).full = false := room
  have even' : (q.entries n 1).odd = false := even
  have claimed : u.mayClaim (q.entries n 1) n = true := htaken ▸ claims'
  have written : s.claim (q.entries n 1) n v = ((((u.auditWrite 3 0 (pathCode (q.entries n 1).path) (R.roleKey.obj + 65536 * R.roleKey.sub) n
      (auditValue R.roleKey.bits [v]).1 (auditValue R.roleKey.bits [v]).2).setReg R.roleKey 0 n v).countDev 9).respond (q.entries n 1)
      R.roleKey.obj R.roleKey.sub .ok []) := by
    unfold State.claim
    dsimp only
    rw [taken, serves', open', room', sound', even', plain, State.keyRefuses_claim claimed valid point, audits',
      State.caddyWrite_beside (by exact stores)]
    simp only [Bool.not_true, Bool.false_eq_true, or_self, if_false, if_neg lives', if_neg (show ¬ 2 ^ R.roleKey.bits ≤ v.toNat from Nat.not_le.2 fits)]
  have runs : exec (.roleKey q n v) s = .next (s.claim (q.entries n 1) n v) := by
    refine congrArg Host.Outcome.next ?_
    unfold State.roleKeyWrite
    rw [claims']
    rfl
  refine ⟨_, runs.trans (congrArg Host.Outcome.next written), ?_⟩
  rw [State.respond, (Served.sendFdp ..).1.reg]
  exact State.reg_setReg_listed _ (key_listed own valid)

end

/-! The life cycle (R596, R597) -/

section
variable {s : State} {q : Req} {role : Role}

/-- A reset keeps of the management side what stands over it, and holds a device that runs for its cause alone. -/
theorem State.deviceReset_mgmt (kind : Nat) (runs : s.boot ≠ .held) : (s.deviceReset kind).mgmt = s.mgmt.kept
    ∧ (s.deviceReset kind).boot = .held ∧ (s.deviceReset kind).holds = [kind] ∧ (s.deviceReset kind).lastReset = kind := by
  obtain ⟨d, links, host, resets, -⟩ := s.deviceReset_eq kind
  rw [resets]
  exact ⟨rfl, rfl, if_neg runs, rfl⟩

/-- An accepted change, on the request taken: its record, the tenants' halt where the device retires, the answer, the commitment. -/
def State.changed (u : State) (q : Req) (role : Role) (x : LifeCycle) (key : BitVec 768) : State :=
  let s := u.auditWrite 2 (roleCode role) (pathCode q.path + 4 * q.session) (R.lifecycleStart.obj + 65536 * R.lifecycleStart.sub) 0
    (BitVec.ofNat 64 (u.mgmt.lifecycle.code + at' 8 x.code)) false
  let s := if x = .retired then (s.haltTenants).haltStart 0 3 [] else s
  (s.answer q R.lifecycleStart.obj R.lifecycleStart.sub .ok).commitChange x key

/-- An accepted change is committed, the life cycle stands until it is complete, and the device resets. -/
theorem State.changed_commits {x : LifeCycle} {key : BitVec 768} (runs : s.boot ≠ .held) :
    (s.changed q role x key).mgmt.lcPending = some (x, key) ∧ (s.changed q role x key).mgmt.lifecycle = s.mgmt.lifecycle
      ∧ (s.changed q role x key).boot = .held ∧ (s.changed q role x key).holds = [6] ∧ (s.changed q role x key).lastReset = 6
      ∧ (s.changed q role x key).mgmt.sessions = [] := by
  unfold State.changed
  dsimp only
  have record : (s.auditWrite 2 (roleCode role) (pathCode q.path + 4 * q.session) (R.lifecycleStart.obj + 65536 * R.lifecycleStart.sub) 0
      (BitVec.ofNat 64 (s.mgmt.lifecycle.code + at' 8 x.code)) false).control.boot = s.boot
    ∧ (s.auditWrite 2 (roleCode role) (pathCode q.path + 4 * q.session) (R.lifecycleStart.obj + 65536 * R.lifecycleStart.sub) 0
      (BitVec.ofNat 64 (s.mgmt.lifecycle.code + at' 8 x.code)) false).control.mgmt.lifecycle = s.mgmt.lifecycle := ⟨rfl, rfl⟩
  generalize s.auditWrite 2 _ _ _ _ _ _ = u at record ⊢
  have halts : (if x = .retired then (u.haltTenants).haltStart 0 3 [] else u).control = u.control := by
    split
    · rw [State.haltStart_control, State.haltTenants_control]
    · rfl
  generalize (if x = .retired then (u.haltTenants).haltStart 0 3 [] else u) = w at halts ⊢
  rw [← halts] at record
  have answered := (Served.answer w q R.lifecycleStart.obj R.lifecycleStart.sub .ok []).1
  generalize w.answer q R.lifecycleStart.obj R.lifecycleStart.sub .ok = t at answered ⊢
  have boot : t.boot = s.boot := by
    obtain ⟨m, tw, o, c, tt, bu, ho, rfl⟩ := answered.same
    exact record.1
  have life : t.mgmt.lifecycle = s.mgmt.lifecycle := (congrArg Mgmt.lifecycle answered.mgmt :).trans record.2
  unfold State.commitChange
  obtain ⟨mgmt, held, holds, kind⟩ := State.deviceReset_mgmt (s := t.updMgmt (fun m => { m with
    lcPending := some (x, key), keyGen := if m.lifecycle = .maker ∧ x = .install then m.keyGen + 1 else m.keyGen })) 6 (by
      change t.boot ≠ .held
      rw [boot]
      exact runs)
  exact ⟨(congrArg Mgmt.lcPending mgmt :), (congrArg Mgmt.lifecycle mgmt :).trans life, held, holds, kind, (congrArg Mgmt.sessions mgmt :)⟩

theorem State.runs_of_atDoor (door : s.atDoor q role = true) : s.boot ≠ .held := by
  intro held
  simp only [State.atDoor, State.serving, held, Bool.and_eq_true, Bool.or_eq_true, beq_iff_eq] at door
  simp at door

theorem exec_lifecycleChange {body : List Byte} {x : LifeCycle} {key : BitVec 768} (door : s.atDoor q role = true)
    (writes : R.lifecycleStart.writable 0 role ≠ 0) (life : s.lifeForbids role = false) (whole : body.length = 112) (even : q.odd = false)
    (first : q.entry = 0) (one : q.count = 0) (move : lifeMove s.mgmt.lifecycle (natOfBytes (body.take 1)) role = some (x, true))
    (plain : natOfBytes ((body.drop 1).take 7) = 0) (device : natOfBytes ((body.drop 8).take 8) = s.straps.deviceId.toNat)
    (keyed : key = BitVec.ofNat 768 (natOfBytes ((body.drop 16).take 96))) (sound : key = 0 ∨ keyOk key = true)
    (free : s.opBlocked 10 0 = none) (idle : x = .retired ∨ s.mgmt.lifecycle = .maker ∨ (s.tenantsStopped = true ∧ s.twin.st ≠ .adopting))
    (stores : q.caddyOk = true) :
    ∃ t, exec (.lifecycleChange q body) s = .next t ∧ t.mgmt.lcPending = some (x, key) ∧ t.mgmt.lifecycle = s.mgmt.lifecycle
      ∧ t.boot = .held ∧ t.holds = [6] ∧ t.lastReset = 6 ∧ t.mgmt.sessions = [] := by
  obtain ⟨b, a, served⟩ := State.serve_atDoor door
  generalize htaken : s.taken b a s.mgmt.audit s.mgmt.auditNext s.mgmt.segFree = u at served
  have life' : u.lifeForbids role = false := htaken ▸ life
  have move' : lifeMove u.mgmt.lifecycle (natOfBytes ((body.drop 0).take 1)) role = some (x, true) := htaken ▸ move
  have device' : natOfBytes ((body.drop 8).take 8) = u.straps.deviceId.toNat := htaken ▸ device
  have free' : u.opBlocked 10 0 = none := htaken ▸ free
  have idle' : ¬ (x ≠ .retired ∧ u.mgmt.lifecycle ≠ .maker ∧ (!u.tenantsStopped ∨ u.twin.st = .adopting)) := by
    subst htaken
    rintro ⟨notRetired, notMaker, busy⟩
    rcases idle with retired | maker | ⟨stopped, alone⟩
    · exact notRetired retired
    · exact notMaker maker
    · refine busy.elim (fun runs => ?_) alone
      have stopped' : (s.taken b a s.mgmt.audit s.mgmt.auditNext s.mgmt.segFree).tenantsStopped = true := stopped
      rw [stopped'] at runs
      exact absurd runs (by decide)
  have lifecycle : u.mgmt.lifecycle = s.mgmt.lifecycle := htaken ▸ rfl
  have boot : u.boot = s.boot := htaken ▸ rfl
  have run : s.lifecycleWrite q body = u.changed q role x key := by
    unfold State.lifecycleWrite
    dsimp only
    rw [served, ← keyed]
    have range : ¬ (q.odd ∨ q.entry ≠ 0 ∨ q.count ≠ 0 ∨ body.length < 112 ∨ natOfBytes ((body.drop 8).take 8) ≠ u.straps.deviceId.toNat
        ∨ natOfBytes ((body.drop 1).take 7) ≠ 0 ∨ (key ≠ 0 ∧ !keyOk key)) := by
      rintro (odd | entry | count | short | other | rest | ⟨bad, off⟩)
      · exact absurd (even.symm.trans odd) (by decide)
      · exact entry first
      · exact count one
      · omega
      · exact other device'
      · exact rest plain
      · rcases sound with zero | sound
        · exact bad zero
        · rw [sound] at off
          exact absurd off (by decide)
    rw [move', if_neg (by exact fun denies => denies.elim writes (fun other => Bool.noConfusion (Option.some.inj other))), if_neg (by rw [life']; decide),
      if_neg (show ¬ R.lifecycleStart.bits < 8 * body.length by rw [whole]; decide), if_neg range]
    dsimp only
    rw [free']
    dsimp only
    rw [if_neg idle', State.caddyWrite_beside stores]
    rfl
  obtain ⟨pending, stands, held, holds, kind, sessions⟩ := State.changed_commits (s := u) (q := q) (role := role) (x := x) (key := key)
    (by rw [boot]; exact State.runs_of_atDoor door)
  exact ⟨_, congrArg Host.Outcome.next run, pending, stands.trans lifecycle, held, holds, kind, sessions⟩

end

/-- Settles O51: compaction, the control scrub, counters, firmware, keys and the life cycle. -/
theorem caddyFirmwareKeysAndLifeCycle : Obligations.CaddyFirmwareKeysAndLifeCycle := by
  unfold Obligations.CaddyFirmwareKeysAndLifeCycle
  exact ⟨fun s q role => exec_caddyCompact, fun s => exec_caddyAutoCompact, fun s free => exec_caddyCompactDone,
    fun s q role => exec_controlScrub, fun s => exec_scrubAutoStart, fun s n bad => exec_controlScrubDone,
    fun s q role => exec_counterClearAll, fun s q role hdr b => exec_firmwareStage, fun s q role body g off => exec_fwChunk,
    fun s g => exec_firmwareCheckDone_passed, fun s g c k => exec_firmwareCheckDone_failed, fun s g => exec_firmwareStageTimeout,
    fun s q role v => exec_fwSelect, fun s q n => exec_roleKey_clears, fun s q n v => exec_roleKey_claims,
    fun s q role body x key => exec_lifecycleChange⟩

end Sys2Proof.Machine
end

section
/-! Sessions, READ, WRITE and INFO (family 19, R555–R565, R580, R592). -/

namespace Sys2Proof.Machine

/-! What a response leaves -/

section
variable {s t : State} {q : Req} {role : Role}

/-- A response leaves the sessions. -/
theorem State.sendFdp_sessions (s : State) (p : Path) (r : FdpResp) : (s.sendFdp p r).mgmt.sessions = s.mgmt.sessions := by
  unfold State.sendFdp
  dsimp only
  split
  · rfl
  · rfl
  · next k l =>
    generalize (if l = 1 then ((s.emit (.fdp (.mailbox k l) r)).hport k).mbxB else ((s.emit (.fdp (.mailbox k l) r)).hport k).mbxA) = m
    by_cases busy : m.busy = true
    · rw [if_pos busy]
      by_cases signals : m.irqEn = true
      · rw [if_pos signals]
        obtain ⟨o, h, same⟩ := State.msix_after ((s.emit (.fdp (.mailbox k l) r)).setHport k _) (512 * k + 256 * l) 0 0 0
        rw [same]
        rfl
      · rw [if_neg signals]
        rfl
    · rw [if_neg busy]
      rfl
  · rfl

theorem State.sess_sendFdp (s : State) (p : Path) (r : FdpResp) (n : Nat) : (s.sendFdp p r).sess n = s.sess n :=
  congrArg (fun l : Table Session => Table.get ({} : Session) l n) (s.sendFdp_sessions p r)

theorem State.sess_setSess_listed {x : Session} (s : State) (n : Nat) (listed : x ≠ {}) : (s.setSess n x).sess n = x :=
  Table.get_set_listed _ _ listed

theorem State.sess_setSess_free (n : Nat) (rising : Table.risingFrom none s.mgmt.sessions = true) : (s.setSess n {}).sess n = {} :=
  Table.get_set_rising ({} : Session) n {} rising

/-- A request comes through the open door of a server that serves. -/
theorem State.openDoor_serves (serves : s.serving = true) (open_ : s.pathOpen q.path = true) :
    ∃ b a, ∀ run, s.openDoor q run = run (s.taken b a s.mgmt.audit s.mgmt.auditNext s.mgmt.segFree) := by
  obtain ⟨b, a, taken⟩ := s.takeRequest_taken q.path
  refine ⟨b, a, fun run => ?_⟩
  have serves' : (s.taken b a s.mgmt.audit s.mgmt.auditNext s.mgmt.segFree).serving = true := serves
  have open' : (s.taken b a s.mgmt.audit s.mgmt.auditNext s.mgmt.segFree).pathOpen q.path = true := open_
  unfold State.openDoor
  dsimp only
  rw [taken, serves', open']
  rfl

/-- A request under a service of its own is the request but for the service. -/
theorem req_of_eq (q : Req) (n : Nat) : ∃ v, q.of n = { q with service := v } := by
  unfold Req.of
  split
  · exact ⟨_, rfl⟩
  · exact ⟨_, rfl⟩

/-- A request that is not odd is not odd under a listed service. -/
theorem req_of_even (q : Req) {n : Nat} (listed : [1, 2, 3, 4, 0x10, 0x11, 0x12].contains n = true) (even : q.odd = false) :
    q.of n = { q with service := n } ∧ ({ q with service := n } : Req).odd = false := by
  simp only [Req.odd, Bool.or_eq_false_iff, Bool.not_eq_false'] at even
  obtain ⟨plain, known⟩ := even
  refine ⟨if_pos known, ?_⟩
  unfold Req.odd
  dsimp only
  rw [plain, listed]
  rfl

/-! Sessions (R561–R565, R592) -/

theorem exec_fdpIdentify (serves : s.serving = true) (open_ : s.pathOpen q.path = true) (single : q.path ≠ .pair) (even : q.odd = false)
    (room : q.full = false) :
    ∃ t, exec (.fdpIdentify q) s = .next t ∧ t.mgmt.sessions = s.mgmt.sessions
      ∧ ∃ r, Out.fdp q.path r ∈ t.out ∧ r.status = .ok ∧ r.body = s.identity ∧ r.seq = q.seq := by
  obtain ⟨named, even'⟩ := req_of_even q (n := 1) (by decide) even
  have room' : ({ q with service := 1 } : Req).full = false := room
  obtain ⟨b, a, served⟩ := State.openDoor_serves (q := { q with service := 1 }) serves open_
  generalize htaken : s.taken b a s.mgmt.audit s.mgmt.auditNext s.mgmt.segFree = u at served
  have identity : u.identity = s.identity := by
    subst htaken
    rfl
  have sessions : u.mgmt.sessions = s.mgmt.sessions := by
    subst htaken
    rfl
  have run : exec (.fdpIdentify q) s = .next ((u.countDev 9).respond { q with service := 1 } 0 0 .ok u.identity) := by
    refine congrArg Host.Outcome.next ?_
    rw [named, served, if_neg (by exact single), if_neg (fun odd => Bool.false_ne_true (even'.symm.trans odd)), if_neg (fun full => Bool.false_ne_true (room'.symm.trans full))]
  refine ⟨_, run, ?_, _, (Served.sendFdp ..).2, rfl, identity, rfl⟩
  exact (State.sendFdp_sessions ..).trans sessions

theorem exec_fdpOpen {roleNo slot : Byte} {nonce : BitVec 384} {n : Nat} (serves : s.serving = true) (open_ : s.pathOpen q.path = true)
    (single : q.path ≠ .pair) (even : q.odd = false) (room : q.full = false) (holds : s.slotHolds (roleOf roleNo) slot.toNat = true)
    (may : s.mayOpen (roleOf roleNo) = true) (free : s.freeSession = some n) (unlocked : s.mgmt.locked.contains q.path = false) :
    ∃ t, exec (.fdpOpen q roleNo slot nonce) s = .next t ∧ t.draws = s.draws + 1
      ∧ t.sess n = { st := .opening, role := roleOf roleNo, keySlot := slot.toNat, path := q.path, challenge := s.draws, nonce := nonce }
      ∧ ∃ r, Out.fdp q.path r ∈ t.out ∧ r.status = .ok ∧ r.session = n ∧ r.body = bytesOf (Config.challenge s.draws) 48 := by
  obtain ⟨named, even'⟩ := req_of_even q (n := 2) (by decide) even
  have room' : ({ q with service := 2 } : Req).full = false := room
  obtain ⟨b, a, served⟩ := State.openDoor_serves (q := { q with service := 2 }) serves open_
  generalize htaken : s.taken b a s.mgmt.audit s.mgmt.auditNext s.mgmt.segFree = u at served
  have holds' : u.slotHolds (roleOf roleNo) slot.toNat = true := htaken ▸ holds
  have may' : u.mayOpen (roleOf roleNo) = true := htaken ▸ may
  have free' : u.freeSession = some n := htaken ▸ free
  have unlocked' : u.mgmt.locked.contains q.path = false := htaken ▸ unlocked
  have draws : u.draws = s.draws := htaken ▸ rfl
  generalize session : ({ st := .opening, role := roleOf roleNo, keySlot := slot.toNat, path := q.path, challenge := s.draws, nonce := nonce } : Session) = x
  have listed : x ≠ {} := fun none_ => nomatch congrArg Session.st (session.trans none_)
  have run : exec (.fdpOpen q roleNo slot nonce) s = .next ((((u.setSess n x).drawn).countDev 9).sendFdp q.path
      { ((u.setSess n x).drawn).respOf { q with service := 2, session := n } 0 0 .ok (bytesOf (Config.challenge s.draws) 48) with key := none }) := by
    refine congrArg Host.Outcome.next ?_
    rw [named, served]
    dsimp only
    rw [holds', may', free', if_neg (by decide), if_neg single, if_neg (by decide), if_neg (fun odd => Bool.false_ne_true (even'.symm.trans odd))]
    dsimp only
    rw [if_neg (fun busy => busy.elim (fun full => Bool.false_ne_true (room'.symm.trans full))
      (fun locked => Bool.false_ne_true (unlocked'.symm.trans locked))), draws, session]
  have sent := Served.sendFdp (((u.setSess n x).drawn).countDev 9) q.path
    { ((u.setSess n x).drawn).respOf { q with service := 2, session := n } 0 0 .ok (bytesOf (Config.challenge s.draws) 48) with key := none }
  refine ⟨_, run, ?_, ?_, _, sent.2, rfl, rfl, rfl⟩
  · obtain ⟨m, tw, o, c, tt, bu, ho, same⟩ := sent.1.same
    rw [same]
    exact congrArg (· + 1) draws
  · rw [State.sess_sendFdp]
    exact State.sess_setSess_listed u n listed

theorem exec_fdpAuth_opens {x : Session} (session : x = s.sess q.session) (opening : x.st = .opening) (path : x.path = q.path)
    (serves : s.serving = true) (open_ : s.pathOpen q.path = true) (first : q.seq = 0) (holds : s.slotHolds x.role x.keySlot = true)
    (may : s.mayOpen x.role = true) (even : q.odd = false) (room : q.full = false) :
    ∃ t, exec (.fdpAuth q true) s = .next t ∧ (t.sess q.session).st = .opened ∧ (t.sess q.session).role = x.role ∧ (t.sess q.session).last = 0 := by
  obtain ⟨named, even'⟩ := req_of_even q (n := 3) (by decide) even
  have room' : ({ q with service := 3 } : Req).full = false := room
  obtain ⟨b, a, served⟩ := State.openDoor_serves (q := { q with service := 3 }) serves open_
  generalize htaken : s.taken b a s.mgmt.audit s.mgmt.auditNext s.mgmt.segFree = u at served
  have holds' : u.slotHolds x.role x.keySlot = true := htaken ▸ holds
  have may' : u.mayOpen x.role = true := htaken ▸ may
  generalize hw : u.updMgmt (fun m => { m with authFails := m.authFails.filter (fun e => e.1 ≠ q.path) }) = w
  have listed : ∀ r, ({ x with st := .opened, last := 0, kept := some r } : Session) ≠ {} := fun r none_ => nomatch congrArg Session.st none_
  have run : ∃ r, exec (.fdpAuth q true) s = .next (((w.setSess q.session { x with st := .opened, last := 0, kept := some r }).countDev 9).sendFdp q.path r) := by
    refine ⟨w.respOf { q with service := 3 } 0 0 .ok [], congrArg Host.Outcome.next ?_⟩
    subst session hw
    rw [named]
    dsimp only
    rw [if_pos ⟨opening, path⟩, served, if_neg (by rw [holds', may']; simp [first]), if_neg (fun odd => Bool.false_ne_true (even'.symm.trans odd)), if_neg (fun full => Bool.false_ne_true (room'.symm.trans full))]
  obtain ⟨r, run⟩ := run
  have opened := (State.sess_sendFdp ((w.setSess q.session { x with st := .opened, last := 0, kept := some r }).countDev 9) q.path r q.session).trans
    (State.sess_setSess_listed w q.session (listed r))
  exact ⟨_, run, (congrArg Session.st opened :), (congrArg Session.role opened :), (congrArg Session.last opened :)⟩

/-- The failures of a path after one more. -/
theorem find?_failed (l : List (Path × Nat)) (p : Path) (n : Nat) :
    (l.filter (fun e => e.1 ≠ p) ++ [(p, n)]).find? (fun e => e.1 = p) = some (p, n) := by
  have none_ : (l.filter (fun e => e.1 ≠ p)).find? (fun e => e.1 = p) = none := by
    rw [List.find?_eq_none]
    intro e listed
    simpa using (List.mem_filter.1 listed).2
  rw [List.find?_append, none_]
  simp

theorem exec_fdpAuth_fails {x : Session} (session : x = s.sess q.session) (opening : x.st = .opening) (path : x.path = q.path)
    (serves : s.serving = true) (open_ : s.pathOpen q.path = true) (rising : Table.risingFrom none s.mgmt.sessions = true) :
    ∃ t, exec (.fdpAuth q false) s = .next t ∧ t.sess q.session = {} ∧ t.fails q.path = s.fails q.path + 1
      ∧ (16 ≤ s.fails q.path + 1 → q.path ∈ t.mgmt.locked) := by
  obtain ⟨v, named⟩ := req_of_eq q 3
  obtain ⟨b, a, served⟩ := State.openDoor_serves (q := { q with service := v }) serves open_
  generalize htaken : s.taken b a s.mgmt.audit s.mgmt.auditNext s.mgmt.segFree = u at served
  have rising' : Table.risingFrom none u.mgmt.sessions = true := htaken ▸ rising
  have fails : u.fails q.path = s.fails q.path := htaken ▸ rfl
  have run : exec (.fdpAuth q false) s = .next (u.authFail { q with service := v }) := by
    refine congrArg Host.Outcome.next ?_
    subst session
    rw [named]
    dsimp only
    rw [if_pos ⟨opening, path⟩, served, if_pos (.inl (by decide))]
  generalize hw : (u.setSess q.session {}).updMgmt (fun m => { m with
    authFails := m.authFails.filter (fun e => e.1 ≠ q.path) ++ [(q.path, u.fails q.path + 1)],
    locked := if 16 ≤ u.fails q.path + 1 ∧ !m.locked.contains q.path then m.locked ++ [q.path] else m.locked }) = w
  have ends : u.authFail { q with service := v } = w.respond { q with service := v } 0 0 .notAuthenticated [] := by
    rw [← hw]
    rfl
  have sent : Served w (w.respond { q with service := v } 0 0 .notAuthenticated []) := (Served.sendFdp ..).1
  refine ⟨_, run.trans (congrArg Host.Outcome.next ends), ?_, ?_, ?_⟩
  · refine (State.sess_sendFdp ..).trans ?_
    rw [← hw]
    exact State.sess_setSess_free _ rising'
  · have list : (w.respond { q with service := v } 0 0 .notAuthenticated []).mgmt.authFails = w.mgmt.authFails :=
      (congrArg Mgmt.authFails sent.mgmt :)
    change ((List.find? _ (State.mgmt _).authFails).map Prod.snd).getD 0 = _
    rw [list, ← fails, ← hw]
    change ((List.find? _ (List.filter _ u.mgmt.authFails ++ _)).map Prod.snd).getD 0 = _
    rw [find?_failed]
    rfl
  · intro many
    have list : (w.respond { q with service := v } 0 0 .notAuthenticated []).mgmt.locked = w.mgmt.locked :=
      (congrArg Mgmt.locked sent.mgmt :)
    change q.path ∈ (State.mgmt _).locked
    rw [list, ← hw]
    change q.path ∈ (if 16 ≤ u.fails q.path + 1 ∧ !u.mgmt.locked.contains q.path then u.mgmt.locked ++ [q.path] else u.mgmt.locked)
    rw [fails]
    by_cases locked : u.mgmt.locked.contains q.path = true
    · rw [if_neg (by rw [locked]; simp)]
      exact List.contains_iff_mem.1 locked
    · rw [if_pos ⟨many, by simpa using locked⟩]
      exact List.mem_append_right _ List.mem_cons_self

theorem State.endSession_sess (n : Nat) (rising : Table.risingFrom none s.mgmt.sessions = true) : (s.endSession n).sess n = {} := by
  have freed := State.sess_setSess_free n rising
  unfold State.endSession
  dsimp only
  split
  · exact freed
  · exact freed

theorem exec_fdpClose (door : s.atDoor q role = true) (even : q.odd = false) (rising : Table.risingFrom none s.mgmt.sessions = true) :
    ∃ t, exec (.fdpClose q) s = .next t ∧ t.sess q.session = {} := by
  obtain ⟨named, even'⟩ := req_of_even q (n := 4) (by decide) even
  have door' : s.atDoor { q with service := 4 } role = true := door
  obtain ⟨b, a, served⟩ := State.serve_atDoor door'
  generalize htaken : s.taken b a s.mgmt.audit s.mgmt.auditNext s.mgmt.segFree = u at served
  have rising' : Table.risingFrom none u.mgmt.sessions = true := htaken ▸ rising
  have run : exec (.fdpClose q) s = .next ((u.answer { q with service := 4 } 0 0 .ok).endSession q.session) := by
    refine congrArg Host.Outcome.next ?_
    rw [named]
    dsimp only
    rw [served, if_neg (fun odd => Bool.false_ne_true (even'.symm.trans odd))]
  refine ⟨_, run, State.endSession_sess _ ?_⟩
  unfold State.answer
  dsimp only
  rw [State.sendFdp_sessions, if_neg (by decide)]
  exact Table.rising_set _ _ _ rising'

theorem exec_authTimeout {n : Nat} (opening : (s.sess n).st = .opening) : exec (.authTimeout n) s = .next (s.setSess n {}) :=
  congrArg Host.Outcome.next (if_pos opening)

theorem exec_sessionIdleExpiry {n : Nat} (opened : (s.sess n).st = .opened) (idle : (s.sess n).executing = false)
    (rising : Table.risingFrom none s.mgmt.sessions = true) :
    ∃ t, exec (.sessionIdleExpiry n) s = .next t ∧ t.sess n = {} ∧ t.dict = s.dict ∧ t.out = s.out := by
  refine ⟨_, congrArg Host.Outcome.next (if_pos ⟨opened, by rw [idle]; rfl⟩), State.endSession_sess n rising, s.endSession_dict n, ?_⟩
  unfold State.endSession
  dsimp only
  split <;> rfl

/-! READ, INFO and WRITE (R555, R556, R558, R559) -/

/-- What an object reports does not rest on the messages that wait. -/
theorem State.readNat_taken (s : State) (b : List (Nat × List Byte)) (a : List Arrived) (r : Reg) (i e : Nat) :
    (s.taken b a s.mgmt.audit s.mgmt.auditNext s.mgmt.segFree).readNat r i e = s.readNat r i e := by
  have mgmt : (s.taken b a s.mgmt.audit s.mgmt.auditNext s.mgmt.segFree).liveMgmt r i e = s.liveMgmt r i e := rfl
  have lo : (s.taken b a s.mgmt.audit s.mgmt.auditNext s.mgmt.segFree).liveLo r i e = s.liveLo r i e := rfl
  have mid : (s.taken b a s.mgmt.audit s.mgmt.auditNext s.mgmt.segFree).liveMid r i e = s.liveMid r i e := rfl
  have hi : (s.taken b a s.mgmt.audit s.mgmt.auditNext s.mgmt.segFree).liveHi r e = s.liveHi r e := rfl
  have bits : (s.taken b a s.mgmt.audit s.mgmt.auditNext s.mgmt.segFree).liveBits r i = s.liveBits r i := rfl
  unfold State.readNat State.liveNat
  rw [mgmt, lo, mid, hi, bits]
  rfl

theorem exec_fdpRead {obj sub i e : Nat} {r : Reg} (door : s.atDoor q role = true) (even : q.odd = false) (value : sub ≠ 0)
    (found : findObject obj sub = some (r, i, e)) (whole : r.entries = 0) (held : r.emptyRead = false) :
    ∃ t, exec (.fdpRead q obj sub 0 0) s = .next t
      ∧ ∃ a, Out.fdp q.path a ∈ t.out ∧ a.status = .ok ∧ a.index = obj ∧ a.sub = sub ∧ a.body = s.readBytes r i e 1 := by
  obtain ⟨named, even'⟩ := req_of_even q (n := 0x10) (by decide) even
  have door' : s.atDoor ({ q with service := 0x10 }.entries 0 0) role = true := door
  obtain ⟨b, a, served⟩ := State.serve_atDoor door'
  have read := State.readNat_taken s b a
  generalize s.taken b a s.mgmt.audit s.mgmt.auditNext s.mgmt.segFree = u at served read
  have body : u.readBytes r i e 1 = s.readBytes r i e 1 := by
    unfold State.readBytes
    simp only [read]
  have run : exec (.fdpRead q obj sub 0 0) s = .next (((List.range 1).foldl (fun s k => s.afterRead r i (e + k)) u).answer
      ({ q with service := 0x10 }.entries 0 0) obj sub .ok (s.readBytes r i e 1)) := by
    refine congrArg Host.Outcome.next ?_
    rw [named]
    dsimp only
    rw [served, if_neg (fun both => value both.1), found]
    dsimp only
    simp only [whole, if_true, ne_eq, not_true_eq_false, or_self, or_false]
    have even0 : (({ q with service := 0x10 } : Req).entries 0 0).odd = false := even'
    rw [if_neg (fun odd => Bool.false_ne_true (even0.symm.trans odd)), if_neg (fun empty => Bool.false_ne_true (held.symm.trans empty)), body]
  exact ⟨_, run, _, (Served.answer ..).2, rfl, rfl, rfl, rfl⟩

theorem exec_fdpInfo {obj sub i e : Nat} {r : Reg} (door : s.atDoor q role = true) (even : q.odd = false) (value : sub ≠ 0)
    (found : findObject obj sub = some (r, i, e)) :
    ∃ t, exec (.fdpInfo q obj sub) s = .next t
      ∧ ∃ a, Out.fdp q.path a ∈ t.out ∧ a.status = .ok ∧ a.index = obj ∧ a.sub = sub ∧ a.body = s.descriptor r i e := by
  obtain ⟨named, even'⟩ := req_of_even q (n := 0x12) (by decide) even
  have door' : s.atDoor { q with service := 0x12 } role = true := door
  obtain ⟨b, a, served⟩ := State.serve_atDoor door'
  have body : (s.taken b a s.mgmt.audit s.mgmt.auditNext s.mgmt.segFree).descriptor r i e = s.descriptor r i e := rfl
  generalize s.taken b a s.mgmt.audit s.mgmt.auditNext s.mgmt.segFree = u at served body
  have run : exec (.fdpInfo q obj sub) s = .next (u.answer { q with service := 0x12 } obj sub .ok (s.descriptor r i e)) := by
    refine congrArg Host.Outcome.next ?_
    rw [named]
    rw [served, if_neg (fun both => value both.1), found]
    exact (if_neg (fun odd => Bool.false_ne_true (even'.symm.trans odd))).trans (congrArg _ body)
  exact ⟨_, run, _, (Served.answer ..).2, rfl, rfl, rfl, rfl⟩

theorem exec_fdpWrite_nodeAddr {body : List Byte} {v : Image} (whole : body.length = 4) (value : v = BitVec.ofNat 1024 (natOfBytes body))
    (accepted : s.mayWrite q role R.nodeAddr 0 0 v = true) (allowed : (objectRule R.nodeAddr q 0 0 (s.reg R.nodeAddr) v).chk s = none)
    (rising : Table.risingFrom none s.dict = true) :
    ∃ t, exec (.fdpWrite q 0x1002 1 0 0 body) s = .next t ∧ t.reg R.nodeAddr = R.nodeAddr.merge (s.reg R.nodeAddr) v ∧ t.active = s.active := by
  have parts := accepted
  simp only [State.mayWrite, State.mayStore, Bool.and_eq_true, if_pos (show R.nodeAddr.entries = 0 from rfl), beq_iff_eq, Bool.not_eq_true'] at parts
  obtain ⟨⟨⟨⟨-, ⟨⟨-, even⟩, ⟨first, one⟩, -⟩⟩, -⟩, -⟩, -⟩ := parts
  obtain ⟨named, even'⟩ := req_of_even q (n := 0x11) (by decide) even
  have entries : ({ q with service := 0x11 } : Req).entries 0 0 = { q with service := 0x11 } := by
    unfold Req.entries
    dsimp only
    rw [first, one]
  have accepted' : s.mayWrite (({ q with service := 0x11 } : Req).entries 0 0) role R.nodeAddr 0 0 v = true := by
    have storesAs : s.mayStore { q with service := 0x11 } role R.nodeAddr 0 0 v = s.mayStore q role R.nodeAddr 0 0 v := by
      unfold State.mayStore
      rw [even, even']
    rw [entries]
    unfold State.mayWrite at accepted ⊢
    rw [storesAs]
    exact accepted
  obtain ⟨b, a, au, an, sf, served, -⟩ := State.writeRun_done accepted' (objectRule R.nodeAddr ({ q with service := 0x11 }.entries 0 0) 0)
    (fun _ _ => rfl) (fun _ _ => rfl) (fun _ _ _ _ _ => allowed)
  rw [State.storeVal_stored (by decide)] at served
  have found : findObject 0x1002 1 = some (R.nodeAddr, 0, 0) := by decide
  have run : exec (.fdpWrite q 0x1002 1 0 0 body) s = .next (s.writeRun ({ q with service := 0x11 }.entries 0 0) R.nodeAddr 0 0 [v]
      (objectRule R.nodeAddr ({ q with service := 0x11 }.entries 0 0) 0)) := by
    refine congrArg Host.Outcome.next ?_
    rw [named]
    unfold State.fdpWrite
    rw [found]
    dsimp only
    have bits : body.length = R.nodeAddr.bits / 8 * 1 := whole
    have vals : valuesOf (R.nodeAddr.bits / 8) 1 body = [v] := by
      have all : body.take (R.nodeAddr.bits / 8) = body := List.take_of_length_le (by rw [whole]; decide)
      unfold valuesOf
      rw [all, value]
      rfl
    have none_ : ∀ w : Image, (s.ownLo ({ q with service := 0x11 }.entries 0 0) R.nodeAddr 0 0 w).orElse
        (fun _ => (s.ownMid ({ q with service := 0x11 }.entries 0 0) R.nodeAddr 0 w).orElse
          (fun _ => s.ownHi ({ q with service := 0x11 }.entries 0 0) R.nodeAddr 0 0 w)) = none := fun _ => rfl
    have domain : s.domainOf ({ q with service := 0x11 }.entries 0 0) R.nodeAddr 0 body = none := rfl
    rw [domain]
    dsimp only
    rw [if_pos (show R.nodeAddr.entries = 0 from rfl), if_neg (not_not.2 bits), if_neg (by decide), vals, none_]
    rfl
  exact ⟨_, run, (served.reg R.nodeAddr 0 0).trans (State.reg_setReg_same (s := s.taken b a au an sf) _ _ _ _ rising), served.active⟩

theorem State.canRecoverWrite_recovers {v : Image} (accepted : s.mayWrite q role R.canRecover 0 0 v = true) (one : v = 1) (off : s.mgmt.can.st = .busOff)
    (manual : bit (s.eff R.canCtl) 11 = false) :
    (s.canRecoverWrite q v).mgmt.can.recovering = true ∧ (s.canRecoverWrite q v).mgmt.can.st = .busOff := by
  obtain ⟨b, a, au, an, sf, served, -⟩ := State.dictWrite_done accepted (fun _ => none)
    (fun s => (if v = 1 ∧ s.mgmt.can.st = .busOff ∧ !bit (s.eff R.canCtl) 11 then
        s.updMgmt (fun m => { m with can := { m.can with recovering := true } })
      else s, .ok)) (fun _ _ _ _ _ => rfl)
  rw [State.storeVal_unstored (by decide)] at served
  have manual' : bit ((s.taken b a au an sf).eff R.canCtl) 11 = false := manual
  have acts : v = 1 ∧ (s.taken b a au an sf).mgmt.can.st = .busOff ∧ (!bit ((s.taken b a au an sf).eff R.canCtl) 11) = true :=
    ⟨one, off, by rw [manual']; rfl⟩
  rw [if_pos acts] at served
  exact ⟨(congrArg (fun m : Mgmt => m.can.recovering) served.mgmt :), (congrArg (fun m : Mgmt => m.can.st) served.mgmt :).trans off⟩

theorem exec_canRecover (accepted : s.mayWrite q role R.canRecover 0 0 1 = true) (off : s.mgmt.can.st = .busOff)
    (manual : bit (s.eff R.canCtl) 11 = false) :
    ∃ t, exec (.canRecover q 1) s = .next t ∧ t.mgmt.can.recovering = true ∧ t.mgmt.can.st = .busOff :=
  ⟨_, rfl, State.canRecoverWrite_recovers accepted rfl off manual⟩

end

/-- Settles O52: sessions, READ, WRITE and INFO, and CAN_RECOVER. -/
theorem sessionsAndServices : Obligations.SessionsAndServices := by
  unfold Obligations.SessionsAndServices
  exact ⟨fun s q => exec_fdpIdentify, fun s q roleNo slot nonce n => exec_fdpOpen, fun s q x => exec_fdpAuth_opens,
    fun s q x => exec_fdpAuth_fails, fun s q role => exec_fdpClose, fun s n => exec_authTimeout, fun s p => rfl,
    fun s n => exec_sessionIdleExpiry, fun s q role obj sub i e r => exec_fdpRead, fun s q role obj sub i e r => exec_fdpInfo,
    fun s q role body v => exec_fdpWrite_nodeAddr, fun s q role => exec_canRecover⟩

end Sys2Proof.Machine
end

section
/-! The management bus, control deliveries and the test port (family 19): what a context store does to a delivery (R287, R575). -/

namespace Sys2Proof.Machine

/-- An FDP_RESPONSE for station 1 of slice 0 has come to stop 7. -/
def storedDelivery : Arrived := { stop := 7, pkt := { hdr := { cmd := 0x02, dstStation := 0x201, length := 3 }, payload := [1, 2, 3] } }

/-- CONTROL_RECV names CQ 0 of slice 0, whose ring host function 0 serves with its own addresses; the context store is used, and the
context of the CQ is not on chip. -/
def storedQueue : State :=
  { ((((State.reset.setReg R.funcMap 0 0 0x80000000).setReg R.sliceStations 0 0 0x80000601).setReg R.controlRecv 0 0
      (BitVec.ofNat _ (2 ^ 127 + 0x10000))).setReg R.transStageTwo 0 0 (BitVec.ofNat _ (2 ^ 63))) with
    active := [(R.ctxStore.key 0 0, BitVec.ofNat _ (2 ^ 63))]
    arrived := [storedDelivery]
    host := { ports := [(0, { perst := false, pin := false, linkA := { st := 2, width := 16, speed := 6, ready := true } })]
              funcs := [(0, { mse := true, bme := true })]
              cqs := [(0, {})] } }

/-- The completions written to CQ 0 where a command ends. -/
def writtenAfter (r : Result) : Option Nat :=
  match r with
  | .next t => (t.cq 0).map (fun q => q.written)
  | _ => none

/-- The delivery's completion waits for the queue's context: nothing is written to the queue. -/
theorem storedQueue_holds : writtenAfter (exec (.controlDelivery 7) storedQueue) = some 0 := by decide +kernel

/-- Refutes O53: where the context store is used and the CQ's context is not on chip (R287), the completion of a control delivery waits
for the context, so that the queue's count of completions written stands; the clause of the delivery that a queue takes has no premise that
the context is on chip. -/
theorem not_theManagementBusDeliveriesAndTheTestPort : ¬ Obligations.TheManagementBusDeliveriesAndTheTestPort := by
  unfold Obligations.TheManagementBusDeliveriesAndTheTestPort
  rintro ⟨-, -, -, -, -, -, -, -, -, -, -, taken, -⟩
  obtain ⟨t, run, -, -, -, q, found, written, -⟩ := taken storedQueue 7 0 0 storedDelivery {} (by decide +kernel) (by decide +kernel)
    (by decide +kernel) (by decide +kernel) (by decide +kernel) (by decide +kernel) (by decide +kernel) (by decide +kernel)
  have holds := storedQueue_holds
  rw [run] at holds
  have counted : (t.cq 0).map (fun q => q.written) = some 1 := by
    rw [found, Option.map_some, written]
  exact absurd (holds.symm.trans counted) (by decide)

end Sys2Proof.Machine
end

section
/-! Messages at their sender (family 13): an entry that has ended before its acknowledgement (R188, R394). -/

namespace Sys2Proof.Machine

/-- A SEND that a discard notice has ended is not acknowledged yet, and a later entry stands at its position of work queue 0. -/
def noticedPeer : Peer := { send2 := { unacked := [{ ended := true }] } }

/-- The peer is within the slice's limit of contexts. -/
def noticedSend : State :=
  { State.reset.setReg R.rmaSliceCtl 0 0 (BitVec.ofNat _ (2 ^ 16)) with
    remote := { peers := [noticedPeer] }
    host := { wqs := [(0, { entries := [{ pos := 0 }] })] } }

/-- An entry is left at position 0 of work queue 0 where a command ends. -/
def entryLeftAfter (r : Result) : Bool :=
  match r with
  | .next t => (t.recvEntry 0 0).isSome
  | _ => false

/-- The acknowledgement timeout ends no entry for a SEND that has ended already. -/
theorem noticedSend_leaves : entryLeftAfter (exec (.ackTimeout noticedPeer.pair false) noticedSend) = true := by decide +kernel

/-- Refutes O38: where a SEND has ended before its acknowledgement, on a discard notice (R188), the acknowledgement timeout ends no entry
for it, so that an entry that stands at its position by then stays; the clause of the timeout, as that of MSG_ACK, has no premise that the
SEND has not ended. -/
theorem not_messagesAreMatchedAndAnswered : ¬ Obligations.MessagesAreMatchedAndAnswered := by
  unfold Obligations.MessagesAreMatchedAndAnswered
  rintro ⟨-, -, -, -, -, -, -, -, -, timeout, -⟩
  obtain ⟨t, run, ends, -⟩ := timeout noticedSend noticedPeer.pair false noticedPeer (by decide +kernel) (by decide +kernel)
    (by decide +kernel)
  have left := noticedSend_leaves
  rw [run] at left
  have ended : t.recvEntry 0 0 = none := ends { ended := true } (List.mem_singleton.2 rfl)
  simp [entryLeftAfter, ended] at left

end Sys2Proof.Machine
end

section
/-! How entries end (families 12 to 15): the end of an entry moves the host side alone, and neither an entry nor an operation that has
ended comes back. -/

namespace Sys2Proof.Machine

/-! What events and completions leave alone (R310–R316) -/

/-- The state without what an event or a completion moves: the host side, free draws, counters and samples, what is sent. -/
def State.offHost (s : State) : State := { s with out := [], draws := 0, counters := [], totals := [], counting := {}, host := {} }

theorem foldl_offHost {β : Type} {f : State → β → State} (h : ∀ s b, (f s b).offHost = s.offHost) (l : List β) (s : State) :
    (l.foldl f s).offHost = s.offHost :=
  List.foldlRecOn (motive := fun t => t.offHost = s.offHost) l f rfl fun t same b _ => (h t b).trans same

section
variable (s : State)

@[simp] theorem State.updHost_offHost (f : HostSide → HostSide) : (s.updHost f).offHost = s.offHost := rfl
@[simp] theorem State.drawn_offHost : s.drawn.offHost = s.offHost := rfl
@[simp] theorem State.countSlice_offHost (sl e k : Nat) : (s.countSlice sl e k).offHost = s.offHost := rfl
@[simp] theorem State.putWq_offHost (n : Nat) (w : Wq) : (s.putWq n w).offHost = s.offHost := rfl
@[simp] theorem State.putCq_offHost (n : Nat) (c : Cq) : (s.putCq n c).offHost = s.offHost := rfl
@[simp] theorem State.putEq_offHost (n : Nat) (e : Eq) : (s.putEq n e).offHost = s.offHost := rfl

@[simp] theorem State.request_offHost (b : Burst) : (s.request b).offHost = s.offHost := by
  obtain ⟨o, h, same⟩ := s.request_after b
  rw [same]
  rfl

@[simp] theorem State.msix_offHost (f v sl key : Nat) : (s.msix f v sl key).offHost = s.offHost := by
  obtain ⟨o, h, same⟩ := s.msix_after f v sl key
  rw [same]
  rfl

@[simp] theorem State.hostWrite_offHost (b : Burst) (data : List Byte) : (s.hostWrite b data).offHost = s.offHost := by
  obtain ⟨o, h, same⟩ := s.hostWrite_after b data
  rw [same]
  rfl

@[simp] theorem State.ringWrite_offHost (kind n f sl addr key : Nat) (data : List Byte) :
    (s.ringWrite kind n f sl addr key data).offHost = s.offHost := State.hostWrite_offHost ..

@[simp] theorem State.hostReadN_offHost (b : Burst) (n off len : Nat) : (s.hostReadN b n off len).1.offHost = s.offHost := by
  induction n generalizing s b off len with
  | zero => rfl
  | succ n ih =>
    unfold State.hostReadN
    split
    · rfl
    · exact (ih ..).trans (State.request_offHost ..)

@[simp] theorem State.loadContext_offHost (k : Nat) : (s.loadContext k).offHost = s.offHost := by
  unfold State.loadContext
  dsimp only
  split
  · rfl
  · exact State.hostReadN_offHost ..

@[simp] theorem State.useContext_offHost (k : Nat) : (s.useContext k).offHost = s.offHost := by
  unfold State.useContext
  dsimp only
  split
  · rfl
  · exact State.hostWrite_offHost ..

@[simp] theorem State.writeEvent_offHost (n ty src detail key : Nat) : (s.writeEvent n ty src detail key).offHost = s.offHost := by
  unfold State.writeEvent
  split <;> simp

@[simp] theorem State.fireEq_offHost (n key : Nat) : (s.fireEq n key).offHost = s.offHost := by
  unfold State.fireEq
  (repeat' split) <;> simp

@[simp] theorem State.overrunEvent_offHost (n : Nat) : (s.overrunEvent n).offHost = s.offHost := by
  unfold State.overrunEvent
  (repeat' split) <;> simp

@[simp] theorem State.event_offHost (n ty src detail key : Nat) : (s.event n ty src detail key).offHost = s.offHost := by
  unfold State.event
  dsimp only
  (repeat' split) <;> simp

@[simp] theorem State.sliceEvent_offHost (sl ty src detail : Nat) : (s.sliceEvent sl ty src detail).offHost = s.offHost := by
  unfold State.sliceEvent
  split <;> simp

end

/-! An entry that has ended stays so (R309–R312, R316) -/

/-- From `s` to `t` entries may have ended, and the host side alone has moved. -/
structure Settles (s t : State) : Prop where
  offHost : t.offHost = s.offHost
  ended   : ∀ n pos, s.recvEntry n pos = none → t.recvEntry n pos = none

theorem State.recvEntry_of_wqs {s t : State} (wqs : t.host.wqs = s.host.wqs) (n pos : Nat) : t.recvEntry n pos = s.recvEntry n pos := by
  unfold State.recvEntry State.wq
  rw [wqs]

/-- An entry has ended where no unfinished entry of the queue stands at its position. -/
theorem State.recvEntry_eq_none {s : State} {n pos : Nat} :
    s.recvEntry n pos = none ↔ ∀ w, s.wq n = some w → ∀ e ∈ w.entries, e.pos = pos → e.st = .finished := by
  unfold State.recvEntry
  cases s.wq n with
  | none => simp
  | some w => simp

theorem State.recvEntry_eq_some {s : State} {n pos : Nat} {w : Wq} {e : WqEntry} (found : s.recvEntry n pos = some (w, e)) :
    s.wq n = some w ∧ w.entries.find? (fun e => e.pos = pos ∧ e.st ≠ .finished) = some e := by
  unfold State.recvEntry at found
  split at found
  · cases found
  · next w' listed =>
    obtain ⟨e', first, same⟩ := Option.map_eq_some_iff.1 found
    cases same
    exact ⟨listed, first⟩

section
variable {s t u : State}

theorem Settles.refl (s : State) : Settles s s := ⟨rfl, fun _ _ h => h⟩

theorem Settles.of_same (h : Settles s t) (off : u.offHost = t.offHost) (wqs : u.host.wqs = t.host.wqs) : Settles s u :=
  ⟨off.trans h.offHost, fun n pos gone => (State.recvEntry_of_wqs wqs n pos).trans (h.ended n pos gone)⟩

theorem Settles.of_work (h : Settles s t) (off : u.offHost = t.offHost) (work : u.workSide = t.workSide) : Settles s u :=
  h.of_same off (congrArg WorkSide.wqs work)

theorem Settles.ite {c : Prop} [Decidable c] (ht : Settles s t) (hu : Settles s u) : Settles s (if c then t else u) := by
  split
  · exact ht
  · exact hu

theorem Settles.foldl {β : Type} {f : State → β → State} (keeps : ∀ t b, Settles s t → Settles s (f t b)) (l : List β) (h : Settles s t) :
    Settles s (l.foldl f t) :=
  List.foldlRecOn (motive := fun t => Settles s t) l f h fun t ht b _ => keeps t b ht

/-- A queue is put back with no unfinished entry beside those it had. -/
theorem Settles.putWq {m : Nat} {w w' : Wq} (h : Settles s t) (listed : t.wq m = some w)
    (fewer : ∀ e ∈ w'.entries, e.st ≠ .finished → ∃ x ∈ w.entries, x.pos = e.pos ∧ x.st ≠ .finished) : Settles s (t.putWq m w') := by
  refine ⟨h.offHost, fun n pos gone => ?_⟩
  have before := State.recvEntry_eq_none.1 (h.ended n pos gone)
  refine State.recvEntry_eq_none.2 fun x found e member at_ => ?_
  by_cases same : n = m
  · subst same
    rw [State.wq_putWq_same listed] at found
    cases found
    by_contra open_
    obtain ⟨y, had, place, unfinished⟩ := fewer e member open_
    exact unfinished (before w listed y had (place.trans at_))
  · rw [State.wq_putWq_other _ same] at found
    exact before x found e member at_

theorem Settles.countSlice (h : Settles s t) (sl e k : Nat) : Settles s (t.countSlice sl e k) := h.of_same rfl rfl

theorem Settles.sliceEvent (h : Settles s t) (sl ty src detail : Nat) : Settles s (t.sliceEvent sl ty src detail) :=
  h.of_work (State.sliceEvent_offHost ..) (State.sliceEvent_workSide ..)

theorem Settles.queueErrorEvent (h : Settles s t) (sl kind n cause : Nat) : Settles s (t.queueErrorEvent sl kind n cause) :=
  h.sliceEvent ..

theorem State.sampled_wqs (s : State) (n sl : Nat) (e : WqEntry) (status count : Nat) :
    (s.sampled n sl e status count).host.wqs = s.host.wqs := by
  unfold State.sampled
  split <;> rfl

theorem Settles.sampled (h : Settles s t) (n sl : Nat) (e : WqEntry) (status count : Nat) : Settles s (t.sampled n sl e status count) := by
  refine h.of_same ?_ (State.sampled_wqs ..)
  unfold State.sampled
  split <;> rfl

theorem Settles.countComp (h : Settles s t) (sl : Nat) (c : Comp) : Settles s (t.countComp sl c) := by
  have counted : Settles s (if c.code < 16 then t.countSlice sl 2 else if c = .flushed then t.countSlice sl 4
      else if c = .malformedEntry then t.countSlice sl 5 else t.countSlice sl 3) :=
    .ite (h.countSlice ..) (.ite (h.countSlice ..) (.ite (h.countSlice ..) (h.countSlice ..)))
  exact .ite (counted.countSlice ..) counted

theorem Settles.fireCq (h : Settles s t) (n key : Nat) : Settles s (t.fireCq n key) := by
  unfold State.fireCq
  split
  · exact h
  · exact .ite (h.of_work (State.event_offHost ..) (State.event_workSide ..)) h

theorem Settles.wqErrorSilent (h : Settles s t) (n cause : Nat) : Settles s (t.wqErrorSilent n cause) := by
  unfold State.wqErrorSilent
  split
  · exact h
  · next w listed =>
    have samples : ∀ (l : List WqEntry) (u : State), (l.foldl (fun s e => s.sampled n w.slice e 0xFF 0) u).host.wqs = u.host.wqs :=
      fun l u => List.foldlRecOn (motive := fun v : State => v.host.wqs = u.host.wqs) l _ rfl fun v same e _ => (State.sampled_wqs ..).trans same
    split
    · exact h
    · dsimp only
      refine Settles.queueErrorEvent (Settles.putWq (w := w) ?ended ?listed ?fewer) ..
      case ended => exact .foldl (fun _ e hu => hu.sampled ..) _ (.countSlice (t := t.dropItems n) (h.of_same rfl rfl) ..)
      case listed => rw [State.wq, samples]; exact listed
      case fewer => exact fun e member => absurd member List.not_mem_nil

theorem Settles.cqError (h : Settles s t) (n cause : Nat) : Settles s (t.cqError n cause) := by
  unfold State.cqError
  split
  · exact h
  · next c _ =>
    have failed : Settles s ((t.putCq n { c with st := .error cause }).queueErrorEvent c.slice 1 n cause) :=
      Settles.queueErrorEvent (t := t.putCq n _) (h.of_same rfl rfl) ..
    exact .ite h (.ite (.foldl (fun _ _ hu => hu.wqErrorSilent ..) _ failed) failed)

theorem Settles.writeCompletion (h : Settles s t) (n : Nat) (c : Completion) (key : Nat) : Settles s (t.writeCompletion n c key) := by
  unfold State.writeCompletion
  split
  · exact h
  · next q _ =>
    have held : ∀ x, Settles s (t.putCq n x) := fun x => h.of_same rfl rfl
    refine .ite h (.ite (held _) (.ite ?load (.ite (.ite ?consumer (h.cqError ..)) (.fireCq ?written ..))))
    case load => exact (held _).of_work (State.loadContext_offHost ..) (State.loadContext_workSide ..)
    case consumer => exact (held _).of_work (State.hostReadN_offHost ..) (State.hostReadN_workSide ..)
    case written => refine h.of_work ?_ ?_ <;> simp [State.ringWrite]

end

/-! The end of an entry -/

/-- HEAD advances over entries that have finished. -/
theorem mem_of_mem_advanceHead {h : Nat} {es : List WqEntry} {e : WqEntry} (member : e ∈ (advanceHead h es).2) : e ∈ es := by
  induction es generalizing h with
  | nil => exact member
  | cons x es ih =>
    unfold advanceHead at member
    split at member
    · exact List.mem_cons_of_mem _ (ih member)
    · exact member

/-- The entries of a queue once those at a position have finished. -/
def Wq.finished (w : Wq) (pos : Nat) : Wq :=
  let r := advanceHead w.head (w.entries.map (fun x => if x.pos = pos then { x with st := EntrySt.finished } else x))
  { w with head := r.1, entries := r.2 }

/-- An entry left unfinished stood unfinished at its position, which is another. -/
theorem Wq.of_mem_finished {w : Wq} {pos : Nat} {e : WqEntry} (member : e ∈ (w.finished pos).entries) (open_ : e.st ≠ .finished) :
    e ∈ w.entries ∧ e.pos ≠ pos := by
  obtain ⟨x, had, same⟩ := List.mem_map.1 (mem_of_mem_advanceHead member)
  split at same
  · subst same
    exact absurd rfl open_
  · next other =>
    subst same
    exact ⟨had, other⟩

section
variable {s : State} (n pos : Nat) (st : Comp) (count detail specific : Nat) (solicited : Bool)

/-- An entry that is not there, or has finished, is left alone (R309). -/
theorem State.finish_gone (gone : s.recvEntry n pos = none) : s.finish n pos st count detail specific solicited = s := by
  unfold State.recvEntry at gone
  unfold State.finish
  split at gone
  · rfl
  · dsimp only
    rw [Option.map_eq_none_iff.1 gone]

/-- From the queue with its entry finished, the end of the entry is a matter of the host side. -/
theorem State.finish_settles {w : Wq} {e : WqEntry} (found : s.recvEntry n pos = some (w, e)) :
    Settles (s.putWq n (w.finished pos)) (s.finish n pos st count detail specific solicited) := by
  obtain ⟨listed, first⟩ := State.recvEntry_eq_some found
  unfold State.finish
  rw [listed]
  dsimp only
  rw [first]
  dsimp only
  have dropped : Settles (s.putWq n (w.finished pos)) ((s.putWq n (w.finished pos)).dropItemOf n pos) := (Settles.refl _).of_same rfl rfl
  split
  · exact (dropped.sampled ..).countComp .. |>.writeCompletion ..
  · exact (dropped.sampled ..).of_same rfl rfl

/-- An entry ends, and none comes back (R309, R311). -/
theorem Settles.finish (s : State) : Settles s (s.finish n pos st count detail specific solicited) := by
  cases found : s.recvEntry n pos with
  | none => rw [State.finish_gone n pos st count detail specific solicited found]; exact .refl s
  | some we =>
    obtain ⟨w, e⟩ := we
    have after := State.finish_settles n pos st count detail specific solicited found
    have put : Settles s (s.putWq n (w.finished pos)) := (Settles.refl s).putWq (State.recvEntry_eq_some found).1 fun x member open_ =>
      ⟨x, (Wq.of_mem_finished member open_).1, rfl, open_⟩
    exact ⟨after.offHost.trans put.offHost, fun m k gone => after.ended m k (put.ended m k gone)⟩

/-- The entry has ended (R309). -/
theorem State.recvEntry_finish (s : State) : (s.finish n pos st count detail specific solicited).recvEntry n pos = none := by
  cases found : s.recvEntry n pos with
  | none => rw [State.finish_gone n pos st count detail specific solicited found, found]
  | some we =>
    obtain ⟨w, e⟩ := we
    refine (State.finish_settles n pos st count detail specific solicited found).ended n pos (State.recvEntry_eq_none.2 ?_)
    intro x listed y member place
    rw [State.wq_putWq_same (State.recvEntry_eq_some found).1] at listed
    cases listed
    by_contra open_
    exact (Wq.of_mem_finished member open_).2 place

end

end Sys2Proof.Machine
end

section
/-! How operations fail (families 12 to 15): whatever a failure ends, translations and arrived packets are left alone, and neither an
entry nor an operation of remote memory that has ended comes back. -/

namespace Sys2Proof.Machine

/-- From `s` to `t` entries and operations may have ended; translations and arrived packets stand. -/
structure Fails (s t : State) : Prop where
  trans   : t.trans = s.trans
  arrived : t.arrived = s.arrived
  ended   : ∀ n pos, s.recvEntry n pos = none → t.recvEntry n pos = none
  settled : ∀ n pos, s.rop n pos = none → t.rop n pos = none

section
variable {s t u : State}

theorem Fails.refl (s : State) : Fails s s := ⟨rfl, rfl, fun _ _ h => h, fun _ _ h => h⟩

theorem Fails.next (h : Fails s t) (h' : Fails t u) : Fails s u :=
  ⟨h'.trans.trans h.trans, h'.arrived.trans h.arrived, fun n pos gone => h'.ended n pos (h.ended n pos gone),
    fun n pos gone => h'.settled n pos (h.settled n pos gone)⟩

theorem Fails.of_same (h : Fails s t) (trans : u.trans = t.trans) (arrived : u.arrived = t.arrived) (wqs : u.host.wqs = t.host.wqs)
    (ops : u.remote.ops = t.remote.ops) : Fails s u :=
  h.next ⟨trans, arrived, fun n pos gone => (State.recvEntry_of_wqs wqs n pos).trans gone,
    fun n pos gone => by unfold State.rop at gone ⊢; rwa [ops]⟩

theorem Fails.settles (h : Fails s t) (h' : Settles t u) : Fails s u :=
  h.next ⟨(congrArg State.trans h'.offHost :), (congrArg State.arrived h'.offHost :), h'.ended,
    fun n pos gone => by
      have ops : u.remote = t.remote := (congrArg State.remote h'.offHost :)
      unfold State.rop at gone ⊢
      rwa [ops]⟩

theorem Fails.ite {c : Prop} [Decidable c] (ht : Fails s t) (hu : Fails s u) : Fails s (if c then t else u) := by
  split
  · exact ht
  · exact hu

theorem Fails.foldl {β : Type} {f : State → β → State} (keeps : ∀ t b, Fails s t → Fails s (f t b)) (l : List β) (h : Fails s t) :
    Fails s (l.foldl f t) :=
  List.foldlRecOn (motive := fun t => Fails s t) l f h fun t ht b _ => keeps t b ht

theorem Fails.finish (h : Fails s t) (n pos : Nat) (st : Comp) (count detail specific : Nat) (solicited : Bool) :
    Fails s (t.finish n pos st count detail specific solicited) := h.settles (Settles.finish ..)

theorem Fails.sliceEvent (h : Fails s t) (sl ty src detail : Nat) : Fails s (t.sliceEvent sl ty src detail) :=
  h.settles ((Settles.refl t).sliceEvent ..)

theorem Fails.countSlice (h : Fails s t) (sl e k : Nat) : Fails s (t.countSlice sl e k) := h.of_same rfl rfl rfl rfl

theorem Fails.dropItemOf (h : Fails s t) (n pos : Nat) : Fails s (t.dropItemOf n pos) := h.of_same rfl rfl rfl rfl

/-! Peer contexts and packets (R33, R441, R448) -/

theorem Fails.setPeer (h : Fails s t) (p : Peer) : Fails s (t.setPeer p) := h.of_same rfl rfl rfl rfl

theorem State.hostWrite_wqs (s : State) (b : Burst) (data : List Byte) : (s.hostWrite b data).host.wqs = s.host.wqs :=
  congrArg WorkSide.wqs (State.hostWrite_workSide ..)

theorem Fails.hostWrite (h : Fails s t) (b : Burst) (data : List Byte) : Fails s (t.hostWrite b data) :=
  h.settles ((Settles.refl t).of_same (State.hostWrite_offHost ..) (State.hostWrite_wqs ..))

theorem Fails.putPeer (h : Fails s t) (p : Peer) : Fails s (t.putPeer p) := by
  have put := h.setPeer p
  unfold State.putPeer State.evict
  refine .ite (.hostWrite ?_ ..) put
  exact put.of_same rfl rfl rfl rfl

theorem Fails.updRdvS (h : Fails s t) (p : Pair) (f : List RdvSend → List RdvSend) : Fails s (t.updRdvS p f) := by
  unfold State.updRdvS
  split
  · exact h.putPeer _
  · exact h

theorem Fails.inject (h : Fails s t) (sl stop : Nat) (hd : Header) (payload : List Byte) (wait : List (Nat × Nat))
    (owner : Option (Nat × Nat)) (charge : Nat) (answer : Bool) : Fails s (t.inject sl stop hd payload wait owner charge answer) := by
  obtain ⟨b, tw, d, il, ib, c, tt, -, same⟩ := t.inject_built sl stop hd payload wait owner charge answer
  rw [same]
  exact h.of_same rfl rfl rfl rfl

/-! Work queues that fail, with their rendezvous (R316, Table MSG-6) -/

theorem Fails.failRdvS (h : Fails s t) (sl : Nat) (p : Pair) (r : RdvSend) (own : Comp) (detail : Nat) (peer : Comp) :
    Fails s (t.failRdvS sl p r own detail peer) :=
  .finish (.ite (h.updRdvS ..) ((h.updRdvS ..).inject ..)) ..

theorem Settles.wqError (s : State) (n cause : Nat) : Settles s (s.wqError n cause) := by
  unfold State.wqError
  split
  · exact .refl s
  · next w listed =>
    have down : Settles s ((s.putWq n { w with st := .error cause }).dropItems n) :=
      ((Settles.refl s).putWq (w' := { w with st := .error cause }) listed fun e member open_ => ⟨e, member, rfl, open_⟩).of_same rfl rfl
    refine .ite (.refl s) (.queueErrorEvent (.foldl (fun u e hu => ?_) _ down) ..)
    exact ⟨(Settles.finish ..).offHost.trans hu.offHost, fun m k gone => (Settles.finish ..).ended m k (hu.ended m k gone)⟩

theorem Fails.wqFail (h : Fails s t) (n cause : Nat) : Fails s (t.wqFail n cause) :=
  .foldl (fun _ _ hp => .foldl (fun _ _ hr => hr.failRdvS ..) _ hp) _ (h.settles (Settles.wqError ..))

/-! Operations of remote memory (R433, R444, R445) -/

theorem Fails.rmaEvent (h : Fails s t) (sl n source detail : Nat) : Fails s (t.rmaEvent sl n source detail) :=
  .ite (h.sliceEvent ..) h

theorem Fails.putRop (h : Fails s t) (o : ROp) : Fails s (t.putRop o) := by
  refine h.next ⟨rfl, rfl, fun _ _ gone => gone, fun n pos gone => ?_⟩
  simp only [State.rop, List.find?_eq_none, State.putRop, State.updRemote, List.mem_map] at gone ⊢
  rintro _ ⟨x, member, rfl⟩
  split
  · next same => rw [← same.1, ← same.2]; exact gone x member
  · exact gone x member

theorem Fails.dropRop (h : Fails s t) (n pos : Nat) : Fails s (t.dropRop n pos) := by
  refine h.next ⟨rfl, rfl, fun _ _ gone => gone, fun m k gone => ?_⟩
  simp only [State.rop, List.find?_eq_none, State.dropRop, State.updRemote] at gone ⊢
  exact fun x member => gone x (List.mem_of_mem_filter member)

/-- The operation of an entry is dropped. -/
theorem State.rop_dropRop (s : State) (n pos : Nat) : (s.dropRop n pos).rop n pos = none := by
  simp only [State.rop, State.dropRop, State.updRemote, List.find?_eq_none, List.mem_filter]
  rintro x ⟨-, other⟩ own
  rw [Bool.not_eq_true', decide_eq_false_iff_not] at other
  exact other (of_decide_eq_true own)

theorem Fails.failOp (h : Fails s t) (n pos num : Nat) (c : Comp) (detail : Nat) : Fails s (t.failOp n pos num c detail) := by
  unfold State.failOp
  split
  · exact h
  · split
    · exact h.putRop _
    · exact .ite (h.putRop _) h

/-- The end of an operation with a failure stops a queue of a slice that starts (R291). -/
theorem Fails.stopStarting (h : Fails s t) (sl n : Nat) :
    Fails s (match (t.slice sl).st with | .starting | .test | .recovering => t.wqFail n 5 | _ => t) := by
  split
  · exact h.wqFail ..
  · exact h.wqFail ..
  · exact h.wqFail ..
  · exact h

theorem Fails.settleOp (h : Fails s t) (n pos : Nat) : Fails s (t.settleOp n pos) := by
  unfold State.settleOp
  split
  · exact h
  · next o _ =>
    refine .ite h ?_
    dsimp only
    split
    · exact (h.dropRop ..).finish ..
    · exact Fails.stopStarting ((h.dropRop ..).finish ..) o.slice n

/-! Collectives (R477, R478) -/

theorem Fails.updColls (h : Fails s t) (f : Colls → Colls) : Fails s (t.updColls f) := h.of_same rfl rfl rfl rfl

theorem Fails.updColl (h : Fails s t) (n : Nat) (f : Coll → Coll) : Fails s (t.updColl n f) := h.of_same rfl rfl rfl rfl

theorem Fails.collSend (h : Fails s t) (n p cmd off ext : Nat) (payload : List Byte) : Fails s (t.collSend n p cmd off ext payload) := by
  unfold State.collSend
  split
  · exact h
  · exact h.updColls _

theorem Fails.collUnstage (h : Fails s t) (n : Nat) (c : Coll) : Fails s (t.collUnstage n c) := by
  unfold State.collUnstage
  dsimp only
  refine Fails.updColls ?_ _
  split
  · exact h
  · exact h.of_same rfl rfl rfl rfl

theorem Fails.collAbortEntries (h : Fails s t) (c : Coll) : Fails s (t.collAbortEntries c) := by
  unfold State.collAbortEntries
  refine .foldl (fun u m hu => ?_) _ h
  split
  · exact (hu.dropItemOf ..).finish ..
  · exact hu

theorem Fails.collAbort (h : Fails s t) (n cause port : Nat) (but : Option Nat) (own : Bool) : Fails s (t.collAbort n cause port but own) := by
  unfold State.collAbort State.collFlood State.collEvent
  dsimp only
  refine .sliceEvent (.foldl (fun u p hu => hu.collSend ..) _ (.countSlice (.updColls (.collAbortEntries ?_ _) _) ..)) ..
  exact ((h.collUnstage ..).updColls _).of_same rfl rfl rfl rfl

theorem Fails.collMemberFault (h : Fails s t) (n : Nat) (m : CMember) (c : Comp) (detail : Nat) : Fails s (t.collMemberFault n m c detail) :=
  (((h.updColl ..).dropItemOf ..).finish ..).collAbort ..

theorem Fails.collFault (h : Fails s t) (n pos : Nat) (c : Comp) (detail : Nat) (read : Bool) : Fails s (t.collFault n pos c detail read) := by
  unfold State.collFault
  split
  · exact h
  · exact .ite (h.collMemberFault ..) ((h.finish ..).updColl ..)

/-! Entries whose accesses fault (R371, R378) -/

theorem Fails.failEntry (h : Fails s t) (n pos : Nat) (c : Comp) (detail : Nat) : Fails s (t.failEntry n pos c detail) := by
  unfold State.failEntry
  split
  · exact h
  · next w _ _ => exact .ite (Fails.stopStarting (h.finish ..) w.slice n) (h.finish ..)

theorem Fails.entryFault (h : Fails s t) (n pos : Nat) (f : TFault) : Fails s (t.entryFault n pos f) := by
  unfold State.entryFault State.entryFail
  split
  · exact ((h.dropItemOf ..).failOp ..).settleOp ..
  · split
    · exact (h.dropItemOf ..).failRdvS ..
    · exact .ite (h.collFault ..) (h.failEntry ..)

end

/-- An entry that fails has ended. -/
theorem State.recvEntry_failEntry (s : State) (n pos : Nat) (c : Comp) (detail : Nat) : (s.failEntry n pos c detail).recvEntry n pos = none := by
  unfold State.failEntry
  split
  · assumption
  · next w _ _ =>
    have ended := State.recvEntry_finish n pos c 0 detail 0 false s
    split
    · exact (Fails.stopStarting (.refl _) w.slice n).ended n pos ended
    · exact ended

end Sys2Proof.Machine
end

section
/-! The look-aside buffer, walks and pending misses (family 12, R366–R386). -/

namespace Sys2Proof.Machine

/-! Loads (R369) -/

section
variable {s t u : State}

theorem State.tlbWays_setWays_listed (s : State) (n : Nat) {l : List TSlot} (some_ : l ≠ []) : (s.setWays n l).tlbWays n = l :=
  Table.get_set_listed (d := []) s.trans.tlb n some_

theorem State.tlbWays_setWays_other (s : State) {n m : Nat} (l : List TSlot) (other : m ≠ n) : (s.setWays n l).tlbWays m = s.tlbWays m :=
  Table.get_set_other [] s.trans.tlb l other

/-- Whether a slot can be loaded is a matter of the buffer alone. -/
theorem State.tlbPut_isSome (same : t.trans.tlb = s.trans.tlb) (x : TSlot) : (t.tlbPut x).isSome = (s.tlbPut x).isSome := by
  have ways : ∀ n, t.tlbWays n = s.tlbWays n := fun n => by rw [State.tlbWays, same, ← State.tlbWays]
  simp only [State.tlbPut, ways]
  (repeat' split) <;> rfl

/-- A loaded slot is the most recently used of its set, and the rest of the device stands. -/
theorem State.tlbPut_loaded {x : TSlot} (loads : s.tlbPut x = some u) :
    (u.tlbWays (tlbSet x.slice x.stage x.contig x.page)).head? = some x ∧ ∃ tlb, u = s.updTrans (fun t => { t with tlb := tlb }) := by
  have put : ∀ l, (s.setWays (tlbSet x.slice x.stage x.contig x.page) (x :: l)).tlbWays (tlbSet x.slice x.stage x.contig x.page) = x :: l :=
    fun l => State.tlbWays_setWays_listed s _ (by simp)
  unfold State.tlbPut at loads
  dsimp only at loads
  split at loads
  · cases loads
  · split at loads <;> (cases loads; exact ⟨by rw [put]; rfl, _, rfl⟩)

/-- An unpinned slot can always be loaded. -/
theorem State.tlbPut_unpinned (s : State) {x : TSlot} (unpinned : x.pin = false) : ∃ u, s.tlbPut x = some u := by
  unfold State.tlbPut
  dsimp only
  rw [if_neg (by simp [unpinned])]
  split <;> exact ⟨_, rfl⟩

end

section
variable {s : State} {q : Req} {role : Role} {v : Image}

/-- The slot of a TLB_LOAD. -/
def loadSlot (v : Image) : TSlot :=
  slotOf (fldN v 127 120) (fldN v 119 118) (v.extractLsb' 0 64 : BitVec 64) (fldN v 99 64) (bit v 117)

/-- An accepted TLB_LOAD makes its slot the most recently used of its set (R369, R382). -/
theorem State.tlbLoad_heads (accepted : s.mayWrite q role R.tlbLoad 0 0 v = true)
    (may : s.mayStage role (fldN v 127 120) (fldN v 119 118) = true) (good : s.tlbLoadBad v = false)
    (fits : (s.tlbPut (loadSlot v)).isSome = true) : ∃ t, exec (.tlbLoad q v) s = .next t
      ∧ (t.tlbWays (tlbSet (loadSlot v).slice (loadSlot v).stage (loadSlot v).contig (loadSlot v).page)).head? = some (loadSlot v) := by
  obtain ⟨b, a, au, an, sf, served, -⟩ := State.dictRunR_done accepted
    (fun role s => (fldN v 119 118 == 1 || fldN v 119 118 == 2) && !s.mayStage role (fldN v 127 120) (fldN v 119 118))
    (fun s => if s.tlbLoadBad v then some .outOfRange else if (s.tlbPut (loadSlot v)).isNone then some .tableFull else none)
    (fun s => ((s.tlbPut (loadSlot v)).getD s, some .ok)) (fun _ => false)
    (fun b a => by
      have may' : (s.taken b a s.mgmt.audit s.mgmt.auditNext s.mgmt.segFree).mayStage role (fldN v 127 120) (fldN v 119 118) = true := may
      rw [may', Bool.not_true, Bool.and_false])
    (fun _ _ => rfl)
    (fun b a au an sf => by
      have good' : (s.taken b a au an sf).tlbLoadBad v = false := good
      have fits' : ((s.taken b a au an sf).tlbPut (loadSlot v)).isSome = true := (State.tlbPut_isSome (s := s) (t := s.taken b a au an sf) rfl _).trans fits
      rw [good', if_neg Bool.false_ne_true, if_neg (by rw [Option.isNone_eq_false_iff.2 fits']; exact Bool.false_ne_true)])
  refine ⟨_, rfl, ?_⟩
  generalize stored : (s.taken b a au an sf).storeVal R.tlbLoad 0 0 v = u at served
  have tlb : u.trans.tlb = s.trans.tlb := by rw [← stored, State.storeVal_stored (by decide)]; rfl
  obtain ⟨w, loads⟩ := Option.isSome_iff_exists.1 ((State.tlbPut_isSome tlb _).trans fits)
  have heads := (State.tlbPut_loaded loads).1
  rw [loads, Option.getD_some] at served
  unfold State.tlbWays at heads ⊢
  exact served.trans_.symm ▸ heads

end

/-! Invalidation (R384–R386) -/

/-- From `s` to `t` no slot has been loaded. -/
structure LoadsNone (s t : State) : Prop where
  held : ∀ n, ∀ x ∈ t.tlbWays n, x ∈ s.tlbWays n

section
variable {s t u : State}

theorem LoadsNone.refl (s : State) : LoadsNone s s := ⟨fun _ _ h => h⟩

theorem LoadsNone.of_tlb (h : LoadsNone s t) (same : u.trans.tlb = t.trans.tlb) : LoadsNone s u := by
  refine ⟨fun n x member => h.held n x ?_⟩
  rwa [State.tlbWays, same, ← State.tlbWays] at member

theorem LoadsNone.of_trans (h : LoadsNone s t) (same : u.trans = t.trans) : LoadsNone s u := h.of_tlb (congrArg Trans.tlb same)

theorem LoadsNone.foldl {β : Type} {f : State → β → State} (keeps : ∀ t b, LoadsNone s t → LoadsNone s (f t b)) (l : List β)
    (h : LoadsNone s t) : LoadsNone s (l.foldl f t) :=
  List.foldlRecOn (motive := fun t => LoadsNone s t) l f h fun t ht b _ => keeps t b ht

theorem LoadsNone.fails (h : LoadsNone s t) (h' : Fails t u) : LoadsNone s u := h.of_trans h'.trans

/-- A lookup that hits changes the order of a set alone. -/
theorem State.tlbFind_mem {sl stage x n : Nat} {y : TSlot} (found : s.tlbFind sl stage x = some (n, y)) : y ∈ s.tlbWays n := by
  obtain ⟨c, -, same⟩ := List.exists_of_findSome?_eq_some found
  obtain ⟨z, first, pair⟩ := Option.map_eq_some_iff.1 same
  cases pair
  exact List.mem_of_find?_eq_some first

theorem LoadsNone.setWays (h : LoadsNone s t) (n : Nat) {l : List TSlot} (fewer : ∀ x ∈ l, x ∈ t.tlbWays n) (some_ : l ≠ []) :
    LoadsNone s (t.setWays n l) := by
  refine ⟨fun m x member => h.held m x ?_⟩
  by_cases own : m = n
  · subst own
    rw [State.tlbWays_setWays_listed _ _ some_] at member
    exact fewer x member
  · rwa [State.tlbWays_setWays_other _ _ own] at member

theorem LoadsNone.tlbLookup (h : LoadsNone s t) (sl stage x : Nat) : LoadsNone s (t.tlbLookup sl stage x).1 := by
  unfold State.tlbLookup
  split
  · exact h.of_trans rfl
  · next n y found =>
    refine h.setWays n (fun z member => ?_) (by simp)
    rcases List.mem_cons.1 member with rfl | rest
    · exact State.tlbFind_mem found
    · exact List.mem_of_mem_erase rest

theorem State.tfault_trans (s : State) (a : Access) (stage lv cause s1 x : Nat) : (s.tfault a stage lv cause s1 x).1.trans = s.trans := by
  unfold State.tfault
  dsimp only
  split
  · exact (congrArg State.trans (State.sliceEvent_offHost ..) :)
  · rfl

theorem LoadsNone.tfault (h : LoadsNone s t) (a : Access) (stage lv cause s1 x : Nat) : LoadsNone s (t.tfault a stage lv cause s1 x).1 :=
  h.of_trans (State.tfault_trans ..)

theorem LoadsNone.sliceEvent (h : LoadsNone s t) (sl ty src detail : Nat) : LoadsNone s (t.sliceEvent sl ty src detail) :=
  h.of_trans (congrArg State.trans (State.sliceEvent_offHost ..) :)

theorem LoadsNone.memFault (h : LoadsNone s t) (a : Nat) : LoadsNone s (t.memFault a) := by
  unfold State.memFault
  split <;> exact h.of_trans rfl

theorem LoadsNone.trackMiss (h : LoadsNone s t) (who : Who) : LoadsNone s (t.trackMiss who) := by
  unfold State.trackMiss
  split <;> exact h.of_trans rfl

theorem State.walkRead_trans (s : State) (w : Walk) (bus : Nat) : (s.walkRead w bus).trans = s.trans := by
  unfold State.walkRead
  exact (congrArg State.trans (State.hostReadN_offHost ..) :)

theorem LoadsNone.walkRead (h : LoadsNone s t) (w : Walk) (bus : Nat) : LoadsNone s (t.walkRead w bus) :=
  h.of_trans (State.walkRead_trans ..)

theorem LoadsNone.step2 (h : LoadsNone s t) (w : Walk) : LoadsNone s (t.step2 w).1 := by
  unfold State.step2
  dsimp only
  split
  · exact h
  · exact h.walkRead ..

theorem LoadsNone.ite_fst {γ : Type} {c : Prop} [Decidable c] {a b : State × γ} (ha : LoadsNone s a.1) (hb : LoadsNone s b.1) :
    LoadsNone s (if c then a else b).1 := by
  split
  · exact ha
  · exact hb

/-- What is made of the read of a stage-2 walk's next entry. -/
theorem LoadsNone.step2_then {γ : Type} (h : LoadsNone s t) (w : Walk) {f : State → Nat → State × γ} {g : State → State × γ}
    (bad : ∀ u c, LoadsNone s u → LoadsNone s (f u c).1) (good : ∀ u, LoadsNone s u → LoadsNone s (g u).1) :
    LoadsNone s (match t.step2 w with | (u, some c) => f u c | (u, none) => g u).1 := by
  have stepped := h.step2 w
  generalize t.step2 w = r at stepped
  obtain ⟨u, c⟩ := r
  cases c with
  | none => exact good u stepped
  | some c => exact bad u c stepped

theorem LoadsNone.trapMiss (h : LoadsNone s t) (who : Who) (a : Access) (stage x s1 : Nat) : LoadsNone s (t.trapMiss who a stage x s1).1 := by
  unfold State.trapMiss
  split
  · exact h.of_tlb rfl
  · split
    · exact h
    · refine LoadsNone.sliceEvent ?_ ..
      exact h.of_tlb rfl

theorem LoadsNone.miss2 (h : LoadsNone s t) (who : Who) (a : Access) (x s1 : Nat) : LoadsNone s (t.miss2 who a x s1).1 := by
  unfold State.miss2
  split
  · split
    · exact h.tfault ..
    · exact h.trapMiss ..
  · split
    · dsimp only
      split
      · exact h
      · exact h.of_tlb rfl
    · dsimp only
      refine .ite_fst h (.step2_then h _ (fun u c hu => ?_) (fun u hu => ?_))
      · exact hu.tfault ..
      · exact hu.of_tlb rfl

theorem LoadsNone.xlate2 (h : LoadsNone s t) (who : Who) (a : Access) (x s1 : Nat) : LoadsNone s (t.xlate2 who a x s1).1 := by
  have pools : ∀ (u : State) (bus : Nat), LoadsNone s u → LoadsNone s (if !u.serviceMode then (u, XRes.hit bus)
      else if !u.inPool a.slice bus then ((u.tfault a 2 4 1 s1 x).1, .fault (u.tfault a 2 4 1 s1 x).2)
      else if u.memReady bus then (u, .hit bus)
      else ((u.tfault a 2 4 10 s1 x).1.memFault bus, .fault (u.tfault a 2 4 10 s1 x).2)).1 := fun u bus hu =>
    .ite_fst hu (.ite_fst (hu.tfault ..) (.ite_fst hu ((hu.tfault ..).memFault _)))
  unfold State.xlate2
  refine .ite_fst (h.tfault ..) (.ite_fst (pools t x h) (.ite_fst (h.tfault ..) ?_))
  have looked := h.tlbLookup a.slice 2 x
  generalize t.tlbLookup a.slice 2 x = r at looked
  obtain ⟨u, y⟩ := r
  cases y with
  | none => exact (looked.trackMiss who).miss2 ..
  | some y =>
    dsimp only
    split
    · exact looked.tfault ..
    · exact pools u _ looked

theorem LoadsNone.step1 (h : LoadsNone s t) (w : Walk) : LoadsNone s (t.step1 w).1 := by
  unfold State.step1
  refine .ite_fst (h.tfault ..) ?_
  have crossed := h.xlate2 (.walk w.id) w.acc (w.base + 8 * walkIndex w.ia w.lv) w.lv
  generalize t.xlate2 (.walk w.id) w.acc (w.base + 8 * walkIndex w.ia w.lv) w.lv = r at crossed
  obtain ⟨u, y⟩ := r
  cases y with
  | hit bus => exact crossed.walkRead ..
  | _ => exact crossed

theorem LoadsNone.endWaiters (h : LoadsNone s t) (ws : List (Who × Access)) (stage lv cause s1 x : Nat) :
    LoadsNone s (t.endWaiters ws stage lv cause s1 x) := by
  unfold State.endWaiters
  refine .foldl (fun u w hu => ?_) _ h
  split
  · split
    · exact hu
    · dsimp only
      refine .foldl (fun v y hv => ?_) _ ?_
      · exact (hv.tfault ..).of_tlb rfl
      · exact hu.of_tlb rfl
  · exact (hu.tfault ..).of_tlb rfl

theorem LoadsNone.walkFault (h : LoadsNone s t) (w : Walk) (cause lv : Nat) : LoadsNone s (t.walkFault w cause lv) := by
  unfold State.walkFault
  refine LoadsNone.endWaiters ?_ ..
  exact h.of_tlb rfl

/-- A walk that starts again loads nothing. -/
theorem LoadsNone.restartWalk (h : LoadsNone s t) (w : Walk) : LoadsNone s (t.restartWalk w) := by
  unfold State.restartWalk
  extract_lets id u v u'
  have moved : LoadsNone s u' := h.of_tlb rfl
  split
  · have stepped := moved.step1 v
    generalize u'.step1 v = r at stepped
    obtain ⟨x, y⟩ := r
    cases y with
    | fault f =>
      dsimp only
      refine .foldl (fun z y hz => ?_) _ ?_
      · exact hz.of_tlb rfl
      · exact stepped.of_tlb rfl
    | _ => exact stepped.of_tlb rfl
  · have stepped := moved.step2 v
    generalize u'.step2 v = r at stepped
    obtain ⟨x, y⟩ := r
    cases y with
    | none => exact stepped
    | some c => exact stepped.walkFault ..

/-- The accesses that have ended are delivered without a load. -/
theorem LoadsNone.deliverEnded (h : LoadsNone s t) : LoadsNone s t.deliverEnded := by
  unfold State.deliverEnded
  refine .foldl (fun u e hu => ?_) _ h
  split
  · refine LoadsNone.fails ?_ ((Fails.refl _).entryFault ..)
    exact hu.of_tlb rfl
  · exact hu

end

/-! Slots are removed (R384) -/

/-- What is left of the sets once slots have been removed from some. -/
theorem State.tlbWays_removed (p : TSlot → Bool) (keys : List Nat) {s : State} (rising : Table.risingFrom none s.trans.tlb = true) (n : Nat) :
    (keys.foldl (fun s n => s.setWays n ((s.tlbWays n).filter (fun t => !p t))) s).tlbWays n
      = if n ∈ keys then (s.tlbWays n).filter (fun t => !p t) else s.tlbWays n := by
  induction keys generalizing s with
  | nil => rfl
  | cons k keys ih =>
    have put : ∀ m, (s.setWays k ((s.tlbWays k).filter (fun t => !p t))).tlbWays m
        = if m = k then (s.tlbWays k).filter (fun t => !p t) else s.tlbWays m := by
      intro m
      split
      · next own => subst own; exact Table.get_set_rising [] _ _ rising
      · next other => exact State.tlbWays_setWays_other s _ other
    rw [List.foldl_cons, ih (Table.rising_set [] _ _ rising), put]
    by_cases own : n = k
    · subst own
      simp
    · simp [own]

/-- A slot that is left is none of those to be removed. -/
theorem State.tlbRemove_left {s : State} (rising : Table.risingFrom none s.trans.tlb = true) (p : TSlot → Bool) {n : Nat} {x : TSlot}
    (left : x ∈ (s.tlbRemove p).tlbWays n) : p x = false := by
  rw [State.tlbRemove, State.tlbWays_removed p _ rising] at left
  split at left
  · simpa using (List.mem_filter.1 left).2
  · next unlisted =>
    have none_ : s.tlbWays n = [] := Table.get_unlisted [] fun e member own => unlisted (List.mem_map.2 ⟨e, member, own⟩)
    rw [none_] at left
    exact absurd left List.not_mem_nil

/-- After an invalidation a slot of its scope is pinned, and the scope spares those (R384). -/
theorem State.invalidate_left {s : State} (rising : Table.risingFrom none s.trans.tlb = true) (scope : InvalScope) {n : Nat} {x : TSlot}
    (left : x ∈ ((s.invalidate scope).deliverEnded).tlbWays n)
    (covered : scope.has x.slice x.stage x.page (2 ^ contigLog x.contig) = true) : x.pin = true ∧ scope.pinned = false := by
  have loads : LoadsNone (s.tlbRemove (fun t => scope.has t.slice t.stage t.page (2 ^ contigLog t.contig) && (scope.pinned || !t.pin)))
      (s.invalidate scope).deliverEnded := by
    refine LoadsNone.deliverEnded ?_
    unfold State.invalidate
    exact LoadsNone.of_tlb (.foldl (fun u w hu => hu.restartWalk w) _ (.refl _)) rfl
  have spared := State.tlbRemove_left rising _ (loads.held n x left)
  simpa [covered, and_comm] using spared

end Sys2Proof.Machine
end

section
/-! Pending misses, walks and the commands of translation (family 12; O37). -/

namespace Sys2Proof.Machine

/-! What an answer leaves of the engines -/

section
variable (s : State)

theorem State.msix_engines (f v sl key : Nat) : (s.msix f v sl key).host.engines = s.host.engines := by
  unfold State.msix State.request State.wake State.exitL1
  dsimp only
  (repeat' split) <;> rfl

theorem State.sendFdp_engines (p : Path) (r : FdpResp) : (s.sendFdp p r).host.engines = s.host.engines := by
  unfold State.sendFdp
  cases p with
  | mailbox k l =>
    dsimp only
    (repeat' split) <;> first | exact State.msix_engines .. | rfl
  | _ => rfl

theorem State.answer_engines (q : Req) (obj sub : Nat) (f : Fdp) (body : List Byte) : (s.answer q obj sub f body).host.engines = s.host.engines := by
  unfold State.answer
  dsimp only
  split <;> exact State.sendFdp_engines ..

end

/-! Pending misses (R375, R376) -/

section
variable {s : State} {n pos : Nat}

/-- No walk waits for a free miss: none goes on. -/
theorem State.freedMiss_none (busy : s.trans.walks.all (fun w => decide (w.on ≠ .free)) = true) : s.freedMiss = s := by
  have none_ : s.trans.walks.filter (fun w => w.on = .free) = [] := by
    refine List.filter_eq_nil_iff.2 fun w member free => ?_
    exact of_decide_eq_true (List.all_eq_true.1 busy w member) (of_decide_eq_true free)
  unfold State.freedMiss
  rw [none_]
  rfl

/-- An entry that is none of an operation, of a rendezvous or of a collective. -/
structure State.Plain (s : State) (n pos : Nat) : Prop where
  rop   : s.rop n pos = none
  rdvS  : s.remote.peers.all (fun p => p.rdvS.all (fun r => !(r.wq == n && r.pos == pos))) = true
  colls : s.colls.ctx.all (fun c => c.2.members.all (fun m => !(m.wq == n && m.pos == pos))) = true

theorem State.Plain.of_same {t : State} (h : s.Plain n pos) (remote : t.remote = s.remote) (colls : t.colls = s.colls) : t.Plain n pos :=
  ⟨by rw [State.rop, remote]; exact h.rop, by rw [remote]; exact h.rdvS, by rw [colls]; exact h.colls⟩

/-- A fault of such an entry's accesses fails the entry (R371, R378). -/
theorem State.Plain.entryFault (h : s.Plain n pos) (f : TFault) : s.entryFault n pos f = s.failEntry n pos f.local f.detail := by
  have noRdv : s.remote.peers.findSome? (fun p => (p.rdvS.find? (fun r => r.wq = n ∧ r.pos = pos)).map (fun r => (p, r))) = none := by
    refine List.findSome?_eq_none_iff.2 fun p member => Option.map_eq_none_iff.2 (List.find?_eq_none.2 fun r sent => ?_)
    have other := List.all_eq_true.1 (List.all_eq_true.1 h.rdvS p member) r sent
    rw [decide_eq_true_eq]
    rintro ⟨own, at_⟩
    simp [own, at_] at other
  have noColl : ¬ s.colls.ctx.any (fun c => c.2.members.any (fun m => m.wq = n ∧ m.pos = pos)) = true := by
    intro some_
    obtain ⟨c, member, some'⟩ := List.any_eq_true.1 some_
    obtain ⟨m, joined, own⟩ := List.any_eq_true.1 some'
    have other := List.all_eq_true.1 (List.all_eq_true.1 h.colls c member) m joined
    obtain ⟨own, at_⟩ := of_decide_eq_true own
    simp [own, at_] at other
  unfold State.entryFault State.entryFail
  rw [h.rop]
  dsimp only
  rw [noRdv]
  exact if_neg noColl

/-- What a translation fault leaves: the remote side and the collectives stand, and no entry comes back. -/
theorem State.tfault_leaves (s : State) (a : Access) (stage lv cause s1 x : Nat) :
    (s.tfault a stage lv cause s1 x).1.remote = s.remote ∧ (s.tfault a stage lv cause s1 x).1.colls = s.colls := by
  unfold State.tfault
  dsimp only
  split
  · exact ⟨(congrArg State.remote (State.sliceEvent_offHost ..) :), (congrArg State.colls (State.sliceEvent_offHost ..) :)⟩
  · exact ⟨rfl, rfl⟩

/-- The device once an access that waited has ended with a fault. -/
def State.endedOne (s : State) (n pos : Nat) (a : Access) (stage cause x : Nat) : State :=
  let r := s.tfault a stage 0 cause 0 x
  r.1.updTrans (fun t => { t with ended := t.ended ++ [(.item n pos, a, r.2)] })

/-- The one access that has ended fails its entry (R375, R376). -/
theorem State.deliverEnded_one (plain : s.Plain n pos) (none_ : s.trans.ended = []) (a : Access) (stage cause x : Nat) :
    (s.endedOne n pos a stage cause x).deliverEnded.trans = s.trans
      ∧ (s.endedOne n pos a stage cause x).deliverEnded.recvEntry n pos = none := by
  unfold State.endedOne
  dsimp only
  have trans := s.tfault_trans a stage 0 cause 0 x
  obtain ⟨remote, colls⟩ := s.tfault_leaves a stage 0 cause 0 x
  generalize s.tfault a stage 0 cause 0 x = r at trans remote colls
  obtain ⟨u, f⟩ := r
  dsimp only at trans remote colls ⊢
  have ended : u.trans.ended = [] := by rw [trans]; exact none_
  have delivered : (u.updTrans (fun t => { t with ended := t.ended ++ [(.item n pos, a, f)] })).deliverEnded = u.entryFault n pos f := by
    have back : (u.updTrans (fun t => { t with ended := t.ended ++ [(.item n pos, a, f)] })).updTrans
        (fun t => { t with ended := t.ended.erase (.item n pos, a, f) }) = u := by
      have shape : ∀ t : Trans, t.ended = [] → { u with trans := { t with ended := (t.ended ++ [(Who.item n pos, a, f)]).erase (.item n pos, a, f) } }
          = { u with trans := t } := by
        rintro ⟨⟩ rfl
        simp
      exact shape u.trans ended
    unfold State.deliverEnded
    rw [show (u.updTrans (fun t => { t with ended := t.ended ++ [(.item n pos, a, f)] })).trans.ended = [(.item n pos, a, f)] by
      simp [State.updTrans, ended]]
    rw [List.foldl_cons, List.foldl_nil]
    dsimp only
    rw [back]
  have plain' := plain.of_same remote colls
  rw [delivered, plain'.entryFault]
  exact ⟨((Fails.refl u).failEntry ..).trans.trans trans, State.recvEntry_failEntry ..⟩

/-- The end of a miss for which one entry waits: the miss goes, and the entry has ended (R375, R376). -/
theorem State.endMiss_one {m : Miss} {a : Access} (waits : m.waiters = [(.item n pos, a)]) (none_ : s.trans.ended = [])
    (busy : s.trans.walks.all (fun w => decide (w.on ≠ .free)) = true) (plain : s.Plain n pos) (cause : Nat) :
    (s.endMiss m cause).trans.misses = s.trans.misses.filter (fun x => x.id ≠ m.id) ∧ (s.endMiss m cause).recvEntry n pos = none := by
  have ended : ∃ x, (s.updTrans (fun t => { t with misses := t.misses.filter (fun x => x.id ≠ m.id) })).endWaiters m.waiters m.stage 0 cause 0 m.ia
      = (s.updTrans (fun t => { t with misses := t.misses.filter (fun x => x.id ≠ m.id) })).endedOne n pos a m.stage cause x := by
    rw [waits]
    exact ⟨_, rfl⟩
  obtain ⟨x, ended⟩ := ended
  obtain ⟨trans, gone⟩ := State.deliverEnded_one (s := s.updTrans (fun t => { t with misses := t.misses.filter (fun x => x.id ≠ m.id) }))
    (plain.of_same rfl rfl) none_ a m.stage cause x
  unfold State.endMiss
  dsimp only
  rw [ended]
  rw [State.freedMiss_none (by rw [trans]; exact busy)]
  exact ⟨by rw [trans]; rfl, gone⟩

/-- A miss for which nothing waits is retried without a trace (R375). -/
theorem State.retryMiss_alone {m : Miss} (alone : m.waiters = []) (none_ : s.trans.ended = [])
    (busy : s.trans.walks.all (fun w => decide (w.on ≠ .free)) = true) :
    s.retryMiss m = s.updTrans (fun t => { t with misses := t.misses.filter (fun x => x.id ≠ m.id) }) := by
  unfold State.retryMiss
  dsimp only
  rw [alone]
  have resumed : (s.updTrans (fun t => { t with misses := t.misses.filter (fun x => x.id ≠ m.id) })).resumeWalks []
      = s.updTrans (fun t => { t with misses := t.misses.filter (fun x => x.id ≠ m.id) }) := rfl
  rw [resumed, State.freedMiss_none (by exact busy), State.deliverEnded_nothing (by exact none_)]

end

/-! TRANS_RETRY (R375, R383) -/

section
variable {s : State} {q : Req} {role : Role} {v : Image} {m : Miss}

/-- The device once the request of an accepted TRANS_RETRY is taken and its value stored. -/
def State.retryTaken (s : State) (v : Image) (b : List (Nat × List Byte)) (a : List Arrived) (au : Table AuditRec) (an sf : Nat) : State :=
  (s.taken b a au an sf).storeVal R.transRetry 0 0 v

theorem State.retryTaken_leaves (s : State) (v : Image) (b : List (Nat × List Byte)) (a : List Arrived) (au : Table AuditRec) (an sf : Nat) :
    (s.retryTaken v b a au an sf).trans = s.trans ∧ (s.retryTaken v b a au an sf).host = s.host
      ∧ (s.retryTaken v b a au an sf).remote = s.remote ∧ (s.retryTaken v b a au an sf).colls = s.colls := by
  unfold State.retryTaken
  rw [State.storeVal_stored (by decide)]
  exact ⟨rfl, rfl, rfl, rfl⟩

/-- The pending miss that a TRANS_RETRY names. -/
def State.missNamed (s : State) (v : Image) : Option Miss := s.trans.misses.find? (fun m => m.id = fldN v 15 0)

/-- An accepted TRANS_RETRY retries its miss or ends it, and is answered. -/
theorem State.retryWrite_done (accepted : s.mayWrite q role R.transRetry 0 0 v = true) (pending : s.missNamed v = some m)
    (may : s.mayStage role m.slice m.stage = true) (outcome : fldN v 31 30 = 1 ∨ fldN v 31 30 = 2) : ∃ b a au an sf obj sub,
      s.retryWrite q v = (if fldN v 31 30 = 1 then (s.retryTaken v b a au an sf).retryMiss m
        else (s.retryTaken v b a au an sf).endMiss m 12).answer q obj sub .ok := by
  obtain ⟨b, a, -, done⟩ := State.writeRun_judged accepted (fun _ _ _ => {
    deny := fun role s => match s.missNamed v with | some m => !s.mayStage role m.slice m.stage | none => false
    chk := fun s => if (s.missNamed v).isNone ∨ (fldN v 31 30 ≠ 1 ∧ fldN v 31 30 ≠ 2) then some .outOfRange else none
    eff := fun s => match s.missNamed v with
      | some m => (if fldN v 31 30 = 1 then s.retryMiss m else s.endMiss m 12, some .ok)
      | none => (s, some .ok) })
    (fun b a => by
      have found : (s.taken b a s.mgmt.audit s.mgmt.auditNext s.mgmt.segFree).missNamed v = some m := pending
      have may' : (s.taken b a s.mgmt.audit s.mgmt.auditNext s.mgmt.segFree).mayStage role m.slice m.stage = true := may
      simp only [found, may', Bool.not_true])
    (fun _ _ => rfl)
  obtain ⟨au, an, sf, written⟩ := done fun au an sf => by
    have found : (s.taken b a au an sf).missNamed v = some m := pending
    dsimp only
    rw [found]
    exact if_neg (by simp; omega)
  have found : (s.retryTaken v b a au an sf).missNamed v = some m := by
    rw [State.missNamed, (s.retryTaken_leaves v b a au an sf).1]
    exact pending
  unfold State.retryTaken at found ⊢
  refine ⟨b, a, au, an, sf, R.transRetry.index 0, R.transRetry.sub + 0, (show s.retryWrite q v = _ from written).trans ?_⟩
  dsimp only
  rw [found]
  exact State.mirrored_unmirrored (by decide) ..

/-- A miss for which nothing waits ends with OUTCOME RETRY, without a trace. -/
theorem State.transRetry_retries (accepted : s.mayWrite q role R.transRetry 0 0 v = true) (pending : s.missNamed v = some m)
    (may : s.mayStage role m.slice m.stage = true) (outcome : fldN v 31 30 = 1) (alone : m.waiters = []) (none_ : s.trans.ended = [])
    (busy : s.trans.walks.all (fun w => decide (w.on ≠ .free)) = true) :
    (s.retryWrite q v).trans = { s.trans with misses := s.trans.misses.filter (fun x => x.id ≠ m.id) }
      ∧ (s.retryWrite q v).host.engines = s.host.engines := by
  obtain ⟨b, a, au, an, sf, obj, sub, written⟩ := State.retryWrite_done accepted pending may (.inl outcome)
  obtain ⟨trans, host, -, -⟩ := s.retryTaken_leaves v b a au an sf
  generalize s.retryTaken v b a au an sf = u at written trans host
  rw [if_pos outcome, State.retryMiss_alone alone (by rw [trans]; exact none_) (by rw [trans]; exact busy)] at written
  rw [written]
  constructor
  · rw [(Served.answer ..).1.trans_, ← trans]
    rfl
  · rw [State.answer_engines, ← host]
    rfl

/-- A miss for which one entry waits ends with OUTCOME FAULT, with the entry. -/
theorem State.transRetry_ends {n pos : Nat} {a : Access} (accepted : s.mayWrite q role R.transRetry 0 0 v = true)
    (pending : s.missNamed v = some m) (may : s.mayStage role m.slice m.stage = true) (outcome : fldN v 31 30 = 2)
    (waits : m.waiters = [(.item n pos, a)]) (none_ : s.trans.ended = [])
    (busy : s.trans.walks.all (fun w => decide (w.on ≠ .free)) = true) (plain : s.Plain n pos) :
    (s.retryWrite q v).trans.misses = s.trans.misses.filter (fun x => x.id ≠ m.id) ∧ (s.retryWrite q v).recvEntry n pos = none := by
  obtain ⟨b, c, au, an, sf, obj, sub, written⟩ := State.retryWrite_done accepted pending may (.inr outcome)
  obtain ⟨trans, -, remote, colls⟩ := s.retryTaken_leaves v b c au an sf
  generalize s.retryTaken v b c au an sf = u at written trans remote colls
  rw [if_neg (by omega)] at written
  obtain ⟨misses, gone⟩ := State.endMiss_one (s := u) waits (by rw [trans]; exact none_) (by rw [trans]; exact busy)
    (plain.of_same remote colls) 12
  rw [written]
  constructor
  · rw [(Served.answer ..).1.trans_, misses, trans]
  · rw [State.recvEntry_of_wqs (State.wqs_of_queueSide (State.answer_queueSide ..)), gone]

end

/-! Table reads (R373) -/

section
variable (s : State)

theorem State.request_reads (b : Burst) : (s.request b).host.reads = s.host.reads := by
  unfold State.request State.wake State.exitL1
  dsimp only
  (repeat' split) <;> rfl

theorem State.hostReadN_reads (b : Burst) (n off len : Nat) : (s.hostReadN b n off len).1.host.reads = s.host.reads := by
  induction n generalizing s b off len with
  | zero => rfl
  | succ n ih =>
    unfold State.hostReadN
    split
    · rfl
    · exact (ih ..).trans (State.request_reads ..)

theorem State.walkRead_reads (w : Walk) (bus : Nat) : (s.walkRead w bus).host.reads = s.host.reads := by
  unfold State.walkRead
  exact State.hostReadN_reads ..

end

section
variable {s : State} {w : Walk} {e : BitVec 64}

/-- The walk one level further, at the table that an entry names (R373). -/
def Walk.further (w : Walk) (e : BitVec 64) : Walk := { w with lv := w.lv + 1, base := 4096 * fldN e 51 12 }

/-- A valid entry of a level below 4 takes a stage-2 walk to its next read. -/
theorem State.walkGot_table (stage : w.stage = 2) (low : w.lv < 4) (valid : bit e 0 = true) (table : fldN e 11 1 = 0)
    (plain : s.serviceMode = false) : s.walkGot w e true
      = (s.walkRead (w.further e) ((w.further e).base + 8 * walkIndex (w.further e).ia (w.further e).lv)).putWalk (w.further e) := by
  unfold State.walkGot
  rw [if_neg (by simp), if_neg (by simp [valid]), if_pos low, if_neg (by simp [table])]
  simp only [stage, if_neg (show ¬ (2 = 1) by decide), State.step2, plain, Bool.false_eq_true, false_and, if_false]
  rw [show pteOa e * 4096 = 4096 * fldN e 51 12 from Nat.mul_comm ..]
  simp only [← stage]
  rfl

/-- A valid entry of level 4 loads its translation and ends the walk. -/
theorem State.walkGot_page (stage : w.stage = 2) (last : w.lv = 4) (valid : bit e 0 = true) (free : pteReserved e 2 = false)
    (aligned : pteMisaligned e (w.ia / 4096) = false) (alone : w.waiters = []) : s.walkGot w e true
      = ((s.tlbPut (slotOf w.acc.slice 2 e (w.ia / 4096) false)).getD s).updTrans
          (fun t => { t with walks := t.walks.filter (fun v => v.id ≠ w.id) }) := by
  unfold State.walkGot
  rw [if_neg (by simp), if_neg (by simp [valid]), if_neg (by omega), if_neg (by simp [stage, free]), if_neg (by simp [aligned]),
    if_neg (by simp [stage]), alone, stage]
  rfl

/-- The device once the read of a walk's entry has come back to its walk. -/
def State.walkReadTaken (s : State) (r : HostRead) (w : Walk) : State :=
  (s.updHost (fun h => { h with reads := h.reads.erase r })).otherItem
    ((s.updHost (fun h => { h with reads := h.reads.erase r })).homeFrom
      ((s.updHost (fun h => { h with reads := h.reads.erase r })).clusterMask w.acc.slice) 20) w.acc.slice costService

theorem State.walkRead'_comes {id : Nat} {r : HostRead} (read : s.host.reads.find? (fun r => r.owner = .walk id) = some r)
    (walk : s.trans.walks.find? (fun w => w.id = id ∧ w.on = .read) = some w) (e : BitVec 64) :
    s.walkRead' id e true = ((s.walkReadTaken r w).walkGot w e true).deliverEnded := by
  unfold State.walkRead'
  rw [read]
  dsimp only
  rw [show (s.updHost (fun h => { h with reads := h.reads.erase r })).trans.walks = s.trans.walks from rfl, walk]
  rfl

end

end Sys2Proof.Machine
end

section
/-! Translation (family 12): its statement. -/

namespace Sys2Proof.Machine

section
variable {s : State} {id : Nat} {e : BitVec 64} {r : HostRead} {w : Walk}

/-- A valid entry of a level below 4 takes a stage-2 walk to the table it names (R373). -/
theorem State.walkReadComplete_table (read : s.host.reads.find? (fun r => r.owner = .walk id) = some r)
    (walk : s.trans.walks.find? (fun w => w.id = id ∧ w.on = .read) = some w) (stage : w.stage = 2) (low : w.lv < 4)
    (valid : bit e 0 = true) (table : fldN e 11 1 = 0) (plain : s.serviceMode = false) (none_ : s.trans.ended = []) :
    ∃ t, exec (.walkReadComplete id e true) s = .next t ∧ t.host.reads = s.host.reads.erase r
      ∧ t.trans.walks = s.trans.walks.map (fun v => if v.id = w.id then w.further e else v) := by
  refine ⟨_, rfl, ?_⟩
  have reads : (s.walkReadTaken r w).host.reads = s.host.reads.erase r := rfl
  have trans : (s.walkReadTaken r w).trans = s.trans := rfl
  have plain' : (s.walkReadTaken r w).serviceMode = false := plain
  rw [State.walkRead'_comes read walk]
  generalize s.walkReadTaken r w = u at reads trans plain'
  rw [State.walkGot_table stage low valid table plain']
  have reads' := u.walkRead_reads (w.further e) ((w.further e).base + 8 * walkIndex (w.further e).ia (w.further e).lv)
  have trans' := u.walkRead_trans (w.further e) ((w.further e).base + 8 * walkIndex (w.further e).ia (w.further e).lv)
  generalize u.walkRead (w.further e) ((w.further e).base + 8 * walkIndex (w.further e).ia (w.further e).lv) = x at reads' trans'
  have ended : (x.putWalk (w.further e)).trans.ended = [] := (congrArg Trans.ended (trans'.trans trans)).trans none_
  rw [State.deliverEnded_nothing ended]
  exact ⟨reads'.trans reads, congrArg (fun t : Trans => t.walks.map (fun v : Walk => if v.id = w.id then w.further e else v)) (trans'.trans trans)⟩

/-- A valid entry of level 4 loads its translation and ends the walk (R369, R373). -/
theorem State.walkReadComplete_page (read : s.host.reads.find? (fun r => r.owner = .walk id) = some r)
    (walk : s.trans.walks.find? (fun w => w.id = id ∧ w.on = .read) = some w) (stage : w.stage = 2) (last : w.lv = 4)
    (valid : bit e 0 = true) (free : pteReserved e 2 = false) (aligned : pteMisaligned e (w.ia / 4096) = false) (alone : w.waiters = [])
    (none_ : s.trans.ended = []) :
    ∃ t, exec (.walkReadComplete id e true) s = .next t ∧ t.host.reads = s.host.reads.erase r
      ∧ t.trans.walks = s.trans.walks.filter (fun v => v.id ≠ w.id)
      ∧ (t.tlbWays (tlbSet w.acc.slice 2 (pteContig e) (slotOf w.acc.slice 2 e (w.ia / 4096) false).page)).head?
        = some (slotOf w.acc.slice 2 e (w.ia / 4096) false) := by
  refine ⟨_, rfl, ?_⟩
  have reads : (s.walkReadTaken r w).host.reads = s.host.reads.erase r := rfl
  have trans : (s.walkReadTaken r w).trans = s.trans := rfl
  rw [State.walkRead'_comes read walk]
  generalize s.walkReadTaken r w = u at reads trans
  rw [State.walkGot_page stage last valid free aligned alone]
  obtain ⟨x, loads⟩ := u.tlbPut_unpinned (x := slotOf w.acc.slice 2 e (w.ia / 4096) false) rfl
  obtain ⟨heads, tlb, rfl⟩ := State.tlbPut_loaded loads
  rw [loads, Option.getD_some]
  rw [State.deliverEnded_nothing (by exact (congrArg Trans.ended trans).trans none_)]
  have walks : u.trans.walks.filter (fun v => v.id ≠ w.id) = s.trans.walks.filter (fun v => v.id ≠ w.id) := by rw [trans]
  exact ⟨reads, walks, heads⟩

end

/-- Settles O37: loads go to the front of their set; an invalidation removes the covered slots, and nothing that follows of it loads one;
a miss ends with the entry that waited for it, whose end no later step takes back; a walk goes on with the entry that it has read. -/
theorem translationsLoadInvalidateAndEnd : Obligations.TranslationsLoadInvalidateAndEnd := by
  unfold Obligations.TranslationsLoadInvalidateAndEnd
  refine ⟨?load, ?inval, ?invalDone, ?retry, ?retryFault, ?timeout, ?table, ?page⟩
  case load =>
    rintro s q role v sl st rfl rfl accepted may good fits
    exact State.tlbLoad_heads accepted may good fits
  case inval =>
    intro s q role v accepted stages device range may rising
    obtain ⟨b, a, au, an, sf, served, -⟩ := State.dictRunR_done accepted
      (fun role s => if fldN v 116 115 = 2 then role != .installer && role != .twin
        else (stagesOf (fldN v 119 118)).any (fun n => !s.mayStage role (fldN v 127 120) n))
      (fun _ => if fldN v 119 118 = 0 ∨ fldN v 116 115 = 3 ∨ (fldN v 116 115 = 1 ∧ fldN v 35 0 = 0) then some .outOfRange else none)
      (fun s => ((s.invalidate (invalScope v)).deliverEnded, none)) (fun _ => false)
      (fun b a => by
        rw [if_neg (by omega)]
        refine List.any_eq_false.2 fun n member => ?_
        have may' : (s.taken b a s.mgmt.audit s.mgmt.auditNext s.mgmt.segFree).mayStage role (fldN v 127 120) n = true :=
          List.all_eq_true.1 may n member
        rw [may', Bool.not_true]
        exact Bool.false_ne_true)
      (fun _ _ => rfl)
      (fun b a au an sf => if_neg (by
        rintro (none_ | device' | ⟨ranged, empty⟩)
        · exact stages none_
        · omega
        · exact range ranged empty))
    refine ⟨_, rfl, fun n x left covered => ?_⟩
    generalize stored : (s.taken b a au an sf).storeVal R.tlbInval 0 0 v = u at served
    have rising' : Table.risingFrom none u.trans.tlb = true := by rw [← stored, State.storeVal_stored (by decide)]; exact rising
    refine State.invalidate_left rising' (invalScope v) (n := n) (x := x) ?_ covered
    unfold State.tlbWays at left ⊢
    exact served.trans_ ▸ left
  case invalDone =>
    intro s fresh
    refine congrArg Host.Outcome.next (if_neg ?_)
    rw [Bool.not_eq_true, List.any_eq_false]
    intro b queued
    have own := List.all_eq_true.1 fresh b queued
    intro waits
    rw [waits] at own
    exact absurd own (by decide)
  case retry =>
    intro s q role v m accepted pending may outcome alone none_ busy
    obtain ⟨trans, engines⟩ := State.transRetry_retries accepted pending may outcome alone none_ busy
    exact ⟨_, rfl, (congrArg Trans.misses trans :), (congrArg Trans.walks trans :), engines⟩
  case retryFault =>
    rintro s q role v x m n pos a rfl accepted pending may waits none_ busy rop rdvS colls
    exact ⟨_, rfl, State.transRetry_ends accepted pending may (fldN_setFld_same v (by decide) (by decide) (by decide)) waits none_ busy
      ⟨rop, rdvS, colls⟩⟩
  case timeout =>
    intro s id n pos m a pending waits none_ busy rop rdvS colls
    obtain ⟨misses, gone⟩ := State.endMiss_one waits none_ busy ⟨rop, rdvS, colls⟩ 13
    refine ⟨s.endMiss m 13, congrArg Host.Outcome.next ?_, misses, gone⟩
    rw [pending]
  case table =>
    intro s id e r w read walk stage low valid table plain none_
    exact State.walkReadComplete_table read walk stage low valid table plain none_
  case page =>
    intro s id e r w read walk stage last valid free aligned alone none_
    exact State.walkReadComplete_page read walk stage last valid free aligned alone none_

end Sys2Proof.Machine
end

section
/-! Operations of a collective context (family 15, R451–R483): what sends, ends and aborts make of a context. -/

namespace Sys2Proof.Machine

/-! Contexts -/

section
variable (s : State) (n : Nat)

theorem State.coll_of_ctx {s t : State} (same : t.colls.ctx = s.colls.ctx) (n : Nat) : t.coll n = s.coll n := by
  unfold State.coll
  rw [same]

/-- A context in a state other than that of one never used reads back. -/
theorem State.coll_setColl {c : Coll} (used : c.st ≠ .idle) : (s.setColl n c).coll n = c :=
  Table.get_set_listed (d := ({} : Coll)) (v := c) s.colls.ctx n (fun same => used (congrArg Coll.st same))

/-- Any context reads back where contexts stand in the order of their keys. -/
theorem State.coll_setColl_rising {s : State} (rising : Table.risingFrom none s.colls.ctx = true) (c : Coll) : (s.setColl n c).coll n = c :=
  Table.get_set_rising ({} : Coll) n c rising

/-! Packets sent on tree edges, and entries that end -/

theorem State.collSend_ctx (p cmd off ext : Nat) (payload : List Byte) : (s.collSend n p cmd off ext payload).colls.ctx = s.colls.ctx := by
  unfold State.collSend
  split <;> rfl

theorem State.collSends_ctx {α : Type} (l : List α) (f : α → Nat) (cmd off ext : Nat) (payload : List Byte) :
    (l.foldl (fun s p => s.collSend n (f p) cmd off ext payload) s).colls.ctx = s.colls.ctx :=
  List.foldlRecOn (motive := fun t : State => t.colls.ctx = s.colls.ctx) l _ rfl fun _ same _ _ => (State.collSend_ctx ..).trans same

theorem Settles.colls {s t : State} (h : Settles s t) : t.colls = s.colls := (congrArg State.colls h.offHost :)

theorem State.collUnstage_ctx (c : Coll) : (s.collUnstage n c).colls.ctx = s.colls.ctx := by
  unfold State.collUnstage
  dsimp only
  split <;> rfl

theorem State.collAbortEntries_colls (c : Coll) : (s.collAbortEntries c).colls = s.colls := by
  unfold State.collAbortEntries
  refine List.foldlRecOn (motive := fun t : State => t.colls = s.colls) _ _ rfl fun u same m _ => ?_
  split
  · exact (Settles.finish m.wq m.pos _ _ _ _ _ (u.dropItemOf m.wq m.pos)).colls.trans same
  · exact same

/-- The end of the entries of committed epochs leaves the contexts. -/
theorem State.collSettle_ctx : s.collSettle.colls.ctx = s.colls.ctx := by
  unfold State.collSettle
  dsimp only
  refine List.foldlRecOn (motive := fun t : State => t.colls.ctx = s.colls.ctx) _ _ rfl fun u same e _ => ?_
  split
  · exact (congrArg Colls.ctx (Settles.finish e.wq e.pos _ _ _ _ _ u).colls).trans same
  · exact same

/-- An aborted context counts its attempt on and holds nothing of it (R477). -/
theorem State.coll_collAbort (cause port : Nat) (but : Option Nat) (own : Bool) : (s.collAbort n cause port but own).coll n
    = { st := .aborted, cause := cause, attempt := ((s.coll n).attempt + 1) % 256, last := (s.coll n).last } := by
  have aborted := (s.collUnstage n (s.coll n)).coll_setColl n
    (c := { st := .aborted, cause := cause, attempt := ((s.coll n).attempt + 1) % 256, last := (s.coll n).last }) nofun
  refine Eq.trans (State.coll_of_ctx ?_ n) aborted
  unfold State.collAbort State.collFlood State.collEvent
  dsimp only
  refine (congrArg (fun t : State => t.colls.ctx) (State.sliceEvent_offHost ..) :).trans ?_
  refine (State.collSends_ctx _ n _ id 0x43 0 _ []).trans ?_
  exact (congrArg Colls.ctx (State.collAbortEntries_colls (State.updHost _ _) _) :)

/-- A committed context is idle and has counted its epoch (R463). -/
theorem State.coll_collCommit {s : State} (rising : Table.risingFrom none s.colls.ctx = true) (overflow : Bool) (specific : Nat) :
    (s.collCommit n overflow specific).coll n = { st := .idle, cause := (s.coll n).cause, last := ((s.coll n).last + 1) % 2 ^ 24 } := by
  refine Eq.trans (State.coll_of_ctx ?_ n) (State.coll_setColl_rising n rising _)
  unfold State.collCommit
  dsimp only
  rw [State.collSettle_ctx]
  rfl

end

/-! Partials (R461, R462) -/

section
variable {s : State} {n : Nat}

/-- A pass of which nothing is kept sends nothing up. -/
theorem State.collRise_none (p : Nat) (data : Bool) (fuel : Nat) (empty : (if data then (s.coll n).data else (s.coll n).exps) = []) :
    State.collRise n p data (fuel + 1) s = s := by
  unfold State.collRise
  dsimp only
  rw [empty, List.find?_nil]
  exact ite_self _

theorem State.collRises_none (data : (s.coll n).data = []) (exps : (s.coll n).exps = []) : s.collRises n = s := by
  unfold State.collRises
  split
  · rw [State.collRise_none _ false 511 exps, State.collRise_none _ true 511 data]
  · rfl

/-- The state of a context in which one contributor of a segment of the data pass has been heard. -/
def Coll.heardFirst (c : Coll) (who j : Nat) (xs : List Nat) (now : Nat) : Coll :=
  { c with timer := now, data := [{ no := j, elems := xs, heard := [who] }] }

/-- The first contribution to a segment is kept while other contributors are outstanding (R461). -/
theorem State.collCombine_first {who j : Nat} {xs : List Nat} (empty : (s.coll n).data = [])
    (others : (s.contributors n).all (fun x => x == who) = false) :
    s.collCombine n who j true xs = s.setColl n ((s.coll n).heardFirst who j xs s.uptime) := by
  have outstanding : (s.setColl n ((s.coll n).heardFirst who j xs s.uptime)).collHeard n { no := j, elems := xs, heard := [who] } = false := by
    rw [← others]
    simp only [State.collHeard, List.contains_cons, List.contains_nil, Bool.or_false]
    rfl
  unfold State.collCombine
  simp only [empty, if_true, List.find?_nil, List.filter_nil, List.nil_append]
  exact if_pos (by rw [Bool.not_eq_true']; exact outstanding)

/-- The one contribution to a segment completes it at a device with a parent. -/
theorem State.collCombine_whole {who j up : Nat} {xs : List Nat} (empty : (s.coll n).data = [])
    (alone : (s.contributors n).all (fun x => x == who) = true) (parent : s.collParent n = some up) :
    s.collCombine n who j true xs = (s.setColl n ((s.coll n).heardFirst who j xs s.uptime)).collRises n := by
  have whole : (s.setColl n ((s.coll n).heardFirst who j xs s.uptime)).collHeard n { no := j, elems := xs, heard := [who] } = true := by
    rw [← alone]
    simp only [State.collHeard, List.contains_cons, List.contains_nil, Bool.or_false]
    rfl
  have parent' : ((s.setColl n ((s.coll n).heardFirst who j xs s.uptime)).collParent n).isSome = true :=
    (congrArg Option.isSome parent :)
  unfold State.collCombine
  simp only [empty, if_true, List.find?_nil, List.filter_nil, List.nil_append]
  refine (if_neg ?_).trans (if_pos parent')
  rw [Bool.not_eq_true, Bool.not_eq_false']
  exact whole

/-- The context once its one whole segment has left. -/
def Coll.risen (c : Coll) (j : Nat) : Coll := { c with data := [], upDone := c.upDone ++ [j] }

/-- The one whole segment of a context leaves in its turn, and nothing after it. -/
theorem State.collRises_one {j up : Nat} {g : CSeg} (used : (s.coll n).st ≠ .idle) (data : (s.coll n).data = [g]) (own : g.no = j)
    (whole : s.collHeard n g = true) (exps : (s.coll n).exps = []) (parent : s.collParent n = some up)
    (turn : j = (s.coll n).upDone.length) (open_ : s.segOpen (s.coll n) j = true) :
    (s.collRises n).coll n = (s.coll n).risen j := by
  unfold State.collRises
  rw [parent]
  dsimp only
  rw [State.collRise_none _ false 511 exps]
  have freed : (s.collFree n j true).coll n = (s.coll n).risen j := by
    unfold State.collFree State.updColl
    rw [State.coll_setColl _ _ (by exact used)]
    simp [Coll.risen, own, data]
  unfold State.collRise
  dsimp only
  rw [if_pos rfl, if_pos rfl, ← turn, open_, if_neg (by decide), data]
  rw [List.find?_cons_of_pos (by rw [own, whole]; simp)]
  dsimp only
  have sent := State.coll_of_ctx (State.collSend_ctx (s.collFree n j true) n up 0x40 (segOff j true) ((s.coll n).op.ext (s.coll n).attempt)
    (elemBytes (s.coll n).op.upSize g.elems)) n
  rw [if_pos rfl]
  rw [State.collRise_none _ true 510 (by rw [if_pos rfl, sent, freed]; rfl), sent, freed]

end

end Sys2Proof.Machine
end

section
/-! Packets of a collective and its commands (family 15, R451–R483). -/

namespace Sys2Proof.Machine

section
variable {s : State} {h : Header} {n edge : Nat}

/-- What `collTakes` says of a packet. -/
theorem State.collTakes_iff {edges : List Nat} : s.collTakes h n edges edge = true ↔
    (n = h.ctx.toNat % 4096 ∧ s.collValid n = true ∧ (s.slice (s.collSlice n)).st ≠ .halted
      ∧ edges.find? (fun p => s.collNode p = some h.srcNode) = some edge ∧ diff24 h.msgId.toNat (s.coll n).last = 1
      ∧ h.ext.toNat / 2 ^ 24 = (s.coll n).attempt) := by
  simp only [State.collTakes, Bool.and_eq_true, beq_iff_eq, bne_iff_ne, and_assoc]

/-- A packet of the current epoch and attempt, from an edge of the tree, is to be acted on (R451, R475). -/
theorem State.collJudge_takes (edges : Nat → List Nat) (takes : s.collTakes h n (edges n) edge = true) :
    s.collJudge h none edges = (s, some edge) := by
  obtain ⟨ctx, valid, running, from_, epoch, attempt⟩ := State.collTakes_iff.1 takes
  have within : h.ext.toNat / 2 ^ 24 < 256 := Nat.div_lt_of_lt_mul h.ext.isLt
  unfold State.collJudge
  dsimp only
  rw [← ctx, if_neg (by simp [valid]), if_neg running, State.collFrom, from_]
  dsimp only
  rw [if_neg (by simp [epoch]), if_neg (by omega)]

/-- The oldest packet of a command, whole and in order, is taken and acted on. -/
theorem State.collIn_takes {u cmd pid : Nat} {pk : Packet} {edges : State → Nat → List Nat} (f : State → Nat → Nat → Packet → State)
    (arrives : s.collArrival u cmd = some (pid, pk)) (own : s.collOwn u pid = none)
    (takes : s.collTakes pk.hdr n (edges s n) edge = true) : s.collIn u cmd edges f = f (s.collTake u pid) n edge pk := by
  have judged : (s.collTake u pid).collJudge pk.hdr none (edges s) = (s.collTake u pid, some edge) :=
    State.collJudge_takes (s := s.collTake u pid) (edges s) takes
  unfold State.collIn
  rw [arrives]
  dsimp only
  rw [own, judged]
  dsimp only
  rw [← (State.collTakes_iff.1 takes).1]

/-- A packet of the operation under way is admitted (Table COL-6). -/
theorem State.collAdmit_current (edge : Nat) (ctx : n = h.ctx.toNat % 4096) (attempt : h.ext.toNat / 2 ^ 24 = (s.coll n).attempt)
    (active : (s.coll n).st = .active) (op : (s.coll n).op = copOf h.ext.toNat) : s.collAdmit h edge = (s, true) := by
  have within : h.ext.toNat / 2 ^ 24 < 256 := Nat.div_lt_of_lt_mul h.ext.isLt
  have caught : s.collCatchUp n (h.ext.toNat / 2 ^ 24) edge = s := by
    unfold State.collCatchUp
    rw [show (h.ext.toNat / 2 ^ 24 + 256 - (s.coll n).attempt) % 256 = 0 by omega]
    rfl
  unfold State.collAdmit
  dsimp only
  rw [← ctx, caught, if_pos active, if_pos op]

/-- A packet of an existing segment of the operation under way is acted on. -/
theorem State.collInOp_current {pk : Packet} (ctx : n = pk.hdr.ctx.toNat % 4096) (attempt : pk.hdr.ext.toNat / 2 ^ 24 = (s.coll n).attempt)
    (active : (s.coll n).st = .active) (op : (s.coll n).op = copOf pk.hdr.ext.toNat)
    (there : pk.hdr.offset.toNat % 512 < (s.coll n).op.segs) (f : State → Nat → Bool → State) :
    s.collInOp n edge pk f = f s (pk.hdr.offset.toNat % 512) (pk.hdr.offset.toNat / 512 % 2 == 1) := by
  unfold State.collInOp
  rw [State.collAdmit_current edge ctx attempt active op]
  exact if_neg (Nat.not_le.2 there)

/-- An edge that a packet comes from is a port. -/
theorem State.edge_port (takes : s.collTakes h n (s.collChildren n) edge = true) : edge < 64 := by
  obtain ⟨-, -, -, from_, -, -⟩ := State.collTakes_iff.1 takes
  have port : edge ∈ List.range 49 := (List.mem_filter.1 (List.mem_of_find?_eq_some from_)).1
  have := List.mem_range.1 port
  omega

end

section
variable {s : State} {u n edge pid j : Nat} {pk : Packet}

/-- The elements of an arriving data segment (R456). -/
def State.upElems (s : State) (n j : Nat) (pk : Packet) : List Nat := elemsOf (s.coll n).op.upSize ((s.coll n).op.elems j) pk.payload

/-- A COLL_UP of a segment of the data pass that its port has not sent yet is combined (R461). -/
theorem State.collUp_combines (arrives : s.collArrival u 0x40 = some (pid, pk)) (own : s.collOwn u pid = none)
    (takes : s.collTakes pk.hdr n (s.collChildren n) edge = true) (active : (s.coll n).st = .active)
    (op : (s.coll n).op = copOf pk.hdr.ext.toNat) (seg : j = pk.hdr.offset.toNat % 512) (there : j < (s.coll n).op.segs)
    (pass : pk.hdr.offset.toNat / 512 % 2 = 1) (fresh : (s.coll n).upSeen edge j true = false) :
    exec (.collUp u) s = .next ((s.collTake u pid).collCombine n edge j true (s.upElems n j pk)) := by
  subst seg
  obtain ⟨ctx, -, -, -, -, attempt⟩ := State.collTakes_iff.1 takes
  refine congrArg Host.Outcome.next ((State.collIn_takes _ arrives own takes).trans ?_)
  refine (State.collInOp_current (s := s.collTake u pid) ctx attempt active op there _).trans ?_
  have data : (pk.hdr.offset.toNat / 512 % 2 == 1) = true := by rw [pass]; rfl
  rw [data]
  have elems : (s.collTake u pid).collElems n edge (pk.hdr.offset.toNat % 512) true pk.payload = s.upElems n (pk.hdr.offset.toNat % 512) pk := by
    unfold State.collElems
    exact (if_neg (Nat.not_le.2 (State.edge_port takes))).trans (if_pos rfl)
  rw [elems]
  exact if_neg (by rw [show (s.collTake u pid).coll n = s.coll n from rfl, fresh]; decide)

/-- With other contributors outstanding the segment is kept (R461). -/
theorem State.collUp_keeps (arrives : s.collArrival u 0x40 = some (pid, pk)) (own : s.collOwn u pid = none)
    (takes : s.collTakes pk.hdr n (s.collChildren n) edge = true) (active : (s.coll n).st = .active)
    (op : (s.coll n).op = copOf pk.hdr.ext.toNat) (seg : j = pk.hdr.offset.toNat % 512) (there : j < (s.coll n).op.segs)
    (pass : pk.hdr.offset.toNat / 512 % 2 = 1) (fresh : (s.coll n).upSeen edge j true = false) (empty : (s.coll n).data = [])
    (others : (s.contributors n).all (fun x => x == edge) = false) :
    ∃ t, exec (.collUp u) s = .next t ∧ t.coll n = (s.coll n).heardFirst edge j (s.upElems n j pk) s.uptime := by
  refine ⟨_, State.collUp_combines arrives own takes active op seg there pass fresh, ?_⟩
  rw [State.collCombine_first (s := s.collTake u pid) empty others]
  exact State.coll_setColl _ _ (by rw [Coll.heardFirst]; exact active ▸ nofun)

/-- A whole segment of a device with a parent leaves (R461, R462). -/
theorem State.collUp_rises {up : Nat} (arrives : s.collArrival u 0x40 = some (pid, pk)) (own : s.collOwn u pid = none)
    (takes : s.collTakes pk.hdr n (s.collChildren n) edge = true) (active : (s.coll n).st = .active)
    (op : (s.coll n).op = copOf pk.hdr.ext.toNat) (seg : j = pk.hdr.offset.toNat % 512) (there : j < (s.coll n).op.segs)
    (pass : pk.hdr.offset.toNat / 512 % 2 = 1) (fresh : (s.coll n).upSeen edge j true = false) (empty : (s.coll n).data = [])
    (alone : (s.contributors n).all (fun x => x == edge) = true) (parent : s.collParent n = some up) (exps : (s.coll n).exps = [])
    (turn : j = (s.coll n).upDone.length) (open_ : s.segOpen (s.coll n) j = true) :
    ∃ t, exec (.collUp u) s = .next t
      ∧ t.coll n = { s.coll n with timer := s.uptime, upDone := (s.coll n).upDone ++ [j] } := by
  refine ⟨_, State.collUp_combines arrives own takes active op seg there pass fresh, ?_⟩
  have used : ((s.coll n).heardFirst edge j (s.upElems n j pk) s.uptime).st ≠ .idle := by rw [Coll.heardFirst]; exact active ▸ nofun
  rw [State.collCombine_whole (s := s.collTake u pid) empty alone parent]
  have held := (s.collTake u pid).coll_setColl n used
  have rises := State.collRises_one (s := (s.collTake u pid).setColl n ((s.coll n).heardFirst edge j (s.upElems n j pk) s.uptime)) (n := n)
    (j := j) (up := up) (g := { no := j, elems := s.upElems n j pk, heard := [edge] }) (by rw [held]; exact used) (by rw [held]; rfl) rfl
    (by
      rw [← alone]
      simp only [State.collHeard, List.contains_cons, List.contains_nil, Bool.or_false]
      rfl)
    (by rw [held]; exact exps) parent (by rw [held]; exact turn) (by rw [held]; exact open_)
  refine rises.trans ?_
  rw [held, Coll.risen, Coll.heardFirst, ← empty]

end

end Sys2Proof.Machine
end

section
/-! Results, commits and aborts of a collective context, and its members' segments (family 15, R462–R477). -/

namespace Sys2Proof.Machine

section
variable {s : State} {u n edge pid j : Nat} {pk : Packet}

/-- Without local members a result is delivered to none (R463). -/
theorem State.collCopies_none (members : (s.coll n).members = []) (j off : Nat) (data : List Byte) : s.collCopies n j off data = s := by
  unfold State.collCopies
  dsimp only
  rw [members]
  rfl

theorem State.collSends_uptime {α : Type} (s : State) (l : List α) (f : α → Nat) (cmd off ext : Nat) (payload : List Byte) :
    (l.foldl (fun s p => s.collSend n (f p) cmd off ext payload) s).uptime = s.uptime := by
  refine List.foldlRecOn (motive := fun t : State => t.uptime = s.uptime) l _ rfl fun t same p _ => ?_
  unfold State.collSend
  split <;> exact same

/-- A result has passed a context without members, whatever was sent of it. -/
theorem State.coll_passed {t : State} (same : t.coll n = s.coll n) (now : t.uptime = s.uptime) (used : (s.coll n).st ≠ .idle)
    (members : (s.coll n).members = []) (off : Nat) (data : List Byte) :
    ((t.updColl n (fun c => { c with downD := c.downD ++ [j], timer := t.uptime })).collCopies n j off data).coll n
      = { s.coll n with downD := (s.coll n).downD ++ [j], timer := s.uptime } := by
  have passed : (t.updColl n (fun c => { c with downD := c.downD ++ [j], timer := t.uptime })).coll n
      = { s.coll n with downD := (s.coll n).downD ++ [j], timer := s.uptime } := by
    unfold State.updColl
    rw [same, now]
    exact State.coll_setColl _ _ used
  rw [State.collCopies_none (by rw [passed]; exact members), passed]

/-- A result of a context without members passes on (R463). -/
theorem State.coll_collDeliver (used : (s.coll n).st ≠ .idle) (members : (s.coll n).members = []) (data : List Byte) :
    (s.collDeliver n j data).coll n = { s.coll n with downD := (s.coll n).downD ++ [j], timer := s.uptime } := by
  unfold State.collDeliver
  dsimp only
  exact State.coll_passed (State.coll_of_ctx (s.collSends_ctx n _ id 0x41 _ _ data) n) (s.collSends_uptime _ id 0x41 _ _ data) used members ..

/-- A COLL_DOWN of a segment that has not passed is passed on (R463). -/
theorem State.collDown_passes (arrives : s.collArrival u 0x41 = some (pid, pk)) (own : s.collOwn u pid = none)
    (takes : s.collTakes pk.hdr n (s.collParent n).toList edge = true) (active : (s.coll n).st = .active)
    (op : (s.coll n).op = copOf pk.hdr.ext.toNat) (seg : j = pk.hdr.offset.toNat % 512) (there : j < (s.coll n).op.segs)
    (pass : pk.hdr.offset.toNat / 512 % 2 = 1) (fresh : (s.coll n).downD.contains j = false) (members : (s.coll n).members = [])
    (data : (s.coll n).data = []) (exps : (s.coll n).exps = []) :
    ∃ t, exec (.collDown u) s = .next t ∧ t.coll n = { s.coll n with timer := s.uptime, downD := (s.coll n).downD ++ [j] } := by
  subst seg
  obtain ⟨ctx, -, -, -, -, attempt⟩ := State.collTakes_iff.1 takes
  have used : (s.coll n).st ≠ .idle := active ▸ nofun
  have passed := State.coll_collDeliver (s := s.collTake u pid) (j := pk.hdr.offset.toNat % 512) used members pk.payload
  refine ⟨((s.collTake u pid).collDeliver n (pk.hdr.offset.toNat % 512) pk.payload).collRises n, congrArg Host.Outcome.next ?_, ?_⟩
  · refine (State.collIn_takes _ arrives own takes).trans ?_
    refine (State.collInOp_current (s := s.collTake u pid) ctx attempt active op there _).trans ?_
    have data' : (pk.hdr.offset.toNat / 512 % 2 == 1) = true := by rw [pass]; rfl
    rw [data']
    refine (if_pos rfl).trans (if_neg ?_)
    rw [show (s.collTake u pid).coll n = s.coll n from rfl, fresh]
    decide
  · rw [State.collRises_none (by rw [passed]; exact data) (by rw [passed]; exact exps), passed]
    rfl

/-- COLL_SUMMARY commits the epoch (R463). -/
theorem State.collSummary_commits (arrives : s.collArrival u 0x42 = some (pid, pk)) (own : s.collOwn u pid = none)
    (takes : s.collTakes pk.hdr n (s.collParent n).toList edge = true) (active : (s.coll n).st = .active)
    (op : (s.coll n).op = copOf pk.hdr.ext.toNat) (rising : Table.risingFrom none s.colls.ctx = true) :
    ∃ t, exec (.collSummary u) s = .next t
      ∧ t.coll n = { st := .idle, cause := (s.coll n).cause, last := ((s.coll n).last + 1) % 2 ^ 24 } := by
  obtain ⟨ctx, -, -, -, -, attempt⟩ := State.collTakes_iff.1 takes
  let c := s.coll n
  let sent := (s.collChildren n).foldl (fun s q => s.collSend n q 0x42 0 (c.op.ext c.attempt) pk.payload) (s.collTake u pid)
  have same : sent.colls.ctx = s.colls.ctx := (s.collTake u pid).collSends_ctx n (s.collChildren n) id 0x42 0 _ pk.payload
  refine ⟨sent.collCommit n (natOfBytes (pk.payload.take 36) % 2 ^ 32 != 0) (natOfBytes (pk.payload.take 36)), congrArg Host.Outcome.next ?_, ?_⟩
  · refine (State.collIn_takes _ arrives own takes).trans ?_
    dsimp only
    rw [State.collAdmit_current (s := s.collTake u pid) edge ctx attempt active op]
    rfl
  · rw [State.coll_collCommit n (by rw [same]; exact rising), State.coll_of_ctx same]

/-- COLL_ABORT of the attempt under way aborts it (R477). -/
theorem State.collAbortReceive_aborts (arrives : s.collArrival u 0x43 = some (pid, pk)) (own : s.collOwn u pid = none)
    (takes : s.collTakes pk.hdr n (s.collEdges n) edge = true) (active : (s.coll n).st = .active) :
    ∃ t, exec (.collAbortReceive u) s = .next t
      ∧ t.coll n = { st := .aborted, cause := pk.hdr.ext.toNat % 16, attempt := ((s.coll n).attempt + 1) % 256, last := (s.coll n).last } := by
  obtain ⟨-, -, -, -, -, attempt⟩ := State.collTakes_iff.1 takes
  refine ⟨(s.collTake u pid).collAbort n (pk.hdr.ext.toNat % 16) 0x3F (some edge) false, congrArg Host.Outcome.next ?_,
    State.coll_collAbort ..⟩
  refine (State.collIn_takes _ arrives own takes).trans ?_
  exact (if_neg (not_not.2 active)).trans (if_pos attempt)

/-- The timer of an active context whose ports are up aborts it with cause 2 (R476). -/
theorem State.collTimeout_aborts (active : (s.coll n).st = .active) (up : (s.collEdges n).find? s.collPortDown = none) :
    ∃ t, exec (.collTimeout n) s = .next t
      ∧ t.coll n = { st := .aborted, cause := 2, attempt := ((s.coll n).attempt + 1) % 256, last := (s.coll n).last } := by
  refine ⟨(s.otherItem (s.stationHome 6) (s.collSlice n) costTimer).collAbort n 2 0x3F none true, congrArg Host.Outcome.next ?_,
    State.coll_collAbort ..⟩
  refine (if_neg (not_not.2 active)).trans ?_
  have up' : ((s.otherItem (s.stationHome 6) (s.collSlice n) costTimer).collEdges n).find?
      (s.otherItem (s.stationHome 6) (s.collSlice n) costTimer).collPortDown = none := up
  dsimp only
  rw [up']

end

/-! A member's segments (R462) -/

section
variable {s : State} {n num : Nat} {m : CMember} {w : Wq} {e : WqEntry}

theorem State.readSpans_offHost (s : State) (b : Burst) (sp : Spans) (off : Nat) : (s.readSpans b sp off).1.offHost = s.offHost := by
  induction sp generalizing s off with
  | nil => rfl
  | cons x sp ih =>
    obtain ⟨a, l, x⟩ := x
    unfold State.readSpans
    exact (ih ..).trans (State.hostReadN_offHost ..)

theorem State.request_gathers (s : State) (b : Burst) : (s.request b).host.gathers = s.host.gathers := by
  unfold State.request State.wake State.exitL1
  dsimp only
  (repeat' split) <;> rfl

theorem State.hostReadN_gathers (s : State) (b : Burst) (k off len : Nat) : (s.hostReadN b k off len).1.host.gathers = s.host.gathers := by
  induction k generalizing s b off len with
  | zero => rfl
  | succ k ih =>
    unfold State.hostReadN
    split
    · rfl
    · exact (ih ..).trans (State.request_gathers ..)

theorem State.readSpans_gathers (s : State) (b : Burst) (sp : Spans) (off : Nat) : (s.readSpans b sp off).1.host.gathers = s.host.gathers := by
  induction sp generalizing s off with
  | nil => rfl
  | cons x sp ih =>
    obtain ⟨a, l, x⟩ := x
    unfold State.readSpans
    exact (ih ..).trans (State.hostReadN_gathers ..)

/-- A gather is one more, and moves the host side alone. -/
theorem State.gather_new (s : State) (g : GatherFor) (sp : Spans) :
    (∃ x, (s.gather g sp).host.gathers = s.host.gathers ++ [x] ∧ x.for_ = g ∧ x.bytes.length = spansLen sp)
      ∧ (s.gather g sp).offHost = s.offHost := by
  have gathers := s.readSpans_gathers { owner := .gather s.host.nextGather } sp 0
  have off := s.readSpans_offHost { owner := .gather s.host.nextGather } sp 0
  unfold State.gather
  dsimp only
  refine ⟨⟨_, congrArg (· ++ [_]) gathers, rfl, List.length_replicate ..⟩, off⟩

theorem State.through_of_bypass {sl : Nat} (bypass : s.bypass sl = true) : s.Through sl := by
  simp only [State.bypass, Bool.and_eq_true, List.isEmpty_iff, Bool.not_eq_true', beq_iff_eq] at bypass
  obtain ⟨⟨⟨ended, stage1⟩, stage2⟩, plain⟩ := bypass
  exact ⟨ended, stage1, stage2, plain⟩

/-- The context once a member has sent its next data segment. -/
def Coll.sent (c : Coll) (m : CMember) : Coll :=
  { c with members := c.members.map (fun x => if x.num = m.num then { x with nextD := m.nextD + 1 } else x) }

/-- A member's data segment is read where its buffer is accessible (R462). -/
theorem State.collSegment_reads (entry : s.recvEntry m.wq m.pos = some (w, e)) (buffer : entryLaddr e.bytes ≠ 0)
    (through : s.Through w.slice) : ∃ sp, s.collSegment n m true = (s.setColl n ((s.coll n).sent m)).gather (.contribution n m.num m.nextD) sp := by
  obtain ⟨sp, plain⟩ := through.xlateSpan (.item m.wq m.pos)
    ((s.coll n).op.elems m.nextD * typeBytes (s.coll n).op.type / 4096 + 2)
    (a := s.entryAccess m.wq w e .read (entryLaddr e.bytes % 2 ^ 48
      + m.nextD * segElems (s.coll n).op.cop (s.coll n).op.type (s.coll n).op.mode * typeBytes (s.coll n).op.type)) rfl
    ((s.coll n).op.elems m.nextD * typeBytes (s.coll n).op.type)
  refine ⟨sp, ?_⟩
  unfold State.collSegment
  simp only [if_true]
  rw [entry]
  dsimp only
  rw [if_neg buffer, plain]
  rfl

theorem State.collSegmentSend_reads (member : (s.coll n).members.find? (fun x => x.num = num ∧ !x.gone) = some m)
    (active : (s.coll n).st = .active) (may : s.mayData (s.coll n) m = true) (entry : s.recvEntry m.wq m.pos = some (w, e))
    (free : s.capped w.slice = false) (buffer : entryLaddr e.bytes ≠ 0) (bypass : s.bypass w.slice = true) :
    ∃ t, exec (.collSegmentSend n num false) s = .next t
      ∧ (∃ g, t.host.gathers = s.host.gathers ++ [g] ∧ g.for_ = .contribution n m.num m.nextD)
      ∧ t.coll n = (s.coll n).sent m := by
  have used : (s.coll n).st ≠ .idle := active ▸ nofun
  have listed := (State.recvEntry_eq_some entry).1
  obtain ⟨sp, reads⟩ := State.collSegment_reads (s := s.otherItem w.home w.slice costService) (n := n) (m := m) entry buffer
    (State.through_of_bypass bypass)
  refine ⟨_, congrArg Host.Outcome.next (Eq.trans ?_ reads), ?_⟩
  · dsimp only
    rw [member]
    refine (if_neg (not_not.2 active)).trans ((if_neg Bool.false_ne_true).trans ((if_pos may).trans ?_))
    unfold State.segmentItem
    rw [listed]
    exact if_neg (by rw [free]; decide)
  · obtain ⟨⟨g, gathers, for_, -⟩, off⟩ := ((s.otherItem w.home w.slice costService).setColl n ((s.coll n).sent m)).gather_new
      (.contribution n m.num m.nextD) sp
    refine ⟨⟨g, gathers, for_⟩, (State.coll_of_ctx (congrArg (fun t : State => t.colls.ctx) off :) n).trans ?_⟩
    exact State.coll_setColl _ _ used

end

end Sys2Proof.Machine
end

section
/-! The objects of a collective context (family 15, R481–R483; O40). -/

namespace Sys2Proof.Machine

/-! Entries of a table that a property leaves out -/

/-- What a table in the order of its keys holds at a key is what the key reads. -/
theorem Table.get_listed {α : Type} (d : α) {t : Table α} {lo : Option Nat} (rising : Table.risingFrom lo t = true) {k : Nat} {v : α}
    (listed : (k, v) ∈ t) : Table.get d t k = v := by
  induction t generalizing lo with
  | nil => exact absurd listed List.not_mem_nil
  | cons e t ih =>
    obtain ⟨j, w⟩ := e
    have above : Table.risingFrom (some j) t = true := by
      cases lo with
      | none => exact rising
      | some a => exact ((Bool.and_eq_true _ _).mp rising).2
    rcases List.mem_cons.1 listed with same | rest
    · cases same
      exact if_pos rfl
    · by_cases own : j = k
      · subst own
        have below : ∀ (t : Table α) (a : Nat), Table.risingFrom (some a) t = true → ∀ e ∈ t, a < e.1 := by
          intro t
          induction t with
          | nil => exact fun _ _ _ member => absurd member List.not_mem_nil
          | cons x t ih =>
            intro a up e member
            obtain ⟨first, up'⟩ := (Bool.and_eq_true _ _).mp up
            have first' : a < x.1 := of_decide_eq_true first
            rcases List.mem_cons.1 member with rfl | rest
            · exact first'
            · exact first'.trans (ih x.1 up' e rest)
        exact absurd (below t j above _ rest) (lt_irrefl _)
      · exact (if_neg own).trans (ih above rest)

/-- Where a key reads as a property leaves out, the entries with the property are those of the other keys. -/
theorem Table.filter_without {α : Type} (d : α) {t : Table α} (rising : Table.risingFrom none t = true) {k : Nat} {p : Nat × α → Bool}
    (out : p (k, Table.get d t k) = false) : (t.filter (fun e => e.1 != k)).filter p = t.filter p := by
  rw [List.filter_filter]
  refine List.filter_congr fun e member => ?_
  by_cases own : e.1 = k
  · obtain ⟨j, v⟩ := e
    dsimp only at own
    subst own
    rw [Table.get_listed d rising member] at out
    simp [out]
  · simp [own]

/-! Runs of the steeped store (R482) -/

section
variable {s : State} {q : Req} {role : Role} {v : Image} {n : Nat}

/-- An entry that holds no run does not count for the lowest free one. -/
theorem State.steepRun_unset (rising : Table.risingFrom none s.dict = true) (unset : bit (s.reg R.collSteep 0 n) 63 = false) (m : Image)
    (c : Nat) : ((s.setReg R.collSteep 0 n m).setReg R.collSteep 0 n (s.reg R.collSteep 0 n)).steepRun c = s.steepRun c := by
  let k := R.collSteep.key 0 n
  let d := R.collSteep.default 0 n
  let p := fun e : Nat × Image => bit e.2 63 && decide (e.1 / 2 ^ 20 = R.collSteep.obj * 256 + R.collSteep.sub)
  let once := Table.set d s.dict k m
  have risingOnce : Table.risingFrom none once = true := Table.rising_set d k m rising
  have twice : (Table.set d once k (s.reg R.collSteep 0 n)).filter p = s.dict.filter p := by
    rw [← Table.filter_without d (k := k) (Table.rising_set d k _ risingOnce), Table.filter_set, Table.filter_set, Table.filter_without d rising]
    · exact (congrArg (· && _) unset).trans (Bool.false_and _)
    · rw [Table.get_set_rising d k _ risingOnce]
      exact (congrArg (· && _) unset).trans (Bool.false_and _)
  have runs : ∀ t : State, (t.entriesOf R.collSteep).filter (fun e => bit e.2 63) = (t.dict.filter p).map (fun e => (e.1 % 2 ^ 20, e.2)) := by
    intro t
    unfold State.entriesOf
    rw [List.filter_map, List.filter_filter]
    rfl
  unfold State.steepRun
  rw [runs, runs]
  rw [show ((s.setReg R.collSteep 0 n m).setReg R.collSteep 0 n (s.reg R.collSteep 0 n)).dict.filter p = s.dict.filter p from twice]

/-- A run lies in the store. -/
theorem State.steepRun_within {c b : Nat} (run : s.steepRun c = some b) : b + c ≤ 131072 := by
  have ok := List.find?_some run
  rw [Bool.and_eq_true] at ok
  exact of_decide_eq_true ok.1

/-- What a write of COLL_STEEP sets. -/
theorem steep_written {i : Nat} (above : 28 ≤ i) (below : i ≤ 63) : R.collSteep.rw.testBit i = true := by
  have all : ∀ i < 64, 28 ≤ i → R.collSteep.rw.testBit i = true := by decide
  exact all i (by omega) above

theorem bit_steepMerge (old v : Image) {i : Nat} (above : 28 ≤ i) (below : i ≤ 63) : bit (R.collSteep.merge old v) i = bit v i := by
  rw [bit_merge ⟨rfl, rfl⟩ _ _ (by omega), steep_written above below, if_pos rfl]

/-- The entry that a COLL_STEEP write with VALID leaves: what was written, and the run it was given. -/
def steepEntry (old v : Image) (b : Nat) : Image := setFld (R.collSteep.merge old v) 27 11 b

theorem bit_steepEntry_valid (old v : Image) (b : Nat) : bit (steepEntry old v b) 63 = bit v 63 := by
  rw [steepEntry, bit_setFld _ _ (by decide) (by decide), if_neg (by decide), bit_steepMerge _ _ (by decide) (by decide)]

theorem fldN_steepEntry_count (old v : Image) (b : Nat) : fldN (steepEntry old v b) 44 28 = fldN v 44 28 := by
  rw [steepEntry, fldN_setFld_apart _ _ (by decide) (by decide) (by decide)]
  exact fldN_congr fun i above below => bit_steepMerge _ _ above (by omega)

theorem fldN_steepEntry_base (old v : Image) {b : Nat} (within : b < 2 ^ 17) : fldN (steepEntry old v b) 27 11 = b :=
  fldN_setFld_same _ (by decide) (by decide) within

/-- An accepted COLL_STEEP entry is given the lowest free run (R482). -/
theorem State.collSteep_allocates {b : Nat} (accepted : s.mayWrite q role R.collSteep 0 n v = true) (valid : s.collValid n = true)
    (root : s.collRoot n = true) (some_ : 0 < fldN v 44 28) (fits : fldN v 44 28 ≤ 65536) (op : 3 ≤ fldN v 62 60 → fldN v 59 57 < 3)
    (take : bit v 63 = true) (unset : bit (s.reg R.collSteep 0 n) 63 = false) (run : s.steepRun (fldN v 44 28) = some b)
    (rising : Table.risingFrom none s.dict = true) :
    ∃ t, exec (.collSteep q n v) s = .next t ∧ t.reg R.collSteep 0 n = steepEntry (s.reg R.collSteep 0 n) v b := by
  have accepted' : s.mayWrite (q.entries n 1) role R.collSteep 0 n v = true := accepted
  obtain ⟨i, a, au, an, sf, served, -⟩ := State.writeRun_done accepted' collSteepRule (fun _ _ => rfl) (fun _ _ => rfl)
    (fun i a au an sf => by
      have run' : (s.taken i a au an sf).steepRun (fldN v 44 28) = some b := run
      have valid' : (s.taken i a au an sf).collValid n = true := valid
      have root' : (s.taken i a au an sf).collRoot n = true := root
      unfold collSteepRule
      dsimp only
      rw [if_neg (by
        rintro (bad | bad | bad | bad | ⟨cop, ty⟩)
        · rw [valid'] at bad; exact absurd bad (by decide)
        · rw [root'] at bad; exact absurd bad (by decide)
        · omega
        · omega
        · exact absurd (op cop) (Nat.not_lt.2 ty)), if_pos take, if_neg (by rw [unset]; decide), run']
      rfl)
  rw [State.storeVal_stored (by decide)] at served
  refine ⟨_, rfl, (served.reg ..).trans ?_⟩
  have run' : (((s.taken i a au an sf).setReg R.collSteep 0 n (R.collSteep.merge (s.reg R.collSteep 0 n) v)).setReg R.collSteep 0 n
      (s.reg R.collSteep 0 n)).steepRun (fldN v 44 28) = some b :=
    (State.steepRun_unset (s := s.taken i a au an sf) rising unset _ _).trans run
  have held : ((s.taken i a au an sf).setReg R.collSteep 0 n (R.collSteep.merge (s.reg R.collSteep 0 n) v)).reg R.collSteep 0 n
      = R.collSteep.merge (s.reg R.collSteep 0 n) v := State.reg_setReg_same _ _ _ _ rising
  unfold collSteepRule
  dsimp only
  rw [if_pos take]
  rw [show (s.taken i a au an sf).reg R.collSteep 0 n = s.reg R.collSteep 0 n from rfl]
  rw [run', held]
  exact State.reg_setReg_same _ _ _ _ (Table.rising_set _ _ _ rising)

/-- The keys of COLL_STEEP lie below that of COLL_STEEP_CLEAR. -/
theorem collSteep_key_below (n : Nat) (within : n < 2 ^ 12) : R.collSteep.key 0 n ≠ R.collSteepClear.key 0 0 := by
  have clear : R.collSteepClear.key 0 0 = (0x5442 * 256 + 2) * 2 ^ 20 := by decide
  have entry : R.collSteep.key 0 n = (0x5442 * 256 + 1) * 2 ^ 20 + n := rfl
  omega

/-- An accepted COLL_ABORT write aborts an active context with cause 7 (R481). -/
theorem State.collAbort_aborts (accepted : s.mayWrite q role R.collAbort 0 0 v = true) (named : n = fldN v 11 0) (valid : s.collValid n = true)
    (active : (s.coll n).st = .active) :
    ∃ t, exec (.collAbort q v) s = .next t
      ∧ t.coll n = { st := .aborted, cause := 7, attempt := ((s.coll n).attempt + 1) % 256, last := (s.coll n).last } := by
  subst named
  obtain ⟨i, a, au, an, sf, served, -⟩ := State.dictWrite_done accepted
    (fun s => if s.collValid (fldN v 11 0) then none else some .outOfRange)
    (fun s => (if (s.coll (fldN v 11 0)).st = .active then s.collAbort (fldN v 11 0) 7 0x3F none true else s, .ok))
    (fun i a au an sf => if_pos valid)
  refine ⟨_, rfl, (State.coll_of_ctx (congrArg Colls.ctx served.colls) _).trans ?_⟩
  generalize stored : (s.taken i a au an sf).storeVal R.collAbort 0 0 v = u
  have same : u.coll (fldN v 11 0) = s.coll (fldN v 11 0) :=
    State.coll_of_ctx (by rw [← stored, State.storeVal_stored (by decide)]; rfl) _
  dsimp only
  rw [if_pos (by rw [same]; exact active), State.coll_collAbort, same]

/-- An accepted COLL_EPOCH write sets LAST of a context that is not active (R481). -/
theorem State.collEpoch_sets (accepted : s.mayWrite q role R.collEpoch 0 0 v = true) (named : n = fldN v 43 32) (valid : s.collValid n = true)
    (rest : (s.coll n).st ≠ .active) (rising : Table.risingFrom none s.colls.ctx = true) :
    ∃ t, exec (.collEpoch q v) s = .next t ∧ t.coll n = { st := .idle, cause := (s.coll n).cause, last := fldN v 23 0 } := by
  subst named
  obtain ⟨i, a, au, an, sf, served, -⟩ := State.dictWrite_done accepted
    (fun s => if !s.collValid (fldN v 43 32) then some .outOfRange else if (s.coll (fldN v 43 32)).st = .active then some .busy else none)
    (fun s => (s.setColl (fldN v 43 32) { st := .idle, cause := (s.coll (fldN v 43 32)).cause, last := fldN v 23 0 }, .ok))
    (fun i a au an sf => by
      have valid' : (s.taken i a au an sf).collValid (fldN v 43 32) = true := valid
      rw [if_neg (by rw [valid']; decide)]
      exact if_neg rest)
  refine ⟨_, rfl, (State.coll_of_ctx (congrArg Colls.ctx served.colls) _).trans ?_⟩
  rw [State.storeVal_stored (by decide)]
  exact State.coll_setColl_rising _ (by exact rising) _

/-- COLL_STEEP_CLEAR clears the flags of the allocation, and all of it or the flags alone (R483). -/
theorem State.collSteepClear_clears (accepted : s.mayWrite q role R.collSteepClear 0 0 v = true) (held : bit (s.reg R.collSteep 0 n) 63 = true)
    (named : n = fldN v 11 0) (idle : (s.coll n).st ≠ .active) :
    ∃ t, exec (.collSteepClear q v) s = .next t ∧ t.colls = (s.steepClear n (bit v 31)).colls := by
  obtain ⟨i, a, au, an, sf, served, -⟩ := State.dictWrite_done accepted
    (fun s => if !bit (s.reg R.collSteep 0 (fldN v 11 0)) 63 then some .outOfRange else if (s.coll (fldN v 11 0)).st = .active then some .busy else none)
    (fun s => (s.steepClear (fldN v 11 0) (bit v 31), .ok))
    (fun i a au an sf => by
      subst named
      have held' : bit ((s.taken i a au an sf).reg R.collSteep 0 (fldN v 11 0)) 63 = true := held
      rw [if_neg (by rw [held']; decide)]
      exact if_neg idle)
  subst named
  refine ⟨_, rfl, served.colls.trans ?_⟩
  generalize stored : (s.taken i a au an sf).storeVal R.collSteepClear 0 0 v = u
  have apart : u.reg R.collSteep 0 (fldN v 11 0) = s.reg R.collSteep 0 (fldN v 11 0) := by
    rw [← stored, State.storeVal_stored (by decide)]
    exact State.reg_setReg_other _ _ (collSteep_key_below _ (fldN_lt v 11 0))
  have colls : u.colls = s.colls := by rw [← stored, State.storeVal_stored (by decide)]; rfl
  unfold State.steepClear
  simp only [apart, State.updColls, colls]

end

/-- Settles O40: a packet of the attempt under way finds its context and its segment; a segment is combined or passes on, and the partial leaves when whole; a commit, an abort and an epoch leave the context they name; the objects go by their write rules. -/
theorem collectivesCombineCommitAndAbort : Obligations.CollectivesCombineCommitAndAbort := by
  unfold Obligations.CollectivesCombineCommitAndAbort
  refine ⟨?up, ?whole, ?down, ?summary, ?abort, ?segment, ?timeout, ?abortWrite, ?epoch, ?steep, ?clear⟩
  case up =>
    intro s u n edge pid j pk arrives own takes active op seg there pass fresh empty others
    exact State.collUp_keeps arrives own takes active op seg there pass fresh empty others
  case whole =>
    intro s u n edge pid j up pk arrives own takes active op seg there pass fresh empty alone parent exps turn open_
    exact State.collUp_rises arrives own takes active op seg there pass fresh empty alone parent exps turn open_
  case down =>
    intro s u n edge pid j pk arrives own takes active op seg there pass fresh members data exps
    exact State.collDown_passes arrives own takes active op seg there pass fresh members data exps
  case summary =>
    intro s u n edge pid pk arrives own takes active op rising
    exact State.collSummary_commits arrives own takes active op rising
  case abort =>
    intro s u n edge pid pk arrives own takes active
    exact State.collAbortReceive_aborts arrives own takes active
  case segment =>
    intro s n num m w e member active may entry free buffer bypass
    exact State.collSegmentSend_reads member active may entry free buffer bypass
  case timeout =>
    intro s n active up
    exact State.collTimeout_aborts active up
  case abortWrite =>
    intro s q role v n accepted named valid active
    exact State.collAbort_aborts accepted named valid active
  case epoch =>
    intro s q role v n accepted named valid rest rising
    exact State.collEpoch_sets accepted named valid rest rising
  case steep =>
    intro s q role v n b accepted valid root some_ fits op take unset run rising
    obtain ⟨t, runs, held⟩ := State.collSteep_allocates accepted valid root some_ fits op take unset run rising
    have within := State.steepRun_within run
    refine ⟨t, runs, ?_⟩
    rw [held]
    exact ⟨(bit_steepEntry_valid ..).trans take, fldN_steepEntry_base _ _ (by omega), fldN_steepEntry_count ..⟩
  case clear =>
    intro s q role v n accepted named held idle
    obtain ⟨t, runs, colls⟩ := State.collSteepClear_clears accepted held named idle
    refine ⟨t, runs, congrArg Colls.flags colls, fun flagsOnly => ?_⟩
    rw [colls, flagsOnly]
    rfl

end Sys2Proof.Machine
end

section
/-! Requests at their target (family 14, R424–R431): their peer context, their access and their placement. -/

namespace Sys2Proof.Machine

/-! The peer context of a request (R429, R440, R441) -/

section
variable {s : State} {h : Header} {sl m : Nat} {p q : Peer}

/-- A number that arrives moves the window alone. -/
theorem Peer.arrive_eq (arrives : p.arrive m = some q) : ∃ high done, q = { p with high := high, done := done } := by
  unfold Peer.arrive at arrives
  dsimp only at arrives
  split at arrives
  · cases arrives; exact ⟨_, _, rfl⟩
  · split at arrives
    · cases arrives; exact ⟨_, _, rfl⟩
    · split at arrives
      · cases arrives
      · cases arrives; exact ⟨_, _, rfl⟩

/-- A context put back in place of the one last used is the one last used. -/
theorem State.setPeer_usedPeer (own : q.pair = p.pair) : (s.usedPeer p).setPeer q = s.usedPeer q := by
  have others : (s.remote.peers.filter (fun x => x.pair ≠ q.pair)).map (fun x => if x.pair = q.pair then q else x)
      = s.remote.peers.filter (fun x => x.pair ≠ q.pair) :=
    (List.map_congr_left fun x member => if_neg (of_decide_eq_true (List.mem_filter.1 member).2)).trans (List.map_id _)
  have peers : (p :: s.remote.peers.filter (fun x => x.pair ≠ p.pair)).map (fun x => if x.pair = q.pair then q else x)
      = q :: s.remote.peers.filter (fun x => x.pair ≠ q.pair) := by
    rw [List.map_cons, if_pos own.symm, ← own, others]
  exact congrArg (fun l => s.updRemote (fun r => { r with peers := l })) peers

/-- The first entry with a property and the entries without it weigh no more than all. -/
theorem sum_found_filter_le {α : Type} {test : α → Prop} [DecidablePred test] (f : α → Nat) {l : List α} {b : α}
    (found : l.find? (fun x => test x) = some b) : f b + ((l.filter (fun x => ¬ test x)).map f).sum ≤ (l.map f).sum := by
  induction l with
  | nil => cases found
  | cons x l ih =>
    by_cases own : test x
    · rw [List.find?_cons_of_pos (p := fun x => decide (test x)) (decide_eq_true own)] at found
      cases found
      rw [List.filter_cons_of_neg (by simpa using own), List.map_cons, List.sum_cons]
      exact Nat.add_le_add_left ((List.filter_sublist.map f).sum_le_sum fun _ _ => Nat.zero_le _) _
    · rw [List.find?_cons_of_neg (p := fun x => decide (test x)) (by simpa using own)] at found
      rw [List.filter_cons_of_pos (by simpa using own), List.map_cons, List.map_cons, List.sum_cons, List.sum_cons]
      have := ih found
      omega

/-- A context takes no more trackers for being used. -/
theorem State.trackersUsed_usedPeer (found : s.peer q.pair = some p) (same : q.trackers = p.trackers) :
    (s.usedPeer q).trackersUsed ≤ s.trackersUsed := by
  have fewer := sum_found_filter_le (fun x : Peer => x.trackers.length) found
  rw [← same] at fewer
  exact fewer

/-- The request of a header is to be acted on, with its context as it then is. -/
structure State.Admits (s : State) (h : Header) (sl : Nat) (q : Peer) : Prop where
  station    : s.stationSlice h.dstStation.toNat = some sl
  pair       : q.pair = pairOf h
  untracked  : q.trackers.any (fun t => t.num = h.msgId.toNat) = false
  judged     : ∀ again, s.judge (some sl) h again = (s.usedPeer q, .go q)

/-- Steps 1 to 6 of Table RMA-3 let a request through. -/
theorem State.admits_judged (admits : s.admits h sl = true) : ∃ q, s.Admits h sl q := by
  unfold State.admits at admits
  rw [Bool.and_eq_true] at admits
  obtain ⟨door, window⟩ := admits
  simp only [Bool.and_eq_true, beq_iff_eq, Bool.not_eq_true'] at door
  obtain ⟨⟨⟨⟨station, takes⟩, room⟩, func⟩, key⟩ := door
  split at window
  next q arrives =>
    simp only [Bool.and_eq_true, Bool.not_eq_true', decide_eq_true_eq] at window
    obtain ⟨⟨incomplete, untracked⟩, free⟩ := window
    obtain ⟨p, found, arrives⟩ := Option.bind_eq_some_iff.1 arrives
    have ofPair := State.pair_of_peer found
    obtain ⟨high, done, shape⟩ := Peer.arrive_eq arrives
    have pair : q.pair = p.pair := by rw [shape]
    have trackers : q.trackers = p.trackers := by rw [shape]
    have used := State.trackersUsed_usedPeer (q := q) (pair.trans ofPair ▸ found) trackers
    have untracked' : q.trackers.any (fun t => t.num = h.msgId.toNat) = false :=
      List.any_eq_false.2 fun t member => by simpa using List.all_eq_true.1 untracked t member
    refine ⟨q, station, pair.trans ofPair, untracked', fun again => ?_⟩
    have enters : ¬ (s.refuses sl = true ∨ (!s.intakeRoom (s.stationHome h.dstStation.toNat) sl) = true ∨ (s.inboundFunc sl).isNone = true) := by
      rintro (bad | bad | bad)
      · rw [takes] at bad; exact absurd bad (by decide)
      · rw [room] at bad; exact absurd bad (by decide)
      · rw [Option.isNone_iff_eq_none] at bad; rw [bad] at func; exact absurd func (by decide)
    unfold State.judge
    dsimp only
    rw [if_neg enters, if_neg (by rw [key]; decide), State.openPeer_found found]
    dsimp only
    rw [arrives]
    dsimp only
    rw [State.setPeer_usedPeer pair, if_neg (by rw [incomplete]; decide), if_neg (fun full => absurd (full.2.trans used) (Nat.not_le.2 free))]
  · exact absurd window Bool.false_ne_true

theorem State.Admits.peer (admitted : s.Admits h sl q) : (s.usedPeer q).peer (pairOf h) = some q :=
  admitted.pair ▸ State.peer_usedPeer

/-- The oldest packet of a command is taken up. -/
theorem State.rmaArrived_takes {st cmd : Nat} {a : Arrived} (arrives : s.arrival st cmd = some a)
    (free : engineCmd cmd = false ∨ s.itemWaits a = false) (f : State → Arrived → Header → State) :
    s.rmaArrived st cmd f = f s a a.pkt.hdr := by
  unfold State.rmaArrived
  rw [arrives]
  refine if_neg fun waits => ?_
  obtain ⟨engine, waits⟩ := (Bool.and_eq_true _ _).mp waits
  rcases free with free | free
  · rw [free] at engine; exact Bool.false_ne_true engine
  · rw [free] at waits; exact Bool.false_ne_true waits

/-! Trackers (R426) -/

/-- The context with a tracker for a message. -/
def Peer.tracking (q : Peer) (h : Header) (pkts : Nat) : Peer :=
  { q with trackers := q.trackers ++ [{ num := h.msgId.toNat, pkts := pkts, hdr := h }] }

theorem State.track_new {u : State} (peer : u.peer (pairOf h) = some q) (new : q.trackers.any (fun t => t.num = h.msgId.toNat) = false)
    (pkts : Nat) : u.track h pkts = u.setPeer (q.tracking h pkts) := by
  have busy : (q.tracking h pkts).idle = false := by simp [Peer.tracking, Peer.idle]
  unfold State.track State.targetPeer
  rw [peer]
  dsimp only
  rw [if_neg (by rw [new]; decide)]
  exact State.putPeer_busy busy

theorem State.peer_track {u : State} (peer : u.peer (pairOf h) = some q) (pkts : Nat) :
    (u.setPeer (q.tracking h pkts)).peer (pairOf h) = some (q.tracking h pkts) := by
  have pair : (q.tracking h pkts).pair = pairOf h := (State.pair_of_peer peer :)
  rw [← pair]
  exact State.peer_setPeer (pair ▸ peer)

end

/-! Accesses within a page, and placements (R370, R424) -/

section
variable {s : State} {sl : Nat}

theorem State.Through.xlateSpan_one (through : s.Through sl) (who : Who) {a : Access} (slice : a.slice = sl) (fuel : Nat) {len : Nat}
    (some_ : 0 < len) (within : a.ia % 4096 + len ≤ 4096) : s.xlateSpan who a (fuel + 1) len = (s, [(a.ia, len, a)], none) := by
  have whole : min len (4096 - a.ia % 4096) = len := by omega
  have rest : s.xlateSpan who (a.shift len) fuel 0 = (s, [], none) := by cases fuel <;> rfl
  unfold State.xlateSpan
  rw [if_neg (by omega), through.xlate who slice]
  dsimp only
  rw [whole, Nat.sub_self, rest]

/-- Outside service mode an access is no item of the MEMORY service (R498). -/
theorem State.memoryItem_plain (plain : s.serviceMode = false) (sl : Nat) : s.memoryItem sl = s := if_neg (by rw [plain]; decide)

/-- The one placement that has bursts or reads left waits. -/
theorem State.settlePlacing_waits {x : Placing} (one : s.remote.placing = [x]) (quiet : s.remote.invals = [])
    (busy : s.keyGone x.key = false) : s.settlePlacing = s := by
  have split : s.remote.placing.partition (fun x => s.keyGone x.key) = ([], s.remote.placing) := by
    rw [one, List.partition_eq_filter_filter]
    simp [busy]
  unfold State.settlePlacing State.updRemote
  simp only [split, List.foldl_nil, quiet, List.partition_eq_filter_filter, List.filter_nil]
  rw [← quiet]

end

end Sys2Proof.Machine
end

section
/-! PUT_DATA and PUT_NOTIFY (family 14, R424–R426, R439). -/

namespace Sys2Proof.Machine

section
variable {s : State} {st sl f : Nat} {a : Arrived}

theorem State.writable_of_host {s t : State} (same : t.host = s.host) (sl : Nat) : t.writable sl = s.writable sl := by
  unfold State.writable State.slice
  rw [same]

/-- Bytes that lie within a page and a burst are one request. -/
theorem State.writeSpans_one {k : Nat} {x : Access} {data : List Byte} (host : x.func ≠ memFunc) (some_ : 0 < data.length)
    (few : data.length ≤ 512) (writable : s.writable x.slice = true) :
    s.writeSpans { key := k } [(x.ia, data.length, x)] data = s.request
      { key := k, addr := x.ia, func := x.func, slice := x.slice, acc := some x
        inst := instOf x.func true, len := data.length, data := data } := by
  have bytes := List.length_pos_iff.1 some_
  unfold State.writeSpans
  rw [if_neg (by simpa using bytes), List.take_of_length_le le_rfl]
  unfold State.writeSpans
  have direct : s.instFor x.func x.ia true = instOf x.func true := if_neg host
  rw [← direct]
  exact State.hostWrite_one host bytes few writable

/-- The device once a request has its tracker. -/
def State.tracked (s : State) (a : Arrived) (q : Peer) (pkts : Nat) : State :=
  ((s.usedPeer q).takeArrival a).setPeer (q.tracking a.pkt.hdr pkts)

theorem State.tracked_host (s : State) (a : Arrived) (q : Peer) (pkts : Nat) : (s.tracked a q pkts).host = s.host := by
  unfold State.tracked
  rfl

theorem State.newPlacing_host (s : State) (sl region : Nat) (h : Header) : (s.newPlacing sl region h).1.host = s.host := rfl

/-- The burst of a placement within a page. -/
def State.placement (s : State) (a : Arrived) (sl f : Nat) : Burst :=
  { key := 2 ^ 40 + s.remote.nextKey, addr := targetAddr a.pkt.hdr, func := f, slice := sl
    acc := some (s.regionAccess sl (reqKey a.pkt.hdr) .write (targetAddr a.pkt.hdr) f)
    inst := instOf f true, len := a.pkt.payload.length, data := a.pkt.payload }

/-- An admitted PUT_DATA of one burst is placed at its target address (R424–R426). -/
theorem State.putData_places (arrives : s.arrival st 0x20 = some a) (admits : s.admits a.pkt.hdr sl = true)
    (lets : s.regionRefuses sl (reqKey a.pkt.hdr) 125 (targetAddr a.pkt.hdr) a.pkt.payload.length = false)
    (func : s.inboundFunc sl = some f) (host : f ≠ memFunc) (bypass : s.bypass sl = true) (some_ : 0 < a.pkt.payload.length)
    (few : a.pkt.payload.length ≤ 512) (within : targetAddr a.pkt.hdr % 4096 + a.pkt.payload.length ≤ 4096)
    (writable : s.writable sl = true) (quiet : s.remote.placing = []) (settled : s.remote.invals = []) :
    ∃ t, exec (.putData st) s = .next t ∧ t.arrived = s.arrived.erase a ∧ (∃ x, t.remote.placing = [x] ∧ x.hdr = a.pkt.hdr
      ∧ ∃ b, t.host.arb.bursts = s.host.arb.bursts ++ [b] ∧ b.key = x.key ∧ b.func = f ∧ b.addr = targetAddr a.pkt.hdr
        ∧ b.data = a.pkt.payload) := by
  obtain ⟨q, admitted⟩ := State.admits_judged admits
  have through := State.through_of_bypass bypass
  let pkts := a.pkt.hdr.ext.toNat / 2 ^ 24 % 16 + 1
  let v := ((s.tracked a q pkts).newPlacing sl (reqKey a.pkt.hdr % 65536) a.pkt.hdr).1
  let w := ((v.request (s.placement a sl f)).countSlice sl 8).countSlice sl 9 a.pkt.payload.length
  have host' : v.host = s.host := (State.newPlacing_host ..).trans (State.tracked_host ..)
  let x : Placing := { key := 2 ^ 40 + s.remote.nextKey, hdr := a.pkt.hdr, slice := sl, region := reqKey a.pkt.hdr % 65536 }
  have remote : w.remote = v.remote := (congrArg State.remote (v.request_offHost (s.placement a sl f)) :)
  have placing : w.remote.placing = [x] := by
    rw [remote]
    exact congrArg (· ++ [x]) quiet
  have invals : w.remote.invals = [] := by
    rw [remote]
    exact settled
  have bursts : w.host.arb.bursts = s.host.arb.bursts ++ [{ s.placement a sl f with id := s.host.arb.nextId }] := v.request_bursts _
  have busy : w.keyGone x.key = false := by
    unfold State.keyGone
    rw [bursts, List.all_append]
    simp [State.placement, x]
  refine ⟨w, congrArg Host.Outcome.next ?_, (congrArg State.arrived (v.request_offHost (s.placement a sl f)) :), x, placing, rfl, _, bursts,
    rfl, rfl, rfl, rfl⟩
  refine (State.rmaArrived_takes arrives (.inl rfl) _).trans ?_
  dsimp only
  rw [admitted.station, admitted.judged]
  dsimp only
  have lets' : (s.usedPeer q).regionRefuses sl (reqKey a.pkt.hdr) 125 (targetAddr a.pkt.hdr) a.pkt.payload.length = false := lets
  have func' : (s.usedPeer q).inboundFunc sl = some f := func
  have through' : (s.usedPeer q).Through sl := ⟨through.ended, through.stage1, through.stage2, through.plain⟩
  have plain : ((s.usedPeer q).takeArrival a).serviceMode = false := through.plain
  have peer : ((s.usedPeer q).takeArrival a).peer (pairOf a.pkt.hdr) = some q := admitted.peer
  have writable' : v.writable sl = true := (State.writable_of_host host' sl).trans writable
  have places : v.writeSpans { key := 2 ^ 40 + s.remote.nextKey } [(targetAddr a.pkt.hdr, a.pkt.payload.length,
      s.regionAccess sl (reqKey a.pkt.hdr) .write (targetAddr a.pkt.hdr) f)] a.pkt.payload = v.request (s.placement a sl f) :=
    State.writeSpans_one (x := s.regionAccess sl (reqKey a.pkt.hdr) .write (targetAddr a.pkt.hdr) f) host some_ few writable'
  rw [Option.getD_some, if_neg (by rw [lets']; decide), func', Option.getD_some, through'.xlateSpan_one _ rfl 2 some_ within]
  dsimp only
  rw [State.memoryItem_plain plain, State.track_new peer admitted.untracked]
  refine Eq.trans ?_ (State.settlePlacing_waits placing invals busy)
  exact congrArg (fun t : State => ((t.countSlice sl 8).countSlice sl 9 a.pkt.payload.length).settlePlacing) places

end

/-! A completion that finds room (R310, R313) -/

section
variable {s : State} {n : Nat} {c : Cq}

theorem State.cq_of_queueSide {s t : State} (same : t.queueSide = s.queueSide) (n : Nat) : t.cq n = s.cq n :=
  congrArg (fun side : QueueSide => assoc side.cqs n) same

theorem State.ringWrite_queueSide (s : State) (kind n f sl addr key : Nat) (data : List Byte) :
    (s.ringWrite kind n f sl addr key data).queueSide = s.queueSide := State.hostWrite_queueSide ..

theorem State.writeEvent_cqs (s : State) (n ty src detail key : Nat) : (s.writeEvent n ty src detail key).host.cqs = s.host.cqs := by
  unfold State.writeEvent
  split
  · rfl
  · exact congrArg QueueSide.cqs ((State.ringWrite_queueSide ..).trans (State.ringWrite_queueSide ..))

theorem State.fireEq_cqs (s : State) (n key : Nat) : (s.fireEq n key).host.cqs = s.host.cqs := by
  unfold State.fireEq
  split
  · rfl
  · split
    · exact congrArg QueueSide.cqs (State.msix_queueSide ..)
    · rfl

theorem State.overrunEvent_cqs (s : State) (n : Nat) : (s.overrunEvent n).host.cqs = s.host.cqs := by
  unfold State.overrunEvent
  split
  · rfl
  · split
    · exact State.writeEvent_cqs ..
    · rfl

/-- An event leaves the completion queues alone. -/
theorem State.event_cqs (s : State) (n ty src detail key : Nat) : (s.event n ty src detail key).host.cqs = s.host.cqs := by
  have used : ((s.useContext (ctxNo 2 n)).overrunEvent n).host.cqs = s.host.cqs :=
    (State.overrunEvent_cqs ..).trans (congrArg QueueSide.cqs (State.useContext_queueSide ..))
  unfold State.event
  split
  · rfl
  · split
    · rfl
    · split
      · exact congrArg QueueSide.cqs (State.loadContext_queueSide ..)
      · dsimp only
        split
        · exact used
        · split
          · exact (State.fireEq_cqs ..).trans ((State.writeEvent_cqs ..).trans used)
          · exact used

/-- An armed queue that writes its event stays where it was. -/
theorem State.cq_fireCq (listed : s.cq n = some c) (key : Nat) :
    ∃ c', (s.fireCq n key).cq n = some c' ∧ c'.wpos = c.wpos ∧ c'.written = c.written := by
  unfold State.fireCq
  rw [listed]
  dsimp only
  generalize (if c.solOnly = true then !c.notable.isEmpty else c.wpos != c.consumer) = hit
  split
  · refine ⟨{ c with armed := false }, ?_, rfl, rfl⟩
    unfold State.cq
    rw [State.event_cqs]
    exact State.cq_putCq_same listed
  · exact ⟨c, listed, rfl, rfl⟩

/-- A completion is written where its queue is at hand and has room (R310). -/
theorem State.cq_writeCompletion (listed : s.cq n = some c) (ready : c.st = .ready) (writable : s.writable c.slice = true)
    (resident : s.resident (ctxNo 1 n) = true) (none_ : c.held = []) (room : posDiff c.wpos c.consumer < 2 ^ c.log) (x : Completion)
    (key : Nat) : ∃ c', (s.writeCompletion n x key).cq n = some c' ∧ c'.wpos = posAdd c.wpos 1 ∧ c'.written = c.written + 1 := by
  unfold State.writeCompletion
  rw [listed]
  dsimp only
  rw [if_neg (by simp [ready, writable]), if_neg (by simp [none_]), if_neg (by rw [resident]; decide), if_neg (Nat.not_le.2 room)]
  refine State.cq_fireCq (State.cq_putCq_same (c' := c) ?_) key
  exact (State.cq_of_queueSide
    ((State.ringWrite_queueSide ..).trans ((State.ringWrite_queueSide ..).trans (State.useContext_queueSide ..))) n).trans listed

end

end Sys2Proof.Machine
end

section
/-! PUT_NOTIFY and the SACKs of a target (family 14, R426, R431, R439). -/

namespace Sys2Proof.Machine

/-! Contexts at hand, whatever is written to the store (R286, R441) -/

section
variable (s : State)

theorem State.request_cached (b : Burst) : (s.request b).host.cached = s.host.cached := by
  unfold State.request State.wake State.exitL1
  dsimp only
  (repeat' split) <;> rfl

theorem State.hostWriteN_cached (b : Burst) (n : Nat) (data : List Byte) : (s.hostWriteN b n data).host.cached = s.host.cached := by
  induction n generalizing s b data with
  | zero => rfl
  | succ n ih =>
    unfold State.hostWriteN
    split
    · rfl
    · exact (ih ..).trans (State.request_cached ..)

theorem State.hostWrite_resident (b : Burst) (data : List Byte) (k : Nat) : (s.hostWrite b data).resident k = s.resident k := by
  have cached := State.hostWriteN_cached s b (data.length / 256 + 2) data
  have active : (s.hostWrite b data).active = s.active := (congrArg State.active (s.hostWrite_offHost b data) :)
  unfold State.resident State.ctxStored State.eff
  rw [active]
  unfold State.hostWrite
  rw [cached]

theorem State.putPeer_resident (p : Peer) (k : Nat) : (s.putPeer p).resident k = s.resident k := by
  unfold State.putPeer State.evict
  dsimp only
  split
  · exact State.hostWrite_resident ..
  · rfl

end

/-! SACK (R431) -/

section
variable {s : State} {st sl n : Nat} {a : Arrived} {p q : Peer} {c : Cq} {h : Header}

/-- The mask of a SACK: what has been received of a message, all of it where it is complete. -/
def Peer.sackMask (p : Peer) (m : Nat) : Nat :=
  if p.complete m then 0xFFFF
  else match p.trackers.find? (fun t => t.num = m) with
    | some t => (t.rcvd.map (2 ^ ·)).sum
    | none => 0

/-- A SACK answers the header that it is built from. -/
structure Built.Sacks (b : Built) (h : Header) (mask : Nat) (status : Comp) : Prop where
  cmd     : b.hdr.cmd = 0x2A
  msgId   : b.hdr.msgId = h.msgId
  dstNode : b.hdr.dstNode = h.srcNode
  ext     : ∃ echo, b.hdr.ext = BitVec.ofNat 32 (mask + at' 16 status.code + at' 24 echo)

theorem State.sack_built (s : State) (sl : Nat) (p : Peer) (h : Header) (status : Comp) : ∃ b, b.Sacks h (p.sackMask h.msgId.toNat) status
    ∧ (s.sack sl p h status).built = s.built ++ [b] ∧ (s.sack sl p h status).arrived = s.arrived
    ∧ (s.sack sl p h status).queueSide = s.queueSide := by
  unfold State.sack State.rmaAnswer
  extract_lets m mask echo u
  obtain ⟨b, tw, d, il, ib, cs, tt, carries, same⟩ := u.inject_built sl (u.stationStop h.dstStation.toNat)
    { dstNode := h.srcNode, dstStation := h.srcStation, srcNode := h.dstNode, srcStation := h.dstStation, pkey := h.pkey, cls := 5
      cmd := BitVec.ofNat 8 0x2A, msgId := h.msgId, offset := BitVec.ofNat 32 p.cum
      ext := BitVec.ofNat 32 (mask + at' 16 status.code + at' 24 echo) } [] [] none 0 true
  rw [same]
  refine ⟨b, ⟨carries.cmd, carries.msgId, carries.dstNode, echo, carries.ext⟩, ?_, ?_, State.putPeer_queueSide ..⟩
  · exact congrArg (· ++ [b]) (State.putPeer_built ..)
  · exact ((Fails.refl s).putPeer _).arrived

/-- The message is complete at the target. -/
theorem Peer.complete_finished (p : Peer) (m : Nat) : (p.finished m .ok).complete m = true := by
  unfold Peer.finished Peer.complete
  dsimp only
  rw [if_pos rfl]
  dsimp only
  split
  · assumption
  · simp

/-- A SACK of a status names it. -/
theorem fldN_sack_status {mask : Nat} (status : Comp) (echo : Nat) (within : mask < 2 ^ 16) :
    fldN (BitVec.ofNat 32 (mask + at' 16 status.code + at' 24 echo)) 23 16 = status.code % 256 := by
  simp only [fldN, at', BitVec.toNat_ofNat]
  omega

/-- A notification is written into the region's queue, and acknowledged (R439). -/
theorem State.notifies (p : Peer) (h : Header) (x : Completion) (key : Nat) (done : p.complete h.msgId.toNat = true)
    (listed : s.cq n = some c) (ready : c.st = .ready) (writable : s.writable c.slice = true) (resident : s.resident (ctxNo 1 n) = true)
    (none_ : c.held = []) (room : posDiff c.wpos c.consumer < 2 ^ c.log) :
    ∃ t, (((((s.putPeer p).countComp sl .ok).writeCompletion n x key).countSlice sl 8).sack sl p h .ok) = t ∧ t.arrived = s.arrived
      ∧ (∃ c', t.cq n = some c' ∧ c'.wpos = posAdd c.wpos 1 ∧ c'.written = c.written + 1)
      ∧ ∃ b, t.built = s.built ++ [b] ∧ b.Sacks h 0xFFFF .ok := by
  let u := (s.putPeer p).countComp sl .ok
  let v := (u.writeCompletion n x key).countSlice sl 8
  have put : Fails s u := ((Fails.refl s).putPeer p).settles ((Settles.refl _).countComp sl .ok)
  have all : Fails s v := (put.settles ((Settles.refl u).writeCompletion n x key)).countSlice ..
  have side : u.queueSide = s.queueSide := State.putPeer_queueSide ..
  have writable' : u.writable c.slice = true := by
    unfold State.writable State.slice at writable ⊢
    rw [show u.host.slices = s.host.slices from congrArg QueueSide.slices side]
    exact writable
  have resident' : u.resident (ctxNo 1 n) = true := (State.putPeer_resident s p _).trans resident
  obtain ⟨c', written, wpos, count⟩ := State.cq_writeCompletion ((State.cq_of_queueSide side n).trans listed) ready writable' resident' none_
    room x key
  obtain ⟨b, sacks, built, arrived, side'⟩ := v.sack_built sl p h .ok
  have built' : v.built = s.built :=
    (congrArg State.built ((Settles.refl u).writeCompletion n x key).offHost :).trans (State.putPeer_built s p)
  refine ⟨_, rfl, arrived.trans all.arrived, ⟨c', (State.cq_of_queueSide side' n).trans written, wpos, count⟩, b, ?_, ?_⟩
  · rw [built, built']
  · have mask : p.sackMask h.msgId.toNat = 0xFFFF := if_pos done
    exact mask ▸ sacks

/-- What the charge of an item touches. -/
theorem State.takeItem_eq (s : State) (a : Arrived) (cost : Nat) : ∃ e d cs tt, s.takeItem a cost
    = { s with arrived := s.arrived.erase a, host := { s.host with engines := e }, draws := d, counters := cs, totals := tt } :=
  ⟨_, _, _, _, rfl⟩

theorem State.putNotify_writes {rkey : Nat} (arrives : s.arrival st 0x21 = some a) (free : s.itemWaits a = false)
    (admits : s.admits a.pkt.hdr sl = true) (key : rkey = natOfBytes (a.pkt.payload.take 4))
    (lets : s.regionRefuses sl rkey 122 (fldN (s.reg R.region 0 (rkey % 65536)) 47 0) 0 = false)
    (queue : n = fldN (s.reg R.region 0 (rkey % 65536)) 103 90) (listed : s.cq n = some c) (slice : c.slice = sl) (ready : c.st = .ready)
    (writable : s.writable sl = true) (resident : s.resident (ctxNo 1 n) = true) (none_ : c.held = [])
    (room : posDiff c.wpos c.consumer < 2 ^ c.log) :
    ∃ t, exec (.putNotify st) s = .next t ∧ t.arrived = s.arrived.erase a
      ∧ (∃ c', t.cq n = some c' ∧ c'.wpos = posAdd c.wpos 1 ∧ c'.written = c.written + 1)
      ∧ ∃ b, t.built = s.built ++ [b] ∧ b.Sacks a.pkt.hdr 0xFFFF .ok := by
  obtain ⟨q, admitted⟩ := State.admits_judged admits
  subst key
  obtain ⟨e, d, cs, tt, taken⟩ := (s.usedPeer q).takeItem_eq a costInbound
  have peer : ((s.usedPeer q).takeItem a costInbound).peer (pairOf a.pkt.hdr) = some q := by rw [taken]; exact admitted.peer
  generalize item : (s.usedPeer q).takeItem a costInbound = u at taken peer
  have tracked := State.peer_track (h := a.pkt.hdr) peer 1
  have side : (u.setPeer (q.tracking a.pkt.hdr 1)).queueSide = s.queueSide := by
    rw [taken]
    rfl
  obtain ⟨t, same, arrived, written, built⟩ := (u.setPeer (q.tracking a.pkt.hdr 1)).notifies (sl := sl) (n := n) (c := c)
    ((q.tracking a.pkt.hdr 1).finished a.pkt.hdr.msgId.toNat .ok) a.pkt.hdr (notification a.pkt.hdr a.pkt.payload) (inboundKey sl)
    (Peer.complete_finished ..) ((State.cq_of_queueSide side n).trans listed) ready
    (by
      unfold State.writable State.slice at writable ⊢
      rw [show (u.setPeer (q.tracking a.pkt.hdr 1)).host.slices = s.host.slices from congrArg QueueSide.slices side, slice]
      exact writable)
    (by rw [taken]; exact resident) none_ room
  refine ⟨t, congrArg Host.Outcome.next ?_, arrived.trans (by rw [taken]; rfl), written, ?_⟩
  · refine (State.rmaArrived_takes arrives (.inr free) _).trans ?_
    dsimp only
    rw [admitted.station, admitted.judged]
    dsimp only
    rw [Option.getD_some, item, State.track_new peer admitted.untracked]
    have lets' : (u.setPeer (q.tracking a.pkt.hdr 1)).regionRefuses sl (natOfBytes (a.pkt.payload.take 4)) 122
        (fldN (s.reg R.region 0 (natOfBytes (a.pkt.payload.take 4) % 65536)) 47 0) 0 = false := by
      rw [taken]
      exact lets
    have region : (u.setPeer (q.tracking a.pkt.hdr 1)).reg R.region 0 (natOfBytes (a.pkt.payload.take 4) % 65536)
        = s.reg R.region 0 (natOfBytes (a.pkt.payload.take 4) % 65536) := by
      rw [taken]
      rfl
    have listed' : (u.setPeer (q.tracking a.pkt.hdr 1)).cq n = some c := (State.cq_of_queueSide side n).trans listed
    rw [region, if_neg (by rw [lets']; decide), ← queue, listed', State.targetPeer, tracked]
    dsimp only
    have up : (c.slice == sl && c.st == .ready) = true := by simp [slice, ready]
    simp only [up, if_true]
    exact same
  · obtain ⟨b, more, sacks⟩ := built
    exact ⟨b, more.trans (by rw [taken]; rfl), sacks⟩

end

end Sys2Proof.Machine
end

section
/-! GET_REQ and ATOMIC_REQ (family 14, R427, R428). -/

namespace Sys2Proof.Machine

section
variable {s : State} {st sl len : Nat} {a : Arrived} {p q : Peer} {h : Header}

theorem State.hostWrite_remote (s : State) (b : Burst) (data : List Byte) : (s.hostWrite b data).remote = s.remote :=
  (congrArg State.remote (s.hostWrite_offHost b data) :)

/-- A context put back is a matter of the contexts, on chip and in the store. -/
theorem State.putPeer_remote (s : State) (p : Peer) : ∃ on off, (s.putPeer p).remote = { s.remote with peers := on, stored := off } := by
  unfold State.putPeer State.evict
  dsimp only
  split
  · rw [State.hostWrite_remote]
    exact ⟨_, _, rfl⟩
  · exact ⟨_, _, rfl⟩

/-- With one read under way, and no region or atomic waiting for it, its end is a matter of the placements. -/
theorem State.settlePlacing_read {x : Placing} (one : s.remote.placing = [x]) (quiet : s.remote.invals = []) (read : x.hdr.cmd = 0x22) :
    ∃ r, s.settlePlacing = { s with remote := r } := by
  cases gone : s.keyGone x.key with
  | false => exact ⟨_, State.settlePlacing_waits one quiet gone⟩
  | true =>
    have split : s.remote.placing.partition (fun x => s.keyGone x.key) = ([x], []) := by
      rw [one, List.partition_eq_filter_filter]
      simp [gone]
    unfold State.settlePlacing State.updRemote
    simp only [split, List.foldl_cons, List.foldl_nil, read]
    simp only [quiet]
    exact ⟨_, rfl⟩

/-- A read within a page is one piece (R427). -/
theorem getPieces_one {addr : Nat} (some_ : 0 < len) (within : addr % 4096 + len ≤ 4096) : getPieces addr len = [(0, len)] := by
  have one : piecesOf addr len = 1 := by
    unfold piecesOf ceilDiv
    omega
  have all : pieceAt addr len 0 = (0, len) := by
    simp only [pieceAt, if_true, Nat.sub_zero, Prod.mk.injEq, true_and]
    omega
  rw [getPieces, if_neg (by omega), one]
  simp [all]

/-- An answer to a request is one packet more. -/
theorem State.rmaAnswer_built (s : State) (sl : Nat) (h : Header) (cmd off ext : Nat) (payload : List Byte) (wait : List (Nat × Nat)) :
    ∃ b tw d il ib c tt, b.hdr.cmd = BitVec.ofNat 8 cmd ∧ b.hdr.cls = 5 ∧ b.hdr.msgId = h.msgId ∧ b.hdr.dstNode = h.srcNode
      ∧ b.payload = payload ∧ s.rmaAnswer sl h cmd off ext payload wait = s.withBuilt b tw d il ib c tt := by
  unfold State.rmaAnswer
  obtain ⟨b, tw, d, il, ib, c, tt, carries, same⟩ := s.inject_built sl (s.stationStop h.dstStation.toNat)
    { dstNode := h.srcNode, dstStation := h.srcStation, srcNode := h.dstNode, srcStation := h.dstStation, pkey := h.pkey, cls := 5
      cmd := BitVec.ofNat 8 cmd, msgId := h.msgId, offset := BitVec.ofNat 32 off, ext := BitVec.ofNat 32 ext } payload wait none 0 true
  exact ⟨b, tw, d, il, ib, c, tt, carries.cmd, carries.cls, carries.msgId, carries.dstNode, carries.payload, same⟩

/-- One piece of a GET is read and answered by one packet. -/
theorem State.getAnswer_one (s : State) (sl key : Nat) (h : Header) (sp : Spans) (len n : Nat) : ∃ b,
    b.hdr.cmd = 0x28 ∧ b.hdr.cls = 5 ∧ b.hdr.msgId = h.msgId ∧ b.hdr.dstNode = h.srcNode ∧ b.payload.length = len
      ∧ (s.getAnswer sl key h sp [(0, len)] n 0).built = s.built ++ [b] ∧ (s.getAnswer sl key h sp [(0, len)] n 0).arrived = s.arrived
      ∧ (s.getAnswer sl key h sp [(0, len)] n 0).remote = s.remote := by
  unfold State.getAnswer
  dsimp only
  have off := s.readSpans_offHost { owner := .payload, key := key } (takeSpans (dropSpans sp 0) len) 0
  generalize s.readSpans { owner := .payload, key := key } (takeSpans (dropSpans sp 0) len) 0 = r at off ⊢
  obtain ⟨u, wait⟩ := r
  obtain ⟨b, tw, d, il, ib, c, tt, cmd, cls, msgId, dstNode, payload, same⟩ :=
    u.rmaAnswer_built sl h 0x28 0 (at' 24 (n - 1) + at' 28 0) (List.replicate len 0) wait
  have built : u.built = s.built := (congrArg State.built off :)
  have arrived : u.arrived = s.arrived := (congrArg State.arrived off :)
  have remote : u.remote = s.remote := (congrArg State.remote off :)
  refine ⟨b, cmd, cls, msgId, dstNode, by rw [payload, List.length_replicate], ?_⟩
  unfold State.getAnswer
  rw [same]
  exact ⟨congrArg (· ++ [b]) built, arrived, remote⟩

theorem State.arrival_cmd {cmd : Nat} (arrives : s.arrival st cmd = some a) : a.pkt.hdr.cmd.toNat = cmd := by
  unfold State.arrival at arrives
  have ok := List.find?_some arrives
  exact (of_decide_eq_true ok).2.1

/-- An admitted GET within a page draws one GET_RESP of its length (R427). -/
theorem State.getReq_answers (arrives : s.arrival st 0x22 = some a) (admits : s.admits a.pkt.hdr sl = true)
    (length : len = natOfBytes (a.pkt.payload.take 4)) (most : len ≤ 65536) (free : s.answersWaiting < 8192)
    (lets : s.regionRefuses sl (reqKey a.pkt.hdr) 126 (targetAddr a.pkt.hdr) len = false) (bypass : s.bypass sl = true) (some_ : 0 < len)
    (within : targetAddr a.pkt.hdr % 4096 + len ≤ 4096) (quiet : s.remote.placing = []) (settled : s.remote.invals = []) :
    ∃ t, exec (.getReq st) s = .next t ∧ t.arrived = s.arrived.erase a ∧ ∃ b, t.built = s.built ++ [b] ∧ b.hdr.cmd = 0x28 ∧ b.hdr.cls = 5
      ∧ b.hdr.msgId = a.pkt.hdr.msgId ∧ b.hdr.dstNode = a.pkt.hdr.srcNode ∧ b.payload.length = len := by
  obtain ⟨q, admitted⟩ := State.admits_judged admits
  have through := State.through_of_bypass bypass
  let v := (((s.usedPeer q).takeArrival a).newPlacing sl (reqKey a.pkt.hdr % 65536) a.pkt.hdr).1
  let sp : Spans := [(targetAddr a.pkt.hdr, len, s.regionAccess sl (reqKey a.pkt.hdr) .read (targetAddr a.pkt.hdr) ((s.inboundFunc sl).getD 0))]
  obtain ⟨b, cmd, cls, msgId, dstNode, payload, built, arrived, remote⟩ :=
    v.getAnswer_one sl (2 ^ 40 + s.remote.nextKey) a.pkt.hdr sp len 1
  generalize answered : v.getAnswer sl (2 ^ 40 + s.remote.nextKey) a.pkt.hdr sp [(0, len)] 1 0 = u at built arrived remote
  have peer : (u.countSlice sl 8).targetPeer a.pkt.hdr = some q := by
    unfold State.targetPeer State.peer
    rw [show (u.countSlice sl 8).remote = v.remote from remote]
    exact admitted.peer
  let w := (u.countSlice sl 8).putPeer (q.finished a.pkt.hdr.msgId.toNat .ok)
  obtain ⟨on, off, put⟩ := (u.countSlice sl 8).putPeer_remote (q.finished a.pkt.hdr.msgId.toNat .ok)
  have read : a.pkt.hdr.cmd = 0x22 := BitVec.eq_of_toNat_eq (State.arrival_cmd arrives)
  obtain ⟨r, ends⟩ := State.settlePlacing_read (s := w)
    (x := { key := 2 ^ 40 + s.remote.nextKey, hdr := a.pkt.hdr, slice := sl, region := reqKey a.pkt.hdr % 65536 })
    ((congrArg Remote.placing put).trans ((congrArg Remote.placing remote).trans (congrArg (· ++ [_]) quiet)))
    ((congrArg Remote.invals put).trans ((congrArg Remote.invals remote).trans settled)) read
  refine ⟨w.settlePlacing, congrArg Host.Outcome.next ?_, ?_, b, ?_, cmd, cls, msgId, dstNode, payload⟩
  · refine (State.rmaArrived_takes arrives (.inl rfl) _).trans ?_
    dsimp only
    rw [admitted.station, if_neg (Nat.not_le.2 free), admitted.judged]
    dsimp only
    have lets' : (s.usedPeer q).regionRefuses sl (reqKey a.pkt.hdr) 126 (targetAddr a.pkt.hdr) len = false := lets
    have through' : (s.usedPeer q).Through sl := ⟨through.ended, through.stage1, through.stage2, through.plain⟩
    have plain : ((s.usedPeer q).takeArrival a).serviceMode = false := through.plain
    unfold State.readGet
    dsimp only
    rw [← length, Option.getD_some, if_neg (by rw [lets']; simpa using most), through'.xlateSpan_one _ rfl 17 some_ within]
    dsimp only
    rw [State.memoryItem_plain plain, getPieces_one some_ within]
    change (match ((v.getAnswer sl (2 ^ 40 + s.remote.nextKey) a.pkt.hdr sp [(0, len)] 1 0).countSlice sl 8).targetPeer a.pkt.hdr with
      | some p => ((v.getAnswer sl (2 ^ 40 + s.remote.nextKey) a.pkt.hdr sp [(0, len)] 1 0).countSlice sl 8).putPeer (p.finished a.pkt.hdr.msgId.toNat .ok)
      | none => (v.getAnswer sl (2 ^ 40 + s.remote.nextKey) a.pkt.hdr sp [(0, len)] 1 0).countSlice sl 8).settlePlacing = _
    rw [answered, peer]
  · rw [ends]
    exact ((Fails.refl _).putPeer _).arrived.trans arrived
  · rw [ends]
    exact (State.putPeer_built ..).trans built

/-- The operation that an ATOMIC_REQ becomes (R428). -/
def State.atomicOf (s : State) (a : Arrived) (sl size : Nat) : AtomicOp :=
  { id := 2 ^ 40 + s.remote.nextKey, hdr := a.pkt.hdr, slice := sl, func := (s.inboundFunc sl).getD 0, bus := targetAddr a.pkt.hdr, size := size
    aop := a.pkt.hdr.ext.toNat / 2 ^ 24 % 8, a := natOfBytes (a.pkt.payload.take size), b := natOfBytes (a.pkt.payload.drop size) }

/-- The device once an ATOMIC_REQ has become an operation. -/
def State.withAtomic (s : State) (a : Arrived) (q : Peer) (sl size : Nat) : State :=
  ((((s.tracked a q 1).countSlice sl 8).newPlacing sl (reqKey a.pkt.hdr % 65536) a.pkt.hdr).1).updRemote
    (fun r => { r with atomics := r.atomics ++ [s.atomicOf a sl size] })

/-- An operand that is aligned lies within a page. -/
theorem aligned_within {addr size : Nat} (sizes : size = 16 ∨ size = 8) (aligned : addr % size = 0) : addr % 4096 + size ≤ 4096 := by
  rcases sizes with rfl | rfl <;> omega

/-- An admitted ATOMIC_REQ becomes an operation that reads its word (R428). -/
theorem State.atomicReq_reads {size : Nat} (arrives : s.arrival st 0x23 = some a) (admits : s.admits a.pkt.hdr sl = true)
    (sized : size = (if bit a.pkt.hdr.ext 27 then 16 else 8)) (free : s.answersWaiting < 8192)
    (alone : s.remote.atomics.all (fun x => !(targetAddr x.hdr / 64 == targetAddr a.pkt.hdr / 64 && x.slice == sl)) = true)
    (lets : s.regionRefuses sl (reqKey a.pkt.hdr) 124 (targetAddr a.pkt.hdr) size = false) (aligned : targetAddr a.pkt.hdr % size = 0)
    (known : a.pkt.hdr.ext.toNat / 2 ^ 24 % 8 ≤ 6) (operands : a.pkt.payload.length = 2 * size) (bypass : s.bypass sl = true) :
    ∃ t, exec (.atomicReq st) s = .next t ∧ t.arrived = s.arrived.erase a
      ∧ t.remote.atomics = s.remote.atomics ++ [s.atomicOf a sl size]
      ∧ ∃ g, t.host.gathers = s.host.gathers ++ [g] ∧ g.for_ = .atomic (s.atomicOf a sl size).id := by
  obtain ⟨q, admitted⟩ := State.admits_judged admits
  have through := State.through_of_bypass bypass
  have sizes : size = 16 ∨ size = 8 := by
    rw [sized]
    split
    · exact .inl rfl
    · exact .inr rfl
  let b : Burst := { owner := .gather s.host.nextGather, key := 2 ^ 40 + s.remote.nextKey }
  let acc := s.regionAccess sl (reqKey a.pkt.hdr) .atomic (targetAddr a.pkt.hdr) ((s.inboundFunc sl).getD 0)
  let sp : Spans := [(targetAddr a.pkt.hdr, size, acc)]
  let r := (s.withAtomic a q sl size).readSpans b sp 0
  have off := (s.withAtomic a q sl size).readSpans_offHost b sp 0
  have remote : r.1.remote = (s.withAtomic a q sl size).remote := (congrArg State.remote off :)
  have arrived : r.1.arrived = (s.withAtomic a q sl size).arrived := (congrArg State.arrived off :)
  have gathers : r.1.host.gathers = (s.withAtomic a q sl size).host.gathers := State.readSpans_gathers ..
  refine ⟨r.1.updHost (fun x => { x with nextGather := s.host.nextGather + 1, gathers := x.gathers ++
      [{ id := s.host.nextGather, for_ := .atomic (2 ^ 40 + s.remote.nextKey), wait := r.2, bytes := List.replicate size 0 }] }),
    congrArg Host.Outcome.next ?_, arrived, congrArg Remote.atomics remote, _, congrArg (· ++ [_]) gathers, rfl⟩
  refine (State.rmaArrived_takes arrives (.inl rfl) _).trans ?_
  dsimp only
  have quiet : s.remote.atomics.any (fun x => targetAddr x.hdr / 64 = targetAddr a.pkt.hdr / 64 ∧ some x.slice = some sl) = false :=
    List.any_eq_false.2 fun x member same => by
      have other := List.all_eq_true.1 alone x member
      simp only [decide_eq_true_eq, Option.some.injEq] at same
      simp [same.1, same.2] at other
  rw [admitted.station, if_neg (by rw [quiet]; decide), if_neg (Nat.not_le.2 free), admitted.judged]
  dsimp only
  have lets' : (s.usedPeer q).regionRefuses sl (reqKey a.pkt.hdr) 124 (targetAddr a.pkt.hdr) size = false := lets
  have through' : (s.usedPeer q).Through sl := ⟨through.ended, through.stage1, through.stage2, through.plain⟩
  have plain : ((s.usedPeer q).takeArrival a).serviceMode = false := through.plain
  have peer : ((s.usedPeer q).takeArrival a).peer (pairOf a.pkt.hdr) = some q := admitted.peer
  rw [← sized, Option.getD_some, if_neg (by
    rintro (bad | bad | bad | bad)
    · rw [lets'] at bad; exact absurd bad (by decide)
    · exact bad aligned
    · omega
    · exact bad operands), through'.xlateSpan_one _ rfl 1 (by omega) (aligned_within sizes aligned)]
  dsimp only
  rw [State.memoryItem_plain plain, State.track_new peer admitted.untracked]
  rfl

end

end Sys2Proof.Machine
end

section
/-! Answers at their initiator (family 14, R427, R431–R433): how the last message of an operation ends it. -/

namespace Sys2Proof.Machine

/-! The end of an operation (R433) -/

section
variable {s t u : State} {n pos : Nat} {pr : Pair} {p q : Peer} {m x : RMsg} {o : ROp} {a : Arrived}

theorem State.writeSpans_offHost (s : State) (b : Burst) (sp : Spans) (data : List Byte) : (s.writeSpans b sp data).offHost = s.offHost := by
  induction sp generalizing s data with
  | nil => rfl
  | cons y sp ih =>
    obtain ⟨addr, l, acc⟩ := y
    unfold State.writeSpans
    split
    · rfl
    · exact (ih ..).trans (State.hostWrite_offHost ..)

theorem Fails.writeSpans (h : Fails s t) (b : Burst) (sp : Spans) (data : List Byte) : Fails s (t.writeSpans b sp data) := by
  induction sp generalizing t data with
  | nil => exact h
  | cons y sp ih =>
    obtain ⟨addr, l, acc⟩ := y
    unfold State.writeSpans
    split
    · exact h
    · exact ih (h.hostWrite ..) _

theorem Fails.endMsg (h : Fails s t) (pr : Pair) (m : RMsg) (c : Comp) (value : Nat) : Fails s (t.endMsg pr m c value) := by
  unfold State.endMsg
  split
  · exact h
  · refine Fails.settleOp ?_ ..
    dsimp only
    split
    · exact h.putPeer _
    · refine .ite ((h.putPeer _).putRop _) (.ite (((h.putPeer _).failOp ..).rmaEvent ..) ((h.putPeer _).failOp ..))

theorem Fails.resumeOps (h : Fails s t) (pr : Pair) : Fails s (t.resumeOps pr) := by
  unfold State.resumeOps
  refine .foldl (fun v o hv => .ite ?_ hv) _ h
  unfold State.addSegment
  split
  · exact hv
  · exact hv.of_same rfl rfl rfl rfl

/-- An operation whose messages are all sent and finished ends, and its entry with it (R433). -/
theorem State.settleOp_ends (rop : u.rop n pos = some o) (all : o.all = true) (quiet : ∀ p, u.peer o.pair = some p → p.msgs = []) :
    (u.settleOp n pos).recvEntry n pos = none ∧ (u.settleOp n pos).rop n pos = none := by
  unfold State.settleOp
  rw [rop]
  dsimp only
  rw [if_neg (by
    rintro (open_ | ⟨-, short⟩)
    · split at open_
      · next p found => rw [quiet p found] at open_; exact absurd open_ Bool.false_ne_true
      · exact absurd open_ (by decide)
    · rw [all] at short; exact absurd short (by decide))]
  have dropped := u.rop_dropRop n pos
  split
  · exact ⟨State.recvEntry_finish .., ((Fails.refl _).finish ..).settled _ _ dropped⟩
  · next c d _ =>
    have finished := (Fails.refl (u.dropRop n pos)).finish n pos c o.okLen d 0 false
    have stops := Fails.stopStarting (.refl ((u.dropRop n pos).finish n pos c o.okLen d)) o.slice n
    exact ⟨stops.ended _ _ (State.recvEntry_finish ..), stops.settled _ _ (finished.settled _ _ dropped)⟩

/-- The context of a pair without messages is on chip without messages, or has gone to the store. -/
theorem State.putPeer_quiet (found : u.peer p.pair = some q) (quiet : p.msgs = []) (r : Peer) (held : (u.putPeer p).peer p.pair = some r) :
    r.msgs = [] := by
  have put : (u.setPeer p).peer p.pair = some p := State.peer_setPeer found
  unfold State.putPeer at held
  dsimp only at held
  split at held
  · have gone : ((u.setPeer p).evict p).peer p.pair = none := by
      unfold State.evict State.peer
      rw [State.hostWrite_remote]
      exact List.find?_eq_none.2 fun x member own => (of_decide_eq_true (List.mem_filter.1 member).2) (of_decide_eq_true own)
    rw [gone] at held
    cases held
  · rw [put] at held
    cases held
    exact quiet

theorem State.rop_own (rop : u.rop n pos = some o) : o.wq = n ∧ o.pos = pos := by
  unfold State.rop at rop
  have own := List.find?_some rop
  exact of_decide_eq_true own

theorem State.peer_of_remote (same : t.remote = u.remote) (pr : Pair) : t.peer pr = u.peer pr :=
  congrArg (fun r : Remote => r.peers.find? (fun x : Peer => x.pair = pr)) same

theorem State.rop_of_remote (same : t.remote = u.remote) (n pos : Nat) : t.rop n pos = u.rop n pos :=
  congrArg (fun r : Remote => r.ops.find? (fun o : ROp => o.wq = n ∧ o.pos = pos)) same

theorem State.rmaEvent_remote (s : State) (sl n source detail : Nat) : (s.rmaEvent sl n source detail).remote = s.remote := by
  unfold State.rmaEvent
  split
  · exact (congrArg State.remote (s.sliceEvent_offHost ..) :)
  · rfl

/-- A message is the last of its operation, and its peer has no other. -/
structure State.LastMsg (u : State) (p : Peer) (m : RMsg) (o : ROp) : Prop where
  peer  : u.peer p.pair = some p
  only  : p.msgs = [m]
  rop   : u.rop m.wq m.pos = some o
  pair  : o.pair = p.pair
  all   : o.all = true
  sound : o.failed = none

theorem State.LastMsg.of_remote (last : u.LastMsg p m o) (same : t.remote = u.remote) : t.LastMsg p m o := by
  obtain ⟨peer, only, rop, pair, all, sound⟩ := last
  exact ⟨(State.peer_of_remote same _).trans peer, only, (State.rop_of_remote same _ _).trans rop, pair, all, sound⟩

/-- The end of the last message ends the operation and its entry, whatever the outcome (R433, R444). -/
theorem State.LastMsg.endMsg (last : u.LastMsg p m o) (own : x.num = m.num ∧ x.wq = m.wq ∧ x.pos = m.pos) (c : Comp) (value : Nat) :
    (u.endMsg p.pair x c value).recvEntry m.wq m.pos = none ∧ (u.endMsg p.pair x c value).rop m.wq m.pos = none := by
  obtain ⟨num, wq, at_⟩ := own
  let p' : Peer := { p with msgs := p.msgs.filter (fun y => y.num ≠ x.num) }
  have quiet : p'.msgs = [] := by simp [p', last.only, num]
  have held : ∀ r, (u.putPeer p').peer o.pair = some r → r.msgs = [] := fun r found =>
    State.putPeer_quiet (p := p') last.peer quiet r (last.pair ▸ found)
  obtain ⟨on, off, put⟩ := u.putPeer_remote p'
  have rop : (u.putPeer p').rop m.wq m.pos = some o := by
    unfold State.rop
    rw [put]
    exact last.rop
  have same := State.rop_own rop
  unfold State.endMsg
  rw [last.peer, wq, at_]
  dsimp only
  rw [rop]
  dsimp only
  by_cases ok : c = Comp.ok
  · rw [if_pos ok]
    exact State.settleOp_ends (State.rop_putRop rop same) last.all held
  · rw [if_neg ok]
    have failed : (u.putPeer p').failOp m.wq m.pos x.num c 0 = (u.putPeer p').putRop { o with failed := some (x.num, c, 0) } := by
      unfold State.failOp
      rw [rop]
      dsimp only
      rw [last.sound]
    have fails := State.rop_putRop (o := { o with failed := some (x.num, c, 0) }) rop same
    rw [failed]
    split
    · have same' := ((u.putPeer p').putRop { o with failed := some (x.num, c, 0) }).rmaEvent_remote o.slice 0 (pairSource p.pair)
        (p.pair.station + at' 16 x.num + at' 40 o.cls)
      exact State.settleOp_ends ((State.rop_of_remote same' ..).trans fails) last.all fun r found =>
        held r ((State.peer_of_remote same' _).symm.trans found)
    · exact State.settleOp_ends fails last.all held

end

end Sys2Proof.Machine
end

section
/-! GET_RESP, ATOMIC_RESP and SACK (family 14, R427, R431, R432). -/

namespace Sys2Proof.Machine

/-! Acknowledged packets (R432, R434, R437) -/

/-- From `p` to `q` timers and windows may have moved: the messages and the pair stand. -/
structure Peer.Paced (p q : Peer) : Prop where
  pair : q.pair = p.pair
  msgs : q.msgs = p.msgs

section
variable {s t u : State} {pr : Pair} {p q r : Peer} {m : RMsg} {o : ROp} {a : Arrived} {st : Nat}

theorem Peer.Paced.refl (p : Peer) : p.Paced p := ⟨rfl, rfl⟩

theorem Peer.Paced.trans (h : p.Paced q) (h' : q.Paced r) : p.Paced r := ⟨h'.pair.trans h.pair, h'.msgs.trans h.msgs⟩

theorem State.sample_paced (s : State) (p : Peer) (t : Nat) : p.Paced (s.sample p t) := ⟨rfl, rfl⟩

theorem State.acked_paced (s : State) (p : Peer) (k c : Nat) : p.Paced (s.acked p k c) := by
  unfold State.acked
  dsimp only
  (repeat' split) <;> exact ⟨rfl, rfl⟩

/-- Samples of the packets that were sent once. -/
theorem State.samples_paced (s : State) (m : RMsg) (ids : List Nat) (p : Peer) : p.Paced (ids.foldl (fun p i =>
    if m.again.contains i then p else match m.times[i]? with | some t => s.sample p (s.uptime - t) | none => p) p) := by
  refine List.foldlRecOn (motive := fun q => p.Paced q) ids _ (.refl p) fun q paced i _ => ?_
  split
  · exact paced
  · split
    · exact paced.trans (s.sample_paced ..)
    · exact paced

/-- The last message of an operation, put down anew: its context stays on chip. -/
theorem State.LastMsg.put (last : u.LastMsg p m o) (pair : q.pair = p.pair) {m' : RMsg} (own : m'.wq = m.wq ∧ m'.pos = m.pos) :
    (u.putPeer { q with msgs := [m'] }).LastMsg { q with msgs := [m'] } m' o := by
  obtain ⟨wq, at_⟩ := own
  have pair' : { q with msgs := [m'] : Peer }.pair = p.pair := pair
  rw [State.putPeer_busy (by simp [Peer.idle])]
  refine ⟨State.peer_setPeer (pair'.symm ▸ last.peer), rfl, ?_, last.pair.trans pair.symm, last.all, last.sound⟩
  rw [wq, at_]
  exact last.rop

theorem State.LastMsg.found (last : u.LastMsg p m o) : p.msgs.find? (fun x => x.num = m.num) = some m := by simp [last.only]

theorem State.ackPackets_last (last : u.LastMsg p m o) (ids : List Nat) (echo : Nat) : ∃ q timer, q.pair = p.pair
    ∧ (u.ackPackets p.pair m.num ids echo).LastMsg q
      { m with acked := m.acked ++ ids.filter (fun i => !m.acked.contains i ∧ i < m.pkts), timer := timer } o := by
  unfold State.ackPackets
  rw [last.peer]
  dsimp only
  rw [last.found]
  dsimp only
  generalize (ids.filter (fun i => !m.acked.contains i ∧ i < m.pkts)) = new
  generalize paces : u.acked (List.foldl _ p new) new.length echo = q
  have paced : p.Paced q := paces ▸ (u.samples_paced m new p).trans (u.acked_paced ..)
  have msgs : q.msgs = [m] := paced.msgs.trans last.only
  rw [msgs, List.map_singleton, if_pos rfl]
  exact ⟨{ q with msgs := [_] }, _, paced.pair, last.put paced.pair (by exact ⟨rfl, rfl⟩)⟩

/-- The one piece of a GET is there. -/
theorem State.gotPiece_last (last : u.LastMsg p m o) (i : Nat) : ∃ q timer, q.pair = p.pair
    ∧ (u.gotPiece p.pair m.num i).LastMsg q { m with acked := m.acked ++ [i], timer := timer } o := by
  unfold State.gotPiece
  rw [last.peer]
  dsimp only
  rw [last.found]
  dsimp only
  generalize paces : (if (m.acked ++ [i]).length < m.pkts then p else _) = q
  have paced : p.Paced q := by
    rw [← paces]
    split
    · exact .refl p
    · refine Peer.Paced.trans ?_ (u.acked_paced ..)
      split
      · split
        · exact u.sample_paced ..
        · exact .refl p
      · exact .refl p
  have msgs : q.msgs = [m] := paced.msgs.trans last.only
  rw [msgs, List.map_singleton, if_pos rfl]
  exact ⟨{ q with msgs := [_] }, _, paced.pair, last.put paced.pair (by exact ⟨rfl, rfl⟩)⟩

theorem Fails.ackPackets (h : Fails s t) (pr : Pair) (num : Nat) (ids : List Nat) (echo : Nat) : Fails s (t.ackPackets pr num ids echo) := by
  unfold State.ackPackets
  split
  · exact h
  · split
    · exact h
    · exact h.putPeer _

theorem Fails.gotPiece (h : Fails s t) (pr : Pair) (num i : Nat) : Fails s (t.gotPiece pr num i) := by
  unfold State.gotPiece
  split
  · exact h
  · split
    · exact h
    · exact h.putPeer _

/-! Answers (R427, R432) -/

/-- The operation of a message has ended, and so has its entry. -/
structure State.Over (t : State) (m : RMsg) : Prop where
  entry : t.recvEntry m.wq m.pos = none
  op    : t.rop m.wq m.pos = none

theorem State.Over.fails (gone : t.Over m) (h : Fails t u) : u.Over m := ⟨h.ended _ _ gone.entry, h.settled _ _ gone.op⟩

/-- The end of the last message, and what its peer's other operations then do. -/
theorem State.LastMsg.ends (last : u.LastMsg p m o) {x : RMsg} (own : x.num = m.num ∧ x.wq = m.wq ∧ x.pos = m.pos) (c : Comp)
    (value : Nat) (pr : Pair) : ((u.endMsg p.pair x c value).resumeOps pr).Over m := by
  obtain ⟨entry, op⟩ := last.endMsg own c value
  exact State.Over.fails ⟨entry, op⟩ ((Fails.refl _).resumeOps pr)

/-- What `answered` finds is a message of its pair. -/
theorem State.answered_iff {h : Header} {k : RKind → Bool} : s.answered h k = some (p, m) ↔
    s.peer (pairOf h) = some p ∧ p.msgs.find? (fun m => m.num = h.msgId.toNat ∧ k m.kind) = some m := by
  unfold State.answered
  cases s.peer (pairOf h) with
  | none => simp
  | some q => simp; grind

end

end Sys2Proof.Machine
end

section
/-! GET_RESP, ATOMIC_RESP and SACK of the last message of an operation (family 14, R427, R431, R432). -/

namespace Sys2Proof.Machine

section
variable {s u : State} {p : Peer} {m : RMsg} {o : ROp} {a : Arrived} {st : Nat}

/-- The message that an answer names, alone at its peer, and the last of an operation that has not failed. -/
theorem State.LastMsg.of_answered {k : RKind → Bool} (names : s.answered a.pkt.hdr k = some (p, m)) (only : p.msgs = [m])
    (rop : s.rop m.wq m.pos = some o) (pair : o.pair = p.pair) (all : o.all = true) (sound : o.failed = none) : s.LastMsg p m o := by
  have found := (State.answered_iff.1 names).1
  exact ⟨State.pair_of_peer found ▸ found, only, rop, pair, all, sound⟩

/-- The message is still what the answer names. -/
theorem State.LastMsg.answered (last : u.LastMsg p m o) {h : Header} {k : RKind → Bool} (pair : p.pair = pairOf h)
    (num : m.num = h.msgId.toNat) (kind : k m.kind = true) : u.answered h k = some (p, m) :=
  State.answered_iff.2 ⟨pair ▸ last.peer, by simp [last.only, num, kind]⟩

/-- What an answer's message is called. -/
theorem State.answered_names {h : Header} {k : RKind → Bool} (names : s.answered h k = some (p, m)) :
    p.pair = pairOf h ∧ m.num = h.msgId.toNat ∧ k m.kind = true := by
  obtain ⟨found, first⟩ := State.answered_iff.1 names
  have ok := List.find?_some first
  exact ⟨State.pair_of_peer found, of_decide_eq_true ok⟩

/-- A GET_RESP that brings the one piece of the last message ends its operation, and so does one that refuses it (R427, R432). -/
theorem State.getResp_ends (arrives : s.arrival st 0x28 = some a) (names : s.answered a.pkt.hdr (· == .get) = some (p, m))
    (piece : a.pkt.hdr.ext.toNat / 2 ^ 28 = 0) (fresh : m.acked = []) (one : m.pkts = 1) (last : s.LastMsg p m o) :
    ∃ t, exec (.getResp st) s = .next t ∧ t.arrived = s.arrived.erase a ∧ t.Over m := by
  obtain ⟨pair, num, kind⟩ := State.answered_names names
  have last' : (s.takeArrival a).LastMsg p m o := last.of_remote rfl
  have names' : (s.takeArrival a).answered a.pkt.hdr (· == .get) = some (p, m) := names
  by_cases refused : (s.takeArrival a).answerCode p a.pkt.hdr = Comp.ok
  · let w := (s.takeArrival a).writeSpans { key := opKey m.wq m.pos, stale := m.stale }
      (takeSpans (dropSpans m.spans a.pkt.hdr.offset.toNat) a.pkt.payload.length) a.pkt.payload
    have written : w.LastMsg p m o := last'.of_remote (congrArg State.remote (State.writeSpans_offHost ..) :)
    obtain ⟨q, timer, same, got⟩ := State.gotPiece_last written 0
    have fails : Fails (s.takeArrival a) (w.gotPiece p.pair m.num 0) := ((Fails.refl _).writeSpans ..).gotPiece ..
    have again := got.answered (h := a.pkt.hdr) (k := (· == .get)) (same.trans pair) num kind
    have ends := got.ends (x := { m with acked := m.acked ++ [0], timer := timer }) ⟨rfl, rfl, rfl⟩ .ok 0 q.pair
    refine ⟨((w.gotPiece p.pair m.num 0).endMsg q.pair { m with acked := m.acked ++ [0], timer := timer } .ok).resumeOps q.pair,
      congrArg Host.Outcome.next ?_, ((fails.endMsg ..).resumeOps ..).arrived, ends.entry, ends.op⟩
    refine (State.rmaArrived_takes arrives (.inl rfl) _).trans ?_
    dsimp only
    rw [names']
    dsimp only
    rw [if_neg (not_not.2 refused), piece, if_neg (by rw [fresh]; exact Bool.false_ne_true)]
    rw [again, same]
    exact if_pos (by rw [one, fresh]; exact le_rfl)
  · have ends := last'.ends (x := m) ⟨rfl, rfl, rfl⟩ ((s.takeArrival a).answerCode p a.pkt.hdr) 0 p.pair
    refine ⟨_, congrArg Host.Outcome.next ?_, (((Fails.refl (s.takeArrival a)).endMsg ..).resumeOps ..).arrived, ends.entry, ends.op⟩
    refine (State.rmaArrived_takes arrives (.inl rfl) _).trans ?_
    dsimp only
    rw [names']
    exact if_pos refused

/-- An ATOMIC_RESP ends its operation (R432). -/
theorem State.atomicResp_ends (arrives : s.arrival st 0x29 = some a) (names : s.answered a.pkt.hdr (· == .atomic) = some (p, m))
    (last : s.LastMsg p m o) : ∃ t, exec (.atomicResp st) s = .next t ∧ t.arrived = s.arrived.erase a ∧ t.Over m := by
  have last' : (s.takeArrival a).LastMsg p m o := last.of_remote rfl
  have names' : (s.takeArrival a).answered a.pkt.hdr (· == .atomic) = some (p, m) := names
  by_cases refused : (s.takeArrival a).answerCode p a.pkt.hdr = Comp.ok
  · obtain ⟨q, timer, same, acked⟩ := State.ackPackets_last last' [0] 0
    let w := ((s.takeArrival a).ackPackets p.pair m.num [0] 0).writeSpans { key := opKey m.wq m.pos, stale := m.stale } m.spans a.pkt.payload
    have written : w.LastMsg q _ o := acked.of_remote (congrArg State.remote (State.writeSpans_offHost ..) :)
    have fails : Fails (s.takeArrival a) w := ((Fails.refl _).ackPackets ..).writeSpans ..
    have ends := written.ends (x := m) ⟨rfl, rfl, rfl⟩ .ok (natOfBytes a.pkt.payload) q.pair
    refine ⟨(w.endMsg q.pair m .ok (natOfBytes a.pkt.payload)).resumeOps q.pair, congrArg Host.Outcome.next ?_,
      ((fails.endMsg ..).resumeOps ..).arrived, ends.entry, ends.op⟩
    refine (State.rmaArrived_takes arrives (.inl rfl) _).trans ?_
    dsimp only
    rw [names']
    rw [same]
    exact if_neg (not_not.2 refused)
  · have ends := last'.ends (x := m) ⟨rfl, rfl, rfl⟩ ((s.takeArrival a).answerCode p a.pkt.hdr) 0 p.pair
    refine ⟨_, congrArg Host.Outcome.next ?_, (((Fails.refl (s.takeArrival a)).endMsg ..).resumeOps ..).arrived, ends.entry, ends.op⟩
    refine (State.rmaArrived_takes arrives (.inl rfl) _).trans ?_
    dsimp only
    rw [names']
    exact if_pos refused

/-- All that a mask names of a message not acknowledged yet is new. -/
theorem new_of_maskIds (mask pkts : Nat) : (maskIds mask pkts).filter (fun i => !(([] : List Nat).contains i) ∧ i < pkts) = maskIds mask pkts :=
  List.filter_eq_self.2 fun i member => by
    have within : i < pkts := List.mem_range.1 (List.mem_filter.1 member).1
    simp [within]

/-- A SACK that names every packet of the last message ends its operation, and so does one that refuses it (R431, R432). -/
theorem State.sack_ends (arrives : s.arrival st 0x2A = some a) (free : s.itemWaits a = false)
    (names : s.answered a.pkt.hdr sacked = some (p, m))
    (whole : (maskIds (a.pkt.hdr.ext.toNat % 65536) m.pkts).length = m.pkts) (fresh : m.acked = []) (last : s.LastMsg p m o) :
    ∃ t, exec (.sack st) s = .next t ∧ t.arrived = s.arrived.erase a ∧ t.Over m := by
  obtain ⟨pair, num, kind⟩ := State.answered_names names
  obtain ⟨e, d, cs, tt, taken⟩ := s.takeItem_eq a costService
  generalize item : s.takeItem a costService = u at taken
  have remote : u.remote = s.remote := by rw [taken]
  have arrived : u.arrived = s.arrived.erase a := by rw [taken]
  have last' : u.LastMsg p m o := last.of_remote remote
  have peer : u.peer (pairOf a.pkt.hdr) = some p := pair ▸ last'.peer
  have names' : u.answered a.pkt.hdr sacked = some (p, m) := last'.answered pair num kind
  have covered : p.msgs.filter (fun x => sacked x.kind ∧ atOrBefore x.num (a.pkt.hdr.offset.toNat % 2 ^ 24) ∧ x.num ≠ a.pkt.hdr.msgId.toNat)
      = [] := by simp [last'.only, num]
  have refuses : ∀ c : Comp, ∃ t, (u.endMsg p.pair m c).resumeOps p.pair = t ∧ t.arrived = s.arrived.erase a ∧ t.Over m := fun c =>
    ⟨_, rfl, (((Fails.refl u).endMsg ..).resumeOps ..).arrived.trans arrived, last'.ends ⟨rfl, rfl, rfl⟩ c 0 p.pair⟩
  have runs : ∀ f, s.rmaArrived st 0x2A f = f s a a.pkt.hdr := fun f => State.rmaArrived_takes arrives (.inr free) f
  by_cases key : u.holdsKey p.slice a.pkt.hdr.pkey.toNat = true
  · by_cases refused : u.answerCode p a.pkt.hdr = Comp.ok
    · obtain ⟨q, timer, same, acked⟩ := State.ackPackets_last last' (maskIds (a.pkt.hdr.ext.toNat % 65536) m.pkts)
        (a.pkt.hdr.ext.toNat / 2 ^ 24 % 4)
      rw [fresh, new_of_maskIds, List.nil_append] at acked
      have again := acked.answered (h := a.pkt.hdr) (k := sacked) (same.trans pair) num kind
      have fails := (Fails.refl u).ackPackets p.pair m.num (maskIds (a.pkt.hdr.ext.toNat % 65536) m.pkts) (a.pkt.hdr.ext.toNat / 2 ^ 24 % 4)
      have ends := acked.ends (x := { m with acked := maskIds (a.pkt.hdr.ext.toNat % 65536) m.pkts, timer := timer }) ⟨rfl, rfl, rfl⟩ .ok 0 p.pair
      refine ⟨_, congrArg Host.Outcome.next ?_, ((fails.endMsg ..).resumeOps ..).arrived.trans arrived, ends.entry, ends.op⟩
      refine (runs _).trans ?_
      dsimp only
      rw [item, peer]
      dsimp only
      rw [if_neg (by rw [key]; decide), covered, List.foldl_nil, names']
      dsimp only
      rw [if_neg (not_not.2 refused), again]
      dsimp only
      rw [if_pos (.inl whole.ge), same]
    · obtain ⟨t, same, moved, ended⟩ := refuses (u.answerCode p a.pkt.hdr)
      refine ⟨t, congrArg Host.Outcome.next ?_, moved, ended⟩
      refine (runs _).trans ?_
      dsimp only
      rw [item, peer]
      dsimp only
      rw [if_neg (by rw [key]; decide), covered, List.foldl_nil, names']
      dsimp only
      rw [if_pos refused, same]
  · obtain ⟨t, same, moved, ended⟩ := refuses .partitionReject
    refine ⟨t, congrArg Host.Outcome.next ?_, moved, ended⟩
    refine (runs _).trans ?_
    dsimp only
    rw [item, peer]
    dsimp only
    rw [if_pos (by simpa using key), names']
    exact same

end

end Sys2Proof.Machine
end

section
/-! Timers of remote memory, and the invalidation of a region (family 14, R419, R431, R435, R437; O39). -/

namespace Sys2Proof.Machine

section
variable {s u : State} {pr : Pair} {num : Nat} {p q : Peer} {m : RMsg} {o : ROp} {w : Wq} {e : WqEntry} {x : Tracker}

/-- What the charge of a station's item touches. -/
theorem State.stationItem_eq (s : State) (x cost : Nat) : ∃ e d cs tt, s.stationItem x cost
    = { s with host := { s.host with engines := e }, draws := d, counters := cs, totals := tt } := ⟨_, _, _, _, rfl⟩

/-- A SACK delay that ends sends what is owed (R431). -/
theorem State.sackDelay_sends (peer : s.peer pr = some p) (tracker : p.trackers.find? (fun t => t.num = num) = some x)
    (owed : p.owed.any (fun o => o.1 = num) = true) : ∃ t, exec (.sackDelayExpiry pr num) s = .next t
      ∧ ∃ b, t.built = s.built ++ [b] ∧ b.Sacks x.hdr (p.sackMask x.hdr.msgId.toNat) .ok := by
  obtain ⟨b, sacks, built, -, -⟩ := (s.stationItem pr.station costTimer).sack_built p.slice p x.hdr .ok
  refine ⟨_, congrArg Host.Outcome.next ?_, b, built, sacks⟩
  rw [peer]
  dsimp only
  rw [tracker]
  exact if_pos owed

/-! Retransmission (R435, R437) -/

/-- A message whose one packet is due again. -/
def RMsg.dueAgain (m : RMsg) (tick : Nat) : RMsg := { m with tries := m.tries + 1, timer := tick, due := [0] }

/-- The message once the packet has been sent again. -/
def RMsg.sentAgain (m : RMsg) : RMsg := { m with due := [], again := if m.again.contains 0 then m.again else m.again ++ [0] }

/-- One packet of inline data that is due goes out again (R435). -/
theorem State.resend_one (peer : u.peer o.pair = some q) (only : q.msgs = [m]) (due : m.due = [0]) (kind : m.kind = .put)
    (inline : entryUnits e.bytes ≠ 0) (shaped : u.shaperHolds o.slice o.cls = false) : ∃ b tw d il ib c tt data,
    b.Requests o m.sentAgain data
      ∧ u.resend o w e m.num 1 = (((u.setPeer { q with msgs := [m.sentAgain] }).withBuilt b tw d il ib c tt).countSlice o.slice 20, none) := by
  have pair := State.pair_of_peer peer
  have found : q.msgs.find? (fun x => x.num = m.num) = some m := by simp [only]
  let data := ((entryInline e.bytes).drop (m.off + (pieceAt m.addr m.len 0).1)).take (pieceAt m.addr m.len 0).2
  obtain ⟨b, tw, d, il, ib, c, tt, requests, sent⟩ := (u.setPeer { q with msgs := [m.sentAgain] }).sendRequest_built o m.sentAgain e data
  refine ⟨b, tw, d, il, ib, c, tt, data, requests, ?_⟩
  have read : u.requestData o m 0 w e = (u, .ok (data, [])) := by
    unfold State.requestData
    rw [kind]
    exact if_pos inline
  have put : u.putMsg o.pair m.sentAgain = u.setPeer { q with msgs := [m.sentAgain] } := by
    unfold State.putMsg
    rw [peer]
    dsimp only
    rw [only, List.map_singleton, if_pos (show m.num = m.sentAgain.num from rfl)]
    exact State.putPeer_busy (by simp [Peer.idle])
  have again : u.sendAgain o m 0 w e = (((u.setPeer { q with msgs := [m.sentAgain] }).withBuilt b tw d il ib c tt).countSlice o.slice 20, none) := by
    unfold State.sendAgain
    rw [read]
    dsimp only
    rw [due]
    refine (congrArg (fun v : State => ((v.sendRequest o m 0 e data []).countSlice o.slice 20, (none : Option XRes))) put).trans ?_
    exact congrArg (fun v : State => (v.countSlice o.slice 20, (none : Option XRes))) sent
  unfold State.resend
  rw [peer, Option.bind_some, found]
  dsimp only
  rw [due]
  dsimp only
  rw [if_neg (by rw [shaped]; decide), again]
  rfl

/-- The context of a peer whose message is sent again: the timeout is doubled, the window halved. -/
def State.backOff (s : State) (p : Peer) (m : RMsg) : Peer :=
  { p with rto := some (min (2 * s.rtoOf p) s.rtoMax), pwnd := some (max 256 (s.pwndOf p / 2)), msgs := [m] }

theorem State.addSegment_keeps (s : State) (n pos : Nat) : (s.addSegment n pos).built = s.built ∧ (s.addSegment n pos).remote = s.remote := by
  unfold State.addSegment
  split <;> exact ⟨rfl, rfl⟩

/-- A retransmission timeout of a message's one packet sends it again and backs off (R435, R437). -/
theorem State.retransmit_again (peer : s.peer pr = some p) (only : p.msgs = [m]) (own : m.num = num) (sent : m.sent = 1) (none_ : m.acked = [])
    (kind : m.kind = .put) (tries : m.tries < s.retryLimit) (rop : s.rop m.wq m.pos = some o) (pair : o.pair = pr)
    (key : s.holdsKey o.slice o.pkey.toNat = true) (shaped : s.shaperHolds o.slice o.cls = false)
    (entry : s.recvEntry m.wq m.pos = some (w, e)) (inline : entryUnits e.bytes ≠ 0) :
    ∃ t, exec (.retransmitTimeout pr num) s = .next t
      ∧ (∃ b data, t.built = s.built ++ [b] ∧ b.Requests o (m.dueAgain s.uptime).sentAgain data)
      ∧ t.peer pr = some (s.backOff p (m.dueAgain s.uptime).sentAgain) := by
  subst own pair
  have ofPair := State.pair_of_peer peer
  have found : p.msgs.find? (fun x => x.num = m.num) = some m := by simp [only]
  let put := s.backOff p (m.dueAgain s.uptime)
  obtain ⟨e₁, d₁, c₁, t₁, charged₁⟩ := s.stationItem_eq o.pair.station costTimer
  generalize item₁ : s.stationItem o.pair.station costTimer = u₁ at charged₁
  obtain ⟨e₂, d₂, c₂, t₂, charged₂⟩ := u₁.stationItem_eq o.pair.station costService
  generalize item₂ : u₁.stationItem o.pair.station costService = u₂ at charged₂
  have due : (List.range m.sent).filter (fun i => !sacked m.kind || !m.acked.contains i) = [0] := by
    rw [sent, none_, kind]
    decide
  have peer₂ : u₂.peer put.pair = some p := by
    rw [charged₂, charged₁]
    exact ofPair.symm ▸ peer
  have held : (u₂.setPeer put).peer o.pair = some put := ofPair ▸ State.peer_setPeer peer₂
  have shaped₂ : (u₂.setPeer put).shaperHolds o.slice o.cls = false := by
    rw [charged₂, charged₁]
    exact shaped
  obtain ⟨b, tw, d, il, ib, c, tt, data, requests, resent⟩ := State.resend_one (w := w) (m := m.dueAgain s.uptime) held rfl rfl kind inline shaped₂
  let v := (((u₂.setPeer put).setPeer (s.backOff p (m.dueAgain s.uptime).sentAgain)).withBuilt b tw d il ib c tt).countSlice o.slice 20
  have runs : exec (.retransmitTimeout o.pair m.num) s = .next (if v.wantsRun o then v.addSegment m.wq m.pos else v) := by
    refine congrArg Host.Outcome.next ?_
    rw [peer]
    dsimp only
    rw [found]
    dsimp only
    rw [if_neg (by omega), item₁]
    have limit : u₁.retryLimit = s.retryLimit := by rw [charged₁]; rfl
    have rop₁ : u₁.rop m.wq m.pos = some o := by rw [charged₁]; exact rop
    have entry₁ : u₁.recvEntry m.wq m.pos = some (w, e) := by rw [charged₁]; exact entry
    have key₁ : u₁.holdsKey o.slice o.pkey.toNat = true := by rw [charged₁]; exact key
    have busy : u₂.putPeer put = u₂.setPeer put := State.putPeer_busy (by simp [put, State.backOff, Peer.idle])
    have put₁ : { p with rto := some (min (2 * u₁.rtoOf p) u₁.rtoMax), pwnd := some (max 256 (u₁.pwndOf p / 2))
                         msgs := p.msgs.map (fun y => if y.num = m.num then { y with tries := y.tries + 1, timer := u₁.uptime, due := [0] }
                           else y) } = put := by
      rw [only, List.map_singleton, if_pos rfl, charged₁]
      rfl
    rw [limit, if_neg (Nat.not_le.2 tries), rop₁, entry₁]
    dsimp only
    rw [if_neg (by rw [key₁]; decide), item₂, due, put₁, busy]
    rw [show m.num = (m.dueAgain s.uptime).num from rfl, show ([0] : List Nat).length = 1 from rfl, resent]
    rfl
  have built : v.built = s.built ++ [b] := by
    show u₂.built ++ [b] = _
    rw [charged₂, charged₁]
  have peer' : v.peer o.pair = some (s.backOff p (m.dueAgain s.uptime).sentAgain) := by
    have own : (s.backOff p (m.dueAgain s.uptime).sentAgain).pair = o.pair := ofPair
    exact own ▸ State.peer_setPeer (own.symm ▸ held)
  obtain ⟨segBuilt, segRemote⟩ := v.addSegment_keeps m.wq m.pos
  refine ⟨_, runs, ?_⟩
  split
  · exact ⟨⟨b, data, segBuilt.trans built, requests⟩, (State.peer_of_remote segRemote _).trans peer'⟩
  · exact ⟨⟨b, data, built, requests⟩, peer'⟩

end

/-! REGION_INVALIDATE (R416, R419) -/

section
variable {s : State} {q : Req} {role : Role} {n : Nat} {v x : Image}

/-- A field takes a number modulo its width. -/
theorem fldN_setFld_mod {w : Nat} (v : BitVec w) {hi lo : Nat} (k : Nat) (ordered : lo ≤ hi) (inside : hi < w) :
    fldN (setFld v hi lo k) hi lo = k % 2 ^ (hi + 1 - lo) := by
  have same : setFld v hi lo k = setFld v hi lo (k % 2 ^ (hi + 1 - lo)) := by
    unfold setFld
    rw [Nat.mod_mod]
  rw [same]
  exact fldN_setFld_same v ordered inside (Nat.mod_lt _ (Nat.two_pow_pos _))

/-- A region that is invalidated, with no placement in it, takes its next generation and loses VALID (R419). -/
theorem State.region_invalidated (command : x = setFld v 127 127 0) (accepted : s.mayWrite q role R.region 0 n x = true)
    (was : bit (s.reg R.region 0 n) 127 = true) (rising : Table.risingFrom none s.dict = true)
    (quiet : s.remote.placing.all (fun x => x.region != n) = true) : ∃ t, exec (.regionInvalidate q n v) s = .next t
      ∧ t.reg R.region 0 n = setFld (R.region.merge (s.reg R.region 0 n) x) 111 104 (regionGen (s.reg R.region 0 n) + 1) := by
  have clear : bit x 127 = false := by
    rw [command, bit_setFld _ _ (by decide) (by decide), if_pos (by decide)]
    rfl
  have accepted' : s.mayWrite (q.entries n 1) role R.region 0 n x = true := accepted
  obtain ⟨b, a, au, an, sf, served, -⟩ := State.writeRun_done accepted' (regionRule (q.entries n 1)) (fun _ _ => rfl) (fun _ _ => rfl)
    (fun b a au an sf => by
      unfold regionRule State.regionBad
      simp [clear])
  subst command
  refine ⟨_, rfl, (served.reg ..).trans ?_⟩
  rw [State.storeVal_stored (by decide)]
  have held : ((s.taken b a au an sf).setReg R.region 0 n (R.region.merge (s.reg R.region 0 n) (setFld v 127 127 0))).reg R.region 0 n
      = R.region.merge (s.reg R.region 0 n) (setFld v 127 127 0) := State.reg_setReg_same _ _ _ _ rising
  have free : s.remote.placing.any (fun y => y.region = n ∧ y.slice = fldN (s.reg R.region 0 n) 119 112) = false :=
    List.any_eq_false.2 fun y member own => by
      have other := List.all_eq_true.1 quiet y member
      simp only [decide_eq_true_eq] at own
      simp [own.1] at other
  have effect : ∀ u : State, u.remote = s.remote → ((regionRule (q.entries n 1) n (s.reg R.region 0 n) (setFld v 127 127 0)).eff u).1
      = u.setReg R.region 0 n (setFld (u.reg R.region 0 n) 111 104 (regionGen (s.reg R.region 0 n) + 1)) := by
    intro u same
    unfold regionRule
    dsimp only
    rw [if_pos ⟨was, by rw [clear]; rfl⟩, if_neg (by
      rw [show (State.setReg _ _ _ _ _).remote = s.remote from same, free]
      decide)]
  rw [effect ((s.taken b a au an sf).setReg R.region 0 n (R.region.merge ((s.taken b a au an sf).reg R.region 0 n) (setFld v 127 127 0))) rfl]
  refine (State.reg_setReg_same _ _ _ _ (Table.rising_set _ _ _ rising)).trans ?_
  exact congrArg (fun y : Image => setFld y 111 104 (regionGen (s.reg R.region 0 n) + 1)) held

/-- An invalidated region is not valid. -/
theorem bit_region_invalid (old v : Image) (k : Nat) : bit (setFld (R.region.merge old (setFld v 127 127 0)) 111 104 k) 127 = false := by
  rw [bit_setFld _ _ (by decide) (by decide), if_neg (by decide), bit_merge ⟨rfl, rfl⟩ _ _ (by decide), if_pos (by decide),
    bit_setFld _ _ (by decide) (by decide), if_pos (by decide)]
  rfl

end

/-- Settles O39: an admitted request finds its context and its access goes through as it is; an answer to the last message of an operation finishes the message, with it the operation and its entry; a timer sends what its message owes; a region takes its next generation as its VALID is cleared. -/
theorem remoteRequestsAndAnswers : Obligations.RemoteRequestsAndAnswers := by
  unfold Obligations.RemoteRequestsAndAnswers
  refine ⟨?putData, ?putNotify, ?getReq, ?atomicReq, ?getResp, ?atomicResp, ?sack, ?sackDelay, ?retransmit, ?invalidate⟩
  case putData =>
    intro s st sl f a arrives admits lets func host bypass some_ few within writable quiet settled
    exact State.putData_places arrives admits lets func host bypass some_ few within writable quiet settled
  case putNotify =>
    intro s st sl rkey n a c arrives free admits key lets queue listed slice ready writable resident none_ room
    obtain ⟨t, runs, arrived, written, b, built, sacks⟩ := State.putNotify_writes arrives free admits key lets queue listed slice ready writable
      resident none_ room
    obtain ⟨echo, ext⟩ := sacks.ext
    refine ⟨t, runs, arrived, written, b, built, sacks.cmd, sacks.msgId, sacks.dstNode, ?_⟩
    rw [ext]
    exact fldN_sack_status .ok echo (by decide)
  case getReq =>
    intro s st sl len a arrives admits length most free lets bypass some_ within quiet settled
    exact State.getReq_answers arrives admits length most free lets bypass some_ within quiet settled
  case atomicReq =>
    intro s st sl size a arrives admits sized free alone lets aligned known operands bypass
    obtain ⟨t, runs, arrived, atomics, reads⟩ := State.atomicReq_reads arrives admits sized free alone lets aligned known operands bypass
    exact ⟨t, runs, arrived, s.atomicOf a sl size, atomics, rfl, rfl, rfl, rfl, rfl, rfl, reads⟩
  case getResp =>
    intro s st a p m o arrives names piece fresh one only rop pair all sound
    obtain ⟨t, runs, arrived, gone⟩ := State.getResp_ends arrives names piece fresh one (.of_answered names only rop pair all sound)
    exact ⟨t, runs, arrived, gone.entry, gone.op⟩
  case atomicResp =>
    intro s st a p m o arrives names fresh one only rop pair all sound
    obtain ⟨t, runs, arrived, gone⟩ := State.atomicResp_ends arrives names (.of_answered names only rop pair all sound)
    exact ⟨t, runs, arrived, gone.entry, gone.op⟩
  case sack =>
    intro s st a p m o arrives free names whole fresh only rop pair all sound
    obtain ⟨t, runs, arrived, gone⟩ := State.sack_ends arrives free names whole fresh (.of_answered names only rop pair all sound)
    exact ⟨t, runs, arrived, gone.entry, gone.op⟩
  case sackDelay =>
    intro s pr num p x peer tracker owed
    obtain ⟨t, runs, b, built, sacks⟩ := State.sackDelay_sends peer tracker owed
    exact ⟨t, runs, b, built, sacks.cmd, sacks.dstNode, sacks.msgId⟩
  case retransmit =>
    intro s pr num p m o w e peer only own sent none_ kind tries rop pair key shaped entry inline
    obtain ⟨t, runs, ⟨b, data, built, requests⟩, held⟩ := State.retransmit_again peer only own sent none_ kind tries rop pair key shaped entry inline
    have put : (m.dueAgain s.uptime).sentAgain.kind = .put := kind
    refine ⟨t, runs, ⟨b, built, ?_, ?_, ?_⟩, _, held, rfl, rfl, rfl⟩
    · rw [requests.cmd, put]
      rfl
    · rw [requests.msgId, ← own]
      rfl
    · rw [requests.dstNode, pair]
  case invalidate =>
    intro s q role n v x command accepted was rising quiet
    obtain ⟨t, runs, held⟩ := State.region_invalidated command accepted was rising quiet
    refine ⟨t, runs, ?_, ?_⟩
    · rw [held, command]
      exact bit_region_invalid ..
    · rw [held]
      exact fldN_setFld_mod _ _ (by decide) (by decide)

end Sys2Proof.Machine
end
